-- ==== Sys2Proof/Word.lean ====
section
/-! DEFINITION. Word types: the widths the manual gives its registers and record fields (R18, R19, R57). -/

namespace Sys2Proof

/-- One byte of a descriptor, record, image or data buffer. -/
abbrev Byte := BitVec 8
/-- A 16-bit field. -/
abbrev Half := BitVec 16
/-- A setup-window register or a 32-bit field (R57). -/
abbrev Word := BitVec 32
/-- A 64-bit field (frequencies, addresses, identities). -/
abbrev Dword := BitVec 64

end Sys2Proof
end

