-- ==== Sys2Proof/Syntax.lean ====
section
/-! DEFINITION. The commands of the block: operand types and the one inductive Instr, a constructor per row of
spec/opcode_table.json. Numbers that the hardware fixes (channels, ports, rings, lanes, rails, phases, loops, engines, links)
are Fin types, so that no command names a thing the part does not have. Values that come from the air, a supply, a sensor or
the host's memory are operands of the command that brings them in. -/

namespace Sys2Proof

/-- Direction of a channel (R29 word 0 bit 6). -/
inductive Dir where
  | dl
  | ul
  deriving DecidableEq, Repr, Inhabited

/-- The two kinds of epoch of a channel direction (R37). -/
inductive EpochKind where
  | config
  | gain
  deriving DecidableEq, Repr

/-- A command descriptor as the device holds it (R76). ring: 0-15 CMDQ0-CMDQ15, 16-19 the desk queues of Lodger cores 0-3
(R587), 20 the queue of the compatibility logic (R658), 21 the Innkeeper's replay (R590). data is what a read of the data buffer
in host memory (or, for a desk call, at the Lodger address) answers and readOk says whether every part of it is answered (R108). -/
structure Desc where
  ring : Fin 22
  opcode : Half
  tag : Half
  flags : Half
  timeoutMs : Half
  effCount : Word
  dataLen : Word
  dataAddr : Dword
  params : BitVec 320
  data : List Byte
  readOk : Bool
  deriving DecidableEq, Repr, Inhabited

/-- What resets the host interface (R109). -/
inductive HostResetKind where
  | perst
  | linkLoss
  | hotReset
  | flr
  deriving DecidableEq, Repr

/-- Where a register access of the host goes: an offset of the setup window (R56) or of the doorbell window (R74), a double word of the configuration
header (R60, R61), the power-management control and status register, the MSI-X message control, or the AER uncorrectable error status (R59). -/
inductive RegAddr where
  | setup (offset : Half)
  | doorbell (offset : Half)
  | header (dword : Fin 16)
  | power
  | msixControl
  | aer
  deriving DecidableEq, Repr

/-- A complex sample, 16-bit two's complement I and Q (R18). -/
structure Sample where
  i : BitVec 16
  q : BitVec 16
  deriving DecidableEq, Repr, Inhabited

/-- Filters of the receive and transmit chains (R136). -/
inductive ChainFilter where
  | third
  | halfBand
  | channel
  deriving DecidableEq, Repr

/-- The self-timed units that take a block (R40, R284). -/
inductive KernelUnit where
  | cancel
  | probe
  | shape
  | gain
  | detect
  | measure
  | relay
  deriving DecidableEq, Repr

/-- A block at the synthesiser: the port it is for, and the waybill bits upset since GAIN (all zero in correct operation, R32). -/
structure ArrivedBlock where
  port : Fin 8
  upset : BitVec 128
  deriving DecidableEq, Repr

/-- What a unit meets when it takes a block: the waybill bits upset since the last unit (all zero in correct operation, R32) and the
busy time of its engine in REFCLK_IN cycles (R293). The engine is that of the segment, or one that runs the segment in shadow (R300, R307); differs holds
the bits in which the first word of a shadow engine's output differs from the live output's: all zero while both engines are sound. -/
structure BlockFound where
  upset : BitVec 128
  engine : Fin 256
  busy : Nat
  differs : BitVec 32
  deriving DecidableEq, Repr

/-- What a thermal sample and the meters bring to a slow tick: raw readings of TS0-TS23 (1/64 degree C), the ratio that each external input
measures in 10^-6 (R464) and the aging request of each wing in mV (R486). -/
structure SlowMeas where
  temps : Vector Int 24
  ratios : Vector Nat 8
  wingAging : Vector Nat 16
  deriving DecidableEq, Repr

/-- What sender and receiver latched for one link and class at a census (R52, R53). -/
structure CensusLatch where
  sent : Nat
  received : Nat
  held : Nat
  free : Nat
  deriving DecidableEq, Repr

/-- The object of a reduction record (R254 step 1). -/
inductive ReductionObject where
  | direction (c : Fin 64) (d : Dir)
  | port (p : Fin 8)
  deriving DecidableEq, Repr

/-- The frame sources that report frame starts (R329). -/
inductive SyncSource where
  | donor
  | twin
  | fabric
  deriving DecidableEq, Repr

/-- What the VRC samples in a switching cycle (R419): the sensed voltage in mV, and each phase's current in 10 mA at the start, the centre and the end of
its on-time. -/
structure RailMeas where
  sensedMv : Nat
  atStart : Vector Int 16
  atCentre : Vector Int 16
  atEnd : Vector Int 16
  deriving DecidableEq, Repr

/-- The light-load modes (R427). -/
inductive LadderMode where
  | ccm
  | de
  | burst
  deriving DecidableEq, Repr, Inhabited

/-- A fault event on its way to the collector: source, object (R508) and source detail bytes 16-23 of its record (R517). -/
structure FaultEvt where
  src : Fin 512
  obj : Half
  detail : Dword
  deriving DecidableEq, Repr

/-- The straps the supply island samples (R562). -/
structure Straps where
  mode : BitVec 2
  bootv : BitVec 3
  devid : BitVec 4
  twinSel : Bool
  deriving DecidableEq, Repr, Inhabited

/-- An event record for an event ring (R99), less what the ring gives it when it is written (phase, recorded, lost, sequence). -/
structure EventRec where
  code : Half
  severity : Nat
  source : Half
  count : Word
  payload : List Byte
  deriving DecidableEq, Repr, Inhabited

/-- An entry for the Guestbook's intake (R526, R537): class, severity, source, code, SIMUL, payload, its event time (operating
time, set for the collector's events, R534), whether it is the collector's, and the ring events it posts when it is taken. -/
structure GbEntry where
  cls : Fin 9
  severity : Nat
  source : Half
  code : Half
  simul : Bool
  late : Bool
  payload : List Byte
  timeUs : Nat
  events : List EventRec
  deriving DecidableEq, Repr, Inhabited

/-- The kinds of OBX frame (R606). -/
inductive ObxKind where
  | idle
  | block
  | control
  | mirror
  | census
  | timing
  deriving DecidableEq, Repr

/-- Adaptive state of a direction that the owner of a pair copies to its standby (R638 step 4): the taps of the 16 paths, the margin estimates,
S, K and the state of the stability machine, and the regulators of the gain. -/
structure AdaptiveCopy where
  chan : Fin 64
  dir : Dir
  taps : List (List (Int × Int))
  aRaw : Int
  aRes : Int
  level : Int
  s : Int
  k : Int
  state : Nat
  aAlc : Int
  u : Int
  aSq : Int
  deriving DecidableEq, Repr, Inhabited

/-- What a TC2 CONTROL frame says; the manual names these uses (R151, R615, R618, R621, R623, R633, R636, R638,
R639; log entry 161). -/
inductive ControlMsg where
  | none
  | heartbeat
  | reclaimReport (lastAccepted : BitVec 12)
  | heldSlots (held : Vector Nat 4)
  | stability (c : Fin 64) (d : Dir) (s k : Int) (state : Nat)
  | onset (c : Fin 64) (d : Dir)
  | onsetAck (c : Fin 64) (d : Dir)
  | splitMute (c : Fin 64) (d : Dir)
  | splitCal (c : Fin 64) (d : Dir) (cal : Vector Int 4)
  | handover (x : Word) (cause : Nat)
  | handoverAck
  | loopMirror (l : Fin 192) (u : BitVec 16)
  | syncDone (beta : Word) (compared : Nat)
  | wingSteps (steps : Vector Nat 16)
  | change (d : Desc) (applyAt : Word)
  | adaptive (a : AdaptiveCopy)
  | loopStore (l : Fin 192) (store : List Int)
  | syncStart (beta : Int) (mode : Nat) (rules : List Byte) (catalogue patch : Word)
  | syncRefused
  | pairLost (cause : Nat)
  | topology (a : Fin 16) (near : List (Fin 16 × Int))
  | channelAsk (c : Fin 64) (definition : List Byte)
  | channelAnswer (c : Fin 64) (status detail : Nat)
  | channelDrop (c : Fin 64)
  | channelLeft (c : Fin 64) (d : Dir)
  | channelGone (c : Fin 64)
  deriving DecidableEq, Repr

/-- A mirror record (R634). -/
structure MirrorRec where
  wb0 : Word
  wb1 : Word
  applied : Half
  crc : Word
  deriving DecidableEq, Repr

/-- A link frame (R605): traffic class, kind, destination, source, hops, returned billets and their class, link
sequence, acknowledged sequence with its valid bit, NAK, whether its CRC-32 holds, and what it carries: a block's waybill and samples,
a control message, mirror records, or the blocks sent per class since the previous token. -/
structure ObxFrame where
  tc : Fin 4
  kind : ObxKind
  dst : Fin 16
  src : Fin 16
  hops : Nat
  retClass : Fin 4
  returned : Nat
  seq : BitVec 12
  ackSeq : BitVec 12
  ackValid : Bool
  nak : Bool
  crcOk : Bool
  waybill : BitVec 128
  samples : List Sample
  msg : ControlMsg
  mirrors : List MirrorRec
  sent : Vector Nat 4
  deriving DecidableEq, Repr

/-- One exchange of TIMING frames (R606, R613), in REFCLK_IN cycles: this end's count as it sent its frame, the neighbour's count as that frame arrived,
the neighbour's count as it sent its own, this end's count as that one arrived. -/
structure TimingExchange where
  sent : Nat
  arrivedThere : Nat
  sentThere : Nat
  arrived : Nat
  deriving DecidableEq, Repr

/-- What link training finds (R613): the lanes that trained, the neighbour's address, the exchanges of TIMING frames. -/
structure TrainResult where
  lanes : BitVec 4
  neighbour : Fin 16
  exchanges : List TimingExchange
  deriving DecidableEq, Repr

/-- JTAG instructions (R703, R704). -/
inductive TapInstr where
  | bypass
  | idcode
  | sample
  | extest
  | extestPulse
  | extestTrain
  | clamp
  | testLogicReset
  deriving DecidableEq, Repr, Inhabited

/-- The commands the block takes: one constructor per row of spec/opcode_table.json, in its order. -/
inductive Instr where
  /-- NOP (R116): No-operation command; with barrier set it acts as a fence. -/
  | nop (d : Desc)
  /-- CANCEL (R95): Cancels a target command chosen by ring and tag; the outcome is decided at the target's next step boundary. -/
  | cancel (d : Desc)
  /-- TIME_QUERY (R118): Samples the frame-timer count, operating time and wall clock together. -/
  | timeQuery (d : Desc)
  /-- DEVICE_INFO (R598): Returns identity, mode, straps, power state and House Rules generation. -/
  | deviceInfo (d : Desc)
  /-- POWER_STATE_SET (R575): Moves the device between ACTIVE, QUIET and SLEEP, or sets the auto-sleep policy. -/
  | powerStateSet (d : Desc)
  /-- ORDERLY_STOP (R570): Stops every port and the PA rails, leaving the device in STOPPED with reason HOST. -/
  | orderlyStop (d : Desc)
  /-- RESTART (R572): Restarts the stopped rails, releases the port stops and returns the device to ACTIVE. -/
  | restart (d : Desc)
  /-- DEVICE_RESET (R598): Posts DONE and schedules a device reset 1 ms later. -/
  | deviceReset (d : Desc)
  /-- CONFIG_SAVE (R589): Writes the accepted configuration to the calibration store as the saved configuration. -/
  | configSave (d : Desc)
  /-- LINK_CONFIGURE (R161): Brings up JESD204C receive and transmit groups and completes when they are ALIGNED and ACTIVE. -/
  | linkConfigure (d : Desc)
  /-- LINK_STATUS (R162): Returns the link states, the SYSREF status and the CRC error totals. -/
  | linkStatus (d : Desc)
  /-- STREAM_CONFIGURE (R160): Sets the rate, centres and inversion of port streams, or unconfigures them. -/
  | streamConfigure (d : Desc)
  /-- CHANNEL_CREATE (R150): Checks a channel definition, reserves resources and starts the channel's directions. -/
  | channelCreate (d : Desc)
  /-- CHANNEL_MODIFY (R153): Changes the modifiable fields of a channel under new configuration epochs. -/
  | channelModify (d : Desc)
  /-- CHANNEL_REMOVE (R157): Removes a channel at the next deadline and counts its in-flight blocks as drops. -/
  | channelRemove (d : Desc)
  /-- CHANNEL_STATUS (R166): Writes a channel's state and per-direction counters into the data buffer. -/
  | channelStatus (d : Desc)
  /-- CHANNEL_MUTE (R167): Sets or clears the host mute of channel directions under a gain epoch. -/
  | channelMute (d : Desc)
  /-- PEAK_LIMIT_SET (R168): Configures a transmit stream's composite peak limiter. -/
  | peakLimitSet (d : Desc)
  /-- CANCEL_CONFIGURE (R212): Sets taps and adaptation parameters on coupling paths under a configuration epoch. -/
  | cancelConfigure (d : Desc)
  /-- CANCEL_RESET (R213): Zeroes the taps of the named paths at the epoch block. -/
  | cancelReset (d : Desc)
  /-- CANCEL_READ_TAPS (R214): Copies one path's taps from a single update into the data buffer. -/
  | cancelReadTaps (d : Desc)
  /-- ISOLATION_MEASURE (R215): Runs an open-loop or in-service isolation measurement on a direction. -/
  | isolationMeasure (d : Desc)
  /-- MARGIN_READ (R216): Returns the margin-meter estimates, K and S of a direction. -/
  | marginRead (d : Desc)
  /-- MARGIN_SET (R217): Sets the required margin and the stability parameters under a gain epoch. -/
  | marginSet (d : Desc)
  /-- STABILITY_STATUS (R218): Returns the stability states of a channel's directions. -/
  | stabilityStatus (d : Desc)
  /-- PROBE_CONFIGURE (R219): Sets the pilot level range and the integration window under a configuration epoch. -/
  | probeConfigure (d : Desc)
  /-- GAIN_SET (R269): Sets the gain targets of a channel, clamped to House Rules, under gain epochs. -/
  | gainSet (d : Desc)
  /-- ALC_CONFIGURE (R270): Sets the ALC and plausibility parameters of a direction. -/
  | alcConfigure (d : Desc)
  /-- POWER_LIMIT_SET (R271): Sets per-channel or per-port power limits and port calibrations. -/
  | powerLimitSet (d : Desc)
  /-- UL_COUPLING_SET (R272): Sets the host uplink coupling formula and the reference channel. -/
  | ulCouplingSet (d : Desc)
  /-- SQUELCH_CONFIGURE (R273): Sets the uplink squelch parameters. -/
  | squelchConfigure (d : Desc)
  /-- DONOR_LOSS_CONFIGURE (R274): Sets the donor-loss rule, clamped under House Rules. -/
  | donorLossConfigure (d : Desc)
  /-- THRESHOLD_CONFIGURE (R275): Sets the noise-floor threshold or escalation-ladder parameters. -/
  | thresholdConfigure (d : Desc)
  /-- PROTECTION_STATUS (R276): Writes the protection state of a channel or port into the data buffer. -/
  | protectionStatus (d : Desc)
  /-- PROTECTION_RELEASE (R277): Releases named latched protective reasons on a direction or port. -/
  | protectionRelease (d : Desc)
  /-- ASSIGNMENT_CREATE (R315): Builds a standalone DETECT assignment. -/
  | assignmentCreate (d : Desc)
  /-- ASSIGNMENT_MODIFY (R316): Replaces a kernel's parameters, wing mask or version. -/
  | assignmentModify (d : Desc)
  /-- ASSIGNMENT_RELEASE (R317): Releases a standalone assignment. -/
  | assignmentRelease (d : Desc)
  /-- MIGRATE (R318): Migrates a segment or instance to another engine through shadow agreement. -/
  | migrate (d : Desc)
  /-- ENGINE_STATUS (R319): Returns engine, wing or assignment status. -/
  | engineStatus (d : Desc)
  /-- PLACEMENT_POLICY_SET (R320): Sets the placement-loop policy from the next slow tick. -/
  | placementPolicySet (d : Desc)
  /-- SPARE_SET (R321): Designates spare engines in a wing. -/
  | spareSet (d : Desc)
  /-- KERNEL_CATALOGUE_LOAD (R313): Verifies and stages a signed kernel catalogue and optionally upgrades every segment. -/
  | kernelCatalogueLoad (d : Desc)
  /-- CAPACITY_QUERY (R323): Plans a channel definition against the pool without building it. -/
  | capacityQuery (d : Desc)
  /-- FRAME_SYNC_CONFIGURE (R362): Names the frame-timer sources and holdover parameters. -/
  | frameSyncConfigure (d : Desc)
  /-- TDD_PATTERN_SET (R363): Defines or clears a TDD pattern slot, refused above House Rules duty. -/
  | tddPatternSet (d : Desc)
  /-- FRAME_STATUS (R364): Returns the frame-timer state, origin and errors. -/
  | frameStatus (d : Desc)
  /-- FE_PIN_CONFIGURE (R365): Sets an FE_CTL pin's role, port, level and offsets from the next frame start. -/
  | fePinConfigure (d : Desc)
  /-- SERIAL_QUEUE_LOAD (R366): Appends, replaces or flushes a serial master's trigger queue, or sets its clock and mode. -/
  | serialQueueLoad (d : Desc)
  /-- LO_PLAN_WRITE (R367): Writes or erases a synthesiser plan. -/
  | loPlanWrite (d : Desc)
  /-- LO_TUNE (R368): Retunes a synthesiser to a plan and completes at lock. -/
  | loTune (d : Desc)
  /-- LO_CALIBRATE (R369): Calibrates or verifies a range of plans. -/
  | loCalibrate (d : Desc)
  /-- LO_STATUS (R370): Returns a synthesiser's lock and calibration status. -/
  | loStatus (d : Desc)
  /-- TX_ENABLE (R347): Enables or disables transmission on a port, waiting for LO lock when enabling. -/
  | txEnable (d : Desc)
  /-- SURVEY_CONFIGURE (R372): Sets the survey hopping schedule and duty. -/
  | surveyConfigure (d : Desc)
  /-- SURVEY_READ (R373): Writes the survey results into the data buffer. -/
  | surveyRead (d : Desc)
  /-- COEX_CONFIGURE (R374): Configures a coexistence interface. -/
  | coexConfigure (d : Desc)
  /-- LOOP_CONFIGURE (R407): Defines, starts, stops or removes a loop, or sets its supervision. -/
  | loopConfigure (d : Desc)
  /-- LOOP_COEFF_LOAD (R392): Loads the inactive coefficient set of a loop mode slot. -/
  | loopCoeffLoad (d : Desc)
  /-- LOOP_SWAP (R393): Swaps coefficient sets at the loop's next tick with back-calculation. -/
  | loopSwap (d : Desc)
  /-- LOOP_MODE_SET (R398): Hands a loop over from the running mode to another slot across a window. -/
  | loopModeSet (d : Desc)
  /-- LOOP_STATUS (R411): Returns a loop's state and supervision. -/
  | loopStatus (d : Desc)
  /-- REPETITIVE_CONFIGURE (R412): Sets the parameters of a repetitive loop and allocates its store. -/
  | repetitiveConfigure (d : Desc)
  /-- REPETITIVE_RESET (R413): Clears a repetitive loop's store at the next period start. -/
  | repetitiveReset (d : Desc)
  /-- RAIL_CONFIGURE (R455): Sets a rail's phase plan, limits and loop wiring. -/
  | railConfigure (d : Desc)
  /-- RAIL_SET_VOLTAGE (R423): Slews a regulating rail's reference to a new target. -/
  | railSetVoltage (d : Desc)
  /-- RAIL_START (R434): Soft-starts a rail and its followers. -/
  | railStart (d : Desc)
  /-- RAIL_STOP (R457): Stops a rail and its followers at the stop rate. -/
  | railStop (d : Desc)
  /-- RAIL_STATUS (R458): Returns a rail's state, mode, voltage, current and capacity. -/
  | railStatus (d : Desc)
  /-- TRACKING_SET (R459): Joins a follower rail to a master, or removes it from the group. -/
  | trackingSet (d : Desc)
  /-- CORE_AVS_CONFIGURE (R460): Sets the SUP0 adaptive-voltage parameters. -/
  | coreAvsConfigure (d : Desc)
  /-- THERMAL_CONFIGURE (R489): Sets thermal thresholds, slope and throttle parameters. -/
  | thermalConfigure (d : Desc)
  /-- THERMAL_STATUS (R490): Writes every sensor's temperature and throttle into the data buffer. -/
  | thermalStatus (d : Desc)
  /-- SENSOR_MAP_SET (R491): Sets an external thermistor's model and port mapping. -/
  | sensorMapSet (d : Desc)
  /-- LIFE_READ (R492): Returns the current wear and aging figures. -/
  | lifeRead (d : Desc)
  /-- FAULT_STATUS (R521): Returns the fault summary or one source's state. -/
  | faultStatus (d : Desc)
  /-- REACTION_SET (R522): Sets a source's reaction masks, subject to the protected floors. -/
  | reactionSet (d : Desc)
  /-- FAULT_RELEASE (R524): Releases a PARKED source, or all of them, at the next fault tick. -/
  | faultRelease (d : Desc)
  /-- FAULT_PARAMS_SET (R523): Sets a source's counting windows, ceiling, quiet period and recovery limit. -/
  | faultParamsSet (d : Desc)
  /-- GB_READ (R556): Copies Guestbook records in sequence order into the data buffer. -/
  | gbRead (d : Desc)
  /-- GB_TAIL_STATUS (R557): Returns the tail record's state and generation. -/
  | gbTailStatus (d : Desc)
  /-- GB_CLEAR_CHALLENGE (R551): Issues a fresh nonce for a Guestbook clear. -/
  | gbClearChallenge (d : Desc)
  /-- GB_CLEAR (R554): Checks a signed clear block and clears the general ring below a boundary. -/
  | gbClear (d : Desc)
  /-- GB_APPEND (R558): Stages a host note as an OPERATION or TRACE record. -/
  | gbAppend (d : Desc)
  /-- WALL_CLOCK_SET (R536): Sets the wall clock and writes a CALENDAR record. -/
  | wallClockSet (d : Desc)
  /-- HR_READ (R599): Reads a House Rules generation image. -/
  | hrRead (d : Desc)
  /-- HR_AMEND_CHALLENGE (R593): Issues a fresh nonce for a House Rules amendment. -/
  | hrAmendChallenge (d : Desc)
  /-- HR_AMEND (R713): Checks and programs a new House Rules generation, then re-gates the settings in force. -/
  | hrAmend (d : Desc)
  /-- HR_LOCK (R595): Programs the House Rules lock fuses. -/
  | hrLock (d : Desc)
  /-- PATCH_LOAD (R582): Writes a signed Innkeeper patch into the inactive slot and optionally activates it. -/
  | patchLoad (d : Desc)
  /-- LODGER_LOAD (R585): Loads a Lodger image into a core, optionally storing it in flash. -/
  | lodgerLoad (d : Desc)
  /-- LODGER_START (R586): Starts a loaded Lodger core. -/
  | lodgerStart (d : Desc)
  /-- LODGER_STOP (R586): Stops a Lodger core. -/
  | lodgerStop (d : Desc)
  /-- IDENTITY_READ (R596): Returns the device identity, public key and certificate. -/
  | identityRead (d : Desc)
  /-- ATTEST (R600): Writes a signed attestation block over a nonce. -/
  | attest (d : Desc)
  /-- FABRIC_DISCOVER (R615): Trains OBX ports, elects a coordinator and installs route tables. -/
  | fabricDiscover (d : Desc)
  /-- FABRIC_STATUS (R645): Returns the fabric summary or a link's status. -/
  | fabricStatus (d : Desc)
  /-- ROUTE_SET (R617): Sets or restores one route-table entry. -/
  | routeSet (d : Desc)
  /-- BILLET_SET (R620): Changes a link's per-class billet totals at a census token. -/
  | billetSet (d : Desc)
  /-- LINK_RECLAIM (R621): Takes a link DOWN and runs the reclaim procedure. -/
  | linkReclaim (d : Desc)
  /-- TWIN_CONFIGURE (R645): Sets the twin parameters on both devices. -/
  | twinConfigure (d : Desc)
  /-- TWIN_SYNC (R638): Brings the standby into lockstep with the owner. -/
  | twinSync (d : Desc)
  /-- TWIN_HANDOVER (R639): Orders a planned hand-over at a block boundary X. -/
  | twinHandover (d : Desc)
  /-- TWIN_STATUS (R645): Returns the twin role, state and pin levels. -/
  | twinStatus (d : Desc)
  /-- CAPTURE_START (R119): Arms a capture session on a tap into a capture ring. -/
  | captureStart (d : Desc)
  /-- CAPTURE_STOP (R120): Ends a capture session after the entry in progress. -/
  | captureStop (d : Desc)
  /-- CAPTURE_STATUS (R121): Returns a capture session's state and counts. -/
  | captureStatus (d : Desc)
  /-- DESK_FAULT_EVENT (R588): Desk call raising one event of a LODGER_SOURCE. -/
  | deskFaultEvent (d : Desc)
  /-- DESK_WATCHDOG (R588): Desk call setting or kicking a Lodger watchdog. -/
  | deskWatchdog (d : Desc)
  /-- DESK_HOST_MESSAGE (R588): Desk call posting LODGER_MESSAGE on EVQ1. -/
  | deskHostMessage (d : Desc)
  /-- DESK_RETAIN (R588): Desk call copying to or from the Lodger retained area. -/
  | deskRetain (d : Desc)
  /-- DESK_DENIED (R588): A desk call outside the permitted set is refused and raises DESK_VIOLATION. -/
  | deskDenied (d : Desc)
  /-- CMDQ_DOORBELL (R75): Host writes a command ring's new producer index. -/
  | cmdqDoorbell (q : Fin 16) (value : Word)
  /-- CONSUMER_DOORBELL (R104): Host writes a device-written ring's consumer index, freeing entries and re-arming its interrupt. -/
  | consumerDoorbell (r : Fin 26) (value : Word)
  /-- DESCRIPTOR_FETCH (R75): A command descriptor read from host memory completes. -/
  | descriptorFetch (q : Fin 16) (answer : Option Desc)
  /-- STEP_GRANT (R88): At a step boundary the command processor grants the next step to a ready ring. -/
  | stepGrant
  /-- COMMAND_TIMEOUT (R91): A command's timeout expires and it completes TIMEOUT at the next step boundary. -/
  | commandTimeout (q : Fin 22)
  /-- RING_AGING (R89): A ready ring starved for HIF_AGING is promoted to priority 0. -/
  | ringAging (q : Fin 22)
  /-- HARDWARE_WAIT_DONE (R90): A hardware wait of a stepped command (lock, measurement) ends and the command becomes ready. -/
  | hardwareWaitDone (q : Fin 22) (results : List Int)
  /-- EPOCH_RETIRE (R41): The first block of a new epoch leaves the synthesiser, retiring the epoch and posting the completion. -/
  | epochRetire (c : Fin 64) (d : Dir) (k : EpochKind)
  /-- RECORD_SPACE (R94): Waiting completion records are posted when their completion ring gains space. -/
  | recordSpace (r : Fin 16)
  /-- COALESCE_TIMEOUT (R104): The oldest unconsumed entry reaches coalesce_time_us and the ring raises its vector. -/
  | coalesceTimeout (r : Fin 26)
  /-- RING_ENABLE (R71): Writing enable 1 resets a ring's indices and makes it ACTIVE. -/
  | ringEnable (r : Fin 42) (cfg : Word)
  /-- RING_DISABLE (R72): Writing enable 0 drains a command ring or disables a device-written ring. -/
  | ringDisable (r : Fin 42) (cfg : Word)
  /-- HIF_ENABLE (R106): Writing HIF_CTRL.enable starts or halts command fetching. -/
  | hifEnable (value : Word)
  /-- BUS_MASTER_OFF (R107): Clearing Bus Master Enable puts active rings in ERROR. -/
  | busMasterOff
  /-- HOST_INTERFACE_RESET (R110): PERST_N, link loss, hot reset or FLR resets the host interface only. -/
  | hostInterfaceReset (kind : HostResetKind)
  /-- CAPTURE_SESSION_BEGIN (R119): An armed capture session starts at its start count or frame start. -/
  | captureSessionBegin (q : Fin 8)
  /-- SYSREF_ARM (R129): Writing JES_SYSREF_CFG.arm arms SYSREF capture. -/
  | sysrefArm (value : Word)
  /-- CLEAR_LOW_WATER (R56): Writing SYS_POOL_STATUS.clear_low_water resets the low-water mark. -/
  | clearLowWater (value : Word)
  /-- SYS_RESET (R561): Writing the SYS_RESET key with go set causes a device reset. -/
  | sysReset (value : Word)
  /-- FIRST_FAULT_CLEAR (R515): Clearing FLT_STATUS.first_valid re-arms the first-fault register. -/
  | firstFaultClear (value : Word)
  /-- REGISTER_WRITE (R23): A write to a register field with no behaviour of its own, under its access code. -/
  | registerWrite (at_ : RegAddr) (value : Word) (byteEnables : BitVec 4)
  /-- SYSREF_EDGE (R129): A SYSREF edge sets the LEMC phase when armed or is checked in monitor mode. -/
  | sysrefEdge (phase : Fin 8)
  /-- JESD_LANE_LOCK_CHANGE (R125): Sync-header or multiblock lock on a lane is gained or lost, moving the group's state. -/
  | jesdLaneLockChange (lane : Fin 18) (syncHeader multiblock : Bool) (skewBlocks : Nat)
  /-- RECEIVE_MULTIBLOCK (R128): A receive edge checks a multiblock's CRC-12 and releases it as stream segments. -/
  | receiveMultiblock (stream : Fin 9) (crcOk0 crcOk1 : Bool) (first second : List Sample)
  /-- BLOCK_PROCESS (R40): A self-timed unit or kernel takes a waybilled block and processes it under its epochs. -/
  | blockProcess (c : Fin 64) (d : Dir) (u : KernelUnit) (port : Fin 8) (found : BlockFound)
  /-- OSCILLATION_MUTE (R199): The criterion persists for 200 µs of first_count and the direction is muted. -/
  | oscillationMute (c : Fin 64) (d : Dir) (firstCount : Word)
  /-- BLOCK_ARRIVAL (R45): A processed block reaches the synthesiser before or after its deadline. -/
  | blockArrival (c : Fin 64) (d : Dir) (arrived : ArrivedBlock)
  /-- BLOCK_DEADLINE (R45): A block's deadline wins its arbitration and a muted late block is used. -/
  | blockDeadline (c : Fin 64) (d : Dir)
  /-- TRANSMIT_SEGMENT_DUE (R28): A transmit elastic buffer emits a segment, or zeros on underrun. -/
  | transmitSegmentDue (stream : Fin 8) (ready : Bool)
  /-- SLOW_TICK (R193): The 1 kHz slow tick recomputes clamps, advances stability states, runs placement and thermal sampling. -/
  | slowTick (m : SlowMeas)
  /-- CENSUS_TOKEN_ARRIVAL (R53): A census token reaches its receiver and the audit compares totals. -/
  | censusTokenArrival (link : Fin 6) (cls : Fin 4) (sent : Nat)
  /-- ALC_TICK (R234): Every 125 µs the ALC, composite regulators and gain supervision update. -/
  | alcTick (n : Nat)
  /-- IMPLAUSIBLE_MUTE (R240): A disagreement persisting a further 100 ms mutes the direction. -/
  | implausibleMute (c : Fin 64) (d : Dir)
  /-- DONOR_UPDATE (R242): Every 10 ms the donor level and uplink ceiling are re-evaluated. -/
  | donorUpdate (n : Nat)
  /-- COUPLING_RELEASE (R245): U held at 1 dB or above for 1 s ends the coupling mute. -/
  | couplingRelease (c : Fin 64)
  /-- DONOR_LOSS_MUTE (R250): The donor absent for absent_ms mutes the UL direction. -/
  | donorLossMute (c : Fin 64)
  /-- DONOR_RETURN (R250): The donor present for return_ms ends the donor-loss mute. -/
  | donorReturn (c : Fin 64)
  /-- FLOOR_UPDATE (R252): Every 100 ms the noise-floor estimates and thresholds update. -/
  | floorUpdate (n : Nat)
  /-- SQUELCH_HANG_EXPIRY (R247): An idle run lasts hang ms and the squelch attenuation starts to rise. -/
  | squelchHangExpiry (c : Fin 64)
  /-- OVERPOWER_MUTE (R254): The bound binds in over half the blocks for overpower_ms and the direction is muted. -/
  | overpowerMute (c : Fin 64) (d : Dir)
  /-- OVERPOWER_RETRY (R254): over_retry_s expires and an OVERPOWER mute retries. -/
  | overpowerRetry (c : Fin 64) (d : Dir)
  /-- COMPOSITE_OVER (R254): Composite power above the limit for 10 ms stops the port. -/
  | compositeOver (port : Fin 8)
  /-- PORT_RETRY (R254): port_retry_s expires and a stopped port resumes. -/
  | portRetry (port : Fin 8)
  /-- REDUCTION_ENDED (R267): A reduction term unbinding for 1 s writes REDUCTION_ENDED. -/
  | reductionEnded (obj : ReductionObject) (reason : Fin 20)
  /-- DELAY_SEARCH_END (R209): At Tw/4 the delay search ends and CANCEL starts adapting. -/
  | delaySearchEnd (c : Fin 64) (d : Dir) (w : Nat)
  /-- MEASUREMENT_END (R209): At Tw the first estimate is published and the direction leaves MUTED. -/
  | measurementEnd (c : Fin 64) (d : Dir) (inService : Bool)
  /-- MARGIN_STALE (R192): An estimate's age exceeds the stale limit. -/
  | marginStale (c : Fin 64) (d : Dir)
  /-- BACKOFF_DWELL_EXPIRY (R203): backoff_dwell passes with K ≥ S and the direction climbs. -/
  | backoffDwellExpiry (c : Fin 64) (d : Dir)
  /-- HOLD_DWELL_EXPIRY (R203): hold_dwell passes with room to climb and HOLD enters CLIMB. -/
  | holdDwellExpiry (c : Fin 64) (d : Dir)
  /-- OSC_HOLDOFF_EXPIRY (R204): osc_holdoff expires and the isolation measurement reruns. -/
  | oscHoldoffExpiry (c : Fin 64) (d : Dir)
  /-- MARGIN_LOST_RETRY (R204): 10 s after a failed measurement a MARGIN_LOST direction remeasures. -/
  | marginLostRetry (c : Fin 64) (d : Dir)
  /-- SPLIT_TC2_SILENCE (R623): No TC2 message for 10 ms lowers S on the transmit device. -/
  | splitTc2Silence (c : Fin 64) (d : Dir)
  /-- ENGINE_CHECK_FAIL (R306): An engine check failure impairs one block and hands the segment to a spare. -/
  | engineCheckFail (e : Fin 256) (eccUncorrectable : Bool) (c : Fin 64) (d : Dir) (seq : Half)
  /-- TEST_BLOCKS_END (R307): A TESTING engine completes test_blocks and becomes SPARE or RETIRED. -/
  | testBlocksEnd (e : Fin 256) (agreed : Bool)
  /-- ENGINE_SLOW_NOTICE (R294): Low slack for 256 periods sets an engine's notice flag. -/
  | engineSlowNotice (e : Fin 256)
  /-- WING_SLOW (R297): A fully credited wing stays slow and work moves off it. -/
  | wingSlow (w : Fin 16)
  /-- MIGRATION_COPY_DONE (R300): A migrating segment's state copy completes and shadow processing starts. -/
  | migrationCopyDone (e : Fin 256) (block : Half)
  /-- MIGRATION_SWITCH (R300): agree_blocks agreements switch output ownership at block q. -/
  | migrationSwitch (e : Fin 256) (q : Half)
  /-- MIGRATION_LIMIT (R303): No agreement within migrate_limit abandons the migration and starts a self-test. -/
  | migrationLimit (e : Fin 256)
  /-- SELF_TEST_DONE (R303): The target's self-test ends, retiring it or declaring the live engine suspect. -/
  | selfTestDone (e : Fin 256) (passed : Bool)
  /-- FRAME_START (R327): A frame begins, applying a slew or a pending step of the origin. -/
  | frameStart
  /-- SYNC_REPORT (R330): A DONOR or TWIN frame report arrives and drives acquisition or tracking. -/
  | syncReport (src : SyncSource) (count : Word) (phase16 : Int)
  /-- PPS_EDGE (R329): A 1PPS rising edge is captured as a frame source report. -/
  | ppsEdge (phase : Fin 8)
  /-- HOLDOVER_ENTRY (R330): loss_ms without a valid report moves the frame timer to HOLDOVER. -/
  | holdoverEntry
  /-- HOLDOVER_EXPIRY (R331): holdover_s expires and the frame timer returns to ACQUIRE. -/
  | holdoverExpiry
  /-- TDD_PATTERN_SWITCH (R338): A new TDD pattern takes effect at switch instant X. -/
  | tddPatternSwitch (slot : Fin 8)
  /-- LO_LOCK (R345): A synthesiser declares lock after 64 cycles in the window. -/
  | loLock (lo : Fin 5)
  /-- LO_LOCK_LOSS (R345): A synthesiser leaves lock, imposing an LO hold. -/
  | loLockLoss (lo : Fin 5)
  /-- TX_ENABLE_DEADLINE (R347): Lock not reached in time completes TX_ENABLE with NO_LOCK. -/
  | txEnableDeadline (port : Fin 8)
  /-- SERIAL_TRIGGER (R354): A serial-master queue entry's trigger instant arrives. -/
  | serialTrigger (m : Fin 4)
  /-- SERIAL_TRANSACTION_END (R354): A serial transaction ends and the next waiting one starts. -/
  | serialTransactionEnd (m : Fin 4) (readData : Dword)
  /-- SURVEY_DWELL_END (R356): A survey entry's dwell ends and LO4 hops to the next plan. -/
  | surveyDwellEnd (ended next : Nat)
  /-- COEX_REQ_RISE (R359): A coexistence request is sampled and the grant sequence begins. -/
  | coexReqRise (x : Fin 2) (pri : Bool)
  /-- COEX_GRANT (R359): GNT rises after the last affected sample leaves the pins. -/
  | coexGrant (x : Fin 2)
  /-- COEX_DEFER_EXPIRY (R359): max_defer_ms expires for a low-priority FDD request. -/
  | coexDeferExpiry (x : Fin 2)
  /-- COEX_REQ_FALL (R359): REQ falls, lowering GNT and ending the hold. -/
  | coexReqFall (x : Fin 2)
  /-- COEX_LIMIT (R360): grant_max_ms or the duty limit forces GNT low. -/
  | coexLimit (x : Fin 2) (byDuty : Bool)
  /-- COEX_ACT (R358): ACT changes level, suspending or resuming adaptation and measurement. -/
  | coexAct (x : Fin 2) (level : Bool)
  /-- LOOP_TICK (R388): A loop's tick arrives and it is evaluated and writes its sink. -/
  | loopTick (l : Fin 192) (stillEvaluating : Bool)
  /-- HANDOVER_WINDOW_END (R398): A mode hand-over window ends, completing or abandoning the hand-over. -/
  | handoverWindowEnd (l : Fin 192)
  /-- SWITCHING_CYCLE (R424): Each switching cycle samples the rail and checks its windows. -/
  | switchingCycle (r : Fin 10) (m : RailMeas)
  /-- RAIL_UV (R424): 1 ms below the uv window raises RAIL_UV. -/
  | railUv (r : Fin 10)
  /-- RAIL_SHORT (R435): short_time below 50 % or 64 limited cycles stop the rail group in FAULT. -/
  | railShort (r : Fin 10)
  /-- LADDER_MOVE (R427): A load condition held 64 cycles moves the rail between CCM, DE and BURST. -/
  | ladderMove (r : Fin 10) (target : LadderMode)
  /-- PHASE_OPEN (R438): 32 cycles of suspicion classify a phase and remove it. -/
  | phaseOpen (p : Fin 16)
  /-- PHASE_SENSE (R440): A ripple or range test over consecutive cycles declares a sense failure. -/
  | phaseSense (p : Fin 16)
  /-- SOFT_START_DONE (R432): The reference reaches target with power good and the rail regulates. -/
  | softStartDone (r : Fin 10)
  /-- RAIL_STOP_DONE (R431): A stopping rail's reference reaches 0 and its phases turn off. -/
  | railStopDone (r : Fin 10)
  /-- TIMEBASE_LOCK (R422): REFCLK_IN becomes valid and the PWM timebase locks to it. -/
  | timebaseLock
  /-- BOOT_RETRY (R449): 100 ms after a SUP0 boot fault the boot regulator retries. -/
  | bootRetry
  /-- CORE_RESET_RELEASE (R445): SUP0 reaches regulation and core reset is released. -/
  | coreResetRelease
  /-- THERMAL_THRESHOLD_CROSS (R466): A sensor crosses T_warn or T_stop after dwell samples. -/
  | thermalThresholdCross (sensor : Fin 32) (stop up : Bool)
  /-- SENSOR_REINSTATE (R477): 1000 plausible samples reinstate a failed sensor. -/
  | sensorReinstate (sensor : Fin 32)
  /-- THERMAL_AUTO_RESTART (R571): Die sensors below T_stop − hyst for 60 s restart a THERMAL stop. -/
  | thermalAutoRestart
  /-- CRITICAL_TRIP (R480): A Night Porter comparator trips at T_crit and cuts the device off. -/
  | criticalTrip (east : Bool)
  /-- CRITICAL_RECOVERY (R481): Both comparators below 105 °C for 1 s start a cold start. -/
  | criticalRecovery
  /-- LIFE_CHECKPOINT (R485): Life counters are checkpointed to retention every minute and to flash every hour. -/
  | lifeCheckpoint (hourly : Bool)
  /-- DAILY (R487): Every 24 operating hours a LIFE record is written. -/
  | daily
  /-- FAULT_EVENT (R499): A fault event reaches the collector and moves its source along the ladder. -/
  | faultEvent (external : List FaultEvt)
  /-- FAULT_QUIET_EXPIRY (R500): A source's quiet period passes and it returns to CLEAR or parks. -/
  | faultQuietExpiry (src : Fin 512)
  /-- VAUX_VALID (R563): VAUX becomes valid and a power-on reset begins a cold start. -/
  | vauxValid (straps : Straps)
  /-- RF_READY (R564): Every saved channel has formed block 0 and the device becomes ACTIVE. -/
  | rfReady
  /-- BROWN_OUT (R577): VAUX falls below the brown-out threshold, causing a power-on reset. -/
  | brownOut
  /-- HOLDUP_TRIP (R545): The hold-up comparator trips and the Guestbook commits staging. -/
  | holdupTrip
  /-- HOLDUP_REOPEN (R545): VAUX back above threshold for 10 ms reopens intake. -/
  | holdupReopen
  /-- SUPPLY_COMPARATOR_TRIP (R577): VIO or VSDH falls below threshold, resetting the core with phases off. -/
  | supplyComparatorTrip (vsdh : Bool)
  /-- SUPPLY_RECOVERED (R577): VIO or VSDH valid for 10 ms after a trip starts a cold start. -/
  | supplyRecovered (vsdh : Bool)
  /-- BOARD_RESET (R561): RESET_N held low resets everything except the Night Porter and staging. -/
  | boardReset
  /-- DEVICE_RESET_FIRE (R598): The device reset ordered 1 ms earlier takes effect. -/
  | deviceResetFire (straps : Straps)
  /-- WAKE_DETECT (R578): A wake receiver detects a carrier or activity in SLEEP. -/
  | wakeDetect (levels : Vector (List Int) 8)
  /-- WALL_CLOCK_ALARM (R574): The wall clock reaches NPT_ALARM. -/
  | wallClockAlarm
  /-- PERST_RELEASE (R574): PERST_N is released, a wake cause in SLEEP or the start of configuration-ready. -/
  | perstRelease
  /-- SLEEP_L2_WAIT_END (R575): The L2 handshake, PERST_N or 100 ms ends SLEEP entry and the core rail goes off. -/
  | sleepL2WaitEnd
  /-- AUTO_SLEEP (R573): All UL directions muted for DONOR_LOSS for sleep_after_s enter SLEEP. -/
  | autoSleep
  /-- INNKEEPER_WATCHDOG (R581): 100 ms without a kick restarts the Innkeeper core. -/
  | innkeeperWatchdog
  /-- INNKEEPER_RESTART_DONE (R581): The restarted Innkeeper resumes service of waiting commands. -/
  | innkeeperRestartDone
  /-- PATCH_FLOOR_RAISE (R583): A patch running one operating hour raises the patch floor. -/
  | patchFloorRaise
  /-- LODGER_WATCHDOG (R586): A Lodger watchdog expires and stops the core. -/
  | lodgerWatchdog (core : Fin 4)
  /-- LODGER_AUTORESTART (R586): 1 s after a watchdog stop an autorestart Lodger is restarted. -/
  | lodgerAutorestart (core : Fin 4)
  /-- DESK_VIOLATION (R584): A Lodger access outside its reach traps and raises DESK_VIOLATION. -/
  | deskViolation (core : Fin 4)
  /-- GB_INTAKE (R537): An event enters the Guestbook intake queue or is counted as lost. -/
  | gbIntake (entry : GbEntry)
  /-- COLLECTOR_INTAKE_TIMEOUT (R537): A collector event waits 1 µs without an entry and is counted lost. -/
  | collectorIntakeTimeout
  /-- GB_TAKE_ENTRY (R539): The Guestbook takes an entry, folding it or giving it a sequence. -/
  | gbTakeEntry
  /-- TAIL_TIMEOUT (R540): 1 s without a repeat closes the open tail. -/
  | tailTimeout
  /-- TAIL_SNAPSHOT (R543): 1 s after the previous snapshot a changed open tail is committed. -/
  | tailSnapshot
  /-- GB_COMMIT_DONE (R542): A flash program of staged records completes. -/
  | gbCommitDone
  /-- CLEAR_ERASE_DONE (R554): The background erase of a clear ends. -/
  | clearEraseDone
  /-- CHECKPOINT (R547): Every 600 s the Innkeeper writes a checkpoint entry. -/
  | checkpoint
  /-- OBX_FRAME_RECEIVE (R607): A link frame arrives, is CRC-checked, acknowledged and delivered or forwarded. -/
  | obxFrameReceive (link : Fin 5) (f : ObxFrame)
  /-- REPLAY_TIMEOUT (R607): 2 µs without an acknowledgement replays from the first unacknowledged frame. -/
  | replayTimeout (link : Fin 5)
  /-- OBX_LANE_FAILURE (R608): A lane or reference-clock failure moves the link to DEGRADED or DOWN. -/
  | obxLaneFailure (link : Fin 5) (lanes : BitVec 4) (refClockLost : Bool)
  /-- LINK_TRAINED (R613): Training ends with agreeing offsets and the link becomes ACTIVE or DEGRADED. -/
  | linkTrained (link : Fin 5) (t : TrainResult)
  /-- RECLAIM_REPORT_TIMEOUT (R621): No receiver report within 100 ms counts pending frames as dropped. -/
  | reclaimReportTimeout (link : Fin 5)
  /-- HEARTBEAT_SEND (R633): Every hb_period_us a heartbeat frame is sent. -/
  | heartbeatSend
  /-- HEARTBEAT_TIMEOUT (R633): hb_timeout_us without a heartbeat ends lockstep. -/
  | heartbeatTimeout
  /-- OWNER_ARBITRATION (R630): OWNER_IN rises while this device claims and the odd device yields. -/
  | ownerArbitration
  /-- OWNER_LOST (R640): ALIVE_IN stops or OWNER_IN falls and the standby takes over. -/
  | ownerLost (byAlive : Bool)
  /-- ALIVE_STOP (R631): A failed alive condition stops ALIVE_OUT and drops ownership outputs. -/
  | aliveStop
  /-- CLAIM_WAIT_EXPIRY (R632): OWNER_IN low for claim_wait_ms lets the odd device claim ownership. -/
  | claimWaitExpiry
  /-- HANDOVER_SWITCH (R639): At X the owner and standby exchange TXSEL and OWNER_OUT. -/
  | handoverSwitch
  /-- AUTO_RESYNC (R637): resync_holdoff_ms expires and a DETACHED pair starts syncing. -/
  | autoResync
  /-- TAP_INSTRUCTION (R704): A JTAG instruction is loaded, pin-driving ones refused while locked. -/
  | tapInstruction (i : TapInstr)
  /-- LEGACY_SPI_FRAME (R652): A compatibility SPI frame or burst reads or writes legacy registers. -/
  | legacySpiFrame (header : Half) (words : List Half) (lastWordClocks : Nat)
  /-- COMPAT_WINDOW_ACCESS (R655): A BAR 2 access reads or writes legacy registers. -/
  | compatWindowAccess (isWrite : Bool) (offset : BitVec 12) (value : Word) (byteEnables : BitVec 4)
  /-- GQ_HI_READ (R657): Reading a _HI legacy register latches its _LO partner. -/
  | gqHiRead (addr : BitVec 12)
  /-- GQ_RUN_CLEAR (R660): GQ_CTRL.run 1 to 0 host-mutes every enabled channel. -/
  | gqRunClear
  /-- GQ_RUN_SET (R660): GQ_CTRL.run 0 to 1 unmutes directions not muted by their bits. -/
  | gqRunSet
  /-- GQ_SOFT_RESET (R660): soft_reset removes every legacy channel and resets legacy registers. -/
  | gqSoftReset
  /-- GQ_CENTRE_WRITE (R660): A centre _LO write configures the D0 and S0 streams and links. -/
  | gqCentreWrite (d : Dir) (lo : Half)
  /-- CH_ENABLE_SET (R661): CHn_CTRL.enable 0 to 1 creates the legacy channel. -/
  | chEnableSet (n : Fin 16)
  /-- CH_ENABLE_CLEAR (R660): CHn_CTRL.enable 1 to 0 removes the channel. -/
  | chEnableClear (n : Fin 16)
  /-- CH_MUTE_WRITE (R660): A dl_mute or ul_mute write issues CHANNEL_MUTE. -/
  | chMuteWrite (n : Fin 16) (dlMute ulMute : Bool)
  /-- CH_BW_WRITE (R662): A bw write to an enabled channel removes and recreates it. -/
  | chBwWrite (n : Fin 16) (bw : BitVec 2)
  /-- CH_SQUELCH_WRITE (R660): A squelch write issues SQUELCH_CONFIGURE. -/
  | chSquelchWrite (n : Fin 16) (on : Bool)
  /-- CH_FREQ_WRITE (R660): A frequency _LO write to an enabled channel issues CHANNEL_MODIFY. -/
  | chFreqWrite (n : Fin 16) (d : Dir) (lo : Half)
  /-- CH_GAIN_WRITE (R660): A gain write issues GAIN_SET at 50 times the value. -/
  | chGainWrite (n : Fin 16) (d : Dir) (gain : Half)
  /-- GQ_MARGIN_WRITE (R665): A GQ_MARGIN or agl write changes the legacy ceiling from the next slow tick. -/
  | gqMarginWrite (margin : Half) (agl : Bool)
  /-- GQ_POWER_LIMIT_WRITE (R660): A legacy power-limit write issues POWER_LIMIT_SET on S0 or D0. -/
  | gqPowerLimitWrite (d : Dir) (limit : Half)
  /-- GQ_DONOR_LOSS_WRITE (R660): A GQ_DONOR_LOSS write issues DONOR_LOSS_CONFIGURE. -/
  | gqDonorLossWrite (value : Half)
  /-- CH_OSC_CLEAR (R669): Writing 1 to an osc bit releases a latched oscillation mute. -/
  | chOscClear (n : Fin 16) (d : Dir)
  /-- SAFETY_NET_RELEASE (R667): G_leg within K_w − 0.5 dB for 500 ms takes the safety net out of force. -/
  | safetyNetRelease (c : Fin 64) (d : Dir)
  /-- BOARD_RESET_END (R446): RESET_N returns high at the end of a board reset, the straps are sampled and the boot sequence of R445 runs again from step 2. -/
  | boardResetEnd (straps : Straps)
  /-- HOST_INTERFACE_RESET_END (R112): A host-interface reset ends (the data link returns or a hot reset or FLR completes) and the device becomes configuration-ready within 1 ms. -/
  | hostInterfaceResetEnd
  /-- RTC_OSCILLATOR_FAILURE (R504): The 32.768 kHz real-time clock oscillator fails, raising RTC_FAULT and clearing NPT_STATUS.rtc_ok. -/
  | rtcOscillatorFailure
  /-- HANDOVER_ACK_DEADLINE (R639): X − 16 counts pass without the standby's acknowledgement, so the owner keeps service and TWIN_HANDOVER completes REJECTED_STATE with NO_ACK. -/
  | handoverAckDeadline
  /-- COMPARATOR_ARMED (R577): VIO or VSDH first rises above its comparator threshold after power-on reset, arming comparator 2 or 3. -/
  | comparatorArmed (vsdh : Bool)
  deriving DecidableEq, Repr

end Sys2Proof
end

