-- ==== Sys2Proof/Decode.lean ====
section
/-! DEFINITION. Commands as table words. The table gives no row any bits: the block takes commands, not encoded words, so that no word
spells one. -/

namespace Sys2Proof

/-- The command that a word spells by the table's bits: none, since no row has any. -/
def decodeTableWord (_nbits _w : Nat) : Option Instr := none

end Sys2Proof
end

