-- ==== Sys2Proof/Config.lean ====
section
/-! DEFINITION. What an implementation or a part fixes, and the free values: constants without a body, so that no proof can see
what they are. Where the manual states no value, the model takes one of these (the log entries name each). -/

namespace Sys2Proof.Config

/-- Free values drawn one after another: nonces and other values the manual leaves open, indexed by State.freeCtr (log entry 4). -/
opaque freeValue : Nat → BitVec 128

/-- The 64-bit device identity in the device fuses (R596). -/
opaque deviceIdentity : BitVec 64

/-- The identity public key (X then Y, 64 bytes) and the Jallor certificate (r then s, 64 bytes) (R596). -/
opaque identityKey : List Byte
/-- See identityKey. -/
opaque certificate : List Byte

/-- Signature with the identity key over a SHA-256 digest (R600); the private key never leaves the Innkeeper. -/
opaque identitySign : List Byte → List Byte

/-- Jallor's patch key held in ROM and catalogue key (R582, R311), X then Y. -/
opaque patchKey : List Byte
/-- See patchKey. -/
opaque catalogueKey : List Byte

/-- The SHAPE filter of a class over the block before and a block: the parameter block's taps, or none for the class's own taps (R286,
log entry 6). -/
opaque shape : Nat → List Int → List Sample → List Sample → List Sample

/-- The integer that stands for an exact value v / 2^bits where the manual gives no rounding (log entry 6). -/
opaque narrow : Int → Nat → Int

/-- Words a chain filter reaches back to (R136, R137): the manual gives figures and no coefficients (log entry 159). -/
opaque filterSpan : ChainFilter → Nat

/-- Output k of a chain filter over its newest words, newest first (R136, R137; log entry 159). -/
opaque filterOut : ChainFilter → Nat → List (Int × Int) → Int × Int

/-- A word turned by a phase in units of 2^-48 of a turn (R136; log entry 159). -/
opaque rotate : BitVec 48 → Int × Int → Int × Int

/-- The limiter's next gain in 10^-8: its last 32 gains, newest first, the gains required of the 32 samples ahead, the release time in us, samples per
count. The manual gives the shapes of attack and release and no arithmetic (R139; log entry 159). -/
opaque limiterGain : List Nat → List Nat → Nat → Nat → Nat

/-- What the pilot seeds of a device start from; the manual says what they depend on and no formula (R186, log entry 167). -/
opaque pilotSalt : Nat

/-- C_pred of a path whose taps were all zero before a reduction, from its C: the share f_tail is 0/0 there (R185, log entry 165). -/
opaque predictionWithoutTaps : Int → Int

/-- The link has bandwidth left for a capture entry (R98): the manual does not say what it can carry (log entry 142). -/
opaque linkCarries : Nat → Bool

/-- Power of a bin of the survey's spectrum over 2048 samples: the manual gives no window and no grouping of its points into 256 bins (R356, log
entry 178). -/
opaque surveyBin : List Sample → Nat → Nat

/-- Current-balance trim of a phase in edge places, before its bound of 2 % of the period: the trim so far, the phase's current and the rail's average in
10 mA. The manual gives the bound and the aim, and no law (R421, log entry 180). -/
opaque balanceTrim : Int → Int → Int → Int

/-- Ten times the logarithm of zero in 0.01 dB, where a formula of the manual meets it (log entry 6). -/
opaque dbOfZero : Int

/-- Voltage of housekeeping channel 32-37 at a frame-timer count, in Q15 of 4 V (R465): no command of the table brings it (log entry 28). -/
opaque housekeeping : Nat → Nat → Int

/-- Coefficient set of the Innkeeper for LP136 and LP156: the manual gives none (R445, R450, log entry 29). -/
opaque coreCoefficients : Nat → List Int

/-- Codes that the manual names a field for and does not list (log entry 43): the number of the field in that entry and the model's own
number of the case. -/
opaque openCode : Nat → Nat → BitVec 8

/-- Milliseconds from the origin of R601 to core release, by start kind: no command of the table says when the origin was (log entry 44). -/
opaque bootMs : Nat → Nat

end Sys2Proof.Config
end

