-- ==== Sys2Proof/Machine/Bits.lean ====
section
/-! DEFINITION. Byte order, bit fields, sign extension, saturation, and the checksums of the manual (R18, R19, R31, R526). -/

namespace Sys2Proof.Machine

/-- Field of len bytes at byte offset off of a number, little-endian (R19). -/
def byteField (x off len : Nat) : Nat := (x >>> (8 * off)) % 2 ^ (8 * len)

/-- Two's complement value of an n-bit field. -/
def signed (n x : Nat) : Int := if x < 2 ^ (n - 1) then (x : Int) else (x : Int) - (2 ^ n : Nat)

/-- The n-bit two's complement code of a value. -/
def code (n : Nat) (v : Int) : Nat := (v % (2 ^ n : Nat)).toNat

/-- Value limited to a range. -/
def clampInt (lo hi v : Int) : Int := max lo (min hi v)

/-- Saturation to n bits, two's complement (R176). -/
def satInt (n : Nat) (v : Int) : Int := clampInt (-(2 ^ (n - 1) : Nat)) ((2 ^ (n - 1) : Nat) - 1) v

/-- Saturating count of n bits. -/
def satAdd (n a b : Nat) : Nat := min (2 ^ n - 1) (a + b)

/-- Arithmetic shift right, floor (R176). -/
def ashr (v : Int) (n : Nat) : Int := v / (2 ^ n : Nat)

/-- Position of the highest set bit plus one (R176). -/
def bitlen (p : Nat) : Nat := if p = 0 then 0 else p.log2 + 1

/-- The len low bytes of a number, little-endian (R19). -/
def leBytes (len x : Nat) : List Byte := (List.range len).map (fun i => BitVec.ofNat 8 (x >>> (8 * i)))

/-- The len bytes of a signed value. -/
def leInt (len : Nat) (v : Int) : List Byte := leBytes len (code (8 * len) v)

/-- The number that bytes spell, little-endian. -/
def ofBytes : List Byte → Nat
  | [] => 0
  | b :: bs => b.toNat + 256 * ofBytes bs

/-- Bytes of a buffer at an offset, as an unsigned number. -/
def bufField (bs : List Byte) (off len : Nat) : Nat := ofBytes ((bs.drop off).take len)

/-- Bytes of a buffer at an offset, as a signed number. -/
def bufInt (bs : List Byte) (off len : Nat) : Int := signed (8 * len) (bufField bs off len)

/-- A number that holds, at each byte offset, a value of a number of bytes: the layout of the manual's result and payload tables. -/
def layout : List (Nat × Nat × Int) → Nat
  | [] => 0
  | (off, len, v) :: rest => (code (8 * len) v) <<< (8 * off) ||| layout rest

/-- A 16-byte result (R80). -/
def result (fields : List (Nat × Nat × Int)) : BitVec 128 := BitVec.ofNat 128 (layout fields)

/-- A payload of len bytes. -/
def payload (len : Nat) (fields : List (Nat × Nat × Int)) : List Byte := leBytes len (layout fields)

/-- A truth value as a field. -/
def flagBit (b : Bool) : Int := if b then 1 else 0

/-- Serial comparison (R34, R39): a is later than b in n-bit serial arithmetic. -/
def serialLater (n a b : Nat) : Bool :=
  let d := (a + 2 ^ n - b % 2 ^ n) % 2 ^ n
  decide (1 ≤ d) && decide (d ≤ 2 ^ (n - 1) - 1)

/-- One byte into CRC-16 (polynomial 0x1021, no reflection, R31). -/
def crc16Byte (crc : Nat) (b : Byte) : Nat :=
  (List.range 8).foldl (fun c _ => if c.testBit 15 then ((c <<< 1) ^^^ 0x1021) % 65536 else (c <<< 1) % 65536)
    (crc ^^^ (b.toNat <<< 8))

/-- CRC-16 of bytes in ascending address order, initial value 0xFFFF (R31). -/
def crc16 (bs : List Byte) : Half := BitVec.ofNat 16 (bs.foldl crc16Byte 0xFFFF)

/-- One byte into the reflected CRC-32 (R526). -/
def crc32Byte (crc : Nat) (b : Byte) : Nat :=
  (List.range 8).foldl (fun c _ => if c.testBit 0 then (c >>> 1) ^^^ 0xEDB88320 else c >>> 1) (crc ^^^ b.toNat)

/-- The IEEE 802.3 CRC-32 (R526). -/
def crc32 (bs : List Byte) : Word := BitVec.ofNat 32 ((bs.foldl crc32Byte 0xFFFFFFFF) ^^^ 0xFFFFFFFF)

/-- Bytes padded with zeros to a multiple of 8 (R526). -/
def padEight (bs : List Byte) : List Byte := bs ++ List.replicate ((8 - bs.length % 8) % 8) 0

/-- Element n of a vector, by a number that may be out of range: the default then. -/
def nth {α : Type} {n : Nat} (v : Vector α n) (i : Nat) (dflt : α) : α := if h : i < n then v[i] else dflt

/-- Change of one element of a vector. -/
def upd {α : Type} {n : Nat} (v : Vector α n) (i : Nat) (f : α → α) : Vector α n :=
  if h : i < n then v.set i (f v[i]) else v

/-- Round half away from zero of a quotient of integers, for values the manual rounds to nearest. -/
def roundDiv (a : Int) (b : Nat) : Int :=
  if a < 0 then -((-a * 2 + b) / (2 * b : Nat)) else (a * 2 + b) / (2 * b : Nat)

/-- Ceiling of a quotient. -/
def ceilDiv (a b : Nat) : Nat := (a + b - 1) / b

/-- An element put into a list before the first one that le puts behind it. -/
def insertBy {α : Type} (le : α → α → Bool) (x : α) : List α → List α
  | [] => [x]
  | y :: rest => if le x y then x :: y :: rest else y :: insertBy le x rest

/-- A list in order; elements that are equal in the order keep the places they have to each other. -/
def sortBy {α : Type} (le : α → α → Bool) (l : List α) : List α := l.foldr (insertBy le) []

end Sys2Proof.Machine
end

