-- ==== Sys2Proof/Machine/Decibel.lean ====
section
/-! DEFINITION. Decibel arithmetic in 0.01 dB units, computed on integers and rounded to the nearest 0.01 dB (log entry 10): the
manual's worked examples round so. -/

namespace Sys2Proof.Machine

/-- Twice-scaled comparison for rounding: 10^(n/2000) ≤ a / b. -/
def halfDbAtMost (n : Int) (a b : Nat) : Bool :=
  if 0 ≤ n then decide (10 ^ n.toNat * b ^ 2000 ≤ a ^ 2000) else decide (b ^ 2000 ≤ a ^ 2000 * 10 ^ (-n).toNat)

/-- Binary search for the largest n of lo, lo + 1, …, lo + 2^k - 1 on which a falling predicate holds (lo when none does). -/
def searchUp (p : Int → Bool) : Nat → Int → Int
  | 0, lo => lo
  | k + 1, lo => if p (lo + (2 ^ k : Nat)) then searchUp p k (lo + (2 ^ k : Nat)) else searchUp p k lo

/-- 10·log10(a / b) in 0.01 dB, to the nearest; the ratio 0 has no logarithm. -/
def ratioDb (a b : Nat) : Int :=
  if a = 0 then Config.dbOfZero else searchUp (fun n => halfDbAtMost (2 * n - 1) a b) 17 (-65536)

/-- Mean power in 0.01 dBFS of samples with an energy; 0 dBFS is a mean square of 2^30 (R18). Levels saturate at the bottom of the Q15 scale of R234 (log entry
169). -/
def levelDb (energy samples : Nat) : Int :=
  if energy = 0 ∨ samples = 0 then -16384 else max (-16384) (ratioDb energy (samples * 2 ^ 30))

/-- 2^48 × 10^(c/1000), rounded down: a level of c / 100 dB as a ratio of powers. -/
def powerOf (c : Int) : Nat :=
  let fits (x : Nat) : Bool :=
    if 0 ≤ c then decide (x ^ 1000 ≤ 10 ^ c.toNat * 2 ^ 48000) else decide (x ^ 1000 * 10 ^ (-c).toNat ≤ 2 ^ 48000)
  (List.range 200).foldl (fun x i => if fits (x + 2 ^ (199 - i)) then x + 2 ^ (199 - i) else x) 0

/-- 2^48 × 10^(c/2000), rounded down: a level of c / 100 dB as a ratio of amplitudes. -/
def amplitudeOf (c : Int) : Nat :=
  let fits (x : Nat) : Bool :=
    if 0 ≤ c then decide (x ^ 2000 ≤ 10 ^ c.toNat * 2 ^ 96000) else decide (x ^ 2000 * 10 ^ (-c).toNat ≤ 2 ^ 96000)
  (List.range 160).foldl (fun x i => if fits (x + 2 ^ (159 - i)) then x + 2 ^ (159 - i) else x) 0

/-- Integer square root, rounded down, of a number below 2^256. -/
def isqrt (n : Nat) : Nat :=
  (List.range 128).foldl (fun x i => if (x + 2 ^ (127 - i)) * (x + 2 ^ (127 - i)) ≤ n then x + 2 ^ (127 - i) else x) 0

/-- 20·log10 of a sum of amplitudes given in 0.01 dB (R190). -/
def sumAmplitudes (cs : List Int) : Int :=
  let t := (cs.map amplitudeOf).sum
  ratioDb (t * t) (2 ^ 96)

end Sys2Proof.Machine
end

