-- ==== Sys2Proof/Machine/State.lean ====
section
/-! DEFINITION. State of the Raulo 6400 as plain data: every register, queue, counter, mode and pin the manual names, the queue of
waiting commands, the reasons a step can stop, and the machine right after reset. Each field's docstring or its structure's names
the rule; INVENTORY.md lists the reset values with their rules. -/

namespace Sys2Proof.Machine

/-- State of a ring (RNG_STATUS.state, R69). -/
inductive RingState where
  | disabled
  | active
  | stalled
  | error
  | draining
  deriving DecidableEq, Repr

/-- Registers of one of the 42 rings with its doorbell (R69, R74). doorbell is the last value the doorbell register accepted;
armed says whether the ring may raise its vector (R104); oldestAt is the frame-timer count at which the age of the oldest
unconsumed entry starts; lostSince counts events lost since the previous record of an event ring (R101). -/
structure Ring where
  baseLo : BitVec 20
  baseHi : Word
  log2Size : BitVec 5
  enable : Bool
  cplRing : Fin 16
  priority : Fin 4
  msixVector : BitVec 6
  irqEnable : Bool
  coalesceCount : Byte
  coalesceTimeUs : Half
  devIndex : Nat
  phase : Bool
  hostIndex : Nat
  state : RingState
  errorCause : BitVec 4
  error : Bool
  lost : Nat
  doorbell : Half
  armed : Bool
  oldestAt : Nat
  lostSince : Nat
  deriving DecidableEq, Repr

/-- Completion status codes (R82). -/
inductive Status where
  | done
  | doneLate
  | stepped
  | clamped
  | rejectedParam
  | rejectedState
  | timeout
  | cancelled
  | noResource
  | authFailed
  | deviceFault
  deriving DecidableEq, Repr

/-- A completion or progress record (R80). result is bytes 16-31, byte 16 least significant. order is the number of the doorbell that made its
command visible (R87); it is no part of the record. -/
structure Completion where
  tag : Half
  status : Status
  phase : Bool
  seqValid : Bool
  final : Bool
  effSeq : Half
  stepCount : Nat
  sourceRing : Nat
  cmdqHead : Nat
  detail : Half
  opcode : Half
  result : BitVec 128
  order : Nat
  deriving DecidableEq, Repr

/-- An event record as it stands in an event ring (R99). -/
structure EventEntry where
  ev : EventRec
  phase : Bool
  recorded : Bool
  lost : Nat
  gbSequence : Word
  deriving DecidableEq, Repr

/-- A capture entry (R97): waybill is the 16 bytes of R29 or the segment stamp of R171. -/
structure CaptureEntry where
  phase : Bool
  gap : Bool
  last : Bool
  tap : Half
  gapCount : Word
  captureSeq : Word
  waybill : BitVec 128
  samples : List Sample
  deriving DecidableEq, Repr

/-- State of a capture session (R121). -/
inductive SessionState where
  | idle
  | armed
  | capturing
  deriving DecidableEq, Repr

/-- A capture session of a capture ring (R119-R121). phaseCount counts blocks for the decimation;
written and lost keep the counts of the last session once it has ended. -/
structure Session where
  state : SessionState
  tap : Half
  startMode : Byte
  startCount : Word
  limit : Word
  decimation : Nat
  phaseCount : Nat
  seen : Word
  written : Word
  lost : Word
  deriving DecidableEq, Repr

/-- A command fetched and not started: its descriptor and the number of the doorbell that made it visible (R87);
cancelled says that a CANCEL found it (R95). -/
structure Fetched where
  desc : Desc
  order : Nat
  cancelled : Bool
  deriving DecidableEq, Repr

/-- What a command in execution waits for between its steps (R90): nothing (it is ready), a hardware event, the retirement of
epochs (R42), or the end of a removal or another condition its opcode's continuation tests. -/
inductive Wait where
  | none
  | hardware
  | epochs
  | state
  deriving DecidableEq, Repr

/-- One epoch a command waits for (R42): the change's ticket, and the first block's sequence once it is stamped. -/
structure EpochWait where
  ticket : Nat
  retired : Bool
  seq : Option Half
  deriving DecidableEq, Repr

/-- A command in execution, or one continuing after TIMEOUT (R85, R92). phase and aux belong to the opcode's continuation;
results are what a hardware wait returned; startTick is the slow-tick count of R91 and lastRecord the frame-timer count of the start or of
the last progress record (R93); silent marks work past its commit point that goes on after a host-interface reset, of which no record and no
event tells any more (R110). -/
structure Running where
  desc : Desc
  order : Nat
  startTick : Nat
  lastRecord : Nat
  steps : Nat
  phase : Nat
  wait : Wait
  committed : Bool
  clamped : Bool
  epochs : List EpochWait
  aux : List Nat
  results : List Int
  result : BitVec 128
  silent : Bool
  deriving DecidableEq, Repr

/-- Service of one command source: rings 0-15 CMDQ0-CMDQ15, 16-19 the desk queues, 20 the compatibility logic, 21 the replay.
marks are descriptors visible and not yet fetched, as (count, number of the doorbell) pairs; readySince is the frame-timer count since
which the ring has been ready without a grant (R89); head is the fetch index of a desk queue (R587). -/
structure Source where
  head : Fin 16
  marks : List (Nat × Nat)
  fetched : List Fetched
  running : Option Running
  continuing : List Running
  readySince : Option Nat
  aged : Bool
  deriving DecidableEq, Repr

/-- An entry of the MSI-X table: 16 bytes, the message address, its data, and the mask bit of the vector control word (R74; the layout is that of
the PCI Express base specification, log entry 139). -/
structure MsixEntry where
  addr : Dword
  data : Word
  masked : Bool
  deriving DecidableEq, Repr

/-- The registers of the PCI Express configuration space that a host changes (R59-R62; log entry 139), and the MSI-X table of the doorbell window with
its pending bits (R74). bar0 and bar4 are the 64-bit base addresses of the setup and the doorbell window, bar2 that of the compatibility window;
aer is the uncorrectable error status (R108); msixSent counts the messages sent for each vector. -/
structure Pci where
  memSpace : Bool
  busMaster : Bool
  bar0 : Dword
  bar2 : Word
  bar4 : Dword
  d3hot : Bool
  aer : Word
  msixEnable : Bool
  msixMask : Bool
  msix : Vector MsixEntry 64
  msixPending : BitVec 64
  msixSent : Vector Nat 64
  deriving DecidableEq, Repr

/-- The host interface: rings, their unread entries, records that wait for space (R94), command service, the count of messages of each
MSI-X vector, and the HIF registers (02_host_interface.md). inner are the completion areas of the sources 16-21; dataWritten is the last
buffer a command wrote per command, newest last (R79); captureGaps counts the entries each capture ring lost since its previous entry (R97). -/
structure HostIf where
  rings : Vector Ring 42
  completions : Vector (List Completion) 16
  waiting : Vector (List Completion) 16
  events : Vector (List EventEntry) 2
  captures : Vector (List CaptureEntry) 8
  captureGaps : Vector Word 8
  pci : Pci
  sessions : Vector Session 8
  sources : Vector Source 22
  inner : Vector (List Completion) 6
  doorbellOrder : Nat
  lastServed : Vector Nat 4
  msixRaised : Vector Nat 64
  enable : Bool
  hostResetSeen : Bool
  resetSeenPending : Bool
  resetSeenCommands : Nat
  resetSeenRecords : Nat
  resetSeenSeq : Option Word
  linkWidth : BitVec 3
  linkSpeed : BitVec 2
  timeoutDefault : Half
  progressInterval : BitVec 10
  aging : Half
  hostResets : Half
  abandonedCommands : Nat
  abandonedRecords : Nat
  inReset : Bool
  dataWritten : List (Dword × List Byte)
  deriving DecidableEq, Repr

/-- Reset value of msix_vector (R103). -/
def Ring.resetVector (r : Nat) : BitVec 6 :=
  if r < 16 then 0
  else if r < 32 then BitVec.ofNat 6 (2 + (r - 16))
  else if r < 40 then BitVec.ofNat 6 (18 + (r - 32))
  else BitVec.ofNat 6 (r - 40)

/-- Reset values of a ring's registers (R69, R103). -/
def Ring.reset (r : Nat) : Ring :=
  { baseLo := 0, baseHi := 0, log2Size := 6, enable := false, cplRing := 0, priority := 2, msixVector := Ring.resetVector r,
    irqEnable := false, coalesceCount := 1, coalesceTimeUs := 0, devIndex := 0, phase := true, hostIndex := 0,
    state := .disabled, errorCause := 0, error := false, lost := 0, doorbell := 0, armed := true, oldestAt := 0,
    lostSince := 0 }

/-- No session (R121). -/
def Session.reset : Session :=
  { state := .idle, tap := 0, startMode := 0, startCount := 0, limit := 0, decimation := 1, phaseCount := 0, seen := 0,
    written := 0, lost := 0 }

/-- A command source with nothing visible, fetched or running. -/
def Source.reset : Source :=
  { head := 0, marks := [], fetched := [], running := none, continuing := [], readySince := none, aged := false }

/-- The configuration space after reset: the values of the PCI Express base specification (log entry 139). -/
def Pci.reset : Pci :=
  { memSpace := false, busMaster := false, bar0 := 0, bar2 := 0, bar4 := 0, d3hot := false, aer := 0, msixEnable := false, msixMask := false,
    msix := Vector.replicate 64 { addr := 0, data := 0, masked := true }, msixPending := 0, msixSent := Vector.replicate 64 0 }

/-- The host interface after reset (R106). The source of each priority that was served last is the one before ring 0, so that the first round begins
with ring 0 (R88 names no beginning; log entry 140). -/
def HostIf.reset : HostIf :=
  { rings := Vector.ofFn (fun r => Ring.reset r.val),
    completions := Vector.replicate 16 [], waiting := Vector.replicate 16 [], events := Vector.replicate 2 [],
    captures := Vector.replicate 8 [], captureGaps := Vector.replicate 8 0, pci := Pci.reset, sessions := Vector.replicate 8 Session.reset,
    sources := Vector.replicate 22 Source.reset, inner := Vector.replicate 6 [], doorbellOrder := 0, lastServed := Vector.replicate 4 21,
    msixRaised := Vector.replicate 64 0, enable := false, hostResetSeen := false, resetSeenPending := false, resetSeenCommands := 0,
    resetSeenRecords := 0, resetSeenSeq := none, linkWidth := 0, linkSpeed := 0, timeoutDefault := 0x03E8, progressInterval := 0x00A,
    aging := 0x07D0, hostResets := 0, abandonedCommands := 0, abandonedRecords := 0, inReset := false,
    dataWritten := [] }

/-- State of a receive group (R125). -/
inductive LinkState where
  | down
  | shLock
  | embLock
  | aligned
  | skewFault
  deriving DecidableEq, Repr

/-- What a receive lane's link logic holds: sync-header lock, extended-multiblock lock and its skew in blocks (R125). -/
structure Lane where
  sync : Bool
  multiblock : Bool
  skew : Nat
  deriving DecidableEq, Repr

/-- A port's two streams as declared (R134, R160): rate code, centres in Hz, inversion. -/
structure Stream where
  rate : Option (Fin 4)
  rxCentre : Nat
  txCentre : Nat
  rxInvert : Bool
  txInvert : Bool
  deriving DecidableEq, Repr

/-- Composite peak limiter of a transmit stream (R139, R140); next holds a PEAK_LIMIT_SET that waits for the next segment (R168). -/
structure Limiter where
  enable : Bool
  threshold : Int
  releaseUs : Nat
  next : Option (Bool × Int × Nat)
  ahead : List (Int × Int)
  gains : List Nat
  deriving DecidableEq, Repr

/-- The converter links, streams and SYSREF capture (R125-R135, R172). rxConfigured says which receive groups a LINK_CONFIGURE has brought
up since their last rate change (R160). captureAt is the time of capture in REFCLK_IN cycles since
core release. polarity fields ending InForce are those of the last LINK_CONFIGURE. rxSegment and txSegment are the segment
sequences of R171. draining counts the segments that a transmit edge of a twin pair still sends after core reset (R8). -/
structure Links where
  rxGroups : Vector LinkState 5
  rxConfigured : Vector Bool 5
  txActive : Vector Bool 4
  lanes : Vector Lane 18
  sysrefMode : BitVec 2
  sysrefArm : Bool
  captured : Bool
  phaseError : Bool
  capturePhase : BitVec 3
  captureAt : Nat
  edges : Half
  rxPolarity : BitVec 18
  txPolarity : BitVec 16
  rxPolarityInForce : BitVec 18
  txPolarityInForce : BitVec 16
  crcErr : Vector Nat 18
  underrun : Vector Nat 8
  limited : Vector Nat 8
  clipped : Vector Nat 8
  streams : Vector Stream 8
  limiters : Vector Limiter 8
  rxSegment : Vector Half 9
  txSegment : Vector Half 8
  draining : Vector Nat 8
  deriving DecidableEq, Repr

/-- One direction of a channel definition (R143): receive and transmit masks, centre in Hz, initial gain, taps, combining weights
and trims in 0.01 dB, and the devices that hold its ports (0xFF this device). -/
structure DirDef where
  rx : BitVec 4
  tx : BitVec 4
  centre : Nat
  gain : Int
  taps : Nat
  weight : Vector Int 4
  trim : Vector Int 4
  rxDevice : Byte
  txDevice : Byte
  deriving DecidableEq, Repr

/-- A channel definition (R143). cls 0-6 is BW5 to BW400; duplex as R144. -/
structure ChanDef where
  cls : Nat
  duplex : Nat
  tdd : Byte
  wingMask : BitVec 16
  dl : DirDef
  ul : DirDef
  deriving DecidableEq, Repr

/-- State of a channel (R166). -/
inductive ChanState where
  | absent
  | active
  | removing
  deriving DecidableEq, Repr

/-- CANCEL parameters of one path (R180). -/
structure PathParams where
  taps : Nat
  mu : Nat
  leakShift : Nat
  deltaExp : Nat
  tapLimit : Nat
  autoDelay : Bool
  bulkDelay : Nat
  preTaps : Nat
  freeze : Bool
  deriving DecidableEq, Repr

/-- What PROBE has summed over a sub-window of a path (R189, R191): counted samples, ordinal of its first block, the correlations at the 64 lags
before and after CANCEL, the same against the seed that is never transmitted, and that of the reference with its own pilot. -/
structure SubWindow where
  count : Nat
  first : Nat
  pre : List (Int × Int)
  post : List (Int × Int)
  preNoise : List (Int × Int)
  postNoise : List (Int × Int)
  ref : Int
  deriving DecidableEq, Repr

/-- The delay search of a path (R209 step 2): counted samples, the correlation over lags 0 to search_max, the same against the seed that is never
transmitted. -/
structure DelaySearch where
  count : Nat
  corr : List (Int × Int)
  noise : List (Int × Int)
  deriving DecidableEq, Repr

/-- One coupling path of a direction (R173-R181): parameters in force, taps of value h / 2^28 as (I, Q), the tap count and the adaptation shift in use
(R183), the lag of the correlation peak that the delay search found, the counters of R177, the flag of R210, the cancellation predicted for it under
R185 with the ordinal of the block from which it holds, sequence and config_epoch of the block after whose update the taps stand (R214), PROBE's complete sub-windows, newest first, its current one,
and its delay search. -/
structure Path where
  par : PathParams
  taps : List (Int × Int)
  nEff : Nat
  muShift : Nat
  peak : Option Nat
  limitCount : Nat
  limitRun : Nat
  lowSnr : Bool
  pred : Option (Nat × Int)
  lastSeq : Half
  lastEpoch : Byte
  done : List SubWindow
  cur : SubWindow
  search : DelaySearch
  deriving DecidableEq, Repr

/-- One coupling path's published estimate (R189): amplitude before and after CANCEL in 0.01 dB with the 2-sigma bound, lag of the peak,
signal-to-noise ratio in whole dB. -/
structure PathEst where
  path : Fin 16
  raw : Int
  res : Int
  peakLag : Nat
  snr : Nat
  deriving DecidableEq, Repr

/-- Where a block stands in its direction (R170): after the receive chain, after CANCEL, after combining and SHAPE, after GAIN, accepted at
the synthesiser. -/
inductive Stage where
  | channelised
  | cancelled
  | combined
  | gained
  | accepted
  deriving DecidableEq, Repr

/-- A waybilled block (R29); its channel and direction are those of the direction that holds it. applied is word 3 bits [15:0]. -/
structure Block where
  stage : Stage
  port : Fin 8
  mute : Bool
  tddBoundary : Bool
  boundaryIndex : BitVec 6
  probeActive : Bool
  late : Bool
  mirrored : Bool
  migrateMark : Bool
  configEpoch : Byte
  gainEpoch : Byte
  sequence : Half
  source : BitVec 4
  firstCount : Word
  applied : Half
  samples : List Sample
  deriving DecidableEq, Repr

/-- A block of a transmit port's reference history (R174, R182): index of the sample with which it crosses the transmit pins, index of its first
sample, and whether it carries the pilot (R188). -/
structure RefBlock where
  index : Nat
  first : Nat
  samples : List Sample
  pilot : Bool
  deriving DecidableEq, Repr

/-- A copy of a CANCELLED block for a unit that measures, with the samples before CANCEL (R189, R241). -/
structure Tapped where
  block : Block
  raw : List Sample
  deriving DecidableEq, Repr

/-- What GAIN keeps of a block for 1 ms (R187, R197): its first_count, its energy at the COMBINED point and at each transmit element. -/
structure GainLog where
  first : Word
  input : Nat
  output : Vector Nat 4
  deriving DecidableEq, Repr

/-- GAIN's measurement tap since the last ALC tick (R233, R276): samples and energy per transmit element of the blocks that count, and the largest
applied_gain. -/
structure GainTap where
  samples : Nat
  output : Vector Nat 4
  applied : Option Int
  deriving DecidableEq, Repr

/-- The synthesiser's power meter since the last ALC tick (R239), per transmit element: blocks, their energy, that of the same blocks at the COMBINED
point, and the sum of their applied_gain. -/
structure SynthMeter where
  blocks : Vector Nat 4
  output : Vector Nat 4
  input : Vector Nat 4
  applied : Vector Int 4
  deriving DecidableEq, Repr

/-- Stability parameters of a direction (R217); levels in 0.01 dB, times in ms. -/
structure StabParams where
  mReq : Int
  backoff : Int
  backoffDwell : Nat
  climbStart : Int
  oscRho : Nat
  oscRise : Int
  oscLimit : Nat
  oscHoldoff : Nat
  holdDwell : Nat
  deriving DecidableEq, Repr

/-- ALC parameters (R235, R240). -/
structure AlcParams where
  enable : Bool
  kAtt : Nat
  kRel : Nat
  relMax : Nat
  headroom : Int
  aMax : Int
  plausTol : Int
  plausTicks : Nat
  deriving DecidableEq, Repr

/-- Host coupling formula (R242, R272); refChannel none is the same channel, delta none is unset. -/
structure CouplingParams where
  enable : Bool
  refChannel : Option (Fin 64)
  icpt : Int
  slope : Int
  knee : Int
  delta : Option Int
  deriving DecidableEq, Repr

/-- Squelch parameters (R248); descent in 0.01 dB per ms. -/
structure SquelchParams where
  enable : Bool
  depth : Int
  margin : Int
  hang : Nat
  descent : Int
  deriving DecidableEq, Repr

/-- PROBE parameters (R187, R191). -/
structure ProbeParams where
  levelMin : Int
  levelMax : Int
  w : Nat
  deriving DecidableEq, Repr

/-- A setting that takes effect at the block that carries its epoch (R37). Gain settings: hostMute to donorRule. Configuration:
definition to kernels. -/
inductive Setting where
  | hostMute (mute : Bool)
  | gainTarget (g : Int)
  | margin (p : StabParams)
  | alc (p : AlcParams)
  | powerLimit (pCh : Vector (Option Int) 4) (ovs : Int)
  | coupling (p : CouplingParams)
  | squelch (p : SquelchParams)
  | frontEnd (f : Int)
  | portLimits (p : Fin 8) (comp : Option Int) (calTx calRx : Int)
  | donorRule
  | definition (d : DirDef) (tdd : Byte) (centreChanged : Bool)
  | cancelParams (mask : BitVec 16) (p : PathParams)
  | cancelReset (mask : BitVec 16)
  | tapFraction
  | probe (p : ProbeParams)
  | pattern (slot : Fin 8)
  | kernels (a : Fin 256) (which : Nat) (tSh : Nat) (coeffs : List Int)
  deriving DecidableEq, Repr

/-- A change that waits for its epoch (R38, R41): its ticket (for the command that waits, R42), its effective count and what it sets. -/
structure Change where
  ticket : Nat
  effCount : Option Word
  settings : List Setting
  deriving DecidableEq, Repr

/-- A change whose epoch a block carries: the ordinal of that first block, the units (CANCEL per receive port) that have adopted it,
and whether that block has left the synthesiser (R40, R41). -/
structure Stamp where
  ticket : Nat
  epoch : Byte
  ordinal : Nat
  settings : List Setting
  adopted : List (KernelUnit × Fin 8)
  left : Bool
  deriving DecidableEq, Repr

/-- One kind of epoch of one direction: the epoch last stamped, the change being carried, the changes that wait in order (R37-R41); lagging are
retired changes that a unit with older blocks before it has yet to adopt (R40). -/
structure EpochLine where
  epoch : Byte
  stamped : Option Stamp
  lagging : List Stamp
  waiting : List Change
  deriving DecidableEq, Repr

/-- Stability states (R201). -/
inductive StabState where
  | muted
  | climb
  | track
  | hold
  | backoff
  deriving DecidableEq, Repr

/-- Reasons of MUTED (R202). -/
inductive MuteReason where
  | initial
  | measure
  | oscillation
  | oscLockout
  | marginLost
  deriving DecidableEq, Repr

/-- An isolation measurement in progress (R209, R215): open-loop step 1 (delay search) or 2 (training), or in service; the level
of its pilot, its search limit, the ordinal of the block it begins at, and the command ring that waits for it. -/
structure Measurement where
  openLoop : Bool
  searching : Bool
  pilot : Int
  searchMax : Nat
  start : Nat
  ring : Option (Fin 22)
  deriving DecidableEq, Repr

/-- The margin meter and PROBE of a direction (R186-R192): pilot level in 0.01 dBc, the published estimate, its age and the age of the newest
sub-window, whether MARGIN_STALE has been raised for it, C_pred and the lowering of the isolation in force
under R185, the ordinal from which on an estimate's blocks must be to end that lowering, the ordinal of the published estimate's oldest block. -/
structure Meter where
  par : ProbeParams
  level : Int
  published : Bool
  aRaw : Int
  aRes : Int
  ageMs : Nat
  snr : Nat
  paths : List PathEst
  stale : Bool
  cPred : Option Int
  iDrop : Int
  newSince : Option Nat
  subAge : Nat
  oldest : Nat
  deriving DecidableEq, Repr

/-- The stability machine of a direction (R201-R206). Timers are in slow ticks; mutes holds the slow ticks of its OSCILLATION mutes
within 600 s; onset is the first_count of the run in progress and runLast that of its last block (R198, R199); frozenAt is the slow tick of the mute (R206). -/
structure Stability where
  par : StabParams
  state : StabState
  reason : MuteReason
  s : Int
  k : Int
  dwell : Nat
  dwellRunning : Bool
  holdRun : Nat
  holdoff : Nat
  retry : Nat
  mutes : List Nat
  onset : Option Word
  runLast : Word
  frozenAt : Option Nat
  measuring : Option Measurement
  deriving DecidableEq, Repr

/-- Gain settings and regulators of a direction (R220-R254), in 0.01 dB, 0.01 dBm and 0.01 dBFS; aAlc and aAlcFrozen in ALC LSB of
0.005 dB (R234). pChMax holds the limit set per transmit element, none while it follows the House Rules maximum (R228); floorNext is a
THRESHOLD_CONFIGURE (thr_min, thr_max, percentile, rise_max) that waits for its update (R275). Windows of blocks: bound and blocks count
over overpower_ms (R254). reasons is the mask of R276. alcHeld is the attenuation of a frozen ALC and meterDiff the difference that its last check found (R239, R240). idle holds the count at which an idle run began
(R246); couplingOk, donorAbsent and donorPresent the ms since the first update of a run (R245, R250); donorLossDue the slow tick of the update that made the
loss due. tap, synth, waiting (COMBINED energy of the blocks on their way to the synthesiser), appliedSum and appliedBlocks (since the last 10 ms update),
donorBins (energy and samples per 10 ms, newest first) and floorBins (block powers with their number per 100 ms, newest first) are what the meters hold
(R233, R239, R241, R242, R252). -/
structure GainState where
  gt : Int
  f : Int
  pChMax : Vector (Option Int) 4
  ovs : Int
  alc : AlcParams
  aAlc : Int
  alcFrozen : Bool
  alcHeld : Int
  plausBad : Nat
  plausGood : Nat
  implausibleTicks : Nat
  meterDiff : Int
  coupling : CouplingParams
  u : Int
  pDonor : Int
  couplingOk : Option Nat
  squelch : SquelchParams
  aSq : Int
  idle : Option Word
  sqRising : Bool
  lossEnable : Bool
  lossAbsentMs : Nat
  lossReturnMs : Nat
  donorMargin : Int
  donorAbsent : Option Nat
  donorPresent : Option Nat
  donorLossDue : Option Nat
  floor : Vector Int 4
  percentile : Nat
  riseMax : Int
  thrMin : Int
  thrMax : Int
  floorNext : Option (Int × Int × Nat × Int)
  boundCount : Half
  boundInWindow : Nat
  blocksInWindow : Nat
  boundWindows : List (Nat × Nat)
  overpowerMutes : List Nat
  overpowerRetryAt : Option Nat
  gateTrips : List Nat
  reasons : BitVec 20
  reducing : BitVec 20
  unbindingSince : List (Nat × Nat)
  appliedTick : Int
  pOut : Vector Int 4
  tap : GainTap
  synth : SynthMeter
  waiting : List (Half × Nat)
  appliedSum : Vector Int 4
  appliedBlocks : Nat
  donorBins : Vector (List (Nat × Nat)) 4
  floorBins : Vector (List (List (Int × Nat))) 4
  deriving DecidableEq, Repr

/-- A filter stage of a chain (R136): the words it reaches back to, newest first, and how many have come since its last output. -/
structure StageState where
  window : List (Int × Int)
  count : Nat
  deriving DecidableEq, Repr

/-- The receive chain of a direction at a port (R136): NCO accumulator, filter stages, channel samples that do not fill a block yet. -/
structure RxChain where
  nco : BitVec 48
  stages : List StageState
  out : List Sample
  deriving DecidableEq, Repr

/-- The transmit chain of a direction at a port (R136): NCO accumulator, filter stages, stream words that wait for their segment; shut says that a hold
or stop silences it until the first block that begins after it (R340, R342). -/
structure TxChain where
  nco : BitVec 48
  stages : List StageState
  out : List (Int × Int)
  shut : Bool
  deriving DecidableEq, Repr

/-- The record of one direction of a channel (R35, R55, R166). ordinal counts the blocks formed since creation (the next
block's sequence is its low 16 bits), portOrdinal those of each receive port, baseCount the count of the first block's first
sample; held says that every transmit port is under a transmit hold or a port stop (R341); slots the pool
slots held; energyRun counts blocks for R178 per receive port; history holds GAIN's output
per transmit port for CANCEL's references (R182). heldPorts are the transmit elements under a hold or a stop, heldEnd the counts at which the last ones ended
(R179). tapped holds the copies that wait for PROBE, measured those for MEASURE. combined holds the COMBINED blocks that the detector reaches back to
(R197) by the index of their first sample, gainLog the blocks of the last 1 ms. peerCal are the calibrations of the other device's ports of a split direction
(R225). released counts the blocks that have left the
synthesiser (R41, R45); gLast is the gain that ended GAIN's last block per transmit element (R222), lastCombined the samples combined last,
which SHAPE's filter reaches back to, relayOut GAIN's outputs that a RELAY has yet to send back in TC1 (R622), gainCentre the centre frequency
whose configuration GAIN has adopted (R40), for the House Rules maximum of its gain. rampUp and rampDown are for the next block that leaves the
synthesiser (R155); blocks from ordinal centreFrom on have the definition's centre frequency, those before it centreBefore; peerStarted says that
block 0 has left another device's synthesiser (R163). -/
structure Direction where
  hostMuted : Bool
  allMuted : Bool
  held : Bool
  config : EpochLine
  gainLine : EpochLine
  ordinal : Nat
  portOrdinal : Vector Nat 4
  baseCount : Nat
  drop : Word
  late : Word
  crcErrs : Word
  slots : Nat
  blocks : List Block
  lateSeqs : List (Half × Fin 8)
  energyRun : Vector Nat 4
  history : Vector (List RefBlock) 4
  heldPorts : BitVec 4
  heldEnd : Vector (Option Nat) 4
  tapped : List Tapped
  measured : List Tapped
  combined : List (Nat × List Sample)
  gainLog : List GainLog
  peerCal : Vector Int 4
  paths : Vector Path 16
  meter : Meter
  stab : Stability
  gain : GainState
  rampUp : Bool
  rampDown : Bool
  rxChains : Vector RxChain 4
  txChains : Vector TxChain 4
  centreFrom : Nat
  centreBefore : Nat
  peerStarted : Bool
  released : Nat
  gLast : Vector Int 4
  lastCombined : List Sample
  relayOut : List Block
  gainCentre : Nat
  deriving DecidableEq, Repr

/-- A channel (R166): its state, its definition, its two directions. While a CHANNEL_CREATE waits for other devices, asked are those yet to answer
and refusal is the status and detail of one that refused (R151). -/
structure Channel where
  state : ChanState
  defn : ChanDef
  dl : Direction
  ul : Direction
  removeDue : Bool
  asked : List (Fin 16)
  refusal : Option (Nat × Nat)
  deriving DecidableEq, Repr

/-- Gain and protection state of a transmit port (R224-R256), in 0.01 dBm and 0.01 dB; aComp in LSB of 0.005 dB; cap is the capacity
of R229 as a fraction, c the same in per mille; dTh the thermal reduction. stops is the mask of the port's own stop reasons in force (bit code - 1 of R265); deviceStop the reason
code under which an orderly stop or a SLEEP entry stopped it, 0 for none (R570). pCompMax is none while it follows the House Rules
maximum (R228). compEnergy, compSamples and compGain are the stream's energy, samples and the sum of its limiter's gains since the last ALC tick (R238,
R405). -/
structure PortState where
  pCalTx : Int
  pCalRx : Int
  pCompMax : Option Int
  aComp : Int
  compFrozen : Bool
  compBad : Nat
  compGood : Nat
  pComp : Int
  pCompPeakOver : Nat
  compEnergy : Nat
  compSamples : Nat
  compGain : Nat
  c : Nat
  cap : Nat × Nat
  dTh : Int
  stops : BitVec 20
  deviceStop : Nat
  muteCounts : List Nat
  reducing : BitVec 20
  unbindingSince : List (Nat × Nat)
  retryAt : Option Nat
  deriving DecidableEq, Repr

/-- A trigger of a protection action, kept until the slow tick it falls in ends (R257): object, ladder step, and the record with its event. -/
structure ProtTrigger where
  obj : Nat × Nat × Nat × Nat
  step : Nat
  source : Nat
  code : Nat
  bytes : List Byte
  ev : EventRec
  deriving DecidableEq, Repr

/-- Parameters of the ladder (R254). -/
structure LadderParams where
  overpowerMs : Nat
  overRetryS : Nat
  overRetryLimit : Nat
  portMuteLimit : Nat
  portRetryS : Nat
  deviceStopPorts : Nat
  deriving DecidableEq, Repr

/-- The block-buffer pool and the census (R50-R56). -/
structure Pool where
  freeSlots : Nat
  reportedFree : Nat
  lowWater : Nat
  audits : Half
  mismatch : Bool
  poolMismatch : Bool
  tclass : BitVec 2
  link : BitVec 4
  deriving DecidableEq, Repr

/-- Lane not locked. -/
def Lane.reset : Lane := { sync := false, multiblock := false, skew := 0 }

/-- An unconfigured port (R134). -/
def Stream.reset : Stream := { rate := none, rxCentre := 0, txCentre := 0, rxInvert := false, txInvert := false }

/-- Default limiter (R140). -/
def Limiter.reset : Limiter :=
  { enable := true, threshold := -100, releaseUs := 20, next := none, ahead := List.replicate 32 (0, 0), gains := [] }

/-- An idle filter stage. -/
def StageState.reset : StageState := { window := [], count := 0 }

/-- Idle chains (R136). -/
def RxChain.reset : RxChain := { nco := 0, stages := [], out := [] }
/-- See RxChain.reset. -/
def TxChain.reset : TxChain := { nco := 0, stages := [], out := [], shut := false }

/-- Converter links after reset (R172). -/
def Links.reset : Links :=
  { rxGroups := Vector.replicate 5 .down, rxConfigured := Vector.replicate 5 false, txActive := Vector.replicate 4 false, lanes := Vector.replicate 18 Lane.reset,
    sysrefMode := 1, sysrefArm := false, captured := false, phaseError := false, capturePhase := 0, captureAt := 0, edges := 0,
    rxPolarity := 0, txPolarity := 0, rxPolarityInForce := 0, txPolarityInForce := 0, crcErr := Vector.replicate 18 0,
    underrun := Vector.replicate 8 0, limited := Vector.replicate 8 0, clipped := Vector.replicate 8 0,
    streams := Vector.replicate 8 Stream.reset, limiters := Vector.replicate 8 Limiter.reset,
    rxSegment := Vector.replicate 9 0, txSegment := Vector.replicate 8 0,
    draining := Vector.replicate 8 0 }

/-- An empty direction definition. -/
def DirDef.reset : DirDef :=
  { rx := 0, tx := 0, centre := 0, gain := 0, taps := 0, weight := Vector.replicate 4 0, trim := Vector.replicate 4 0,
    rxDevice := 0xFF, txDevice := 0xFF }

/-- An empty channel definition. -/
def ChanDef.reset : ChanDef :=
  { cls := 0, duplex := 0, tdd := 0xFF, wingMask := 0, dl := DirDef.reset, ul := DirDef.reset }

/-- CANCEL defaults (R180); the tap count comes from the channel definition (log entry 156). -/
def PathParams.reset : PathParams :=
  { taps := 0, mu := 0x2000, leakShift := 18, deltaExp := 20, tapLimit := 0x7FFF, autoDelay := true, bulkDelay := 0,
    preTaps := 8, freeze := false }

/-- An empty sub-window. -/
def SubWindow.reset : SubWindow := { count := 0, first := 0, pre := [], post := [], preNoise := [], postNoise := [], ref := 0 }

/-- A delay search that has seen nothing. -/
def DelaySearch.reset : DelaySearch := { count := 0, corr := [], noise := [] }

/-- A path never measured. -/
def Path.reset : Path :=
  { par := PathParams.reset, taps := [], nEff := 0, muShift := 0, peak := none, limitCount := 0, limitRun := 0, lowSnr := false,
    pred := none, lastSeq := 0, lastEpoch := 0, done := [], cur := SubWindow.reset, search := DelaySearch.reset }

/-- Empty meters of an ALC tick (R233, R239). -/
def GainTap.reset : GainTap := { samples := 0, output := Vector.replicate 4 0, applied := none }
/-- See GainTap.reset. -/
def SynthMeter.reset : SynthMeter :=
  { blocks := Vector.replicate 4 0, output := Vector.replicate 4 0, input := Vector.replicate 4 0, applied := Vector.replicate 4 0 }

/-- Stability defaults (R197, R203); M_req 12.00 dB (R4). -/
def StabParams.reset : StabParams :=
  { mReq := 1200, backoff := 300, backoffDwell := 500, climbStart := 2000, oscRho := 0x599A, oscRise := 300, oscLimit := 3,
    oscHoldoff := 1000, holdDwell := 100 }

/-- ALC defaults (R235, R240). -/
def AlcParams.reset : AlcParams :=
  { enable := true, kAtt := 0x4000, kRel := 0x0400, relMax := 1, headroom := 100, aMax := 4000, plausTol := 100, plausTicks := 8 }

/-- No host formula (R242). -/
def CouplingParams.reset : CouplingParams :=
  { enable := false, refChannel := none, icpt := 11000, slope := 100, knee := -2000, delta := none }

/-- Squelch defaults (R248). -/
def SquelchParams.reset : SquelchParams := { enable := false, depth := 2000, margin := 500, hang := 5, descent := 100 }

/-- PROBE defaults (R187, R191). -/
def ProbeParams.reset : ProbeParams := { levelMin := -4000, levelMax := -2500, w := 21 }

/-- No epoch pending (R35). -/
def EpochLine.reset : EpochLine := { epoch := 0, stamped := none, lagging := [], waiting := [] }

/-- A meter that has published nothing. -/
def Meter.reset : Meter :=
  { par := ProbeParams.reset, level := -4000, published := false, aRaw := 0, aRes := 0, ageMs := 0, snr := 0, paths := [],
    stale := false, cPred := none, iDrop := 0, newSince := none, subAge := 0, oldest := 0 }

/-- Stability machine at creation (R202 INITIAL). -/
def Stability.reset : Stability :=
  { par := StabParams.reset, state := .muted, reason := .initial, s := 0, k := 0, dwell := 0, dwellRunning := false, holdRun := 0,
    holdoff := 0, retry := 0, mutes := [], onset := none, runLast := 0, frozenAt := none, measuring := none }

/-- Gain state at creation (R228, R235, R248, R250, R253). -/
def GainState.reset : GainState :=
  { gt := 0, f := 0, pChMax := Vector.replicate 4 none, ovs := 300, alc := AlcParams.reset, aAlc := 0, alcFrozen := false, alcHeld := 0, plausBad := 0,
    plausGood := 0, implausibleTicks := 0, meterDiff := 0, coupling := CouplingParams.reset, u := 11000, pDonor := -2000,
    couplingOk := none, squelch := SquelchParams.reset, aSq := 0, idle := none, sqRising := false,
    lossEnable := true, lossAbsentMs := 200, lossReturnMs := 1000, donorMargin := 600, donorAbsent := none,
    donorPresent := none, donorLossDue := none, floor := Vector.replicate 4 (-10000), percentile := 10, riseMax := 50,
    thrMin := -10000, thrMax := -3000, floorNext := none, boundCount := 0, boundInWindow := 0, blocksInWindow := 0, boundWindows := [],
    overpowerMutes := [], overpowerRetryAt := none, gateTrips := [], reasons := 0, reducing := 0, unbindingSince := [],
    appliedTick := 0, pOut := Vector.replicate 4 (-10000), tap := GainTap.reset, synth := SynthMeter.reset, waiting := [],
    appliedSum := Vector.replicate 4 0, appliedBlocks := 0, donorBins := Vector.replicate 4 [], floorBins := Vector.replicate 4 [] }

/-- A direction that does not exist. -/
def Direction.reset : Direction :=
  { hostMuted := false, allMuted := false, held := false, config := EpochLine.reset, gainLine := EpochLine.reset, ordinal := 0, portOrdinal := Vector.replicate 4 0, baseCount := 0,
    drop := 0, late := 0, crcErrs := 0, slots := 0, blocks := [], lateSeqs := [], energyRun := Vector.replicate 4 0,
    history := Vector.replicate 4 [], heldPorts := 0, heldEnd := Vector.replicate 4 none, tapped := [], measured := [], combined := [], gainLog := [],
    peerCal := Vector.replicate 4 0, paths := Vector.replicate 16 Path.reset, meter := Meter.reset, stab := Stability.reset,
    gain := GainState.reset, rampUp := false, rampDown := false,
    rxChains := Vector.replicate 4 RxChain.reset, txChains := Vector.replicate 4 TxChain.reset, centreFrom := 0, centreBefore := 0, peerStarted := false,
    released := 0,
    gLast := Vector.replicate 4 (-4000), lastCombined := [], relayOut := [], gainCentre := 0 }

/-- A channel that does not exist. -/
def Channel.reset : Channel :=
  { state := .absent, defn := ChanDef.reset, dl := Direction.reset, ul := Direction.reset, removeDue := false, asked := [], refusal := none }

/-- A port before calibration (R224, R228); House Rules maxima are loaded at start-up. -/
def PortState.reset : PortState :=
  { pCalTx := 0, pCalRx := 0, pCompMax := none, aComp := 0, compFrozen := false, compBad := 0, compGood := 0, pComp := -10000,
    pCompPeakOver := 0, compEnergy := 0, compSamples := 0, compGain := 0, c := 1000, cap := (1, 1), dTh := 0, stops := 0, deviceStop := 0, muteCounts := [], reducing := 0, unbindingSince := [],
    retryAt := none }

/-- Ladder defaults (R254). -/
def LadderParams.reset : LadderParams :=
  { overpowerMs := 50, overRetryS := 10, overRetryLimit := 3, portMuteLimit := 4, portRetryS := 0, deviceStopPorts := 2 }

/-- The pool at reset (R56). -/
def Pool.reset : Pool :=
  { freeSlots := 8192, reportedFree := 0x2000, lowWater := 0x2000, audits := 0, mismatch := false, poolMismatch := false,
    tclass := 0, link := 0 }

/-- States of a fault source (R497). -/
inductive FaultState where
  | clear
  | notice
  | minor
  | severe
  | parked
  deriving DecidableEq, Repr

/-- Parameters of a source (R512, R523): ceiling 1-3, counts, windows and quiet period in ms, recovery limit. -/
structure FaultParams where
  ceiling : Nat
  n1 : Nat
  n2 : Nat
  w1 : Nat
  w2 : Nat
  quiet : Nat
  limit : Nat
  deriving DecidableEq, Repr

/-- One fault source (R495-R509). subs1 and subs2 are the sub-window counts as (sub-window number, events); recoveries are fault-tick
counts; heldMute and heldStop are the objects its persistent MUTE and STOP_PORT actions hold, degraded those DEGRADE has
reached (R506); newPar is a
FAULT_PARAMS_SET with the fault tick from which it applies (R523). -/
structure FaultSrc where
  state : FaultState
  par : FaultParams
  newPar : Option (FaultParams × Nat)
  masks : Vector Byte 3
  subs1 : List (Nat × Nat)
  subs2 : List (Nat × Nat)
  lastTick : Nat
  lastCount : Word
  lastObj : Half
  lastDetail : Dword
  recoveries : List Nat
  events : Half
  heldMute : List Half
  heldStop : List Half
  degraded : List Half
  releaseDue : Bool
  deriving DecidableEq, Repr

/-- The fault collector (R495-R525): inbox holds the events raised since the last fault tick processed, due
the sources with a release or parameters that wait for their fault tick. -/
structure Faults where
  srcs : Vector FaultSrc 512
  inbox : List FaultEvt
  due : List (Fin 512)
  firstValid : Bool
  alarm : Bool
  simul : Bool
  firstSource : Fin 512
  firstState : BitVec 3
  firstOthers : Half
  firstCount : Word
  firstSeq : Word
  firstSeqDue : Bool
  deriving DecidableEq, Repr

/-- A Guestbook record (R526). -/
structure Record where
  cls : Nat
  severity : Nat
  source : Half
  code : Half
  flags : Half
  repeats : Nat
  sequence : Word
  powerCycles : Word
  timeUs : Nat
  payload : List Byte
  deriving DecidableEq, Repr

/-- The tail record (R539-R543): the record, whether it is open, the time of its last repeat in slow ticks, and which copies have
been committed. -/
structure Tail where
  entry : Record
  isOpen : Bool
  lastRepeatTick : Nat
  lastRepeatUs : Nat
  snapshotTick : Nat
  snapshotRepeats : Nat
  snapshot : Bool
  finalCopy : Bool
  deriving DecidableEq, Repr

/-- A copy that waits in staging for its commit (R542). -/
structure Staged where
  entry : Record
  isOpen : Bool
  deriving DecidableEq, Repr

/-- A record's last copy in flash, with the number of the ring sector that holds it, counted from the first without wrapping (R548, R549). -/
structure Filed where
  entry : Record
  sector : Nat
  deriving DecidableEq, Repr

/-- The Guestbook (R526-R560, R717). queue is the intake; flash holds the last copy of every record committed and not aged or
cleared, oldest first; general and retained are the ring fill and wear: bytes used in the current sector, sector number without wrapping,
highest erase count. taken counts the entries taken from the intake; notes hold (number of the entry, sequence, folded) of each GB_APPEND
taken whose command has not ended; wallBaseUs is the operating time at which the wall clock read wallSeconds. -/
structure Guestbook where
  queue : List GbEntry
  collectorWait : List GbEntry
  intakeClosed : Bool
  overflowPending : Vector Nat 9
  overflowFirstUs : Nat
  overflow : Vector Nat 9
  tail : Option Tail
  tailGeneration : Half
  seqNext : Word
  staged : List Staged
  flash : List Filed
  taken : Nat
  notes : List (Nat × Word × Bool)
  committing : Bool
  ready : Bool
  erasing : Bool
  holdup : Bool
  flashFault : Bool
  resumed : Bool
  torn : Nat
  clearBoundary : Word
  wallSeconds : Word
  wallValid : Bool
  wallSetUs : Option Nat
  wallBaseUs : Nat
  powerCycles : Word
  generalUsed : Nat
  generalSector : Nat
  retainedUsed : Nat
  retainedSector : Nat
  generalPasses : Nat
  retainedPasses : Nat
  rateSubs : List (Nat × Nat)
  rateStartUs : Nat
  authFailures : Nat
  lastAuthFailTick : Option Nat
  nonce : Option (BitVec 128 × Nat)
  checkpointUs : Nat
  checkpointCycles : Word
  checkpointSeq : Word
  checkpointWall : Word
  checkpointWallValid : Bool
  deriving DecidableEq, Repr

/-- Rows of the table of defaults (R512): parameters and the NOTICE, MINOR, SEVERE masks. Bits: L 1, I 2, D 4, M 8, P 16, H 32, S 64. -/
def FaultSrc.row (ceiling n1 w1 n2 w2 quiet limit notice minor severe : Nat) : FaultParams × Vector Byte 3 :=
  ({ ceiling := ceiling, n1 := n1, n2 := n2, w1 := w1, w2 := w2, quiet := quiet, limit := limit },
   #v[BitVec.ofNat 8 notice, BitVec.ofNat 8 minor, BitVec.ofNat 8 severe])

/-- Defaults of each source at reset (R512, by the numbers of R504). Where the table has a dash, n1 or n2 is 1 and its window 1 s: a
count that the ceiling makes idle (DESIGN CHOICE, log entry 5). -/
def FaultSrc.defaults (n : Nat) : FaultParams × Vector Byte 3 :=
  if n = 0 then FaultSrc.row 3 1 1000 3 10000 10000 4 1 3 35
  else if n = 1 then FaultSrc.row 3 16 1000 256 1000 1000 0 1 3 35
  else if n = 2 then FaultSrc.row 3 1 1000 16 1000 1000 0 1 3 35
  else if n = 3 then FaultSrc.row 3 1 1000 1 1000 10000 2 1 3 99
  else if 4 ≤ n ∧ n ≤ 7 then FaultSrc.row 2 1 1000 1 1000 1000 4 1 3 3
  else if n = 8 ∨ (167 ≤ n ∧ n ≤ 170) ∨ (112 ≤ n ∧ n ≤ 127) then FaultSrc.row 1 1 1000 1 1000 1000 0 1 1 3
  else if n = 9 ∨ n = 11 ∨ n = 55 ∨ n = 389 ∨ (384 ≤ n ∧ n ≤ 387) ∨ 480 ≤ n then FaultSrc.row 2 1 1000 1 1000 10000 0 1 3 3
  else if n = 10 ∨ n = 388 then FaultSrc.row 3 1 1000 1 1000 86400000 1 1 3 67
  else if 32 ≤ n ∧ n ≤ 36 then FaultSrc.row 3 1 1000 4 10000 1000 8 1 3 35
  else if 37 ≤ n ∧ n ≤ 54 then FaultSrc.row 3 8 1000 128 1000 1000 0 1 3 35
  else if n = 64 then FaultSrc.row 3 4 10000 16 10000 10000 0 1 3 11
  else if n = 65 ∨ n = 66 ∨ n = 68 ∨ n = 69 then FaultSrc.row 2 1 1000 1 1000 10000 0 1 3 3
  else if n = 67 ∨ n = 70 then FaultSrc.row 3 1 1000 1 1000 10000 0 1 3 3
  else if 96 ≤ n ∧ n ≤ 111 then FaultSrc.row 3 2 86400000 4 3600000 3600000 0 5 7 39
  else if (128 ≤ n ∧ n ≤ 143) ∨ n = 145 then FaultSrc.row 2 1 1000 1 1000 10000 0 5 7 3
  else if n = 144 ∨ n = 161 ∨ n = 248 ∨ (192 ≤ n ∧ n ≤ 247) ∨ (276 ≤ n ∧ n ≤ 285) ∨ (320 ≤ n ∧ n ≤ 351) then
    FaultSrc.row 2 1 1000 1 1000 10000 6 1 3 3
  else if n = 160 then FaultSrc.row 1 1 1000 1 1000 10000 0 3 3 3
  else if 162 ≤ n ∧ n ≤ 166 then FaultSrc.row 3 1 1000 4 1000 1000 8 1 3 35
  else if 256 ≤ n ∧ n ≤ 275 then FaultSrc.row 2 1 1000 1 1000 100 8 1 3 3
  else if 286 ≤ n ∧ n ≤ 317 then FaultSrc.row 2 1 1000 1 1000 10000 3 1 7 3
  else if (352 ≤ n ∧ n ≤ 355) ∨ (360 ≤ n ∧ n ≤ 363) then FaultSrc.row 2 1 1000 1 1000 10000 0 1 3 3
  else if 356 ≤ n ∧ n ≤ 359 then FaultSrc.row 2 16 1000 1 1000 1000 0 1 3 3
  else FaultSrc.row 2 1 1000 1 1000 10000 0 1 3 3

/-- A source at core reset (R503). -/
def FaultSrc.reset (n : Nat) : FaultSrc :=
  { state := .clear, par := (FaultSrc.defaults n).1, newPar := none, masks := (FaultSrc.defaults n).2, subs1 := [], subs2 := [],
    lastTick := 0, lastCount := 0, lastObj := 0, lastDetail := 0, recoveries := [], events := 0, heldMute := [], heldStop := [], degraded := [],
    releaseDue := false }

/-- The collector at core reset (R503, R525). -/
def Faults.reset : Faults :=
  { srcs := Vector.ofFn (fun n => FaultSrc.reset n.val), inbox := [], due := [], firstValid := false, alarm := false, simul := false,
    firstSource := 0, firstState := 0, firstOthers := 0, firstCount := 0, firstSeq := 0, firstSeqDue := false }

/-- An empty Guestbook (R560). -/
def Guestbook.reset : Guestbook :=
  { queue := [], collectorWait := [], intakeClosed := false, overflowPending := Vector.replicate 9 0, overflowFirstUs := 0,
    overflow := Vector.replicate 9 0, tail := none, tailGeneration := 0, seqNext := 0, staged := [], flash := [], taken := 0, notes := [],
    committing := false, ready := false, erasing := false, holdup := false, flashFault := false, resumed := false, torn := 0,
    clearBoundary := 0, wallSeconds := 0, wallValid := false, wallSetUs := none, wallBaseUs := 0, powerCycles := 0,
    generalUsed := 0, generalSector := 0, retainedUsed := 0, retainedSector := 0, generalPasses := 0, retainedPasses := 0,
    rateSubs := [], rateStartUs := 0, authFailures := 0, lastAuthFailTick := none, nonce := none, checkpointUs := 0,
    checkpointCycles := 0, checkpointSeq := 0, checkpointWall := 0, checkpointWallValid := false }

/-- A House Rules frequency range (R591): span in Hz, directions, G_HR. -/
structure HrRange where
  low : Nat
  high : Nat
  dl : Bool
  ul : Bool
  gHr : Int
  deriving DecidableEq, Repr

/-- The House Rules in force (R591, R592). -/
structure HouseRules where
  donorMandatory : Bool
  sleepPermitted : Bool
  mHr : Int
  dlDuty : Nat
  ulDuty : Nat
  uIcpt : Int
  uSlope : Int
  uKnee : Int
  ranges : List HrRange
  pCompMax : Vector Int 8
  pChMax : Vector Int 8
  keys : Vector (List Byte) 4
  keysEnrolled : BitVec 4
  deriving DecidableEq, Repr

/-- Empty House Rules (R592). -/
def HouseRules.empty : HouseRules :=
  { donorMandatory := true, sleepPermitted := false, mHr := 3000, dlDuty := 0, ulDuty := 0, uIcpt := 0, uSlope := 100,
    uKnee := -12000, ranges := [], pCompMax := Vector.replicate 8 (-2000), pChMax := Vector.replicate 8 (-2000),
    keys := Vector.replicate 4 [], keysEnrolled := 0 }

/-- Power states (R567); off appears only in records. -/
inductive PowerState where
  | starting
  | active
  | quiet
  | stopped
  | sleep
  deriving DecidableEq, Repr

/-- The transition in progress (R568, R718). stopping carries the stop reason code of R571 and the faulted source that
ordered it; restarting says whether it is automatic; sleeping the step of R575 reached. -/
inductive Transition where
  | none
  | stopping (reason : Nat) (source : Option (Fin 512))
  | restarting (automatic : Bool)
  | sleeping (step : Nat)
  | quieting
  deriving DecidableEq, Repr

/-- Operating mode (R2). Factory production test modes are not given behaviour. -/
inductive Mode where
  | native
  | compat
  | factoryA
  | factoryB
  deriving DecidableEq, Repr

/-- State of the Innkeeper core (R563, R581). -/
inductive InnState where
  | starting
  | running
  | restarting
  deriving DecidableEq, Repr

/-- An Innkeeper patch slot in flash (R582, R583): the image of a verified load. -/
structure PatchSlot where
  valid : Bool
  version : Word
  security : Half
  failed : Bool
  expiries : Nat
  deriving DecidableEq, Repr

/-- States of a Lodger core (R586). -/
inductive LodgerState where
  | empty
  | loaded
  | running
  | stopped
  deriving DecidableEq, Repr

/-- A Lodger image as loaded (R585). -/
structure LodgerImage where
  autostart : Bool
  autorestart : Bool
  entry : Word
  version : Word
  crc : Word
  body : List Byte
  deriving DecidableEq, Repr

/-- A Lodger core (R584-R588): state, image, watchdog period (0: not set) and its last kick in slow ticks, whether a restart is due
(R586), its 4 KiB of retained memory as (offset, byte) cells and the image stored in the partitions A and B. -/
structure Lodger where
  state : LodgerState
  image : Option LodgerImage
  watchdogMs : Nat
  kickedTick : Nat
  restartDue : Bool
  retained : List Host.Cell
  storedA : Option LodgerImage
  storedB : Option LodgerImage
  lastStoredB : Bool
  trapped : Bool
  deriving DecidableEq, Repr

/-- Wake receiver set-up NPT_WK_CFGn (R603). -/
structure WakeCfg where
  enable : Bool
  activity : Bool
  threshold : BitVec 6
  lookMs : BitVec 6
  looks : BitVec 4
  deriving DecidableEq, Repr

/-- The Night Porter (R574-R579, R603). armed says whether comparators 2 and 3 are armed (R577); held is a supply comparator that
holds the core in reset; critHold and boardHold say that a critical cutoff and RESET_N hold it. -/
structure NightPorter where
  below : BitVec 4
  tripped : BitVec 4
  rtcOk : Bool
  critLatched : Bool
  wakeCause : Nat
  receivers : Byte
  wakes : Half
  alarm : Word
  retention : BitVec 6
  wk : Vector WakeCfg 8
  armed : BitVec 4
  held : BitVec 4
  wakeLatched : Option Nat
  npPending : BitVec 4
  critHold : Bool
  boardHold : Bool
  parkedSet : List (Fin 512)
  deriving DecidableEq, Repr

/-- A stored configuration (R589): the accepted commands in replay order, the reaction table's and the fault parameters' among them, and
the port maps. -/
structure SavedConfig where
  valid : Bool
  autostart : Bool
  items : List Desc
  mapTx : Vector (BitVec 4) 8
  mapRx : Vector (BitVec 4) 8
  deriving DecidableEq, Repr

/-- Straps, power states, resets, firmware (13_start_up_trust_and_house_rules.md). coreUp says that core reset is released;
vauxValid that VAUX is applied; accepted is the accepted configuration in order (R589). -/
structure System where
  straps : Straps
  mode : Mode
  power : PowerState
  stopReason : Nat
  stopSource : Option (Fin 512)
  transition : Transition
  stoppedRails : BitVec 10
  rfReady : Bool
  autonomous : Bool
  restarts : List Nat
  abandonedRestart : Bool
  coreUp : Bool
  vauxValid : Bool
  startKind : Nat
  rfReadyMs : Nat
  resetDueTick : Option Nat
  sleepAfterS : Nat
  wakeHoldS : Nat
  lossSinceTick : Option Nat
  wokeTick : Option Nat
  perst : Bool
  wakeN : Bool
  l2WaitSince : Option Nat
  cfgReady : Bool
  configSkipped : Nat
  innkeeper : InnState
  restartForPatch : Bool
  bootTick : Nat
  bootUs : Nat
  patchSlot : Bool
  romOnly : Bool
  slotA : PatchSlot
  slotB : PatchSlot
  patchFloor : Half
  lodgers : Vector Lodger 4
  npt : NightPorter
  accepted : List Desc
  saved : SavedConfig
  sleepImage : SavedConfig
  calStore : Vector (Int × Int) 8
  deriving DecidableEq, Repr

/-- OTP of House Rules (R591-R595): images of the five slots (written or not), blown generation fuses, lock, nonce with the slow tick
of its issue, the rules in force. -/
structure HrStore where
  slots : Vector (List Byte) 5
  used : BitVec 5
  programmed : BitVec 5
  locked : Bool
  integrityOk : Bool
  inForce : Option (Fin 5)
  rules : HouseRules
  nonce : Option (BitVec 128 × Nat)
  deriving DecidableEq, Repr

/-- Empty patch slot. -/
def PatchSlot.reset : PatchSlot := { valid := false, version := 0, security := 0, failed := false, expiries := 0 }

/-- Lodger core with no image (R586). -/
def Lodger.reset : Lodger :=
  { state := .empty, image := none, watchdogMs := 0, kickedTick := 0, restartDue := false, retained := [], storedA := none,
    storedB := none, lastStoredB := false, trapped := false }

/-- Wake receiver defaults (R603). -/
def WakeCfg.reset : WakeCfg := { enable := false, activity := false, threshold := 0, lookMs := 0x0A, looks := 0x3 }

/-- The Night Porter at power-on reset (R603). -/
def NightPorter.reset : NightPorter :=
  { below := 0, tripped := 0, rtcOk := false, critLatched := false, wakeCause := 0, receivers := 0, wakes := 0, alarm := 0,
    retention := 0, wk := Vector.replicate 8 WakeCfg.reset, armed := 0, held := 0, wakeLatched := none, npPending := 0, critHold := false, boardHold := false,
    parkedSet := [] }

/-- No saved configuration. -/
def SavedConfig.reset : SavedConfig :=
  { valid := false, autostart := false, items := [], mapTx := Vector.replicate 8 0xF, mapRx := Vector.replicate 8 0xF }

/-- The system at power-on reset with core reset just released; the straps read NATIVE, code 0 and no twin (DESIGN CHOICE, log
entry 2). -/
def System.reset : System :=
  { straps := { mode := 0, bootv := 0, devid := 0, twinSel := false }, mode := .native, power := .starting, stopReason := 0,
    stopSource := none, transition := .none, stoppedRails := 0, rfReady := false, autonomous := false, restarts := [],
    abandonedRestart := false, coreUp := true, vauxValid := true, startKind := 0, rfReadyMs := 0,
    resetDueTick := none, sleepAfterS := 0, wakeHoldS := 60, lossSinceTick := none, wokeTick := none, perst := false,
    wakeN := false, l2WaitSince := none, cfgReady := false, configSkipped := 0, innkeeper := .starting, restartForPatch := false,
    bootTick := 0, bootUs := 0, patchSlot := false, romOnly := true, slotA := PatchSlot.reset, slotB := PatchSlot.reset,
    patchFloor := 0, lodgers := Vector.replicate 4 Lodger.reset, npt := NightPorter.reset, accepted := [],
    saved := SavedConfig.reset, sleepImage := SavedConfig.reset, calStore := Vector.replicate 8 (0, 0) }

/-- OTP as manufactured: nothing programmed, not locked (R592). -/
def HrStore.reset : HrStore :=
  { slots := Vector.replicate 5 [], used := 0, programmed := 0, locked := false, integrityOk := true, inForce := none,
    rules := HouseRules.empty, nonce := none }

/-- Engine states (R282). -/
inductive EngineState where
  | idle
  | active
  | spare
  | shadow
  | testing
  | retired
  deriving DecidableEq, Repr

/-- An engine (R278, R282, R293, R294, R319, R325). slacks holds up to 256 last slack values, newest last; lowRun and highRun count consecutive
block periods with slack at 25 or less and at 26 or more; failTick is the slow tick of its last check failure (R307);
attributed says that a late block was attributed to it (R295). -/
structure Engine where
  state : EngineState
  notice : Bool
  late : Bool
  slack : Nat
  slacks : List Nat
  lowRun : Nat
  highRun : Nat
  lateBlocks : Word
  checkFails : Nat
  migrationsOut : Nat
  failTick : Option Nat
  attributed : Bool
  deriving DecidableEq, Repr

/-- A segment of a kernel instance (R289): kernel (R284), instance (receive element of a CANCEL), path 4 i + j of a CANCEL or PROBE,
slice of 16 taps, cost in MAC/s, and the engine that runs it; none while no engine does (R309). -/
structure Segment where
  kernel : Nat
  inst : Nat
  path : Nat
  slice : Nat
  cost : Nat
  engine : Option (Fin 256)
  deriving DecidableEq, Repr

/-- Wing memory reserved for an instance or a reference history (R280, R182): kernel 6 stands for a RELAY, 7 for a history. -/
structure MemUse where
  kernel : Nat
  inst : Nat
  wing : Fin 16
  bytes : Nat
  deriving DecidableEq, Repr

/-- An assignment (R288). shapeTaps are T_sh taps as the parameter block holds them; none are Jallor's taps of the class (R286). detect is
the DETECT parameter block; ran says that a standalone instance has processed a block (R315); filling is the block of the direction until which the
histories of a rebuilt instance are filled (R309). -/
structure Assignment where
  used : Bool
  cls : Nat
  wingMask : BitVec 16
  tSh : Nat
  shapeTaps : List Int
  versions : Vector Nat 7
  detect : List Byte
  ran : Bool
  filling : Option Nat
  segs : List Segment
  mem : List MemUse
  deriving DecidableEq, Repr

/-- Steps of a migration (R300, R303): history and state are copied, shadow processing, the target's self-test. -/
inductive MigrationStep where
  | copying
  | shadow
  | selfTest
  deriving DecidableEq, Repr

/-- The comparator's copy of what a live segment gave for a block, until the outputs of the engines in shadow have come (R301): those still to come, and
whether one has differed or come late. -/
structure LiveCopy where
  sequence : Half
  ordinal : Nat
  out : List Block
  waits : List (Fin 256)
  failed : Bool
  deriving DecidableEq, Repr

/-- A comparator (R300, R301): copies, oldest first, consecutive agreements, blocks since shadow processing began, outputs that came after their block's
deadline, and the sequence of the last block that the live segment processed. -/
structure Comparator where
  copies : List LiveCopy
  agreed : Nat
  seen : Nat
  late : Nat
  last : Half
  deriving DecidableEq, Repr

/-- A migration (R300): the segments moved with their targets, the block the shadow starts at, the ring of the command that waits, which targets were
spares, the comparator; since is the direction's block count at the decision and fill the blocks that the target wing's history takes (step 2). A kernel
upgrade (R313) gives the kernel and version; one without agreement takes over at the block that carries the epoch of a ticket. -/
structure Migration where
  asg : Fin 256
  moves : List (Segment × Fin 256)
  step : MigrationStep
  startBlock : Half
  ring : Option (Fin 22)
  wasSpare : List (Fin 256)
  comparator : Comparator
  since : Nat
  fill : Nat
  upgrade : Option (Nat × Nat)
  agree : Bool
  ticket : Option Nat
  deriving DecidableEq, Repr

/-- A segment set that an engine in TESTING runs in shadow beside its replacement, with its comparator (R307). -/
structure TestRun where
  engine : Fin 256
  asg : Fin 256
  segs : List Segment
  comparator : Comparator
  deriving DecidableEq, Repr

/-- Placement policy (R320). -/
structure Policy where
  enable : Bool
  reserve : Nat
  maxMigrations : Nat
  respare : Bool
  agreeBlocks : Nat
  migrateLimit : Nat
  avsSlackTarget : Nat
  testBlocks : Nat
  deriving DecidableEq, Repr

/-- A wing (R280, R296, R297): smoothed slack, the least slack of its ACTIVE engines in up to 256 last periods, newest last, run of low periods,
WING_SLOW, ECC corrections, multiply-accumulates executed since the last slow tick (R475). -/
structure Wing where
  slack : Nat
  lows : List Nat
  lowRun : Nat
  slow : Bool
  eccCorrected : Nat
  macs : Nat
  deriving DecidableEq, Repr

/-- A kernel catalogue (R311): versions, security, the kernels it holds with their versions and whether each is output-identical. -/
structure Catalogue where
  version : Word
  security : Half
  kernels : List (Nat × Nat × Bool)
  deriving DecidableEq, Repr

/-- The engine pool (06_engine_pool.md). minSecurity is the Innkeeper's (R312); upgradeAt counts the segments upgraded by a catalogue
activation in progress. -/
structure EnginePool where
  engines : Vector Engine 256
  wings : Vector Wing 16
  asgs : Vector Assignment 256
  migrations : List Migration
  tests : List TestRun
  policy : Policy
  policyNext : Option Policy
  catalogue : Catalogue
  staged : Option Catalogue
  minSecurity : Half
  migrationCount : Half
  takeovers : Half
  checkFailures : Nat
  eccUncorrected : Nat
  deriving DecidableEq, Repr

/-- An engine at reset: the last of each wing is a spare (R278). -/
def Engine.reset (n : Nat) : Engine :=
  { state := if n % 16 = 15 then .spare else .idle, notice := false, late := false, slack := 255, slacks := [], lowRun := 0, highRun := 0,
    lateBlocks := 0, checkFails := 0, migrationsOut := 0, failTick := none, attributed := false }

/-- An assignment not in use; SHAPE takes 32 taps (R286). -/
def Assignment.reset : Assignment :=
  { used := false, cls := 0, wingMask := 0, tSh := 32, shapeTaps := [], versions := Vector.replicate 7 0, detect := [], ran := false, filling := none,
    segs := [], mem := [] }

/-- A comparator before its first block. -/
def Comparator.reset : Comparator := { copies := [], agreed := 0, seen := 0, late := 0, last := 0 }

/-- Placement defaults (R320). -/
def Policy.reset : Policy :=
  { enable := true, reserve := 10, maxMigrations := 4, respare := true, agreeBlocks := 16, migrateLimit := 4096, avsSlackTarget := 64,
    testBlocks := 65536 }

/-- A wing at reset (R325). -/
def Wing.reset : Wing := { slack := 255, lows := [], lowRun := 0, slow := false, eccCorrected := 0, macs := 0 }

/-- The catalogue in the part as made: the seven kernels of R284 (R325: version and security 0). -/
def Catalogue.reset : Catalogue := { version := 0, security := 0, kernels := (List.range 7).map (fun k => (k, 0, false)) }

/-- The engine pool at reset (R278, R325). -/
def EnginePool.reset : EnginePool :=
  { engines := Vector.ofFn (fun n => Engine.reset n.val), wings := Vector.replicate 16 Wing.reset,
    asgs := Vector.replicate 256 Assignment.reset, migrations := [], tests := [], policy := Policy.reset, policyNext := none,
    catalogue := Catalogue.reset, staged := none, minSecurity := 0, migrationCount := 0, takeovers := 0, checkFailures := 0,
    eccUncorrected := 0 }


/-- States of the frame timer (R330). -/
inductive FrameState where
  | free
  | acquire
  | locked
  | holdover
  deriving DecidableEq, Repr

/-- What the synchroniser keeps of a source (R329, R330): consecutive good reports, the frame start last reported in counts since core
release, when. -/
structure SyncTrack where
  good : Nat
  lastOrigin : Int
  lastAt : Nat
  deriving DecidableEq, Repr

/-- The frame timer (R326-R332). origin is the count at which the current frame began; phaseError is in 1/16 count; slewAcc accumulates the
holdover frequency in 10^-9 count; length is the current frame's in counts; step is a pending step by a number of counts with its stage: 1 decided, 2 hold begun, 3 taken;
holdEnd is the count at which the last timing hold ended;
tracks are by source code. -/
structure FrameTimer where
  state : FrameState
  sources : Vector Nat 4
  detectAsg : Nat
  donorOffset : Int
  ppsOffset : Nat
  holdoverS : Nat
  lossMs : Nat
  stepLimit : Nat
  tracked : Nat
  origin : Nat
  length : Nat
  frameNumber : Nat
  phaseError : Int
  freqPpb : Int
  slewAcc : Int
  slews : Half
  step : Option (Int × Nat)
  holdEnd : Option Nat
  tracks : Vector SyncTrack 5
  holdoverSince : Nat
  ppsCapture : Word
  ppsPhase : BitVec 3
  ppsValid : Bool
  ppsMissed : Nat
  ppsMissRun : Nat
  deriving DecidableEq, Repr

/-- A TDD pattern (R333): segments as (length, kind), kind 0 DL, 1 UL, 2 GAP. -/
structure Pattern where
  period : Nat
  offset : Nat
  segs : List (Nat × Nat)
  deriving DecidableEq, Repr

/-- A pattern slot: the pattern in force and one that waits for its switch instant (R338). -/
structure PatternSlot where
  cur : Option Pattern
  next : Option (Pattern × Nat)
  deriving DecidableEq, Repr

/-- A synthesiser plan (R344); calTemp is the temperature of its calibration in 1/64 degree C, none when it has none. -/
structure LoPlan where
  used : Bool
  synth : Nat
  freq : Nat
  level : Nat
  autocal : Bool
  calTemp : Option Int
  deriving DecidableEq, Repr

/-- A synthesiser (R343-R349). tuneAt is the count at which its current retune began; lockedAt that of its last lock, and spells the spells of lock before
it, from and to, as far back as a turn-round instant may lie (R346). -/
structure Lo where
  locked : Bool
  settling : Bool
  calibrating : Bool
  recalAdvised : Bool
  plan : Fin 256
  unlocks : Half
  lastLock : Nat
  worstLock : Nat
  tuneAt : Nat
  lockedAt : Nat
  spells : List (Nat × Nat)
  deriving DecidableEq, Repr

/-- Transmission on a port (R347, R371): enabled, the ring of a TX_ENABLE that waits with the count at which it began, and the count at
which its last hold ended; openedAt is the count at which the first hold-free spell since it was enabled began (R347). -/
structure TxPort where
  enabled : Bool
  waiting : Option (Fin 22)
  waitFrom : Nat
  startedAt : Nat
  openedAt : Option Nat
  blankedAt : Option Nat
  deriving DecidableEq, Repr

/-- Role of a front-end pin (R350). -/
structure FePin where
  role : Nat
  port : Fin 8
  activeHigh : Bool
  onOffset : Int
  offOffset : Int
  deriving DecidableEq, Repr

/-- An entry of a serial master's queue (R353) with the count at which it is next due. -/
structure SerialEntry where
  trigger : Word
  kind : Nat
  cs : Nat
  skipIfLate : Bool
  read : Bool
  len : Nat
  bytes : List Byte
  due : Nat
  deriving DecidableEq, Repr

/-- A serial master (R353-R355). running is the entry in progress; newClock waits for the master to be idle (R366). -/
structure SerialMaster where
  queue : List SerialEntry
  running : Option SerialEntry
  late : Half
  lateTol : Nat
  sclk : Nat
  mode : Nat
  newClock : Option (Nat × Nat)
  deriving DecidableEq, Repr

/-- An entry of the survey schedule with its latest result (R356, R373). -/
structure SurveyEntry where
  plan : Nat
  dwellMs : Nat
  valid : Bool
  skipped : Bool
  averaged : Nat
  endCount : Word
  bins : List Int
  deriving DecidableEq, Repr

/-- The survey receiver (R356). dwelt are the dwells of the last second as (end slow tick, ms); lockAt is the count at which the dwell's lock came, window
the samples of the spectrum in hand, power the sums of the spectra averaged so far. -/
structure Survey where
  enable : Bool
  duty : Nat
  entries : List SurveyEntry
  index : Nat
  dwelling : Bool
  dwelt : List (Nat × Nat)
  lockAt : Nat
  window : List Sample
  power : List Nat
  spectra : Nat
  deriving DecidableEq, Repr

/-- A coexistence interface (R357-R360). grantedMs are ended grants as (end slow tick, ms); blocked says that a limit ended the last grant
and REQ has not been low for 1 ms since; yielding that the affected contributions go to zero before GNT rises (R359 step 2). -/
structure Coex where
  enable : Bool
  port : Fin 4
  low : Nat
  high : Nat
  grantMaxMs : Nat
  maxDeferMs : Nat
  dutyPct : Nat
  req : Bool
  pri : Bool
  gnt : Bool
  act : Bool
  deferred : Bool
  yielding : Bool
  grants : Half
  reqAt : Nat
  grantAt : Nat
  lowAt : Nat
  blocked : Bool
  grantedMs : List (Nat × Nat)
  deriving DecidableEq, Repr

/-- Radio timing, synthesisers and front-end control (07_radio_timing_and_front_end.md). pinNext are roles that wait for a frame start
(R352). -/
structure Radio where
  timer : FrameTimer
  patterns : Vector PatternSlot 8
  plans : Vector LoPlan 256
  los : Vector Lo 5
  mapTx : Vector (BitVec 4) 8
  mapRx : Vector (BitVec 4) 8
  calWindow : Half
  tx : Vector TxPort 8
  pins : Vector FePin 48
  pinNext : Vector (Option FePin) 48
  serial : Vector SerialMaster 4
  survey : Survey
  coex : Vector Coex 2
  deriving DecidableEq, Repr

/-- A source never heard. -/
def SyncTrack.reset : SyncTrack := { good := 0, lastOrigin := 0, lastAt := 0 }

/-- The frame timer at reset (R326, R330, R376). -/
def FrameTimer.reset : FrameTimer :=
  { state := .free, sources := Vector.replicate 4 0, detectAsg := 128, donorOffset := 0, ppsOffset := 0, holdoverS := 60, lossMs := 500,
    stepLimit := 64, tracked := 0, origin := 0, length := 307200, frameNumber := 0, phaseError := 0, freqPpb := 0, slewAcc := 0, slews := 0, step := none,
    holdEnd := none,
    tracks := Vector.replicate 5 SyncTrack.reset, holdoverSince := 0, ppsCapture := 0, ppsPhase := 0, ppsValid := false, ppsMissed := 0,
    ppsMissRun := 0 }

/-- An empty plan. -/
def LoPlan.reset : LoPlan := { used := false, synth := 0, freq := 0, level := 0, autocal := false, calTemp := none }

/-- A synthesiser at reset (R376). -/
def Lo.reset : Lo :=
  { locked := false, settling := false, calibrating := false, recalAdvised := false, plan := 0, unlocks := 0, lastLock := 0,
    worstLock := 0, tuneAt := 0, lockedAt := 0, spells := [] }

/-- Transmission disabled (R347). -/
def TxPort.reset : TxPort := { enabled := false, waiting := none, waitFrom := 0, startedAt := 0, openedAt := none, blankedAt := none }

/-- A pin at reset (R376). -/
def FePin.reset : FePin := { role := 0, port := 0, activeHigh := true, onOffset := 0, offOffset := 0 }

/-- A serial master at reset (R366, R376). -/
def SerialMaster.reset : SerialMaster :=
  { queue := [], running := none, late := 0, lateTol := 8, sclk := 0, mode := 0, newClock := none }

/-- The survey at reset. -/
def Survey.reset : Survey :=
  { enable := false, duty := 100, entries := [], index := 0, dwelling := false, dwelt := [], lockAt := 0, window := [], power := [],
    spectra := 0 }

/-- A coexistence interface at reset (R374). -/
def Coex.reset : Coex :=
  { enable := false, port := 0, low := 0, high := 0, grantMaxMs := 20, maxDeferMs := 10, dutyPct := 10, req := false, pri := false,
    gnt := false, act := false, deferred := false, yielding := false, grants := 0, reqAt := 0, grantAt := 0, lowAt := 0, blocked := false, grantedMs := [] }

/-- Radio timing at reset (R376). -/
def Radio.reset : Radio :=
  { timer := FrameTimer.reset, patterns := Vector.replicate 8 { cur := none, next := none }, plans := Vector.replicate 256 LoPlan.reset,
    los := Vector.replicate 5 Lo.reset, mapTx := Vector.replicate 8 0xF, mapRx := Vector.replicate 8 0xF, calWindow := 0x0A00,
    tx := Vector.replicate 8 TxPort.reset, pins := Vector.replicate 48 FePin.reset, pinNext := Vector.replicate 48 none,
    serial := Vector.replicate 4 SerialMaster.reset, survey := Survey.reset, coex := Vector.replicate 2 Coex.reset }


/-- A mode slot of a loop (R391): template, coefficient sets A and B as sixteen signed words (R383), the active set, and the template's
state (R384-R386). -/
structure LoopSlot where
  defined : Bool
  template : Nat
  setA : Vector Int 16
  setB : Vector Int 16
  activeB : Bool
  iAcc : Int
  df : Int
  s1 : Int
  s2 : Int
  s3 : Int
  y : Int
  deriving DecidableEq, Repr

/-- A hand-over in progress (R398): incoming slot, window, tolerance, commanded rate, the step Δ once tick t0 has fixed it, ticks done,
abs(v_in - u) at the last of them, and the ring that waits; ladder says that the light-load ladder ordered it (R427). -/
structure HandOver where
  incoming : Fin 4
  window : Nat
  tol : Nat
  rate : Nat
  delta : Nat
  ticks : Nat
  gap : Nat
  ring : Option (Fin 22)
  ladder : Bool
  deriving DecidableEq, Repr

/-- A repetitive loop's parameters and store (R400-R403, R412). next holds parameters that wait for a period start (kr, q0, q1, lead,
forget, learn); index is the k of the last tick. -/
structure Repetitive where
  refSlot : Option (Fin 8)
  kr : Int
  q0 : Int
  q1 : Int
  lead : Nat
  forget : Nat
  learn : Bool
  next : Option (Int × Int × Int × Nat × Nat × Bool)
  store : List Int
  index : Nat
  resetDue : Bool
  resetRings : List (Fin 22)
  deriving DecidableEq, Repr

/-- A loop (R377-R405). supply says supply-class for a free loop; tick, rail, div and arg are the tick source of R387; the setpoint,
measurement and sink are kinds and indices of R407, setpoint kind 8 being the reference of a rail (R455's wiring). u1, ff, ff1 and e1 are the applied output, the
feed-forward written, that of the last tick, and the last error; tickFrom is the first count at which the next tick may fall, for a RAIL
loop the first cycle of the rail. noticed and faulted say that the saturation timer has reached its notice and its fault count. swapRing and startRing hold the command that waits for the tick. -/
structure Loop where
  defined : Bool
  running : Bool
  supply : Bool
  tick : Nat
  rail : Nat
  div : Nat
  arg : Nat
  setKind : Nat
  setIndex : Int
  measKind : Nat
  measIndex : Nat
  sinkKind : Nat
  sinkIndex : Nat
  satNotice : Nat
  satFault : Nat
  slots : Vector LoopSlot 4
  slot : Fin 4
  u1 : Int
  ff : Int
  ff1 : Int
  e1 : Int
  limHi : Bool
  limLo : Bool
  frozen : Bool
  accSat : Bool
  satTimer : Nat
  okRun : Nat
  noticed : Bool
  faulted : Bool
  overruns : Half
  lastCount : Word
  tickFrom : Nat
  swapPending : Bool
  swapRing : Option (Fin 22)
  startRing : Option (Fin 22)
  stopAfterSwap : Bool
  handover : Option HandOver
  rep : Repetitive
  deriving DecidableEq, Repr

/-- The Loop Engine (08_loop_engine.md). LP0-LP135 keep their state with the gain they regulate (R377). -/
structure LoopEngine where
  loops : Vector Loop 192
  inputs : Vector Half 16
  overrun : Bool
  satFault : Bool
  abandoned : Bool
  overruns : Nat
  deriving DecidableEq, Repr

/-- A slot that is not defined. -/
def LoopSlot.reset : LoopSlot :=
  { defined := false, template := 0, setA := Vector.replicate 16 0, setB := Vector.replicate 16 0, activeB := false, iAcc := 0, df := 0,
    s1 := 0, s2 := 0, s3 := 0, y := 0 }

/-- Defaults of R401 and R412, with no store. -/
def Repetitive.reset : Repetitive :=
  { refSlot := none, kr := 0x2000, q0 := 0x4000, q1 := 0x2000, lead := 2, forget := 16, learn := false, next := none, store := [],
    index := 0, resetDue := false, resetRings := [] }

/-- A loop not defined (R404, R407). -/
def Loop.reset : Loop :=
  { defined := false, running := false, supply := false, tick := 0, rail := 0, div := 1, arg := 0, setKind := 0, setIndex := 0, measKind := 0,
    measIndex := 0, sinkKind := 0, sinkIndex := 0, satNotice := 64, satFault := 1024, slots := Vector.replicate 4 LoopSlot.reset, slot := 0,
    u1 := 0, ff := 0, ff1 := 0, e1 := 0, limHi := false, limLo := false, frozen := false, accSat := false, satTimer := 0, okRun := 0,
    noticed := false, faulted := false, overruns := 0, lastCount := 0, tickFrom := 0, swapPending := false, swapRing := none, startRing := none, stopAfterSwap := false, handover := none,
    rep := Repetitive.reset }

/-- The Loop Engine at reset (R415). -/
def LoopEngine.reset : LoopEngine :=
  { loops := Vector.replicate 192 Loop.reset, inputs := Vector.replicate 16 0, overrun := false, satFault := false, abandoned := false,
    overruns := 0 }

/-- States of a rail (R431). -/
inductive RailState where
  | unconfigured
  | off
  | softStart
  | regulating
  | stopping
  | fault
  | monitor
  deriving DecidableEq, Repr

/-- A rail's plan (R455): its 48-byte buffer's fields, in the units of the table. -/
structure RailPlan where
  portMask : Byte
  phaseMask : BitVec 16
  period : Nat
  vin : Nat
  rating : Nat
  senseGain : Nat
  inductance : Nat
  rdc : Nat
  ilim : Nat
  dMax : Nat
  ssRate : Nat
  stopRate : Nat
  shortTime : Nat
  ovTrunc : Nat
  pgWin : Nat
  ovHard : Nat
  uv : Nat
  vMax : Nat
  ladder : Bool
  zeroCurrent : Bool
  tddFf : Bool
  tddSlot : Fin 8
  deEnter : Nat
  burstEnter : Nat
  burstBand : Nat
  target : Nat
  kDiv : Nat
  deriving DecidableEq, Repr

/-- A rail (R416-R443). ref is in 10^-7 mV; clock counts 2.5 ns units and cycles the switching cycles begun; duty is that of the cycle, dutyNext the last one written
(R388); refPeaks holds (clock, reference) of the last 1 ms, falling;
pgRun, badRun, ovRun, limitRun and the ladder's moveRun count switching cycles; lowTime and uvTime are in 2.5 ns units; loads are the
last 16 currents. tracking is the master with the mode 1 or 2 and the offset. faultBy lists the sources that put the rail in FAULT.
suppressed says that no on-pulse of the cycle started (R425), burst counts the pulses left of a burst (R428), moveHold the cycles in which the
ladder does not try a move to a mode again (R429). pgWait is the time since the reference reached its target (R454 NOT_REGULATING). -/
structure Rail where
  state : RailState
  plan : RailPlan
  mode : LadderMode
  ref : Nat
  target : Nat
  slew : Nat
  sensed : Nat
  current : Int
  duty : Int
  dutyNext : Int
  cycles : Nat
  clock : Nat
  refPeaks : List (Nat × Nat)
  powerGood : Bool
  pgRun : Nat
  badRun : Nat
  ovRun : Nat
  lowTime : Nat
  uvTime : Nat
  uvRaised : Bool
  limitRun : Nat
  truncating : Bool
  suppressed : Bool
  burst : Nat
  truncations : Half
  limitCycles : Half
  loads : List Int
  moveRun : Vector Nat 3
  moveHold : Vector Nat 3
  tracking : Option (Fin 10 × Nat × Int)
  faultBy : List Nat
  startRing : Option (Fin 22)
  stopRing : Option (Fin 22)
  setRing : Option (Fin 22)
  pgWait : Nat
  settled : Nat
  deriving DecidableEq, Repr

/-- States of a phase as VRC_PHASE_STATUS codes them (R462). -/
inductive PhaseState where
  | off
  | active
  | removedOpen
  | removedSense
  | dutyMirror
  deriving DecidableEq, Repr

/-- A phase (R416, R438-R443): its current in 10 mA, its driver enable, the offset of its period and the pulse of the cycle with its balance trim in edge
places of 78.125 ps (R417, R420, R421), and its runs of suspicion, ripple and range tests; othersBefore is the other phases'
current before the pulses that R438 withholds; soft says that R439's second condition was met in the run; rise is what R438 measured. -/
structure Phase where
  state : PhaseState
  current : Int
  driver : Bool
  offset : Nat
  trim : Int
  pulse : Int
  suspect : Nat
  othersBefore : Int
  rise : Int
  soft : Bool
  rippleRun : Nat
  rangeRun : Nat
  deriving DecidableEq, Repr

/-- Adaptive voltage parameters (R460). -/
structure AvsParams where
  enable : Bool
  vMin : Nat
  vMax : Nat
  rise : Nat
  fall : Nat
  aging : Nat
  deriving DecidableEq, Repr

/-- The supply controller (09_supply_control.md). vCore is in 2^-15 mV; bootFaultTick is the slow tick of the last boot fault (R449), in
time of the supply island. -/
structure Supply where
  rails : Vector Rail 10
  phases : Vector Phase 16
  bootDone : Bool
  coreLoop : Bool
  timebaseLocked : Bool
  avsEnabled : Bool
  bootRetries : BitVec 4
  bootFault : Bool
  avs : AvsParams
  avsNext : Option AvsParams
  vCore : Nat
  vFloor : Nat
  creditedWing : Fin 16
  credit : Nat
  atLimit : Bool
  topAgingWing : Fin 16
  deriving DecidableEq, Repr

/-- A plan with the defaults of R455 and nothing else. -/
def RailPlan.reset : RailPlan :=
  { portMask := 0, phaseMask := 0, period := 160, vin := 1000, rating := 1, senseGain := 50, inductance := 20, rdc := 1, ilim := 150, dMax := 90,
    ssRate := 10, stopRate := 10, shortTime := 200, ovTrunc := 50, pgWin := 30, ovHard := 150, uv := 100, vMax := 0, ladder := false,
    zeroCurrent := false, tddFf := false, tddSlot := 0, deEnter := 10, burstEnter := 2, burstBand := 1, target := 0, kDiv := 1000 }

/-- Default phases of a rail (R416). -/
def RailPlan.defaultPhases : Nat → BitVec 16
  | 0 => 0x000F
  | 1 => 0x0030
  | 2 => 0x00C0
  | 3 => 0x0300
  | 4 => 0x0C00
  | 5 => 0x1000
  | 6 => 0x2000
  | 7 => 0x4000
  | 8 => 0x8000
  | _ => 0

/-- Default port of a rail's use (R416): SUP1-SUP4 feed S0-S3, SUP5-SUP8 D0-D3. -/
def RailPlan.defaultPorts (r : Nat) : Byte := if 1 ≤ r ∧ r ≤ 8 then BitVec.ofNat 8 (2 ^ ((r + 3) % 8)) else 0

/-- A rail unconfigured, with its default phases and ports (R416). -/
def Rail.reset (r : Nat) : Rail :=
  { state := .unconfigured, plan := { RailPlan.reset with phaseMask := RailPlan.defaultPhases r, portMask := RailPlan.defaultPorts r },
    mode := .ccm, ref := 0, target := 0, slew := 0, sensed := 0, current := 0, duty := 0, dutyNext := 0, cycles := 0, clock := 0, refPeaks := [], powerGood := false, pgRun := 0,
    badRun := 0, ovRun := 0, lowTime := 0, uvTime := 0, uvRaised := false, limitRun := 0, truncating := false, suppressed := false, burst := 0, truncations := 0,
    limitCycles := 0, loads := [], moveRun := Vector.replicate 3 0, moveHold := Vector.replicate 3 0, tracking := none, faultBy := [],
    startRing := none, stopRing := none, setRing := none, pgWait := 0, settled := 0 }

/-- A phase that is off. -/
def Phase.reset : Phase :=
  { state := .off, current := 0, driver := false, offset := 0, trim := 0, pulse := 0, suspect := 0, othersBefore := 0, rise := 0, soft := false, rippleRun := 0, rangeRun := 0 }

/-- Defaults of R460, before the Innkeeper's start-up enables adaptive voltage. -/
def AvsParams.reset : AvsParams := { enable := false, vMin := 620, vMax := 800, rise := 5, fall := 1, aging := 10 }

/-- Boot voltage in mV of a BOOTV code (R447). -/
def bootMillivolts (v : BitVec 3) : Nat := 660 + 20 * v.toNat

/-- SUP0 as the boot regulator leaves it: 600 kHz, the boot voltage reached, power good (R445); the stage within R448 (log entry 24). -/
def Rail.booted (v : BitVec 3) : Rail :=
  { Rail.reset 0 with
      state := .regulating, ref := bootMillivolts v * 10000000, target := bootMillivolts v, sensed := bootMillivolts v, powerGood := true,
      pgRun := 16,
      plan := { RailPlan.reset with phaseMask := 0x000F, period := 667, vin := 12000, rating := 1500, senseGain := 500, inductance := 150,
                                    ssRate := 200, stopRate := 200, vMax := 800, target := bootMillivolts v } }

/-- The supply controller with core reset just released: SUP0 in regulation under the boot regulator, everything else off (R416, R445). -/
def Supply.booted (v : BitVec 3) : Supply :=
  { rails := Vector.ofFn (fun r => if r.val = 0 then Rail.booted v else Rail.reset r.val),
    phases := Vector.ofFn (fun p => if p.val < 4 then { Phase.reset with state := .active, driver := true, offset := p.val * 5336 } else Phase.reset),
    bootDone := true, coreLoop := false, timebaseLocked := false, avsEnabled := false, bootRetries := 0, bootFault := false,
    avs := AvsParams.reset, avsNext := none, vCore := bootMillivolts v * 32768, vFloor := 0, creditedWing := 0, credit := 0, atLimit := false,
    topAgingWing := 0 }

/-- The supply controller at the end of a power-on reset with all straps zero. -/
def Supply.reset : Supply := Supply.booted 0

/-- Parameters of a sensor (R467, R489): temperatures in 1/64 degree C, slope in 0.01 dB per degree, maximum in 0.01 dB, hysteresis in
0.25 degree. -/
structure SensorParams where
  warn : Int
  start : Int
  stop : Int
  slope : Nat
  maximum : Nat
  hyst : Nat
  dwell : Nat
  deriving DecidableEq, Repr

/-- A temperature sensor (R463-R479). reading is its last sample, tUse the throttle input of R469, inUse the temperature in use, theta the throttle
depth in 1/6400 dB; the four runs count samples towards a crossing of R466; floor is the depth below which a failed sensor's throttle may
not fall; last holds up to 16 samples, newest last. -/
structure Sensor where
  par : SensorParams
  next : Option SensorParams
  sampled : Bool
  reading : Int
  tUse : Int
  inUse : Int
  theta : Nat
  warn : Bool
  stop : Bool
  warnUp : Nat
  warnDown : Nat
  stopUp : Nat
  stopDown : Nat
  failed : Bool
  cause : Nat
  lastValid : Int
  floor : Nat
  estimateBad : Nat
  plausible : Nat
  last : List Int
  deriving DecidableEq, Repr

/-- Map of an external thermistor (R464, R491): port mask, R25 and pull-up in ohms, beta in K. -/
structure ThermistorMap where
  ports : Byte
  r25 : Word
  beta : Nat
  pullUp : Word
  deriving DecidableEq, Repr

/-- Thermal management and service life (10_thermal_and_service_life.md). latNext is a change of θ_lat and stop_time; life counts each
region in 2^-20 of 1/3 600 000 equivalent hour; lifeRetained and lifeStored are the checkpoints of R485; hot holds the highest temperature of each
of the last 24 operating hours with the hour's number; dayMark is the operating hour of the last DAILY, checkMinute
the operating minute of the last checkpoint; power is each wing's in the last tick in 0.45 nW (R475). sampleCount is the count of the last sample. -/
structure Thermal where
  sensors : Vector Sensor 32
  lateral : Nat
  stopTime : Nat
  latNext : Option (Nat × Nat)
  maps : Vector ThermistorMap 8
  steps : Vector (Fin 7) 16
  critTrips : Nat
  critTotal : Nat
  critPending : Bool
  life : Vector Nat 24
  lifeRetained : Vector Nat 24
  lifeStored : Vector Nat 24
  lifeStep : Nat
  hot : List (Nat × Int)
  dayMark : Nat
  checkMinute : Nat
  aging : Vector Nat 16
  power : Vector Nat 16
  below : Nat
  sampleCount : Word
  deriving DecidableEq, Repr

/-- Defaults of R467 for a sensor number. -/
def SensorParams.reset (n : Nat) : SensorParams :=
  if n < 24 then { warn := 6400, start := 6720, stop := 7552, slope := 100, maximum := 1200, hyst := 12, dwell := 4 }
  else { warn := 5120, start := 5440, stop := 6400, slope := 100, maximum := 1200, hyst := 12, dwell := 4 }

/-- A sensor before its first sample (R494: temperature 0). -/
def Sensor.reset (n : Nat) : Sensor :=
  { par := SensorParams.reset n, next := none, sampled := false, reading := 0, tUse := 0, inUse := 0, theta := 0, warn := false, stop := false, warnUp := 0,
    warnDown := 0, stopUp := 0, stopDown := 0, failed := false, cause := 0, lastValid := 0, floor := 0, estimateBad := 0, plausible := 0,
    last := [] }

/-- An input not mapped; the manual gives no reset values (DESIGN CHOICE, log entry 25). -/
def ThermistorMap.reset : ThermistorMap := { ports := 0, r25 := 10000, beta := 3435, pullUp := 10000 }

/-- Thermal state at reset (R475, R479, R494). -/
def Thermal.reset : Thermal :=
  { sensors := Vector.ofFn (fun n => Sensor.reset n.val), lateral := 150, stopTime := 20, latNext := none,
    maps := Vector.replicate 8 ThermistorMap.reset, steps := Vector.replicate 16 0, critTrips := 0, critTotal := 0, critPending := false,
    life := Vector.replicate 24 0, lifeRetained := Vector.replicate 24 0, lifeStored := Vector.replicate 24 0, lifeStep := 0, hot := [],
    dayMark := 0, checkMinute := 0, aging := Vector.replicate 16 0, power := Vector.replicate 16 0, below := 0, sampleCount := 0 }

/-- States of an OBX or twin link (R608). -/
inductive ObxState where
  | down
  | training
  | active
  | degraded
  | reclaiming
  deriving DecidableEq, Repr

/-- A frame that waits in a receive buffer for a billet of its class on its outbound link (R619). -/
structure HeldFrame where
  frame : ObxFrame
  outLink : Fin 4
  deriving DecidableEq, Repr

/-- A link OBX0-OBX3 or the twin link (R604-R621). lanes is the mask of lanes in use, faulty that of lanes that failed; total, free and
held are those of the last census. As a sender: freeNow are the billets now, sentSince the frames sent since the last token, heldKnown says whether
the peer's report of its held slots was taken (R621), ackFrom is when the wait for an acknowledgement began. As a receiver: slots and slotsFree are the slots
of each class held and free, recvSince the frames received since the last token, token what the last token latched (R52), owed the billets not yet
returned, accepted whether a frame was accepted since the link came up, idle the IDLE frames sent last (R606). fails counts replays in a
row of the first unacknowledged frame; downAt is the slow tick of entry to DOWN. released is the count of frames of the reclaim in progress. -/
structure ObxLink where
  state : ObxState
  lanes : BitVec 4
  rate : Nat
  neighbour : Fin 16
  known : Bool
  up : Bool
  retries : Nat
  reclaimed : Nat
  unreconciled : Nat
  total : Vector Nat 4
  free : Vector Nat 4
  held : Vector Nat 4
  freeNow : Vector Nat 4
  slots : Vector Nat 4
  sentSince : Vector Nat 4
  heldKnown : Bool
  ackFrom : Nat
  slotsFree : Vector Nat 4
  recvSince : Vector Nat 4
  token : Vector (Option CensusLatch) 4
  owed : Vector Nat 4
  accepted : Bool
  idle : List ObxFrame
  sendSeq : BitVec 12
  recvSeq : BitVec 12
  nakWait : Bool
  replay : List ObxFrame
  fails : Nat
  pending : List ObxFrame
  waiting : List HeldFrame
  downAt : Nat
  released : Nat
  billetNext : Option (Vector Nat 4)
  billetRing : Option (Fin 22)
  reclaimRing : Option (Fin 22)
  deriving DecidableEq, Repr

/-- A route-table entry (R616): port 0-3, 4 local, 7 none; the computed port beside a manual one. -/
structure Route where
  port : Nat
  computed : Nat
  manual : Bool
  hops : Nat
  deriving DecidableEq, Repr

/-- What a transmit device keeps of a split direction (R623): S, K and the state received, its own cut S while an onset is unacknowledged, when the
receive device last spoke, and whether the 10 ms of silence have acted. -/
structure SplitDir where
  chan : Fin 64
  dir : Dir
  s : Int
  k : Int
  state : Nat
  cut : Option Int
  lastTick : Nat
  silent : Bool
  deriving DecidableEq, Repr

/-- The fabric (R604-R626). topo holds the link lists of other devices as they were flooded, with their count offsets (R613, R615). -/
structure Fabric where
  links : Vector ObxLink 5
  routes : Vector Route 16
  offsets : Vector Int 16
  coordinator : Fin 16
  discovered : Bool
  level : Nat
  members : BitVec 16
  sysrefDelay : Vector Byte 2
  discoverRing : Option (Fin 22)
  discoverPorts : BitVec 4
  splits : List SplitDir
  topo : List (Fin 16 × List (Fin 16 × Int))
  deriving DecidableEq, Repr

/-- Synchronisation states of a twin pair (R637). -/
inductive TwinState where
  | solo
  | detached
  | syncing
  | lockstep
  deriving DecidableEq, Repr

/-- Twin parameters (R645). -/
structure TwinParams where
  hbPeriodUs : Nat
  hbTimeoutUs : Nat
  agree : Nat
  mirrorSample : Nat
  leadUs : Nat
  holdoffMs : Nat
  claimWaitMs : Nat
  autoResync : Bool
  takeoverDetached : Bool
  deriving DecidableEq, Repr

/-- A planned hand-over (R639): X in the count basis, the cause code of R646, the ring of a TWIN_HANDOVER, whether it was acknowledged. -/
structure TwinHand where
  x : Word
  cause : Nat
  ring : Option (Fin 22)
  acked : Bool
  deriving DecidableEq, Repr

/-- The twin pair (R627-R642). heardAt and sentAt are frame-timer counts; agreed counts agreeing blocks per direction while SYNCING;
own and peer are mirror records not yet compared, with their channel, direction and sequence in their waybill words; outbox are records that wait
for a MIRROR frame, toSend messages to the twin that wait for a billet. -/
structure Twin where
  state : TwinState
  owner : Bool
  ownerIn : Bool
  aliveIn : Bool
  ownerOut : Bool
  aliveOut : Bool
  txSel : Bool
  peer : BitVec 4
  beta : Int
  mismatches : Half
  handovers : Half
  lastSwitch : Word
  par : TwinParams
  hand : Option TwinHand
  syncRing : Option (Fin 22)
  agreed : List (Nat × Nat)
  compared : Nat
  peerBeta : Word
  own : List MirrorRec
  peerRecs : List MirrorRec
  outbox : List MirrorRec
  toSend : List ControlMsg
  heardAt : Nat
  sentAt : Nat
  detachedAt : Nat
  ownerLowAt : Nat
  fullIn : List (Nat × Nat)
  fulls : List MirrorRec
  deriving DecidableEq, Repr

/-- Registers of a legacy channel (R664): frequencies as the halves last written, the pair in force, alarms, measurements refreshed at the slow
tick; net and netOkMs belong to the safety net (R666, R667) per direction (DL, UL), oscLatched to R669. -/
structure GqDir where
  hi : BitVec 7
  lo : Half
  freq : Nat
  gain : Byte
  mute : Bool
  osc : Bool
  overPower : Bool
  iso : Nat
  power : Half
  applied : Byte
  muted : Bool
  net : Bool
  netOkMs : Nat
  oscLatched : Bool
  deriving DecidableEq, Repr

/-- A legacy channel. -/
structure GqChan where
  enable : Bool
  bw : BitVec 2
  squelch : Bool
  donorLoss : Bool
  dl : GqDir
  ul : GqDir
  deriving DecidableEq, Repr

/-- A register write that waits for its command's outcome (R659): the command's tag, the register address, the value before. -/
structure GqWait where
  tag : Half
  addr : Nat
  before : Half
  last : Bool
  deriving DecidableEq, Repr

/-- The compatibility logic (15_compatibility_mode.md). latched are _LO values held by a _HI read (R657); spiOut are the words that
CMP_MISO shifted out in the last frame and windowOut the answer of the last window read; nextTag numbers its commands. -/
structure Compat where
  ready : Bool
  run : Bool
  agl : Bool
  softReset : Bool
  alarmFault : Bool
  alarmTemp : Bool
  alarmPower : Bool
  alarmEn : BitVec 4
  dlHi : BitVec 7
  dlLo : Half
  ulHi : BitVec 7
  ulLo : Half
  dlCentre : Nat
  ulCentre : Nat
  margin : Byte
  temp : Half
  dlLimit : Half
  ulLimit : Half
  lossAbsent : BitVec 5
  lossEnable : Bool
  error : Byte
  errorValid : Bool
  chans : Vector GqChan 16
  netEvents : Half
  latched : List (Nat × Half)
  waits : List GqWait
  nextTag : Half
  spiOut : List Half
  windowOut : Word
  deriving DecidableEq, Repr

/-- The debug block (R703, R704, R710): whether the TAP left Test-Logic-Reset, the instruction in force, the refusals. -/
structure Debug where
  active : Bool
  inForce : TapInstr
  refused : Half
  deriving DecidableEq, Repr

/-- Default billets of a link (R619). -/
def ObxLink.billets (l : Nat) : Vector Nat 4 := if l < 4 then #v[160, 64, 16, 0] else #v[0, 0, 32, 192]

/-- A link at reset (R608, R647). -/
def ObxLink.reset (l : Nat) : ObxLink :=
  { state := .down, lanes := 0, rate := 0, neighbour := 0, known := false, up := false, retries := 0, reclaimed := 0, unreconciled := 0,
    total := ObxLink.billets l, free := ObxLink.billets l, held := Vector.replicate 4 0, freeNow := ObxLink.billets l,
    slots := Vector.replicate 4 0, sentSince := Vector.replicate 4 0, heldKnown := false, ackFrom := 0,
    slotsFree := ObxLink.billets l, recvSince := Vector.replicate 4 0, token := Vector.replicate 4 none, owed := Vector.replicate 4 0,
    accepted := false, idle := [], sendSeq := 0, recvSeq := 0, nakWait := false, replay := [], fails := 0, pending := [],
    waiting := [], downAt := 0, released := 0, billetNext := none, billetRing := none, reclaimRing := none }

/-- A route-table entry at reset (R647). -/
def Route.reset : Route := { port := 7, computed := 7, manual := false, hops := 0 }

/-- The fabric at reset (R647). -/
def Fabric.reset : Fabric :=
  { links := Vector.ofFn (fun l => ObxLink.reset l.val), routes := Vector.replicate 16 Route.reset, offsets := Vector.replicate 16 0,
    coordinator := 0, discovered := false, level := 0, members := 0, sysrefDelay := Vector.replicate 2 0, discoverRing := none,
    discoverPorts := 0, splits := [], topo := [] }

/-- Twin defaults (R645). -/
def TwinParams.reset : TwinParams :=
  { hbPeriodUs := 50, hbTimeoutUs := 200, agree := 256, mirrorSample := 1024, leadUs := 200, holdoffMs := 1000, claimWaitMs := 500,
    autoResync := true, takeoverDetached := true }

/-- The twin block at reset (R647). -/
def Twin.reset : Twin :=
  { state := .solo, owner := false, ownerIn := false, aliveIn := false, ownerOut := false, aliveOut := false, txSel := false, peer := 0,
    beta := 0, mismatches := 0, handovers := 0, lastSwitch := 0, par := TwinParams.reset, hand := none, syncRing := none, agreed := [],
    compared := 0, peerBeta := 0, own := [], peerRecs := [], outbox := [], toSend := [], heardAt := 0, sentAt := 0, detachedAt := 0, ownerLowAt := 0, fullIn := [], fulls := [] }

/-- A legacy direction at reset (R664). -/
def GqDir.reset : GqDir :=
  { hi := 0, lo := 0, freq := 0, gain := 0, mute := false, osc := false, overPower := false, iso := 0, power := 0x8000, applied := 0, muted := false,
    net := false, netOkMs := 0, oscLatched := false }

/-- A legacy channel at reset (R664). -/
def GqChan.reset : GqChan :=
  { enable := false, bw := 0, squelch := false, donorLoss := false, dl := GqDir.reset, ul := GqDir.reset }

/-- The legacy registers at reset (R664); the power limits read the House Rules maxima, which are -20.00 dBm before any generation (R592). -/
def Compat.reset : Compat :=
  { ready := false, run := false, agl := false, softReset := false, alarmFault := false, alarmTemp := false, alarmPower := false, alarmEn := 0xF,
    dlHi := 0, dlLo := 0, ulHi := 0, ulLo := 0, dlCentre := 0, ulCentre := 0, margin := 0x1E, temp := 0, dlLimit := 0xFFD8,
    ulLimit := 0xFFD8, lossAbsent := 0x14, lossEnable := true, error := 0, errorValid := false, chans := Vector.replicate 16 GqChan.reset,
    netEvents := 0, latched := [], waits := [], nextTag := 0, spiOut := [], windowOut := 0 }

/-- The debug block at reset (R710). -/
def Debug.reset : Debug := { active := false, inForce := .testLogicReset, refused := 0 }


/-- The state of the block. pending is the queue of commands that wait, first in, first out. now counts frame-timer counts since core
release (R326); slowTicks counts 1 kHz slow ticks; opBase is the operating time in microseconds at core release and opFrac its fraction in 1/512, kept while the core is down (R532); freeCtr
is the model's own counter that indexes free values (log entry 4); tickets numbers epoch changes. slowAt and alcAt are the instants of the last slow and ALC
ticks (R193, R232); protWait holds the protection triggers of the slow tick in progress (R257). -/
structure State where
  pending : List Instr
  now : Nat
  slowTicks : Nat
  slowAt : Nat
  alcAt : Nat
  protWait : List ProtTrigger
  opBase : Nat
  opFrac : Nat
  freeCtr : Nat
  tickets : Nat
  hif : HostIf
  links : Links
  chans : Vector Channel 64
  ports : Vector PortState 8
  ladder : LadderParams
  ladderNext : Option LadderParams
  pool : Pool
  faults : Faults
  gb : Guestbook
  sys : System
  hr : HrStore
  eng : EnginePool
  radio : Radio
  loops : LoopEngine
  supply : Supply
  thermal : Thermal
  fabric : Fabric
  twin : Twin
  compat : Compat
  dbg : Debug
  deriving DecidableEq, Repr

/-- Right after reset: the end of a power-on reset, core reset just released. -/
def State.reset : State :=
  { pending := [], now := 0, slowTicks := 0, slowAt := 0, alcAt := 0, protWait := [], opBase := 0, opFrac := 0, freeCtr := 0, tickets := 0, hif := HostIf.reset, links := Links.reset,
    chans := Vector.replicate 64 Channel.reset, ports := Vector.replicate 8 PortState.reset, ladder := LadderParams.reset, ladderNext := none,
    pool := Pool.reset, faults := Faults.reset, gb := Guestbook.reset, sys := System.reset, hr := HrStore.reset,
    eng := EnginePool.reset, radio := Radio.reset, loops := LoopEngine.reset, supply := Supply.reset, thermal := Thermal.reset,
    fabric := Fabric.reset, twin := Twin.reset, compat := Compat.reset, dbg := Debug.reset }

/-- Reasons a step stops with a fault. -/
inductive Fault where
  /-- The straps sampled at the end of a reset select Jallor production test (FACTORY_A or FACTORY_B), for which the manual gives no
  behaviour (R2, R3). Raised by the reset-end events. Safe: the model stops where the hardware goes on. -/
  | factoryMode
  deriving DecidableEq, Repr

/-- Reasons a command is refused. -/
inductive Refusal where
  /-- The command has no meaning in the model yet. Raised by exec alone. Safe. -/
  | notModelled (mnemonic : String)
  deriving DecidableEq, Repr

end Sys2Proof.Machine
end

