-- ==== Sys2Proof/Machine/Ops.lean ====
section
/-! DEFINITION. Named operations every family uses: time, rings and event records, MSI-X, the Guestbook's intake, raising a fault
source, access to channels and ports, completion records, requests for an epoch. -/

namespace Sys2Proof.Machine

/-! ## Time -/

/-- Fault ticks since core reset: tick k falls on count ceil(768 k / 25) (R495). -/
def faultTick (s : State) : Nat := 25 * s.now / 768

/-- Operating time in microseconds: it advances by 1 at each fault tick (R532). -/
def opTime (s : State) : Nat := s.opBase + faultTick s

/-- The frame-timer count (R326). -/
def frameCount (s : State) : Word := BitVec.ofNat 32 s.now

/-- The count in the device's count basis: the frame timer and the basis offset β in REFCLK_IN cycles (R635). -/
def basisNow (s : State) : Nat := ((8 * s.now + s.twin.beta) / 8).toNat

/-- The frame-timer count at which a count of the basis is reached (R635). -/
def fromBasis (n : Nat) (s : State) : Nat := ((8 * n - s.twin.beta + 7) / 8).toNat

/-- Counts in one 1 kHz slow tick. -/
def countsPerSlowTick : Nat := 30720

/-- Time moved on to an instant; it never moves back. -/
def advanceTo (n : Nat) (s : State) : State := { s with now := max s.now n }

/-! ## Rings -/

/-- Ring r (R64). -/
def ring (r : Nat) (s : State) : Ring := nth s.hif.rings r (Ring.reset 0)

/-- Change of ring r. -/
def modRing (r : Nat) (f : Ring → Ring) (s : State) : State :=
  { s with hif := { s.hif with rings := upd s.hif.rings r f } }

/-- Entries a ring holds (R65); a size of fewer than 6 bits cannot be stored (R69). -/
def Ring.size (r : Ring) : Nat := 2 ^ r.log2Size.toNat

/-- The ring takes entries or is fetched from (R107). -/
def Ring.isActive (r : Ring) : Bool := r.state == .active || r.state == .stalled

/-- The index after one entry, with the phase bit inverted at the wrap (R67). -/
def Ring.advance (now : Nat) (wasEmpty : Bool) (r : Ring) : Ring :=
  let i := r.devIndex + 1
  if i < r.size then { r with devIndex := i, oldestAt := if wasEmpty then now else r.oldestAt }
  else { r with devIndex := 0, phase := !r.phase, oldestAt := if wasEmpty then now else r.oldestAt }

/-- No message leaves for a vector: MSI-X is off, or the function or the vector is masked (PCI Express base specification; log entry 139). -/
def Pci.masks (v : Nat) (p : Pci) : Bool :=
  !p.msixEnable || p.msixMask || (nth p.msix v { addr := 0, data := 0, masked := true }).masked

/-- A vector's message: sent, or pending while it is masked. -/
def Pci.raise (v : Nat) (p : Pci) : Pci :=
  if p.masks v then { p with msixPending := p.msixPending ||| BitVec.ofNat 64 (2 ^ v) } else { p with msixSent := upd p.msixSent v (· + 1) }

/-- Pending messages that nothing masks any more are sent. -/
def Pci.release (p : Pci) : Pci :=
  (List.range 64).foldl (fun p v =>
    if p.msixPending.getLsbD v && !p.masks v then
      { p with msixPending := p.msixPending &&& ~~~(BitVec.ofNat 64 (2 ^ v)), msixSent := upd p.msixSent v (· + 1) }
    else p) p

/-- A vector raised (R102): msixRaised counts it, whether its message is masked or not. -/
def raiseVector (v : Nat) (s : State) : State :=
  { s with hif := { s.hif with msixRaised := upd s.hif.msixRaised v (· + 1), pci := s.hif.pci.raise v } }

/-- After an entry is written: the ring's vector is raised once the unread entries reach coalesce_count (0 taken as 1), at once when
coalesce_time_us is 0; the ring is then disarmed (R104). -/
def coalesce (r unread : Nat) (s : State) : State :=
  let g := ring r s
  if g.irqEnable && g.armed && decide (0 < unread) &&
      (decide (max 1 g.coalesceCount.toNat ≤ unread) || g.coalesceTimeUs == 0) then
    raiseVector g.msixVector.toNat (modRing r (fun g => { g with armed := false }) s)
  else s

/-- A ring enters ERROR: vector 63 and RING_ERROR follow (R105, R107); the event is posted by the caller. -/
def Ring.fail (cause : Nat) (r : Ring) : Ring :=
  { r with state := .error, errorCause := BitVec.ofNat 4 cause, error := true }

/-! ## Event records -/

/-- The event ring of an event (R100): EVQ0 for MINOR and above and for the Gain and protection group. -/
def eventQueue (e : EventRec) : Nat := if 2 ≤ e.severity ∨ e.code.toNat / 256 = 3 then 0 else 1

/-- An event record for a code, at the present count. -/
def eventAt (s : State) (code severity source : Nat) (bytes : List Byte) : EventRec :=
  { code := BitVec.ofNat 16 code, severity := severity, source := BitVec.ofNat 16 source, count := frameCount s,
    payload := bytes }

/-- An event written to its ring; one that finds the ring full or not active is counted as lost (R99, R101). -/
def postEntry (e : EventRec) (recorded : Bool) (seq : Word) (s : State) : State :=
  let q := eventQueue e
  let r := 40 + q
  let g := ring r s
  let held := nth s.hif.events q []
  if g.state == .active && decide (held.length + 1 < g.size) then
    let entry : EventEntry :=
      { ev := e, phase := g.phase, recorded := recorded, lost := g.lostSince, gbSequence := if recorded then seq else 0 }
    coalesce r (held.length + 1)
      { s with hif := { s.hif with events := upd s.hif.events q (· ++ [entry])
                                   rings := upd s.hif.rings r (fun g => { g.advance s.now held.isEmpty with lostSince := 0 }) } }
  else
    modRing r (fun g => { g with lost := satAdd 16 g.lost 1, lostSince := satAdd 16 g.lostSince 1 }) s

/-- An event that has no Guestbook record. -/
def postEvent (code severity source : Nat) (bytes : List Byte) (s : State) : State :=
  postEntry (eventAt s code severity source bytes) false 0 s

/-- A ring enters ERROR with its cause, raises vector 63 and posts RING_ERROR (R105, R107, R715). -/
def ringError (r cause : Nat) (s : State) : State :=
  postEvent 0x0001 2 0xFFFF (payload 16 [(0, 1, r), (1, 1, cause)])
    (raiseVector 63 (modRing r (Ring.fail cause) s))

/-! ## Guestbook intake -/

/-- Class of the events that may use the four reserved entries (R537). -/
def gbReserved (cls : Fin 9) : Bool := cls == 5 || cls == 6

/-- Room in the intake for a class: 60 entries take every class, four more take AUDIT, CALENDAR and OVERFLOW (R537). -/
def gbRoom (cls : Fin 9) (s : State) : Bool :=
  !s.gb.intakeClosed && decide (s.gb.queue.length < if gbReserved cls then 64 else 60)

/-- An event the intake cannot take: counted against its class, its ring records post with recorded 0 (R537). -/
def gbLose (g : GbEntry) (s : State) : State :=
  let first := if s.gb.overflowPending.toList.all (· == 0) then g.timeUs else s.gb.overflowFirstUs
  let s := { s with gb := { s.gb with overflowPending := upd s.gb.overflowPending g.cls.val (satAdd 32 · 1)
                                      overflow := upd s.gb.overflow g.cls.val (satAdd 32 · 1)
                                      overflowFirstUs := first } }
  g.events.foldl (fun s e => postEntry e false 0 s) s

/-- An event enters the intake queue or is counted as lost (R537); its time is the operating time at entry (R534). -/
def gbIntake (g : GbEntry) (s : State) : State :=
  let g := { g with timeUs := opTime s }
  if gbRoom g.cls s then { s with gb := { s.gb with queue := s.gb.queue ++ [g] } } else gbLose g s

/-- An event of the fault collector: it keeps the time of its fault tick (R534) and waits when the queue is full (R537). -/
def gbCollector (g : GbEntry) (s : State) : State :=
  if gbRoom g.cls s then { s with gb := { s.gb with queue := s.gb.queue ++ [g] } }
  else { s with gb := { s.gb with collectorWait := s.gb.collectorWait ++ [g] } }

/-- A record's entry of a class, with the ring events that carry its sequence. -/
def logRecord (cls severity source code : Nat) (bytes : List Byte) (events : List EventRec) (s : State) : State :=
  gbIntake { cls := Fin.ofNat 9 cls, severity := severity, source := BitVec.ofNat 16 source, code := BitVec.ofNat 16 code,
             simul := false, late := false, payload := bytes, timeUs := 0, events := events } s

/-- Source field of a record that a writer's request caused, and of the device's own (R529). -/
def writerSource (w : Nat) : Nat := 0xFE00 + w

/-- The device itself as a record's writer (R529). -/
def deviceWriter : Nat := 8

/-! ## Faults -/

/-- An event of fault source n on its way to the collector (R496). -/
def raise (n : Nat) (obj : Nat) (detail : Nat) (s : State) : State :=
  { s with faults := { s.faults with inbox := s.faults.inbox ++
      [{ src := Fin.ofNat 512 n, obj := BitVec.ofNat 16 obj, detail := BitVec.ofNat 64 detail }] } }

/-- Object value: kind in bits [15:12], index in bits [11:0] (R508). -/
def object (kind index : Nat) : Nat := 4096 * kind + index

/-- Index of a direction: 2 c + d (R508). -/
def dirIndex (c : Fin 64) (d : Dir) : Nat := 2 * c.val + (if d = .ul then 1 else 0)

/-- The object that names a direction. -/
def dirObject (c : Fin 64) (d : Dir) : Nat := object 1 (dirIndex c d)

/-- Code of a direction in fields and payloads: 0 DL, 1 UL. -/
def dirCode (d : Dir) : Int := if d = .ul then 1 else 0

/-! ## Channels and ports -/

/-- Channel c. -/
def chan (c : Fin 64) (s : State) : Channel := s.chans[c]

/-- A direction of a channel. -/
def Channel.dir (ch : Channel) (d : Dir) : Direction := if d = .ul then ch.ul else ch.dl

/-- A channel with a direction changed. -/
def Channel.setDir (ch : Channel) (d : Dir) (x : Direction) : Channel :=
  if d = .ul then { ch with ul := x } else { ch with dl := x }

/-- Direction d of channel c. -/
def direction (c : Fin 64) (d : Dir) (s : State) : Direction := (chan c s).dir d

/-- Change of channel c. -/
def modChan (c : Fin 64) (f : Channel → Channel) (s : State) : State :=
  { s with chans := s.chans.set c (f s.chans[c]) }

/-- Change of a direction. -/
def modDir (c : Fin 64) (d : Dir) (f : Direction → Direction) (s : State) : State :=
  modChan c (fun ch => ch.setDir d (f (ch.dir d))) s

/-- Change of a direction's gain state. -/
def modGain (c : Fin 64) (d : Dir) (f : GainState → GainState) (s : State) : State :=
  modDir c d (fun x => { x with gain := f x.gain }) s

/-- Change of a direction's stability machine. -/
def modStab (c : Fin 64) (d : Dir) (f : Stability → Stability) (s : State) : State :=
  modDir c d (fun x => { x with stab := f x.stab }) s

/-- Change of a direction's margin meter. -/
def modMeter (c : Fin 64) (d : Dir) (f : Meter → Meter) (s : State) : State :=
  modDir c d (fun x => { x with meter := f x.meter }) s

/-- Transmit port p. -/
def port (p : Fin 8) (s : State) : PortState := s.ports[p]

/-- Change of a port. -/
def modPort (p : Fin 8) (f : PortState → PortState) (s : State) : State :=
  { s with ports := s.ports.set p (f s.ports[p]) }

/-- Definition of a direction. -/
def ChanDef.dir (x : ChanDef) (d : Dir) : DirDef := if d = .ul then x.ul else x.dl

/-- A definition with one direction changed. -/
def ChanDef.setDir (x : ChanDef) (d : Dir) (v : DirDef) : ChanDef := if d = .ul then { x with ul := v } else { x with dl := v }

/-- The duplex code enables the direction (R144). -/
def ChanDef.enables (x : ChanDef) (d : Dir) : Bool :=
  match d with
  | .dl => x.duplex == 0 || x.duplex == 1 || x.duplex == 2
  | .ul => x.duplex == 0 || x.duplex == 1 || x.duplex == 3

/-- The channel exists and the direction is enabled. -/
def dirLive (c : Fin 64) (d : Dir) (s : State) : Bool :=
  (chan c s).state != .absent && (chan c s).defn.enables d

/-- Both directions. -/
def bothDirs : List Dir := [.dl, .ul]

/-- The directions that exist, in order of channel and of direction. -/
def liveDirs (s : State) : List (Fin 64 × Dir) :=
  (List.finRange 64).flatMap (fun c => (bothDirs.filter (fun d => dirLive c d s)).map (fun d => (c, d)))

/-- Port number of element i of a direction's receive mask (R143): DL receives on D0-D3 (0-3), UL on S0-S3 (4-7). -/
def rxPort (d : Dir) (i : Fin 4) : Fin 8 := if d = .ul then ⟨4 + i.val, by omega⟩ else ⟨i.val, by omega⟩

/-- Port number of element j of a direction's transmit mask: DL transmits on S0-S3, UL on D0-D3. -/
def txPort (d : Dir) (j : Fin 4) : Fin 8 := if d = .ul then ⟨j.val, by omega⟩ else ⟨4 + j.val, by omega⟩

/-- Elements of a port mask. -/
def maskPorts (m : BitVec 4) : List (Fin 4) := (List.finRange 4).filter (fun i => m.getLsbD i.val)

/-- Transmit ports of a direction. -/
def DirDef.txPorts (x : DirDef) (d : Dir) : List (Fin 8) := (maskPorts x.tx).map (txPort d)

/-- Receive ports of a direction. -/
def DirDef.rxPorts (x : DirDef) (d : Dir) : List (Fin 8) := (maskPorts x.rx).map (rxPort d)

/-- Definition of direction d of channel c. -/
def dirDef (c : Fin 64) (d : Dir) (s : State) : DirDef := (chan c s).defn.dir d

/-- Counts per block of a class (R33). -/
def countsPerBlock (cls : Nat) : Nat := 256 / 2 ^ cls

/-- Class latency L_c in counts (R141). -/
def classLatency : Nat → Nat
  | 0 => 264
  | 1 => 148
  | 2 => 84
  | 3 => 60
  | 4 => 53
  | 5 => 48
  | _ => 44

/-- Channel rate in Sa/s (R5's table): 7.68 MSa/s for BW5, doubling per class. -/
def channelRate (cls : Nat) : Nat := 7680000 * 2 ^ cls

/-- Occupied bandwidth in Hz (R135). -/
def occupied : Nat → Nat
  | 0 => 5000000
  | 1 => 10000000
  | 2 => 20000000
  | 3 => 40000000
  | 4 => 100000000
  | 5 => 200000000
  | _ => 400000000

/-- A ring's window in slow ticks: t slow ticks are within one PROBE window of 2^w samples of a class (R191). -/
def withinWindow (cls w t : Nat) : Bool := decide (t * (7680 * 2 ^ cls) ≤ 2 ^ w)

/-! ## Command completions -/

/-- Source q of commands. -/
def source (q : Nat) (s : State) : Source := nth s.hif.sources q Source.reset

/-- Change of source q. -/
def modSource (q : Nat) (f : Source → Source) (s : State) : State :=
  { s with hif := { s.hif with sources := upd s.hif.sources q f } }

/-- Writer code of a source's commands (R266, R587): host, Lodger cores, compatibility logic, Innkeeper. -/
def writerOf (q : Nat) : Nat := if q < 16 then 0 else if q < 20 then q - 15 else if q = 20 then 6 else 5

/-- Completion ring of a command ring (R69). -/
def boundRing (q : Nat) (s : State) : Nat := (ring q s).cplRing.val

/-- Room for one more entry in CPLQ k (R66). -/
def cplRoom (k : Nat) (s : State) : Bool :=
  (ring (16 + k) s).state == .active && decide ((nth s.hif.completions k []).length + 1 < (ring (16 + k) s).size)

/-- Fetch index of a source's queue. -/
def fetchIndex (q : Nat) (s : State) : Nat := if q < 16 then (ring q s).devIndex else (source q s).head.val

/-- A record written to CPLQ k, with the fetch index of its source ring at this moment (R80). -/
def cplWrite (k : Nat) (c : Completion) (s : State) : State :=
  let g := ring (16 + k) s
  let held := nth s.hif.completions k []
  coalesce (16 + k) (held.length + 1)
    { s with hif := { s.hif with completions := upd s.hif.completions k (· ++ [{ c with phase := g.phase, cmdqHead := fetchIndex c.sourceRing s }])
                                 rings := upd s.hif.rings (16 + k) (Ring.advance s.now held.isEmpty) } }

/-- A record handed to its completion ring; it waits in order when the ring is full (R94) or not active (log entry 7). Records of the
desk, the compatibility logic and the replay go to their own completion areas (R587). -/
def postCompletion (q : Nat) (c : Completion) (s : State) : State :=
  if q < 16 then
    let k := boundRing q s
    if (nth s.hif.waiting k []).isEmpty && cplRoom k s then cplWrite k c s
    else { s with hif := { s.hif with waiting := upd s.hif.waiting k (· ++ [c]) } }
  else { s with hif := { s.hif with inner := upd s.hif.inner (q - 16) (· ++ [{ c with cmdqHead := fetchIndex q s }]) } }

/-! ## Epochs -/

/-- The line of epochs of a kind (R37). -/
def Direction.line (x : Direction) (k : EpochKind) : EpochLine := if k = .gain then x.gainLine else x.config

/-- A direction with one line of epochs changed. -/
def Direction.setLine (x : Direction) (k : EpochKind) (l : EpochLine) : Direction :=
  if k = .gain then { x with gainLine := l } else { x with config := l }

/-- Settings requested under a kind of epoch that some unit has yet to adopt, oldest first. -/
def EpochLine.pending (l : EpochLine) : List Setting :=
  (l.lagging ++ l.stamped.toList).flatMap (·.settings) ++ l.waiting.flatMap (·.settings)

/-- A change of settings that passed the limit gates: it waits for its epoch (R37, R38). An effective count that does not lie in the
future is no effective count (R39). -/
def requestChange (c : Fin 64) (d : Dir) (k : EpochKind) (settings : List Setting) (eff : Option Word) (s : State) : State :=
  let eff := eff.filter (fun e => decide (1 ≤ (e.toNat + 2 ^ 32 - basisNow s % 2 ^ 32) % 2 ^ 32) &&
    decide ((e.toNat + 2 ^ 32 - basisNow s % 2 ^ 32) % 2 ^ 32 ≤ 2 ^ 31 - 1))
  modDir c d (fun x =>
    let l := x.line k
    x.setLine k { l with waiting := l.waiting ++ [{ ticket := s.tickets, effCount := eff, settings := settings }] })
    { s with tickets := s.tickets + 1 }

/-- A free value's index taken (log entry 4). -/
def takeFree (s : State) : Nat × State := (s.freeCtr, { s with freeCtr := s.freeCtr + 1 })

/-- The link has trained (R59, R106): to a width and a speed that the manual leaves to the link partner (free values). -/
def trainLink (s : State) : State :=
  let n := takeFree s
  let v := (Config.freeValue n.1).toNat
  { n.2 with hif := { n.2.hif with linkWidth := BitVec.ofNat 3 (1 + v % 4), linkSpeed := BitVec.ofNat 2 (1 + v / 4 % 3) } }

/-- A failed read of host memory, logged through AER as an uncorrectable error (R108): a poisoned completion, a completion time-out, a completer abort or
an unsupported request. Which of them it was the command does not say, so that the bit is a free one of these (log entry 139). -/
def logAer (s : State) : State :=
  let n := takeFree s
  let bit : Nat := match (Config.freeValue n.1).toNat % 4 with
    | 0 => 12
    | 1 => 14
    | 2 => 15
    | _ => 20
  { n.2 with hif := { n.2.hif with pci := { n.2.hif.pci with aer := n.2.hif.pci.aer ||| BitVec.ofNat 32 (2 ^ bit) } } }

/-- HOST_ERROR with its AER log (R108). -/
def hostError (s : State) : State := raise 11 (object 0 0) 0 (logAer s)

end Sys2Proof.Machine
end

