-- ==== Sys2Proof/Machine/Holds.lean ====
section
/-! DEFINITION. What other units say of a direction or a port: addresses and routes (R615), effective latency (R624, R629), TDD windows
(R333-R336), transmit holds (R340), coexistence (R357, R358), the wing throttle of an instance (R183, R471). -/

namespace Sys2Proof.Machine

/-! ## Addresses -/

/-- TWIN_SEL as the device takes it: COMPAT reads it as 0 (R648). -/
def twinStrapped (s : State) : Bool := s.sys.straps.twinSel && s.sys.mode != .compat

/-- The device's fabric address: its DEVID (R615). -/
def deviceAddress (s : State) : Nat := s.sys.straps.devid.toNat

/-- Address stamped as source_device: the pair address 2k in a twin pair (R636). -/
def stampAddress (s : State) : Nat := if twinStrapped s then 2 * (deviceAddress s / 2) else deviceAddress s

/-- Route-table entry of an address. -/
def routeOf (a : Nat) (s : State) : Route := nth s.fabric.routes a Route.reset

/-- An address the device can send to: its own, or one the route table names (R626). -/
def routeKnown (a : Nat) (s : State) : Bool := a == deviceAddress s || (decide (a < 16) && decide ((routeOf a s).port ≤ 3))

/-- A device field's address: 0xFF is this device (R143). -/
def fieldAddress (a : Byte) (s : State) : Nat := if a = 0xFF then deviceAddress s else a.toNat

/-- A direction's receive and transmit devices differ (R622). -/
def isSplit (df : DirDef) (s : State) : Bool := fieldAddress df.rxDevice s != fieldAddress df.txDevice s

/-- This device runs the direction's part before GAIN. -/
def onReceiveDevice (df : DirDef) (s : State) : Bool := fieldAddress df.rxDevice s == deviceAddress s

/-- This device runs the direction's GAIN and synthesiser. -/
def onTransmitDevice (df : DirDef) (s : State) : Bool := fieldAddress df.txDevice s == deviceAddress s

/-- The other device of a split direction. -/
def otherDevice (df : DirDef) (s : State) : Nat :=
  if onReceiveDevice df s then fieldAddress df.txDevice s else fieldAddress df.rxDevice s

/-- Effective class latency in counts: L_c, 2 (6 h + 10) more over h hops, 8 more in a twin pair (R624, R629). -/
def latencyOf (cls : Nat) (df : DirDef) (s : State) : Nat :=
  classLatency cls + (if isSplit df s then 2 * (6 * (routeOf (otherDevice df s) s).hops + 10) else 0) +
    (if twinStrapped s then 8 else 0)

/-- Effective class latency of a direction. -/
def effLatency (c : Fin 64) (d : Dir) (s : State) : Nat := latencyOf (chan c s).defn.cls (dirDef c d s) s

/-! ## TDD -/

/-- Counts in a frame (R327). -/
def frameCounts : Nat := 307200

/-- A channel is TDD (R144). -/
def isTdd (c : Fin 64) (s : State) : Bool := (chan c s).defn.duplex == 1

/-- Pattern in force in a slot. -/
def patternOf (slot : Nat) (s : State) : Option Pattern := (nth s.radio.patterns slot { cur := none, next := none }).cur

/-- A slot holds a pattern (R144). -/
def patternDefined (slot : Nat) (s : State) : Bool := (patternOf slot s).isSome

/-- Position of a count in the frame (R326), on the grid of the current frame: a count that a slew adds stays in the frame's last segment (R327). -/
def framePosition (t : Int) (s : State) : Nat :=
  let k := t - s.radio.timer.origin
  let len : Int := s.radio.timer.length
  if k < 0 then (k % (frameCounts : Int)).toNat
  else if k < len then (min k (frameCounts - 1)).toNat
  else ((k - len) % (frameCounts : Int)).toNat

/-- The count near an estimate, not before a bound, at which something holds: a slewed frame moves it by one (R327). -/
def settleCount (hit : Nat → Bool) (bound u : Nat) : Nat := ([u, u - 1, u + 1].find? (fun v => decide (bound ≤ v) && hit v)).getD u

/-- Position of a count in a pattern's period (R333). -/
def Pattern.position (p : Pattern) (t : Int) (s : State) : Nat :=
  (((framePosition t s : Int) - p.offset) % (p.period : Int)).toNat

/-- Kind of the segment that holds a position: 0 DL, 1 UL, 2 GAP. -/
def kindAt : List (Nat × Nat) → Nat → Nat
  | [], _ => 2
  | (len, kind) :: rest, pos => if pos < len then kind else kindAt rest (pos - len)

/-- Counts from a position to the end of its segment. -/
def segmentLeft : List (Nat × Nat) → Nat → Nat
  | [], _ => 0
  | (len, _) :: rest, pos => if pos < len then len - pos else segmentLeft rest (pos - len)

/-- A count lies in the direction's own slots at the receive pins (R334); every count does when it is not TDD. -/
def inOwnSlot (c : Fin 64) (d : Dir) (t : Int) (s : State) : Bool :=
  if !isTdd c s then true
  else match patternOf (chan c s).defn.tdd.toNat s with
    | none => false
    | some p => kindAt p.segs (p.position t s) == (if d = .ul then 1 else 0)

/-- Counts by which d_tx exceeds L_c for a stream rate code (R334). -/
def edgeCounts : Option (Fin 4) → Nat
  | some 0 => 11
  | some 1 => 8
  | some 2 => 7
  | some 3 => 6
  | none => 11

/-- d_tx of a direction at a port (R334). -/
def txDelay (c : Fin 64) (d : Dir) (p : Fin 8) (s : State) : Nat := effLatency c d s + edgeCounts s.links.streams[p].rate

/-- A count lies in the direction's transmit window at a port (R334). -/
def inTxWindow (c : Fin 64) (d : Dir) (p : Fin 8) (t : Int) (s : State) : Bool := inOwnSlot c d (t - txDelay c d p s) s

/-- Directions that transmit on a port, and those that use it at all. -/
def transmitters (p : Fin 8) (s : State) : List (Fin 64 × Dir) :=
  (liveDirs s).filter (fun e => ((dirDef e.1 e.2 s).txPorts e.2).contains p && onTransmitDevice (dirDef e.1 e.2 s) s)

/-- See transmitters. -/
def receivers (p : Fin 8) (s : State) : List (Fin 64 × Dir) :=
  (liveDirs s).filter (fun e => ((dirDef e.1 e.2 s).rxPorts e.2).contains p && onReceiveDevice (dirDef e.1 e.2 s) s)

/-- Every direction that uses the port is TDD (R335). -/
def tddPort (p : Fin 8) (s : State) : Bool := (transmitters p s ++ receivers p s).all (fun e => isTdd e.1 s)

/-- A count lies in the port's transmit window: the union over the directions that transmit on it; always on an FDD port (R335). -/
def portTxWindow (p : Fin 8) (t : Int) (s : State) : Bool :=
  if tddPort p s then (transmitters p s).any (fun e => inTxWindow e.1 e.2 p t s) else true

/-- A count lies in the port's receive window: neither in the transmit window nor within 48 counts of it (R335). -/
def portRxWindow (p : Fin 8) (t : Int) (s : State) : Bool :=
  if tddPort p s then
    (List.range 97).all (fun k => !(transmitters p s).any (fun e => inTxWindow e.1 e.2 p (t + k - 48) s))
  else true

/-- The first boundary of the direction's pattern inside counts (first, first + len), as an offset (R336). -/
def tddBoundaryIn (c : Fin 64) (first len : Nat) (s : State) : Option Nat :=
  if !isTdd c s then none
  else match patternOf (chan c s).defn.tdd.toNat s with
    | none => none
    | some p =>
      let left := segmentLeft p.segs (p.position first s)
      if 0 < left ∧ left < len then some left else none

/-! ## Holds -/

/-- The timing hold of R332. -/
def timingHold (s : State) : Bool :=
  s.radio.timer.state == .acquire || (match s.radio.timer.step with
    | some (_, stage) => decide (2 ≤ stage)
    | none => false)

/-- Synthesiser of a port map field; 4-15 mean none (R376). -/
def loField (m : BitVec 4) : Option (Fin 5) := if m.toNat < 4 then some (Fin.ofNat 5 m.toNat) else none

/-- Synthesiser of a port's transmit path. -/
def txLo (p : Fin 8) (s : State) : Option (Fin 5) := loField s.radio.mapTx[p]

/-- Synthesiser of a port's receive path. -/
def rxLo (p : Fin 8) (s : State) : Option (Fin 5) := loField s.radio.mapRx[p]

/-- A mapped synthesiser is out of lock. -/
def loOut (lo : Option (Fin 5)) (s : State) : Bool :=
  match lo with
  | some n => !s.radio.los[n].locked
  | none => false

/-- A synthesiser was in lock at a count. -/
def Lo.lockedThen (l : Lo) (t : Int) : Bool :=
  (l.locked && decide ((l.lockedAt : Int) ≤ t)) || l.spells.any (fun v => decide ((v.1 : Int) ≤ t) && decide (t < (v.2 : Int)))

/-- A synthesiser leaves lock at a count; spells older than two frames are forgotten. -/
def Lo.unlock (t : Nat) (l : Lo) : Lo :=
  if l.locked then
    { l with locked := false, spells := l.spells.filter (fun v => decide (t ≤ v.2 + 2 * frameCounts)) ++ [(l.lockedAt, t)] }
  else l

/-- Transmit holds that act on a whole port: LO hold (R345), transmit-disable (R347). -/
def portHeld (p : Fin 8) (s : State) : Bool := loOut (txLo p s) s || !s.radio.tx[p].enabled

/-- A coexistence interface affects the channel: its UL transmits on the interface's port with a band that overlaps the range (R357). -/
def coexAffects (x : Coex) (c : Fin 64) (s : State) : Bool :=
  let df := dirDef c .ul s
  let b := occupied (chan c s).defn.cls
  x.enable && dirLive c .ul s && df.tx.getLsbD x.port.val && decide (2 * x.low ≤ 2 * df.centre + b) &&
    decide (2 * df.centre ≤ 2 * x.high + b)

/-- The coexistence grant holds a direction's contribution to a port, from the segment in which it goes to zero (R357, R359). -/
def coexHeld (c : Fin 64) (d : Dir) (p : Fin 8) (s : State) : Bool :=
  d == .ul && (List.finRange 2).any (fun i => (s.radio.coex[i].gnt || s.radio.coex[i].yielding) && s.radio.coex[i].port.val == p.val && coexAffects s.radio.coex[i] c s)

/-- A direction's contribution to a port is under a transmit hold (R340). -/
def dirHeld (c : Fin 64) (d : Dir) (p : Fin 8) (s : State) : Bool :=
  portHeld p s || (isTdd c s && timingHold s) || coexHeld c d p s

/-- ACT is high on an interface that protects the port the block was received on, for an affected channel (R358). -/
def actProtects (c : Fin 64) (_d : Dir) (p : Fin 8) (s : State) : Bool :=
  (List.finRange 2).any (fun i => s.radio.coex[i].act && s.radio.coex[i].port.val == p.val && coexAffects s.radio.coex[i] c s)

/-! ## Blanked windows -/

/-- Length of the run of segments of a kind that ends a list. -/
def runBefore (kind : Nat) (segs : List (Nat × Nat)) : Nat := ((segs.reverse.takeWhile (fun v => v.2 == kind)).map (·.1)).sum

/-- Segments of a pattern that end at or before a position, and how far the position lies inside the next one. -/
def segmentsUpTo : List (Nat × Nat) → Nat → List (Nat × Nat) × Nat
  | [], pos => ([], pos)
  | (len, kind) :: rest, pos =>
    if pos < len then ([], pos) else let v := segmentsUpTo rest (pos - len); ((len, kind) :: v.1, v.2)

/-- Counts since the own slots that hold a position of a pattern began, over the ends of periods; none where they never end. -/
def Pattern.since (p : Pattern) (kind pos : Nat) : Option Nat :=
  if p.segs.all (fun v => v.2 == kind) then none
  else
    let v := segmentsUpTo p.segs pos
    let n := runBefore kind v.1
    some (v.2 + (if n = (v.1.map (·.1)).sum then n + runBefore kind p.segs else n))

/-- Start of the direction's transmit window at a port that holds a count (R334); none for a window without a start. -/
def windowStart (c : Fin 64) (d : Dir) (p : Fin 8) (t : Int) (s : State) : Option Int :=
  (patternOf (chan c s).defn.tdd.toNat s).bind (fun v =>
    (v.since (if d = .ul then 1 else 0) (v.position (t - txDelay c d p s) s)).map (fun n => t - n))

/-- Start of a port's transmit window that holds a count: windows of its directions that meet are one (R335). -/
def portWindowStart (p : Fin 8) (t : Int) (s : State) : Option Int :=
  let es := transmitters p s
  es.foldl (fun a _ => a.bind (fun u => es.foldl (fun b e => b.bind (fun v =>
    if inTxWindow e.1 e.2 p u s then (windowStart e.1 e.2 p u s).map (min v)
    else if inTxWindow e.1 e.2 p (u - 1) s then (windowStart e.1 e.2 p (u - 1) s).map (min v)
    else some v)) (some u))) (some t)

/-- The port's synthesiser was out of lock at the turn-round instant of the window that holds a count, 48 counts before its start: the window is blanked
entirely (R346). -/
def windowBlanked (c : Fin 64) (d : Dir) (p : Fin 8) (t : Int) (s : State) : Bool :=
  match txLo p s with
  | none => false
  | some n =>
    isTdd c s && ((if tddPort p s then portWindowStart p t s else windowStart c d p t s).any (fun v => !s.radio.los[n].lockedThen (v - 48)))

/-- A count lies in a transmit window of the port that is not blanked (R335, R346). -/
def portSends (p : Fin 8) (t : Int) (s : State) : Bool :=
  portTxWindow p t s && (!tddPort p s || match txLo p s with
    | none => true
    | some n => (portWindowStart p t s).all (fun v => s.radio.los[n].lockedThen (v - 48)))

/-! ## Wing throttle -/

/-- Assignment of a direction: 2 c + d (R288). -/
def asgOf (c : Fin 64) (d : Dir) : Fin 256 := Fin.ofNat 256 (dirIndex c d)

/-- Wing that holds CANCEL's instance for a receive element. -/
def cancelWing (c : Fin 64) (d : Dir) (rx : Fin 4) (s : State) : Option (Fin 16) :=
  (s.eng.asgs[asgOf c d].mem.find? (fun m => m.kernel == 0 && m.inst == rx.val)).map (·.wing)

/-- Tap fraction in quarters and step-size shift of a throttle step (R471). -/
def throttleStep : Nat → Nat × Nat
  | 0 => (4, 0)
  | 1 => (4, 1)
  | 2 => (3, 1)
  | 3 => (3, 2)
  | 4 => (2, 2)
  | 5 => (2, 3)
  | _ => (1, 3)

/-- Throttle in force on the wing of CANCEL's instance for a receive element (R183). -/
def throttleOf (c : Fin 64) (d : Dir) (rx : Fin 4) (s : State) : Nat × Nat :=
  match cancelWing c d rx s with
  | some w => throttleStep s.thermal.steps[w].val
  | none => (4, 0)

end Sys2Proof.Machine
end

