-- ==== Sys2Proof/Machine/Flags.lean ====
section
/-! DEFINITION. Flags the device computes: reasons in force (R265, R276), mutes (R156, R255), port stops and holds, waybill words
(R29), the fields of status words. -/

namespace Sys2Proof.Machine

/-- Reason codes (R265). -/
def reasonAlc : Nat := 1
/-- See R265. -/
def reasonComposite : Nat := 2
/-- See R265. -/
def reasonCouplingCeil : Nat := 3
/-- See R265. -/
def reasonSupply : Nat := 4
/-- See R265. -/
def reasonThermal : Nat := 5
/-- See R265. -/
def reasonDonorLoss : Nat := 6
/-- See R265. -/
def reasonCoupling : Nat := 7
/-- See R265. -/
def reasonOverpower : Nat := 8
/-- See R265. -/
def reasonOutputGate : Nat := 9
/-- See R265. -/
def reasonFault : Nat := 10
/-- See R265. -/
def reasonPortStop : Nat := 11
/-- See R265. -/
def reasonCompositeOver : Nat := 12
/-- See R265. -/
def reasonMuteCount : Nat := 13
/-- See R265. -/
def reasonPorts : Nat := 14
/-- See R265. -/
def reasonOverLatched : Nat := 15
/-- See R265. -/
def reasonImplausible : Nat := 16
/-- See R265. -/
def reasonMarginLost : Nat := 17
/-- See R265. -/
def reasonHost : Nat := 18
/-- See R265. -/
def reasonPowerState : Nat := 19

/-- Bit (code - 1) of a mask of reasons (R276). -/
def hasReason (m : BitVec 20) (code : Nat) : Bool := m.getLsbD (code - 1)

/-- A mask with a reason put in. -/
def putReason (m : BitVec 20) (code : Nat) : BitVec 20 := m ||| BitVec.ofNat 20 (2 ^ (code - 1))

/-- A mask with a reason taken out. -/
def cutReason (m : BitVec 20) (code : Nat) : BitVec 20 := m &&& ~~~(BitVec.ofNat 20 (2 ^ (code - 1)))

/-- A protective mute is in force on a direction (R255): reasons holds mute reasons only. -/
def protMuted (x : Direction) : Bool := x.gain.reasons != 0

/-- The direction is muted by the host or by protection (R156). -/
def isMuted (x : Direction) : Bool := x.hostMuted || protMuted x

/-- Channels are held muted by the power state (R569). -/
def powerMuted (s : State) : Bool := s.sys.power == .quiet || s.sys.power == .stopped || s.sys.power == .sleep

/-- State and S are frozen under R206: host or protective mute, every transmit port held or stopped (R341), QUIET or STOPPED. -/
def isFrozen (x : Direction) (s : State) : Bool := isMuted x || x.held || powerMuted s

/-- The direction's signal is not transmitted: a mute, a power state, or MUTED (R201). -/
def isSilent (x : Direction) (s : State) : Bool := isFrozen x s || x.stab.state == .muted

/-- The port is stopped (R256), for a reason of its own or by the device (R570). -/
def portStopped (p : PortState) : Bool := p.stops != 0 || p.deviceStop != 0

/-- Lowest reason code of a mask; 0 when empty. -/
def lowestReason (m : BitVec 20) : Nat := ((List.range 20).find? (fun i => m.getLsbD i)).elim 0 (· + 1)

/-- A zero sample. -/
def zeroSample : Sample := { i := 0, q := 0 }

/-- Zeros in place of samples. -/
def zeros (l : List Sample) : List Sample := l.map (fun _ => zeroSample)

/-- A muted form of a block. -/
def Block.muted (b : Block) : Block :=
  { b with mute := true, probeActive := false, applied := 0x8000, samples := zeros b.samples }

/-- Words 0-2 and the low half of word 3 of a block's waybill, as one number (R29). -/
def waybillCovered (c : Fin 64) (d : Dir) (b : Block) : Nat :=
  let w0 := c.val + (if d = .ul then 2 ^ 6 else 0) + (if b.mute then 2 ^ 7 else 0) + b.port.val * 2 ^ 8 +
    (if b.tddBoundary then 2 ^ 11 else 0) + b.boundaryIndex.toNat * 2 ^ 12 + (if b.probeActive then 2 ^ 18 else 0) +
    (if b.late then 2 ^ 19 else 0) + (if b.mirrored then 2 ^ 20 else 0) + (if b.migrateMark then 2 ^ 21 else 0) +
    b.configEpoch.toNat * 2 ^ 24
  let w1 := b.sequence.toNat + b.gainEpoch.toNat * 2 ^ 16 + b.source.toNat * 2 ^ 24
  w0 + w1 * 2 ^ 32 + b.firstCount.toNat * 2 ^ 64 + b.applied.toNat * 2 ^ 96

/-- A block's waybill with its crc16 (R29, R31). -/
def waybill (c : Fin 64) (d : Dir) (b : Block) : BitVec 128 :=
  let cov := waybillCovered c d b
  BitVec.ofNat 128 (cov + (crc16 (leBytes 14 cov)).toNat * 2 ^ 112)

/-- The crc16 of a waybill matches its covered bytes (R31, R32). -/
def waybillOk (w : BitVec 128) : Bool := crc16 (leBytes 14 (w.toNat % 2 ^ 112)) == BitVec.ofNat 16 (w.toNat / 2 ^ 112)

/-- Code of a link state (R125). -/
def LinkState.code : LinkState → Nat
  | .down => 0
  | .shLock => 1
  | .embLock => 2
  | .aligned => 3
  | .skewFault => 4

/-- Code of a power state (R567). -/
def PowerState.code : PowerState → Nat
  | .starting => 0
  | .active => 1
  | .quiet => 2
  | .stopped => 3
  | .sleep => 4

/-- Code of a fault state (R497). -/
def FaultState.code : FaultState → Nat
  | .clear => 0
  | .notice => 1
  | .minor => 2
  | .severe => 3
  | .parked => 4

/-- Code of a stability state (R201). -/
def StabState.code : StabState → Nat
  | .muted => 0
  | .climb => 1
  | .track => 2
  | .hold => 3
  | .backoff => 4

/-- Code of a reason of MUTED (R202). -/
def MuteReason.code : MuteReason → Nat
  | .initial => 0
  | .measure => 1
  | .oscillation => 2
  | .oscLockout => 3
  | .marginLost => 4

/-- Code of a completion status (R82). -/
def Status.code : Status → Nat
  | .done => 0x00
  | .doneLate => 0x01
  | .stepped => 0x02
  | .clamped => 0x03
  | .rejectedParam => 0x10
  | .rejectedState => 0x12
  | .timeout => 0x13
  | .cancelled => 0x14
  | .noResource => 0x15
  | .authFailed => 0x16
  | .deviceFault => 0x20

/-- Code of a ring state (R69). -/
def RingState.code : RingState → Nat
  | .disabled => 0
  | .active => 1
  | .stalled => 2
  | .error => 3
  | .draining => 4

/-- JES_RX_STATUS (R172). -/
def jesRxStatus (s : State) : Nat :=
  (List.finRange 5).foldl (fun a g => a + s.links.rxGroups[g].code * 2 ^ (3 * g.val)) 0

/-- JES_TX_STATUS (R172). -/
def jesTxStatus (s : State) : Nat :=
  (List.finRange 4).foldl (fun a g => a + (if s.links.txActive[g] then 1 else 0) * 2 ^ (2 * g.val)) 0

/-- JES_SYSREF_STATUS (R172). -/
def jesSysrefStatus (s : State) : Nat :=
  (if s.links.captured then 1 else 0) + (if s.links.phaseError then 2 else 0) + s.links.capturePhase.toNat * 4 +
    s.links.edges.toNat * 2 ^ 16

end Sys2Proof.Machine
end

