-- ==== Sys2Proof/Machine/Operands.lean ====
section
/-! DEFINITION. Operand forms: fields of a command descriptor and its data buffer, the checks every opcode shares (R21, R77, R83,
R714), and what a step of a command answers. -/

namespace Sys2Proof.Machine

/-- Parameter field at an offset from byte 24, unsigned. -/
def par (d : Desc) (off len : Nat) : Nat := byteField d.params.toNat off len

/-- Parameter field, signed. -/
def parInt (d : Desc) (off len : Nat) : Int := signed (8 * len) (par d off len)

/-- Data buffer field, unsigned. -/
def dat (d : Desc) (off len : Nat) : Nat := bufField d.data off len

/-- Data buffer field, signed. -/
def datInt (d : Desc) (off len : Nat) : Int := bufInt d.data off len

/-- Every parameter byte outside the listed (offset, length) fields is zero (R21). -/
def paramsReserved (fields : List (Nat × Nat)) (d : Desc) : Bool :=
  (List.range 40).all (fun i => fields.any (fun f => decide (f.1 ≤ i) && decide (i < f.1 + f.2)) || par d i 1 == 0)

/-- Rule for data_length: no buffer, exactly n bytes, n bytes or none, n bytes or more, or a rule of the opcode's own. -/
inductive LenRule where
  | none
  | exactly (n : Nat)
  | optional (n : Nat)
  | atLeast (n : Nat)
  | own

/-- data_length fits the rule. -/
def LenRule.fits : LenRule → Nat → Bool
  | .none, n => n == 0
  | .exactly m, n => n == m
  | .optional m, n => n == 0 || n == m
  | .atLeast m, n => decide (m ≤ n)
  | .own, _ => true

/-- A refusal of a command: its status and detail (R82, R83). -/
abbrev Reject := Status × Nat

/-- Detail codes of every opcode (R83). -/
def detBadOpcode : Nat := 0x0001
/-- See R83. -/
def detReserved : Nat := 0x0002
/-- See R83. -/
def detBadLength : Nat := 0x0003
/-- See R83. -/
def detBadAlignment : Nat := 0x0004
/-- See R83. -/
def detHostRead : Nat := 0x0005
/-- See R83. -/
def detMode : Nat := 0x0006
/-- See R83. -/
def detBadCount : Nat := 0x0007
/-- See R83. -/
def detPowerState : Nat := 0x0008
/-- See R83. -/
def detBadField : Nat := 0x0009

/-- Refused with REJECTED_PARAM. -/
def badParam (det : Nat) : Option Reject := some (.rejectedParam, det)

/-- Refused with REJECTED_STATE. -/
def badState (det : Nat) : Option Reject := some (.rejectedState, det)

/-- A check: the refusal when the condition holds. -/
def refuseIf (b : Bool) (r : Option Reject) : Option Reject := if b then r else none

/-- The first refusal of a list of checks in order. -/
def firstOf : List (Option Reject) → Option Reject
  | [] => none
  | some r :: _ => some r
  | none :: rest => firstOf rest

/-- use_count (R77). -/
def useCount (d : Desc) : Bool := d.flags.getLsbD 1

/-- barrier (R77). -/
def isBarrier (d : Desc) : Bool := d.flags.getLsbD 0

/-- progress (R77). -/
def wantsProgress (d : Desc) : Bool := d.flags.getLsbD 2

/-- The effective count of a command of kind E that carries one (R38). -/
def effOf (d : Desc) : Option Word := if useCount d then some d.effCount else none

/-- The checks every opcode shares: reserved flags (R77), use_count on another kind than E (R77), reserved parameters (R21), length and
alignment of the buffer (R83). isE: the opcode is of kind E. The order among them is the model's (log entry 8). -/
def common (isE : Bool) (fields : List (Nat × Nat)) (len : LenRule) (d : Desc) : Option Reject :=
  firstOf [
    refuseIf (decide (8 ≤ d.flags.toNat)) (badParam detReserved),
    refuseIf (useCount d && !isE) (badParam detBadCount),
    refuseIf (!paramsReserved fields d) (badParam detReserved),
    refuseIf (!len.fits d.dataLen.toNat) (badParam detBadLength),
    refuseIf (d.dataLen != 0 && d.dataAddr.toNat % 8 != 0) (badParam detBadAlignment)]

/-- The buffer could not be read (R108). -/
def hostRead (d : Desc) : Option Reject := refuseIf (!d.readOk) (badParam detHostRead)

/-- How a command ends (R80, R82): status, detail, result, effective sequence, bytes written to its buffer before the record (R79). -/
structure Finish where
  status : Status
  detail : Nat
  result : BitVec 128
  seq : Option Half
  data : List Byte

/-- What a step of a command answers: it ends, or it stays in execution with the record of how it goes on. -/
inductive Ans where
  | final (f : Finish)
  | stay (r : Running)

/-- Ended DONE with a result. -/
def doneWith (res : BitVec 128) : Ans := .final { status := .done, detail := 0, result := res, seq := none, data := [] }

/-- Ended DONE with a result and a buffer. -/
def doneData (res : BitVec 128) (data : List Byte) : Ans :=
  .final { status := .done, detail := 0, result := res, seq := none, data := data }

/-- Ended DONE or CLAMPED with a detail and a result. -/
def doneClamped (clamped : Bool) (det : Nat) (res : BitVec 128) : Ans :=
  .final { status := if clamped then .clamped else .done, detail := if clamped then det else 0, result := res, seq := none,
           data := [] }

/-- Ended with a refusal. -/
def refuse (r : Reject) : Ans := .final { status := r.1, detail := r.2, result := 0, seq := none, data := [] }

/-- Ended with a refusal and a result. -/
def refuseWith (r : Reject) (res : BitVec 128) : Ans :=
  .final { status := r.1, detail := r.2, result := res, seq := none, data := [] }

/-- Stays until the epochs of the tickets retire (R42); res is the result its completion carries. -/
def awaitEpochs (r : Running) (tickets : List Nat) (clamped : Bool) (res : BitVec 128) : Ans :=
  .stay { r with wait := .epochs, committed := true, clamped := clamped, result := res,
                 epochs := tickets.map (fun t => { ticket := t, retired := false, seq := none }) }

/-- Stays until a hardware event (R90). -/
def awaitHardware (r : Running) (phase : Nat) (aux : List Nat) : Ans :=
  .stay { r with wait := .hardware, phase := phase, aux := aux }

/-- Stays until a condition its continuation tests holds. -/
def awaitState (r : Running) (phase : Nat) (aux : List Nat) : Ans :=
  .stay { r with wait := .state, phase := phase, aux := aux }

/-- A command's check and effect: the effect runs when the check refuses nothing. -/
def guarded (check : Running → State → Option Reject) (effect : Running → State → Ans × State) (r : Running) (s : State) :
    Ans × State :=
  match check r s with
  | some e => (refuse e, s)
  | none => effect r s

/-- Channel number of a field already checked to be below 64. -/
def chanOf (n : Nat) : Fin 64 := Fin.ofNat 64 n

/-- Direction of a field: 1 is UL. -/
def dirOf (n : Nat) : Dir := if n = 1 then .ul else .dl

/-- NO_CHANNEL (R159). -/
def detNoChannel : Nat := 0x0109

/-- DIRECTION_OFF (R211). -/
def detDirectionOff : Nat := 0x0205

/-- The channel of a field exists and is not being removed; a number above 63 names no channel (log entry 9). -/
def noChannel (n : Nat) (s : State) : Option Reject :=
  refuseIf (decide (64 ≤ n) || (chan (chanOf n) s).state != .active) (badState detNoChannel)

/-- Byte 1 of a command names a direction, which is enabled (chapters 4 and 5, Commands). -/
def dirChecks (chanField dirField : Nat) (s : State) : List (Option Reject) :=
  [refuseIf (decide (2 ≤ dirField)) (badParam detBadField), noChannel chanField s,
   refuseIf (!(chan (chanOf chanField) s).defn.enables (dirOf dirField)) (badState detDirectionOff)]

/-- A value outside a range. -/
def outside (lo hi v : Int) : Bool := decide (v < lo) || decide (hi < v)

/-- A command of one of the opcodes whose parameter field has the value. -/
def waitOf (ops : List Nat) (off len n : Nat) (x : Desc) : Bool := ops.contains x.opcode.toNat && par x off len == n

/-- The hardware wait of a source's wanted command ends: the command is ready for its next step (R90), and its
source ready from now on (R89). -/
def hardwareDone (q : Nat) (want : Desc → Bool) (results : List Int) (s : State) : State :=
  let hit (r : Running) : Bool := r.wait == .hardware && want r.desc
  let wake (r : Running) : Running := if hit r then { r with wait := .none, results := results } else r
  modSource q (fun x =>
    { x with running := x.running.map wake, continuing := x.continuing.map wake,
             readySince := if (x.running.toList ++ x.continuing).any hit then some (x.readySince.getD s.now) else x.readySince }) s

end Sys2Proof.Machine
end

