-- ==== Sys2Proof/Machine/RailOps.lean ====
section
/-! DEFINITION. Rails and phases as the other units see them: phases of a rail, the capacity report (R229, R441, R443), rail states with
their event (R431, R461), the stop of the port rails that an orderly stop orders (R570). -/

namespace Sys2Proof.Machine

/-- Rail r. -/
def rail (r : Fin 10) (s : State) : Rail := s.supply.rails[r]

/-- Change of the supply controller. -/
def modSupply (f : Supply → Supply) (s : State) : State := { s with supply := f s.supply }

/-- Change of a rail. -/
def modRail (r : Fin 10) (f : Rail → Rail) (s : State) : State := modSupply (fun v => { v with rails := v.rails.set r (f v.rails[r]) }) s

/-- Change of a phase. -/
def modPhase (p : Fin 16) (f : Phase → Phase) (s : State) : State := modSupply (fun v => { v with phases := v.phases.set p (f v.phases[p]) }) s

/-- Phases of a plan. -/
def RailPlan.phases (x : RailPlan) : List (Fin 16) := (List.finRange 16).filter (fun p => x.phaseMask.getLsbD p.val)

/-- Rail that owns a phase (R416). -/
def phaseRail (p : Fin 16) (s : State) : Option (Fin 10) := (List.finRange 10).find? (fun r => (rail r s).plan.phaseMask.getLsbD p.val)

/-- A phase conducts: active or in duty-mirror mode. -/
def Phase.runs (x : Phase) : Bool := x.state == .active || x.state == .dutyMirror

/-- Phases of a rail that conduct. -/
def activePhases (r : Fin 10) (s : State) : List (Fin 16) := (rail r s).plan.phases.filter (fun p => s.supply.phases[p].runs)

/-- A rail with a plan and phases: it reports capacity (R418). -/
def Rail.configured (x : Rail) : Bool := x.state != .unconfigured && x.state != .monitor

/-- Capacity report as a fraction: remaining ratings over the configured sum, duty-mirror phases at half; 0 outside REGULATING (R441,
R443). -/
def railRatio (r : Fin 10) (s : State) : Nat × Nat :=
  let x := rail r s
  let ps := x.plan.phases
  if x.state ≠ .regulating ∨ ps.isEmpty then (0, 1)
  else ((ps.map (fun p => match s.supply.phases[p].state with
    | .active => 2
    | .dutyMirror => 1
    | _ => 0)).sum, 2 * ps.length)

/-- A fraction in per mille. -/
def perMille (v : Nat × Nat) : Nat := 1000 * v.1 / v.2

/-- Capacity report in per mille (R441). -/
def railCapacity (r : Fin 10) (s : State) : Nat := perMille (railRatio r s)

/-- The smaller of two fractions. -/
def minRatio (a b : Nat × Nat) : Nat × Nat := if b.1 * a.2 < a.1 * b.2 then b else a

/-- c_j of a port: the smallest capacity of the configured rails whose port_mask names it; 1 where none does (R229). -/
def portRatio (p : Fin 8) (s : State) : Nat × Nat :=
  (List.finRange 10).foldl (fun a r =>
    if (rail r s).configured && (rail r s).plan.portMask.getLsbD p.val then minRatio a (railRatio r s) else a) (1, 1)

/-- c_j of a port in per mille. -/
def portCapacity (p : Fin 8) (s : State) : Nat := perMille (portRatio p s)

/-- The capacity reports taken by network protection, at an ALC tick (R441). -/
def takeCapacity (s : State) : State :=
  { s with ports := Vector.ofFn (fun p => { s.ports[p] with c := portCapacity p s, cap := portRatio p s }) }

/-- Code of a rail state (R431). -/
def RailState.code : RailState → Nat
  | .unconfigured => 0
  | .off => 1
  | .softStart => 2
  | .regulating => 3
  | .stopping => 4
  | .fault => 5
  | .monitor => 6

/-- A rail's new state with RAIL_STATE (R461). -/
def setRailState (r : Fin 10) (v : RailState) (source : Nat) (s : State) : State :=
  let old := (rail r s).state
  if old = v then s
  else
    postEvent 0x0701 (if v = .fault then 2 else 0) source (payload 16 [(0, 1, r.val), (1, 1, old.code), (2, 1, v.code), (4, 2, source)])
      (modRail r (fun x => { x with state := v }) s)

/-- Every phase of a rail off (R417); a removed phase keeps its cause (R443). -/
def phasesOff (r : Fin 10) (s : State) : State :=
  ((rail r s).plan.phases).foldl (fun s p =>
    modPhase p (fun x => { x with
      state := if x.runs then .off else x.state, driver := false, trim := 0, pulse := 0, suspect := 0, rippleRun := 0, rangeRun := 0 }) s) s

/-- Offset of an active phase's period in edge places: i × period / k, in ascending phase order (R421). -/
def phaseOffset (r : Fin 10) (p : Fin 16) (s : State) : Nat :=
  let l := activePhases r s
  32 * (rail r s).plan.period * (l.takeWhile (fun k => k != p)).length / max 1 l.length

/-- Phases of a rail on, but for the removed ones, at their offsets (R421). -/
def phasesOn (r : Fin 10) (s : State) : State :=
  let s := ((rail r s).plan.phases).foldl (fun s p => modPhase p (fun x => { x with state := if x.state = .off then .active else x.state }) s) s
  (activePhases r s).foldl (fun s p => modPhase p (fun x => { x with driver := true, offset := phaseOffset r p s }) s) s

/-- Rails that follow a master (R433). -/
def followers (r : Fin 10) (s : State) : List (Fin 10) :=
  (List.finRange 10).filter (fun f => match (rail f s).tracking with
    | some (m, _, _) => m == r
    | none => false)

/-- A rail's tracking group, itself included. -/
def railGroup (r : Fin 10) (s : State) : List (Fin 10) :=
  match (rail r s).tracking with
  | some (m, _, _) => m :: followers m s
  | none => r :: followers r s

/-- A command that waits on a rail answered. -/
def answerRing (r : Fin 10) (ringOf : Option (Fin 22)) (results : List Int) (s : State) : State :=
  match ringOf with
  | some q => hardwareDone q.val (waitOf [0x0701, 0x0702, 0x0703] 0 1 r.val) results s
  | none => s

/-- The start and the set voltage that wait on a rail end with results. -/
def dropWaits (r : Fin 10) (results : List Int) (s : State) : State :=
  let y := rail r s
  modRail r (fun y => { y with startRing := none, setRing := none }) (answerRing r y.setRing results (answerRing r y.startRing results s))

/-- A rail begins to stop at its stop_rate (R431, R457); a command that waits for it to regulate fails (log entry 180). -/
def beginRailStop (r : Fin 10) (s : State) : State :=
  if (rail r s).state = .softStart ∨ (rail r s).state = .regulating then setRailState r .stopping 0xFFFF (dropWaits r [4] s) else s

/-- A rail and its followers begin to stop (R434). -/
def stopGroup (r : Fin 10) (s : State) : State := (r :: followers r s).foldl (fun s x => beginRailStop x s) s

/-- Rails of step 3 of R570: those with a nonzero port_mask, SUP0 and SUP9 kept. -/
def portRail (r : Fin 10) (s : State) : Bool := r.val != 0 && r.val != 9 && (rail r s).plan.portMask != 0

/-- Step 3 of the orderly stop (R570): every running port rail stops, and is remembered for the restart (R572). -/
def stopPortRails (s : State) : State :=
  let rs := (List.finRange 10).filter (fun r => portRail r s && ((rail r s).state == .softStart || (rail r s).state == .regulating))
  let s := { s with sys := { s.sys with stoppedRails := rs.foldl (fun m r => m ||| BitVec.ofNat 10 (2 ^ r.val)) s.sys.stoppedRails } }
  rs.foldl (fun s r => stopGroup r s) s

/-- Every port rail has stopped (R570 step 4). -/
def portRailsOff (s : State) : Bool :=
  (List.finRange 10).all (fun r => !portRail r s || !((rail r s).state == .softStart || (rail r s).state == .regulating ||
    (rail r s).state == .stopping))

end Sys2Proof.Machine
end

