-- ==== Sys2Proof/Machine/FabricOps.lean ====
section
/-! DEFINITION. Sending on the OBX and twin links (R605-R607, R619), what a split direction's devices tell each other (R622, R623), and the
mirror records of a twin pair (R634). -/

namespace Sys2Proof.Machine

/-- Change of the fabric. -/
def modFabric (f : Fabric → Fabric) (s : State) : State := { s with fabric := f s.fabric }

/-- Change of the twin block. -/
def modTwin (f : Twin → Twin) (s : State) : State := { s with twin := f s.twin }

/-- Link l: 0-3 OBX, 4 twin. -/
def link (l : Nat) (s : State) : ObxLink := nth s.fabric.links l (ObxLink.reset 0)

/-- Change of link l. -/
def modLink (l : Nat) (f : ObxLink → ObxLink) (s : State) : State := modFabric (fun x => { x with links := upd x.links l f }) s

/-- The link carries traffic (R608). -/
def ObxLink.carries (x : ObxLink) : Bool := x.state == .active || x.state == .degraded

/-- Codes of R608. -/
def ObxState.code : ObxState → Nat
  | .down => 0
  | .training => 1
  | .active => 2
  | .degraded => 3
  | .reclaiming => 4

/-- Active lanes: 0, 2 or 4. -/
def laneCount (m : BitVec 4) : Nat := ((List.range 4).filter (fun k => m.getLsbD k)).length

/-- Source of the loss of a link (R498): OBX_LINK or TWIN_LINK. -/
def linkSource (l : Nat) : Nat := if l < 4 then 352 + l else 360

/-- Source of a replay on a link (R498, R607). -/
def retrySource (l : Nat) : Nat := if l < 4 then 356 + l else 360

/-- Object of a link (R508). -/
def linkObject (l : Nat) : Nat := object 12 (4 * l)

/-- A link enters a state, with OBX_LINK_STATE: MINOR into DOWN (R608, R646). -/
def setLink (l : Nat) (v : ObxState) (lanes : BitVec 4) (s : State) : State :=
  let old := (link l s).state
  let s := modLink l (fun x => { x with state := v, lanes := lanes }) s
  if old = v then s
  else postEvent 0x0C01 (if v = .down then 2 else 0) (if v = .down then linkSource l else 0xFFFF)
    (payload 16 [(0, 1, l), (1, 1, old.code), (2, 1, v.code), (3, 1, laneCount lanes)]) s

/-- Kinds that consume billets (R606). -/
def takesBillet (k : ObxKind) : Bool := k == .block || k == .control || k == .mirror

/-- A frame of a kind and class can be sent: room in the replay buffer, a billet of its class (R607, R619). -/
def ObxLink.canSend (x : ObxLink) (k : ObxKind) (tc : Fin 4) : Bool :=
  x.carries && decide (x.replay.length < 64) && (!takesBillet k || decide (0 < x.freeNow[tc]))

/-- A frame with nothing in it yet. -/
def blankFrame (k : ObxKind) (tc : Fin 4) (src dst : Nat) : ObxFrame :=
  { tc := tc, kind := k, dst := Fin.ofNat 16 dst, src := Fin.ofNat 16 src, hops := 0, retClass := 0, returned := 0, seq := 0, ackSeq := 0,
    ackValid := false, nak := false, crcOk := true, waybill := 0, samples := [], msg := .none, mirrors := [], sent := Vector.replicate 4 0 }

/-- Code of a frame kind (R606). -/
def kindCode : ObxKind → Nat
  | .idle => 0
  | .block => 1
  | .control => 2
  | .mirror => 3
  | .census => 4
  | .timing => 5

/-- The 8-byte header of a frame (R605). -/
def frameHeader (f : ObxFrame) : List Byte :=
  payload 8 [(0, 1, f.tc.val + 4 * kindCode f.kind), (1, 1, f.dst.val + 16 * f.src.val), (2, 1, f.hops), (3, 1, f.retClass.val + 4 * f.returned),
    (4, 2, f.seq.toNat), (6, 2, f.ackSeq.toNat + 4096 * (if f.ackValid then 1 else 0) + 8192 * (if f.nak then 1 else 0))]

/-- The payload of a frame (R606): a block's samples, then its waybill; mirror records; the counts of a CENSUS frame. The content of CONTROL and TIMING
frames stands apart: their bytes are given. -/
def framePayload (f : ObxFrame) (other : List Byte) : List Byte :=
  match f.kind with
  | .idle => []
  | .block => f.samples.flatMap (fun x => leBytes 2 x.i.toNat ++ leBytes 2 x.q.toNat) ++ leBytes 16 f.waybill.toNat
  | .mirror => f.mirrors.flatMap (fun r => leBytes 4 r.wb0.toNat ++ leBytes 4 r.wb1.toNat ++ leBytes 2 r.applied.toNat ++ [0, 0] ++ leBytes 4 r.crc.toNat)
  | .census => f.sent.toList.flatMap (fun n => leBytes 4 n)
  | .control => other
  | .timing => other

/-- CRC-32 over header and payload that ends a frame (R605); crcOk says whether that of an arriving frame holds. -/
def frameCrc (f : ObxFrame) (other : List Byte) : Word := crc32 (frameHeader f ++ framePayload f other)

/-- Billets that the next header returns: those owed of the lowest class that has any, at most 63 (R605; log entry 152). -/
def ObxLink.due (x : ObxLink) : Fin 4 × Nat :=
  match (List.finRange 4).find? (fun c => decide (0 < x.owed[c])) with
  | some c => (c, min 63 x.owed[c])
  | none => (0, 0)

/-- The header this end gives a frame: billets returned and the last sequence accepted (R605, R607). -/
def ObxLink.header (x : ObxLink) (nak : Bool) (f : ObxFrame) : ObxFrame :=
  { f with retClass := x.due.1, returned := x.due.2, ackSeq := x.recvSeq - 1, ackValid := x.accepted, nak := nak, crcOk := true }

/-- The billets of a header are no longer owed. -/
def ObxLink.paid (x : ObxLink) : ObxLink := { x with owed := upd x.owed x.due.1.val (· - x.due.2) }

/-- A frame sent on a link: it takes the next link sequence, a place in the replay buffer and, by its kind, a billet of its class (R607,
R619), and its header returns billets; a frame of kind CENSUS counts as none of the blocks sent. None when the link cannot take it. -/
def sendFrame (l : Nat) (f : ObxFrame) (s : State) : Option State :=
  if (link l s).canSend f.kind f.tc then
    some (modLink l (fun x =>
      let bill := if takesBillet f.kind then 1 else 0
      { x.paid with sendSeq := x.sendSeq + 1, replay := x.replay ++ [{ x.header false f with seq := x.sendSeq }],
                    ackFrom := if x.replay.isEmpty then s.now else x.ackFrom,
                    freeNow := upd x.freeNow f.tc.val (· - bill), sentSince := upd x.sentSince f.tc.val (· + bill) }) s)
  else none

/-- IDLE frames that return what is owed, at least one for the acknowledgement (R606); at most n. -/
def ObxLink.idles (src dst : Nat) (nak : Bool) : Nat → ObxLink → List ObxFrame × ObxLink
  | 0, x => ([], x)
  | n + 1, x =>
    let f := x.header nak (blankFrame .idle 0 src dst)
    let y := x.paid
    if y.due.2 = 0 then ([f], y)
    else
      let r := ObxLink.idles src dst nak n y
      (f :: r.1, r.2)

/-- IDLE frames sent on a link: acknowledgement, NAK, billets returned (R605-R607). -/
def sendIdle (l : Nat) (nak : Bool) (s : State) : State :=
  if (link l s).carries then
    modLink l (fun x =>
      let r := x.idles (deviceAddress s) x.neighbour.val nak 24
      { r.2 with idle := r.1 }) s
  else s

/-- A slot of the receive buffer taken by a frame of a class (R619). -/
def takeSlot (l : Nat) (tc : Fin 4) (s : State) : State :=
  modLink l (fun x => { x with slots := upd x.slots tc.val (· + 1), slotsFree := upd x.slotsFree tc.val (· - 1), recvSince := upd x.recvSince tc.val (· + 1) }) s

/-- The slot freed: its billet is owed to the sender. -/
def freeSlot (l : Nat) (tc : Fin 4) (s : State) : State :=
  modLink l (fun x => { x with slots := upd x.slots tc.val (· - 1), slotsFree := upd x.slotsFree tc.val (· + 1), owed := upd x.owed tc.val (· + 1) }) s

/-- The link an address is reached by; none for a destination without a route (R616, R618). -/
def outLink (a : Nat) (s : State) : Option (Fin 4) :=
  if (routeOf a s).port ≤ 3 then some (Fin.ofNat 4 (routeOf a s).port) else none

/-- A TC2 CONTROL frame to a device of the fabric. One that finds no route or no billet is not sent; the next says the same or more. -/
def sendControl (a : Nat) (m : ControlMsg) (s : State) : State :=
  match outLink a s with
  | some l => (sendFrame l.val { blankFrame .control 2 (deviceAddress s) a with msg := m } s).getD s
  | none => s

/-- The other device of the pair. -/
def twinAddress (s : State) : Nat := deviceAddress s ^^^ 1

/-- A TC2 CONTROL frame to the twin. -/
def sendTwin (m : ControlMsg) (s : State) : State :=
  (sendFrame 4 { blankFrame .control 2 (deviceAddress s) (twinAddress s) with msg := m } s).getD s

/-- Messages sent in order while the link takes them; the rest wait. -/
def flushTwin : List ControlMsg → State → State
  | [], s => modTwin (fun t => { t with toSend := [] }) s
  | m :: rest, s =>
    match sendFrame 4 { blankFrame .control 2 (deviceAddress s) (twinAddress s) with msg := m } s with
    | some s => flushTwin rest s
    | none => modTwin (fun t => { t with toSend := m :: rest }) s

/-- A message to the twin that is not lost: it waits for a billet behind those before it. -/
def queueTwin (m : ControlMsg) (s : State) : State := flushTwin (s.twin.toSend ++ [m]) s

/-- This device owns service and has a standby (R636, R637). -/
def hasStandby (s : State) : Bool := s.twin.owner && s.twin.state != .solo

/-! ## Split directions -/

/-- This device holds the receive side, or the transmit side, of a split direction. -/
def splitReceive (df : DirDef) (s : State) : Bool := isSplit df s && onReceiveDevice df s

/-- See splitReceive. -/
def splitTransmit (df : DirDef) (s : State) : Bool := isSplit df s && onTransmitDevice df s

/-- The receive device tells the transmit device S, K and the state (R623). -/
def tellSplit (c : Fin 64) (d : Dir) (s : State) : State :=
  let df := dirDef c d s
  if dirLive c d s && splitReceive df s then
    let m := (direction c d s).stab
    sendControl (otherDevice df s) (.stability c d m.s m.k m.state.code) s
  else s

/-- Each device of a split direction tells the other the calibrations of its ports (R225; log entry 172). -/
def tellCal (c : Fin 64) (d : Dir) (s : State) : State :=
  let df := dirDef c d s
  if dirLive c d s && isSplit df s then
    let cal : Vector Int 4 := Vector.ofFn (fun k : Fin 4 => if onReceiveDevice df s then (port (rxPort d k) s).pCalRx else (port (txPort d k) s).pCalTx)
    sendControl (otherDevice df s) (.splitCal c d cal) s
  else s

/-- What the transmit device keeps of a split direction. -/
def splitOf (c : Fin 64) (d : Dir) (s : State) : Option SplitDir := s.fabric.splits.find? (fun x => x.chan == c && x.dir == d)

/-- Change of what the transmit device keeps of a split direction; it begins with what its machine holds. -/
def modSplit (c : Fin 64) (d : Dir) (f : SplitDir → SplitDir) (s : State) : State :=
  let m := (direction c d s).stab
  let old := (splitOf c d s).getD
    { chan := c, dir := d, s := m.s, k := m.k, state := m.state.code, cut := none, lastTick := s.slowTicks, silent := false }
  modFabric (fun x => { x with splits := x.splits.filter (fun e => !(e.chan == c && e.dir == d)) ++ [f old] }) s

/-- State of a code of R201. -/
def StabState.ofCode : Nat → StabState
  | 0 => .muted
  | 1 => .climb
  | 2 => .track
  | 3 => .hold
  | _ => .backoff

/-- GAIN of the transmit device takes the received S, or its own cut while an onset is not acknowledged, whichever is lower (R623). -/
def takeSplit (c : Fin 64) (d : Dir) (s : State) : State :=
  match splitOf c d s with
  | none => s
  | some x =>
    let ceiling := match x.cut with
      | some v => min v x.s
      | none => x.s
    modStab c d (fun m => { m with s := ceiling, k := x.k, state := StabState.ofCode x.state }) s

/-! ## The pair -/

/-- The standby role of a pair: RF-ready without owning service (R630, R632, R636). -/
def inStandby (s : State) : Bool := twinStrapped s && s.sys.rfReady && !s.twin.owner

/-- A hand-over can be carried out: this device owns service and its twin is in lockstep (R510). -/
def handoverReady (s : State) : Bool := s.twin.owner && s.twin.state == .lockstep

/-- A planned hand-over is ordered (R639): X is the first multiple of 256 counts of the basis at or after 64 counts from now. One that is under
way stands. -/
def beginHandover (cause : Nat) (ringOf : Option (Fin 22)) (s : State) : State :=
  if s.twin.hand.isSome then s
  else
    let x := BitVec.ofNat 32 (ceilDiv (basisNow s + 64) 256 * 256)
    sendTwin (.handover x cause) (modTwin (fun t => { t with hand := some { x := x, cause := cause, ring := ringOf, acked := false } }) s)

/-! ## Mirror records -/

/-- The mirror record of a block at the SYNTH_IN point (R634). -/
def mirrorOf (c : Fin 64) (d : Dir) (b : Block) : MirrorRec :=
  let cov := waybillCovered c d { b with mirrored := false }
  let bytes := b.samples.flatMap (fun x => leBytes 2 x.i.toNat ++ leBytes 2 x.q.toNat)
  { wb0 := BitVec.ofNat 32 cov, wb1 := BitVec.ofNat 32 (cov / 2 ^ 32), applied := b.applied, crc := crc32 bytes }

/-- Two records name one block: channel, direction, port and sequence agree. -/
def sameBlock (x y : MirrorRec) : Bool :=
  x.wb0.toNat % 128 == y.wb0.toNat % 128 && x.wb0.toNat / 256 % 8 == y.wb0.toNat / 256 % 8 && x.wb1.toNat % 65536 == y.wb1.toNat % 65536

/-- Direction index 2 c + d a record names. -/
def mirrorDir (x : MirrorRec) : Nat := 2 * (x.wb0.toNat % 64) + x.wb0.toNat / 64 % 2

/-- Code of a twin state (R637). -/
def TwinState.code : TwinState → Nat
  | .solo => 0
  | .detached => 1
  | .syncing => 2
  | .lockstep => 3

/-- A state of the pair entered, with TWIN_STATE: MINOR on leaving LOCKSTEP (R637, R646). -/
def setTwinState (v : TwinState) (cause : Nat) (s : State) : State :=
  let old := s.twin.state
  if old = v then s
  else
    let s := modTwin (fun t => { t with state := v, detachedAt := if v = .detached then s.slowTicks else t.detachedAt,
                                        agreed := if v = .syncing then [] else t.agreed, compared := if v = .syncing then 0 else t.compared }) s
    postEvent 0x0C03 (if old = .lockstep then 2 else 0) (if cause < 512 then cause else 0xFFFF)
      (payload 16 [(0, 1, old.code), (1, 1, v.code), (2, 2, cause)]) s

/-- The standby leaves lockstep, or the synchronisation, for a cause, and the owner hears of it: the state is the pair's (R637; log entry 184). -/
def leaveLockstep (cause : Nat) (s : State) : State := sendTwin (.pairLost cause) (setTwinState .detached cause s)

/-- A fault reaction of a standby that changes its output ends lockstep (R637). -/
def outputChanged (cause : Nat) (s : State) : State :=
  if inStandby s && (s.twin.state == .lockstep || s.twin.state == .syncing) then leaveLockstep cause s else s

/-- The owner has agreed blocks enough of every enabled direction (R638 step 5). -/
def twinAgreed (s : State) : Bool :=
  (liveDirs s).all (fun e => s.twin.agreed.any (fun a => a.1 == dirIndex e.1 e.2 && decide (s.twin.par.agree ≤ a.2)))

/-- One comparison on the standby (R634, R637, R638): a disagreement in LOCKSTEP raises TWIN_MISMATCH and detaches; while SYNCING it starts the
direction's count anew; agreement of every direction declares LOCKSTEP. -/
def compareMirror (own peer : MirrorRec) (s : State) : State :=
  let k := mirrorDir own
  let old := (s.twin.agreed.find? (fun e => e.1 == k)).elim 0 (·.2)
  let rest := s.twin.agreed.filter (fun e => e.1 != k)
  if own = peer then
    let s := modTwin (fun t => { t with agreed := rest ++ [(k, old + 1)], compared := t.compared + 1 }) s
    if s.twin.state = .syncing ∧ twinAgreed s then
      sendTwin (.syncDone (BitVec.ofInt 32 s.twin.beta) s.twin.compared) (setTwinState .lockstep 0xFFFF s)
    else s
  else
    let s := modTwin (fun t => { t with agreed := rest ++ [(k, 0)], compared := t.compared + 1, mismatches := BitVec.ofNat 16 (satAdd 16 t.mismatches.toNat 1) }) s
    if s.twin.state = .lockstep then leaveLockstep 362 (raise 362 (object 1 k) 0 s) else s

/-- Records of both devices matched: own and the owner's of one block are compared and dropped. -/
def matchMirrors (s : State) : State :=
  s.twin.own.foldl (fun s r =>
    match s.twin.peerRecs.find? (fun p => sameBlock p r) with
    | some p =>
      compareMirror r p (modTwin (fun t => { t with own := t.own.filter (fun x => x != r), peerRecs := t.peerRecs.filter (fun x => x != p) }) s)
    | none => s) s

/-- Full blocks of the owner whose own records are among some: a disagreement counts as one of the records' own (R634). -/
def matchFulls (own : List MirrorRec) (s : State) : State :=
  own.foldl (fun s r =>
    match s.twin.fulls.find? (fun p => sameBlock p r) with
    | some p =>
      let s := modTwin (fun t => { t with fulls := t.fulls.filter (fun x => x != p) }) s
      if r = p then s else compareMirror r p s
    | none => s) s

/-- Sixteen records fill a MIRROR frame (R606, R634). -/
def flushMirrors (s : State) : State :=
  if s.twin.outbox.length < 16 then s
  else
    match sendFrame 4 { blankFrame .mirror 3 (deviceAddress s) (twinAddress s) with mirrors := s.twin.outbox.take 16 } s with
    | some s => modTwin (fun t => { t with outbox := t.outbox.drop 16 }) s
    | none => s

/-- A full block in every mirror_sample blocks of a direction, with mirrored set (R634). -/
def sampleMirror (c : Fin 64) (d : Dir) (b : Block) (s : State) : State :=
  let k := dirIndex c d
  let n := (s.twin.fullIn.find? (fun e => e.1 == k)).elim 0 (·.2) + 1
  let keep (v : Nat) (s : State) : State := modTwin (fun t => { t with fullIn := t.fullIn.filter (fun e => e.1 != k) ++ [(k, v)] }) s
  if s.twin.par.mirrorSample = 0 ∨ n < s.twin.par.mirrorSample then keep n s
  else
    match sendFrame 4 { blankFrame .block 3 (deviceAddress s) (twinAddress s) with
        waybill := waybill c d { b with mirrored := true }, samples := b.samples } s with
    | some s => keep 0 s
    | none => keep n s

/-- A block at the SYNTH_IN point of a device of a pair (R634): the owner sends its record, the standby keeps its own for comparison. -/
def mirrorBlock (c : Fin 64) (d : Dir) (b : Block) (s : State) : State :=
  if s.twin.state != .lockstep && s.twin.state != .syncing then s
  else if s.twin.owner then
    sampleMirror c d b (flushMirrors (modTwin (fun t => { t with outbox := t.outbox ++ [mirrorOf c d b] }) s))
  else
    let r := mirrorOf c d b
    matchMirrors (matchFulls [r] (modTwin (fun t => { t with own := t.own ++ [r] }) s))

end Sys2Proof.Machine
end

