-- ==== Sys2Proof/Machine/Ladder.lean ====
section
/-! DEFINITION. Counting windows and the ladder of one fault source (R496-R501). -/

namespace Sys2Proof.Machine

/-- Length of a sub-window in fault ticks: ceil(W / 16) for a window of w milliseconds (R498). -/
def subLength (w : Nat) : Nat := ceilDiv (w * 1000) 16

/-- Events of the window that ends in the sub-window of tick t: that one and the 15 before it (R498). -/
def windowCount (w t : Nat) (subs : List (Nat × Nat)) : Nat :=
  ((subs.filter (fun e => decide (e.1 ≤ t / subLength w) && decide (t / subLength w < e.1 + 16))).map (·.2)).sum

/-- One more event in the sub-window of tick t; sub-windows out of the window are dropped. -/
def windowAdd (w t : Nat) (subs : List (Nat × Nat)) : List (Nat × Nat) :=
  let k := t / subLength w
  let kept := subs.filter (fun e => decide (k < e.1 + 16))
  if kept.any (fun e => e.1 == k) then kept.map (fun e => if e.1 == k then (e.1, e.2 + 1) else e) else kept ++ [(k, 1)]

/-- Rank of a state on the ladder. -/
def FaultState.rank (f : FaultState) : Nat := f.code

/-- The state of a rank 0-3. -/
def FaultState.ofRank : Nat → FaultState
  | 0 => .clear
  | 1 => .notice
  | 2 => .minor
  | _ => .severe

/-- State of a source after the events of a tick are counted (R499): SEVERE at N2 within W2, else MINOR at N1 within W1, else NOTICE
from CLEAR; never above the ceiling and never falling. A PARKED source stays (R502). -/
def FaultSrc.climb (t : Nat) (f : FaultSrc) : FaultState :=
  if f.state = .parked then .parked
  else
    let want := if f.par.n2 ≤ windowCount f.par.w2 t f.subs2 then 3 else if f.par.n1 ≤ windowCount f.par.w1 t f.subs1 then 2 else 1
    FaultState.ofRank (max f.state.rank (min want f.par.ceiling))

/-- One event counted (R496, R502: a PARKED source still counts). -/
def FaultSrc.countEvent (t : Nat) (count : Word) (e : FaultEvt) (f : FaultSrc) : FaultSrc :=
  { f with subs1 := windowAdd f.par.w1 t f.subs1, subs2 := windowAdd f.par.w2 t f.subs2, lastTick := t, lastCount := count,
           lastObj := e.obj, lastDetail := e.detail, events := f.events + 1 }

/-- Recoveries within the 24 h before tick t, at most 15 (R501). -/
def recentRecoveries (t : Nat) (rs : List Nat) : List Nat :=
  (rs.filter (fun r => decide (t < r + 86400000000))).drop ((rs.filter (fun r => decide (t < r + 86400000000))).length - 15)

/-- Source n. -/
def faultSrc (n : Nat) (s : State) : FaultSrc := nth s.faults.srcs n (FaultSrc.reset 511)

/-- Change of source n. -/
def modFault (n : Nat) (f : FaultSrc → FaultSrc) (s : State) : State :=
  { s with faults := { s.faults with srcs := upd s.faults.srcs n f } }

/-- Severity that source n has once the event being raised is counted: what a record or event of its detecting unit carries (R208). -/
def severityOf (n : Nat) (s : State) : Nat :=
  let f := faultSrc n s
  let e : FaultEvt := { src := Fin.ofNat 512 n, obj := 0, detail := 0 }
  ((f.countEvent (faultTick s) 0 e).climb (faultTick s)).rank

end Sys2Proof.Machine
end

