-- ==== Sys2Proof/Machine/Records.lean ====
section
/-! DEFINITION. Protection records and their events (R264, R267). -/

namespace Sys2Proof.Machine

/-- What a protection record names and measures (R264). -/
structure ProtInfo where
  source : Nat := 0xFFFF
  measured : Int := 0
  limit : Int := 0
  resulting : Int := 0

/-- Payload of a protection record and of PROTECTION_ACTION (R264, R267): object, channel, direction, port (0xFF for none). -/
def protPayload (obj ch dir prt step reason : Nat) (i : ProtInfo) (s : State) : List Byte :=
  payload 16 [(0, 1, obj), (1, 1, ch), (2, 1, dir), (3, 1, prt), (4, 1, step), (5, 1, reason), (6, 2, satInt 16 i.measured),
    (8, 2, satInt 16 i.limit), (10, 2, satInt 16 i.resulting), (12, 4, (frameCount s).toNat)]

/-- A trigger of a protection action noted; severity INFO at step 1, NOTICE at 2, MINOR at 3, SEVERE at 4 (R267). The record of the device is written at
once, those of directions and ports when the slow tick they fall in ends (R257; log entry 163). -/
def protRecord (code obj ch dir prt step reason : Nat) (i : ProtInfo) (s : State) : State :=
  let bytes := protPayload obj ch dir prt step reason i s
  let ev := eventAt s 0x0301 (step - 1) i.source bytes
  if obj = 2 then logRecord 3 (step - 1) i.source code bytes [ev] s
  else { s with protWait := s.protWait ++ [{ obj := (obj, ch, dir, prt), step := step, source := i.source, code := code, bytes := bytes, ev := ev }] }

/-- A record about a direction. -/
def dirRecord (code : Nat) (c : Fin 64) (d : Dir) (step reason : Nat) (i : ProtInfo) (s : State) : State :=
  protRecord code 0 c.val (dirCode d).toNat 0xFF step reason i s

/-- A record about a port. -/
def portRecord (code : Nat) (p : Fin 8) (step reason : Nat) (i : ProtInfo) (s : State) : State :=
  protRecord code 1 0xFF 0xFF p.val step reason i s

/-- Triggers of one object, those of a higher ladder step first, each step in the order it came (R257). -/
def byStep (l : List ProtTrigger) : List ProtTrigger := [4, 3, 2, 1].flatMap (fun k => l.filter (·.step == k))

/-- The records of the triggers that wait, object by object in the order of the first trigger (R257). -/
def protOrder (l : List ProtTrigger) : List ProtTrigger :=
  (l.map (·.obj)).eraseDups.flatMap (fun o => byStep (l.filter (·.obj == o)))

/-- The records of a slow tick written, consecutive and at one instant (R257). -/
def flushProt (s : State) : State :=
  (protOrder s.protWait).foldl (fun s v => logRecord 3 (v.step - 1) v.source v.code v.bytes [v.ev] s) { s with protWait := [] }

end Sys2Proof.Machine
end

