-- ==== Sys2Proof/Machine/Stability.lean ====
section
/-! DEFINITION. House Rules bounds of a direction (R148, R175), the gain clamp (R193), the stability states and their transitions
(R201-R208). -/

namespace Sys2Proof.Machine

/-! ## House Rules bounds -/

/-- The range is of the direction's kind. -/
def HrRange.isFor (r : HrRange) (d : Dir) : Bool := if d = .ul then r.ul else r.dl

/-- The range's span overlaps the band F_c ± B / 2; touching is no overlap (R175). -/
def HrRange.overlaps (r : HrRange) (centre band : Nat) : Bool :=
  decide (2 * r.low < 2 * centre + band) && decide (2 * centre < 2 * r.high + band)

/-- The band lies wholly within the range (R148). -/
def HrRange.covers (r : HrRange) (centre band : Nat) : Bool :=
  decide (2 * r.low + band ≤ 2 * centre) && decide (2 * centre + band ≤ 2 * r.high)

/-- G_HR: the smallest among the ranges of the kind that overlap the band (R175); 0.00 dB where none does (R592). -/
def houseGain (h : HouseRules) (d : Dir) (centre band : Nat) : Int :=
  match (h.ranges.filter (fun r => r.isFor d && r.overlaps centre band)).map (·.gHr) with
  | [] => 0
  | g :: gs => gs.foldl min g

/-- G_HR of a direction, at the centre frequency of the configuration that GAIN has adopted (R40, R175). -/
def gHr (c : Fin 64) (d : Dir) (s : State) : Int :=
  houseGain s.hr.rules d (direction c d s).gainCentre (occupied (chan c s).defn.cls)

/-- The band lies wholly within one House Rules range of the direction (R148). -/
def bandAllowed (h : HouseRules) (d : Dir) (centre band : Nat) : Bool :=
  h.ranges.any (fun r => r.isFor d && r.covers centre band)

/-! ## Loop quantities -/

/-- Four sub-windows or 20 ms, whichever is longer, is the age at which an estimate is stale (R192); true when it is. -/
def estimateStale (cls : Nat) (m : Meter) : Bool :=
  decide (20 < m.ageMs) && !withinWindow cls (m.par.w - 2) m.ageMs

/-- I: measured isolation F - A_raw (Loop quantities), lowered while R185 says so. -/
def isolation (x : Direction) : Int := x.gain.f - x.meter.aRaw - x.meter.iDrop

/-- C: achieved cancellation A_raw - A_res; C_pred while it is in use (R185); 0 while the estimate is stale and the direction is not muted (R192). -/
def cancellation (cls : Nat) (x : Direction) : Int :=
  if estimateStale cls x.meter && !isMuted x && x.stab.state != .muted then 0
  else match x.meter.cPred with
    | some c => c
    | none => x.meter.aRaw - x.meter.aRes

/-- K = min(G_HR, I + C - M_req, I + 30.00 dB) (R193). -/
def clampOf (g : Int) (cls : Nat) (x : Direction) : Int :=
  min g (min (isolation x + cancellation cls x - x.stab.par.mReq) (isolation x + 3000))

/-- Required margin of a direction: M_req, or M_HR in watch mode (R193, R665). -/
def marginOf (x : Direction) (s : State) : Int := if s.sys.mode = .compat then s.hr.rules.mHr else x.stab.par.mReq

/-- K of a direction from what is in force; K_w in watch mode (R665). -/
def currentK (c : Fin 64) (d : Dir) (s : State) : Int :=
  let x := direction c d s
  clampOf (gHr c d s) (chan c s).defn.cls { x with stab := { x.stab with par := { x.stab.par with mReq := marginOf x s } } }

/-! ## Watch mode (R665-R669) -/

/-- The device runs legacy channels in watch mode (R648). -/
def inWatch (s : State) : Bool := s.sys.mode == .compat

/-- Legacy registers of a channel's direction. -/
def gqDir (c : Fin 64) (d : Dir) (s : State) : GqDir :=
  let g := nth s.compat.chans c.val GqChan.reset
  if d = .ul then g.ul else g.dl

/-- Change of a legacy direction. -/
def modGq (c : Fin 64) (d : Dir) (f : GqDir → GqDir) (s : State) : State :=
  { s with compat := { s.compat with chans := upd s.compat.chans c.val (fun g =>
      if d = .ul then { g with ul := f g.ul } else { g with dl := f g.dl }) } }

/-- Target of S: G_t; in watch mode the legacy ceiling G_leg, which GQ_CTRL.agl holds to I - M_leg (R665). -/
def gTarget (c : Fin 64) (d : Dir) (s : State) : Int :=
  let x := direction c d s
  if inWatch s && s.compat.agl then min x.gain.gt (isolation x - 50 * s.compat.margin.toNat) else x.gain.gt

/-- The safety net comes into force while G_leg > K_w - 0.50 dB: alarm bit, net bit, count, record (R666, R667). -/
def watchNet (c : Fin 64) (d : Dir) (s : State) : State :=
  let g := gqDir c d s
  if (direction c d s).stab.k - 50 < gTarget c d s then
    if g.net then modGq c d (fun g => { g with netOkMs := 0 }) s
    else
      let s := modGq c d (fun g => { g with net := true, netOkMs := 0, osc := true }) s
      dirRecord 0x0001 c d 1 17 {} { s with compat := { s.compat with netEvents := s.compat.netEvents + 1 } }
  else s

/-- S0 = max(0, min(G_t, K - 0.50) - climb_start) (R203). -/
def climbFrom (gt k : Int) (p : StabParams) : Int := max 0 (min gt (k - 50) - p.climbStart)

/-! ## State changes -/

/-- Payload of STABILITY_CHANGE (R208). -/
def stabilityPayload (c : Fin 64) (d : Dir) (old : StabState) (m : Stability) : List Byte :=
  payload 16 [(0, 1, c.val), (1, 1, dirCode d), (2, 1, old.code), (3, 1, m.state.code),
    (4, 1, if m.state = .muted then m.reason.code else 0), (6, 2, m.s), (8, 2, m.k)]

/-- Severity of the event on entry to a state: that of the fault source raised for OSCILLATION, OSC_LOCKOUT and MARGIN_LOST (R208). -/
def stabilitySeverity (m : Stability) (s : State) : Nat :=
  if m.state = .muted then
    match m.reason with
    | .oscillation => severityOf 66 s
    | .oscLockout => severityOf 67 s
    | .marginLost => severityOf 68 s
    | _ => 0
  else 0

/-- Source field of the event: the fault source raised, or none (R99, R208). -/
def stabilitySource (m : Stability) : Nat :=
  if m.state = .muted then
    match m.reason with
    | .oscillation => 66
    | .oscLockout => 67
    | .marginLost => 68
    | _ => 0xFFFF
  else 0xFFFF

/-- A new stability machine put in place; a change of state, or of reason inside MUTED, posts STABILITY_CHANGE (R208). -/
def setStability (c : Fin 64) (d : Dir) (m : Stability) (s : State) : State :=
  let old := (direction c d s).stab
  let s' := modStab c d (fun _ => m) s
  let s' := if old = m then s' else tellSplit c d s'
  if old.state = m.state ∧ (m.state = .muted → old.reason = m.reason) then s'
  else postEvent 0x0201 (stabilitySeverity m s) (stabilitySource m) (stabilityPayload c d old.state m) s'

/-- A command that waits for a measurement of the direction becomes ready: the measurement has ended, or a mute has cut an in-service one short
(R215; log entry 164). -/
def answerMeasure (c : Fin 64) (d : Dir) (s : State) : State :=
  match (direction c d s).stab.measuring.bind (·.ring) with
  | some q => hardwareDone q.val (fun x => waitOf [0x0210] 0 1 c.val x && dirOf (par x 1 1) == d) [] s
  | none => s

/-- Entry to MUTED with reason MARGIN_LOST; it raises MARGIN_LOST (R204). -/
def enterMarginLost (c : Fin 64) (d : Dir) (s : State) : State :=
  let s := answerMeasure c d s
  let m := (direction c d s).stab
  raise 68 (dirObject c d) 0 (setStability c d { m with state := .muted, reason := .marginLost, dwellRunning := false, onset := none,
                                                        retry := 0, measuring := none } s)

/-- Entry to BACKOFF with a ceiling, or to MARGIN_LOST when it would be below 0 dB (R203). -/
def enterBackoff (c : Fin 64) (d : Dir) (ceiling : Int) (s : State) : State :=
  if ceiling < 0 then enterMarginLost c d s
  else
    let m := (direction c d s).stab
    setStability c d { m with state := .backoff, s := ceiling, dwell := 0, dwellRunning := true, holdRun := 0 } s

/-- Entry to CLIMB with a ceiling. -/
def enterClimb (c : Fin 64) (d : Dir) (ceiling : Int) (s : State) : State :=
  let m := (direction c d s).stab
  setStability c d { m with state := .climb, s := ceiling, dwell := 0, dwellRunning := false, holdRun := 0 } s

/-- K recomputed and kept in the machine (R193, R206: also while frozen). -/
def refreshK (c : Fin 64) (d : Dir) (s : State) : State := modStab c d (fun m => { m with k := currentK c d s }) s

/-- The transitions that the clamp and the target force, with no time passing (R203): K below S, G_t at or below S, G_t raised over a
tracking direction. -/
def settleNative (c : Fin 64) (d : Dir) (s : State) : State :=
  let x := direction c d s
  let m := x.stab
  match m.state with
  | .muted => s
  | .backoff => if m.k < m.s then enterBackoff c d (m.k - m.par.backoff) s else s
  | .climb | .hold =>
    if m.k < m.s then enterBackoff c d (m.k - m.par.backoff) s
    else if x.gain.gt ≤ m.s then setStability c d { m with state := .track, s := x.gain.gt, holdRun := 0 } s
    else s
  | .track =>
    if m.k < m.s then enterBackoff c d (m.k - m.par.backoff) s
    else if m.s < x.gain.gt then enterClimb c d m.s s
    else s

/-- State of a watch-mode direction whose S has come to its place: TRACK at G_leg, HOLD where the net holds S at K_w - 0.50 dB, CLIMB
while it rises (R668). -/
def watchState (c : Fin 64) (d : Dir) (v : Int) (s : State) : State :=
  let m := (direction c d s).stab
  let st : StabState := if gTarget c d s ≤ v then .track else if m.k - 50 ≤ v then .hold else .climb
  setStability c d { m with state := st, s := v } s

/-- What S's target in watch mode is: min(G_leg, K_w - 0.50 dB), which is G_leg while the net is out of force (R666). -/
def watchTarget (c : Fin 64) (d : Dir) (s : State) : Int := min (gTarget c d s) ((direction c d s).stab.k - 50)

/-- Watch mode's evaluation with no time passing (R666): the net, the fall below K_w, the fall to a lower target. -/
def settleWatch (c : Fin 64) (d : Dir) (s : State) : State :=
  let m := (direction c d s).stab
  if m.state = .muted then s
  else
    let s := watchNet c d s
    if m.k < m.s then enterBackoff c d (m.k - 300) s
    else if watchTarget c d s < m.s then enterBackoff c d (watchTarget c d s) s
    else if m.state = .backoff then s
    else watchState c d m.s s

/-- One slow tick of watch mode: S rises by 0.10 dB; the net's 500 ms count (R666, R667). -/
def watchTick (c : Fin 64) (d : Dir) (s : State) : State :=
  let s := settleWatch c d s
  let m := (direction c d s).stab
  let s := modGq c d (fun g => { g with netOkMs := if g.net && decide (gTarget c d s ≤ m.k - 50) then g.netOkMs + 1 else 0 }) s
  if m.state = .backoff then modStab c d (fun m => { m with dwell := m.dwell + 1 }) s
  else if m.state = .muted then s
  else watchState c d (min (m.s + 10) (watchTarget c d s)) s

/-- The transitions that the clamp and the target force (R203; in watch mode R666). -/
def settle (c : Fin 64) (d : Dir) (s : State) : State := if inWatch s then settleWatch c d s else settleNative c d s

/-- A gain epoch's target in the stability machine (R205): a target below S lowers S at once in every unmuted state; CLIMB and HOLD at
or above it enter TRACK; TRACK below it enters CLIMB. -/
def newTarget (c : Fin 64) (d : Dir) (s : State) : State :=
  let x := direction c d s
  let m := x.stab
  if m.state = .muted then s
  else
    let s := if inWatch s then s else modStab c d (fun m => { m with s := min m.s x.gain.gt }) s
    settle c d s

/-- One slow tick of CLIMB: S rises by 0.10 dB towards min(G_t, K - 0.50 dB) (R201, R203). -/
def climbTick (c : Fin 64) (d : Dir) (s : State) : State :=
  let x := direction c d s
  let m := x.stab
  let up := min (m.s + 10) (min x.gain.gt (m.k - 50))
  if x.gain.gt ≤ up then setStability c d { m with state := .track, s := x.gain.gt } s
  else if m.k - 50 ≤ up then setStability c d { m with state := .hold, s := m.k - 50, holdRun := 0 } s
  else modStab c d (fun m => { m with s := up }) s

/-- The slow tick's work on a direction's stability machine (R193, R203). Timers count here; their expiries are commands of their
own (log entry 12). -/
def stabilityTick (c : Fin 64) (d : Dir) (s : State) : State :=
  let s := refreshK c d s
  let x := direction c d s
  if isFrozen x s then s
  else if inWatch s && x.stab.state != .muted then watchTick c d s
  else
    let m := x.stab
    match m.state with
    | .muted => modStab c d (fun m => { m with holdoff := m.holdoff + 1, retry := m.retry + 1 }) s
    | .climb => if m.k < m.s then settle c d s else climbTick c d s
    | .track => settle c d s
    | .hold =>
      let s := settle c d s
      modStab c d (fun m => { m with holdRun := if m.s + 100 ≤ m.k - 50 then m.holdRun + 1 else 0 }) s
    | .backoff =>
      if m.k < m.s then settle c d s else modStab c d (fun m => { m with dwell := m.dwell + 1 }) s

/-- Unmuting a direction (R206): the frozen state resumes, with S lowered to K - backoff where K is below S; a direction muted for longer than a window
climbs again from S0. -/
def unfreeze (c : Fin 64) (d : Dir) (s : State) : State :=
  let s := refreshK c d s
  let x := direction c d s
  let m := x.stab
  let muted := m.frozenAt.elim 0 (fun t => s.slowTicks - t)
  let s := modStab c d (fun m => { m with frozenAt := none }) s
  if m.state = .muted then s
  else if withinWindow (chan c s).defn.cls x.meter.par.w muted then
    newTarget c d (modStab c d (fun m => { m with s := if m.k < m.s then m.k - m.par.backoff else m.s }) s)
  else enterClimb c d (climbFrom (gTarget c d s) m.k m.par) s

/-- After a change that may mute or unmute a direction: freezing starts or the direction resumes (R206). was: it was frozen before. -/
def freezeFrom (was : Bool) (c : Fin 64) (d : Dir) (s : State) : State :=
  let nowFrozen := isFrozen (direction c d s) s
  if was = nowFrozen then s
  else if nowFrozen then modStab c d (fun m => { m with frozenAt := some s.slowTicks }) s
  else unfreeze c d s

/-! ## Measurements -/

/-- Paths of a direction changed, by path number. -/
def Direction.mapPaths (x : Direction) (f : Nat → Path → Path) : Direction :=
  { x with paths := Vector.ofFn (fun k => f k.val x.paths[k]) }

/-- A path's window begins anew. -/
def Path.freshWindow (p : Path) : Path := { p with done := [], cur := SubWindow.reset }

/-- The start-up isolation measurement begins: output muted, pilot alone, delay search first (R209). -/
def startMeasurement (c : Fin 64) (d : Dir) (pilot : Int) (searchMax : Nat) (ringOf : Option (Fin 22)) (s : State) : State :=
  let s := modDir c d (fun x => x.mapPaths (fun _ p => { p.freshWindow with search := DelaySearch.reset })) s
  let y := direction c d s
  let m := y.stab
  let x : Measurement :=
    { openLoop := true, searching := true, pilot := pilot, searchMax := searchMax, start := y.ordinal, ring := ringOf }
  if m.state = .muted then setStability c d { m with measuring := some x } s
  else setStability c d { m with state := .muted, reason := .measure, measuring := some x, dwellRunning := false, onset := none } s

/-- The pilot's automatic level moves by 1.00 dB once per published estimate (R187). -/
def pilotLevel (p : ProbeParams) (snr : Nat) (level : Int) : Int :=
  if p.levelMin = p.levelMax then p.levelMin
  else if snr < 20 then min p.levelMax (level + 100)
  else if 26 < snr then max p.levelMin (level - 100)
  else level

/-- The OSCILLATION mute of R199: MUTED with reason OSCILLATION, or OSC_LOCKOUT at the osc_limit-th within 600 s (R204). In watch
mode the osc bit latches it and there is no lockout (R669). -/
def oscillationMute (c : Fin 64) (d : Dir) (s : State) : State :=
  let s := answerMeasure c d s
  let m := (direction c d s).stab
  let s := if inWatch s then modGq c d (fun g => { g with osc := true, oscLatched := true }) s else s
  let recent := m.mutes.filter (fun t => decide (s.slowTicks < t + 600000))
  let mutes := recent ++ [s.slowTicks]
  let locked := !inWatch s && decide (m.par.oscLimit ≤ mutes.length)
  let s := setStability c d { m with state := .muted, reason := if locked then .oscLockout else .oscillation, mutes := mutes, holdoff := 0,
                                     onset := none, dwellRunning := false, measuring := none } s
  let s := raise 66 (dirObject c d) 0 s
  if locked then raise 67 (dirObject c d) 0 s else s

end Sys2Proof.Machine
end

