-- ==== Sys2Proof/Machine/Protect.lean ====
section
/-! DEFINITION. The protection supervisor: mutes of a direction and their reasons (R255), port stops
(R256), the escalation to MUTE_COUNT and PORTS (R254), the orderly stop (R570), and the limit gates' records (R261, R266). -/

namespace Sys2Proof.Machine

/-! ## The orderly stop -/

/-- Reason of R265 that matches a stop reason of R571 (R570). -/
def stopReasonCode : Nat → Nat
  | 1 => reasonHost
  | 2 => reasonPorts
  | 3 => reasonFault
  | _ => reasonThermal

/-- Payload of a POWER_STATE record (R601). -/
def powerPayload (old new cause : Nat) : List Byte := payload 16 [(0, 1, old), (1, 1, new), (2, 1, cause)]

/-- JTAG instructions that drive pins (R704). -/
def drivesPins : TapInstr → Bool
  | .extest => true
  | .extestPulse => true
  | .extestTrain => true
  | .clamp => true
  | _ => false

/-- A pin-driving instruction in force when the state leaves STOPPED is replaced by BYPASS while House Rules are locked (R704). -/
def dropScan (old : PowerState) (s : State) : State :=
  if old = .stopped ∧ s.hr.locked ∧ drivesPins s.dbg.inForce then { s with dbg := { s.dbg with inForce := .bypass } } else s

/-- A POWER_STATE record and event (R601, R602). -/
def powerRecord (old new : PowerState) (cause writer : Nat) (s : State) : State :=
  let bytes := powerPayload old.code new.code cause
  dropScan old (logRecord 1 0 (writerSource writer) 0x0010 bytes [eventAt s 0x0010 0 0xFFFF bytes] s)

/-- The wall clock: the seconds set, and the operating time since; it reads 0 while it is invalid (R536). -/
def wallNow (s : State) : Word := if s.gb.wallValid then s.gb.wallSeconds + BitVec.ofNat 32 ((opTime s - s.gb.wallBaseUs) / 1000000) else 0

/-- A checkpoint of the Guestbook's time and counts (R547). -/
def writeCheckpoint (s : State) : State :=
  { s with gb := { s.gb with checkpointUs := opTime s, checkpointCycles := s.gb.powerCycles, checkpointSeq := s.gb.seqNext,
                             checkpointWall := wallNow s, checkpointWallValid := s.gb.wallValid } }

/-- Directions whose freezing an action may change, as they were before it. -/
def frozenNow (s : State) : List ((Fin 64 × Dir) × Bool) := (liveDirs s).map (fun e => (e, isFrozen (direction e.1 e.2 s) s))

/-- Freezing brought up to date after an action, for the directions listed with what they were (R206). -/
def refreeze (was : List ((Fin 64 × Dir) × Bool)) (s : State) : State :=
  was.foldl (fun s e => freezeFrom e.2 e.1.1 e.1.2 s) s

/-- Legacy alarm bits of a mute (R664): OVERPOWER, DONOR_LOSS of an UL direction. -/
def legacyMute (c : Fin 64) (d : Dir) (reason : Nat) (s : State) : State :=
  if !inWatch s then s
  else if reason = reasonOverpower then modGq c d (fun g => { g with overPower := true }) s
  else if reason = reasonDonorLoss ∧ d = .ul then
    { s with compat := { s.compat with chans := upd s.compat.chans c.val (fun g => { g with donorLoss := true }) } }
  else s

/-- Legacy alarm bits of a port stop (R664): GQ_ALARM.power for D0 and S0, and the overpower bit of the direction that transmits there when the
stop is for COMPOSITE_OVER. -/
def legacyStop (p : Fin 8) (reason : Nat) (s : State) : State :=
  if !(inWatch s && (p == 0 || p == 4)) then s
  else
    let s := { s with compat := { s.compat with alarmPower := true } }
    if reason = reasonCompositeOver then
      let d : Dir := if p = 4 then .dl else .ul
      ((List.finRange 64).filter (fun c => dirLive c d s)).foldl (fun s c => modGq c d (fun g => { g with overPower := true }) s) s
    else s

/-- A mute reason of a direction put in force (R255): the reason that is already in force writes nothing; the record is DONOR_LOST for
DONOR_LOSS and DIRECTION_MUTED otherwise (log entry 14). -/
def addMute (c : Fin 64) (d : Dir) (reason : Nat) (i : ProtInfo) (s : State) : State :=
  let x := direction c d s
  if hasReason x.gain.reasons reason then s
  else
    let was := isFrozen x s
    let s := modGain c d (fun g => { g with reasons := putReason g.reasons reason }) s
    let s := dirRecord (if reason = reasonDonorLoss then 0x0008 else 0x0003) c d 2 reason i s
    freezeFrom was c d (legacyMute c d reason s)

/-- A mute reason of a direction that ends (R255). -/
def dropMute (c : Fin 64) (d : Dir) (reason : Nat) (i : ProtInfo) (s : State) : State :=
  let x := direction c d s
  if !hasReason x.gain.reasons reason then s
  else
    let was := isFrozen x s
    let s := modGain c d (fun g => { g with reasons := cutReason g.reasons reason }) s
    let s := dirRecord (if reason = reasonDonorLoss then 0x0009 else 0x0004) c d 2 reason i s
    freezeFrom was c d s

/-- Every transmit port of the direction on this device is stopped (R256). -/
def allPortsStopped (c : Fin 64) (d : Dir) (s : State) : Bool :=
  let ps := (dirDef c d s).txPorts d
  onTransmitDevice (dirDef c d s) s && !ps.isEmpty && ps.all (fun p => portStopped (port p s))

/-- A direction's contribution to a transmit element is under a hold or a stop of its port (R256, R340). -/
def elementShut (c : Fin 64) (d : Dir) (j : Fin 4) (s : State) : Bool := dirHeld c d (txPort d j) s || portStopped (port (txPort d j) s)

/-- Every transmit port of the direction on this device is under a transmit hold or a port stop (R341). -/
def allHeld (c : Fin 64) (d : Dir) (s : State) : Bool :=
  let df := dirDef c d s
  let js := maskPorts df.tx
  onTransmitDevice df s && !js.isEmpty && js.all (fun j => elementShut c d j s)

/-- The transmit elements under a hold or a stop noted, with the instant at which one ended (R179). -/
def noteHolds (c : Fin 64) (d : Dir) (s : State) : State :=
  modDir c d (fun x =>
    let shut (j : Fin 4) : Bool := onTransmitDevice (dirDef c d s) s && elementShut c d j s
    { x with heldPorts := (List.finRange 4).foldl (fun a j => if shut j then a ||| BitVec.ofNat 4 (2 ^ j.val) else a) 0,
             heldEnd := Vector.ofFn (fun j : Fin 4 => if x.heldPorts.getLsbD j.val && !shut j then some s.now else x.heldEnd[j]) }) s

/-- Holds brought up to date after an event that may change one: directions freeze and resume (R341, R342). -/
def refreshHolds (s : State) : State :=
  (liveDirs s).foldl (fun s e =>
    let s := noteHolds e.1 e.2 s
    let x := direction e.1 e.2 s
    let h := allHeld e.1 e.2 s
    if h = x.held then s
    else
      freezeFrom (isFrozen x s) e.1 e.2 (modDir e.1 e.2 (fun x => { x with held := h }) s)) s

/-- After a port stop begins or ends: PORT_STOP on the directions that transmit there, and their holds, follow (R230, R256, R341). -/
def refreshPortStops (s : State) : State :=
  refreshHolds ((liveDirs s).foldl (fun s e =>
    if allPortsStopped e.1 e.2 s then addMute e.1 e.2 reasonPortStop {} s else dropMute e.1 e.2 reasonPortStop {} s) s)

/-- Steps 1 to 3 of the orderly stop (R570), for a stop reason of R571, or for a SLEEP entry with the ports' reason POWER_STATE and
no DEVICE_STOP record (R575). STOPPED is entered at once when no rail has to be stopped. -/
def beginStop (portCode : Nat) (s : State) : State :=
  let s := (List.finRange 8).foldl (fun s p =>
    let s' := modPort p (fun x => { x with deviceStop := portCode }) s
    if (port p s).deviceStop = portCode then s' else portRecord 0x0005 p 3 portCode {} s') s
  stopPortRails (flushProt (refreshPortStops s))

/-- The device enters STOPPED (R570 step 4). -/
def enterStopped (s : State) : State :=
  let was := frozenNow s
  refreeze was { s with sys := { s.sys with power := .stopped, transition := .none } }

/-- An orderly stop for a reason (R570, R718), the record of the higher ladder step first (R257): it pre-empts a QUIET transition, a SLEEP entry before its commit point and a restart;
a device already STOPPED or stopping is left as it is. -/
def orderlyStop (reason : Nat) (src : Option (Fin 512)) (writer : Nat) (s : State) : State :=
  let going := match s.sys.transition with
    | .stopping _ _ => false
    | .sleeping k => decide (k < 4)
    | .restarting _ => true
    | .quieting => true
    | .none => s.sys.power != .stopped
  if s.sys.power = .sleep ∨ going = false then s
  else
    let code := stopReasonCode reason
    let restarting := match s.sys.transition with
      | .restarting a => some a
      | _ => none
    let old := s.sys.power
    let s := { s with sys := { s.sys with transition := .stopping reason src, stopReason := reason, stopSource := src,
                                          abandonedRestart := restarting == some false } }
    let s := protRecord 0x0007 2 0xFF 0xFF 0xFF 4 code (match src with | some n => { source := n.val } | none => {}) s
    let s := beginStop code s
    let s := writeCheckpoint (powerRecord old .stopped reason writer s)
    if portRailsOff s then enterStopped s else s

/-! ## Port stops -/

/-- Port stops that count towards PORTS (R254). -/
def countsForPorts (p : PortState) : Bool :=
  hasReason p.stops reasonCompositeOver || hasReason p.stops reasonMuteCount || hasReason p.stops reasonOutputGate

/-- Ladder step 4: device_stop_ports ports stopped at one time order an orderly stop (R254). -/
def checkPorts (s : State) : State :=
  if s.ladder.deviceStopPorts ≤ ((List.finRange 8).filter (fun p => countsForPorts (port p s))).length then
    orderlyStop 2 none deviceWriter s
  else s

/-- A port stopped for a reason (R256): output and PA enable off, directions with no port left muted, then ladder step 4. -/
def stopPort (p : Fin 8) (reason : Nat) (i : ProtInfo) (s : State) : State :=
  if hasReason (port p s).stops reason then s
  else
    let s := modPort p (fun x => { x with
      stops := putReason x.stops reason,
      retryAt := if s.ladder.portRetryS ≠ 0 ∧ (reason = reasonCompositeOver ∨ reason = reasonMuteCount) then
          some (s.slowTicks + 1000 * s.ladder.portRetryS)
        else if reason = reasonCompositeOver ∨ reason = reasonMuteCount then none else x.retryAt }) s
    checkPorts (refreshPortStops (portRecord 0x0005 p 3 reason i (legacyStop p reason s)))

/-- A stop reason of a port that ends; the port resumes when none is left (R256). -/
def releasePort (p : Fin 8) (reason : Nat) (i : ProtInfo) (s : State) : State :=
  if !hasReason (port p s).stops reason then s
  else
    let s := modPort p (fun x =>
      let stops := cutReason x.stops reason
      { x with stops := stops, retryAt := if hasReason stops reasonCompositeOver || hasReason stops reasonMuteCount then x.retryAt else none }) s
    refreshPortStops (portRecord 0x0006 p 3 reason i s)

/-- The device's own port stops released, at a restart (R572). -/
def releaseDeviceStops (s : State) : State :=
  let s := (List.finRange 8).foldl (fun s p =>
    let code := (port p s).deviceStop
    if code = 0 then s else portRecord 0x0006 p 3 code {} (modPort p (fun x => { x with deviceStop := 0 }) s)) s
  refreshPortStops s

/-- Mutes that count towards MUTE_COUNT on a port (R254, R276). -/
def recentMutes (s : State) (p : PortState) : List Nat := p.muteCounts.filter (fun t => decide (s.slowTicks < t + 10000))

/-- An OVERPOWER or OUTPUT_GATE mute of a direction counted on its transmit ports; port_mute_limit of them within 10 s stop the port
(R254). -/
def countMute (c : Fin 64) (d : Dir) (s : State) : State :=
  ((dirDef c d s).txPorts d).foldl (fun s p =>
    let counts := recentMutes s (port p s) ++ [s.slowTicks]
    let s := modPort p (fun x => { x with muteCounts := counts }) s
    if s.ladder.portMuteLimit ≤ counts.length then
      stopPort p reasonMuteCount { measured := counts.length, limit := s.ladder.portMuteLimit } s else s) s

/-! ## Reductions (ladder step 1) -/

/-- A reduction term of a direction binds or not: REDUCTION_BEGAN when it first binds; when it stops, the time of that is kept for
REDUCTION_ENDED (R254, R267). -/
def dirReduction (c : Fin 64) (d : Dir) (reason : Nat) (binding : Bool) (i : ProtInfo) (s : State) : State :=
  let g := (direction c d s).gain
  let since := g.unbindingSince.filter (fun e => e.1 != reason)
  if binding then
    let s' := modGain c d (fun g => { g with reducing := putReason g.reducing reason, unbindingSince := since }) s
    if hasReason g.reducing reason then s' else dirRecord 0x0001 c d 1 reason i s'
  else if hasReason g.reducing reason && !g.unbindingSince.any (fun e => e.1 == reason) then
    modGain c d (fun g => { g with unbindingSince := since ++ [(reason, s.slowTicks)] }) s
  else s

/-- As dirReduction, for a port. -/
def portReduction (p : Fin 8) (reason : Nat) (binding : Bool) (i : ProtInfo) (s : State) : State :=
  let g := port p s
  let since := g.unbindingSince.filter (fun e => e.1 != reason)
  if binding then
    let s' := modPort p (fun g => { g with reducing := putReason g.reducing reason, unbindingSince := since }) s
    if hasReason g.reducing reason then s' else portRecord 0x0001 p 1 reason i s'
  else if hasReason g.reducing reason && !g.unbindingSince.any (fun e => e.1 == reason) then
    modPort p (fun g => { g with unbindingSince := since ++ [(reason, s.slowTicks)] }) s
  else s

/-! ## Limit gates -/

/-- Payload of a gate record (R266). -/
def gatePayload (writer setting op ch dir : Nat) (requested applied bound : Int) (s : State) : List Byte :=
  payload 16 [(0, 1, writer), (1, 1, setting), (2, 2, op), (4, 1, ch), (5, 1, dir), (6, 2, satInt 16 requested),
    (8, 2, satInt 16 applied), (10, 2, satInt 16 bound), (12, 4, (frameCount s).toNat)]

/-- SETTING_CLAMPED with its event, severity INFO (R261, R266, R267). -/
def gateClamped (writer setting op ch dir : Nat) (requested applied bound : Int) (s : State) : State :=
  let bytes := gatePayload writer setting op ch dir requested applied bound s
  logRecord 4 0 (writerSource writer) 0x0010 bytes [eventAt s 0x0302 0 0xFFFF bytes] s

/-- SETTING_REFUSED with its event, severity NOTICE. -/
def gateRefused (writer setting op ch dir : Nat) (requested applied bound : Int) (s : State) : State :=
  let bytes := gatePayload writer setting op ch dir requested applied bound s
  logRecord 4 1 (writerSource writer) 0x0011 bytes [eventAt s 0x0302 1 0xFFFF bytes] s

/-- OUTPUT_GATE_TRIP with its event, severity SEVERE; the device itself writes it (R266, R529, log entry 15). -/
def gateTripped (c : Fin 64) (d : Dir) (applied bound : Int) (s : State) : State :=
  let bytes := gatePayload deviceWriter 8 0xFFFF c.val (dirCode d).toNat applied applied bound s
  logRecord 4 3 (writerSource deviceWriter) 0x0012 bytes [eventAt s 0x0302 3 70 bytes] s

/-- A gain target under the gate (R259): the value in force and whether it was clamped. -/
def gateGain (c : Fin 64) (d : Dir) (want : Int) (s : State) : Int := min want (gHr c d s)

end Sys2Proof.Machine
end

