-- ==== Sys2Proof/Machine/Epochs.lean ====
section
/-! DEFINITION. What a setting does at the block that carries its epoch, unit by unit (R40), the prediction of achieved cancellation
(R185), stamping and retirement of epochs (R38, R41). -/

namespace Sys2Proof.Machine

/-! ## Paths -/

/-- Taps in use: max(16, 16 floor(N f_N / 16)), for an active-tap fraction in quarters; 0 for an inactive path (R183). -/
def tapsInUse (n quarters : Nat) : Nat := if n = 0 then 0 else max 16 (16 * (n * quarters / 64))

/-- A tap list cut or extended with zeros to n taps (R181, R184). -/
def resizeTaps (n : Nat) (h : List (Int × Int)) : List (Int × Int) := h.take n ++ List.replicate (n - h.length) (0, 0)

/-- Energy of taps. -/
def tapEnergy (h : List (Int × Int)) : Nat := (h.map (fun t => (t.1 * t.1 + t.2 * t.2).toNat)).sum

/-- The estimate of a path. -/
def Meter.pathEst (m : Meter) (k : Nat) : Option PathEst := m.paths.find? (fun e => e.path.val == k)

/-- Achieved cancellation of a path by its estimate; that of the direction where no estimate names the path. -/
def pathCancellation (m : Meter) (k : Nat) : Int :=
  match m.pathEst k with
  | some e => e.raw - e.res
  | none => m.aRaw - m.aRes

/-- C_pred of a path after a tap reduction (R185): -10·log10(10^(-C/10) + f_tail), f_tail the share of the energy discarded; of taps that are all
zero f_tail has no value (log entry 165). -/
def predictReduced (c : Int) (before after : List (Int × Int)) : Int :=
  let all := tapEnergy before
  if all = 0 then Config.predictionWithoutTaps c
  else
    let tail := all - tapEnergy after
    0 - ratioDb (powerOf (-c) * all + tail * 2 ^ 48) (2 ^ 48 * all)

/-- A path under a throttle of an active-tap fraction in quarters and an adaptation shift, from the block of an ordinal on; a reduction of its taps
predicts its cancellation (R181, R183-R185). -/
def Path.withUse (m : Meter) (ordinal k : Nat) (throttle : Nat × Nat) (p : Path) : Path :=
  let n := tapsInUse p.par.taps throttle.1
  let h := resizeTaps n p.taps
  { p with taps := h, nEff := n, muShift := throttle.2,
           pred := if n < p.nEff then some (ordinal, if n = 0 then 0 else predictReduced (pathCancellation m k) p.taps h) else p.pred }

/-- A path whose taps are reset to zero; its cancellation is predicted as 0 dB from the block of an ordinal on (R178, R185, R213). -/
def Path.cleared (ordinal : Nat) (p : Path) : Path := { p with taps := List.replicate p.nEff (0, 0), pred := some (ordinal, 0) }

/-- Path number k belongs to receive element i (R173). -/
def pathInto (i k : Nat) : Bool := k / 4 == i

/-- Coupling of the direction from its paths' estimates under weights and trims (R190); res selects after CANCEL, with the
predictions of R185 where they are set. -/
def couplingOf (x : Direction) (df : DirDef) (res : Bool) : Option Int :=
  if x.meter.paths.isEmpty then none
  else some (sumAmplitudes (x.meter.paths.map (fun e =>
    let w := nth df.weight (e.path.val / 4) 0 + nth df.trim (e.path.val % 4) 0
    let p := x.paths[e.path]
    if !res || p.nEff == 0 && p.pred.isNone then w + e.raw
    else match p.pred with
      | some v => w + e.raw - v.2
      | none => w + e.res)))

/-- C_pred of a direction without estimates: the least that its paths' predictions leave. -/
def worstPrediction (x : Direction) : Int :=
  (List.finRange 16).foldl (fun a k => match x.paths[k].pred with
    | some v => min a v.2
    | none => a) (x.meter.aRaw - x.meter.aRes)

/-- The couplings brought up to date after a change of estimates, taps, paths, weights or trims: the estimates are summed anew (R190, R193), and the
predictions of R185 are used where there are any. -/
def Direction.coupled (df : DirDef) (x : Direction) : Direction :=
  let anyPred := (List.finRange 16).any (fun k => x.paths[k].pred.isSome)
  let kept := if x.meter.newSince.isSome then x.meter.cPred else none
  match couplingOf x df false, couplingOf x df true with
  | some raw, some res =>
    { x with meter := { x.meter with aRaw := raw, aRes := if anyPred then x.meter.aRes else res, cPred := if anyPred then some (raw - res) else kept } }
  | _, _ => { x with meter := { x.meter with cPred := if anyPred then some (worstPrediction x) else kept } }

/-- See Direction.coupled. -/
def refreshCoupling (c : Fin 64) (d : Dir) (s : State) : State := modDir c d (Direction.coupled (dirDef c d s)) s

/-- The clamp and the transitions it forces at the block that carries an epoch (R194, R207). A frozen direction keeps its state. -/
def reclamp (c : Fin 64) (d : Dir) (s : State) : State :=
  let s := refreshK c d s
  if isFrozen (direction c d s) s then s else settle c d s

/-! ## Settings at their block -/

/-- The channeliser's part of a change, at the block it stamps: centre frequency and TDD pattern. -/
def stampSetting (ordinal : Nat) (c : Fin 64) (d : Dir) : Setting → State → State
  | .definition df tdd moved, s =>
    let s := if moved then modDir c d (fun x => { x with centreFrom := ordinal, centreBefore := (dirDef c d s).centre }) s else s
    modChan c (fun ch => { ch with defn := { (ch.defn.setDir d { ch.defn.dir d with centre := df.centre }) with tdd := tdd } }) s
  | _, s => s

/-- Bulk delay of a path by the delay search: peak lag - pre_taps, not below 0 (R209); 0 where it has found none (R210). -/
def Path.foundDelay (p : Path) (preTaps : Nat) : Nat := p.peak.elim 0 (· - preTaps)

/-- A path under new parameters: an automatic delay is the one that the delay search found (R180, R209); with another delay its window begins anew (log
entry 166). -/
def Path.configured (q : PathParams) (p : Path) : Path :=
  let par := { q with bulkDelay := if q.autoDelay then p.foundDelay q.preTaps else q.bulkDelay }
  let p' := { p with par := par }
  if par.bulkDelay = p.par.bulkDelay then p' else p'.freshWindow

/-- CANCEL's part at the block of an ordinal, for the paths into one receive element. -/
def cancelSetting (i ordinal : Nat) (c : Fin 64) (d : Dir) : Setting → State → State
  | .cancelParams mask p, s =>
    modDir c d (fun x => x.mapPaths (fun k q =>
      if pathInto i k && mask.getLsbD k then Path.withUse x.meter ordinal k (throttleOf c d (Fin.ofNat 4 i) s) (q.configured p) else q)) s
  | .cancelReset mask, s => modDir c d (fun x => x.mapPaths (fun k q => if pathInto i k && mask.getLsbD k then q.cleared ordinal else q)) s
  | .tapFraction, s =>
    modDir c d (fun x => x.mapPaths (fun k q => if pathInto i k then Path.withUse x.meter ordinal k (throttleOf c d (Fin.ofNat 4 i) s) q else q)) s
  | .definition _ _ true, s => modDir c d (fun x => x.mapPaths (fun k q => if pathInto i k then q.cleared ordinal else q)) s
  | _, s => s

/-- SHAPE's part: combining weights, its own parameter block. -/
def shapeSetting (c : Fin 64) (d : Dir) : Setting → State → State
  | .kernels a 0 tSh coeffs, s => { s with eng := { s.eng with asgs := s.eng.asgs.set a { s.eng.asgs[a] with tSh := tSh, shapeTaps := coeffs } } }
  | .definition df _ _, s =>
    modChan c (fun ch => { ch with defn := ch.defn.setDir d { ch.defn.dir d with weight := df.weight } }) s
  | _, s => s

/-- Attenuation of an ALC that is enabled or not: 0 while disabled, the frozen value while frozen (R236, R240). -/
def GainState.withAlc (p : AlcParams) (g : GainState) : GainState :=
  { g with alc := p, aAlc := if !p.enable then 0 else if g.alcFrozen then g.alcHeld else g.aAlc }

/-- GAIN's part at the block of an ordinal: gain settings, trims, and the clamp of a configuration change. -/
def gainSetting (ordinal : Nat) (c : Fin 64) (d : Dir) : Setting → State → State
  | .hostMute m, s =>
    let was := isFrozen (direction c d s) s
    freezeFrom was c d (modDir c d (fun x => { x with hostMuted := m }) s)
  | .gainTarget g, s =>
    let s := modGain c d (fun x => { x with gt := g }) s
    if isFrozen (direction c d s) s then s else newTarget c d s
  | .margin p, s => reclamp c d (modStab c d (fun m => { m with par := p }) s)
  | .alc p, s => modGain c d (GainState.withAlc p) s
  | .powerLimit pch ovs, s => modGain c d (fun g => { g with pChMax := pch, ovs := ovs }) s
  | .coupling p, s => modGain c d (fun g => { g with coupling := p }) s
  | .squelch p, s => modGain c d (fun g => { g with squelch := p, aSq := if p.enable then g.aSq else 0 }) s
  | .frontEnd f, s => reclamp c d (modGain c d (fun g => { g with f := f }) s)
  | .portLimits p comp tx rx, s => modPort p (fun v => { v with pCompMax := comp.or v.pCompMax, pCalTx := tx, pCalRx := rx }) s
  | .donorRule, s => modGain c d (fun g => { g with lossEnable := true, lossAbsentMs := min 200 g.lossAbsentMs }) s
  | .definition df _ moved, s =>
    let s := modChan c (fun ch => { ch with defn := ch.defn.setDir d { ch.defn.dir d with trim := df.trim } }) s
    let s := modDir c d (fun x => { x with gainCentre := df.centre }) s
    let s := refreshCoupling c d s
    let lowered (m : Meter) : Meter := { m with iDrop := 600, cPred := some 0, newSince := some ordinal }
    let s := if moved then modDir c d (fun x => { x with meter := lowered x.meter }) s else s
    reclamp c d s
  | .cancelParams _ _, s => reclamp c d (refreshCoupling c d s)
  | .cancelReset _, s => reclamp c d (refreshCoupling c d s)
  | .tapFraction, s => reclamp c d (refreshCoupling c d s)
  | _, s => s

/-- PROBE's part (R219): a new W restarts the window. -/
def probeSetting (c : Fin 64) (d : Dir) : Setting → State → State
  | .probe p, s =>
    modDir c d (fun x =>
      let y := if p.w = x.meter.par.w then x else x.mapPaths (fun _ q => q.freshWindow)
      { y with meter := { x.meter with par := p, level := clampInt p.levelMin p.levelMax x.meter.level } }) s
  | _, s => s

/-- Number of a unit's kernel (R284). -/
def kernelOf : KernelUnit → Nat
  | .cancel => 0
  | .probe => 1
  | .shape => 2
  | .gain => 3
  | .detect => 4
  | .measure => 5
  | .relay => 6

/-- The version of a unit's kernel (R313, R316); of the kernels without settings of their own it changes with SHAPE's. -/
def versionSetting (u : KernelUnit) : Setting → State → State
  | .kernels a 1 k v, s =>
    if k = kernelOf u ∨ (u = .shape ∧ 4 ≤ k) then
      { s with eng := { s.eng with asgs := s.eng.asgs.set a { s.eng.asgs[a] with versions := upd s.eng.asgs[a].versions k (fun _ => (v.headD 0).toNat) } } }
    else s
  | _, s => s

/-- A unit adopts settings before it processes the block of an ordinal, the first that carries their epoch (R40). p is CANCEL's receive port. -/
def unitSettings (u : KernelUnit) (p : Fin 8) (c : Fin 64) (d : Dir) (ordinal : Nat) (sets : List Setting) (s : State) : State :=
  let s := sets.foldl (fun s x => versionSetting u x s) s
  match u with
  | .cancel => sets.foldl (fun s x => cancelSetting (p.val % 4) ordinal c d x s) s
  | .shape => sets.foldl (fun s x => shapeSetting c d x s) s
  | .gain => sets.foldl (fun s x => gainSetting ordinal c d x s) s
  | .probe => sets.foldl (fun s x => probeSetting c d x s) s
  | _ => s

/-- A unit's own part of a change of a kind whose epoch the block of an ordinal carries, if it has not adopted it yet. -/
def adoptStamp (key : KernelUnit × Fin 8) (ordinal : Nat) (st : Stamp) : Option (Nat × List Setting) :=
  if ordinal < st.ordinal || st.adopted.contains key then none else some (st.ordinal, st.settings)

/-- The change noted as adopted by that unit. -/
def noteAdopted (key : KernelUnit × Fin 8) (ordinal : Nat) (st : Stamp) : Stamp :=
  if (adoptStamp key ordinal st).isSome then { st with adopted := st.adopted ++ [key] } else st

/-- Units that hold a part of a setting. -/
def settingUnits : List (KernelUnit × Fin 8) :=
  [(.cancel, 0), (.cancel, 1), (.cancel, 2), (.cancel, 3), (.shape, 0), (.gain, 0), (.probe, 0)]

/-- Key of a unit's part in settingUnits: CANCEL by its receive element. -/
def partKey (u : KernelUnit) (p : Fin 8) : KernelUnit × Fin 8 := if u = .cancel then (u, Fin.ofNat 8 (p.val % 4)) else (u, 0)

/-- Changes of a kind that lag or are being carried, oldest first. -/
def EpochLine.stamps (l : EpochLine) : List Stamp := l.lagging ++ l.stamped.toList

/-- One kind of epoch adopted by a unit when the block of an ordinal reaches it; a retired change that every unit has adopted is forgotten. -/
def adoptLine (k : EpochKind) (u : KernelUnit) (p : Fin 8) (c : Fin 64) (d : Dir) (ordinal : Nat) (s : State) : State :=
  let l := (direction c d s).line k
  let key := partKey u p
  let sets := l.stamps.filterMap (adoptStamp key ordinal)
  if sets.isEmpty then s
  else
    let s := modDir c d (fun x => x.setLine k
      { x.line k with stamped := l.stamped.map (noteAdopted key ordinal),
                      lagging := (l.lagging.map (noteAdopted key ordinal)).filter (fun st => !settingUnits.all (fun u => st.adopted.contains u)) }) s
    sets.foldl (fun s v => unitSettings u p c d v.1 v.2 s) s

/-- A unit adopts the parameter sets of a block: configuration first, then gain (R40). -/
def adopt (u : KernelUnit) (p : Fin 8) (c : Fin 64) (d : Dir) (ordinal : Nat) (s : State) : State :=
  adoptLine .gain u p c d ordinal (adoptLine .config u p c d ordinal s)

/-! ## Stamping and retirement -/

/-- A waiting change may be stamped on a block: no epoch of its kind is unretired, and the block is at or after its effective count
(R38, R41). -/
def EpochLine.due (l : EpochLine) (firstCount : Nat) : Option Change :=
  match l.stamped, l.waiting with
  | none, ch :: _ =>
    match ch.effCount with
    | none => some ch
    | some e => if (firstCount + 2 ^ 32 - e.toNat) % 2 ^ 32 < 2 ^ 31 then some ch else none
  | _, _ => none

/-- The channeliser stamps the next epoch of a kind on the block of an ordinal when one is due (R37, R38). -/
def stampLine (k : EpochKind) (c : Fin 64) (d : Dir) (ordinal firstCount : Nat) (s : State) : State :=
  let l := (direction c d s).line k
  match l.due (firstCount % 2 ^ 32) with
  | none => s
  | some ch =>
    let s := modDir c d (fun x => x.setLine k
      { epoch := l.epoch + 1, lagging := l.lagging, waiting := l.waiting.drop 1,
        stamped := some { ticket := ch.ticket, epoch := l.epoch + 1, ordinal := ordinal, settings := ch.settings, adopted := [],
                          left := false } }) s
    ch.settings.foldl (fun s x => stampSetting ordinal c d x s) s

/-- Epoch of a kind that the block of an ordinal carries. -/
def EpochLine.at (l : EpochLine) (ordinal : Nat) : Byte :=
  match l.stamped with
  | some st => if ordinal < st.ordinal then st.epoch - 1 else st.epoch
  | none => l.epoch

/-- The first block of a stamped epoch, or a later one, has left the synthesiser (R41). -/
def markLeft (c : Fin 64) (d : Dir) (ordinal : Nat) (s : State) : State :=
  let f (l : EpochLine) : EpochLine :=
    match l.stamped with
    | some st => if st.ordinal ≤ ordinal then { l with stamped := some { st with left := true } } else l
    | none => l
  modDir c d (fun x => { x with config := f x.config, gainLine := f x.gainLine }) s

/-- A block of an earlier ordinal still waits for a unit (R40): one that was late at the synthesiser and is on its way. -/
def unitOwes (u : KernelUnit) (p : Fin 8) (x : Direction) (ordinal : Nat) : Bool :=
  let k := (ordinal + 65536 - x.released % 65536) % 65536
  x.blocks.any (fun b =>
    let n := (b.sequence.toNat + 65536 - x.released % 65536) % 65536
    let older := decide ((n + 65536 - k) % 65536 ≥ 32768)
    older && (match u, b.stage with
      | .cancel, .channelised => b.port.val % 4 == p.val % 4
      | .cancel, _ => false
      | .shape, .channelised | .shape, .cancelled => true
      | .shape, _ => false
      | _, .channelised | _, .cancelled | _, .combined => true
      | _, _ => false))

/-- At the retirement of an epoch every unit that no older block waits for has reached it: what it has not taken yet, it adopts; the others adopt it at
their next block that carries it (R40). -/
def adoptRest (k : EpochKind) (c : Fin 64) (d : Dir) (s : State) : State :=
  match ((direction c d s).line k).stamped with
  | none => s
  | some st =>
    settingUnits.foldl (fun s u =>
      let port := if u.1 = .cancel then rxPort d (Fin.ofNat 4 u.2.val) else 0
      if unitOwes u.1 port (direction c d s) st.ordinal then s else adoptLine k u.1 port c d st.ordinal s) s

/-- A command's wait for a ticket answered (R42). -/
def Running.retire (ticket : Nat) (seq : Half) (r : Running) : Running :=
  { r with epochs := r.epochs.map (fun e => if e.ticket = ticket then { e with retired := true, seq := some seq } else e) }

/-- Every command that waits for a ticket learns of its retirement. -/
def retireTicket (ticket : Nat) (seq : Half) (s : State) : State :=
  { s with hif := { s.hif with sources := s.hif.sources.map (fun q =>
      { q with running := q.running.map (Running.retire ticket seq), continuing := q.continuing.map (Running.retire ticket seq) }) } }

/-- A line whose change retires: one that a unit has yet to adopt lags. -/
def retired (l : EpochLine) : EpochLine :=
  { l with stamped := none, lagging := l.lagging ++ l.stamped.toList.filter (fun st => !settingUnits.all (fun u => st.adopted.contains u)) }

/-- An epoch retires when the first block that carries it has left the synthesiser (R41). -/
def retireEpoch (k : EpochKind) (c : Fin 64) (d : Dir) (s : State) : State :=
  match ((direction c d s).line k).stamped with
  | none => s
  | some st =>
    if !st.left then s
    else
      let s := adoptRest k c d s
      let s := modDir c d (fun x => x.setLine k (retired (x.line k))) s
      retireTicket st.ticket (BitVec.ofNat 16 st.ordinal) s

end Sys2Proof.Machine
end

