-- ==== Sys2Proof/Machine/EngineOps.lean ====
section
/-! DEFINITION. Placement on the engine pool (R283-R292): costs, segments, wing memory, the reference history of R182, relays, and what
later commands and events use of them. -/

namespace Sys2Proof.Machine

/-! ## The planning board -/

/-- Planning budget of an engine in MAC/s (R283). -/
def planBudget (s : State) : Nat := 780000000 * (100 - s.eng.policy.reserve)

/-- Wing memory for instances and histories, in bytes (R280). -/
def wingMemory : Nat := 1408 * 1024

/-- Wing of an engine (R278). -/
def wingOf (e : Fin 256) : Fin 16 := ⟨e.val / 16, by omega⟩

/-- Engines of a wing. -/
def wingEngines (w : Fin 16) : List (Fin 256) := (List.finRange 16).map (fun k => Fin.ofNat 256 (16 * w.val + k.val))

/-- What placement works on: load and class of each engine, whether it takes new work (R282), memory in use in each wing. -/
structure Board where
  load : Vector Nat 256
  host : Vector (Option Nat) 256
  takes : Vector Bool 256
  mem : Vector Nat 16

/-- Work put on an engine. -/
def Board.put (b : Board) (e : Fin 256) (cls cost : Nat) : Board :=
  { b with load := b.load.set e (b.load[e] + cost), host := b.host.set e (some cls) }

/-- Engine takes work of a class: in service, idle or of that class (R281, R289). -/
def Board.usable (b : Board) (cls : Nat) (e : Fin 256) : Bool := b.takes[e] && (b.host[e].isNone || b.host[e] == some cls)

/-- Remaining planning budget of a wing for a class. -/
def Board.room (b : Board) (budget cls : Nat) (w : Fin 16) : Nat :=
  (((wingEngines w).filter (b.usable cls)).map (fun e => budget - b.load[e])).sum

/-- Costs put on the engines of a list, each on the first with room (R290 step 3). -/
def Board.fit (budget cls : Nat) (es : List (Fin 256)) : List Nat → Board → Option (List (Fin 256) × Board)
  | [], b => some ([], b)
  | cost :: rest, b =>
    match es.find? (fun e => b.usable cls e && decide (b.load[e] + cost ≤ budget)) with
    | none => none
    | some e => (Board.fit budget cls es rest (b.put e cls cost)).map (fun r => (e :: r.1, r.2))

/-- Every segment of every assignment in use. -/
def allSegments (s : State) : List (Fin 256 × Segment) :=
  ((List.finRange 256).filter (fun a => s.eng.asgs[a].used)).flatMap (fun a => (s.eng.asgs[a].segs).map (fun g => (a, g)))

/-- Segments an engine runs. -/
def hosted (e : Fin 256) (s : State) : List (Fin 256 × Segment) := (allSegments s).filter (fun g => g.2.engine == some e)

/-- Board of the pool, without the segments and memory of one assignment; a migration's targets are reserved (R300 step 1). -/
def boardOf (skip : Option (Fin 256)) (s : State) : Board :=
  let b : Board :=
    { load := Vector.replicate 256 0, host := Vector.replicate 256 none,
      takes := s.eng.engines.map (fun e => e.state == .idle || e.state == .active),
      mem := Vector.ofFn (fun w => ((((List.finRange 256).filter (fun a => s.eng.asgs[a].used && skip != some a)).flatMap (fun a => s.eng.asgs[a].mem)).filter
        (fun m => m.wing == w)).foldl (fun n m => n + m.bytes) 0) }
  let b := ((allSegments s).filter (fun g => skip != some g.1)).foldl (fun b g =>
    match g.2.engine with
    | some e => b.put e s.eng.asgs[g.1].cls g.2.cost
    | none => b) b
  s.eng.migrations.foldl (fun b m => m.moves.foldl (fun b v => b.put v.2 s.eng.asgs[m.asg].cls v.1.cost) b) b

/-- Board of the pool with nothing built on it (R323 basis 1). -/
def emptyBoard (s : State) : Board :=
  { load := Vector.replicate 256 0, host := Vector.replicate 256 none, mem := Vector.replicate 16 0,
    takes := s.eng.engines.map (fun e => e.state != .spare && e.state != .retired) }

/-! ## What a direction asks for -/

/-- An instance to place: kernel, instance, its parts as (path, slice, cost), its memory, and the histories it reads as (j, bulk
delay, taps). -/
structure Ask where
  kernel : Nat
  inst : Nat
  parts : List (Nat × Nat × Nat)
  bytes : Nat
  hist : List (Nat × Nat × Nat)

/-- Reference history of R182 in bytes: 256 H_j. -/
def historyBytes (cls latency bulk taps : Nat) : Nat :=
  256 * (ceilDiv (bulk + taps) 64 + ceilDiv (latency * 2 ^ cls) 256 + 1)

/-- D_max of R716: L_eff and E_tx of 0.330 us (10.1376 counts) at the class's samples per count, and the largest bulk delay. -/
def detectorLag (cls latency : Nat) : Nat := (roundDiv ((latency * 2500 + 25344 : Nat) * 2 ^ cls) 10000).toNat + 4095

/-- CANCEL instances of a direction: one per receive element with an active path (R284, R289). -/
def cancelAsks (cls : Nat) (df : DirDef) (taps bulk : Nat → Nat) : List Ask :=
  (maskPorts df.rx).filterMap (fun i =>
    let js := (maskPorts df.tx).filter (fun j => taps (4 * i.val + j.val) != 0)
    if js.isEmpty then none
    else some
      { kernel := 0, inst := i.val,
        parts := js.flatMap (fun j => (List.range (taps (4 * i.val + j.val) / 16)).map (fun n => (4 * i.val + j.val, n, 64 * channelRate cls))),
        bytes := 12 * (js.map (fun j => taps (4 * i.val + j.val))).sum + 256,
        hist := js.map (fun j => (j.val, bulk (4 * i.val + j.val), taps (4 * i.val + j.val))) })

/-- An instance of one segment. -/
def wholeAsk (kernel inst cost bytes : Nat) : Ask := { kernel := kernel, inst := inst, parts := [(0, 0, cost)], bytes := bytes, hist := [] }

/-- The other kernels of a direction (R284, R622). PROBE is cut per path; its share per receive port is a part of its own. -/
def otherAsks (cls latency : Nat) (df : DirDef) (taps : Nat → Nat) (tSh : Nat) (onRx onTx : Bool) : List Ask :=
  let rate := channelRate cls
  let r := (maskPorts df.rx).length
  let t := (maskPorts df.tx).length
  let active := (List.range 16).filter (fun k => df.rx.getLsbD (k / 4) && df.tx.getLsbD (k % 4) && taps k != 0)
  let probe : Ask :=
    { kernel := 1, inst := 0, parts := active.map (fun k => (k, 0, 32 * rate)) ++ [(16, 0, 16 * r * rate)],
      bytes := 16384 * active.length + 8192 * r, hist := [] }
  let shape := wholeAsk 2 0 ((4 * r + 4 * tSh) * rate) (4 * tSh + 1024)
  let gain := wholeAsk 3 0 ((24 + 8 * t) * rate) (2048 + 512 * t + 4 * (detectorLag cls latency + 66))
  let measure := wholeAsk 5 0 (8 * r * rate) (4096 + 1024 * r)
  (if onRx then [probe, shape] else []) ++ (if onTx then [gain] else []) ++ (if onRx then [measure] else [])

/-! ## Placing -/

/-- A plan in the making: board, segments placed, memory of instances, histories by wing as (wing, j, bulk delay, taps). -/
structure Plan where
  board : Board
  segs : List Segment
  mem : List MemUse
  hist : List (Fin 16 × Nat × Nat × Nat)

/-- Histories with one more path read in a wing. -/
def addHistory (w : Fin 16) (h : Nat × Nat × Nat) (l : List (Fin 16 × Nat × Nat × Nat)) : List (Fin 16 × Nat × Nat × Nat) :=
  match l.find? (fun e => e.1 == w && e.2.1 == h.1) with
  | none => l ++ [(w, h)]
  | some _ => l.map (fun e => if e.1 = w ∧ e.2.1 = h.1 then (w, h.1, max e.2.2.1 h.2.1, max e.2.2.2 h.2.2) else e)

/-- Bytes of the histories of a wing. -/
def historyOf (cls latency : Nat) (w : Fin 16) (l : List (Fin 16 × Nat × Nat × Nat)) : Nat :=
  ((l.filter (fun e => e.1 == w)).map (fun e => historyBytes cls latency e.2.2.1 e.2.2.2)).sum

/-- An instance placed in a wing; the error says that memory, not budget, is short. -/
def tryWing (budget cls latency : Nat) (a : Ask) (w : Fin 16) (p : Plan) : Except Bool Plan :=
  let hist := a.hist.foldl (fun l h => addHistory w h l) p.hist
  let more := a.bytes + historyOf cls latency w hist - historyOf cls latency w p.hist
  match Board.fit budget cls (wingEngines w) (a.parts.map (·.2.2)) p.board with
  | none => .error false
  | some (es, b) =>
    if wingMemory < nth b.mem w.val 0 + more then .error true
    else
      let segs := (a.parts.zip es).map (fun e =>
        { kernel := a.kernel, inst := a.inst, path := e.1.1, slice := e.1.2.1, cost := e.1.2.2, engine := some e.2 : Segment })
      .ok { board := { b with mem := upd b.mem w.val (· + more) }, segs := p.segs ++ segs, hist := hist,
            mem := p.mem ++ [{ kernel := a.kernel, inst := a.inst, wing := w, bytes := a.bytes }] }

/-- ENGINES (R314). -/
def detEngines : Nat := 0x0401
/-- WING_FIT (R314). -/
def detWingFit : Nat := 0x0402
/-- WING_MEMORY (R211). -/
def detWingMemory : Nat := 0x0209

/-- The candidate of least remaining budget, ties to the lower wing (R290 step 1). -/
def leastRoom (budget cls : Nat) (b : Board) : List (Fin 16 × Plan) → Option (Fin 16 × Plan)
  | [] => none
  | x :: rest =>
    match leastRoom budget cls b rest with
    | none => some x
    | some y => if b.room budget cls x.1 ≤ b.room budget cls y.1 then some x else some y

/-- Detail when an instance fits no wing (R291): memory where a wing with budget lacked it, the pool's budget, or the wing rule. -/
def noFitDetail (budget cls latency : Nat) (a : Ask) (wings : List (Fin 16)) (p : Plan) : Nat :=
  if wings.any (fun w => match tryWing budget cls latency a w p with
      | .error m => m
      | .ok _ => false) then detWingMemory
  else if a.kernel = 0 ∧ (a.parts.map (·.2.2)).sum ≤ (wings.map (p.board.room budget cls)).sum then detWingFit
  else detEngines

/-- An instance placed by the best-fit rule, after the wing it prefers (R290). -/
def placeAnew (budget cls latency : Nat) (wings : List (Fin 16)) (prefer : Option (Fin 16)) (a : Ask) (p : Plan) : Except Nat Plan :=
  let attempt (w : Fin 16) : Option (Fin 16 × Plan) :=
    match tryWing budget cls latency a w p with
    | .ok q => some (w, q)
    | .error _ => none
  match (prefer.filter wings.contains).bind attempt with
  | some q => .ok q.2
  | none =>
    match leastRoom budget cls p.board (wings.filterMap attempt) with
    | some q => .ok q.2
    | none => .error (noFitDetail budget cls latency a wings p)

/-- An instance placed where its old assignment has it: parts that keep path, slice and cost stay on their engines, new parts go into the
same wing (R292). Another kernel than CANCEL is placed anew when that wing has no room. -/
def placeInst (budget cls latency : Nat) (wings : List (Fin 16)) (prefer : Option (Fin 16)) (old : Assignment) (a : Ask) (p : Plan) :
    Except Nat Plan :=
  match old.mem.find? (fun m => m.kernel == a.kernel && m.inst == a.inst) with
  | none => placeAnew budget cls latency wings prefer a p
  | some m =>
    let kept := old.segs.filter (fun g => g.kernel == a.kernel && g.inst == a.inst && g.engine.isSome && a.parts.contains (g.path, g.slice, g.cost))
    let missing := a.parts.filter (fun q => !kept.any (fun g => g.path == q.1 && g.slice == q.2.1))
    let board := kept.foldl (fun b g => match g.engine with
      | some e => b.put e cls g.cost
      | none => b) p.board
    match tryWing budget cls latency { a with parts := missing } m.wing { p with board := board, segs := p.segs ++ kept } with
    | .ok q => .ok q
    | .error short =>
      if a.kernel = 0 then .error (if short then detWingMemory else detWingFit) else placeAnew budget cls latency wings prefer a p

/-- Instances placed in order. -/
def placeAll (budget cls latency : Nat) (wings : List (Fin 16)) (prefer : Option (Fin 16)) (old : Assignment) : List Ask → Plan → Except Nat Plan
  | [], p => .ok p
  | a :: rest, p =>
    match placeInst budget cls latency wings prefer old a p with
    | .error e => .error e
    | .ok q => placeAll budget cls latency wings prefer old rest q

/-- Wing of an instance in a plan. -/
def Plan.wing (p : Plan) (kernel inst : Nat) : Option (Fin 16) := (p.mem.find? (fun m => m.kernel == kernel && m.inst == inst)).map (·.wing)

/-- Relays of a plan (R290 step 4, R622): references from GAIN's wing to each wing that reads them, CANCELLED outputs to SHAPE's wing, and
the streams a split direction sends to its other device. A cost of 2 per sample and 1 KiB at the source. -/
def relayAsks (cls : Nat) (df : DirDef) (split onRx onTx : Bool) (p : Plan) : List (Ask × Option (Fin 16)) :=
  let rate := channelRate cls
  let gainWing := p.wing 3 0
  let shapeWing := p.wing 2 0
  let refs := ((p.hist.filter (fun h => gainWing.isSome && gainWing != some h.1)).map (fun h => (wholeAsk 6 (16 * h.1.val + h.2.1) (2 * rate) 1024, gainWing)))
  let outs := (p.mem.filter (fun m => m.kernel == 0 && shapeWing != some m.wing)).map (fun m => (wholeAsk 6 (256 + m.inst) (2 * rate) 1024, some m.wing))
  let away := if split ∧ onRx then [(wholeAsk 6 300 (2 * rate) 1024, shapeWing)] else []
  let back := if split ∧ onTx then (maskPorts df.tx).map (fun j => (wholeAsk 6 (304 + j.val) (2 * rate) 1024, gainWing)) else []
  refs ++ outs ++ away ++ back

/-- Relays placed in order, each preferring the wing it starts in. -/
def placeRelays (budget cls latency : Nat) (wings : List (Fin 16)) (old : Assignment) : List (Ask × Option (Fin 16)) → Plan → Except Nat Plan
  | [], p => .ok p
  | a :: rest, p =>
    match placeInst budget cls latency wings a.2 old a.1 p with
    | .error e => .error e
    | .ok q => placeRelays budget cls latency wings old rest q

/-- Wings a mask allows; 0 is any (R143). -/
def maskWings (mask : BitVec 16) : List (Fin 16) := (List.finRange 16).filter (fun w => mask == 0 || mask.getLsbD w.val)

/-- A direction's assignment planned (R289, R290) on a board that does not hold it. -/
def planDirection (cls : Nat) (df : DirDef) (mask : BitVec 16) (taps bulk : Nat → Nat) (tSh : Nat) (old : Assignment) (b : Board) (s : State) :
    Except Nat Plan :=
  let budget := planBudget s
  let latency := latencyOf cls df s
  let onRx := onReceiveDevice df s
  let onTx := onTransmitDevice df s
  let wings := maskWings mask
  match placeAll budget cls latency wings none old (if onRx then cancelAsks cls df taps bulk else []) { board := b, segs := [], mem := [], hist := [] } with
  | .error e => .error e
  | .ok p =>
    let first := (p.mem.head?).map (·.wing)
    match placeAll budget cls latency wings first old (otherAsks cls latency df taps tSh onRx onTx) p with
    | .error e => .error e
    | .ok p => placeRelays budget cls latency wings old (relayAsks cls df (isSplit df s) onRx onTx p) p

/-! ## The pool's state -/

/-- Change of an engine. -/
def modEngine (e : Fin 256) (f : Engine → Engine) (s : State) : State :=
  { s with eng := { s.eng with engines := s.eng.engines.set e (f s.eng.engines[e]) } }

/-- Change of an assignment. -/
def modAsg (a : Fin 256) (f : Assignment → Assignment) (s : State) : State :=
  { s with eng := { s.eng with asgs := s.eng.asgs.set a (f s.eng.asgs[a]) } }

/-- IDLE and ACTIVE follow whether an engine runs a segment (R282). -/
def refreshEngines (s : State) : State :=
  let segs := allSegments s
  let upd1 (n : Fin 256) (e : Engine) : Engine :=
    let busy := segs.any (fun g => g.2.engine == some n)
    match e.state with
    | .idle => if busy then { e with state := .active } else e
    | .active => if busy then e else { e with state := .idle, slacks := [], lowRun := 0, highRun := 0, notice := false, attributed := false }
    | _ => e
  { s with eng := { s.eng with engines := Vector.ofFn (fun n => upd1 n s.eng.engines[n]) } }

/-- Memory of a plan: its instances and its histories (kernel 7). -/
def Plan.memory (cls latency : Nat) (p : Plan) : List MemUse :=
  p.mem ++ p.hist.map (fun h => { kernel := 7, inst := h.2.1, wing := h.1, bytes := historyBytes cls latency h.2.2.1 h.2.2.2 })

/-- A plan built as an assignment. -/
def buildPlan (a : Fin 256) (cls latency : Nat) (mask : BitVec 16) (p : Plan) (s : State) : State :=
  refreshEngines (modAsg a (fun x => { x with used := true, cls := cls, wingMask := mask, segs := p.segs, mem := p.memory cls latency }) s)

/-- Migration of an assignment given up: its targets go back to what they were (R303). -/
def dropMigrations (p : Migration → Bool) (s : State) : State :=
  let gone := s.eng.migrations.filter p
  let s := { s with eng := { s.eng with migrations := s.eng.migrations.filter (fun m => !p m) } }
  let s := gone.foldl (fun s m => m.moves.foldl (fun s v =>
    modEngine v.2 (fun e => if e.state = .shadow ∨ e.state = .testing then
      { e with state := if m.wasSpare.contains v.2 then .spare else .idle } else e) s) s) s
  refreshEngines s

/-- A command waits for this migration: KERNEL_CATALOGUE_LOAD for an upgrade, MIGRATE for another. -/
def Migration.askedBy (m : Migration) (x : Desc) : Bool :=
  if m.upgrade.isSome then x.opcode == 0x0410
  else x.opcode == 0x0403 && (if par x 0 1 = 1 then par x 2 2 == m.asg.val else m.moves.any (fun v => v.1.engine.any (fun e => e.val == par x 2 2)))

/-- A command that waits on a migration given up answers with a detail (R303): its continuation reads it. -/
def endMigrate (m : Migration) (detail : Nat) (s : State) : State :=
  match m.ring with
  | some q => hardwareDone q.val m.askedBy [1, detail] s
  | none => s

/-- Migrations of an assignment superseded (R303). -/
def supersede (a : Fin 256) (detail : Nat) (s : State) : State :=
  let gone := s.eng.migrations.filter (fun m => m.asg == a)
  gone.foldl (fun s m => endMigrate m detail s) (dropMigrations (fun m => m.asg == a) s)

/-- An assignment released: its engines and memory are free (R288). -/
def releaseAsg (a : Fin 256) (s : State) : State :=
  refreshEngines (modAsg a (fun _ => Assignment.reset) (supersede a 0x0109 s))

/-- Tap counts of the paths of a direction as configured. -/
def configuredTaps (c : Fin 64) (d : Dir) (s : State) (k : Nat) : Nat := (nth (direction c d s).paths k Path.reset).par.taps

/-- Bulk delays of the paths of a direction. -/
def bulkDelays (c : Fin 64) (d : Dir) (s : State) (k : Nat) : Nat := (nth (direction c d s).paths k Path.reset).par.bulkDelay

/-- The direction planned anew with other tap counts and bulk delays: the refusal, or the state with engines and memory taken (R212, R292). A change of
the layout supersedes a migration of the assignment (R303). -/
def planTaps (c : Fin 64) (d : Dir) (taps bulk : Nat → Nat) (s : State) : Except Reject State :=
  let a := asgOf c d
  let old := s.eng.asgs[a]
  let cls := (chan c s).defn.cls
  let df := dirDef c d s
  match planDirection cls df old.wingMask taps bulk old.tSh old (boardOf (some a) s) s with
  | .error e => .error (.noResource, e)
  | .ok p =>
    let same := p.segs.length == old.segs.length && p.segs.all (fun g => old.segs.contains g)
    .ok (buildPlan a cls (latencyOf cls df s) old.wingMask p (if same then s else supersede a 0x0409 s))

/-- Wing memory reserved for a direction's reference histories (R212). -/
def wingHistoryBytes (c : Fin 64) (d : Dir) (s : State) : Nat :=
  ((s.eng.asgs[asgOf c d].mem.filter (fun m => m.kernel == 7)).map (·.bytes)).sum

/-- Load of an engine in MAC/s. -/
def engineLoad (e : Fin 256) (s : State) : Nat := ((hosted e s).map (fun g => g.2.cost)).sum

/-- Segment of greatest cost on an engine, lowest assignment first. -/
def heaviest (l : List (Fin 256 × Segment)) : Option (Fin 256 × Segment) :=
  l.foldl (fun a g => match a with
    | none => some g
    | some x => if x.2.cost < g.2.cost then some g else some x) none

/-- Assignment of greatest cost on an engine (R319, R325). -/
def topAssignment (e : Fin 256) (s : State) : Option Nat :=
  let l := hosted e s
  let cost (a : Fin 256) : Nat := ((l.filter (fun g => g.1 == a)).map (fun g => g.2.cost)).sum
  (l.map (·.1)).foldl (fun b a => match b with
    | none => some a.val
    | some x => if cost (Fin.ofNat 256 x) < cost a then some a.val else b) none

end Sys2Proof.Machine
end

