-- ==== Sys2Proof/Machine/Chains.lean ====
section
/-! DEFINITION. The arithmetic of samples: raised-cosine weights and ramps (R155, R196, R221), scaling and combining, the receive and transmit chains
(R134, R136, R137), the sum of a transmit stream (R138) and its peak limiter (R139, R140). Where the manual gives no coefficients or no rounding, a free
function of Config stands (log entries 6 and 159). -/

namespace Sys2Proof.Machine

/-! ## Raised cosine -/

/-- cos(π / 2^(n+1)) in units of 2^-60, by halving the angle. -/
def halfCosine : Nat → Nat
  | 0 => 0
  | n + 1 => isqrt ((2 ^ 60 + halfCosine n) * 2 ^ 59)

/-- cos(π j / 64) and cos(π (j + 1) / 64) in units of 2^-60. -/
def cosines : Nat → Int × Int
  | 0 => (2 ^ 60, halfCosine 5)
  | j + 1 => let v := cosines j; (v.2, 2 * (halfCosine 5 : Int) * v.2 / 2 ^ 60 - v.1)

/-- Weight of sample k of a 64-sample raised-cosine ramp from 0 to 1, in units of 2^-48: sample 63 has the whole weight (log entry 159). -/
def raisedCosine (k : Nat) : Int := if 63 ≤ k then 2 ^ 48 else roundDiv (2 ^ 60 - (cosines (k + 1)).1) (2 ^ 13)

/-- Weight of sample k of a ramp down. -/
def rampWeight (up : Bool) (k : Nat) : Int := if up then raisedCosine k else 2 ^ 48 - raisedCosine k

/-- A complex value scaled by a factor in units of 2^-bits, as a word of n bits; which neighbour of the exact value it takes is open (log entry 6). -/
def scaleWord (n bits : Nat) (x : Int × Int) (f : Int) : Int × Int :=
  (satInt n (Config.narrow (x.1 * f) bits), satInt n (Config.narrow (x.2 * f) bits))

/-- Sample as integers. -/
def Sample.ints (x : Sample) : Int × Int := (x.i.toInt, x.q.toInt)

/-- Sample from integers that fit. -/
def Sample.ofInts (v : Int × Int) : Sample := { i := BitVec.ofInt 16 v.1, q := BitVec.ofInt 16 v.2 }

/-- GAIN's scaling: the gain in 0.01 dB at the block's start moves to that at its end on the raised cosine (R196, R221, R222). -/
def scaleBlock (g0 g1 : Int) (l : List Sample) : List Sample :=
  (l.zipIdx).map (fun e =>
    let f := (amplitudeOf g0 : Int) * 2 ^ 48 + ((amplitudeOf g1 : Int) - amplitudeOf g0) * raisedCosine e.2
    Sample.ofInts (scaleWord 16 96 (Sample.ints e.1) f))

/-- Combining of receive ports under weights in 0.01 dB (R286): the weighted sum, stored to 16 bits. -/
def combineBlocks (l : List (Int × List Sample)) : List Sample :=
  (List.range 64).map (fun k =>
    let t := l.foldl (fun (a : Int × Int) e =>
      let x := Sample.ints (e.2.getD k { i := 0, q := 0 })
      let f := if e.1 = 0 then (2 ^ 48 : Int) else amplitudeOf e.1
      (a.1 + x.1 * f, a.2 + x.2 * f)) (0, 0)
    Sample.ofInts (scaleWord 16 48 t 1))

/-! ## Chains -/

/-- A filter stage of a chain: the filter, and its words out for words in (R136). -/
structure ChainStage where
  filter : ChainFilter
  up : Nat
  down : Nat

/-- Samples per count of a stream (R133); the survey stream runs at rate code 0. -/
def samplesPerCount : Option (Fin 4) → Nat
  | some 0 => 16
  | some 1 => 24
  | some 2 => 32
  | some 3 => 48
  | none => 16

/-- Stream rate of a code in Sa/s (R133). -/
def streamRate : Option (Fin 4) → Nat
  | some 0 => 491520000
  | some 1 => 737280000
  | some 2 => 983040000
  | some 3 => 1474560000
  | none => 0

/-- The rate of a stream holds a factor 3. -/
def hasThird (spc : Nat) : Bool := spc % 3 == 0

/-- Powers of two between a stream's rate, its factor 3 apart, and a class's channel rate: 16, 8 or 32 samples per count against 2^cls / 4. -/
def chainOctaves (spc cls : Nat) : Int := (Nat.log2 (4 * (if hasThird spc then spc / 3 else spc)) : Int) - cls

/-- Stages of a receive chain (R136): one ÷3 where the rate has that factor, ÷2 half-bands to twice the channel rate, the final ÷2 channel filter. A
ratio of 1 or 3 leaves the channel filter without its ÷2, and the ratio 3/2 of BW400 at 737.28 MSa/s doubles in it (log entry 160). -/
def receiveStages (spc cls : Nat) : List ChainStage :=
  let n := chainOctaves spc cls
  (if hasThird spc then [{ filter := .third, up := 1, down := 3 }] else []) ++
  List.replicate (n - 1).toNat { filter := .halfBand, up := 1, down := 2 } ++
  [{ filter := .channel, up := if n < 0 then 2 else 1, down := if 0 < n then 2 else 1 }]

/-- Stages of a transmit chain: those of the receive chain turned round (R136). -/
def transmitStages (spc cls : Nat) : List ChainStage :=
  (receiveStages spc cls).reverse.map (fun v => { v with up := v.down, down := v.up })

/-- Offset of a channel in a stream: F_c - F_s, or the reverse in an inverted stream (R134). -/
def chainShift (centre streamCentre : Nat) (invert : Bool) : Int :=
  if invert then (streamCentre : Int) - centre else (centre : Int) - streamCentre

/-- Step of a chain's NCO per stream sample: the offset in units of stream rate / 2^48, to the nearest (R136, R137). -/
def ncoStep (shift : Int) (rate : Nat) : BitVec 48 := if rate = 0 then 0 else BitVec.ofInt 48 (roundDiv (shift * 2 ^ 48) rate)

/-- A 24-bit word of a chain (R137). -/
def word24 (x : Int × Int) : Int × Int := (satInt 24 x.1, satInt 24 x.2)

/-- A 16-bit sample as a 24-bit word. -/
def widen (x : Sample) : Int × Int := (x.i.toInt * 256, x.q.toInt * 256)

/-- A 24-bit word stored to 16 bits: rounded half up and saturated (R137). -/
def store16 (x : Int × Int) : Sample := Sample.ofInts (satInt 16 (ashr (x.1 + 128) 8), satInt 16 (ashr (x.2 + 128) 8))

/-- One word into a stage. -/
def stageIn (st : ChainStage) (v : StageState) (x : Int × Int) : List (Int × Int) × StageState :=
  let w := (x :: v.window).take (Config.filterSpan st.filter)
  if v.count + 1 < st.down then ([], { window := w, count := v.count + 1 })
  else ((List.range st.up).map (fun k => word24 (Config.filterOut st.filter k w)), { window := w, count := 0 })

/-- Words into a stage, in order. -/
def stageRun (st : ChainStage) (v : StageState) (l : List (Int × Int)) : List (Int × Int) × StageState :=
  l.foldl (fun a x => let r := stageIn st a.2 x; (a.1 ++ r.1, r.2)) ([], v)

/-- Words through the stages of a chain. -/
def stagesRun : List ChainStage → List StageState → List (Int × Int) → List (Int × Int) × List StageState
  | [], _, l => (l, [])
  | st :: sts, vs, l =>
    let r := stageRun st (vs.headD StageState.reset) l
    let t := stagesRun sts vs.tail r.1
    (t.1, r.2 :: t.2)

/-- A stream sample into a receive chain: mixed down by the NCO, filtered, stored to 16 bits (R136, R137). -/
def RxChain.take (stages : List ChainStage) (step : BitVec 48) (x : Sample) (v : RxChain) : RxChain :=
  let r := stagesRun stages v.stages [word24 (Config.rotate (0 - v.nco) (widen x))]
  { nco := v.nco + step, stages := r.2, out := v.out ++ r.1.map store16 }

/-- Channel words into a transmit chain: filtered and interpolated, mixed up by the NCO (R136, R137). -/
def TxChain.take (stages : List ChainStage) (step : BitVec 48) (l : List (Int × Int)) (v : TxChain) : TxChain :=
  let r := stagesRun stages v.stages l
  r.1.foldl (fun (v : TxChain) x => { v with nco := v.nco + step, out := v.out ++ [word24 (Config.rotate v.nco x)] }) { v with stages := r.2 }

/-! ## The sum of a stream and its limiter -/

/-- Words that several directions give one segment, summed in 24 bits; the sum saturates (R138). -/
def sumWords (ls : List (List (Int × Int))) : List (Int × Int) :=
  (List.range 64).map (fun k => word24 (ls.foldl (fun (a : Int × Int) l => (a.1 + (l.getD k (0, 0)).1, a.2 + (l.getD k (0, 0)).2)) (0, 0)))

/-- The limiter's gain 1.0. -/
def limiterOne : Nat := 100000000

/-- The limiter's floor 0.2512 (R139). -/
def limiterFloor : Nat := 25120000

/-- Squared magnitude of a word. -/
def magnitude2 (x : Int × Int) : Nat := (x.1 * x.1 + x.2 * x.2).toNat

/-- a_t / |x| in units of the limiter's gain; a_t in 2^-48 of full scale, x a 24-bit word (R139). -/
def thresholdOver (aT : Nat) (x : Int × Int) : Nat := isqrt ((aT * limiterOne) ^ 2 / (magnitude2 x * 2 ^ 50))

/-- g_req of a word (R139). -/
def gainRequest (aT : Nat) (x : Int × Int) : Nat := if magnitude2 x = 0 then limiterOne else min limiterOne (thresholdOver aT x)

/-- A peak beyond the reduction range: the word times g exceeds a_t (R139). -/
def beyondRange (aT g : Nat) (x : Int × Int) : Bool := decide ((aT * limiterOne) ^ 2 < g ^ 2 * magnitude2 x * 2 ^ 50)

/-- A word times a gain of the limiter, stored to 16 bits: rounded half up and saturated. -/
def limitedSample (f : Nat) (x : Int × Int) : Sample :=
  let unit : Int := 256 * limiterOne
  Sample.ofInts (satInt 16 ((2 * x.1 * f + unit) / (2 * unit)), satInt 16 ((2 * x.2 * f + unit) / (2 * unit)))

/-- What a limiter gives for a segment: its samples, the numbers of samples it reduced and clipped, and the sum of its gains (R405). -/
structure Limited where
  samples : List Sample
  limited : Nat
  clipped : Nat
  gain : Nat

/-- One sample of the limiter (R139). -/
def limiterStep (aT releaseUs spc : Nat) (window : List (Int × Int)) (a : Limited × List Nat) : Limited × List Nat :=
  let x := window.headD (0, 0)
  let g := max limiterFloor (min limiterOne (Config.limiterGain a.2 (window.map (gainRequest aT)) releaseUs spc))
  let beyond := beyondRange aT g x
  ({ samples := a.1.samples ++ [limitedSample (if beyond then thresholdOver aT x else g) x],
     limited := a.1.limited + (if g < limiterOne then 1 else 0), clipped := a.1.clipped + (if beyond then 1 else 0),
     gain := a.1.gain + g },
   (g :: a.2).take 32)

/-- A segment through a stream's limiter, 32 samples behind what comes in (R139, R140). -/
def limitSegment (spc : Nat) (xs : List (Int × Int)) (m : Limiter) : Limited × Limiter :=
  let line := m.ahead ++ xs
  let rest := { m with ahead := line.drop 64 }
  if m.enable then
    let r := (List.range 64).foldl (fun a n => limiterStep (amplitudeOf m.threshold) m.releaseUs spc ((line.drop n).take 32) a)
      ({ samples := [], limited := 0, clipped := 0, gain := 0 }, m.gains)
    (r.1, { rest with gains := r.2 })
  else ({ samples := (line.take 64).map store16, limited := 0, clipped := 0, gain := 64 * limiterOne }, rest)

end Sys2Proof.Machine
end

