-- ==== Sys2Proof/Machine/Kernel.lean ====
section
/-! DEFINITION. The CANCEL kernel, bit-exact to R176, with the tap-limit and divergence counts of R177 and R178 and the cases of R179 in
which taps are held. -/

namespace Sys2Proof.Machine

/-- Samples of a class in the frame timer's range of counts: the modulus of sample indices. -/
def sampleModulus (cls : Nat) : Nat := 2 ^ (30 + cls)

/-- Index of a block's first sample on the grid of R33. -/
def sampleIndex (cls : Nat) (firstCount : Word) : Nat := firstCount.toNat * 2 ^ cls / 4

/-- The block of a reference history that holds the sample of an index, with the sample's place in it. -/
def refBlock (cls : Nat) (hist : List RefBlock) (idx : Int) : Option (RefBlock × Nat) :=
  let m := sampleModulus cls
  let i := (idx % (m : Int)).toNat
  (hist.find? (fun e => decide ((i + m - e.index) % m < e.samples.length))).map (fun e => (e, (i + m - e.index) % m))

/-- Sample of a reference history at an index; zero where GAIN has sent none. -/
def refSample (cls : Nat) (hist : List RefBlock) (idx : Int) : Int × Int :=
  match refBlock cls hist idx with
  | some e => Sample.ints (e.1.samples.getD e.2 { i := 0, q := 0 })
  | none => (0, 0)

/-- A path as the kernel runs it: its number, its parameters, its delay, its taps, and its reference by offset from sample n0. -/
structure KernelPath where
  num : Nat
  par : PathParams
  taps : List (Int × Int)
  ref : Int → Int × Int
  held : Bool

/-- One tap's product taken from the accumulator (R176). -/
def tapTerm (acc : Int × Int) (h x : Int × Int) : Int × Int :=
  let hi := satInt 16 (ashr (h.1 + 0x8000) 16)
  let hq := satInt 16 (ashr (h.2 + 0x8000) 16)
  (satInt 40 (acc.1 - (x.1 * hi - x.2 * hq)), satInt 40 (acc.2 - (x.1 * hq + x.2 * hi)))

/-- CANCELLED sample at offset n of the block (R176). -/
def cancelSample (paths : List KernelPath) (y : Sample) (n : Nat) : Int × Int :=
  let y := Sample.ints y
  let acc := paths.foldl (fun acc p =>
    (p.taps.zipIdx).foldl (fun acc t => tapTerm acc t.1 (p.ref ((n : Int) - p.par.bulkDelay - t.2))) acc)
    (y.1 * 4096, y.2 * 4096)
  (satInt 16 (ashr (acc.1 + 0x800) 12), satInt 16 (ashr (acc.2 + 0x800) 12))

/-- CANCELLED block (R176). -/
def cancelBlock (paths : List KernelPath) (ys : List Sample) : List (Int × Int) :=
  (ys.zipIdx).map (fun y => cancelSample paths y.1 y.2)

/-- Normalisation term: δ plus the reference energy over every active path into the port (R176, R179). Paths whose delta_exp differ use
the largest (log entry 16). -/
def normTerm (paths : List KernelPath) : Nat :=
  paths.foldl (fun p k =>
    (List.range k.taps.length).foldl (fun p t =>
      let x := k.ref (0 - (k.par.bulkDelay : Int) - t)
      p + (x.1 * x.1 + x.2 * x.2).toNat) p) (2 ^ paths.foldl (fun a k => max a k.par.deltaExp) 15)

/-- Every reference of the port is zero over the tap window (R179). -/
def refsZero (paths : List KernelPath) : Bool :=
  normTerm paths == 2 ^ paths.foldl (fun a k => max a k.par.deltaExp) 15

/-- Step of the update: μ_eff × floor(2^31 / (p >> es)), with the shift es (R176). -/
def updateStep (p mu : Nat) : Nat × Nat :=
  let es := bitlen p - 16
  (mu * (2 ^ 31 / (p / 2 ^ es)), es)

/-- One tap after its update; the flag says that tap_limit clamped it (R176, R177). -/
def updateTap (par : PathParams) (step es : Nat) (e : List (Int × Int)) (ref : Int → Int × Int) (h : Int × Int) (k : Nat) :
    (Int × Int) × Bool :=
  let g := (e.zipIdx).foldl (fun g en =>
    let x := ref ((en.2 : Int) - par.bulkDelay - k)
    (g.1 + en.1.1 * x.1 + en.1.2 * x.2, g.2 + en.1.2 * x.1 - en.1.1 * x.2)) ((0 : Int), (0 : Int))
  let leak (v : Int) : Int := if par.leakShift = 0 then v else v - ashr (v + 2 ^ (par.leakShift - 1)) par.leakShift
  let sh := 24 + es
  let move (v g : Int) : Int := satInt 32 (v + ashr ((step : Int) * g + 2 ^ (sh - 1)) sh)
  let lim : Int := par.tapLimit * 65536
  let vi := move (leak h.1) g.1
  let vq := move (leak h.2) g.2
  ((clampInt (-lim) lim vi, clampInt (-lim) lim vq), clampInt (-lim) lim vi != vi || clampInt (-lim) lim vq != vq)

/-- A path's taps after the update of a block, with the number of taps that were clamped. -/
def updatePath (p mu : Nat) (e : List (Int × Int)) (k : KernelPath) : List (Int × Int) × Nat :=
  let st := updateStep p mu
  let out := (k.taps.zipIdx).map (fun t => updateTap k.par st.1 st.2 e k.ref t.1 t.2)
  (out.map (·.1), (out.filter (·.2)).length)

/-- Energy of a block. -/
def blockEnergy (e : List (Int × Int)) : Nat := (e.map (fun x => (x.1 * x.1 + x.2 * x.2).toNat)).sum

/-- The tap update of the direction is held altogether: the delay search of a start-up measurement (R179, R209). -/
def searchingDelay (x : Direction) : Bool := x.stab.measuring.any (fun m => m.openLoop && m.searching)

/-- Count of sample k of a block of a class (R33). -/
def sampleCount (cls first k : Nat) : Nat := first + 4 * k / 2 ^ cls

/-- Ordinal of a block in flight: its sequence taken serially about the blocks that have left (R34). -/
def blockOrdinal (x : Direction) (b : Block) : Nat :=
  let k := (b.sequence.toNat + 65536 - x.released % 65536) % 65536
  if k < 32768 then x.released + k else x.released - (65536 - k)

/-- A hold or a stop of transmit element j is in force during any part of a block's tap window, which reaches back n samples (R179, R341). -/
def heldInWindow (c : Fin 64) (d : Dir) (j : Fin 4) (b : Block) (n : Nat) (s : State) : Bool :=
  let x := direction c d s
  let cls := (chan c s).defn.cls
  let first := fromBasis (x.baseCount + blockOrdinal x b * countsPerBlock cls) s
  x.heldPorts.getLsbD j.val || (onTransmitDevice (dirDef c d s) s && elementShut c d j s) ||
    x.heldEnd[j].any (fun t => decide (first < t + ceilDiv (4 * n) (2 ^ cls)))

/-- The active paths into receive element i, as CANCEL runs them on a block (R173, R179). -/
def kernelPaths (c : Fin 64) (d : Dir) (i : Fin 4) (b : Block) (s : State) : List KernelPath :=
  let x := direction c d s
  let cls := (chan c s).defn.cls
  let n0 := sampleIndex cls b.firstCount
  (List.finRange 4).filterMap (fun j =>
    let k := 4 * i.val + j.val
    let p := nth x.paths k Path.reset
    if p.nEff = 0 then none
    else
      some { num := k, par := p.par, taps := p.taps, ref := fun o => refSample cls x.history[j] ((n0 : Int) + o),
             held := p.par.freeze || searchingDelay x || actProtects c d (rxPort d i) s || heldInWindow c d j b (p.par.bulkDelay + p.nEff) s })

/-- What CANCEL leaves on a direction after a block of one receive element: taps, tap-limit counts, the run of R178. The answer says
whether a path's taps have all been at the limit for 256 blocks (R177) and whether the port diverges (R178). -/
def cancelOutcome (c : Fin 64) (d : Dir) (i : Fin 4) (b : Block) (s : State) : List Sample × Direction × Bool × Bool :=
  let x := direction c d s
  let ps := kernelPaths c d i b s
  let e := cancelBlock ps b.samples
  let norm := normTerm ps
  let hold := refsZero ps
  let mu (k : KernelPath) : Nat := k.par.mu / 2 ^ (nth x.paths k.num Path.reset).muShift
  let upd := (ps.filter (fun k => !(k.held || hold))).map (fun k => (k.num, updatePath norm (mu k) e k))
  let paths := Vector.ofFn (fun k : Fin 16 =>
    let p := x.paths[k]
    match upd.find? (fun u => u.1 == k.val) with
    | some u => { p with taps := u.2.1, limitCount := satAdd 32 p.limitCount u.2.2,
                         limitRun := if u.2.2 = p.taps.length ∧ p.taps ≠ [] then p.limitRun + 1 else 0,
                         lastSeq := b.sequence, lastEpoch := b.configEpoch }
    | none => if pathInto i.val k.val then { p with limitRun := 0 } else p)
  let stuck := (List.finRange 16).any (fun k => paths[k].limitRun == 256)
  let paths := paths.map (fun p => if p.limitRun = 256 then { p with limitRun := 0 } else p)
  let sent := if b.mute then e.map (fun _ => (0, 0)) else e
  let run := if 2 * blockEnergy (b.samples.map Sample.ints) < blockEnergy sent then nth x.energyRun i.val 0 + 1 else 0
  (sent.map Sample.ofInts, { x with paths := paths, energyRun := upd' x.energyRun i (if run = 16 then 0 else run) }, stuck, run == 16)
where
  /-- One element of the runs of R178. -/
  upd' (v : Vector Nat 4) (i : Fin 4) (n : Nat) : Vector Nat 4 := v.set i n

end Sys2Proof.Machine
end

