-- ==== Sys2Proof/Machine/Probe.lean ====
section
/-! DEFINITION. PROBE and the margin meter: the pilots (R186, R187), their correlation over sub-windows (R189, R191), the estimates and their publication
(R189-R192), the delay search (R209, R210), the end of a start-up measurement (R203, R209). Choices the manual leaves are in log entries 167 and 168. -/

namespace Sys2Proof.Machine

/-! ## Pilots -/

/-- x^23 + x^18 + 1 (R186). -/
def pilotPoly : Nat := 2 ^ 23 + 2 ^ 18 + 1

/-- A register one step on: times x, modulo the polynomial. -/
def pilotShift (r : Nat) : Nat := if r < 2 ^ 22 then 2 * r else (2 * r) ^^^ pilotPoly

/-- Product of two registers as polynomials. -/
def pilotTimes (a b : Nat) : Nat := (List.range 23).foldl (fun v k => pilotShift v ^^^ (if b.testBit (22 - k) then a else 0)) 0

/-- x^n modulo the polynomial, for n below 2^24. -/
def pilotPower (n : Nat) : Nat :=
  (List.range 24).foldl (fun v k => if n.testBit (23 - k) then pilotShift (pilotTimes v v) else pilotTimes v v) 1

/-- Register n steps after a seed; the sequence repeats after 2^23 - 1. -/
def pilotRegister (seed n : Nat) : Nat := pilotTimes seed (pilotPower (n % (2 ^ 23 - 1)))

/-- The register's bit as a sign. -/
def pilotSign (r : Nat) : Int := if r.testBit 22 then -1 else 1

/-- QPSK chips from chip n on: I and Q are two bits in succession. -/
def pilotChips (seed n len : Nat) : List (Int × Int) :=
  ((List.range len).foldl (fun (a : List (Int × Int) × Nat) _ =>
    let q := pilotShift a.2
    (a.1 ++ [(pilotSign a.2, pilotSign q)], pilotShift q)) ([], pilotRegister seed (2 * n))).1

/-- Seed of a port (8 for the pilot that is never transmitted) of a direction; never zero, and no two alike (R186, R623). -/
def pilotSeed (address : Nat) (c : Fin 64) (d : Dir) (port : Nat) : Nat :=
  1 + (Config.pilotSalt + port + 16 * ((dirCode d).toNat + 2 * (c.val + 64 * address))) % (2 ^ 23 - 1)

/-- Amplitude of each component of a chip at a level in 0.01 dBFS; which neighbour of the exact value it takes is open (log entry 6). -/
def pilotAmplitude (level : Int) : Int := Config.narrow (isqrt (powerOf level * 2 ^ 29)) 24

/-- A pilot added to samples (R186-R188). -/
def addPilot (seed n : Nat) (level : Int) (l : List Sample) : List Sample :=
  List.zipWith (fun x chip =>
    let v := Sample.ints x
    Sample.ofInts (satInt 16 (v.1 + pilotAmplitude level * chip.1), satInt 16 (v.2 + pilotAmplitude level * chip.2))) l (pilotChips seed n l.length)

/-! ## Correlation -/

/-- Chip of a seed that the sample of an index of a reference history carries; none where no pilot was sent. -/
def refChip (cls seed : Nat) (hist : List RefBlock) (idx : Int) : Option (Int × Int) :=
  (refBlock cls hist idx).bind (fun e => if e.1.pilot then (pilotChips seed (e.1.first + e.2) 1).head? else none)

/-- Correlation of samples with chips at lags 0 to n - 1, over the samples of the places given. -/
def correlate (n : Nat) (places : List Nat) (l : List Sample) (chip : Int → Option (Int × Int)) : List (Int × Int) :=
  (List.range n).map (fun (k : Nat) => places.foldl (fun g (o : Nat) =>
    match chip ((o : Int) - k) with
    | some v =>
      let y := Sample.ints (l.getD o { i := 0, q := 0 })
      (g.1 + y.1 * v.1 + y.2 * v.2, g.2 + y.2 * v.1 - y.1 * v.2)
    | none => g) (0, 0))

/-- Sum of two correlations. -/
def addWords (a b : List (Int × Int)) : List (Int × Int) := List.zipWith (fun x y => (x.1 + y.1, x.2 + y.2)) a b

/-- Sum of two parts of a sub-window, the older first. -/
def SubWindow.add (a b : SubWindow) : SubWindow :=
  if a.count = 0 then b
  else if b.count = 0 then a
  else { count := a.count + b.count, first := a.first, pre := addWords a.pre b.pre, post := addWords a.post b.post,
         preNoise := addWords a.preNoise b.preNoise, postNoise := addWords a.postNoise b.postNoise, ref := a.ref + b.ref }

/-- Samples of a sub-window (R191). -/
def subWindowSize (w : Nat) : Nat := 2 ^ (w - 4)

/-- A path's integration over the places of a block, a sub-window ending at its last sample (R191). -/
def Path.integrate (size : Nat) (part : List Nat → SubWindow) (places : List Nat) (p : Path) : Path :=
  let room := size - p.cur.count
  let v := p.cur.add (part (places.take room))
  if v.count < size then { p with cur := v } else { p with done := (v :: p.done).take 16, cur := part (places.drop room) }

/-- A path's delay search over the places of a block, until Tw/4 has been searched (R209). -/
def Path.seek (limit : Nat) (part : List Nat → DelaySearch) (places : List Nat) (p : Path) : Path :=
  let use := places.take (limit - p.search.count)
  if use.isEmpty then p
  else
    let v := part use
    { p with search := if p.search.count = 0 then v
        else { count := p.search.count + v.count, corr := addWords p.search.corr v.corr, noise := addWords p.search.noise v.noise } }

/-- Samples of a block that a path counts: those of the direction's own slots at which its reference carries the pilot (R191). -/
def countedPlaces (c : Fin 64) (d : Dir) (j : Fin 4) (b : Block) (s : State) : List Nat :=
  let x := direction c d s
  let cls := (chan c s).defn.cls
  let here := fromBasis (x.baseCount + blockOrdinal x b * countsPerBlock cls) s
  let n0 : Int := sampleIndex cls b.firstCount
  (List.range 64).filter (fun o => inOwnSlot c d (sampleCount cls here o : Nat) s && (refBlock cls x.history[j] (n0 + o)).any (·.1.pilot))

/-- What a block adds to a path: to its delay search or to its window (R189, R209). -/
def probePath (c : Fin 64) (d : Dir) (j : Fin 4) (t : Tapped) (s : State) (p : Path) : Path :=
  let x := direction c d s
  let cls := (chan c s).defn.cls
  let b := t.block
  let n0 : Int := sampleIndex cls b.firstCount
  let chip (port : Nat) (o : Int) : Option (Int × Int) := refChip cls (pilotSeed b.source.toNat c d port) x.history[j] (n0 + o)
  let own := chip (txPort d j).val
  let never := chip 8
  let places := countedPlaces c d j b s
  match x.stab.measuring.filter (fun m => m.openLoop && m.searching) with
  | some m =>
    let part (l : List Nat) : DelaySearch :=
      { count := l.length, corr := correlate (m.searchMax + 1) l t.raw own, noise := correlate 64 l t.raw never }
    p.seek (2 ^ (x.meter.par.w - 2)) part places
  | none =>
    let at_ (f : Int → Option (Int × Int)) (o : Int) : Option (Int × Int) := f (o - p.par.bulkDelay)
    let part (l : List Nat) : SubWindow :=
      { count := l.length, first := blockOrdinal x b, pre := correlate 64 l t.raw (at_ own), post := correlate 64 l b.samples (at_ own),
        preNoise := correlate 64 l t.raw (at_ never), postNoise := correlate 64 l b.samples (at_ never),
        ref := l.foldl (fun a (o : Nat) =>
          let r := refSample cls x.history[j] (n0 + o)
          match own o with
          | some v => a + r.1 * v.1 + r.2 * v.2
          | none => a) 0 }
    p.integrate (subWindowSize x.meter.par.w) part places

/-- PROBE on a copy of a CANCELLED block: every path into its port is integrated, but for those from a port under a hold (R341); a muted block and one
received while ACT is high are left out (R358). -/
def probeStep (c : Fin 64) (d : Dir) (t : Tapped) (s : State) : State :=
  let x := direction c d s
  let df := dirDef c d s
  let i := t.block.port.val % 4
  if t.block.mute || actProtects c d t.block.port s then s
  else
    let f (k : Nat) (p : Path) : Path :=
      let j : Fin 4 := Fin.ofNat 4 k
      if pathInto i k && df.tx.getLsbD j.val && !heldInWindow c d j t.block (p.par.bulkDelay + 64) s then probePath c d j t s p else p
    let y := x.mapPaths f
    let ended := (List.finRange 16).any (fun k => decide (y.paths[k].cur.count < x.paths[k].cur.count))
    modDir c d (fun _ => { y with meter := { y.meter with subAge := if ended then 0 else y.meter.subAge } }) s

/-! ## Estimates -/

/-- cos(2 π m / 64) in units of 2^-60. -/
def cosTurn (m : Nat) : Int := (cosines (2 * (m % 64))).1

/-- |R[f]|² of a 64-point DFT, in units of 2^-120 (R189). -/
def dftPower (l : List (Int × Int)) (f : Nat) : Nat :=
  let v := (l.zipIdx).foldl (fun (a : Int × Int) e =>
    let co := cosTurn (f * e.2)
    let si := cosTurn (f * e.2 + 48)
    (a.1 + e.1.1 * co + e.1.2 * si, a.2 + e.1.2 * co - e.1.1 * si)) (0, 0)
  (v.1 * v.1 + v.2 * v.2).toNat

/-- Bin f of 64 lies inside the occupied band of a class (R189). -/
def binInBand (cls f : Nat) : Bool := decide (2 * min f (64 - f) * (7680000 * 2 ^ cls) ≤ 64 * occupied cls)

/-- Largest magnitude over the bins of the band, in units of 2^-60. -/
def bandPeak (cls : Nat) (l : List (Int × Int)) : Nat :=
  isqrt (((List.range 64).filter (binInBand cls)).foldl (fun a f => max a (dftPower l f)) 0)

/-- Energy of a correlation. -/
def corrEnergy (l : List (Int × Int)) : Nat := (l.map (fun v => (v.1 * v.1 + v.2 * v.2).toNat)).sum

/-- Root-mean-square DFT magnitude of a correlation, in units of 2^-60: the root of its energy (R189). -/
def noiseSigma (l : List (Int × Int)) : Nat := isqrt (corrEnergy l * 2 ^ 120)

/-- a_ij in 0.01 dB: the peak in the band and 2 sigma over what the reference carries of its pilot (R189). -/
def couplingDb (cls : Nat) (corr noise : List (Int × Int)) (ref : Int) : Int :=
  let a := bandPeak cls corr + 2 * noiseSigma noise
  ratioDb (a * a) ((max 1 ref.toNat * 2 ^ 60) ^ 2)

/-- Signal-to-noise ratio of an estimate in whole dB; 255 without noise. -/
def estimateSnr (cls : Nat) (corr noise : List (Int × Int)) : Nat :=
  let n := noiseSigma noise
  if n = 0 then 255 else (ratioDb (bandPeak cls corr ^ 2) (n ^ 2) / 100).toNat

/-- Place of the largest magnitude in a correlation; the first where several are. -/
def peakPlace (l : List (Int × Int)) : Nat :=
  let p := l.map (fun v => (v.1 * v.1 + v.2 * v.2).toNat)
  p.idxOf (p.foldl max 0)

/-- Estimate of a path from its complete sub-windows (R189, R191). -/
def pathEstimate (cls : Nat) (k : Fin 16) (p : Path) : PathEst :=
  let v := p.done.reverse.foldl SubWindow.add SubWindow.reset
  { path := k, raw := couplingDb cls v.pre v.preNoise v.ref, res := couplingDb cls v.post v.postNoise v.ref,
    peakLag := p.par.bulkDelay + peakPlace v.pre, snr := estimateSnr cls v.pre v.preNoise }

/-- Paths of a direction: a receive and a transmit port of its masks (R173). -/
def pathsOf (df : DirDef) : List (Fin 16) := (List.finRange 16).filter (fun k => df.rx.getLsbD (k.val / 4) && df.tx.getLsbD (k.val % 4))

/-- Paths that are not from a port under a hold (R341). -/
def openPaths (df : DirDef) (x : Direction) : List (Fin 16) := (pathsOf df).filter (fun k => !x.heldPorts.getLsbD (k.val % 4))

/-- Every open path has n complete sub-windows. -/
def windowsComplete (n : Nat) (df : DirDef) (x : Direction) : Bool :=
  let l := openPaths df x
  !l.isEmpty && l.all (fun k => decide (n ≤ x.paths[k].done.length))

/-- The path with the largest residual coupling (R187, R197). -/
def dominantPath (m : Meter) : Option PathEst :=
  m.paths.foldl (fun a e => match a with
    | none => some e
    | some v => if v.res < e.res then some e else some v) none

/-- An estimate put in the place of the last (R191): a path with fewer than n sub-windows keeps its own. What R185 predicts ends for the changes that
its oldest block carries. -/
def Direction.publish (cls n : Nat) (df : DirDef) (x : Direction) : Direction :=
  let fresh := (pathsOf df).filter (fun k => decide (n ≤ x.paths[k].done.length))
  let ests := (pathsOf df).filterMap (fun k => if fresh.contains k then some (pathEstimate cls k x.paths[k]) else x.meter.pathEst k.val)
  let firsts := fresh.filterMap (fun k => x.paths[k].done.getLast?.map (·.first))
  let oldest := firsts.foldl min (firsts.headD x.meter.oldest)
  let m := { x.meter with published := true, paths := ests, ageMs := x.meter.subAge, oldest := oldest }
  let snr := ((dominantPath m).map (·.snr)).getD 0
  let whole := m.newSince.all (fun t => decide (t ≤ oldest))
  let m := { m with snr := snr, level := pilotLevel m.par snr m.level, stale := m.stale && estimateStale cls m,
                    iDrop := if whole then 0 else m.iDrop, newSince := if whole then none else m.newSince }
  let y := ({ x with meter := m } : Direction).mapPaths (fun _ p => { p with pred := p.pred.filter (fun v => decide (oldest < v.1)) })
  y.coupled df

/-- The meter publishes an estimate where n sub-windows are complete. -/
def publish (n : Nat) (c : Fin 64) (d : Dir) (s : State) : State :=
  let df := dirDef c d s
  if windowsComplete n df (direction c d s) then modDir c d (Direction.publish (chan c s).defn.cls n df) s else s

/-- A slow tick of the meter: an estimate from the latest 16 sub-windows while the direction sends (R191); ages grow but under a host or protective mute
(R192, R341). -/
def meterTick (s : State) (e : Fin 64 × Dir) : State :=
  let c := e.1
  let d := e.2
  if !onReceiveDevice (dirDef c d s) s then s
  else
    let s := if isSilent (direction c d s) s then s else publish 16 c d s
    if isFrozen (direction c d s) s then s
    else modMeter c d (fun m => { m with subAge := m.subAge + 1, ageMs := if m.published then m.ageMs + 1 else m.ageMs }) s

/-! ## Start-up measurements -/

/-- A path after the delay search: d_ij = peak lag - pre_taps, not below 0, for automatic delay; a weak peak keeps the delay and is
flagged (R209, R210). -/
def Path.searched (p : Path) : Path :=
  let lag := peakPlace p.search.corr
  let q := p.freshWindow
  if !p.par.autoDelay then q
  else if corrEnergy [p.search.corr.getD lag (0, 0)] < 16 * corrEnergy p.search.noise then { q with lowSnr := true }
  else { q with lowSnr := false, peak := some lag, par := { p.par with bulkDelay := lag - p.par.preTaps } }

/-- The delay search has seen Tw/4 on every open path (R209). -/
def searchDone (df : DirDef) (x : Direction) : Bool :=
  let l := openPaths df x
  !l.isEmpty && l.all (fun k => decide (2 ^ (x.meter.par.w - 2) ≤ x.paths[k].search.count))

/-- Training has lasted to Tw: three quarters of a window after the search (R209). -/
def trainingDone (df : DirDef) (x : Direction) : Bool := windowsComplete 12 df x

/-- End of a start-up measurement: estimate published, K computed, transition out of MUTED (R203, R209). -/
def endMeasurement (c : Fin 64) (d : Dir) (s : State) : State :=
  let s := modStab c d (fun m => { m with measuring := none }) (refreshK c d (publish 12 c d (answerMeasure c d s)))
  let x := direction c d s
  if x.stab.state ≠ .muted ∨ x.stab.reason = .oscLockout then s
  else if x.stab.k < 0 then enterMarginLost c d s
  else enterClimb c d (climbFrom (gTarget c d s) x.stab.k x.stab.par) s

end Sys2Proof.Machine
end

