-- ==== Sys2Proof/Machine/Cancel.lean ====
section
/-! DEFINITION. Feedback cancellation and the stability margin: the commands of group 0x02 (R212-R219) and the events of the stability
machine and the margin meter (R192, R199, R203, R204, R209). -/

namespace Sys2Proof.Machine

/-! ## Checks of the group -/

/-- Path number 4 i + j has its ports in the direction's masks (R173). -/
def pathExists (df : DirDef) (k : Nat) : Bool := df.rx.getLsbD (k / 4) && df.tx.getLsbD (k % 4)

/-- A path mask that names a path outside the masks (BAD_PATH, R211). -/
def badPathMask (df : DirDef) (mask : Nat) : Bool := (List.range 16).any (fun k => mask.testBit k && !pathExists df k)

/-- Tap counts allowed (R180, BAD_TAPS). -/
def badTaps (n : Nat) : Bool := !(n == 0 || (decide (16 ≤ n) && decide (n ≤ 256) && n % 16 == 0))

/-- Paths of a mask, with the condition on each. -/
def anyPath (mask : Nat) (p : Fin 16 → Bool) : Bool := (List.finRange 16).any (fun k => mask.testBit k.val && p k)

/-! ## CANCEL_CONFIGURE (R212) -/

/-- Parameters of CANCEL_CONFIGURE. -/
def cancelParamsOf (x : Desc) : PathParams :=
  { taps := par x 4 2, mu := par x 6 2, leakShift := par x 8 1, deltaExp := par x 13 1, tapLimit := par x 14 2,
    autoDelay := par x 9 1 == 0, bulkDelay := par x 10 2, preTaps := par x 12 1, freeze := par x 16 1 == 1 }

/-- Adaptation parameters out of range (BAD_ADAPT, R180, R211). -/
def badAdapt (p : PathParams) : Bool :=
  decide (p.mu < 1) || decide (0x7FFF < p.mu) || !(p.leakShift == 0 || (decide (8 ≤ p.leakShift) && decide (p.leakShift ≤ 30))) ||
  decide (p.deltaExp < 15) || decide (40 < p.deltaExp) || decide (p.tapLimit < 1) || decide (0x7FFF < p.tapLimit) ||
  (!p.autoDelay && decide (4095 < p.bulkDelay)) || (p.autoDelay && decide (32 < p.preTaps))

/-- Tap counts of the direction's paths with CANCEL_CONFIGURE's. -/
def newTapCounts (x : Desc) (s : State) (k : Nat) : Nat :=
  if (par x 2 2).testBit k then par x 4 2 else (nth (direction (chanOf (par x 0 1)) (dirOf (par x 1 1)) s).paths k Path.reset).par.taps

/-- The refusal of a plan, if it has one. -/
def planRefusal : Except Reject State → Option Reject
  | .error e => some e
  | .ok _ => none

/-- The state a plan leaves. -/
def planApplied (p : Except Reject State) (s : State) : State :=
  match p with
  | .ok s' => s'
  | .error _ => s

/-- Bulk delays of a direction's paths under CANCEL_CONFIGURE: a manual one, or the one that the delay search found (R180, R209). -/
def newBulkDelays (x : Desc) (s : State) (k : Nat) : Nat :=
  let c := chanOf (par x 0 1)
  let d := dirOf (par x 1 1)
  if (par x 2 2).testBit k then
    if par x 9 1 = 1 then par x 10 2 else (nth (direction c d s).paths k Path.reset).foundDelay (par x 12 1)
  else bulkDelays c d s k

/-- Checks of CANCEL_CONFIGURE. NO_DELAY has no stated status: REJECTED_STATE (log entry 17). -/
def checkCancelConfigure (r : Running) (s : State) : Option Reject :=
  let x := r.desc
  let c := chanOf (par x 0 1)
  let d := dirOf (par x 1 1)
  let p := cancelParamsOf x
  firstOf ([common true [(0, 17)] .none x] ++ dirChecks (par x 0 1) (par x 1 1) s ++ [
    refuseIf (badPathMask (dirDef c d s) (par x 2 2)) (badParam 0x0202),
    refuseIf (badTaps p.taps) (badParam 0x0201),
    refuseIf (decide (1 < par x 9 1) || decide (1 < par x 16 1)) (badParam detBadField),
    refuseIf (badAdapt p) (badParam 0x0203),
    refuseIf (p.autoDelay && p.taps != 0 && anyPath (par x 2 2) (fun k => (direction c d s).paths[k].peak.isNone)) (badState 0x0204),
    planRefusal (planTaps c d (newTapCounts x s) (newBulkDelays x s) s)])

/-- Result bytes 0-1 and 2-5: the mask of paths active and the wing memory reserved (R212). -/
def cancelResult (x : Desc) (c : Fin 64) (d : Dir) (old s : State) : BitVec 128 :=
  result [(0, 2, ((List.range 16).foldl (fun (a : Nat) k => if pathExists (dirDef c d old) k && newTapCounts x old k != 0 then a + 2 ^ k else a) 0 : Nat)),
    (2, 4, wingHistoryBytes c d s)]

/-- CANCEL_CONFIGURE past its checks: engines and wing memory taken, the change requested under a configuration epoch. -/
def effectCancelConfigure (r : Running) (s : State) : Ans × State :=
  let x := r.desc
  let c := chanOf (par x 0 1)
  let d := dirOf (par x 1 1)
  let s' := planApplied (planTaps c d (newTapCounts x s) (newBulkDelays x s) s) s
  (awaitEpochs r [s'.tickets] false (cancelResult x c d s s'),
    requestChange c d .config [.cancelParams (BitVec.ofNat 16 (par x 2 2)) (cancelParamsOf x)] (effOf x) s')

/-- CANCEL_CONFIGURE (R212). -/
def opCancelConfigure (r : Running) (s : State) : Ans × State := guarded checkCancelConfigure effectCancelConfigure r s

/-! ## CANCEL_RESET (R213) and CANCEL_READ_TAPS (R214) -/

/-- Checks of CANCEL_RESET. -/
def checkCancelReset (r : Running) (s : State) : Option Reject :=
  let x := r.desc
  firstOf ([common true [(0, 4)] .none x] ++ dirChecks (par x 0 1) (par x 1 1) s ++ [
    refuseIf (badPathMask (dirDef (chanOf (par x 0 1)) (dirOf (par x 1 1)) s) (par x 2 2)) (badParam 0x0202)])

/-- CANCEL_RESET past its checks. -/
def effectCancelReset (r : Running) (s : State) : Ans × State :=
  let x := r.desc
  (awaitEpochs r [s.tickets] false (result [(0, 2, par x 2 2)]),
    requestChange (chanOf (par x 0 1)) (dirOf (par x 1 1)) .config [.cancelReset (BitVec.ofNat 16 (par x 2 2))] (effOf x) s)

/-- CANCEL_RESET (R213). -/
def opCancelReset (r : Running) (s : State) : Ans × State := guarded checkCancelReset effectCancelReset r s

/-- The path CANCEL_READ_TAPS names. -/
def readPath (x : Desc) (s : State) : Path :=
  nth (direction (chanOf (par x 0 1)) (dirOf (par x 1 1)) s).paths (par x 2 1) Path.reset

/-- Checks of CANCEL_READ_TAPS. -/
def checkCancelReadTaps (r : Running) (s : State) : Option Reject :=
  let x := r.desc
  let c := chanOf (par x 0 1)
  let d := dirOf (par x 1 1)
  firstOf ([common false [(0, 3)] .own x] ++ dirChecks (par x 0 1) (par x 1 1) s ++ [
    refuseIf (decide (16 ≤ par x 2 1) || !pathExists (dirDef c d s) (par x 2 1)) (badParam 0x0202),
    refuseIf (decide (x.dataLen.toNat < 16 + 8 * (readPath x s).par.taps)) (badParam detBadLength)])

/-- Buffer of CANCEL_READ_TAPS. -/
def tapsBuffer (x : Desc) (s : State) : List Byte :=
  let c := chanOf (par x 0 1)
  let d := dirOf (par x 1 1)
  let p := readPath x s
  let flags : Nat := (if p.par.freeze then 1 else 0) +
    (if throttleOf c d (Fin.ofNat 4 (par x 2 1 / 4)) s != (4, 0) then 2 else 0) + (if p.lowSnr then 4 else 0)
  payload 16 [(0, 2, p.par.taps), (2, 2, p.nEff), (4, 2, p.par.bulkDelay), (6, 2, p.lastSeq.toNat),
    (8, 1, p.lastEpoch.toNat), (9, 1, flags), (10, 4, p.limitCount)] ++
    (resizeTaps p.par.taps p.taps).flatMap (fun h => leInt 4 h.1 ++ leInt 4 h.2)

/-- CANCEL_READ_TAPS past its checks: the taps of one update, in one step. -/
def effectCancelReadTaps (r : Running) (s : State) : Ans × State := (doneData 0 (tapsBuffer r.desc s), s)

/-- CANCEL_READ_TAPS (R214). -/
def opCancelReadTaps (r : Running) (s : State) : Ans × State := guarded checkCancelReadTaps effectCancelReadTaps r s

/-! ## ISOLATION_MEASURE (R215) -/

/-- Checks of ISOLATION_MEASURE. -/
def checkIsolationMeasure (r : Running) (s : State) : Option Reject :=
  let x := r.desc
  let dr := direction (chanOf (par x 0 1)) (dirOf (par x 1 1)) s
  firstOf ([common false [(0, 3), (4, 4)] (.optional 128) x] ++ dirChecks (par x 0 1) (par x 1 1) s ++ [
    refuseIf (decide (1 < par x 2 1)) (badParam detBadField),
    refuseIf (par x 4 2 != 0 && outside (-6000) (-1000) (parInt x 4 2)) (badParam 0x0208),
    refuseIf (decide (4095 < par x 6 2)) (badParam detBadField),
    refuseIf (dr.stab.state == .muted && dr.stab.reason == .oscLockout) (badState 0x020B),
    refuseIf dr.stab.measuring.isSome (badState 0x020A),
    refuseIf (par x 2 1 == 1 && isSilent dr s) (badState 0x0206)])

/-- Result of ISOLATION_MEASURE (R215). -/
def isolationResult (c : Fin 64) (d : Dir) (s : State) : BitVec 128 :=
  let x := direction c d s
  result [(0, 2, satInt 16 (isolation x)), (2, 2, satInt 16 (cancellation (chan c s).defn.cls x)), (4, 2, satInt 16 x.stab.k),
    (6, 1, x.stab.state.code), (7, 1, if x.stab.state = .muted then x.stab.reason.code else 0)]

/-- Buffer of ISOLATION_MEASURE: 8 bytes per path number (R215). -/
def isolationBuffer (c : Fin 64) (d : Dir) (s : State) : List Byte :=
  let x := direction c d s
  (List.finRange 16).flatMap (fun (k : Fin 16) =>
    let p : Path := x.paths[k]
    match x.meter.pathEst k.val with
    | some e => payload 8 [(0, 2, satInt 16 e.raw), (2, 2, satInt 16 (x.gain.f - e.raw)), (4, 2, e.peakLag),
        (6, 1, (if p.nEff = 0 then 0 else 1) + (if p.lowSnr then 2 else 0)), (7, 1, min 255 e.snr)]
    | none => payload 8 [])

/-- ISOLATION_MEASURE past its checks: open loop starts R209 and mutes the direction, in service keeps it running. -/
def beginIsolationMeasure (r : Running) (s : State) : Ans × State :=
  let x := r.desc
  let c := chanOf (par x 0 1)
  let d := dirOf (par x 1 1)
  let pilot := if par x 4 2 = 0 then -3000 else parInt x 4 2
  let search := if par x 6 2 = 0 then 255 else par x 6 2
  if par x 2 1 = 0 then (awaitHardware r 1 [], startMeasurement c d pilot search (some x.ring) s)
  else
    let v : Measurement :=
      { openLoop := false, searching := false, pilot := pilot, searchMax := search, start := (direction c d s).ordinal, ring := some x.ring }
    (awaitHardware r 1 [], modStab c d (fun m => { m with measuring := some v }) s)

/-- ISOLATION_MEASURE (R215): its first step starts the measurement, its last reports it. -/
def opIsolationMeasure (r : Running) (s : State) : Ans × State :=
  if r.phase = 0 then guarded checkIsolationMeasure beginIsolationMeasure r s
  else
    let c := chanOf (par r.desc 0 1)
    let d := dirOf (par r.desc 1 1)
    (doneData (isolationResult c d s) (if r.desc.dataLen = 128 then isolationBuffer c d s else []), s)

/-! ## MARGIN_READ (R216), MARGIN_SET (R217), STABILITY_STATUS (R218), PROBE_CONFIGURE (R219) -/

/-- Checks of MARGIN_READ. -/
def checkMarginRead (r : Running) (s : State) : Option Reject :=
  firstOf ([common false [(0, 2)] .none r.desc] ++ dirChecks (par r.desc 0 1) (par r.desc 1 1) s)

/-- M_meas = I + C - S (Loop quantities). -/
def measuredMargin (cls : Nat) (x : Direction) : Int := isolation x + cancellation cls x - x.stab.s

/-- A path's kernel runs throttled: its wing's fraction is below 1 or its shift above 0 (R183). -/
def isThrottled (c : Fin 64) (d : Dir) (s : State) : Bool :=
  (maskPorts (dirDef c d s).rx).any (fun i => throttleOf c d i s != (4, 0))

/-- Result of MARGIN_READ. -/
def marginResult (c : Fin 64) (d : Dir) (s : State) : BitVec 128 :=
  let x := direction c d s
  let cls := (chan c s).defn.cls
  result [(0, 2, satInt 16 (isolation x)), (2, 2, satInt 16 (cancellation cls x)), (4, 2, satInt 16 (measuredMargin cls x)),
    (6, 2, satInt 16 x.stab.k), (8, 2, satInt 16 x.stab.s), (10, 2, x.meter.level), (12, 2, min 0xFFFF x.meter.ageMs),
    (14, 1, min 255 x.meter.snr), (15, 1, (if estimateStale cls x.meter then 1 else 0) + (if isThrottled c d s then 2 else 0) +
      (if x.meter.cPred.isSome then 4 else 0))]

/-- MARGIN_READ past its checks. -/
def effectMarginRead (r : Running) (s : State) : Ans × State :=
  (doneWith (marginResult (chanOf (par r.desc 0 1)) (dirOf (par r.desc 1 1)) s), s)

/-- MARGIN_READ (R216). -/
def opMarginRead (r : Running) (s : State) : Ans × State := guarded checkMarginRead effectMarginRead r s

/-- A field of MARGIN_SET: zero keeps the value in force. -/
def keepZero (v old : Nat) : Nat := if v = 0 then old else v

/-- A nonzero field outside its range. -/
def badKept (lo hi v : Nat) : Bool := v != 0 && (decide (v < lo) || decide (hi < v))

/-- Checks of MARGIN_SET. -/
def checkMarginSet (r : Running) (s : State) : Option Reject :=
  let x := r.desc
  firstOf ([common true [(0, 15), (16, 4)] .none x] ++ dirChecks (par x 0 1) (par x 1 1) s ++ [
    refuseIf (badKept 600 3000 (par x 2 2) || badKept 100 1200 (par x 4 2) || badKept 10 60000 (par x 6 2) ||
      badKept 100 6000 (par x 8 2) || badKept 0x2000 0x7FFF (par x 10 2) || badKept 100 2000 (par x 12 2) ||
      badKept 1 15 (par x 14 1) || badKept 100 60000 (par x 16 2) || badKept 10 10000 (par x 18 2)) (badParam 0x0207)])

/-- The stability parameters in force for a command: those of the last change requested, or of the machine. -/
def pendingMargin (x : Direction) : StabParams :=
  (x.gainLine.pending.filterMap (fun e => match e with
    | .margin p => some p
    | _ => none)).getLast?.getD x.stab.par

/-- Parameters MARGIN_SET asks for, before the gate. -/
def marginWanted (x : Desc) (p : StabParams) : StabParams :=
  { mReq := if par x 2 2 = 0 then p.mReq else par x 2 2, backoff := if par x 4 2 = 0 then p.backoff else par x 4 2,
    backoffDwell := keepZero (par x 6 2) p.backoffDwell, climbStart := if par x 8 2 = 0 then p.climbStart else par x 8 2,
    oscRho := keepZero (par x 10 2) p.oscRho, oscRise := if par x 12 2 = 0 then p.oscRise else par x 12 2,
    oscLimit := keepZero (par x 14 1) p.oscLimit, oscHoldoff := keepZero (par x 16 2) p.oscHoldoff,
    holdDwell := keepZero (par x 18 2) p.holdDwell }

/-- MARGIN_SET past its checks: M_req raised to M_HR by the gate (R217, R259), a new gain epoch. -/
def effectMarginSet (r : Running) (s : State) : Ans × State :=
  let x := r.desc
  let c := chanOf (par x 0 1)
  let d := dirOf (par x 1 1)
  let want := marginWanted x (pendingMargin (direction c d s))
  let m := max want.mReq s.hr.rules.mHr
  let clamped := decide (want.mReq < m)
  let s' := if clamped then gateClamped (writerOf x.ring.val) 1 x.opcode.toNat c.val (dirCode d).toNat want.mReq m m s else s
  (awaitEpochs r [s'.tickets] clamped (result [(0, 2, m)]),
    requestChange c d .gain [.margin { want with mReq := m }] (effOf x) s')

/-- MARGIN_SET (R217). -/
def opMarginSet (r : Running) (s : State) : Ans × State := guarded checkMarginSet effectMarginSet r s

/-- Checks of STABILITY_STATUS. -/
def checkStabilityStatus (r : Running) (s : State) : Option Reject :=
  firstOf [common false [(0, 1)] .none r.desc, noChannel (par r.desc 0 1) s]

/-- The 8 bytes of a direction (R218); zeros where it is not enabled. -/
def stabilityFields (c : Fin 64) (d : Dir) (off : Nat) (s : State) : List (Nat × Nat × Int) :=
  let x := direction c d s
  if (chan c s).defn.enables d then
    [(off, 1, (x.stab.state.code : Int)), (off + 1, 1, if x.stab.state = .muted then (x.stab.reason.code : Int) else 0),
     (off + 2, 2, satInt 16 x.stab.s), (off + 4, 2, satInt 16 x.stab.k),
     (off + 6, 1, (min 255 (x.stab.mutes.filter (fun t => decide (s.slowTicks < t + 600000))).length : Nat)),
     (off + 7, 1, flagBit (isFrozen x s) + 2 * flagBit (x.stab.dwellRunning || decide (0 < x.stab.holdRun)) + 4 * flagBit x.stab.measuring.isSome)]
  else []

/-- STABILITY_STATUS past its checks. -/
def effectStabilityStatus (r : Running) (s : State) : Ans × State :=
  let c := chanOf (par r.desc 0 1)
  (doneWith (result (stabilityFields c .dl 0 s ++ stabilityFields c .ul 8 s)), s)

/-- STABILITY_STATUS (R218). -/
def opStabilityStatus (r : Running) (s : State) : Ans × State := guarded checkStabilityStatus effectStabilityStatus r s

/-- Checks of PROBE_CONFIGURE. -/
def checkProbeConfigure (r : Running) (s : State) : Option Reject :=
  let x := r.desc
  firstOf ([common true [(0, 7)] .none x] ++ dirChecks (par x 0 1) (par x 1 1) s ++ [
    refuseIf (outside (-4500) (-2000) (parInt x 2 2) || outside (-4500) (-2000) (parInt x 4 2) ||
      decide (parInt x 4 2 < parInt x 2 2) || decide (par x 6 1 < 17) || decide (23 < par x 6 1)) (badParam 0x0208)])

/-- PROBE_CONFIGURE past its checks: a configuration epoch. -/
def effectProbeConfigure (r : Running) (s : State) : Ans × State :=
  let x := r.desc
  (awaitEpochs r [s.tickets] false 0,
    requestChange (chanOf (par x 0 1)) (dirOf (par x 1 1)) .config
      [.probe { levelMin := parInt x 2 2, levelMax := parInt x 4 2, w := par x 6 1 }] (effOf x) s)

/-- PROBE_CONFIGURE (R219). -/
def opProbeConfigure (r : Running) (s : State) : Ans × State := guarded checkProbeConfigure effectProbeConfigure r s

/-! ## Events -/

/-- Counts of first_count that a detector's run has lasted, at the last block on which the criterion held (R199). -/
def runLength (m : Stability) : Nat := m.onset.elim 0 (fun o => (m.runLast - o).toNat)

/-- OSCILLATION_MUTE (R199): the criterion has held for 6144 counts of first_count or more since the onset, the last of them
firstCount (log entry 187); a frozen or muted direction is left alone. -/
def execOscillationMute (c : Fin 64) (d : Dir) (firstCount : Word) (s : State) : Host.Outcome State Fault Refusal :=
  let x := direction c d s
  .next (
    if dirLive c d s && !isFrozen x s && x.stab.state != .muted && decide (6144 ≤ runLength x.stab) && x.stab.runLast == firstCount then
      let s := oscillationMute c d s
      if splitTransmit (dirDef c d s) s then sendControl (otherDevice (dirDef c d s) s) (.splitMute c d) s else s
    else s)

/-- DELAY_SEARCH_END (R209 step 2): at Tw/4 the delays are found and training begins; the window is one of 2^w samples (log entry 187). -/
def execDelaySearchEnd (c : Fin 64) (d : Dir) (w : Nat) (s : State) : Host.Outcome State Fault Refusal :=
  let x := direction c d s
  .next (if dirLive c d s && searchingDelay x && !isFrozen x s && searchDone (dirDef c d s) x && x.meter.par.w == w then
      modStab c d (fun m => { m with measuring := m.measuring.map (fun v => { v with searching := false }) })
        (modDir c d (fun x => x.mapPaths (fun _ p => p.searched)) s)
    else s)

/-- An in-service measurement ends (R215): an estimate whose blocks all follow its start is published. -/
def endInService (c : Fin 64) (d : Dir) (start : Nat) (s : State) : State :=
  let m := (direction c d s).meter
  if m.published && decide (start ≤ m.oldest) then
    refreshK c d (modStab c d (fun x => { x with measuring := none }) (answerMeasure c d s))
  else s

/-- MEASUREMENT_END (R209 step 4, R215): at Tw the first estimate is published, K computed and the transition out of MUTED taken; an in-service
measurement waits for a full window of fresh estimates. The command that waits becomes ready. A frozen direction sends no pilot and measures nothing
(R206, R341). inService says which of the two ends (log entry 187). -/
def execMeasurementEnd (c : Fin 64) (d : Dir) (inService : Bool) (s : State) : Host.Outcome State Fault Refusal :=
  let x := direction c d s
  .next (match x.stab.measuring with
    | none => s
    | some m =>
      if m.openLoop = inService then s
      else if m.openLoop then
        if m.searching || isFrozen x s || !trainingDone (dirDef c d s) x then s else endMeasurement c d s
      else endInService c d m.start s)

/-- MARGIN_STALE (R192): the estimate of an unmuted direction has passed its age; the clamp is computed with C = 0 and MARGIN_STALE is
raised once for the estimate. -/
def execMarginStale (c : Fin 64) (d : Dir) (s : State) : Host.Outcome State Fault Refusal :=
  let x := direction c d s
  .next (if dirLive c d s && !isSilent x s && estimateStale (chan c s).defn.cls x.meter && !x.meter.stale then
      raise 65 (dirObject c d) 0 (settle c d (refreshK c d (modMeter c d (fun m => { m with stale := true }) s)))
    else s)

/-- BACKOFF_DWELL_EXPIRY (R203): backoff_dwell has passed with K at or above S: CLIMB with S unchanged. -/
def execBackoffDwellExpiry (c : Fin 64) (d : Dir) (s : State) : Host.Outcome State Fault Refusal :=
  let x := direction c d s
  .next (if dirLive c d s && !isFrozen x s && x.stab.state == .backoff && decide (x.stab.par.backoffDwell ≤ x.stab.dwell) &&
      decide (x.stab.s ≤ x.stab.k) then enterClimb c d x.stab.s s
    else s)

/-- HOLD_DWELL_EXPIRY (R203): K - 0.50 dB has been 1.00 dB or more above S for hold_dwell: CLIMB with S unchanged. -/
def execHoldDwellExpiry (c : Fin 64) (d : Dir) (s : State) : Host.Outcome State Fault Refusal :=
  let x := direction c d s
  .next (if dirLive c d s && !isFrozen x s && x.stab.state == .hold && decide (x.stab.par.holdDwell ≤ x.stab.holdRun) then
      enterClimb c d x.stab.s s
    else s)

/-- OSC_HOLDOFF_EXPIRY (R204): osc_holdoff after an OSCILLATION mute the start-up measurement runs. -/
def execOscHoldoffExpiry (c : Fin 64) (d : Dir) (s : State) : Host.Outcome State Fault Refusal :=
  let x := direction c d s
  .next (if dirLive c d s && x.stab.state == .muted && x.stab.reason == .oscillation && x.stab.measuring.isNone &&
      !inWatch s && decide (x.stab.par.oscHoldoff ≤ x.stab.holdoff) then startMeasurement c d (-3000) 255 none s
    else s)

/-- MARGIN_LOST_RETRY (R204): 10 s after a failed measurement it runs again. -/
def execMarginLostRetry (c : Fin 64) (d : Dir) (s : State) : Host.Outcome State Fault Refusal :=
  let x := direction c d s
  .next (if dirLive c d s && x.stab.state == .muted && x.stab.reason == .marginLost && x.stab.measuring.isNone &&
      decide (10000 ≤ x.stab.retry) then startMeasurement c d (-3000) 255 none s
    else s)

end Sys2Proof.Machine
end

