-- ==== Sys2Proof/Machine/Gain.lean ====
section
/-! DEFINITION. Gain control and network protection: the gain of a block (R220-R223), port limits (R224-R231), ALC and the composite
regulator (R232-R240), the uplink ceiling, squelch and donor loss (R241-R251), thresholds (R252, R253), the ladder (R254-R257), and the
commands of group 0x03 (R269-R277). -/

namespace Sys2Proof.Machine

/-! ## Limits and the gain of a block -/

/-- P_ch_max at transmit element j under gain settings: the limit set, or the House Rules maximum of its port (R228). -/
def GainState.chLimit (g : GainState) (d : Dir) (j : Fin 4) (s : State) : Int := g.pChMax[j].getD s.hr.rules.pChMax[txPort d j]

/-- P_ch_max in force at transmit element j (R228). -/
def chLimit (c : Fin 64) (d : Dir) (j : Fin 4) (s : State) : Int := (direction c d s).gain.chLimit d j s

/-- P_comp_max in force on a port (R228). -/
def compLimit (p : Fin 8) (s : State) : Int := (port p s).pCompMax.getD s.hr.rules.pCompMax[p]

/-- P_comp_eff = P_comp_max + 10·log10(c) - Δ_th (R229). -/
def compEff (p : Fin 8) (s : State) : Int := compLimit p s + ratioDb (port p s).cap.1 (port p s).cap.2 - (port p s).dTh

/-- P_cal_tx of a transmit element: of this device's port, or as the other device of a split direction has told it (R224, R225). -/
def calTx (d : Dir) (df : DirDef) (peer : Vector Int 4) (s : State) (j : Fin 4) : Int :=
  if onTransmitDevice df s then (port (txPort d j) s).pCalTx else peer[j]

/-- P_cal_rx of a receive element. -/
def calRx (d : Dir) (df : DirDef) (peer : Vector Int 4) (s : State) (i : Fin 4) : Int :=
  if onReceiveDevice df s then (port (rxPort d i) s).pCalRx else peer[i]

/-- Front-end offset F: the largest P_cal_tx(j) - P_cal_rx(i) over the coupling paths (R225); 0 without a path. -/
def frontEnd (d : Dir) (df : DirDef) (peer : Vector Int 4) (s : State) : Int :=
  match (maskPorts df.rx).flatMap (fun i => (maskPorts df.tx).map (fun j => calTx d df peer s j - calRx d df peer s i)) with
  | [] => 0
  | f :: fs => fs.foldl max f

/-- The ceiling below the gain: min(S, U, G_t), U counting for UL only (R220). -/
def ceilingOf (d : Dir) (x : Direction) : Int :=
  let g := min x.stab.s x.gain.gt
  if d = .ul then min g x.gain.u else g

/-- min(S, U, G_t) - A_sq - A_alc - A_comp + trim, in 0.01 dB, half up (R220). -/
def regulatedGain (c : Fin 64) (d : Dir) (j : Fin 4) (s : State) : Int :=
  let x := direction c d s
  let sq := if d = .ul then x.gain.aSq else 0
  (2 * (ceilingOf d x - sq + (dirDef c d s).trim[j]) - x.gain.aAlc - (port (txPort d j) s).aComp + 1) / 2

/-- B_blk: the net gain at which a block of an input power gives P_ch_max + ovs at the connector of element j (R237). -/
def blockBound (c : Fin 64) (d : Dir) (j : Fin 4) (inputPower : Int) (s : State) : Int :=
  let x := direction c d s
  chLimit c d j s + x.gain.ovs - inputPower - (port (txPort d j) s).pCalTx + x.gain.f

/-- G_app at element j for a block of an input power, not below -40.00 dB (R220). -/
def appliedGain (c : Fin 64) (d : Dir) (j : Fin 4) (inputPower : Int) (s : State) : Int :=
  max (-4000) (min (regulatedGain c d j s) (blockBound c d j inputPower s))

/-- The bound is the smaller term at element j (R237). -/
def boundBinds (c : Fin 64) (d : Dir) (j : Fin 4) (inputPower : Int) (s : State) : Bool :=
  decide (blockBound c d j inputPower s < regulatedGain c d j s)

/-- T_act = N_f + sq_margin, clamped (R253). -/
def thresholdActive (g : GainState) : Int := clampInt g.thrMin g.thrMax (g.floor[0] + g.squelch.margin)

/-- T_donor of DL receive element i under a donor margin (R253). -/
def thresholdDonor (g : GainState) (i : Fin 4) (margin : Int) : Int := clampInt g.thrMin g.thrMax (g.floor[i] + margin)

/-! ## Fields -/

/-- A gain or level field of 0x7FFF keeps its current value (chapter 5, Commands). -/
def keepLevel (v : Nat) (old : Int) : Int := if v = 0x7FFF then old else signed 16 v

/-- A level field outside its range; 0x7FFF keeps and is in range (log entry 18). -/
def badLevel (lo hi : Int) (v : Nat) : Bool := v != 0x7FFF && outside lo hi (signed 16 v)

/-- A number outside its range. -/
def badRange (lo hi v : Nat) : Bool := decide (v < lo) || decide (hi < v)

/-- Settings requested of a direction under gain epochs and not yet in force, oldest first. -/
def pendingGain (x : Direction) : List Setting := x.gainLine.pending

/-- The gain target last requested, or in force. -/
def targetWanted (x : Direction) : Int :=
  ((pendingGain x).filterMap (fun e => match e with
    | .gainTarget g => some g
    | _ => none)).getLast?.getD x.gain.gt

/-- The ALC parameters last requested, or in force. -/
def alcWanted (x : Direction) : AlcParams :=
  ((pendingGain x).filterMap (fun e => match e with
    | .alc p => some p
    | _ => none)).getLast?.getD x.gain.alc

/-- The per-channel limits and ovs last requested, or in force. -/
def limitWanted (x : Direction) : Vector (Option Int) 4 × Int :=
  ((pendingGain x).filterMap (fun e => match e with
    | .powerLimit p o => some (p, o)
    | _ => none)).getLast?.getD (x.gain.pChMax, x.gain.ovs)

/-- The coupling parameters last requested, or in force. -/
def couplingWanted (x : Direction) : CouplingParams :=
  ((pendingGain x).filterMap (fun e => match e with
    | .coupling p => some p
    | _ => none)).getLast?.getD x.gain.coupling

/-- The squelch parameters last requested, or in force. -/
def squelchWanted (x : Direction) : SquelchParams :=
  ((pendingGain x).filterMap (fun e => match e with
    | .squelch p => some p
    | _ => none)).getLast?.getD x.gain.squelch

/-! ## GAIN_SET (R269) -/

/-- A field of GAIN_SET that keeps its target. -/
def keepsTarget (v : Nat) : Bool := v == 0xFFFF || v == 0x7FFF

/-- A target that is not allowed (BAD_GAIN): above 11000 or not a multiple of 10. -/
def badTarget (v : Nat) : Bool := !keepsTarget v && (decide (11000 < v) || v % 10 != 0)

/-- Field of a direction in GAIN_SET. -/
def targetField (x : Desc) (d : Dir) : Nat := if d = .ul then par x 4 2 else par x 2 2

/-- Checks of GAIN_SET. -/
def checkGainSet (r : Running) (s : State) : Option Reject :=
  let x := r.desc
  let ch := chan (chanOf (par x 0 1)) s
  firstOf [common true [(0, 1), (2, 4)] .none x, noChannel (par x 0 1) s,
    refuseIf (badTarget (par x 2 2) || badTarget (par x 4 2)) (badParam 0x010D),
    refuseIf (bothDirs.any (fun d => !keepsTarget (targetField x d) && !ch.defn.enables d)) (badState detDirectionOff)]

/-- One direction's target through the gate (R259): a clamp writes its record, a target that differs waits for a gain epoch (log entry 58). -/
def setTarget (writer op : Nat) (c : Fin 64) (d : Dir) (want : Int) (eff : Option Word) (s : State) : State :=
  let g := gateGain c d want s
  let s := if g < want then gateClamped writer 0 op c.val (dirCode d).toNat want g g s else s
  if g = targetWanted (direction c d s) then s else requestChange c d .gain [.gainTarget g] eff s

/-- Directions GAIN_SET names. -/
def gainSetDirs (x : Desc) : List Dir := bothDirs.filter (fun d => !keepsTarget (targetField x d))

/-- Named directions whose target differs after the gate (R269). -/
def gainSetChanged (x : Desc) (s : State) : List Dir :=
  let c := chanOf (par x 0 1)
  (gainSetDirs x).filter (fun d => decide (gateGain c d (targetField x d) s ≠ targetWanted (direction c d s)))

/-- GAIN_SET past its checks. -/
def effectGainSet (r : Running) (s : State) : Ans × State :=
  let x := r.desc
  let c := chanOf (par x 0 1)
  let dirs := gainSetDirs x
  let n := (gainSetChanged x s).length
  let clamped := dirs.any (fun d => decide (gateGain c d (targetField x d) s < targetField x d))
  let s' := dirs.foldl (fun s d => setTarget (writerOf x.ring.val) x.opcode.toNat c d (targetField x d) (effOf x) s) s
  let res := result [(0, 2, targetWanted (direction c .dl s')), (2, 2, targetWanted (direction c .ul s')),
    (4, 2, satInt 16 (direction c .dl s).gain.f), (6, 2, satInt 16 (direction c .ul s).gain.f)]
  if n = 0 then (doneClamped clamped 0 res, s')
  else (awaitEpochs r ((List.range n).map (· + s.tickets)) clamped res, s')

/-- GAIN_SET (R269). -/
def opGainSet (r : Running) (s : State) : Ans × State := guarded checkGainSet effectGainSet r s

/-! ## ALC_CONFIGURE (R270) -/

/-- ALC parameters of a command over those before. -/
def alcOf (x : Desc) (old : AlcParams) : AlcParams :=
  { enable := par x 2 1 == 1, kAtt := par x 4 2, kRel := par x 6 2, relMax := par x 8 2, headroom := keepLevel (par x 10 2) old.headroom,
    aMax := keepLevel (par x 12 2) old.aMax, plausTol := keepLevel (par x 14 2) old.plausTol, plausTicks := par x 16 1 }

/-- Checks of ALC_CONFIGURE. -/
def checkAlcConfigure (r : Running) (s : State) : Option Reject :=
  let x := r.desc
  firstOf ([common true [(0, 3), (4, 13)] .none x] ++ dirChecks (par x 0 1) (par x 1 1) s ++ [
    refuseIf (decide (1 < par x 2 1)) (badParam detBadField),
    refuseIf (badRange 0x0100 0x7FFF (par x 4 2) || badRange 0x0010 0x7FFF (par x 6 2) || badRange 1 200 (par x 8 2) ||
      badLevel 0 600 (par x 10 2) || badLevel 0 6000 (par x 12 2) || badLevel 25 600 (par x 14 2) || badRange 4 64 (par x 16 1))
      (badParam 0x0302)])

/-- ALC_CONFIGURE past its checks. -/
def effectAlcConfigure (r : Running) (s : State) : Ans × State :=
  let x := r.desc
  let c := chanOf (par x 0 1)
  let d := dirOf (par x 1 1)
  (awaitEpochs r [s.tickets] false 0, requestChange c d .gain [.alc (alcOf x (alcWanted (direction c d s)))] (effOf x) s)

/-- ALC_CONFIGURE (R270). -/
def opAlcConfigure (r : Running) (s : State) : Ans × State := guarded checkAlcConfigure effectAlcConfigure r s

/-! ## POWER_LIMIT_SET (R271) -/

/-- POWER_LIMIT_SET names a calibration, which the locked House Rules refuse (R226, R259). -/
def namesCalibration (x : Desc) : Bool := par x 6 2 != 0x7FFF || par x 8 2 != 0x7FFF

/-- Checks of POWER_LIMIT_SET. -/
def checkPowerLimitSet (r : Running) (s : State) : Option Reject :=
  let x := r.desc
  if par x 0 1 = 0 then
    firstOf ([common true [(0, 3), (4, 4)] .none x] ++ dirChecks (par x 1 1) (par x 2 1) s ++ [
      refuseIf (badLevel (-2000) 6000 (par x 4 2) || badLevel 0 600 (par x 6 2)) (badParam 0x0301)])
  else
    firstOf [common true [(0, 2), (4, 6)] .none x, refuseIf (decide (1 < par x 0 1)) (badParam detBadField),
      refuseIf (decide (7 < par x 1 1)) (badParam 0x030A),
      refuseIf (badLevel (-2000) 6000 (par x 4 2) || badLevel (-3000) 8000 (par x 6 2) || badLevel (-8000) 2000 (par x 8 2))
        (badParam 0x0301)]

/-- Per-channel limits a command asks for at each transmit element in the mask, clamped to the ports' House Rules maxima (R259). -/
def limitsOf (d : Dir) (df : DirDef) (want : Nat) (old : Vector (Option Int) 4) (s : State) : Vector (Option Int) 4 :=
  if want = 0x7FFF then old
  else Vector.ofFn (fun j => if df.tx.getLsbD j.val then some (min (signed 16 want) s.hr.rules.pChMax[txPort d j]) else old[j])

/-- Smallest limit over the transmit elements of a direction. -/
def smallestLimit (d : Dir) (df : DirDef) (v : Vector (Option Int) 4) (s : State) : Int :=
  match (maskPorts df.tx).map (fun j => v[j].getD s.hr.rules.pChMax[txPort d j]) with
  | [] => 0
  | a :: as => as.foldl min a

/-- POWER_LIMIT_SET for a direction. -/
def limitDirection (r : Running) (s : State) : Ans × State :=
  let x := r.desc
  let c := chanOf (par x 1 1)
  let d := dirOf (par x 2 1)
  let df := dirDef c d s
  let old := limitWanted (direction c d s)
  let v := limitsOf d df (par x 4 2) old.1 s
  let applied := smallestLimit d df v s
  let clamped := par x 4 2 != 0x7FFF && decide (applied < parInt x 4 2)
  let s := if clamped then
      gateClamped (writerOf x.ring.val) 2 x.opcode.toNat c.val (dirCode d).toNat (parInt x 4 2) applied applied s else s
  (awaitEpochs r [s.tickets] clamped (result [(0, 2, applied)]),
    requestChange c d .gain [.powerLimit v (keepLevel (par x 6 2) old.2)] (effOf x) s)

/-- Directions that transmit on a port of this device or receive from it. -/
def dirsOnPort (p : Fin 8) (s : State) : List (Fin 64 × Dir) :=
  (liveDirs s).filter (fun e => (transmitters p s).contains e || (receivers p s).contains e)

/-- A port's limit and calibrations last requested under gain epochs, or in force. -/
def portWanted (p : Fin 8) (s : State) : Int × Int × Int :=
  let x := port p s
  ((dirsOnPort p s).flatMap (fun e => (pendingGain (direction e.1 e.2 s)).filterMap (fun v => match v with
    | .portLimits q comp tx rx => if q = p then some (comp.getD (compLimit p s), tx, rx) else none
    | _ => none))).getLast?.getD (compLimit p s, x.pCalTx, x.pCalRx)

/-- The state in which a port had a limit and calibrations. -/
def withPort (p : Fin 8) (comp : Option Int) (tx rx : Int) (s : State) : State :=
  modPort p (fun v => { v with pCompMax := comp.or v.pCompMax, pCalTx := tx, pCalRx := rx }) s

/-- A port's limit and calibrations requested under a gain epoch of each direction that uses the port, with its front-end offset (R225, R271). -/
def requestPort (p : Fin 8) (comp : Option Int) (tx rx : Int) (eff : Option Word) (s : State) : State :=
  (dirsOnPort p s).foldl (fun t e =>
    let df := dirDef e.1 e.2 s
    requestChange e.1 e.2 .gain
      [.portLimits p comp tx rx, .frontEnd (frontEnd e.2 df (direction e.1 e.2 s).peerCal (withPort p comp tx rx s))] eff t) s

/-- POWER_LIMIT_SET for a port: a calibration is refused with its record while House Rules are locked (R226, R259, R261); a change waits for a gain epoch
of every direction on the port, and takes effect at once where there is none (R271). -/
def limitPort (r : Running) (s : State) : Ans × State :=
  let x := r.desc
  let p := Fin.ofNat 8 (par x 1 1)
  let w := writerOf x.ring.val
  let old := portWanted p s
  if namesCalibration x && s.hr.locked then
    let tx := par x 6 2 != 0x7FFF
    (refuse (.rejectedState, 0x030B),
      gateRefused w 7 x.opcode.toNat p.val 0xFF (if tx then parInt x 6 2 else parInt x 8 2) (if tx then old.2.1 else old.2.2) 0 s)
  else
    let bound := s.hr.rules.pCompMax[p]
    let clamped := par x 4 2 != 0x7FFF && decide (bound < parInt x 4 2)
    let comp : Option Int := if par x 4 2 = 0x7FFF then none else some (min (parInt x 4 2) bound)
    let tx := keepLevel (par x 6 2) old.2.1
    let rx := keepLevel (par x 8 2) old.2.2
    let s1 := if clamped then gateClamped w 3 x.opcode.toNat p.val 0xFF (parInt x 4 2) bound bound s else s
    let s2 := withPort p (some (comp.getD old.1)) tx rx s1
    let res := result [(0, 2, compLimit p s2), (2, 2, satInt 16 (compEff p s2))]
    let n := (dirsOnPort p s1).length
    if n = 0 ∨ (comp.getD old.1, tx, rx) = old then (doneClamped clamped 0 res, if n = 0 then withPort p comp tx rx s1 else s1)
    else (awaitEpochs r ((List.range n).map (· + s1.tickets)) clamped res, requestPort p comp tx rx (effOf x) s1)

/-- POWER_LIMIT_SET past its checks. -/
def effectPowerLimitSet (r : Running) (s : State) : Ans × State :=
  if par r.desc 0 1 = 0 then limitDirection r s else limitPort r s

/-- POWER_LIMIT_SET (R271). -/
def opPowerLimitSet (r : Running) (s : State) : Ans × State := guarded checkPowerLimitSet effectPowerLimitSet r s

/-! ## UL_COUPLING_SET (R272), SQUELCH_CONFIGURE (R273) -/

/-- The UL direction of a channel must exist: NOT_UL otherwise (R272). -/
def needUl (n : Nat) (s : State) : List (Option Reject) :=
  [noChannel n s, refuseIf (!(chan (chanOf n) s).defn.enables .ul) (badState 0x0309)]

/-- Coupling parameters of a command over those before (R272). -/
def couplingOfDesc (x : Desc) (old : CouplingParams) : CouplingParams :=
  { enable := par x 1 1 == 1, refChannel := if par x 2 1 = 0xFF then none else some (chanOf (par x 2 1)),
    icpt := keepLevel (par x 4 2) old.icpt, slope := par x 6 2, knee := keepLevel (par x 8 2) old.knee,
    delta := if par x 10 2 = 0x7FFF then none else some (parInt x 10 2) }

/-- Checks of UL_COUPLING_SET. -/
def checkUlCouplingSet (r : Running) (s : State) : Option Reject :=
  let x := r.desc
  firstOf ([common true [(0, 3), (4, 8)] .none x] ++ needUl (par x 0 1) s ++ [
    refuseIf (decide (1 < par x 1 1)) (badParam detBadField),
    refuseIf (badLevel 0 11000 (par x 4 2) || badRange 25 400 (par x 6 2) || badLevel (-12000) (-2000) (par x 8 2) ||
      badLevel (-3000) 3000 (par x 10 2) || (decide (63 < par x 2 1) && par x 2 1 != 0xFF)) (badParam 0x0303)])

/-- UL_COUPLING_SET past its checks. -/
def effectUlCouplingSet (r : Running) (s : State) : Ans × State :=
  let x := r.desc
  let c := chanOf (par x 0 1)
  (awaitEpochs r [s.tickets] false 0,
    requestChange c .ul .gain [.coupling (couplingOfDesc x (couplingWanted (direction c .ul s)))] (effOf x) s)

/-- UL_COUPLING_SET (R272). -/
def opUlCouplingSet (r : Running) (s : State) : Ans × State := guarded checkUlCouplingSet effectUlCouplingSet r s

/-- Checks of SQUELCH_CONFIGURE. -/
def checkSquelchConfigure (r : Running) (s : State) : Option Reject :=
  let x := r.desc
  firstOf ([common true [(0, 10)] .none x] ++ needUl (par x 0 1) s ++ [
    refuseIf (decide (1 < par x 1 1)) (badParam detBadField),
    refuseIf (badLevel 0 2000 (par x 2 2) || badLevel 100 2000 (par x 4 2) || badRange 1 10000 (par x 6 2) ||
      badRange 10 2000 (par x 8 2)) (badParam 0x0304)])

/-- Squelch parameters of a command over those before. -/
def squelchOf (x : Desc) (old : SquelchParams) : SquelchParams :=
  { enable := par x 1 1 == 1, depth := keepLevel (par x 2 2) old.depth, margin := keepLevel (par x 4 2) old.margin, hang := par x 6 2,
    descent := par x 8 2 }

/-- SQUELCH_CONFIGURE past its checks. -/
def effectSquelchConfigure (r : Running) (s : State) : Ans × State :=
  let x := r.desc
  let c := chanOf (par x 0 1)
  (awaitEpochs r [s.tickets] false 0, requestChange c .ul .gain [.squelch (squelchOf x (squelchWanted (direction c .ul s)))] (effOf x) s)

/-- SQUELCH_CONFIGURE (R273). -/
def opSquelchConfigure (r : Running) (s : State) : Ans × State := guarded checkSquelchConfigure effectSquelchConfigure r s

/-! ## DONOR_LOSS_CONFIGURE (R274), THRESHOLD_CONFIGURE (R275) -/

/-- Checks of DONOR_LOSS_CONFIGURE. A parameter out of range has no detail of its own (R714); the level is a threshold (R268). -/
def checkDonorLossConfigure (r : Running) (s : State) : Option Reject :=
  let x := r.desc
  firstOf ([common false [(0, 8)] .none x] ++ (if par x 0 1 = 0xFF then [] else needUl (par x 0 1) s) ++ [
    refuseIf (decide (1 < par x 1 1)) (badParam detBadField),
    refuseIf (badRange 20 200 (par x 2 2) || badRange 100 10000 (par x 4 2)) (badParam detBadField),
    refuseIf (badLevel 300 2000 (par x 6 2)) (badParam 0x0305)])

/-- The UL directions DONOR_LOSS_CONFIGURE names: one, or all. -/
def donorLossTargets (x : Desc) (s : State) : List (Fin 64) :=
  if par x 0 1 = 0xFF then (List.finRange 64).filter (fun c => dirLive c .ul s) else [chanOf (par x 0 1)]

/-- DONOR_LOSS_CONFIGURE past its checks; a request to disable a mandatory rule is forced on (R251, R259). A range of 20-200 ms already
bounds absent_ms. -/
def effectDonorLossConfigure (r : Running) (s : State) : Ans × State :=
  let x := r.desc
  let forced := par x 1 1 == 0 && s.hr.rules.donorMandatory
  let s := if forced then
      gateClamped (writerOf x.ring.val) 4 x.opcode.toNat (par x 0 1) 1 0 (min 200 (par x 2 2)) 200 s else s
  (doneClamped forced 0x0306 0, (donorLossTargets x s).foldl (fun s c => modGain c .ul (fun g => { g with
    lossEnable := par x 1 1 == 1 || forced, lossAbsentMs := par x 2 2, lossReturnMs := par x 4 2,
    donorMargin := keepLevel (par x 6 2) g.donorMargin }) s) s)

/-- DONOR_LOSS_CONFIGURE (R274). -/
def opDonorLossConfigure (r : Running) (s : State) : Ans × State := guarded checkDonorLossConfigure effectDonorLossConfigure r s

/-- thr_min, thr_max, percentile and rise_max of a command over those before. -/
def floorOf (x : Desc) (g : GainState) : Int × Int × Nat × Int :=
  (keepLevel (par x 4 2) g.thrMin, keepLevel (par x 6 2) g.thrMax, par x 8 1, keepLevel (par x 10 2) g.riseMax)

/-- Checks of THRESHOLD_CONFIGURE. -/
def checkThresholdConfigure (r : Running) (s : State) : Option Reject :=
  let x := r.desc
  if par x 0 1 = 0 then
    let f := floorOf x (direction (chanOf (par x 1 1)) (dirOf (par x 2 1)) s).gain
    firstOf ([common false [(0, 3), (4, 5), (10, 2)] .none x] ++ dirChecks (par x 1 1) (par x 2 1) s ++ [
      refuseIf (outside (-12000) (-2000) f.1 || outside (-12000) (-2000) f.2.1 || decide (f.2.1 < f.1) || badRange 1 50 f.2.2.1 ||
        outside 10 300 f.2.2.2) (badParam 0x0305)])
  else
    firstOf [common false [(0, 1), (4, 9)] .none x, refuseIf (decide (1 < par x 0 1)) (badParam detBadField),
      refuseIf (badRange 10 1000 (par x 4 2) || badRange 1 3600 (par x 6 2) || badRange 0 15 (par x 8 1) || badRange 1 16 (par x 9 1) ||
        badRange 0 3600 (par x 10 2) || badRange 1 8 (par x 12 1)) (badParam 0x0305)]

/-- THRESHOLD_CONFIGURE past its checks: it waits for the next 100 ms update. -/
def effectThresholdConfigure (r : Running) (s : State) : Ans × State :=
  let x := r.desc
  (doneWith 0,
    if par x 0 1 = 0 then
      modGain (chanOf (par x 1 1)) (dirOf (par x 2 1)) (fun g => { g with floorNext := some (floorOf x g) }) s
    else
      let p : LadderParams :=
        { overpowerMs := par x 4 2, overRetryS := par x 6 2, overRetryLimit := par x 8 1, portMuteLimit := par x 9 1,
          portRetryS := par x 10 2, deviceStopPorts := par x 12 1 }
      { s with ladderNext := some p })

/-- THRESHOLD_CONFIGURE (R275). -/
def opThresholdConfigure (r : Running) (s : State) : Ans × State := guarded checkThresholdConfigure effectThresholdConfigure r s

/-! ## PROTECTION_STATUS (R276) -/

/-- Reductions in force on a direction: its own and those of its transmit ports (R254, R276, log entry 60). -/
def reductionsOf (c : Fin 64) (d : Dir) (s : State) : Nat :=
  ((dirDef c d s).txPorts d).foldl (fun a p => a ||| (port p s).reducing.toNat) (direction c d s).gain.reducing.toNat

/-- Reasons of PROTECTION_STATUS: mutes and reductions of a direction, codes 1 to 16. -/
def reasonsField (c : Fin 64) (d : Dir) (s : State) : Nat := ((direction c d s).gain.reasons.toNat ||| reductionsOf c d s) % 65536

/-- Largest A_comp over a direction's transmit ports, in LSB. -/
def largestComp (c : Fin 64) (d : Dir) (s : State) : Int :=
  ((dirDef c d s).txPorts d).foldl (fun a p => max a (port p s).aComp) 0

/-- Half of a value in LSB of 0.005 dB: 0.01 dB, half up. -/
def lsbToDb (v : Int) : Int := (v + 1) / 2

/-- Smallest of a list; 0 for none. -/
def leastOf (l : List Int) : Int :=
  match l with
  | [] => 0
  | a :: as => as.foldl min a

/-- The 28 bytes of a direction; zeros where it is not enabled. -/
def protectionDirection (c : Fin 64) (d : Dir) (s : State) : List Byte :=
  let x := direction c d s
  let g := x.gain
  let els := maskPorts (dirDef c d s).rx
  if !(chan c s).defn.enables d then List.replicate 28 0
  else payload 28 [(0, 1, if g.reasons ≠ 0 then 2 else if reductionsOf c d s ≠ 0 then 1 else 0), (2, 2, reasonsField c d s), (4, 2, g.gt),
    (6, 2, satInt 16 g.appliedTick), (8, 2, lsbToDb g.aAlc), (10, 2, lsbToDb (largestComp c d s)),
    (12, 2, if d = .dl then 0x7FFF else satInt 16 g.u), (14, 2, if d = .dl then 0 else g.aSq),
    (16, 2, satInt 16 ((maskPorts (dirDef c d s).tx).foldl (fun a j => max a g.pOut[j]) (-32768))),
    (18, 2, if d = .dl then 0 else satInt 16 g.pDonor),
    (20, 2, if d = .ul then g.floor[0] else leastOf (els.map (fun i => g.floor[i]))),
    (22, 2, if d = .ul then thresholdActive g
      else leastOf (els.map (fun i => thresholdDonor g i (direction c .ul s).gain.donorMargin))),
    (24, 2, satInt 16 g.f), (26, 2, g.boundCount.toNat)]

/-- The 20 bytes of a port. -/
def protectionPort (p : Fin 8) (s : State) : List Byte :=
  let x := port p s
  payload 20 [(0, 1, if portStopped x then 2 else if x.reducing ≠ 0 then 1 else 0),
    (1, 1, if x.stops ≠ 0 then lowestReason x.stops else x.deviceStop), (2, 2, compLimit p s), (4, 2, satInt 16 (compEff p s)),
    (6, 2, satInt 16 x.pComp), (8, 2, lsbToDb x.aComp), (10, 2, x.c), (12, 2, x.dTh), (14, 2, x.pCalTx), (16, 2, x.pCalRx),
    (18, 1, min 255 (recentMutes s x).length)]

/-- Checks of PROTECTION_STATUS. -/
def checkProtectionStatus (r : Running) (s : State) : Option Reject :=
  let x := r.desc
  firstOf [common false [(0, 2)] (.exactly 64) x, refuseIf (decide (1 < par x 0 1)) (badParam detBadField),
    if par x 0 1 = 0 then noChannel (par x 1 1) s else refuseIf (decide (7 < par x 1 1)) (badParam 0x030A)]

/-- PROTECTION_STATUS past its checks. -/
def effectProtectionStatus (r : Running) (s : State) : Ans × State :=
  let x := r.desc
  let body := if par x 0 1 = 0 then
      protectionDirection (chanOf (par x 1 1)) .dl s ++ protectionDirection (chanOf (par x 1 1)) .ul s ++ List.replicate 4 0
    else protectionPort (Fin.ofNat 8 (par x 1 1)) s ++ List.replicate 40 0
  (doneData 0 (body ++ leBytes 4 (frameCount s).toNat), s)

/-- PROTECTION_STATUS (R276). -/
def opProtectionStatus (r : Running) (s : State) : Ans × State := guarded checkProtectionStatus effectProtectionStatus r s

/-! ## PROTECTION_RELEASE (R277) -/

/-- Reasons a mask of PROTECTION_RELEASE names for a direction, less OSC_LOCKOUT. -/
def releasedReasons (mask : Nat) : List Nat :=
  [(1, reasonOverLatched), (2, reasonImplausible), (3, reasonOutputGate), (4, reasonFault)].filterMap (fun e =>
    if mask.testBit e.1 then some e.2 else none)

/-- Reasons of a port stop that a command can release: those that do not end by themselves (R254, R277). -/
def releasableStops : List Nat := [reasonFault, reasonCompositeOver, reasonMuteCount, reasonOutputGate, reasonThermal]

/-- The direction's band lies outside every House Rules range: the trigger of R262. -/
def bandRefused (c : Fin 64) (d : Dir) (s : State) : Bool :=
  !bandAllowed s.hr.rules d (dirDef c d s).centre (occupied (chan c s).defn.cls)

/-- Reasons of the command that are in force on its object. -/
def namedInForce (x : Desc) (s : State) : List Nat :=
  if par x 0 1 = 0 then
    (releasedReasons (par x 4 2)).filter (fun r => hasReason (direction (chanOf (par x 1 1)) (dirOf (par x 2 1)) s).gain.reasons r)
  else if (par x 4 2).testBit 8 then releasableStops.filter (fun r => hasReason (port (Fin.ofNat 8 (par x 1 1)) s).stops r)
  else []

/-- OSC_LOCKOUT is named and in force. -/
def lockoutNamed (x : Desc) (s : State) : Bool :=
  let m := (direction (chanOf (par x 1 1)) (dirOf (par x 2 1)) s).stab
  par x 0 1 == 0 && (par x 4 2).testBit 0 && m.state == .muted && m.reason == .oscLockout

/-- A named reason's trigger still holds: a band that House Rules refuse (R262), a thermal stop, a MUTE_COUNT whose count stands (log
entry 22). -/
def conditionPresent (x : Desc) (s : State) : Bool :=
  let named := namedInForce x s
  if par x 0 1 = 0 then named.contains reasonFault && bandRefused (chanOf (par x 1 1)) (dirOf (par x 2 1)) s
  else named.contains reasonThermal ||
    (named.contains reasonMuteCount && decide (s.ladder.portMuteLimit ≤ (recentMutes s (port (Fin.ofNat 8 (par x 1 1)) s)).length))

/-- Checks of PROTECTION_RELEASE. -/
def checkProtectionRelease (r : Running) (s : State) : Option Reject :=
  let x := r.desc
  firstOf ([common false (if par x 0 1 = 0 then [(0, 3), (4, 2)] else [(0, 2), (4, 2)]) .none x,
    refuseIf (par x 4 2 &&& 0xFEE0 != 0) (badParam detReserved), refuseIf (decide (1 < par x 0 1)) (badParam detBadField)] ++
    (if par x 0 1 = 0 then dirChecks (par x 1 1) (par x 2 1) s else [refuseIf (decide (7 < par x 1 1)) (badParam 0x030A)]) ++ [
    refuseIf ((namedInForce x s).isEmpty && !lockoutNamed x s) (badState 0x0307),
    refuseIf (conditionPresent x s) (badState 0x0308)])

/-- An object is no longer held by any source (R509). -/
def dropHeld (obj : Half) (mute : Bool) (s : State) : State :=
  { s with faults := { s.faults with srcs := s.faults.srcs.map (fun f =>
      if mute then { f with heldMute := f.heldMute.filter (· != obj) } else { f with heldStop := f.heldStop.filter (· != obj) }) } }

/-- PROTECTION_RELEASE past its checks: the reasons end; OSC_LOCKOUT gives way to a start-up measurement (R203). -/
def beginProtectionRelease (r : Running) (s : State) : Ans × State :=
  let x := r.desc
  if par x 0 1 = 0 then
    let c := chanOf (par x 1 1)
    let d := dirOf (par x 2 1)
    let named := namedInForce x s
    let lock := lockoutNamed x s
    let s := named.foldl (fun s k => dropMute c d k {} s) s
    let s := if named.contains reasonFault then dropHeld (BitVec.ofNat 16 (dirObject c d)) true s else s
    let s := if named.contains reasonImplausible then
        modGain c d (fun g => { g with alcFrozen := false, implausibleTicks := 0, plausBad := 0, plausGood := 0 }) s else s
    let s := if lock then startMeasurement c d (-3000) 255 none
        (setStability c d { (direction c d s).stab with reason := .measure } s) else s
    (awaitState r 1 [], s)
  else
    let p := Fin.ofNat 8 (par x 1 1)
    let named := namedInForce x s
    let s := named.foldl (fun s k => releasePort p k {} s) s
    let s := if named.contains reasonFault then dropHeld (BitVec.ofNat 16 (object 2 p.val)) false s else s
    (awaitState r 1 [], s)

/-- The direction has left MUTED, or the port transmits again: the last step may run. -/
def protectionReleased (x : Desc) (s : State) : Bool :=
  if par x 0 1 = 0 then (direction (chanOf (par x 1 1)) (dirOf (par x 2 1)) s).stab.state != .muted
  else !portStopped (port (Fin.ofNat 8 (par x 1 1)) s)

/-- PROTECTION_RELEASE (R277). -/
def opProtectionRelease (r : Running) (s : State) : Ans × State :=
  if r.phase = 0 then guarded checkProtectionRelease beginProtectionRelease r s
  else if par r.desc 0 1 = 0 then
    match noChannel (par r.desc 1 1) s with
    | some e => (refuse e, s)
    | none => (doneWith (result [(0, 2, reasonsField (chanOf (par r.desc 1 1)) (dirOf (par r.desc 2 1)) s)]), s)
  else
    (doneWith (result [(0, 2, (((port (Fin.ofNat 8 (par r.desc 1 1)) s).stops.toNat % 65536 : Nat) : Int))]), s)

/-! ## The ALC tick (R232-R240) -/

/-- One ALC update, exact (R234): LSB of 0.005 dB. -/
def alcUpdate (p : AlcParams) (aAlc e : Int) : Int :=
  let acc := aAlc * 32768
  let acc := if 0 < e then acc + p.kAtt * e else acc + max (p.kRel * e) (-((p.relMax : Int) * 32768))
  clampInt 0 (2 * p.aMax) (satInt 16 (ashr (acc + 16384) 15))

/-- Ordinal of the block that the present instant falls in. -/
def tickOrdinal (c : Fin 64) (x : Direction) (s : State) : Nat := (basisNow s - x.baseCount) / countsPerBlock (chan c s).defn.cls

/-- A gain setting as the regulators see it (R223). -/
def GainState.ahead (g : GainState) : Setting → GainState
  | .gainTarget v => { g with gt := v }
  | .alc p => g.withAlc p
  | .powerLimit p o => { g with pChMax := p, ovs := o }
  | _ => g

/-- Gain settings at a tick: those in force, and those of an epoch that the tick's block carries, which GAIN adopts first (R223). -/
def tickGain (c : Fin 64) (d : Dir) (s : State) : GainState :=
  let x := direction c d s
  (x.gainLine.stamps.filterMap (adoptStamp (.gain, 0) (tickOrdinal c x s))).foldl (fun g v => v.2.foldl GainState.ahead g) x.gain

/-- Worst excess over the ALC target, Q15 dB (R234). -/
def alcExcess (d : Dir) (df : DirDef) (g : GainState) (pOut : Vector Int 4) (s : State) : Int :=
  match (maskPorts df.tx).map (fun j => 2 * (pOut[j] - (g.chLimit d j s - g.alc.headroom))) with
  | [] => 0
  | e :: es => satInt 16 (es.foldl max e)

/-- P_out of each transmit element over the preceding tick (R233). -/
def tapPower (d : Dir) (t : GainTap) (s : State) : Vector Int 4 :=
  Vector.ofFn (fun j : Fin 4 => levelDb t.output[j] t.samples + (port (txPort d j) s).pCalTx)

/-- The ALC loop of a direction at a tick (R233, R236, R240: a frozen loop ignores its measurement); a tick without a block that counts leaves it. -/
def alcLoop (c : Fin 64) (d : Dir) (s : State) : State :=
  let g := tickGain c d s
  let t := (direction c d s).gain.tap
  if t.samples = 0 then s
  else
    let pOut := tapPower d t s
    let a := if !g.alc.enable then 0 else if g.alcFrozen then g.alcHeld else alcUpdate g.alc g.aAlc (alcExcess d (dirDef c d s) g pOut s)
    modGain c d (fun g => { g with aAlc := a, appliedTick := t.applied.getD g.appliedTick, pOut := pOut }) s

/-- Noise floor of a direction: at the COMBINED point of an UL direction, the highest of a DL direction's receive ports (R252, log entry 170). -/
def dirFloor (d : Dir) (df : DirDef) (g : GainState) : Int :=
  if d = .ul then g.floor[0]
  else match (maskPorts df.rx).map (fun i => g.floor[i]) with
    | [] => 0
    | a :: as => as.foldl max a

/-- The synthesiser's meter against the COMBINED power and the mean applied_gain of the same blocks at an element; none where the check is skipped
(R239; log entry 170). -/
def meterDifference (d : Dir) (df : DirDef) (g : GainState) (j : Fin 4) : Option Int :=
  let m := g.synth
  let n := 64 * m.blocks[j]
  let input := levelDb m.input[j] n
  if m.blocks[j] = 0 ∨ input < dirFloor d df g + 1000 then none
  else some (levelDb m.output[j] n - (input + roundDiv m.applied[j] m.blocks[j] - g.f))

/-- The largest difference over the transmit elements, by its size. -/
def worstDifference (l : List Int) : Option Int :=
  l.foldl (fun a v => match a with
    | none => some v
    | some w => if w.natAbs < v.natAbs then some v else some w) none

/-- The freeze of R240: the attenuation in force and 6.00 dB. -/
def GainState.freezeAlc (g : GainState) : GainState :=
  let v := satInt 16 (g.aAlc + 1200)
  { g with alcFrozen := true, alcHeld := v, aAlc := if g.alc.enable then v else 0, implausibleTicks := 0 }

/-- Supervision of a direction's gain loop at a tick (R239, R240): GAIN_PLAUSIBILITY and the freeze at 6.00 dB more, its end after
plaus_ticks passes, the time of a disagreement that goes on. -/
def alcSupervise (c : Fin 64) (d : Dir) (s : State) : State :=
  let df := dirDef c d s
  let g := (direction c d s).gain
  let s := modGain c d (fun g => { g with implausibleTicks := if g.alcFrozen then g.implausibleTicks + 1 else 0 }) s
  match worstDifference ((maskPorts df.tx).filterMap (fun j => meterDifference d df g j)) with
  | none => s
  | some v =>
    let s := modGain c d (fun g => { g with meterDiff := v }) s
    if g.alc.plausTol < v ∨ v < -g.alc.plausTol then
      let n := g.plausBad + 1
      let s := modGain c d (fun g => { g with plausBad := n, plausGood := 0 }) s
      if g.alc.plausTicks ≤ n ∧ !g.alcFrozen then raise 69 (dirObject c d) 0 (modGain c d GainState.freezeAlc s) else s
    else
      let n := g.plausGood + 1
      modGain c d (fun g => { g with plausBad := 0, plausGood := n, implausibleTicks := 0,
                                     alcFrozen := g.alcFrozen && decide (n < g.alc.plausTicks) }) s

/-- ALC of a direction as a reduction (R254 step 1). -/
def alcReductions (c : Fin 64) (d : Dir) (s : State) : State :=
  let x := direction c d s
  let s := dirReduction c d reasonAlc (decide (0 < x.gain.aAlc))
    { measured := (maskPorts (dirDef c d s).tx).foldl (fun a j => max a x.gain.pOut[j]) (-16384),
      limit := smallestLimit d (dirDef c d s) x.gain.pChMax s - x.gain.alc.headroom, resulting := lsbToDb x.gain.aAlc } s
  if d = .ul then
    dirReduction c d reasonCouplingCeil (decide (x.gain.u < min x.stab.s (tickGain c d s).gt))
      { measured := x.gain.pDonor, limit := x.gain.gt, resulting := x.gain.u } s
  else s

/-- One update of the composite regulator, LSB of 0.005 dB (R238). -/
def compUpdate (a e : Int) : Int := clampInt 0 12000 (if 0 < e then a + e else a - min (-e) 1)

/-- P_comp of a port over the preceding tick, after the peak limiter (R238). -/
def compPower (p : Fin 8) (s : State) : Int := levelDb (port p s).compEnergy (port p s).compSamples + (port p s).pCalTx

/-- The stop for SUPPLY (R230): a transmit-enabled port whose c_j is 0 is stopped; the stop ends once there is capacity. -/
def supplyStop (p : Fin 8) (s : State) : State :=
  let x := port p s
  if 0 < x.cap.1 then releasePort p reasonSupply {} s
  else if s.radio.tx[p].enabled then stopPort p reasonSupply { measured := compPower p s, resulting := lsbToDb x.aComp } s
  else s

/-- The composite regulator of a port at a tick (R238, R405): a frozen one keeps its attenuation, as does one without capacity. -/
def compLoop (p : Fin 8) (s : State) : State :=
  let s := supplyStop p s
  let x := port p s
  let v := compPower p s
  let above := decide (compEff p s + 100 < v) && decide (0 < x.cap.1)
  let a := if x.compFrozen || x.cap.1 == 0 then x.aComp else compUpdate x.aComp (satInt 16 (2 * (v - compEff p s)))
  modPort p (fun x => { x with aComp := a, pComp := v, pCompPeakOver := if above then x.pCompPeakOver + 1 else 0 }) s

/-- What the synthesiser's meters of the directions on a port make together, in 2^-64 of 0 dBFS (R405). -/
def metersTogether (p : Fin 8) (s : State) : Nat :=
  ((transmitters p s).map (fun e =>
    let m := (direction e.1 e.2 s).gain.synth
    let j : Fin 4 := Fin.ofNat 4 p.val
    m.output[j] * 2 ^ 34 / max 1 (64 * m.blocks[j]))).sum

/-- P_comp against the meters less the peak limiter's mean reduction; none where a direction's signal is kept off the port, or there is none (R405; log
entry 170). -/
def compDifference (p : Fin 8) (s : State) : Option Int :=
  let x := port p s
  let t := metersTogether p s
  let shut := (transmitters p s).any (fun e => elementShut e.1 e.2 (Fin.ofNat 4 p.val) s)
  if shut || t == 0 || x.compEnergy == 0 || x.compGain == 0 then none
  else some (levelDb x.compEnergy x.compSamples - (ratioDb t (2 ^ 64) + ratioDb (x.compGain ^ 2) ((x.compSamples * limiterOne) ^ 2)))

/-- Supervision of a composite regulator (R405): as R240, with the port as object, a tolerance of 1.00 dB over 8 checked ticks. -/
def compSupervise (p : Fin 8) (s : State) : State :=
  let x := port p s
  match compDifference p s with
  | none => s
  | some v =>
    if 100 < v ∨ v < -100 then
      let n := x.compBad + 1
      let s := modPort p (fun v => { v with compBad := n, compGood := 0 }) s
      if n = 8 ∧ !x.compFrozen then
        raise 69 (object 2 p.val) 0 (modPort p (fun v => { v with compFrozen := true, aComp := satInt 16 (v.aComp + 1200) }) s)
      else s
    else
      modPort p (fun v => { v with compBad := 0, compGood := x.compGood + 1, compFrozen := v.compFrozen && decide (x.compGood + 1 < 8) }) s

/-- Reductions of a port (R254 step 1): COMPOSITE, SUPPLY, THERMAL. -/
def portReductions (p : Fin 8) (s : State) : State :=
  let x := port p s
  let s := portReduction p reasonSupply (decide (x.cap.1 < x.cap.2))
    { measured := satInt 16 (ratioDb x.cap.1 x.cap.2), limit := satInt 16 (compEff p s), resulting := lsbToDb x.aComp } s
  let s := portReduction p reasonThermal (decide (0 < x.dTh))
    { measured := x.dTh, limit := satInt 16 (compEff p s), resulting := lsbToDb x.aComp } s
  portReduction p reasonComposite (decide (0 < x.aComp)) { measured := x.pComp, limit := satInt 16 (compEff p s), resulting := lsbToDb x.aComp } s

/-- The meters begin the next tick. -/
def clearTaps (s : State) : State :=
  let s := (liveDirs s).foldl (fun s e => modGain e.1 e.2 (fun g => { g with tap := GainTap.reset, synth := SynthMeter.reset }) s) s
  { s with ports := s.ports.map (fun x => { x with compEnergy := 0, compSamples := 0, compGain := 0 }) }

/-- The work of an ALC tick. -/
def alcTick (s : State) : State :=
  let live := (liveDirs s).filter (fun e => onTransmitDevice (dirDef e.1 e.2 s) s)
  let s := live.foldl (fun s e => alcReductions e.1 e.2 (alcSupervise e.1 e.2 (alcLoop e.1 e.2 s))) s
  clearTaps ((List.finRange 8).foldl (fun s p => portReductions p (compSupervise p (compLoop p s))) s)

/-- Instant of the next tick of a period after the last one: the present instant where it is a multiple that has not ticked yet (R232). -/
def tickInstant (period last now : Nat) : Nat := if now % period = 0 ∧ last < now then now else (now / period + 1) * period

/-- ALC_TICK (R232, R234): time moves on to the tick's multiple of 3840 counts, the n-th (log entry 187). -/
def execAlcTick (n : Nat) (s : State) : Host.Outcome State Fault Refusal :=
  let t := tickInstant 3840 s.alcAt s.now
  .next (if !s.sys.coreUp || 3840 * n != t then s else alcTick (takeCapacity { advanceTo t s with alcAt := t }))

/-- IMPLAUSIBLE_MUTE (R240): the disagreement has gone on for a further 100 ms (800 ALC ticks). -/
def execImplausibleMute (c : Fin 64) (d : Dir) (s : State) : Host.Outcome State Fault Refusal :=
  let g := (direction c d s).gain
  .next (if dirLive c d s && g.alcFrozen && decide (800 ≤ g.implausibleTicks) then
      addMute c d reasonImplausible { source := 69, measured := g.meterDiff, limit := g.alc.plausTol, resulting := lsbToDb g.aAlc } s
    else s)

/-! ## Uplink rules (R241-R251) -/

/-- Reference channel of an UL direction (R241). -/
def refChannel (c : Fin 64) (s : State) : Fin 64 := (direction c .ul s).gain.coupling.refChannel.getD c

/-- A receive port's stream is held muted: its group is not ALIGNED (R127), or its LO is out of lock (R345). Group g holds ports Dg and Sg
(R123). -/
def rxMuted (p : Fin 8) (s : State) : Bool := nth s.links.rxGroups (p.val % 4) .down != .aligned || loOut (rxLo p s) s

/-- The reference channel has no enabled DL, or its DL receive ports are all muted (R244). -/
def donorUnseen (c : Fin 64) (s : State) : Bool :=
  let k := refChannel c s
  !dirLive k .dl s || ((dirDef k .dl s).rxPorts .dl).all (fun p => rxMuted p s)

/-- icpt - slope × max(0, P_donor - knee), to the nearest 0.01 dB (R242). -/
def couplingFormula (icpt slope knee pDonor : Int) : Int := icpt - roundDiv (slope * max 0 (pDonor - knee)) 100

/-- The ceiling that R242 gives for a donor level. -/
def ceilingU (c : Fin 64) (pDonor : Int) (gDl : Option Int) (s : State) : Int :=
  let h := s.hr.rules
  let p := (direction c .ul s).gain.coupling
  let u := couplingFormula h.uIcpt h.uSlope h.uKnee pDonor
  let u := if p.enable then min u (couplingFormula p.icpt p.slope p.knee pDonor) else u
  match p.delta, gDl with
  | some v, some g => min u (g + v)
  | _, _ => u

/-- The newest bins that together reach a number of samples. -/
def binsWithin (n : Nat) : List (Nat × Nat) → List (Nat × Nat)
  | [] => []
  | v :: rest => if n ≤ v.2 then [v] else v :: binsWithin (n - v.2) rest

/-- Samples of 100 ms of a class. -/
def donorSpan (cls : Nat) : Nat := 768000 * 2 ^ cls

/-- Mean power of a DL receive element's CANCELLED blocks over the last 100 ms of DL slots, in 0.01 dBFS (R241). -/
def donorLevel (k : Fin 64) (s : State) (i : Fin 4) : Int :=
  let l := binsWithin (donorSpan (chan k s).defn.cls) (direction k .dl s).gain.donorBins[i]
  levelDb ((l.map (·.1)).sum) ((l.map (·.2)).sum)

/-- P_donor in 0.01 dBm: the largest over the reference channel's DL receive ports (R241); -20.00 dBm where it is not seen (R244). -/
def donorPower (c : Fin 64) (s : State) : Int :=
  let k := refChannel c s
  if donorUnseen c s then -2000
  else match (maskPorts (dirDef k .dl s).rx).map (fun i => donorLevel k s i + (port (rxPort .dl i) s).pCalRx) with
    | [] => -2000
    | a :: as => as.foldl max a

/-- The donor is present: a DL receive port of the reference channel is at or above its threshold (R249). -/
def donorSeen (c : Fin 64) (s : State) : Bool :=
  let k := refChannel c s
  let g := (direction k .dl s).gain
  dirLive k .dl s && (maskPorts (dirDef k .dl s).rx).any (fun i =>
    decide (thresholdDonor g i (direction c .ul s).gain.donorMargin ≤ donorLevel k s i))

/-- The donor threshold of a reference channel's DL at the connectors, in 0.01 dBm: its lowest. -/
def donorLimit (c : Fin 64) (s : State) : Int :=
  let k := refChannel c s
  leastOf ((maskPorts (dirDef k .dl s).rx).map (fun i =>
    thresholdDonor (direction k .dl s).gain i (direction c .ul s).gain.donorMargin + (port (rxPort .dl i) s).pCalRx))

/-- G_DL: the mean applied gain of a DL at its highest-gain transmit port since the last update (R242); none while it applies none. -/
def meanApplied (df : DirDef) (g : GainState) : Option Int :=
  if g.appliedBlocks = 0 then none
  else match (maskPorts df.tx).map (fun j => roundDiv g.appliedSum[j] g.appliedBlocks) with
    | [] => none
    | a :: as => some (as.foldl max a)

/-- Milliseconds of a run of 10 ms updates on which a condition held, from its first. -/
def runMs (holds : Bool) (old : Option Nat) : Option Nat := if holds then some (old.elim 0 (· + 10)) else none

/-- The ceiling, the coupling mute and the presence counts of one UL direction at a 10 ms update (R242-R245, R249, R250);
the absence does not count while ACT is high (R358). -/
def donorUpdate (c : Fin 64) (s : State) : State :=
  if !dirLive c .ul s then s
  else
    let k := refChannel c s
    let level := donorPower c s
    let seen := donorSeen c s
    let gDl := if dirLive k .dl s then meanApplied (dirDef k .dl s) (direction k .dl s).gain else none
    let u := ceilingU c level gDl s
    let act := (maskPorts (dirDef k .dl s).rx).any (fun i => actProtects k .dl (rxPort .dl i) s)
    let s := modGain c .ul (fun g =>
      let now := if u ≤ g.u then u else min u (g.u + 10)
      let absent := if act && !seen then g.donorAbsent else runMs (!seen) g.donorAbsent
      { g with pDonor := level, u := now, couplingOk := runMs (decide (100 ≤ now)) g.couplingOk, donorAbsent := absent,
               donorPresent := runMs seen g.donorPresent,
               donorLossDue := if g.lossEnable && absent.any (fun t => decide (g.lossAbsentMs ≤ t)) then some s.slowTicks else none }) s
    let g := (direction c .ul s).gain
    let s := if g.u < 0 then addMute c .ul reasonCoupling { measured := g.pDonor, limit := 0, resulting := g.u } s else s
    if g.lossEnable then s else dropMute c .ul reasonDonorLoss { measured := g.pDonor, limit := donorLimit c s } s

/-- The meters of the 10 ms updates begin the next one. -/
def nextDonorBins (s : State) (e : Fin 64 × Dir) : State :=
  let n := donorSpan (chan e.1 s).defn.cls
  modGain e.1 e.2 (fun g => { g with appliedSum := Vector.replicate 4 0, appliedBlocks := 0,
                                     donorBins := g.donorBins.map (fun l => (0, 0) :: binsWithin n l) }) s

/-- DONOR_UPDATE (R241, R242): every 10 ms, every UL direction; the n-th is that of slow tick 10 n (log entry 187). -/
def execDonorUpdate (n : Nat) (s : State) : Host.Outcome State Fault Refusal :=
  .next (if 10 * n ≠ s.slowTicks then s
    else (liveDirs s).foldl nextDonorBins ((List.finRange 64).foldl (fun s c => donorUpdate c s) s))

/-- COUPLING_RELEASE (R245): U has been at 1.00 dB or above for 1 s. -/
def execCouplingRelease (c : Fin 64) (s : State) : Host.Outcome State Fault Refusal :=
  let g := (direction c .ul s).gain
  .next (if dirLive c .ul s && g.couplingOk.any (fun t => decide (1000 ≤ t)) then
      dropMute c .ul reasonCoupling { measured := g.pDonor, limit := 100, resulting := g.u } s else s)

/-- DONOR_LOSS_MUTE (R250): absent at every update for absent_ms, from the slow tick after the update. -/
def execDonorLossMute (c : Fin 64) (s : State) : Host.Outcome State Fault Refusal :=
  let g := (direction c .ul s).gain
  .next (if dirLive c .ul s && g.donorLossDue.any (fun t => decide (t < s.slowTicks)) then
      addMute c .ul reasonDonorLoss { measured := g.pDonor, limit := donorLimit c s } (modGain c .ul (fun g => { g with donorPresent := none }) s)
    else s)

/-- DONOR_RETURN (R250): present at every update for return_ms. -/
def execDonorReturn (c : Fin 64) (s : State) : Host.Outcome State Fault Refusal :=
  let g := (direction c .ul s).gain
  .next (if dirLive c .ul s && g.donorPresent.any (fun t => decide (g.lossReturnMs ≤ t)) then
      dropMute c .ul reasonDonorLoss { measured := g.pDonor, limit := donorLimit c s } s else s)

/-! ## Thresholds and squelch (R246-R253) -/

/-- A waiting THRESHOLD_CONFIGURE takes effect (R275). -/
def takeThresholds (s : State) : State :=
  let s := (liveDirs s).foldl (fun s e => modGain e.1 e.2 (fun g => match g.floorNext with
    | some (lo, hi, n, r) => { g with thrMin := lo, thrMax := hi, percentile := n, riseMax := r, floorNext := none }
    | none => g) s) s
  match s.ladderNext with
  | some p => { s with ladder := p, ladderNext := none }
  | none => s

/-- N_f after an update: fewer than 64 qualifying blocks keep it, a fall is taken at once, a rise by no more than rise_max (R252,
R253). -/
def floorAfter (riseMax old percentile : Int) (qualifying : Nat) : Int :=
  if qualifying < 64 then old else if percentile < old then percentile else min percentile (old + riseMax)

/-- Block powers with their number, n further blocks put in their place (R252). -/
def tally (n : Nat) (v : Int) : List (Int × Nat) → List (Int × Nat)
  | [] => [(v, n)]
  | e :: rest => if v < e.1 then (v, n) :: e :: rest else if v = e.1 then (v, e.2 + n) :: rest else e :: tally n v rest

/-- Two tallies together. -/
def mergeTally (a b : List (Int × Nat)) : List (Int × Nat) := b.foldl (fun l e => tally e.2 e.1 l) a

/-- The power that a number of blocks do not exceed. -/
def tallyAt : Nat → List (Int × Nat) → Int
  | _, [] => 0
  | n, e :: rest => if n ≤ e.2 then e.1 else tallyAt (n - e.2) rest

/-- Threshold of a point of the noise floor (R252, R253): T_act of an UL direction, T_donor of a DL receive element. -/
def floorThreshold (c : Fin 64) (d : Dir) (k : Fin 4) (s : State) : Int :=
  let g := (direction c d s).gain
  if d = .ul then thresholdActive g else thresholdDonor g k (direction c .ul s).gain.donorMargin

/-- N_f of a point at an update: the percentile of the block powers of the last 1 s below the threshold (R252, R253; log entry 171). -/
def nextFloor (g : GainState) (k : Fin 4) (limit : Int) : Int :=
  let l := ((g.floorBins[k].take 10).foldl mergeTally []).filter (fun e => decide (e.1 < limit))
  let n := (l.map (·.2)).sum
  floorAfter g.riseMax g.floor[k] (tallyAt (ceilDiv (g.percentile * n) 100) l) n

/-- Points of a direction's noise floor: its COMBINED point, or its DL receive elements (R252). -/
def floorPoints (d : Dir) (df : DirDef) : List (Fin 4) := if d = .ul then [0] else maskPorts df.rx

/-- The update of one direction's floors; the tallies begin the next 100 ms. -/
def floorUpdate (s : State) (e : Fin 64 × Dir) : State :=
  let df := dirDef e.1 e.2 s
  let s := (floorPoints e.2 df).foldl (fun s k =>
    let v := nextFloor (direction e.1 e.2 s).gain k (floorThreshold e.1 e.2 k s)
    modGain e.1 e.2 (fun g => { g with floor := g.floor.set k v }) s) s
  modGain e.1 e.2 (fun g => { g with floorBins := g.floorBins.map (fun l => [] :: l.take 9) }) s

/-- FLOOR_UPDATE (R252, R275): every 100 ms; the n-th is that of slow tick 100 n (log entry 187). -/
def execFloorUpdate (n : Nat) (s : State) : Host.Outcome State Fault Refusal :=
  .next (if 100 * n ≠ s.slowTicks then s
    else
      let s := takeThresholds s
      ((liveDirs s).filter (fun e => onReceiveDevice (dirDef e.1 e.2 s) s)).foldl floorUpdate s)

/-- Counts that an idle run has lasted (R247). -/
def idleFor (g : GainState) (s : State) : Nat := g.idle.elim 0 (fun t => (BitVec.ofNat 32 (basisNow s) - t).toNat)

/-- SQUELCH_HANG_EXPIRY (R247): the idle run has lasted hang: the attenuation starts to rise. -/
def execSquelchHangExpiry (c : Fin 64) (s : State) : Host.Outcome State Fault Refusal :=
  let g := (direction c .ul s).gain
  .next (if dirLive c .ul s && g.squelch.enable && g.idle.isSome && decide (g.squelch.hang * countsPerSlowTick ≤ idleFor g s) then
      modGain c .ul (fun g => { g with sqRising := true }) s else s)

/-- A slow tick of squelch: a rising attenuation moves by descent up to depth (R247). -/
def squelchTick (g : GainState) : GainState :=
  if !g.squelch.enable then { g with idle := none, sqRising := false, aSq := 0 }
  else { g with aSq := if g.sqRising then min g.squelch.depth (g.aSq + g.squelch.descent) else g.aSq }

/-! ## The ladder (R254) -/

/-- The bound binds in more than half of the blocks over overpower_ms (R254). -/
def overpowered (g : GainState) (ms : Nat) : Bool :=
  let w := g.boundWindows.drop (g.boundWindows.length - ms)
  decide (ms ≤ w.length) && decide ((w.map (·.2)).sum < 2 * (w.map (·.1)).sum)

/-- A slow tick of the windows of R254: the blocks of the past millisecond join the window. -/
def overpowerTick (ms : Nat) (g : GainState) : GainState :=
  let w := g.boundWindows ++ [(g.boundInWindow, g.blocksInWindow)]
  { g with boundWindows := w.drop (w.length - ms), boundInWindow := 0, blocksInWindow := 0 }

/-- OVERPOWER_MUTE (R254): the mute, with a retry, or latched at the over_retry_limit-th within 1 h; it counts towards MUTE_COUNT. -/
def execOverpowerMute (c : Fin 64) (d : Dir) (s : State) : Host.Outcome State Fault Refusal :=
  let g := (direction c d s).gain
  let muted := hasReason g.reasons reasonOverpower || hasReason g.reasons reasonOverLatched
  .next (if dirLive c d s && !muted && overpowered g s.ladder.overpowerMs then
      let times := g.overpowerMutes.filter (fun t => decide (s.slowTicks < t + 3600000)) ++ [s.slowTicks]
      let latched := decide (s.ladder.overRetryLimit ≤ times.length)
      let retry := if latched then none else some (s.slowTicks + 1000 * s.ladder.overRetryS)
      let s := modGain c d (fun g => { g with overpowerMutes := times, overpowerRetryAt := retry, boundWindows := [] }) s
      countMute c d (addMute c d (if latched then reasonOverLatched else reasonOverpower)
        { measured := (maskPorts (dirDef c d s).tx).foldl (fun a j => max a g.pOut[j]) (-16384),
          limit := smallestLimit d (dirDef c d s) g.pChMax s + g.ovs, resulting := g.appliedTick } s)
    else s)

/-- OVERPOWER_RETRY (R254): over_retry_s has passed. -/
def execOverpowerRetry (c : Fin 64) (d : Dir) (s : State) : Host.Outcome State Fault Refusal :=
  let g := (direction c d s).gain
  .next (if dirLive c d s && g.overpowerRetryAt.any (fun t => decide (t ≤ s.slowTicks)) then
      dropMute c d reasonOverpower {} (modGain c d (fun g => { g with overpowerRetryAt := none }) s)
    else s)

/-- COMPOSITE_OVER (R254): P_comp above P_comp_eff + 1.00 dB for 10 ms (80 ALC ticks) stops the port. -/
def execCompositeOver (p : Fin 8) (s : State) : Host.Outcome State Fault Refusal :=
  let x := port p s
  .next (if decide (80 ≤ x.pCompPeakOver) then
      stopPort p reasonCompositeOver { measured := x.pComp, limit := satInt 16 (compEff p s), resulting := lsbToDb x.aComp }
        (modPort p (fun v => { v with pCompPeakOver := 0 }) s)
    else s)

/-- PORT_RETRY (R254): port_retry_s has passed since a COMPOSITE_OVER or MUTE_COUNT stop. -/
def execPortRetry (p : Fin 8) (s : State) : Host.Outcome State Fault Refusal :=
  .next (if (port p s).retryAt.any (fun t => decide (t ≤ s.slowTicks)) then
      releasePort p reasonMuteCount {} (releasePort p reasonCompositeOver {} (modPort p (fun v => { v with retryAt := none }) s))
    else s)

/-- A term has been unbinding for 1 s (R267). -/
def unboundLong (since : List (Nat × Nat)) (reason now : Nat) : Bool :=
  since.any (fun e => e.1 == reason && decide (e.2 + 1000 ≤ now))

/-- REDUCTION_ENDED (R267): a term that has been unbinding for 1 s writes its record. -/
def execReductionEnded (obj : ReductionObject) (reason : Fin 20) (s : State) : Host.Outcome State Fault Refusal :=
  .next (match obj with
    | .direction c d =>
      let g := (direction c d s).gain
      if hasReason g.reducing reason.val && unboundLong g.unbindingSince reason.val s.slowTicks then
        dirRecord 0x0002 c d 1 reason.val {} (modGain c d (fun g => { g with
          reducing := cutReason g.reducing reason.val, unbindingSince := g.unbindingSince.filter (fun e => e.1 != reason.val) }) s)
      else s
    | .port p =>
      let g := port p s
      if hasReason g.reducing reason.val && unboundLong g.unbindingSince reason.val s.slowTicks then
        portRecord 0x0002 p 1 reason.val {} (modPort p (fun g => { g with
          reducing := cutReason g.reducing reason.val, unbindingSince := g.unbindingSince.filter (fun e => e.1 != reason.val) }) s)
      else s)

end Sys2Proof.Machine
end

