-- ==== Sys2Proof/Machine/Streams.lean ====
section
/-! DEFINITION. Converter links, SYSREF and streams: states of the link groups (R125-R131), LINK_CONFIGURE (R161), LINK_STATUS (R162),
STREAM_CONFIGURE (R160), PEAK_LIMIT_SET (R168). -/

namespace Sys2Proof.Machine

/-- Change of the converter links. -/
def modLinks (f : Links → Links) (s : State) : State := { s with links := f s.links }

/-- Lanes of receive group g: four for groups 0-3, RXL16 and RXL17 for the survey group (R123). -/
def groupLanes (g : Fin 5) : List (Fin 18) :=
  if g = 4 then [16, 17] else (List.range 4).map (fun k => Fin.ofNat 18 (4 * g.val + k))

/-- A receive group enters DOWN; from ALIGNED it raises JESD_LINK (R126, object R711). -/
def groupDown (g : Fin 5) (s : State) : State :=
  let was := s.links.rxGroups[g]
  let s := modLinks (fun l => { l with rxGroups := l.rxGroups.set g .down }) s
  if was = .aligned then raise (32 + g.val) (object 8 g.val) 0 s else s

/-- All lanes of a group hold sync-header lock. -/
def groupSync (g : Fin 5) (s : State) : Bool := (groupLanes g).all (fun n => s.links.lanes[n].sync)

/-- All lanes of a group hold extended-multiblock lock. -/
def groupMultiblock (g : Fin 5) (s : State) : Bool := (groupLanes g).all (fun n => s.links.lanes[n].multiblock)

/-- Lane skew of a group is 4 blocks or less (R125). -/
def groupDeskews (g : Fin 5) (s : State) : Bool := (groupLanes g).all (fun n => decide (s.links.lanes[n].skew ≤ 4))

/-- One transition of a group upwards by its locks, as the table of R125 gives it. -/
def climbGroup (g : Fin 5) (s : State) : State :=
  let put (v : LinkState) : State := modLinks (fun l => { l with rxGroups := l.rxGroups.set g v }) s
  match s.links.rxGroups[g] with
  | .down => if s.links.rxConfigured[g] && groupSync g s then put .shLock else s
  | .shLock => if groupMultiblock g s then put .embLock else s
  | .embLock => s
  | .aligned => s
  | .skewFault => s

/-- An LEMC boundary meets a group in EMB_LOCK after SYSREF has been captured: it aligns, or its skew is a fault (R125). The boundary that the model
sees is the start of the next multiblock that one of the group's receive edges takes (log entry 162). -/
def alignGroup (g : Fin 5) (s : State) : State :=
  if s.links.rxGroups[g] = .embLock ∧ s.links.captured ∧ !s.links.sysrefArm then
    modLinks (fun l => { l with rxGroups := l.rxGroups.set g (if groupDeskews g s then .aligned else .skewFault) }) s
  else s

/-- Lock that a group's state needs is lost on one of its lanes. -/
def lockLost (v : LinkState) (g : Fin 5) (s : State) : Bool :=
  match v with
  | .shLock => !groupSync g s
  | .embLock => !groupSync g s || !groupMultiblock g s
  | .aligned => !groupSync g s || !groupMultiblock g s
  | .down => false
  | .skewFault => false

/-- A group follows its lanes: loss of lock takes it to DOWN, locks take it up to EMB_LOCK (R125). -/
def followGroup (g : Fin 5) (s : State) : State :=
  let s := if lockLost s.links.rxGroups[g] g s then groupDown g s else s
  climbGroup g (climbGroup g s)

/-- Group that holds a lane. -/
def laneGroup (n : Fin 18) : Fin 5 := Fin.ofNat 5 (n.val / 4)

/-- JESD_LANE_LOCK_CHANGE (R125). -/
def execJesdLaneLockChange (lane : Fin 18) (syncHeader multiblock : Bool) (skewBlocks : Nat) (s : State) :
    Host.Outcome State Fault Refusal :=
  let v : Lane := { sync := syncHeader, multiblock := multiblock, skew := skewBlocks }
  .next (followGroup (laneGroup lane) (modLinks (fun l => { l with lanes := l.lanes.set lane v }) s))

/-- Any group is ALIGNED or ACTIVE. -/
def anyGroupUp (s : State) : Bool :=
  (List.finRange 5).any (fun g => s.links.rxGroups[g] == .aligned) || (List.finRange 4).any (fun g => s.links.txActive[g])

/-- REFCLK_IN cycles since core release at a phase of the present count: eight to a count (R129, chapter 3). -/
def refclk (phase : Nat) (s : State) : Nat := 8 * s.now + phase

/-- SYSREF_EDGE (R129, R131): an armed capture sets the LEMC phase, for groups that wait for it too; in monitor mode an edge that is
not a whole multiple of 128 REFCLK_IN cycles after the capture sets phase_error (log entry 23). -/
def execSysrefEdge (phase : Fin 8) (s : State) : Host.Outcome State Fault Refusal :=
  let s := modLinks (fun l => { l with edges := l.edges + 1 }) s
  .next (if s.links.sysrefArm then
      modLinks (fun l => { l with sysrefArm := false, captured := true, capturePhase := BitVec.ofNat 3 phase.val,
                                  captureAt := refclk phase.val s }) s
    else if s.links.captured && s.links.sysrefMode != 0 && (refclk phase.val s - s.links.captureAt) % 128 != 0 then
      raise 55 0 0 (modLinks (fun l => { l with phaseError := true }) s)
    else s)

/-- SYSREF_ARM (R129): a write of JES_SYSREF_CFG with arm set; arming is ignored while any group is ALIGNED or ACTIVE (R172). -/
def execSysrefArm (value : Word) (s : State) : Host.Outcome State Fault Refusal :=
  let s := modLinks (fun l => { l with sysrefMode := BitVec.ofNat 2 value.toNat }) s
  .next (if value.getLsbD 2 && !anyGroupUp s then modLinks (fun l => { l with sysrefArm := true }) s else s)

/-! ## Streams -/

/-- Rate of a group: that of either of its ports (R124). -/
def groupRate (g : Fin 4) (s : State) : Option (Fin 4) :=
  match (nth s.links.streams g.val Stream.reset).rate with
  | some r => some r
  | none => (nth s.links.streams (g.val + 4) Stream.reset).rate

/-- A device field names this device (R143). -/
def isLocal (a : Byte) (s : State) : Bool := a == 0xFF || a.toNat == deviceAddress s

/-- Channel directions that exist or are being removed, with their definitions. -/
def dirDefs (s : State) : List (Dir × DirDef) :=
  (liveDirs s).map (fun e => (e.2, dirDef e.1 e.2 s))

/-- A channel direction receives on a port of this device. -/
def portReceives (p : Fin 8) (s : State) : Bool :=
  (dirDefs s).any (fun e => isLocal e.2.rxDevice s && (e.2.rxPorts e.1).contains p)

/-- A channel direction transmits on a port of this device. -/
def portTransmits (p : Fin 8) (s : State) : Bool :=
  (dirDefs s).any (fun e => isLocal e.2.txDevice s && (e.2.txPorts e.1).contains p)

/-- Port Dg of a group. -/
def groupDonor (g : Fin 4) : Fin 8 := ⟨g.val, by omega⟩

/-- Port Sg of a group. -/
def groupService (g : Fin 4) : Fin 8 := ⟨g.val + 4, by omega⟩

/-- Groups of a mask. -/
def maskGroups (mask : Nat) : List (Fin 4) := (List.finRange 4).filter (fun g => mask.testBit g.val)

/-- Checks of LINK_CONFIGURE (R161). -/
def checkLinkConfigure (r : Running) (s : State) : Option Reject :=
  let x := r.desc
  let rx := maskGroups (par x 0 1)
  let tx := maskGroups (par x 1 1)
  firstOf [common false [(0, 3)] .none x,
    refuseIf (decide (32 ≤ par x 0 1) || decide (16 ≤ par x 1 1)) (badParam detReserved),
    refuseIf (decide (1 < par x 2 1)) (badParam detBadField),
    refuseIf ((rx ++ tx).any (fun g => (groupRate g s).isNone)) (badState 0x010F),
    refuseIf (rx.any (fun g => portReceives (groupDonor g) s || portReceives (groupService g) s) ||
      tx.any (fun g => portTransmits (groupDonor g) s || portTransmits (groupService g) s)) (badState 0x010C)]

/-- The receive groups a mask names, the survey group with bit 4. -/
def rxMask (mask : Nat) : List (Fin 5) := (List.finRange 5).filter (fun g => mask.testBit g.val)

/-- A named receive group starts again: DOWN, its lanes unlocked, polarity taken (R125, R172). -/
def bringUpRx (s : State) (g : Fin 5) : State :=
  let s := groupDown g s
  modLinks (fun l => { l with
    rxConfigured := l.rxConfigured.set g true,
    lanes := (groupLanes g).foldl (fun (v : Vector Lane 18) (n : Fin 18) => v.set n Lane.reset) l.lanes,
    rxPolarityInForce := (groupLanes g).foldl (fun v n => (v &&& ~~~(BitVec.ofNat 18 (2 ^ n.val))) |||
      (l.rxPolarity &&& BitVec.ofNat 18 (2 ^ n.val))) l.rxPolarityInForce }) s

/-- A named transmit group becomes ACTIVE with its polarity taken (R125). -/
def bringUpTx (s : State) (g : Fin 4) : State :=
  let m : BitVec 16 := BitVec.ofNat 16 (0xF * 2 ^ (4 * g.val))
  modLinks (fun l => { l with txActive := l.txActive.set g true,
                              txPolarityInForce := (l.txPolarityInForce &&& ~~~m) ||| (l.txPolarity &&& m) }) s

/-- Every named receive group is ALIGNED and every named transmit group ACTIVE. -/
def linksReady (x : Desc) (s : State) : Bool :=
  (rxMask (par x 0 1)).all (fun g => s.links.rxGroups[g] == .aligned) &&
  (maskGroups (par x 1 1)).all (fun g => s.links.txActive[g])

/-- LINK_CONFIGURE past its checks: SYSREF mode, capture re-armed when no group is up, the named groups brought up. -/
def beginLinkConfigure (r : Running) (s : State) : Ans × State :=
  let x := r.desc
  let s := modLinks (fun l => { l with sysrefMode := BitVec.ofNat 2 (par x 2 1), sysrefArm := l.sysrefArm || !anyGroupUp s }) s
  (awaitState r 1 [], (maskGroups (par x 1 1)).foldl bringUpTx ((rxMask (par x 0 1)).foldl bringUpRx s))

/-- LINK_CONFIGURE (R161): completes when its groups are up. -/
def opLinkConfigure (r : Running) (s : State) : Ans × State :=
  if r.phase = 0 then guarded checkLinkConfigure beginLinkConfigure r s
  else (doneWith (result [(0, 4, jesRxStatus s), (4, 4, jesTxStatus s)]), s)

/-- Checks of LINK_STATUS. -/
def checkLinkStatus (r : Running) (_s : State) : Option Reject := common false [] .none r.desc

/-- LINK_STATUS past its checks. -/
def effectLinkStatus (_r : Running) (s : State) : Ans × State :=
  (doneWith (result [(0, 4, jesRxStatus s), (4, 4, jesTxStatus s), (8, 4, jesSysrefStatus s),
    (12, 4, min 0xFFFFFFFF s.links.crcErr.toList.sum)]), s)

/-- LINK_STATUS (R162). -/
def opLinkStatus (r : Running) (s : State) : Ans × State := guarded checkLinkStatus effectLinkStatus r s

/-- Ports of STREAM_CONFIGURE's mask, in ascending order. -/
def streamPorts (x : Desc) : List (Fin 8) := (List.finRange 8).filter (fun p => (par x 0 1).testBit p.val)

/-- Rate a port would have after STREAM_CONFIGURE. -/
def newRate (x : Desc) (p : Fin 8) (s : State) : Option (Fin 4) :=
  if (streamPorts x).contains p then (if par x 1 1 = 0xFF then none else some (Fin.ofNat 4 (par x 1 1)))
  else s.links.streams[p].rate

/-- Bits [63:48] of a frequency field are zero (R22). -/
def badFrequency (f : Nat) : Bool := decide (2 ^ 48 ≤ f)

/-- Checks of STREAM_CONFIGURE (R160). -/
def checkStreamConfigure (r : Running) (s : State) : Option Reject :=
  let x := r.desc
  let ps := streamPorts x
  firstOf [common false [(0, 4)] .own x,
    refuseIf (decide (3 < par x 1 1) && par x 1 1 != 0xFF) (badParam detBadField),
    refuseIf (x.dataLen.toNat != if par x 1 1 = 0xFF then 0 else 16 * ps.length) (badParam detBadLength),
    if par x 1 1 = 0xFF then none else hostRead x,
    refuseIf (par x 1 1 != 0xFF && (List.range (2 * ps.length)).any (fun k => badFrequency (dat x (8 * k) 8))) (badParam detReserved),
    refuseIf (ps.any (fun p => portReceives p s || portTransmits p s)) (badState 0x010C),
    refuseIf ((List.finRange 4).any (fun g => match newRate x (groupDonor g) s, newRate x (groupService g) s with
      | some a, some b => a != b
      | _, _ => false)) (badParam 0x0106)]

/-- A port's streams after STREAM_CONFIGURE; k is its place in the buffer. -/
def newStream (x : Desc) (p : Fin 8) (k : Nat) : Stream :=
  if par x 1 1 = 0xFF then Stream.reset
  else { rate := some (Fin.ofNat 4 (par x 1 1)), rxCentre := dat x (16 * k) 8, txCentre := dat x (16 * k + 8) 8,
         rxInvert := (par x 2 1).testBit p.val, txInvert := (par x 3 1).testBit p.val }

/-- A group whose rate changes goes to DOWN and OFF (R160). -/
def dropGroup (old : State) (s : State) (g : Fin 4) : State :=
  let moved (p : Fin 8) : Bool := old.links.streams[p].rate != s.links.streams[p].rate
  if moved (groupDonor g) || moved (groupService g) then
    let s := groupDown (Fin.ofNat 5 g.val) s
    modLinks (fun l => { l with txActive := l.txActive.set g false, rxConfigured := upd l.rxConfigured g.val (fun _ => false) }) s
  else s

/-- STREAM_CONFIGURE past its checks. -/
def effectStreamConfigure (r : Running) (s : State) : Ans × State :=
  let x := r.desc
  let s' := (streamPorts x).zipIdx.foldl (fun s e => modLinks (fun l => { l with streams := l.streams.set e.1 (newStream x e.1 e.2) }) s) s
  (doneWith 0, (List.finRange 4).foldl (dropGroup s) s')

/-- STREAM_CONFIGURE (R160). -/
def opStreamConfigure (r : Running) (s : State) : Ans × State := guarded checkStreamConfigure effectStreamConfigure r s

/-- Checks of PEAK_LIMIT_SET (R168). -/
def checkPeakLimitSet (r : Running) (_s : State) : Option Reject :=
  let x := r.desc
  firstOf [common false [(0, 6)] .none x, refuseIf (decide (7 < par x 0 1)) (badParam 0x010E),
    refuseIf (decide (1 < par x 1 1) || outside (-1200) 0 (parInt x 2 2) || badRange 1 1000 (par x 4 2)) (badParam detBadField)]

/-- PEAK_LIMIT_SET past its checks: it waits for the stream's next segment; the stream's limiter counts are cleared (R172). -/
def effectPeakLimitSet (r : Running) (s : State) : Ans × State :=
  let x := r.desc
  let n := par x 0 1
  (doneWith 0, modLinks (fun l => { l with
    limiters := upd l.limiters n (fun v => { v with next := some (par x 1 1 == 1, parInt x 2 2, par x 4 2) }),
    limited := upd l.limited n (fun _ => 0), clipped := upd l.clipped n (fun _ => 0) }) s)

/-- PEAK_LIMIT_SET (R168). -/
def opPeakLimitSet (r : Running) (s : State) : Ans × State := guarded checkPeakLimitSet effectPeakLimitSet r s

end Sys2Proof.Machine
end

