-- ==== Sys2Proof/Machine/Radio.lean ====
section
/-! DEFINITION. Radio timing, synthesisers and front-end control (07_radio_timing_and_front_end.md): the frame timer and its sources, TDD
patterns, transmit holds, LO0-LO4, front-end pins, serial masters, the survey receiver and coexistence. -/

namespace Sys2Proof.Machine

/-- Change of the radio state. -/
def modRadio (f : Radio → Radio) (s : State) : State := { s with radio := f s.radio }

/-- Change of the frame timer. -/
def modTimer (f : FrameTimer → FrameTimer) (s : State) : State := modRadio (fun r => { r with timer := f r.timer }) s

/-- Commands of an opcode that wait and satisfy a condition become ready with results (R90). -/
def wakeCommands (opcode : Nat) (p : Running → Bool) (results : List Int) (s : State) : State :=
  let wake (r : Running) : Running :=
    if r.wait = .hardware ∧ r.desc.opcode.toNat = opcode ∧ p r then { r with wait := .none, results := results } else r
  { s with hif := { s.hif with sources := s.hif.sources.map (fun x =>
      { x with running := x.running.map wake, continuing := x.continuing.map wake }) } }

/-! ## Holds -/

/-- The port's own transmit hold ends now: its blocks ramp up from here (R342, R347). -/
def markStart (p : Fin 8) (s : State) : State :=
  modRadio (fun r => { r with tx := upd r.tx p.val (fun t => { t with startedAt := s.now, openedAt := some (t.openedAt.getD s.now) }) }) s

/-- After an event that may end a port's hold: holds are refreshed and the ports whose hold ended are marked. -/
def holdsAfter (old s : State) : State :=
  refreshHolds ((List.finRange 8).foldl (fun s p => if portHeld p old && !portHeld p s then markStart p s else s) s)

/-! ## Frame timer -/

/-- Code of a frame state (R330). -/
def FrameState.code : FrameState → Nat
  | .free => 0
  | .acquire => 1
  | .locked => 2
  | .holdover => 3

/-- A new frame state with its event (R375). -/
def setFrameState (v : FrameState) (s : State) : State :=
  let old := s.radio.timer.state
  let s := modTimer (fun t => { t with
    state := v, holdoverSince := if v = .holdover then s.now else t.holdoverSince,
    holdEnd := if old = .acquire ∧ v ≠ .acquire then some s.now else t.holdEnd }) s
  if old = v then s
  else
    let sev := if v = .holdover then 1 else if v = .acquire ∧ old = .holdover then 2 else 0
    postEvent 0x0501 sev 0xFFFF (payload 16 [(0, 1, old.code), (1, 1, v.code), (2, 1, s.radio.timer.tracked)]) s

/-- Rank of a source in the list configured; 4 when it is not in it. -/
def sourceRank (src : Nat) (t : FrameTimer) : Nat :=
  ((List.range 4).find? (fun k => nth t.sources k 0 == src && (List.range k).all (fun j => nth t.sources j 0 != 0))).getD 4

/-- Distance of a reported frame start from a reference start, in 1/16 count, to the nearest frame. -/
def frameError (report ref : Int) : Int := (report - ref + 8 * (frameCounts : Int)) % (16 * frameCounts : Int) - 8 * frameCounts

/-- Counts of a frame error, to the nearest. -/
def errorCounts (e : Int) : Int := (e + 8) / 16

/-- A source's track after a report at a time in 1/16 count: within 4 counts of its predecessor's prediction it adds to the run, and only then is it a valid report (R330). -/
def SyncTrack.hear (k : SyncTrack) (at16 : Int) (now : Nat) : SyncTrack :=
  let e := frameError at16 k.lastOrigin
  let ok := -64 ≤ e ∧ e ≤ 64
  { good := if k.good ≠ 0 ∧ ok then k.good + 1 else 1, lastOrigin := at16, lastAt := if k.good = 0 ∨ ok then now else k.lastAt }

/-- The difference from a source that is taken over is closed by slewing up to step_limit counts, by a step beyond (R331). stage is the
stage at which the step begins: the hold of R332 is already in force in ACQUIRE (DEDUCED, log entry 26). -/
def closeError (e : Int) (stage : Nat) (s : State) : State :=
  let n := errorCounts e
  if stage = 1 ∧ n.natAbs ≤ s.radio.timer.stepLimit then modTimer (fun t => { t with phaseError := e }) s
  else if n = 0 then modTimer (fun t => { t with phaseError := 0 }) s
  else modTimer (fun t => { t with phaseError := 0, step := some (n, stage) }) s

/-- A source tracked from now on. -/
def track (src : Nat) (s : State) : State := modTimer (fun t => { t with tracked := src }) s

/-- A valid report of the tracked source in LOCKED: the filter of weight 1/8 and the frequency estimate, whose method the manual does not
give (R330, log entry 27). -/
def follow (e : Int) (s : State) : State :=
  let v := takeFree s
  let ppb := signed 16 ((Config.freeValue v.1).toNat % 65536)
  modTimer (fun t => { t with phaseError := t.phaseError + (e - t.phaseError) / 8, freqPpb := ppb }) v.2

/-- A frame report of a source (R329-R331); ok says that it is valid for a timer that tracks it. -/
def frameReport (src : Nat) (at16 : Int) (ok : Bool) (s : State) : State :=
  let t := s.radio.timer
  if sourceRank src t = 4 ∨ t.state = .free then s
  else
    let k := (nth t.tracks src SyncTrack.reset).hear at16 s.now
    let s := modTimer (fun t => { t with tracks := upd t.tracks src (fun _ => k) }) s
    let e := frameError at16 (16 * (t.origin : Int))
    let valid := decide (3 ≤ k.good)
    match t.state with
    | .free => s
    | .acquire => if valid then refreshHolds (setFrameState .locked (closeError e 2 (track src s))) else s
    | .locked =>
      if src = t.tracked then (if ok then follow e s else s)
      else if valid && decide (sourceRank src t < sourceRank t.tracked t) then refreshHolds (closeError e 1 (track src s))
      else s
    | .holdover => if valid then refreshHolds (setFrameState .locked (closeError e 1 (track src s))) else s

/-- Count since core release of a 32-bit count near now. -/
def countNear (w : Word) (now : Nat) : Int :=
  let d : Nat := (w.toNat + 2 ^ 32 - now % 2 ^ 32) % 2 ^ 32
  if d < 2 ^ 31 then (now : Int) + d else (now : Int) + d - (2 ^ 32 : Nat)

/-- Code of a reporting source (R329). -/
def syncCode : SyncSource → Nat
  | .donor => 1
  | .twin => 3
  | .fabric => 4

/-- SYNC_REPORT (R329, R330): a frame start at a count and sixteenths of it; DONOR adds donor_offset. -/
def execSyncReport (src : SyncSource) (count : Word) (phase16 : Int) (s : State) : Host.Outcome State Fault Refusal :=
  let off := if src = .donor then s.radio.timer.donorOffset else 0
  let at16 := 16 * (countNear count s.now + off) + phase16
  let k := nth s.radio.timer.tracks (syncCode src) SyncTrack.reset
  let e := frameError at16 k.lastOrigin
  .next (frameReport (syncCode src) at16 (decide (-64 ≤ e) && decide (e ≤ 64)) s)

/-- PPS_EDGE (R329, R376): captured to one REFCLK_IN cycle; valid within 2 counts of the frame grid. -/
def execPpsEdge (phase : Fin 8) (s : State) : Host.Outcome State Fault Refusal :=
  let t := s.radio.timer
  let at16 := 16 * ((s.now : Int) + t.ppsOffset) + 2 * phase.val
  let e := frameError at16 (16 * (t.origin : Int))
  let ok := decide (-32 ≤ e) && decide (e ≤ 32)
  let s := modTimer (fun t => { t with
    ppsCapture := frameCount s, ppsPhase := BitVec.ofNat 3 phase.val, ppsValid := ok,
    ppsMissed := if ok then t.ppsMissed else satAdd 8 t.ppsMissed 1, ppsMissRun := if ok then 0 else t.ppsMissRun + 1 }) s
  .next (frameReport 2 at16 ok s)

/-- Counts without a valid report after which LOCKED is lost: loss_ms, or three PPS edges (R330). -/
def lossCounts (t : FrameTimer) : Nat := if t.tracked = 2 then 3 * 30720000 else t.lossMs * 30720

/-- HOLDOVER_ENTRY (R330, R331): the tracked source has given no valid report for loss_ms, or three PPS edges were missing or outside. The
frame timer stands at that instant at the earliest. -/
def execHoldoverEntry (s : State) : Host.Outcome State Fault Refusal :=
  let t := s.radio.timer
  let k := nth t.tracks t.tracked SyncTrack.reset
  .next (if t.state != .locked then s
    else
      let s := if t.tracked = 2 ∧ 3 ≤ t.ppsMissRun then s else advanceTo (k.lastAt + lossCounts t) s
      let s := modTimer (fun t => { t with tracks := upd t.tracks t.tracked (fun k => { k with good := 0 }), slewAcc := 0 }) s
      raise 160 0 0 (setFrameState .holdover s))

/-- HOLDOVER_EXPIRY (R330, R331): holdover_s has passed; ACQUIRE, with the timing hold of R332. -/
def execHoldoverExpiry (s : State) : Host.Outcome State Fault Refusal :=
  let t := s.radio.timer
  .next (if t.state != .holdover then s
    else
      let s := advanceTo (t.holdoverSince + t.holdoverS * 30720000) s
      let s := modTimer (fun t => { t with tracks := t.tracks.map (fun k => { k with good := 0 }) }) s
      refreshHolds (raise 161 0 0 (setFrameState .acquire s)))

/-- Change in length of the frame that begins, with the synchroniser's state after it: a slew of one count at most (R327, R330). The error
falls by what a slew closes (DEDUCED, log entry 26). -/
def frameSlew (t : FrameTimer) : Int × FrameTimer :=
  match t.state with
  | .locked =>
    if 16 ≤ t.phaseError then (1, { t with phaseError := t.phaseError - 16, slews := t.slews + 1 })
    else if t.phaseError ≤ -16 then (-1, { t with phaseError := t.phaseError + 16, slews := t.slews + 1 })
    else (0, t)
  | .holdover =>
    let a := t.slewAcc + 307200 * t.freqPpb
    if 1000000000 ≤ a then (1, { t with slewAcc := a - 1000000000, slews := t.slews + 1 })
    else if a ≤ -1000000000 then (-1, { t with slewAcc := a + 1000000000, slews := t.slews + 1 })
    else (0, { t with slewAcc := a })
  | _ => (0, t)

/-- The timer at its next frame start: a step due (R328, R332), the frame number, and the length of the frame that begins, a slew in it (R327). -/
def nextFrame (t : FrameTimer) : FrameTimer :=
  let t := { t with origin := t.origin + t.length, frameNumber := (t.frameNumber + 1) % 1024, length := frameCounts }
  match t.step with
  | some (n, 2) => { t with origin := t.origin + (n % (frameCounts : Int)).toNat, step := some (n, 3) }
  | some (n, 1) => { t with step := some (n, 2) }
  | some _ => { t with step := none, holdEnd := some t.origin }
  | none =>
    let v := frameSlew t
    { v.2 with length := ((frameCounts : Int) + v.1).toNat }

/-- Front-end pins configured since the last frame start take their role (R352). -/
def takePins (r : Radio) : Radio :=
  { r with pins := Vector.ofFn (fun n => (r.pinNext[n]).getD r.pins[n]), pinNext := Vector.replicate 48 none }

/-! ## FRAME_SYNC_CONFIGURE and FRAME_STATUS -/

/-- Sources of the command, up to the first 0 (R362). -/
def syncList (x : Desc) : List Nat := ((List.range 4).map (fun k => par x k 1)).takeWhile (fun v => v != 0)

/-- Checks of FRAME_SYNC_CONFIGURE (R361, R362). -/
def checkFrameSyncConfigure (r : Running) (s : State) : Option Reject :=
  let x := r.desc
  let l := syncList x
  firstOf [common false [(0, 6), (8, 17)] .none x,
    refuseIf ((List.range 4).any (fun k => decide (4 < par x k 1)) || !l.Nodup) (badParam 0x050A),
    refuseIf (l.contains 1 && !(decide (128 ≤ par x 4 2) && decide (par x 4 2 ≤ 255) &&
      (nth s.eng.asgs (par x 4 2) Assignment.reset).used)) (badState 0x050B),
    refuseIf (decide (frameCounts ≤ par x 12 4) || badRange 1 86400 (par x 16 4) || badRange 20 10000 (par x 20 2) ||
      badRange 1 4096 (par x 22 2) || decide (1 < par x 24 1)) (badParam detBadField)]

/-- FRAME_SYNC_CONFIGURE past its checks: FREE without a source; a new source leaves FREE for ACQUIRE, and so does a timer whose tracked
source is no longer named. -/
def effectFrameSyncConfigure (r : Running) (s : State) : Ans × State :=
  let x := r.desc
  let l := syncList x
  let s := modTimer (fun t => { t with
    sources := Vector.ofFn (fun k => l.getD k.val 0), detectAsg := par x 4 2, donorOffset := parInt x 8 4, ppsOffset := par x 12 4,
    holdoverS := par x 16 4, lossMs := par x 20 2, stepLimit := par x 22 2 }) s
  let t := s.radio.timer
  let s := if l.isEmpty then setFrameState .free (track 0 s)
    else if t.state = .free ∨ (t.state = .locked ∧ !l.contains t.tracked) then
      setFrameState .acquire (modTimer (fun t => { t with tracks := t.tracks.map (fun k => { k with good := 0 }) }) s)
    else s
  (if par x 24 1 = 1 then awaitState r 1 [] else doneWith 0, refreshHolds s)

/-- FRAME_SYNC_CONFIGURE (R362): with wait set it completes in LOCKED. -/
def opFrameSyncConfigure (r : Running) (s : State) : Ans × State :=
  if r.phase = 0 then guarded checkFrameSyncConfigure effectFrameSyncConfigure r s else (doneWith 0, s)

/-- Checks of FRAME_STATUS. -/
def checkFrameStatus (r : Running) (_s : State) : Option Reject := common false [] .none r.desc

/-- Seconds in HOLDOVER, saturating. -/
def holdoverElapsed (s : State) : Nat :=
  if s.radio.timer.state = .holdover then min 65535 ((s.now - s.radio.timer.holdoverSince) / 30720000) else 0

/-- FRAME_STATUS past its checks. -/
def effectFrameStatus (_r : Running) (s : State) : Ans × State :=
  let t := s.radio.timer
  (doneWith (result [(0, 1, t.state.code), (1, 1, t.tracked), (2, 2, t.frameNumber), (4, 4, t.origin), (8, 2, satInt 16 t.phaseError),
    (10, 2, t.freqPpb), (12, 2, holdoverElapsed s), (14, 1, flagBit (timingHold s))]), s)

/-- FRAME_STATUS (R364). -/
def opFrameStatus (r : Running) (s : State) : Ans × State := guarded checkFrameStatus effectFrameStatus r s

/-! ## TDD patterns -/

/-- Periods a pattern may have (R333). -/
def patternPeriods : List Nat := [15360, 19200, 30720, 38400, 61440, 76800, 153600, 307200]

/-- Segments of a pattern buffer (R333). -/
def patternSegments (x : Desc) : List (Nat × Nat) :=
  (List.range (dat x 8 1)).map (fun k => (dat x (16 + 4 * k) 3, dat x (19 + 4 * k) 1))

/-- The pattern of a buffer. -/
def patternFrom (x : Desc) : Pattern := { period := dat x 0 4, offset := dat x 4 4, segs := patternSegments x }

/-- Counts of a kind in a pattern. -/
def kindCounts (k : Nat) (p : Pattern) : Nat := ((p.segs.filter (fun e => e.2 == k)).map (·.1)).sum

/-- Duty of a kind in per mille of the period, rounded down. -/
def patternDuty (k : Nat) (p : Pattern) : Nat := if p.period = 0 then 0 else 1000 * kindCounts k p / p.period

/-- R333 is violated. -/
def badPattern (p : Pattern) : Bool :=
  !patternPeriods.contains p.period || decide (p.period ≤ p.offset) || p.segs.isEmpty || decide (32 < p.segs.length) ||
  p.segs.any (fun e => decide (e.1 < 16) || decide (2 < e.2)) || (p.segs.map (·.1)).sum != p.period

/-- The duty of a kind exceeds the House Rules maximum in per mille (R337). -/
def overDuty (k limit : Nat) (p : Pattern) : Bool := decide (limit * p.period < 1000 * kindCounts k p)

/-- Directions that use a pattern slot. -/
def slotUsers (slot : Nat) (s : State) : List (Fin 64 × Dir) :=
  (liveDirs s).filter (fun e => isTdd e.1 s && (chan e.1 s).defn.tdd.toNat == slot)

/-- First period start of a pattern at or after a count (R338). -/
def periodStart (p : Pattern) (t : Nat) (s : State) : Nat :=
  let pos := p.position t s
  if pos = 0 then t else settleCount (fun u => p.position u s == 0) t (t + (p.period - pos))

/-- Switch instant X: at or after the effective count, or after the command (R338). -/
def switchInstant (x : Desc) (p : Pattern) (s : State) : Nat :=
  match effOf x with
  | some e => periodStart p (max (s.now + 1) (countNear e s.now).toNat) s
  | none => periodStart p (s.now + 1) s

/-- Checks of TDD_PATTERN_SET before the House Rules duty (R333, R363). -/
def checkTddPatternSet (r : Running) (s : State) : Option Reject :=
  let x := r.desc
  let define := par x 1 1 == 0
  firstOf [common true [(0, 2)] .own x,
    refuseIf (decide (7 < par x 0 1) || decide (1 < par x 1 1)) (badParam detBadField),
    refuseIf (if define then decide (x.dataLen.toNat < 16) || x.dataLen.toNat != 16 + 4 * dat x 8 1 else x.dataLen != 0) (badParam detBadLength),
    if define then hostRead x else none,
    refuseIf (define && (List.range 7).any (fun k => dat x (9 + k) 1 != 0)) (badParam detReserved),
    refuseIf (define && badPattern (patternFrom x)) (badParam 0x0502),
    refuseIf (!define && !(slotUsers (par x 0 1) s).isEmpty) (badState 0x0504)]

/-- Result of TDD_PATTERN_SET (R363). -/
def tddResult (p : Pattern) (at_ : Nat) : BitVec 128 :=
  result [(0, 2, patternDuty 0 p), (2, 2, patternDuty 1 p), (4, 4, at_ % 2 ^ 32)]

/-- TDD_PATTERN_SET past its checks: refused with a record above the House Rules duty (R337); else the pattern waits for X and every
direction that uses the slot takes a configuration epoch at X (R338). -/
def effectTddPatternSet (r : Running) (s : State) : Ans × State :=
  let x := r.desc
  let slot := par x 0 1
  if par x 1 1 = 1 then (doneWith 0, modRadio (fun g => { g with patterns := upd g.patterns slot (fun _ => { cur := none, next := none }) }) s)
  else
    let p := patternFrom x
    let h := s.hr.rules
    let over0 := overDuty 0 h.dlDuty p
    if over0 || overDuty 1 h.ulDuty p then
      let k := if over0 then 0 else 1
      let bound := if over0 then h.dlDuty else h.ulDuty
      (refuse (.rejectedParam, 0x0503),
       gateRefused (writerOf x.ring.val) 6 x.opcode.toNat slot k (patternDuty k p) 0 bound s)
    else
      let at_ := switchInstant x p s
      let s := modRadio (fun g => { g with patterns := upd g.patterns slot (fun v => { v with next := some (p, at_) }) }) s
      let users := slotUsers slot s
      if users.isEmpty then (doneWith (tddResult p at_), s)
      else
        (awaitEpochs r ((List.range users.length).map (s.tickets + ·)) false (tddResult p at_),
         users.foldl (fun s e => requestChange e.1 e.2 .config [.pattern (Fin.ofNat 8 slot)] (some (BitVec.ofNat 32 at_)) s) s)

/-- TDD_PATTERN_SET (R363). -/
def opTddPatternSet (r : Running) (s : State) : Ans × State := guarded checkTddPatternSet effectTddPatternSet r s

/-! ## Synthesisers -/

/-- A port carries an enabled channel direction on its transmit or receive path through a synthesiser (R348, R376). -/
def loServes (n : Fin 5) (s : State) : Bool :=
  (List.finRange 8).any (fun p => (txLo p s == some n && !(transmitters p s).isEmpty) || (rxLo p s == some n && !(receivers p s).isEmpty))

/-- Die temperature against which a plan's calibration is judged: TS22, the LO synthesisers (R344, R463). -/
def loTemperature (s : State) : Int := s.thermal.sensors[22].inUse

/-- A plan counts as calibrated (R344). -/
def planCalibrated (n : Fin 256) (s : State) : Bool :=
  match s.radio.plans[n].calTemp with
  | some t => decide ((loTemperature s - t).natAbs ≤ s.radio.calWindow.toNat)
  | none => false

/-- Change of a synthesiser. -/
def modLo (n : Fin 5) (f : Lo → Lo) (s : State) : State := modRadio (fun r => { r with los := r.los.set n (f r.los[n]) }) s

/-- A retune begins: the synthesiser leaves lock and settles on a plan (R344). -/
def beginTune (n : Fin 5) (plan : Fin 256) (s : State) : State :=
  refreshHolds (modLo n (fun l => { l.unlock s.now with settling := true, plan := plan, tuneAt := s.now }) s)

/-- LO4 has locked: the dwell begins (R356). -/
def surveyLocked (s : State) : State :=
  modRadio (fun r => { r with survey := { r.survey with dwelling := r.survey.enable, lockAt := s.now, window := [], power := [], spectra := 0 } }) s

/-- LO_LOCK (R345): lock declared; the hold on the ports it serves ends; LO_TUNE learns of it; the survey begins its dwell. -/
def execLoLock (lo : Fin 5) (s : State) : Host.Outcome State Fault Refusal :=
  let l := s.radio.los[lo]
  .next (if l.locked then s
    else
      let t := min 65535 (s.now - l.tuneAt)
      let s' := modLo lo (fun l => { l with
        locked := true, lockedAt := s.now, settling := false, lastLock := if l.settling then t else l.lastLock,
        worstLock := if l.settling then max l.worstLock t else l.worstLock }) s
      let s' := holdsAfter s s'
      let s' := wakeCommands 0x0521 (fun r => par r.desc 0 1 == lo.val) [t] s'
      if lo = 4 then surveyLocked s' else s')

/-- LO_LOCK_LOSS (R345): a loss of lock in service imposes the LO hold and raises LO_UNLOCK. -/
def execLoLockLoss (lo : Fin 5) (s : State) : Host.Outcome State Fault Refusal :=
  let l := s.radio.los[lo]
  .next (if !l.locked then s
    else
      let s := modLo lo (fun l => { l.unlock s.now with unlocks := l.unlocks + 1 }) s
      let s := raise (162 + lo.val) (object 9 lo.val) l.plan.val (refreshHolds s)
      postEvent 0x0502 2 (162 + lo.val) (payload 16 [(0, 1, lo.val), (1, 1, l.plan.val), (4, 4, (frameCount s).toNat)]) s)

/-- Checks of LO_PLAN_WRITE (R361, R367). -/
def checkLoPlanWrite (r : Running) (s : State) : Option Reject :=
  let x := r.desc
  let write := par x 1 1 == 0
  let old := nth s.radio.plans (par x 0 1) LoPlan.reset
  firstOf [common false [(0, 2)] (if write then .exactly 16 else .none) x,
    refuseIf (decide (1 < par x 1 1)) (badParam detBadField),
    if write then hostRead x else none,
    refuseIf (write && (decide (1 < dat x 1 1) || dat x 3 1 != 0 || dat x 4 4 != 0)) (badParam detReserved),
    refuseIf (write && badFrequency (dat x 8 8)) (badParam detReserved),
    refuseIf (write && (decide (4 < dat x 0 1) || decide (3 < dat x 2 1) || badRange 600000000 7200000000 (dat x 8 8))) (badParam 0x0505),
    refuseIf (old.used && decide (old.synth ≤ 4) && (s.radio.los[Fin.ofNat 5 old.synth]).plan.val == par x 0 1 &&
      loServes (Fin.ofNat 5 old.synth) s) (badState 0x0507)]

/-- LO_PLAN_WRITE past its checks: a plan whose frequency changes loses its calibration; an erased plan is empty. -/
def effectLoPlanWrite (r : Running) (s : State) : Ans × State :=
  let x := r.desc
  (doneWith 0, modRadio (fun g => { g with plans := upd g.plans (par x 0 1) (fun p =>
    if par x 1 1 = 1 then LoPlan.reset
    else { used := true, synth := dat x 0 1, freq := dat x 8 8, level := dat x 2 1, autocal := dat x 1 1 % 2 == 1,
           calTemp := if p.used && p.freq == dat x 8 8 then p.calTemp else none }) }) s)

/-- LO_PLAN_WRITE (R367). -/
def opLoPlanWrite (r : Running) (s : State) : Ans × State := guarded checkLoPlanWrite effectLoPlanWrite r s

/-- Checks of LO_TUNE (R361, R368); LO4 is tuned only by the survey. -/
def checkLoTune (r : Running) (s : State) : Option Reject :=
  let x := r.desc
  let p := nth s.radio.plans (par x 2 2) LoPlan.reset
  firstOf [common false [(0, 1), (2, 2)] .none x,
    refuseIf (decide (3 < par x 0 1) || decide (255 < par x 2 2)) (badParam 0x0505),
    refuseIf (!p.used) (badState 0x0506), refuseIf (p.synth != par x 0 1) (badParam 0x0505),
    refuseIf (loServes (Fin.ofNat 5 (par x 0 1)) s) (badState 0x0507)]

/-- LO_TUNE past its checks. -/
def effectLoTune (r : Running) (s : State) : Ans × State :=
  (awaitHardware r 1 [], beginTune (Fin.ofNat 5 (par r.desc 0 1)) (Fin.ofNat 256 (par r.desc 2 2)) s)

/-- LO_TUNE (R368): DONE at lock with the lock time, DEVICE_FAULT with the LO_UNLOCK source when the wait ends out of lock. -/
def opLoTune (r : Running) (s : State) : Ans × State :=
  if r.phase = 0 then guarded checkLoTune effectLoTune r s
  else
    let l := s.radio.los[Fin.ofNat 5 (par r.desc 0 1)]
    (if l.locked then doneWith (result [(0, 2, l.lastLock)]) else refuse (.deviceFault, 162 + par r.desc 0 1), s)

/-- Plans of LO_CALIBRATE. -/
def calPlans (x : Desc) : List Nat := (List.range (par x 1 1)).map (par x 0 1 + ·)

/-- Checks of LO_CALIBRATE (R348, R369). -/
def checkLoCalibrate (r : Running) (s : State) : Option Reject :=
  let x := r.desc
  let ps := (calPlans x).map (fun n => nth s.radio.plans n LoPlan.reset)
  firstOf [common false [(0, 3)] .none x,
    refuseIf (decide (par x 1 1 < 1) || decide (256 < par x 0 1 + par x 1 1)) (badParam 0x0505),
    refuseIf (decide (1 < par x 2 1)) (badParam detBadField), refuseIf (ps.any (fun p => !p.used)) (badState 0x0506),
    refuseIf (par x 2 1 == 0 && ps.any (fun p => loServes (Fin.ofNat 5 p.synth) s)) (badState 0x0507)]

/-- Flag of a synthesiser whose calibration runs. -/
def setCalibrating (plan : Nat) (on : Bool) (s : State) : State :=
  modLo (Fin.ofNat 5 (nth s.radio.plans plan LoPlan.reset).synth) (fun l => { l with calibrating := on }) s

/-- LO_CALIBRATE's step for the k-th plan ends with what the hardware found: passed, lock time, and for a verify whether the margin
is short (R349's procedure). aux holds plans done, passed, failed and the worst lock time. -/
def calStep (r : Running) (s : State) : Ans × State :=
  let x := r.desc
  let k := r.aux.getD 0 0
  let plan := par x 0 1 + k
  let ok := r.results.getD 0 0 != 0
  let t := (r.results.getD 1 0).toNat
  let s := setCalibrating plan false s
  let s := if par x 2 1 = 0 then
      modRadio (fun g => { g with plans := upd g.plans plan (fun p => { p with calTemp := if ok then some (loTemperature s) else none }) }) s
    else modLo (Fin.ofNat 5 (nth s.radio.plans plan LoPlan.reset).synth) (fun l => { l with recalAdvised := r.results.getD 2 0 != 0 }) s
  let aux := [k + 1, r.aux.getD 1 0 + (if ok then 1 else 0), r.aux.getD 2 0 + (if ok then 0 else 1), max (r.aux.getD 3 0) t]
  if k + 1 < par x 1 1 then
    (.stay { r with wait := .hardware, phase := 1, aux := aux, committed := true }, setCalibrating (plan + 1) true s)
  else (doneWith (result [(0, 1, aux.getD 1 0), (1, 1, aux.getD 2 0), (2, 2, min 65535 (aux.getD 3 0))]), s)

/-- LO_CALIBRATE past its checks. -/
def effectLoCalibrate (r : Running) (s : State) : Ans × State :=
  (awaitHardware r 1 [0, 0, 0, 0], setCalibrating (par r.desc 0 1) true s)

/-- LO_CALIBRATE (R369). -/
def opLoCalibrate (r : Running) (s : State) : Ans × State :=
  if r.phase = 0 then guarded checkLoCalibrate effectLoCalibrate r s else calStep r s

/-- Bits [4:0] of LOS_STATUSn (R376). -/
def loBits (n : Fin 5) (s : State) : Nat :=
  let l := s.radio.los[n]
  (flagBit l.locked + 2 * flagBit l.settling + 4 * flagBit l.calibrating + 8 * flagBit (planCalibrated l.plan s) +
    16 * flagBit l.recalAdvised).toNat

/-- Checks of LO_STATUS. -/
def checkLoStatus (r : Running) (_s : State) : Option Reject :=
  firstOf [common false [(0, 1)] .none r.desc, refuseIf (decide (4 < par r.desc 0 1)) (badParam 0x0505)]

/-- LO_STATUS past its checks. -/
def effectLoStatus (r : Running) (s : State) : Ans × State :=
  let n := Fin.ofNat 5 (par r.desc 0 1)
  let l := s.radio.los[n]
  let p := s.radio.plans[l.plan]
  (doneWith (result [(0, 1, loBits n s), (1, 1, l.plan.val), (2, 6, p.freq), (8, 2, l.lastLock), (10, 2, p.calTemp.getD 0),
    (12, 2, l.unlocks.toNat)]), s)

/-- LO_STATUS (R370). -/
def opLoStatus (r : Running) (s : State) : Ans × State := guarded checkLoStatus effectLoStatus r s

/-! ## TX_ENABLE -/

/-- Change of transmission on a port. -/
def modTx (p : Fin 8) (f : TxPort → TxPort) (s : State) : State := modRadio (fun r => { r with tx := r.tx.set p (f r.tx[p]) }) s

/-- Checks of TX_ENABLE (R371). -/
def checkTxEnable (r : Running) (s : State) : Option Reject :=
  let x := r.desc
  firstOf [common false [(0, 2)] .none x,
    refuseIf (decide (7 < par x 0 1) || decide (1 < par x 1 1)) (badParam detBadField),
    refuseIf (par x 1 1 == 1 && (portStopped (port (Fin.ofNat 8 (par x 0 1)) s) || (portRatio (Fin.ofNat 8 (par x 0 1)) s).1 == 0))
      (badState 0x050C)]

/-- TX_ENABLE past its checks: a disable acts at once; an enable waits for the first direction to transmit. -/
def effectTxEnable (r : Running) (s : State) : Ans × State :=
  let p := Fin.ofNat 8 (par r.desc 0 1)
  if par r.desc 1 1 = 0 then (doneWith 0, refreshHolds (modTx p (fun t => { t with enabled := false, openedAt := none }) s))
  else (awaitHardware r 1 [], holdsAfter s (modTx p (fun t => { t with enabled := true, waiting := some r.desc.ring, waitFrom := s.now }) s))

/-- TX_ENABLE (R347, R371): results are (1, count) at the first transmission and (0, 0) at the deadline. -/
def opTxEnable (r : Running) (s : State) : Ans × State :=
  if r.phase = 0 then guarded checkTxEnable effectTxEnable r s
  else if r.results.getD 0 0 = 1 then (doneWith (result [(0, 4, r.results.getD 1 0)]), s)
  else (refuse (.rejectedState, 0x0501), s)

/-- Deadline of a TX_ENABLE in counts after the later of its start and the LO's retune: 50 µs, 500 µs for an uncalibrated plan, and the end of that tick,
in which lock is on time (R43, R347). -/
def lockDeadline (p : Fin 8) (s : State) : Nat :=
  match txLo p s with
  | some n => max s.radio.tx[p].waitFrom s.radio.los[n].tuneAt + (if planCalibrated s.radio.los[n].plan s then 1536 else 15360) + 1
  | none => s.now

/-- TX_ENABLE_DEADLINE (R347): the LO is still out of lock at the deadline; the port stays disabled. -/
def execTxEnableDeadline (port : Fin 8) (s : State) : Host.Outcome State Fault Refusal :=
  .next (match s.radio.tx[port].waiting with
    | some q =>
      if loOut (txLo port s) s then
        let s := advanceTo (lockDeadline port s) s
        hardwareDone q.val (waitOf [0x0524] 0 1 port.val) [0, 0] (refreshHolds (modTx port (fun t => { t with enabled := false, waiting := none, openedAt := none }) s))
      else s
    | none => s)

/-- Count at which a direction's block of an ordinal begins at a port's transmit pins (R334). -/
def pinCount (c : Fin 64) (d : Dir) (p : Fin 8) (n : Nat) (s : State) : Nat :=
  fromBasis ((direction c d s).baseCount + n * countsPerBlock (chan c s).defn.cls) s + txDelay c d p s

/-- A direction's blocks that begin at the pins at a count go out on a port that TX_ENABLE has enabled: from the first block boundary after lock, plus one
block (R347). -/
def startedBy (c : Fin 64) (p : Fin 8) (t : Nat) (s : State) : Bool :=
  s.radio.tx[p].openedAt.all (fun u => decide (u + countsPerBlock (chan c s).defn.cls ≤ t))

/-- A block of a direction leaves on a port: a TX_ENABLE that waits is answered with the count (R347, R371). -/
def portTransmitted (p : Fin 8) (t : Nat) (s : State) : State :=
  match s.radio.tx[p].waiting with
  | some q => hardwareDone q.val (waitOf [0x0524] 0 1 p.val) [1, (t % 2 ^ 32 : Nat)] (modTx p (fun t => { t with waiting := none }) s)
  | none => s

/-! ## Front-end pins -/

/-- Checks of FE_PIN_CONFIGURE (R350, R365). -/
def checkFePinConfigure (r : Running) (_s : State) : Option Reject :=
  let x := r.desc
  firstOf [common false [(0, 8)] .none x,
    refuseIf (decide (47 < par x 0 1) || decide (7 < par x 1 1) || decide (7 < par x 2 1) || outside (-48) 48 (parInt x 4 2) ||
      outside (-48) 48 (parInt x 6 2) || (par x 1 1 == 6 && decide (parInt x 6 2 ≤ parInt x 4 2))) (badParam 0x0508),
    refuseIf (decide (1 < par x 3 1)) (badParam detBadField)]

/-- FE_PIN_CONFIGURE past its checks: the role waits for a frame start (R352); PA_EN is active-high (R351). -/
def effectFePinConfigure (r : Running) (s : State) : Ans × State :=
  let x := r.desc
  let v : FePin := { role := par x 1 1, port := Fin.ofNat 8 (par x 2 1), activeHigh := par x 3 1 == 1 || par x 1 1 == 1, onOffset := parInt x 4 2,
                     offOffset := parInt x 6 2 }
  (doneWith 0, modRadio (fun g => { g with pinNext := upd g.pinNext (par x 0 1) (fun _ => some v) }) s)

/-- FE_PIN_CONFIGURE (R365). -/
def opFePinConfigure (r : Running) (s : State) : Ans × State := guarded checkFePinConfigure effectFePinConfigure r s

/-- An interval [S + on, E + off) of a window holds a count: some window reaches it (R350). -/
def inShifted (f : Int → Bool) (t on off : Int) : Bool :=
  if off ≤ on then (List.range ((on - off).toNat + 1)).all (fun k => f (t - on + k))
  else (List.range ((off - on).toNat + 1)).any (fun k => f (t - off + k))

/-- The port may drive a PA: enabled, LO locked, no hold, no stop, not starting or asleep (R351). -/
def paAllowed (p : Fin 8) (s : State) : Bool :=
  !portHeld p s && !portStopped (port p s) && (transmitters p s).any (fun e => !dirHeld e.1 e.2 p s)

/-- First block boundary of a direction at a port's pins, not before a count. -/
def firstBoundary (c : Fin 64) (d : Dir) (p : Fin 8) (t : Nat) (s : State) : Nat :=
  let b := pinCount c d p 0 s
  let n := countsPerBlock (chan c s).defn.cls
  b + ceilDiv (t - b) n * n

/-- Count at which an FDD port's transmission begins: the first block boundary of a direction after the port's last hold, and one block more after it was
enabled (R342, R347, R352). -/
def fddStart (p : Fin 8) (s : State) : Option Nat :=
  let x := s.radio.tx[p]
  let l := ((transmitters p s).filter (fun e => !dirHeld e.1 e.2 p s)).map (fun e =>
    firstBoundary e.1 e.2 p x.startedAt s + (if x.openedAt = some x.startedAt then countsPerBlock (chan e.1 s).defn.cls else 0))
  l.foldl (fun a t => some (a.elim t (min t))) none

/-- A pin is active at the present count (R346, R350-R352). -/
def pinActive (n : Fin 48) (s : State) : Bool :=
  let v := s.radio.pins[n]
  let begun := if tddPort v.port s then none else fddStart v.port s
  let tx (t : Int) : Bool := portSends v.port t s && paAllowed v.port s && begun.all (fun u => decide ((u : Int) ≤ t))
  let rx (t : Int) : Bool := portRxWindow v.port t s
  let now : Int := s.now
  match v.role with
  | 0 => false
  | 1 => paAllowed v.port s && inShifted tx now v.onOffset v.offOffset
  | 2 => inShifted rx now v.onOffset v.offOffset
  | 3 => inShifted tx now v.onOffset v.offOffset
  | 4 => inShifted tx now v.onOffset v.offOffset
  | 5 => inShifted rx now v.onOffset v.offOffset
  | 6 =>
    let pos : Int := framePosition now s
    (decide (v.onOffset ≤ pos) && decide (pos < v.offOffset)) ||
      (decide (v.onOffset ≤ pos - frameCounts) && decide (pos - frameCounts < v.offOffset))
  | _ => true

/-- Level a pin drives. -/
def pinLevel (n : Fin 48) (s : State) : Bool :=
  let v := s.radio.pins[n]
  pinActive n s == v.activeHigh && v.role != 0 || v.role == 0 && !v.activeHigh

/-! ## Serial masters -/

/-- Change of a serial master. -/
def modSerial (m : Fin 4) (f : SerialMaster → SerialMaster) (s : State) : State :=
  modRadio (fun r => { r with serial := r.serial.set m (f r.serial[m]) }) s

/-- Position of a pattern's segment start in its period. -/
def segmentStart (p : Pattern) (k : Nat) : Nat := ((p.segs.take k).map (·.1)).sum

/-- An entry's next trigger instant at or after the count it may first run at (R353); none while its pattern slot is empty. -/
def nextTrigger (e : SerialEntry) (s : State) : Option Nat :=
  match e.kind with
  | 0 => some (countNear e.trigger e.due).toNat
  | 1 => some (settleCount (fun u => framePosition u s == e.trigger.toNat) e.due (e.due + (e.trigger.toNat + frameCounts - framePosition e.due s) % frameCounts))
  | 2 =>
    match patternOf (e.trigger.toNat % 256) s with
    | none => none
    | some p =>
      let want := ((segmentStart p (e.trigger.toNat / 256 % 256) : Int) + signed 16 (e.trigger.toNat / 65536)) % (p.period : Int)
      some (settleCount (fun u => (p.position u s : Int) == want) e.due (e.due + ((want - p.position e.due s) % (p.period : Int)).toNat))
  | _ => some e.due

/-- The entry of a queue whose trigger comes first, with its instant; ties go to the one loaded first (R354). -/
def firstEntry (s : State) : List SerialEntry → Option (SerialEntry × Nat)
  | [] => none
  | e :: rest =>
    match nextTrigger e s, firstEntry s rest with
    | none, r => r
    | some t, none => some (e, t)
    | some t, some (f, u) => if t ≤ u then some (e, t) else some (f, u)

/-- The first entry that satisfies a condition taken from a list. -/
def removeFirst {α : Type} (p : α → Bool) : List α → List α
  | [] => []
  | a :: rest => if p a then rest else a :: removeFirst p rest

/-- An entry started at its trigger t: late and skipped as R354 says; entries of kind 0 and 3 leave the queue, the others wait for their
next instant. -/
def startEntry (m : Fin 4) (e : SerialEntry) (t : Nat) (s : State) : State :=
  let late := decide (s.radio.serial[m].lateTol < max s.now (t + 4) - t)
  let skip := late && e.skipIfLate
  let rest := if e.kind = 0 ∨ e.kind = 3 then removeFirst (· == e) s.radio.serial[m].queue
    else s.radio.serial[m].queue.map (fun f => if f = e then { f with due := t + 1 } else f)
  let s := modSerial m (fun v => { v with queue := rest, late := if late then v.late + 1 else v.late,
                                          running := if skip then none else some { e with trigger := BitVec.ofNat 32 t } }) s
  if late then
    postEvent 0x0504 1 (167 + m.val) (payload 16 [(0, 1, m.val), (1, 1, flagBit skip), (4, 4, t % 2 ^ 32)])
      (raise (167 + m.val) (object 14 m.val) 0 s)
  else s

/-- An idle master takes new clock settings (R366). -/
def takeClock (v : SerialMaster) : SerialMaster :=
  match v.running, v.newClock with
  | none, some (f, m) => { v with sclk := f, mode := m, newClock := none }
  | _, _ => v

/-- SERIAL_TRIGGER (R354): the next trigger instant arrives; an idle master starts the entry, a busy one leaves it for its end. -/
def execSerialTrigger (m : Fin 4) (s : State) : Host.Outcome State Fault Refusal :=
  .next (match firstEntry s s.radio.serial[m].queue with
    | none => s
    | some (e, t) =>
      let s := advanceTo t s
      if s.radio.serial[m].running.isSome then s else modSerial m takeClock (startEntry m e t s))

/-- SERIAL_TRANSACTION_END (R354, R355): read data is posted; an entry that has waited starts. -/
def execSerialTransactionEnd (m : Fin 4) (readData : Dword) (s : State) : Host.Outcome State Fault Refusal :=
  .next (match s.radio.serial[m].running with
    | none => s
    | some e =>
      let s := modSerial m (fun v => takeClock { v with running := none }) s
      let s := if e.read then
          postEvent 0x0505 0 0xFFFF (payload 16 [(0, 1, m.val), (4, 4, e.trigger.toNat), (8, 8, readData.toNat)]) s
        else s
      match firstEntry s s.radio.serial[m].queue with
      | some (f, t) => if t ≤ s.now then startEntry m f t s else s
      | none => s)

/-- Entry k of SERIAL_QUEUE_LOAD's buffer. -/
def serialEntry (x : Desc) (now k : Nat) : SerialEntry :=
  { trigger := BitVec.ofNat 32 (dat x (16 * k) 4), kind := dat x (16 * k + 4) 1, cs := dat x (16 * k + 5) 1,
    skipIfLate := (dat x (16 * k + 6) 1).testBit 0, read := (dat x (16 * k + 6) 1).testBit 1, len := dat x (16 * k + 7) 1,
    bytes := (x.data.drop (16 * k + 8)).take 8, due := now }

/-- An entry's field is out of range (R353). -/
def badEntry (e : SerialEntry) : Bool :=
  decide (3 < e.kind) || decide (3 < e.cs) || decide (e.len < 1) || decide (8 < e.len) ||
  (e.kind == 1 && decide (frameCounts ≤ e.trigger.toNat)) ||
  (e.kind == 2 && (decide (7 < e.trigger.toNat % 256) || decide (31 < e.trigger.toNat / 256 % 256)))

/-- Entries of the buffer. -/
def serialEntries (x : Desc) (now : Nat) : List SerialEntry := (List.range (par x 2 2)).map (serialEntry x now)

/-- Checks of SERIAL_QUEUE_LOAD (R361, R366). -/
def checkSerialQueueLoad (r : Running) (s : State) : Option Reject :=
  let x := r.desc
  let op := par x 1 1
  let loads := op == 0 || op == 1
  firstOf [common false [(0, 7)] .own x,
    refuseIf (decide (3 < par x 0 1) || decide (3 < op) || decide (3 < par x 5 1) || !(par x 6 1 == 0 || par x 6 1 == 3)) (badParam detBadField),
    refuseIf (x.dataLen.toNat != if loads then 16 * par x 2 2 else 0) (badParam detBadLength),
    if loads then hostRead x else none,
    refuseIf (loads && (List.range (par x 2 2)).any (fun k => decide (3 < dat x (16 * k + 6) 1))) (badParam detReserved),
    refuseIf (loads && (serialEntries x s.now).any badEntry) (badParam detBadField),
    refuseIf (loads && decide (256 < par x 2 2 + (if op = 0 then (nth s.radio.serial (par x 0 1) SerialMaster.reset).queue.length else 0)))
      (badState 0x0509)]

/-- SERIAL_QUEUE_LOAD past its checks. -/
def effectSerialQueueLoad (r : Running) (s : State) : Ans × State :=
  let x := r.desc
  let es := serialEntries x s.now
  (doneWith 0, modSerial (Fin.ofNat 4 (par x 0 1)) (fun v =>
    let q := match par x 1 1 with
      | 0 => v.queue ++ es
      | 1 => es
      | 2 => []
      | _ => v.queue
    takeClock { v with queue := q, lateTol := if par x 4 1 = 0 then v.lateTol else par x 4 1, newClock := some (par x 5 1, par x 6 1) }) s)

/-- SERIAL_QUEUE_LOAD (R366). -/
def opSerialQueueLoad (r : Running) (s : State) : Ans × State := guarded checkSerialQueueLoad effectSerialQueueLoad r s

/-! ## Survey -/

/-- Largest throttle depth over the wings in 0.01 dB (R473). -/
def surveyTheta (s : State) : Nat :=
  ((List.range 20).foldl (fun a n => max a (nth s.thermal.sensors n (Sensor.reset 0)).theta) 0) / 64

/-- Duty in force: floor(duty × 10^(-Θ_max / 10)) percent (R473). -/
def surveyDuty (s : State) : Nat := s.radio.survey.duty * powerOf (-(surveyTheta s : Int)) / 2 ^ 48

/-- Milliseconds of dwell within the last second. -/
def recentMs (now : Nat) (l : List (Nat × Nat)) : Nat := ((l.filter (fun e => decide (now < e.1 + 1000))).map (·.2)).sum

/-- LO4 tuned to the plan of the schedule's current entry (R356). -/
def surveyTune (s : State) : State :=
  match s.radio.survey.entries[s.radio.survey.index]? with
  | some e => beginTune 4 (Fin.ofNat 256 e.plan) (modRadio (fun r => { r with survey := { r.survey with dwelling := false } }) s)
  | none => s

/-- Counts of the 8 µs after lock whose samples are discarded (R356). -/
def surveySettle : Nat := 246

/-- The survey runs: enabled, locked on an entry's plan, its group ALIGNED (R356). -/
def surveyRuns (s : State) : Bool := s.radio.survey.enable && s.radio.survey.dwelling && s.links.rxGroups[4] == .aligned

/-- Samples of the SVY stream: past the discarded ones, each 2048 give a power spectrum that is added to the dwell's (R356; the manual gives no window for
the spectrum and no grouping of its points, log entry 178). -/
def surveySamples (l : List Sample) (s : State) : State :=
  let v := s.radio.survey
  if !surveyRuns s || decide (s.now < v.lockAt + surveySettle) then s
  else
    let w := v.window ++ l
    modRadio (fun r => { r with survey :=
      if w.length < 2048 then { v with window := w }
      else { v with window := w.drop 2048, spectra := v.spectra + 1,
                    power := (List.range 256).map (fun k => v.power.getD k 0 + Config.surveyBin (w.take 2048) k) } }) s

/-- SURVEY_DWELL_END (R356, R473): the dwell of the entry has passed, or what the duty leaves of it; the entry keeps its result, marked when the thermal
duty cut it short, and LO4 hops on. The survey idles while its group is not ALIGNED, and while the duty is used up. ended and next are the
indices of the two entries (log entry 187). -/
def execSurveyDwellEnd (ended next : Nat) (s : State) : Host.Outcome State Fault Refusal :=
  let v := s.radio.survey
  .next (if !surveyRuns s then s
    else
      match v.entries[v.index]? with
      | none => s
      | some e =>
        let room := 10 * surveyDuty s - recentMs s.slowTicks v.dwelt
        if room = 0 ∨ ended ≠ v.index ∨ next ≠ (v.index + 1) % v.entries.length then s
        else
          let cut := decide (room < e.dwellMs) && decide (e.dwellMs ≤ 10 * v.duty - recentMs s.slowTicks v.dwelt)
          let ms := min room e.dwellMs
          let s := advanceTo (v.lockAt + surveySettle + ms * 30720) s
          let e := { e with valid := true, skipped := cut, averaged := min 65535 v.spectra, endCount := frameCount s,
                            bins := (List.range 256).map (fun k => levelDb (v.power.getD k 0) v.spectra) }
          let dwelt := (v.dwelt.filter (fun k => decide (s.slowTicks < k.1 + 1000))) ++ [(s.slowTicks, ms)]
          surveyTune (modRadio (fun r => { r with survey := { r.survey with
            entries := v.entries.set v.index e, dwelt := dwelt, index := next } }) s))

/-- Entries of SURVEY_CONFIGURE's buffer. -/
def surveyEntries (x : Desc) : List SurveyEntry :=
  (List.range (par x 2 2)).map (fun k => { plan := dat x (8 * k) 2, dwellMs := dat x (8 * k + 2) 2, valid := false, skipped := false,
                                           averaged := 0, endCount := 0, bins := [] })

/-- Checks of SURVEY_CONFIGURE (R361, R372). -/
def checkSurveyConfigure (r : Running) (s : State) : Option Reject :=
  let x := r.desc
  firstOf [common false [(0, 4)] .own x,
    refuseIf (decide (1 < par x 0 1)) (badParam detBadField),
    refuseIf (badRange 1 100 (par x 1 1) || decide (64 < par x 2 2)) (badParam 0x050D),
    refuseIf (x.dataLen.toNat != 8 * par x 2 2) (badParam detBadLength),
    if par x 2 2 = 0 then none else hostRead x,
    refuseIf ((List.range (par x 2 2)).any (fun k => dat x (8 * k + 4) 4 != 0)) (badParam detReserved),
    refuseIf ((surveyEntries x).any (fun e => badRange 1 1000 e.dwellMs || decide (255 < e.plan) ||
      !((nth s.radio.plans e.plan LoPlan.reset).used && (nth s.radio.plans e.plan LoPlan.reset).synth == 4))) (badParam 0x050D)]

/-- SURVEY_CONFIGURE past its checks: a new schedule starts at its first entry. -/
def effectSurveyConfigure (r : Running) (s : State) : Ans × State :=
  let x := r.desc
  let s := modRadio (fun g => { g with survey := { g.survey with enable := par x 0 1 == 1, duty := par x 1 1, entries := surveyEntries x, index := 0,
                                                                 dwelling := false } }) s
  (doneWith 0, if par x 0 1 = 1 then surveyTune s else s)

/-- SURVEY_CONFIGURE (R372). -/
def opSurveyConfigure (r : Running) (s : State) : Ans × State := guarded checkSurveyConfigure effectSurveyConfigure r s

/-- Checks of SURVEY_READ. -/
def checkSurveyRead (r : Running) (s : State) : Option Reject :=
  firstOf [common false [] .own r.desc, refuseIf (decide (r.desc.dataLen.toNat < 528 * s.radio.survey.entries.length)) (badParam detBadLength)]

/-- An entry as SURVEY_READ writes it (R373). -/
def SurveyEntry.bytes (e : SurveyEntry) : List Byte :=
  payload 16 [(0, 2, e.plan), (2, 1, flagBit e.valid + 2 * flagBit e.skipped), (4, 2, e.averaged), (8, 4, e.endCount.toNat)] ++
    (List.range 256).flatMap (fun k => leInt 2 (satInt 16 (e.bins.getD k 0)))

/-- SURVEY_READ past its checks. -/
def effectSurveyRead (_r : Running) (s : State) : Ans × State :=
  (doneData 0 (s.radio.survey.entries.flatMap SurveyEntry.bytes), s)

/-- SURVEY_READ (R373). -/
def opSurveyRead (r : Running) (s : State) : Ans × State := guarded checkSurveyRead effectSurveyRead r s

/-! ## Coexistence -/

/-- Change of a coexistence interface. -/
def modCoex (x : Fin 2) (f : Coex → Coex) (s : State) : State := modRadio (fun r => { r with coex := r.coex.set x (f r.coex[x]) }) s

/-- Checks of COEX_CONFIGURE (R361, R374). -/
def checkCoexConfigure (r : Running) (_s : State) : Option Reject :=
  let x := r.desc
  firstOf [common false [(0, 3), (4, 21)] .none x,
    refuseIf (badFrequency (par x 8 8) || badFrequency (par x 16 8)) (badParam detReserved),
    refuseIf (decide (1 < par x 0 1) || decide (1 < par x 1 1) || decide (3 < par x 2 1) || badRange 1 1000 (par x 4 2) ||
      badRange 1 1000 (par x 6 2) || badRange 1 100 (par x 24 1) || decide (par x 16 8 < par x 8 8)) (badParam 0x050E)]

/-- Milliseconds granted within the last second, before the grant in force. -/
def grantedBefore (v : Coex) (s : State) : Nat := recentMs s.slowTicks v.grantedMs

/-- Milliseconds granted within the last second, the grant in force included. -/
def grantedMs (v : Coex) (s : State) : Nat := grantedBefore v s + (if v.gnt then (s.now - v.grantAt) / 30720 else 0)

/-- The duty allows a grant (R360). -/
def coexDutyFree (v : Coex) (s : State) : Bool := decide (grantedBefore v s < 10 * v.dutyPct)

/-- GNT falls, or the affected contributions come back before it has risen: a grant's time counts towards the duty and the hold ends (R342, R360). -/
def endGrant (x : Fin 2) (s : State) : State :=
  let ms := (s.now - s.radio.coex[x].grantAt) / 30720
  refreshHolds (modCoex x (fun v => { v with
    gnt := false, yielding := false,
    grantedMs := (v.grantedMs.filter (fun e => decide (s.slowTicks < e.1 + 1000))) ++ (if v.gnt then [(s.slowTicks, ms)] else []) }) s)

/-- COEX_CONFIGURE past its checks; a disabled interface grants nothing (R681). -/
def effectCoexConfigure (r : Running) (s : State) : Ans × State :=
  let x := r.desc
  let on := par x 1 1 == 1
  let i := Fin.ofNat 2 (par x 0 1)
  let s := if on then s else endGrant i s
  (doneWith 0, refreshHolds (modCoex i (fun v => { v with
    enable := on, port := Fin.ofNat 4 (par x 2 1), grantMaxMs := par x 4 2, maxDeferMs := par x 6 2, low := par x 8 8, high := par x 16 8,
    dutyPct := par x 24 1, deferred := v.deferred && on }) s))

/-- COEX_CONFIGURE (R374). -/
def opCoexConfigure (r : Running) (s : State) : Ans × State := guarded checkCoexConfigure effectCoexConfigure r s

/-- A request is served now: not while a limit blocks it, and only once the duty allows (R360). -/
def coexServes (v : Coex) (s : State) : Bool := v.enable && v.req && !v.gnt && !v.blocked && coexDutyFree v s

/-- The affected contributions go to zero from the next segment (R359 step 2). -/
def coexYield (x : Fin 2) (s : State) : State :=
  if coexServes s.radio.coex[x] s then refreshHolds (modCoex x (fun v => { v with yielding := true, deferred := false }) s) else s

/-- COEX_REQ_RISE (R359, R360): REQ and PRI sampled; an urgent request is served at the next segment, one of low priority waits. -/
def execCoexReqRise (x : Fin 2) (pri : Bool) (s : State) : Host.Outcome State Fault Refusal :=
  let s := modCoex x (fun v => { v with req := true, pri := pri, deferred := v.enable && !pri, reqAt := s.now,
                                        blocked := v.blocked && decide (s.now < v.lowAt + 30720) }) s
  .next (if pri then coexYield x s else s)

/-- Uplinks that an interface affects (R357). -/
def coexAffected (v : Coex) (s : State) : List (Fin 64) := (List.finRange 64).filter (fun c => coexAffects v c s)

/-- The last nonzero affected sample has left the transmit pins: every affected contribution is shut, or, for a request of low priority on a TDD port, no
affected direction is in its transmit window (R359 steps 3 and 3'). -/
def coexQuiet (v : Coex) (s : State) : Bool :=
  let p := Fin.ofNat 8 v.port.val
  (coexAffected v s).all (fun c =>
    if v.yielding then (direction c .ul s).txChains[v.port].shut || !s.links.txActive[(Fin.ofNat 4 v.port.val)] else !inTxWindow c .ul p s.now s)

/-- COEX_GRANT (R357, R359): GNT rises once the affected directions are quiet, and they are held. An urgent request that the duty has kept waiting is taken up
here. -/
def execCoexGrant (x : Fin 2) (s : State) : Host.Outcome State Fault Refusal :=
  let v := s.radio.coex[x]
  .next (if !coexServes v s then s
    else if coexQuiet v s && (v.yielding || (v.deferred && tddPort (Fin.ofNat 8 v.port.val) s)) then
      refreshHolds (modCoex x (fun v => { v with gnt := true, yielding := false, deferred := false, grants := v.grants + 1, grantAt := s.now }) s)
    else if v.deferred then s
    else coexYield x s)

/-- COEX_DEFER_EXPIRY (R359): max_defer_ms after the request, one of low priority is served as an urgent one. -/
def execCoexDeferExpiry (x : Fin 2) (s : State) : Host.Outcome State Fault Refusal :=
  let v := s.radio.coex[x]
  .next (if v.deferred then
      coexYield x (modCoex x (fun v => { v with deferred := false }) (advanceTo (v.reqAt + v.maxDeferMs * 30720) s))
    else s)

/-- COEX_REQ_FALL (R359). -/
def execCoexReqFall (x : Fin 2) (s : State) : Host.Outcome State Fault Refusal :=
  let s' := modCoex x (fun v => { v with req := false, deferred := false, lowAt := s.now }) s
  .next (if s.radio.coex[x].gnt || s.radio.coex[x].yielding then endGrant x s' else s')

/-- COEX_LIMIT (R360): grant_max_ms, or the duty where it is used up before, ends the grant; a new request waits for REQ low for 1 ms.
byDuty says which limit it is (log entry 187). -/
def execCoexLimit (x : Fin 2) (byDuty : Bool) (s : State) : Host.Outcome State Fault Refusal :=
  let v := s.radio.coex[x]
  let left := 10 * v.dutyPct - grantedBefore v s
  .next (if v.gnt && decide (left < v.grantMaxMs) == byDuty then
      let s := advanceTo (v.grantAt + min left v.grantMaxMs * 30720) s
      postEvent 0x0506 1 0xFFFF (payload 16 [(0, 1, x.val), (1, 1, flagBit byDuty)])
        (modCoex x (fun v => { v with blocked := true }) (endGrant x s))
    else s)

/-- COEX_ACT (R358): the peer's transmission suspends and resumes adaptation and measurement. -/
def execCoexAct (x : Fin 2) (level : Bool) (s : State) : Host.Outcome State Fault Refusal :=
  .next (modCoex x (fun v => { v with act := level }) s)

end Sys2Proof.Machine
end

