-- ==== Sys2Proof/Machine/Channels.lean ====
section
/-! DEFINITION. Channels: the definition (R143-R149), its checks (R150, R153), CHANNEL_CREATE, CHANNEL_MODIFY, CHANNEL_REMOVE,
CHANNEL_STATUS and CHANNEL_MUTE (R150-R158, R163-R167). -/

namespace Sys2Proof.Machine

/-! ## The definition -/

/-- Four signed values of the buffer. -/
def four (x : Desc) (off : Nat) : Vector Int 4 := Vector.ofFn (fun k => datInt x (off + 2 * k.val) 2)

/-- A buffer's bytes as a command's data. -/
def bufferOf (bytes : List Byte) : Desc := { (default : Desc) with data := bytes }

/-- One direction of a definition (R143). -/
def dirDefOf (x : Desc) (d : Dir) : DirDef :=
  let u (dl ul : Nat) : Nat := if d = .ul then ul else dl
  { rx := BitVec.ofNat 4 (dat x (u 4 6) 1), tx := BitVec.ofNat 4 (dat x (u 5 7) 1), centre := dat x (u 8 16) 8,
    gain := dat x (u 24 26) 2, taps := dat x (u 28 30) 2, weight := four x (u 32 48), trim := four x (u 40 56),
    rxDevice := BitVec.ofNat 8 (dat x (u 66 68) 1), txDevice := BitVec.ofNat 8 (dat x (u 67 69) 1) }

/-- The definition in a command's buffer (R143). -/
def definitionOf (x : Desc) : ChanDef :=
  { cls := dat x 1 1, duplex := dat x 2 1, tdd := BitVec.ofNat 8 (dat x 3 1), wingMask := BitVec.ofNat 16 (dat x 64 2),
    dl := dirDefOf x .dl, ul := dirDefOf x .ul }

/-- Reserved fields of the buffer, bits [63:48] of the frequencies among them (R21, R22, R143). -/
def definitionReserved (x : Desc) : Bool :=
  [4, 5, 6, 7].any (fun i => decide (16 ≤ dat x i 1)) || badFrequency (dat x 8 8) || badFrequency (dat x 16 8) || dat x 70 10 != 0

/-- Check 1 of R150. -/
def checkBuffer (isE : Bool) (x : Desc) : Option Reject :=
  firstOf [common isE [] (.exactly 80) x, hostRead x, refuseIf (definitionReserved x) (badParam detReserved)]

/-- Weights or trims out of range, or nonzero outside a mask (R143). -/
def badFour (mask : BitVec 4) (v : Vector Int 4) : Bool :=
  (List.finRange 4).any (fun k => outside (-2000) 0 v[k] || (!mask.getLsbD k.val && v[k] != 0))

/-- Fields of a direction that its duplex code leaves out are zero, masks apart (R144). -/
def emptyFields (df : DirDef) : Bool :=
  df.centre == 0 && df.gain == 0 && df.taps == 0 && df.weight == Vector.replicate 4 0 && df.trim == Vector.replicate 4 0

/-- BAD_DEFINITION in the codes and the fields of a definition (R143, R144). -/
def badDefinition (v : ChanDef) : Bool :=
  decide (6 < v.cls) || decide (3 < v.duplex) || (if v.duplex = 1 then decide (7 < v.tdd.toNat) || v.dl.centre != v.ul.centre else v.tdd != 0xFF) ||
  bothDirs.any (fun d => if v.enables d then badFour (v.dir d).rx (v.dir d).weight || badFour (v.dir d).tx (v.dir d).trim else !emptyFields (v.dir d))

/-- BAD_MASK: an enabled direction without ports, or a direction left out with ports (R144, R145). -/
def badMask (v : ChanDef) : Bool :=
  bothDirs.any (fun d => if v.enables d then (v.dir d).rx == 0 || (v.dir d).tx == 0 else (v.dir d).rx != 0 || (v.dir d).tx != 0)

/-- Check 3 of R150 on a channel number and a definition. -/
def checkCodes (n : Nat) (v : ChanDef) : Option Reject :=
  firstOf [refuseIf (decide (63 < n) || badDefinition v) (badParam 0x010E), refuseIf (badMask v) (badParam 0x0105)]

/-- Enabled directions of a definition. -/
def ChanDef.dirs (v : ChanDef) : List Dir := bothDirs.filter v.enables

/-- Local receive ports of a direction. -/
def localRx (df : DirDef) (d : Dir) (s : State) : List (Fin 8) := if onReceiveDevice df s then df.rxPorts d else []

/-- Local transmit ports of a direction. -/
def localTx (df : DirDef) (d : Dir) (s : State) : List (Fin 8) := if onTransmitDevice df s then df.txPorts d else []

/-- Group of a port (R123). -/
def portGroup (p : Fin 8) : Fin 4 := Fin.ofNat 4 (p.val % 4)

/-- Receive group of a port. -/
def rxGroupOf (p : Fin 8) : Fin 5 := ⟨p.val % 4, by omega⟩

/-- Check 6 of R150. -/
def checkPattern (v : ChanDef) (s : State) : Option Reject :=
  refuseIf (v.duplex == 1 && !patternDefined v.tdd.toNat s) (badState 0x010B)

/-- Devices that the four device fields of a definition name (R143). -/
def namedDevices (v : ChanDef) (s : State) : List Nat :=
  [v.dl.rxDevice, v.dl.txDevice, v.ul.rxDevice, v.ul.txDevice].map (fun a => fieldAddress a s)

/-- The first test of check 7 of R150: every device field names this device or an address of the route table (R151, R626). -/
def checkPeers (v : ChanDef) (s : State) : Option Reject :=
  refuseIf ((namedDevices v s).any (fun a => !routeKnown a s)) (badState 0x0C0E)

/-- The rest of check 7 of R150: streams and links of the local ports. -/
def checkPorts7 (v : ChanDef) (s : State) : Option Reject :=
  let rx := v.dirs.flatMap (fun d => localRx (v.dir d) d s)
  let tx := v.dirs.flatMap (fun d => localTx (v.dir d) d s)
  firstOf [
    refuseIf ((rx ++ tx).any (fun p => (s.links.streams[p].rate).isNone)) (badState 0x010F),
    refuseIf (rx.any (fun p => s.links.rxGroups[rxGroupOf p] != .aligned) || tx.any (fun p => !s.links.txActive[portGroup p])) (badState 0x0107)]

/-- Usable bandwidth of a rate code in Hz (R133). -/
def usable : Option (Fin 4) → Nat
  | some 0 => 400000000
  | some 1 => 600000000
  | some 2 => 800000000
  | some 3 => 1200000000
  | none => 0

/-- A band at a centre fits a stream (R135). -/
def fitsStream (centre band streamCentre : Nat) (rate : Option (Fin 4)) : Bool :=
  decide (2 * ((centre : Int) - streamCentre).natAbs + band ≤ usable rate)

/-- Check 8 of R150. -/
def checkBands (v : ChanDef) (s : State) : Option Reject :=
  let band := occupied v.cls
  refuseIf (v.dirs.any (fun d =>
    (localRx (v.dir d) d s).any (fun p => !fitsStream (v.dir d).centre band s.links.streams[p].rxCentre s.links.streams[p].rate) ||
    (localTx (v.dir d) d s).any (fun p => !fitsStream (v.dir d).centre band s.links.streams[p].txCentre s.links.streams[p].rate))) (badParam 0x0102)

/-- Directions whose band House Rules refuse (R148). -/
def refusedDirs (v : ChanDef) (s : State) : List Dir :=
  v.dirs.filter (fun d => !bandAllowed s.hr.rules d (v.dir d).centre (occupied v.cls))

/-- Check 9 of R150. -/
def checkHouse (v : ChanDef) (s : State) : Option Reject := refuseIf (!(refusedDirs v s).isEmpty) (badParam 0x0104)

/-- Bands that overlap; bands that touch do not (R147). -/
def bandsOverlap (f1 b1 f2 b2 : Nat) : Bool := decide (2 * ((f1 : Int) - f2).natAbs < b1 + b2)

/-- Check 10 of R150: another channel's band on a transmit port of the same device (R147). -/
def checkOverlap (n : Nat) (v : ChanDef) (s : State) : Option Reject :=
  refuseIf (v.dirs.any (fun d => (liveDirs s).any (fun e =>
    let w := dirDef e.1 e.2 s
    e.1.val != n && e.2 == d && (w.tx &&& (v.dir d).tx) != 0 && fieldAddress w.txDevice s == fieldAddress (v.dir d).txDevice s &&
      bandsOverlap (v.dir d).centre (occupied v.cls) w.centre (occupied (chan e.1 s).defn.cls)))) (badParam 0x0103)

/-- Checks 6 to 10 of R150. -/
def checkPlace (n : Nat) (v : ChanDef) (s : State) : Option Reject :=
  firstOf [checkPattern v s, checkPeers v s, checkPorts7 v s, checkBands v s, checkHouse v s, checkOverlap n v s]

/-- A definition uses a local port (R146). -/
def usesPort (v : ChanDef) (p : Fin 8) (s : State) : Bool :=
  v.dirs.any (fun d => (localRx (v.dir d) d s).contains p || (localTx (v.dir d) d s).contains p)

/-- Check 11 of R150: the rate budget of every port the definition uses (R146). -/
def checkRates (v : ChanDef) (s : State) : Option Reject :=
  refuseIf ((List.finRange 8).any (fun p => usesPort v p s &&
    decide (streamRate s.links.streams[p].rate < channelRate v.cls +
      (((List.finRange 64).filter (fun c => (chan c s).state != .absent && usesPort (chan c s).defn p s)).map
        (fun c => channelRate (chan c s).defn.cls)).sum))) (some (.noResource, 0x0101))

/-- B_c (R149). -/
def slotFactor : Nat → Nat
  | 0 => 4
  | 1 => 4
  | 2 => 4
  | 3 => 6
  | 4 => 8
  | 5 => 12
  | _ => 16

/-- Pool slots of a direction (R149). -/
def slotsOf (cls : Nat) (df : DirDef) (d : Dir) (s : State) : Nat :=
  slotFactor cls * ((localRx df d s).length + (localTx df d s).length + 3)

/-- Pool slots of a definition. -/
def definitionSlots (v : ChanDef) (s : State) : Nat := (v.dirs.map (fun d => slotsOf v.cls (v.dir d) d s)).sum

/-- Both directions of a new channel planned on a board, with tap counts: the plans, or the detail. -/
def planBoth (v : ChanDef) (taps : Dir → Nat → Nat) (b : Board) (s : State) : Except Nat (List (Dir × Plan)) :=
  v.dirs.foldl (fun a d =>
    match a with
    | .error e => .error e
    | .ok ps =>
      let board := (ps.getLast?.map (fun p => p.2.board)).getD b
      match planDirection v.cls (v.dir d) v.wingMask (taps d) (fun _ => 0) 32 Assignment.reset board s with
      | .error e => .error e
      | .ok p => .ok (ps ++ [(d, p)])) (.ok [])

/-- Tap counts of a definition. -/
def definedTaps (v : ChanDef) (d : Dir) (_k : Nat) : Nat := (v.dir d).taps

/-- Detail of a plan that does not place; 0 when it does. -/
def planDetail (p : Except Nat (List (Dir × Plan))) : Nat :=
  match p with
  | .error e => e
  | .ok _ => 0

/-- Plans of a placement; none when there is none. -/
def plansOf (p : Except Nat (List (Dir × Plan))) : List (Dir × Plan) :=
  match p with
  | .error _ => []
  | .ok l => l

/-! ## CHANNEL_CREATE (R150, R163) -/

/-- A gain target outside 0-11000 or off the 10 grid (check 4 of R150). -/
def badInitialGain (v : ChanDef) : Bool := v.dirs.any (fun d => outside 0 11000 (v.dir d).gain || (v.dir d).gain % 10 != 0)

/-- Tap counts as CANCEL_CONFIGURE checks them (check 5 of R150). -/
def badInitialTaps (v : ChanDef) : Bool :=
  v.dirs.any (fun d => !((v.dir d).taps == 0 || (decide (16 ≤ (v.dir d).taps) && decide ((v.dir d).taps ≤ 256) && (v.dir d).taps % 16 == 0)))

/-- The channel exists, is being removed, or is being created (check 2 of R150). -/
def channelExists (n : Nat) (s : State) : Bool :=
  decide (n < 64) && ((chan (chanOf n) s).state != .absent || !(chan (chanOf n) s).asked.isEmpty)

/-- Checks 11 to 13 of R150. -/
def checkResources (v : ChanDef) (s : State) : Option Reject :=
  firstOf [checkRates v s, refuseIf (decide (s.pool.freeSlots < definitionSlots v s)) (some (.noResource, 0x0110)),
    refuseIf (planDetail (planBoth v (definedTaps v) (boardOf none s) s) != 0) (some (.noResource, planDetail (planBoth v (definedTaps v) (boardOf none s) s)))]

/-- Checks of CHANNEL_CREATE in the order of R150. -/
def checkChannelCreate (r : Running) (s : State) : Option Reject :=
  let x := r.desc
  let v := definitionOf x
  let n := dat x 0 1
  firstOf [checkBuffer false x, refuseIf (channelExists n s) (badState 0x0108), checkCodes n v,
    refuseIf (badInitialGain v) (badParam 0x010D), refuseIf (badInitialTaps v) (badParam 0x0201), checkPlace n v s, checkResources v s]

/-- A gain target of a definition under House Rules (R259). -/
def initialGain (v : ChanDef) (d : Dir) (s : State) : Int := min (v.dir d).gain (houseGain s.hr.rules d (v.dir d).centre (occupied v.cls))

/-- Paths of a new direction: every path of its masks takes the definition's tap count with automatic delay (R143, R180). -/
def newPaths (c : Fin 64) (d : Dir) (df : DirDef) (s : State) : Vector Path 16 :=
  Vector.ofFn (fun k =>
    if df.rx.getLsbD (k.val / 4) && df.tx.getLsbD (k.val % 4) then
      let t := throttleOf c d (Fin.ofNat 4 (k.val / 4)) s
      let n := tapsInUse df.taps t.1
      { Path.reset with par := { PathParams.reset with taps := df.taps }, taps := List.replicate n (0, 0), nEff := n, muShift := t.2 }
    else Path.reset)

/-- A direction at creation: counters cleared, epochs and sequence zero, MUTED with reason INITIAL and its start-up measurement in progress,
its first block at the next block boundary (R35, R55, R152, R202, R209). -/
def newDirection (c : Fin 64) (d : Dir) (v : ChanDef) (s : State) : Direction :=
  let df := v.dir d
  let cpb := countsPerBlock v.cls
  let m : Measurement := { openLoop := true, searching := true, pilot := -3000, searchMax := 255, start := 0, ring := none }
  { Direction.reset with
    baseCount := (basisNow s / cpb + 1) * cpb, slots := slotsOf v.cls df d s, paths := newPaths c d df s,
    stab := { Stability.reset with measuring := some m, par := { StabParams.reset with mReq := max 1200 s.hr.rules.mHr } },
    gain := { GainState.reset with gt := initialGain v d s, f := frontEnd d df (Vector.replicate 4 0) s }, gainCentre := df.centre }

/-- Records of the gate for the gain targets of a definition (R261). -/
def gateInitialGain (w op n : Nat) (v : ChanDef) (s : State) : State :=
  v.dirs.foldl (fun s d =>
    let g := initialGain v d s
    if g < (v.dir d).gain then gateClamped w 0 op n (dirCode d).toNat (v.dir d).gain g g s else s) s

/-- Engines taken for a new channel. -/
def buildChannel (c : Fin 64) (v : ChanDef) (s : State) : State :=
  (plansOf (planBoth v (definedTaps v) (boardOf none s) s)).foldl (fun s p =>
    buildPlan (asgOf c p.1) v.cls (latencyOf v.cls (v.dir p.1) s) v.wingMask p.2 (modAsg (asgOf c p.1) (fun _ => Assignment.reset) s)) s

/-- Result of CHANNEL_CREATE (R163). -/
def createResult (v : ChanDef) (s : State) : BitVec 128 :=
  result [(0, 2, if v.enables .dl then initialGain v .dl s else 0), (2, 2, if v.enables .ul then initialGain v .ul s else 0),
    (4, 2, definitionSlots v s)]

/-- The channel made on this device: engines and pool slots taken, the directions started, with this device's part of each (R149, R152). -/
def makeChannel (c : Fin 64) (v : ChanDef) (s : State) : State :=
  let slots := definitionSlots v s
  let s := buildChannel c v s
  let fresh (d : Dir) : Direction := if v.enables d then newDirection c d v s else Direction.reset
  let s := modChan c (fun _ => { Channel.reset with state := .active, defn := v, dl := fresh .dl, ul := fresh .ul }) s
  refreshHolds (refreshPortStops { s with pool := { s.pool with freeSlots := s.pool.freeSlots - slots } })

/-- Other devices that a definition names. -/
def definitionPeers (v : ChanDef) (s : State) : List Nat := ((namedDevices v s).filter (· != deviceAddress s)).eraseDups

/-- A message to each of some devices. -/
def tellPeers (l : List Nat) (m : ControlMsg) (s : State) : State := l.foldl (fun s a => sendControl a m s) s

/-- The definition in a buffer with this device's address in place of 0xFF, as another device reads it. -/
def sharedDefinition (x : Desc) (s : State) : List Byte :=
  (x.data.zipIdx).map (fun e => if 66 ≤ e.2 ∧ e.2 ≤ 69 ∧ e.1 = 0xFF then BitVec.ofNat 8 (deviceAddress s) else e.1)

/-- CHANNEL_CREATE past its checks: resources reserved and the directions started; it waits for their first blocks. -/
def beginChannelCreate (r : Running) (s : State) : Ans × State :=
  let x := r.desc
  let v := definitionOf x
  let n := dat x 0 1
  let c := chanOf n
  let clamped := v.dirs.any (fun d => decide (initialGain v d s < (v.dir d).gain))
  let s := gateInitialGain (writerOf x.ring.val) x.opcode.toNat n v s
  let res := createResult v s
  (awaitState { r with committed := true, clamped := clamped, result := res } 1 [], makeChannel c v s)

/-- The other devices that the definition names are asked for checks 7 to 12 on their ports (R151; log entry 161). -/
def askPeers (r : Running) (peers : List Nat) (s : State) : Ans × State :=
  let c := chanOf (dat r.desc 0 1)
  (awaitHardware r 2 [], tellPeers peers (.channelAsk c (sharedDefinition r.desc s))
    (modChan c (fun ch => { ch with asked := peers.map (Fin.ofNat 16), refusal := none }) s))

/-- Block sequence 0 of every enabled direction has left the synthesiser (R163); of one that another device transmits, that device says so. -/
def channelStarted (c : Fin 64) (s : State) : Bool :=
  bothDirs.all (fun d => !(chan c s).defn.enables d ||
    (if onTransmitDevice ((chan c s).defn.dir d) s then decide (1 ≤ (direction c d s).released) else (direction c d s).peerStarted))

/-- The refusals of CHANNEL_CREATE by House Rules leave their records (R261). -/
def recordRefusals (w op n : Nat) (v : ChanDef) (s : State) : State :=
  (refusedDirs v s).foldl (fun s d => gateRefused w 5 op n (dirCode d).toNat ((v.dir d).centre / 1000000 : Nat) 0 0 s) s

/-- A refusal with HR_FREQUENCY is recorded; others change nothing. -/
def refuseChannel (x : Desc) (e : Reject) (s : State) : Ans × State :=
  (refuse e, if e.2 = 0x0104 then recordRefusals (writerOf x.ring.val) x.opcode.toNat (dat x 0 1) (definitionOf x) s else s)

/-- Status of a code of R82 that a device may refuse a channel with. -/
def refusalStatus (k : Nat) : Status := if k = 0x10 then .rejectedParam else if k = 0x15 then .noResource else .rejectedState

/-- Every device asked has answered: one refusal is the command's, and the devices that made their part drop it; otherwise the checks are made once
more here and the channel begins (R151). -/
def endPeers (r : Running) (s : State) : Ans × State :=
  let c := chanOf (dat r.desc 0 1)
  let peers := definitionPeers (definitionOf r.desc) s
  match (chan c s).refusal with
  | some e => (refuse (refusalStatus e.1, e.2), tellPeers peers (.channelDrop c) (modChan c (fun ch => { ch with refusal := none }) s))
  | none =>
    match checkChannelCreate r s with
    | some e => refuseChannel r.desc e (tellPeers peers (.channelDrop c) s)
    | none => beginChannelCreate r s

/-- CHANNEL_CREATE (R163). -/
def opChannelCreate (r : Running) (s : State) : Ans × State :=
  if r.phase = 0 then
    match checkChannelCreate r s with
    | some e => refuseChannel r.desc e s
    | none =>
      match definitionPeers (definitionOf r.desc) s with
      | [] => beginChannelCreate r s
      | peers => askPeers r peers s
  else if r.phase = 2 then endPeers r s
  else
    let c := chanOf (dat r.desc 0 1)
    if (chan c s).state = .absent then (refuse (.rejectedState, detNoChannel), s)
    else (.final { status := if r.clamped then .clamped else .done, detail := 0, result := r.result, seq := some 0, data := [] }, s)

/-! ## CHANNEL_MODIFY (R153, R164) -/

/-- The definition a channel will have once the changes requested have taken effect. -/
def wantedDefinition (c : Fin 64) (s : State) : ChanDef :=
  let ch := chan c s
  let pending (d : Dir) : List Setting := (ch.dir d).config.pending
  bothDirs.foldl (fun v d => (pending d).foldl (fun v e =>
    match e with
    | .definition df tdd _ => { (v.setDir d { v.dir d with centre := df.centre, weight := df.weight, trim := df.trim }) with tdd := tdd }
    | _ => v) v) ch.defn

/-- A field that CHANNEL_MODIFY may not change differs (R153). -/
def notModifiable (v w : ChanDef) : Bool :=
  v.cls != w.cls || v.duplex != w.duplex || v.wingMask != w.wingMask ||
  bothDirs.any (fun d => (v.dir d).rx != (w.dir d).rx || (v.dir d).tx != (w.dir d).tx || (v.dir d).rxDevice != (w.dir d).rxDevice ||
    (v.dir d).txDevice != (w.dir d).txDevice)

/-- The definition CHANNEL_MODIFY asks for: bytes 24-31 are ignored (R153). -/
def modifiedDefinition (x : Desc) (w : ChanDef) : ChanDef :=
  let v := definitionOf x
  { v with dl := { v.dl with gain := w.dl.gain, taps := w.dl.taps }, ul := { v.ul with gain := w.ul.gain, taps := w.ul.taps } }

/-- Checks of CHANNEL_MODIFY in the order of R153. -/
def checkChannelModify (r : Running) (s : State) : Option Reject :=
  let x := r.desc
  let n := dat x 0 1
  let w := (chan (chanOf n) s).defn
  let v := modifiedDefinition x w
  firstOf [checkBuffer true x, noChannel n s, refuseIf (notModifiable v w) (badParam 0x010A), checkCodes n v, checkPlace n v s]

/-- Directions whose parameters CHANNEL_MODIFY changes (R154). -/
def changedDirs (v w : ChanDef) : List Dir :=
  v.dirs.filter (fun d => v.tdd != w.tdd || (v.dir d).centre != (w.dir d).centre || (v.dir d).weight != (w.dir d).weight ||
    (v.dir d).trim != (w.dir d).trim)

/-- CHANNEL_MODIFY past its checks: each changed direction takes a configuration epoch (R154). -/
def effectChannelModify (r : Running) (s : State) : Ans × State :=
  let x := r.desc
  let c := chanOf (dat x 0 1)
  let w := wantedDefinition c s
  let v := modifiedDefinition x w
  let dirs := changedDirs v w
  let mask : Nat := (if dirs.contains .dl then 1 else 0) + (if dirs.contains .ul then 2 else 0)
  if dirs.isEmpty then (doneWith 0, s)
  else
    let s' := dirs.foldl (fun s d =>
      requestChange c d .config [.definition (v.dir d) v.tdd ((v.dir d).centre != (w.dir d).centre)] (effOf x) s) s
    (awaitEpochs r ((List.range dirs.length).map (· + s.tickets)) false (result [(4, 1, mask)]), s')

/-- CHANNEL_MODIFY (R164). Its effective sequences are put into the result when its epochs have retired. -/
def opChannelModify (r : Running) (s : State) : Ans × State :=
  match checkChannelModify r s with
  | some e => refuseChannel r.desc e s
  | none => effectChannelModify r s

/-- Result of CHANNEL_MODIFY with the effective sequences of its epochs (R164). -/
def modifyResult (r : Running) : BitVec 128 :=
  let seqOf (k : Nat) : Nat := (r.epochs[k]?.bind (fun e => e.seq)).elim 0 (·.toNat)
  let mask := byteField r.result.toNat 4 1
  result [(0, 2, if mask % 2 = 1 then seqOf 0 else 0), (2, 2, if mask = 3 then seqOf 1 else if mask = 2 then seqOf 0 else 0), (4, 1, mask)]

/-! ## CHANNEL_REMOVE (R157, R165) -/

/-- Checks of CHANNEL_REMOVE. -/
def checkChannelRemove (r : Running) (s : State) : Option Reject :=
  firstOf [common false [(0, 1)] .none r.desc, noChannel (par r.desc 0 1) s]


/-- Blocks of a direction in flight: formed and not yet released. -/
def inFlight (x : Direction) : Nat := x.ordinal - x.released

/-- A direction after its channel's removal: its blocks are discarded and counted, its changes dropped (R55, R157). A change whose epoch a block
carried is not among those that never take effect (R42): removeChannel answers it first. -/
def removedDirection (x : Direction) : Direction :=
  { x with drop := x.drop + BitVec.ofNat 32 (inFlight x), released := x.ordinal, blocks := [], lateSeqs := [], slots := 0,
           rxChains := Vector.replicate 4 RxChain.reset, config := { x.config with stamped := none, lagging := [], waiting := [] },
           gainLine := { x.gainLine with stamped := none, lagging := [], waiting := [] },
           stab := { x.stab with measuring := none } }

/-- Changes of a direction whose epoch a block has carried, answered with that block's sequence (R42; log entry 154). -/
def answerStamped (c : Fin 64) (s : State) (d : Dir) : State :=
  [(direction c d s).config, (direction c d s).gainLine].foldl (fun s l => match l.stamped with
    | some st => retireTicket st.ticket (BitVec.ofNat 16 st.ordinal) s
    | none => s) s

/-- Other devices that a channel's definition names. -/
def channelPeers (c : Fin 64) (s : State) : List Nat := definitionPeers (chan c s).defn s

/-- A direction of the channel transmits on this device. -/
def transmitsHere (c : Fin 64) (s : State) : Bool := bothDirs.any (fun d => dirLive c d s && onTransmitDevice (dirDef c d s) s)

/-- A channel removed: blocks counted, engines and slots freed, the commands answered, other devices told (R42, R157; log entry 161). -/
def removeChannel (c : Fin 64) (s : State) : State :=
  let ch := chan c s
  let here := transmitsHere c s
  let peers := channelPeers c s
  let s := bothDirs.foldl (answerStamped c) s
  let s := modChan c (fun ch => { ch with state := .absent, dl := removedDirection ch.dl, ul := removedDirection ch.ul, removeDue := false }) s
  let s := releaseAsg (asgOf c .ul) (releaseAsg (asgOf c .dl) s)
  let s := { s with pool := { s.pool with freeSlots := s.pool.freeSlots + ch.dl.slots + ch.ul.slots } }
  let s := if here then tellPeers peers (.channelGone c) s else s
  wakeCommands 0x0112 (fun r => par r.desc 0 1 == c.val) [(inFlight ch.dl : Nat), (inFlight ch.ul : Nat)] s

/-- The removal begins on this device: it takes effect at the first block deadline here; where no direction transmits here, when a device that
transmits one says so, and at once where none can be reached (R157, R165). -/
def startRemoval (c : Fin 64) (s : State) : State :=
  let s := modChan c (fun ch =>
    { ch with state := .removing, removeDue := true, dl := { ch.dl with rampDown := true }, ul := { ch.ul with rampDown := true } }) s
  if transmitsHere c s || (channelPeers c s).any (fun a => routeKnown a s) then s else removeChannel c s

/-- CHANNEL_REMOVE past its checks: it takes effect at the first block deadline; the other devices of the channel are told. -/
def beginChannelRemove (r : Running) (s : State) : Ans × State :=
  let c := chanOf (par r.desc 0 1)
  let f := (inFlight (chan c s).dl, inFlight (chan c s).ul)
  let s := startRemoval c (tellPeers (channelPeers c s) (.channelDrop c) s)
  if (chan c s).state = .absent then (doneWith (result [(0, 4, f.1), (4, 4, f.2)]), s)
  else (awaitHardware { r with committed := true } 1 [], s)

/-- CHANNEL_REMOVE (R165). -/
def opChannelRemove (r : Running) (s : State) : Ans × State :=
  if r.phase = 0 then guarded checkChannelRemove beginChannelRemove r s
  else (doneWith (result [(0, 4, r.results.getD 0 0), (4, 4, r.results.getD 1 0)]), s)

/-! ## What the devices of a channel tell each other (R151, R157, R163; log entry 161) -/

/-- Another device asks for its part of a channel: checks 7 to 12 for the ports of this device, its engines, and the part is made. -/
def arriveAsk (a : Nat) (c : Fin 64) (bytes : List Byte) (s : State) : State :=
  let v := definitionOf (bufferOf bytes)
  match firstOf [refuseIf (channelExists c.val s) (badState 0x0108), checkPorts7 v s, checkBands v s, checkHouse v s, checkOverlap c.val v s,
      checkResources v s] with
  | some e => sendControl a (.channelAnswer c e.1.code e.2) s
  | none => sendControl a (.channelAnswer c 0 0) (makeChannel c v s)

/-- A device that was asked answers; with the last answer the command goes on. -/
def arriveAnswer (a : Nat) (c : Fin 64) (status detail : Nat) (s : State) : State :=
  if (chan c s).asked.contains (Fin.ofNat 16 a) then
    let s := modChan c (fun ch =>
      { ch with asked := ch.asked.filter (· != Fin.ofNat 16 a),
                refusal := if status = 0 then ch.refusal else some (ch.refusal.getD (status, detail)) }) s
    if (chan c s).asked.isEmpty then wakeCommands 0x0110 (fun r => dat r.desc 0 1 == c.val) [] s else s
  else s

/-- Another device removes the channel. -/
def arriveDrop (c : Fin 64) (s : State) : State := if (chan c s).state = .active then startRemoval c s else s

/-- A device that transmits a direction of the channel has removed its part. -/
def arriveGone (c : Fin 64) (s : State) : State :=
  if (chan c s).state = .removing ∧ !transmitsHere c s then removeChannel c s else s

/-! ## CHANNEL_STATUS (R166) -/

/-- Code of a channel state (R166). -/
def ChanState.code : ChanState → Nat
  | .absent => 0
  | .active => 1
  | .removing => 2

/-- E_tx in ns by stream rate code (R142). -/
def edgeNs : Option (Fin 4) → Nat
  | some 0 => 330
  | some 1 => 250
  | some 2 => 210
  | some 3 => 170
  | none => 330

/-- Through-latency of a direction to its lowest-numbered transmit port, in ns (R142). -/
def throughLatency (c : Fin 64) (d : Dir) (s : State) : Nat :=
  match (dirDef c d s).txPorts d with
  | [] => 0
  | p :: _ => (roundDiv ((effLatency c d s * 100000 + edgeNs s.links.streams[p].rate * 3072 : Nat) : Int) 3072).toNat

/-- Direction record of CHANNEL_STATUS. -/
def statusRecord (c : Fin 64) (d : Dir) (s : State) : List Byte :=
  let x := direction c d s
  let flags : Nat := (if dirLive c d s then 1 else 0) + (if x.hostMuted then 2 else 0) + (if x.allMuted then 4 else 0)
  payload 28 [(0, 1, flags), (1, 1, x.config.epoch.toNat), (2, 1, x.gainLine.epoch.toNat),
    (4, 2, ((x.ordinal + 65535) % 65536 : Nat)), (6, 2, x.slots), (8, 4, (x.ordinal % 2 ^ 32 : Nat)), (12, 4, x.drop.toNat),
    (16, 4, x.late.toNat), (20, 4, x.crcErrs.toNat), (24, 2, throughLatency c d s)]

/-- Checks of CHANNEL_STATUS. -/
def checkChannelStatus (r : Running) (_s : State) : Option Reject :=
  firstOf [common false [(0, 1)] (.exactly 64) r.desc, refuseIf (decide (63 < par r.desc 0 1)) (badParam detBadField)]

/-- CHANNEL_STATUS past its checks. -/
def effectChannelStatus (r : Running) (s : State) : Ans × State :=
  let c := chanOf (par r.desc 0 1)
  let ch := chan c s
  (doneData 0 (payload 4 [(0, 1, c.val), (1, 1, ch.defn.cls), (2, 1, ch.defn.duplex), (3, 1, ch.state.code)] ++ statusRecord c .dl s ++
    statusRecord c .ul s ++ payload 4 [(0, 4, (frameCount s).toNat)]), s)

/-- CHANNEL_STATUS (R166). -/
def opChannelStatus (r : Running) (s : State) : Ans × State := guarded checkChannelStatus effectChannelStatus r s

/-! ## CHANNEL_MUTE (R167) -/

/-- Host mute that a direction will have once the changes requested have taken effect. -/
def wantedMute (x : Direction) : Bool :=
  ((pendingGain x).filterMap (fun e => match e with
    | .hostMute m => some m
    | _ => none)).getLast?.getD x.hostMuted

/-- Checks of CHANNEL_MUTE. -/
def checkChannelMute (r : Running) (s : State) : Option Reject :=
  let x := r.desc
  firstOf [common true [(0, 3)] .none x, refuseIf (decide (3 < par x 1 1)) (badParam detReserved), noChannel (par x 0 1) s,
    refuseIf (decide (1 < par x 2 1)) (badParam detBadField)]

/-- Directions whose host mute CHANNEL_MUTE changes. -/
def muteDirs (x : Desc) (s : State) : List Dir :=
  bothDirs.filter (fun d => (par x 1 1).testBit (dirCode d).toNat && dirLive (chanOf (par x 0 1)) d s &&
    wantedMute (direction (chanOf (par x 0 1)) d s) != (par x 2 1 == 1))

/-- CHANNEL_MUTE past its checks: each changed direction takes a gain epoch. -/
def effectChannelMute (r : Running) (s : State) : Ans × State :=
  let x := r.desc
  let c := chanOf (par x 0 1)
  let dirs := muteDirs x s
  if dirs.isEmpty then (doneWith 0, s)
  else
    (awaitEpochs r ((List.range dirs.length).map (· + s.tickets)) false 0,
      dirs.foldl (fun s d => requestChange c d .gain [.hostMute (par x 2 1 == 1)] (effOf x) s) s)

/-- CHANNEL_MUTE (R167). -/
def opChannelMute (r : Running) (s : State) : Ans × State := guarded checkChannelMute effectChannelMute r s

end Sys2Proof.Machine
end

