-- ==== Sys2Proof/Machine/Crypto.lean ====
section
/-! DEFINITION. SHA-256 and the verification of ECDSA P-256 signatures (R311, R550, R582, R593, R600), as the public standards the
manual names define them. -/

namespace Sys2Proof.Machine

/-! ## SHA-256 -/

/-- The largest number whose k-th power is at most x, found bit by bit below 2^n. -/
def powerRoot (k x : Nat) : Nat → Nat
  | 0 => 0
  | n + 1 =>
    let high := powerRoot k x n
    -- high holds the bits found so far, of a root of x without its lowest digits
    let next := 2 * high + 1
    if next ^ k * 2 ^ (k * (35 - n)) ≤ x then next else 2 * high

/-- Primes below a number. -/
def primesBelow (n : Nat) : List Nat := (List.range n).filter (fun p => decide (2 ≤ p) && (List.range 16).all (fun d => decide (d + 2 ≥ p) || p % (d + 2) != 0))

/-- First 32 bits of the fractional part of the k-th root of a number below 4096. -/
def rootFraction (k p : Nat) : Word := BitVec.ofNat 32 (powerRoot k (p * 2 ^ (32 * k)) 36)

/-- Round constants of SHA-256: from the cube roots of the first 64 primes. -/
def shaK : List Word := (primesBelow 312).map (rootFraction 3)

/-- Initial hash value of SHA-256: from the square roots of the first eight primes. -/
def shaInit : List Word := (primesBelow 20).map (rootFraction 2)

/-- Element of a list of words. -/
def wordAt (l : List Word) (i : Nat) : Word := l.getD i 0

/-- Sum modulo 2 of a word's rotations. -/
def rotations (l : List Nat) (x : Word) : Word := l.foldl (fun a n => a ^^^ x.rotateRight n) 0

/-- The next word of the message schedule, from the words before it, newest first. -/
def shaNext (w : List Word) : Word :=
  let old := wordAt w 14
  let new := wordAt w 1
  (rotations [7, 18] old ^^^ old >>> 3) + (rotations [17, 19] new ^^^ new >>> 10) + wordAt w 6 + wordAt w 15

/-- Message schedule, newest first, extended n times. -/
def shaExtend : Nat → List Word → List Word
  | 0, w => w
  | n + 1, w => shaExtend n (shaNext w :: w)

/-- Bits of the second word where the first has 1, of the third elsewhere. -/
def bitChoice (x y z : Word) : Word := z ^^^ (x &&& (y ^^^ z))

/-- One round on the eight working words: all move one place, a new first one enters and the fourth gains the round's term. -/
def shaRound (v : List Word) (kw : Word) : List Word :=
  let w (i : Nat) : Word := wordAt v i
  let term := kw + w 7 + rotations [6, 11, 25] (w 4) + bitChoice (w 4) (w 5) (w 6)
  let majority := bitChoice (w 0 ^^^ w 1) (w 2) (w 0)
  (term + rotations [2, 13, 22] (w 0) + majority) :: (v.take 3 ++ [w 3 + term] ++ (v.drop 4).take 3)

/-- The number that bytes spell, most significant byte first. -/
def beNat (bs : List Byte) : Nat := bs.foldl (fun a b => 256 * a + b.toNat) 0

/-- A number as len bytes, most significant first. -/
def beBytes (len x : Nat) : List Byte := (leBytes len x).reverse

/-- Consecutive pieces of n elements. -/
def pieces {α : Type} (n count : Nat) (l : List α) : List (List α) := (List.range count).map (fun i => (l.drop (n * i)).take n)

/-- One 64-byte piece of the message. -/
def shaBlock (h : List Word) (blk : List Byte) : List Word :=
  let w := (pieces 4 16 blk).map (fun b => BitVec.ofNat 32 (beNat b))
  let w := (shaExtend 48 w.reverse).reverse
  let v := (List.zipWith (· + ·) w shaK).foldl shaRound h
  List.zipWith (· + ·) h v

/-- SHA-256 of bytes, 32 bytes. -/
def sha256 (bs : List Byte) : List Byte :=
  let zeros := (119 - bs.length % 64) % 64
  let msg := bs ++ [0x80] ++ List.replicate zeros 0 ++ beBytes 8 (8 * bs.length)
  ((pieces 64 (msg.length / 64) msg).foldl shaBlock shaInit).flatMap (fun w => beBytes 4 w.toNat)

/-! ## ECDSA P-256 -/

/-- Field prime of P-256. -/
def p256P : Nat := 0xffffffff00000001000000000000000000000000ffffffffffffffffffffffff
/-- Group order of P-256. -/
def p256N : Nat := 0xffffffff00000000ffffffffffffffffbce6faada7179e84f3b9cac2fc632551
/-- Coefficient b of P-256. -/
def p256B : Nat := 0x5ac635d8aa3a93e7b3ebbd55769886bc651d06b0cc53b0f63bce3c3e27d2604b
/-- Generator of P-256. -/
def p256G : Nat × Nat :=
  (0x6b17d1f2e12c4247f8bce6e563a440f277037d812deb33a0f4a13945d898c296,
   0x4fe342e2fe1a7f9b8ee7eb4a7c0f9e162bce33576b315ececbb6406837bf51f5)

/-- a ^ e modulo m over the n low bits of e, from the top. -/
def powMod (m a e : Nat) : Nat → Nat
  | 0 => 1 % m
  | n + 1 =>
    -- the bits above the lowest, then the lowest
    let r := powMod m a (e / 2) n
    if e % 2 = 1 then r * r % m * a % m else r * r % m

/-- Inverse modulo a 256-bit prime. -/
def invMod (m a : Nat) : Nat := powMod m a (m - 2) 256

/-- A point in Jacobian coordinates; z = 0 is the point at infinity. -/
abbrev JPoint := Nat × Nat × Nat

/-- a - b modulo the prime. -/
def subP (a b : Nat) : Nat := (a + p256P - b % p256P) % p256P

/-- Doubling. -/
def jDouble (q : JPoint) : JPoint :=
  let (x, y, z) := q
  if z = 0 ∨ y = 0 then (1, 1, 0)
  else
    let yy := y * y % p256P
    let s := 4 * x * yy % p256P
    let zz := z * z % p256P
    let m := 3 * (subP x zz) * (x + zz) % p256P
    let x' := subP (m * m) (2 * s)
    (x', subP (m * subP s x') (8 * yy * yy), 2 * y * z % p256P)

/-- Addition. -/
def jAdd (a b : JPoint) : JPoint :=
  let (x1, y1, z1) := a
  let (x2, y2, z2) := b
  if z1 = 0 then b
  else if z2 = 0 then a
  else
    let z1z := z1 * z1 % p256P
    let z2z := z2 * z2 % p256P
    let u1 := x1 * z2z % p256P
    let u2 := x2 * z1z % p256P
    let s1 := y1 * z2 % p256P * z2z % p256P
    let s2 := y2 * z1 % p256P * z1z % p256P
    let h := subP u2 u1
    let r := subP s2 s1
    if h = 0 then (if r = 0 then jDouble a else (1, 1, 0))
    else
      let hh := h * h % p256P
      let hhh := h * hh % p256P
      let v := u1 * hh % p256P
      let x3 := subP (subP (r * r) hhh) (2 * v)
      (x3, subP (r * subP v x3) (s1 * hhh), h * z1 % p256P * z2 % p256P)

/-- k times a point over the n low bits of k. -/
def jMul (q : JPoint) (k : Nat) : Nat → JPoint
  | 0 => (1, 1, 0)
  | n + 1 =>
    let r := jDouble (jMul q (k / 2) n)
    if k % 2 = 1 then jAdd r q else r

/-- A key's coordinates are a point of the curve. -/
def onCurve (x y : Nat) : Bool :=
  decide (x < p256P) && decide (y < p256P) && y * y % p256P == (x * x % p256P * x + p256B + 3 * subP 0 x) % p256P

/-- ECDSA P-256: signature (r, s) of a message over SHA-256 under a key of X then Y; the four fields are little-endian under R19
(log entry 35). -/
def ecdsaVerify (key msg sig : List Byte) : Bool :=
  let x := ofBytes (key.take 32)
  let y := ofBytes ((key.drop 32).take 32)
  let r := ofBytes (sig.take 32)
  let s := ofBytes ((sig.drop 32).take 32)
  if r = 0 ∨ s = 0 ∨ p256N ≤ r ∨ p256N ≤ s ∨ onCurve x y = false then false
  else
    let w := invMod p256N s
    let e := beNat (sha256 msg) % p256N
    let q := jAdd (jMul (p256G.1, p256G.2, 1) (e * w % p256N) 256) (jMul (x, y, 1) (r * w % p256N) 256)
    if q.2.2 = 0 then false
    else
      let zi := invMod p256P q.2.2
      q.1 * (zi * zi % p256P) % p256P % p256N == r

end Sys2Proof.Machine
end

