-- ==== Sys2Proof/Machine/Life.lean ====
section
/-! DEFINITION. Service life: consumed life and the LIFE record (R485, R487). -/

namespace Sys2Proof.Machine

/-- Count at which the operating time reaches an instant in µs (R532). -/
def opInstant (us : Nat) (s : State) : Nat := ceilDiv (768 * (us - s.opBase)) 25

/-- Counter units of one equivalent hour: 2^-20 of a slow tick at weight 1. -/
def lifeUnits : Nat := 3600000 * 2 ^ 20

/-- Region with the most equivalent hours: 0-15 wings, 16-23 TS16-TS23. -/
def worstRegion (s : State) : Fin 24 :=
  (List.finRange 24).foldl (fun a r => if s.thermal.life[a] < s.thermal.life[r] then r else a) 0

/-- Consumed life in 0.01 %: the worst region's hours over 350 640 h (R485). -/
def consumedLife (s : State) : Nat := s.thermal.life[worstRegion s] * 10000 / (lifeUnits * 350640)

/-- Highest temperature of the last 24 operating hours (R487). -/
def hottest (s : State) : Int :=
  match s.thermal.hot with
  | [] => 0
  | h :: t => t.foldl (fun a e => max a e.2) h.2

/-- Payload of a LIFE record (R487); retired is the engine retired. -/
def lifePayload (retired : Option (Fin 256)) (s : State) : List Byte :=
  let w := worstRegion s
  payload 16 [(0, 4, (s.thermal.life[w] / lifeUnits : Nat)), (4, 2, min 0xFFFF (consumedLife s)), (6, 1, w.val), (7, 1, retired.elim 0xFF (·.val)),
    (8, 2, satInt 16 (hottest s)), (10, 2, (s.thermal.aging.toList.foldl max 0 : Nat)), (12, 2, min 0xFFFF s.thermal.critTotal)]

/-- A LIFE record of a code (R487). -/
def lifeRecord (code : Nat) (retired : Option (Fin 256)) (s : State) : State :=
  logRecord 7 0 (writerSource deviceWriter) code (lifePayload retired s) [] s

end Sys2Proof.Machine
end

