-- ==== Sys2Proof/Machine/Engines.lean ====
section
/-! DEFINITION. The engine pool: its commands (R315-R323), migration (R300-R304), checks and takeover (R305-R309), the placement loop
(R293-R299, R310), catalogue updates (R311-R313). -/

namespace Sys2Proof.Machine

/-! ## Migration -/

/-- A segment is being moved. -/
def segmentMoving (a : Fin 256) (g : Segment) (s : State) : Bool :=
  s.eng.migrations.any (fun m => m.asg == a && m.moves.any (fun v => v.1 == g))

/-- Channel and direction of an assignment of a direction (R288). -/
def asgDir (a : Fin 256) : Fin 64 × Dir := (Fin.ofNat 64 (a.val / 2), if a.val % 2 = 1 then .ul else .dl)

/-- Blocks that RELAY takes to fill a wing's histories for CANCEL segments: H_j of the longest path (R182, R300 step 2). -/
def historyBlocks (a : Fin 256) (segs : List Segment) (s : State) : Nat :=
  let (c, d) := asgDir a
  let x := s.eng.asgs[a]
  ((segs.filter (fun g => g.kernel == 0)).map (fun g =>
    historyBytes x.cls (latencyOf x.cls (dirDef c d s) s) (bulkDelays c d s g.path) (configuredTaps c d s g.path) / 256)).foldl max 0

/-- Those of the segments that change wing. -/
def historyFill (a : Fin 256) (moves : List (Segment × Fin 256)) (s : State) : Nat :=
  historyBlocks a ((moves.filter (fun v => v.1.engine.any (fun e => wingOf e != wingOf v.2))).map (·.1)) s

/-- Blocks of a direction's assignment so far; 0 for a standalone one. -/
def asgOrdinal (a : Fin 256) (s : State) : Nat := if a.val < 128 then (direction (asgDir a).1 (asgDir a).2 s).ordinal else 0

/-- A migration starts: its targets enter SHADOW and their budget is reserved (R300 step 1). -/
def startMigration (m : Migration) (s : State) : State :=
  let targets := m.moves.map (·.2)
  let m := { m with wasSpare := targets.filter (fun e => s.eng.engines[e].state == .spare), since := asgOrdinal m.asg s, fill := historyFill m.asg m.moves s }
  targets.foldl (fun s e => modEngine e (fun e => { e with state := .shadow }) s) { s with eng := { s.eng with migrations := s.eng.migrations ++ [m] } }

/-- A migration that the placement loop, MIGRATE or a new wing_mask decides on. -/
def beginMigration (a : Fin 256) (moves : List (Segment × Fin 256)) (ringOf : Option (Fin 22)) (s : State) : State :=
  startMigration { asg := a, moves := moves, step := .copying, startBlock := 0, ring := ringOf, wasSpare := [], comparator := Comparator.reset, since := 0,
                   fill := 0, upgrade := none, agree := true, ticket := none } s

/-- The migration whose first target is an engine. -/
def migrationOf (e : Fin 256) (s : State) : Option Migration := s.eng.migrations.find? (fun m => m.moves.any (fun v => v.2 == e))

/-- A migration changed. -/
def modMigration (e : Fin 256) (f : Migration → Migration) (s : State) : State :=
  { s with eng := { s.eng with migrations := s.eng.migrations.map (fun m => if m.moves.any (fun v => v.2 == e) then f m else m) } }

/-- Target for one segment (R298): same class with budget, the same wing first; a CANCEL segment stays in its wing (R289); a spare of the
wing when no other engine takes it. only restricts the wing. -/
def findTarget (a : Fin 256) (g : Segment) (only : Option (Fin 16)) (s : State) : Option (Fin 256) :=
  match g.engine with
  | none => none
  | some src =>
    let b := boardOf none s
    let cls := s.eng.asgs[a].cls
    let fits (e : Fin 256) : Bool := e != src && b.usable cls e && decide (b.load[e] + g.cost ≤ planBudget s)
    let own := wingEngines (wingOf src)
    let others := if g.kernel = 0 then [] else (maskWings s.eng.asgs[a].wingMask).flatMap wingEngines
    let cands := (own ++ others).filter (fun e => only.all (fun w => wingOf e == w))
    ((cands.find? fits).or (cands.find? (fun e => s.eng.engines[e].state == .spare && e != src && wingOf e == wingOf src)))

/-- Relays, memory and histories of an assignment brought up to date after segments moved (R290 step 4). -/
def settleAsg (a : Fin 256) (s : State) : State :=
  let (c, d) := asgDir a
  if a.val < 128 ∧ dirLive c d s then
    let x := s.eng.asgs[a]
    let wingNow (m : MemUse) : Fin 16 :=
      match x.segs.find? (fun g => g.kernel == m.kernel && g.inst == m.inst && g.engine.isSome) with
      | some g => g.engine.elim m.wing wingOf
      | none => m.wing
    let old := { x with mem := x.mem.map (fun m => if m.kernel = 7 then m else { m with wing := wingNow m }) }
    let df := dirDef c d s
    match planDirection x.cls df x.wingMask (configuredTaps c d s) (bulkDelays c d s) x.tSh old (boardOf (some a) s) s with
    | .ok p => buildPlan a x.cls (latencyOf x.cls df s) x.wingMask p s
    | .error _ => refreshEngines s
  else refreshEngines s

/-- Segments of an assignment put on the engines of a list of moves. -/
def moveSegments (a : Fin 256) (moves : List (Segment × Fin 256)) (s : State) : State :=
  modAsg a (fun x => { x with segs := x.segs.map (fun g => match moves.find? (fun v => v.1 == g) with
    | some v => { g with engine := some v.2 }
    | none => g) }) s

/-- A block stands at the input of a kernel's instance or has just left it; only CANCEL is one instance per port. The other kernels' blocks are copies. -/
def atKernel (kernel inst : Nat) (b : Block) : Bool :=
  match kernel, b.stage with
  | 0, .channelised | 0, .cancelled => b.port.val % 4 == inst
  | 2, .cancelled | 2, .combined => true
  | 3, .combined | 3, .gained => true
  | 6, .combined => true
  | _, _ => false

/-- Block q waits at the input of every segment of a list of moves (R300 step 6); kernels that take copies hold none back. -/
def blockWaits (a : Fin 256) (moves : List (Segment × Fin 256)) (q : Half) (s : State) : Bool :=
  let (c, d) := asgDir a
  decide (128 ≤ a.val) || moves.all (fun v => !(v.1.kernel == 0 || v.1.kernel == 2 || v.1.kernel == 3) || (direction c d s).blocks.any (fun b =>
    b.sequence == q && atKernel v.1.kernel v.1.inst b && (match v.1.kernel, b.stage with
      | 0, .cancelled | 2, .combined | 3, .gained => false
      | _, _ => true)))

/-- Block q marked by the dispatcher of the segments: output ownership changes there (R302). -/
def markBlock (a : Fin 256) (moves : List (Segment × Fin 256)) (q : Half) (s : State) : State :=
  let (c, d) := asgDir a
  if 128 ≤ a.val then s
  else modDir c d (fun x => { x with blocks := x.blocks.map (fun b =>
    if b.sequence = q ∧ moves.any (fun v => atKernel v.1.kernel v.1.inst b) then { b with migrateMark := true } else b) }) s

/-- Sources of a migration. -/
def Migration.sources (m : Migration) : List (Fin 256) := (m.moves.filterMap (fun v => v.1.engine)).eraseDups

/-- Output switches to the targets at block q (R300 steps 6 and 7): a migration that a command does not await is done here. -/
def finishMigration (m : Migration) (q : Half) (s : State) : State :=
  let s := { s with eng := { s.eng with migrations := s.eng.migrations.filter (· != m), migrationCount := s.eng.migrationCount + 1 } }
  let s := m.moves.foldl (fun s v => modEngine v.2 (fun e => { e with state := .active }) s) s
  let s := m.sources.foldl (fun s e => modEngine e (fun x => { x with migrationsOut := satAdd 16 x.migrationsOut 1, attributed := false }) s) s
  let s := settleAsg m.asg (markBlock m.asg m.moves q (moveSegments m.asg m.moves s))
  let s := match m.upgrade with
    | some (k, v) => modAsg m.asg (fun x => { x with versions := upd x.versions k (fun _ => v) }) s
    | none => s
  let first := m.moves.head?
  let bytes := payload 16 [(0, 2, m.asg.val), (2, 2, (first.bind (fun v => v.1.engine)).elim 0xFFFF (·.val)),
    (4, 2, first.elim 0xFFFF (fun v => (v.2.val : Int))), (6, 2, q.toNat)]
  let s := postEvent 0x0401 0 0xFFFF bytes s
  match m.ring with
  | some r => hardwareDone r.val m.askedBy [0, q.toNat, (q - m.startBlock).toNat, first.elim 0 (fun v => (v.2.val : Int)), ((m.moves.map (·.2)).eraseDups.length : Nat)] s
  | none => s

/-- MIGRATION_COPY_DONE (R300 steps 2 to 4): once the histories are filled and the state is copied, shadow processing starts with the block after the copy.
An upgrade without agreement now asks for its configuration epoch (R313). -/
def execMigrationCopyDone (e : Fin 256) (block : Half) (s : State) : Host.Outcome State Fault Refusal :=
  .next (match migrationOf e s with
    | some m =>
      if m.step ≠ .copying ∨ asgOrdinal m.asg s < m.since + m.fill then s
      else
        let t := modMigration e (fun m => { m with step := .shadow, startBlock := block + 1, comparator := Comparator.reset,
                                                   ticket := if m.agree then none else some s.tickets }) s
        match m.upgrade with
        | some (k, v) =>
          if m.agree ∨ 128 ≤ m.asg.val then t else requestChange (asgDir m.asg).1 (asgDir m.asg).2 .config [.kernels m.asg 1 k [(v : Nat)]] none t
        | none => t
    | none => s)

/-- The deadline of a direction's block has passed (R45); a device that does not transmit the direction goes by the clock. -/
def pastDeadline (c : Fin 64) (d : Dir) (ordinal : Nat) (s : State) : Bool :=
  let x := direction c d s
  if onTransmitDevice (dirDef c d s) s then decide (ordinal < x.released)
  else decide (fromBasis (x.baseCount + ordinal * countsPerBlock (chan c s).defn.cls + effLatency c d s) s < s.now)

/-- A copy whose block's deadline has passed: the target's output has lost its arbitration (R301). -/
def copyLate (a : Fin 256) (v : LiveCopy) (s : State) : Bool :=
  decide (a.val < 128) && pastDeadline (asgDir a).1 (asgDir a).2 v.ordinal s

/-- Consecutive agreements: a target output that is late makes them start again (R301). -/
def agreements (a : Fin 256) (m : Comparator) (s : State) : Nat := if m.copies.any (fun v => copyLate a v s) then 0 else m.agreed

/-- A live output for the comparator (R300 step 5). -/
def Comparator.keep (v : LiveCopy) (m : Comparator) : Comparator := { m with copies := m.copies ++ [v], seen := m.seen + 1, last := v.sequence }

/-- The output of a shadow engine for a block: mirrored, with what differs in it. -/
def shadowWords (c : Fin 64) (d : Dir) (upset : BitVec 128) (differs : BitVec 32) (b : Block) : BitVec 128 × List Sample :=
  let b := { b with mirrored := true }
  let first := b.samples.take 1
  (waybill c d b ^^^ upset, first.map (fun x => { i := x.i ^^^ differs.extractLsb' 0 16, q := x.q ^^^ differs.extractLsb' 16 16 }) ++ b.samples.drop 1)

/-- Bit for bit the same as the live output, waybill included except for mirrored, and what mirrored makes of the check (R300 step 5). -/
def sameWords (c : Fin 64) (d : Dir) (w : BitVec 128 × List Sample) (b : Block) : Bool :=
  w.1 ^^^ waybill c d { b with mirrored := true } ^^^ waybill c d b == waybill c d b && w.2 == b.samples

/-- The comparator waits for an output of an engine. -/
def Comparator.awaits (e : Fin 256) (m : Comparator) : Bool := m.copies.any (fun v => v.waits.contains e)

/-- A shadow engine's output for its oldest copy reaches the comparator (R300 step 5, R301): a late one is counted, and the count of agreements starts
again, as it does after a difference. A block agrees when the outputs of all its engines do. -/
def Comparator.meet (e : Fin 256) (late same : LiveCopy → Bool) (m : Comparator) : Comparator :=
  match m.copies.find? (fun v => v.waits.contains e) with
  | none => m
  | some v =>
    let ok := !late v && same v
    let w := { v with waits := v.waits.erase e, failed := v.failed || !ok }
    { m with
      copies := (m.copies.map (fun x => if x = v then w else x)).filter (fun x => !x.waits.isEmpty),
      agreed := if !ok then 0 else if w.waits.isEmpty && !w.failed then m.agreed + 1 else m.agreed,
      late := if late v then m.late + 1 else m.late }

/-- A shadow engine's output agrees with a copy. -/
def sameOutput (c : Fin 64) (d : Dir) (upset : BitVec 128) (differs : BitVec 32) (v : LiveCopy) : Bool :=
  if v.out.isEmpty then upset == 0 && differs == 0 else v.out.all (fun b => sameWords c d (shadowWords c d upset differs b) b)

/-- MIGRATION_SWITCH (R300 step 6): block q, the first dispatched after agree_blocks agreements, goes to the target as live. -/
def execMigrationSwitch (e : Fin 256) (q : Half) (s : State) : Host.Outcome State Fault Refusal :=
  .next (match migrationOf e s with
    | some m =>
      if m.step = .shadow ∧ m.agree ∧ s.eng.policy.agreeBlocks ≤ agreements m.asg m.comparator s ∧ q = m.comparator.last + 1 ∧ blockWaits m.asg m.moves q s
      then finishMigration m q s else s
    | none => s)

/-- MIGRATION_LIMIT (R303): no run of agreements within migrate_limit blocks: the target runs its self-test and the command ends with DISAGREE. -/
def execMigrationLimit (e : Fin 256) (s : State) : Host.Outcome State Fault Refusal :=
  .next (match migrationOf e s with
    | some m =>
      if m.step = .shadow ∧ m.agree ∧ s.eng.policy.migrateLimit ≤ m.comparator.seen ∧ agreements m.asg m.comparator s < s.eng.policy.agreeBlocks then
        endMigrate m 0x040A (modMigration e (fun m => { m with step := .selfTest, ring := none }) s)
      else s
    | none => s)

/-! ## Checks and takeover -/

/-- An engine retired for good, with its event, LIFE record and place in the calibration store (R307, R308, R324). -/
def retireEngine (e : Fin 256) (cause : Nat) (s : State) : State :=
  let s := modEngine e (fun x => { x with state := .retired, notice := false }) s
  lifeRecord 3 (some e) (postEvent 0x0403 2 0xFFFF (payload 16 [(0, 2, e.val), (2, 1, cause)]) s)

/-- Any fault source holds a MUTE on an object (R509). -/
def faultMutes (obj : Half) (s : State) : Bool := s.faults.srcs.toList.any (fun f => f.heldMute.contains obj)

/-- Segments of a direction that no engine runs (R309). -/
def unplaced (a : Fin 256) (s : State) : List Segment := s.eng.asgs[a].segs.filter (fun g => g.engine.isNone)

/-- A FAULT_REACTION mute ends when nothing that put it in force still holds (R262, R309, R509). -/
def endFaultMute (c : Fin 64) (d : Dir) (s : State) : State :=
  let a := asgOf c d
  if faultMutes (BitVec.ofNat 16 (dirObject c d)) s || bandRefused c d s || !(unplaced a s).isEmpty || s.eng.asgs[a].filling.isSome then s
  else dropMute c d reasonFault {} s

/-- Output of lost segments for a block replaced by a muted block (R306): a block that still waits for them is muted there, so that they write no state. -/
def impairBlock (c : Fin 64) (d : Dir) (segs : List Segment) (seq : Half) (s : State) : State :=
  modDir c d (fun x => { x with blocks := x.blocks.map (fun b =>
    if b.sequence = seq ∧ segs.any (fun g => atKernel g.kernel g.inst b) then b.muted else b) }) s

/-- Replacement for the segments of a failed engine: a spare of its wing, else an engine of the wing with the budget (R306). -/
def replacement (e : Fin 256) (segs : List (Fin 256 × Segment)) (s : State) : Option (Fin 256) :=
  let own := wingEngines (wingOf e)
  match own.find? (fun x => s.eng.engines[x].state == .spare) with
  | some x => some x
  | none =>
    let b := boardOf none s
    match segs with
    | [] => none
    | g :: _ =>
      own.find? (fun x => x != e && b.usable s.eng.asgs[g.1].cls x && decide (b.load[x] + (segs.map (fun v => v.2.cost)).sum ≤ planBudget s))

/-- All segments of an engine put on another, or on none. -/
def rehost (e : Fin 256) (target : Option (Fin 256)) (s : State) : State :=
  { s with eng := { s.eng with asgs := s.eng.asgs.map (fun x =>
      { x with segs := x.segs.map (fun g => if g.engine = some e then { g with engine := target } else g) }) } }

/-- The engine leaves service after a failed check: TESTING beside its replacement, or RETIRED on the second failure in 24 h (R307). -/
def failEngine (e : Fin 256) (lost : List (Fin 256 × Segment)) (s : State) : State :=
  let again := (s.eng.engines[e].failTick).any (fun t => decide (s.slowTicks < t + 86400000))
  let s := modEngine e (fun x => { x with failTick := some s.slowTicks }) s
  if again then retireEngine e 1 { s with eng := { s.eng with tests := s.eng.tests.filter (fun t => t.engine != e) } }
  else
    let asg := (lost.head?.map (·.1)).getD 0
    let run : TestRun := { engine := e, asg := asg, segs := (lost.filter (fun g => g.1 == asg)).map (·.2), comparator := Comparator.reset }
    modEngine e (fun x => { x with state := .testing }) { s with eng := { s.eng with tests := s.eng.tests ++ [run] } }

/-- The segments of an engine taken over within its wing; the answer says what was lost (R306, R309). -/
def takeOver (e : Fin 256) (block : Half) (s : State) : State :=
  let lost := hosted e s
  let who := replacement e lost s
  let s := rehost e who s
  match who with
  | some x =>
    let s := modEngine x (fun v => { v with state := .active }) { s with eng := { s.eng with takeovers := s.eng.takeovers + 1 } }
    (lost.map (·.1)).eraseDups.foldl (fun s a => postEvent 0x0402 2 (96 + (wingOf e).val)
      (payload 16 [(0, 2, a.val), (2, 2, e.val), (4, 2, x.val), (6, 2, block.toNat)]) s) s
  | none =>
    (lost.map (·.1)).eraseDups.foldl (fun s a =>
      if a.val < 128 then addMute (asgDir a).1 (asgDir a).2 reasonFault {} s else s) s

/-- ENGINE_CHECK_FAIL (R304-R307): the failed block is muted and its writes discarded, the segments move, the engine is tested. -/
def execEngineCheckFail (e : Fin 256) (eccUncorrectable : Bool) (c : Fin 64) (d : Dir) (seq : Half) (s : State) : Host.Outcome State Fault Refusal :=
  let st := s.eng.engines[e].state
  .next (if st = .retired ∨ st = .idle ∨ st = .spare then s
    else
      let w := wingOf e
      let s := { s with eng := { s.eng with checkFailures := satAdd 16 s.eng.checkFailures 1,
                                            eccUncorrected := if eccUncorrectable then satAdd 16 s.eng.eccUncorrected 1 else s.eng.eccUncorrected } }
      let s := modEngine e (fun x => { x with checkFails := satAdd 16 x.checkFails 1 }) s
      let s := raise (96 + w.val) (object 3 e.val) (seq.toNat + e.val * 65536) s
      let lost := hosted e s
      let asShadow := (migrationOf e s).isSome
      let s := match migrationOf e s with
        | some m => endMigrate m 0x040A (dropMigrations (· == m) s)
        | none => s
      if st = .testing ∨ (asShadow = true ∧ lost.isEmpty = true) then refreshEngines (failEngine e lost s)
      else
        let s := impairBlock c d ((lost.filter (fun g => g.1 == asgOf c d)).map (·.2)) seq s
        match s.eng.migrations.find? (fun m => m.step == .shadow && m.sources.contains e) with
        | some m =>
          let s := finishMigration m (seq + 1) s
          refreshEngines (failEngine e lost (if (hosted e s).isEmpty then s else takeOver e seq s))
        | none =>
          let stale := s.eng.migrations.filter (fun m => m.sources.contains e)
          let s := stale.foldl (fun s m => endMigrate m 0x0409 s) (dropMigrations (fun m => m.sources.contains e) s)
          refreshEngines (failEngine e lost (takeOver e seq s)))

/-- A test is over: test_blocks outputs have been compared, or one has differed. -/
def TestRun.finished (t : TestRun) (s : State) : Bool :=
  let done := t.comparator.seen - t.comparator.copies.length
  decide (t.comparator.agreed < done) || decide (s.eng.policy.testBlocks ≤ done)

/-- TEST_BLOCKS_END (R307): agreement throughout test_blocks makes the engine a SPARE, recorded as transient; a difference retires it; agreed
says which (log entry 187). -/
def execTestBlocksEnd (e : Fin 256) (agreed : Bool) (s : State) : Host.Outcome State Fault Refusal :=
  .next (match s.eng.tests.find? (fun t => t.engine == e) with
    | some t =>
      if s.eng.engines[e].state ≠ .testing ∨ !t.finished s ∨ agreed ≠ decide (s.eng.policy.testBlocks ≤ t.comparator.agreed) then s
      else
        let s := { s with eng := { s.eng with tests := s.eng.tests.filter (fun t => t.engine != e) } }
        if agreed then modEngine e (fun x => { x with state := .spare }) s else retireEngine e 0 s
    | none => s)

/-- SELF_TEST_DONE (R303): a target that passes makes the live engine suspect, which is taken over; one that fails is retired. -/
def execSelfTestDone (e : Fin 256) (passed : Bool) (s : State) : Host.Outcome State Fault Refusal :=
  .next (match migrationOf e s with
    | some m =>
      if m.step = .selfTest then
        let s := dropMigrations (· == m) s
        if passed then
          let s := m.sources.foldl (fun s x => refreshEngines (failEngine x (hosted x s) (takeOver x m.startBlock s))) s
          raise 145 (object 3 ((m.sources.head?).elim 0xFFF (·.val))) 0 s
        else raise 145 (object 3 e.val) 0 (retireEngine e 2 s)
      else s
    | none => s)

/-! ## Slack -/

/-- Slack of an engine for a busy time in REFCLK_IN cycles, and whether it finished in time (R293). -/
def slackOf (cls busy : Nat) : Nat × Bool :=
  let p := 8 * countsPerBlock cls
  if p < busy then (0, true) else (min 255 (256 * (p - busy) / p), false)

/-- ACTIVE engines of a wing. -/
def activeEngines (w : Fin 16) (s : State) : List (Fin 256) := (wingEngines w).filter (fun e => s.eng.engines[e].state == .active)

/-- A wing's slack after a period of its first ACTIVE engine: the mean of the least slack of its ACTIVE engines over up to 256 periods (R296, R297; log
entry 173). -/
def wingPeriod (e : Fin 256) (s : State) : State :=
  let w := wingOf e
  let es := activeEngines w s
  if es.head? ≠ some e then s
  else
    let x := s.eng.wings[w]
    let l := x.lows ++ [(es.map (fun e => s.eng.engines[e].slack)).foldl min 255]
    let lows := l.drop (l.length - 256)
    let slack := lows.sum / lows.length
    let y : Wing :=
        { x with slack := slack, lows := lows, lowRun := if slack ≤ 25 then x.lowRun + 1 else 0, slow := x.slow && decide (slack ≤ 25) }
    { s with eng := { s.eng with wings := s.eng.wings.set w y } }

/-- What an engine reports for one block period (R293, R294). -/
def reportSlack (e : Fin 256) (cls busy : Nat) (s : State) : State :=
  if s.eng.engines[e].state ≠ .active then s
  else
    let v := slackOf cls busy
    let s := modEngine e (fun x =>
      let low := if v.1 ≤ 25 then x.lowRun + 1 else 0
      let high := if v.1 ≤ 25 then 0 else x.highRun + 1
      let recent := x.slacks ++ [v.1]
      { x with slack := v.1, late := v.2, slacks := recent.drop (recent.length - 256), lowRun := low, highRun := high,
               notice := x.notice && decide (high < 256), attributed := x.attributed && decide (high < 256) }) s
    wingPeriod e s

/-- ENGINE_SLOW_NOTICE (R294). -/
def execEngineSlowNotice (e : Fin 256) (s : State) : Host.Outcome State Fault Refusal :=
  .next (if decide (256 ≤ s.eng.engines[e].lowRun) && !s.eng.engines[e].notice then
      raise (112 + (wingOf e).val) (object 3 e.val) 0 (modEngine e (fun x => { x with notice := true }) s)
    else s)

/-- WING_SLOW (R297): a wing whose credit stands at 20 mV and whose slack has been low for 256 periods. -/
def execWingSlow (w : Fin 16) (s : State) : Host.Outcome State Fault Refusal :=
  .next (if decide (256 ≤ s.eng.wings[w].lowRun) && !s.eng.wings[w].slow && s.supply.creditedWing == w && decide (20 ≤ s.supply.credit) then
      raise (128 + w.val) (object 4 w.val) 0 { s with eng := { s.eng with wings := s.eng.wings.set w { s.eng.wings[w] with slow := true } } }
    else s)

/-- A late block attributed to the engines of its assignment that had no slack (R295). -/
def attributeLate (c : Fin 64) (d : Dir) (s : State) : State :=
  let es := ((s.eng.asgs[asgOf c d].segs.filterMap (·.engine)).eraseDups).filter (fun e => s.eng.engines[e].slack == 0)
  es.foldl (fun s e => modEngine e (fun x => { x with attributed := true, lateBlocks := x.lateBlocks + 1 }) s) s

/-! ## The placement loop -/

/-- MMAC/s of a cost, rounded up. -/
def mmacs (cost : Nat) : Nat := ceilDiv cost 1000000

/-- A wing is the source, or the target, of a migration. -/
def wingBusy (source : Bool) (w : Fin 16) (s : State) : Bool :=
  s.eng.migrations.any (fun m => (if source then m.sources else m.moves.map (·.2)).any (fun e => wingOf e == w))

/-- Work of the placement loop for one engine under notice (R298, R299). -/
def relieve (e : Fin 256) (s : State) : State :=
  let segs := (hosted e s).filter (fun g => !segmentMoving g.1 g.2 s)
  if s.eng.policy.maxMigrations ≤ s.eng.migrations.length ∨ wingBusy true (wingOf e) s = true ∨ (s.eng.engines[e].state != .active) = true then s
  else
    match heaviest segs with
    | none => s
    | some (a, g) =>
      match findTarget a g none s with
      | some t => if wingBusy false (wingOf t) s then s else beginMigration a [(g, t)] none s
      | none =>
        postEvent 0x0404 2 144 (payload 16 [(0, 2, e.val), (4, 4, mmacs g.cost)]) (raise 144 (object 3 e.val) 0 s)

/-- Instances of CANCEL in a wing, greatest cost first: assignment, instance, segments. -/
def cancelInstances (w : Fin 16) (s : State) : List (Fin 256 × Nat × List Segment) :=
  let l := (List.finRange 128).flatMap (fun n =>
    let a : Fin 256 := ⟨n.val, by omega⟩
    let x := s.eng.asgs[a]
    (x.mem.filter (fun m => m.kernel == 0 && m.wing == w)).map (fun m => (a, m.inst, x.segs.filter (fun g => g.kernel == 0 && g.inst == m.inst))))
  let cost (e : Fin 256 × Nat × List Segment) : Nat := (e.2.2.map (·.cost)).sum
  sortBy (fun x y => decide (cost y ≤ cost x)) l

/-- Request for an instance as it stands. -/
def instanceAsk (a : Fin 256) (kernel inst : Nat) (s : State) : Ask :=
  let x := s.eng.asgs[a]
  let (c, d) := asgDir a
  let segs := x.segs.filter (fun g => g.kernel == kernel && g.inst == inst)
  let bytes := (x.mem.find? (fun m => m.kernel == kernel && m.inst == inst)).elim 0 (·.bytes)
  let js := if kernel = 0 ∧ a.val < 128 then (maskPorts (dirDef c d s).tx).filter (fun j => configuredTaps c d s (4 * inst + j.val) != 0) else []
  { kernel := kernel, inst := inst, parts := segs.map (fun g => (g.path, g.slice, g.cost)), bytes := bytes,
    hist := js.map (fun j => (j.val, bulkDelays c d s (4 * inst + j.val), configuredTaps c d s (4 * inst + j.val))) }

/-- Latency that sizes the histories of an assignment. -/
def asgLatency (a : Fin 256) (s : State) : Nat :=
  if a.val < 128 then latencyOf s.eng.asgs[a].cls (dirDef (asgDir a).1 (asgDir a).2 s) s else 0

/-- Moves that take a whole instance to the best of some wings (R290, R297). -/
def instanceMoves (a : Fin 256) (kernel inst : Nat) (wings : List (Fin 16)) (s : State) : Except Nat (List (Segment × Fin 256)) :=
  let x := s.eng.asgs[a]
  let segs := x.segs.filter (fun g => g.kernel == kernel && g.inst == inst)
  match placeAnew (planBudget s) x.cls (asgLatency a s) wings none (instanceAsk a kernel inst s) { board := boardOf none s, segs := [], mem := [], hist := [] } with
  | .error e => .error e
  | .ok p => .ok ((segs.zip p.segs).filterMap (fun v => v.2.engine.map (fun t => (v.1, t))))

/-- Work of the placement loop for a slow wing: its largest CANCEL instance moves to another wing (R297). -/
def relieveWing (w : Fin 16) (s : State) : State :=
  if !s.eng.wings[w].slow || wingBusy true w s || decide (s.eng.policy.maxMigrations ≤ s.eng.migrations.length) then s
  else
    let try1 (e : Fin 256 × Nat × List Segment) : Option (Fin 256 × List (Segment × Fin 256)) :=
      match instanceMoves e.1 0 e.2.1 ((maskWings s.eng.asgs[e.1].wingMask).filter (fun v => v != w && !wingBusy false v s)) s with
      | .ok m => some (e.1, m)
      | .error _ => none
    match ((cancelInstances w s).filter (fun e => !e.2.2.any (fun g => segmentMoving e.1 g s))).findSome? try1 with
    | some v => beginMigration v.1 v.2 none s
    | none => s

/-- R309: an instance with no engine is rebuilt where a wing takes it; when the assignment is whole again and the histories of R300 step 2 are filled,
its mute ends. -/
def rebuildAsg (a : Fin 256) (s : State) : State :=
  match unplaced a s, s.eng.asgs[a].filling with
  | [], none => s
  | [], some n =>
    if asgOrdinal a s < n then s else endFaultMute (asgDir a).1 (asgDir a).2 (modAsg a (fun x => { x with filling := none }) s)
  | g :: _, _ =>
    match instanceMoves a g.kernel g.inst (maskWings s.eng.asgs[a].wingMask) s with
    | .error _ => s
    | .ok moves =>
      let until_ := asgOrdinal a s + historyBlocks a (moves.map (·.1)) s
      settleAsg a (modAsg a (fun x => { x with filling := if a.val < 128 then some (max until_ (x.filling.getD 0)) else none }) (moveSegments a moves s))

/-- R310: a wing without a spare gets one back from an idle engine, or by moving its cheapest segment away. -/
def respareWing (w : Fin 16) (s : State) : State :=
  let es := wingEngines w
  if es.any (fun e => s.eng.engines[e].state == .spare) then s
  else match es.find? (fun e => s.eng.engines[e].state == .idle) with
    | some e => modEngine e (fun x => { x with state := .spare }) s
    | none =>
      if wingBusy true w s || decide (s.eng.policy.maxMigrations ≤ s.eng.migrations.length) then s
      else
        let segs := (es.flatMap (fun e => hosted e s)).filter (fun g => g.2.kernel != 0 && !segmentMoving g.1 g.2 s)
        let cheapest := segs.foldl (fun b g => match b with
          | none => some g
          | some x => if g.2.cost < x.2.cost then some g else some x) (none : Option (Fin 256 × Segment))
        match cheapest with
        | none => s
        | some (a, g) =>
          match (List.finRange 16).findSome? (fun v => if v = w ∨ wingBusy false v s = true then none else findTarget a g (some v) s) with
          | some t => beginMigration a [(g, t)] none s
          | none => s

/-- The pool's part of a slow tick: a policy taken, the placement loop (R296-R299, R309, R310, R320). A wing with no ACTIVE engine has all its slack. -/
def placementTick (s : State) : State :=
  let pol := s.eng.policyNext.getD s.eng.policy
  let wings := Vector.ofFn (fun w : Fin 16 =>
    if (activeEngines w s).isEmpty then { s.eng.wings[w] with slack := 255, lows := [], lowRun := 0, slow := false } else s.eng.wings[w])
  let s := { s with eng := { s.eng with policy := pol, policyNext := none, wings := wings } }
  let s := (List.finRange 256).foldl (fun s a => if s.eng.asgs[a].used then rebuildAsg a s else s) s
  if !s.eng.policy.enable then s
  else
    let s := (List.finRange 16).foldl (fun s w => relieveWing w s) s
    let s := (List.finRange 256).foldl (fun s e => if s.eng.engines[e].notice || s.eng.engines[e].attributed then relieve e s else s) s
    if s.eng.policy.respare then (List.finRange 16).foldl (fun s w => respareWing w s) s else s

/-! ## Commands -/

/-- BAD_ENGINE. -/
def badEngine : Option Reject := badParam 0x0407

/-- NO_ASSIGNMENT. -/
def noAssignment (n : Nat) (s : State) : Option Reject :=
  refuseIf (decide (255 < n) || !s.eng.asgs[Fin.ofNat 256 n].used) (badState 0x0403)

/-- A DETECT parameter block out of range (R287, BAD_PARAMS). -/
def badDetect (x : Desc) : Bool :=
  decide (63 < dat x 0 1) || decide (3 < dat x 1 1) || decide (2 < dat x 2 1) ||
  (dat x 8 2 != 0xFFFF && decide ((if dat x 2 1 = 0 then 503 else 1007) < dat x 8 2)) || decide (dat x 10 2 < 5) || decide (160 < dat x 10 2)

/-- Checks of a DETECT block against the channel it watches. -/
def checkDetect (x : Desc) (s : State) : Option Reject :=
  firstOf [hostRead x, refuseIf (dat x 3 1 != 0 || dat x 12 20 != 0) (badParam detReserved), refuseIf (badDetect x) (badParam 0x0406),
    noChannel (dat x 0 1) s,
    refuseIf (!(chan (chanOf (dat x 0 1)) s).defn.enables .dl || !(chan (chanOf (dat x 0 1)) s).defn.dl.rx.getLsbD (dat x 1 1)) (badParam 0x0406)]

/-- The lowest standalone ID that is free (R288). -/
def freeStandalone (s : State) : Option (Fin 256) := (List.finRange 256).find? (fun a => decide (128 ≤ a.val) && !s.eng.asgs[a].used)

/-- DETECT's instance (R284). -/
def detectAsk (cls : Nat) : Ask := wholeAsk 4 0 (96 * channelRate cls) 49152

/-- Plan of a standalone assignment. -/
def planStandalone (cls : Nat) (mask : BitVec 16) (s : State) : Except Nat Plan :=
  placeAnew (planBudget s) cls 0 (maskWings mask) none (detectAsk cls) { board := boardOf none s, segs := [], mem := [], hist := [] }

/-- Detail of a single plan; 0 when it places. -/
def onePlanDetail (p : Except Nat Plan) : Nat :=
  match p with
  | .error e => e
  | .ok _ => 0

/-- Checks of ASSIGNMENT_CREATE. -/
def checkAssignmentCreate (r : Running) (s : State) : Option Reject :=
  let x := r.desc
  let cls := (chan (chanOf (dat x 0 1)) s).defn.cls
  let plan := planStandalone cls (BitVec.ofNat 16 (par x 2 2)) s
  firstOf [common false [(0, 1), (2, 2)] (.exactly 32) x, refuseIf (par x 0 1 != 4) (badParam 0x0405), checkDetect x s,
    refuseIf (freeStandalone s).isNone (some (.noResource, detEngines)), refuseIf (onePlanDetail plan != 0) (some (.noResource, onePlanDetail plan))]

/-- ASSIGNMENT_CREATE past its checks: it waits for the first block. -/
def beginAssignmentCreate (r : Running) (s : State) : Ans × State :=
  let x := r.desc
  let cls := (chan (chanOf (dat x 0 1)) s).defn.cls
  let mask := BitVec.ofNat 16 (par x 2 2)
  let a := (freeStandalone s).getD 128
  match planStandalone cls mask s with
  | .error e => (refuse (.noResource, e), s)
  | .ok p =>
    (awaitState { r with committed := true } 1 [a.val],
      buildPlan a cls 0 mask p (modAsg a (fun _ => { Assignment.reset with detect := x.data.take 32 }) s))

/-- ASSIGNMENT_CREATE (R315). -/
def opAssignmentCreate (r : Running) (s : State) : Ans × State :=
  if r.phase = 0 then guarded checkAssignmentCreate beginAssignmentCreate r s
  else
    let a := Fin.ofNat 256 (r.aux.getD 0 128)
    let g := (s.eng.asgs[a].segs.head?)
    (doneWith (result [(0, 1, a.val), (1, 1, (g.bind (·.engine)).elim 0 (·.val)), (4, 4, g.elim 0 (fun g => (mmacs g.cost : Int)))]), s)

/-- Kernels whose parameter block ASSIGNMENT_MODIFY may replace: SHAPE of a direction, DETECT of a standalone assignment. -/
def ownsBlock (x : Assignment) (kernel : Nat) : Bool := (kernel == 2 || kernel == 4) && x.segs.any (fun g => g.kernel == kernel)

/-- Checks of a SHAPE parameter block (R286). -/
def checkShape (x : Desc) : Option Reject :=
  let t := dat x 0 1
  firstOf [refuseIf (decide (x.dataLen.toNat < 4)) (badParam detBadLength), hostRead x, refuseIf (dat x 1 3 != 0) (badParam detReserved),
    refuseIf (!(t == 0 || (decide (8 ≤ t) && decide (t ≤ 128) && t % 8 == 0))) (badParam 0x0406),
    refuseIf (x.dataLen.toNat != 4 + 4 * t) (badParam detBadLength)]

/-- A direction's assignment planned with another SHAPE length. -/
def planShape (a : Fin 256) (tSh : Nat) (s : State) : Except Nat Plan :=
  let (c, d) := asgDir a
  let x := s.eng.asgs[a]
  planDirection x.cls (dirDef c d s) x.wingMask (configuredTaps c d s) (bulkDelays c d s) tSh x (boardOf (some a) s) s

/-- Instances of an assignment outside a mask. -/
def outsideInstances (a : Fin 256) (mask : BitVec 16) (s : State) : List (Nat × Nat) :=
  (s.eng.asgs[a].mem.filter (fun m => m.kernel != 7 && !(maskWings mask).contains m.wing)).map (fun m => (m.kernel, m.inst))

/-- Refusal of a change of wing_mask: an instance outside it that no wing of it takes. -/
def maskDetail (a : Fin 256) (mask : BitVec 16) (s : State) : Nat :=
  ((outsideInstances a mask s).map (fun e => match instanceMoves a e.1 e.2 (maskWings mask) s with
    | .error d => d
    | .ok _ => 0)).foldl (fun b d => if b = 0 then d else b) 0

/-- Checks of ASSIGNMENT_MODIFY. -/
def checkAssignmentModify (r : Running) (s : State) : Option Reject :=
  let x := r.desc
  let a := Fin.ofNat 256 (par x 0 2)
  let v := s.eng.asgs[a]
  let k := par x 2 1
  let op := par x 3 1
  firstOf [common true [(0, 6)] .own x, noAssignment (par x 0 2) s, refuseIf (decide (2 < op)) (badParam detBadField),
    refuseIf (op != 0 && x.dataLen != 0) (badParam detBadLength),
    refuseIf (op != 1 && (decide (6 < k) || !v.segs.any (fun g => g.kernel == k))) (badParam 0x0405),
    refuseIf (op == 0 && !ownsBlock v k) (badParam 0x0405),
    refuseIf (op == 2 && !s.eng.catalogue.kernels.any (fun e => e.1 == k && e.2.1 == par x 4 2)) (badParam 0x0405),
    refuseIf (op == 0 && par x 4 2 != 0) (badParam detReserved),
    if op = 0 ∧ k = 2 then checkShape x else none,
    if op = 0 ∧ k = 4 then firstOf [refuseIf (x.dataLen.toNat != 32) (badParam detBadLength), checkDetect x s] else none,
    refuseIf (op == 0 && k == 2 && onePlanDetail (planShape a (dat x 0 1) s) != 0) (some (.noResource, onePlanDetail (planShape a (dat x 0 1) s))),
    refuseIf (op == 1 && maskDetail a (BitVec.ofNat 16 (par x 4 2)) s != 0) (some (.noResource, maskDetail a (BitVec.ofNat 16 (par x 4 2)) s))]

/-- Taps of a SHAPE block as I, Q in turn. -/
def shapeTapsOf (x : Desc) : List Int := (List.range (2 * dat x 0 1)).map (fun k => datInt x (4 + 2 * k) 2)

/-- Migrations that take the instances outside a mask into it. -/
def leaveOutside (a : Fin 256) (mask : BitVec 16) (s : State) : State :=
  (outsideInstances a mask s).foldl (fun s e => match instanceMoves a e.1 e.2 (maskWings mask) s with
    | .ok m => beginMigration a m none s
    | .error _ => s) s

/-- ASSIGNMENT_MODIFY past its checks: engines for a longer filter and migrations start at once; the filter or version changes with the
direction's configuration epoch, or at the next block of a standalone assignment. -/
def effectAssignmentModify (r : Running) (s : State) : Ans × State :=
  let x := r.desc
  let a := Fin.ofNat 256 (par x 0 2)
  let k := par x 2 1
  let op := par x 3 1
  let mask := BitVec.ofNat 16 (par x 4 2)
  let v := s.eng.asgs[a]
  let s := if op = 1 then modAsg a (fun y => { y with wingMask := mask }) (leaveOutside a mask s) else s
  let s := if op = 0 ∧ k = 2 then
      match planShape a (dat x 0 1) s with
      | .ok p => buildPlan a v.cls (asgLatency a s) v.wingMask p (if dat x 0 1 = v.tSh then s else supersede a 0x0409 s)
      | .error _ => s
    else s
  let sets : List Setting := if op = 0 then [.kernels a 0 (dat x 0 1) (shapeTapsOf x)] else if op = 2 then [.kernels a 1 k [(par x 4 2 : Nat)]] else []
  if a.val < 128 then
    (awaitEpochs r [s.tickets] false 0, requestChange (asgDir a).1 (asgDir a).2 .config sets (effOf x) s)
  else
    let s := if op = 0 then modAsg a (fun y => { y with detect := x.data.take 32 }) s
      else if op = 2 then modAsg a (fun y => { y with versions := upd y.versions k (fun _ => par x 4 2) }) s else s
    (awaitState { r with committed := true } 1 [a.val], modAsg a (fun y => { y with ran := false }) s)

/-- ASSIGNMENT_MODIFY (R316). -/
def opAssignmentModify (r : Running) (s : State) : Ans × State :=
  if r.phase = 0 then guarded checkAssignmentModify effectAssignmentModify r s else (doneWith 0, s)

/-- A standalone assignment has processed a block, or is gone: the commands that wait for that go on. -/
def standaloneRan (r : Running) (s : State) : Bool :=
  let x := s.eng.asgs[Fin.ofNat 256 (r.aux.getD 0 128)]
  x.ran || !x.used

/-- Checks of ASSIGNMENT_RELEASE. -/
def checkAssignmentRelease (r : Running) (s : State) : Option Reject :=
  firstOf [common false [(0, 2)] .none r.desc, refuseIf (decide (par r.desc 0 2 < 128)) (badState 0x0404), noAssignment (par r.desc 0 2) s]

/-- ASSIGNMENT_RELEASE past its checks. -/
def effectAssignmentRelease (r : Running) (s : State) : Ans × State := (doneWith 0, releaseAsg (Fin.ofNat 256 (par r.desc 0 2)) s)

/-- ASSIGNMENT_RELEASE (R317). -/
def opAssignmentRelease (r : Running) (s : State) : Ans × State := guarded checkAssignmentRelease effectAssignmentRelease r s

/-- Target wing of MIGRATE. -/
def migrateWing (x : Desc) : Option (Fin 16) := if par x 6 1 = 0xFF then none else some (Fin.ofNat 16 (par x 6 1))

/-- The segment that MIGRATE of an engine moves: the one of greatest cost (R298, log entry 36). -/
def migrateSegment (x : Desc) (s : State) : Option (Fin 256 × Segment) := heaviest (hosted (Fin.ofNat 256 (par x 2 2)) s)

/-- Target of MIGRATE of an engine: named, or chosen as the placement loop chooses. -/
def migrateTarget (x : Desc) (a : Fin 256) (g : Segment) (s : State) : Option (Fin 256) :=
  if par x 4 2 = 0xFFFF then findTarget a g (migrateWing x) s
  else
    let t := Fin.ofNat 256 (par x 4 2)
    let b := boardOf none s
    if (b.usable s.eng.asgs[a].cls t && decide (b.load[t] + g.cost ≤ planBudget s)) || s.eng.engines[t].state == .spare then some t else none

/-- Checks of MIGRATE of an engine. -/
def checkMigrateEngine (x : Desc) (s : State) : Option Reject :=
  let src := Fin.ofNat 256 (par x 2 2)
  let t := par x 4 2
  let tgt := Fin.ofNat 256 t
  firstOf [
    refuseIf (decide (255 < par x 2 2) || s.eng.engines[src].state == .retired || (hosted src s).isEmpty) badEngine,
    refuseIf (t != 0xFFFF && (decide (255 < t) || s.eng.engines[tgt].state == .retired || tgt == src)) badEngine,
    refuseIf (t != 0xFFFF && (migrateWing x).any (fun w => wingOf tgt != w)) badEngine,
    match migrateSegment x s with
    | none => badEngine
    | some (a, g) => firstOf [
        refuseIf (g.kernel == 0 && ((t != 0xFFFF && wingOf tgt != wingOf src) || (migrateWing x).any (fun w => w != wingOf src))) badEngine,
        refuseIf (segmentMoving a g s || (t != 0xFFFF && s.eng.engines[tgt].state == .shadow)) (badState 0x0408),
        refuseIf (migrateTarget x a g s).isNone (some (.noResource, detEngines))]]

/-- Instance that MIGRATE names: kernel, and receive element for CANCEL. -/
def migrateInstance (x : Desc) : Nat × Nat := (par x 4 1, if par x 4 1 = 0 then par x 5 1 % 4 else 0)

/-- Wings MIGRATE of an instance may use: the one named, or any but its own. -/
def migrateWings (x : Desc) (a : Fin 256) (s : State) : List (Fin 16) :=
  match migrateWing x with
  | some w => [w]
  | none =>
    let (k, n) := migrateInstance x
    (maskWings s.eng.asgs[a].wingMask).filter (fun w => !s.eng.asgs[a].mem.any (fun m => m.kernel == k && m.inst == n && m.wing == w))

/-- Detail of moves that do not place. -/
def movesDetail (m : Except Nat (List (Segment × Fin 256))) : Nat :=
  match m with
  | .error e => e
  | .ok _ => 0

/-- Checks of MIGRATE of an instance. -/
def checkMigrateInstance (x : Desc) (s : State) : Option Reject :=
  let a := Fin.ofNat 256 (par x 2 2)
  let (k, n) := migrateInstance x
  let segs := s.eng.asgs[a].segs.filter (fun g => g.kernel == k && g.inst == n)
  firstOf [noAssignment (par x 2 2) s,
    refuseIf (decide (6 < k) || !s.eng.asgs[a].segs.any (fun g => g.kernel == k)) (badParam 0x0405),
    refuseIf (segs.isEmpty || decide (7 < par x 5 1)) (badParam detBadField),
    refuseIf (segs.any (fun g => segmentMoving a g s)) (badState 0x0408),
    refuseIf (movesDetail (instanceMoves a k n (migrateWings x a s) s) != 0) (some (.noResource, movesDetail (instanceMoves a k n (migrateWings x a s) s)))]

/-- Checks of MIGRATE. -/
def checkMigrate (r : Running) (s : State) : Option Reject :=
  let x := r.desc
  firstOf [common false [(0, 1), (2, 5)] .none x, refuseIf (decide (1 < par x 0 1)) (badParam detBadField),
    refuseIf (par x 6 1 != 0xFF && decide (15 < par x 6 1)) badEngine,
    if par x 0 1 = 0 then checkMigrateEngine x s else checkMigrateInstance x s]

/-- MIGRATE past its checks: the migration starts and the command waits for its end. -/
def beginMigrate (r : Running) (s : State) : Ans × State :=
  let x := r.desc
  let wait := awaitHardware r 1 []
  if par x 0 1 = 0 then
    match migrateSegment x s with
    | none => (refuse (.rejectedParam, 0x0407), s)
    | some (a, g) =>
      match migrateTarget x a g s with
      | none => (refuse (.noResource, detEngines), s)
      | some t => (wait, beginMigration a [(g, t)] (some x.ring) s)
  else
    let a := Fin.ofNat 256 (par x 2 2)
    let (k, n) := migrateInstance x
    match instanceMoves a k n (migrateWings x a s) s with
    | .error e => (refuse (.noResource, e), s)
    | .ok m => (wait, beginMigration a m (some x.ring) s)

/-- MIGRATE's assignment. -/
def migrateAsg (x : Desc) (s : State) : Fin 256 :=
  if par x 0 1 = 1 then Fin.ofNat 256 (par x 2 2) else (migrateSegment x s).elim 0 (·.1)

/-- Block q of a MIGRATE has left the synthesiser, or its direction is gone. -/
def migrateLeft (r : Running) (s : State) : Bool :=
  let a := Fin.ofNat 256 (r.aux.getD 3 0)
  let (c, d) := asgDir a
  let x := direction c d s
  decide (128 ≤ a.val) || !dirLive c d s || serialLater 16 (x.released % 65536) (r.aux.getD 0 0)

/-- MIGRATE (R318): its end (phase 1) commits it; it completes when block q has left the synthesiser (phase 2). -/
def opMigrate (r : Running) (s : State) : Ans × State :=
  if r.phase = 0 then guarded checkMigrate beginMigrate r s
  else if r.phase = 1 then
    if r.results.getD 0 0 = 1 then (refuse (.rejectedState, (r.results.getD 1 0).toNat), s)
    else
      let v (k : Nat) : Nat := (r.results.getD k 0).toNat
      (awaitState { r with committed := true } 2 [v 1, v 2, if par r.desc 0 1 = 0 then v 3 else v 4, (migrateAsg r.desc s).val], s)
  else
    (.final { status := .done, detail := 0, result := result [(0, 2, (r.aux.getD 2 0 : Nat)), (2, 2, (r.aux.getD 1 0 : Nat))],
              seq := some (BitVec.ofNat 16 (r.aux.getD 0 0)), data := [] }, s)

/-- A MIGRATE cancelled before its switch abandons its migration without effect (R318). -/
def abandonMigrate (q : Fin 22) (s : State) : State := dropMigrations (fun m => m.ring == some q) s

/-- Engines of an assignment with what they run of it. -/
def asgEngines (a : Fin 256) (s : State) : List (Fin 256 × List Segment) :=
  (List.finRange 256).filterMap (fun e =>
    let l := s.eng.asgs[a].segs.filter (fun g => g.engine == some e)
    if l.isEmpty then none else some (e, l))

/-- Checks of ENGINE_STATUS. -/
def checkEngineStatus (r : Running) (s : State) : Option Reject :=
  let x := r.desc
  let n := par x 2 2
  firstOf [common false [(0, 1), (2, 2)] .own x, refuseIf (decide (2 < par x 0 1)) (badParam detBadField),
    refuseIf (par x 0 1 != 2 && x.dataLen != 0) (badParam detBadLength),
    refuseIf ((par x 0 1 == 0 && decide (255 < n)) || (par x 0 1 == 1 && decide (15 < n))) badEngine,
    if par x 0 1 = 2 then noAssignment n s else none,
    refuseIf (par x 0 1 == 2 && decide (x.dataLen.toNat < 8 + 4 * (asgEngines (Fin.ofNat 256 n) s).length)) (badParam detBadLength)]

/-- Code of an engine state (R282). -/
def EngineState.code : EngineState → Nat
  | .idle => 0
  | .active => 1
  | .spare => 2
  | .shadow => 3
  | .testing => 4
  | .retired => 5

/-- Class an engine hosts, 0 when it hosts none (R325). -/
def engineClass (e : Fin 256) (s : State) : Nat := ((boardOf none s).host[e]).getD 0

/-- Engines of a wing in a set of states. -/
def countEngines (w : Fin 16) (p : EngineState → Bool) (s : State) : Nat := ((wingEngines w).filter (fun e => p s.eng.engines[e].state)).length

/-- In service (R325). -/
def inService (x : EngineState) : Bool := x == .idle || x == .active || x == .shadow

/-- Memory in use in a wing. -/
def wingUsed (w : Fin 16) (s : State) : Nat := nth (boardOf none s).mem w.val 0

/-- AVS credit of a wing in mV. -/
def wingCredit (w : Fin 16) (s : State) : Nat := if s.supply.creditedWing = w then s.supply.credit else 0

/-- Result of ENGINE_STATUS of an engine. -/
def engineResult (e : Fin 256) (s : State) : BitVec 128 :=
  let x := s.eng.engines[e]
  result [(0, 1, x.state.code), (1, 1, (wingOf e).val), (2, 2, (topAssignment e s).getD 0xFFFF), (4, 1, engineClass e s), (5, 1, x.slack),
    (6, 1, (x.slacks.foldl min 255 : Nat)), (7, 1, (if x.notice then 1 else 0) + (if x.late then 2 else 0)), (8, 4, x.lateBlocks.toNat),
    (12, 2, x.checkFails), (14, 2, x.migrationsOut)]

/-- Result of ENGINE_STATUS of a wing. -/
def wingResult (w : Fin 16) (s : State) : BitVec 128 :=
  let x := s.eng.wings[w]
  let load := ((wingEngines w).map (fun e => engineLoad e s)).sum
  result [(0, 1, countEngines w inService s), (1, 1, countEngines w (· == .spare) s), (2, 1, countEngines w (· == .retired) s),
    (3, 1, countEngines w (· == .active) s), (4, 1, x.slack), (5, 1, wingCredit w s), (6, 1, min 255 (load * 100 / (15 * planBudget s))),
    (7, 1, if x.slow then 1 else 0), (8, 4, (wingMemory - wingUsed w s) / 1024), (12, 2, x.eccCorrected)]

/-- Buffer of ENGINE_STATUS of an assignment. -/
def asgBuffer (a : Fin 256) (s : State) : List Byte :=
  let es := asgEngines a s
  let cost := (s.eng.asgs[a].segs.map (·.cost)).sum
  payload 8 [(0, 2, a.val), (2, 1, es.length), (4, 4, mmacs cost)] ++ es.flatMap (fun e =>
    let top := (heaviest (e.2.map (fun g => (a, g)))).elim 0 (fun g => g.2.kernel)
    payload 4 [(0, 2, e.1.val), (2, 1, top), (3, 1, min 255 ((e.2.map (·.cost)).sum * 100 / planBudget s))])

/-- ENGINE_STATUS past its checks. -/
def effectEngineStatus (r : Running) (s : State) : Ans × State :=
  let n := par r.desc 2 2
  if par r.desc 0 1 = 0 then (doneWith (engineResult (Fin.ofNat 256 n) s), s)
  else if par r.desc 0 1 = 1 then (doneWith (wingResult (Fin.ofNat 16 n) s), s)
  else (doneData 0 (asgBuffer (Fin.ofNat 256 n) s), s)

/-- ENGINE_STATUS (R319). -/
def opEngineStatus (r : Running) (s : State) : Ans × State := guarded checkEngineStatus effectEngineStatus r s

/-- Policy of a command. -/
def policyOf (x : Desc) : Policy :=
  { enable := par x 0 1 == 1, reserve := par x 1 1, maxMigrations := par x 2 1, respare := par x 3 1 == 1, agreeBlocks := par x 4 2,
    migrateLimit := par x 6 2, avsSlackTarget := par x 8 1, testBlocks := par x 10 4 }

/-- Checks of PLACEMENT_POLICY_SET. -/
def checkPlacementPolicySet (r : Running) (_s : State) : Option Reject :=
  let x := r.desc
  let p := policyOf x
  firstOf [common false [(0, 9), (10, 4)] .none x,
    refuseIf (decide (1 < par x 0 1) || decide (1 < par x 3 1) || decide (30 < p.reserve) || badRange 1 16 p.maxMigrations || badRange 4 256 p.agreeBlocks ||
      badRange 256 65535 p.migrateLimit || badRange 32 128 p.avsSlackTarget || badRange 4096 16777216 p.testBlocks) (badParam detBadField)]

/-- PLACEMENT_POLICY_SET past its checks: from the next slow tick. -/
def effectPlacementPolicySet (r : Running) (s : State) : Ans × State :=
  (doneWith 0, { s with eng := { s.eng with policyNext := some (policyOf r.desc) } })

/-- PLACEMENT_POLICY_SET (R320). -/
def opPlacementPolicySet (r : Running) (s : State) : Ans × State := guarded checkPlacementPolicySet effectPlacementPolicySet r s

/-- Engines of SPARE_SET's mask that hold work. -/
def spareInUse (x : Desc) (s : State) : Bool :=
  (wingEngines (Fin.ofNat 16 (par x 0 1))).any (fun e => (par x 2 2).testBit (e.val % 16) &&
    (s.eng.engines[e].state == .active || s.eng.engines[e].state == .shadow || s.eng.engines[e].state == .testing))

/-- Checks of SPARE_SET. -/
def checkSpareSet (r : Running) (s : State) : Option Reject :=
  firstOf [common false [(0, 1), (2, 2)] .none r.desc, refuseIf (decide (15 < par r.desc 0 1)) badEngine, refuseIf (spareInUse r.desc s) (badState 0x040B)]

/-- SPARE_SET past its checks. -/
def effectSpareSet (r : Running) (s : State) : Ans × State :=
  let x := r.desc
  (doneWith 0, (wingEngines (Fin.ofNat 16 (par x 0 1))).foldl (fun s e => modEngine e (fun v =>
    if (par x 2 2).testBit (e.val % 16) then (if v.state = .idle then { v with state := .spare } else v)
    else if v.state = .spare then { v with state := .idle } else v) s) s)

/-- SPARE_SET (R321). -/
def opSpareSet (r : Running) (s : State) : Ans × State := guarded checkSpareSet effectSpareSet r s

/-! ## Catalogue (R311-R313, R322) -/

/-- Kernel entries of an image: id, version, output-identical; none when one is malformed or they do not fill the image. -/
def catalogueEntries : Nat → List Byte → Option (List (Nat × Nat × Bool))
  | 0, rest => if rest.isEmpty then some [] else none
  | n + 1, bs =>
    let len := bufField bs 4 4
    if bs.length < 32 + len ∨ 6 < bufField bs 0 1 ∨ 1 < bufField bs 1 1 ∨ 8192 < len ∨ bufField bs 8 24 ≠ 0 then none
    else (catalogueEntries n (bs.drop (32 + len))).map (fun l => (bufField bs 0 1, bufField bs 2 2, bufField bs 1 1 == 1) :: l)

/-- The catalogue in an image; none when its header, its entries or its hash are wrong. -/
def catalogueOf (bs : List Byte) : Option Catalogue :=
  let len := bufField bs 16 4
  let img := bs.take len
  if bufField bs 0 4 ≠ 0x4B43544C ∨ bufField bs 4 2 ≠ 1 ∨ bufField bs 6 2 < 1 ∨ 16 < bufField bs 6 2 ∨ len < 160 ∨ bs.length < len ∨ bufField bs 14 2 ≠ 0 ∨
      bufField bs 20 12 ≠ 0 ∨ bufField bs 64 32 ≠ 0 ∨ sha256 (img.drop 160) ≠ (bs.drop 32).take 32 then none
  else (catalogueEntries (bufField bs 6 2) (img.drop 160)).map (fun l =>
    { version := BitVec.ofNat 32 (bufField bs 8 4), security := BitVec.ofNat 16 (bufField bs 12 2), kernels := l })

/-- Kernels that some assignment uses. -/
def kernelsInService (s : State) : List Nat := ((allSegments s).map (fun g => g.2.kernel)).eraseDups

/-- Checks of KERNEL_CATALOGUE_LOAD. -/
def checkCatalogueLoad (r : Running) (s : State) : Option Reject :=
  let x := r.desc
  firstOf [common false [(0, 1)] (.atLeast 160) x, refuseIf (decide (1 < par x 0 1)) (badParam detBadField), hostRead x,
    match catalogueOf x.data with
    | none => badParam 0x040C
    | some k => firstOf [
        refuseIf (!ecdsaVerify Config.catalogueKey (x.data.take 96) ((x.data.drop 96).take 64)) (some (.authFailed, 0x040D)),
        refuseIf (decide (k.security.toNat < s.eng.minSecurity.toNat)) (some (.authFailed, 0x040E)),
        refuseIf ((kernelsInService s).any (fun n => !k.kernels.any (fun e => e.1 == n))) (badState 0x040F)]]

/-- Result of KERNEL_CATALOGUE_LOAD. -/
def catalogueResult (s : State) : BitVec 128 := result [(0, 4, s.eng.catalogue.version.toNat), (4, 2, s.eng.catalogue.security.toNat)]

/-- KERNEL_CATALOGUE_LOAD past its checks: the image stands in the staging banks. -/
def beginCatalogueLoad (r : Running) (s : State) : Ans × State :=
  let s := { s with eng := { s.eng with staged := catalogueOf r.desc.data } }
  if par r.desc 0 1 = 0 then (doneWith (catalogueResult s), s) else (.stay { r with wait := .none, phase := 1, aux := [0] }, s)

/-- Key of an instance in the order in which a catalogue activation takes them. -/
def instanceKey (a : Fin 256) (g : Segment) : Nat := (a.val * 8 + g.kernel) * 512 + g.inst

/-- The next instance in service from a key on: assignment and one of its segments. -/
def nextInstance (key : Nat) (s : State) : Option (Fin 256 × Segment) :=
  ((allSegments s).filter (fun v => decide (key ≤ instanceKey v.1 v.2))).foldl (fun b v => match b with
    | none => some v
    | some w => if instanceKey v.1 v.2 < instanceKey w.1 w.2 then some v else some w) none

/-- Segments of the instances in service up to a key. -/
def segmentsBefore (key : Nat) (s : State) : Nat := ((allSegments s).filter (fun v => decide (instanceKey v.1 v.2 < key))).length

/-- One instance upgraded to a staged kernel (R313): by a migration with agreement where it is output-identical, else by one that takes over at a
configuration epoch; none where no engines are free for it at present. -/
def upgradeInstance (a : Fin 256) (g : Segment) (e : Nat × Nat × Bool) (ring : Fin 22) (s : State) : Option State :=
  match instanceMoves a g.kernel g.inst (maskWings s.eng.asgs[a].wingMask) s with
  | .error _ => none
  | .ok moves =>
    if moves.any (fun v => segmentMoving a v.1 s) then none
    else some (startMigration { asg := a, moves := moves, step := .copying, startBlock := 0, ring := some ring, wasSpare := [],
                                comparator := Comparator.reset, since := 0, fill := 0, upgrade := some (e.1, e.2.1), agree := e.2.2, ticket := none } s)

/-- The staging bank becomes active and the minimum security rises with it (R312, R313). -/
def activateCatalogue (s : State) : State :=
  match s.eng.staged with
  | none => s
  | some k => { s with eng := { s.eng with catalogue := k, staged := none, minSecurity := k.security } }

/-- KERNEL_CATALOGUE_LOAD (R322): the instances in service are upgraded one after the other, then the staging bank becomes active. A migration that was
given up is tried again, unless its assignment is gone. -/
def opCatalogueLoad (r : Running) (s : State) : Ans × State :=
  if r.phase = 0 then guarded checkCatalogueLoad beginCatalogueLoad r s
  else
    let key := r.aux.getD 0 0
    let from_ := if r.results.head? = some 0 then key + 1 else key
    match nextInstance from_ s, s.eng.staged with
    | some (a, g), some k =>
      let wait (w : Wait) : Ans := .stay { r with wait := w, committed := true, aux := [instanceKey a g], results := [] }
      match (k.kernels.find? (fun e => e.1 == g.kernel)).bind (fun e => upgradeInstance a g e r.desc.ring s) with
      | some s => (wait .hardware, s)
      | none => (wait .none, s)
    | _, _ => (doneWith (catalogueResult (activateCatalogue s)), activateCatalogue s)

/-! ## CAPACITY_QUERY (R323) -/

/-- Checks of CAPACITY_QUERY: those of the definition alone. -/
def checkCapacityQuery (r : Running) (_s : State) : Option Reject :=
  let x := r.desc
  let v := definitionOf x
  firstOf [common false [(0, 1)] (.exactly 80) x, hostRead x, refuseIf (definitionReserved x) (badParam detReserved),
    refuseIf (decide (1 < par x 0 1)) (badParam detBadField), checkCodes (dat x 0 1) v, refuseIf (badInitialGain v) (badParam 0x010D),
    refuseIf (badInitialTaps v) (badParam 0x0201)]

/-- The largest uniform tap count of one direction that places with the other direction as defined; 0 if none. -/
def largestTaps (v : ChanDef) (d : Dir) (b : Board) (s : State) : Nat :=
  (((List.range 16).reverse.map (fun k => 16 * (k + 1))).find? (fun n =>
    planDetail (planBoth v (fun e k => if e = d then n else definedTaps v e k) b s) == 0)).getD 0

/-- CAPACITY_QUERY past its checks. -/
def effectCapacityQuery (r : Running) (s : State) : Ans × State :=
  let v := definitionOf r.desc
  let b := if par r.desc 0 1 = 1 then emptyBoard s else boardOf none s
  let plan := planBoth v (definedTaps v) b s
  let part (d : Dir) : List Segment := ((plansOf plan).filter (fun p => p.1 == d)).flatMap (fun p => p.2.segs)
  let engines (d : Dir) : Nat := ((part d).filterMap (·.engine)).eraseDups.length
  let cost (d : Dir) : Nat := ceilDiv ((part d).map (·.cost)).sum 1000000000
  let free := (((List.finRange 256).filter (fun e => b.takes[e])).map (fun e => planBudget s - b.load[e])).sum / 1000000000
  let taps (d : Dir) : Nat := if v.enables d then largestTaps v d b s else 0
  (doneWith (result [(0, 1, min 255 (engines .dl)), (1, 1, min 255 (engines .ul)), (2, 2, cost .dl), (4, 2, cost .ul), (6, 2, taps .dl),
    (8, 2, taps .ul), (10, 2, planDetail plan), (12, 2, free)]), s)

/-- CAPACITY_QUERY (R323). -/
def opCapacityQuery (r : Running) (s : State) : Ans × State := guarded checkCapacityQuery effectCapacityQuery r s

end Sys2Proof.Machine
end

