-- ==== Sys2Proof/Machine/Guestbook.lean ====
section
/-! DEFINITION. The Guestbook (12_guestbook.md): intake, the tail record and folding (R537-R541), staging and commit (R542-R545), flash and
wear (R547-R549, R717), reading (R550, R556, R557), clearing (R551-R554), the remaining commands of group 0x0A. -/

namespace Sys2Proof.Machine

/-- Change of the Guestbook. -/
def modGb (f : Guestbook → Guestbook) (s : State) : State := { s with gb := f s.gb }

/-! ## Records -/

/-- Flags of R528. -/
def flagSimul : Nat := 1
/-- See R528. -/
def flagOpen : Nat := 2
/-- See R528. -/
def flagHoldup : Nat := 4
/-- See R528. -/
def flagResumed : Nat := 8
/-- See R528. -/
def flagLate : Nat := 16

/-- Microseconds in an operating hour. -/
def hourUs : Nat := 3600000000

/-- Length of a record in bytes (R526). -/
def Record.length (x : Record) : Nat := 32 + 8 * ceilDiv x.payload.length 8

/-- The 32-byte header and the padded payload of a record (R526). -/
def Record.bytes (x : Record) : List Byte :=
  let body := padEight x.payload
  Machine.payload 32 [(0, 2, x.length), (2, 1, x.cls), (3, 1, x.severity), (4, 2, x.source.toNat), (6, 2, x.code.toNat), (8, 2, x.flags.toNat),
    (10, 2, x.repeats), (12, 4, x.sequence.toNat), (16, 4, x.powerCycles.toNat), (20, 4, (x.timeUs / hourUs : Nat)), (24, 4, (x.timeUs % hourUs : Nat)),
    (28, 4, (crc32 body).toNat)] ++ body

/-- A record with flags put in. -/
def Record.flag (f : Nat) (x : Record) : Record := { x with flags := x.flags ||| BitVec.ofNat 16 f }

/-- A record with flags taken out. -/
def Record.unflag (f : Nat) (x : Record) : Record := { x with flags := x.flags &&& ~~~(BitVec.ofNat 16 f) }

/-- REGULATORY and AUDIT records lie in the retained ring (R547). -/
def Record.retained (x : Record) : Bool := x.cls == 4 || x.cls == 5

/-- A record's class and code may fold (R539). -/
def mayFold (cls code : Nat) : Bool :=
  match cls with
  | 1 => code == 3 || decide (0x8000 ≤ code)
  | 2 => code == 1
  | 3 => true
  | 4 => true
  | 8 => true
  | _ => false

/-- Key bytes of the payload (R539). -/
def foldKey (cls : Nat) (bytes : List Byte) : List Byte :=
  match cls with
  | 2 => bytes.take 6
  | 3 => bytes.take 6
  | 4 => bytes.take 8
  | _ => bytes

/-- Records that hold a sequence and are not yet, or not only, in flash: the tail and the staged copies. -/
def recentRecords (s : State) : List Record := (s.gb.tail.toList.map (·.entry)) ++ s.gb.staged.map (·.entry)

/-- Time of the record given a sequence last (R534): records bear rising times, so that it is the latest. -/
def lastRecordUs (s : State) : Nat :=
  ((recentRecords s ++ s.gb.flash.getLast?.toList.map (·.entry)).map (·.timeUs)).foldl max 0

/-- Calendar time of a record, with the records of lower sequence, oldest first (R536): the newest CALENDAR record's wall seconds and the difference
of operating times; none after WALL_CLOCK_LOST or without a CALENDAR record. -/
def calendarTime (x : Record) (earlier : List Record) : Option Word :=
  match (earlier.filter (fun y => y.cls == 6)).getLast? with
  | some y =>
    if y.code = 1 then some (BitVec.ofNat 32 (bufField y.payload 4 4 + (x.timeUs - y.timeUs) / 1000000)) else none
  | none => none

/-! ## The tail and staging -/

/-- A copy put into staging (R542). -/
def stage (x : Record) (isOpen : Bool) (s : State) : State :=
  modGb (fun g => { g with staged := g.staged ++ [{ entry := if isOpen then x.flag flagOpen else x.unflag flagOpen, isOpen := isOpen }], committing := true }) s

/-- The open tail closes (R540, R541): its final copy is staged. -/
def closeTail (s : State) : State :=
  match s.gb.tail with
  | some t =>
    if t.isOpen then
      stage t.entry false (modGb (fun g => { g with tail := some { t with isOpen := false }, tailGeneration := g.tailGeneration + 1 }) s)
    else s
  | none => s

/-- The first-fault register takes the sequence of its record (R515). -/
def latchSequence (x : Record) (s : State) : State :=
  if s.faults.firstSeqDue && x.cls == 2 && x.code == 2 && x.source.toNat == s.faults.firstSource.val then
    { s with faults := { s.faults with firstSeq := x.sequence, firstSeqDue := false } }
  else s

/-- A new record (R533, R534, R539, R541): it takes the next sequence, becomes the tail, open when its class and code may fold, and is staged; its
ring events carry its sequence. -/
def newRecord (cls severity : Nat) (source codeOf : Half) (flags : Nat) (body : List Byte) (timeUs : Nat) (events : List EventRec) (s : State) : State :=
  let s := closeTail s
  let x : Record :=
    { cls := cls, severity := severity, source := source, code := codeOf, flags := BitVec.ofNat 16 flags, repeats := 1, sequence := s.gb.seqNext,
      powerCycles := s.gb.powerCycles, timeUs := max timeUs (lastRecordUs s), payload := body }
  let opens := mayFold cls codeOf.toNat
  let t : Tail :=
    { entry := x, isOpen := opens, lastRepeatTick := s.slowTicks, lastRepeatUs := x.timeUs, snapshotTick := s.slowTicks, snapshotRepeats := 1,
      snapshot := false, finalCopy := false }
  let s := stage x opens (modGb (fun g => { g with tail := some t, seqNext := g.seqNext + 1, tailGeneration := g.tailGeneration + 1 }) s)
  events.foldl (fun s e => postEntry e true x.sequence s) (latchSequence x s)

/-- A record of the Guestbook's own, at the present operating time (R530). -/
def ownRecord (cls severity codeOf flags : Nat) (body : List Byte) (events : List EventRec) (s : State) : State :=
  newRecord cls severity (BitVec.ofNat 16 (writerSource deviceWriter)) (BitVec.ofNat 16 codeOf) flags body (opTime s) events s

/-- Uncommitted bytes: every record with a copy in staging, and the open tail (R544). -/
def stagedBytes (s : State) : Nat :=
  let l := (s.gb.staged.map (·.entry)) ++ (match s.gb.tail with
    | some t => if t.isOpen then [t.entry] else []
    | none => [])
  ((l.foldl (fun (a : List Record) x => if a.any (fun y => y.sequence == x.sequence) then a else a ++ [x]) []).map Record.length).sum

/-- 1 s of slow ticks has passed without a repeat of the tail; a repeat in the tick in which the second expires is on time (R540). -/
def tailOver (t : Tail) (s : State) : Bool := decide (t.lastRepeatTick + 1000 < s.slowTicks)

/-- An entry folds into the tail (R539, R540). -/
def foldsInto (t : Tail) (e : GbEntry) (s : State) : Bool :=
  t.isOpen && !tailOver t s && t.entry.cls == e.cls.val && t.entry.severity == e.severity && t.entry.source == e.source && t.entry.code == e.code &&
    foldKey e.cls.val t.entry.payload == foldKey e.cls.val e.payload && !e.simul && decide (t.entry.repeats < 65535)

/-- Overflow counts are pending (R537). -/
def overflowWaits (s : State) : Bool := s.gb.overflowPending.toList.any (· != 0)

/-- The pending overflow counts become an OVERFLOW record with its event (R538, R559). -/
def writeOverflow (s : State) : State :=
  let g := s.gb
  if !g.queue.isEmpty || g.intakeClosed || !overflowWaits s then s
  else
    let counts := (List.range 8).map (fun k => (4 * k, 4, ((nth g.overflowPending (k + 1) 0 : Nat) : Int)))
    let body := payload 40 (counts ++ [(32, 4, ((g.overflowFirstUs / hourUs : Nat) : Int)), (36, 4, ((g.overflowFirstUs % hourUs : Nat) : Int))])
    ownRecord 1 1 4 0 body [eventAt s 0x0A01 1 0xFFFF (body.take 16)] (modGb (fun g => { g with overflowPending := Vector.replicate 9 0 }) s)

/-- A GB_APPEND's entry has been taken: its command finds the sequence and whether it folded (R558). The record of a host-interface reset has its
sequence for HOST_RESET_SEEN (R111). -/
def noteTaken (e : GbEntry) (folded : Bool) (s : State) : State :=
  let n := s.gb.taken
  let seq := (s.gb.tail.map (·.entry.sequence)).getD 0
  let s := if e.cls == 1 && e.code == 3 then { s with hif := { s.hif with resetSeenSeq := some seq } } else s
  modGb (fun g => { g with taken := n + 1, notes := if (e.cls == 1 || e.cls == 8) && decide (0x8000 ≤ e.code.toNat) then g.notes ++ [(n, seq, folded)] else g.notes }) s

/-- An entry becomes part of the tail, or a new record (R539-R541). -/
def fileEntry (e : GbEntry) (s : State) : State :=
  let fold : Option Tail := match s.gb.tail with
    | some t => if foldsInto t e s then some t else none
    | none => none
  match fold with
  | some t =>
    let x := { t.entry with repeats := t.entry.repeats + 1 }
    let s := modGb (fun g => { g with tail := some { t with entry := x, lastRepeatTick := s.slowTicks, lastRepeatUs := max e.timeUs t.entry.timeUs },
                                      tailGeneration := g.tailGeneration + 1 }) s
    let s := if x.repeats = 65535 then closeTail s else s
    noteTaken e true (e.events.foldl (fun s v => postEntry v true x.sequence s) s)
  | none =>
    let flags := (if e.simul then flagSimul else 0) + (if e.late then flagLate else 0)
    noteTaken e false (newRecord e.cls.val e.severity e.source e.code flags e.payload e.timeUs e.events s)

/-- An event of the collector has waited for more than 1 µs; an entry that frees in the fault tick in which the 1 µs expires is in time (R43, R537). -/
def waitOver (e : GbEntry) (s : State) : Bool := decide (e.timeUs + 1 < opTime s)

/-- The collector's event that waits longest is counted as lost (R537); a first fault whose record it was has none (R515). -/
def loseWaiting (s : State) : State :=
  match s.gb.collectorWait with
  | e :: rest =>
    let latched := s.faults.firstSeqDue && e.code == 2 && e.source.toNat == s.faults.firstSource.val
    gbLose e (modGb (fun g => { g with collectorWait := rest }) (if latched then { s with faults := { s.faults with firstSeqDue := false } } else s))
  | [] => s

/-- The collector's events that have waited for more than 1 µs are counted as lost, the n at the front (R537). -/
def loseLate : Nat → State → State
  | 0, s => s
  | n + 1, s => if s.gb.collectorWait.head?.any (fun e => waitOver e s) then loseLate n (loseWaiting s) else s

/-- An entry has freed: a collector's event that still waits takes it, stamped at entry (R537). -/
def admitCollector (s : State) : State :=
  let s := loseLate s.gb.collectorWait.length s
  match s.gb.collectorWait with
  | e :: rest =>
    if gbRoom e.cls s then
      modGb (fun g => { g with collectorWait := rest, queue := g.queue ++ [{ e with late := true, timeUs := opTime s }] }) s
    else s
  | [] => s

/-- The front entry taken (R538, R539). -/
def takeFront (s : State) : State :=
  match s.gb.queue with
  | e :: rest => writeOverflow (admitCollector (fileEntry e (modGb (fun g => { g with queue := rest }) s)))
  | [] => s

/-- Every entry taken, the n at the front (R542, R545). -/
def takeEntries : Nat → State → State
  | 0, s => s
  | n + 1, s => takeEntries n (takeFront s)

/-- Bytes that an entry adds to the uncommitted data once it is taken: none where it folds (R539, R544). -/
def entryBytes (e : GbEntry) (s : State) : Nat :=
  if (match s.gb.tail with
     | some t => foldsInto t e s
     | none => false) then 0 else 32 + 8 * ceilDiv e.payload.length 8

/-- Bytes of the OVERFLOW record that follows the last entry of the queue (R538). -/
def overflowBytes (s : State) : Nat := if s.gb.queue.length = 1 ∧ overflowWaits s then 72 else 0

/-- The Guestbook may take the front entry: the records this makes keep the uncommitted data within 1024 bytes, or it makes none (R544). -/
def mayTake (s : State) : Bool :=
  match s.gb.queue with
  | e :: _ =>
    let n := entryBytes e s + overflowBytes s
    n == 0 || decide (stagedBytes s + n ≤ 1024)
  | [] => false

/-- GB_TAKE_ENTRY (R539, R544). -/
def execGbTakeEntry (s : State) : Host.Outcome State Fault Refusal :=
  .next (if s.sys.coreUp && !s.gb.intakeClosed && mayTake s then takeFront s else s)

/-- GB_INTAKE (R537): an event of a class enters the queue or is counted as lost; a FAULT event is the collector's, which waits for an entry. -/
def execGbIntake (entry : GbEntry) (s : State) : Host.Outcome State Fault Refusal :=
  let e := { entry with late := false, payload := entry.payload.take 480, timeUs := opTime s }
  .next (if e.cls = 0 then s else if e.cls = 2 then gbCollector e s else gbIntake e s)

/-- COLLECTOR_INTAKE_TIMEOUT (R537): the 1 µs of the collector's event that has waited longest passes, and it is counted as lost. -/
def execCollectorIntakeTimeout (s : State) : Host.Outcome State Fault Refusal :=
  .next (match s.gb.collectorWait with
    | e :: _ => loseWaiting (advanceTo (opInstant (e.timeUs + 2) s) s)
    | [] => s)

/-- TAIL_TIMEOUT (R540): 1 s of slow ticks without a repeat. -/
def execTailTimeout (s : State) : Host.Outcome State Fault Refusal :=
  .next (match s.gb.tail with
    | some t => if s.sys.coreUp && tailOver t s then closeTail s else s
    | none => s)

/-- TAIL_SNAPSHOT (R543): 1 s after the previous snapshot, the open tail having changed. -/
def execTailSnapshot (s : State) : Host.Outcome State Fault Refusal :=
  .next (match s.gb.tail with
    | some t =>
      if s.sys.coreUp && t.isOpen && decide (t.snapshotTick + 1000 ≤ s.slowTicks) && t.entry.repeats != t.snapshotRepeats then
        stage t.entry true (modGb (fun g => { g with tail := some { t with snapshotTick := s.slowTicks, snapshotRepeats := t.entry.repeats } }) s)
      else s
    | none => s)

/-! ## Flash (R547-R549, R717) -/

/-- Bytes of records a ring sector holds. -/
def sectorRoom : Nat := 65536 - 32

/-- Sectors of a ring (R547). -/
def ringSectors (retained : Bool) : Nat := if retained then 16 else 110

/-- Header of the ring sector being filled (R548), with the code of its area, which the rule does not give: magic, area, format, the number of its passes, the sequence of its first record, CRC-32. -/
def sectorHeader (area : Nat) (retained : Bool) (s : State) : List Byte :=
  let n := if retained then s.gb.retainedSector else s.gb.generalSector
  let first := (s.gb.flash.find? (fun f => f.entry.retained == retained && f.sector == n)).elim s.gb.seqNext (fun f => f.entry.sequence)
  let body := payload 28 [(0, 4, 0x4B425547), (4, 1, area), (5, 1, 1), (8, 4, ((n / ringSectors retained : Nat) : Int)), (12, 4, first.toNat)]
  body ++ (List.range 4).map (fun k => BitVec.ofNat 8 ((crc32 body).toNat / 2 ^ (8 * k)))

/-- Records that a ring loses when it moves into a sector: those of the sector erased in advance behind it (R549). -/
def agedOut (retained : Bool) (sector : Nat) (l : List Filed) : List Filed :=
  l.filter (fun x => x.entry.retained != retained || decide (sector + 1 < x.sector + ringSectors retained))

/-- A copy programmed (R548, R549): it never crosses a sector; the last copy of a sequence stands. -/
def program (x : Record) (s : State) : State :=
  let n := x.length
  let s := modGb (fun g =>
    if x.retained then
      if g.retainedUsed + n ≤ sectorRoom then { g with retainedUsed := g.retainedUsed + n }
      else { g with retainedUsed := n, retainedSector := g.retainedSector + 1, retainedPasses := max g.retainedPasses ((g.retainedSector + 2) / 16),
                    flash := agedOut true (g.retainedSector + 1) g.flash }
    else if g.generalUsed + n ≤ sectorRoom then { g with generalUsed := g.generalUsed + n }
    else { g with generalUsed := n, generalSector := g.generalSector + 1, generalPasses := max g.generalPasses ((g.generalSector + 2) / 110),
                  flash := agedOut false (g.generalSector + 1) g.flash }) s
  let hour := opTime s / hourUs
  modGb (fun g =>
    let f : Filed := { entry := x, sector := if x.retained then g.retainedSector else g.generalSector }
    let subs := g.rateSubs.filter (fun e => decide (hour < e.1 + 24))
    { g with
      flash := if g.flash.any (fun y => y.entry.sequence == x.sequence) then g.flash.map (fun y => if y.entry.sequence = x.sequence then f else y)
               else g.flash ++ [f],
      rateSubs := if subs.any (fun e => e.1 == hour) then subs.map (fun e => if e.1 = hour then (e.1, e.2 + n) else e) else subs ++ [(hour, n)] }) s

/-- A CLEAR_DONE reaches flash: the commit point of a clear (R554), and GB_CLEARED with it (R559). -/
def clearPoint (x : Record) (s : State) : State :=
  if x.cls = 5 ∧ x.code = 1 then
    postEntry (eventAt s 0x0A02 0 0xFFFF (payload 16 [(0, 4, x.sequence.toNat)])) true x.sequence
      (modGb (fun g => { g with
        clearBoundary := x.sequence, erasing := true, generalUsed := 0, generalSector := g.generalSector + 1,
        generalPasses := max g.generalPasses ((g.generalSector + 110) / 110),
        flash := g.flash.filter (fun y => y.entry.retained || !serialLater 32 x.sequence.toNat y.entry.sequence.toNat) }) s)
  else s

/-- CLEAR_DONE records in the retained ring, saturating (R560). -/
def clearsKept (s : State) : Nat := min 65535 (s.gb.flash.filter (fun f => f.entry.cls == 5 && f.entry.code == 1)).length

/-- A copy committed: what the tail knows of its copies follows (R557). -/
def commitOne (s : State) (c : Staged) : State :=
  let x := if s.gb.intakeClosed then c.entry.flag flagHoldup else c.entry
  let s := clearPoint x (program x s)
  modGb (fun g => { g with tail := g.tail.map (fun t =>
    if t.entry.sequence = x.sequence then { t with snapshot := t.snapshot || c.isOpen, finalCopy := t.finalCopy || !c.isOpen } else t) }) s

/-- Every staged copy committed, in order (R542); after a hold-up trip the time of POWER_LOSS serves as the checkpoint (R545). -/
def commitAll (s : State) : State :=
  let l := s.gb.staged
  let s := l.foldl commitOne (modGb (fun g => { g with staged := [], committing := false }) s)
  if s.gb.intakeClosed && !l.isEmpty then
    modGb (fun g => { g with holdup := true, checkpointUs := lastRecordUs s }) (writeCheckpoint s)
  else s

/-- GB_COMMIT_DONE (R542). -/
def execGbCommitDone (s : State) : Host.Outcome State Fault Refusal := .next (if s.gb.staged.isEmpty then s else commitAll s)

/-- CLEAR_ERASE_DONE (R554): the erase ends, unless a hold-up commit has suspended it (R545). -/
def execClearEraseDone (s : State) : Host.Outcome State Fault Refusal :=
  .next (if s.gb.intakeClosed && s.gb.committing then s else modGb (fun g => { g with erasing := false }) s)

/-- The next multiple of 600 s of operating time after the newest checkpoint, in µs (R547, log entry 182). -/
def checkpointDueUs (s : State) : Nat := (s.gb.checkpointUs / 600000000 + 1) * 600000000

/-- CHECKPOINT (R547). -/
def execCheckpoint (s : State) : Host.Outcome State Fault Refusal :=
  .next (if s.sys.coreUp then writeCheckpoint (advanceTo (opInstant (checkpointDueUs s) s) s) else s)

/-- Bytes per second of R717: those of the sub-windows kept over the time from the start of the oldest, or from power-on. -/
def commitRate (s : State) : Nat :=
  let hour := opTime s / hourUs
  let since := max s.gb.rateStartUs ((hour - 23) * hourUs)
  let us := opTime s - since
  let bytes := ((s.gb.rateSubs.filter (fun e => decide (hour < e.1 + 24))).map (·.2)).sum
  if opTime s < s.gb.rateStartUs + 1000000 ∨ us = 0 then 0 else min 65535 (1000000 * bytes / us)

/-! ## Hold-up (R545) -/

/-- Steps 1 and 2 of the hold-up commit: the queue drains, the tail closes, POWER_LOSS is staged, intake closes. -/
def holdupCommit (comparator : Nat) (s : State) : State :=
  let s := closeTail (takeEntries s.gb.queue.length s)
  let body := payload 16 [(0, 1, comparator), (2, 2, min 65535 s.gb.staged.length),
    (4, 2, min 65535 (s.gb.staged.map (fun c => c.entry.length)).sum)]
  modGb (fun g => { g with intakeClosed := true }) (ownRecord 1 1 2 flagHoldup body [] s)

/-! ## Reading -/

/-- Age of a sequence: how far it lies behind the next one. -/
def seqAge (n : Word) (s : State) : Nat := (s.gb.seqNext - n).toNat

/-- The last copy of every record, in ascending sequence: flash, then staging, then the open tail (R550). -/
def readable (s : State) : List Record :=
  let later := (s.gb.staged.map (·.entry)) ++ (match s.gb.tail with
    | some t => if t.isOpen then [t.entry.flag flagOpen] else []
    | none => [])
  let all := later.foldl (fun (a : List Record) x =>
    if a.any (fun y => y.sequence == x.sequence) then a.map (fun y => if y.sequence = x.sequence then x else y) else a ++ [x])
    (s.gb.flash.map (·.entry))
  sortBy (fun x y => decide (seqAge y.sequence s ≤ seqAge x.sequence s)) all

/-- GBK_SEQ_OLDEST: the oldest general-ring record readable; the next sequence when there is none. -/
def oldestSequence (s : State) : Word := (((readable s).find? (fun x => !x.retained)).map (·.sequence)).getD s.gb.seqNext

/-- GBK_SEQ_COMMITTED: the last sequence before the first record without a copy in flash; 0 when no record has been written. -/
def committedSequence (s : State) : Word :=
  match (readable s).find? (fun x => !s.gb.flash.any (fun y => y.entry.sequence == x.sequence)) with
  | some x => x.sequence - 1
  | none => if (readable s).isEmpty then 0 else s.gb.seqNext - 1

/-- Records of a GB_READ that fit, whole (R556). -/
def fitting : Nat → Nat → List Record → List Record
  | _, 0, _ => []
  | _, _, [] => []
  | room, n + 1, x :: rest => if x.length ≤ room then x :: fitting (room - x.length) n rest else []

/-- Checks of GB_READ (R555, R556). -/
def checkGbRead (r : Running) (s : State) : Option Reject :=
  firstOf [common false [(0, 4), (4, 1), (5, 1), (6, 2)] (.atLeast 512) r.desc, refuseIf (decide (1 < par r.desc 5 1)) (badParam detReserved),
    refuseIf (!s.gb.ready) (badState 0x0A0A)]

/-- Records a GB_READ asks for, from a sequence on, or from the oldest record. -/
def wantedRecords (x : Desc) (start : Option Word) (s : State) : List Record :=
  let mask := par x 4 1
  (readable s).filter (fun e =>
    start.all (fun v => decide ((e.sequence - v).toNat < 2 ^ 31)) && (mask == 0 || mask.testBit (e.cls - 1)))

/-- Most records a GB_READ returns. -/
def readLimit (x : Desc) (wanted : List Record) : Nat := if par x 6 2 = 0 then wanted.length else par x 6 2

/-- What a GB_READ has done: the records written and their total as it stood at the start, the first and the last sequence, the bytes. -/
structure ReadState where
  done : Nat
  total : Nat
  first : Nat
  last : Nat
  bytes : List Nat

/-- It is kept in the command's own words between its steps. -/
def ReadState.ofAux : List Nat → ReadState
  | d :: t :: f :: l :: b => { done := d, total := t, first := f, last := l, bytes := b }
  | _ => { done := 0, total := 0, first := 0, last := 0, bytes := [] }

/-- The words of it. -/
def ReadState.aux (v : ReadState) : List Nat := v.done :: v.total :: v.first :: v.last :: v.bytes

/-- Records done and their total, the units of GB_READ's progress (R556). -/
def readProgress (r : Running) (_s : State) : Nat × Nat := ((ReadState.ofAux r.aux).done, (ReadState.ofAux r.aux).total)

/-- The end of a GB_READ. -/
def readEnd (v : ReadState) (s : State) : Ans :=
  doneData (result [(0, 4, v.first), (4, 4, v.last), (8, 2, v.done), (10, 2, s.gb.tailGeneration.toNat), (12, 4, (oldestSequence s).toNat)])
    (v.bytes.map (BitVec.ofNat 8))

/-- A step of a GB_READ past its checks: it writes the next record, if one is left that fits (log entry 149). -/
def readStep (r : Running) (s : State) : Ans × State :=
  let x := r.desc
  let v := ReadState.ofAux r.aux
  let from_ : Option Word := if v.done = 0 then (if par x 5 1 = 1 then none else some (BitVec.ofNat 32 (par x 0 4))) else some (BitVec.ofNat 32 v.last + 1)
  let wanted := wantedRecords x from_ s
  let left := if par x 6 2 = 0 then wanted.length else par x 6 2 - v.done
  match fitting (x.dataLen.toNat - v.bytes.length) (min 1 left) wanted with
  | e :: _ =>
    let n := e.sequence.toNat
    let w : ReadState := { v with done := v.done + 1, first := if v.done = 0 then n else v.first, last := n, bytes := v.bytes ++ e.bytes.map (·.toNat) }
    (.stay { r with wait := .none, phase := 1, aux := w.aux }, s)
  | [] => (readEnd v s, s)

/-- The first step of a GB_READ past its checks counts the records to write. -/
def beginGbRead (r : Running) (s : State) : Ans × State :=
  let x := r.desc
  let wanted := wantedRecords x (if par x 5 1 = 1 then none else some (BitVec.ofNat 32 (par x 0 4))) s
  let v : ReadState := { done := 0, total := (fitting x.dataLen.toNat (readLimit x wanted) wanted).length, first := 0, last := 0, bytes := [] }
  (.stay { r with wait := .none, phase := 1, aux := v.aux }, s)

/-- GB_READ (R556), one record a step. -/
def opGbRead (r : Running) (s : State) : Ans × State := if r.phase = 0 then guarded checkGbRead beginGbRead r s else readStep r s

/-- Checks of GB_TAIL_STATUS (R557). -/
def checkGbTailStatus (r : Running) (_s : State) : Option Reject := common false [] .none r.desc

/-- GB_TAIL_STATUS past its checks; zeros where no record has been written. -/
def effectGbTailStatus (_r : Running) (s : State) : Ans × State :=
  match s.gb.tail with
  | some t =>
    let flags := (if t.isOpen then 1 else 0) + (if t.snapshot then 2 else 0) + (if t.finalCopy then 4 else 0)
    (doneWith (result [(0, 4, t.entry.sequence.toNat), (4, 1, flags), (5, 1, t.entry.cls), (6, 2, t.entry.repeats), (8, 2, s.gb.tailGeneration.toNat),
      (12, 4, min (2 ^ 32 - 1) (t.lastRepeatUs - t.entry.timeUs))]), s)
  | none => (doneWith (result [(8, 2, s.gb.tailGeneration.toNat)]), s)

/-- GB_TAIL_STATUS (R557). -/
def opGbTailStatus (r : Running) (s : State) : Ans × State := guarded checkGbTailStatus effectGbTailStatus r s

/-! ## Clearing -/

/-- Checks of GB_CLEAR_CHALLENGE (R551). -/
def checkClearChallenge (r : Running) (s : State) : Option Reject :=
  firstOf [common false [] .none r.desc, refuseIf (match s.gb.lastAuthFailTick with
    | some t => decide (s.slowTicks < t + 60000)
    | none => false) (badState 0x0A06)]

/-- GB_CLEAR_CHALLENGE past its checks: the nonce is a free value. -/
def effectClearChallenge (_r : Running) (s : State) : Ans × State :=
  let n := takeFree s
  let v := Config.freeValue n.1
  (doneWith v, modGb (fun g => { g with nonce := some (v, s.slowTicks) }) n.2)

/-- GB_CLEAR_CHALLENGE (R551). -/
def opGbClearChallenge (r : Running) (s : State) : Ans × State := guarded checkClearChallenge effectClearChallenge r s

/-- Device identity as a block carries it. -/
def identityNat : Nat := Config.deviceIdentity.toNat

/-- An enrolled operator key of the House Rules in force (R553, R593). -/
def enrolledKey (slot : Nat) (s : State) : Option (List Byte) :=
  if slot < 4 ∧ s.hr.rules.keysEnrolled.getLsbD slot then some (nth s.hr.rules.keys slot []) else none

/-- A nonce is current: the last issued, within 60 s, unspent (R551, R593). -/
def nonceCurrent (n : Option (BitVec 128 × Nat)) (v : Nat) (now : Nat) : Bool :=
  match n with
  | some (x, t) => x.toNat == v && decide (now ≤ t + 60000)
  | none => false

/-- Check 1 of R553. -/
def clearFormat (x : Desc) : Bool :=
  x.dataLen.toNat == 128 && dat x 0 4 == 0x4C434247 && dat x 4 2 == 1 && dat x 7 1 == 0 && dat x 36 28 == 0

/-- The ordered checks of R553: the refusal, and whether check 5 was reached. -/
def clearChecks (x : Desc) (s : State) : Option Reject × Bool :=
  if !clearFormat x then (badParam 0x0A0B, false)
  else if s.gb.erasing then (badState 0x0A07, false)
  else match enrolledKey (dat x 6 1) s with
    | none => (some (.authFailed, 0x0A04), false)
    | some key =>
      if dat x 8 8 != identityNat then (some (.authFailed, 0x0A05), false)
      else if !nonceCurrent s.gb.nonce (dat x 16 16) s.slowTicks then (some (.authFailed, 0x0A02), true)
      else if ecdsaVerify key (x.data.take 64) ((x.data.drop 64).take 64) then (none, true)
      else (some (.authFailed, 0x0A03), true)

/-- A refused clear: CLEAR_REFUSED, and the lockout after AUTH_FAILED (R551, R553). -/
def refuseClear (r : Running) (e : Reject) (s : State) : State :=
  let x := r.desc
  let s := if e.1 = .authFailed then
      modGb (fun g => { g with authFailures := satAdd 16 g.authFailures 1, lastAuthFailTick := some s.slowTicks }) s else s
  logRecord 5 1 (writerSource (writerOf x.ring.val)) 2 (payload 16 [(0, 1, dat x 6 1), (2, 2, e.2), (8, 8, (dat x 16 8 : Nat))]) [] s

/-- Records below a boundary that a clear removes. -/
def clearable (s : State) : Nat := ((readable s).filter (fun x => !x.retained)).length

/-- Staging has room for a CLEAR_DONE (R544). -/
def clearRoom (s : State) : Bool := decide (stagedBytes s + 64 ≤ 1024)

/-- An accepted clear begins (R554): the tail closes and CLEAR_DONE takes the next sequence. -/
def beginClear (r : Running) (s : State) : Ans × State :=
  let x := r.desc
  let s := closeTail s
  let n := clearable s
  let c := s.gb.seqNext
  let body := payload 32 [(0, 1, dat x 6 1), (4, 4, c.toNat), (8, 4, dat x 32 4), (12, 4, n), (16, 8, (dat x 16 8 : Nat)), (24, 8, (dat x 64 8 : Nat))]
  let s := newRecord 5 0 (BitVec.ofNat 16 (writerSource (writerOf x.ring.val))) 1 0 body (opTime s) [] s
  (awaitState r 1 [c.toNat, n], s)

/-- A clear stopped before its commit point: its CLEAR_DONE, still in staging, is withdrawn, and its sequence stays unused (log entry 143). -/
def withdrawClear (r : Running) (s : State) : State :=
  let mine (x : Record) : Bool := x.sequence.toNat == r.aux.headD 0
  modGb (fun g => { g with staged := g.staged.filter (fun c => !mine c.entry), tail := g.tail.filter (fun t => !mine t.entry) }) s

/-- The commit point of a clear has passed. -/
def clearCommitted (r : Running) (s : State) : Bool := s.gb.flash.any (fun y => y.entry.sequence.toNat == r.aux.headD 0)

/-- What a GB_CLEAR waits for: in phase 2 room in staging, in phase 1 the commit of its CLEAR_DONE. -/
def clearReady (r : Running) (s : State) : Bool := if r.phase = 2 then clearRoom s else clearCommitted r s

/-- GB_CLEAR (R552-R554, R558). -/
def opGbClear (r : Running) (s : State) : Ans × State :=
  if r.phase = 2 then beginClear r s
  else if r.phase ≠ 0 then (doneWith (result [(0, 4, r.aux.headD 0), (4, 4, r.aux.getD 1 0)]), s)
  else match firstOf [common false [] .own r.desc, hostRead r.desc, refuseIf (!s.gb.ready) (badState 0x0A0A)] with
    | some e => (refuse e, s)
    | none =>
      let v := clearChecks r.desc s
      let s := if v.2 then modGb (fun g => { g with nonce := none }) s else s
      match v.1 with
      | some e => (refuse e, refuseClear r e s)
      | none => if clearRoom s then beginClear r s else (awaitState r 2 [], s)

/-! ## Notes and the wall clock -/

/-- Length of a GB_APPEND's note. -/
def noteLength (x : Desc) : Nat := par x 4 1

/-- Checks of GB_APPEND (R555, R558). -/
def checkGbAppend (r : Running) (s : State) : Option Reject :=
  let x := r.desc
  let cls := par x 0 1
  firstOf [common false [(0, 1), (1, 1), (2, 2), (4, 1), (8, 32)] .none x,
    refuseIf ((cls != 1 && cls != 8) || decide (2 < par x 1 1) || decide (par x 2 2 < 0x8000)) (badParam 0x0A01),
    refuseIf (decide (32 < noteLength x)) (badParam detBadField),
    refuseIf (!gbRoom (Fin.ofNat 9 cls) s) (some (.noResource, 0x0A08))]

/-- GB_APPEND past its checks: the note enters the intake; the command ends when it is staged. -/
def beginGbAppend (r : Running) (s : State) : Ans × State :=
  let x := r.desc
  let n := s.gb.taken + s.gb.queue.length
  let body := padEight (((List.range (noteLength x)).map (fun k => BitVec.ofNat 8 (par x (8 + k) 1))))
  (awaitState { r with committed := true } 1 [n],
    logRecord (par x 0 1) (par x 1 1) (writerSource (writerOf x.ring.val)) (par x 2 2) body [] s)

/-- The note of a GB_APPEND has been taken. -/
def noteStaged (r : Running) (s : State) : Bool := decide (r.aux.headD 0 < s.gb.taken)

/-- GB_APPEND (R558). -/
def opGbAppend (r : Running) (s : State) : Ans × State :=
  if r.phase = 0 then guarded checkGbAppend beginGbAppend r s
  else
    let n := r.aux.headD 0
    let v := ((s.gb.notes.find? (fun e => e.1 == n)).map (·.2)).getD (0, false)
    (doneWith (result [(0, 4, v.1.toNat), (4, 1, flagBit v.2)]), modGb (fun g => { g with notes := g.notes.filter (fun e => e.1 != n) }) s)

/-- Checks of WALL_CLOCK_SET (R555, R558): the CALENDAR record needs an entry of the intake (R537, log entry 182). -/
def checkWallClockSet (r : Running) (s : State) : Option Reject :=
  firstOf [common false [(0, 4)] .none r.desc, refuseIf (match s.gb.wallSetUs with
    | some t => decide (opTime s < t + 1000000)
    | none => false) (badState 0x0A09), refuseIf (!gbRoom 6 s) (some (.noResource, 0x0A08))]

/-- WALL_CLOCK_SET past its checks (R536): its CALENDAR record enters the intake, and the clock stands at the new seconds at the operating time of that
record, which is the present one: no record given a sequence before it bears a later time (R534). -/
def effectWallClockSet (r : Running) (s : State) : Ans × State :=
  let x := r.desc
  let w := writerOf x.ring.val
  let old := wallNow s
  let t := opTime s
  let body := payload 16 [(0, 4, old.toNat), (4, 4, par x 0 4), (8, 1, w), (9, 1, flagBit (!s.gb.wallValid))]
  (doneWith (result [(0, 4, old.toNat), (4, 4, ((t / hourUs : Nat) : Int)), (8, 4, ((t % hourUs : Nat) : Int))]),
    modGb (fun g => { g with wallSeconds := BitVec.ofNat 32 (par x 0 4), wallValid := true, wallBaseUs := t, wallSetUs := some t })
      (logRecord 6 0 (writerSource w) 1 body [] s))

/-- WALL_CLOCK_SET (R536, R558). -/
def opWallClockSet (r : Running) (s : State) : Ans × State := guarded checkWallClockSet effectWallClockSet r s

/-! ## Core start -/

/-- The Guestbook at a core start (R530, R535, R536, R542): staged records are committed, queued entries taken and committed, then START is
written, with RESUMED after a power-up, which has also lost the wall clock. -/
def guestbookStart (kind : Nat) (powerUp : Bool) (s : State) : State :=
  let s := commitAll s
  let s := commitAll (closeTail (takeEntries s.gb.queue.length s))
  let last := s.gb.flash.getLast?
  let body := payload 16 [(0, 1, kind), (2, 2, min 65535 s.gb.torn), (4, 4, last.elim 0 (fun f => (f.entry.sequence.toNat : Int))),
    (8, 4, last.elim 0 (fun f => ((f.entry.timeUs / hourUs : Nat) : Int))), (12, 4, last.elim 0 (fun f => ((f.entry.timeUs % hourUs : Nat) : Int)))]
  let s := modGb (fun g => { g with ready := true, resumed := false, torn := 0 }) (ownRecord 1 0 1 (if powerUp then flagResumed else 0) body [] s)
  if powerUp then ownRecord 6 1 2 0 [] [] s else s

end Sys2Proof.Machine
end

