-- ==== Sys2Proof/Machine/Loops.lean ====
section
/-! DEFINITION. The Loop Engine (08_loop_engine.md): Q15 arithmetic and the templates bit by bit (R379-R386), ticks (R387-R389), swaps and
back-calculation (R393-R395), hand-overs (R398, R399), the repetitive controller (R400-R403), supervision (R404), commands of group 0x06. -/

namespace Sys2Proof.Machine

/-! ## Arithmetic (R379, R380) -/

/-- Leaves the accumulator (R380): round half up, saturate. -/
def storeSh (acc : Int) (sh : Nat) : Int := satInt 16 (ashr (acc + 2 ^ (14 - sh)) (15 - sh))

/-- Q15 into the scaled accumulator (R380). -/
def toAcc (q : Int) (sh : Nat) : Int := ashr (q * 32768) sh

/-- Word k of a coefficient set (R383). -/
def coef (c : Vector Int 16) (k : Nat) : Int := nth c k 0

/-- sh of a set. -/
def coefShift (c : Vector Int 16) : Nat := (coef c 3).toNat % 16

/-- Active set of a slot. -/
def LoopSlot.set (x : LoopSlot) : Vector Int 16 := if x.activeB then x.setB else x.setA

/-- What a template's core answers: its stored result, the slot after the part before the output path, whether the anti-windup freeze held,
whether the accumulator saturated. -/
structure CoreOut where
  value : Int
  slot : LoopSlot
  frozen : Bool
  sat : Bool

/-- PID before the output path (R384). -/
def pidCore (x : LoopSlot) (e e1 : Int) (hi lo : Bool) : CoreOut :=
  let c := x.set
  let sh := coefShift c
  let kie := coef c 5 * e
  let hold := (hi && decide (0 < kie)) || (lo && decide (kie < 0))
  let sum := x.iAcc + kie
  let i := if hold then x.iAcc else satInt 40 sum
  let i := clampInt (toAcc (coef c 0) sh) (toAcc (coef c 1) sh) i
  let d := coef c 6 * (e - e1)
  let dfSum := x.df + ashr (coef c 7 * (d - x.df) + 16384) 15
  let df := satInt 40 dfSum
  let out := coef c 4 * e + i + df
  { value := storeSh (satInt 40 out) sh, slot := { x with iAcc := i, df := df }, frozen := hold,
    sat := (!hold && satInt 40 sum != sum) || df != dfSum || satInt 40 out != out }

/-- 2P2Z and 3P3Z before the output path (R385). -/
def biquadCore (x : LoopSlot) (e : Int) : CoreOut :=
  let c := x.set
  let out := coef c 4 * e + x.s1
  { value := storeSh (satInt 40 out) (coefShift c), slot := x, frozen := false, sat := satInt 40 out != out }

/-- 2P2Z and 3P3Z after it: the states fed with the applied output ua (R385). -/
def biquadAfter (x : LoopSlot) (e ua : Int) : LoopSlot × Bool :=
  let c := x.set
  if x.template = 1 then
    let n1 := coef c 5 * e - coef c 7 * ua + x.s2
    let n2 := coef c 6 * e - coef c 8 * ua
    ({ x with s1 := satInt 40 n1, s2 := satInt 40 n2 }, satInt 40 n1 != n1 || satInt 40 n2 != n2)
  else
    let n1 := coef c 5 * e - coef c 8 * ua + x.s2
    let n2 := coef c 6 * e - coef c 9 * ua + x.s3
    let n3 := coef c 7 * e - coef c 10 * ua
    ({ x with s1 := satInt 40 n1, s2 := satInt 40 n2, s3 := satInt 40 n3 },
     satInt 40 n1 != n1 || satInt 40 n2 != n2 || satInt 40 n3 != n3)

/-- A template's core on the tick's inputs (R384-R386); a REPETITIVE slot's value comes from its store. -/
def slotCore (x : LoopSlot) (e e1 m : Int) (hi lo : Bool) (learned : Int) : CoreOut :=
  let plain (v : Int) : CoreOut := { value := v, slot := x, frozen := false, sat := false }
  match x.template with
  | 0 => pidCore x e e1 hi lo
  | 1 => biquadCore x e
  | 2 => biquadCore x e
  | 3 => plain (storeSh (x.y * 32768 + coef x.set 4 * (m - x.y)) 0)
  | 4 => plain m
  | _ => plain learned

/-- A slot after the output path (R385, R386). -/
def slotAfter (x : LoopSlot) (e ua : Int) : LoopSlot × Bool :=
  match x.template with
  | 1 => biquadAfter x e ua
  | 2 => biquadAfter x e ua
  | 3 => ({ x with y := ua }, false)
  | _ => (x, false)

/-- The output path (R381): v, the applied output and the limit flags. step is a further bound on the movement, 0 for none. -/
structure PathOut where
  v : Int
  u : Int
  hi : Bool
  lo : Bool

/-- Output path under a set's limits and a rate, 0 for no rate (R381). -/
def outputPath (outMin outMax rate core ff u1 : Int) : PathOut :=
  let v := satInt 16 (core + ff)
  let u := clampInt outMin outMax v
  let u := if rate ≠ 0 then clampInt (u1 - rate) (u1 + rate) u else u
  { v := v, u := u, hi := decide (outMax ≤ v) || (rate != 0 && u == u1 + rate && decide (u < v)),
    lo := decide (v ≤ outMin) || (rate != 0 && u == u1 - rate && decide (v < u)) }

/-- Output path of a coefficient set (R381). -/
def setPath (c : Vector Int 16) (core ff u1 : Int) : PathOut := outputPath (coef c 0) (coef c 1) (coef c 2) core ff u1

/-! ## Back-calculation (R394) -/

/-- A state rescaled from one shift to another. -/
def rescale (v : Int) (old new : Nat) : Int :=
  if new ≤ old then satInt 40 (v * 2 ^ (old - new)) else satInt 40 (ashr v (new - old))

/-- The target u_t of back-calculation. -/
def backTarget (c : Vector Int 16) (u1 : Int) : Int := clampInt (coef c 0) (coef c 1) u1

/-- A slot's state after back-calculation from a shift (R394). -/
def LoopSlot.back (x : LoopSlot) (shOld : Nat) (u1 ff1 e1 : Int) : LoopSlot :=
  let c := x.set
  let sh := coefShift c
  let ut := backTarget c u1
  match x.template with
  | 0 =>
    let df := rescale x.df shOld sh
    { x with df := df, iAcc := clampInt (toAcc (coef c 0) sh) (toAcc (coef c 1) sh) (toAcc (ut - ff1) sh - coef c 4 * e1 - df) }
  | 1 => { x with s1 := toAcc (ut - ff1) sh - coef c 4 * e1, s2 := rescale x.s2 shOld sh, s3 := rescale x.s3 shOld sh }
  | 2 => { x with s1 := toAcc (ut - ff1) sh - coef c 4 * e1, s2 := rescale x.s2 shOld sh, s3 := rescale x.s3 shOld sh }
  | 3 => { x with y := ut - ff1 }
  | _ => x

/-! ## Loops and their inputs -/

/-- Loop l. -/
def loop (l : Nat) (s : State) : Loop := nth s.loops.loops l Loop.reset

/-- Change of the Loop Engine. -/
def modLoopEngine (f : LoopEngine → LoopEngine) (s : State) : State := { s with loops := f s.loops }

/-- Change of loop l. -/
def modLoop (l : Nat) (f : Loop → Loop) (s : State) : State := modLoopEngine (fun e => { e with loops := upd e.loops l f }) s

/-- Running slot of a loop. -/
def Loop.cur (x : Loop) : LoopSlot := x.slots[x.slot]

/-- A loop with a slot changed. -/
def Loop.setSlot (x : Loop) (k : Fin 4) (v : LoopSlot) : Loop := { x with slots := x.slots.set k v }

/-- Gain loop of LP0-LP135: whether it runs and its output, the attenuation in ALC LSB (R232, R238, R377). A composite loop runs while a
direction transmits on its port (DEDUCED, log entry 30). -/
def gainLoop (l : Nat) (s : State) : Bool × Int :=
  if l < 128 then
    let c : Fin 64 := Fin.ofNat 64 (l / 2)
    let d : Dir := if l % 2 = 1 then .ul else .dl
    (dirLive c d s, (direction c d s).gain.aAlc)
  else
    let p : Fin 8 := Fin.ofNat 8 (l - 128)
    (!(transmitters p s).isEmpty, (port p s).aComp)

/-- Loop l runs. -/
def loopRuns (l : Nat) (s : State) : Bool := if l < 136 then (gainLoop l s).1 else (loop l s).running

/-- Applied output of loop l. -/
def loopOutput (l : Nat) (s : State) : Int := if l < 136 then (gainLoop l s).2 else (loop l s).u1

/-- A rail voltage in mV as RAIL_V: V_rs / 1.2 V in Q15, to the nearest, with k_div in thousandths (R419, R455). -/
def railVoltage (mv kDiv : Nat) : Int := satInt 16 (roundDiv ((mv : Int) * 32768 * 1000) (1200 * kDiv))

/-- A reference in 10^-7 mV as RAIL_V. -/
def railReference (ref kDiv : Nat) : Int := satInt 16 (roundDiv ((ref : Int) * 32768 * 1000) (1200 * kDiv * 10000000))

/-- Slack of a wing in Q15: slack × 128 (R407). -/
def wingSlackQ15 (w : Nat) (s : State) : Int :=
  let v (k : Nat) : Nat := (nth s.eng.wings k Wing.reset).slack
  (128 * (if w < 16 then v w else (List.range 16).foldl (fun a k => min a (v k)) 255) : Nat)

/-- HKADC channel in Q15: temperatures as T / 256 °C (R465). -/
def hkadc (k : Nat) (s : State) : Int :=
  if k < 32 then satInt 16 (2 * (nth s.thermal.sensors k (Sensor.reset 0)).inUse)
  else satInt 16 (Config.housekeeping k s.now)

/-- Wings with ACTIVE engines (R450). -/
def activeWings (s : State) : List Nat :=
  (List.range 16).filter (fun w => (List.range 16).any (fun k => (nth s.eng.engines (16 * w + k) (Engine.reset 0)).state == .active))

/-- The least and the second-least of a list; the least where there is one element, 255 where there is none. -/
def secondLeast (l : List Nat) : Nat :=
  match l with
  | [] => 255
  | [a] => a
  | a :: b :: rest => (rest.foldl (fun (p : Nat × Nat) v => if v < p.1 then (v, p.1) else if v < p.2 then (p.1, v) else p) (min a b, max a b)).2

/-- Governing slack: the second-least among wings with ACTIVE engines, the least when one wing is active (R450). -/
def governingSlack (s : State) : Nat := secondLeast ((activeWings s).map (fun w => (nth s.eng.wings w Wing.reset).slack))

/-- PHASE_I of a current in 10 mA with a sense gain in µV/A: V_cs / 120 mV in Q15 (R419). -/
def phaseCode (current : Int) (gain : Nat) : Int := satInt 16 (roundDiv (current * gain * 32768) 12000000)

/-- Value of a source kind and index at a tick (R407); kind 8 is the reference of a rail, 9 the governing
slack and 10 its target, both in LP156's wiring (R450, R455). -/
def sourceValue (kind : Nat) (idx : Int) (s : State) : Int :=
  let n := idx.toNat
  let r : Fin 10 := Fin.ofNat 10 n
  let x := rail r s
  match kind with
  | 0 => idx
  | 1 => hkadc n s
  | 2 => railVoltage x.sensed x.plan.kDiv
  | 3 => satInt 16 (roundDiv (x.current * 32768) (2 * x.plan.rating * max 1 x.plan.phases.length))
  | 4 =>
    let p : Fin 16 := Fin.ofNat 16 n
    let gain := ((phaseRail p s).map (fun r => (rail r s).plan.senseGain)).getD 0
    phaseCode s.supply.phases[p].current gain
  | 5 => loopOutput n s
  | 6 => wingSlackQ15 n s
  | 7 => signed 16 (nth s.loops.inputs n 0).toNat
  | 9 => (128 * governingSlack s : Nat)
  | 10 => (128 * s.eng.policy.avsSlackTarget : Nat)
  | _ => railReference x.ref x.plan.kDiv

/-- Rail a supply loop belongs to: LP136-LP145 and LP146-LP155; LP156 is SUP0's (R377). -/
def loopRail (l : Nat) : Option (Fin 10) :=
  if 136 ≤ l ∧ l < 156 then some (Fin.ofNat 10 ((l - 136) % 10)) else if l = 156 then some 0 else none

/-! ## The repetitive controller (R400-R403) -/

/-- Reference period in counts: the frame, or the pattern of the reference slot. -/
def refPeriod (x : Repetitive) (s : State) : Nat :=
  match x.refSlot with
  | none => frameCounts
  | some k => ((patternOf k.val s).map (·.period)).getD 0

/-- Correction applied at the tick of index k: lead samples early; withheld in ACQUIRE (R401, R402). -/
def repOutput (x : Repetitive) (s : State) : Int :=
  if x.store.isEmpty || s.radio.timer.state == .acquire then 0 else x.store.getD ((x.index + x.lead) % x.store.length) 0

/-- Learned value for index k (R401). -/
def repLearn (x : Repetitive) (e : Int) : Int × Bool :=
  let n := x.store.length
  let at_ (i : Nat) : Int := x.store.getD (i % n) 0
  let acc := x.q0 * at_ x.index + x.q1 * (at_ (x.index + n - 1) + at_ (x.index + 1))
  let acc := if x.forget ≠ 0 then acc - ashr (acc + 2 ^ (x.forget - 1)) x.forget else acc
  let sum := acc + x.kr * e
  (storeSh (satInt 40 sum) 0, satInt 40 sum != sum)

/-- Position of a count in the reference period (R400). -/
def refPosition (x : Repetitive) (t : Nat) (s : State) : Nat :=
  match x.refSlot.bind (fun k => patternOf k.val s) with
  | some p => p.position t s
  | none => framePosition t s

/-- Learning is suspended on a tick: the sink loop is limited, a timing hold has been in force in the tick's period, or learn_enable is 0 (R402). -/
def repHeld (x : Loop) (s : State) : Bool :=
  !x.rep.learn || timingHold s || s.radio.timer.holdEnd.any (fun u => decide (s.now < u + x.rep.index * x.arg)) ||
    (x.sinkKind == 3 && ((loop x.sinkIndex s).limHi || (loop x.sinkIndex s).limLo))

/-- The store set to zero with its event (R403, R414): cause 0 pattern, 1 reconfiguration, 2 command. -/
def repReset (l cause : Nat) (s : State) : State :=
  let s := modLoop l (fun x => { x with rep := { x.rep with store := x.rep.store.map (fun _ => 0), resetDue := false } }) s
  postEvent 0x0605 0 0xFFFF (payload 16 [(0, 2, l), (2, 1, cause), (4, 4, (frameCount s).toNat)]) s

/-- Start of a reference period: waiting parameters and a reset take effect (R403); REPETITIVE_RESET completes. -/
def repPeriod (l : Nat) (s : State) : State :=
  let x := (loop l s).rep
  let s := if x.resetDue then repReset l 2 s else s
  let s := x.resetRings.foldl (fun s q => hardwareDone q.val (waitOf [0x0606] 0 2 l) [(frameCount s).toNat] s) s
  modLoop l (fun y => { y with rep :=
    let r := { y.rep with resetRings := [], next := none }
    match y.rep.next with
    | some (kr, q0, q1, lead, forget, learn) => { r with kr := kr, q0 := q0, q1 := q1, lead := lead, forget := forget, learn := learn }
    | none => r }) s

/-! ## Supervision (R404) -/

/-- Supply-class loops: LP136-LP156 and free loops set so (R378). -/
def isSupplyLoop (l : Nat) (x : Loop) : Bool := (decide (136 ≤ l) && decide (l ≤ 156)) || x.supply

/-- The saturation timer is held at 0: the loop's rail is in soft start or stopped; it keeps its value in BURST (R404, R428). -/
def satHeld (l : Nat) (s : State) : Bool :=
  match loopRail l with
  | some r => (rail r s).state != .regulating
  | none => false

/-- The loop's rail is in BURST. -/
def satPaused (l : Nat) (s : State) : Bool :=
  match loopRail l with
  | some r => (rail r s).mode == .burst
  | none => false

/-- The saturation timer as it stands (R404). -/
def saturation (l : Nat) (s : State) : Nat := if satHeld l s then 0 else (loop l s).satTimer

/-- A loop with its saturation timer at 0. -/
def Loop.unsaturated (x : Loop) : Loop := { x with satTimer := 0, okRun := 0, noticed := false, faulted := false }

/-- Supervision of a supply-class loop after a tick (R404). -/
def superviseLoop (l : Nat) (s : State) : State :=
  let x := loop l s
  if !isSupplyLoop l x then s
  else if satHeld l s then modLoop l Loop.unsaturated s
  else if satPaused l s then s
  else if x.limHi || x.limLo then
    let t := min 65535 (x.satTimer + 1)
    let notice := decide (x.satNotice ≤ t)
    let fault := decide (x.satFault ≤ t)
    let s := modLoop l (fun x => { x with satTimer := t, okRun := 0, noticed := notice, faulted := fault }) s
    let s := if notice && !x.noticed then postEvent 0x0603 1 0xFFFF (payload 16 [(0, 2, l), (2, 2, t), (4, 2, x.u1)]) s else s
    if fault && !x.faulted then raise (192 + (l - 136)) (object 10 l) 0 (modLoopEngine (fun e => { e with satFault := true }) s) else s
  else
    modLoop l (fun x => if x.okRun + 1 < 4 then { x with okRun := x.okRun + 1 } else x.unsaturated) s

/-! ## Evaluation -/

/-- Output of a loop written to its sink; a rail's duty is that of the next switching cycle (R388, R407). -/
def writeSink (l : Nat) (s : State) : State :=
  let x := loop l s
  match x.sinkKind with
  | 1 => modRail (Fin.ofNat 10 x.sinkIndex) (fun r => { r with dutyNext := clampInt 0 (r.plan.dMax * 32768 / 100 : Nat) x.u1 }) s
  | 3 => modLoop x.sinkIndex (fun y => { y with ff := x.u1 }) s
  | _ => s

/-- A truncated cycle of the loop's rail: the loop sees the truncated duty as its applied output, limited high (R425). The truncated duty is 0 where no
on-pulse started, else a free value up to the loop's own output (log entry 4). -/
def truncated (l : Nat) (s : State) : Bool :=
  decide (136 ≤ l) && decide (l < 146) && (rail (Fin.ofNat 10 (l - 136)) s).truncating

/-- The swap of R393 before a tick is evaluated, or at once on a loop that is stopped: sets exchanged, state back-calculated. -/
def Loop.swap (x : Loop) (backCalc : Bool) : Loop :=
  let old := x.cur
  let new := { old with activeB := !old.activeB }
  if backCalc then
    { (x.setSlot x.slot (new.back (coefShift old.set) x.u1 x.ff1 x.e1)) with u1 := backTarget new.set x.u1, swapPending := false, swapRing := none }
  else { (x.setSlot x.slot new) with swapPending := false, swapRing := none }

/-- A pending swap takes effect at the tick and answers LOOP_SWAP (R393, R409). -/
def takeSwap (l : Nat) (s : State) : State :=
  let x := loop l s
  if !x.swapPending then s
  else
    let y := x.swap true
    let carried := x.cur.template == 0 && (x.limHi || x.limLo)
    let s := modLoop l (fun _ => y) s
    match x.swapRing with
    | some q => hardwareDone q.val (waitOf [0x0602] 0 2 l) [(frameCount s).toNat, x.u1, y.u1, flagBit y.cur.activeB, flagBit (y.u1 != x.u1) + 2 * flagBit carried] s
    | none => s

/-- Inputs of a tick (R381, R388): setpoint, measurement, error. -/
def tickInputs (x : Loop) (s : State) : Int × Int × Int :=
  let r := sourceValue x.setKind x.setIndex s
  let m := sourceValue x.measKind (if x.measKind = 0 then signed 16 x.measIndex else x.measIndex) s
  (r, m, satInt 16 (r - m))

/-- Ordinary evaluation of a tick: core, output path, state, flags (R381-R386). -/
def evalPlain (x : Loop) (m e learned : Int) : Loop :=
  let c := slotCore x.cur e x.e1 m x.limHi x.limLo learned
  let p := setPath x.cur.set c.value x.ff x.u1
  let a := slotAfter c.slot e (p.u - x.ff)
  { (x.setSlot x.slot a.1) with u1 := p.u, ff1 := x.ff, e1 := e, limHi := p.hi, limLo := p.lo, frozen := c.frozen,
                                accSat := x.accSat || c.sat || a.2 }

/-- Δ of a hand-over: the command's rate, or from the first tick of the window (R398). -/
def handDelta (h : HandOver) (vIn u1 : Int) : Nat :=
  if h.rate ≠ 0 then h.rate else max 1 (ceilDiv (vIn - u1).natAbs h.window)

/-- Evaluation inside a hand-over window (R398): the incoming mode is back-calculated before t0; both evaluate; the applied output follows
the incoming mode's v by at most Δ a tick, under the incoming set's limits. Δ counts as a rate for the limit flags (DEDUCED, log entry 31). -/
def evalHand (x : Loop) (h : HandOver) (m e : Int) : Loop :=
  let inc0 := x.slots[h.incoming]
  let first := h.ticks == 0
  let inc0 := if first then inc0.back (coefShift inc0.set) x.u1 x.ff1 x.e1 else inc0
  let u1 := if first then backTarget inc0.set x.u1 else x.u1
  let ci := slotCore inc0 e x.e1 m x.limHi x.limLo 0
  let co := slotCore x.cur e x.e1 m x.limHi x.limLo 0
  let vIn := satInt 16 (ci.value + x.ff)
  let delta := if first then handDelta h vIn u1 else h.delta
  let rate := coef inc0.set 2
  let bound : Int := if rate = 0 then delta else min rate delta
  let p := outputPath (coef inc0.set 0) (coef inc0.set 1) bound ci.value x.ff u1
  let ai := slotAfter ci.slot e (p.u - x.ff)
  let ao := slotAfter co.slot e (p.u - x.ff)
  let y := (x.setSlot x.slot ao.1).setSlot h.incoming ai.1
  { y with u1 := p.u, ff1 := x.ff, e1 := e, limHi := p.hi, limLo := p.lo, frozen := ci.frozen,
           accSat := x.accSat || ci.sat || co.sat || ai.2 || ao.2,
           handover := some { h with delta := delta, ticks := h.ticks + 1, gap := (vIn - p.u).natAbs } }

/-- Payload of HANDOVER_DONE (R414). -/
def handPayload (l : Nat) (out inc : Fin 4) (gap : Option Nat) (s : State) : List Byte :=
  payload 16 ([(0, 2, (l : Int)), (2, 1, out.val), (3, 1, inc.val), (4, 4, (frameCount s).toNat)] ++ (match gap with
    | some g => [(8, 2, (g : Int))]
    | none => []))

/-- The rail's mode follows a completed hand-over of the light-load ladder (R427). -/
def ladderMoved (l : Nat) (s : State) : State :=
  match loopRail l with
  | some r =>
    let new : LadderMode := if (loop l s).slot = 1 then .de else .ccm
    let code (m : LadderMode) : Nat := match m with
      | .ccm => 0
      | .de => 1
      | .burst => 2
    let old := (rail r s).mode
    if old = new then s
    else postEvent 0x0704 0 0xFFFF (payload 16 [(0, 1, r.val), (1, 1, code old), (2, 1, code new)]) (modRail r (fun x => { x with mode := new }) s)
  | none => s

/-- A hand-over is abandoned: the outgoing mode stays, back-calculated from the applied output (R399). detail is that of LOOP_MODE_SET. -/
def abandonHand (l : Nat) (h : HandOver) (detail : Nat) (s : State) : State :=
  let x := loop l s
  let s := modLoop l (fun x => { (x.setSlot x.slot (x.cur.back (coefShift x.cur.set) x.u1 x.ff1 x.e1)) with
    u1 := backTarget x.cur.set x.u1, handover := none }) s
  let s := modLoopEngine (fun e => { e with abandoned := true }) s
  let s := postEvent 0x0602 1 0xFFFF (handPayload l x.slot h.incoming (some h.gap) s) s
  let s := match loopRail l with
    | some r => if h.ladder then modRail r (fun y => { y with moveHold := upd y.moveHold h.incoming.val (fun _ => 1024) }) s else s
    | none => s
  match h.ring with
  | some q => hardwareDone q.val (waitOf [0x0603] 0 2 l) [1, detail, h.gap, x.u1] s
  | none => s

/-- End of a hand-over window (R398 step 4, R399). -/
def endHand (l : Nat) (s : State) : State :=
  let x := loop l s
  match x.handover with
  | none => s
  | some h =>
    if h.ticks < h.window then s
    else if h.gap ≤ h.tol then
      let s := modLoop l (fun x => { x with slot := h.incoming, handover := none }) s
      let s := postEvent 0x0601 0 0xFFFF (handPayload l x.slot h.incoming none s) s
      let s := if h.ladder then ladderMoved l s else s
      match h.ring with
      | some q => hardwareDone q.val (waitOf [0x0603] 0 2 l) [0, 0, h.gap, x.u1] s
      | none => s
    else abandonHand l h 0x060F s

/-- A start that waits for the loop's first tick is answered (R407): [0] at the tick, [1] when the loop is stopped before it. -/
def answerStart (l : Nat) (result : Int) (s : State) : State :=
  match (loop l s).startRing with
  | some q => hardwareDone q.val (waitOf [0x0600] 0 2 l) [result] (modLoop l (fun x => { x with startRing := none }) s)
  | none => s

/-- Stop of a loop: it holds its output; a swap pending takes effect first; a hand-over is abandoned, and a start that waits fails (R396, R397, R406). -/
def stopLoop (l : Nat) (s : State) : State :=
  let s := takeSwap l s
  let s := match (loop l s).handover with
    | some h => abandonHand l h 0x0608 s
    | none => s
  modLoop l (fun x => { x with running := false, stopAfterSwap := false }) (answerStart l 1 s)

/-- First count, or first cycle of the rail, at which a loop's next tick may fall, once everything so far has passed. -/
def ticksFrom (x : Loop) (s : State) : Nat := if x.tick = 2 then (rail (Fin.ofNat 10 x.rail) s).cycles + 1 else s.now

/-- Start of a loop: the running mode is back-calculated from the held output; limit flags and the saturation timer carry over (R397). -/
def startLoop (l : Nat) (s : State) : State :=
  modLoop l (fun x => { (x.setSlot x.slot (x.cur.back (coefShift x.cur.set) x.u1 x.ff1 x.e1)) with
    running := true, u1 := backTarget x.cur.set x.u1, tickFrom := ticksFrom x s }) s

/-- The repetitive part of a tick: the store after it (R401). -/
def repTick (l : Nat) (e : Int) (s : State) : State :=
  let x := loop l s
  let r := x.rep
  if x.cur.template ≠ 5 ∨ r.store.isEmpty ∨ repHeld x s then s
  else
    let v := repLearn r e
    modLoop l (fun x => { x with accSat := x.accSat || v.2, rep := { r with store := r.store.set (r.index % r.store.length) v.1 } }) s

/-- LOOP_MODE_SET has reached its commit point, tick t0 (R410). -/
def commitHand (l : Nat) (s : State) : State :=
  match (loop l s).handover with
  | some h => if h.ticks = 0 then (match h.ring with
      | some q => modSource q.val (fun x =>
          let hit (r : Running) : Running := if r.wait = .hardware ∧ waitOf [0x0603] 0 2 l r.desc then { r with committed := true } else r
          { x with running := x.running.map hit, continuing := x.continuing.map hit }) s
      | none => s) else s
  | none => s

/-- Index of a repetitive loop's tick: the position in the reference period over m; at 0 a period starts (R400). -/
def repIndex (l : Nat) (s : State) : State :=
  let x := loop l s
  let k := refPosition x.rep s.now s / max 1 x.arg
  let s := modLoop l (fun x => { x with rep := { x.rep with index := k } }) s
  if k = 0 then repPeriod l s else s

/-- A tick of one loop: swap, evaluation, sink, supervision, and what waits for the tick (R388, R393, R407). -/
def evalLoop (l : Nat) (s : State) : State :=
  let s := commitHand l (endHand l (takeSwap l s))
  let s := if (loop l s).cur.template = 5 then repIndex l s else s
  let x := loop l s
  let i := tickInputs x s
  let learned := repOutput x.rep s
  let y := match x.handover with
    | some h => evalHand x h i.2.1 i.2.2
    | none => evalPlain x i.2.1 i.2.2 learned
  let v := if truncated l s then takeFree s else (0, s)
  let cut : Int := if (rail (Fin.ofNat 10 (l - 136)) s).suppressed then 0 else ((Config.freeValue v.1).toNat % (y.u1.toNat + 1) : Nat)
  let y := if truncated l s then { y with u1 := cut, limHi := true } else y
  let s := modLoop l (fun _ => { y with lastCount := frameCount s }) v.2
  let s := answerStart l 0 (superviseLoop l (writeSink l (repTick l i.2.2 s)))
  if x.stopAfterSwap then stopLoop l s else s

/-- The loops of PA-drain rails of a device in the standby role run in mirror mode (R636). -/
def mirrored (l : Nat) (s : State) : Bool := inStandby s && (loopRail l).any (fun r => portRail r s)

/-- A tick in mirror mode (R394, R636): the state is back-calculated from the owner's applied output, which u1 holds. -/
def mirrorTick (l : Nat) (s : State) : State :=
  let x := loop l s
  let i := tickInputs x s
  let v := x.cur.back (coefShift x.cur.set) x.u1 x.ff i.2.2
  writeSink l (modLoop l (fun x => { x.setSlot x.slot v with e1 := i.2.2, ff1 := x.ff, lastCount := frameCount s }) s)

/-- A tick of a loop, in mirror mode where the device is a standby; an owner tells its standby the output of a PA-drain rail's loop. -/
def railTick (l : Nat) (s : State) : State :=
  if mirrored l s then mirrorTick l s
  else
    let s := evalLoop l s
    if hasStandby s && (loopRail l).any (fun r => portRail r s) then
      sendTwin (.loopMirror (Fin.ofNat 192 l) (BitVec.ofInt 16 (loop l s).u1)) s
    else s

/-- CHAIN loops whose predecessor is l, running, in ascending number (R387). -/
def chained (l : Nat) (s : State) : List Nat :=
  (List.range 192).filter (fun k => (loop k s).running && (loop k s).tick == 4 && (loop k s).arg == l)

/-- A loop's tick with the loops chained to it, immediately after it (R388); the depth bounds the chain, of which at most the 35 free loops are part. -/
def tickChain : Nat → Nat → State → State
  | 0, l, s => railTick l s
  | n + 1, l, s => (chained l s).foldl (fun s k => tickChain n k s) (railTick l s)

/-- First multiple of n not before t. -/
def multipleFrom (n t : Nat) : Nat := ceilDiv t n * n

/-- First count not before t at which a repetitive loop ticks: a period start plus a multiple of m (R400). -/
def repTickFrom (x : Loop) (t : Nat) (s : State) : Nat :=
  let m := max 1 x.arg
  let hit (u : Nat) : Bool := refPosition x.rep u s % m == 0 && (u == 0 || refPosition x.rep (u - 1) s != refPosition x.rep u s)
  if hit t then t else settleCount hit t (t + (m - refPosition x.rep t s % m))

/-- A running loop's next tick (R387): the rail, or none for a tick at a count, and the number of the cycle or the count. None when the cycle has not
begun, and for a CHAIN loop, which follows its predecessor; one that follows a gain loop ticks with it at the ALC tick. -/
def nextTick (l : Nat) (s : State) : Option (Option (Fin 10) × Nat) :=
  let x := loop l s
  match x.tick with
  | 0 => some (none, multipleFrom 3840 x.tickFrom)
  | 1 => some (none, multipleFrom countsPerSlowTick x.tickFrom)
  | 2 =>
    let r : Fin 10 := Fin.ofNat 10 x.rail
    let n := (rail r s).cycles / max 1 x.div * max 1 x.div
    if x.tickFrom ≤ n then some (some r, n) else none
  | 3 => some (none, if x.cur.template = 5 then repTickFrom x x.tickFrom s else multipleFrom (max 1 x.arg) x.tickFrom)
  | _ => if x.arg < 136 ∧ loopRuns x.arg s then some (none, multipleFrom 3840 x.tickFrom) else none

/-- Loops that the tick of loop l makes ready before it, in the order of R388: supply-class loops, then the others, in ascending number. -/
def readyBefore (l : Nat) (s : State) : List Nat :=
  let all := (List.range 192).filter (fun k => decide (136 ≤ k) && (loop k s).running && nextTick k s == nextTick l s)
  let supply (k : Nat) : Bool := isSupplyLoop k (loop k s)
  (all.filter supply ++ all.filter (fun k => !supply k)).takeWhile (fun k => k != l)

/-- A tick taken: the loop's next one falls later. -/
def tickTaken (n : Nat) (l : Nat) (s : State) : State := modLoop l (fun x => { x with tickFrom := n + 1 }) s

/-- A tick that meets an evaluation in progress is skipped (R389). -/
def overrun (l : Nat) (s : State) : State :=
  let n := satAdd 16 (loop l s).overruns.toNat 1
  let s := modLoop l (fun x => { x with overruns := BitVec.ofNat 16 n }) s
  let s := modLoopEngine (fun e => { e with overrun := true, overruns := satAdd 32 e.overruns 1 }) s
  postEvent 0x0604 2 248 (payload 16 [(0, 2, l), (2, 2, n), (4, 4, (frameCount s).toNat)]) (raise 248 (object 10 l) 0 s)

/-- Period start of a repetitive loop that does not tick: what waits for it is done (R403). -/
def idlePeriod (l : Nat) (s : State) : State :=
  let x := loop l s
  if x.cur.template ≠ 5 ∨ !(x.rep.resetDue || x.rep.next.isSome) then s
  else
    let p := refPeriod x.rep s
    repPeriod l (advanceTo (repTickFrom { x with arg := p } s.now s) s)

/-- LOOP_TICK (R387-R389): time moves on to the loop's next tick, unless it is that of a cycle that has begun. Loops that the same tick makes ready
before it are evaluated first; then the loop is evaluated with those chained to it, or it overruns. LP0-LP135 are evaluated at the ALC tick. -/
def execLoopTick (l : Fin 192) (stillEvaluating : Bool) (s : State) : Host.Outcome State Fault Refusal :=
  .next (if l.val < 136 || !s.sys.coreUp then s
    else if !(loop l.val s).running then idlePeriod l.val s
    else match nextTick l.val s with
      | none => s
      | some (src, n) =>
        let first := readyBefore l.val s
        let s := if src.isNone then advanceTo n s else s
        let s := first.foldl (fun s k => tickChain 40 k (tickTaken n k s)) s
        let s := tickTaken n l.val s
        if stillEvaluating then overrun l.val s else tickChain 40 l.val s)

/-- HANDOVER_WINDOW_END (R398, R399). -/
def execHandoverWindowEnd (l : Fin 192) (s : State) : Host.Outcome State Fault Refusal := .next (endHand l.val s)

/-! ## Load (R390) -/

/-- Cost of a template in coefficient multiply-accumulates (R382). -/
def templateCost : Nat → Nat
  | 0 => 4
  | 1 => 5
  | 2 => 7
  | 5 => 4
  | _ => 1

/-- Highest tick rate of a loop's source in Hz (R387, R390); a CHAIN loop has its predecessor's. -/
def tickRate (s : State) : Nat → Loop → Nat
  | 0, _ => 0
  | n + 1, x =>
    match x.tick with
    | 0 => 8000
    | 1 => 1000
    | 2 => 400000000 / (rail (Fin.ofNat 10 x.rail) s).plan.period / max 1 x.div
    | 3 => 30720000 / max 1 x.arg
    | _ => tickRate s n (loop x.arg s)

/-- Planned load of a loop in coefficient-MAC/s. -/
def loopLoad (l : Nat) (s : State) : Nat :=
  if l < 136 then (if loopRuns l s then 8000 else 0)
  else templateCost (loop l s).cur.template * tickRate s 40 (loop l s)

/-- Planned load of the running loops. -/
def totalLoad (s : State) : Nat := (((List.range 192).filter (fun l => loopRuns l s)).map (fun l => loopLoad l s)).sum

/-- A loop's start is admitted (R390). -/
def admits (l : Nat) (s : State) : Bool := decide (totalLoad s + loopLoad l s ≤ 360000000)

/-! ## LOOP_CONFIGURE (R407) -/

/-- Loop number in bytes 0-1; above 191 is BAD_LOOP (R406). -/
def badLoop (x : Desc) : Option Reject := refuseIf (decide (191 < par x 0 2)) (badParam 0x0601)

/-- Index range of a source kind (R407). -/
def badSource (kind : Nat) (idx : Nat) : Bool :=
  match kind with
  | 0 => false
  | 1 => decide (37 < idx)
  | 2 => decide (9 < idx)
  | 3 => decide (9 < idx)
  | 4 => decide (15 < idx)
  | 5 => decide (191 < idx)
  | 6 => decide (16 < idx)
  | 7 => decide (15 < idx)
  | _ => true

/-- A free loop's sink is invalid or has another writer (R407). RAIL_REF needs a reference that RAIL_CONFIGURE has given to the loop, and its
buffer (R455) has no field that gives one (log entry 32). -/
def badSink (l kind idx : Nat) (s : State) : Bool :=
  match kind with
  | 0 => false
  | 3 => decide (191 < idx) || idx == l || (List.range 192).any (fun k => k != l && (loop k s).defined && (loop k s).sinkKind == 3 && (loop k s).sinkIndex == idx)
  | _ => true

/-- Following predecessors from a loop meets loop l: a CHAIN would form a cycle. -/
def chainMeets (l : Nat) (s : State) : Nat → Nat → Bool
  | 0, _ => true
  | n + 1, k => k == l || ((loop k s).tick == 4 && (loop k s).defined && chainMeets l s n (loop k s).arg)

/-- The tick source is out of range (R387, R406). -/
def badTick (x : Desc) (s : State) : Bool :=
  match par x 4 1 with
  | 0 => false
  | 1 => false
  | 2 => decide (9 < par x 6 1) || badRange 1 16 (par x 7 1)
  | 3 => badRange 24 65535 (par x 8 2)
  | 4 => decide (191 < par x 8 2) || chainMeets (par x 0 2) s 40 (par x 8 2)
  | _ => true

/-- Checks of LOOP_CONFIGURE (R406, R407). -/
def checkLoopConfigure (r : Running) (s : State) : Option Reject :=
  let x := r.desc
  let l := par x 0 2
  let op := par x 2 1
  let y := loop l s
  firstOf ([common false [(0, 5), (6, 12), (20, 4)] .none x, badLoop x, refuseIf (decide (4 < op)) (badParam detBadField),
    refuseIf (op != 4 && decide (l ≤ 156)) (badState 0x0602), refuseIf (op == 4 && decide (l < 136)) (badState 0x0602)] ++
    (if op = 0 then
      [refuseIf y.running (badState 0x0608),
       refuseIf (decide (1 < par x 3 1) || (par x 22 2 != 0 && decide (par x 22 2 < par x 20 2))) (badParam detBadField), refuseIf (badTick x s) (badParam 0x0606),
       refuseIf (badSource (par x 10 1) (par x 12 2) || badSource (par x 11 1) (par x 14 2) ||
         badSink l (par x 16 1) (par x 17 1) s) (badParam 0x0605)]
    else if op = 1 then
      [refuseIf (!y.cur.defined || !y.defined) (badState 0x060B), refuseIf (!y.running && !admits l s) (some (.noResource, 0x0607))]
    else if op = 4 then
      [refuseIf (decide (par x 20 2 < 1) || decide (par x 22 2 < par x 20 2)) (badParam detBadField)]
    else []))

/-- A loop as op 0 defines it: stopped, no slot defined (R407). The satNotice and satFault fields of the command apply where they are
nonzero. -/
def definedLoop (x : Desc) : Loop :=
  { Loop.reset with
      defined := true, supply := par x 3 1 == 1, tick := par x 4 1, rail := par x 6 1, div := par x 7 1, arg := par x 8 2,
      setKind := par x 10 1, setIndex := if par x 10 1 = 0 then parInt x 12 2 else par x 12 2, measKind := par x 11 1, measIndex := par x 14 2,
      sinkKind := par x 16 1, sinkIndex := par x 17 1,
      satNotice := if par x 20 2 = 0 then 64 else par x 20 2, satFault := if par x 22 2 = 0 then 1024 else par x 22 2 }

/-- A loop removed: it stops, a reset that waits fails, and it writes no feed-forward any more (R381, R407, R412). -/
def removeLoop (l : Nat) (s : State) : State :=
  let s := stopLoop l s
  let x := loop l s
  let s := x.rep.resetRings.foldl (fun s q => hardwareDone q.val (waitOf [0x0606] 0 2 l) [] s) s
  let s := if x.sinkKind = 3 then modLoop x.sinkIndex (fun y => { y with ff := 0 }) s else s
  modLoop l (fun _ => Loop.reset) s

/-- LOOP_CONFIGURE past its checks. A start waits for the loop's first tick; a stop with a swap pending waits for the swap's tick (R396). -/
def effectLoopConfigure (r : Running) (s : State) : Ans × State :=
  let x := r.desc
  let l := par x 0 2
  match par x 2 1 with
  | 0 => (doneWith 0, modLoop l (fun _ => definedLoop x) s)
  | 1 =>
    if (loop l s).running then (doneWith 0, s)
    else (awaitHardware r 1 [], modLoop l (fun y => { y with startRing := some x.ring }) (startLoop l s))
  | 2 =>
    if (loop l s).running && (loop l s).swapPending then (doneWith 0, modLoop l (fun y => { y with stopAfterSwap := true }) s)
    else (doneWith 0, stopLoop l s)
  | 3 => (doneWith 0, removeLoop l s)
  | _ => (doneWith 0, modLoop l (fun y => { y with satNotice := par x 20 2, satFault := par x 22 2 }) s)

/-- LOOP_CONFIGURE (R407). -/
def opLoopConfigure (r : Running) (s : State) : Ans × State :=
  if r.phase = 0 then guarded checkLoopConfigure effectLoopConfigure r s
  else (if r.results.getD 0 0 = 0 then doneWith 0 else refuseWith (.rejectedState, 0x0608) 0, s)

/-! ## Coefficients, swap, mode, status -/

/-- Template permitted in a slot of a loop (R377, R391). -/
def templateAllowed (l slot t : Nat) (s : State) : Bool :=
  let x := loop l s
  let others := (List.finRange 4).any (fun k => k.val != slot && x.slots[k].defined)
  let repElsewhere := (List.finRange 4).any (fun k => k.val != slot && x.slots[k].defined && x.slots[k].template == 5)
  (if l < 146 then decide (t ≤ 2) else if l < 156 then t == 5 else if l = 156 then t == 0 else decide (t ≤ 5)) &&
    !repElsewhere && (t != 5 || (slot == 0 && !others))

/-- The set of LOOP_COEFF_LOAD, params bytes 8-39 (R408). -/
def coefficientSet (x : Desc) : Vector Int 16 := Vector.ofFn (fun k => parInt x (8 + 2 * k.val) 2)

/-- Words a template names (R383). -/
def templateWords : Nat → Nat
  | 0 => 8
  | 1 => 9
  | 2 => 11
  | 3 => 5
  | _ => 4

/-- A word of a coefficient set that its template leaves reserved, or bits [15:4] of c[3], is not zero (R21, R383). -/
def reservedCoefficients (t : Nat) (c : Vector Int 16) : Bool :=
  decide (coef c 3 % 65536 / 16 ≠ 0) || (List.range 16).any (fun k => decide (templateWords t ≤ k) && coef c k != 0)

/-- A coefficient set violates R383. -/
def badCoefficients (c : Vector Int 16) : Bool :=
  decide (coef c 1 < coef c 0) || decide (coef c 2 < 0) || outside 0 8 (coef c 3)

/-- Checks of LOOP_COEFF_LOAD (R392, R396, R408). -/
def checkLoopCoeffLoad (r : Running) (s : State) : Option Reject :=
  let x := r.desc
  let l := par x 0 2
  let y := loop l s
  firstOf [common false [(0, 4), (8, 32)] .none x, refuseIf (reservedCoefficients (par x 3 1) (coefficientSet x)) (badParam detReserved), badLoop x, refuseIf (decide (l < 136)) (badState 0x0602),
    refuseIf (decide (3 < par x 2 1)) (badParam detBadField),
    refuseIf (!templateAllowed l (par x 2 1) (par x 3 1) s) (badParam 0x0603),
    refuseIf (badCoefficients (coefficientSet x)) (badParam 0x0604),
    refuseIf y.swapPending (badState 0x0609),
    refuseIf (y.running && y.slot.val == par x 2 1 && y.cur.defined && y.cur.template != par x 3 1) (badParam 0x0603)]

/-- A slot after a load: the inactive set, or both where the slot is undefined or its template changes (R392). -/
def LoopSlot.load (v : LoopSlot) (t : Nat) (c : Vector Int 16) : LoopSlot × Nat :=
  if v.defined && v.template == t then (if v.activeB then ({ v with setA := c }, 0) else ({ v with setB := c }, 1))
  else ({ LoopSlot.reset with defined := true, template := t, setA := c, setB := c }, 2)

/-- LOOP_COEFF_LOAD past its checks. -/
def effectLoopCoeffLoad (r : Running) (s : State) : Ans × State :=
  let x := r.desc
  let l := par x 0 2
  let k : Fin 4 := Fin.ofNat 4 (par x 2 1)
  let v := (loop l s).slots[k].load (par x 3 1) (coefficientSet x)
  (doneWith (result [(0, 1, v.2)]), modLoop l (fun y => y.setSlot k v.1) s)

/-- LOOP_COEFF_LOAD (R408). -/
def opLoopCoeffLoad (r : Running) (s : State) : Ans × State := guarded checkLoopCoeffLoad effectLoopCoeffLoad r s

/-- Checks of LOOP_SWAP (R396, R409). -/
def checkLoopSwap (r : Running) (s : State) : Option Reject :=
  let x := r.desc
  let l := par x 0 2
  let y := loop l s
  firstOf [common false [(0, 2)] .none x, badLoop x, refuseIf (decide (l < 136)) (badState 0x0602),
    refuseIf y.handover.isSome (badState 0x060A), refuseIf y.swapPending (badState 0x0609), refuseIf (!y.cur.defined) (badState 0x060B)]

/-- Result of LOOP_SWAP (R409). -/
def swapResult (count u1 ut setB flags : Int) : BitVec 128 := result [(0, 4, count), (4, 2, u1), (6, 2, ut), (8, 1, setB), (9, 1, flags)]

/-- LOOP_SWAP past its checks: at the next tick, or at once on a stopped loop (R393). -/
def effectLoopSwap (r : Running) (s : State) : Ans × State :=
  let l := par r.desc 0 2
  let y := loop l s
  if y.running then (awaitHardware r 1 [], modLoop l (fun y => { y with swapPending := true, swapRing := some r.desc.ring }) s)
  else (doneWith (swapResult 0 y.u1 (backTarget (y.swap false).cur.set y.u1) (flagBit (y.swap false).cur.activeB) 0), modLoop l (fun y => y.swap false) s)

/-- LOOP_SWAP (R409). -/
def opLoopSwap (r : Running) (s : State) : Ans × State :=
  if r.phase = 0 then guarded checkLoopSwap effectLoopSwap r s
  else
    let v (k : Nat) : Int := r.results.getD k 0
    (doneWith (swapResult (v 0) (v 1) (v 2) (v 3) (v 4)), s)

/-- Checks of LOOP_MODE_SET (R396, R410). -/
def checkLoopModeSet (r : Running) (s : State) : Option Reject :=
  let x := r.desc
  let l := par x 0 2
  let y := loop l s
  let inc := nth y.slots (par x 2 1) LoopSlot.reset
  firstOf [common false [(0, 8)] .none x, badLoop x, refuseIf (decide (l ≤ 156)) (badState 0x0602),
    refuseIf (decide (3 < par x 2 1) || decide (0x7FFF < par x 4 2) || decide (0x7FFF < par x 6 2)) (badParam detBadField),
    refuseIf (y.cur.defined && y.cur.template == 5) (badParam 0x0603),
    refuseIf y.handover.isSome (badState 0x060A), refuseIf y.swapPending (badState 0x0609),
    refuseIf (!inc.defined || y.slot.val == par x 2 1) (badState 0x060B), refuseIf (!y.running) (badState 0x0608)]

/-- A hand-over ordered (R398, R410): defaults W 16 and tol 0x0148. -/
def beginHand (l : Nat) (inc : Fin 4) (w tol rate : Nat) (ringOf : Option (Fin 22)) (ladder : Bool) (s : State) : State :=
  modLoop l (fun y => { y with handover := some { incoming := inc, window := if w = 0 then 16 else w, tol := if tol = 0 then 0x0148 else tol,
                                                  rate := rate, delta := 0, ticks := 0, gap := 0, ring := ringOf, ladder := ladder } }) s

/-- LOOP_MODE_SET past its checks. -/
def effectLoopModeSet (r : Running) (s : State) : Ans × State :=
  let x := r.desc
  (awaitHardware r 1 [], beginHand (par x 0 2) (Fin.ofNat 4 (par x 2 1)) (par x 3 1) (par x 4 2) (par x 6 2) (some x.ring) false s)

/-- LOOP_MODE_SET (R410): done or abandoned at the end of the window. -/
def opLoopModeSet (r : Running) (s : State) : Ans × State :=
  if r.phase = 0 then guarded checkLoopModeSet effectLoopModeSet r s
  else
    let res := result [(0, 2, r.results.getD 2 0), (2, 2, r.results.getD 3 0)]
    (if r.results.getD 0 0 = 0 then doneWith res else refuseWith (.rejectedState, (r.results.getD 1 0).toNat) res, s)

/-- State code of a loop (R411). -/
def loopStateCode (l : Nat) (s : State) : Nat :=
  let x := loop l s
  if loopRuns l s then (if x.handover.isSome then 3 else 2) else if x.defined then 1 else 0

/-- LOOP_SATURATED of a loop is in a fault state. -/
def loopSaturated (l : Nat) (s : State) : Bool :=
  decide (136 ≤ l) && (faultSrc (192 + (l - 136)) s).state != .clear

/-- Checks of LOOP_STATUS. -/
def checkLoopStatus (r : Running) (_s : State) : Option Reject := firstOf [common false [(0, 2)] .none r.desc, badLoop r.desc]

/-- LOOP_STATUS past its checks. -/
def effectLoopStatus (r : Running) (s : State) : Ans × State :=
  let l := par r.desc 0 2
  let x := loop l s
  let t := if l < 128 then 6 else if l < 136 then 7 else x.cur.template
  let flags := flagBit (x.limHi || x.limLo) + 2 * flagBit x.frozen + 4 * flagBit (decide (x.satNotice ≤ saturation l s)) + 8 * flagBit (loopSaturated l s) +
    16 * flagBit x.swapPending + 32 * flagBit x.accSat + 64 * flagBit (x.cur.template == 5 && !repHeld x s)
  (doneWith (result [(0, 1, loopStateCode l s), (1, 1, (x.slot.val + 4 * (if x.cur.activeB then 1 else 0) + 16 * t : Nat)), (2, 2, loopOutput l s), (4, 2, x.e1),
    (6, 2, saturation l s), (8, 1, flags), (10, 2, x.overruns.toNat),
    (12, 4, if l < 136 then (s.alcAt : Int) else x.lastCount.toNat)]), s)

/-- LOOP_STATUS (R411). -/
def opLoopStatus (r : Running) (s : State) : Ans × State := guarded checkLoopStatus effectLoopStatus r s

/-! ## Repetitive commands (R412, R413) -/

/-- Words of the shared store that no loop holds (R415). -/
def storeFree (s : State) : Nat := 65536 - ((List.range 192).map (fun l => (loop l s).rep.store.length)).sum

/-- Reference slot of REPETITIVE_CONFIGURE. -/
def repSlot (x : Desc) : Option (Fin 8) := if par x 2 1 = 1 then some (Fin.ofNat 8 (par x 3 1)) else none

/-- m of REPETITIVE_CONFIGURE: 0 keeps the current value. -/
def repDivisor (x : Desc) (s : State) : Nat := if par x 14 2 = 0 then (loop (par x 0 2) s).arg else par x 14 2

/-- N of REPETITIVE_CONFIGURE: P_ref / m. -/
def repCount (x : Desc) (s : State) : Nat :=
  let p := refPeriod { Repetitive.reset with refSlot := repSlot x } s
  p / max 1 (repDivisor x s)

/-- The reference and m give no N of 16-16384 (BAD_PERIOD). -/
def badPeriod (x : Desc) (s : State) : Bool :=
  let m := repDivisor x s
  let p := refPeriod { Repetitive.reset with refSlot := repSlot x } s
  badRange 24 65535 m || p == 0 || p % max 1 m != 0 || badRange 16 16384 (repCount x s)

/-- Checks of REPETITIVE_CONFIGURE (R412). -/
def checkRepetitiveConfigure (r : Running) (s : State) : Option Reject :=
  let x := r.desc
  let l := par x 0 2
  let y := loop l s
  firstOf [common false [(0, 13), (14, 2)] .none x, badLoop x, refuseIf (!y.cur.defined || y.cur.template != 5) (badState 0x060E),
    refuseIf (decide (1 < par x 2 1) || decide (7 < par x 3 1) || badRange 1 0x7FFF (par x 4 2) || decide (63 < par x 10 1) ||
      !(par x 11 1 == 0 || (decide (6 ≤ par x 11 1) && decide (par x 11 1 ≤ 20))) || decide (1 < par x 12 1)) (badParam detBadField),
    refuseIf (badPeriod x s) (badParam 0x060D),
    refuseIf (decide (storeFree s + y.rep.store.length < repCount x s)) (some (.noResource, 0x060C))]

/-- REPETITIVE_CONFIGURE past its checks: a new reference or m allocates a zero store; other parameters wait for a period start (R403). -/
def effectRepetitiveConfigure (r : Running) (s : State) : Ans × State :=
  let x := r.desc
  let l := par x 0 2
  let y := loop l s
  let n := repCount x s
  let par' := (parInt x 4 2, parInt x 6 2, parInt x 8 2, par x 10 1, par x 11 1, par x 12 1 == 1)
  let fresh := y.rep.store.length != n || y.rep.refSlot != repSlot x || y.arg != repDivisor x s
  let s :=
    if fresh then
      let s := modLoop l (fun y => { y with arg := repDivisor x s, tick := 3, rep := { y.rep with
        refSlot := repSlot x, store := List.replicate n 0, kr := par'.1, q0 := par'.2.1, q1 := par'.2.2.1, lead := par'.2.2.2.1,
        forget := par'.2.2.2.2.1, learn := par'.2.2.2.2.2, next := none } }) s
      repReset l 1 s
    else modLoop l (fun y => { y with rep := { y.rep with next := some par' } }) s
  (doneWith (result [(0, 2, n), (2, 2, min 65535 (storeFree s))]), s)

/-- REPETITIVE_CONFIGURE (R412). -/
def opRepetitiveConfigure (r : Running) (s : State) : Ans × State := guarded checkRepetitiveConfigure effectRepetitiveConfigure r s

/-- Checks of REPETITIVE_RESET (R406, R413). -/
def checkRepetitiveReset (r : Running) (s : State) : Option Reject :=
  let y := loop (par r.desc 0 2) s
  firstOf [common false [(0, 2)] .none r.desc, badLoop r.desc, refuseIf (!y.cur.defined || y.cur.template != 5) (badState 0x060E)]

/-- REPETITIVE_RESET past its checks: at the next period start. -/
def effectRepetitiveReset (r : Running) (s : State) : Ans × State :=
  (awaitHardware r 1 [], modLoop (par r.desc 0 2) (fun y => { y with rep := { y.rep with
    resetDue := true, resetRings := y.rep.resetRings ++ [r.desc.ring] } }) s)

/-- REPETITIVE_RESET (R413). -/
def opRepetitiveReset (r : Running) (s : State) : Ans × State :=
  if r.phase = 0 then guarded checkRepetitiveReset effectRepetitiveReset r s
  else (if r.results.isEmpty then refuseWith (.rejectedState, 0x0608) 0 else doneWith (result [(0, 4, r.results.getD 0 0)]), s)

/-- Store of a repetitive loop allocated for its reference and m, where they give an N that fits (R400, R401). -/
def allocateStore (l : Nat) (s : State) : State :=
  let x := loop l s
  let p := refPeriod x.rep s
  let n := p / max 1 x.arg
  let fits := p % max 1 x.arg == 0 && !badRange 16 16384 n && decide (n ≤ storeFree s + x.rep.store.length)
  modLoop l (fun x => { x with rep := { x.rep with store := List.replicate (if fits then n else 0) 0 } }) s

/-- A new pattern in force in a slot: the stores that refer to it restart at zero with the new period (R403). -/
def patternStores (slot : Fin 8) (s : State) : State :=
  (List.range 192).foldl (fun s l =>
    if (loop l s).defined ∧ (loop l s).rep.refSlot = some slot then repReset l 0 (allocateStore l s) else s) s

/-- TDD_PATTERN_SWITCH (R338): the pattern that waits takes effect at its switch instant X. -/
def execTddPatternSwitch (slot : Fin 8) (s : State) : Host.Outcome State Fault Refusal :=
  .next (match s.radio.patterns[slot].next with
    | none => s
    | some (p, at_) =>
      let s := advanceTo at_ s
      let s := modRadio (fun r => { r with patterns := r.patterns.set slot { cur := some p, next := none } }) s
      refreshHolds (patternStores slot s))

/-- FRAME_START (R327, R328): time reaches the next frame start; holds and pins follow. -/
def execFrameStart (s : State) : Host.Outcome State Fault Refusal :=
  let t := nextFrame s.radio.timer
  let s := advanceTo t.origin s
  .next (refreshHolds (modRadio takePins (modTimer (fun _ => t) s)))

end Sys2Proof.Machine
end

