-- ==== Sys2Proof/Machine/Supply.lean ====
section
/-! DEFINITION. Supply control (09_supply_control.md): rails and phases, references and windows (R423-R426), the light-load ladder
(R427-R430), soft start, stop and tracking (R431-R434), short circuits (R435-R437), phase faults (R438-R443), the core rail (R445-R453),
commands of group 0x07. -/

namespace Sys2Proof.Machine

/-! ## Views of a rail -/

/-- 10^7 times a number of mV: the unit of references. -/
def mvUnit : Nat := 10000000

/-- Reference in mV. -/
def Rail.refMv (x : Rail) : Nat := x.ref / mvUnit

/-- The rail switches: its windows and short criteria act (R431, R435). -/
def Rail.live (x : Rail) : Bool := x.state == .softStart || x.state == .regulating

/-- Rail number of a voltage loop and of a repetitive loop (R377). -/
def voltageLoop (r : Fin 10) : Nat := 136 + r.val
/-- See voltageLoop. -/
def feedForwardLoop (r : Fin 10) : Nat := 146 + r.val

/-- Configured capacity of a rail in 10 mA: the sum of its phases' ratings. -/
def Rail.rated (x : Rail) : Nat := x.plan.rating * x.plan.phases.length

/-- Reference a follower derives from its master (R433); for a monitored master its sensed voltage stands for the reference. -/
def derivedRef (r m : Fin 10) (mode : Nat) (offset : Int) (s : State) : Nat :=
  let x := rail r s
  let y := rail m s
  let refM := if y.state = .monitor then y.sensed * mvUnit else y.ref
  if mode = 1 then min (x.target * mvUnit) ((refM : Int) + offset * mvUnit).toNat
  else x.target * refM / max 1 y.target

/-- A reference moved towards a goal by at most an amount up and an amount down. -/
def moveTowards (ref goal up down : Nat) : Nat := if ref < goal then min goal (ref + up) else max goal (ref - down)

/-- Goal of a rail's reference in its state. A follower that stops follows its master's reference down while the master has one, and goes on to
0 once the master is off, as one of a monitored master does (R434, R435, log entry 57). -/
def refGoal (r : Fin 10) (s : State) : Nat :=
  let x := rail r s
  match x.tracking with
  | some (m, mode, off) =>
    if x.state = .stopping ∧ (rail m s).live = false ∧ (rail m s).state ≠ .stopping then 0
    else if x.state = .softStart ∨ x.state = .regulating ∨ x.state = .stopping then derivedRef r m mode off s else x.ref
  | none =>
    match x.state with
    | .softStart => x.target * mvUnit
    | .regulating => x.target * mvUnit
    | .stopping => 0
    | _ => x.ref

/-- Largest movement of a reference in one switching cycle, up and down: ss_rate and stop_rate in mV/ms, the commanded slew in mV/µs in
REGULATING (R423, R431, R434). -/
def refSteps (x : Rail) : Nat × Nat :=
  let t := x.plan.period
  if x.state = .regulating ∧ x.tracking.isNone then (x.slew * t * 25000, x.slew * t * 25000)
  else (x.plan.ssRate * t * 25, x.plan.stopRate * t * 25)

/-- SUP0 under adaptive voltage has its reference from R450. -/
def avsRules (r : Fin 10) (s : State) : Bool := r == 0 && s.supply.avsEnabled

/-! ## Windows (R424-R426) -/

/-- Sensed voltage lies within a window of the reference, in 0.1 %. -/
def withinWin (sensed ref win : Nat) : Bool :=
  decide ((sensed * mvUnit : Nat) * 1000 ≤ ref * (1000 + win)) && decide (ref * (1000 - win) ≤ sensed * mvUnit * 1000)

/-- Sensed voltage above the reference by more than a window. -/
def aboveWin (sensed ref win : Nat) : Bool := decide (ref * (1000 + win) < sensed * mvUnit * 1000)

/-- Sensed voltage below the reference by more than a window. -/
def belowWin (sensed ref win : Nat) : Bool := decide (sensed * mvUnit * 1000 < ref * (1000 - win))

/-- Truncation goes on until the voltage falls below half the ov_trunc excess (R425). -/
def stillOver (x : Rail) (sensed : Nat) : Bool := decide (x.ref * (2000 + x.plan.ovTrunc) ≤ sensed * mvUnit * 2000)

/-- References of the last 1 ms, falling, with a new one at a time in 2.5 ns units (R426). -/
def keepPeaks (clock ref : Nat) (l : List (Nat × Nat)) : List (Nat × Nat) :=
  (l.filter (fun e => decide (clock ≤ e.1 + 400000) && decide (ref < e.2))) ++ [(clock, ref)]

/-- Highest reference of the last 1 ms. -/
def Rail.peak (x : Rail) : Nat := x.refPeaks.foldl (fun a e => max a e.2) x.ref

/-! ## The light-load ladder (R427-R430) -/

/-- Mean current of the last 16 cycles. -/
def Rail.load (x : Rail) : Int := x.loads.foldl (· + ·) 0 / 16

/-- Load above or below a percentage of the configured capacity, in halves of a percent. -/
def loadBelow (x : Rail) (half : Nat) : Bool := decide (x.load * 200 < (half * x.rated : Nat))
/-- See loadBelow. -/
def loadAbove (x : Rail) (half : Nat) : Bool := decide (((half * x.rated : Nat) : Int) < x.load * 200)

/-- The ladder is held in CCM (R430). -/
def ladderHeld (r : Fin 10) (s : State) : Bool :=
  let x := rail r s
  !x.plan.ladder || !x.plan.zeroCurrent ||
  (List.range 192).any (fun l => (loop l s).running && (loop l s).sinkKind == 3 && (loop l s).sinkIndex == voltageLoop r && (loop l s).cur.template == 5) ||
  x.plan.phases.any (fun p => s.supply.phases[p].state != .active)

/-- Conditions of R427 in a cycle towards CCM, DE and BURST, with the count each takes: 64, or 1 from BURST and for a held ladder. -/
def ladderWants (r : Fin 10) (s : State) : Vector (Bool × Nat) 3 :=
  let x := rail r s
  let held := ladderHeld r s
  match x.mode with
  | .ccm => #v[(false, 64), (!held && loadBelow x (2 * x.plan.deEnter), 64), (false, 64)]
  | .de => #v[(held || loadAbove x (3 * x.plan.deEnter), if held then 1 else 64), (false, 64), (!held && loadBelow x (2 * x.plan.burstEnter), 64)]
  | .burst =>
    #v[(false, 64), (held || loadAbove x (3 * x.plan.burstEnter) ||
      decide (x.sensed * mvUnit + 2 * x.plan.burstBand * mvUnit < x.ref), 1), (false, 64)]

/-- Runs of the ladder's conditions after a cycle; a run that has what it takes reads 64. -/
def ladderRuns (r : Fin 10) (s : State) : Vector Nat 3 :=
  let x := rail r s
  let w := ladderWants r s
  Vector.ofFn (fun k => if !w[k].1 then 0 else if w[k].2 = 1 then 64 else x.moveRun[k] + 1)

/-- Number of a mode (R458). -/
def modeNumber : LadderMode → Fin 3
  | .ccm => 0
  | .de => 1
  | .burst => 2

/-- A rail's mode with LADDER_MODE (R461). -/
def setMode (r : Fin 10) (m : LadderMode) (s : State) : State :=
  let old := (rail r s).mode
  if old = m then s
  else postEvent 0x0704 0 0xFFFF (payload 16 [(0, 1, r.val), (1, 1, (modeNumber old).val), (2, 1, (modeNumber m).val)])
    (modRail r (fun x => { x with mode := m }) s)

/-- LADDER_MOVE (R427-R430): a condition that has held for its count moves the rail; CCM and DE move by a hand-over of the voltage loop. -/
def execLadderMove (r : Fin 10) (target : LadderMode) (s : State) : Host.Outcome State Fault Refusal :=
  let x := rail r s
  let l := voltageLoop r
  let y := loop l s
  let due := x.state == .regulating && decide (64 ≤ x.moveRun[modeNumber target]) && x.moveHold[modeNumber target] == 0 && y.handover.isNone
  .next (if !due then s
    else match x.mode, target with
      | .ccm, .de => if y.running && y.slots[1].defined then beginHand l 1 16 0x0148 0 none true s else s
      | .de, .ccm => if y.running && y.slots[0].defined then beginHand l 0 16 0x0148 0 none true s else s
      | .de, .burst => setMode r .burst (stopLoop l s)
      | .burst, .de => setMode r .de (startLoop l (modLoop l (fun y => { y with slot := if y.slots[1].defined then 1 else 0 }) s))
      | _, _ => s)

/-! ## Starting and stopping -/

/-- Soft start of one rail (R432): the reference begins at the sensed voltage, in DE when the zero-current inputs are wired. -/
def beginSoftStart (r : Fin 10) (s : State) : State :=
  let x := rail r s
  let de := x.plan.zeroCurrent
  let l := voltageLoop r
  let s := phasesOn r (setRailState r .softStart 0xFFFF s)
  let s := modRail r (fun x => { x with
    ref := x.sensed * mvUnit, mode := if de then .de else .ccm, pgRun := 0, powerGood := false, badRun := 0, ovRun := 0, lowTime := 0, uvTime := 0,
    limitRun := 0, truncating := false, suppressed := false, burst := 0, moveRun := Vector.replicate 3 0, moveHold := Vector.replicate 3 0, faultBy := [], pgWait := 0, settled := 0,
    refPeaks := [] }) s
  let y := loop l s
  let slot : Fin 4 := if de && y.slots[1].defined then 1 else 0
  if y.slots[slot].defined then startLoop l (modLoop l (fun y => { y with slot := slot }) s) else s

/-- A rail's phases and its voltage loop off, in a new state. -/
def railDown (r : Fin 10) (v : RailState) (source : Nat) (s : State) : State :=
  stopLoop (voltageLoop r) (setRailState r v source (phasesOff r s))

/-- Every member of a group is REGULATING (R434). -/
def groupRegulating (r : Fin 10) (s : State) : Bool :=
  (railGroup r s).all (fun k => (rail k s).state == .regulating || (rail k s).state == .monitor)

/-- Commands that wait for the group's start or stop, answered once it is complete (R434, R457). -/
def answerGroup (r : Fin 10) (s : State) : State :=
  (railGroup r s).foldl (fun s k =>
    let x := rail k s
    let s := if x.startRing.isSome ∧ groupRegulating k s then answerRing k x.startRing [0] (modRail k (fun x => { x with startRing := none }) s) else s
    if x.stopRing.isSome ∧ ((k :: followers k s).all (fun j => !(rail j s).live && (rail j s).state != .stopping)) then
      answerRing k x.stopRing [0] (modRail k (fun x => { x with stopRing := none }) s)
    else s) s

/-- Automatic restarts of the last 24 h (R571). -/
def recentRestarts (s : State) : List Nat := s.sys.restarts.filter (fun t => decide (s.slowTicks < t + 86400000))

/-- Writer of the command of an opcode that is in execution; the device itself when there is none (R601). -/
def requester (op : Nat) (s : State) : Nat :=
  let has (q : Nat) : Bool := ((source q s).running.toList ++ (source q s).continuing).any (fun r => r.desc.opcode.toNat == op)
  ((List.range 22).find? has).elim deviceWriter writerOf

/-- A restart reaches ACTIVE once every rail it started is REGULATING: the device's port stops end (R572). -/
def restartProgress (s : State) : State :=
  match s.sys.transition with
  | .restarting automatic =>
    if (List.finRange 10).all (fun r => !s.sys.stoppedRails.getLsbD r.val || (rail r s).state == .regulating) then
      let s := releaseDeviceStops s
      let was := frozenNow s
      let s := { s with sys := { s.sys with power := .active, stopReason := 0, stopSource := none, transition := .none, stoppedRails := 0 } }
      powerRecord .stopped .active 0 (if automatic then deviceWriter else requester 0x0013 s) (refreeze was s)
    else s
  | _ => s

/-- A restart begins: the rails that the stop stopped start again with their followers (R572). -/
def beginRestart (automatic : Bool) (s : State) : State :=
  let s := { s with sys := { s.sys with transition := .restarting automatic, abandonedRestart := false,
                                        restarts := if automatic then recentRestarts s ++ [s.slowTicks] else recentRestarts s } }
  let rs := (List.finRange 10).filter (fun r => s.sys.stoppedRails.getLsbD r.val)
  restartProgress (rs.foldl (fun s r => ((r :: followers r s).filter (fun k => (rail k s).state == .off)).foldl (fun s k => beginSoftStart k s) s) s)

/-- An automatic restart, at most three within 24 h (R571). -/
def autoRestart (s : State) : State :=
  if s.sys.power = .stopped ∧ s.sys.transition = .none ∧ (recentRestarts s).length < 3 then beginRestart true s else s

/-- The recovery rule of a stop for FAULT_REACTION is met: its source is CLEAR (R571). -/
def stopSourceClear (s : State) : Bool :=
  match s.sys.stopSource with
  | some n => (faultSrc n.val s).state == .clear
  | none => false

/-- The device's orderly stop goes on to STOPPED when the last port rail has stopped (R570 step 4); a source that has meanwhile returned to CLEAR
restarts it (R571). A SLEEP entry goes on to step 2 (R575). -/
def stopProgress (s : State) : State :=
  match s.sys.transition with
  | .stopping reason _ =>
    if portRailsOff s then
      let s := enterStopped s
      if reason = 3 ∧ stopSourceClear s then autoRestart s else s
    else s
  | .sleeping 1 => if portRailsOff s then { s with sys := { s.sys with transition := .sleeping 2 } } else s
  | _ => s

/-- SOFT_START_DONE (R432): reference at target and power good: REGULATING, in CCM. -/
def execSoftStartDone (r : Fin 10) (s : State) : Host.Outcome State Fault Refusal :=
  let x := rail r s
  .next (if x.state == .softStart && x.ref == refGoal r s && x.powerGood then
      let s := setRailState r .regulating 0xFFFF s
      let l := voltageLoop r
      let y := loop l s
      let s := if y.running && y.slot != 0 && y.slots[0].defined then beginHand l 0 16 0x0148 0 none false s else s
      restartProgress (answerGroup r (modRail r (fun x => { x with mode := .ccm, pgWait := 0 }) s))
    else s)

/-- RAIL_STOP_DONE (R431): the reference has reached 0: phases off, OFF, or FAULT for a rail of a faulted group. -/
def execRailStopDone (r : Fin 10) (s : State) : Host.Outcome State Fault Refusal :=
  let x := rail r s
  .next (if x.state == .stopping && x.ref == 0 then
      let s := match x.faultBy with
        | [] => railDown r .off 0xFFFF s
        | n :: _ => railDown r .fault n s
      stopProgress (answerGroup r s)
    else s)

/-! ## Shorts (R435-R437) -/

/-- Source detail of a rail fault: sensed voltage and reference in mV (R517). -/
def railDetail (x : Rail) : Nat := x.sensed % 65536 + x.refMv % 65536 * 65536

/-- RAIL_SHORT or RAIL_OV of a rail (R435): its phases off and FAULT; the group's other rails stop and go to FAULT; a start or a set voltage that
waits ends with the source. While the core is down the supply island keeps SUP0's faults to itself (R449). -/
def railFault (r : Fin 10) (source : Nat) (s : State) : State :=
  let x := rail r s
  let others := (railGroup r s).filter (fun k => k != r)
  let s := (r :: others).foldl (fun s k => dropWaits k [1, source] s) s
  let s := modRail r (fun x => { x with faultBy := [source], limitRun := 0, lowTime := 0, ovRun := 0 }) (railDown r .fault source s)
  let s := others.foldl (fun s k =>
    if (rail k s).live || (rail k s).state == .stopping then modRail k (fun x => { x with faultBy := [source] }) (beginRailStop k s) else s) s
  if r = 0 ∧ s.sys.coreUp = false then modSupply (fun v => { v with bootFault := true }) s
  else
    let s := raise source (object 5 r.val) (railDetail x) s
    answerGroup r (stopProgress s)

/-- The criteria of RAIL_SHORT hold (R435). -/
def shortDue (x : Rail) : Bool := x.live && (decide (x.plan.shortTime * 400 ≤ x.lowTime) || decide (64 ≤ x.limitRun))

/-- RAIL_SHORT (R435). -/
def execRailShort (r : Fin 10) (s : State) : Host.Outcome State Fault Refusal :=
  .next (if shortDue (rail r s) then railFault r (256 + r.val) s else s)

/-- RAIL_UV (R424): 1 ms below the uv window in REGULATING. -/
def execRailUv (r : Fin 10) (s : State) : Host.Outcome State Fault Refusal :=
  let x := rail r s
  .next (if x.state == .regulating && decide (400000 ≤ x.uvTime) && !x.uvRaised then
      raise (276 + r.val) (object 5 r.val) (railDetail x) (modRail r (fun x => { x with uvRaised := true }) s)
    else s)

/-- A rail group in FAULT restarts together once every source of it is out of its fault state (R436); a rail without phases is monitored again. -/
def railFaultExit (n : Nat) (s : State) : State :=
  (List.finRange 10).foldl (fun s r =>
    let x := rail r s
    if x.state = .fault ∧ x.faultBy.contains n then
      let g := (railGroup r s).filter (fun k => (rail k s).state == .fault)
      let free := g.all (fun k => (rail k s).faultBy.all (fun m => (faultSrc m s).state == .clear))
      if free then g.foldl (fun s k => if (rail k s).plan.phaseMask = 0 then setRailState k .monitor 0xFFFF s else beginSoftStart k s) s else s
    else s) s

/-! ## Phases (R438-R443) -/

/-- Source detail of a phase fault (R517): current and the rail's capacity. -/
def phaseDetail (p : Fin 16) (r : Fin 10) (s : State) : Nat := code 16 s.supply.phases[p].current + railCapacity r s * 65536

/-- A phase declared open or mis-sensed (R441, R442): removed, or kept in duty-mirror mode when it is the only one left and only its sense
failed; an open last phase takes the rail OFF. -/
def removePhase (p : Fin 16) (r : Fin 10) (opened : Bool) (s : State) : State :=
  let last := (activePhases r s).all (fun k => k == p)
  let st : PhaseState := if opened then .removedOpen else if last then .dutyMirror else .removedSense
  let cause : Nat := if opened then 0 else if last then 3 else 1
  let s := modPhase p (fun x => { x with state := st, suspect := 0, rippleRun := 0, rangeRun := 0, soft := false, driver := st == .dutyMirror, pulse := if st = .dutyMirror then x.pulse else 0 }) s
  let s := raise ((if opened then 286 else 302) + p.val) (object 6 p.val) (phaseDetail p r s) s
  let s := postEvent 0x0702 2 ((if opened then 286 else 302) + p.val)
    (payload 16 [(0, 1, p.val), (1, 1, r.val), (2, 1, cause), (4, 2, railCapacity r s)]) s
  if opened && last then answerGroup r (railDown r .off 0xFFFF (dropWaits r [1, 286 + p.val] s)) else s

/-- A phase's rail is REGULATING and no short is due in the same cycle (R437). -/
def phaseJudged (p : Fin 16) (s : State) : Option (Fin 10) :=
  match phaseRail p s with
  | some r => if (rail r s).state = .regulating ∧ shortDue (rail r s) = false ∧ s.supply.phases[p].runs = true then some r else none
  | none => none

/-- PHASE_OPEN (R438, R439): 32 cycles of suspicion classify the phase. -/
def execPhaseOpen (p : Fin 16) (s : State) : Host.Outcome State Fault Refusal :=
  let x := s.supply.phases[p]
  .next (match phaseJudged p s with
    | some r =>
      let n := (activePhases r s).length
      if x.suspect < 32 then s
      else if n ≤ 1 then removePhase p r x.soft s
      else removePhase p r (decide (4 * n * x.rise < (rail r s).current)) s
    | none => s)

/-- PHASE_SENSE (R440): the ripple test over 64 cycles or the range test over 8; the ripple test waits while R439's suspicion runs. -/
def execPhaseSense (p : Fin 16) (s : State) : Host.Outcome State Fault Refusal :=
  let x := s.supply.phases[p]
  .next (match phaseJudged p s with
    | some r =>
      let single := decide ((activePhases r s).length ≤ 1)
      if 8 ≤ x.rangeRun ∨ (64 ≤ x.rippleRun ∧ !(single && decide (0 < x.suspect))) then
        if x.state = .dutyMirror then s else removePhase p r false s
      else s
    | none => s)

/-- A phase whose sources have left their fault states rejoins (R443). -/
def phaseFaultExit (n : Nat) (s : State) : State :=
  if n < 286 ∨ 318 ≤ n then s
  else
    let p : Fin 16 := Fin.ofNat 16 ((n - 286) % 16)
    let x := s.supply.phases[p]
    if (x.state = .removedOpen ∨ x.state = .removedSense ∨ x.state = .dutyMirror) ∧ (faultSrc (286 + p.val) s).state = .clear ∧
        (faultSrc (302 + p.val) s).state = .clear then
      match phaseRail p s with
      | some r =>
        let on := (rail r s).live || (rail r s).state == .stopping
        let s := modPhase p (fun x => { x with state := if on then .active else .off, driver := on }) s
        postEvent 0x0703 0 0xFFFF (payload 16 [(0, 1, p.val), (1, 1, r.val), (4, 2, railCapacity r s)]) s
      | none => modPhase p (fun x => { x with state := .off }) s
    else s

/-! ## The switching cycle -/

/-- The rail switches: its phases' drivers may be on (R417). -/
def Rail.switching (x : Rail) : Bool := x.live || x.state == .stopping

/-- Duty between 5 % and d_max (R438, R439). -/
def Rail.dutyInRange (x : Rail) : Bool := decide (5 * 32768 ≤ 100 * x.duty) && decide (100 * x.duty ≤ x.plan.dMax * 32768)

/-- Edge places between two offsets moved by at most one eighth of the period (R441). -/
def slideOffset (now goal period : Nat) : Nat := moveTowards now goal (4 * period) (4 * period)

/-- A phase's outputs for the cycle that begins (R417, R420, R421, R425, R428, R438): the driver enable, the offset of its period, its trim of at most 2 %
of the period, and its pulse, which is withheld in cycles 31 and 32 of a suspicion and in a truncated cycle. -/
def phasePulse (r : Fin 10) (s : State) (p : Fin 16) : State :=
  let x := rail r s
  let n := (activePhases r s).length
  let places := 32 * x.plan.period
  let average := x.current / (max 1 n : Nat)
  modPhase p (fun y =>
    let on := x.switching && (x.mode != .burst || decide (0 < x.burst))
    let trim := clampInt (-(places / 50 : Nat)) (places / 50 : Nat) (Config.balanceTrim y.trim y.current average)
    let withheld := x.suppressed || (decide (1 < n) && (y.suspect == 30 || y.suspect == 31))
    { y with driver := on, offset := slideOffset y.offset (phaseOffset r p s) x.plan.period, trim := trim,
             pulse := if !on || withheld then 0 else max 0 (x.duty * places / 32768 + trim) }) s

/-- Current of a phase in duty-mirror mode in 10 mA: (d × V_in - V_out) / R_dc (R442). -/
def mirrorCurrent (x : Rail) : Int := roundDiv ((x.duty * x.plan.vin - 32768 * x.sensed) * 10000) (32768 * max 1 x.plan.rdc)

/-- The pulse-by-pulse limit acts on a phase: the end of its on-time reaches ilim percent of the rating; in duty-mirror mode the estimate acts, at half
of it (R442, R455, log entry 180). -/
def limitActs (x : Rail) (y : Phase) (atEnd : Int) : Bool :=
  y.runs && (if y.state = .dutyMirror then decide ((x.plan.rating * x.plan.ilim : Nat) ≤ 200 * y.current)
    else decide ((x.plan.rating * x.plan.ilim : Nat) ≤ 100 * atEnd))

/-- Ripple of the inductor model (V_in - V_out) × t_on / L, and the sensed ripple on the same scale: 10 mA × nH × 10^7 (R440). -/
def modelRipple (x : Rail) (y : Phase) : Int := ((x.plan.vin : Int) - x.sensed) * y.pulse * 78125
/-- See modelRipple. -/
def sensedRipple (x : Rail) (m : RailMeas) (p : Fin 16) : Int := (m.atEnd[p] - m.atStart[p]) * x.plan.inductance * 10000000

/-- Suspicion and tests of one phase in a cycle of REGULATING (R438-R440). -/
def phaseCycle (r : Fin 10) (m : RailMeas) (s : State) (p : Fin 16) : State :=
  let x := rail r s
  let act := activePhases r s
  let n := act.length
  let others := (act.filter (fun k => k != p)).foldl (fun a k => a + s.supply.phases[k].current) 0
  let y := s.supply.phases[p]
  let total := others + y.current
  let model := modelRipple x y
  let ripple := sensedRipple x m p
  let suspicious :=
    if n ≤ 1 then decide (4 * ripple < model) && x.dutyInRange && x.mode != .burst
    else x.mode == .ccm && x.dutyInRange && decide (x.plan.rating * n ≤ 10 * total) && decide (10 * n * y.current < total)
  let run := if suspicious then y.suspect + 1 else 0
  let soft := suspicious && (y.soft || belowWin x.sensed x.ref x.plan.pgWin || (loop (voltageLoop r) s).limHi)
  let bad := decide (0 < y.pulse) && decide (model.natAbs < 2 * (ripple - model).natAbs)
  let code := phaseCode y.current x.plan.senseGain
  modPhase p (fun y => { y with
    suspect := run, soft := soft, othersBefore := if run ≤ 30 then others else y.othersBefore, rise := others - (if run ≤ 30 then others else y.othersBefore),
    rippleRun := if bad then y.rippleRun + 1 else 0, rangeRun := if code = 32767 ∨ code = -32768 then y.rangeRun + 1 else 0 }) s

/-- Every other rail off at once when SUP0 has lost power_good for 16 cycles while the core runs (R449). -/
def coreSag (s : State) : State :=
  ((List.finRange 10).filter (fun r => r != 0 && ((rail r s).live || (rail r s).state == .stopping))).foldl (fun s r => answerGroup r (railDown r .off 0xFFFF (dropWaits r [4] s))) s

/-- Answer to a RAIL_SET_VOLTAGE or a start that waits for power_good: reached, or not within 10 ms of the reference (R423, R454). -/
def settleWaits (r : Fin 10) (s : State) : State :=
  let x := rail r s
  let s := if x.setRing.isSome ∧ 16 ≤ x.settled then
      answerRing r x.setRing [0, x.sensed] (modRail r (fun x => { x with setRing := none }) s)
    else s
  if 4000000 ≤ x.pgWait then
    let s := answerRing r x.startRing [2] (answerRing r (rail r s).setRing [2] s)
    modRail r (fun x => { x with setRing := none, startRing := none, pgWait := 0 }) s
  else s

/-- Currents of a rail's phases: the sample at the centre of the on-time, or the estimate in duty-mirror mode (R419, R442). -/
def takeCurrents (r : Fin 10) (m : RailMeas) (s : State) : State :=
  let x := rail r s
  (x.plan.phases).foldl (fun s p =>
    modPhase p (fun y => { y with current := if y.state = .dutyMirror then mirrorCurrent x else m.atCentre[p] }) s) s

/-- A switching cycle begins: the duty written before it applies, no on-pulse starts while the voltage has not fallen, the voltage is sampled (R388,
R419, R425). -/
def Rail.begins (m : RailMeas) (x : Rail) : Rail :=
  { x with sensed := m.sensedMv, duty := x.dutyNext, cycles := x.cycles + 1, clock := x.clock + x.plan.period, suppressed := x.truncating }

/-- Pulses left of a burst after a cycle: four once the voltage falls below the reference less burst_band (R428). -/
def Rail.burstAfter (x : Rail) : Nat :=
  if x.mode ≠ .burst ∨ x.state ≠ .regulating then 0
  else if 0 < x.burst then x.burst - 1
  else if x.sensed * mvUnit + x.plan.burstBand * mvUnit < x.ref then 4 else 0

/-- The rail after the reference's movement and the window checks of one cycle (R423-R426, R435). -/
def railCycle (r : Fin 10) (m : RailMeas) (s : State) : Rail :=
  let x := rail r s
  let cur := (x.plan.phases).foldl (fun a p => a + s.supply.phases[p].current) 0
  let step := refSteps x
  let ref := if avsRules r s then x.ref else moveTowards x.ref (refGoal r s) step.1 step.2
  let x := { x with current := cur, ref := ref, refPeaks := keepPeaks x.clock ref x.refPeaks, loads := (x.loads ++ [cur]).drop ((x.loads.length + 1) - 16) }
  let inside := withinWin x.sensed x.ref x.plan.pgWin
  let cut := x.switching && (aboveWin x.sensed x.ref x.plan.ovTrunc || (x.truncating && stillOver x x.sensed))
  let lim := x.live && (x.plan.phases).any (fun p => limitActs x s.supply.phases[p] m.atEnd[p])
  let low := x.live && decide (x.target * mvUnit ≤ 50 * x.ref) && decide (2 * x.sensed * mvUnit < x.ref)
  let under := x.state == .regulating && belowWin x.sensed x.ref x.plan.uv
  let atGoal := x.ref == refGoal r s
  { x with
      pgRun := if inside then min 65535 (x.pgRun + 1) else 0, badRun := if inside then 0 else x.badRun + 1, powerGood := inside && decide (15 ≤ x.pgRun),
      truncating := cut, truncations := if cut then BitVec.ofNat 16 (satAdd 16 x.truncations.toNat 1) else x.truncations,
      limitCycles := if lim then BitVec.ofNat 16 (satAdd 16 x.limitCycles.toNat 1) else x.limitCycles, limitRun := if lim then x.limitRun + 1 else 0,
      ovRun := if (x.switching || x.state == .monitor) && aboveWin x.sensed x.peak x.plan.ovHard then x.ovRun + 1 else 0,
      lowTime := if low then x.lowTime + x.plan.period else 0, uvTime := if under then x.uvTime + x.plan.period else 0, uvRaised := x.uvRaised && under,
      settled := if atGoal && inside then x.settled + 1 else 0,
      pgWait := if x.live && atGoal && !(inside && decide (15 ≤ x.pgRun)) && (x.startRing.isSome || x.setRing.isSome) then x.pgWait + x.plan.period else 0,
      burst := x.burstAfter, moveHold := x.moveHold.map (· - 1) }

/-- A switching cycle as it begins: the rail's sample, the pulses of its phases, their currents (R417, R419). -/
def cycleBegun (r : Fin 10) (m : RailMeas) (s : State) : State :=
  let s := modRail r (Rail.begins m) s
  takeCurrents r m ((activePhases r s).foldl (phasePulse r) s)

/-- SWITCHING_CYCLE (R419-R421, R424): pulses and samples, the reference's movement, the windows, the ladder's and the phases' counts; RAIL_OV after 8
cycles. -/
def execSwitchingCycle (r : Fin 10) (m : RailMeas) (s : State) : Host.Outcome State Fault Refusal :=
  let s := cycleBegun r m s
  let s := modRail r (fun _ => railCycle r m s) s
  let x := rail r s
  let s := if x.state = .regulating then (activePhases r s).foldl (phaseCycle r m) s else s
  let s := modRail r (fun x => { x with moveRun := if x.state = .regulating then ladderRuns r s else Vector.replicate 3 0 }) s
  let s := settleWaits r s
  let s := if r = 0 ∧ x.badRun = 16 ∧ s.sys.coreUp = true then coreSag s else s
  .next (if 8 ≤ x.ovRun then railFault r (266 + r.val) s else s)

/-! ## RAIL_CONFIGURE (R455) -/

/-- Rail in byte 0; above 9 is BAD_RAIL (R454). -/
def badRail (n : Nat) : Option Reject := refuseIf (decide (9 < n)) (badParam 0x0701)

/-- The plan of a buffer. -/
def planOf (x : Desc) : RailPlan :=
  { portMask := BitVec.ofNat 8 (dat x 1 1), phaseMask := BitVec.ofNat 16 (dat x 2 2), period := dat x 4 2, vin := dat x 6 2, rating := dat x 10 2,
    senseGain := dat x 12 2, inductance := dat x 14 2, rdc := dat x 16 2, ilim := dat x 18 1, dMax := dat x 19 1, ssRate := dat x 20 2,
    stopRate := dat x 22 2, shortTime := dat x 24 2, ovTrunc := dat x 26 1, pgWin := dat x 27 1, ovHard := dat x 28 1, uv := dat x 29 1,
    vMax := dat x 30 2, ladder := (dat x 32 1).testBit 0, zeroCurrent := (dat x 32 1).testBit 1, tddFf := (dat x 32 1).testBit 2,
    tddSlot := Fin.ofNat 8 (dat x 33 1), deEnter := dat x 34 1, burstEnter := dat x 35 1, burstBand := dat x 36 2, target := dat x 38 2,
    kDiv := dat x 40 4 }

/-- Fields that SUP0 accepts: bytes 6-7, 10-19, 24-29 and 34-39 of the buffer, over the plan it has (R455, log entry 33). -/
def corePlan (old new : RailPlan) : RailPlan :=
  { old with vin := new.vin, rating := new.rating, senseGain := new.senseGain, inductance := new.inductance, rdc := new.rdc, ilim := new.ilim,
             dMax := new.dMax, shortTime := new.shortTime, ovTrunc := new.ovTrunc, pgWin := new.pgWin, ovHard := new.ovHard, uv := new.uv,
             deEnter := new.deEnter, burstEnter := new.burstEnter, burstBand := new.burstBand, target := new.target }

/-- Fields common to SUP0 and the other rails out of range (R455). -/
def badPlanCommon (p : RailPlan) : Bool :=
  badRange 1000 60000 p.vin || badRange 1 10000 p.rating || badRange 50 20000 p.senseGain || badRange 20 50000 p.inductance ||
  badRange 1 10000 p.rdc || badRange 100 200 p.ilim || badRange 50 98 p.dMax || badRange 20 5000 p.shortTime || badRange 10 100 p.ovTrunc ||
  badRange 5 100 p.pgWin || badRange 50 250 p.ovHard || badRange 20 250 p.uv || badRange 1 50 p.deEnter || badRange 1 20 p.burstEnter ||
  badRange 1 2000 p.burstBand

/-- The other fields out of range. -/
def badPlanRest (x : Desc) (p : RailPlan) : Bool :=
  badRange 160 2000 p.period || badRange 10 50000 p.ssRate || badRange 10 50000 p.stopRate || decide (7 < dat x 33 1) ||
  badRange 1000 100000 p.kDiv

/-- A phase of the mask belongs to another rail (R416, BAD_PLAN). -/
def phaseTaken (r : Nat) (p : RailPlan) (s : State) : Bool :=
  (List.finRange 10).any (fun k => k.val != r && (rail k s).plan.phaseMask &&& p.phaseMask != 0)

/-- Checks of RAIL_CONFIGURE (R454, R455). SUP0 is configured while it regulates: it is never OFF while commands run (log entry 33). -/
def checkRailConfigure (r : Running) (s : State) : Option Reject :=
  let x := r.desc
  let n := par x 0 1
  let p := planOf x
  let y := rail (Fin.ofNat 10 n) s
  firstOf [common false [(0, 2)] (.exactly 48) x, badRail n, hostRead x,
    refuseIf (dat x 8 2 != 0 || dat x 44 4 != 0 || decide (7 < dat x 32 1)) (badParam detReserved),
    refuseIf (badRange 1 16 (par x 1 1) || dat x 0 1 != n || badPlanCommon p || (n != 0 && (badPlanRest x p || phaseTaken n p s))) (badParam 0x0702),
    refuseIf (if n = 0 then badRange 620 800 p.target else decide (p.vMax < p.target)) (badParam 0x0705),
    refuseIf (n != 0 && y.state != .unconfigured && y.state != .off) (badState 0x0703)]

/-- Wiring of a rail's voltage loop (R455): reference, RAIL_V, duty, on the RAIL tick. -/
def wireVoltageLoop (r : Fin 10) (div : Nat) (s : State) : State :=
  modLoop (voltageLoop r) (fun y => { y with
    defined := true, tick := 2, rail := r.val, div := div, setKind := 8, setIndex := r.val, measKind := 2, measIndex := r.val, sinkKind := 1,
    sinkIndex := r.val }) s

/-- The repetitive feed-forward of a rail started or removed (R444). Its inputs are those of the voltage loop (DEDUCED, log entry 34); until a
set is loaded its limits are the whole Q15 range. -/
def wireFeedForward (r : Fin 10) (p : RailPlan) (s : State) : State :=
  let l := feedForwardLoop r
  if p.tddFf then
    let whole : Vector Int 16 := (Vector.replicate 16 0).set 0 (-32768) |>.set 1 32767
    let s := modLoop l (fun y =>
      let y := if y.slots[0].defined then y
        else y.setSlot 0 { LoopSlot.reset with defined := true, template := 5, setA := whole, setB := whole }
      { y with defined := true, running := true, tick := 3, arg := 96, setKind := 8, setIndex := r.val, measKind := 2, measIndex := r.val, sinkKind := 3,
               sinkIndex := voltageLoop r, slot := 0, tickFrom := s.now, rep := { y.rep with refSlot := some p.tddSlot } }) s
    allocateStore l s
  else if (loop l s).defined then removeLoop l s
  else s

/-- RAIL_CONFIGURE past its checks; the reference of a monitored rail is its target (R418, log entry 57). -/
def effectRailConfigure (r : Running) (s : State) : Ans × State :=
  let x := r.desc
  let n : Fin 10 := Fin.ofNat 10 (par x 0 1)
  let p := planOf x
  if n = 0 then
    (doneWith 0, wireVoltageLoop 0 (par x 1 1) (modRail 0 (fun y => { y with
      plan := corePlan y.plan p, target := if s.supply.avsEnabled then y.target else p.target }) s))
  else
    let s := phasesOff n s
    let s := modRail n (fun y => { y with plan := p, target := p.target, ref := if p.phaseMask = 0 then p.target * mvUnit else y.ref }) s
    let s := setRailState n (if p.phaseMask = 0 then .monitor else .off) 0xFFFF s
    (doneWith 0, wireFeedForward n p (wireVoltageLoop n (par x 1 1) s))

/-- RAIL_CONFIGURE (R455). -/
def opRailConfigure (r : Running) (s : State) : Ans × State := guarded checkRailConfigure effectRailConfigure r s

/-! ## Voltage, start, stop, status, tracking -/

/-- Checks of RAIL_SET_VOLTAGE (R456). -/
def checkRailSetVoltage (r : Running) (s : State) : Option Reject :=
  let x := r.desc
  let n := par x 0 1
  let y := rail (Fin.ofNat 10 n) s
  firstOf [common false [(0, 1), (2, 4)] .none x, badRail n, refuseIf (badRange 1 10000 (par x 4 2)) (badParam detBadField),
    refuseIf (if n = 0 then badRange 620 800 (par x 2 2) else decide (y.plan.vMax < par x 2 2)) (badParam 0x0705),
    refuseIf (n == 0 && s.supply.avsEnabled) (badState 0x0706), refuseIf (y.state != .regulating) (badState 0x0703)]

/-- RAIL_SET_VOLTAGE past its checks: the older one is superseded and the slew starts from the reference in force (R423). -/
def effectRailSetVoltage (r : Running) (s : State) : Ans × State :=
  let x := r.desc
  let n : Fin 10 := Fin.ofNat 10 (par x 0 1)
  let s := answerRing n (rail n s).setRing [3, (rail n s).sensed] s
  (awaitHardware r 1 [], modRail n (fun y => { y with target := par x 2 2, slew := par x 4 2, setRing := some x.ring, settled := 0, pgWait := 0 }) s)

/-- Answer of a wait of this group: 0 reached, 1 ended by a fault source, 2 no power_good in time, 3 superseded,
4 the rail left the state the command needs. -/
def railAnswer (r : Running) (res : BitVec 128) : Ans :=
  match r.results.getD 0 0 with
  | 1 => refuse (.deviceFault, (r.results.getD 1 0).toNat)
  | 2 => refuse (.rejectedState, 0x0709)
  | 3 => .final { status := .done, detail := 0x0708, result := res, seq := none, data := [] }
  | 4 => refuse (.rejectedState, 0x0703)
  | _ => doneWith res

/-- RAIL_SET_VOLTAGE (R423, R456). -/
def opRailSetVoltage (r : Running) (s : State) : Ans × State :=
  if r.phase = 0 then guarded checkRailSetVoltage effectRailSetVoltage r s
  else (railAnswer r (result [(0, 2, (rail (Fin.ofNat 10 (par r.desc 0 1)) s).sensed)]), s)

/-- A monitored rail that masters a group starts and stops its followers (R418, R434, log entry 57). -/
def leadsMonitored (n : Fin 10) (s : State) : Bool := (rail n s).state == .monitor && !(followers n s).isEmpty

/-- Checks of RAIL_START (R434, R457). -/
def checkRailStart (r : Running) (s : State) : Option Reject :=
  let n := par r.desc 0 1
  let y := rail (Fin.ofNat 10 n) s
  firstOf [common false [(0, 1)] .none r.desc, badRail n, refuseIf y.tracking.isSome (badState 0x0707),
    refuseIf (y.state != .off && !leadsMonitored (Fin.ofNat 10 n) s) (badState 0x0703)]

/-- RAIL_START past its checks: the rail and its followers that are OFF begin together. -/
def effectRailStart (r : Running) (s : State) : Ans × State :=
  let n : Fin 10 := Fin.ofNat 10 (par r.desc 0 1)
  let g := (n :: followers n s).filter (fun k => (rail k s).state == .off)
  (awaitHardware r 1 [], modRail n (fun y => { y with startRing := some r.desc.ring }) (g.foldl (fun s k => beginSoftStart k s) s))

/-- RAIL_START (R434, R457). -/
def opRailStart (r : Running) (s : State) : Ans × State :=
  if r.phase = 0 then guarded checkRailStart effectRailStart r s else (railAnswer r 0, s)

/-- Checks of RAIL_STOP (R434, R457). -/
def checkRailStop (r : Running) (s : State) : Option Reject :=
  let n := par r.desc 0 1
  let y := rail (Fin.ofNat 10 n) s
  firstOf [common false [(0, 1)] .none r.desc, badRail n, refuseIf y.tracking.isSome (badState 0x0707),
    refuseIf (y.state != .regulating && !leadsMonitored (Fin.ofNat 10 n) s) (badState 0x0703),
    refuseIf ((List.finRange 8).any (fun p => y.plan.portMask.getLsbD p.val && s.radio.tx[p].enabled)) (badState 0x0704)]

/-- RAIL_STOP past its checks. -/
def effectRailStop (r : Running) (s : State) : Ans × State :=
  let n : Fin 10 := Fin.ofNat 10 (par r.desc 0 1)
  (awaitHardware r 1 [], modRail n (fun y => { y with stopRing := some r.desc.ring }) (stopGroup n s))

/-- RAIL_STOP (R457): complete when every phase of the group is off. -/
def opRailStop (r : Running) (s : State) : Ans × State :=
  if r.phase = 0 then guarded checkRailStop effectRailStop r s else (railAnswer r 0, s)

/-- Fault source that blocks a rail's restart; 0xFFFF for none (R458). -/
def blockingSource (x : Rail) (s : State) : Nat := (x.faultBy.find? (fun n => (faultSrc n s).state != .clear)).getD 0xFFFF

/-- Checks of RAIL_STATUS. -/
def checkRailStatus (r : Running) (_s : State) : Option Reject := firstOf [common false [(0, 1)] .none r.desc, badRail (par r.desc 0 1)]

/-- RAIL_STATUS past its checks. -/
def effectRailStatus (r : Running) (s : State) : Ans × State :=
  let n : Fin 10 := Fin.ofNat 10 (par r.desc 0 1)
  let x := rail n s
  let mask := (activePhases n s).foldl (fun a p => a + 2 ^ p.val) 0
  let mirror := x.plan.phases.any (fun p => s.supply.phases[p].state == .dutyMirror)
  let flags := flagBit x.powerGood + 2 * flagBit x.truncating + 4 * flagBit mirror + 8 * flagBit (!(followers n s).isEmpty) + 16 * flagBit x.tracking.isSome
  (doneWith (result [(0, 1, x.state.code), (1, 1, (modeNumber x.mode).val), (2, 2, x.refMv), (4, 2, x.sensed), (6, 2, satInt 16 x.current),
    (8, 2, railCapacity n s), (10, 2, mask), (12, 2, blockingSource x s), (14, 1, flags)]), s)

/-- RAIL_STATUS (R458). -/
def opRailStatus (r : Running) (s : State) : Ans × State := guarded checkRailStatus effectRailStatus r s

/-- Checks of TRACKING_SET (R433, R459). -/
def checkTrackingSet (r : Running) (s : State) : Option Reject :=
  let x := r.desc
  let f := par x 0 1
  let m := par x 1 1
  let rest (n : Nat) : Bool := (rail (Fin.ofNat 10 n) s).state == .off || (rail (Fin.ofNat 10 n) s).state == .unconfigured
  firstOf [common false [(0, 3), (4, 2)] .none x, badRail f, badRail m, refuseIf (decide (2 < par x 2 1)) (badParam detBadField),
    refuseIf (par x 2 1 != 0 && (f == 0 || m == 0 || f == m || !(followers (Fin.ofNat 10 f) s).isEmpty || (rail (Fin.ofNat 10 m) s).tracking.isSome))
      (badState 0x0707),
    refuseIf (!rest f || !rest m) (badState 0x0703)]

/-- TRACKING_SET past its checks. -/
def effectTrackingSet (r : Running) (s : State) : Ans × State :=
  let x := r.desc
  (doneWith 0, modRail (Fin.ofNat 10 (par x 0 1)) (fun y => { y with
    tracking := if par x 2 1 = 0 then none else some (Fin.ofNat 10 (par x 1 1), par x 2 1, if par x 2 1 = 1 then parInt x 4 2 else 0) }) s)

/-- TRACKING_SET (R459). -/
def opTrackingSet (r : Running) (s : State) : Ans × State := guarded checkTrackingSet effectTrackingSet r s

/-! ## Adaptive core voltage (R450-R453, R460) -/

/-- Checks of CORE_AVS_CONFIGURE (R460). -/
def checkCoreAvsConfigure (r : Running) (_s : State) : Option Reject :=
  let x := r.desc
  firstOf [common false [(0, 10)] .none x, badRail (par x 0 1), refuseIf (par x 0 1 != 0) (badParam detBadField),
    refuseIf (decide (1 < par x 1 1) || badRange 1 20 (par x 6 1) || badRange 1 20 (par x 7 1) || decide (50 < par x 8 2) ||
      badRange 620 800 (par x 2 2) || badRange 620 800 (par x 4 2) || decide (par x 4 2 < par x 2 2)) (badParam detBadField)]

/-- CORE_AVS_CONFIGURE past its checks: applied at the next slow tick. -/
def effectCoreAvsConfigure (r : Running) (s : State) : Ans × State :=
  let x := r.desc
  (doneWith 0, modSupply (fun v => { v with avsNext := some {
    enable := par x 1 1 == 1, vMin := par x 2 2, vMax := par x 4 2, rise := par x 6 1, fall := par x 7 1, aging := par x 8 2 } }) s)

/-- CORE_AVS_CONFIGURE (R460). -/
def opCoreAvsConfigure (r : Running) (s : State) : Ans × State := guarded checkCoreAvsConfigure effectCoreAvsConfigure r s

/-- Index of the least element of the wings' slacks, the lowest wing among equals. -/
def leastWing (s : State) : Fin 16 :=
  (List.finRange 16).foldl (fun a w => if s.eng.wings[w].slack < s.eng.wings[a].slack then w else a) 0

/-- Second-highest of the aging requests in mV (R450). -/
def secondAging (s : State) : Nat :=
  let l := s.thermal.aging.toList
  (l.foldl (fun (p : Nat × Nat) v => if p.1 < v then (v, p.1) else if p.2 < v then (p.1, v) else p) (0, 0)).2

/-- Wing with the highest aging request. -/
def topAging (s : State) : Fin 16 :=
  (List.finRange 16).foldl (fun a w => if s.thermal.aging[a] < s.thermal.aging[w] then w else a) 0

/-- Unit of V_core: 2^-15 mV. -/
def coreUnit : Nat := 32768

/-- V_base (R450). -/
def vBase (s : State) : Nat := (620 * (coreUnit : Int) + (loop 156 s).u1 * 180).toNat

/-- The credit after a slow tick (R451): moved for the least-slack wing, first given up by the wing that holds it. -/
def creditTick (s : State) : Fin 16 × Nat :=
  let v := s.supply
  let w := leastWing s
  let w0 := v.creditedWing
  if w ≠ w0 then (if v.credit ≤ 1 then (w, 0) else (w0, v.credit - 1))
  else
    let slack := s.eng.wings[w].slack
    let t := s.eng.policy.avsSlackTarget
    let need := decide (max (vBase s) (v.vFloor * coreUnit) < s.thermal.aging[w] * coreUnit)
    if slack < t ∨ need = true then (w, min 20 (v.credit + 1))
    else if t + 16 ≤ slack then (w, v.credit - 1)
    else (w, v.credit)

/-- Adaptive voltage at a slow tick (R450-R453). -/
def avsTick (s : State) : State :=
  let s := modSupply (fun v => match v.avsNext with
    | some p => { v with avs := p, avsNext := none, avsEnabled := p.enable && v.coreLoop }
    | none => v) s
  let s := modSupply (fun v => { v with vFloor := if s.thermal.aging.toList.all (· == 0) then 0 else secondAging s + v.avs.aging, topAgingWing := topAging s }) s
  if !s.supply.avsEnabled then s
  else
    let c := creditTick s
    let s := modSupply (fun v => { v with creditedWing := c.1, credit := c.2 }) s
    let v := s.supply
    let want := max (v.avs.vMin * coreUnit) (min (v.avs.vMax * coreUnit) (max (vBase s) (v.vFloor * coreUnit) + v.credit * coreUnit))
    let core := moveTowards v.vCore want (v.avs.rise * coreUnit) (v.avs.fall * coreUnit)
    let limit := decide (v.avs.vMax * coreUnit ≤ core)
    let s := modSupply (fun v => { v with vCore := core, atLimit := limit }) s
    let s := modRail 0 (fun x => { x with ref := core * mvUnit / coreUnit, target := core / coreUnit }) s
    if limit && !v.atLimit then
      postEvent 0x0705 1 0xFFFF (payload 16 [(0, 2, core / coreUnit), (2, 1, c.1.val), (3, 1, c.2)]) s
    else s

/-- A set of sixteen words from a list. -/
def setOf (l : List Int) : Vector Int 16 := Vector.ofFn (fun k => l.getD k.val 0)

/-- The Innkeeper's start-up on the core rail: LP136 takes SUP0 over from the boot regulator's duty and adaptive voltage begins (R445 step 6,
R450, R460). The sets are free values (log entry 29). -/
def startCoreLoop (s : State) : State :=
  if s.supply.coreLoop then s
  else
    let put (l : Nat) (s : State) : State :=
      let c := setOf (Config.coreCoefficients l)
      let z : LoopSlot := { LoopSlot.reset with defined := true, template := 0, setA := c, setB := c }
      modLoop l (fun y => y.setSlot 0 z) s
    let s := put 136 (wireVoltageLoop 0 1 s)
    let s := startLoop 136 (modLoop 136 (fun y => { y with u1 := (rail 0 s).duty }) s)
    let s := put 156 (modLoop 156 (fun y => { y with defined := true, tick := 1, setKind := 10, measKind := 9, sinkKind := 0 }) s)
    let s := startLoop 156 s
    modSupply (fun v => { v with coreLoop := true, avs := { v.avs with enable := true }, avsEnabled := true }) s

/-! ## Boot -/

/-- TIMEBASE_LOCK (R422). -/
def execTimebaseLock (s : State) : Host.Outcome State Fault Refusal := .next (modSupply (fun v => { v with timebaseLocked := true }) s)

/-- BOOT_RETRY (R449): 100 ms after a fault of SUP0 with the core down; at most 8. -/
def execBootRetry (s : State) : Host.Outcome State Fault Refusal :=
  .next (if !s.sys.coreUp && s.supply.bootFault && decide (s.supply.bootRetries.toNat < 8) then
      let s := modSupply (fun v => { v with bootFault := false, bootRetries := v.bootRetries + 1 }) s
      phasesOn 0 (modRail 0 (fun x => { x with state := .softStart, ref := x.sensed * mvUnit, faultBy := [], pgRun := 0, powerGood := false, ovRun := 0, lowTime := 0, limitRun := 0 }) s)
    else s)

end Sys2Proof.Machine
end

