-- ==== Sys2Proof/Machine/Faults.lean ====
section
/-! DEFINITION. The fault collector (11_faults.md): the ladder (R495-R503), the source map (R504, R711), reactions (R505-R511), protected settings
(R513, R514), the first-fault register (R515), records (R516-R519) and the commands of group 0x09 (R520-R524). -/

namespace Sys2Proof.Machine

/-! ## The source map -/

/-- Sources that R504 allocates. -/
def allocated (n : Nat) : Bool :=
  decide (n ≤ 11) || (decide (32 ≤ n) && decide (n ≤ 55)) || (decide (64 ≤ n) && decide (n ≤ 70)) || (decide (96 ≤ n) && decide (n ≤ 145)) ||
  (decide (160 ≤ n) && decide (n ≤ 170)) || (decide (192 ≤ n) && decide (n ≤ 248)) || (decide (256 ≤ n) && decide (n ≤ 317)) ||
  (decide (320 ≤ n) && decide (n ≤ 363)) || (decide (384 ≤ n) && decide (n ≤ 389)) || (decide (480 ≤ n) && decide (n ≤ 511))

/-- Kinds of object that the events of a source may name (R711); none for LODGER_SOURCE, which no check covers. -/
def objectKinds (n : Nat) : List Nat :=
  if n = 0 ∨ (352 ≤ n ∧ n ≤ 361) then [12]
  else if n = 69 then [1, 2]
  else if n = 1 ∨ (64 ≤ n ∧ n ≤ 70) ∨ n = 362 ∨ n = 363 then [1]
  else if n = 2 then [2]
  else if 3 ≤ n ∧ n ≤ 8 then [13]
  else if 32 ≤ n ∧ n ≤ 36 then [8]
  else if 37 ≤ n ∧ n ≤ 54 then [7]
  else if (96 ≤ n ∧ n ≤ 127) ∨ n = 144 ∨ n = 145 then [3]
  else if 128 ≤ n ∧ n ≤ 143 then [4]
  else if 162 ≤ n ∧ n ≤ 166 then [9]
  else if 167 ≤ n ∧ n ≤ 170 then [14]
  else if 192 ≤ n ∧ n ≤ 248 then [10]
  else if 256 ≤ n ∧ n ≤ 285 then [5]
  else if 286 ≤ n ∧ n ≤ 317 then [6]
  else if 320 ≤ n ∧ n ≤ 351 then [11]
  else if 480 ≤ n then []
  else [0]

/-- MUTE acts on a kind of object (R508). -/
def kindMutes (k : Nat) : Bool := [1, 2, 3, 4, 7, 8, 9].contains k

/-- STOP_PORT acts on a kind of object (R508). -/
def kindStops (k : Nat) : Bool := [1, 2, 5, 6, 8, 9, 10, 11].contains k

/-- DEGRADE acts on engines, wings, rails and phases (R505). -/
def kindDegrades (k : Nat) : Bool := [3, 4, 5, 6].contains k

/-- Objects of each kind that exist. -/
def kindSize : Nat → Nat
  | 0 => 1
  | 1 => 128
  | 2 => 8
  | 3 => 256
  | 4 => 16
  | 5 => 10
  | 6 => 16
  | 7 => 18
  | 8 => 5
  | 9 => 5
  | 10 => 192
  | 11 => 32
  | _ => 4096

/-- Kind of an object. -/
def objKind (o : Half) : Nat := o.toNat / 4096

/-- Index of an object. -/
def objIndex (o : Half) : Nat := o.toNat % 4096

/-- The object exists (R711). -/
def objExists (o : Half) : Bool := decide (objIndex o < kindSize (objKind o))

/-- Port whose receive stream a lane carries; none for the survey's lanes (R123). -/
def lanePort (l : Nat) : Option (Fin 8) := if l < 16 then some (Fin.ofNat 8 (l / 4 + (if l % 4 < 2 then 0 else 4))) else none

/-- Directions that use a port mapped to a synthesiser. -/
def onSynth (n : Nat) (e : Fin 64 × Dir) (s : State) : Bool :=
  let df := dirDef e.1 e.2 s
  let is (l : Option (Fin 5)) : Bool := match l with
    | some k => k.val == n
    | none => false
  (df.rxPorts e.2).any (fun p => is (rxLo p s)) || (df.txPorts e.2).any (fun p => is (txLo p s))

/-- Directions that MUTE mutes for an object (R508). -/
def mutedBy (o : Half) (s : State) : List (Fin 64 × Dir) :=
  let i := objIndex o
  let segs (e : Fin 64 × Dir) (p : Fin 256 → Bool) : Bool := s.eng.asgs[asgOf e.1 e.2].segs.any (fun g => g.engine.any p)
  let rx (e : Fin 64 × Dir) (p : Fin 8 → Bool) : Bool := ((dirDef e.1 e.2 s).rxPorts e.2).any p
  if !objExists o then []
  else match objKind o with
    | 1 => (liveDirs s).filter (fun e => dirIndex e.1 e.2 == i)
    | 2 => transmitters (Fin.ofNat 8 i) s
    | 3 => (liveDirs s).filter (fun e => segs e (fun x => x.val == i))
    | 4 => (liveDirs s).filter (fun e => segs e (fun x => (wingOf x).val == i))
    | 7 => match lanePort i with
      | some p => receivers p s
      | none => []
    | 8 => (liveDirs s).filter (fun e => rx e (fun p => p.val % 4 == i))
    | 9 => (liveDirs s).filter (fun e => onSynth i e s)
    | _ => []

/-- Ports that STOP_PORT stops for an object (R508). -/
def stoppedBy (o : Half) (s : State) : List (Fin 8) :=
  let i := objIndex o
  let ports (p : Fin 8 → Bool) : List (Fin 8) := (List.finRange 8).filter p
  let railPorts (r : Fin 10) : List (Fin 8) := ports (fun p => (rail r s).plan.portMask.getLsbD p.val)
  let isLo (l : Option (Fin 5)) : Bool := match l with
    | some k => k.val == i
    | none => false
  if !objExists o then []
  else match objKind o with
    | 1 => ((liveDirs s).filter (fun e => dirIndex e.1 e.2 == i)).flatMap (fun e => (dirDef e.1 e.2 s).txPorts e.2)
    | 2 => [Fin.ofNat 8 i]
    | 5 => railPorts (Fin.ofNat 10 i)
    | 6 => match phaseRail (Fin.ofNat 16 i) s with
      | some r => railPorts r
      | none => []
    | 8 => ports (fun p => p.val % 4 == i)
    | 9 => ports (fun p => isLo (txLo p s) || isLo (rxLo p s))
    | 10 => if 136 ≤ i ∧ i < 156 then railPorts (Fin.ofNat 10 ((i - 136) % 10)) else if i = 156 then railPorts 0 else []
    | 11 => if 24 ≤ i then ports (fun p => (nth s.thermal.maps (i - 24) ThermistorMap.reset).ports.getLsbD p.val) else []
    | _ => []

/-! ## Actions -/

/-- Action bits of R505. -/
def actLog : Nat := 1
/-- See R505. -/
def actInterrupt : Nat := 2
/-- See R505. -/
def actDegrade : Nat := 4
/-- See R505. -/
def actMute : Nat := 8
/-- See R505. -/
def actStop : Nat := 16
/-- See R505. -/
def actHandover : Nat := 32
/-- See R505. -/
def actOrderly : Nat := 64

/-- A mask holds an action. -/
def ordersAct (mask act : Nat) : Bool := mask &&& act != 0

/-- Object of a direction, of a port. -/
def dirObj (e : Fin 64 × Dir) : Half := BitVec.ofNat 16 (dirObject e.1 e.2)
/-- See dirObj. -/
def portObj (p : Fin 8) : Half := BitVec.ofNat 16 (object 2 p.val)

/-- DEGRADE: work moves off an engine or a wing, the wing gets its spare back; rails and phases report their capacity of themselves (R441). -/
def degrade (o : Half) (s : State) : State :=
  let spare (w : Fin 16) (s : State) : State := if s.eng.policy.respare then respareWing w s else s
  if !objExists o then s
  else match objKind o with
    | 3 => spare (wingOf (Fin.ofNat 256 (objIndex o))) (relieve (Fin.ofNat 256 (objIndex o)) s)
    | 4 => spare (Fin.ofNat 16 (objIndex o)) (relieveWing (Fin.ofNat 16 (objIndex o)) s)
    | _ => s

/-- MUTE for a source: its directions muted for FAULT_REACTION and held (R505, R509). -/
def muteFor (n : Nat) (o : Half) (s : State) : State :=
  let ds := mutedBy o s
  let s := ds.foldl (fun s e => addMute e.1 e.2 reasonFault { source := n } s) s
  modFault n (fun f => { f with heldMute := (f.heldMute ++ ds.map dirObj).eraseDups }) s

/-- STOP_PORT for a source. -/
def stopFor (n : Nat) (o : Half) (s : State) : State :=
  let ps := stoppedBy o s
  let s := ps.foldl (fun s p => stopPort p reasonFault { source := n } s) s
  modFault n (fun f => { f with heldStop := (f.heldStop ++ ps.map portObj).eraseDups }) s

/-- Part of an ordered mask that is carried out for an object (R508, R510, R711): ORDERLY_STOP gives way to a hand-over of the same mask. -/
def carriedOut (mask : Nat) (o : Half) (s : State) : Nat :=
  let hand := ordersAct mask actHandover && handoverReady s
  (mask &&& (actLog + actInterrupt)) +
    (if ordersAct mask actDegrade && kindDegrades (objKind o) then actDegrade else 0) +
    (if ordersAct mask actMute && kindMutes (objKind o) && objExists o then actMute else 0) +
    (if ordersAct mask actStop && kindStops (objKind o) && objExists o then actStop else 0) +
    (if hand then actHandover else 0) + (if ordersAct mask actOrderly && !hand then actOrderly else 0)

/-- The actions of a mask mute a direction or stop a port, so that the device's output changes (R505, R637). -/
def changesOutput (o : Half) (done : Nat) (s : State) : Bool :=
  (ordersAct done actMute && !(mutedBy o s).isEmpty) || (ordersAct done actStop && !(stoppedBy o s).isEmpty)

/-- The actions of a mask but ORDERLY_STOP carried out for an object (R506, R507); a standby whose output they change leaves lockstep (R637). -/
def actFor (n : Nat) (o : Half) (done : Nat) (s : State) : State :=
  let s := if changesOutput o done s then outputChanged n s else s
  let s := if ordersAct done actInterrupt then
      { s with faults := { s.faults with alarm := true }, compat := { s.compat with alarmFault := s.compat.alarmFault || s.sys.mode == .compat } }
    else s
  let s := if ordersAct done actDegrade then modFault n (fun f => { f with degraded := (f.degraded ++ [o]).eraseDups }) (degrade o s) else s
  let s := if ordersAct done actMute then muteFor n o s else s
  let s := if ordersAct done actStop then stopFor n o s else s
  if ordersAct done actHandover then beginHandover 1 none s else s

/-- Mask of the state a source enters; SEVERE from below MINOR takes MINOR's actions too (R506). -/
def entryMask (f : FaultSrc) (old new : Nat) : Nat :=
  let m (k : Nat) : Nat := (nth f.masks (k - 1) 0).toNat
  if new = 3 ∧ old < 2 then m 3 ||| m 2 else m new

/-- Actions that run again for an event that changes no state: LOG, and those that have not yet reached the object (R502, R506). -/
def repeatMask (f : FaultSrc) (o : Half) (s : State) : Nat :=
  let m := if f.state = .parked then 0 else (nth f.masks (f.state.code - 1) 0).toNat
  let mute := (mutedBy o s).any (fun e => !f.heldMute.contains (dirObj e))
  let stop := (stoppedBy o s).any (fun p => !f.heldStop.contains (portObj p))
  let fresh := (objKind o == 3 || objKind o == 6) && !f.degraded.contains o
  actLog + (if ordersAct m actMute && mute then actMute else 0) + (if ordersAct m actStop && stop then actStop else 0) +
    (if ordersAct m actDegrade && fresh then actDegrade else 0)

/-! ## Records -/

/-- Counts within W1 and W2 at the present tick, saturating at 255 (R517, R521). -/
def windowCounts (n : Nat) (s : State) : Nat × Nat :=
  let f := faultSrc n s
  (min 255 (windowCount f.par.w1 (faultTick s) f.subs1), min 255 (windowCount f.par.w2 (faultTick s) f.subs2))

/-- A collector's record (R517, R518) with its FAULT_STATE event when one is posted (R519). -/
def faultEntry (n kind old new ordered executed : Nat) (o : Half) (detail : Dword) (simul post : Bool) (s : State) : GbEntry :=
  let c := windowCounts n s
  let bytes := payload 24 [(0, 2, o.toNat), (2, 1, old), (3, 1, new), (4, 1, ordered), (5, 1, executed), (6, 1, c.1), (7, 1, c.2),
    (8, 4, (frameCount s).toNat), (12, 1, (recentRecoveries (faultTick s) (faultSrc n s).recoveries).length), (16, 8, detail.toNat)]
  { cls := 2, severity := new, source := BitVec.ofNat 16 n, code := BitVec.ofNat 16 kind, simul := simul, late := false, payload := bytes,
    timeUs := opTime s, events := if post then [eventAt s 0x0901 new n (bytes.take 16)] else [] }

/-! ## The end of a fault state -/

/-- The persistent actions of a source end where no other source holds them (R509). -/
def endActions (n : Nat) (s : State) : State :=
  let f := faultSrc n s
  let s := modFault n (fun f => { f with heldMute := [], heldStop := [], degraded := [] }) s
  let s := f.heldMute.foldl (fun s o =>
    let i := objIndex o
    endFaultMute (Fin.ofNat 64 (i / 2)) (if i % 2 = 1 then .ul else .dl) s) s
  f.heldStop.foldl (fun s o =>
    if s.faults.srcs.toList.any (fun x => x.heldStop.contains o) then s else releasePort (Fin.ofNat 8 (objIndex o)) reasonFault { source := n } s) s

/-- A source is CLEAR: its actions end, what its state held back goes on: a rail group (R436), a phase (R443), a stopped device (R571). -/
def enterClear (n : Nat) (s : State) : State :=
  let s := phaseFaultExit n (railFaultExit n (endActions n (modFault n (fun f => { f with state := .clear }) s)))
  if s.sys.stopReason = 3 ∧ s.sys.stopSource = some (Fin.ofNat 512 n) then autoRestart s else s

/-- The PARKED set in retention memory and the calibration store (R503, R579). -/
def setParked (n : Fin 512) (on : Bool) (s : State) : State :=
  let l := s.sys.npt.parkedSet.filter (· != n)
  { s with sys := { s.sys with npt := { s.sys.npt with parkedSet := if on then l ++ [n] else l } } }

/-- Parameters that apply from a fault tick (R523). -/
def takeParams (n : Fin 512) (s : State) : State :=
  match (faultSrc n.val s).newPar with
  | some (p, due) =>
    if faultTick s < due then s
    else modFault n.val (fun f => { f with
      par := p, newPar := none, subs1 := if p.w1 = f.par.w1 then f.subs1 else [], subs2 := if p.w2 = f.par.w2 then f.subs2 else [],
      lastTick := if p.quiet = f.par.quiet then f.lastTick else due }) s
  | none => s

/-- A release at the fault tick (R502): the record to write, and the source CLEAR with its windows and history empty. -/
def releaseSource (n : Fin 512) (simul : Bool) (s : State) : List GbEntry × State :=
  let f := faultSrc n.val s
  if f.releaseDue = false ∨ f.state ≠ .parked then ([], modFault n.val (fun f => { f with releaseDue := false }) s)
  else
    let e := faultEntry n.val 5 4 0 0 0 f.lastObj f.lastDetail simul false s
    let s := modFault n.val (fun f => { f with releaseDue := false, subs1 := [], subs2 := [], recoveries := [] }) s
    ([e], enterClear n.val (setParked n false s))

/-- Releases and parameters whose fault tick has come, before the tick's events: the records of the releases, and the state. -/
def settleFaults (simul : Bool) (s : State) : List GbEntry × State :=
  let s := s.faults.due.foldl (fun s n => takeParams n s) s
  let r := s.faults.due.foldl (fun (v : List GbEntry × State) n => let w := releaseSource n simul v.2; (v.1 ++ w.1, w.2)) ([], s)
  let s := r.2
  (r.1, { s with faults := { s.faults with due := s.faults.due.filter (fun n => (faultSrc n.val s).newPar.isSome) } })

/-- settleFaults at a tick without events. -/
def settleDue (s : State) : State :=
  if s.faults.due.isEmpty then s
  else
    let n := (s.faults.due.filter (fun n => (faultSrc n.val s).releaseDue)).length
    let r := settleFaults (decide (2 ≤ n)) s
    r.1.foldl (fun s e => gbCollector e s) r.2

/-! ## A fault tick -/

/-- Count of a fault tick (R495). -/
def tickCount (k : Nat) : Nat := ceilDiv (768 * k) 25

/-- A source as a tick's events move it: number, state before and after, its events. -/
structure Moved where
  src : Fin 512
  old : Nat
  new : Nat
  events : List FaultEvt

/-- The events of one source counted and its state moved (R496, R499). -/
def moveSource (evs : List FaultEvt) (n : Fin 512) (s : State) : Moved × State :=
  let mine := evs.filter (fun e => e.src == n)
  let old := faultSrc n.val s
  let t := faultTick s
  let f := mine.foldl (fun f e => f.countEvent t (frameCount s) e) old
  let f := { f with state := f.climb t, degraded := if f.climb t = old.state then f.degraded else [] }
  ({ src := n, old := old.state.code, new := f.state.code, events := mine }, modFault n.val (fun _ => f) s)

/-- The first-fault register (R515). -/
def latchFirst (moved : List Moved) (s : State) : State :=
  let hot := moved.filter (fun m => m.new != m.old && (m.new == 2 || m.new == 3))
  match hot with
  | [] => s
  | m :: _ =>
    if s.faults.firstValid then s
    else { s with faults := { s.faults with
      firstValid := true, simul := s.faults.simul || decide (2 ≤ hot.length), firstSource := m.src, firstState := BitVec.ofNat 3 m.new,
      firstOthers := BitVec.ofNat 16 (hot.length - 1), firstCount := frameCount s, firstSeqDue := true } }

/-- One event of a source: its actions, and its record in the order of the tick (R506, R516). -/
def reactTo (m : Moved) (simul first : Bool) (e : FaultEvt) (s : State) : State :=
  let n := m.src.val
  let raised := first && m.new != m.old
  let mask := if raised then entryMask (faultSrc n s) m.old m.new else repeatMask (faultSrc n s) e.obj s
  let done := carriedOut mask e.obj s
  let s := actFor n e.obj done s
  gbCollector (faultEntry n (if raised then 2 else 1) (if raised then m.old else m.new) m.new mask done e.obj e.detail simul (raised && ordersAct done actInterrupt) s) s

/-- The sources of a tick in the order of their new state, highest first, then by number (R507, R516). -/
def tickOrder (l : List Moved) : List Moved := sortBy (fun a b => decide (b.new < a.new) || (a.new == b.new && decide (a.src.val ≤ b.src.val))) l

/-- The event of the tick whose mask orders ORDERLY_STOP, if one is carried out (R507). -/
def stopOrder (l : List Moved) (s : State) : Option (Fin 512) :=
  (l.find? (fun m => m.new != m.old &&
    (match m.events with
     | e :: _ => ordersAct (carriedOut (entryMask (faultSrc m.src.val s) m.old m.new) e.obj s) actOrderly
     | [] => false))).map (·.src)

/-- The events of one fault tick (R496-R507, R515, R516). -/
def runTick (evs : List FaultEvt) (s : State) : State :=
  let srcs := (evs.map (·.src)).eraseDups
  let releases := (s.faults.due.filter (fun n => (faultSrc n.val s).releaseDue)).filter (fun n => !srcs.contains n)
  let simul := decide (2 ≤ srcs.length + releases.length)
  let r := settleFaults simul s
  let m := srcs.foldl (fun (v : List Moved × State) n => let w := moveSource evs n v.2; (v.1 ++ [w.1], w.2)) ([], r.2)
  let order := tickOrder m.1
  let s := latchFirst order m.2
  let stop := stopOrder order s
  let s := order.foldl (fun s v => (v.events.zipIdx).foldl (fun s e => reactTo v simul (e.2 == 0) e.1 s) s) s
  let s := r.1.foldl (fun s e => gbCollector e s) s
  match stop with
  | some n => orderlyStop 3 (some n) deviceWriter s
  | none => s

/-- A FLASH_ERROR that reaches the collector from outside came of an access that no command of the model makes; whether it was the Guestbook's, which
GBK_STATUS keeps, is a free value (R504, R560, log entry 182). -/
def noteFlash (external : List FaultEvt) (s : State) : State :=
  if external.any (fun e => e.src == 9) then
    let n := takeFree s
    { n.2 with gb := { n.2.gb with flashFault := n.2.gb.flashFault || (Config.freeValue n.1).getLsbD 0 } }
  else s

/-- FAULT_EVENT (R496, R499): the events raised since the last fault tick, and those that reach the collector from outside, are counted at the next
fault tick. Events of numbers that R504 does not allocate are none. -/
def execFaultEvent (external : List FaultEvt) (s : State) : Host.Outcome State Fault Refusal :=
  let evs := (s.faults.inbox ++ external).filter (fun e => allocated e.src.val)
  .next (if evs.isEmpty || !s.sys.coreUp then s
    else
      let s := noteFlash external (advanceTo (tickCount (faultTick s + 1)) s)
      runTick evs { s with faults := { s.faults with inbox := [] } })

/-- Recoveries of the last 24 h once a source recovers now; a return from NOTICE is none (R500, R501). -/
def recoveriesWith (n : Nat) (s : State) : List Nat :=
  let f := faultSrc n s
  if f.state = .notice then f.recoveries else recentRecoveries (faultTick s) (f.recoveries ++ [faultTick s])

/-- The recovery that a source makes now reaches its limit: it parks (R501). -/
def parks (n : Nat) (s : State) : Bool :=
  let f := faultSrc n s
  f.state != .notice && f.par.limit != 0 && decide (f.par.limit ≤ (recoveriesWith n s).length)

/-- A source leaves its fault state after its quiet period (R500, R501, R518, R519). -/
def recover (simul : Bool) (n : Fin 512) (s : State) : State :=
  let f := faultSrc n.val s
  let old := f.state.code
  let post := ordersAct (nth f.masks (old - 1) 0).toNat actInterrupt
  let full := parks n.val s
  let hist := recoveriesWith n.val s
  let s := modFault n.val (fun f => { f with recoveries := hist }) s
  if full then
    let s := setParked n true (modFault n.val (fun f => { f with state := .parked }) s)
    gbCollector (faultEntry n.val 4 old 4 0 0 f.lastObj f.lastDetail simul post s) s
  else
    let e := faultEntry n.val (if old = 1 then 6 else 3) old 0 0 0 f.lastObj f.lastDetail simul post s
    enterClear n.val (gbCollector e s)

/-- Fault tick in which a source's quiet period has passed (R500). -/
def FaultSrc.quietTick (f : FaultSrc) : Nat := f.lastTick + 1000 * f.par.quiet

/-- A source is in a fault state that ends by itself and no event of it is on its way: one that arrives in the tick is on time (R43, R500). -/
def quietens (n : Fin 512) (s : State) : Bool :=
  let f := faultSrc n.val s
  f.state != .clear && f.state != .parked && !s.faults.inbox.any (fun e => e.src == n)

/-- Sources whose quiet periods end in one fault tick, in the order of their records: those that park, then by number (R516). -/
def quietGroup (t : Nat) (s : State) : List (Fin 512) :=
  let l := (List.finRange 512).filter (fun n => quietens n s && (faultSrc n.val s).quietTick == t)
  l.filter (fun n => parks n.val s) ++ l.filter (fun n => !parks n.val s)

/-- FAULT_QUIET_EXPIRY (R500, R516): the first fault tick in which a source's quiet period has passed without an event, for every source of which it is
that tick. -/
def execFaultQuietExpiry (src : Fin 512) (s : State) : Host.Outcome State Fault Refusal :=
  .next (
    let s := settleDue s
    if !s.sys.coreUp || !quietens src s then s
    else
      let t := (faultSrc src.val s).quietTick
      let s := settleDue (advanceTo (tickCount t) s)
      let l := quietGroup t s
      l.foldl (fun s n => recover (decide (2 ≤ l.length)) n s) s)

/-- FIRST_FAULT_CLEAR (R515, R525): the write-one-to-clear bits of FLT_STATUS. -/
def execFirstFaultClear (value : Word) (s : State) : Host.Outcome State Fault Refusal :=
  .next (if !s.sys.coreUp then s
    else { s with faults := { s.faults with
      firstValid := s.faults.firstValid && !value.getLsbD 0, alarm := s.faults.alarm && !value.getLsbD 1, simul := s.faults.simul && !value.getLsbD 2 } })

/-! ## Commands -/

/-- Source field of a command of the group (R520). -/
def badFaultSource (n : Nat) : Option Reject := refuseIf (decide (511 < n) || !allocated n) (badParam 0x0901)

/-- Lodgers name FS480-FS511 only (R513). -/
def lodgerOnly (r : Running) (n : Nat) : Option Reject :=
  let w := writerOf r.desc.ring.val
  refuseIf (decide (1 ≤ w) && decide (w ≤ 4) && decide (n < 480)) (badParam 0x0905)

/-- A source's persistent actions (R521). -/
def heldMask (f : FaultSrc) : Nat := (if f.heldMute.isEmpty then 0 else actMute) + (if f.heldStop.isEmpty then 0 else actStop)

/-- Checks of FAULT_STATUS (R521). -/
def checkFaultStatus (r : Running) (_s : State) : Option Reject :=
  let x := r.desc
  let scope := par x 2 1
  firstOf [common false [(0, 2), (2, 1)] .own x, refuseIf (decide (1 < scope)) (badParam detBadField),
    refuseIf (!(if scope = 0 then LenRule.optional 256 else LenRule.none).fits x.dataLen.toNat) (badParam detBadLength),
    if scope = 1 then badFaultSource (par x 0 2) else none]

/-- Sources in a state. -/
def countSources (v : FaultState) (s : State) : Nat := (s.faults.srcs.toList.filter (fun f => f.state == v)).length

/-- FAULT_STATUS past its checks. -/
def effectFaultStatus (r : Running) (s : State) : Ans × State :=
  let v := s.faults
  if par r.desc 2 1 = 0 then
    let res := result [(0, 2, if v.firstValid then v.firstSource.val else 0xFFFF), (2, 1, if v.firstValid then v.firstState.toNat else 0),
      (4, 2, countSources .notice s), (6, 2, countSources .minor s), (8, 2, countSources .severe s), (10, 2, countSources .parked s),
      (12, 4, v.firstCount.toNat)]
    let nib (n : Nat) : Nat := (faultSrc n s).state.code + (if heldMask (faultSrc n s) = 0 then 0 else 8)
    if r.desc.dataLen.toNat = 256 then (doneData res ((List.range 256).map (fun k => BitVec.ofNat 8 (nib (2 * k) + 16 * nib (2 * k + 1)))), s)
    else (doneWith res, s)
  else
    let n := par r.desc 0 2
    let f := faultSrc n s
    let c := windowCounts n s
    (doneWith (result [(0, 2, f.state.code), (2, 1, f.par.ceiling), (3, 1, (recentRecoveries (faultTick s) f.recoveries).length), (4, 1, c.1), (5, 1, c.2),
      (6, 2, heldMask f), (8, 2, f.events.toNat), (12, 4, f.lastCount.toNat)]), s)

/-- FAULT_STATUS (R521). -/
def opFaultStatus (r : Running) (s : State) : Ans × State := guarded checkFaultStatus effectFaultStatus r s

/-- An action of the masks that the objects of a source do not take, or a reserved bit (R508, R520, R711). -/
def badReaction (n : Nat) (masks : List Nat) : Bool :=
  let any (a : Nat) : Bool := masks.any (fun m => ordersAct m a)
  any 128 || (any actMute && (objectKinds n).any (fun k => !kindMutes k)) || (any actStop && (objectKinds n).any (fun k => !kindStops k))

/-- The masks of a REACTION_SET. -/
def reactionMasks (x : Desc) : List Nat := [par x 2 1, par x 3 1, par x 4 1]

/-- Checks of REACTION_SET (R513, R520, R522). -/
def checkReactionSet (r : Running) (_s : State) : Option Reject :=
  let x := r.desc
  let n := par x 0 2
  let w := writerOf x.ring.val
  firstOf [common false [(0, 2), (2, 1), (3, 1), (4, 1)] .none x, badFaultSource n, lodgerOnly r n,
    refuseIf (badReaction n (reactionMasks x)) (badParam 0x0902),
    refuseIf (decide (1 ≤ w) && decide (w ≤ 4) && (reactionMasks x).any (fun m => ordersAct m (actHandover + actOrderly))) (badParam 0x0905)]

/-- Actions of a state that stay set whoever writes (R514). -/
def floorMask (n state : Nat) : Nat :=
  let kept := n == 3 || n == 10 || n == 388 || n == 67 || n == 70 || (decide (256 ≤ n) && decide (n ≤ 275))
  actLog ||| (if state = 3 then actInterrupt else 0) ||| (if kept then (nth (FaultSrc.defaults n).2 (state - 1) 0).toNat else 0)

/-- REACTION_SET past its checks: floor actions are put back and reported. -/
def effectReactionSet (r : Running) (s : State) : Ans × State :=
  let n := par r.desc 0 2
  let given (k : Nat) : Nat := par r.desc (1 + k) 1
  let applied (k : Nat) : Nat := given k ||| floorMask n k
  let back (k : Nat) : Nat := applied k - given k
  (doneWith (result [(0, 1, applied 1), (1, 1, applied 2), (2, 1, applied 3), (3, 1, (back 1 ||| back 2 ||| back 3 : Nat))]),
    modFault n (fun f => { f with masks := #v[BitVec.ofNat 8 (applied 1), BitVec.ofNat 8 (applied 2), BitVec.ofNat 8 (applied 3)] }) s)

/-- REACTION_SET (R522). -/
def opReactionSet (r : Running) (s : State) : Ans × State := guarded checkReactionSet effectReactionSet r s

/-- Parameters of a FAULT_PARAMS_SET (R523). -/
def faultParamsOf (x : Desc) : FaultParams :=
  { ceiling := par x 2 1, n1 := par x 3 1, n2 := par x 4 1, w1 := par x 8 4, w2 := par x 12 4, quiet := par x 16 4, limit := par x 20 1 }

/-- Checks of FAULT_PARAMS_SET (R513, R514, R520, R523). -/
def checkFaultParamsSet (r : Running) (_s : State) : Option Reject :=
  let x := r.desc
  let n := par x 0 2
  let p := faultParamsOf x
  firstOf [common false [(0, 2), (2, 1), (3, 1), (4, 1), (8, 4), (12, 4), (16, 4), (20, 1)] .none x, badFaultSource n, lodgerOnly r n,
    refuseIf (outside 1 3 p.ceiling || p.n1 == 0 || decide (p.n2 < p.n1) || outside 1 86400000 p.w1 || outside 1 86400000 p.w2 ||
      outside 10 86400000 p.quiet || decide (15 < p.limit)) (badParam 0x0903),
    refuseIf (decide (256 ≤ n) && decide (n ≤ 275) && (decide (p.quiet < 100) || outside 1 8 p.limit)) (badParam 0x0905)]

/-- FAULT_PARAMS_SET past its checks. -/
def effectFaultParamsSet (r : Running) (s : State) : Ans × State :=
  let n := par r.desc 0 2
  let s := modFault n (fun f => { f with newPar := some (faultParamsOf r.desc, faultTick s + 2) }) s
  (doneWith 0, { s with faults := { s.faults with due := s.faults.due.filter (· != Fin.ofNat 512 n) ++ [Fin.ofNat 512 n] } })

/-- FAULT_PARAMS_SET (R523). -/
def opFaultParamsSet (r : Running) (s : State) : Ans × State := guarded checkFaultParamsSet effectFaultParamsSet r s

/-- Checks of FAULT_RELEASE (R513, R520, R524). -/
def checkFaultRelease (r : Running) (s : State) : Option Reject :=
  let n := par r.desc 0 2
  firstOf [common false [(0, 2)] .none r.desc,
    if n = 0xFFFF then none
    else firstOf [badFaultSource n, lodgerOnly r n, refuseIf ((faultSrc n s).state != .parked) (badState 0x0904)]]

/-- Sources a FAULT_RELEASE releases. -/
def releasedSources (r : Running) (s : State) : List (Fin 512) :=
  let n := par r.desc 0 2
  if n = 0xFFFF then (List.finRange 512).filter (fun k => (faultSrc k.val s).state == .parked && (lodgerOnly r k.val).isNone) else [Fin.ofNat 512 n]

/-- FAULT_RELEASE past its checks: the release takes effect at the next fault tick (R502). -/
def effectFaultRelease (r : Running) (s : State) : Ans × State :=
  let l := releasedSources r s
  let s' := l.foldl (fun s n => modFault n.val (fun f => { f with releaseDue := true }) s) s
  (doneWith (result [(0, 2, l.length)]), { s' with faults := { s'.faults with due := s'.faults.due.filter (fun n => !l.contains n) ++ l } })

/-- FAULT_RELEASE (R524). -/
def opFaultRelease (r : Running) (s : State) : Ans × State := guarded checkFaultRelease effectFaultRelease r s

end Sys2Proof.Machine
end

