-- ==== Sys2Proof/Machine/Thermal.lean ====
section
/-! DEFINITION. Thermal management and service life (10_thermal_and_service_life.md): sensors and their estimates (R463-R465, R474-R477), thresholds
(R466-R468), the proportional throttle (R469-R473), stops (R478, R479), life counters (R484-R487), the commands of group 0x08. -/

namespace Sys2Proof.Machine

/-! ## Exponentials in fixed point -/

/-- ln 2 in units of 2^-96. -/
def lnTwo : Int := 54916777467707473351141471128

/-- Terms of the exponential series of r (2^-96 units), from the k-th term t on. -/
def expTerms (r : Int) : Nat → Int → Nat → Int
  | 0, _, _ => 0
  | f + 1, t, k => t + expTerms r f (t * r / ((k + 1 : Nat) * (2 ^ 96 : Nat))) (k + 1)

/-- 2^48 × exp(num / den), rounded down (log entry 39). -/
def expFix (num : Int) (den : Nat) : Nat :=
  let x := num * (2 ^ 96 : Nat) / den
  let k := (x + lnTwo / 2) / lnTwo
  let v := expTerms (x - k * lnTwo) 40 (2 ^ 96 : Nat) 0
  (if 0 ≤ k then v * (2 ^ k.toNat : Nat) / (2 ^ 48 : Nat) else v / (2 ^ (48 + (-k).toNat) : Nat)).toNat

/-- Arrhenius factor of R485 in 2^-20, for a temperature in 1/64 °C, to the nearest: 8123 K × (1 / 358.15 K − 1 / T) on temperatures in 1/6400 K. -/
def arrhenius (t : Int) : Nat :=
  let k := (100 * t + 1748160).toNat
  if k = 0 then 0 else (expFix (51987200 * ((k : Int) - 2292160)) (2292160 * k) + 2 ^ 27) / 2 ^ 28

/-- Temperature in 1/64 °C, to the nearest, of an external input by the β model (R464): ratio is the thermistor's share of the divider in 10^-6
(log entry 40). -/
def betaTemp (m : ThermistorMap) (ratio : Nat) : Int :=
  let atLeast (t : Int) : Bool :=
    -- the model's resistance half a step below t is not under the one measured
    let k := (100 * (2 * t - 1) + 3496320).toNat
    if k = 0 then true
    else decide (m.pullUp.toNat * ratio * 2 ^ 48 ≤
      m.r25.toNat * expFix ((m.beta : Int) * 12800 * (3816320 - (k : Int))) (k * 3816320) * (1000000 - ratio))
  searchUp atLeast 14 (-4096)

/-! ## Samples -/

/-- Change of the thermal block. -/
def modThermal (f : Thermal → Thermal) (s : State) : State := { s with thermal := f s.thermal }

/-- Sensor n: 0-23 TS0-TS23, 24-31 XT0-XT7. -/
def sensor (n : Nat) (s : State) : Sensor := nth s.thermal.sensors n (Sensor.reset 0)

/-- Change of a sensor. -/
def modSensor (n : Nat) (f : Sensor → Sensor) (s : State) : State := modThermal (fun x => { x with sensors := upd x.sensors n f }) s

/-- The model's numbers of the causes of a failure (R474): range, open, short, step, model; the code an event carries is open (log entry 43). -/
def causeRange : Nat := 0
/-- See causeRange. -/
def causeOpen : Nat := 1
/-- See causeRange. -/
def causeShort : Nat := 2
/-- See causeRange. -/
def causeStep : Nat := 3
/-- See causeRange. -/
def causeModel : Nat := 4

/-- Reading of a sensor in a sample, and the cause that fails it by itself: an open or short input (R464), a reading at or beyond the end of its
range, as the manual's example has -55 °C (R463, R474, log entry 41), or a move of more than 8 °C. -/
def readSensor (m : SlowMeas) (n : Nat) (s : State) : Int × Option Nat :=
  let x := sensor n s
  let ratio := nth m.ratios (n - 24) 0
  let v := if n < 24 then nth m.temps n 0 else betaTemp (nth s.thermal.maps (n - 24) ThermistorMap.reset) ratio
  let low : Int := if n < 24 then -3520 else -2560
  let cause :=
    if 24 ≤ n ∧ 980000 < ratio then some causeOpen
    else if 24 ≤ n ∧ ratio < 20000 then some causeShort
    else if v ≤ low ∨ 9600 ≤ v then some causeRange
    else if x.sampled ∧ (v < x.reading - 512 ∨ x.reading + 512 < v) then some causeStep
    else none
  (if 24 ≤ n ∧ (980000 < ratio ∨ ratio < 20000) then x.reading else v, cause)

/-- Wings orthogonally adjacent to a wing in the 4 × 4 grid (R463). -/
def neighbourWings (w : Nat) : List Nat :=
  (List.range 16).filter (fun v =>
    (v / 4 == w / 4 && (v + 1 == w || w + 1 == v)) || (v % 4 == w % 4 && (v + 4 == w || w + 4 == v)))

/-- The largest of a list. -/
def largest : List Int → Option Int
  | [] => none
  | x :: rest => some (rest.foldl max x)

/-- Model estimate of a sensor from the valid readings of a sample (R475): θ_lat in 0.01 °C/W times a difference of powers in 0.45 nW, to the nearest
1/64 °C. -/
def estimateOf (read : Nat → Int) (valid : Nat → Bool) (n : Nat) (s : State) : Option Int :=
  let p (w : Nat) : Int := ((nth s.thermal.power w 0 : Nat) : Int)
  if n < 16 then
    largest (((neighbourWings n).filter valid).map (fun v => read v + roundDiv (64 * 45 * (s.thermal.lateral : Int) * (p n - p v)) (10 ^ 13)))
  else if n < 24 then largest (((List.range 16).filter valid).map read)
  else
    let mask (k : Nat) : Byte := (nth s.thermal.maps (k - 24) ThermistorMap.reset).ports
    largest ((((List.range 8).map (24 + ·)).filter (fun k => k != n && valid k && (mask k &&& mask n) != 0)).map read)

/-- A run of samples that meet a condition. -/
def runOf (b : Bool) (n : Nat) : Nat := if b then n + 1 else 0

/-- One sample of a sensor (R466, R469, R474, R476, R477). -/
def Sensor.sample (x : Sensor) (v : Int) (cause : Option Nat) (est : Option Int) : Sensor :=
  let far := match est with
    | some e => decide (v < e - 960) || decide (e + 960 < v)
    | none => false
  let far := far && cause != some causeOpen && cause != some causeShort
  let bad := runOf far x.estimateBad
  let cause := if cause.isSome then cause else if 4 ≤ bad then some causeModel else none
  let failed := x.failed || cause.isSome
  let fails := !x.failed && cause.isSome
  let sub := match est with
    | some e => max x.lastValid e
    | none => x.lastValid
  let use := if failed then sub else v
  let near := decide (sub - 192 ≤ v) && decide (v ≤ sub + 192)
  let tUse := if use < x.tUse - 16 ∨ x.tUse + 16 < use then use else x.tUse
  let target : Nat := min (x.par.slope * (tUse - x.par.start).toNat) (64 * x.par.maximum)
  let floor := if fails then x.theta else x.floor
  let target := if failed then max target floor else target
  let theta := if x.theta < target then min target (x.theta + 320) else max target (x.theta - 320)
  let stopAt := if failed then use + 320 else use
  let drop : Int := 16 * x.par.hyst
  { x with
    sampled := true, reading := v, lastValid := if failed then x.lastValid else v, failed := failed, cause := if fails then cause.getD 0 else x.cause,
    estimateBad := bad, plausible := if x.failed then runOf (cause.isNone && !far && near) x.plausible else 0, inUse := use, tUse := tUse,
    theta := theta, floor := if failed then max floor theta else floor,
    warnUp := runOf (!x.warn && decide (x.par.warn ≤ use)) x.warnUp, warnDown := runOf (x.warn && decide (use < x.par.warn - drop)) x.warnDown,
    stopUp := runOf (!x.stop && decide (x.par.stop ≤ stopAt)) x.stopUp, stopDown := runOf (x.stop && decide (stopAt < x.par.stop - drop)) x.stopDown,
    last := (x.last ++ [use]).drop ((x.last ++ [use]).length - 16) }

/-- Group and number of a sensor in its group. -/
def sensorGroup (n : Nat) : Nat × Nat := if n < 24 then (0, n) else (1, n - 24)

/-- SENSOR_SUBSTITUTED (R493). -/
def postSubstituted (n severity : Nat) (s : State) : State :=
  let x := sensor n s
  postEvent 0x0802 severity (320 + n)
    (payload 16 [(0, 1, (sensorGroup n).2), (1, 1, (sensorGroup n).1), (2, 1, (Config.openCode 0 x.cause).toNat), (4, 2, satInt 16 x.inUse)]) s

/-- A sensor that fails in this sample raises THERMAL_SENSOR with its last valid reading and its substitute (R474, R517). -/
def reportFailure (old : Sensor) (s : State) (n : Nat) : State :=
  let x := sensor n s
  if x.failed && !old.failed then
    postSubstituted n 2 (raise (320 + n) (object 11 n) (code 16 x.lastValid + code 16 x.inUse * 65536) s)
  else s

/-! ## What the depths do -/

/-- Thermal reduction of a port in 0.01 dB, to the nearest: the largest depth over the external sensors mapped to it (R470). -/
def portReductionTh (p : Fin 8) (s : State) : Int :=
  (((List.range 8).filter (fun k => (nth s.thermal.maps k ThermistorMap.reset).ports.getLsbD p.val)).foldl (fun a k => max a (sensor (24 + k) s).theta) 0 + 32) / 64

/-- Compute depth of a wing in 1/6400 dB (R471). -/
def wingTheta (w : Nat) (s : State) : Nat := ((List.range 8).map (16 + ·)).foldl (fun a n => max a (sensor n s).theta) (sensor w s).theta

/-- Throttle step of a wing after a sample: up to k at 1.50 k dB, down from k below 1.50 k - 0.50 dB (R471). -/
def nextStep (old theta : Nat) : Nat :=
  let up := min 6 (theta / 9600)
  if old < up then up else if theta + 3200 < 9600 * old then max up ((theta + 3200) / 9600) else old

/-- A wing's throttle step, with its event at a change (R471, R472). -/
def setWingStep (w : Fin 16) (new : Fin 7) (s : State) : State :=
  let old := s.thermal.steps[w]
  if new = old then s
  else
    postEvent 0x0803 0 0xFFFF (payload 16 [(0, 1, w.val), (1, 1, old.val), (2, 1, new.val), (3, 1, min 255 (wingTheta w.val s / 640))])
      (modThermal (fun x => { x with steps := x.steps.set w new }) s)

/-- A wing's step follows its depth, with WING_STEP (R471, R493). -/
def wingStepTick (s : State) (w : Fin 16) : State :=
  let old := s.thermal.steps[w].val
  setWingStep w (Fin.ofNat 7 (nextStep old (wingTheta w.val s))) s

/-- Each direction with a CANCEL instance in a wing whose step differs takes one configuration epoch (R472). -/
def spreadSteps (old : Vector (Fin 7) 16) (s : State) : State :=
  let changed (w : Fin 16) : Bool := s.thermal.steps[w] != old[w]
  let hit (e : Fin 64 × Dir) : Bool := s.eng.asgs[asgOf e.1 e.2].mem.any (fun m => m.kernel == 0 && changed m.wing)
  ((liveDirs s).filter hit).foldl (fun s e => requestChange e.1 e.2 .config [.tapFraction] none s) s

/-- The steps of every wing (R472). A standby takes its owner's steps, which the owner sends at each change (R636). -/
def wingSteps (s : State) : State :=
  if inStandby s then s
  else
    let old := s.thermal.steps
    let s := spreadSteps old ((List.finRange 16).foldl wingStepTick s)
    if hasStandby s ∧ s.thermal.steps ≠ old then queueTwin (.wingSteps (s.thermal.steps.map (·.val))) s else s

/-- A standby takes its owner's steps (R636). -/
def takeWingSteps (v : Vector Nat 16) (s : State) : State :=
  let old := s.thermal.steps
  spreadSteps old ((List.finRange 16).foldl (fun s w => setWingStep w (Fin.ofNat 7 v[w]) s) s)

/-- Port stops of R478: a port is stopped while an external sensor mapped to it stands above its T_stop. -/
def refreshThermalStops (s : State) : State :=
  (List.finRange 8).foldl (fun s p =>
    let hot := (List.range 8).filter (fun k => (sensor (24 + k) s).stop && (nth s.thermal.maps k ThermistorMap.reset).ports.getLsbD p.val)
    match hot with
    | k :: _ => stopPort p reasonThermal { measured := (sensor (24 + k) s).inUse, limit := (sensor (24 + k) s).par.stop } s
    | [] => releasePort p reasonThermal {} s) s

/-! ## Life -/

/-- Equivalent hours of each region after a slow tick (R485). -/
def lifeTick (s : State) : State :=
  modThermal (fun x => { x with life := Vector.ofFn (fun r : Fin 24 => x.life[r] + arrhenius (nth x.sensors r.val (Sensor.reset 0)).inUse) }) s

/-- LIFE_STEP at each further 1 % of consumed life (R487). -/
def lifeSteps (s : State) : State :=
  let n := consumedLife s / 100
  if s.thermal.lifeStep < n then lifeRecord 2 none (modThermal (fun x => { x with lifeStep := n }) s) else s

/-- Highest die temperature of each of the last 24 operating hours (R487, log entry 42). -/
def hotTick (s : State) : State :=
  let hour := opTime s / 3600000000
  let top := ((List.range 24).map (fun n => (sensor n s).inUse)).foldl max (sensor 0 s).inUse
  modThermal (fun x =>
    let kept := x.hot.filter (fun e => decide (hour < e.1 + 24))
    { x with hot := if kept.any (fun e => e.1 == hour) then kept.map (fun e => if e.1 = hour then (e.1, max e.2 top) else e) else kept ++ [(hour, top)] }) s

/-! ## The sample -/

/-- Every die sensor reads below its T_stop less its hysteresis (R479, R571). -/
def dieCool (s : State) : Bool :=
  (List.range 24).all (fun n => decide ((sensor n s).inUse + (if (sensor n s).failed then 320 else 0) < (sensor n s).par.stop - 16 * (sensor n s).par.hyst))

/-- The thermal sample of a slow tick (R463, R489): new parameters, readings, estimates, throttle depths and what follows from them. -/
def thermalTick (m : SlowMeas) (s : State) : State :=
  let s := modThermal (fun x => { x with
    sensors := x.sensors.map (fun v => match v.next with
      | some p => { v with par := p, next := none }
      | none => v),
    lateral := (x.latNext.map (·.1)).getD x.lateral, stopTime := (x.latNext.map (·.2)).getD x.stopTime, latNext := none,
    aging := m.wingAging, power := s.eng.wings.map (·.macs), sampleCount := frameCount s }) s
  let s := { s with eng := { s.eng with wings := s.eng.wings.map (fun w => { w with macs := 0 }) } }
  let old := s.thermal.sensors
  let reads := (List.range 32).map (fun n => readSensor m n s)
  let read (n : Nat) : Int := (reads.getD n (0, none)).1
  let valid (n : Nat) : Bool := !(nth old n (Sensor.reset 0)).failed && (reads.getD n (0, none)).2.isNone
  let ests := (List.range 32).map (fun n => estimateOf read valid n s)
  let s := modThermal (fun x => { x with sensors := Vector.ofFn (fun n : Fin 32 =>
    old[n].sample (read n.val) (reads.getD n.val (0, none)).2 (ests.getD n.val none)) }) s
  let s := (List.finRange 32).foldl (fun s n => reportFailure old[n] s n.val) s
  let s := { s with ports := Vector.ofFn (fun p => { s.ports[p] with dTh := portReductionTh p s }) }
  let s := hotTick (lifeSteps (lifeTick (refreshThermalStops (wingSteps s))))
  modThermal (fun x => { x with below := if dieCool s then x.below + 1 else 0 }) s

/-! ## Crossings -/

/-- THERMAL_LEVEL (R493). -/
def postLevel (n : Nat) (stop up : Bool) (s : State) : State :=
  postEvent 0x0801 (if !stop then 1 else if n < 24 then 3 else 2) 0xFFFF
    (payload 16 [(0, 1, (sensorGroup n).2), (1, 1, (sensorGroup n).1), (2, 1, flagBit stop), (3, 1, flagBit up), (4, 2, satInt 16 (sensor n s).inUse)]) s

/-- Rise rate of a sensor as (numerator, denominator): the least-squares slope over its last samples in 1/64 °C per ms (R479). -/
def riseRate (x : Sensor) : Int × Nat :=
  let n := x.last.length
  let si : Nat := (List.range n).sum
  let sii : Nat := ((List.range n).map (fun i => i * i)).sum
  let sx : Int := x.last.foldl (· + ·) 0
  let six : Int := (x.last.zipIdx).foldl (fun a e => a + (e.2 : Int) * e.1) 0
  (n * six - si * sx, n * sii - si * si)

/-- The rise leaves time for an orderly stop: (T_crit − T) / r is at least twice stop_time, or r ≤ 0 (R479). -/
def leavesTime (x : Sensor) (stopTime : Nat) : Bool :=
  let r := riseRate x
  decide (r.1 ≤ 0) || decide (2 * (stopTime : Int) * r.1 ≤ (8000 - x.inUse) * r.2)

/-- Every transmit port stopped at once for THERMAL (R479). -/
def stopAllPorts (s : State) : State :=
  refreshPortStops ((List.finRange 8).foldl (fun s p =>
    if (port p s).deviceStop = reasonThermal then s
    else portRecord 0x0005 p 3 reasonThermal {} (modPort p (fun x => { x with deviceStop := reasonThermal }) s)) s)

/-- A die sensor above T_stop stops the device (R479): in an orderly way, every port at once first where the rise leaves no time. -/
def dieStop (n : Nat) (s : State) : State :=
  if s.sys.power = .stopped ∨ s.sys.power = .sleep then s
  else if leavesTime (sensor n s) s.thermal.stopTime then orderlyStop 4 none deviceWriter s
  else stopAllPorts (orderlyStop 4 none deviceWriter s)

/-- THERMAL_THRESHOLD_CROSS (R466, R468, R478, R479): dwell samples on the other side of T_warn or T_stop. -/
def execThermalThresholdCross (n : Fin 32) (stop up : Bool) (s : State) : Host.Outcome State Fault Refusal :=
  let x := sensor n.val s
  let run := match stop, up with
    | false, true => if x.warn then 0 else x.warnUp
    | false, false => if x.warn then x.warnDown else 0
    | true, true => if x.stop then 0 else x.stopUp
    | true, false => if x.stop then x.stopDown else 0
  .next (if run < x.par.dwell ∨ s.sys.coreUp = false then s
    else
      let s := modSensor n.val (fun x => if stop then { x with stop := up, stopUp := 0, stopDown := 0 } else { x with warn := up, warnUp := 0, warnDown := 0 }) s
      let s := postLevel n.val stop up s
      let s := if inWatch s && up && !stop then { s with compat := { s.compat with alarmTemp := true } } else s
      if stop && decide (24 ≤ n.val) then refreshThermalStops s
      else if stop && up then dieStop n.val s
      else s)

/-- SENSOR_REINSTATE (R477): 1000 plausible samples near the substitute. -/
def execSensorReinstate (n : Fin 32) (s : State) : Host.Outcome State Fault Refusal :=
  let x := sensor n.val s
  .next (if x.failed && decide (1000 ≤ x.plausible) then
      modSensor n.val (fun x => { x with failed := false, plausible := 0, lastValid := x.reading, estimateBad := 0 }) (postSubstituted n.val 0 s)
    else s)

/-- THERMAL_AUTO_RESTART (R571): every die sensor has read below T_stop − hyst for 60 s. -/
def execThermalAutoRestart (s : State) : Host.Outcome State Fault Refusal :=
  .next (if s.sys.stopReason = 4 ∧ 60000 ≤ s.thermal.below then autoRestart s else s)

/-- LIFE_CHECKPOINT (R485): at the next operating minute into retention memory, each hour into the calibration store too;
hourly says whether the minute ends an hour (log entry 187). -/
def execLifeCheckpoint (hourly : Bool) (s : State) : Host.Outcome State Fault Refusal :=
  let n := s.thermal.checkMinute + 1
  .next (if s.sys.coreUp && hourly == decide (n % 60 = 0) then
      modThermal (fun x => { x with
        checkMinute := n, lifeRetained := x.life, lifeStored := if hourly then x.life else x.lifeStored }) (advanceTo (opInstant (n * 60000000) s) s)
    else s)

/-- DAILY (R487): 24 operating hours after the one before. -/
def execDaily (s : State) : Host.Outcome State Fault Refusal :=
  .next (if s.sys.coreUp then
      let due := s.thermal.dayMark + 24
      lifeRecord 1 none (modThermal (fun x => { x with dayMark := due }) (advanceTo (opInstant (due * 3600000000) s) s))
    else s)

/-! ## Commands -/

/-- Sensors that a THERMAL_CONFIGURE names, as sensor numbers. -/
def namedSensors (x : Desc) : List Nat :=
  let base := if par x 0 1 = 1 then 24 else 0
  let count := if par x 0 1 = 1 then 8 else 24
  if par x 1 1 = 0xFF then (List.range count).map (base + ·) else [base + par x 1 1]

/-- Parameters of a THERMAL_CONFIGURE (R489). -/
def sensorParamsOf (x : Desc) : SensorParams :=
  { warn := parInt x 2 2, start := parInt x 4 2, stop := parInt x 6 2, slope := par x 8 2, maximum := par x 10 2, hyst := par x 12 1, dwell := par x 13 1 }

/-- A parameter out of range, or thresholds out of order (R467, R488, R489). -/
def badThermal (x : Desc) : Bool :=
  let p := sensorParamsOf x
  let die := par x 0 1 == 0
  (if die then outside 6400 7680 p.stop else outside 3840 8000 p.stop) || decide (p.start < p.warn) || decide (p.stop ≤ p.start) ||
    outside 10 1000 p.slope || decide (2000 < p.maximum) || outside 4 40 p.hyst || outside 1 64 p.dwell ||
    (die && (decide (1000 < par x 14 2) || outside 5 200 (par x 16 2)))

/-- Checks of THERMAL_CONFIGURE; bytes 14-17 belong to the die group. -/
def checkThermalConfigure (r : Running) (_s : State) : Option Reject :=
  let x := r.desc
  let fields := [(0, 1), (1, 1), (2, 2), (4, 2), (6, 2), (8, 2), (10, 2), (12, 1), (13, 1)]
  firstOf [common false (if par x 0 1 = 0 then fields ++ [(14, 2), (16, 2)] else fields) .none x,
    refuseIf (decide (1 < par x 0 1)) (badParam detBadField),
    refuseIf (par x 1 1 != 0xFF && decide ((if par x 0 1 = 0 then 24 else 8) ≤ par x 1 1)) (badParam 0x0802),
    refuseIf (badThermal x) (badParam 0x0801)]

/-- THERMAL_CONFIGURE past its checks: in force from the next sample. -/
def effectThermalConfigure (r : Running) (s : State) : Ans × State :=
  let x := r.desc
  let s := (namedSensors x).foldl (fun s n => modSensor n (fun v => { v with next := some (sensorParamsOf x) }) s) s
  (doneWith 0, if par x 0 1 = 0 then modThermal (fun v => { v with latNext := some (par x 14 2, par x 16 2) }) s else s)

/-- THERMAL_CONFIGURE (R489). -/
def opThermalConfigure (r : Running) (s : State) : Ans × State := guarded checkThermalConfigure effectThermalConfigure r s

/-- Checks of THERMAL_STATUS (R490). -/
def checkThermalStatus (r : Running) (_s : State) : Option Reject := common false [] (.exactly 136) r.desc

/-- Wing step of a sensor; zero for one that is no wing's. -/
def sensorStep (n : Nat) (s : State) : Nat := if n < 16 then (nth s.thermal.steps n 0).val else 0

/-- Depth in 0.1 dB, saturating. -/
def thetaTenths (x : Sensor) : Nat := min 255 (x.theta / 640)

/-- THERMAL_STATUS past its checks. -/
def effectThermalStatus (_r : Running) (s : State) : Ans × State :=
  let one (n : Nat) : List Byte :=
    let x := sensor n s
    payload 4 [(0, 2, satInt 16 x.inUse), (2, 1, thetaTenths x), (3, 1, flagBit x.warn + 2 * flagBit x.stop + 4 * flagBit x.failed + 8 * (sensorStep n s : Nat))]
  let top := (List.finRange 8).foldl (fun a p => max a (port p s).dTh) 0
  (doneData 0 ((List.range 32).flatMap one ++
    payload 8 [(0, 2, satInt 16 top), (2, 1, surveyDuty s), (4, 4, s.thermal.sampleCount.toNat)]), s)

/-- THERMAL_STATUS (R490). -/
def opThermalStatus (r : Running) (s : State) : Ans × State := guarded checkThermalStatus effectThermalStatus r s

/-- Checks of SENSOR_MAP_SET (R488, R491); a resistance of 0 is no thermistor. -/
def checkSensorMapSet (r : Running) (_s : State) : Option Reject :=
  let x := r.desc
  firstOf [common false [(0, 1), (1, 1), (4, 4), (8, 2), (12, 4)] .none x, refuseIf (decide (7 < par x 0 1)) (badParam 0x0802),
    refuseIf (outside 1000 10000 (par x 8 2) || par x 4 4 == 0 || par x 12 4 == 0) (badParam 0x0803)]

/-- SENSOR_MAP_SET past its checks. -/
def effectSensorMapSet (r : Running) (s : State) : Ans × State :=
  let x := r.desc
  let v : ThermistorMap := { ports := BitVec.ofNat 8 (par x 1 1), r25 := BitVec.ofNat 32 (par x 4 4), beta := par x 8 2, pullUp := BitVec.ofNat 32 (par x 12 4) }
  (doneWith 0, modThermal (fun t => { t with maps := upd t.maps (par x 0 1) (fun _ => v) }) s)

/-- SENSOR_MAP_SET (R491). -/
def opSensorMapSet (r : Running) (s : State) : Ans × State := guarded checkSensorMapSet effectSensorMapSet r s

/-- Checks of LIFE_READ (R492). -/
def checkLifeRead (r : Running) (_s : State) : Option Reject := common false [] .none r.desc

/-- LIFE_READ past its checks. -/
def effectLifeRead (_r : Running) (s : State) : Ans × State := (doneWith (BitVec.ofNat 128 (ofBytes ((lifePayload none s).take 14))), s)

/-- LIFE_READ (R492). -/
def opLifeRead (r : Running) (s : State) : Ans × State := guarded checkLifeRead effectLifeRead r s

end Sys2Proof.Machine
end

