-- ==== Sys2Proof/Machine/Trust.lean ====
section
/-! DEFINITION. House Rules, firmware and identity (13_start_up_trust_and_house_rules.md): generation images and amendments (R591-R595, R713,
R262), Innkeeper patches (R581-R583), Lodger cores and the desk's own calls (R584-R588), identity and attestation (R596, R600). -/

namespace Sys2Proof.Machine

/-- Change of the system block. -/
def modSys (f : System → System) (s : State) : State := { s with sys := f s.sys }

/-- Change of the Night Porter. -/
def modNpt (f : NightPorter → NightPorter) (s : State) : State := modSys (fun x => { x with npt := f x.npt }) s

/-- Change of the House Rules store. -/
def modHr (f : HrStore → HrStore) (s : State) : State := { s with hr := f s.hr }

/-! ## House Rules images -/

/-- CRC-32 of an image with bytes 60-63 taken as zero (R591). -/
def imageCrc (img : List Byte) : Word := crc32 (img.take 60 ++ List.replicate 4 0 ++ img.drop 64)

/-- The CRC in bytes 60-63 holds. -/
def imageWhole (img : List Byte) : Bool := img.length == 3072 && (imageCrc img).toNat == bufField img 60 4

/-- Range k of an image (R591). -/
def imageRange (img : List Byte) (k : Nat) : HrRange :=
  let o := 96 + 24 * k
  { low := bufField img o 8, high := bufField img (o + 8) 8, dl := (bufField img (o + 16) 1).testBit 0, ul := (bufField img (o + 16) 1).testBit 1,
    gHr := bufInt img (o + 18) 2 }

/-- House Rules of an image (R591). -/
def rulesOf (img : List Byte) : HouseRules :=
  { donorMandatory := (bufField img 7 1).testBit 0, sleepPermitted := (bufField img 7 1).testBit 1, mHr := bufField img 34 2,
    dlDuty := bufField img 36 2, ulDuty := bufField img 38 2, uIcpt := bufField img 40 2, uSlope := bufField img 42 2, uKnee := bufInt img 44 2,
    ranges := (List.range (bufField img 33 1)).map (imageRange img),
    pCompMax := Vector.ofFn (fun p => bufInt img (64 + 4 * p.val) 2), pChMax := Vector.ofFn (fun p => bufInt img (66 + 4 * p.val) 2),
    keys := Vector.ofFn (fun n => (img.drop (864 + 64 * n.val)).take 64), keysEnrolled := BitVec.ofNat 4 (bufField img 1120 1) }

/-- Magic, format, reserved fields, field ranges and CRC of an image (R591, R713 check 1). A duty above 1000 per mille is out of range
(log entry 45). -/
def imageFormed (img : List Byte) : Bool :=
  imageWhole img && bufField img 0 4 == 0x4C52484A && bufField img 4 2 == 1 && decide (bufField img 6 1 ≤ 4) && decide (bufField img 7 1 < 4) &&
  (decide (bufField img 32 1 ≤ 3) || bufField img 32 1 == 0xFF) && decide (bufField img 33 1 ≤ 32) &&
  decide (600 ≤ bufField img 34 2) && decide (bufField img 34 2 ≤ 3000) && decide (bufField img 36 2 ≤ 1000) && decide (bufField img 38 2 ≤ 1000) &&
  decide (bufField img 40 2 ≤ 11000) && decide (25 ≤ bufField img 42 2) && decide (bufField img 42 2 ≤ 400) &&
  !outside (-12000) (-2000) (bufInt img 44 2) && bufField img 46 14 == 0 && decide (bufField img 1120 1 < 16) && bufField img 1121 1887 == 0 &&
  (List.range (bufField img 33 1)).all (fun k =>
    decide (bufField img (96 + 24 * k + 16) 1 < 4) && bufField img (96 + 24 * k + 17) 1 == 0 && bufField img (96 + 24 * k + 20) 4 == 0)

/-- A range of an image has a frequency with bits above bit 47 (R22). -/
def badRangeFrequency (img : List Byte) : Bool :=
  (List.range (bufField img 33 1)).any (fun k => badFrequency (imageRange img k).low || badFrequency (imageRange img k).high)

/-- A slot's image as it stands in OTP. -/
def slotImage (k : Nat) (s : State) : List Byte := nth s.hr.slots k []

/-- The generation in force as a byte: 0xFF when there is none (R592). -/
def generationByte (s : State) : Nat := s.hr.inForce.elim 0xFF (·.val)

/-- The next slot that holds nothing (R592). -/
def nextSlot (s : State) : Option (Fin 5) := (List.finRange 5).find? (fun k => !s.hr.used.getLsbD k.val)

/-- The start-up selection (R592): the highest programmed generation, if its CRC holds; otherwise House Rules are empty, HR_INTEGRITY is
raised and every channel is muted. -/
def selectGeneration (s : State) : State :=
  match (List.finRange 5).reverse.find? (fun k => s.hr.programmed.getLsbD k.val) with
  | none => modHr (fun h => { h with inForce := none, rules := HouseRules.empty, integrityOk := true }) s
  | some k =>
    if imageWhole (slotImage k.val s) then
      modHr (fun h => { h with inForce := some k, rules := rulesOf (slotImage k.val s), integrityOk := true }) s
    else
      let s := modHr (fun h => { h with inForce := none, rules := HouseRules.empty, integrityOk := false }) s
      raise 10 (object 0 0) 0 ((liveDirs s).foldl (fun s e => addMute e.1 e.2 reasonFault {} s) s)

/-! ## Settings passed through the gates again (R262) -/

/-- Writer 7 of a gate record: a House Rules amendment (R266). -/
def amendWriter : Nat := 7

/-- The channel's band is no longer allowed in one of its directions (R262). -/
def bandLost (c : Fin 64) (s : State) : Bool := bothDirs.any (fun d => dirLive c d s && bandRefused c d s)

/-- G_t of a direction exceeds the new bound; a channel outside the ranges is muted instead (R262). -/
def gainBroken (e : Fin 64 × Dir) (s : State) : Bool :=
  !bandLost e.1 s && decide (gHr e.1 e.2 s < targetWanted (direction e.1 e.2 s))

/-- G_t of a direction passed again. -/
def regateGain (e : Fin 64 × Dir) (s : State) : State :=
  if gainBroken e s then
    setTarget amendWriter 0xFFFF e.1 e.2 (targetWanted (direction e.1 e.2 s)) none s
  else s

/-- M_req of a direction passed again. -/
def regateMargin (e : Fin 64 × Dir) (s : State) : State :=
  let want := pendingMargin (direction e.1 e.2 s)
  let m := s.hr.rules.mHr
  if want.mReq < m then
    requestChange e.1 e.2 .gain [.margin { want with mReq := m }] none
      (gateClamped amendWriter 1 0xFFFF e.1.val (dirCode e.2).toNat want.mReq m m s)
  else s

/-- Per-channel limits that stood at the old maximum stay there until their epoch, if the new maximum is lower (R228, R262). -/
def heldLimits (was : HouseRules) (d : Dir) (s : State) (g : GainState) : GainState :=
  { g with pChMax := Vector.ofFn (fun j => g.pChMax[j].or
      (if s.hr.rules.pChMax[txPort d j] < was.pChMax[txPort d j] then some was.pChMax[txPort d j] else none)) }

/-- P_ch_max of a direction on its transmit port j before the new generation: the value asked for last, or the maximum that was its default. -/
def limitBefore (was : HouseRules) (e : Fin 64 × Dir) (j : Fin 4) (s : State) : Int :=
  ((limitWanted (direction e.1 e.2 s)).1[j]).getD was.pChMax[txPort e.2 j]

/-- Transmit ports of a direction whose P_ch_max exceeds the new bound. -/
def limitsBroken (was : HouseRules) (e : Fin 64 × Dir) (s : State) : List (Fin 4) :=
  (List.finRange 4).filter (fun j =>
    (((limitWanted (direction e.1 e.2 s)).1[j]).isSome || (maskPorts (dirDef e.1 e.2 s).tx).contains j) &&
      decide (s.hr.rules.pChMax[txPort e.2 j] < limitBefore was e j s))

/-- P_ch_max of a direction passed again; a port whose value is still the default follows the maximum, at the epoch too (R228). -/
def regateLimit (was : HouseRules) (e : Fin 64 × Dir) (s : State) : State :=
  match limitsBroken was e s with
  | [] => s
  | j :: _ =>
    let old := limitWanted (direction e.1 e.2 s)
    let bound (j : Fin 4) : Int := s.hr.rules.pChMax[txPort e.2 j]
    let v := Vector.ofFn (fun j => old.1[j].map (fun v => min v (bound j)))
    requestChange e.1 e.2 .gain [.powerLimit v old.2] none
      (gateClamped amendWriter 2 0xFFFF e.1.val (dirCode e.2).toNat (limitBefore was e j s) (bound j) (bound j)
        (modGain e.1 e.2 (heldLimits was e.2 s) s))

/-- The donor-loss rule of a channel does not meet a generation that makes it mandatory (R251). -/
def donorBroken (c : Fin 64) (s : State) : Bool :=
  let g := (direction c .ul s).gain
  s.hr.rules.donorMandatory && dirLive c .ul s && (!g.lossEnable || decide (200 < g.lossAbsentMs))

/-- The donor-loss rule of a channel passed again: enabled, with absent_ms at most 200, from a gain epoch of its uplink on (R251, R262). -/
def regateDonor (c : Fin 64) (s : State) : State :=
  let g := (direction c .ul s).gain
  if donorBroken c s then
    requestChange c .ul .gain [.donorRule] none
      (gateClamped amendWriter 4 0xFFFF c.val 1 (if g.lossEnable then g.lossAbsentMs else 0) (min 200 g.lossAbsentMs) 200 s)
  else s

/-- A composite limit that stood at the old maximum stays there until its epoch, if the new maximum is lower (R228, R262). -/
def heldComposite (was : HouseRules) (p : Fin 8) (s : State) : State :=
  if s.hr.rules.pCompMax[p] < was.pCompMax[p] then modPort p (fun x => { x with pCompMax := some (x.pCompMax.getD was.pCompMax[p]) }) s else s

/-- P_comp_max of a port before the new generation: the value asked for last, or the maximum that was its default (R228). -/
def compBefore (was : HouseRules) (p : Fin 8) (s : State) : Int := (portWanted p (heldComposite was p s)).1

/-- P_comp_max of a port passed again: a new gain epoch on each direction that transmits there; at once where none does. -/
def regateComposite (was : HouseRules) (p : Fin 8) (s : State) : State :=
  let bound := s.hr.rules.pCompMax[p]
  if bound < compBefore was p s then
    let cal := (portWanted p s).2
    let s := gateClamped amendWriter 3 0xFFFF p.val 0xFF (compBefore was p s) bound bound s
    match transmitters p s with
    | [] => withPort p (some bound) cal.1 cal.2 s
    | es => es.foldl (fun t e => requestChange e.1 e.2 .gain [.portLimits p (some bound) cal.1 cal.2] none t) (heldComposite was p s)
  else s

/-- A TDD pattern in force above the new duty has no clamp: the refusal is recorded and the pattern stands (log entry 46). -/
def regateDuty (slot : Fin 8) (s : State) : State :=
  match patternOf slot.val s with
  | none => s
  | some p =>
    let judge (k limit code : Nat) (s : State) : State :=
      if overDuty k limit p then gateRefused amendWriter 6 0xFFFF slot.val code (patternDuty k p) (patternDuty k p) limit s else s
    judge 1 s.hr.rules.ulDuty 1 (judge 0 s.hr.rules.dlDuty 0 s)

/-- Muted when the channel's band is no longer allowed in one of its directions (R262). -/
def regateBand (e : Fin 64 × Dir) (s : State) : State :=
  if bandLost e.1 s then addMute e.1 e.2 reasonFault {} s else s

/-- Settings that a new generation would clamp. -/
def clampsDue (was : HouseRules) (s : State) : Nat :=
  let dirs := liveDirs s
  (dirs.filter (fun e => gainBroken e s)).length +
  (dirs.filter (fun e => decide ((pendingMargin (direction e.1 e.2 s)).mReq < s.hr.rules.mHr))).length +
  (dirs.filter (fun e => !(limitsBroken was e s).isEmpty)).length +
  ((List.finRange 64).filter (fun c => donorBroken c s)).length +
  ((List.finRange 8).filter (fun p => decide (s.hr.rules.pCompMax[p] < compBefore was p s))).length

/-- The clamp of a direction under a new generation: K follows at once, and S comes down to G_HR with it, so that no block in flight meets the
output gate (R195, R263; log entry 56). What the clamped settings force comes with their epoch or at the next slow tick (R194, R203). -/
def boundCeiling (c : Fin 64) (d : Dir) (s : State) : State :=
  refreshK c d (modStab c d (fun m => { m with s := min m.s (gHr c d s) }) s)

/-- Every setting in force passes the gates again, and the stability clamp follows the new bounds (R262). -/
def regate (was : HouseRules) (s : State) : State :=
  let dirs := liveDirs s
  let s := dirs.foldl (fun s e => regateLimit was e (regateMargin e (regateGain e s))) s
  let s := (List.finRange 64).foldl (fun s c => regateDonor c s) s
  let s := (List.finRange 8).foldl (fun s p => regateComposite was p s) s
  let s := (List.finRange 8).foldl (fun s k => regateDuty k s) s
  let s := dirs.foldl (fun s e => regateBand e s) s
  (dirs.filter (fun e => onReceiveDevice (dirDef e.1 e.2 s) s)).foldl (fun s e => boundCeiling e.1 e.2 s) s

/-! ## House Rules commands (R599, R713) -/

/-- A record of this chapter, with its source (R601). -/
def systemRecord (cls severity codeOf writer : Nat) (bytes : List Byte) (events : List EventRec) (s : State) : State :=
  logRecord cls severity (writerSource writer) codeOf bytes events s

/-- HR_REFUSED of a refused HR_AMEND or HR_LOCK (R601). -/
def refuseRules (r : Running) (slot : Nat) (e : Reject) (s : State) : Ans × State :=
  (refuse e, systemRecord 4 1 0x0022 (writerOf r.desc.ring.val)
    (payload 16 [(0, 2, e.2), (2, 1, slot), (4, 2, r.desc.opcode.toNat)]) [] s)

/-- Checks of HR_READ. -/
def checkHrRead (r : Running) (s : State) : Option Reject :=
  let x := r.desc
  let g := par x 0 1
  firstOf [common false [(0, 1)] (.exactly 3072) x, refuseIf (decide (4 < g) && g != 0xFF) (badParam detBadField),
    refuseIf (if g = 0xFF then s.hr.inForce.isNone else !s.hr.programmed.getLsbD g) (badState 0x0B0F)]

/-- The image goes to the buffer. -/
def effectHrRead (r : Running) (s : State) : Ans × State :=
  let g := if par r.desc 0 1 = 0xFF then generationByte s else par r.desc 0 1
  (doneData (result [(0, 1, g), (1, 1, s.hr.used.toNat), (2, 1, flagBit s.hr.locked)]) (slotImage g s), s)

/-- HR_READ (R599). -/
def opHrRead (r : Running) (s : State) : Ans × State := guarded checkHrRead effectHrRead r s

/-- Checks of HR_AMEND_CHALLENGE. -/
def checkAmendChallenge (r : Running) (_s : State) : Option Reject := common false [] .none r.desc

/-- A fresh nonce takes the place of an earlier one (R593). -/
def effectAmendChallenge (_r : Running) (s : State) : Ans × State :=
  let n := takeFree s
  let v := Config.freeValue n.1
  (doneWith v, modHr (fun h => { h with nonce := some (v, s.slowTicks) }) n.2)

/-- HR_AMEND_CHALLENGE (R593). -/
def opHrAmendChallenge (r : Running) (s : State) : Ans × State := guarded checkAmendChallenge effectAmendChallenge r s

/-- Checks of HR_AMEND before R713's own. -/
def checkAmendBuffer (x : Desc) : Option Reject :=
  firstOf [common false [] .own x, hostRead x]

/-- Checks of R713 in their order; the flag says that check 6 was reached, which spends the nonce. -/
def amendChecks (x : Desc) (s : State) : Option Reject × Bool :=
  if x.dataLen.toNat == 3072 && badRangeFrequency x.data then (badParam detReserved, false)
  else if !(x.dataLen.toNat == 3072 && imageFormed x.data) then (badParam 0x0B03, false)
  else match nextSlot s with
    | none => (badState 0x0B02, false)
    | some k =>
      if dat x 6 1 != k.val then (badParam 0x0B03, false)
      else if !s.hr.locked then (none, false)
      else match enrolledKey (dat x 32 1) s with
        | none => (some (.authFailed, 0x0B06), false)
        | some key =>
          if dat x 8 8 != identityNat then (some (.authFailed, 0x0B07), false)
          else if !nonceCurrent s.hr.nonce (dat x 16 16) s.slowTicks then (some (.authFailed, 0x0B04), true)
          else if ecdsaVerify key (x.data.take 60 ++ List.replicate 4 0 ++ (x.data.drop 64).take 2944) ((x.data.drop 3008).take 64) then (none, true)
          else (some (.authFailed, 0x0B05), true)

/-- Key slot that an image names, for HR_REFUSED: 0xFF when it names none or was not read. -/
def namedKey (x : Desc) : Nat := if x.readOk ∧ x.data.length = 3072 then dat x 32 1 else 0xFF

/-- HR_AMEND's checks and commit point: the slot is used from the first write on (R594). -/
def beginAmend (r : Running) (s : State) : Ans × State :=
  let x := r.desc
  match checkAmendBuffer x with
  | some e => refuseRules r 0xFF e s
  | none =>
    let v := amendChecks x s
    let s := if v.2 then modHr (fun h => { h with nonce := none }) s else s
    match v.1, nextSlot s with
    | some e, _ => refuseRules r (namedKey x) e s
    | none, some k =>
      (.stay { r with wait := .hardware, phase := 1, aux := [k.val], committed := true },
        modHr (fun h => { h with slots := h.slots.set k x.data, used := h.used ||| BitVec.ofNat 5 (2 ^ k.val) }) s)
    | none, none => refuseRules r (namedKey x) (.rejectedState, 0x0B02) s

/-- HR_AMEND after the image's read-back (R594): a whole image takes force; results [0] is a read-back that failed. -/
def endAmend (r : Running) (s : State) : Ans × State :=
  let k := r.aux.headD 0
  if r.results.headD 1 = 0 then
    (.final { status := .deviceFault, detail := 10, result := 0, seq := none, data := [] }, raise 10 (object 0 0) 0 s)
  else
    let img := slotImage k s
    let w := writerOf r.desc.ring.val
    let was := s.hr.rules
    let s := modHr (fun h => { h with programmed := h.programmed ||| BitVec.ofNat 5 (2 ^ k), inForce := some (Fin.ofNat 5 k), rules := rulesOf img,
                                      integrityOk := true }) s
    let n := clampsDue was s
    let s := regate was s
    let body := payload 16 [(0, 1, k), (1, 1, bufField img 32 1), (4, 8, bufField img 16 8), (12, 4, ofBytes ((sha256 img).take 4))]
    let s := systemRecord 4 0 0x0020 w body [eventAt s 0x0B02 1 0xFFFF (payload 16 [(0, 1, k)])] s
    (.final { status := if n = 0 then .done else .clamped, detail := 0, result := result [(0, 1, k), (2, 2, n)], seq := none, data := [] }, s)

/-- HR_AMEND (R594, R713). -/
def opHrAmend (r : Running) (s : State) : Ans × State := if r.phase = 1 then endAmend r s else beginAmend r s

/-- Checks of HR_LOCK in their order (R599, R595): the base generation is the one of slot 0. -/
def checkHrLock (r : Running) (s : State) : Option Reject :=
  let x := r.desc
  firstOf [common false [(0, 4)] .none x, refuseIf (par x 0 4 != identityNat % 2 ^ 32) (badParam detBadField),
    refuseIf s.hr.locked (badState 0x0B01),
    refuseIf (!(s.hr.programmed.getLsbD 0 && (rulesOf (slotImage 0 s)).keysEnrolled != 0)) (badState 0x0B08)]

/-- HR_LOCK (R595): its commit point is the programming of the fuses; it completes when they read back. -/
def opHrLock (r : Running) (s : State) : Ans × State :=
  if r.phase = 1 then
    (doneWith 0, systemRecord 4 0 0x0021 (writerOf r.desc.ring.val) (payload 16 [(0, 1, generationByte s)]) [] s)
  else match checkHrLock r s with
    | some e => refuseRules r 0xFF e s
    | none => (.stay { r with wait := .hardware, phase := 1, committed := true }, modHr (fun h => { h with locked := true }) s)

/-! ## Innkeeper patches (R581-R583) -/

/-- Patch slot: true is slot B. -/
def patchSlot (b : Bool) (s : State) : PatchSlot := if b then s.sys.slotB else s.sys.slotA

/-- Change of a patch slot. -/
def modSlot (b : Bool) (f : PatchSlot → PatchSlot) (s : State) : State :=
  modSys (fun x => if b then { x with slotB := f x.slotB } else { x with slotA := f x.slotA }) s

/-- A slot verifies, meets the floor and is not marked failed (R583). -/
def slotQualifies (v : PatchSlot) (s : State) : Bool := v.valid && !v.failed && decide (s.sys.patchFloor.toNat ≤ v.security.toNat)

/-- The slot that the ROM boots (R583): the higher version of those that qualify, slot A for equal ones. -/
def bootSlot (s : State) : Option Bool :=
  let a := slotQualifies s.sys.slotA s
  let b := slotQualifies s.sys.slotB s
  if a && (!b || decide (s.sys.slotB.version.toNat ≤ s.sys.slotA.version.toNat)) then some false else if b then some true else none

/-- Version of the patch that runs; 0 in ROM alone. -/
def patchVersion (s : State) : Nat := if s.sys.romOnly then 0 else (patchSlot s.sys.patchSlot s).version.toNat

/-- The Innkeeper boots: a slot or ROM alone, which PATCH_REFUSED records (R583); that record's detail and slot are open (log entry 43). -/
def bootInnkeeper (s : State) : State :=
  match bootSlot s with
  | some b => modSys (fun x => { x with innkeeper := .running, romOnly := false, patchSlot := b, bootTick := s.slowTicks, bootUs := opTime s }) s
  | none =>
    systemRecord 5 1 0x0012 deviceWriter
      (payload 16 [(0, 2, (Config.openCode 1 0).toNat + 256 * (Config.openCode 1 1).toNat), (2, 1, (Config.openCode 1 2).toNat)]) []
      (modSys (fun x => { x with innkeeper := .running, romOnly := true, patchSlot := false, bootTick := s.slowTicks, bootUs := opTime s }) s)

/-- Header, lengths and hash of a patch image (R311, R582). -/
def patchFormed (bs : List Byte) : Bool :=
  let len := bufField bs 16 4
  bufField bs 0 4 == 0x50434A4C && bufField bs 4 2 == 1 && bufField bs 6 2 == 0 && bufField bs 14 2 == 0 && bufField bs 20 12 == 0 &&
  bufField bs 64 32 == 0 && decide (160 ≤ len) && decide (len ≤ 160 + 131072) && decide (len ≤ bs.length) &&
  sha256 ((bs.take len).drop 160) == (bs.drop 32).take 32

/-- Checks of PATCH_LOAD (R582). -/
def checkPatchLoad (r : Running) (s : State) : Option Reject :=
  let x := r.desc
  firstOf [common false [(0, 1)] (.atLeast 160) x, refuseIf (decide (1 < par x 0 1)) (badParam detBadField), hostRead x,
    refuseIf (!patchFormed x.data) (badParam 0x0B09),
    refuseIf (!ecdsaVerify Config.patchKey (x.data.take 96) ((x.data.drop 96).take 64)) (some (.authFailed, 0x0B0A)),
    refuseIf (decide (dat x 12 2 < s.sys.patchFloor.toNat)) (some (.authFailed, 0x0B0B))]

/-- The slot that PATCH_LOAD writes: the one that does not run. -/
def inactiveSlot (s : State) : Bool := if s.sys.romOnly then (bootSlot s).elim false (!·) else !s.sys.patchSlot

/-- Result of PATCH_LOAD. -/
def patchResult (b : Bool) (s : State) : BitVec 128 := result [(0, 1, flagBit b), (4, 4, (patchSlot b s).version.toNat)]

/-- PATCH_LOAD past its checks: the inactive slot is being written. -/
def beginPatchLoad (r : Running) (s : State) : Ans × State :=
  match checkPatchLoad r s with
  | some e =>
    let own := decide (0x0B09 ≤ e.2) && decide (e.2 ≤ 0x0B0B)
    (refuse e, if own then systemRecord 5 1 0x0012 (writerOf r.desc.ring.val)
      (payload 16 [(0, 2, e.2), (2, 1, flagBit (inactiveSlot s))]) [] s else s)
  | none =>
    let b := inactiveSlot s
    (awaitHardware r 1 [if b then 1 else 0],
      modSlot b (fun _ => { PatchSlot.reset with version := BitVec.ofNat 32 (dat r.desc 8 4), security := BitVec.ofNat 16 (dat r.desc 12 2) }) s)

/-- PATCH_LOAD with its slot written: a slot that the flash write or an Innkeeper restart left unverified ends the command (R583; log entry
47); otherwise PATCH_STAGED, and with activate the Innkeeper restarts into it. -/
def patchVerified (r : Running) (s : State) : Ans × State :=
  let b := r.aux.headD 0 == 1
  if r.results.headD 1 = 0 then
    (.final { status := .deviceFault, detail := 9, result := 0, seq := none, data := [] }, raise 9 (object 0 0) 0 s)
  else
    let s := modSlot b (fun v => { v with valid := true }) s
    let s := systemRecord 5 0 0x0010 (writerOf r.desc.ring.val) (payload 16 [(0, 1, flagBit b), (4, 4, (patchSlot b s).version.toNat)]) [] s
    if par r.desc 0 1 = 0 then (doneWith (patchResult b s), s)
    else (.stay { r with wait := .state, phase := 2, committed := true }, modSys (fun x => { x with innkeeper := .restarting, restartForPatch := true }) s)

/-- The Innkeeper has restarted for an activation. -/
def patchRestarted (s : State) : Bool := s.sys.innkeeper == .running && !s.sys.restartForPatch

/-- PATCH_LOAD (R599). -/
def opPatchLoad (r : Running) (s : State) : Ans × State :=
  match r.phase with
  | 0 => beginPatchLoad r s
  | 1 => patchVerified r s
  | _ => if patchRestarted s then (doneWith (patchResult (r.aux.headD 0 == 1) s), s) else (.stay { r with wait := .state }, s)

/-- A PATCH_LOAD that is writing its slot when the Innkeeper restarts fails (R583; log entry 47). -/
def failPatchLoads (s : State) : State :=
  let hit (r : Running) : Bool := r.desc.opcode.toNat == 0x0B10 && r.phase == 1 && r.wait == .hardware
  (List.finRange 22).foldl (fun s q =>
    if ((source q.val s).running.toList ++ (source q.val s).continuing).any hit then hardwareDone q.val (fun x => x.opcode == 0x0B10) [0] s else s) s

/-- INNKEEPER_WATCHDOG (R581, R583): the core restarts and the source is raised; a slot that expires within 10 s of its boot twice in a row is
marked failed. -/
def execInnkeeperWatchdog (s : State) : Host.Outcome State Fault Refusal :=
  .next (if s.sys.coreUp && s.sys.innkeeper == .running then
      let early := decide (s.slowTicks ≤ s.sys.bootTick + 10000)
      let s := if s.sys.romOnly then s else
        modSlot s.sys.patchSlot (fun v =>
          let n := if early then v.expiries + 1 else 0
          { v with expiries := n, failed := v.failed || decide (2 ≤ n) }) s
      raise 3 (object 13 0) 0 (failPatchLoads (modSys (fun x => { x with innkeeper := .restarting, restartForPatch := false }) s))
    else s)

/-- INNKEEPER_RESTART_DONE (R581, R583): the ROM boots a slot; the restart is recorded, and PATCH_ACTIVE when it activates a patch. -/
def execInnkeeperRestartDone (s : State) : Host.Outcome State Fault Refusal :=
  .next (if s.sys.coreUp && s.sys.innkeeper == .restarting then
      let forPatch := s.sys.restartForPatch
      let s := bootInnkeeper (modSys (fun x => { x with restartForPatch := false }) s)
      let b := s.sys.patchSlot
      let s := systemRecord 1 0 0x0013 deviceWriter (payload 16 [(0, 1, flagBit forPatch), (1, 1, flagBit b)]) [] s
      if forPatch && !s.sys.romOnly then
        systemRecord 5 0 0x0011 deviceWriter
          (payload 16 [(0, 1, flagBit b), (4, 4, (patchSlot b s).version.toNat), (8, 2, s.sys.patchFloor.toNat)]) [] s
      else s
    else s)

/-- PATCH_FLOOR_RAISE (R583): a patch that has run for one operating hour without an expiry. -/
def execPatchFloorRaise (s : State) : Host.Outcome State Fault Refusal :=
  .next (if s.sys.coreUp && s.sys.innkeeper == .running && !s.sys.romOnly && decide (s.sys.bootUs + hourUs ≤ opTime s) then
      modSys (fun x => { x with patchFloor := BitVec.ofNat 16 (max x.patchFloor.toNat (patchSlot x.patchSlot s).security.toNat) }) s
    else s)

/-! ## Lodger cores (R584-R586) -/

/-- Lodger core n. -/
def lodger (n : Fin 4) (s : State) : Lodger := s.sys.lodgers[n]

/-- Change of a Lodger core. -/
def modLodger (n : Fin 4) (f : Lodger → Lodger) (s : State) : State :=
  modSys (fun x => { x with lodgers := x.lodgers.set n (f x.lodgers[n]) }) s

/-- Code of a Lodger's state (R586). -/
def LodgerState.code : LodgerState → Nat
  | .empty => 0
  | .loaded => 1
  | .running => 2
  | .stopped => 3

/-- A Lodger core changes state, with its LODGER_STATE record; the record's cause codes are open (log entry 43): 0 a command, 1 the watchdog, 2
an automatic restart, 3 start-up. -/
def setLodger (n : Fin 4) (v : LodgerState) (cause writer : Nat) (s : State) : State :=
  let old := (lodger n s).state
  let s := modLodger n (fun x => { x with state := v }) s
  systemRecord 1 0 0x0014 writer
    (payload 16 [(0, 1, n.val), (1, 1, old.code), (2, 1, v.code), (3, 1, (Config.openCode 2 cause).toNat)]) [] s

/-- A core begins to run its image; its watchdog waits for the first DESK_WATCHDOG (R586). -/
def runLodger (n : Fin 4) (cause writer : Nat) (s : State) : State :=
  setLodger n .running cause writer (modLodger n (fun x => { x with watchdogMs := 0, kickedTick := s.slowTicks, restartDue := false, trapped := false }) s)

/-- The image of a LODGER_LOAD buffer. -/
def lodgerImage (bs : List Byte) : LodgerImage :=
  { autostart := (bufField bs 7 1).testBit 0, autorestart := (bufField bs 7 1).testBit 1, entry := BitVec.ofNat 32 (bufField bs 8 4),
    version := BitVec.ofNat 32 (bufField bs 20 4), crc := BitVec.ofNat 32 (bufField bs 24 4), body := bs.drop 64 }

/-- Header, lengths and CRC of a Lodger image (R585). -/
def lodgerFormed (bs : List Byte) : Bool :=
  bufField bs 0 4 == 0x474C444C && bufField bs 4 2 == 1 && decide (bufField bs 6 1 < 4) && decide (bufField bs 7 1 < 4) &&
  decide (bufField bs 12 4 ≤ 131072) && decide (bufField bs 16 4 ≤ 131072) && bs.length == 64 + bufField bs 12 4 + bufField bs 16 4 &&
  (crc32 (bs.drop 64)).toNat == bufField bs 24 4

/-- Core that an image names. -/
def imageCore (x : Desc) : Fin 4 := Fin.ofNat 4 (dat x 6 1)

/-- Checks of LODGER_LOAD. -/
def checkLodgerLoad (r : Running) (s : State) : Option Reject :=
  let x := r.desc
  firstOf [common false [(0, 1)] (.atLeast 64) x, refuseIf (decide (1 < par x 0 1)) (badParam detBadField), hostRead x,
    refuseIf (!lodgerFormed x.data) (badParam 0x0B0C), refuseIf ((lodger (imageCore x) s).state == .running) (badState 0x0B0D)]

/-- LODGER_LOAD past its checks: the core is LOADED; with store the image also goes to the partition that does not hold its stored one. -/
def effectLodgerLoad (r : Running) (s : State) : Ans × State :=
  let x := r.desc
  let n := imageCore x
  let img := lodgerImage x.data
  let w := writerOf x.ring.val
  let keep := par x 0 1 == 1
  let s := modLodger n (fun v =>
    let v := { v with image := some img, restartDue := false, watchdogMs := 0 }
    if !keep then v
    else if v.lastStoredB then { v with storedA := some img, lastStoredB := false }
    else if v.storedA.isNone && v.storedB.isNone then { v with storedA := some img }
    else { v with storedB := some img, lastStoredB := true }) s
  let s := setLodger n .loaded 0 w s
  (doneWith (result [(0, 1, n.val), (4, 4, img.version.toNat)]),
    systemRecord 5 0 0x0013 w (payload 16 [(0, 1, n.val), (1, 1, flagBit keep), (4, 4, img.version.toNat), (8, 4, img.crc.toNat)]) [] s)

/-- The first step of LODGER_LOAD reads and checks the image. -/
def beginLodgerLoad (r : Running) (s : State) : Ans × State := (.stay { r with wait := .none, phase := 1 }, s)

/-- LODGER_LOAD (R585, R599), stepped: one step that checks the image, one that takes it, under the same checks (R90; log entry 149). -/
def opLodgerLoad (r : Running) (s : State) : Ans × State :=
  guarded checkLodgerLoad (if r.phase = 0 then beginLodgerLoad else effectLodgerLoad) r s

/-- Checks of LODGER_START. -/
def checkLodgerStart (r : Running) (s : State) : Option Reject :=
  let x := r.desc
  firstOf [common false [(0, 1)] .none x, refuseIf (decide (3 < par x 0 1)) (badParam detBadField),
    let v := (lodger (Fin.ofNat 4 (par x 0 1)) s).state
    refuseIf (v == .empty || v == .running) (badState 0x0B0D)]

/-- The core runs. -/
def effectLodgerStart (r : Running) (s : State) : Ans × State :=
  (doneWith 0, runLodger (Fin.ofNat 4 (par r.desc 0 1)) 0 (writerOf r.desc.ring.val) s)

/-- LODGER_START (R586, R599). -/
def opLodgerStart (r : Running) (s : State) : Ans × State := guarded checkLodgerStart effectLodgerStart r s

/-- Checks of LODGER_STOP; a core that does not run cannot be stopped (log entry 48). -/
def checkLodgerStop (r : Running) (s : State) : Option Reject :=
  let x := r.desc
  firstOf [common false [(0, 1)] .none x, refuseIf (decide (3 < par x 0 1)) (badParam detBadField),
    refuseIf ((lodger (Fin.ofNat 4 (par x 0 1)) s).state != .running) (badState 0x0B0D)]

/-- The core stops; a restart that was due is not made. -/
def effectLodgerStop (r : Running) (s : State) : Ans × State :=
  let n := Fin.ofNat 4 (par r.desc 0 1)
  (doneWith 0, setLodger n .stopped 0 (writerOf r.desc.ring.val) (modLodger n (fun x => { x with restartDue := false, watchdogMs := 0 }) s))

/-- LODGER_STOP (R586, R599). -/
def opLodgerStop (r : Running) (s : State) : Ans × State := guarded checkLodgerStop effectLodgerStop r s

/-- LODGER_WATCHDOG (R586): the period has passed without a kick; the core stops. -/
def execLodgerWatchdog (n : Fin 4) (s : State) : Host.Outcome State Fault Refusal :=
  let x := lodger n s
  .next (if s.sys.coreUp && x.state == .running && x.watchdogMs != 0 && decide (x.kickedTick + x.watchdogMs < s.slowTicks) then
      let s := setLodger n .stopped 1 deviceWriter (modLodger n (fun v => { v with restartDue := v.image.any (·.autorestart), watchdogMs := 0, kickedTick := s.slowTicks }) s)
      raise (4 + n.val) (object 13 (1 + n.val)) 0 s
    else s)

/-- LODGER_AUTORESTART (R586): 1 s after the watchdog's stop, unless the source is PARKED. -/
def execLodgerAutorestart (n : Fin 4) (s : State) : Host.Outcome State Fault Refusal :=
  let x := lodger n s
  .next (if s.sys.coreUp && x.state == .stopped && x.restartDue && (faultSrc (4 + n.val) s).state != .parked && decide (x.kickedTick + 1000 ≤ s.slowTicks) then
      runLodger n 2 deviceWriter s
    else s)

/-- DESK_VIOLATION (R584): an access outside a running core's reach traps and is raised. -/
def execDeskViolation (n : Fin 4) (s : State) : Host.Outcome State Fault Refusal :=
  .next (if s.sys.coreUp && (lodger n s).state == .running then
      raise 8 (object 13 (1 + n.val)) 0 (modLodger n (fun x => { x with trapped := true }) s)
    else s)

/-! ## The desk's own calls (R588) -/

/-- Core of a desk call's source. -/
def deskCore (r : Running) : Fin 4 := Fin.ofNat 4 (r.desc.ring.val - 16)

/-- Checks of DESK_FAULT_EVENT. -/
def checkDeskFaultEvent (r : Running) (_s : State) : Option Reject :=
  let x := r.desc
  firstOf [common false [(0, 2), (2, 2), (8, 8)] .none x, refuseIf (badRange 480 511 (par x 0 2)) (badParam detBadField)]

/-- One event of the source. -/
def effectDeskFaultEvent (r : Running) (s : State) : Ans × State :=
  (doneWith 0, raise (par r.desc 0 2) (par r.desc 2 2) (par r.desc 8 8) s)

/-- DESK_FAULT_EVENT (R588). -/
def opDeskFaultEvent (r : Running) (s : State) : Ans × State := guarded checkDeskFaultEvent effectDeskFaultEvent r s

/-- Checks of DESK_WATCHDOG. -/
def checkDeskWatchdog (r : Running) (_s : State) : Option Reject :=
  let x := r.desc
  firstOf [common false [(0, 4)] .none x, refuseIf (par x 0 4 != 0 && badRange 10 60000 (par x 0 4)) (badParam detBadField)]

/-- The period set, or the watchdog kicked. -/
def effectDeskWatchdog (r : Running) (s : State) : Ans × State :=
  let t := par r.desc 0 4
  (doneWith 0, modLodger (deskCore r) (fun x => { x with watchdogMs := if t = 0 then x.watchdogMs else t, kickedTick := s.slowTicks }) s)

/-- DESK_WATCHDOG (R588). -/
def opDeskWatchdog (r : Running) (s : State) : Ans × State := guarded checkDeskWatchdog effectDeskWatchdog r s

/-- Checks of DESK_HOST_MESSAGE. -/
def checkDeskHostMessage (r : Running) (_s : State) : Option Reject := common false [(8, 16)] .none r.desc

/-- LODGER_MESSAGE on EVQ1 (R602). -/
def effectDeskHostMessage (r : Running) (s : State) : Ans × State :=
  (doneWith 0, postEvent 0x0B01 0 0xFFFF (leBytes 16 (par r.desc 8 16)) s)

/-- DESK_HOST_MESSAGE (R588). -/
def opDeskHostMessage (r : Running) (s : State) : Ans × State := guarded checkDeskHostMessage effectDeskHostMessage r s

/-- A byte of a Lodger's retained area; an unlisted one reads 0 (log entry 49). -/
def readCell (m : List Host.Cell) (a : Nat) : Byte := ((m.find? (fun e => e.1 == a)).map (·.2)).getD 0

/-- A byte written: addresses stay strictly rising and a zero is not listed. -/
def writeCell (a : Nat) (v : Byte) : List Host.Cell → List Host.Cell
  | [] => if v = 0 then [] else [(a, v)]
  | e :: rest =>
    if e.1 < a then e :: writeCell a v rest
    else if e.1 = a then (if v = 0 then rest else (a, v) :: rest)
    else if v = 0 then e :: rest else (a, v) :: e :: rest

/-- Bytes written one after another from an offset. -/
def writeCells : Nat → List Byte → List Host.Cell → List Host.Cell
  | _, [], m => m
  | a, b :: bs, m => writeCells (a + 1) bs (writeCell a b m)

/-- Bytes read from an offset. -/
def readCells (m : List Host.Cell) (a len : Nat) : List Byte := (List.range len).map (fun i => readCell m (a + i))

/-- The form of a retained area: offsets strictly rising from a bound on, no zero listed. -/
def cellsFrom : Nat → List Host.Cell → Bool
  | _, [] => true
  | lo, e :: rest => decide (lo ≤ e.1) && e.2 != 0 && cellsFrom (e.1 + 1) rest

/-- Every Lodger's retained area has its form. -/
def Memory.wf (s : State) : Bool := s.sys.lodgers.all (fun x => cellsFrom 0 x.retained)

/-- Checks of DESK_RETAIN. -/
def checkDeskRetain (r : Running) (_s : State) : Option Reject :=
  let x := r.desc
  firstOf [common false [(0, 1), (4, 2), (6, 2)] .own x,
    refuseIf (decide (1 < par x 0 1) || decide (4096 < par x 4 2 + par x 6 2)) (badParam detBadField),
    refuseIf (decide (x.dataLen.toNat < par x 6 2)) (badParam detBadLength),
    if par x 0 1 = 1 then hostRead x else none]

/-- Copies between the buffer and the area. -/
def effectDeskRetain (r : Running) (s : State) : Ans × State :=
  let x := r.desc
  let n := deskCore r
  if par x 0 1 = 1 then
    (doneWith 0, modLodger n (fun v => { v with retained := writeCells (par x 4 2) (x.data.take (par x 6 2)) v.retained }) s)
  else (doneData 0 (readCells (lodger n s).retained (par x 4 2) (par x 6 2)), s)

/-- DESK_RETAIN (R588). -/
def opDeskRetain (r : Running) (s : State) : Ans × State := guarded checkDeskRetain effectDeskRetain r s

/-- DESK_DENIED (R588): a call that the desk does not accept, refused and raised for the core. -/
def opDeskDenied (r : Running) (s : State) : Ans × State :=
  (refuse (.rejectedState, 0x0B0E), raise 8 (object 13 (1 + (deskCore r).val)) 0 s)

/-! ## Identity and attestation (R596, R600) -/

/-- The device identity as bytes. -/
def identityBytes : List Byte := leBytes 8 identityNat

/-- Checks of IDENTITY_READ. -/
def checkIdentityRead (r : Running) (_s : State) : Option Reject := common false [] (.exactly 144) r.desc

/-- Identity, public key and certificate. -/
def effectIdentityRead (_r : Running) (s : State) : Ans × State :=
  (doneData 0 (identityBytes ++ List.replicate 8 0 ++ Config.identityKey ++ Config.certificate), s)

/-- IDENTITY_READ (R596, R599). -/
def opIdentityRead (r : Running) (s : State) : Ans × State := guarded checkIdentityRead effectIdentityRead r s

/-- Code of the operating mode (R2). -/
def Mode.code : Mode → Nat
  | .native => 0
  | .compat => 1
  | .factoryA => 2
  | .factoryB => 3

/-- Image CRC of a Lodger core, 0 for EMPTY. -/
def lodgerCrc (n : Fin 4) (s : State) : Nat :=
  if (lodger n s).state == .empty then 0 else ((lodger n s).image.map (fun i => i.crc.toNat)).getD 0

/-- Bytes 0-127 of the attestation block (R600). -/
def attestBody (x : Desc) (s : State) : List Byte :=
  let hash := match s.hr.inForce with
    | some k => sha256 (slotImage k.val s)
    | none => List.replicate 32 0
  payload 32 [(0, 4, 0x5453544A), (4, 2, 1), (6, 1, s.sys.mode.code), (7, 1, generationByte s), (8, 8, identityNat), (16, 16, par x 8 16)] ++ hash ++
  payload 64 [(0, 4, patchVersion s), (4, 2, s.sys.patchFloor.toNat), (8, 4, s.eng.catalogue.version.toNat), (12, 4, lodgerCrc 0 s), (16, 4, lodgerCrc 1 s),
    (20, 4, lodgerCrc 2 s), (24, 4, lodgerCrc 3 s), (28, 4, opTime s / hourUs), (32, 4, opTime s % hourUs), (36, 4, s.gb.powerCycles.toNat)]

/-- Checks of ATTEST. -/
def checkAttest (r : Running) (_s : State) : Option Reject := common false [(8, 16)] (.exactly 192) r.desc

/-- The block with its signature over SHA-256 of bytes 0-127. -/
def effectAttest (r : Running) (s : State) : Ans × State :=
  (doneData 0 (attestBody r.desc s ++ Config.identitySign (sha256 (attestBody r.desc s))), s)

/-- ATTEST (R600). -/
def opAttest (r : Running) (s : State) : Ans × State := guarded checkAttest effectAttest r s

end Sys2Proof.Machine
end

