-- ==== Sys2Proof/Machine/System.lean ====
section
/-! DEFINITION. Resets, straps, cold start, power states, SLEEP and the Night Porter, and the stored configuration
(13_start_up_trust_and_house_rules.md, R561-R579, R589, R590, R597, R598). -/

namespace Sys2Proof.Machine

/-! ## The layout of the stores -/

/-- Partitions of the flash (R565): what each holds, its offset and its bytes; the spare after the Guestbook runs to the end. -/
def flashMap : List (String × Nat × Nat) :=
  [("board", 0x00000000, 64 * 1024), ("patch slot A", 0x00010000, 512 * 1024), ("patch slot B", 0x00090000, 512 * 1024),
   ("calibration store", 0x00110000, 2048 * 1024), ("Lodger partition A", 0x00310000, 4096 * 1024), ("Lodger partition B", 0x00710000, 4096 * 1024),
   ("spare", 0x00B10000, 5056 * 1024), ("Guestbook", 0x01000000, 8192 * 1024)]

/-- Areas of the 32 KiB retention memory, in the order of NPT_RETENTION's bits (R579): what each holds, its offset and its bytes. -/
def retentionMap : List (String × Nat × Nat) :=
  [("LO plans and calibrations", 0x0000, 8192), ("link and front-end calibrations", 0x2000, 4096), ("PARKED set, trip latch, boot history", 0x3000, 1024),
   ("life counters", 0x3400, 1024), ("wake context", 0x3800, 2048), ("Lodger retained area", 0x4000, 16384)]

/-! ## The accepted configuration (R589, R590) -/

/-- Place of an opcode's settings in the replay order of R589, 1-6; none for an opcode that sets nothing that is stored. -/
def replayGroup (op : Nat) : Option Nat :=
  if [0x0100, 0x0102, 0x0120, 0x0500, 0x0501, 0x0510, 0x0511, 0x0520, 0x0521].contains op then some 1
  else if [0x0600, 0x0601, 0x0602, 0x0603, 0x0605, 0x0700, 0x0701, 0x0702, 0x0703, 0x0705, 0x0706, 0x0800, 0x0802].contains op then some 2
  else if [0x0901, 0x0903, 0x0405, 0x0406, 0x0540, 0x0550].contains op then some 3
  else if [0x0C00, 0x0C02, 0x0C03, 0x0C10].contains op then some 4
  else if [0x0110, 0x0111, 0x0114, 0x0200, 0x0212, 0x0220, 0x0300, 0x0301, 0x0302, 0x0303, 0x0304, 0x0305, 0x0306, 0x0400, 0x0401].contains op then some 5
  else if [0x0524, 0x0011].contains op then some 6
  else none

/-- Object a stored command concerns, as (kind, number): a channel, a rail, a loop, an LO plan (log entry 50). -/
def itemObject (x : Desc) : Option (Nat × Nat) :=
  let op := x.opcode.toNat
  if [0x0110, 0x0111, 0x0114, 0x0200, 0x0212, 0x0220, 0x0300, 0x0301, 0x0303, 0x0304, 0x0305].contains op then some (0, par x 0 1)
  else if [0x0302, 0x0306].contains op ∧ par x 0 1 = 0 then some (0, par x 1 1)
  else if [0x0700, 0x0701, 0x0702, 0x0703, 0x0705].contains op then some (1, par x 0 1)
  else if [0x0600, 0x0601, 0x0602, 0x0603, 0x0605].contains op then some (2, par x 0 2)
  else if op = 0x0520 then some (3, par x 0 1)
  else if op = 0x0521 then some (3, par x 1 1)
  else none

/-- The stored command that makes the object that others of its kind concern. -/
def makesObject (op : Nat) : Bool := [0x0110, 0x0700, 0x0600, 0x0520].contains op

/-- A setting accepted (R589): its command joins the accepted configuration; a removed channel's commands leave it. Port calibrations go to the
calibration store as they are written (R226). The compatibility logic's commands are not stored (R649). -/
def accept (x : Desc) (s : State) : State :=
  let op := x.opcode.toNat
  if x.ring = 20 then s
  else if op = 0x0112 then modSys (fun v => { v with accepted := v.accepted.filter (fun y => itemObject y != some (0, par x 0 1)) }) s
  else if (replayGroup op).isNone then s
  else
    modSys (fun v => { v with accepted := v.accepted ++ [x],
                              calStore := if op = 0x0302 ∧ par x 0 1 = 1 then Vector.ofFn (fun p => (s.ports[p].pCalTx, s.ports[p].pCalRx)) else v.calStore }) s

/-- The accepted configuration in replay order; effective counts and flags belong to the command's first run. -/
def storedItems (s : State) : List Desc :=
  ([1, 2, 3, 4, 5, 6].flatMap (fun g => s.sys.accepted.filter (fun x => replayGroup x.opcode.toNat == some g))).map
    (fun x => { x with ring := 21, flags := 0, effCount := 0, timeoutMs := 0xFFFF })

/-- The accepted configuration as it is stored. -/
def configImage (autostart : Bool) (s : State) : SavedConfig :=
  { valid := true, autostart := autostart, items := storedItems s, mapTx := s.radio.mapTx, mapRx := s.radio.mapRx }

/-- Checks of CONFIG_SAVE. -/
def checkConfigSave (r : Running) (_s : State) : Option Reject :=
  firstOf [common false [(0, 1)] .none r.desc, refuseIf (decide (1 < par r.desc 0 1)) (badParam detBadField)]

/-- CONFIG_SAVE (R589, R598): the store is written, then verified; the layout of the stored bytes is not in the manual, so that their CRC-32 is
a free value (log entry 4). Results [0] is a write that failed. -/
def opConfigSave (r : Running) (s : State) : Ans × State :=
  if r.phase = 1 then
    if r.results.headD 1 = 0 then
      (.final { status := .deviceFault, detail := 9, result := 0, seq := none, data := [] }, raise 9 (object 0 0) 0 s)
    else
      let image := configImage (par r.desc 0 1 == 1) s
      let n := takeFree s
      let crc : Nat := (Config.freeValue n.1).toNat % 2 ^ 32
      let body := payload 16 [(0, 4, image.items.length), (4, 4, crc)]
      (doneWith (result [(0, 4, image.items.length), (4, 4, crc)]),
        systemRecord 1 0 0x0011 (writerOf r.desc.ring.val) body [] (modSys (fun v => { v with saved := image }) n.2))
  else match checkConfigSave r s with
    | some e => (refuse e, s)
    | none => (awaitHardware r 1 [], s)

/-- A replayed item that failed: CONFIG_ITEM_FAILED, and the later items that depend on it are skipped and counted (R590). -/
def replayFailed (x : Desc) (status : Status) (detail : Nat) (s : State) : State :=
  let key := itemObject x
  let depends (f : Fetched) : Bool := makesObject x.opcode.toNat && key.isSome && itemObject f.desc == key
  let skipped := ((source 21 s).fetched.filter depends).length
  let s := modSource 21 (fun q => { q with fetched := q.fetched.filter (fun f => !depends f) }) s
  let s := modSys (fun v => { v with configSkipped := v.configSkipped + skipped }) s
  systemRecord 1 1 0x0012 5 (payload 16 [(0, 2, x.opcode.toNat), (2, 1, status.code), (4, 2, detail), (6, 2, skipped)]) [] s

/-- The Innkeeper replays a stored configuration: its commands stand in its queue in their order (R590). -/
def replay (image : SavedConfig) (s : State) : State :=
  let items := image.items.map (fun x => { desc := x, order := 0, cancelled := false : Fetched })
  let s := modSource 21 (fun q => { q with fetched := q.fetched ++ items, readySince := some s.now }) s
  { s with radio := { s.radio with mapTx := image.mapTx, mapRx := image.mapRx }, sys := { s.sys with autonomous := true, configSkipped := 0 } }

/-! ## Resets (R561, R562) -/

/-- Nothing holds the core down (R577, R481, R561, R575). -/
def bootAllowed (s : State) : Bool :=
  s.sys.vauxValid && s.sys.npt.held == 0 && !s.sys.npt.critHold && !s.sys.npt.boardHold && s.sys.power != .sleep

/-- The supply controller in reset: every phase off, every rail without its plan (R417, R446). -/
def supplyDown (s : State) : Supply :=
  let v := Supply.booted s.sys.straps.bootv
  { v with rails := v.rails.mapIdx (fun r x => { x with state := if r = 0 then .off else x.state, ref := 0, powerGood := false, pgRun := 0,
                                                        sensed := (nth s.supply.rails r x).sensed }),
           phases := Vector.replicate 16 Phase.reset, bootDone := false, bootRetries := s.supply.bootRetries }

/-- The Guestbook across a core reset: staging, the intake queue, the tail, the flash and the clocks stay (R542, R561). -/
def guestbookKept (s : State) : Guestbook :=
  { s.gb with collectorWait := [], overflow := Vector.replicate 9 0, notes := [], committing := false, ready := false, holdup := false,
              flashFault := false, resumed := false, authFailures := 0, lastAuthFailTick := none, nonce := none }

/-- Torn entries that a loss of power leaves (R548): where copies were being committed, whether the program it met leaves one is open, a free value
(log entry 182). -/
def tornBy (s : State) : Nat := s.gb.torn + if s.gb.committing then (Config.freeValue s.freeCtr).toNat % 2 else 0

/-- The Guestbook across a power-on reset: what lies in flash stays (R535, R543, R548, R561, R717). -/
def guestbookPowered (s : State) : Guestbook :=
  { Guestbook.reset with
      flash := s.gb.flash.map (fun f => { f with entry := f.entry.unflag flagOpen }), seqNext := s.gb.seqNext, torn := tornBy s,
      clearBoundary := s.gb.clearBoundary, erasing := s.gb.erasing, generalUsed := s.gb.generalUsed, generalSector := s.gb.generalSector,
      retainedUsed := s.gb.retainedUsed, retainedSector := s.gb.retainedSector, generalPasses := s.gb.generalPasses,
      retainedPasses := s.gb.retainedPasses, checkpointUs := s.gb.checkpointUs, checkpointCycles := s.gb.checkpointCycles,
      checkpointSeq := s.gb.checkpointSeq, checkpointWall := s.gb.checkpointWall, checkpointWallValid := s.gb.checkpointWallValid }

/-- Engines across a reset: retired ones stay RETIRED, and the Innkeeper keeps its minimum security (R308, R312). -/
def enginesKept (s : State) : EnginePool :=
  let e := EnginePool.reset
  { e with engines := Vector.ofFn (fun n => if s.eng.engines[n].state = .retired then { Engine.reset n.val with state := .retired } else Engine.reset n.val),
           minSecurity := s.eng.minSecurity }

/-- Thermal state across a reset: the critical trips and the life counters as they were checkpointed (R480, R485). -/
def thermalKept (powerOn : Bool) (s : State) : Thermal :=
  let life := if powerOn then s.thermal.lifeStored else s.thermal.lifeRetained
  { Thermal.reset with critTrips := if powerOn then 0 else s.thermal.critTrips, critTotal := s.thermal.critTotal,
                       critPending := !powerOn && s.thermal.critPending, life := life, lifeRetained := life, lifeStored := s.thermal.lifeStored }

/-- A Lodger core across a reset: its stored images, and its retained area while VAUX lasts. -/
def Lodger.kept (powerOn : Bool) (x : Lodger) : Lodger :=
  { Lodger.reset with retained := if powerOn then [] else x.retained, storedA := x.storedA, storedB := x.storedB, lastStoredB := x.lastStoredB }

/-- The system block across a reset: straps, flash and what the Night Porter keeps. -/
def systemKept (powerOn : Bool) (s : State) : System :=
  { System.reset with
      straps := s.sys.straps, mode := s.sys.mode, coreUp := false, vauxValid := s.sys.vauxValid, startKind := if powerOn then 0 else 1,
      perst := s.sys.perst, wakeN := s.sys.wakeN, patchFloor := s.sys.patchFloor,
      slotA := { s.sys.slotA with failed := !powerOn && s.sys.slotA.failed, expiries := if powerOn then 0 else s.sys.slotA.expiries },
      slotB := { s.sys.slotB with failed := !powerOn && s.sys.slotB.failed, expiries := if powerOn then 0 else s.sys.slotB.expiries },
      lodgers := s.sys.lodgers.map (Lodger.kept powerOn),
      npt := if powerOn then { NightPorter.reset with npPending := s.sys.npt.npPending, parkedSet := s.sys.npt.parkedSet } else s.sys.npt,
      saved := s.sys.saved, sleepImage := s.sys.sleepImage, calStore := s.sys.calStore }

/-- Segments of samples that a transmit edge of a twin pair still holds, and sends, when core reset asserts: 8 counts (R8, R629). -/
def heldSegments (powerOn : Bool) (s : State) (n : Fin 8) : Nat :=
  if !powerOn && twinStrapped s && s.sys.coreUp && s.links.txActive[n.val % 4]'(Nat.mod_lt _ (by decide)) && s.links.streams[n].rate.isSome then
    (8 * samplesPerCount s.links.streams[n].rate + 63) / 64
  else 0

/-- Core reset asserted (R561): everything but what flash, fuses, the supply island's staging and the Night Porter keep is at its reset
value; powerOn tells a power-on reset from the others. LO plans with their calibrations lie in retention memory and the calibration store
(R565, R579). -/
def coreReset (powerOn : Bool) (s : State) : State :=
  let z := State.reset
  { z with
      pending := s.pending, freeCtr := s.freeCtr + 1, tickets := s.tickets, opBase := if powerOn then 0 else opTime s, opFrac := if powerOn then 0 else s.opFrac,
      gb := if powerOn then guestbookPowered s else guestbookKept s, sys := systemKept powerOn s, hr := { s.hr with nonce := none },
      eng := enginesKept s, thermal := thermalKept powerOn s, supply := supplyDown s,
      radio := { z.radio with plans := s.radio.plans },
      links := { z.links with draining := Vector.ofFn (heldSegments powerOn s) },
      hif := { z.hif with hostResets := if powerOn then 0 else s.hif.hostResets } }

/-- The straps sampled (R562). -/
def sampleStraps (x : Straps) (s : State) : State :=
  let m := match x.mode.toNat with
    | 0 => Mode.native
    | 1 => Mode.compat
    | 2 => Mode.factoryA
    | _ => Mode.factoryB
  modSys (fun v => { v with straps := x, mode := m }) s

/-- A reset's end with its straps: the production test modes have no behaviour in the manual (R2, R3). -/
def withStraps (x : Straps) (s : State) : Host.Outcome State Fault Refusal :=
  if 2 ≤ x.mode.toNat then .fault .factoryMode else .next s

/-- The boot regulator begins to bring SUP0 up, from the sensed voltage towards the BOOTV voltage (R445). -/
def bootCore (s : State) : State :=
  if bootAllowed s && !s.sys.coreUp then
    let x := Rail.booted s.sys.straps.bootv
    let mv := (rail 0 s).sensed
    phasesOn 0 (modRail 0 (fun _ => { x with state := .softStart, ref := mv * mvUnit, sensed := mv, powerGood := false, pgRun := 0 }) s)
  else s

/-- VAUX_VALID (R563 steps 1 and 2): a power-on reset, the straps, the boot regulator. -/
def execVauxValid (straps : Straps) (s : State) : Host.Outcome State Fault Refusal :=
  if s.sys.vauxValid then .next s
  else withStraps straps (bootCore (modNpt (fun n => { n with rtcOk := true })
    (sampleStraps straps (modSys (fun v => { v with vauxValid := true }) (coreReset true s)))))

/-- BROWN_OUT (R561, R577): comparator 1 trips and the Night Porter is reset with the rest; VAUX is gone until it is valid again. -/
def execBrownOut (s : State) : Host.Outcome State Fault Refusal :=
  .next (if s.sys.vauxValid then
      let s := coreReset true s
      modSys (fun v => { v with vauxValid := false, npt := { v.npt with npPending := v.npt.npPending ||| 2 } }) s
    else s)

/-- CORE_RESET_RELEASE (R445 step 5, R563 step 3): SUP0 is in regulation; the core starts, with the frame timer at 0. -/
def execCoreResetRelease (s : State) : Host.Outcome State Fault Refusal :=
  .next (if !s.sys.coreUp && bootAllowed s && (rail 0 s).state == .regulating then
      modSupply (fun v => { v with bootDone := true, vCore := bootMillivolts s.sys.straps.bootv * 32768 })
        (modThermal (fun x => { x with dayMark := opTime s / 86400000000 * 24, checkMinute := opTime s / 60000000 })
          (modSys (fun v => { v with coreUp := true, innkeeper := .starting, power := .starting }) { s with now := 0, slowTicks := 0, opBase := opTime s }))
    else s)

/-- BOARD_RESET (R561, R446): RESET_N low for 10 µs. -/
def execBoardReset (s : State) : Host.Outcome State Fault Refusal :=
  .next (if s.sys.vauxValid && !s.sys.npt.boardHold then
      modNpt (fun n => { n with boardHold := true, critHold := false }) (modSupply (fun v => { v with bootRetries := 0, bootFault := false }) (coreReset false s))
    else s)

/-- BOARD_RESET_END (R446, R562): the straps are sampled and the boot regulator starts. -/
def execBoardResetEnd (straps : Straps) (s : State) : Host.Outcome State Fault Refusal :=
  if s.sys.npt.boardHold then withStraps straps (bootCore (sampleStraps straps (modNpt (fun n => { n with boardHold := false }) s)))
  else .next s

/-- A device reset is ordered: it takes effect at DEVICE_RESET_FIRE. -/
def orderReset (ms : Nat) (s : State) : State := modSys (fun v => { v with resetDueTick := some (s.slowTicks + ms) }) s

/-- SYS_RESET (R561, R603): key 0xA55A with go. -/
def execSysReset (value : Word) (s : State) : Host.Outcome State Fault Refusal :=
  .next (if s.sys.coreUp && value.toNat % 2 ^ 16 == 0xA55A && value.getLsbD 16 then orderReset 0 s else s)

/-- DEVICE_RESET_FIRE (R561, R598): the device reset takes effect and ends, with the straps. -/
def execDeviceResetFire (straps : Straps) (s : State) : Host.Outcome State Fault Refusal :=
  if s.sys.coreUp && s.sys.resetDueTick.any (fun t => decide (t ≤ s.slowTicks)) then
    withStraps straps (bootCore (sampleStraps straps (modSupply (fun v => { v with bootRetries := 0, bootFault := false }) (coreReset false s))))
  else .next s

/-! ## Cutoffs and supply comparators (R480, R481, R577) -/

/-- CRITICAL_TRIP (R480): core reset, every phase off, the trip counted and latched. -/
def execCriticalTrip (_east : Bool) (s : State) : Host.Outcome State Fault Refusal :=
  .next (if s.sys.vauxValid && !s.sys.npt.critHold then
      let s := modThermal (fun t => { t with critTrips := t.critTrips + 1, critTotal := t.critTotal + 1, critPending := true }) s
      modNpt (fun n => { n with critLatched := true, critHold := true }) (coreReset false s)
    else s)

/-- CRITICAL_RECOVERY (R481): both comparators below 105 °C for 1 s; a cold start. -/
def execCriticalRecovery (s : State) : Host.Outcome State Fault Refusal :=
  .next (if s.sys.npt.critHold then bootCore (modNpt (fun n => { n with critHold := false }) s) else s)

/-- Comparator of the Night Porter that watches VSDH or VIO (R577). -/
def comparatorOf (vsdh : Bool) : Nat := if vsdh then 3 else 2

/-- Bit of a comparator. -/
def comparatorBit (n : Nat) : BitVec 4 := BitVec.ofNat 4 (2 ^ n)

/-- COMPARATOR_ARMED (R577): the supply has risen above its threshold. -/
def execComparatorArmed (vsdh : Bool) (s : State) : Host.Outcome State Fault Refusal :=
  .next (modNpt (fun n => { n with armed := n.armed ||| comparatorBit (comparatorOf vsdh) }) s)

/-- SUPPLY_COMPARATOR_TRIP (R577): core reset and every phase off; NPT_SUPPLY follows once the core runs again. -/
def execSupplyComparatorTrip (vsdh : Bool) (s : State) : Host.Outcome State Fault Refusal :=
  let b := comparatorBit (comparatorOf vsdh)
  .next (if s.sys.vauxValid && (s.sys.npt.armed &&& b) != 0 && (s.sys.npt.held &&& b) == 0 then
      modNpt (fun n => { n with below := n.below ||| b, tripped := n.tripped ||| b, held := n.held ||| b, npPending := n.npPending ||| b }) (coreReset false s)
    else s)

/-- SUPPLY_RECOVERED (R577): valid for 10 ms after the trip; a cold start. -/
def execSupplyRecovered (vsdh : Bool) (s : State) : Host.Outcome State Fault Refusal :=
  let b := comparatorBit (comparatorOf vsdh)
  .next (if (s.sys.npt.held &&& b) != 0 then bootCore (modNpt (fun n => { n with below := n.below &&& ~~~b, held := n.held &&& ~~~b }) s) else s)

/-- HOLDUP_TRIP (R545, R577): the Guestbook's hold-up commit begins, and an owner in lockstep plans a hand-over (R639). -/
def execHoldupTrip (s : State) : Host.Outcome State Fault Refusal :=
  let b := comparatorBit 0
  .next (if s.sys.vauxValid && (s.sys.npt.below &&& b) == 0 then
      let s := modNpt (fun n => { n with below := n.below ||| b, tripped := n.tripped ||| b }) s
      if s.sys.coreUp then
        let s := holdupCommit 0 s
        let s := if handoverReady s then beginHandover 4 none s else s
        raise 384 (object 0 0) 0 s
      else modNpt (fun n => { n with npPending := n.npPending ||| b }) s
    else s)

/-- HOLDUP_REOPEN (R545 step 5): VAUX above the threshold for 10 ms. -/
def execHoldupReopen (s : State) : Host.Outcome State Fault Refusal :=
  let b := comparatorBit 0
  .next (if (s.sys.npt.below &&& b) != 0 then
      writeOverflow (modGb (fun g => { g with intakeClosed := false }) (modNpt (fun n => { n with below := n.below &&& ~~~b }) s))
    else s)

/-- RTC_OSCILLATOR_FAILURE (R504, R603). -/
def execRtcOscillatorFailure (s : State) : Host.Outcome State Fault Refusal :=
  .next (raise 389 (object 0 0) 0 (modNpt (fun n => { n with rtcOk := false }) s))

/-! ## Start-up (R563, R564) -/

/-- Operating time, power cycles and sequence resume at a power-up (R535). -/
def resumeCounts (s : State) : State :=
  let last := s.gb.flash.getLast?
  let us := max s.gb.checkpointUs (last.elim 0 (fun f => f.entry.timeUs))
  let t := if last.isSome ∨ 0 < s.gb.checkpointUs then max (us + 1) (opTime s) else opTime s
  let cycles := max s.gb.checkpointCycles.toNat (last.elim 0 (fun f => f.entry.powerCycles.toNat)) + 1
  let s := { s with opBase := t - faultTick s }
  modGb (fun g => { g with powerCycles := BitVec.ofNat 32 cycles, seqNext := last.elim g.checkpointSeq (fun f => f.entry.sequence + 1),
                           rateStartUs := t, rateSubs := [] }) s

/-- PARKED sources restored before the first channel (R503). -/
def restoreParked (s : State) : State :=
  s.sys.npt.parkedSet.foldl (fun s n => modFault n.val (fun f => { f with state := .parked }) s) s

/-- NPT_SUPPLY of the comparators that tripped while the core was down (R577). -/
def raiseTrips (s : State) : State :=
  let s := (List.range 4).foldl (fun s n => if s.sys.npt.npPending.getLsbD n then raise (384 + n) (object 0 0) 0 s else s) s
  modNpt (fun n => { n with npPending := 0 }) s

/-- A critical cutoff reported at the start-up that follows (R481). -/
def reportCutoff (s : State) : State :=
  if s.thermal.critPending then
    lifeRecord 4 none (raise 388 (object 0 0) 0 (modThermal (fun t => { t with critPending := false }) s))
  else s

/-- Port calibrations from the calibration store (R226, R565). -/
def loadCalibrations (s : State) : State :=
  (List.finRange 8).foldl (fun s p => modPort p (fun x => { x with pCalTx := s.sys.calStore[p].1, pCalRx := s.sys.calStore[p].2 }) s) s

/-- The configuration that this start applies: the sleep image after a wake, otherwise a saved one that starts by itself (R576, R590). -/
def startConfig (s : State) : Option SavedConfig :=
  if s.sys.startKind = 2 then (if s.sys.sleepImage.valid then some s.sys.sleepImage else none)
  else if s.sys.saved.valid && s.sys.saved.autostart then some s.sys.saved else none

/-- The image of a Lodger core in its partition. -/
def storedImage (x : Lodger) : Option LodgerImage := if x.lastStoredB then x.storedB else x.storedA

/-- Lodgers flagged autostart are started (R563 step 8). -/
def startLodgers (s : State) : State :=
  (List.finRange 4).foldl (fun s n =>
    match storedImage (lodger n s) with
    | some i => if i.autostart then runLodger n 3 deviceWriter (modLodger n (fun x => { x with image := some i }) s) else s
    | none => s) s

/-- The Innkeeper's start-up (R563 steps 4 to 8): the table has no row for it, so that it happens at the first slow tick after core release (log
entry 51). -/
def startUp (s : State) : State :=
  if !s.sys.coreUp || s.sys.innkeeper != .starting then s
  else
    let kind := s.sys.startKind
    let s := selectGeneration (bootInnkeeper s)
    let s := modNpt (fun n => { n with rtcOk := n.rtcOk || kind == 0, retention := if kind = 0 then 0 else 0x3F }) s
    let s := if kind = 0 then resumeCounts s else s
    let s := guestbookStart kind (kind == 0) s
    let s := if kind = 2 then powerRecord .sleep .starting s.sys.npt.wakeCause deviceWriter s else s
    let s := startCoreLoop (loadCalibrations (restoreParked s))
    let s := raiseTrips (reportCutoff s)
    let s := match startConfig s with
      | some image => replay image s
      | none => s
    let s := startLodgers s
    let s := if twinStrapped s then setLink 4 .training 0 s else s
    let s := if s.sys.perst then s else trainLink s
    modSys (fun v => { v with cfgReady := !v.perst, wokeTick := if kind = 2 then some s.slowTicks else none }) s

/-- No replayed command waits or runs. -/
def replayDone (s : State) : Bool :=
  let q := source 21 s
  q.fetched.isEmpty && q.running.isNone && q.continuing.isEmpty

/-- Every channel has formed its block 0 (R564). -/
def blocksFormed (s : State) : Bool := (liveDirs s).all (fun e => decide (0 < (direction e.1 e.2 s).ordinal) || !onReceiveDevice (dirDef e.1 e.2 s) s)

/-- Start-up calibrations: an autocal plan that is not calibrated is calibrated at the present temperature (R349). -/
def calibratePlans (s : State) : State :=
  (List.finRange 256).foldl (fun s n =>
    let p := s.radio.plans[n]
    if p.used && p.autocal && !planCalibrated n s then
      modRadio (fun r => { r with plans := r.plans.set n { p with calTemp := some (loTemperature s) } }) s
    else s) s

/-- Ownership changes hands: the pins, the switch instant, TWIN_OWNER and the TWIN_OWNERSHIP record (R630, R631, R639, R640, R646). -/
def changeOwner (mine : Bool) (cause at_ : Nat) (s : State) : State :=
  let old : Int := if s.twin.owner then 0 else 1
  let new : Int := if mine then 0 else 1
  let s := modTwin (fun t => { t with owner := mine, ownerOut := mine, txSel := mine && t.aliveOut, handovers := t.handovers + 1,
                                      lastSwitch := BitVec.ofNat 32 at_ }) s
  let body := payload 16 [(0, 1, old), (1, 1, new), (2, 1, cause), (4, 4, (at_ % 2 ^ 32 : Nat)), (8, 1, s.twin.peer.toNat)]
  systemRecord 1 1 0x0030 deviceWriter body
    [eventAt s 0x0C04 1 0xFFFF (payload 16 [(0, 1, old), (1, 1, new), (2, 1, cause), (4, 4, (at_ % 2 ^ 32 : Nat))])] s

/-- The claim of a start: it is no switch, and no cause of R646 names it, so that no record is written. -/
def claimService (s : State) : State :=
  modTwin (fun t => { t with owner := true, ownerOut := true, txSel := t.aliveOut }) s

/-- RF-ready in a twin pair (R631, R632): ALIVE_OUT runs, and the even device claims ownership. -/
def twinReady (s : State) : State :=
  if !twinStrapped s then s
  else
    let s := modTwin (fun t => { t with aliveOut := true, ownerLowAt := if t.ownerIn then t.ownerLowAt else s.slowTicks }) s
    if deviceAddress s % 2 = 0 then claimService s else s

/-- RF-ready in COMPAT mode (R651): the legacy registers answer; the power limits read the House Rules maxima. -/
def legacyReady (s : State) : State :=
  if s.sys.mode = .compat then
    { s with compat := { s.compat with ready := true, dlLimit := BitVec.ofInt 16 (s.hr.rules.pCompMax[(4 : Fin 8)] / 50),
                                       ulLimit := BitVec.ofInt 16 (s.hr.rules.pCompMax[(0 : Fin 8)] / 50) } }
  else s

/-- RF_READY (R564, R568, R601): the device leaves STARTING; channels go on from MUTED under their stability machines. -/
def execRfReady (s : State) : Host.Outcome State Fault Refusal :=
  .next (if s.sys.coreUp && s.sys.innkeeper == .running && !s.sys.rfReady && replayDone s && blocksFormed s then
      let ms := Config.bootMs s.sys.startKind + s.slowTicks
      let s := calibratePlans s
      let chans := ((List.finRange 64).filter (fun c => (chan c s).state == .active)).length
      let s := modSys (fun v => { v with rfReady := true, rfReadyMs := min 65535 ms }) s
      let s := if s.sys.power = .starting ∧ s.sys.transition = .none then
          powerRecord .starting .active 0 deviceWriter (modSys (fun v => { v with power := .active }) s)
        else s
      legacyReady (twinReady (systemRecord 1 0 0x0015 deviceWriter (payload 16 [(0, 4, ms), (4, 1, chans)]) [] s))
    else s)

/-! ## SLEEP (R573-R576) -/

/-- SLEEP entry step 1: ports stopped for POWER_STATE and the port rails stopped, without a DEVICE_STOP record (R575). -/
def beginSleep (s : State) : State :=
  let s := beginStop reasonPowerState (modSys (fun v => { v with transition := .sleeping 1 }) s)
  if portRailsOff s then modSys (fun v => { v with transition := .sleeping 2 }) s else s

/-- SLEEP entry steps 2 to 4: the sleep image and the calibrations, the Guestbook, then the wait for L2 (R575). -/
def sleepCommit (writer : Nat) (s : State) : State :=
  let s := modSys (fun v => { v with sleepImage := configImage true s, calStore := Vector.ofFn (fun p => (s.ports[p].pCalTx, s.ports[p].pCalRx)) }) s
  let s := powerRecord s.sys.power .sleep 0 writer (closeTail s)
  let s := commitAll (takeEntries s.gb.queue.length s)
  modSys (fun v => { v with transition := .sleeping 4, l2WaitSince := some s.slowTicks }) s

/-- A wake (R574, R576): its cause is kept, WAKE_N is driven while PERST_N is asserted, and a cold start begins. -/
def wake (cause : Nat) (receivers : Byte) (s : State) : State :=
  let s := modNpt (fun n => { n with wakeCause := cause, receivers := receivers, wakes := n.wakes + 1, wakeLatched := none }) s
  bootCore (modSys (fun v => { v with power := .starting, startKind := 2, wakeN := v.perst }) s)

/-- A wake cause: it wakes a sleeping device, and is latched after SLEEP entry's commit point (R575). -/
def wakeCause (cause : Nat) (receivers : Byte) (s : State) : State :=
  if s.sys.power = .sleep ∧ !s.sys.coreUp then wake cause receivers s
  else if s.sys.transition = .sleeping 4 then modNpt (fun n => { n with wakeLatched := some cause, receivers := receivers }) s
  else s

/-- SLEEP_L2_WAIT_END (R575 step 5): every phase off; a latched cause wakes the device at once. The auto-sleep policy is kept (R579). -/
def execSleepL2WaitEnd (s : State) : Host.Outcome State Fault Refusal :=
  .next (if s.sys.transition = .sleeping 4 then
      let after := s.sys.sleepAfterS
      let hold := s.sys.wakeHoldS
      let s := modSys (fun v => { v with power := .sleep, sleepAfterS := after, wakeHoldS := hold }) (coreReset false s)
      match s.sys.npt.wakeLatched with
      | some c => wake c s.sys.npt.receivers s
      | none => s
    else s)

/-- A wake receiver detects: its level, in 0.01 dBm, has been at or above its threshold in its latest `looks` looks (R578, R603). -/
def WakeCfg.detects (w : WakeCfg) (levels : List Int) : Bool :=
  let n := w.looks.toNat
  decide (1 ≤ n ∧ n ≤ levels.length) && (levels.drop (levels.length - n)).all (fun v => decide (100 * (w.threshold.toNat : Int) - 7000 ≤ v))

/-- The enabled receivers that detect, by the levels of their looks so far, the oldest first (R578). -/
def detecting (levels : Vector (List Int) 8) (s : State) : List (Fin 8) :=
  (List.finRange 8).filter (fun n => s.sys.npt.wk[n].enable && s.sys.npt.wk[n].detects levels[n])

/-- WAKE_DETECT (R574, R578): cause 1 when a CARRIER receiver detected, else 2. -/
def execWakeDetect (levels : Vector (List Int) 8) (s : State) : Host.Outcome State Fault Refusal :=
  let hit := detecting levels s
  let mask := BitVec.ofNat 8 (hit.map (fun n => 2 ^ n.val)).sum
  .next (if hit.isEmpty then s else wakeCause (if hit.any (fun n => !s.sys.npt.wk[n].activity) then 1 else 2) mask s)

/-- The operating time moves on to an instant in µs, whether the core runs or not (R532). -/
def operatingTo (us : Nat) (s : State) : State :=
  if s.sys.coreUp then advanceTo (opInstant us s) s else { s with opBase := s.opBase + (us - opTime s) }

/-- WALL_CLOCK_ALARM (R574, R603): the wall clock reaches NPT_ALARM, which lies at the present second or later; 0 is off. -/
def execWallClockAlarm (s : State) : Host.Outcome State Fault Refusal :=
  let a := s.sys.npt.alarm
  .next (if a != 0 && s.gb.wallValid && decide ((wallNow s).toNat ≤ a.toNat) then
      wakeCause 4 0 (operatingTo (s.gb.wallBaseUs + 1000000 * (a.toNat - s.gb.wallSeconds.toNat)) s)
    else s)

/-- PERST_RELEASE (R574, R563 step 5): a wake cause in SLEEP; otherwise the link trains, except where the end of the interface's reset is still to
come (R112), and configuration-ready follows. -/
def execPerstRelease (s : State) : Host.Outcome State Fault Refusal :=
  .next (if s.sys.perst then
      let s := modSys (fun v => { v with perst := false, wakeN := false, cfgReady := v.coreUp && v.innkeeper != .starting }) s
      let s := if s.sys.cfgReady && !s.hif.inReset then trainLink s else s
      wakeCause 3 0 s
    else s)

/-- Every UL direction is muted for DONOR_LOSS; a device with no UL direction is not silent for that reason (R573, log entry 52). -/
def donorAllLost (s : State) : Bool :=
  let uls := (liveDirs s).filter (fun e => e.2 == .ul)
  !uls.isEmpty && uls.all (fun e => hasReason (direction e.1 e.2 s).gain.reasons reasonDonorLoss)

/-- Since when every UL direction has been so muted, kept at the slow tick. -/
def lossTick (s : State) : State :=
  modSys (fun v => { v with lossSinceTick := if donorAllLost s then some (v.lossSinceTick.getD s.slowTicks) else none }) s

/-- SLEEP may be entered: House Rules permit it and no twin is in lockstep (R568, R598). -/
def sleepRefused (s : State) : Option Reject :=
  firstOf [refuseIf (!s.hr.rules.sleepPermitted) (badState 0x0010), refuseIf (s.twin.state == .lockstep) (badState 0x0014)]

/-- AUTO_SLEEP (R573). -/
def execAutoSleep (s : State) : Host.Outcome State Fault Refusal :=
  .next (if s.sys.coreUp && s.sys.sleepAfterS != 0 && s.sys.lossSinceTick.any (fun t => decide (t + 1000 * s.sys.sleepAfterS ≤ s.slowTicks)) &&
      s.sys.wokeTick.all (fun t => decide (t + 1000 * s.sys.wakeHoldS ≤ s.slowTicks)) && (sleepRefused s).isNone && s.sys.transition == .none &&
      (s.sys.power == .active || s.sys.power == .quiet || s.sys.power == .stopped) then beginSleep s
    else s)

/-! ## Power commands (R598) -/

/-- Checks of DEVICE_INFO. -/
def checkDeviceInfo (r : Running) (_s : State) : Option Reject := common false [] .none r.desc

/-- Identity, mode, straps, power state, House Rules, patch. -/
def effectDeviceInfo (_r : Running) (s : State) : Ans × State :=
  (doneWith (result [(0, 4, 0x00B06400), (4, 1, s.sys.mode.code), (5, 1, (s.sys.straps.devid.toNat : Int) + 16 * flagBit s.sys.straps.twinSel),
    (6, 1, s.sys.power.code), (7, 1, if s.sys.power = .stopped then s.sys.stopReason else 0), (8, 1, s.sys.straps.bootv.toNat),
    (9, 1, generationByte s), (10, 1, flagBit s.hr.locked), (12, 4, patchVersion s)]), s)

/-- DEVICE_INFO (R598). -/
def opDeviceInfo (r : Running) (s : State) : Ans × State := guarded checkDeviceInfo effectDeviceInfo r s

/-- DEVICE_RESET's confirm. -/
def checkDeviceReset (r : Running) (_s : State) : Option Reject :=
  firstOf [common false [(0, 4)] .none r.desc, refuseIf (par r.desc 0 4 != 0xA55A) (badParam detBadField)]

/-- DONE, and a reset 1 ms later. -/
def effectDeviceReset (_r : Running) (s : State) : Ans × State := (doneWith 0, orderReset 1 s)

/-- DEVICE_RESET (R598). -/
def opDeviceReset (r : Running) (s : State) : Ans × State := guarded checkDeviceReset effectDeviceReset r s

/-- STOP_CONDITION (R718). -/
def stopCondition : Reject := (.rejectedState, 0x0011)

/-- Checks of POWER_STATE_SET (R568, R598, R718). -/
def checkPowerStateSet (r : Running) (s : State) : Option Reject :=
  let x := r.desc
  let t := par x 0 1
  let p := s.sys.power
  firstOf [common false [(0, 1), (4, 2), (6, 2)] .none x,
    refuseIf (!([1, 2, 4, 0xFE].contains t) || (par x 4 2 != 0 && decide (par x 4 2 < 10)) || (par x 6 2 != 0 && badRange 10 3600 (par x 6 2))) (badParam detBadField),
    refuseIf (t != 0xFE && s.sys.transition != .none) (badState 0x0013),
    refuseIf ((t == 1 || t == 2) && p != .active && p != .quiet) (badState detPowerState),
    refuseIf (t == 4 && p != .active && p != .quiet && p != .stopped) (badState detPowerState),
    if t = 4 then sleepRefused s else none]

/-- The auto-sleep policy of a POWER_STATE_SET. -/
def setPolicy (x : Desc) (s : State) : State :=
  modSys (fun v => { v with sleepAfterS := par x 4 2, wakeHoldS := if par x 6 2 = 0 then v.wakeHoldS else par x 6 2 }) s

/-- A change between ACTIVE and QUIET: frozen directions start or stop being frozen (R569). -/
def setPower (v : PowerState) (writer : Nat) (s : State) : State :=
  let was := frozenNow s
  let old := s.sys.power
  powerRecord old v 0 writer (refreeze was (modSys (fun x => { x with power := v, transition := .none }) s))

/-- The first step of POWER_STATE_SET. -/
def beginPowerStateSet (r : Running) (s : State) : Ans × State :=
  let t := par r.desc 0 1
  let s := setPolicy r.desc s
  if t = 0xFE ∨ (t = 1 ∧ s.sys.power = .active) ∨ (t = 2 ∧ s.sys.power = .quiet) then (doneWith 0, s)
  else if t = 1 then (doneWith 0, setPower .active (writerOf r.desc.ring.val) s)
  else if t = 2 then (.stay { r with wait := .none, phase := 1 }, modSys (fun v => { v with transition := .quieting }) s)
  else (awaitState r 2 [], beginSleep s)

/-- QUIET reached, or pre-empted by an orderly stop (R718). -/
def endQuiet (r : Running) (s : State) : Ans × State :=
  if s.sys.transition = .quieting then (doneWith 0, setPower .quiet (writerOf r.desc.ring.val) s) else (refuse stopCondition, s)

/-- The commit of a SLEEP entry, or its pre-emption (R575, R718). -/
def endSleep (r : Running) (s : State) : Ans × State :=
  match s.sys.transition with
  | .sleeping 2 => (doneWith 0, sleepCommit (writerOf r.desc.ring.val) s)
  | .sleeping 4 => (doneWith 0, s)
  | .sleeping _ => (.stay r, s)
  | _ => (refuse stopCondition, s)

/-- POWER_STATE_SET (R575, R598). -/
def opPowerStateSet (r : Running) (s : State) : Ans × State :=
  match r.phase with
  | 0 => guarded checkPowerStateSet beginPowerStateSet r s
  | 1 => endQuiet r s
  | _ => endSleep r s

/-- Checks of ORDERLY_STOP (R718). -/
def checkOrderlyStop (r : Running) (s : State) : Option Reject :=
  firstOf [common false [] .none r.desc, refuseIf (s.sys.transition != .none) (badState 0x0013)]

/-- The first step of ORDERLY_STOP; a device already STOPPED takes the reason HOST (R598). -/
def beginOrderlyStop (r : Running) (s : State) : Ans × State :=
  let w := writerOf r.desc.ring.val
  if s.sys.power = .stopped then
    (doneWith 0, if s.sys.stopReason = 1 then s else
      protRecord 0x0007 2 0xFF 0xFF 0xFF 4 reasonHost {} (modSys (fun v => { v with stopReason := 1, stopSource := none }) s))
  else
    let s := orderlyStop 1 none w s
    if s.sys.power = .stopped then (doneWith 0, s) else (awaitState r 1 [], s)

/-- ORDERLY_STOP (R570, R598). -/
def opOrderlyStop (r : Running) (s : State) : Ans × State :=
  if r.phase = 0 then guarded checkOrderlyStop beginOrderlyStop r s
  else if s.sys.power = .stopped then (doneWith 0, s) else (.stay r, s)

/-- The recovery rule of the stop in force is met (R571, R572). -/
def stopRuleMet (s : State) : Bool :=
  if s.sys.stopReason = 3 then stopSourceClear s else if s.sys.stopReason = 4 then decide (60000 ≤ s.thermal.below) else true

/-- Checks of RESTART (R572, R598, R718). -/
def checkRestart (r : Running) (s : State) : Option Reject :=
  firstOf [common false [] .none r.desc, refuseIf (s.sys.transition != .none) (badState 0x0013),
    refuseIf (s.sys.power != .stopped) (badState 0x0012), refuseIf (!stopRuleMet s) (some stopCondition)]

/-- What a RESTART under way has come to. -/
def restartAnswer (r : Running) (s : State) : Ans :=
  if s.sys.abandonedRestart then refuse stopCondition
  else match s.sys.transition with
    | .restarting _ => awaitState r 1 []
    | _ => if s.sys.power = .active then doneWith 0 else refuse stopCondition

/-- The first step of RESTART. -/
def effectRestart (r : Running) (s : State) : Ans × State :=
  let s := beginRestart false s
  (restartAnswer r s, s)

/-- RESTART (R572, R598). -/
def opRestart (r : Running) (s : State) : Ans × State :=
  if r.phase = 0 then guarded checkRestart effectRestart r s else (restartAnswer r s, s)

end Sys2Proof.Machine
end

