-- ==== Sys2Proof/Machine/Compat.lean ====
section
/-! DEFINITION. The compatibility mode: the legacy register file, its SPI port and window, the commands its writes issue, the safety net's
release (15_compatibility_mode.md). -/

namespace Sys2Proof.Machine

/-- Change of the compatibility logic. -/
def modCompat (f : Compat → Compat) (s : State) : State := { s with compat := f s.compat }

/-- Legacy channel n. -/
def gqChan (n : Fin 16) (s : State) : GqChan := s.compat.chans[n]

/-- Change of a legacy channel. -/
def modGqChan (n : Fin 16) (f : GqChan → GqChan) (s : State) : State := modCompat (fun c => { c with chans := c.chans.set n (f c.chans[n]) }) s

/-- Direction of a legacy channel. -/
def GqChan.dir (g : GqChan) (d : Dir) : GqDir := if d = .ul then g.ul else g.dl

/-- The channel that a legacy channel is (R661). -/
def legacyChannel (n : Fin 16) : Fin 64 := ⟨n.val, by omega⟩

/-! ## GQ_ERROR (R663) -/

/-- An error shown in GQ_ERROR. -/
def gqError (codeOf : Nat) (s : State) : State := modCompat (fun c => { c with error := BitVec.ofNat 8 codeOf, errorValid := true }) s

/-- A write that the register file takes now; otherwise its error: NOT_READY (R651), BUSY (R660). -/
def gqGate (write : State → State) (s : State) : State :=
  if s.sys.mode ≠ .compat ∨ s.sys.coreUp = false then s
  else if !s.compat.ready then gqError 2 s
  else if s.compat.softReset then gqError 0x0A s
  else write s

/-! ## Commands (R658-R661) -/

/-- A command of the compatibility logic: opcode, parameter fields, data buffer. -/
abbrev LegacyCmd := Nat × List (Nat × Nat × Int) × List Byte

/-- Its descriptor. -/
def legacyDesc (tag : Half) (x : LegacyCmd) : Desc :=
  { ring := 20, opcode := BitVec.ofNat 16 x.1, tag := tag, flags := 0, timeoutMs := 0xFFFF, effCount := 0, dataLen := BitVec.ofNat 32 x.2.2.length,
    dataAddr := 0, params := BitVec.ofNat 320 (layout x.2.1), data := x.2.2, readOk := true }

/-- One command queued, with the register that waits for it (R659). -/
def queueLegacy (addr : Nat) (before : Half) (last : Bool) (x : LegacyCmd) (s : State) : State :=
  let tag := s.compat.nextTag
  let s := modCompat (fun c => { c with nextTag := tag + 1, waits := c.waits ++ [{ tag := tag, addr := addr, before := before, last := last }] }) s
  modSource 20 (fun q => { q with fetched := q.fetched ++ [{ desc := legacyDesc tag x, order := 0, cancelled := false }], readySince := some (q.readySince.getD s.now) }) s

/-- The commands of a write queued in order. -/
def queueAll (addr : Nat) (before : Half) : List LegacyCmd → State → State
  | [], s => s
  | x :: rest, s => queueAll addr before rest (queueLegacy addr before rest.isEmpty x s)

/-- A write takes effect with its commands; one that finds the queue of 32 full is refused (R658, R659). -/
def gqIssue (addr : Nat) (before : Half) (cmds : List LegacyCmd) (change : State → State) (s : State) : State :=
  if 32 < (source 20 s).fetched.length + cmds.length then gqError 8 s else queueAll addr before cmds (change s)

/-- Address of a channel register. -/
def chanAddr (n : Fin 16) (off : Nat) : Nat := 0x100 + 0x20 * n.val + off

/-- Enabled legacy channels. -/
def gqEnabled (s : State) : List (Fin 16) := (List.finRange 16).filter (fun n => (gqChan n s).enable)

/-- CHANNEL_MUTE of directions of a legacy channel. -/
def muteCmd (n : Fin 16) (mask : Nat) (on : Bool) : LegacyCmd := (0x0114, [(0, 1, n.val), (1, 1, mask), (2, 1, flagBit on)], [])

/-- CHANNEL_REMOVE of a legacy channel. -/
def removeCmd (n : Fin 16) : LegacyCmd := (0x0112, [(0, 1, n.val)], [])

/-- The definition of R661 for a legacy channel. -/
def legacyDefinition (n : Fin 16) (g : GqChan) : List Byte :=
  payload 80 [(0, 1, n.val), (1, 1, g.bw.toNat), (2, 1, 0), (3, 1, 0xFF), (4, 1, 1), (5, 1, 1), (6, 1, 1), (7, 1, 1), (8, 8, 1000 * g.dl.freq),
    (16, 8, 1000 * g.ul.freq), (24, 2, 50 * g.dl.gain.toNat), (26, 2, 50 * g.ul.gain.toNat), (66, 1, 0xFF), (67, 1, 0xFF), (68, 1, 0xFF), (69, 1, 0xFF)]

/-- Mask of the directions that a legacy channel's registers mute: both while run is 0 (R660). -/
def legacyMask (g : GqChan) (run : Bool) : Nat := if run then (if g.dl.mute then 1 else 0) + (if g.ul.mute then 2 else 0) else 3

/-- SQUELCH_CONFIGURE with the defaults of R248. -/
def squelchCmd (n : Fin 16) (on : Bool) : LegacyCmd :=
  (0x0304, [(0, 1, n.val), (1, 1, flagBit on), (2, 2, 2000), (4, 2, 500), (6, 2, 5), (8, 2, 100)], [])

/-- Commands of a creation: the channel, its mutes, and the stored squelch setting (R659, R660, R661). -/
def createCmds (n : Fin 16) (g : GqChan) (run : Bool) : List LegacyCmd :=
  [((0x0110, [], legacyDefinition n g) : LegacyCmd)] ++ (if legacyMask g run = 0 then [] else [muteCmd n (legacyMask g run) true]) ++
  (if g.squelch then [squelchCmd n true] else [])

/-! ## Reading (R657, R664) -/

/-- GQ_STATUS.busy (R658). -/
def gqBusy (s : State) : Bool :=
  let q := source 20 s
  !q.fetched.isEmpty || q.running.isSome || !q.continuing.isEmpty

/-- GQ_ALARM. -/
def gqAlarm (s : State) : BitVec 4 :=
  let c := s.compat
  let any := c.chans.toList.any (fun g => g.dl.osc || g.ul.osc || g.dl.overPower || g.ul.overPower || g.donorLoss)
  BitVec.ofBool c.alarmPower ++ BitVec.ofBool c.alarmTemp ++ BitVec.ofBool c.alarmFault ++ BitVec.ofBool any

/-- ALARM_N is asserted; it is released in NATIVE mode and in reset (R671). -/
def alarmAsserted (s : State) : Bool := s.sys.mode == .compat && s.sys.coreUp && (gqAlarm s &&& s.compat.alarmEn) != 0

/-- A word of single bits, lowest first. -/
def bitWord (l : List Bool) : Nat := (l.zipIdx.map (fun e => if e.1 then 2 ^ e.2 else 0)).sum

/-- GQ_STATUS. -/
def gqStatus (s : State) : Half := BitVec.ofNat 16 (bitWord [s.compat.ready, alarmAsserted s, gqBusy s, s.compat.errorValid])

/-- CHn_CTRL. -/
def ctrlWord (g : GqChan) : Half :=
  BitVec.ofNat 16 (bitWord [g.enable, g.dl.mute, g.ul.mute, g.bw.getLsbD 0, g.bw.getLsbD 1, g.squelch])

/-- A direction transmits unmuted (R664). -/
def legacyOn (n : Fin 16) (d : Dir) (s : State) : Bool :=
  dirLive (legacyChannel n) d s && !isSilent (direction (legacyChannel n) d s) s

/-- CHn_STATUS. -/
def chanStatus (n : Fin 16) (s : State) : Half :=
  let measuring (d : Dir) : Bool := dirLive (legacyChannel n) d s && (direction (legacyChannel n) d s).stab.measuring.isSome
  BitVec.ofNat 16 (bitWord [(chan (legacyChannel n) s).state == .active, legacyOn n .dl s, legacyOn n .ul s, measuring .dl || measuring .ul])

/-- A channel register at an offset. -/
def chanRegister (n : Fin 16) (off : Nat) (s : State) : Half :=
  let g := gqChan n s
  match off with
  | 0x00 => ctrlWord g
  | 0x02 => g.dl.hi.setWidth 16
  | 0x04 => g.dl.lo
  | 0x06 => g.ul.hi.setWidth 16
  | 0x08 => g.ul.lo
  | 0x0A => g.dl.gain.setWidth 16
  | 0x0C => g.ul.gain.setWidth 16
  | 0x0E => chanStatus n s
  | 0x10 => BitVec.ofNat 16 (bitWord [g.dl.osc, g.ul.osc, g.dl.overPower, g.ul.overPower, g.donorLoss])
  | 0x12 => BitVec.ofNat 16 g.dl.iso
  | 0x14 => BitVec.ofNat 16 g.ul.iso
  | 0x16 => g.dl.power
  | 0x18 => g.ul.power
  | 0x1A => BitVec.ofNat 16 (g.dl.applied.toNat + (if g.dl.muted then 256 else 0))
  | 0x1C => BitVec.ofNat 16 (g.ul.applied.toNat + (if g.ul.muted then 256 else 0))
  | _ => 0

/-- Registers below 0x020 and from 0xF00 on. -/
def globalRegister (addr : Nat) (s : State) : Half :=
  let c := s.compat
  match addr with
  | 0x000 => 0x4710
  | 0x002 => 0x00C3
  | 0x004 => BitVec.ofNat 16 (bitWord [c.run, c.agl, c.softReset])
  | 0x006 => gqStatus s
  | 0x008 => (gqAlarm s).setWidth 16
  | 0x00A => c.alarmEn.setWidth 16
  | 0x00C => c.dlHi.setWidth 16
  | 0x00E => c.dlLo
  | 0x010 => c.ulHi.setWidth 16
  | 0x012 => c.ulLo
  | 0x014 => c.margin.setWidth 16
  | 0x016 => c.temp
  | 0x018 => c.dlLimit
  | 0x01A => c.ulLimit
  | 0x01C => BitVec.ofNat 16 (c.lossAbsent.toNat + (if c.lossEnable then 32 else 0))
  | 0x01E => BitVec.ofNat 16 (c.error.toNat + (if c.errorValid then 256 else 0))
  | 0xF00 => 0x6400
  | 0xF02 => BitVec.ofNat 16 (bitWord (c.chans.toList.map (fun g => g.dl.net)))
  | 0xF04 => BitVec.ofNat 16 (bitWord (c.chans.toList.map (fun g => g.ul.net)))
  | 0xF06 => c.netEvents
  | _ => 0

/-- A legacy register; 0 until ready (R651), and 0 where none is (R58). -/
def gqRegister (addr : Nat) (s : State) : Half :=
  if !s.compat.ready then 0
  else if 0x100 ≤ addr ∧ addr < 0x300 then chanRegister (Fin.ofNat 16 ((addr - 0x100) / 0x20)) ((addr - 0x100) % 0x20) s
  else globalRegister addr s

/-- A _HI register, whose _LO partner lies at the next address (R657). -/
def isHi (addr : Nat) : Bool :=
  addr == 0x00C || addr == 0x010 || (decide (0x100 ≤ addr) && decide (addr < 0x300) && (addr % 0x20 == 2 || addr % 0x20 == 6))

/-- A read (R657): a _HI register latches its partner, and a latched _LO register answers once. -/
def gqRead (addr : Nat) (s : State) : Half × State :=
  let addr := addr % 0x1000 / 2 * 2
  match s.compat.latched.find? (fun e => e.1 == addr) with
  | some e => (e.2, modCompat (fun c => { c with latched := c.latched.filter (fun e => e.1 != addr) }) s)
  | none =>
    let v := gqRegister addr s
    if isHi addr && s.compat.ready then
      (v, modCompat (fun c => { c with latched := c.latched.filter (fun e => e.1 != addr + 2) ++ [(addr + 2, gqRegister (addr + 2) s)] }) s)
    else (v, s)

/-- GQ_HI_READ (R657). -/
def execGqHiRead (addr : BitVec 12) (s : State) : Host.Outcome State Fault Refusal :=
  .next (if s.sys.mode = .compat ∧ s.sys.coreUp then (gqRead addr.toNat s).2 else s)

/-! ## Writing (R659, R660) -/

/-- GQ_CTRL. -/
def gqCtrlWord (s : State) : Half := BitVec.ofNat 16 (bitWord [s.compat.run, s.compat.agl, s.compat.softReset])

/-- Unmuting commands of run 0 to 1: every direction whose mute bit is 0. -/
def unmuteCmds (s : State) : List LegacyCmd :=
  (gqEnabled s).filterMap (fun n =>
    let mask := 3 - legacyMask (gqChan n s) true
    if mask = 0 then none else some (muteCmd n mask false))

/-- Commands of a write of GQ_CTRL.run: a change mutes every enabled channel, or unmutes it (R660). -/
def runCmds (run : Bool) (s : State) : List LegacyCmd :=
  if run = s.compat.run then [] else if run then unmuteCmds s else (gqEnabled s).map (fun n => muteCmd n 3 true)

/-- GQ_CTRL.run written. -/
def runWrite (run : Bool) (s : State) : State := gqIssue 0x004 (gqCtrlWord s) (runCmds run s) (modCompat (fun c => { c with run := run })) s

/-- GQ_RUN_CLEAR (R660). -/
def execGqRunClear (s : State) : Host.Outcome State Fault Refusal := .next (gqGate (runWrite false) s)

/-- GQ_RUN_SET (R660). -/
def execGqRunSet (s : State) : Host.Outcome State Fault Refusal := .next (gqGate (runWrite true) s)

/-- Every legacy register at its reset value; what the firmware cannot see goes on. -/
def legacyReset (s : State) : State := legacyReady (modCompat (fun c => { Compat.reset with nextTag := c.nextTag }) s)

/-- GQ_CTRL written with soft_reset: every legacy channel is removed after the commands of the other bits, then the registers reset. -/
def softReset (run agl : Bool) (s : State) : State :=
  let cmds := runCmds run s ++ (gqEnabled s).map removeCmd
  if cmds.isEmpty && !gqBusy s then legacyReset s
  else gqIssue 0x004 (gqCtrlWord s) cmds (modCompat (fun c => { c with run := run, agl := agl, softReset := true })) s

/-- GQ_SOFT_RESET (R660). -/
def execGqSoftReset (s : State) : Host.Outcome State Fault Refusal := .next (gqGate (fun s => softReset s.compat.run s.compat.agl s) s)

/-- A frequency pair in kHz. -/
def pairKhz (hi : BitVec 7) (lo : Half) : Nat := hi.toNat * 65536 + lo.toNat

/-- Commands of a centre write: both streams at rate code 0, their groups (R660). -/
def centreCmds (dl ul : Nat) : List LegacyCmd :=
  [(0x0102, [(0, 1, 0x11), (1, 1, 0)], payload 32 [(0, 8, 1000 * dl), (8, 8, 1000 * ul), (16, 8, 1000 * ul), (24, 8, 1000 * dl)]),
   (0x0100, [(0, 1, 1), (1, 1, 1)], [])]

/-- A centre _LO write: the pair is applied; refused while any channel is enabled. -/
def centreWrite (d : Dir) (lo : Half) (s : State) : State :=
  let c := s.compat
  if !(gqEnabled s).isEmpty then gqError 9 s
  else if d = .ul then
    let khz := pairKhz c.ulHi lo
    gqIssue 0x012 c.ulLo (centreCmds c.dlCentre khz) (modCompat (fun c => { c with ulLo := lo, ulCentre := khz })) s
  else
    let khz := pairKhz c.dlHi lo
    gqIssue 0x00E c.dlLo (centreCmds khz c.ulCentre) (modCompat (fun c => { c with dlLo := lo, dlCentre := khz })) s

/-- GQ_CENTRE_WRITE (R660). -/
def execGqCentreWrite (d : Dir) (lo : Half) (s : State) : Host.Outcome State Fault Refusal := .next (gqGate (centreWrite d lo) s)

/-- CHANNEL_MUTE of the directions whose mute bits change; nothing is unmuted while run is 0. -/
def muteCmds (n : Fin 16) (g g' : GqChan) (run : Bool) : List LegacyCmd :=
  let on := (if g'.dl.mute && !g.dl.mute then 1 else 0) + (if g'.ul.mute && !g.ul.mute then 2 else 0)
  let off := if run then (if !g'.dl.mute && g.dl.mute then 1 else 0) + (if !g'.ul.mute && g.ul.mute then 2 else 0) else 0
  (if on = 0 then [] else [muteCmd n on true]) ++ (if off = 0 then [] else [muteCmd n off false])

/-- Commands of a change of CHn_CTRL (R660): enable creates or removes the channel, a new bw of an enabled channel removes and creates it (R662), mute
and squelch bits set it. A channel that does not exist takes none. -/
def ctrlCmds (n : Fin 16) (g g' : GqChan) (run : Bool) : List LegacyCmd :=
  if g.enable then
    if !g'.enable then [removeCmd n]
    else if g'.bw ≠ g.bw then removeCmd n :: createCmds n g' run
    else muteCmds n g g' run ++ (if g'.squelch = g.squelch then [] else [squelchCmd n g'.squelch])
  else if g'.enable then createCmds n g' run
  else []

/-- CHn_CTRL written: one write, with all its commands or refused as a whole (R656, R658, R659). -/
def ctrlChange (n : Fin 16) (f : GqChan → GqChan) (s : State) : State :=
  let g := gqChan n s
  gqIssue (chanAddr n 0) (ctrlWord g) (ctrlCmds n g (f g) s.compat.run) (modGqChan n f) s

/-- CH_ENABLE_SET (R660, R661). -/
def execChEnableSet (n : Fin 16) (s : State) : Host.Outcome State Fault Refusal :=
  .next (gqGate (ctrlChange n (fun g => { g with enable := true })) s)

/-- CH_ENABLE_CLEAR (R660). -/
def execChEnableClear (n : Fin 16) (s : State) : Host.Outcome State Fault Refusal :=
  .next (gqGate (ctrlChange n (fun g => { g with enable := false })) s)

/-- A legacy channel with its mute bits. -/
def GqChan.muted (dlMute ulMute : Bool) (g : GqChan) : GqChan := { g with dl := { g.dl with mute := dlMute }, ul := { g.ul with mute := ulMute } }

/-- CH_MUTE_WRITE (R660). -/
def execChMuteWrite (n : Fin 16) (dlMute ulMute : Bool) (s : State) : Host.Outcome State Fault Refusal :=
  .next (gqGate (ctrlChange n (GqChan.muted dlMute ulMute)) s)

/-- CH_BW_WRITE (R662): bw 3 is BAD_VALUE. -/
def execChBwWrite (n : Fin 16) (bw : BitVec 2) (s : State) : Host.Outcome State Fault Refusal :=
  .next (gqGate (if bw = 3 then gqError 3 else ctrlChange n (fun g => { g with bw := bw })) s)

/-- CH_SQUELCH_WRITE (R660). -/
def execChSquelchWrite (n : Fin 16) (on : Bool) (s : State) : Host.Outcome State Fault Refusal :=
  .next (gqGate (ctrlChange n (fun g => { g with squelch := on })) s)

/-- A legacy channel with one direction changed. -/
def GqChan.setDir (g : GqChan) (d : Dir) (f : GqDir → GqDir) : GqChan := if d = .ul then { g with ul := f g.ul } else { g with dl := f g.dl }

/-- A frequency _LO write applies the pair: CHANNEL_MODIFY of an enabled channel. -/
def freqWrite (n : Fin 16) (d : Dir) (lo : Half) (s : State) : State :=
  let g := gqChan n s
  let g' := g.setDir d (fun x => { x with lo := lo, freq := pairKhz x.hi lo })
  gqIssue (chanAddr n (if d = .ul then 8 else 4)) (g.dir d).lo (if g.enable then [(0x0111, [], legacyDefinition n g')] else []) (modGqChan n (fun _ => g')) s

/-- CH_FREQ_WRITE (R660). -/
def execChFreqWrite (n : Fin 16) (d : Dir) (lo : Half) (s : State) : Host.Outcome State Fault Refusal := .next (gqGate (freqWrite n d lo) s)

/-- A gain write: GAIN_SET with the value times 50 (R660); above 220 is BAD_VALUE. -/
def gainWrite (n : Fin 16) (d : Dir) (gain : Half) (s : State) : State :=
  let g := gqChan n s
  let v := gain.setWidth 8
  if 220 < v.toNat then gqError 3 s
  else
    let fields : List (Nat × Nat × Int) := if d = .ul then [(0, 1, n.val), (2, 2, 0xFFFF), (4, 2, 50 * v.toNat)] else [(0, 1, n.val), (2, 2, 50 * v.toNat), (4, 2, 0xFFFF)]
    gqIssue (chanAddr n (if d = .ul then 0xC else 0xA)) ((g.dir d).gain.setWidth 16) (if g.enable then [(0x0300, fields, [])] else [])
      (modGqChan n (fun g => g.setDir d (fun x => { x with gain := v }))) s

/-- CH_GAIN_WRITE (R660). -/
def execChGainWrite (n : Fin 16) (d : Dir) (gain : Half) (s : State) : Host.Outcome State Fault Refusal := .next (gqGate (gainWrite n d gain) s)

/-- GQ_MARGIN and GQ_CTRL.agl: the legacy ceiling follows at the next slow tick; above 60 is BAD_VALUE. -/
def marginWrite (margin : Half) (agl : Bool) (s : State) : State :=
  let v := margin.setWidth 8
  if 60 < v.toNat then gqError 3 s else modCompat (fun c => { c with margin := v, agl := agl }) s

/-- GQ_MARGIN_WRITE (R660, R665). -/
def execGqMarginWrite (margin : Half) (agl : Bool) (s : State) : Host.Outcome State Fault Refusal := .next (gqGate (marginWrite margin agl) s)

/-- A power-limit write: POWER_LIMIT_SET of S0 or D0, other fields kept; a value outside the range of R271 is BAD_VALUE. -/
def limitWrite (d : Dir) (limit : Half) (s : State) : State :=
  let p : Nat := if d = .ul then 0 else 4
  if outside (-40) 120 limit.toInt then gqError 3 s
  else
    gqIssue (if d = .ul then 0x01A else 0x018) (if d = .ul then s.compat.ulLimit else s.compat.dlLimit)
      [(0x0302, [(0, 1, 1), (1, 1, p), (4, 2, 50 * limit.toInt), (6, 2, 0x7FFF), (8, 2, 0x7FFF)], [])]
      (modCompat (fun c => if d = .ul then { c with ulLimit := limit } else { c with dlLimit := limit })) s

/-- GQ_POWER_LIMIT_WRITE (R660). -/
def execGqPowerLimitWrite (d : Dir) (limit : Half) (s : State) : Host.Outcome State Fault Refusal := .next (gqGate (limitWrite d limit) s)

/-- The donor-loss return time that a legacy write keeps: that of a channel, or the default of R250. -/
def keptReturnMs (s : State) : Nat :=
  match (liveDirs s).find? (fun e => e.2 == .ul) with
  | some e => (direction e.1 e.2 s).gain.lossReturnMs
  | none => 1000

/-- Donor-loss register. -/
def lossWord (s : State) : Half := globalRegister 0x01C s

/-- A GQ_DONOR_LOSS write: DONOR_LOSS_CONFIGURE of every channel; absent outside 2-20 is BAD_VALUE. -/
def lossWrite (value : Half) (s : State) : State :=
  let absent := value.toNat % 32
  let on := value.getLsbD 5
  if badRange 2 20 absent then gqError 3 s
  else
    gqIssue 0x01C (lossWord s) [(0x0305, [(0, 1, 0xFF), (1, 1, flagBit on), (2, 2, 10 * absent), (4, 2, keptReturnMs s), (6, 2, 0x7FFF)], [])]
      (modCompat (fun c => { c with lossAbsent := BitVec.ofNat 5 absent, lossEnable := on })) s

/-- GQ_DONOR_LOSS_WRITE (R660). -/
def execGqDonorLossWrite (value : Half) (s : State) : Host.Outcome State Fault Refusal := .next (gqGate (lossWrite value) s)

/-- An osc bit written 1: it clears, and a latched oscillation mute is released through the start-up measurement (R669). -/
def oscClear (n : Fin 16) (d : Dir) (s : State) : State :=
  let c := legacyChannel n
  let latched := ((gqChan n s).dir d).oscLatched
  let s := modGqChan n (fun g => g.setDir d (fun x => { x with osc := false, oscLatched := false })) s
  let m := (direction c d s).stab
  if latched && dirLive c d s && m.state == .muted && m.measuring.isNone then startMeasurement c d (-3000) 255 none s else s

/-- CH_OSC_CLEAR (R669). -/
def execChOscClear (n : Fin 16) (d : Dir) (s : State) : Host.Outcome State Fault Refusal := .next (gqGate (oscClear n d) s)

/-- A write of GQ_CTRL: run, agl, soft_reset. -/
def ctrlWrite (v : Half) (s : State) : State :=
  let run := v.getLsbD 0
  let agl := v.getLsbD 1
  if v.getLsbD 2 then softReset run agl s
  else gqIssue 0x004 (gqCtrlWord s) (runCmds run s) (modCompat (fun c => { c with run := run, agl := agl })) s

/-- A write of CHn_CTRL: every bit at once; bw 3 is BAD_VALUE. -/
def chanCtrlWrite (n : Fin 16) (v : Half) (s : State) : State :=
  if v.toNat / 8 % 4 = 3 then gqError 3 s
  else ctrlChange n (fun g => { GqChan.muted (v.getLsbD 1) (v.getLsbD 2) g with
    enable := v.getLsbD 0, bw := BitVec.ofNat 2 (v.toNat / 8), squelch := v.getLsbD 5 }) s

/-- CHn_ALARM: bits written 1 clear (R24, R664). -/
def alarmWrite (n : Fin 16) (v : Half) (s : State) : State :=
  let s := if v.getLsbD 0 then oscClear n .dl s else s
  let s := if v.getLsbD 1 then oscClear n .ul s else s
  modGqChan n (fun g => { g with dl := { g.dl with overPower := g.dl.overPower && !v.getLsbD 2 }, ul := { g.ul with overPower := g.ul.overPower && !v.getLsbD 3 },
                                 donorLoss := g.donorLoss && !v.getLsbD 4 }) s

/-- A channel register written. -/
def chanWrite (n : Fin 16) (off : Nat) (v : Half) (s : State) : State :=
  match off with
  | 0x00 => chanCtrlWrite n v s
  | 0x02 => modGqChan n (fun g => { g with dl := { g.dl with hi := v.setWidth 7 } }) s
  | 0x04 => freqWrite n .dl v s
  | 0x06 => modGqChan n (fun g => { g with ul := { g.ul with hi := v.setWidth 7 } }) s
  | 0x08 => freqWrite n .ul v s
  | 0x0A => gainWrite n .dl v s
  | 0x0C => gainWrite n .ul v s
  | 0x10 => alarmWrite n v s
  | _ => s

/-- A register outside the channels written. -/
def globalWrite (addr : Nat) (v : Half) (s : State) : State :=
  match addr with
  | 0x004 => ctrlWrite v s
  | 0x008 => modCompat (fun c => { c with alarmFault := c.alarmFault && !v.getLsbD 1, alarmTemp := c.alarmTemp && !v.getLsbD 2,
                                          alarmPower := c.alarmPower && !v.getLsbD 3 }) s
  | 0x00A => modCompat (fun c => { c with alarmEn := v.setWidth 4 }) s
  | 0x00C => modCompat (fun c => { c with dlHi := v.setWidth 7 }) s
  | 0x00E => centreWrite .dl v s
  | 0x010 => modCompat (fun c => { c with ulHi := v.setWidth 7 }) s
  | 0x012 => centreWrite .ul v s
  | 0x014 => marginWrite v s.compat.agl s
  | 0x018 => limitWrite .dl v s
  | 0x01A => limitWrite .ul v s
  | 0x01C => lossWrite v s
  | 0x01E => if v.getLsbD 8 then modCompat (fun c => { c with errorValid := false }) s else s
  | _ => s

/-- A 16-bit register write (R651, R659, R660). -/
def gqWrite (addr : Nat) (v : Half) (s : State) : State :=
  let addr := addr % 0x1000 / 2 * 2
  gqGate (fun s => if 0x100 ≤ addr ∧ addr < 0x300 then chanWrite (Fin.ofNat 16 ((addr - 0x100) / 0x20)) ((addr - 0x100) % 0x20) v s else globalWrite addr v s) s

/-! ## Completion of the commands (R659, R663) -/

/-- GQ_ERROR's code of a completion that is neither DONE nor CLAMPED. -/
def legacyErrorCode (st : Status) (detail : Nat) : Nat :=
  if detail = 0x0102 then 4 else if detail = 0x0104 then 5 else if detail = 0x0103 then 6 else if st = .noResource then 7 else 0x0B

/-- A completion that applies its setting. -/
def Status.applies : Status → Bool
  | .done => true
  | .doneLate => true
  | .stepped => true
  | .clamped => true
  | _ => false

/-- Legacy gain of a direction as applied, rounded down to 0.5 dB (R659). -/
def appliedGain8 (n : Fin 16) (d : Dir) (s : State) : Byte := BitVec.ofNat 8 ((direction (legacyChannel n) d s).gain.gt / 50).toNat

/-- The registers a completed command concerns read back what is applied; a later write still waiting keeps its value. -/
def legacyApplied (w : GqWait) (x : Desc) (s : State) : State :=
  let n : Fin 16 := Fin.ofNat 16 ((w.addr - 0x100) / 0x20)
  let free (a : Nat) : Bool := !s.compat.waits.any (fun v => v.addr == a)
  let op := x.opcode.toNat
  if op = 0x0300 ∨ op = 0x0110 then
    let take (d : Dir) (s : State) : State :=
      if free (chanAddr n (if d = .ul then 0xC else 0xA)) then modGqChan n (fun g => g.setDir d (fun v => { v with gain := appliedGain8 n d s })) s else s
    take .ul (take .dl s)
  else if op = 0x0302 ∧ free w.addr then
    modCompat (fun c => { c with dlLimit := if w.addr = 0x018 then BitVec.ofInt 16 (compLimit 4 s / 50) else c.dlLimit,
                                 ulLimit := if w.addr = 0x01A then BitVec.ofInt 16 (compLimit 0 s / 50) else c.ulLimit }) s
  else if op = 0x0305 ∧ s.hr.rules.donorMandatory ∧ free w.addr then modCompat (fun c => { c with lossEnable := true }) s
  else s

/-- A register at its value before a refused write; a frequency follows what is in force (R659). -/
def legacyRestore (w : GqWait) (s : State) : State :=
  let n : Fin 16 := Fin.ofNat 16 ((w.addr - 0x100) / 0x20)
  let off := (w.addr - 0x100) % 0x20
  let v := w.before
  if w.addr < 0x100 then
    match w.addr with
    | 0x004 => modCompat (fun c => { c with run := v.getLsbD 0, agl := v.getLsbD 1 }) s
    | 0x00E => modCompat (fun c => { c with dlLo := v, dlCentre := s.links.streams[(0 : Fin 8)].rxCentre / 1000 }) s
    | 0x012 => modCompat (fun c => { c with ulLo := v, ulCentre := s.links.streams[(0 : Fin 8)].txCentre / 1000 }) s
    | 0x018 => modCompat (fun c => { c with dlLimit := v }) s
    | 0x01A => modCompat (fun c => { c with ulLimit := v }) s
    | 0x01C => modCompat (fun c => { c with lossAbsent := BitVec.ofNat 5 v.toNat, lossEnable := v.getLsbD 5 }) s
    | _ => s
  else
    match off with
    | 0x00 => modGqChan n (fun g => { g with enable := v.getLsbD 0, bw := BitVec.ofNat 2 (v.toNat / 8), squelch := v.getLsbD 5,
                                             dl := { g.dl with mute := v.getLsbD 1 }, ul := { g.ul with mute := v.getLsbD 2 } }) s
    | 0x04 => modGqChan n (fun g => { g with dl := { g.dl with lo := v, freq := (dirDef (legacyChannel n) .dl s).centre / 1000 } }) s
    | 0x08 => modGqChan n (fun g => { g with ul := { g.ul with lo := v, freq := (dirDef (legacyChannel n) .ul s).centre / 1000 } }) s
    | 0x0A => modGqChan n (fun g => { g with dl := { g.dl with gain := v.setWidth 8 } }) s
    | 0x0C => modGqChan n (fun g => { g with ul := { g.ul with gain := v.setWidth 8 } }) s
    | _ => s

/-- Tags of the commands of one write that follow a refused one. -/
def restOfWrite (w : GqWait) : List GqWait → List Half
  | [] => []
  | v :: rest => if w.last || v.addr ≠ w.addr then [] else v.tag :: restOfWrite v rest

/-- A refused write (R659): its register returns, its error shows, the rest of its commands are not issued. -/
def legacyRefused (w : GqWait) (st : Status) (detail : Nat) (s : State) : State :=
  let gone := restOfWrite w s.compat.waits
  let s := modCompat (fun c => { c with waits := c.waits.filter (fun v => !gone.contains v.tag) }) s
  let s := modSource 20 (fun q => { q with fetched := q.fetched.filter (fun f => !gone.contains f.desc.tag) }) s
  gqError (legacyErrorCode st detail) (legacyRestore w s)

/-- A command of the compatibility logic has completed (R659, R660). -/
def legacyDone (x : Desc) (st : Status) (detail : Nat) (s : State) : State :=
  match s.compat.waits.find? (fun w => w.tag == x.tag) with
  | none => s
  | some w =>
    let s := modCompat (fun c => { c with waits := c.waits.filter (fun v => v.tag != x.tag) }) s
    let s := if st.applies then legacyApplied w x s else legacyRefused w st detail s
    if s.compat.softReset && s.compat.waits.isEmpty then legacyReset s else s

/-! ## The ports (R652-R656) -/

/-- Registers read in order from an address (R652, R653). -/
def readBurst (addr : Nat) : Nat → State → List Half × State
  | 0, s => ([], s)
  | k + 1, s =>
    let v := gqRead addr s
    let w := readBurst (addr + 2) k v.2
    (v.1 :: w.1, w.2)

/-- Registers written in order from an address. -/
def writeBurst (addr : Nat) : List Half → State → State
  | [], s => s
  | v :: rest, s => writeBurst (addr + 2) rest (gqWrite addr v s)

/-- LEGACY_SPI_FRAME (R652, R653): a frame or a burst; a last word short of 16 clocks is discarded. -/
def execLegacySpiFrame (header : Half) (words : List Half) (lastWordClocks : Nat) (s : State) : Host.Outcome State Fault Refusal :=
  .next (
    if s.sys.mode ≠ .compat ∨ s.sys.coreUp = false then s
    else
      let status := gqStatus s
      let whole := if lastWordClocks < 16 then words.dropLast else words
      let addr := header.toNat % 0x1000
      let isRead := header.getLsbD 15
      if header.toNat / 0x1000 % 8 ≠ 0 then modCompat (fun c => { c with spiOut := [status] }) (gqError 1 s)
      else if isRead then
        let v := readBurst addr whole.length s
        modCompat (fun c => { c with spiOut := status :: v.1 }) v.2
      else modCompat (fun c => { c with spiOut := status :: whole.map (fun _ => 0) }) (writeBurst addr whole s))

/-- A half of the window is accessed when both its byte enables are set (R655). -/
def halfEnabled (byteEnables : BitVec 4) (k : Nat) : Bool := byteEnables.getLsbD (2 * k) && byteEnables.getLsbD (2 * k + 1)

/-- COMPAT_WINDOW_ACCESS (R655): the halves of a word, the lower address first. -/
def execCompatWindowAccess (isWrite : Bool) (offset : BitVec 12) (value : Word) (byteEnables : BitVec 4) (s : State) :
    Host.Outcome State Fault Refusal :=
  .next (
    if s.sys.mode ≠ .compat ∨ s.sys.coreUp = false then s
    else
      let base := offset.toNat / 4 * 4
      if isWrite then
        let s := if halfEnabled byteEnables 0 then gqWrite base (value.setWidth 16) s else s
        if halfEnabled byteEnables 1 then gqWrite (base + 2) (BitVec.ofNat 16 (value.toNat / 65536)) s else s
      else
        let a := if halfEnabled byteEnables 0 then gqRead base s else (0, s)
        let b := if halfEnabled byteEnables 1 then gqRead (base + 2) a.2 else (0, a.2)
        modCompat (fun c => { c with windowOut := BitVec.ofNat 32 (a.1.toNat + 65536 * b.1.toNat) }) b.2)

/-! ## Measurements and the safety net (R657, R664, R667) -/

/-- Highest temperature in use (R464). -/
def hottestNow (s : State) : Int :=
  match s.thermal.sensors.toList.map (·.inUse) with
  | [] => 0
  | a :: rest => rest.foldl max a

/-- The measurement registers of a legacy direction at a slow tick. -/
def legacyMeasure (n : Fin 16) (s : State) (d : Dir) : State :=
  let c := legacyChannel n
  let x := direction c d s
  let live := dirLive c d s
  let out := (maskPorts (dirDef c d s).tx).foldl (fun a j => max a x.gain.pOut[j]) (-32768)
  let quiet := !live || isSilent x s
  modGqChan n (fun g => g.setDir d (fun v => { v with
    iso := if live && x.meter.published then min 511 (isolation x / 50).toNat else 0,
    power := if quiet then 0x8000 else BitVec.ofInt 16 (out / 50),
    applied := if live then BitVec.ofNat 8 (min 255 (x.gain.appliedTick / 50).toNat) else 0, muted := live && isSilent x s })) s

/-- The slow tick of the compatibility logic (R657). -/
def legacyTick (s : State) : State :=
  if s.sys.mode ≠ .compat then s
  else
    let s := (List.finRange 16).foldl (fun s n => bothDirs.foldl (legacyMeasure n) s) s
    modCompat (fun c => { c with temp := BitVec.ofInt 16 (hottestNow s / 32) }) s

/-- SAFETY_NET_RELEASE (R667): 500 ms without G_leg above K_w − 0.50 dB. -/
def execSafetyNetRelease (c : Fin 64) (d : Dir) (s : State) : Host.Outcome State Fault Refusal :=
  let g := gqDir c d s
  .next (if inWatch s && s.sys.coreUp && g.net && decide (500 ≤ g.netOkMs) then
      let s := modGq c d (fun g => { g with net := false, netOkMs := 0 }) s
      settle c d (dirRecord 0x0002 c d 1 17 {} s)
    else s)

end Sys2Proof.Machine
end

