-- ==== Sys2Proof/Machine/DataPath.lean ====
section
/-! DEFINITION. The data path: receive edges and block formation (R27, R127, R128, R335, R336), the units that take a block (R32, R40,
R176-R178, R186-R188, R196-R200, R220-R222, R237, R246, R247, R263), the synthesiser's deadlines (R36, R45, R138, R155, R157), transmit
segments (R28, R139), capture copies (R97, R98, R169-R171), the census (R52-R54, R56). -/

namespace Sys2Proof.Machine

/-! ## Capture -/

/-- Session of CAPQ q. -/
def session (q : Nat) (s : State) : Session := nth s.hif.sessions q Session.reset

/-- Change of a session. -/
def modSession (q : Nat) (f : Session → Session) (s : State) : State :=
  { s with hif := { s.hif with sessions := upd s.hif.sessions q f } }

/-- A capture session ends with its event (R715). -/
def endSession (q : Nat) (s : State) : State :=
  let v := session q s
  postEvent 0x0004 0 0xFFFF (payload 16 [(0, 1, q), (4, 4, v.written.toNat), (8, 4, v.lost.toNat)])
    (modSession q (fun v => { v with state := .idle }) s)

/-- Room in a capture ring for one more entry (R66). -/
def captureRoom (q : Nat) (s : State) : Bool :=
  (ring (32 + q) s).state == .active && decide ((nth s.hif.captures q []).length + 1 < (ring (32 + q) s).size)

/-- Entries that CAPQ q lost since its previous entry (R97). -/
def captureGap (q : Nat) (s : State) : Word := nth s.hif.captureGaps q 0

/-- Change of that count. -/
def setGap (q : Nat) (v : Word) (s : State) : State := { s with hif := { s.hif with captureGaps := upd s.hif.captureGaps q (fun _ => v) } }

/-- A copy written as an entry (R97); the one that reaches the session's number of entries is marked last and ends the session (R119). capture_seq
counts the entries that the session has written, from 0 (log entry 141). -/
def captureWrite (q : Nat) (tag : BitVec 128) (samples : List Sample) (s : State) : State :=
  let v := session q s
  let last := v.limit != 0 && v.written + 1 == v.limit
  let g := ring (32 + q) s
  let held := nth s.hif.captures q []
  let e : CaptureEntry := { phase := g.phase, gap := captureGap q s != 0, last := last, tap := v.tap, gapCount := captureGap q s, captureSeq := v.seen,
                            waybill := tag, samples := samples }
  let s := coalesce (32 + q) (held.length + 1)
    { s with hif := { s.hif with captures := upd s.hif.captures q (· ++ [e]), rings := upd s.hif.rings (32 + q) (Ring.advance s.now held.isEmpty) } }
  let s := modSession q (fun v => { v with written := v.written + 1, seen := v.seen + 1 }) (setGap q 0 s)
  if last then endSession q s else s

/-- A copy lost and counted (R98). -/
def captureLose (q : Nat) (s : State) : State :=
  let s := modRing (32 + q) (fun g => { g with lost := satAdd 16 g.lost 1 }) s
  modSession q (fun v => { v with lost := v.lost + 1 }) (setGap q (captureGap q s + 1) s)

/-- One copy for session q, of every N blocks the first: lost where the ring is full or the link cannot carry it, which is a free value (R98; log
entry 142). -/
def captureOne (q : Nat) (tag : BitVec 128) (samples : List Sample) (s : State) : State :=
  let v := session q s
  let s := modSession q (fun v => { v with phaseCount := (v.phaseCount + 1) % max 1 v.decimation }) s
  if v.phaseCount % max 1 v.decimation != 0 then s
  else
    let n := takeFree s
    if captureRoom q s && Config.linkCarries n.1 then captureWrite q tag samples n.2 else captureLose q n.2

/-- Copies to every session that captures a tap (R98). -/
def capture (tap : Nat) (tag : BitVec 128) (samples : List Sample) (s : State) : State :=
  (List.range 8).foldl (fun s q =>
    if (session q s).state == .capturing && (session q s).tap == BitVec.ofNat 16 tap then captureOne q tag samples s else s) s

/-- Selector of a channel tap (R169, R170). -/
def channelTap (c : Fin 64) (d : Dir) (point port : Nat) : Nat :=
  0x8000 + c.val * 256 + (if d = .ul then 128 else 0) + point * 16 + port

/-- A copy of a block at a point (R170); the COMBINED tap has no port. -/
def captureBlock (c : Fin 64) (d : Dir) (point : Nat) (b : Block) (s : State) : State :=
  capture (channelTap c d point (if point = 2 then 0 else b.port.val)) (waybill c d b) b.samples s

/-! ## Stream segments -/

/-- Rate of a receive stream: 0-7 the ports, 8 the survey (R133). -/
def receiveRate (n : Nat) (s : State) : Option (Fin 4) := if n < 8 then (nth s.links.streams n Stream.reset).rate else some 0

/-- First sample of the segment that begins k half multiblocks after the last LEMC boundary's multiblock that is whole by now, in thirds of a
REFCLK_IN cycle: a segment lasts 64 samples on the grid the capture set (R129, R132). -/
def segmentThirds (spc : Nat) (back : Nat) (s : State) : Nat :=
  let seg := 64 * 24 / spc
  let origin := 3 * s.links.captureAt
  let now := 24 * s.now
  origin + ((now - origin) / (2 * seg) * 2 * seg - back * seg)

/-- The stamp of a stream segment (R171). -/
def segmentStamp (stream : Nat) (tx zeroed : Bool) (spc : Nat) (seq : Half) (thirds : Nat) : BitVec 128 :=
  let w0 := stream + (if tx then 16 else 0) + (if zeroed then 32 else 0) + spc * 256
  let w1 := seq.toNat + (thirds % 24 * spc / 24) * 2 ^ 16
  let t := thirds / 24
  let cov := w0 + w1 * 2 ^ 32 + (t % 2 ^ 32) * 2 ^ 64
  BitVec.ofNat 128 (cov + (crc16 (leBytes 14 cov)).toNat * 2 ^ 112)

/-! ## Block formation -/

/-- TDD_BLANKED, at most once per port per second (R335). -/
def postBlanked (p : Fin 8) (counts first : Nat) (s : State) : State :=
  let due := match s.radio.tx[p].blankedAt with
    | none => true
    | some t => decide (t + 1000 ≤ s.slowTicks)
  if due && decide (0 < counts) then
    postEvent 0x0503 1 0xFFFF (payload 16 [(0, 1, p.val), (2, 2, min 65535 counts), (4, 4, (first % 2 ^ 32 : Nat))])
      { s with radio := { s.radio with tx := s.radio.tx.set p { s.radio.tx[p] with blankedAt := some s.slowTicks } } }
  else s

/-- Counts of a span that lie in the direction's own slots and outside the port's receive window (R335). -/
def blankedCounts (c : Fin 64) (d : Dir) (p : Fin 8) (first len : Nat) (s : State) : List Nat :=
  ((List.range len).map (first + ·)).filter (fun (t : Nat) => inOwnSlot c d t s && !portRxWindow p t s)

/-- Samples of a block kept: those in the direction's own slots and in the port's receive window (R335, R336). -/
def keptSamples (c : Fin 64) (d : Dir) (p : Fin 8) (cls first : Nat) (l : List Sample) (s : State) : List Sample :=
  (l.zipIdx).map (fun e =>
    let t : Int := (sampleCount cls first e.2 : Nat)
    if inOwnSlot c d t s && portRxWindow p t s then e.1 else zeroSample)

/-- The block lies wholly outside the direction's own slots (R336). -/
def outsideSlots (c : Fin 64) (d : Dir) (first len : Nat) (s : State) : Bool :=
  isTdd c s && ((List.range len).map (first + ·)).all (fun (t : Nat) => !inOwnSlot c d t s)

/-- The slot boundary in a block, as the index of the first sample after it (R336). -/
def boundaryIn (c : Fin 64) (cls first len : Nat) (s : State) : Option Nat :=
  (tddBoundaryIn c first len s).bind (fun o => let k := ceilDiv (o * 2 ^ cls) 4; if k < 64 then some k else none)

/-- One block formed from a receive port, with its waybill (R29, R33, R35, R38, R127, R336). -/
def formBlock (p : Fin 8) (c : Fin 64) (d : Dir) (samples : List Sample) (s : State) : State :=
  let cls := (chan c s).defn.cls
  let len := countsPerBlock cls
  let i : Fin 4 := Fin.ofNat 4 p.val
  let n := (direction c d s).portOrdinal[i]
  let first := (direction c d s).baseCount + n * len
  let s := advanceTo (fromBasis (first + len) s) s
  let s := if n = (direction c d s).ordinal then
      stampLine .gain c d n first (stampLine .config c d n first (modDir c d (fun x => { x with ordinal := n + 1 }) s)) else s
  let here := fromBasis first s
  let mute := rxMuted p s || outsideSlots c d here len s
  let bound := boundaryIn c cls here len s
  let x := direction c d s
  let b : Block :=
    { stage := .channelised, port := p, mute := mute, tddBoundary := bound.isSome, boundaryIndex := BitVec.ofNat 6 (bound.getD 0),
      probeActive := false, late := false, mirrored := false, migrateMark := false, configEpoch := x.config.at n,
      gainEpoch := x.gainLine.at n, sequence := BitVec.ofNat 16 n, source := BitVec.ofNat 4 (stampAddress s),
      firstCount := BitVec.ofNat 32 first, applied := if mute then 0x8000 else 0,
      samples := if mute then zeros samples else keptSamples c d p cls here samples s }
  let blanked := if isTdd c s then blankedCounts c d p here len s else []
  let s := postBlanked p blanked.length (blanked.headD 0) s
  let dark := ((dirDef c d s).rxPorts d).all (fun q => rxMuted q s)
  let s := modDir c d (fun x => { x with blocks := x.blocks ++ [b], portOrdinal := x.portOrdinal.set i (n + 1), allMuted := dark }) s
  captureBlock c d 0 b s

/-- One stream sample of a port into a direction's receive chain; 64 channel samples make a block (R136). -/
def chainSample (p : Fin 8) (c : Fin 64) (d : Dir) (s : State) (x : Sample) : State :=
  let i : Fin 4 := Fin.ofNat 4 p.val
  let st := s.links.streams[p]
  let step := ncoStep (chainShift (dirDef c d s).centre st.rxCentre st.rxInvert) (streamRate st.rate)
  let ch := (direction c d s).rxChains[i].take (receiveStages (samplesPerCount st.rate) (chan c s).defn.cls) step x
  let put (ch : RxChain) (s : State) : State := modDir c d (fun v => { v with rxChains := v.rxChains.set i ch }) s
  if 64 ≤ ch.out.length then formBlock p c d (ch.out.take 64) (put { ch with out := ch.out.drop 64 } s) else put ch s

/-- A multiblock's samples into the receive chains of every direction that receives on the port (R136; log entry 160). -/
def feedChains (p : Fin 8) (samples : List Sample) (s : State) : State :=
  (receivers p s).foldl (fun s e => samples.foldl (chainSample p e.1 e.2) s) s

/-- Lowest lane of a receive stream (R123). -/
def streamLane (n : Fin 9) : Nat := if n.val < 4 then 4 * n.val else if n.val < 8 then 4 * (n.val - 4) + 2 else 16

/-- Receive group of a stream (R123). -/
def streamGroup (n : Fin 9) : Fin 5 := if n.val < 8 then Fin.ofNat 5 (n.val % 4) else 4

/-- A CRC-12 that failed on a lane: its counter and JESD_CRC (R128). -/
def laneCrc (lane : Nat) (ok : Bool) (s : State) : State :=
  if ok then s
  else raise (37 + lane) (object 7 lane) 0 (modLinks (fun l => { l with crcErr := upd l.crcErr lane (satAdd 32 · 1) }) s)

/-- The port of a receive stream is held muted (R127, R345); the survey stream by its group alone. -/
def streamMuted (n : Fin 9) (s : State) : Bool :=
  if h : n.val < 8 then rxMuted ⟨n.val, h⟩ s else s.links.rxGroups[streamGroup n] != .aligned

/-- The two segments of a multiblock of a stream, copied to their taps (R171). -/
def segmentPair (n : Fin 9) (zeroed : Bool) (samples : List Sample) (s : State) : State :=
  let spc := samplesPerCount (receiveRate n.val s)
  (List.range 2).foldl (fun s k =>
    let seq := s.links.rxSegment[n]
    let part := (samples.drop (64 * k)).take 64
    let part := if zeroed then List.replicate 64 zeroSample else part
    let s := capture n.val (segmentStamp n.val false zeroed spc seq (segmentThirds spc (2 - k) s)) part s
    modLinks (fun l => { l with rxSegment := l.rxSegment.set n (seq + 1) }) s) s

/-- RECEIVE_MULTIBLOCK (R27, R128, R136): CRC-12 checked, the multiblock released as its two segments and taken by the chains of its
port. -/
def execReceiveMultiblock (stream : Fin 9) (crcOk0 crcOk1 : Bool) (first second : List Sample) (s : State) :
    Host.Outcome State Fault Refusal :=
  .next (
    if (receiveRate stream.val s).isNone || !s.sys.coreUp then s
    else
      let samples := first ++ second
      let s := alignGroup (streamGroup stream) s
      let down := s.links.rxGroups[streamGroup stream] != .aligned
      let lane := streamLane stream
      let s := if down then s else laneCrc (lane + 1) crcOk1 (laneCrc lane crcOk0 s)
      let zeroed := streamMuted stream s || !crcOk0 || !crcOk1
      let s := segmentPair stream zeroed samples s
      if h : stream.val < 8 then feedChains ⟨stream.val, h⟩ (if zeroed then zeros samples else samples) s
      else surveySamples (if zeroed then zeros samples else samples) s)

/-! ## Blocks on their way -/

/-- The block of least ordinal that a predicate admits. -/
def firstBlock (x : Direction) (p : Block → Bool) : Option Block :=
  (x.blocks.filter p).foldl (fun a b => match a with
    | none => some b
    | some v => if blockOrdinal x b < blockOrdinal x v then some b else some v) none

/-- A block of the queue replaced by blocks. -/
def replaceBlock (c : Fin 64) (d : Dir) (old : Block) (new : List Block) (s : State) : State :=
  modDir c d (fun x => { x with blocks := x.blocks.flatMap (fun b => if b = old then new else [b]) }) s

/-- A block as a unit finds it: a waybill whose CRC fails is replaced by a muted block with the waybill expected next; fields that an upset
changes without the CRC failing are taken as they read, but for those that name the queue's next block (R32, log entry 37). -/
def foundBlock (c : Fin 64) (d : Dir) (b : Block) (upset : BitVec 128) : Block × Bool :=
  if upset = 0 then (b, true)
  else
    let w := waybill c d b ^^^ upset
    if waybillOk w then
      ({ b with mute := w.getLsbD 7, tddBoundary := w.getLsbD 11, boundaryIndex := BitVec.ofNat 6 (w.toNat / 2 ^ 12),
                probeActive := w.getLsbD 18, late := w.getLsbD 19, mirrored := w.getLsbD 20, migrateMark := w.getLsbD 21,
                source := BitVec.ofNat 4 (w.toNat / 2 ^ 56), firstCount := BitVec.ofNat 32 (w.toNat / 2 ^ 64),
                applied := BitVec.ofNat 16 (w.toNat / 2 ^ 96) }, true)
    else ({ b.muted with tddBoundary := false, boundaryIndex := 0, late := false, mirrored := false, migrateMark := false }, false)

/-- The muted late block that stands in for one that has not arrived (R45). -/
def lateBlock (c : Fin 64) (d : Dir) (n : Nat) (p : Fin 8) (s : State) : Block :=
  let x := direction c d s
  { stage := .accepted, port := p, mute := true, tddBoundary := false, boundaryIndex := 0, probeActive := false, late := true, mirrored := false,
    migrateMark := false, configEpoch := x.config.at n, gainEpoch := x.gainLine.at n, sequence := BitVec.ofNat 16 n,
    source := BitVec.ofNat 4 (stampAddress s), firstCount := BitVec.ofNat 32 (x.baseCount + n * countsPerBlock (chan c s).defn.cls),
    applied := 0x8000, samples := List.replicate 64 zeroSample }

/-! ## CANCEL, combining and SHAPE -/

/-- The error count and WAYBILL_CRC for a waybill that a unit found wrong (R32). -/
def waybillError (c : Fin 64) (d : Dir) (b : Block) (s : State) : State :=
  raise 1 (dirObject c d) b.sequence.toNat (modDir c d (fun x => { x with crcErrs := x.crcErrs + 1 }) s)

/-- A block as a unit without parameters of its own finds it: a wrong waybill is counted and raised and the block muted (R32). -/
def checkBlock (c : Fin 64) (d : Dir) (b : Block) (upset : BitVec 128) (s : State) : Block × State :=
  let v := foundBlock c d b upset
  (v.1, if v.2 then s else waybillError c d b s)

/-- What a unit does first with a block: its engine reports slack (R293), a waybill error is counted and raised (R32), the block's
parameter sets are adopted (R40). It answers the block to process. -/
def meetBlock (u : KernelUnit) (c : Fin 64) (d : Dir) (b : Block) (found : BlockFound) (s : State) : Block × State :=
  let s := reportSlack found.engine (chan c s).defn.cls found.busy s
  let ord := blockOrdinal (direction c d s) b
  let v := checkBlock c d b found.upset s
  (v.1, adopt u b.port c d ord v.2)

/-- CANCEL of one receive port on a block (R176-R178), with a copy of it for PROBE and MEASURE: a divergence asks for the reset of the port's taps under a configuration epoch.
It does not run in QUIET and STOPPED (R569). -/
def cancelStep (c : Fin 64) (d : Dir) (old b : Block) (s : State) : State :=
  if powerMuted s then
    let out := { b.muted with stage := .cancelled }
    captureBlock c d 1 out (replaceBlock c d old [out] s)
  else
    let i : Fin 4 := Fin.ofNat 4 b.port.val
    let r := cancelOutcome c d i b s
    let out := { b with stage := .cancelled, samples := if b.mute then zeros b.samples else r.1 }
    let s := replaceBlock c d old [out] (modDir c d (fun _ => r.2.1) s)
    let s := if r.2.2.1 || r.2.2.2 then raise 64 (dirObject c d) 0 s else s
    let s := if r.2.2.2 then requestChange c d .config [.cancelReset (BitVec.ofNat 16 (15 * 2 ^ (4 * i.val)))] none s else s
    let t : Tapped := { block := out, raw := b.samples }
    captureBlock c d 1 out (modDir c d (fun x => { x with tapped := x.tapped ++ [t], measured := x.measured ++ [t] }) s)

/-- The blocks of one ordinal that SHAPE combines: every receive port of the direction has been cancelled. -/
def combinable (c : Fin 64) (d : Dir) (s : State) : Option (List Block) :=
  let x := direction c d s
  let ps := (dirDef c d s).rxPorts d
  match firstBlock x (fun b => b.stage == .cancelled) with
  | none => none
  | some v =>
    let bs := ps.filterMap (fun p => x.blocks.find? (fun b => b.stage == .cancelled && b.port == p && b.sequence == v.sequence))
    if bs.length = ps.length then some bs else none

/-- SHAPE meets the blocks of one ordinal: the upset falls on the waybill of a port's block, or on the lowest port's where that port has none. -/
def meetBlocks (c : Fin 64) (d : Dir) (bs : List Block) (low : Block) (port : Fin 8) (found : BlockFound) (s : State) : List Block × State :=
  let hit := if bs.any (fun b => b.port == port) then port else low.port
  let s := reportSlack found.engine (chan c s).defn.cls found.busy s
  let r := bs.foldl (fun a b =>
    let v := checkBlock c d b (if b.port = hit then found.upset else 0) a.2
    (a.1 ++ [v.1], v.2)) ([], s)
  (r.1, adopt .shape low.port c d (blockOrdinal (direction c d s) low) r.2)

/-- Samples of a block that lie in the direction's own slots (R233, R241, R252). -/
def ownSamples (c : Fin 64) (d : Dir) (b : Block) (s : State) : List Sample :=
  let x := direction c d s
  let cls := (chan c s).defn.cls
  let here := fromBasis (x.baseCount + blockOrdinal x b * countsPerBlock cls) s
  (b.samples.zipIdx).filterMap (fun e => if inOwnSlot c d (sampleCount cls here e.2 : Nat) s then some e.1 else none)

/-- Energy of samples. -/
def energyOf (l : List Sample) : Nat := blockEnergy (l.map Sample.ints)

/-- A list with its first entry changed; it begins with one where it is empty. -/
def onHead {α : Type} (one : α) (f : α → α) : List α → List α
  | [] => [f one]
  | v :: rest => f v :: rest

/-- The power of a block at a point of the noise floor joins its tally (R252); blocks outside the own slots, and those received while ACT is high, do not
(R358). -/
def tallyFloor (c : Fin 64) (d : Dir) (k : Fin 4) (b : Block) (s : State) : State :=
  let l := ownSamples c d b s
  let act := (maskPorts (dirDef c d s).rx).any (fun i => (d == .ul || i == k) && actProtects c d (rxPort d i) s)
  if l.isEmpty || act then s
  else modGain c d (fun g => { g with floorBins := upd g.floorBins k.val (onHead [] (tally 1 (levelDb (energyOf l) l.length))) }) s

/-- MEASURE on a CANCELLED block of a DL direction: the donor level and the noise floor of its port (R241, R252, R358). -/
def measureDonor (c : Fin 64) (t : Tapped) (s : State) : State :=
  let i : Fin 4 := Fin.ofNat 4 t.block.port.val
  let l := ownSamples c .dl t.block s
  if l.isEmpty || actProtects c .dl t.block.port s then s
  else tallyFloor c .dl i t.block (modGain c .dl (fun g =>
    { g with donorBins := upd g.donorBins i.val (onHead (0, 0) (fun v => (v.1 + energyOf l, v.2 + l.length))) }) s)

/-- Combining and SHAPE (R127, R143, R286): one block, muted when every port's is, with the lowest port's waybill. taken are the queue's blocks, met
the same as SHAPE found them, with the state after that. -/
def shapeStep (c : Fin 64) (d : Dir) (taken : List Block) (met : List Block × State) : State :=
  let bs := met.1
  let s := met.2
  let low := bs.headD (lateBlock c d 0 0 s)
  let x := direction c d s
  let df := dirDef c d s
  let a := s.eng.asgs[asgOf c d]
  let mixed := combineBlocks (bs.map (fun b => (nth df.weight (b.port.val % 4) 0, b.samples)))
  let shaped := Config.shape (chan c s).defn.cls a.shapeTaps x.lastCombined mixed
  let mute := bs.all (·.mute) || powerMuted s
  let low := { low with migrateMark := bs.any (·.migrateMark) }
  let out := if mute then { low.muted with stage := .combined } else { low with stage := .combined, mute := false, applied := 0, samples := shaped }
  let s := modDir c d (fun x => { x with blocks := x.blocks.filter (fun b => !taken.contains b) ++ [out], lastCombined := mixed }) s
  captureBlock c d 2 out (if d = .ul then tallyFloor c d 0 out s else s)

/-! ## GAIN -/

/-- Delay from a sample at the receive pins to its transmission at a port, in channel samples to the nearest (R142, R174, log entry 38). -/
def loopSamples (c : Fin 64) (d : Dir) (p : Fin 8) (s : State) : Nat :=
  let k := 2 ^ (chan c s).defn.cls
  (roundDiv ((effLatency c d s * k * 250000000 + edgeNs s.links.streams[p].rate * 7680000 * k : Nat) : Int) 1000000000).toNat

/-- The detector's lag D: the loop delay at the port of the path with the largest residual coupling, and that path's bulk delay (R197). -/
def loopLag (c : Fin 64) (d : Dir) (s : State) : Nat :=
  let x := direction c d s
  match dominantPath x.meter with
  | some e => loopSamples c d (txPort d (Fin.ofNat 4 e.path.val)) s + x.paths[e.path].par.bulkDelay
  | none => ((maskPorts (dirDef c d s).tx).head?).elim 0 (fun j => loopSamples c d (txPort d j) s)

/-- COMBINED sample at an index; zero where no block reaches. -/
def pastSample (cls : Nat) (log : List (Nat × List Sample)) (idx : Int) : Int × Int :=
  let m := sampleModulus cls
  let i := (idx % (m : Int)).toNat
  match log.find? (fun e => decide ((i + m - e.1) % m < e.2.length)) with
  | some e => Sample.ints (e.2.getD ((i + m - e.1) % m) zeroSample)
  | none => (0, 0)

/-- ρ of a block at a lag is at least a threshold in Q15, compared in exact numbers (R197). -/
def similarAt (rho : Nat) (z : List (Int × Int)) (past : List (Int × Int)) : Bool :=
  let v := (z.zip past).foldl (fun (a : Int × Int) e =>
    (a.1 + e.1.1 * e.2.1 + e.1.2 * e.2.2, a.2 + e.1.2 * e.2.1 - e.1.1 * e.2.2)) (0, 0)
  let e := blockEnergy z * blockEnergy past
  decide (0 < e) && decide (rho ^ 2 * e ≤ 2 ^ 30 * (v.1 * v.1 + v.2 * v.2).toNat)

/-- Entries of GAIN's log of the 1 ms of blocks before a first_count (R187, R197). -/
def lastMs (first : Word) (l : List GainLog) : List GainLog := l.filter (fun e => decide (0 < (first - e.first).toNat ∧ (first - e.first).toNat ≤ countsPerSlowTick))

/-- A block's energy exceeds the mean of a list by a level or more. -/
def risenBy (rise : Int) (e : Nat) (l : List Nat) : Bool :=
  decide (0 < e) && !l.isEmpty && decide (powerOf rise * l.sum ≤ e * l.length * 2 ^ 48)

/-- The detector's criterion on a COMBINED block (R197). -/
def oscillates (c : Fin 64) (d : Dir) (b : Block) (s : State) : Bool :=
  let x := direction c d s
  let cls := (chan c s).defn.cls
  let z := b.samples.map Sample.ints
  let n0 := sampleIndex cls b.firstCount
  let log := (n0, b.samples) :: x.combined
  let past (lag : Int) : List (Int × Int) := (List.range z.length).map (fun (k : Nat) => pastSample cls log ((n0 : Int) + k - lag))
  (List.range 5).any (fun (k : Nat) => similarAt x.stab.par.oscRho z (past ((loopLag c d s : Int) + k - 2))) &&
    risenBy x.stab.par.oscRise (blockEnergy z) ((lastMs b.firstCount x.gainLog).map (·.input))

/-- The oscillation detector on a block (R197-R200): a run begins with an onset that cuts S by 6.00 dB and enters BACKOFF; it ends at
the first evaluated block on which the criterion fails. A frozen or muted direction has no onset. The transmit device of a split direction cuts its own S and
reports (R623). -/
def detectOscillation (c : Fin 64) (d : Dir) (b : Block) (s : State) : State :=
  let x := direction c d s
  let m := x.stab
  if !oscillates c d b s then modStab c d (fun m => { m with onset := none }) s
  else if m.onset.isSome then modStab c d (fun m => { m with runLast := b.firstCount }) s
  else if m.state == .muted || isFrozen x s then s
  else
    let s := modStab c d (fun m => { m with onset := some b.firstCount, runLast := b.firstCount }) s
    if splitTransmit (dirDef c d s) s then
      let cut := m.s - 600
      takeSplit c d (sendControl (otherDevice (dirDef c d s) s) (.onset c d) (modSplit c d (fun v => { v with cut := some cut }) s))
    else enterBackoff c d (if m.k < m.s then min (m.s - 600) (m.k - m.par.backoff) else m.s - 600) s

/-- The block lies wholly outside the own slots of a TDD direction (R246, R336). -/
def blockOutside (c : Fin 64) (d : Dir) (b : Block) (s : State) : Bool := isTdd c s && (ownSamples c d b s).isEmpty

/-- Squelch on a block of an UL direction (R246, R247); in TDD a block without an UL sample is not evaluated. -/
def squelchBlock (c : Fin 64) (d : Dir) (b : Block) (inputPower : Int) (s : State) : State :=
  let g := (direction c d s).gain
  if d = .dl ∨ g.squelch.enable = false ∨ blockOutside c d b s then s
  else if thresholdActive g ≤ inputPower then modGain c d (fun g => { g with aSq := 0, idle := none, sqRising := false }) s
  else if inputPower < thresholdActive g - 100 ∧ g.idle = none then modGain c d (fun g => { g with idle := some b.firstCount }) s
  else s

/-- A change of a kind whose epoch the block of an ordinal is the first to carry. -/
def carriedBy (l : EpochLine) (n : Nat) : List Setting := (l.stamps.filter (fun st => st.ordinal == n)).flatMap (·.settings)

/-- The block carries a change of the centre frequency (R155). -/
def carriesMove (x : Direction) (n : Nat) : Bool := (carriedBy x.config n).any (fun v => match v with
  | .definition _ _ moved => moved
  | _ => false)

/-- The block carries a host mute, or the end of one (R155). -/
def carriesMute (m : Bool) (x : Direction) (n : Nat) : Bool := (carriedBy x.gainLine n).any (fun v => v == .hostMute m)

/-- What GAIN sends of a block: nothing (muted), the pilot alone during an open-loop measurement (R188), or the signal. -/
inductive GainKind where
  | muted
  | pilotAlone (level : Int)
  | signal
  deriving DecidableEq, Repr

/-- See GainKind: host and protective mutes and the power state carry no pilot; so does a block that arrives muted (R188, R206), and one to
which an oscillation has lasted 200 us (R199). -/
def gainKind (x : Direction) (b : Block) (s : State) : GainKind :=
  if (x.hostMuted && !carriesMute true x (blockOrdinal x b)) || protMuted x || powerMuted s || decide (6144 ≤ runLength x.stab) then .muted
  else
    match x.stab.state, x.stab.measuring with
    | .muted, some m => if m.openLoop && !x.held then .pilotAlone m.pilot else .muted
    | .muted, none => .muted
    | _, _ => if b.mute then .muted else .signal

/-- The level of a measurement's pilot at an element, held to the limits of the port (R209). -/
def measurePilot (c : Fin 64) (d : Dir) (j : Fin 4) (level : Int) (s : State) : Int :=
  let p := txPort d j
  min level (min (chLimit c d j s) (compLimit p s) - (port p s).pCalTx)

/-- The level of the pilot at an element: p dB below the output power of the previous 1 ms, not below -60.00 dBFS (R187). -/
def signalPilot (x : Direction) (b : Block) (j : Fin 4) : Int :=
  let l := lastMs b.firstCount x.gainLog
  max (-6000) (levelDb ((l.map (·.output[j])).sum) (64 * l.length) + x.meter.level)

/-- GAIN's output at transmit element j for a block (R186, R188, R220-R222): the block and the gain it ends with. -/
def gainOutput (c : Fin 64) (d : Dir) (b : Block) (kind : GainKind) (inputPower : Int) (j : Fin 4) (s : State) : Block × Int :=
  let x := direction c d s
  let p := txPort d j
  let pilotOn (level : Int) (l : List Sample) : List Sample :=
    addPilot (pilotSeed b.source.toNat c d p.val) (sampleIndex (chan c s).defn.cls b.firstCount) level l
  let b := { b with stage := .gained, port := p }
  match kind with
  | .muted => (b.muted, -4000)
  | .pilotAlone level =>
    ({ b with mute := false, probeActive := true, applied := 0x8000, samples := pilotOn (measurePilot c d j level s) (zeros b.samples) }, -4000)
  | .signal =>
    let g := appliedGain c d j inputPower s
    let start := if boundBinds c d j inputPower s then g else x.gLast[j]
    let scaled := scaleBlock (start - x.gain.f) (g - x.gain.f) b.samples
    ({ b with mute := false, probeActive := !x.held, applied := BitVec.ofInt 16 g,
              samples := if x.held then scaled else pilotOn (signalPilot x b j) scaled }, g)

/-- A trip of the output gate (R263, R254): OUTPUT_GATE raised and recorded, the block counted as late; the second on the direction within
1 s mutes it, trips on two directions of a port within 1 s stop the port. -/
def tripGate (c : Fin 64) (d : Dir) (applied : Int) (s : State) : State :=
  let s := gateTripped c d applied (gHr c d s) (raise 70 (dirObject c d) 0 (modDir c d (fun x => { x with late := x.late + 1 }) s))
  let recent (x : Direction) : List Nat := x.gain.gateTrips.filter (fun t => decide (s.slowTicks < t + 1000))
  let before := recent (direction c d s)
  let s := modGain c d (fun g => { g with gateTrips := before ++ [s.slowTicks] }) s
  let i : ProtInfo := { source := 70, measured := applied, limit := gHr c d s }
  let s := if before.isEmpty then s else countMute c d (addMute c d reasonOutputGate i s)
  ((dirDef c d s).txPorts d).foldl (fun s p =>
    let n := ((transmitters p s).filter (fun e => !(recent (direction e.1 e.2 s)).isEmpty)).length
    if 2 ≤ n then stopPort p reasonOutputGate i s else s) s

/-- The output gate on GAIN's outputs: an applied gain above G_HR goes out muted (R263). -/
def gateOutputs (c : Fin 64) (d : Dir) (outs : List Block) (s : State) : List Block × State :=
  let bad (b : Block) : Bool := b.applied != 0x8000 && decide (gHr c d s < b.applied.toInt)
  match outs.find? bad with
  | none => (outs, s)
  | some b => (outs.map (fun o => if bad o then o.muted else o), tripGate c d b.applied.toInt s)

/-- References kept: the newest blocks of GAIN's output at each element, by the index at which they cross the transmit pins (R174, R182). -/
def keepHistory (c : Fin 64) (d : Dir) (outs : List Block) (s : State) : State :=
  outs.foldl (fun s b =>
    let j : Fin 4 := Fin.ofNat 4 b.port.val
    let cls := (chan c s).defn.cls
    let n0 := sampleIndex cls b.firstCount
    let v : RefBlock := { index := (n0 + loopSamples c d b.port s) % sampleModulus cls, first := n0, samples := b.samples, pilot := b.probeActive }
    modDir c d (fun x => { x with history := x.history.set j ((v :: x.history[j]).take 81) }) s) s

/-- What GAIN's measurement tap and logs take of a block (R187, R197, R233, R239, R242): its energies; a block sent unmuted with signal counts for the
regulators, with its samples in the own slots. -/
def meterBlock (c : Fin 64) (d : Dir) (b : Block) (signal : Bool) (outs : List Block) (s : State) : State :=
  let x := direction c d s
  let out (j : Fin 4) : Option Block := outs.find? (fun o => o.port == txPort d j)
  let energy (f : Block → List Sample) : Vector Nat 4 := Vector.ofFn (fun j => (out j).elim 0 (fun o => energyOf (f o)))
  let entry : GainLog := { first := b.firstCount, input := energyOf b.samples, output := energy (·.samples) }
  let n0 := sampleIndex (chan c s).defn.cls b.firstCount
  let s := modDir c d (fun v => { v with gainLog := entry :: lastMs b.firstCount v.gainLog, combined := ((n0, b.samples) :: v.combined).take 81 }) s
  if !signal || outs.all (·.mute) then s
  else
    let own := energy (fun o => ownSamples c d o s)
    let n := (ownSamples c d b s).length
    let gains := (outs.filter (fun o => !o.mute)).map (·.applied.toInt)
    let top := gains.foldl max (gains.headD (-4000))
    modGain c d (fun g =>
      { g with tap := { samples := g.tap.samples + n, output := Vector.ofFn (fun j => g.tap.output[j] + own[j]),
                        applied := if n = 0 then g.tap.applied else some (g.tap.applied.elim top (max top)) },
               waiting := g.waiting ++ [(b.sequence, entry.input)],
               appliedSum := Vector.ofFn (fun j => g.appliedSum[j] + (out j).elim 0 (·.applied.toInt)), appliedBlocks := g.appliedBlocks + 1 }) s

/-- GAIN on a COMBINED block: detector, squelch, the gain of each port, the bound's count, the output gate, the references. On the transmit
device of a split direction the outputs also go back in TC1 (R622). -/
def gainStep (c : Fin 64) (d : Dir) (old b : Block) (s : State) : State :=
  let power := levelDb (energyOf b.samples) b.samples.length
  let s := squelchBlock c d b power (detectOscillation c d b s)
  let x := direction c d s
  let kind := gainKind x b s
  let js := maskPorts (dirDef c d s).tx
  let outs := js.map (fun j => (j, gainOutput c d b kind power j s))
  let binds := kind == .signal && js.any (fun j => boundBinds c d j power s)
  let gated := gateOutputs c d (outs.map (·.2.1)) s
  let last := Vector.ofFn (fun j : Fin 4 => match outs.find? (fun o => o.1 == j) with
    | some o => o.2.2
    | none => x.gLast[j])
  let s := replaceBlock c d old gated.1 gated.2
  let s := modDir c d (fun x => { x with gLast := last }) s
  let s := if kind = .signal then modGain c d (fun g =>
      { g with blocksInWindow := g.blocksInWindow + 1, boundInWindow := if binds then g.boundInWindow + 1 else g.boundInWindow,
               boundCount := if binds then g.boundCount + 1 else g.boundCount }) s else s
  let s := gated.1.foldl (fun s o => captureBlock c d 3 o s) (meterBlock c d b (kind == .signal) gated.1 s)
  if splitTransmit (dirDef c d s) s then modDir c d (fun x => { x with relayOut := x.relayOut ++ gated.1 }) s
  else keepHistory c d gated.1 s

/-! ## RELAY -/

/-- Every earlier block of the direction has been acknowledged on the links other than l (R617). -/
def pathClear (c : Fin 64) (d : Dir) (l : Nat) (s : State) : Bool :=
  (List.range 4).all (fun k => k == l || (link k s).replay.all (fun f =>
    !(f.kind == .block && f.waybill.toNat % 128 == c.val + (if d = .ul then 64 else 0) && decide (f.tc.val ≤ 1))))

/-- A block leaves this device's part of a direction onto the fabric, or is counted where no route leads on (R618, R625). -/
def forwardBlock (c : Fin 64) (d : Dir) (b : Block) (s : State) : State :=
  let a := otherDevice (dirDef c d s) s
  let ord := blockOrdinal (direction c d s) b
  let gone (s : State) : State :=
    let s := replaceBlock c d b [] (markLeft c d ord s)
    modDir c d (fun x => { x with released := max x.released (ord + 1) }) s
  match outLink a s with
  | none => raise 363 (dirObject c d) 0 (modDir c d (fun x => { x with drop := x.drop + 1 }) (gone s))
  | some l =>
    if !pathClear c d l.val s then s
    else match sendFrame l.val { blankFrame .block 0 (deviceAddress s) a with waybill := waybill c d b, samples := b.samples } s with
    | some s => gone s
    | none => s

/-- The block that a RELAY takes, as it finds it, in its queue. -/
def relayFound (c : Fin 64) (d : Dir) (b : Block) (found : BlockFound) (s : State) : Block × State :=
  let v := checkBlock c d b found.upset (reportSlack found.engine (chan c s).defn.cls found.busy s)
  (v.1, replaceBlock c d b [v.1] v.2)

/-- RELAY (R284, R622): the receive device forwards the COMBINED block, the transmit device returns GAIN's outputs as references. Between the
wings of one device it moves copies only. -/
def relayStep (c : Fin 64) (d : Dir) (found : BlockFound) (s : State) : State :=
  let df := dirDef c d s
  let x := direction c d s
  if splitReceive df s then
    match firstBlock x (fun b => b.stage == .combined) with
    | some b => let v := relayFound c d b found s; forwardBlock c d v.1 v.2
    | none => s
  else if splitTransmit df s then
    match x.relayOut with
    | b :: rest =>
      let a := otherDevice df s
      let v := checkBlock c d b found.upset s
      let b := v.1
      let s := modDir c d (fun x => { x with relayOut := b :: rest }) v.2
      match ((outLink a s).filter (fun l => pathClear c d l.val s)).bind (fun l =>
          sendFrame l.val { blankFrame .block 1 (deviceAddress s) a with waybill := waybill c d b, samples := b.samples } s) with
      | some s => modDir c d (fun x => { x with relayOut := rest }) s
      | none => s
    | [] => s
  else s

/-! ## BLOCK_PROCESS -/

/-- The oldest copy of a port's block that waits, with the rest. -/
def takeTapped (p : Fin 8) (l : List Tapped) : Option (Tapped × List Tapped) := (l.find? (fun t => t.block.port == p)).map (fun t => (t, l.erase t))

/-- PROBE on the next copy of a port's CANCELLED blocks (R189): it adopts its parameters; a copy with a wrong waybill is counted and raised, and it goes no
further (R32; log entry 155). -/
def probeUnit (c : Fin 64) (d : Dir) (p : Fin 8) (found : BlockFound) (s : State) : State :=
  match takeTapped p (direction c d s).tapped with
  | some t =>
    let v := meetBlock .probe c d t.1.block found (modDir c d (fun x => { x with tapped := t.2 }) s)
    probeStep c d { t.1 with block := v.1 } v.2
  | none => s

/-- MEASURE on the next copy of a port's CANCELLED blocks (R241, R252). -/
def measureUnit (c : Fin 64) (d : Dir) (p : Fin 8) (found : BlockFound) (s : State) : State :=
  match takeTapped p (direction c d s).measured with
  | some t =>
    let v := meetBlock .measure c d t.1.block found (modDir c d (fun x => { x with measured := t.2 }) s)
    if d = .dl then measureDonor c { t.1 with block := v.1 } v.2 else v.2
  | none => s

/-- DETECT takes a copy of a block at or past CANCEL: it leaves the block as it is (R32, R315). -/
def detectUnit (c : Fin 64) (d : Dir) (p : Fin 8) (found : BlockFound) (s : State) : State :=
  match firstBlock (direction c d s) (fun b => b.stage != .channelised && b.port == p) with
  | some b => (meetBlock .detect c d b found s).2
  | none => s

/-- Standalone DETECT instances that watch a DL port have processed a block (R315). -/
def detectRan (c : Fin 64) (p : Fin 8) (s : State) : State :=
  { s with eng := { s.eng with asgs := Vector.ofFn (fun a : Fin 256 =>
      let v := s.eng.asgs[a]
      if 128 ≤ a.val && v.used && bufField v.detect 0 1 == c.val && bufField v.detect 1 1 == p.val then { v with ran := true } else v) } }

/-- BLOCK_PROCESS of the engine whose output goes on: the unit takes the next block that waits for it; none waiting, nothing happens (R40). -/
def liveStep (c : Fin 64) (d : Dir) (u : KernelUnit) (port : Fin 8) (found : BlockFound) (s : State) : State :=
  match u with
  | .cancel =>
    match firstBlock (direction c d s) (fun b => b.stage == .channelised && b.port == port) with
    | some b => let v := meetBlock .cancel c d b found s; cancelStep c d b v.1 v.2
    | none => s
  | .shape =>
    match combinable c d s with
    | some (low :: rest) => shapeStep c d (low :: rest) (meetBlocks c d (low :: rest) low port found s)
    | _ => s
  | .gain =>
    if !onTransmitDevice (dirDef c d s) s then s
    else match firstBlock (direction c d s) (fun b => b.stage == .combined) with
      | some b => let v := meetBlock .gain c d b found s; gainStep c d b v.1 v.2
      | none => s
  | .relay => relayStep c d found s
  | .probe => probeUnit c d port found s
  | .measure => measureUnit c d port found s
  | .detect => detectRan c port (detectUnit c d port found s)

/-! ## Engines in shadow (R300-R307) -/

/-- The next block that a unit takes. -/
def unitInput (c : Fin 64) (d : Dir) (u : KernelUnit) (port : Fin 8) (s : State) : Option Block :=
  let x := direction c d s
  match u with
  | .cancel => firstBlock x (fun b => b.stage == .channelised && b.port == port)
  | .shape => (combinable c d s).bind (·.head?)
  | .gain => if onTransmitDevice (dirDef c d s) s then firstBlock x (fun b => b.stage == .combined) else none
  | .relay => if splitReceive (dirDef c d s) s then firstBlock x (fun b => b.stage == .combined) else x.relayOut.head?
  | .probe => (takeTapped port x.tapped).map (·.1.block)
  | .measure => (takeTapped port x.measured).map (·.1.block)
  | .detect => firstBlock x (fun b => b.stage != .channelised && b.port == port)

/-- What a unit gave for a block: the blocks of its sequence that have just left it; of a unit that takes copies, nothing that goes on. -/
def unitOutput (c : Fin 64) (d : Dir) (u : KernelUnit) (b : Block) (s : State) : List Block :=
  let x := direction c d s
  let left (st : Stage) (p : Block → Bool) : List Block := x.blocks.filter (fun v => v.sequence == b.sequence && v.stage == st && p v)
  match u with
  | .cancel => left .cancelled (fun v => v.port == b.port)
  | .shape => left .combined (fun _ => true)
  | .gain => left .gained (fun _ => true)
  | _ => []

/-- Assignments whose segments a unit runs: the direction's, or the standalone DETECT instances that watch the port (R288). -/
def unitAsgs (c : Fin 64) (d : Dir) (u : KernelUnit) (port : Fin 8) (s : State) : List (Fin 256) :=
  if u = .detect then (List.finRange 256).filter (fun a =>
    let v := s.eng.asgs[a]
    decide (128 ≤ a.val) && v.used && bufField v.detect 0 1 == c.val && bufField v.detect 1 1 == port.val)
  else [asgOf c d]

/-- A segment works on the blocks that a unit takes from a port: CANCEL's by receive port, PROBE's by the path's. -/
def segmentTakes (u : KernelUnit) (port : Fin 8) (g : Segment) : Bool :=
  g.kernel == kernelOf u && (match u with
    | .cancel => g.inst == port.val % 4
    | .probe => g.path / 4 == port.val % 4 || g.path == 16
    | _ => true)

/-- A block of an ordinal carries the configuration epoch of a ticket, or a later one. -/
def carriesTicket (x : Direction) (ticket ordinal : Nat) : Bool :=
  !x.config.waiting.any (fun v => v.ticket == ticket) && x.config.stamped.all (fun st => st.ticket != ticket || decide (st.ordinal ≤ ordinal))

/-- After a live segment's block: the comparators of its migration and of an engine in TESTING keep a copy; an upgrade without agreement takes over where
the block carries its epoch (R300, R307, R313). -/
def afterLive (c : Fin 64) (d : Dir) (u : KernelUnit) (port : Fin 8) (b : Block) (s : State) : State :=
  let ord := blockOrdinal (direction c d s) b
  let asgs := unitAsgs c d u port s
  let copy (es : List (Fin 256)) : LiveCopy := { sequence := b.sequence, ordinal := ord, out := unitOutput c d u b s, waits := es.eraseDups, failed := false }
  let takes (a : Fin 256) (l : List Segment) : Bool := asgs.contains a && l.any (segmentTakes u port)
  let begun (m : Migration) : Bool := m.step == .shadow && takes m.asg (m.moves.map (·.1)) && decide ((b.sequence - m.startBlock).toNat < 32768)
  let due := s.eng.migrations.filter (fun m => begun m && !m.agree && m.ticket.all (fun t => decide (128 ≤ m.asg.val) || carriesTicket (direction c d s) t ord))
  let s := { s with eng := { s.eng with
    migrations := s.eng.migrations.map (fun m => if begun m && m.agree then { m with comparator := m.comparator.keep (copy (m.moves.map (·.2))) } else m),
    tests := s.eng.tests.map (fun t => if takes t.asg t.segs then { t with comparator := t.comparator.keep (copy [t.engine]) } else t) } }
  due.foldl (fun s m => finishMigration m b.sequence s) s

/-- An engine owes a comparator the output of the unit's segment: the engine runs it in shadow. -/
def shadowOwes (u : KernelUnit) (port : Fin 8) (asgs : List (Fin 256)) (e a : Fin 256) (segs : List Segment) (m : Comparator) : Bool :=
  asgs.contains a && segs.any (segmentTakes u port) && m.awaits e

/-- The engine runs the unit's segment in shadow, and a comparator holds a copy for it: its output goes there alone. -/
def shadowRuns (c : Fin 64) (d : Dir) (u : KernelUnit) (port : Fin 8) (e : Fin 256) (s : State) : Bool :=
  let owes := shadowOwes u port (unitAsgs c d u port s) e
  s.eng.migrations.any (fun m => owes m.asg (m.moves.map (·.1)) m.comparator) || s.eng.tests.any (fun t => owes t.asg t.segs t.comparator)

/-- BLOCK_PROCESS of an engine in shadow (R300 steps 4 and 5, R307). -/
def shadowStep (c : Fin 64) (d : Dir) (u : KernelUnit) (port : Fin 8) (found : BlockFound) (s : State) : State :=
  let meet (a : Fin 256) (segs : List Segment) (m : Comparator) : Comparator :=
    if shadowOwes u port (unitAsgs c d u port s) found.engine a segs m then
      m.meet found.engine (fun v => copyLate a v s) (sameOutput c d found.upset found.differs)
    else m
  { s with eng := { s.eng with
    migrations := s.eng.migrations.map (fun m => { m with comparator := meet m.asg (m.moves.map (·.1)) m.comparator }),
    tests := s.eng.tests.map (fun t => { t with comparator := meet t.asg t.segs t.comparator }) } }

/-- Multiply-accumulates of a segment for one block of its class: its cost over the block's counts; none for a slice of CANCEL beyond the path's taps in
use (R183, R284, R475). -/
def segmentMacs (c : Fin 64) (d : Dir) (g : Segment) (s : State) : Nat :=
  if g.kernel = 0 ∧ (nth ((direction c d s).paths.map (·.nEff)) g.path 0) ≤ 16 * g.slice then 0 else g.cost * countsPerBlock (chan c s).defn.cls / 30720000

/-- Segments run by engines: their wings count what they execute. -/
def countMacs (c : Fin 64) (d : Dir) (l : List (Segment × Fin 256)) (s : State) : State :=
  l.foldl (fun s g =>
    { s with eng := { s.eng with wings := upd s.eng.wings (wingOf g.2).val (fun w => { w with macs := w.macs + segmentMacs c d g.1 s }) } }) s

/-- Segments that a unit runs on a port's block in its live engines, and those that an engine runs in shadow. -/
def liveSegments (c : Fin 64) (d : Dir) (u : KernelUnit) (port : Fin 8) (s : State) : List (Segment × Fin 256) :=
  (unitAsgs c d u port s).flatMap (fun a => (s.eng.asgs[a].segs.filter (segmentTakes u port)).filterMap (fun g => g.engine.map (fun e => (g, e))))
/-- See liveSegments. -/
def shadowSegments (c : Fin 64) (d : Dir) (u : KernelUnit) (port : Fin 8) (e : Fin 256) (s : State) : List (Segment × Fin 256) :=
  let asgs := unitAsgs c d u port s
  s.eng.migrations.flatMap (fun m => if asgs.contains m.asg then m.moves.filter (fun v => v.2 == e && segmentTakes u port v.1) else []) ++
    s.eng.tests.flatMap (fun t => if asgs.contains t.asg && t.engine == e then (t.segs.filter (segmentTakes u port)).map (fun g => (g, e)) else [])

/-- BLOCK_PROCESS (R40, R300): the engine of a segment processes the unit's next block; one in shadow gives its output to the comparator. -/
def execBlockProcess (c : Fin 64) (d : Dir) (u : KernelUnit) (port : Fin 8) (found : BlockFound) (s : State) :
    Host.Outcome State Fault Refusal :=
  .next (
    if !dirLive c d s || !s.sys.coreUp then s
    else if shadowRuns c d u port found.engine s then countMacs c d (shadowSegments c d u port found.engine s) (shadowStep c d u port found s)
    else
      let t := liveStep c d u port found s
      match unitInput c d u port s with
      | some b => countMacs c d (liveSegments c d u port s) (afterLive c d u port b t)
      | none => t)

/-! ## The synthesiser -/

/-- The direction's signal leaves on a port: the port is neither held nor stopped for it (R340). -/
def portOpen (c : Fin 64) (d : Dir) (p : Fin 8) (s : State) : Bool := !dirHeld c d p s && !portStopped (port p s)

/-- The synthesiser's power meter takes a block that arrives with signal, beside what GAIN measured of the same block (R239). -/
def meterArrival (c : Fin 64) (d : Dir) (b : Block) (s : State) : State :=
  let j : Fin 4 := Fin.ofNat 4 b.port.val
  match (direction c d s).gain.waiting.find? (fun e => e.1 == b.sequence) with
  | some e =>
    if b.mute || b.applied == 0x8000 then s
    else modGain c d (fun g =>
      { g with synth := { blocks := g.synth.blocks.set j (g.synth.blocks[j] + 1), output := g.synth.output.set j (g.synth.output[j] + energyOf b.samples),
                          input := g.synth.input.set j (g.synth.input[j] + e.2), applied := g.synth.applied.set j (g.synth.applied[j] + b.applied.toInt) } }) s
  | none => s

/-- BLOCK_ARRIVAL (R32, R36, R44, R45, R239): a processed block reaches the synthesiser, which checks its waybill. A mirrored block is discarded without a count; one whose deadline
has passed is discarded, having left muted and late. -/
def execBlockArrival (c : Fin 64) (d : Dir) (arrived : ArrivedBlock) (s : State) : Host.Outcome State Fault Refusal :=
  let port := arrived.port
  .next (
    match firstBlock (direction c d s) (fun b => b.stage == .gained && b.port == port) with
    | none => s
    | some old =>
      let v := checkBlock c d old arrived.upset s
      let b := v.1
      let s := replaceBlock c d old [b] v.2
      if b.mirrored then replaceBlock c d b [] s
      else if (direction c d s).lateSeqs.contains (b.sequence, port) then
        modDir c d (fun x => { x with lateSeqs := x.lateSeqs.filter (· != (b.sequence, port)) }) (replaceBlock c d b [] s)
      else
        meterArrival c d b (replaceBlock c d b [{ b with stage := .accepted }] s))

/-- What the synthesiser uses of the block of an ordinal at a port: the one accepted, or a muted late block; the block that carries a change of centre
frequency goes muted (R45, R155). -/
def synthBlock (c : Fin 64) (d : Dir) (n : Nat) (p : Fin 8) (s : State) : Block :=
  let x := direction c d s
  let b := (x.blocks.find? (fun b => b.stage == .accepted && b.port == p && b.sequence == BitVec.ofNat 16 n)).getD (lateBlock c d n p s)
  if carriesMove x n && !b.late then b.muted else b

/-- Weights of the ramps on a block: up and down, each when it is due (R155, R342). -/
def rampWords (up down : Bool) (l : List (Int × Int)) : List (Int × Int) :=
  (l.zipIdx).map (fun e =>
    let x := if up then scaleWord 24 48 e.1 (rampWeight true e.2) else e.1
    if down then scaleWord 24 48 x (rampWeight false e.2) else x)

/-- A block into its port's transmit chain at its deadline (R136, R138): a hold or stop puts zeros in its place, and the first block after it ramps up
(R340, R342); in TDD only the samples inside a transmit window, which is the own slots delayed, are sent, unless it is blanked (R334,
R336, R346). Blocks before the one that carries a new centre frequency keep the old one (R40). -/
def synthesise (c : Fin 64) (d : Dir) (n : Nat) (up down : Bool) (s : State) (b : Block) : State :=
  let x := direction c d s
  let j : Fin 4 := Fin.ofNat 4 b.port.val
  let ch := x.txChains[j]
  let st := s.links.streams[b.port]
  let centre := if n < x.centreFrom then x.centreBefore else (dirDef c d s).centre
  let step := ncoStep (chainShift centre st.txCentre st.txInvert) (streamRate st.rate)
  let cls := (chan c s).defn.cls
  let here := fromBasis (x.baseCount + n * countsPerBlock cls) s
  let own (k : Nat) : Bool :=
    inOwnSlot c d (sampleCount cls here k : Nat) s && !windowBlanked c d b.port (sampleCount cls here k + txDelay c d b.port s : Nat) s
  let opened := portOpen c d b.port s && startedBy c b.port (here + txDelay c d b.port s) s && (!ch.shut || own 0)
  let sent := (b.samples.zipIdx).map (fun e => if opened && own e.2 then widen e.1 else (0, 0))
  let words := if opened then rampWords (up || ch.shut) down sent else sent
  let ch := { ch.take (transmitStages (samplesPerCount st.rate) cls) step words with shut := !opened }
  let s := modDir c d (fun v => { v with txChains := v.txChains.set j ch }) s
  if opened && !b.mute && !b.late && (List.range 64).any own then portTransmitted b.port (here + txDelay c d b.port s) s else s

/-- A direction's first block has left this device's synthesiser: the other devices of the channel learn of it (R163; log entry 161). -/
def tellStarted (c : Fin 64) (d : Dir) (n : Nat) (s : State) : State :=
  if n = 0 then tellPeers (channelPeers c s) (.channelLeft c d) s else s

/-- BLOCK_DEADLINE (R45, R46, R138, R155): the deadline of the next block of the direction. Ports whose block has not been accepted take a muted late
block; the block leaves. A channel being removed ends here (R157). -/
def execBlockDeadline (c : Fin 64) (d : Dir) (s : State) : Host.Outcome State Fault Refusal :=
  .next (
    let x := direction c d s
    let df := dirDef c d s
    let n := x.released
    if !dirLive c d s || !onTransmitDevice df s || (decide (x.ordinal ≤ n) && onReceiveDevice df s) || !s.sys.coreUp then s
    else
      let ps := df.txPorts d
      let used := ps.map (fun p => synthBlock c d n p s)
      let missing := (used.filter (·.late)).map (·.port)
      let waiting := x.blocks.any (fun b => b.sequence == BitVec.ofNat 16 n && b.stage != .accepted)
      let s := advanceTo (fromBasis (x.baseCount + n * countsPerBlock (chan c s).defn.cls + effLatency c d s) s) s
      let s := used.foldl (fun s b => mirrorBlock c d b (captureBlock c d 4 b s)) s
      let s := used.foldl (synthesise c d n (x.rampUp || carriesMute false x n) (x.rampDown || carriesMute true x n)) s
      let s := if missing.isEmpty then s else attributeLate c d (modDir c d (fun x => { x with late := x.late + 1 }) s)
      let s := modDir c d (fun v => { v with
        released := n + 1, rampUp := carriesMove x n, rampDown := false,
        blocks := v.blocks.filter (fun b => !(b.stage == .accepted && b.sequence == BitVec.ofNat 16 n)),
        lateSeqs := if waiting then v.lateSeqs ++ missing.map (fun p => (BitVec.ofNat 16 n, p)) else v.lateSeqs }) s
      let s := modGain c d (fun g => { g with waiting := g.waiting.filter (fun e => e.1 != BitVec.ofNat 16 n) }) s
      let s := tellStarted c d n (markLeft c d n s)
      if (chan c s).removeDue then removeChannel c s else s)

/-! ## Transmit segments -/

/-- A direction's contribution to a port is silent at the next segment: a hold or a stop (R340, R256). -/
def contributionShut (c : Fin 64) (d : Dir) (p : Fin 8) (s : State) : Bool := dirHeld c d p s || portStopped (port p s)

/-- Words of a direction for the next segment of a port, and its chain afterwards: silent under a hold or a stop from this segment on, ramped to zero
over it where a coexistence grant alone holds it (R340, R359). -/
def contribution (c : Fin 64) (d : Dir) (p : Fin 8) (s : State) : List (Int × Int) × TxChain :=
  let ch := (direction c d s).txChains[p.val % 4]'(Nat.mod_lt _ (by decide))
  let words := ch.out.take 64
  if contributionShut c d p s then
    let fades := !ch.shut && coexHeld c d p s && !portHeld p s && !portStopped (port p s) && !(isTdd c s && timingHold s)
    (if fades then rampWords false true words else words.map (fun _ => (0, 0)),
      { ch with out := (ch.out.drop 64).map (fun _ => (0, 0)), shut := true })
  else (words, { ch with out := ch.out.drop 64 })

/-- The composite of a transmit stream's next segment: every direction's contribution taken and summed (R138). -/
def composite (p : Fin 8) (s : State) : List (Int × Int) × State :=
  let d : Dir := if p.val < 4 then .ul else .dl
  let r := (List.finRange 64).foldl (fun a c =>
    let v := contribution c d p a.2
    (a.1 ++ [v.1], modDir c d (fun x => { x with txChains := upd x.txChains (p.val % 4) (fun _ => v.2) }) a.2)) (([] : List (List (Int × Int))), s)
  (sumWords r.1, r.2)

/-- A segment of a stream after its limiter, whose counts and delay line move on (R139); quiet says that zeros leave in its place (R28, R256). The
composite meter takes what leaves (R238, R405). -/
def limitStream (p : Fin 8) (quiet : Bool) (s : State) : List Sample × State :=
  let v := composite p s
  let r := limitSegment (samplesPerCount s.links.streams[p].rate) v.1 v.2.links.limiters[p]
  let sent := if quiet then zeros r.1.samples else r.1.samples
  let s := modLinks (fun l => { l with limiters := l.limiters.set p r.2, limited := upd l.limited p.val (satAdd 32 · r.1.limited),
                                       clipped := upd l.clipped p.val (satAdd 32 · r.1.clipped) }) v.2
  (sent, modPort p (fun x => { x with compEnergy := x.compEnergy + energyOf sent, compSamples := x.compSamples + sent.length,
                                      compGain := x.compGain + r.1.gain }) s)

/-- Parameters of a PEAK_LIMIT_SET that wait for the stream's next segment (R168). -/
def nextLimiter (m : Limiter) : Limiter :=
  match m.next with
  | some (e, t, r) => { m with enable := e, threshold := t, releaseUs := r, next := none }
  | none => m

/-- TRANSMIT_SEGMENT_DUE (R28, R138, R139, R168, R256, R340): a segment leaves on a transmit stream, zeros in its place on an underrun. While core reset
holds the device, an edge of a twin pair sends a segment it still holds (R8; log entry 158). -/
def execTransmitSegmentDue (stream : Fin 8) (ready : Bool) (s : State) : Host.Outcome State Fault Refusal :=
  .next (
    let n := stream.val
    let g : Fin 4 := Fin.ofNat 4 n
    if !s.sys.coreUp then modLinks (fun l => { l with draining := upd l.draining n (· - 1) }) s
    else if !s.links.txActive[g] || s.links.streams[stream].rate.isNone then s
    else
      let s := if ready then s
        else raise 2 (object 2 n) 0 (modLinks (fun l => { l with underrun := upd l.underrun n (satAdd 32 · 1) }) s)
      let s := modLinks (fun l => { l with limiters := l.limiters.set stream (nextLimiter l.limiters[stream]) }) s
      let v := limitStream stream (!ready || portHeld stream s || portStopped (port stream s)) s
      let s := v.2
      let spc := samplesPerCount s.links.streams[stream].rate
      let seq := s.links.txSegment[stream]
      let half := 64 * 24 / spc
      let at_ := segmentThirds spc 0 s + (if half ≤ 24 * s.now - segmentThirds spc 0 s then half else 0)
      let s := capture (0x4000 + n) (segmentStamp n true (!ready) spc seq at_) v.1 s
      modLinks (fun l => { l with txSegment := l.txSegment.set stream (seq + 1) }) s)

/-! ## Census -/

/-- A census at the slow tick (R52, R53, R56): every link that carries traffic latches what it sent since the last token and sends a CENSUS
frame; the pool's free slots are reported. -/
def insertTokens (s : State) : State :=
  let s := (List.range 5).foldl (fun s l =>
    let x := link l s
    if !x.carries then s
    else
      let f := { blankFrame .census (if l < 4 then 0 else 3) (deviceAddress s) x.neighbour.val with sent := x.sentSince }
      match sendFrame l f s with
      | some s => modLink l (fun x => { x with sentSince := Vector.replicate 4 0 }) s
      | none => s) s
  { s with pool := { s.pool with audits := s.pool.audits + 1, reportedFree := s.pool.freeSlots, lowWater := min s.pool.lowWater s.pool.freeSlots } }

/-- A mismatch (R54): CENSUS raised with the totals, the first one's class and link kept. -/
def censusMismatch (link : Fin 6) (cls : Fin 4) (expected : Nat) (observed : Int) (s : State) : State :=
  let number := if link = 5 then 15 else link.val
  let first := !s.pool.mismatch
  let s := { s with pool := { s.pool with
    mismatch := true, poolMismatch := s.pool.poolMismatch || link == 5, tclass := if first then BitVec.ofNat 2 cls.val else s.pool.tclass,
    link := if first then BitVec.ofNat 4 number else s.pool.link } }
  raise 0 (object 12 (4 * number + cls.val)) (expected + code 32 observed * 2 ^ 32) s

/-- The totals a BILLET_SET asked for come into force at the token when the free slots of this end and the free billets of its sender meet them
(R620). -/
def takeBillets (l : Nat) (s : State) : State :=
  let x := link l s
  match x.billetNext.filter (fun v => (List.finRange 4).all (fun c =>
      decide (x.total[c] ≤ x.freeNow[c] + v[c]) && decide (x.total[c] ≤ x.slotsFree[c] + v[c]))) with
  | some v =>
    let s := modLink l (fun x =>
      { x with total := v, freeNow := Vector.ofFn (fun c : Fin 4 => x.freeNow[c] + v[c] - x.total[c]),
               slotsFree := Vector.ofFn (fun c : Fin 4 => x.slotsFree[c] + v[c] - x.total[c]), billetNext := none, billetRing := none }) s
    match x.billetRing with
    | some q => hardwareDone q.val (waitOf [0x0C03] 0 1 l) (v.toList.map (fun (n : Nat) => (n : Int))) s
    | none => s
  | none => s

/-- A census token arrives in its frame (R52): totals that wait come into force, then the blocks received since the previous token are latched with the
blocks sent and the slots held and free. -/
def latchToken (l : Nat) (sent : Vector Nat 4) (s : State) : State :=
  modLink l (fun x =>
    { x with token := Vector.ofFn (fun c : Fin 4 => some { sent := sent[c], received := x.recvSince[c], held := x.slots[c], free := x.slotsFree[c] }),
             recvSince := Vector.replicate 4 0 }) (takeBillets l s)

/-- Pool slots held: those reserved for the directions that exist (R50, R51). -/
def poolHeld (s : State) : Nat := (s.chans.toList.map (fun ch => ch.dl.slots + ch.ul.slots)).sum

/-- The audit of one link and class that the token of so many blocks sent latched: held, in flight and free against the configured total (R53). -/
def auditLink (l : Fin 6) (c : Fin 4) (sent : Nat) (s : State) : State :=
  match (nth (link l.val s).token c.val none) with
  | none => s
  | some v =>
    if v.sent ≠ sent then s
    else
      let s := modLink l.val (fun x => { x with free := x.free.set c v.free, held := x.held.set c v.held, token := x.token.set c none }) s
      let expected := nth (link l.val s).total c.val 0
      let observed : Int := v.held + ((v.sent : Int) - v.received) + v.free
      if observed = expected then s else censusMismatch l c expected observed s

/-- CENSUS_TOKEN_ARRIVAL (R53): the audit of a link's class by the token that brings sent, or (5) that of the pool: free and held slots against 8192
(log entry 187). -/
def execCensusTokenArrival (link : Fin 6) (cls : Fin 4) (sent : Nat) (s : State) : Host.Outcome State Fault Refusal :=
  .next (if link.val < 5 then auditLink link cls sent s
    else
      let observed := s.pool.freeSlots + poolHeld s
      if observed = 8192 then s else censusMismatch link cls 8192 observed s)

/-- CLEAR_LOW_WATER (R56): low_water becomes the current free_slots. -/
def execClearLowWater (value : Word) (s : State) : Host.Outcome State Fault Refusal :=
  .next (if value.getLsbD 31 then { s with pool := { s.pool with lowWater := s.pool.reportedFree } } else s)

end Sys2Proof.Machine
end

