-- ==== Sys2Proof/Machine/Fabric.lean ====
section
/-! DEFINITION. The OBX fabric: topology and routes (R612-R618), links, replay and reclaim (R604-R608, R619-R621), and its commands
(R643-R646). -/

namespace Sys2Proof.Machine

/-! ## Topology and routes (R612, R613, R615, R616, R618) -/

/-- Neighbours over links that carry traffic, with their count offsets. -/
def ownNear (s : State) : List (Fin 16 × Int) :=
  (List.range 4).filterMap (fun l => let x := link l s; if x.carries && x.known then some (x.neighbour, s.fabric.offsets[x.neighbour]) else none)

/-- Every link list known: this device's own and those flooded. -/
def knownLinks (s : State) : List (Fin 16 × List (Fin 16 × Int)) :=
  let me : Fin 16 := Fin.ofNat 16 (deviceAddress s)
  (me, ownNear s) :: s.fabric.topo.filter (fun e => e.1 != me)

/-- Neighbours of a device, in the lists of either end: address and the count of the neighbour minus that of the device. -/
def nearOf (ls : List (Fin 16 × List (Fin 16 × Int))) (a : Fin 16) : List (Fin 16 × Int) :=
  ls.flatMap (fun e =>
    if e.1 = a then e.2 else e.2.filterMap (fun v => if v.1 = a then some (e.1, -v.2) else none))

/-- Devices within n hops of a set, with their distance from it. -/
def spreadLevels (ls : List (Fin 16 × List (Fin 16 × Int))) : Nat → Nat → List (Fin 16 × Nat) → List (Fin 16 × Nat)
  | 0, _, seen => seen
  | n + 1, k, seen =>
    let front := seen.filter (fun e => e.2 == k)
    let fresh := ((front.flatMap (fun e => (nearOf ls e.1).map (·.1))).eraseDups).filter (fun a => !seen.any (fun e => e.1 == a))
    spreadLevels ls n (k + 1) (seen ++ fresh.map (fun a => (a, k + 1)))

/-- Levels of the members about a device (R616). -/
def levelsFrom (a : Fin 16) (s : State) : List (Fin 16 × Nat) := spreadLevels (knownLinks s) 15 0 [(a, 0)]

/-- Members of the fabric: the devices that links join to this one (R615). -/
def memberList (s : State) : List (Fin 16) := (levelsFrom (Fin.ofNat 16 (deviceAddress s)) s).map (·.1)

/-- The coordinator: the lowest address present (R615). -/
def coordinatorOf (s : State) : Fin 16 := (memberList s).foldl (fun a b => if b.val < a.val then b else a) (Fin.ofNat 16 (deviceAddress s))

/-- Level of a device; that of a device not reached is 15. -/
def levelOf (ls : List (Fin 16 × Nat)) (a : Fin 16) : Nat := (ls.find? (fun e => e.1 == a)).elim 15 (·.2)

/-- The link from a to b is up: towards the lower level, and at equal levels towards the lower address (R616). -/
def upEdge (levels : List (Fin 16 × Nat)) (a b : Fin 16) : Bool :=
  decide (levelOf levels b < levelOf levels a) || (levelOf levels b == levelOf levels a && decide (b.val < a.val))

/-- A place a legal route has reached: the device, whether a down link was taken, the port it left by, the hops, the count offset. -/
structure RouteStep where
  node : Fin 16
  down : Bool
  port : Nat
  hops : Nat
  offset : Int
  deriving DecidableEq, Repr

/-- One link further along legal routes: never up after down (R616). -/
def RouteStep.next (ls : List (Fin 16 × List (Fin 16 × Int))) (levels : List (Fin 16 × Nat)) (h : RouteStep) : List RouteStep :=
  (nearOf ls h.node).filterMap (fun v =>
    let goesUp := upEdge levels h.node v.1
    if goesUp && h.down then none else some { h with node := v.1, down := h.down || !goesUp, hops := h.hops + 1, offset := h.offset + v.2 })

/-- Legal routes of growing length, the shortest first and among equal ones that of the lowest port first. -/
def spreadRoutes (ls : List (Fin 16 × List (Fin 16 × Int))) (levels : List (Fin 16 × Nat)) : Nat → List RouteStep → List RouteStep → List RouteStep
  | 0, _, seen => seen
  | n + 1, front, seen =>
    let fresh := (front.flatMap (RouteStep.next ls levels)).foldl (fun acc h =>
      if (seen ++ acc).any (fun v => v.node == h.node && v.down == h.down) then acc else acc ++ [h]) []
    spreadRoutes ls levels n fresh (seen ++ fresh)

/-- First steps of this device's routes, by port. -/
def firstSteps (levels : List (Fin 16 × Nat)) (ports : List Nat) (s : State) : List RouteStep :=
  let me : Fin 16 := Fin.ofNat 16 (deviceAddress s)
  ports.filterMap (fun l =>
    let x := link l s
    if x.carries && x.known then
      some { node := x.neighbour, down := !upEdge levels me x.neighbour, port := l, hops := 1, offset := s.fabric.offsets[x.neighbour] }
    else none)

/-- Legal routes from this device that leave by some ports. -/
def routesBy (ports : List Nat) (s : State) : List RouteStep :=
  let levels := levelsFrom (coordinatorOf s) s
  let start := firstSteps levels ports s
  spreadRoutes (knownLinks s) levels 15 start start

/-- The route the coordinator computes for a destination: the shortest legal one, by the lowest port (R616). -/
def computedRoute (all : List RouteStep) (a : Nat) (s : State) : Route × Int :=
  if a = deviceAddress s then ({ port := 4, computed := 4, manual := false, hops := 0 }, 0)
  else match all.find? (fun h => h.node.val == a) with
    | some h => ({ port := h.port, computed := h.port, manual := false, hops := h.hops }, h.offset)
    | none => (Route.reset, s.fabric.offsets[Fin.ofNat 16 a])

/-- A manual route stands while a legal route still leaves by its port (R616, R645). -/
def keepManual (old new : Route) (a : Nat) (s : State) : Route :=
  if old.manual && (routesBy [old.port] s).any (fun h => h.node.val == a) then { new with port := old.port, manual := true } else new

/-- Split directions whose other device is a destination (R626). -/
def splitTo (a : Nat) (s : State) : List (Fin 64 × Dir) :=
  (liveDirs s).filter (fun e => isSplit (dirDef e.1 e.2 s) s && otherDevice (dirDef e.1 e.2 s) s == a)

/-- A destination without a route any more raises FABRIC_ROUTE (R618): one event per direction, or one that names none. -/
def routeLost (s : State) (a : Nat) : State :=
  match splitTo a s with
  | [] => raise 363 (object 1 0xFFF) 0 s
  | es => es.foldl (fun s e => raise 363 (dirObject e.1 e.2) 0 s) s

/-- Mask of addresses. -/
def addressMask (l : List (Fin 16)) : BitVec 16 := l.foldl (fun m a => m ||| BitVec.ofNat 16 (2 ^ a.val)) 0

/-- Coordinator, members and level set, with FABRIC_CHANGED and FABRIC_MEMBERS at a change (R615, R646). -/
def setMembers (s : State) : State :=
  let coord := coordinatorOf s
  let mask := addressMask (memberList s)
  let level := levelOf (levelsFrom coord s) (Fin.ofNat 16 (deviceAddress s))
  let changed := s.fabric.coordinator != coord || s.fabric.members != mask || !s.fabric.discovered
  let s := modFabric (fun f => { f with coordinator := coord, members := mask, level := level, discovered := true }) s
  let links : Nat := ((List.range 4).map (fun l => if (link l s).carries then 2 ^ l else 0)).sum
  if changed then
    systemRecord 1 1 0x0031 deviceWriter (payload 16 [(0, 1, coord.val), (2, 2, mask.toNat), (4, 1, links)])
      [eventAt s 0x0C02 1 0xFFFF (payload 16 [(0, 1, coord.val), (2, 2, mask.toNat)])] s
  else s

/-- Orientation of the links (R616). -/
def orientLinks (s : State) : State :=
  let levels := levelsFrom (coordinatorOf s) s
  (List.range 4).foldl (fun s l => modLink l (fun x => { x with up := x.known && upEdge levels (Fin.ofNat 16 (deviceAddress s)) x.neighbour }) s) s

/-- The route table computed and installed, with the offsets along the routes; lost destinations raise FABRIC_ROUTE (R613, R616, R618). -/
def installRoutes (s : State) : State :=
  let all := routesBy [0, 1, 2, 3] s
  let old := s.fabric.routes
  let routes := Vector.ofFn (fun a : Fin 16 => keepManual old[a] (computedRoute all a.val s).1 a.val s)
  let offsets := Vector.ofFn (fun a : Fin 16 => (computedRoute all a.val s).2)
  let s := orientLinks (setMembers (modFabric (fun f => { f with routes := routes, offsets := offsets }) s))
  (List.range 16).foldl (fun s a => if (nth old a Route.reset).port ≤ 3 ∧ 3 < (nth routes a Route.reset).port then routeLost s a else s) s

/-- A change of links or lists takes effect in the tables once the fabric has been discovered (R615, R618). -/
def fabricChanged (s : State) : State := if s.fabric.discovered then installRoutes s else s

/-- A message sent over one link. -/
def sendOn (l : Nat) (m : ControlMsg) (s : State) : State :=
  (sendFrame l { blankFrame .control 2 (deviceAddress s) (link l s).neighbour.val with msg := m } s).getD s

/-- A device's link list flooded over every OBX link but one (R615). -/
def flood (except_ : Nat) (a : Fin 16) (near : List (Fin 16 × Int)) (s : State) : State :=
  (List.range 4).foldl (fun s l => if l ≠ except_ ∧ (link l s).carries then sendOn l (.topology a near) s else s) s

/-- This device's own list flooded. -/
def floodOwn (s : State) : State := flood 4 (Fin.ofNat 16 (deviceAddress s)) (ownNear s) s

/-- A link list arrives: a new one is kept, flooded on and taken into the tables (R615, R618). -/
def takeTopology (l : Nat) (a : Fin 16) (near : List (Fin 16 × Int)) (s : State) : State :=
  if a.val = deviceAddress s ∨ s.fabric.topo.contains (a, near) then s
  else fabricChanged (flood l a near (modFabric (fun f => { f with topo := f.topo.filter (fun e => e.1 != a) ++ [(a, near)] }) s))

/-! ## Links, replay and reclaim (R607, R608, R619, R621) -/

/-- Channel and direction of a waybill (R29). -/
def waybillDir (w : BitVec 128) : Fin 64 × Dir := (Fin.ofNat 64 w.toNat, if w.getLsbD 6 then .ul else .dl)

/-- A block lost in the fabric counts once in the drop counter of its direction on this device (R55, R621). -/
def dropBlock (s : State) (f : ObxFrame) : State :=
  let e := waybillDir f.waybill
  modDir e.1 e.2 (fun x => { x with drop := x.drop + 1 }) s

/-- A command waiting on a link is answered. -/
def answerLink (want : Desc → Bool) (ringOf : Option (Fin 22)) (results : List Int) (s : State) : State :=
  match ringOf with
  | some q => hardwareDone q.val want results s
  | none => s

/-- The command that synchronises the pair fails; the owner is DETACHED (R637, R638). -/
def failSync (code cause : Nat) (s : State) : State :=
  let q := s.twin.syncRing
  let s := setTwinState .detached cause (modTwin (fun t => { t with syncRing := none }) s)
  answerLink (waitOf [0x0C11] 0 0 0) q [(code : Int)] s

/-- Loss of lockstep or of synchronising, for a cause (R637). -/
def detachTwin (cause : Nat) (s : State) : State :=
  if s.twin.state = .lockstep ∨ s.twin.state = .syncing then failSync 0 cause s else s

/-- Entry to DOWN (R608, R618, R621 steps 1 to 3): the loss is raised, unacknowledged BLOCK frames are held as pending, what was accepted is
reported over a remaining route, and the link enters RECLAIMING. -/
def linkDown (l : Nat) (s : State) : State :=
  let x := link l s
  if x.state = .down ∨ x.state = .reclaiming then s
  else
    let held := x.replay.filter (fun f => f.kind == .block)
    let s := raise (linkSource l) (linkObject l) 0 (setLink l .down 0 s)
    let s := modLink l (fun x => { x with replay := [], pending := held, released := held.length, fails := 0, nakWait := false,
                                          downAt := s.slowTicks, billetNext := none, billetRing := none }) s
    let s := setLink l .reclaiming 0 s
    let s := answerLink (waitOf [0x0C03] 0 1 l) x.billetRing [-1] s
    if l = 4 then detachTwin 360 s
    else
      let s := fabricChanged (floodOwn s)
      if x.known then sendControl x.neighbour.val (.reclaimReport (x.recvSeq - 1)) s else s

/-- A pending frame was accepted by the receiver, whose last accepted sequence is known (R621 step 4). -/
def wasAccepted (last : BitVec 12) (f : ObxFrame) : Bool := decide ((last.toNat + 4096 - f.seq.toNat) % 4096 < 2048)

/-- Reclaim ends (R621 steps 4 and 5): frames the receiver accepted were delivered, the others are counted as dropped, the billets are counted as
reclaimed and the link enters TRAINING. -/
def endReclaim (l : Nat) (last : Option (BitVec 12)) (s : State) : State :=
  let x := link l s
  if x.state ≠ .reclaiming then s
  else
    let lost := match last with
      | some n => x.pending.filter (fun f => !wasAccepted n f)
      | none => x.pending
    let s := lost.foldl dropBlock s
    let s := modLink l (fun x =>
      { x with pending := [], reclaimed := satAdd 32 x.reclaimed x.released,
               unreconciled := if last.isNone then satAdd 32 x.unreconciled lost.length else x.unreconciled, reclaimRing := none }) s
    answerLink (waitOf [0x0C04] 0 1 l) x.reclaimRing [x.released, lost.length] (setLink l .training 0 s)

/-- The receiver's report (R621 step 4): it concerns the links to its sender that are being reclaimed. -/
def takeReport (a : Nat) (last : BitVec 12) (s : State) : State :=
  (List.range 4).foldl (fun s l => if (link l s).known ∧ (link l s).neighbour.val = a then endReclaim l (some last) s else s) s

/-- RECLAIM_REPORT_TIMEOUT (R621 step 4): a report in the tick of the expiry is on time (R43). -/
def execReclaimReportTimeout (l : Fin 5) (s : State) : Host.Outcome State Fault Refusal :=
  .next (if (link l.val s).state = .reclaiming ∧ (link l.val s).downAt + 100 < s.slowTicks then endReclaim l.val none s else s)

/-- A replay from the first unacknowledged frame (R607): one event; the eighth in a row of one frame takes the link down (R608). -/
def replayLink (l : Nat) (s : State) : State :=
  if !(link l s).carries || (link l s).replay.isEmpty then s
  else
    let s := raise (retrySource l) (linkObject l) 0 (modLink l (fun x => { x with retries := satAdd 32 x.retries 1, fails := x.fails + 1 }) s)
    if 8 ≤ (link l s).fails then linkDown l s else s

/-- REPLAY_TIMEOUT (R607): 2 µs without an acknowledgement, counted to the first frame-timer count past them, so that an acknowledgement in the
tick of the expiry is on time (R43). -/
def execReplayTimeout (l : Fin 5) (s : State) : Host.Outcome State Fault Refusal :=
  .next (if (link l.val s).carries && !(link l.val s).replay.isEmpty then
      let s := advanceTo ((link l.val s).ackFrom + 62) s
      replayLink l.val (modLink l.val (fun x => { x with ackFrom := s.now }) s)
    else s)

/-- A pair of lanes that is whole: lanes 0-1, else lanes 2-3 (R608). -/
def wholePair (m : BitVec 4) : Option (BitVec 4) := if m &&& 3 == 3 then some 3 else if m &&& 12 == 12 then some 12 else none

/-- OBX_LANE_FAILURE (R608): DEGRADED while a pair is whole, otherwise DOWN. Frames in flight at a retrain are replayed. -/
def execObxLaneFailure (l : Fin 5) (lanes : BitVec 4) (refClockLost : Bool) (s : State) : Host.Outcome State Fault Refusal :=
  .next (
    let x := link l.val s
    if !x.carries then s
    else if refClockLost then linkDown l.val s
    else if x.lanes &&& lanes = 0 then s
    else if x.state = .active then
      match wholePair (x.lanes &&& ~~~lanes) with
      | some pair => replayLink l.val (setLink l.val .degraded pair s)
      | none => linkDown l.val s
    else linkDown l.val s)

/-- Twice the offset to the neighbour that an exchange shows: the difference of its two one-way differences (R613). -/
def exchangeTwice (x : TimingExchange) : Int :=
  ((x.arrivedThere : Int) - x.sent) - ((x.arrived : Int) - x.sentThere)

/-- Median of the sixteen offset results, each half the difference of its one-way differences, when they agree to within one REFCLK_IN cycle (R613; log
entry 85). -/
def agreedOffset (l : List TimingExchange) : Option Int :=
  let sorted := sortBy (fun a b => decide (a ≤ b)) (l.map exchangeTwice)
  if l.length = 16 ∧ sorted.getD 15 0 - sorted.getD 0 0 ≤ 2 then some (sorted.getD 7 0 / 2) else none

/-- FABRIC_DISCOVER goes on once every port it trains has trained, or when a port finds its own address at the other end (R615). -/
def discoverProgress (l : Nat) (conflict : Bool) (s : State) : State :=
  let left := s.fabric.discoverPorts &&& ~~~(BitVec.ofNat 4 (2 ^ l))
  if s.fabric.discoverPorts = 0 then s
  else if conflict || left = 0 then answerLink (waitOf [0x0C00] 0 0 0) s.fabric.discoverRing [if conflict then 1 else 0] (modFabric (fun f => { f with discoverPorts := 0 }) s)
  else modFabric (fun f => { f with discoverPorts := left }) s

/-- Lanes that a training leaves in use: all four, or a whole pair; none where no pair trained (R608). -/
def trainedLanes (m : BitVec 4) : Option (BitVec 4) := if m = 0xF then some m else wholePair m

/-- A trained link (R608, R613, R621 steps 3, 6 and 7): the last sequence accepted before and the slots held for the peer are reported to it, and
sequences start afresh. Until the peer reports the slots it holds, the billets count from the full totals. -/
def linkUp (l : Nat) (t : TrainResult) (lanes : BitVec 4) (offset : Int) (s : State) : State :=
  let last : List ControlMsg := if (link l s).accepted then [.reclaimReport ((link l s).recvSeq - 1)] else []
  let s := modLink l (fun x => { x with neighbour := t.neighbour, known := true, sendSeq := 0, recvSeq := 0, nakWait := false, replay := [], fails := 0,
                                        pending := [], freeNow := x.total, sentSince := Vector.replicate 4 0, heldKnown := false, accepted := false,
                                        slotsFree := Vector.ofFn (fun c : Fin 4 => x.total[c] - x.slots[c]), recvSince := Vector.replicate 4 0,
                                        token := Vector.replicate 4 none, owed := Vector.replicate 4 0, idle := [] }) s
  let s := setLink l (if lanes = 0xF then .active else .degraded) lanes s
  let s := modFabric (fun f => { f with offsets := f.offsets.set t.neighbour offset }) s
  (last ++ [ControlMsg.heldSlots (link l s).slots]).foldl (fun s m => sendOn l m s) s

/-- LINK_TRAINED (R608, R613, R615): lanes without a whole pair, offsets that do not agree, or a neighbour with this device's address leave the link in
TRAINING. -/
def execLinkTrained (l : Fin 5) (t : TrainResult) (s : State) : Host.Outcome State Fault Refusal :=
  .next (
    if (link l.val s).state ≠ .training then s
    else match trainedLanes t.lanes, agreedOffset t.exchanges with
      | some lanes, some offset =>
        if t.neighbour.val = deviceAddress s then discoverProgress l.val true s
        else
          let s := linkUp l.val t lanes offset s
          if l.val = 4 then
            modTwin (fun v => { v with heardAt := s.now, sentAt := s.now })
              (modTwin (fun v => { v with peer := BitVec.ofNat 4 t.neighbour.val }) (if s.twin.state = .solo then setTwinState .detached 0xFFFF s else s))
          else discoverProgress l.val false (fabricChanged (floodOwn s))
      | _, _ => s)

/-! ## Split directions -/

/-- SPLIT_TC2_SILENCE (R623): 10 ms without a message lower S by backoff; MARGIN_STALE is raised. A message in the slow tick of the expiry is on time
(R43). -/
def execSplitTc2Silence (c : Fin 64) (d : Dir) (s : State) : Host.Outcome State Fault Refusal :=
  .next (
    if !(dirLive c d s && splitTransmit (dirDef c d s) s) then s
    else
      let s := modSplit c d id s
      if (splitOf c d s).any (fun v => v.silent || decide (s.slowTicks ≤ v.lastTick + 10)) then s
      else
        let down := (direction c d s).stab.par.backoff
        raise 65 (dirObject c d) 0 (takeSplit c d (modSplit c d (fun v => { v with s := v.s - down, silent := true }) s)))

/-! ## Commands (R643-R645) -/

/-- A field of this group out of its range (R83). -/
def badFabricField (b : Bool) : Option Reject := refuseIf b (badParam detBadField)

/-- An opcode runs on a source other than q. -/
def runsElsewhere (op q : Nat) (s : State) : Bool :=
  (List.range 22).any (fun k => k != q && ((source k s).running.toList ++ (source k s).continuing).any (fun r => r.desc.opcode.toNat == op))

/-- A split direction exists. -/
def splitExists (s : State) : Bool := (liveDirs s).any (fun e => isSplit (dirDef e.1 e.2 s) s)

/-- Checks of FABRIC_DISCOVER. -/
def checkFabricDiscover (r : Running) (s : State) : Option Reject :=
  let x := r.desc
  firstOf [common false [(0, 1), (1, 1), (2, 1), (3, 1)] .none x, badFabricField (decide (2 < par x 0 1) || decide (15 < par x 1 1)),
    refuseIf (twinStrapped s) (badState 0x0C03), refuseIf (runsElsewhere 0x0C00 x.ring.val s || splitExists s) (badState 0x0C01)]

/-- A port trained at a lane rate. A link that carries traffic fails by it: its unacknowledged blocks are counted as dropped and its billets as
reclaimed (R13, R14, R55; log entry 153); what this end holds of its peer's frames stays. -/
def trainPort (rate : Nat) (s : State) (l : Nat) : State :=
  let s := endReclaim l none s
  let lost := ((link l s).replay.filter (fun f => f.kind == .block)) ++ (link l s).pending
  let s := lost.foldl dropBlock s
  setLink l .training 0 (modLink l (fun x => { x with rate := rate, replay := [], pending := [], reclaimed := satAdd 32 x.reclaimed lost.length }) s)

/-- Every enabled port is trained at the lane rate (R604, R615). -/
def trainPorts (rate mask : Nat) (s : State) : State := ((List.range 4).filter (fun l => mask.testBit l)).foldl (trainPort rate) s

/-- Result of FABRIC_DISCOVER (R644). -/
def discoverResult (s : State) : BitVec 128 :=
  result [(0, 1, ((memberList s).length : Nat)), (1, 1, s.fabric.coordinator.val), (2, 1, s.fabric.level), (4, 2, s.fabric.members.toNat)]

/-- The route tables installed; completed (R615, R644). -/
def endDiscover (r : Running) (s : State) : Ans × State :=
  let s := modFabric (fun f => { f with discoverPorts := 0, discoverRing := none }) s
  if r.results.headD 0 = 1 then (refuse (.rejectedState, 0x0C02), s)
  else
    let s := installRoutes s
    (doneWith (discoverResult s), s)

/-- FABRIC_DISCOVER (R615, R644). -/
def opFabricDiscover (r : Running) (s : State) : Ans × State :=
  if r.phase = 1 then endDiscover r s
  else match checkFabricDiscover r s with
    | some e => (refuse e, s)
    | none =>
      let x := r.desc
      let s := trainPorts (par x 0 1) (par x 1 1) s
      let s := modFabric (fun f => { f with sysrefDelay := #v[BitVec.ofNat 8 (par x 2 1), BitVec.ofNat 8 (par x 3 1)], discoverRing := some x.ring,
                                            discoverPorts := BitVec.ofNat 4 (par x 1 1) }) s
      if par x 1 1 = 0 then endDiscover { r with results := [] } s else (awaitHardware r 1 [], s)

/-- Checks of FABRIC_STATUS. -/
def checkFabricStatus (r : Running) (_s : State) : Option Reject :=
  firstOf [common false [(0, 1)] .none r.desc, badFabricField (decide (3 < par r.desc 0 1) && par r.desc 0 1 != 0xFF)]

/-- A link's or the summary's result. The bytes that the table's CRC-32 covers are not in the manual: it is a free value (log entry 4). -/
def effectFabricStatus (r : Running) (s : State) : Ans × State :=
  let n := par r.desc 0 1
  if n = 0xFF then
    let v := takeFree s
    let crc : Nat := (Config.freeValue v.1).toNat % 2 ^ 32
    (doneWith (result [(0, 1, s.fabric.coordinator.val), (2, 2, s.fabric.members.toNat), (4, 4, crc)]), v.2)
  else
    let x := link n s
    (doneWith (result [(0, 1, x.state.code), (1, 1, laneCount x.lanes), (2, 1, x.neighbour.val), (3, 1, if x.up then 0 else 1), (4, 4, x.retries),
      (8, 4, x.reclaimed), (12, 1, min 255 x.freeNow[(0 : Fin 4)]), (13, 1, min 255 x.freeNow[(1 : Fin 4)]), (14, 1, min 255 x.freeNow[(2 : Fin 4)]),
      (15, 1, min 255 x.freeNow[(3 : Fin 4)])]), s)

/-- FABRIC_STATUS (R645). -/
def opFabricStatus (r : Running) (s : State) : Ans × State := guarded checkFabricStatus effectFabricStatus r s

/-- A route that breaks R616: no legal route to the destination leaves by the port. -/
def routeIllegal (a port : Nat) (s : State) : Bool := port != 0xFF && !(routesBy [port] s).any (fun h => h.node.val == a)

/-- Checks of ROUTE_SET. -/
def checkRouteSet (r : Running) (s : State) : Option Reject :=
  let x := r.desc
  firstOf [common false [(0, 1), (1, 1)] .none x,
    badFabricField (decide (15 < par x 0 1) || (decide (3 < par x 1 1) && par x 1 1 != 0xFF)),
    refuseIf (routeIllegal (par x 0 1) (par x 1 1) s) (badParam 0x0C04)]

/-- The route changes; each direction follows at its first block sent after its earlier ones were acknowledged (R617). -/
def changeRoute (x : Desc) (s : State) : State :=
  let a := par x 0 1
  modFabric (fun f => { f with routes := upd f.routes a (fun v =>
    if par x 1 1 = 0xFF then { v with port := v.computed, manual := false } else { v with port := par x 1 1, manual := true }) }) s

/-- No block to the destination is unacknowledged on another path (R617). -/
def routeSettled (x : Desc) (s : State) : Bool :=
  (List.range 4).all (fun l => l == (routeOf (par x 0 1) s).port ||
    (link l s).replay.all (fun f => !(f.kind == .block && f.dst.val == par x 0 1)))

/-- ROUTE_SET (R617, R645). -/
def opRouteSet (r : Running) (s : State) : Ans × State :=
  if r.phase = 1 then (doneWith 0, s)
  else match checkRouteSet r s with
    | some e => (refuse e, s)
    | none =>
      let s := changeRoute r.desc s
      if routeSettled r.desc s then (doneWith 0, s) else (awaitState r 1 [], s)

/-- Totals of a BILLET_SET. -/
def billetTotals (x : Desc) : Vector Nat 4 := Vector.ofFn (fun c : Fin 4 => par x (2 + 2 * c.val) 2)

/-- Classes a link does not carry: TC3 on OBX0-OBX3, TC0 and TC1 on the twin link (R619). -/
def notCarried (l : Nat) (v : Vector Nat 4) : Bool :=
  if l < 4 then v[(3 : Fin 4)] != 0 else v[(0 : Fin 4)] != 0 || v[(1 : Fin 4)] != 0

/-- Checks of BILLET_SET. -/
def checkBilletSet (r : Running) (s : State) : Option Reject :=
  let x := r.desc
  let v := billetTotals x
  firstOf [common false [(0, 1), (2, 2), (4, 2), (6, 2), (8, 2)] .none x, badFabricField (decide (4 < par x 0 1)),
    refuseIf (decide (256 < v.toList.sum) || notCarried (par x 0 1) v) (badParam 0x0C05),
    refuseIf (!(link (par x 0 1) s).carries || (link (par x 0 1) s).billetNext.isSome) (badState 0x0C06)]

/-- BILLET_SET (R620, R645): in force at the census token; a link that goes down first leaves the totals as they were. -/
def opBilletSet (r : Running) (s : State) : Ans × State :=
  let x := r.desc
  if r.phase = 1 then
    if r.results.headD (-1) < 0 then (refuse (.rejectedState, 0x0C06), s)
    else (doneWith (result (r.results.zipIdx.map (fun e => (2 * e.2, 2, e.1)))), s)
  else match checkBilletSet r s with
    | some e => (refuse e, s)
    | none => (awaitHardware r 1 [], modLink (par x 0 1) (fun y => { y with billetNext := some (billetTotals x), billetRing := some x.ring }) s)

/-- Checks of LINK_RECLAIM. -/
def checkLinkReclaim (r : Running) (s : State) : Option Reject :=
  let x := r.desc
  let y := link (par x 0 1) s
  firstOf [common false [(0, 1)] .none x, badFabricField (decide (4 < par x 0 1)),
    refuseIf (y.state == .down || y.state == .reclaiming) (badState 0x0C06)]

/-- LINK_RECLAIM (R621, R645). -/
def opLinkReclaim (r : Running) (s : State) : Ans × State :=
  let x := r.desc
  if r.phase = 1 then (doneWith (result [(0, 4, r.results.getD 0 0), (4, 4, r.results.getD 1 0)]), s)
  else match checkLinkReclaim r s with
    | some e => (refuse e, s)
    | none => (awaitHardware r 1 [], linkDown (par x 0 1) (modLink (par x 0 1) (fun y => { y with reclaimRing := some x.ring }) s))

end Sys2Proof.Machine
end

