-- ==== Sys2Proof/Machine/Twin.lean ====
section
/-! DEFINITION. Twin redundancy: ownership, lockstep and hand-over (R627-R642), its commands (R645), and what arrives in link frames
(R607, R610, R619, R622, R623, R634, R636). -/

namespace Sys2Proof.Machine

/-! ## Synchronisation (R637, R638) -/

/-- SHA-256 of the House Rules generation in force, zeros without one. -/
def rulesHash (s : State) : List Byte :=
  match s.hr.inForce with
  | some k => sha256 (slotImage k.val s)
  | none => List.replicate 32 0

/-- What the owner sends first: its basis offset and what R638 step 1 compares. -/
def syncHello (s : State) : ControlMsg :=
  .syncStart s.twin.beta s.sys.mode.code (rulesHash s) s.eng.catalogue.version (BitVec.ofNat 32 (patchVersion s))

/-- The adaptive state of a direction (R638 step 4). -/
def adaptiveOf (c : Fin 64) (d : Dir) (s : State) : AdaptiveCopy :=
  let x := direction c d s
  { chan := c, dir := d, taps := x.paths.toList.map (·.taps), aRaw := x.meter.aRaw, aRes := x.meter.aRes, level := x.meter.level, s := x.stab.s,
    k := x.stab.k, state := x.stab.state.code, aAlc := x.gain.aAlc, u := x.gain.u, aSq := x.gain.aSq }

/-- A standby takes a direction's adaptive state. -/
def takeAdaptive (a : AdaptiveCopy) (s : State) : State :=
  modDir a.chan a.dir (fun x => { x with
    paths := x.paths.mapIdx (fun k p => { p with taps := (a.taps.getD k p.taps).take p.taps.length }),
    meter := { x.meter with aRaw := a.aRaw, aRes := a.aRes, level := a.level },
    stab := { x.stab with s := a.s, k := a.k, state := StabState.ofCode a.state },
    gain := { x.gain with aAlc := a.aAlc, u := a.u, aSq := a.aSq } }) s

/-- Synchronisation begins on the owner (R638): the comparison, the accepted configuration in the order of R589, the adaptive state and the loops. -/
def startSync (ringOf : Option (Fin 22)) (s : State) : State :=
  let s := setTwinState .syncing 0xFFFF (modTwin (fun t => { t with syncRing := ringOf, own := [], peerRecs := [], outbox := [] }) s)
  let s := queueTwin (syncHello s) s
  let s := (storedItems s).foldl (fun s x => queueTwin (.change x (BitVec.ofNat 32 (basisNow s))) s) s
  let s := (liveDirs s).foldl (fun s e => queueTwin (.adaptive (adaptiveOf e.1 e.2 s)) s) s
  let s := ((List.range 192).filter (fun l => (loop l s).running)).foldl (fun s l =>
    let s := queueTwin (.loopMirror (Fin.ofNat 192 l) (BitVec.ofInt 16 (loop l s).u1)) s
    if (loop l s).rep.store.isEmpty then s else queueTwin (.loopStore (Fin.ofNat 192 l) (loop l s).rep.store) s) s
  queueTwin (.wingSteps (s.thermal.steps.map (·.val))) s

/-- The standby meets the owner's comparison (R635, R638): β is measured, or the difference is answered. -/
def meetSync (beta : Int) (mode : Nat) (rules : List Byte) (catalogue patch : Word) (s : State) : State :=
  if mode = s.sys.mode.code ∧ rules = rulesHash s ∧ catalogue = s.eng.catalogue.version ∧ patch.toNat = patchVersion s then
    let delta := s.fabric.offsets[(link 4 s).neighbour]
    setTwinState .syncing 0xFFFF (modTwin (fun t => { t with beta := delta + beta, own := [], peerRecs := [] }) s)
  else sendTwin .syncRefused s

/-- A change of the owner's that the standby applies (R636): its command runs with the Innkeeper as writer; one of kind E carries the count. -/
def takeChange (x : Desc) (applyAt : Word) (s : State) : State :=
  let item : Desc := { x with ring := 21, timeoutMs := 0xFFFF, flags := x.flags &&& 2, effCount := if useCount x then applyAt else 0 }
  modSource 21 (fun q => { q with fetched := q.fetched ++ [{ desc := item, order := 0, cancelled := false }], readySince := some (q.readySince.getD s.now) }) s

/-- The owner hears that the pair is in lockstep (R638 step 5). -/
def syncEnded (beta : Word) (compared : Nat) (s : State) : State :=
  let q := s.twin.syncRing
  answerLink (waitOf [0x0C11] 0 0 0) q [1, (beta.toNat : Int), (compared : Int)] (setTwinState .lockstep 0xFFFF (modTwin (fun t => { t with syncRing := none, peerBeta := beta, compared := compared }) s))

/-- AUTO_RESYNC (R637): resync_holdoff_ms after DETACHED, with auto_resync set and no twin source in a fault state. -/
def execAutoResync (s : State) : Host.Outcome State Fault Refusal :=
  .next (if s.sys.coreUp && s.twin.owner && s.twin.state == .detached && s.twin.par.autoResync && (link 4 s).carries &&
      decide (s.twin.detachedAt + s.twin.par.holdoffMs ≤ s.slowTicks) && [360, 361, 362].all (fun n => (faultSrc n s).state == .clear) then startSync none s
    else s)

/-! ## Heartbeat (R633) -/

/-- Counts in a number of microseconds. -/
def usCounts (us : Nat) : Nat := ceilDiv (us * 768) 25

/-- HEARTBEAT_SEND (R633). -/
def execHeartbeatSend (s : State) : Host.Outcome State Fault Refusal :=
  .next (if twinStrapped s && s.sys.coreUp && (link 4 s).carries then
      let s := advanceTo (s.twin.sentAt + usCounts s.twin.par.hbPeriodUs) s
      sendTwin .heartbeat (modTwin (fun t => { t with sentAt := s.now }) s)
    else s)

/-- First count of a fault tick (R495). -/
def tickStart (k : Nat) : Nat := ceilDiv (768 * k) 25

/-- HEARTBEAT_TIMEOUT (R633, R637): TWIN_HEARTBEAT is raised and lockstep ends; ownership does not change. The time-out is kept in fault ticks and
a heartbeat in the tick of its expiry is on time (R43, R49), so that it acts when that tick is over. -/
def execHeartbeatTimeout (s : State) : Host.Outcome State Fault Refusal :=
  .next (if twinStrapped s && s.sys.coreUp && s.twin.state != .solo then
      let s := advanceTo (tickStart (25 * s.twin.heardAt / 768 + s.twin.par.hbTimeoutUs + 1)) s
      detachTwin 361 (raise 361 (linkObject 4) 0 (modTwin (fun t => { t with heardAt := s.now }) s))
    else s)

/-! ## Ownership (R630-R632, R640-R642) -/

/-- What a pair in DETACHED or SOLO is after a switch: DETACHED while the twin link carries, otherwise SOLO. -/
def looseState (s : State) : TwinState := if (link 4 s).carries then .detached else .solo

/-- Mirror records in flight at a switch are discarded (R642). -/
def dropMirrors (s : State) : State := modTwin (fun t => { t with own := [], peerRecs := [], outbox := [], fullIn := [], fulls := [] }) s

/-- OWNER_ARBITRATION (R630): OWNER_IN rises; an odd device that claims ownership yields, driving TXSEL low and then OWNER_OUT. -/
def execOwnerArbitration (s : State) : Host.Outcome State Fault Refusal :=
  .next (if twinStrapped s && s.sys.coreUp then
      let s := modTwin (fun t => { t with ownerIn := true }) s
      if s.twin.ownerOut && deviceAddress s % 2 == 1 then
        setTwinState (looseState s) 0xFFFF (dropMirrors (changeOwner false 3 (basisNow s) s))
      else s
    else s)

/-- Every direction starts from MUTED with reason INITIAL (R641). -/
def startMuted (s : State) : State :=
  (liveDirs s).foldl (fun s e =>
    setStability e.1 e.2 { (direction e.1 e.2 s).stab with state := .muted, reason := .initial, dwellRunning := false, onset := none, measuring := none } s) s

/-- The standby takes over at the first multiple of 4 counts of its basis at or after now (R640). -/
def takeOver4 (s : State) : State :=
  let at_ := ceilDiv (basisNow s) 4 * 4
  dropMirrors (changeOwner true 2 at_ (advanceTo (fromBasis at_ s) s))

/-- OWNER_LOST (R640, R641): ALIVE_IN has stopped, or OWNER_IN falls outside a planned hand-over. -/
def execOwnerLost (byAlive : Bool) (s : State) : Host.Outcome State Fault Refusal :=
  .next (
    if !(inStandby s && s.sys.coreUp) then s
    else
      let s := modTwin (fun t => if byAlive then { t with aliveIn := false } else { t with ownerIn := false, ownerLowAt := s.slowTicks }) s
      if s.twin.hand.isSome && !byAlive then s
      else if s.twin.state = .lockstep then setTwinState (looseState s) 0xFFFF (takeOver4 s)
      else if s.twin.par.takeoverDetached then setTwinState (looseState s) 0xFFFF (startMuted (takeOver4 s))
      else s)

/-- ALIVE_STOP (R631): ALIVE_OUT stops, OWNER_OUT and TXSEL go low and the PA-drain PWM outputs go high-impedance. -/
def execAliveStop (s : State) : Host.Outcome State Fault Refusal :=
  .next (if s.twin.aliveOut then
      let s := modTwin (fun t => { t with aliveOut := false, ownerOut := false, txSel := false, owner := false }) s
      (List.finRange 10).foldl (fun s r => if portRail r s then phasesOff r s else s) s
    else s)

/-- CLAIM_WAIT_EXPIRY (R632): the odd device claims ownership when OWNER_IN has stayed low for claim_wait_ms. -/
def execClaimWaitExpiry (s : State) : Host.Outcome State Fault Refusal :=
  .next (if inStandby s && s.sys.coreUp && deviceAddress s % 2 == 1 && !s.twin.ownerIn &&
      decide (s.twin.ownerLowAt + s.twin.par.claimWaitMs ≤ s.slowTicks) then claimService s
    else s)

/-! ## Planned hand-over (R639) -/

/-- State of the pair after a planned hand-over: LOCKSTEP, or DETACHED after a fault reaction. -/
def afterHand (cause : Nat) : TwinState := if cause = 1 then .detached else .lockstep

/-- The instant X is reached, in the count basis. -/
def reachBasis (x : Word) (back : Nat) (s : State) : State := advanceTo (fromBasis ((countNear x (basisNow s)).toNat - back) s) s

/-- HANDOVER_SWITCH (R639): at X the owner drives TXSEL and OWNER_OUT low and the standby drives both high. -/
def execHandoverSwitch (s : State) : Host.Outcome State Fault Refusal :=
  .next (match s.twin.hand with
    | some h =>
      if !h.acked || !s.sys.coreUp then s
      else
        let mine := !s.twin.owner
        let s := reachBasis h.x 0 s
        let s := modTwin (fun t => { t with hand := none, ownerIn := !mine, ownerLowAt := if mine then s.slowTicks else t.ownerLowAt }) s
        let s := dropMirrors (changeOwner mine h.cause h.x.toNat s)
        answerLink (waitOf [0x0C12] 0 0 0) h.ring [1, h.x.toNat] (setTwinState (afterHand h.cause) 0xFFFF s)
    | none => s)

/-- HANDOVER_ACK_DEADLINE (R639): X − 16 counts pass without an acknowledgement; the owner keeps service. -/
def execHandoverAckDeadline (s : State) : Host.Outcome State Fault Refusal :=
  .next (match s.twin.hand with
    | some h =>
      if h.acked || !s.twin.owner || !s.sys.coreUp then s
      else answerLink (waitOf [0x0C12] 0 0 0) h.ring [0] (modTwin (fun t => { t with hand := none }) (reachBasis h.x 16 s))
    | none => s)

/-! ## Frames (R605-R607, R610, R619) -/

/-- An acknowledgement in a header: the frames up to it leave the replay buffer (R607). -/
def takeAck (l : Nat) (f : ObxFrame) (s : State) : State :=
  let x := link l s
  if f.ackValid && x.replay.any (fun g => g.seq == f.ackSeq) then
    modLink l (fun x => { x with replay := (x.replay.dropWhile (fun g => g.seq != f.ackSeq)).drop 1, fails := 0, ackFrom := s.now }) s
  else s

/-- Billets a header returns (R605, R619): that of an IDLE frame or of a frame accepted; a frame that comes again returned them before (log entry 152). -/
def takeReturned (l : Nat) (f : ObxFrame) (s : State) : State :=
  if f.kind = .idle ∨ f.seq = (link l s).recvSeq then modLink l (fun x => { x with freeNow := upd x.freeNow f.retClass.val (· + f.returned) }) s else s

/-- The header of a frame whose CRC holds: acknowledgement, returned billets, NAK (R605, R607). -/
def takeHeader (l : Nat) (f : ObxFrame) (s : State) : State :=
  let s := takeReturned l f (takeAck l f s)
  let s := if l = 4 then flushTwin s.twin.toSend s else s
  if f.nak then replayLink l s else s

/-- A frame with no route onward: a block counts as reclaimed here and FABRIC_ROUTE is raised (R621). -/
def undeliverable (f : ObxFrame) (s : State) : State :=
  if f.kind = .block then
    let e := waybillDir f.waybill
    raise 363 (dirObject e.1 e.2) 0 (dropBlock s f)
  else s

/-- A frame on its way to another device, in a slot of link l: sent on and the slot freed, or kept until a billet is free (R610, R619). -/
def forwardFrame (l : Nat) (f : ObxFrame) (s : State) : State :=
  match outLink f.dst.val s with
  | none => freeSlot l f.tc (undeliverable f s)
  | some o =>
    match sendFrame o.val { f with hops := f.hops + 1 } s with
    | some s => freeSlot l f.tc s
    | none => modLink l (fun x => { x with waiting := x.waiting ++ [{ frame := f, outLink := o }] }) s

/-- Frames that wait in a link's slots tried again, in order. -/
def drainLink (s : State) (l : Nat) : State :=
  (link l s).waiting.foldl (fun s h => forwardFrame l h.frame s) (modLink l (fun x => { x with waiting := [] }) s)

/-- See drainLink. -/
def drainLinks (s : State) : State := (List.range 4).foldl drainLink s

/-- Billets still owed return in IDLE frames, on the link that heard a frame with the acknowledgement (R606). -/
def answerLinks (heard : Nat) (s : State) : State :=
  (List.range 5).foldl (fun s l => if l = heard ∨ 0 < (link l s).due.2 then sendIdle l false s else s) s

/-- The block of a frame (R29, R31). -/
def blockOf (stage : Stage) (f : ObxFrame) : Block :=
  let w := f.waybill.toNat
  { stage := stage, port := Fin.ofNat 8 (w / 2 ^ 8), mute := w.testBit 7, tddBoundary := w.testBit 11, boundaryIndex := BitVec.ofNat 6 (w / 2 ^ 12),
    probeActive := w.testBit 18, late := w.testBit 19, mirrored := w.testBit 20, migrateMark := w.testBit 21, configEpoch := BitVec.ofNat 8 (w / 2 ^ 24),
    gainEpoch := BitVec.ofNat 8 (w / 2 ^ 48), sequence := BitVec.ofNat 16 (w / 2 ^ 32), source := BitVec.ofNat 4 (w / 2 ^ 56),
    firstCount := BitVec.ofNat 32 (w / 2 ^ 64), applied := BitVec.ofNat 16 (w / 2 ^ 96), samples := f.samples }

/-- A count of another device in this device's count, rounded down to a whole count (R612, R614). -/
def convertCount (w : Word) (source : Nat) (s : State) : Int :=
  let delta := s.fabric.offsets[Fin.ofNat 16 source]
  (8 * countNear w ((8 * s.now + delta) / 8).toNat - delta) / 8

/-- The COMBINED block of a frame as the transmit device finds it: a wrong waybill is replaced by that of the direction's next block, muted (R32). The
frame's own CRC-32 has held, so that its channel and direction are taken as they read. -/
def blockArrived (c : Fin 64) (d : Dir) (f : ObxFrame) (s : State) : Block × State :=
  let b := blockOf .combined f
  if waybillOk f.waybill then (b, s)
  else
    let x := direction c d s
    let next := lateBlock c d x.ordinal b.port s
    ({ next with stage := .combined, late := false, source := BitVec.ofNat 4 f.src.val }, waybillError c d next s)

/-- A COMBINED block of a split direction arrives at its transmit device (R622, R625): it takes its place by its sequence; changes requested here
are stamped as blocks arrive. One whose deadline has passed is discarded (R45). A block of a direction that is not here is an orphan (R55). -/
def arriveBlock (f : ObxFrame) (s : State) : State :=
  let e := waybillDir f.waybill
  let c := e.1
  let d := e.2
  if !(dirLive c d s && splitTransmit (dirDef c d s) s) then dropBlock s f
  else
    let v := blockArrived c d f s
    let b := v.1
    let s := v.2
    let ord := blockOrdinal (direction c d s) b
    let first := convertCount b.firstCount b.source.toNat s
    let len := countsPerBlock (chan c s).defn.cls
    let s := if (direction c d s).ordinal = 0 then
        modDir c d (fun x => { x with baseCount := (first - (ord * len : Nat)).toNat, ordinal := ord, released := max x.released ord }) s
      else s
    if ord < (direction c d s).released then s
    else
      let s := stampLine .gain c d ord first.toNat (stampLine .config c d ord first.toNat s)
      modDir c d (fun x => { x with blocks := x.blocks ++ [b], ordinal := max x.ordinal (ord + 1) }) s

/-- A reference returned from the transmit device (R174, R622, R623); one for a direction that is not here is an orphan (R55). -/
def arriveReference (f : ObxFrame) (s : State) : State :=
  let e := waybillDir f.waybill
  if dirLive e.1 e.2 s && splitReceive (dirDef e.1 e.2 s) s then keepHistory e.1 e.2 [blockOf .gained f] s else dropBlock s f

/-- Mirror records arrive (R634, R642): compared on a standby that synchronises or is in lockstep, otherwise discarded. -/
def arriveMirrors (l : List MirrorRec) (s : State) : State :=
  if inStandby s && (s.twin.state == .syncing || s.twin.state == .lockstep) then
    matchMirrors (modTwin (fun t => { t with peerRecs := t.peerRecs ++ l }) s)
  else s

/-- A full mirrored block (R634): compared with the standby's own record of it, now or once the standby has that block, then discarded (R36). -/
def arriveFull (f : ObxFrame) (s : State) : State :=
  let e := waybillDir f.waybill
  if inStandby s && (s.twin.state == .syncing || s.twin.state == .lockstep) then
    matchFulls s.twin.own (modTwin (fun t => { t with fulls := t.fulls ++ [mirrorOf e.1 e.2 (blockOf .accepted f)] }) s)
  else s

/-- An onset reported by the transmit device (R203, R623). -/
def arriveOnset (a : Nat) (c : Fin 64) (d : Dir) (s : State) : State :=
  let s := if dirLive c d s && splitReceive (dirDef c d s) s then
      let m := (direction c d s).stab
      enterBackoff c d (if m.k < m.s then min (m.s - 600) (m.k - m.par.backoff) else m.s - 600) s
    else s
  sendControl a (.onsetAck c d) s

/-- The peer's held slots at a retrain (R621 step 7): free = total − held, less what was sent and more what was returned since the link came up. -/
def takeHeld (l : Nat) (v : Vector Nat 4) (s : State) : State :=
  if (link l s).heldKnown then s
  else modLink l (fun x => { x with freeNow := Vector.ofFn (fun c : Fin 4 => x.freeNow[c] - v[c]), heldKnown := true }) s

/-- Calibrations of the other device of a split direction: a change of them takes a gain epoch (R225). -/
def arriveCal (c : Fin 64) (d : Dir) (cal : Vector Int 4) (s : State) : State :=
  let df := dirDef c d s
  if dirLive c d s && isSplit df s && (direction c d s).peerCal != cal then
    requestChange c d .gain [.frontEnd (frontEnd d df cal s)] none (modDir c d (fun x => { x with peerCal := cal }) s)
  else s

/-- A control message of another device of the fabric. -/
def arriveControl (l : Nat) (f : ObxFrame) (s : State) : State :=
  match f.msg with
  | .reclaimReport n => takeReport f.src.val n s
  | .heldSlots v => takeHeld l v s
  | .topology a near => takeTopology l a near s
  | .channelAsk c v => arriveAsk f.src.val c v s
  | .channelAnswer c k e => arriveAnswer f.src.val c k e s
  | .channelDrop c => arriveDrop c s
  | .channelLeft c d => modDir c d (fun x => { x with peerStarted := true }) s
  | .channelGone c => arriveGone c s
  | .stability c d v k st =>
    if dirLive c d s && splitTransmit (dirDef c d s) s then
      takeSplit c d (modSplit c d (fun x => { x with s := v, k := k, state := st, lastTick := s.slowTicks, silent := false }) s)
    else s
  | .onset c d => arriveOnset f.src.val c d s
  | .onsetAck c d => takeSplit c d (modSplit c d (fun x => { x with cut := none, lastTick := s.slowTicks }) s)
  | .splitCal c d v => arriveCal c d v s
  | .splitMute c d => if dirLive c d s && splitReceive (dirDef c d s) s then oscillationMute c d s else s
  | _ => s

/-- An acknowledgement that comes before X − 16 counts (R639 step 2). -/
def ackOnTime (h : TwinHand) (s : State) : Bool := decide ((basisNow s : Int) + 16 < countNear h.x (basisNow s))

/-- A control message of the twin (R633, R636-R639). -/
def arriveTwin (f : ObxFrame) (s : State) : State :=
  match f.msg with
  | .heartbeat => modTwin (fun t => { t with heardAt := s.now, aliveIn := true }) s
  | .heldSlots v => takeHeld 4 v s
  | .handover x cause =>
    if inStandby s && s.twin.state == .lockstep then
      sendTwin .handoverAck (modTwin (fun t => { t with hand := some { x := x, cause := cause, ring := none, acked := true } }) s)
    else s
  | .handoverAck => modTwin (fun t => { t with hand := t.hand.map (fun h => { h with acked := h.acked || ackOnTime h s }) }) s
  | .pairLost cause => if s.twin.owner then detachTwin cause s else s
  | .loopMirror l u => if inStandby s then modLoop l.val (fun x => { x with u1 := u.toInt }) s else s
  | .loopStore l v => if inStandby s then modLoop l.val (fun x => { x with rep := { x.rep with store := v.take x.rep.store.length } }) s else s
  | .wingSteps v => if inStandby s then takeWingSteps v s else s
  | .change x at_ => if inStandby s then takeChange x at_ s else s
  | .adaptive a => if inStandby s then takeAdaptive a s else s
  | .syncStart b m h c p => if inStandby s then meetSync b m h c p s else s
  | .syncRefused => if s.twin.owner then failSync 2 0xFFFF s else s
  | .syncDone b n => if s.twin.owner && s.twin.state == .syncing then syncEnded b n s else s
  | _ => s

/-- A frame for this device taken by its class and kind. -/
def consumeFrame (l : Nat) (f : ObxFrame) (s : State) : State :=
  match f.kind with
  | .block => if l = 4 then arriveFull f s else if f.tc = 0 then arriveBlock f s else if f.tc = 1 then arriveReference f s else s
  | .control => if l = 4 then arriveTwin f s else arriveControl l f s
  | .mirror => if l = 4 then arriveMirrors f.mirrors s else s
  | _ => s

/-- An accepted frame delivered (R619): one that holds a billet takes a slot, which frees when the frame is consumed here or sent on; CENSUS and TIMING
frames belong to the link itself. -/
def deliverFrame (l : Nat) (f : ObxFrame) (s : State) : State :=
  if f.kind = .census then latchToken l f.sent s
  else if !takesBillet f.kind then s
  else
    let s := takeSlot l f.tc s
    if l ≠ 4 ∧ f.kind ≠ .mirror ∧ f.dst.val ≠ deviceAddress s then forwardFrame l f s else freeSlot l f.tc (consumeFrame l f s)

/-- OBX_FRAME_RECEIVE (R605, R607, R610): CRC, header, order, delivery, and what goes back. A frame whose CRC fails asks for a replay, and until it
comes again every other is discarded; one accepted before is acknowledged again (log entry 184). -/
def execObxFrameReceive (l : Fin 5) (f : ObxFrame) (s : State) : Host.Outcome State Fault Refusal :=
  .next (
    if !((link l.val s).carries && s.sys.coreUp) then s
    else if !f.crcOk then sendIdle l.val true (modLink l.val (fun x => { x with nakWait := true }) s)
    else
      let fresh := f.kind != .idle && f.seq == (link l.val s).recvSeq
      let s := takeHeader l.val f s
      if f.kind = .idle ∨ !(link l.val s).carries then answerLinks 5 (drainLinks s)
      else if !fresh then (if (link l.val s).nakWait then s else answerLinks l.val s)
      else
        let s := modLink l.val (fun x => { x with recvSeq := x.recvSeq + 1, nakWait := false, accepted := true }) s
        answerLinks l.val (drainLinks (deliverFrame l.val f s)))

/-! ## Commands (R643, R645) -/

/-- Parameters of a TWIN_CONFIGURE. -/
def twinParamsOf (x : Desc) : TwinParams :=
  { hbPeriodUs := par x 0 2, hbTimeoutUs := par x 2 2, agree := par x 4 2, mirrorSample := par x 6 2, leadUs := par x 8 2, holdoffMs := par x 10 2,
    claimWaitMs := par x 12 2, autoResync := (par x 14 1).testBit 0, takeoverDetached := (par x 14 1).testBit 1 }

/-- A field out of its range (R645). -/
def badTwinParams (p : TwinParams) : Bool :=
  badRange 10 1000 p.hbPeriodUs || badRange (3 * p.hbPeriodUs) 10000 p.hbTimeoutUs || badRange 16 65535 p.agree ||
  (p.mirrorSample != 0 && badRange 64 65535 p.mirrorSample) || badRange 100 10000 p.leadUs || badRange 100 60000 p.holdoffMs ||
  badRange 100 10000 p.claimWaitMs

/-- Checks of TWIN_CONFIGURE. -/
def checkTwinConfigure (r : Running) (_s : State) : Option Reject :=
  let x := r.desc
  firstOf [common false [(0, 2), (2, 2), (4, 2), (6, 2), (8, 2), (10, 2), (12, 2), (14, 1)] .none x, refuseIf (decide (3 < par x 14 1)) (badParam detReserved),
    refuseIf (badTwinParams (twinParamsOf x)) (badParam 0x0C0D)]

/-- The parameters taken. -/
def effectTwinConfigure (r : Running) (s : State) : Ans × State := (doneWith 0, modTwin (fun t => { t with par := twinParamsOf r.desc }) s)

/-- TWIN_CONFIGURE (R645). -/
def opTwinConfigure (r : Running) (s : State) : Ans × State := guarded checkTwinConfigure effectTwinConfigure r s

/-- The checks TWIN_SYNC and TWIN_HANDOVER share. -/
def twinChecks (r : Running) (s : State) : List (Option Reject) :=
  [common false [] .none r.desc, refuseIf (!(twinStrapped s && (link 4 s).carries)) (badState 0x0C07), refuseIf (!s.twin.owner) (badState 0x0C09)]

/-- Checks of TWIN_SYNC. -/
def checkTwinSync (r : Running) (s : State) : Option Reject := firstOf (twinChecks r s)

/-- Result of TWIN_SYNC: β of the standby, blocks compared (R645). -/
def syncResult (l : List Int) : BitVec 128 := result [(0, 4, l.getD 1 0), (4, 4, l.getD 2 0)]

/-- TWIN_SYNC (R638, R645). Results [1, β, blocks] in LOCKSTEP, [2] for devices that differ, anything else for a failure (R637). -/
def opTwinSync (r : Running) (s : State) : Ans × State :=
  if r.phase = 1 then
    match r.results.headD 0 with
    | 1 => (doneWith (syncResult r.results), s)
    | 2 => (refuse (.rejectedState, 0x0C08), s)
    | _ => (.final { status := .deviceFault, detail := 360, result := 0, seq := none, data := [] }, s)
  else match checkTwinSync r s with
    | some e => (refuse e, s)
    | none =>
      if s.twin.state = .lockstep then (doneWith (syncResult [1, s.twin.peerBeta.toNat, s.twin.compared]), s)
      else (awaitHardware r 1 [], startSync (some r.desc.ring) s)

/-- Checks of TWIN_HANDOVER. -/
def checkTwinHandover (r : Running) (s : State) : Option Reject :=
  firstOf (twinChecks r s ++ [refuseIf (s.twin.state != .lockstep) (badState 0x0C0C)])

/-- TWIN_HANDOVER (R639, R645): one that is already planned answers this command too. -/
def opTwinHandover (r : Running) (s : State) : Ans × State :=
  if r.phase = 1 then
    if r.results.headD 0 = 1 then (doneWith (result [(0, 4, r.results.getD 1 0)]), s) else (refuse (.rejectedState, 0x0C0B), s)
  else match checkTwinHandover r s with
    | some e => (refuse e, s)
    | none =>
      let s := beginHandover 0 none s
      (awaitHardware r 1 [], modTwin (fun t => { t with hand := t.hand.map (fun h => { h with ring := some r.desc.ring }) }) s)

/-- Checks of TWIN_STATUS. -/
def checkTwinStatus (r : Running) (_s : State) : Option Reject := common false [] .none r.desc

/-- TWIN_STATUS's result (R645). -/
def effectTwinStatus (_r : Running) (s : State) : Ans × State :=
  let t := s.twin
  let pins := flagBit t.ownerIn + 2 * flagBit t.aliveIn + 4 * flagBit t.ownerOut + 8 * flagBit t.txSel
  (doneWith (result [(0, 1, if t.owner then 0 else 1), (1, 1, t.state.code), (2, 1, t.peer.toNat), (3, 1, pins), (4, 4, t.beta), (8, 4, t.mismatches.toNat),
    (12, 2, t.handovers.toNat)]), s)

/-- TWIN_STATUS (R645). -/
def opTwinStatus (r : Running) (s : State) : Ans × State := guarded checkTwinStatus effectTwinStatus r s

end Sys2Proof.Machine
end

