-- ==== Sys2Proof/Machine/Host.lean ====
section
/-! DEFINITION. The host interface: rings, doorbells, completions and their waits, cancellation, capture sessions, resets of the interface
(02_host_interface.md). -/

namespace Sys2Proof.Machine

/-- Change of the host interface. -/
def modHif (f : HostIf → HostIf) (s : State) : State := { s with hif := f s.hif }

/-- The host reaches the device: its core runs and the interface is not in reset. -/
def hostUp (s : State) : Bool := s.sys.coreUp && !s.hif.inReset

/-! ## Ends of commands (R79-R82, R91, R92) -/

/-- Timeout of a command in slow ticks, none where it has none (R76, R106). -/
def timeoutOf (x : Desc) (s : State) : Option Nat :=
  let t := if x.timeoutMs = 0 then (if s.hif.timeoutDefault = 0 then 0xFFFF else s.hif.timeoutDefault.toNat) else x.timeoutMs.toNat
  if t = 0xFFFF then none else some t

/-- The command is past its timeout at this step boundary (R91). -/
def expired (r : Running) (s : State) : Bool := (timeoutOf r.desc s).any (fun t => decide (r.startTick + t < s.slowTicks))

/-- A record of a command (R80); its phase and its cmdq_head are those of the moment at which it is written. -/
def recordOf (q : Nat) (r : Running) (st : Status) (detail : Nat) (res : BitVec 128) (seq : Option Half) (final : Bool) : Completion :=
  { tag := r.desc.tag, status := st, phase := false, seqValid := seq.isSome, final := final, effSeq := seq.getD 0, stepCount := min 0xFFFF r.steps,
    sourceRing := q, cmdqHead := 0, detail := BitVec.ofNat 16 detail, opcode := r.desc.opcode, result := res, order := r.order }

/-- A command's data buffer written, before its completion (R79). -/
def writeBuffer (x : Desc) (bytes : List Byte) (s : State) : State :=
  if bytes.isEmpty then s
  else modHif (fun h => { h with dataWritten := h.dataWritten.filter (fun e => e.1 != x.dataAddr) ++ [(x.dataAddr, bytes)] }) s

/-- A command of the ring is in execution, or its completion is not yet written (R72). -/
def ringOwes (q : Nat) (s : State) : Bool :=
  (source q s).running.isSome || s.hif.waiting.any (fun l => l.any (fun c => c.sourceRing == q && c.final && c.status != .doneLate))

/-- A draining ring whose command has posted its completion is disabled (R72). -/
def releaseRing (q : Nat) (s : State) : State :=
  if q < 16 ∧ ringOwes q s = false then modRing q (fun g => if g.state = .draining then { g with state := .disabled } else g) s else s

/-- Opcodes whose acceptance the owner of a pair forwards (R636): those whose settings are stored, and those that undo them. -/
def forwarded (op : Nat) : Bool := (replayGroup op).isSome || [0x0112, 0x0201, 0x0311, 0x0402].contains op

/-- A change accepted: it joins the accepted configuration (R589), and the owner of a pair forwards it to its standby with its apply count (R636). -/
def noteAccepted (x : Desc) (s : State) : State :=
  let s := accept x s
  if hasStandby s && (s.twin.state == .lockstep || s.twin.state == .syncing) && forwarded x.opcode.toNat then
    queueTwin (.change x (if useCount x then x.effCount else BitVec.ofNat 32 (basisNow s))) s
  else s

/-- A status that says the work is complete and in effect (R82). -/
def succeeded (st : Status) : Bool := st == .done || st == .clamped

/-- A buffer that could not be read (R108): after the commit point the command ends DEVICE_FAULT with the fault source's number (R84). -/
def Finish.readFailed (committed : Bool) (f : Finish) : Finish :=
  if committed && f.detail == detHostRead && f.status == .rejectedParam then { f with status := .deviceFault, detail := 11 } else f

/-- What the end of a command brings besides its record: acceptance, the replay's and the compatibility logic's bookkeeping, HOST_ERROR for a
buffer that could not be read (R108). -/
def endEffects (q : Nat) (r : Running) (st : Status) (detail : Nat) (s : State) : State :=
  let s := if succeeded st && !r.committed then noteAccepted r.desc s else s
  let s := if q = 21 ∧ succeeded st = false then replayFailed r.desc st detail s else s
  let s := if q = 20 then legacyDone r.desc st detail s else s
  if (detail = detHostRead ∧ st = .rejectedParam) ∨ (detail = 11 ∧ st = .deviceFault) then hostError s else s

/-- TIMEOUT posted (R48, R91). -/
def postTimeout (q : Nat) (r : Running) (s : State) : State := releaseRing q (postCompletion q (recordOf q r .timeout 0 0 none true) s)

/-- The end of work that continued after TIMEOUT: DONE_LATE, or the event LATE_WORK_ENDED (R48, R92, R715); work that a host-interface reset
silenced ends without either (R110). -/
def lateEnd (q : Nat) (r : Running) (f : Finish) (s : State) : State :=
  let s := if r.silent then s
    else if succeeded f.status then postCompletion q (recordOf q r .doneLate f.detail f.result f.seq true) s
    else postEvent 0x0003 1 0xFFFF (payload 16 [(0, 1, q), (2, 2, r.desc.tag.toNat), (4, 1, f.status.code), (6, 2, f.detail)]) s
  endEffects q r f.status f.detail s

/-- The command in execution on a source ends: what it writes to its buffer (R79), then its own status within its timeout, otherwise TIMEOUT and
then what its work came to (R91). -/
def finishRunning (q : Nat) (r : Running) (f : Finish) (s : State) : State :=
  let f := f.readFailed r.committed
  let s := writeBuffer r.desc f.data (modSource q (fun x => { x with running := none }) s)
  if expired r s then lateEnd q r f (postTimeout q r s)
  else endEffects q r f.status f.detail (releaseRing q (postCompletion q (recordOf q r f.status f.detail f.result f.seq true) s))

/-- The i-th command that continues after TIMEOUT ends. -/
def finishLate (q i : Nat) (r : Running) (f : Finish) (s : State) : State :=
  lateEnd q r f (modSource q (fun x => { x with continuing := x.continuing.eraseIdx i }) s)

/-- Units of a progress record (R93): work done and work total, in the unit an opcode defines; none where it defines no unit. -/
def progressOf (r : Running) (s : State) : Option (Nat × Nat) :=
  match r.desc.opcode.toNat with
  | 0x0410 =>
    some (segmentsBefore (r.aux.headD 0) s, (allSegments s).length)
  | 0x0522 => some (r.aux.headD 0, par r.desc 1 1)
  | 0x0A00 => some (readProgress r s)
  | 0x0C11 => some (((liveDirs s).filter (fun e => s.twin.agreed.any (fun a => a.1 == dirIndex e.1 e.2 && decide (s.twin.par.agree ≤ a.2)))).length, (liveDirs s).length)
  | _ => none

/-- A progress record at a step boundary (R93); one that still waits for room is replaced. -/
def postProgress (q : Nat) (r : Running) (s : State) : Running × State :=
  let interval := max 1 (min 1000 s.hif.progressInterval.toNat)
  if wantsProgress r.desc && decide (r.lastRecord + interval * countsPerSlowTick ≤ s.now) then
    let n := takeFree s
    let free : Nat × Nat := ((Config.freeValue n.1).toNat % 2 ^ 32, (Config.freeValue n.1).toNat / 2 ^ 32 % 2 ^ 32)
    let u := (progressOf r s).getD free
    let s := if (progressOf r s).isNone then n.2 else s
    let c := recordOf q r .stepped 0 (result [(0, 4, u.1), (4, 4, u.2)]) none false
    let k := boundRing q s
    let old (v : Completion) : Bool := !v.final && v.sourceRing == q && v.order == r.order && v.tag == r.desc.tag
    let r := { r with lastRecord := s.now }
    if decide (q < 16) && (nth s.hif.waiting k []).any old then
      (r, modHif (fun h => { h with waiting := upd h.waiting k (·.map (fun v => if old v then c else v)) }) s)
    else (r, postCompletion q c s)
  else (r, s)

/-- A command stays in execution after a step: acceptance at its commit point, TIMEOUT, progress (R91, R93, R96). -/
def keepRunning (q : Nat) (old v : Running) (s : State) : State :=
  let s := if v.committed && !old.committed then noteAccepted v.desc s else s
  if expired v s then
    postTimeout q v (modSource q (fun x => { x with running := none, continuing := x.continuing ++ [v] }) s)
  else
    let p := postProgress q v s
    modSource q (fun x => { x with running := some p.1 }) p.2

/-- COMMAND_TIMEOUT (R91): at a step boundary past its timeout the command in execution completes TIMEOUT, and what needs no host memory goes
on (R92). -/
def execCommandTimeout (q : Fin 22) (s : State) : Host.Outcome State Fault Refusal :=
  .next (match (source q.val s).running with
    | some r =>
      if expired r s then
        postTimeout q.val r (modSource q.val (fun x => { x with running := none, continuing := x.continuing ++ [r] }) s)
      else s
    | none => s)

/-- How a command ends that CANCEL stopped. -/
def cancelledEnd : Finish := { status := .cancelled, detail := 0, result := 0, seq := none, data := [] }

/-! ## NOP, TIME_QUERY, CANCEL (R95, R116-R118) -/

/-- Checks of a command without parameters. -/
def checkBare (r : Running) (_s : State) : Option Reject := common false [] .none r.desc

/-- NOP (R116). -/
def opNop (r : Running) (s : State) : Ans × State := guarded checkBare (fun _ s => (doneWith 0, s)) r s

/-- The clocks together (R118). -/
def effectTimeQuery (_r : Running) (s : State) : Ans × State :=
  (doneWith (result [(0, 4, (frameCount s).toNat), (4, 4, opTime s / hourUs), (8, 4, opTime s % hourUs), (12, 4, (wallNow s).toNat)]), s)

/-- TIME_QUERY (R118). -/
def opTimeQuery (r : Running) (s : State) : Ans × State := guarded checkBare effectTimeQuery r s

/-- Checks of CANCEL (R117). -/
def checkCancel (r : Running) (_s : State) : Option Reject :=
  firstOf [common false [(0, 1), (2, 2)] .none r.desc, refuseIf (decide (15 < par r.desc 0 1)) (badParam detBadField)]

/-- A command that is stopped between its steps: a migration that has not switched is abandoned (R318), a clear whose CLEAR_DONE is not yet
committed is withdrawn (R554; log entry 143). -/
def stopWork (q : Nat) (r : Running) (s : State) : State :=
  if r.desc.opcode = 0x0403 then abandonMigrate (Fin.ofNat 22 q) s else if r.desc.opcode = 0x0A03 ∧ r.phase = 1 then withdrawClear r s else s

/-- The command has passed its commit point (R96): that of GB_CLEAR is the commit of its CLEAR_DONE to flash (R554). -/
def pastCommit (r : Running) (s : State) : Bool := r.committed || (r.desc.opcode == 0x0A03 && r.phase == 1 && clearCommitted r s)

/-- The source a CANCEL names: a desk's CANCEL reaches its own queue alone (R588, log entry 53). -/
def cancelRing (x : Desc) : Nat := if x.ring.val < 16 then par x 0 1 else x.ring.val

/-- The outcome of CANCEL and what it does to its target (R95): a target in execution that is past its timeout receives TIMEOUT at this step boundary
and its stopped work ends as after a TIMEOUT (log entry 144). -/
def cancelTarget (own : Bool) (q : Nat) (tag : Half) (s : State) : Nat × State :=
  let x := source q s
  match x.running.filter (fun v => v.desc.tag == tag) with
  | some v =>
    if pastCommit v s || own then (2, s)
    else (if expired v s then 3 else 1, finishRunning q v cancelledEnd (stopWork q v s))
  | none =>
    match x.continuing.findIdx? (fun v => v.desc.tag == tag && !v.silent) with
    | some i =>
      match x.continuing[i]? with
      | some v => if pastCommit v s then (2, s) else (3, finishLate q i v cancelledEnd (stopWork q v s))
      | none => (4, s)
    | none =>
      match x.fetched.findIdx? (fun f => f.desc.tag == tag) with
      | some i => (0, modSource q (fun x => { x with fetched := x.fetched.modify i (fun f => { f with cancelled := true }) }) s)
      | none => (4, s)

/-- CANCEL past its checks. -/
def effectCancel (r : Running) (s : State) : Ans × State :=
  let q := cancelRing r.desc
  let t := cancelTarget (q == r.desc.ring.val) q (BitVec.ofNat 16 (par r.desc 2 2)) s
  (doneWith (result [(0, 1, t.1)]), t.2)

/-- CANCEL (R95, R117). -/
def opCancel (r : Running) (s : State) : Ans × State := guarded checkCancel effectCancel r s

/-! ## Capture sessions (R119-R121, R169, R170) -/

/-- A tap selector that names no tap. -/
def badTap (n : Nat) : Option Reject :=
  if n / 0x4000 = 3 then badParam detBadField
  else if n / 0x4000 = 2 then
    firstOf [refuseIf (n / 8 % 2 == 1) (badParam detReserved),
      refuseIf (decide (4 < n / 16 % 8) || (n / 16 % 8 == 2 && n % 8 != 0)) (badParam detBadField)]
  else firstOf [refuseIf (n / 16 % 0x400 != 0) (badParam detReserved), refuseIf (decide (8 < n % 16) || (n % 16 == 8 && n / 0x4000 == 1)) (badParam detBadField)]

/-- Checks of CAPTURE_START. -/
def checkCaptureStart (r : Running) (s : State) : Option Reject :=
  let x := r.desc
  firstOf [common false [(0, 1), (2, 2), (4, 1), (8, 4), (12, 4), (16, 2)] .none x, refuseIf (decide (7 < par x 0 1)) (badParam detBadField),
    badTap (par x 2 2), refuseIf (decide (2 < par x 4 1)) (badParam detBadField),
    refuseIf (!(ring (32 + par x 0 1) s).enable || (session (par x 0 1) s).state != .idle) (badState 0)]

/-- The session armed, or capturing at once. -/
def effectCaptureStart (r : Running) (s : State) : Ans × State :=
  let x := r.desc
  let v : Session :=
    { Session.reset with state := if par x 4 1 = 0 then .capturing else .armed, tap := BitVec.ofNat 16 (par x 2 2), startMode := BitVec.ofNat 8 (par x 4 1),
                         startCount := BitVec.ofNat 32 (par x 8 4), limit := BitVec.ofNat 32 (par x 12 4), decimation := max 1 (par x 16 2) }
  (doneWith (result [(0, 4, (frameCount s).toNat)]), modSession (par x 0 1) (fun _ => v) s)

/-- CAPTURE_START (R119). -/
def opCaptureStart (r : Running) (s : State) : Ans × State := guarded checkCaptureStart effectCaptureStart r s

/-- Checks of CAPTURE_STOP. -/
def checkCaptureStop (r : Running) (s : State) : Option Reject :=
  firstOf [common false [(0, 1)] .none r.desc, refuseIf (decide (7 < par r.desc 0 1)) (badParam detBadField),
    refuseIf ((session (par r.desc 0 1) s).state == .idle) (badState 0)]

/-- The newest entry of a capture ring marked last. -/
def markLast (q : Nat) (s : State) : State :=
  modHif (fun h => { h with captures := upd h.captures q (fun l => l.dropLast ++ l.getLast?.toList.map (fun e => { e with last := true })) }) s

/-- The session ends after the entry in progress, which is marked last. Copies are whole events of the model, so that the entry in progress is the
newest one, where the session wrote it and the host has not consumed it (log entry 145). -/
def effectCaptureStop (r : Running) (s : State) : Ans × State :=
  let q := par r.desc 0 1
  (doneWith 0, endSession q (if (session q s).written = 0 then s else markLast q s))

/-- CAPTURE_STOP (R120). -/
def opCaptureStop (r : Running) (s : State) : Ans × State := guarded checkCaptureStop effectCaptureStop r s

/-- Checks of CAPTURE_STATUS. -/
def checkCaptureStatus (r : Running) (_s : State) : Option Reject :=
  firstOf [common false [(0, 1)] .none r.desc, refuseIf (decide (7 < par r.desc 0 1)) (badParam detBadField)]

/-- State of a session and its counts. -/
def effectCaptureStatus (r : Running) (s : State) : Ans × State :=
  let v := session (par r.desc 0 1) s
  let st : Nat := match v.state with
    | .idle => 0
    | .armed => 1
    | .capturing => 2
  (doneWith (result [(0, 1, st), (4, 4, v.written.toNat), (8, 4, v.lost.toNat)]), s)

/-- CAPTURE_STATUS (R121). -/
def opCaptureStatus (r : Running) (s : State) : Ans × State := guarded checkCaptureStatus effectCaptureStatus r s

/-- CAPTURE_SESSION_BEGIN (R119): an armed session begins at its start count, or at the next frame start. -/
def execCaptureSessionBegin (q : Fin 8) (s : State) : Host.Outcome State Fault Refusal :=
  let v := session q.val s
  .next (if v.state = .armed then
      let at_ := if v.startMode = 1 then s.now + (v.startCount - frameCount s).toNat
        else if s.radio.timer.origin = s.now then s.now else (nextFrame s.radio.timer).origin
      modSession q.val (fun v => { v with state := .capturing }) (advanceTo at_ s)
    else s)

/-! ## Ring registers (R69-R73, R107) -/

/-- An enabled command ring is bound to CPLQ k. -/
def boundEnabled (k : Nat) (s : State) : Bool := (List.range 16).any (fun q => (ring q s).enable && (ring q s).cplRing.val == k)

/-- The first record on EVQ1 after a reset of the host interface (R111, R715); it carries the sequence of the reset's Guestbook record once that
record has one (R99). -/
def postResetSeen (s : State) : State :=
  if s.hif.resetSeenPending then
    postEntry (eventAt s 0x0002 1 0xFFFF (payload 16 [(0, 2, s.hif.resetSeenCommands), (2, 2, s.hif.resetSeenRecords)]))
      s.hif.resetSeenSeq.isSome (s.hif.resetSeenSeq.getD 0) (modHif (fun h => { h with resetSeenPending := false }) s)
  else s

/-- Entries of a device-written ring dropped. -/
def clearEntries (r : Nat) (s : State) : State :=
  modHif (fun h =>
    if r < 16 then { h with sources := upd h.sources r (fun x => { x with marks := [] }) }
    else if r < 32 then { h with completions := upd h.completions (r - 16) (fun _ => []) }
    else if r < 40 then { h with captures := upd h.captures (r - 32) (fun _ => []) }
    else { h with events := upd h.events (r - 40) (fun _ => []) }) s

/-- enable goes from 0 to 1 (R71): both indices 0, the write phase 1, ACTIVE; a command ring bound to a disabled completion ring enters ERROR
(R107). A ring that is still DRAINING becomes ACTIVE at once, while its command runs on (log entry 146). A capture ring's count of lost entries
starts anew. -/
def enableRing (r : Nat) (s : State) : State :=
  let s := if 32 ≤ r ∧ r < 40 then setGap (r - 32) 0 s else s
  let s := clearEntries r (modRing r (fun g =>
    { g with enable := true, state := .active, devIndex := 0, hostIndex := 0, phase := true, lost := 0, armed := true, oldestAt := s.now }) s)
  if r < 16 ∧ (ring (16 + boundRing r s) s).enable = false then ringError r 4 s
  else if r = 41 then postResetSeen s
  else s

/-- State of a ring whose enable goes to 0: a ring in ERROR stays there until enable is 1 again (R107). -/
def offState (owes : Bool) : RingState → RingState
  | .error => .error
  | _ => if owes then .draining else .disabled

/-- enable goes from 1 to 0 (R72): a command ring drains, what it fetched is discarded and counted. -/
def disableRing (r : Nat) (s : State) : State :=
  if r < 16 then
    let x := source r s
    let s := modSource r (fun x => { x with fetched := [], marks := [] }) s
    let s := modHif (fun h => { h with abandonedCommands := satAdd 16 h.abandonedCommands x.fetched.length }) s
    modRing r (fun g => { g with enable := false, state := offState (ringOwes r s) g.state }) s
  else modRing r (fun g => { g with enable := false, state := offState false g.state }) s

/-- Fields of RNG_CFG a write changes: those of R70 only while enable is 0; command rings and device-written rings have fields of their own. -/
def Ring.configured (isCmd : Bool) (cfg : Word) (g : Ring) : Ring :=
  let n := cfg.toNat % 32
  let g := if g.enable then g else { g with log2Size := BitVec.ofNat 5 (if 6 ≤ n ∧ n ≤ 16 then n else 6) }
  if isCmd then
    { g with cplRing := if g.enable then g.cplRing else Fin.ofNat 16 (cfg.toNat / 64), priority := Fin.ofNat 4 (cfg.toNat / 1024) }
  else { g with msixVector := cfg.extractLsb' 12 6, irqEnable := cfg.getLsbD 18, coalesceCount := cfg.extractLsb' 24 8 }

/-- A write of RNG_CFG (R69-R73). -/
def writeRingCfg (r : Nat) (cfg : Word) (s : State) : State :=
  let was := (ring r s).enable
  let want := cfg.getLsbD 5 || (was && decide (16 ≤ r) && decide (r < 32) && boundEnabled (r - 16) s)
  let s := modRing r (Ring.configured (decide (r < 16)) cfg) s
  if want && !was then enableRing r s else if !want && was then disableRing r s else s

/-- A write of HIF_CTRL (R106). -/
def writeHifCtrl (value : Word) (s : State) : State := modHif (fun h => { h with enable := value.getLsbD 0 }) s

/-- Change of the configuration space. -/
def modPci (f : Pci → Pci) (s : State) : State := modHif (fun h => { h with pci := f h.pci }) s

/-- Bus Master Enable cleared (R107): every active ring enters ERROR, in the order of the ring indices; the RING_ERROR events of the rings before EVQ0
still reach EVQ0 (log entry 147). -/
def busMasterOff (s : State) : State :=
  (List.range 42).foldl (fun t r => if (ring r s).isActive then ringError r 3 t else t) (modPci (fun p => { p with busMaster := false }) s)

/-- BUS_MASTER_OFF (R107). -/
def execBusMasterOff (s : State) : Host.Outcome State Fault Refusal := .next (if hostUp s then busMasterOff s else s)

/-! ## Doorbells (R75, R104) -/

/-- CMDQ_DOORBELL (R75): descriptors become visible; an index out of the ring is discarded and the ring enters ERROR. -/
def execCmdqDoorbell (q : Fin 16) (value : Word) (s : State) : Host.Outcome State Fault Refusal :=
  let g := ring q.val s
  let i := value.toNat % 65536
  .next (if !hostUp s then s
    else if !g.enable then modRing q.val (fun g => { g with doorbell := BitVec.ofNat 16 i }) s
    else if g.size ≤ i then ringError q.val 2 s
    else
      let n := (i + g.size - g.hostIndex) % g.size
      let s := modRing q.val (fun g => { g with doorbell := BitVec.ofNat 16 i, hostIndex := i }) s
      let s := modHif (fun h => { h with doorbellOrder := h.doorbellOrder + 1 }) s
      if n = 0 then s else modSource q.val (fun x => { x with marks := x.marks ++ [(n, s.hif.doorbellOrder)] }) s)

/-- Unread entries of a device-written ring. -/
def unread (r : Nat) (s : State) : Nat :=
  if r < 32 then (nth s.hif.completions (r - 16) []).length
  else if r < 40 then (nth s.hif.captures (r - 32) []).length
  else (nth s.hif.events (r - 40) []).length

/-- The oldest n unread entries consumed. -/
def consume (r n : Nat) (s : State) : State :=
  modHif (fun h =>
    if r < 32 then { h with completions := upd h.completions (r - 16) (·.drop n) }
    else if r < 40 then { h with captures := upd h.captures (r - 32) (·.drop n) }
    else { h with events := upd h.events (r - 40) (·.drop n) }) s

/-- CONSUMER_DOORBELL (R75, R104): entries are freed, the ring is armed again and the age of what is left starts anew. -/
def execConsumerDoorbell (r : Fin 26) (value : Word) (s : State) : Host.Outcome State Fault Refusal :=
  let n := 16 + r.val
  let g := ring n s
  let i := value.toNat % 65536
  .next (if !hostUp s then s
    else if !g.enable then modRing n (fun g => { g with doorbell := BitVec.ofNat 16 i }) s
    else if g.size ≤ i then ringError n 2 s
    else
      let s := consume n ((i + g.size - g.hostIndex) % g.size) s
      let s := modRing n (fun g => { g with doorbell := BitVec.ofNat 16 i, hostIndex := i, armed := true, oldestAt := s.now }) s
      coalesce n (unread n s) s)

/-- COALESCE_TIMEOUT (R104): the oldest unread entry has waited coalesce_time_us. -/
def execCoalesceTimeout (r : Fin 26) (s : State) : Host.Outcome State Fault Refusal :=
  let n := 16 + r.val
  let g := ring n s
  .next (if g.irqEnable && g.armed && decide (0 < unread n s) then
      raiseVector g.msixVector.toNat (modRing n (fun g => { g with armed := false }) (advanceTo (g.oldestAt + ceilDiv (g.coalesceTimeUs.toNat * 768) 25) s))
    else s)

/-- Records that wait for a completion ring posted in order while it has room (R94). -/
def drainWaiting (k : Nat) : Nat → State → State
  | 0, s => s
  | n + 1, s =>
    match nth s.hif.waiting k [] with
    | c :: rest => if cplRoom k s then drainWaiting k n (cplWrite k c (modHif (fun h => { h with waiting := upd h.waiting k (fun _ => rest) }) s)) else s
    | [] => s

/-! ## Fetching (R74-R76, R587) -/

/-- The device fetches from the source's queue: an enabled command ring that is ACTIVE while the command processor fetches (R106, R107); the
desk queue of a running Lodger with room among its 16 entries (R587); the queues of the compatibility logic and of the replay. -/
def fetches (q : Nat) (s : State) : Bool :=
  s.sys.coreUp &&
    (if q < 16 then !s.hif.inReset && s.hif.enable && (ring q s).state == .active
     else if q < 20 then (lodger (Fin.ofNat 4 (q - 16)) s).state == .running && decide ((source q s).fetched.length < 16)
     else true)

/-- One visible descriptor of a source is taken: the number of its doorbell, and the marks left. A source without a mark takes a new doorbell's
number. -/
def takeMark (fresh : Nat) : List (Nat × Nat) → Nat × List (Nat × Nat)
  | [] => (fresh, [])
  | (n, k) :: rest => (k, if n ≤ 1 then rest else (n - 1, k) :: rest)

/-- A descriptor fetched from a source's queue: the fetch index moves on and the command waits for its turn. -/
def enqueue (q : Nat) (x : Desc) (s : State) : State :=
  let marks := (source q s).marks
  let t := takeMark (if q < 20 then s.hif.doorbellOrder + 1 else 0) marks
  let s := if marks.isEmpty ∧ q < 20 then modHif (fun h => { h with doorbellOrder := h.doorbellOrder + 1 }) s else s
  let s := if q < 16 then
      modRing q (fun g =>
        let i := (g.devIndex + 1) % g.size
        { g with devIndex := i, hostIndex := if marks.isEmpty then i else g.hostIndex, doorbell := if marks.isEmpty then BitVec.ofNat 16 i else g.doorbell }) s
    else s
  modSource q (fun v => { v with head := if 16 ≤ q then v.head + 1 else v.head, marks := t.2,
                                 fetched := v.fetched ++ [{ desc := x, order := t.1, cancelled := false }] }) s

/-- Opcodes whose hardware waits no other row of the table ends: writes to flash, measurements of a calibration, a lock that does not come. -/
def outsideWait (x : Desc) : Bool := [0x0015, 0x0521, 0x0522, 0x0B02, 0x0B03, 0x0B10].contains x.opcode.toNat

/-! ## Resets of the host interface (R109-R112) -/

/-- A command source of the host emptied (R110): what it fetched is discarded; work short of its commit point stops at the step boundary, work past it
goes on in silence. -/
def abandonSource (s : State) (q : Nat) : State :=
  let runs := (source q s).running.toList ++ (source q s).continuing
  let kept := runs.filter (fun r => pastCommit r s)
  let s := (runs.filter (fun r => !pastCommit r s)).foldl (fun s r => stopWork q r s) s
  modSource q (fun _ => { Source.reset with continuing := kept.map (fun r => { r with silent := true }) }) s

/-- The registers of the interface at their reset values; the desk's, the compatibility logic's and the replay's sources stay. Sessions end without an
event; the counts of a session stay as those of the last one (R121). The host's command in execution counts neither as a discarded command nor as a
discarded record (log entry 132), and events lost before the reset are told in no later record (log entry 148). -/
def hifReset (commands records : Nat) (h : HostIf) : HostIf :=
  { HostIf.reset with
      sources := h.sources, inner := h.inner, doorbellOrder := h.doorbellOrder, lastServed := h.lastServed, msixRaised := h.msixRaised,
      pci := { Pci.reset with msixSent := h.pci.msixSent },
      sessions := h.sessions.map (fun v => { Session.reset with written := v.written, lost := v.lost }),
      dataWritten := h.dataWritten, hostResets := h.hostResets + 1, abandonedCommands := min 0xFFFF commands, abandonedRecords := min 0xFFFF records,
      hostResetSeen := true, resetSeenPending := true, resetSeenCommands := min 0xFFFF commands, resetSeenRecords := min 0xFFFF records, inReset := true }

/-- HOST_INTERFACE_RESET (R109-R111): the interface alone is reset. -/
def execHostInterfaceReset (kind : HostResetKind) (s : State) : Host.Outcome State Fault Refusal :=
  .next (if !s.sys.coreUp then (if kind = .perst then modSys (fun v => { v with perst := true }) s else s)
    else
      let commands := ((List.range 16).map (fun q => (source q s).fetched.length)).sum
      let records := (s.hif.waiting.toList.map List.length).sum
      let s := (List.range 16).foldl abandonSource s
      let s := modHif (hifReset commands records) s
      let s := modSys (fun v => { v with cfgReady := false, perst := v.perst || kind == .perst }) s
      logRecord 1 1 (writerSource deviceWriter) 0x0003
        (payload 16 [(0, 2, min 0xFFFF commands), (2, 2, min 0xFFFF records), (4, 2, s.hif.hostResets.toNat)]) [] s)

/-- HOST_INTERFACE_RESET_END (R112): the link is up again, at a width and a speed that its training found (free values). -/
def execHostInterfaceResetEnd (s : State) : Host.Outcome State Fault Refusal :=
  .next (if !s.sys.coreUp || s.sys.perst then s
    else
      modSys (fun x => { x with cfgReady := x.innkeeper != .starting }) (trainLink (modHif (fun h => { h with inReset := false }) s)))

end Sys2Proof.Machine
end

