-- ==== Sys2Proof/Machine/Commands.lean ====
section
/-! DEFINITION. The command processor: the opcode index with each opcode's meaning (R113, R114), what a command meets when it starts (R114, R115,
R588, R636, R650, R712), steps and their arbitration (R85-R92), and the rows that bring a command descriptor. -/

namespace Sys2Proof.Machine

/-- What a step of a command does. -/
abbrev Op := Running → State → Ans × State

/-- The Kind column of the Opcode index (R114): single-step, stepped, or an epoch change. -/
inductive OpKind where
  | single
  | stepped
  | epoch
  deriving DecidableEq, Repr

/-- A row of the Opcode index (R114): its code, its kind, its meaning. -/
structure OpRow where
  code : Nat
  kind : OpKind
  run : Op

/-- Opcodes of group 0x00 (R114). -/
def opGroup00 : List OpRow :=
  [{ code := 0x0000, kind := .single, run := opNop },
   { code := 0x0001, kind := .single, run := opCancel },
   { code := 0x0002, kind := .single, run := opTimeQuery },
   { code := 0x0010, kind := .single, run := opDeviceInfo },
   { code := 0x0011, kind := .stepped, run := opPowerStateSet },
   { code := 0x0012, kind := .stepped, run := opOrderlyStop },
   { code := 0x0013, kind := .stepped, run := opRestart },
   { code := 0x0014, kind := .single, run := opDeviceReset },
   { code := 0x0015, kind := .stepped, run := opConfigSave }]

/-- Opcodes of group 0x01 (R114). -/
def opGroup01 : List OpRow :=
  [{ code := 0x0100, kind := .stepped, run := opLinkConfigure },
   { code := 0x0101, kind := .single, run := opLinkStatus },
   { code := 0x0102, kind := .stepped, run := opStreamConfigure },
   { code := 0x0110, kind := .stepped, run := opChannelCreate },
   { code := 0x0111, kind := .epoch, run := opChannelModify },
   { code := 0x0112, kind := .stepped, run := opChannelRemove },
   { code := 0x0113, kind := .single, run := opChannelStatus },
   { code := 0x0114, kind := .epoch, run := opChannelMute },
   { code := 0x0120, kind := .single, run := opPeakLimitSet }]

/-- Opcodes of group 0x02 (R114). -/
def opGroup02 : List OpRow :=
  [{ code := 0x0200, kind := .epoch, run := opCancelConfigure },
   { code := 0x0201, kind := .epoch, run := opCancelReset },
   { code := 0x0202, kind := .stepped, run := opCancelReadTaps },
   { code := 0x0210, kind := .stepped, run := opIsolationMeasure },
   { code := 0x0211, kind := .single, run := opMarginRead },
   { code := 0x0212, kind := .epoch, run := opMarginSet },
   { code := 0x0213, kind := .single, run := opStabilityStatus },
   { code := 0x0220, kind := .epoch, run := opProbeConfigure }]

/-- Opcodes of group 0x03 (R114). -/
def opGroup03 : List OpRow :=
  [{ code := 0x0300, kind := .epoch, run := opGainSet },
   { code := 0x0301, kind := .epoch, run := opAlcConfigure },
   { code := 0x0302, kind := .epoch, run := opPowerLimitSet },
   { code := 0x0303, kind := .epoch, run := opUlCouplingSet },
   { code := 0x0304, kind := .epoch, run := opSquelchConfigure },
   { code := 0x0305, kind := .single, run := opDonorLossConfigure },
   { code := 0x0306, kind := .single, run := opThresholdConfigure },
   { code := 0x0310, kind := .single, run := opProtectionStatus },
   { code := 0x0311, kind := .stepped, run := opProtectionRelease }]

/-- Opcodes of group 0x04 (R114). -/
def opGroup04 : List OpRow :=
  [{ code := 0x0400, kind := .stepped, run := opAssignmentCreate },
   { code := 0x0401, kind := .epoch, run := opAssignmentModify },
   { code := 0x0402, kind := .stepped, run := opAssignmentRelease },
   { code := 0x0403, kind := .stepped, run := opMigrate },
   { code := 0x0404, kind := .single, run := opEngineStatus },
   { code := 0x0405, kind := .single, run := opPlacementPolicySet },
   { code := 0x0406, kind := .single, run := opSpareSet },
   { code := 0x0410, kind := .stepped, run := opCatalogueLoad },
   { code := 0x0411, kind := .single, run := opCapacityQuery }]

/-- Opcodes of group 0x05 (R114). -/
def opGroup05 : List OpRow :=
  [{ code := 0x0500, kind := .stepped, run := opFrameSyncConfigure },
   { code := 0x0501, kind := .epoch, run := opTddPatternSet },
   { code := 0x0502, kind := .single, run := opFrameStatus },
   { code := 0x0510, kind := .single, run := opFePinConfigure },
   { code := 0x0511, kind := .stepped, run := opSerialQueueLoad },
   { code := 0x0520, kind := .stepped, run := opLoPlanWrite },
   { code := 0x0521, kind := .stepped, run := opLoTune },
   { code := 0x0522, kind := .stepped, run := opLoCalibrate },
   { code := 0x0523, kind := .single, run := opLoStatus },
   { code := 0x0524, kind := .stepped, run := opTxEnable },
   { code := 0x0540, kind := .single, run := opSurveyConfigure },
   { code := 0x0541, kind := .stepped, run := opSurveyRead },
   { code := 0x0550, kind := .single, run := opCoexConfigure }]

/-- Opcodes of group 0x06 (R114). -/
def opGroup06 : List OpRow :=
  [{ code := 0x0600, kind := .stepped, run := opLoopConfigure },
   { code := 0x0601, kind := .single, run := opLoopCoeffLoad },
   { code := 0x0602, kind := .single, run := opLoopSwap },
   { code := 0x0603, kind := .stepped, run := opLoopModeSet },
   { code := 0x0604, kind := .single, run := opLoopStatus },
   { code := 0x0605, kind := .single, run := opRepetitiveConfigure },
   { code := 0x0606, kind := .single, run := opRepetitiveReset }]

/-- Opcodes of group 0x07 (R114). -/
def opGroup07 : List OpRow :=
  [{ code := 0x0700, kind := .stepped, run := opRailConfigure },
   { code := 0x0701, kind := .stepped, run := opRailSetVoltage },
   { code := 0x0702, kind := .stepped, run := opRailStart },
   { code := 0x0703, kind := .stepped, run := opRailStop },
   { code := 0x0704, kind := .single, run := opRailStatus },
   { code := 0x0705, kind := .single, run := opTrackingSet },
   { code := 0x0706, kind := .single, run := opCoreAvsConfigure }]

/-- Opcodes of group 0x08 (R114). -/
def opGroup08 : List OpRow :=
  [{ code := 0x0800, kind := .single, run := opThermalConfigure },
   { code := 0x0801, kind := .single, run := opThermalStatus },
   { code := 0x0802, kind := .single, run := opSensorMapSet },
   { code := 0x0803, kind := .single, run := opLifeRead }]

/-- Opcodes of group 0x09 (R114). -/
def opGroup09 : List OpRow :=
  [{ code := 0x0900, kind := .single, run := opFaultStatus },
   { code := 0x0901, kind := .single, run := opReactionSet },
   { code := 0x0902, kind := .single, run := opFaultRelease },
   { code := 0x0903, kind := .single, run := opFaultParamsSet }]

/-- Opcodes of group 0x0A (R114). -/
def opGroup0A : List OpRow :=
  [{ code := 0x0A00, kind := .stepped, run := opGbRead },
   { code := 0x0A01, kind := .single, run := opGbTailStatus },
   { code := 0x0A02, kind := .single, run := opGbClearChallenge },
   { code := 0x0A03, kind := .stepped, run := opGbClear },
   { code := 0x0A04, kind := .single, run := opGbAppend },
   { code := 0x0A05, kind := .single, run := opWallClockSet }]

/-- Opcodes of group 0x0B (R114). -/
def opGroup0B : List OpRow :=
  [{ code := 0x0B00, kind := .single, run := opHrRead },
   { code := 0x0B01, kind := .single, run := opHrAmendChallenge },
   { code := 0x0B02, kind := .stepped, run := opHrAmend },
   { code := 0x0B03, kind := .stepped, run := opHrLock },
   { code := 0x0B10, kind := .stepped, run := opPatchLoad },
   { code := 0x0B11, kind := .stepped, run := opLodgerLoad },
   { code := 0x0B12, kind := .single, run := opLodgerStart },
   { code := 0x0B13, kind := .single, run := opLodgerStop },
   { code := 0x0B20, kind := .single, run := opIdentityRead },
   { code := 0x0B21, kind := .single, run := opAttest }]

/-- Opcodes of group 0x0C (R114). -/
def opGroup0C : List OpRow :=
  [{ code := 0x0C00, kind := .stepped, run := opFabricDiscover },
   { code := 0x0C01, kind := .single, run := opFabricStatus },
   { code := 0x0C02, kind := .single, run := opRouteSet },
   { code := 0x0C03, kind := .stepped, run := opBilletSet },
   { code := 0x0C04, kind := .stepped, run := opLinkReclaim },
   { code := 0x0C10, kind := .single, run := opTwinConfigure },
   { code := 0x0C11, kind := .stepped, run := opTwinSync },
   { code := 0x0C12, kind := .stepped, run := opTwinHandover },
   { code := 0x0C13, kind := .single, run := opTwinStatus }]

/-- Opcodes of group 0x0D (R114). -/
def opGroup0D : List OpRow :=
  [{ code := 0x0D00, kind := .single, run := opCaptureStart },
   { code := 0x0D01, kind := .single, run := opCaptureStop },
   { code := 0x0D02, kind := .single, run := opCaptureStatus }]

/-- The desk's own calls (R588). -/
def opGroupDesk : List OpRow :=
  [{ code := 0xD000, kind := .single, run := opDeskFaultEvent }, { code := 0xD001, kind := .single, run := opDeskWatchdog },
   { code := 0xD002, kind := .single, run := opDeskHostMessage }, { code := 0xD003, kind := .single, run := opDeskRetain }]

/-- Opcodes of a group. -/
def opGroup : Nat → List OpRow
  | 0x00 => opGroup00
  | 0x01 => opGroup01
  | 0x02 => opGroup02
  | 0x03 => opGroup03
  | 0x04 => opGroup04
  | 0x05 => opGroup05
  | 0x06 => opGroup06
  | 0x07 => opGroup07
  | 0x08 => opGroup08
  | 0x09 => opGroup09
  | 0x0A => opGroup0A
  | 0x0B => opGroup0B
  | 0x0C => opGroup0C
  | 0x0D => opGroup0D
  | 0xD0 => opGroupDesk
  | _ => []

/-- The row of an opcode, none where there is no such opcode. -/
def opRow (code : Nat) : Option OpRow := (opGroup (code / 256)).find? (fun x => x.code == code)

/-- The meaning of an opcode; a command without one never gets past its start. -/
def opRun (code : Nat) : Op := ((opRow code).map (·.run)).getD (fun _ s => (refuse (.rejectedParam, detBadOpcode), s))

/-! ## What a command meets when it starts -/

/-- A call of a Lodger's desk (R587). -/
def isDesk (x : Desc) : Bool := decide (16 ≤ x.ring.val) && decide (x.ring.val < 20)

/-- A command of the host or of the desk. -/
def isOutside (x : Desc) : Bool := decide (x.ring.val < 20)

/-- Calls the desk accepts (R588); groups 0x09 and the ownership rules refuse under details of their own (R407, R513). -/
def deskAccepts (code : Nat) : Bool :=
  match code / 256 with
  | 0x00 => code != 0x0014
  | 0x0B => [0x0B00, 0x0B01, 0x0B02, 0x0B20, 0x0B21].contains code
  | 0x0C => [0x0C01, 0x0C13].contains code
  | 0x0D => false
  | _ => true

/-- Opcodes of COMPAT mode (R650). -/
def compatAccepts (x : Desc) : Bool :=
  let code := x.opcode.toNat
  match code / 256 with
  | 0x01 => [0x0100, 0x0101, 0x0113, 0x0120].contains code
  | 0x02 => [0x0211, 0x0213].contains code
  | 0x03 => [0x0301, 0x0306, 0x0310, 0x0311].contains code || (code == 0x0302 && par x 0 1 == 1 && par x 4 2 == 0x7FFF)
  | 0x04 => [0x0403, 0x0404, 0x0405, 0x0406, 0x0410].contains code
  | 0x05 => code != 0x0501
  | 0x0C => false
  | _ => true

/-- Opcodes that change neither configuration nor state of the repeater, which a standby accepts (R636); TWIN_SYNC and TWIN_HANDOVER refuse with
NOT_OWNER of their own; the desk's own calls and capture concern the sender alone (log entry 54). -/
def readsOnly (code : Nat) : Bool :=
  [0x0000, 0x0001, 0x0002, 0x0010, 0x0101, 0x0113, 0x0202, 0x0211, 0x0213, 0x0310, 0x0404, 0x0411, 0x0502, 0x0523, 0x0541, 0x0604, 0x0704, 0x0801,
   0x0803, 0x0900, 0x0A00, 0x0A01, 0x0B00, 0x0B20, 0x0B21, 0x0C01, 0x0C11, 0x0C12, 0x0C13, 0x0D00, 0x0D01, 0x0D02].contains code || code / 256 == 0xD0

/-- Commands that need the Innkeeper (R712). -/
def needsInnkeeper (x : Desc) : Bool :=
  let code := x.opcode.toNat
  isDesk x || [0x0015, 0x0522, 0x0410, 0x0901, 0x0902, 0x0903, 0x0A02, 0x0A03].contains code || code / 256 == 0x0B ||
    (code / 256 == 0x0C && code != 0x0C01 && code != 0x0C13) || (code == 0x0011 && par x 0 1 == 4)

/-- The refusal a command meets before its own checks: BAD_OPCODE (R114), DESK_DENIED (R588), MODE (R115, R650), STANDBY (R636). -/
def startRefusal (x : Desc) (s : State) : Option Reject :=
  let code := x.opcode.toNat
  let known := (opRow code).isSome
  firstOf [refuseIf (isDesk x && !(known && deskAccepts code)) (badState 0x0B0E),
    refuseIf (!known || (code / 256 == 0xD0 && !isDesk x)) (badParam detBadOpcode),
    refuseIf (s.sys.mode == .compat && isOutside x && !compatAccepts x) (badState detMode),
    refuseIf (inStandby s && isOutside x && !readsOnly code) (badState 0x0C0A)]

/-- The first step of a command: a refusal at its start, which the desk raises (R588), or the step of its opcode. -/
def firstStep (run : Op) (r : Running) (s : State) : Ans × State :=
  match startRefusal r.desc s with
  | some e => if e.2 = 0x0B0E then opDeskDenied r s else (refuse e, s)
  | none => run r s

/-! ## Steps (R85, R90) -/

/-- A change's ticket that waits in no line and was not retired: its channel is gone (R42). -/
def ticketGone (n : Nat) (s : State) : Bool :=
  s.chans.all (fun ch => bothDirs.all (fun d => [EpochKind.config, EpochKind.gain].all (fun k =>
    let l := (ch.dir d).line k
    l.waiting.all (fun w => w.ticket != n) && l.stamped.all (fun st => st.ticket != n))))

/-- Every epoch of the command has retired or will never be carried. -/
def epochsOver (r : Running) (s : State) : Bool := r.epochs.all (fun e => e.retired || ticketGone e.ticket s)

/-- Results of a command that waited for its epochs: those of UL_COUPLING_SET are the ceiling and the donor level at its end (R272). -/
def endResult (r : Running) (s : State) : BitVec 128 :=
  if r.desc.opcode = 0x0111 then modifyResult r
  else if r.desc.opcode = 0x0303 then
    let g := (direction (chanOf (par r.desc 0 1)) .ul s).gain
    result [(0, 2, satInt 16 g.u), (2, 2, g.pDonor)]
  else r.result

/-- How a command that waited for its epochs ends (R42). -/
def epochsEnd (r : Running) (s : State) : Finish :=
  if r.epochs.any (·.retired) then
    { status := if r.clamped then .clamped else .done, detail := 0, result := endResult r s,
      seq := (r.epochs.find? (·.retired)).bind (·.seq), data := [] }
  else { status := .rejectedState, detail := detNoChannel, result := 0, seq := none, data := [] }

/-- The condition a command of an opcode waits for, beside hardware and epochs. -/
def stateReady (r : Running) (s : State) : Bool :=
  let x := r.desc
  if r.steps = 0 then s.sys.innkeeper == .running
  else match x.opcode.toNat with
    | 0x0011 => s.sys.transition != .sleeping 1 && s.sys.transition != .sleeping 3
    | 0x0012 => s.sys.power == .stopped
    | 0x0013 => s.sys.abandonedRestart || !(match s.sys.transition with
        | .restarting _ => true
        | _ => false)
    | 0x0100 => linksReady x s
    | 0x0110 => (chan (chanOf (dat x 0 1)) s).state == .absent || channelStarted (chanOf (dat x 0 1)) s
    | 0x0311 => (par x 0 1 == 0 && (noChannel (par x 1 1) s).isSome) || protectionReleased x s
    | 0x0400 => standaloneRan r s
    | 0x0401 => standaloneRan r s
    | 0x0403 => migrateLeft r s
    | 0x0500 => s.radio.timer.state == .locked
    | 0x0A03 => clearReady r s
    | 0x0A04 => noteStaged r s
    | 0x0B10 => patchRestarted s
    | 0x0C02 => routeSettled x s
    | _ => true

/-- The command can take a step now. -/
def runReady (r : Running) (s : State) : Bool :=
  match r.wait with
  | .none => true
  | .hardware => false
  | .epochs => epochsOver r s
  | .state => stateReady r s

/-- Step count of a command after one more step (R80): an opcode of kind 1 has one step, and what it waits for is the end of that step (log entry
150). -/
def stepsAfter (r : Running) : Nat := if (opRow r.desc.opcode.toNat).any (fun x => x.kind == .single) then 1 else r.steps + 1

/-- One step: the first, or the next one of the opcode. -/
def runStep (run : Op) (r : Running) (s : State) : Ans × State :=
  if r.steps = 0 then firstStep run { r with steps := 1, wait := .none } s else run { r with steps := stepsAfter r } s

/-- A step of the command in execution on a source; one that waited for its epochs ends. -/
def stepRunning (run : Op) (q : Nat) (r : Running) (s : State) : State :=
  if r.wait = .epochs then finishRunning q r (epochsEnd r s) s
  else
    let a := runStep run r (modSource q (fun x => { x with running := some r }) s)
    match a.1 with
    | .final f => finishRunning q { r with steps := stepsAfter r } f a.2
    | .stay v => keepRunning q r v a.2

/-- The next step of a command needs host memory (R92): its first step reads its buffer, and GB_READ writes one record after another to it. -/
def needsHostMemory (r : Running) : Bool := r.desc.dataLen != 0 && (r.steps == 0 || r.desc.opcode == 0x0A00)

/-- How a command ends whose work needs host memory after TIMEOUT: TIMEOUT is the status it received (log entry 151). -/
def unreachableEnd : Finish := { status := .timeout, detail := 0, result := 0, seq := none, data := [] }

/-- A step of the i-th command that continues after TIMEOUT (R92): none that needs host memory. -/
def stepLate (q i : Nat) (r : Running) (s : State) : State :=
  if needsHostMemory r then finishLate q i r unreachableEnd s
  else if r.wait = .epochs then finishLate q i r (epochsEnd r s) s
  else
    let a := runStep (opRun r.desc.opcode.toNat) r s
    match a.1 with
    | .final f => finishLate q i { r with steps := stepsAfter r } f a.2
    | .stay v =>
      let s := if v.committed && !r.committed then noteAccepted v.desc a.2 else a.2
      modSource q (fun x => { x with continuing := x.continuing.set i v }) s

/-- An owner in lockstep gives a change of kind E an effective count at least twin_lead_us ahead (R636). -/
def withLead (x : Desc) (s : State) : Desc :=
  if ((opRow x.opcode.toNat).any (fun y => y.kind == .epoch)) && isOutside x && hasStandby s && (s.twin.state == .lockstep || s.twin.state == .syncing) then
    let least := basisNow s + ceilDiv (s.twin.par.leadUs * 768) 25
    if useCount x && !serialLater 32 least x.effCount.toNat then x
    else { x with flags := x.flags ||| 2, effCount := BitVec.ofNat 32 least }
  else x

/-- A command starts (R85): one that CANCEL found completes CANCELLED without executing (R95); one that needs an Innkeeper that does not run waits
for it under its timeout (R712); every other takes its first step. -/
def startCommand (run : Op) (q : Nat) (f : Fetched) (s : State) : State :=
  let r : Running :=
    { desc := withLead f.desc s, order := f.order, startTick := s.slowTicks, lastRecord := s.now, steps := 0, phase := 0, wait := .none,
      committed := false, clamped := false, epochs := [], aux := [], results := [], result := 0, silent := false }
  if f.cancelled then finishRunning q r cancelledEnd s
  else if needsInnkeeper r.desc && s.sys.innkeeper != .running && (startRefusal r.desc s).isNone then
    modSource q (fun x => { x with running := some { r with wait := .state } }) s
  else stepRunning run q r s

/-- Commands that a barrier of doorbell number n waits for (R87): visible, queued, in execution, or with a completion not yet posted; a command
that received TIMEOUT has posted it. -/
def barrierMet (n : Nat) (s : State) : Bool :=
  (List.range 20).all (fun k =>
    let x := source k s
    x.marks.all (fun m => decide (n ≤ m.2)) && x.fetched.all (fun f => decide (n ≤ f.order)) && x.running.all (fun r => decide (n ≤ r.order))) &&
  s.hif.waiting.all (fun l => l.all (fun c => !c.final || c.status == .doneLate || decide (n ≤ c.order)))

/-- The command at the head of a source's queue may start (R85, R87, R94, R106, R107). -/
def mayStart (q : Nat) (s : State) : Bool :=
  let x := source q s
  match x.fetched with
  | [] => false
  | f :: _ =>
    x.running.isNone &&
    (decide (16 ≤ q) || (s.hif.enable && (ring q s).state == .active && (nth s.hif.waiting (boundRing q s) []).isEmpty)) &&
    (!isBarrier f.desc || barrierMet f.order s)

/-- A source can take a step (R88). -/
def grantable (q : Nat) (s : State) : Bool :=
  let x := source q s
  x.running.any (fun r => runReady r s) || x.continuing.any (fun r => runReady r s) || mayStart q s

/-- The next step of a source: of its command in execution, else of one that continues, else the start of the next command. -/
def serve (q : Nat) (s : State) : State :=
  let x := source q s
  match x.running.filter (fun r => runReady r s) with
  | some r => stepRunning (opRun r.desc.opcode.toNat) q r s
  | none =>
    match x.continuing.findIdx? (fun r => runReady r s) with
    | some i =>
      match x.continuing[i]? with
      | some r => stepLate q i r s
      | none => s
    | none =>
      if mayStart q s then
        match x.fetched with
        | f :: rest => startCommand (opRun f.desc.opcode.toNat) q f (modSource q (fun x => { x with fetched := rest }) s)
        | [] => s
      else s

/-! ## Arbitration (R88, R89) -/

/-- Priority of a source: its ring's, 2 for the desk (R587), 1 for the compatibility logic (R658), 2 for the replay (log entry 55); 0 once aged. -/
def priorityOf (q : Nat) (s : State) : Nat :=
  if (source q s).aged then 0 else if q < 16 then (ring q s).priority.val else if q = 20 then 1 else 2

/-- Sources in the order of a round after the one last served. -/
def roundAfter (last : Nat) : List Nat := (List.range 22).map (fun k => (last + 1 + k) % 22)

/-- The source that is granted the next step: of the highest priority present, round-robin after the source of that priority last served. -/
def chosen (s : State) : Option Nat :=
  let ready := (List.range 22).filter (fun q => grantable q s)
  (List.range 4).findSome? (fun p =>
    if ready.any (fun q => priorityOf q s == p) then
      (roundAfter (nth s.hif.lastServed p 0)).find? (fun q => ready.contains q && priorityOf q s == p)
    else none)

/-- Since when a source has been ready (R89). -/
def refreshSource (s : State) (q : Nat) : State :=
  let ok := grantable q s
  modSource q (fun x => { x with readySince := if ok then some (x.readySince.getD s.now) else none, aged := x.aged && ok }) s

/-- Since when each source has been ready (R89). -/
def refreshReady (s : State) : State := (List.range 22).foldl refreshSource s

/-- A grant to a source. -/
def granted (q : Nat) (s : State) : State :=
  modHif (fun h => { h with lastServed := upd h.lastServed (priorityOf q s) (fun _ => q) }) (modSource q (fun x => { x with readySince := none, aged := false }) s)

/-- STEP_GRANT (R88). -/
def execStepGrant (s : State) : Host.Outcome State Fault Refusal :=
  .next (if !s.sys.coreUp then s
    else match chosen s with
      | some q => refreshReady (serve q (granted q s))
      | none => refreshReady s)

/-! ## EPOCH_RETIRE (R41, R42) -/

/-- Commands of a source whose epochs are over end. -/
def endEpochs (s : State) (q : Nat) : State :=
  let s := match (source q s).running with
    | some r => if r.wait = .epochs ∧ epochsOver r s then finishRunning q r (epochsEnd r s) s else s
    | none => s
  match (source q s).continuing.findIdx? (fun r => r.wait == .epochs && epochsOver r s) with
  | some i =>
    match (source q s).continuing[i]? with
    | some r => finishLate q i r (epochsEnd r s) s
    | none => s
  | none => s

/-- EPOCH_RETIRE (R41, R42): the first block of the epoch has left the synthesiser; the commands that waited for it complete. -/
def execEpochRetire (c : Fin 64) (d : Dir) (k : EpochKind) (s : State) : Host.Outcome State Fault Refusal :=
  .next (refreshReady ((List.range 22).foldl endEpochs (retireEpoch k c d s)))

/-! ## What makes a ring ready (R70-R73, R89, R90, R94, R106) -/

/-- RING_ENABLE (R71): a write of RNG_CFG with enable 1. -/
def execRingEnable (r : Fin 42) (cfg : Word) (s : State) : Host.Outcome State Fault Refusal :=
  .next (if hostUp s then refreshReady (writeRingCfg r.val (cfg ||| 0x20) s) else s)

/-- RING_DISABLE (R72, R73): a write of RNG_CFG with enable 0. -/
def execRingDisable (r : Fin 42) (cfg : Word) (s : State) : Host.Outcome State Fault Refusal :=
  .next (if hostUp s then refreshReady (writeRingCfg r.val (cfg &&& ~~~0x20) s) else s)

/-- HIF_ENABLE (R106). -/
def execHifEnable (value : Word) (s : State) : Host.Outcome State Fault Refusal := .next (if hostUp s then refreshReady (writeHifCtrl value s) else s)

/-- RECORD_SPACE (R94): the records that wait are written; a draining ring whose completion was among them is disabled (R72). -/
def execRecordSpace (r : Fin 16) (s : State) : Host.Outcome State Fault Refusal :=
  let s := drainWaiting r.val (nth s.hif.waiting r.val []).length s
  .next (refreshReady ((List.range 16).foldl (fun s q => releaseRing q s) s))

/-- DESCRIPTOR_FETCH (R75, R107, R108): a visible descriptor is read; a failed read takes the ring to ERROR. -/
def execDescriptorFetch (q : Fin 16) (answer : Option Desc) (s : State) : Host.Outcome State Fault Refusal :=
  .next (if fetches q.val s && !(source q.val s).marks.isEmpty then
      match answer with
      | some x => refreshReady (enqueue q.val { x with ring := Fin.castLE (by omega) q } s)
      | none => hostError (ringError q.val 1 s)
    else s)

/-- RING_AGING (R89): a ready source that no step has been granted for HIF_AGING is served as of priority 0. -/
def execRingAging (q : Fin 22) (s : State) : Host.Outcome State Fault Refusal :=
  .next (if s.hif.aging = 0 ∨ grantable q.val s = false then s
    else modSource q.val (fun x => { x with aged := true })
      (advanceTo (((source q.val s).readySince.getD s.now) + ceilDiv (s.hif.aging.toNat * 768) 25) s))

/-- HARDWARE_WAIT_DONE (R90): what a command of a source waits for in the hardware has ended. -/
def execHardwareWaitDone (q : Fin 22) (results : List Int) (s : State) : Host.Outcome State Fault Refusal :=
  .next (refreshReady (hardwareDone q.val outsideWait results s))

/-! ## The rows that bring a descriptor -/

/-- No source but this one can take a step: the command processor is free for it (R88). -/
def processorFree (q : Nat) (s : State) : Bool := (List.range 22).all (fun k => k == q || !grantable k s)

/-- A descriptor of an opcode at a source's fetch position: it is fetched where the device fetches, and where nothing stands before it and the
processor is free its first step is granted at once (R75, R85, R88); otherwise it waits for STEP_GRANT. -/
def submitRow (code : Nat) (run : Op) (d : Desc) (s : State) : State :=
  let q := d.ring.val
  if !fetches q s then s
  else
    let s := enqueue q { d with opcode := BitVec.ofNat 16 code } s
    match (source q s).fetched with
    | [f] =>
      if mayStart q s && processorFree q s then refreshReady (startCommand run q f (modSource q (fun x => { x with fetched := [] }) (granted q s)))
      else refreshReady s
    | _ => refreshReady s

/-- NOP (0x0000). -/
def execNop (d : Desc) (s : State) : Host.Outcome State Fault Refusal := .next (submitRow 0x0000 opNop d s)

/-- CANCEL (0x0001). -/
def execCancel (d : Desc) (s : State) : Host.Outcome State Fault Refusal := .next (submitRow 0x0001 opCancel d s)

/-- TIME_QUERY (0x0002). -/
def execTimeQuery (d : Desc) (s : State) : Host.Outcome State Fault Refusal := .next (submitRow 0x0002 opTimeQuery d s)

/-- DEVICE_INFO (0x0010). -/
def execDeviceInfo (d : Desc) (s : State) : Host.Outcome State Fault Refusal := .next (submitRow 0x0010 opDeviceInfo d s)

/-- POWER_STATE_SET (0x0011). -/
def execPowerStateSet (d : Desc) (s : State) : Host.Outcome State Fault Refusal := .next (submitRow 0x0011 opPowerStateSet d s)

/-- ORDERLY_STOP (0x0012). -/
def execOrderlyStop (d : Desc) (s : State) : Host.Outcome State Fault Refusal := .next (submitRow 0x0012 opOrderlyStop d s)

/-- RESTART (0x0013). -/
def execRestart (d : Desc) (s : State) : Host.Outcome State Fault Refusal := .next (submitRow 0x0013 opRestart d s)

/-- DEVICE_RESET (0x0014). -/
def execDeviceReset (d : Desc) (s : State) : Host.Outcome State Fault Refusal := .next (submitRow 0x0014 opDeviceReset d s)

/-- CONFIG_SAVE (0x0015). -/
def execConfigSave (d : Desc) (s : State) : Host.Outcome State Fault Refusal := .next (submitRow 0x0015 opConfigSave d s)

/-- LINK_CONFIGURE (0x0100). -/
def execLinkConfigure (d : Desc) (s : State) : Host.Outcome State Fault Refusal := .next (submitRow 0x0100 opLinkConfigure d s)

/-- LINK_STATUS (0x0101). -/
def execLinkStatus (d : Desc) (s : State) : Host.Outcome State Fault Refusal := .next (submitRow 0x0101 opLinkStatus d s)

/-- STREAM_CONFIGURE (0x0102). -/
def execStreamConfigure (d : Desc) (s : State) : Host.Outcome State Fault Refusal := .next (submitRow 0x0102 opStreamConfigure d s)

/-- CHANNEL_CREATE (0x0110). -/
def execChannelCreate (d : Desc) (s : State) : Host.Outcome State Fault Refusal := .next (submitRow 0x0110 opChannelCreate d s)

/-- CHANNEL_MODIFY (0x0111). -/
def execChannelModify (d : Desc) (s : State) : Host.Outcome State Fault Refusal := .next (submitRow 0x0111 opChannelModify d s)

/-- CHANNEL_REMOVE (0x0112). -/
def execChannelRemove (d : Desc) (s : State) : Host.Outcome State Fault Refusal := .next (submitRow 0x0112 opChannelRemove d s)

/-- CHANNEL_STATUS (0x0113). -/
def execChannelStatus (d : Desc) (s : State) : Host.Outcome State Fault Refusal := .next (submitRow 0x0113 opChannelStatus d s)

/-- CHANNEL_MUTE (0x0114). -/
def execChannelMute (d : Desc) (s : State) : Host.Outcome State Fault Refusal := .next (submitRow 0x0114 opChannelMute d s)

/-- PEAK_LIMIT_SET (0x0120). -/
def execPeakLimitSet (d : Desc) (s : State) : Host.Outcome State Fault Refusal := .next (submitRow 0x0120 opPeakLimitSet d s)

/-- CANCEL_CONFIGURE (0x0200). -/
def execCancelConfigure (d : Desc) (s : State) : Host.Outcome State Fault Refusal := .next (submitRow 0x0200 opCancelConfigure d s)

/-- CANCEL_RESET (0x0201). -/
def execCancelReset (d : Desc) (s : State) : Host.Outcome State Fault Refusal := .next (submitRow 0x0201 opCancelReset d s)

/-- CANCEL_READ_TAPS (0x0202). -/
def execCancelReadTaps (d : Desc) (s : State) : Host.Outcome State Fault Refusal := .next (submitRow 0x0202 opCancelReadTaps d s)

/-- ISOLATION_MEASURE (0x0210). -/
def execIsolationMeasure (d : Desc) (s : State) : Host.Outcome State Fault Refusal := .next (submitRow 0x0210 opIsolationMeasure d s)

/-- MARGIN_READ (0x0211). -/
def execMarginRead (d : Desc) (s : State) : Host.Outcome State Fault Refusal := .next (submitRow 0x0211 opMarginRead d s)

/-- MARGIN_SET (0x0212). -/
def execMarginSet (d : Desc) (s : State) : Host.Outcome State Fault Refusal := .next (submitRow 0x0212 opMarginSet d s)

/-- STABILITY_STATUS (0x0213). -/
def execStabilityStatus (d : Desc) (s : State) : Host.Outcome State Fault Refusal := .next (submitRow 0x0213 opStabilityStatus d s)

/-- PROBE_CONFIGURE (0x0220). -/
def execProbeConfigure (d : Desc) (s : State) : Host.Outcome State Fault Refusal := .next (submitRow 0x0220 opProbeConfigure d s)

/-- GAIN_SET (0x0300). -/
def execGainSet (d : Desc) (s : State) : Host.Outcome State Fault Refusal := .next (submitRow 0x0300 opGainSet d s)

/-- ALC_CONFIGURE (0x0301). -/
def execAlcConfigure (d : Desc) (s : State) : Host.Outcome State Fault Refusal := .next (submitRow 0x0301 opAlcConfigure d s)

/-- POWER_LIMIT_SET (0x0302). -/
def execPowerLimitSet (d : Desc) (s : State) : Host.Outcome State Fault Refusal := .next (submitRow 0x0302 opPowerLimitSet d s)

/-- UL_COUPLING_SET (0x0303). -/
def execUlCouplingSet (d : Desc) (s : State) : Host.Outcome State Fault Refusal := .next (submitRow 0x0303 opUlCouplingSet d s)

/-- SQUELCH_CONFIGURE (0x0304). -/
def execSquelchConfigure (d : Desc) (s : State) : Host.Outcome State Fault Refusal := .next (submitRow 0x0304 opSquelchConfigure d s)

/-- DONOR_LOSS_CONFIGURE (0x0305). -/
def execDonorLossConfigure (d : Desc) (s : State) : Host.Outcome State Fault Refusal := .next (submitRow 0x0305 opDonorLossConfigure d s)

/-- THRESHOLD_CONFIGURE (0x0306). -/
def execThresholdConfigure (d : Desc) (s : State) : Host.Outcome State Fault Refusal := .next (submitRow 0x0306 opThresholdConfigure d s)

/-- PROTECTION_STATUS (0x0310). -/
def execProtectionStatus (d : Desc) (s : State) : Host.Outcome State Fault Refusal := .next (submitRow 0x0310 opProtectionStatus d s)

/-- PROTECTION_RELEASE (0x0311). -/
def execProtectionRelease (d : Desc) (s : State) : Host.Outcome State Fault Refusal := .next (submitRow 0x0311 opProtectionRelease d s)

/-- ASSIGNMENT_CREATE (0x0400). -/
def execAssignmentCreate (d : Desc) (s : State) : Host.Outcome State Fault Refusal := .next (submitRow 0x0400 opAssignmentCreate d s)

/-- ASSIGNMENT_MODIFY (0x0401). -/
def execAssignmentModify (d : Desc) (s : State) : Host.Outcome State Fault Refusal := .next (submitRow 0x0401 opAssignmentModify d s)

/-- ASSIGNMENT_RELEASE (0x0402). -/
def execAssignmentRelease (d : Desc) (s : State) : Host.Outcome State Fault Refusal := .next (submitRow 0x0402 opAssignmentRelease d s)

/-- MIGRATE (0x0403). -/
def execMigrate (d : Desc) (s : State) : Host.Outcome State Fault Refusal := .next (submitRow 0x0403 opMigrate d s)

/-- ENGINE_STATUS (0x0404). -/
def execEngineStatus (d : Desc) (s : State) : Host.Outcome State Fault Refusal := .next (submitRow 0x0404 opEngineStatus d s)

/-- PLACEMENT_POLICY_SET (0x0405). -/
def execPlacementPolicySet (d : Desc) (s : State) : Host.Outcome State Fault Refusal := .next (submitRow 0x0405 opPlacementPolicySet d s)

/-- SPARE_SET (0x0406). -/
def execSpareSet (d : Desc) (s : State) : Host.Outcome State Fault Refusal := .next (submitRow 0x0406 opSpareSet d s)

/-- KERNEL_CATALOGUE_LOAD (0x0410). -/
def execKernelCatalogueLoad (d : Desc) (s : State) : Host.Outcome State Fault Refusal := .next (submitRow 0x0410 opCatalogueLoad d s)

/-- CAPACITY_QUERY (0x0411). -/
def execCapacityQuery (d : Desc) (s : State) : Host.Outcome State Fault Refusal := .next (submitRow 0x0411 opCapacityQuery d s)

/-- FRAME_SYNC_CONFIGURE (0x0500). -/
def execFrameSyncConfigure (d : Desc) (s : State) : Host.Outcome State Fault Refusal := .next (submitRow 0x0500 opFrameSyncConfigure d s)

/-- TDD_PATTERN_SET (0x0501). -/
def execTddPatternSet (d : Desc) (s : State) : Host.Outcome State Fault Refusal := .next (submitRow 0x0501 opTddPatternSet d s)

/-- FRAME_STATUS (0x0502). -/
def execFrameStatus (d : Desc) (s : State) : Host.Outcome State Fault Refusal := .next (submitRow 0x0502 opFrameStatus d s)

/-- FE_PIN_CONFIGURE (0x0510). -/
def execFePinConfigure (d : Desc) (s : State) : Host.Outcome State Fault Refusal := .next (submitRow 0x0510 opFePinConfigure d s)

/-- SERIAL_QUEUE_LOAD (0x0511). -/
def execSerialQueueLoad (d : Desc) (s : State) : Host.Outcome State Fault Refusal := .next (submitRow 0x0511 opSerialQueueLoad d s)

/-- LO_PLAN_WRITE (0x0520). -/
def execLoPlanWrite (d : Desc) (s : State) : Host.Outcome State Fault Refusal := .next (submitRow 0x0520 opLoPlanWrite d s)

/-- LO_TUNE (0x0521). -/
def execLoTune (d : Desc) (s : State) : Host.Outcome State Fault Refusal := .next (submitRow 0x0521 opLoTune d s)

/-- LO_CALIBRATE (0x0522). -/
def execLoCalibrate (d : Desc) (s : State) : Host.Outcome State Fault Refusal := .next (submitRow 0x0522 opLoCalibrate d s)

/-- LO_STATUS (0x0523). -/
def execLoStatus (d : Desc) (s : State) : Host.Outcome State Fault Refusal := .next (submitRow 0x0523 opLoStatus d s)

/-- TX_ENABLE (0x0524). -/
def execTxEnable (d : Desc) (s : State) : Host.Outcome State Fault Refusal := .next (submitRow 0x0524 opTxEnable d s)

/-- SURVEY_CONFIGURE (0x0540). -/
def execSurveyConfigure (d : Desc) (s : State) : Host.Outcome State Fault Refusal := .next (submitRow 0x0540 opSurveyConfigure d s)

/-- SURVEY_READ (0x0541). -/
def execSurveyRead (d : Desc) (s : State) : Host.Outcome State Fault Refusal := .next (submitRow 0x0541 opSurveyRead d s)

/-- COEX_CONFIGURE (0x0550). -/
def execCoexConfigure (d : Desc) (s : State) : Host.Outcome State Fault Refusal := .next (submitRow 0x0550 opCoexConfigure d s)

/-- LOOP_CONFIGURE (0x0600). -/
def execLoopConfigure (d : Desc) (s : State) : Host.Outcome State Fault Refusal := .next (submitRow 0x0600 opLoopConfigure d s)

/-- LOOP_COEFF_LOAD (0x0601). -/
def execLoopCoeffLoad (d : Desc) (s : State) : Host.Outcome State Fault Refusal := .next (submitRow 0x0601 opLoopCoeffLoad d s)

/-- LOOP_SWAP (0x0602). -/
def execLoopSwap (d : Desc) (s : State) : Host.Outcome State Fault Refusal := .next (submitRow 0x0602 opLoopSwap d s)

/-- LOOP_MODE_SET (0x0603). -/
def execLoopModeSet (d : Desc) (s : State) : Host.Outcome State Fault Refusal := .next (submitRow 0x0603 opLoopModeSet d s)

/-- LOOP_STATUS (0x0604). -/
def execLoopStatus (d : Desc) (s : State) : Host.Outcome State Fault Refusal := .next (submitRow 0x0604 opLoopStatus d s)

/-- REPETITIVE_CONFIGURE (0x0605). -/
def execRepetitiveConfigure (d : Desc) (s : State) : Host.Outcome State Fault Refusal := .next (submitRow 0x0605 opRepetitiveConfigure d s)

/-- REPETITIVE_RESET (0x0606). -/
def execRepetitiveReset (d : Desc) (s : State) : Host.Outcome State Fault Refusal := .next (submitRow 0x0606 opRepetitiveReset d s)

/-- RAIL_CONFIGURE (0x0700). -/
def execRailConfigure (d : Desc) (s : State) : Host.Outcome State Fault Refusal := .next (submitRow 0x0700 opRailConfigure d s)

/-- RAIL_SET_VOLTAGE (0x0701). -/
def execRailSetVoltage (d : Desc) (s : State) : Host.Outcome State Fault Refusal := .next (submitRow 0x0701 opRailSetVoltage d s)

/-- RAIL_START (0x0702). -/
def execRailStart (d : Desc) (s : State) : Host.Outcome State Fault Refusal := .next (submitRow 0x0702 opRailStart d s)

/-- RAIL_STOP (0x0703). -/
def execRailStop (d : Desc) (s : State) : Host.Outcome State Fault Refusal := .next (submitRow 0x0703 opRailStop d s)

/-- RAIL_STATUS (0x0704). -/
def execRailStatus (d : Desc) (s : State) : Host.Outcome State Fault Refusal := .next (submitRow 0x0704 opRailStatus d s)

/-- TRACKING_SET (0x0705). -/
def execTrackingSet (d : Desc) (s : State) : Host.Outcome State Fault Refusal := .next (submitRow 0x0705 opTrackingSet d s)

/-- CORE_AVS_CONFIGURE (0x0706). -/
def execCoreAvsConfigure (d : Desc) (s : State) : Host.Outcome State Fault Refusal := .next (submitRow 0x0706 opCoreAvsConfigure d s)

/-- THERMAL_CONFIGURE (0x0800). -/
def execThermalConfigure (d : Desc) (s : State) : Host.Outcome State Fault Refusal := .next (submitRow 0x0800 opThermalConfigure d s)

/-- THERMAL_STATUS (0x0801). -/
def execThermalStatus (d : Desc) (s : State) : Host.Outcome State Fault Refusal := .next (submitRow 0x0801 opThermalStatus d s)

/-- SENSOR_MAP_SET (0x0802). -/
def execSensorMapSet (d : Desc) (s : State) : Host.Outcome State Fault Refusal := .next (submitRow 0x0802 opSensorMapSet d s)

/-- LIFE_READ (0x0803). -/
def execLifeRead (d : Desc) (s : State) : Host.Outcome State Fault Refusal := .next (submitRow 0x0803 opLifeRead d s)

/-- FAULT_STATUS (0x0900). -/
def execFaultStatus (d : Desc) (s : State) : Host.Outcome State Fault Refusal := .next (submitRow 0x0900 opFaultStatus d s)

/-- REACTION_SET (0x0901). -/
def execReactionSet (d : Desc) (s : State) : Host.Outcome State Fault Refusal := .next (submitRow 0x0901 opReactionSet d s)

/-- FAULT_RELEASE (0x0902). -/
def execFaultRelease (d : Desc) (s : State) : Host.Outcome State Fault Refusal := .next (submitRow 0x0902 opFaultRelease d s)

/-- FAULT_PARAMS_SET (0x0903). -/
def execFaultParamsSet (d : Desc) (s : State) : Host.Outcome State Fault Refusal := .next (submitRow 0x0903 opFaultParamsSet d s)

/-- GB_READ (0x0A00). -/
def execGbRead (d : Desc) (s : State) : Host.Outcome State Fault Refusal := .next (submitRow 0x0A00 opGbRead d s)

/-- GB_TAIL_STATUS (0x0A01). -/
def execGbTailStatus (d : Desc) (s : State) : Host.Outcome State Fault Refusal := .next (submitRow 0x0A01 opGbTailStatus d s)

/-- GB_CLEAR_CHALLENGE (0x0A02). -/
def execGbClearChallenge (d : Desc) (s : State) : Host.Outcome State Fault Refusal := .next (submitRow 0x0A02 opGbClearChallenge d s)

/-- GB_CLEAR (0x0A03). -/
def execGbClear (d : Desc) (s : State) : Host.Outcome State Fault Refusal := .next (submitRow 0x0A03 opGbClear d s)

/-- GB_APPEND (0x0A04). -/
def execGbAppend (d : Desc) (s : State) : Host.Outcome State Fault Refusal := .next (submitRow 0x0A04 opGbAppend d s)

/-- WALL_CLOCK_SET (0x0A05). -/
def execWallClockSet (d : Desc) (s : State) : Host.Outcome State Fault Refusal := .next (submitRow 0x0A05 opWallClockSet d s)

/-- HR_READ (0x0B00). -/
def execHrRead (d : Desc) (s : State) : Host.Outcome State Fault Refusal := .next (submitRow 0x0B00 opHrRead d s)

/-- HR_AMEND_CHALLENGE (0x0B01). -/
def execHrAmendChallenge (d : Desc) (s : State) : Host.Outcome State Fault Refusal := .next (submitRow 0x0B01 opHrAmendChallenge d s)

/-- HR_AMEND (0x0B02). -/
def execHrAmend (d : Desc) (s : State) : Host.Outcome State Fault Refusal := .next (submitRow 0x0B02 opHrAmend d s)

/-- HR_LOCK (0x0B03). -/
def execHrLock (d : Desc) (s : State) : Host.Outcome State Fault Refusal := .next (submitRow 0x0B03 opHrLock d s)

/-- PATCH_LOAD (0x0B10). -/
def execPatchLoad (d : Desc) (s : State) : Host.Outcome State Fault Refusal := .next (submitRow 0x0B10 opPatchLoad d s)

/-- LODGER_LOAD (0x0B11). -/
def execLodgerLoad (d : Desc) (s : State) : Host.Outcome State Fault Refusal := .next (submitRow 0x0B11 opLodgerLoad d s)

/-- LODGER_START (0x0B12). -/
def execLodgerStart (d : Desc) (s : State) : Host.Outcome State Fault Refusal := .next (submitRow 0x0B12 opLodgerStart d s)

/-- LODGER_STOP (0x0B13). -/
def execLodgerStop (d : Desc) (s : State) : Host.Outcome State Fault Refusal := .next (submitRow 0x0B13 opLodgerStop d s)

/-- IDENTITY_READ (0x0B20). -/
def execIdentityRead (d : Desc) (s : State) : Host.Outcome State Fault Refusal := .next (submitRow 0x0B20 opIdentityRead d s)

/-- ATTEST (0x0B21). -/
def execAttest (d : Desc) (s : State) : Host.Outcome State Fault Refusal := .next (submitRow 0x0B21 opAttest d s)

/-- FABRIC_DISCOVER (0x0C00). -/
def execFabricDiscover (d : Desc) (s : State) : Host.Outcome State Fault Refusal := .next (submitRow 0x0C00 opFabricDiscover d s)

/-- FABRIC_STATUS (0x0C01). -/
def execFabricStatus (d : Desc) (s : State) : Host.Outcome State Fault Refusal := .next (submitRow 0x0C01 opFabricStatus d s)

/-- ROUTE_SET (0x0C02). -/
def execRouteSet (d : Desc) (s : State) : Host.Outcome State Fault Refusal := .next (submitRow 0x0C02 opRouteSet d s)

/-- BILLET_SET (0x0C03). -/
def execBilletSet (d : Desc) (s : State) : Host.Outcome State Fault Refusal := .next (submitRow 0x0C03 opBilletSet d s)

/-- LINK_RECLAIM (0x0C04). -/
def execLinkReclaim (d : Desc) (s : State) : Host.Outcome State Fault Refusal := .next (submitRow 0x0C04 opLinkReclaim d s)

/-- TWIN_CONFIGURE (0x0C10). -/
def execTwinConfigure (d : Desc) (s : State) : Host.Outcome State Fault Refusal := .next (submitRow 0x0C10 opTwinConfigure d s)

/-- TWIN_SYNC (0x0C11). -/
def execTwinSync (d : Desc) (s : State) : Host.Outcome State Fault Refusal := .next (submitRow 0x0C11 opTwinSync d s)

/-- TWIN_HANDOVER (0x0C12). -/
def execTwinHandover (d : Desc) (s : State) : Host.Outcome State Fault Refusal := .next (submitRow 0x0C12 opTwinHandover d s)

/-- TWIN_STATUS (0x0C13). -/
def execTwinStatus (d : Desc) (s : State) : Host.Outcome State Fault Refusal := .next (submitRow 0x0C13 opTwinStatus d s)

/-- CAPTURE_START (0x0D00). -/
def execCaptureStart (d : Desc) (s : State) : Host.Outcome State Fault Refusal := .next (submitRow 0x0D00 opCaptureStart d s)

/-- CAPTURE_STOP (0x0D01). -/
def execCaptureStop (d : Desc) (s : State) : Host.Outcome State Fault Refusal := .next (submitRow 0x0D01 opCaptureStop d s)

/-- CAPTURE_STATUS (0x0D02). -/
def execCaptureStatus (d : Desc) (s : State) : Host.Outcome State Fault Refusal := .next (submitRow 0x0D02 opCaptureStatus d s)

/-- DESK_FAULT_EVENT (0xD000), a call of a Lodger's desk (R588). -/
def execDeskFaultEvent (d : Desc) (s : State) : Host.Outcome State Fault Refusal := .next (submitRow 0xD000 opDeskFaultEvent d s)

/-- DESK_WATCHDOG (0xD001), a call of a Lodger's desk (R588). -/
def execDeskWatchdog (d : Desc) (s : State) : Host.Outcome State Fault Refusal := .next (submitRow 0xD001 opDeskWatchdog d s)

/-- DESK_HOST_MESSAGE (0xD002), a call of a Lodger's desk (R588). -/
def execDeskHostMessage (d : Desc) (s : State) : Host.Outcome State Fault Refusal := .next (submitRow 0xD002 opDeskHostMessage d s)

/-- DESK_RETAIN (0xD003), a call of a Lodger's desk (R588). -/
def execDeskRetain (d : Desc) (s : State) : Host.Outcome State Fault Refusal := .next (submitRow 0xD003 opDeskRetain d s)

/-- DESK_DENIED (R588): a descriptor of any opcode from a Lodger's desk. -/
def execDeskDenied (d : Desc) (s : State) : Host.Outcome State Fault Refusal := .next (submitRow d.opcode.toNat (opRun d.opcode.toNat) d s)

end Sys2Proof.Machine
end

