-- ==== Sys2Proof/Machine/Debug.lean ====
section
/-! DEFINITION. The test access port (16_pins_and_electrical.md, R703, R704, R710). -/

namespace Sys2Proof.Machine

/-- R704 is in force: House Rules are locked and the power state is not STOPPED. -/
def scanLocked (s : State) : Bool := s.hr.locked && s.sys.power != .stopped

/-- TAP_INSTRUCTION (R704): a refused one selects BYPASS and counts. -/
def execTapInstruction (i : TapInstr) (s : State) : Host.Outcome State Fault Refusal :=
  let d := s.dbg
  let d := { d with active := d.active || i != TapInstr.testLogicReset }
  .next (if scanLocked s && drivesPins i then
      { s with dbg := { d with inForce := .bypass, refused := BitVec.ofNat 16 (satAdd 16 d.refused.toNat 1) } }
    else { s with dbg := { d with inForce := i } })

end Sys2Proof.Machine
end

