-- ==== Sys2Proof/Machine/Registers.lean ====
section
/-! DEFINITION. The windows a host reads and writes: the setup window (R56-R58) with what a read of each register answers and writes under the access
codes of R23, the doorbell window (R74), the PCI Express configuration space (R59-R62). -/

namespace Sys2Proof.Machine

/-- A register's word from its fields, as (low bit, width, value). -/
def regBits : List (Nat × Nat × Int) → Nat
  | [] => 0
  | (b, n, v) :: rest => (code n v) <<< b ||| regBits rest

/-- The state a row answers. -/
def rowState (o : Host.Outcome State Fault Refusal) (s : State) : State :=
  match o with
  | .next t => t
  | _ => s

/-- Register n of an array of words at a base with a step; none outside it. -/
def regIndex (off base step count : Nat) : Option Nat :=
  if base ≤ off ∧ (off - base) % step = 0 ∧ (off - base) / step < count then some ((off - base) / step) else none

/-! ## SYS and NPT (0x0000-0x07FF) -/

/-- SYS_STATE (0x0008). -/
def regSysState (s : State) : Nat :=
  regBits [(0, 3, s.sys.power.code), (3, 3, if s.sys.power = .stopped then s.sys.stopReason else 0), (6, 1, flagBit s.sys.rfReady),
    (7, 1, flagBit s.sys.autonomous), (8, 1, flagBit (s.sys.transition != .none)), (9, 3, min 7 (recentRestarts s).length)]

/-- Registers of the SYS block. -/
def readSys (off : Nat) (s : State) : Nat :=
  match off with
  | 0x0000 => 0x00B06400
  | 0x0004 => regBits [(0, 2, s.sys.straps.mode.toNat), (2, 3, s.sys.straps.bootv.toNat), (5, 4, s.sys.straps.devid.toNat), (9, 1, flagBit s.sys.straps.twinSel)]
  | 0x0008 => regSysState s
  | 0x0010 => regBits [(0, 16, min 0xFFFF s.sys.rfReadyMs), (16, 2, s.sys.startKind), (18, 1, flagBit s.sys.patchSlot), (19, 1, flagBit s.sys.romOnly)]
  | 0x0020 => identityNat % 2 ^ 32
  | 0x0024 => identityNat / 2 ^ 32
  | 0x0040 => regBits [(0, 16, s.pool.audits.toNat), (16, 1, flagBit s.pool.mismatch), (17, 1, flagBit s.pool.poolMismatch), (18, 2, s.pool.tclass.toNat),
      (20, 4, s.pool.link.toNat)]
  | 0x0044 => regBits [(0, 14, s.pool.reportedFree), (14, 14, s.pool.lowWater)]
  | _ => 0

/-- Registers of the NPT block. -/
def readNpt (off : Nat) (s : State) : Nat :=
  let n := s.sys.npt
  match off with
  | 0x0400 => regBits [(0, 4, n.below.toNat), (4, 4, n.tripped.toNat), (8, 1, flagBit n.rtcOk), (9, 1, flagBit n.critLatched)]
  | 0x0404 => regBits [(0, 3, n.wakeCause), (3, 8, n.receivers.toNat), (16, 16, n.wakes.toNat)]
  | 0x0408 => n.alarm.toNat
  | 0x040C => n.retention.toNat
  | _ =>
    match regIndex off 0x0440 4 8 with
    | some k =>
      let w := nth n.wk k { enable := false, activity := false, threshold := 0, lookMs := 0, looks := 0 }
      regBits [(0, 1, flagBit w.enable), (1, 1, flagBit w.activity), (2, 6, w.threshold.toNat), (8, 6, w.lookMs.toNat), (14, 4, w.looks.toNat)]
    | none => 0

/-! ## HIF and RNG (0x0800-0x13FF) -/

/-- Some command is in execution or continues after TIMEOUT, of whatever source. -/
def hifBusy (s : State) : Bool := (List.range 22).any (fun q => (source q s).running.isSome || !(source q s).continuing.isEmpty)

/-- Registers of the HIF block (R106). -/
def readHif (off : Nat) (s : State) : Nat :=
  let h := s.hif
  match off with
  | 0x0800 => regBits [(0, 1, flagBit h.enable)]
  | 0x0804 => regBits [(0, 1, flagBit (h.enable && s.sys.coreUp && !h.inReset)), (1, 1, flagBit (!hifBusy s)), (2, 1, flagBit h.hostResetSeen),
      (3, 3, h.linkWidth.toNat), (6, 2, h.linkSpeed.toNat)]
  | 0x0808 => h.timeoutDefault.toNat
  | 0x080C => h.progressInterval.toNat
  | 0x0810 => h.aging.toNat
  | 0x0814 => h.hostResets.toNat
  | 0x0818 => regBits [(0, 16, h.abandonedCommands), (16, 16, h.abandonedRecords)]
  | _ => 0

/-- State a ring reports (R69, R94): a command ring is STALLED while a record waits for its completion ring. -/
def ringStateCode (r : Nat) (s : State) : Nat :=
  match (ring r s).state with
  | .disabled => 0
  | .active => if r < 16 ∧ (nth s.hif.waiting (boundRing r s) []).isEmpty = false then 2 else 1
  | .stalled => 2
  | .error => 3
  | .draining => 4

/-- Registers of a ring's slot (R69). -/
def readRing (r off : Nat) (s : State) : Nat :=
  let g := ring r s
  match off with
  | 0x00 => g.baseLo.toNat * 4096
  | 0x04 => g.baseHi.toNat
  | 0x08 =>
    if r < 16 then regBits [(0, 5, g.log2Size.toNat), (5, 1, flagBit g.enable), (6, 4, g.cplRing.val), (10, 2, g.priority.val)]
    else regBits [(0, 5, g.log2Size.toNat), (5, 1, flagBit g.enable), (12, 6, g.msixVector.toNat), (18, 1, flagBit g.irqEnable), (24, 8, g.coalesceCount.toNat)]
  | 0x0C => if r < 16 then 0 else g.coalesceTimeUs.toNat
  | 0x10 => regBits [(0, 16, g.devIndex), (16, 1, flagBit g.phase)]
  | 0x14 => g.hostIndex
  | 0x18 => regBits [(0, 3, ringStateCode r s), (4, 4, g.errorCause.toNat), (8, 1, flagBit g.error), (16, 16, if r < 32 then 0 else g.lost)]
  | _ => 0

/-- Ring of an offset in the RNG block, with the offset in its slot. -/
def ringSlot (off : Nat) : Option (Nat × Nat) :=
  if 0x0C00 ≤ off ∧ (off - 0x0C00) / 0x20 < 42 then some ((off - 0x0C00) / 0x20, (off - 0x0C00) % 0x20) else none

/-! ## JES (0x1400-0x1BFF) -/

/-- Registers of the JES block (R172). -/
def readJes (off : Nat) (s : State) : Nat :=
  let l := s.links
  match off with
  | 0x1400 => jesRxStatus s
  | 0x1404 => jesTxStatus s
  | 0x1408 => regBits [(0, 2, l.sysrefMode.toNat), (2, 1, flagBit l.sysrefArm)]
  | 0x140C => jesSysrefStatus s
  | 0x1410 => l.rxPolarity.toNat
  | 0x1414 => l.txPolarity.toNat
  | _ =>
    match regIndex off 0x1420 4 18, regIndex off 0x1480 4 8, regIndex off 0x14A0 4 16 with
    | some n, _, _ => min 0xFFFFFFFF (nth l.crcErr n 0)
    | _, some n, _ => min 0xFFFFFFFF (nth l.underrun n 0)
    | _, _, some n => min 0xFFFFFFFF (if n % 2 = 0 then nth l.limited (n / 2) 0 else nth l.clipped (n / 2) 0)
    | _, _, _ => 0

/-! ## FTM, LOS, FEB (0x1C00-0x27FF) -/

/-- Registers of the FTM block. -/
def readFtm (off : Nat) (s : State) : Nat :=
  let t := s.radio.timer
  match off with
  | 0x1C00 => (frameCount s).toNat
  | 0x1C04 => regBits [(0, 19, framePosition s.now s), (19, 10, t.frameNumber)]
  | 0x1C08 => t.origin % 2 ^ 32
  | 0x1C0C => regBits [(0, 3, t.state.code), (3, 3, t.tracked), (6, 1, flagBit (timingHold s)), (8, 8, satInt 8 t.phaseError), (16, 16, t.slews.toNat)]
  | 0x1C10 => regBits [(0, 16, satInt 16 t.freqPpb), (16, 16, min 0xFFFF (holdoverElapsed s))]
  | 0x1C14 => t.ppsCapture.toNat
  | 0x1C18 => regBits [(0, 3, t.ppsPhase.toNat), (3, 1, flagBit t.ppsValid), (8, 8, min 255 t.ppsMissed)]
  | _ =>
    match regIndex off 0x1C40 4 8 with
    | some k =>
      match (nth s.radio.patterns k { cur := none, next := none }).cur with
      | some p => regBits [(0, 1, 1), (1, 6, p.segs.length), (7, 19, p.period)]
      | none => 0
    | none => 0

/-- Registers of the LOS block. -/
def readLos (off : Nat) (s : State) : Nat :=
  let nibbles (m : Vector (BitVec 4) 8) : Nat := (List.finRange 8).foldl (fun a p => a + m[p].toNat * 16 ^ p.val) 0
  match off with
  | 0x2020 => nibbles s.radio.mapTx
  | 0x2024 => nibbles s.radio.mapRx
  | 0x202C => s.radio.calWindow.toNat
  | _ =>
    match regIndex off 0x2000 4 5, regIndex off 0x2030 4 5 with
    | some n, _ =>
      let l := s.radio.los[Fin.ofNat 5 n]
      regBits [(0, 5, loBits (Fin.ofNat 5 n) s), (8, 8, l.plan.val), (16, 16, l.unlocks.toNat)]
    | _, some n =>
      let l := s.radio.los[Fin.ofNat 5 n]
      regBits [(0, 16, min 0xFFFF l.lastLock), (16, 16, min 0xFFFF l.worstLock)]
    | _, _ => 0

/-- Registers of the FEB block. -/
def readFeb (off : Nat) (s : State) : Nat :=
  let level (lo n : Nat) : Nat := (List.range n).foldl (fun a k => a + (if pinLevel (Fin.ofNat 48 (lo + k)) s then 2 ^ k else 0)) 0
  match off with
  | 0x2400 => level 0 32
  | 0x2404 => level 32 16
  | _ =>
    match regIndex off 0x2440 4 48, regIndex off 0x2500 4 4, regIndex off 0x2510 4 2 with
    | some n, _, _ =>
      let p := s.radio.pins[Fin.ofNat 48 n]
      regBits [(0, 4, p.role), (4, 3, p.port.val), (7, 1, flagBit p.activeHigh), (8, 8, p.onOffset), (16, 8, p.offOffset)]
    | _, some m, _ =>
      let v := s.radio.serial[Fin.ofNat 4 m]
      regBits [(0, 9, v.queue.length), (9, 1, flagBit v.running.isSome), (16, 16, v.late.toNat)]
    | _, _, some x =>
      let v := s.radio.coex[Fin.ofNat 2 x]
      regBits [(0, 1, flagBit v.req), (1, 1, flagBit v.pri), (2, 1, flagBit v.gnt), (3, 1, flagBit v.act), (4, 1, flagBit v.deferred),
        (8, 8, min 100 (grantedMs v s / 10)), (16, 16, v.grants.toNat)]
    | _, _, _ => 0

/-! ## VRC, THM, FLT, GBK (0x2800-0x3BFF) -/

/-- Boot voltage of the BOOTV straps in mV (R447). -/
def bootMv (s : State) : Nat := bootMillivolts s.sys.straps.bootv

/-- Code of a phase's state (R416, VRC_PHASE_STATUS). -/
def PhaseState.code : PhaseState → Nat
  | .off => 0
  | .active => 1
  | .removedOpen => 2
  | .removedSense => 3
  | .dutyMirror => 4

/-- Registers of the VRC block. -/
def readVrc (off : Nat) (s : State) : Nat :=
  let v := s.supply
  match off with
  | 0x2800 => regBits [(0, 1, flagBit v.bootDone), (1, 1, flagBit v.coreLoop), (2, 1, flagBit v.timebaseLocked), (3, 1, flagBit v.avsEnabled),
      (4, 4, v.bootRetries.toNat)]
  | 0x2804 => regBits [(0, 3, s.sys.straps.bootv.toNat), (16, 16, bootMv s)]
  | 0x2980 => regBits [(0, 16, (rail 0 s).refMv), (16, 4, v.creditedWing.val), (20, 5, v.credit), (25, 1, flagBit v.atLimit)]
  | 0x2984 => regBits [(0, 16, v.vFloor), (16, 4, v.topAgingWing.val)]
  | _ =>
    match regIndex off 0x2840 4 10, regIndex off 0x2880 4 10, regIndex off 0x28C0 4 10, regIndex off 0x2900 4 16 with
    | some r, _, _, _ =>
      let n : Fin 10 := Fin.ofNat 10 r
      let x := rail n s
      let track : Nat := match x.tracking with
        | some t => if t.2.1 = 1 then 2 else 3
        | none => if (followers n s).isEmpty then 0 else 1
      let mirror := x.plan.phases.any (fun p => s.supply.phases[p].state == .dutyMirror)
      regBits [(0, 3, x.state.code), (3, 2, (modeNumber x.mode).val), (5, 1, flagBit x.powerGood), (6, 2, track), (8, 10, railCapacity n s),
        (18, 1, flagBit mirror)]
    | _, some r, _, _ =>
      let x := rail (Fin.ofNat 10 r) s
      regBits [(0, 16, x.sensed), (16, 16, x.refMv)]
    | _, _, some r, _ =>
      let x := rail (Fin.ofNat 10 r) s
      regBits [(0, 16, x.truncations.toNat), (16, 16, x.limitCycles.toNat)]
    | _, _, _, some n =>
      let p : Fin 16 := Fin.ofNat 16 n
      let own : Nat := ((List.finRange 10).find? (fun r => (rail r s).plan.phaseMask.getLsbD n)).elim 0xF (·.val)
      regBits [(0, 4, own), (4, 3, (v.phases[p]).state.code), (16, 16, satInt 16 (v.phases[p]).current)]
    | _, _, _, _ => 0

/-- Sensor of the highest temperature in use: the lowest number among equals. -/
def hottestSensor (s : State) : Nat :=
  (List.range 32).foldl (fun a n => if (sensor a s).inUse < (sensor n s).inUse then n else a) 0

/-- Registers of the THM block. -/
def readThm (off : Nat) (s : State) : Nat :=
  let one (n : Nat) : Nat :=
    let x := sensor n s
    regBits [(0, 16, satInt 16 x.inUse), (16, 8, thetaTenths x), (24, 1, flagBit x.failed), (25, 3, sensorStep n s)]
  let any (p : Sensor → Bool) : Int := flagBit (s.thermal.sensors.toList.any p)
  match off with
  | 0x3000 => regBits [(0, 5, hottestSensor s), (5, 1, any (·.warn)), (6, 1, any (fun x => decide (0 < x.theta))), (7, 1, any (·.failed)),
      (8, 8, min 255 s.thermal.critTrips)]
  | 0x30E0 => regBits [(0, 16, min 0xFFFF (consumedLife s)), (16, 5, (worstRegion s).val)]
  | _ =>
    match regIndex off 0x3040 4 24, regIndex off 0x30A0 4 8, regIndex off 0x30C0 4 8 with
    | some n, _, _ => one n
    | _, some n, _ => one (24 + n)
    | _, _, some p =>
      let x := port (Fin.ofNat 8 p) s
      regBits [(0, 16, satInt 16 x.dTh), (16, 1, flagBit (hasReason x.stops reasonThermal))]
    | _, _, _ => 0

/-- Bit map of the sources 32 k to 32 k + 31 that satisfy a condition. -/
def faultMap (k : Nat) (p : FaultState → Bool) (s : State) : Nat :=
  (List.range 32).foldl (fun a b => a + (if p (faultSrc (32 * k + b) s).state then 2 ^ b else 0)) 0

/-- Registers of the FLT block. -/
def readFlt (off : Nat) (s : State) : Nat :=
  let f := s.faults
  let count (p : FaultState → Bool) : Nat := (f.srcs.toList.filter (fun x => p x.state)).length
  match off with
  | 0x3400 => regBits [(0, 1, flagBit f.firstValid), (1, 1, flagBit f.alarm), (2, 1, flagBit f.simul), (3, 1, flagBit (decide (0 < count (· == .parked)))),
      (4, 1, flagBit (decide (0 < count (· == .severe))))]
  | 0x3404 => regBits [(0, 9, f.firstSource.val), (9, 3, f.firstState.toNat), (16, 16, f.firstOthers.toNat)]
  | 0x3408 => f.firstCount.toNat
  | 0x340C => f.firstSeq.toNat
  | 0x3410 => regBits [(0, 10, count (· != .clear)), (10, 10, count (· == .severe)), (20, 10, count (· == .parked))]
  | _ =>
    match regIndex off 0x3440 4 16, regIndex off 0x3480 4 16, regIndex off 0x34C0 4 16 with
    | some k, _, _ => faultMap k (· != .clear) s
    | _, some k, _ => faultMap k (· == .severe) s
    | _, _, some k => faultMap k (· == .parked) s
    | _, _, _ => 0

/-- Registers of the GBK block; GBK_OPTIME_US is read at the instant that a read of GBK_OPTIME_HOURS latches. -/
def readGbk (off : Nat) (s : State) : Nat :=
  let g := s.gb
  match off with
  | 0x3800 => regBits [(0, 1, flagBit g.ready), (1, 1, flagBit (g.tail.any (·.isOpen))), (2, 1, flagBit g.committing), (3, 1, flagBit g.erasing),
      (4, 1, flagBit g.holdup), (5, 1, flagBit g.wallValid), (6, 1, flagBit (overflowWaits s)), (7, 1, flagBit g.flashFault),
      (8, 8, g.queue.length), (16, 16, g.tailGeneration.toNat)]
  | 0x3804 => g.seqNext.toNat
  | 0x3808 => (oldestSequence s).toNat
  | 0x380C => (committedSequence s).toNat
  | 0x3810 => opTime s / hourUs % 2 ^ 32
  | 0x3814 => opTime s % hourUs
  | 0x3818 => g.powerCycles.toNat
  | 0x381C => (wallNow s).toNat
  | 0x3880 => regBits [(0, 16, min 0xFFFF g.generalPasses), (16, 16, min 0xFFFF g.retainedPasses)]
  | 0x3884 => regBits [(0, 16, min 0xFFFF (commitRate s)), (16, 16, min 0xFFFF (stagedBytes s))]
  | 0x3888 => regBits [(0, 16, clearsKept s), (16, 16, min 0xFFFF g.authFailures)]
  | _ =>
    match regIndex off 0x3840 4 8 with
    | some n => min 0xFFFFFFFF (nth g.overflow (n + 1) 0)
    | none => 0

/-! ## OBX, TWN, HRU (0x3C00-0x47FF) -/

/-- Billets of a class on a link (R619). -/
def billetWord (l : Nat) (c : Fin 4) (s : State) : Nat :=
  let x := link l s
  regBits [(0, 9, x.total[c]), (9, 9, x.free[c]), (18, 9, x.held[c])]

/-- Registers of the OBX block. -/
def readObx (off : Nat) (s : State) : Nat :=
  let f := s.fabric
  match off with
  | 0x3C00 => regBits [(0, 4, deviceAddress s), (4, 4, f.coordinator.val), (8, 1, flagBit f.discovered), (9, 4, f.level), (16, 16, f.members.toNat)]
  | _ =>
    match regIndex off 0x3C10 4 4, regIndex off 0x3C20 4 8, regIndex off 0x3C40 4 16, regIndex off 0x3C80 4 16 with
    | some n, _, _, _ =>
      let x := link n s
      regBits [(0, 3, x.state.code), (3, 3, laneCount x.lanes), (6, 2, x.rate), (8, 4, x.neighbour.val), (12, 1, flagBit x.up)]
    | _, some n, _, _ => min 0xFFFFFFFF (if n < 4 then (link n s).retries else (link (n - 4) s).reclaimed)
    | _, _, some a, _ =>
      let v := nth f.routes a { port := 7, computed := 7, manual := false, hops := 0 }
      regBits [(0, 3, v.port), (3, 1, flagBit v.manual), (4, 4, v.hops)]
    | _, _, _, some a => code 32 (nth f.offsets a 0)
    | none, none, none, none =>
      match regIndex off 0x3D00 4 16, regIndex off 0x3D40 4 4 with
      | some n, _ => billetWord (n / 4) (Fin.ofNat 4 n) s
      | _, some n => min 0xFFFFFFFF (link n s).unreconciled
      | _, _ => 0

/-- Registers of the TWN block. -/
def readTwn (off : Nat) (s : State) : Nat :=
  let t := s.twin
  match off with
  | 0x4000 => regBits [(0, 1, flagBit t.owner), (1, 2, t.state.code), (3, 1, flagBit t.ownerIn), (4, 1, flagBit t.aliveIn), (5, 1, flagBit t.ownerOut),
      (6, 1, flagBit t.txSel), (7, 1, flagBit (link 4 s).carries), (8, 4, t.peer.toNat)]
  | 0x4004 => code 32 t.beta
  | 0x4008 => regBits [(0, 16, t.mismatches.toNat), (16, 16, t.handovers.toNat)]
  | 0x400C => t.lastSwitch.toNat
  | 0x4020 => min 0xFFFFFFFF (link 4 s).reclaimed
  | 0x4024 => min 0xFFFFFFFF (link 4 s).unreconciled
  | _ =>
    match regIndex off 0x4010 4 4 with
    | some c => billetWord 4 (Fin.ofNat 4 c) s
    | none => 0

/-- Registers of the HRU block. -/
def readHru (off : Nat) (s : State) : Nat :=
  let h := s.hr
  let v := h.rules
  match off with
  | 0x4400 => regBits [(0, 3, generationByte s), (3, 5, h.used.toNat), (8, 1, flagBit h.locked), (9, 1, flagBit h.integrityOk), (10, 1, flagBit v.donorMandatory),
      (11, 1, flagBit v.sleepPermitted), (12, 4, v.keysEnrolled.toNat), (16, 6, v.ranges.length)]
  | 0x4404 => regBits [(0, 12, v.mHr), (12, 10, v.dlDuty), (22, 10, v.ulDuty)]
  | 0x4408 => regBits [(0, 16, v.uIcpt), (16, 16, v.uSlope)]
  | 0x440C => regBits [(0, 16, v.uKnee)]
  | _ =>
    match regIndex off 0x4440 4 8 with
    | some p => regBits [(0, 16, v.pCompMax[Fin.ofNat 8 p]), (16, 16, v.pChMax[Fin.ofNat 8 p])]
    | none => 0

/-! ## LEN, ENG, DBG (0x4800-0x7FFF) -/

/-- Registers of the LEN block. -/
def readLen (off : Nat) (s : State) : Nat :=
  let e := s.loops
  match off with
  | 0x4800 => regBits [(0, 8, ((List.range 192).filter (fun l => loopRuns l s)).length), (8, 8, min 255 (totalLoad s * 100 / 400000000)),
      (16, 1, flagBit e.overrun), (17, 1, flagBit e.satFault), (18, 1, flagBit e.abandoned)]
  | 0x4804 => regBits [(0, 17, storeFree s)]
  | 0x4808 => min 0xFFFFFFFF e.overruns
  | _ =>
    match regIndex off 0x4840 4 16, regIndex off 0x4900 4 192 with
    | some k, _ => (nth e.inputs k 0).toNat
    | _, some n =>
      let x := loop n s
      regBits [(0, 16, loopOutput n s), (16, 1, flagBit (x.limHi || x.limLo)), (17, 1, flagBit x.frozen), (18, 1, flagBit (loopRuns n s)),
        (19, 1, flagBit x.handover.isSome), (20, 2, x.slot.val), (22, 1, flagBit x.cur.activeB)]
    | _, _ => 0

/-- Registers of the ENG block. -/
def readEng (off : Nat) (s : State) : Nat :=
  let e := s.eng
  let count (p : EngineState → Bool) : Nat := (e.engines.toList.filter (fun x => p x.state)).length
  match off with
  | 0x5000 => regBits [(0, 9, count (fun x => x == .idle || x == .active || x == .shadow)), (9, 9, count (· == .spare)), (18, 9, count (· == .retired)),
      (27, 5, min 31 e.migrations.length)]
  | 0x5004 => regBits [(0, 1, flagBit e.policy.enable), (1, 5, e.policy.reserve), (6, 5, e.policy.maxMigrations), (11, 1, flagBit e.policy.respare),
      (12, 8, e.policy.avsSlackTarget)]
  | 0x5008 => regBits [(0, 9, e.policy.agreeBlocks), (9, 16, e.policy.migrateLimit)]
  | 0x500C => regBits [(0, 16, e.catalogue.version.toNat), (16, 16, e.staged.elim 0 (·.version.toNat))]
  | 0x5010 => regBits [(0, 16, e.minSecurity.toNat), (16, 16, e.catalogue.security.toNat)]
  | 0x5014 => regBits [(0, 16, e.migrationCount.toNat), (16, 16, e.takeovers.toNat)]
  | 0x5018 => regBits [(0, 16, min 0xFFFF e.checkFailures), (16, 16, min 0xFFFF e.eccUncorrected)]
  | _ =>
    match regIndex off 0x5040 4 16, regIndex off 0x5080 4 16, regIndex off 0x5100 4 256 with
    | some n, _, _ =>
      let w : Fin 16 := Fin.ofNat 16 n
      regBits [(0, 8, e.wings[w].slack), (8, 5, wingCredit w s), (13, 5, countEngines w (· == .active) s), (18, 1, flagBit e.wings[w].slow)]
    | _, some n, _ =>
      let mask (p : EngineState → Bool) : Nat :=
        (List.range 16).foldl (fun a k => a + (if p e.engines[(Fin.ofNat 256 (16 * n + k))].state then 2 ^ k else 0)) 0
      regBits [(0, 16, mask (· == .spare)), (16, 16, mask (· == .retired))]
    | _, _, some n =>
      let k : Fin 256 := Fin.ofNat 256 n
      let x := e.engines[k]
      regBits [(0, 3, x.state.code), (3, 1, flagBit x.notice), (4, 3, engineClass k s), (7, 1, flagBit x.late), (8, 8, x.slack),
        (16, 8, (topAssignment k s).getD 0), (24, 8, (x.slacks.foldl min 255 : Nat))]
    | _, _, _ => 0

/-- Registers of the DBG block (R710). -/
def readDbg (off : Nat) (s : State) : Nat :=
  match off with
  | 0x6000 => regBits [(0, 1, flagBit s.dbg.active), (1, 1, flagBit (scanLocked s)), (2, 1, flagBit (drivesPins s.dbg.inForce))]
  | 0x6004 => 0xB6400BE7
  | 0x6008 => s.dbg.refused.toNat
  | _ => 0

/-- What a read of a setup-window offset answers (R57, R58): registers by block (R56), zero where there is none. -/
def regRead (offset : Nat) (s : State) : Word :=
  let off := offset / 4 * 4
  BitVec.ofNat 32
    (if off < 0x0400 then readSys off s
     else if off < 0x0800 then readNpt off s
     else if off < 0x0C00 then readHif off s
     else if off < 0x1400 then (match ringSlot off with
       | some e => readRing e.1 e.2 s
       | none => 0)
     else if off < 0x1C00 then readJes off s
     else if off < 0x2000 then readFtm off s
     else if off < 0x2400 then readLos off s
     else if off < 0x2800 then readFeb off s
     else if off < 0x3000 then readVrc off s
     else if off < 0x3400 then readThm off s
     else if off < 0x3800 then readFlt off s
     else if off < 0x3C00 then readGbk off s
     else if off < 0x4000 then readObx off s
     else if off < 0x4400 then readTwn off s
     else if off < 0x4800 then readHru off s
     else if off < 0x5000 then readLen off s
     else if off < 0x6000 then readEng off s
     else if off < 0x8000 then readDbg off s
     else 0)

/-! ## Writes (R23, R24, R57, R58) -/

/-- A write to a ring's slot (R69, R70). -/
def writeRing (r off : Nat) (v : Word) (s : State) : State :=
  let open' := !(ring r s).enable
  match off with
  | 0x00 => if open' then modRing r (fun g => { g with baseLo := v.extractLsb' 12 20 }) s else s
  | 0x04 => if open' then modRing r (fun g => { g with baseHi := v }) s else s
  | 0x08 => let s := refreshReady (writeRingCfg r v s)
            if r < 16 then s else coalesce r (unread r s) s
  | 0x0C => if r < 16 then s else
              let s := modRing r (fun g => { g with coalesceTimeUs := v.extractLsb' 0 16 }) s
              coalesce r (unread r s) s
  | 0x18 => if v.getLsbD 8 then modRing r (fun g => { g with error := false }) s else s
  | _ => s

/-- A write to the HIF block. -/
def writeHif (off : Nat) (v : Word) (s : State) : State :=
  match off with
  | 0x0800 => refreshReady (writeHifCtrl v s)
  | 0x0804 => if v.getLsbD 2 then modHif (fun h => { h with hostResetSeen := false }) s else s
  | 0x0808 => modHif (fun h => { h with timeoutDefault := v.extractLsb' 0 16 }) s
  | 0x080C => modHif (fun h => { h with progressInterval := v.extractLsb' 0 10 }) s
  | 0x0810 => modHif (fun h => { h with aging := v.extractLsb' 0 16 }) s
  | _ => s

/-- A write to the SYS block: what writing 1 clears, the low-water mark, a reset. -/
def writeSys (off : Nat) (v : Word) (s : State) : State :=
  match off with
  | 0x000C => rowState (execSysReset v s) s
  | 0x0040 => { s with pool := { s.pool with mismatch := s.pool.mismatch && !v.getLsbD 16, poolMismatch := s.pool.poolMismatch && !v.getLsbD 17 } }
  | 0x0044 => rowState (execClearLowWater v s) s
  | _ => s

/-- A write to the NPT block. -/
def writeNpt (off : Nat) (v : Word) (s : State) : State :=
  match off with
  | 0x0400 => modNpt (fun n => { n with tripped := n.tripped &&& ~~~(v.extractLsb' 4 4), critLatched := n.critLatched && !v.getLsbD 9 }) s
  | 0x0408 => modNpt (fun n => { n with alarm := v }) s
  | _ =>
    match regIndex off 0x0440 4 8 with
    | some k => modNpt (fun n => { n with wk := upd n.wk k (fun _ =>
        { enable := v.getLsbD 0, activity := v.getLsbD 1, threshold := v.extractLsb' 2 6, lookMs := v.extractLsb' 8 6, looks := v.extractLsb' 14 4 }) }) s
    | none => s

/-- A write to the JES block. -/
def writeJes (off : Nat) (v : Word) (s : State) : State :=
  match off with
  | 0x1408 => rowState (execSysrefArm v s) s
  | 0x140C => if v.getLsbD 1 then modLinks (fun l => { l with phaseError := false }) s else s
  | 0x1410 => modLinks (fun l => { l with rxPolarity := v.extractLsb' 0 18 }) s
  | 0x1414 => modLinks (fun l => { l with txPolarity := v.extractLsb' 0 16 }) s
  | _ => s

/-- Port map of a write: fields of ports that carry an enabled direction stay (R376). -/
def writtenMap (v : Word) (old : Vector (BitVec 4) 8) (s : State) : Vector (BitVec 4) 8 :=
  Vector.ofFn (fun p => if portReceives p s || portTransmits p s then old[p] else v.extractLsb' (4 * p.val) 4)

/-- A write to the LOS block. -/
def writeLos (off : Nat) (v : Word) (s : State) : State :=
  match off with
  | 0x2020 => refreshHolds (modRadio (fun r => { r with mapTx := writtenMap v r.mapTx s }) s)
  | 0x2024 => refreshHolds (modRadio (fun r => { r with mapRx := writtenMap v r.mapRx s }) s)
  | 0x202C => modRadio (fun r => { r with calWindow := v.extractLsb' 0 16 }) s
  | _ => s

/-- A write to the LEN block. -/
def writeLen (off : Nat) (v : Word) (s : State) : State :=
  match off with
  | 0x4800 => modLoopEngine (fun e => { e with overrun := e.overrun && !v.getLsbD 16, satFault := e.satFault && !v.getLsbD 17,
                                               abandoned := e.abandoned && !v.getLsbD 18 }) s
  | _ =>
    match regIndex off 0x4840 4 16 with
    | some k => modLoopEngine (fun e => { e with inputs := upd e.inputs k (fun _ => v.extractLsb' 0 16) }) s
    | none => s

/-- A write to the GBK block. -/
def writeGbk (off : Nat) (v : Word) (s : State) : State :=
  if off = 0x3800 then modGb (fun g => { g with holdup := g.holdup && !v.getLsbD 4, flashFault := g.flashFault && !v.getLsbD 7 }) s else s

/-- A whole DWORD written to a setup-window offset. -/
def regWrite (offset : Nat) (v : Word) (s : State) : State :=
  let off := offset / 4 * 4
  if off < 0x0400 then writeSys off v s
  else if off < 0x0800 then writeNpt off v s
  else if off < 0x0C00 then writeHif off v s
  else if off < 0x1400 then (match ringSlot off with
    | some e => writeRing e.1 e.2 v s
    | none => s)
  else if off < 0x1C00 then writeJes off v s
  else if 0x2000 ≤ off ∧ off < 0x2400 then writeLos off v s
  else if off = 0x3400 then rowState (execFirstFaultClear v s) s
  else if 0x3800 ≤ off ∧ off < 0x3C00 then writeGbk off v s
  else if 0x4800 ≤ off ∧ off < 0x5000 then writeLen off v s
  else s

/-! ## The doorbell window (R74) -/

/-- Ring of a doorbell's offset: command and completion rings, capture rings from 0x8000, event rings from 0xA000, 0x400 apart. -/
def doorbellRing (off : Nat) : Option Nat :=
  if off % 0x400 ≠ 0 then none
  else if off < 0x8000 then some (off / 0x400)
  else if 0x8000 ≤ off ∧ off < 0xA000 then some (32 + (off - 0x8000) / 0x400)
  else if 0xA000 ≤ off ∧ off < 0xA800 then some (40 + (off - 0xA000) / 0x400)
  else none

/-- Double word k of an entry of the MSI-X table (PCI Express base specification; log entry 139). -/
def MsixEntry.word (k : Nat) (e : MsixEntry) : Word :=
  match k with
  | 0 => e.addr.extractLsb' 0 32
  | 1 => e.addr.extractLsb' 32 32
  | 2 => e.data
  | _ => if e.masked then 1 else 0

/-- An entry with that double word written. -/
def MsixEntry.write (k : Nat) (v : Word) (e : MsixEntry) : MsixEntry :=
  match k with
  | 0 => { e with addr := e.addr.extractLsb' 32 32 ++ (v &&& ~~~3) }
  | 1 => { e with addr := v ++ e.addr.extractLsb' 0 32 }
  | 2 => { e with data := v }
  | _ => { e with masked := v.getLsbD 0 }

/-- What a read of the doorbell window answers (R74, R58): the last index a doorbell accepted, the MSI-X table, the pending bits. -/
def doorbellRead (off : Nat) (s : State) : Word :=
  match doorbellRing off with
  | some r => (ring r s).doorbell.zeroExtend 32
  | none =>
    if 0xC000 ≤ off ∧ off < 0xC400 then
      (nth s.hif.pci.msix ((off - 0xC000) / 16) { addr := 0, data := 0, masked := true }).word (off % 16 / 4)
    else if off = 0xD000 then s.hif.pci.msixPending.extractLsb' 0 32
    else if off = 0xD004 then s.hif.pci.msixPending.extractLsb' 32 32
    else 0

/-- A whole double word written to the doorbell window (R74, R75). -/
def doorbellWrite (off : Nat) (v : Word) (s : State) : State :=
  match doorbellRing off with
  | some r =>
    if r < 16 then rowState (execCmdqDoorbell (Fin.ofNat 16 r) v s) s else rowState (execConsumerDoorbell (Fin.ofNat 26 (r - 16)) v s) s
  | none =>
    if 0xC000 ≤ off ∧ off < 0xC400 then
      modPci (fun p => { p with msix := upd p.msix ((off - 0xC000) / 16) (MsixEntry.write (off % 16 / 4) v) }.release) s
    else s

/-! ## The configuration space (R59-R62) -/

/-- Subsystem ID (R60): by mode. -/
def subsystemId (s : State) : Nat := if s.sys.mode = .compat then 0x6416 else 0x6400

/-- A double word of the configuration header: the identifiers of R60, the base address registers of R61 and R62 with no prefetchable bit, Interrupt
Pin 0 (R59). The places of the fields are those of the PCI Express base specification (log entry 139). -/
def headerRead (n : Nat) (s : State) : Word :=
  let p := s.hif.pci
  match n with
  | 0 => 0x64001F5B
  | 1 => BitVec.ofNat 32 (regBits [(1, 1, flagBit p.memSpace), (2, 1, flagBit p.busMaster), (20, 1, 1)])
  | 2 => 0x118000B0
  | 4 => (p.bar0.extractLsb' 0 32) ||| 4
  | 5 => p.bar0.extractLsb' 32 32
  | 6 => if s.sys.mode = .compat then p.bar2 else 0
  | 8 => (p.bar4.extractLsb' 0 32) ||| 4
  | 9 => p.bar4.extractLsb' 32 32
  | 11 => BitVec.ofNat 32 (subsystemId s * 65536 + 0x1F5B)
  | _ => 0

/-- A double word written to the header: the command register, and the address bits that a window's size leaves (R61). -/
def headerWrite (n : Nat) (v : Word) (s : State) : State :=
  match n with
  | 1 =>
    let s := modPci (fun p => { p with memSpace := v.getLsbD 1 }) s
    if v.getLsbD 2 then modPci (fun p => { p with busMaster := true }) s else if s.hif.pci.busMaster then busMasterOff s else s
  | 4 => modPci (fun p => { p with bar0 := p.bar0.extractLsb' 32 32 ++ (v &&& 0xFFFF0000) }) s
  | 5 => modPci (fun p => { p with bar0 := v ++ p.bar0.extractLsb' 0 32 }) s
  | 6 => if s.sys.mode = .compat then modPci (fun p => { p with bar2 := v &&& 0xFFFFF000 }) s else s
  | 8 => modPci (fun p => { p with bar4 := p.bar4.extractLsb' 32 32 ++ (v &&& 0xFFFF0000) }) s
  | 9 => modPci (fun p => { p with bar4 := v ++ p.bar4.extractLsb' 0 32 }) s
  | _ => s

/-- The device serial number (R59): the device identity. -/
def serialNumber : Dword := Config.deviceIdentity

/-! ## Accesses -/

/-- The whole double word at an address. -/
def regAt (a : RegAddr) (s : State) : Word :=
  match a with
  | .setup o => regRead o.toNat s
  | .doorbell o => doorbellRead o.toNat s
  | .header n => headerRead n.val s
  | .power => if s.hif.pci.d3hot then 3 else 0
  | .msixControl => BitVec.ofNat 32 (regBits [(16, 11, 63), (30, 1, flagBit s.hif.pci.msixMask), (31, 1, flagBit s.hif.pci.msixEnable)])
  | .aer => s.hif.pci.aer

/-- The bytes of a double word that byte enables select, zero elsewhere. -/
def onBytes (be : BitVec 4) (v : Word) : Word :=
  BitVec.ofNat 32 (((List.range 4).map (fun k => if be.getLsbD k then v.toNat / 256 ^ k % 256 * 256 ^ k else 0)).sum)

/-- What a read answers: the addressed double word on the enabled bytes (R57). -/
def regReadBytes (a : RegAddr) (be : BitVec 4) (s : State) : Word := onBytes be (regAt a s)

/-- A double word written to an address outside the setup window. -/
def configWrite (a : RegAddr) (v : Word) (s : State) : State :=
  match a with
  | .header n => headerWrite n.val v s
  | .power => modPci (fun p => { p with d3hot := v.getLsbD 0 && v.getLsbD 1 }) s
  | .msixControl => modPci (fun p => { p with msixMask := v.getLsbD 30, msixEnable := v.getLsbD 31 }.release) s
  | .aer => modPci (fun p => { p with aer := p.aer &&& ~~~v }) s
  | _ => s

/-- REGISTER_WRITE (R23, R57): in the windows a write with fewer than four byte enables is discarded; in the configuration space the bytes that are not
enabled keep their values, and write 0 to bits that writing 1 clears. -/
def execRegisterWrite (at_ : RegAddr) (value : Word) (byteEnables : BitVec 4) (s : State) : Host.Outcome State Fault Refusal :=
  .next (if !hostUp s then s
    else match at_ with
      | .setup o => if byteEnables == 15 then regWrite o.toNat value s else s
      | .doorbell o => if byteEnables == 15 then doorbellWrite o.toNat value s else s
      | .aer => configWrite .aer (onBytes byteEnables value) s
      | a => configWrite a (onBytes byteEnables value ||| onBytes (~~~byteEnables) (regAt a s)) s)

end Sys2Proof.Machine
end

