-- ==== Sys2Proof/Machine/SlowTick.lean ====
section
/-! DEFINITION. The 1 kHz slow tick (R25, R193): what every chapter does at it, in one row. -/

namespace Sys2Proof.Machine

/-- What a direction does at a slow tick: its stability machine on the receive device (R193, R203, R622), its squelch (R247), the windows of the
ladder (R254), and what the devices of a split direction tell each other (R623). -/
def directionTick (s : State) (e : Fin 64 × Dir) : State :=
  let s := if onReceiveDevice (dirDef e.1 e.2 s) s then stabilityTick e.1 e.2 s else s
  let s := modGain e.1 e.2 (overpowerTick s.ladder.overpowerMs) s
  let s := if e.2 = .ul then modGain e.1 .ul squelchTick s else s
  tellCal e.1 e.2 (tellSplit e.1 e.2 s)

/-- A POWER_STATE_SET waits for the SLEEP entry. -/
def sleepCommanded (s : State) : Bool :=
  (List.range 22).any (fun q => ((source q s).running.toList ++ (source q s).continuing).any (fun r => r.desc.opcode == 0x0011 && r.phase == 2))

/-- A SLEEP entry that no command waits for commits by itself (R576). -/
def sleepTick (s : State) : State := if s.sys.transition == .sleeping 2 && !sleepCommanded s then sleepCommit deviceWriter s else s

/-- The work of a slow tick whose instant has come. -/
def slowWork (m : SlowMeas) (s : State) : State :=
  let s := settleDue (startUp s)
  let s := thermalTick m (insertTokens s)
  let s := (liveDirs s).foldl meterTick s
  let s := (liveDirs s).foldl directionTick s
  let s := avsTick (placementTick s)
  refreshReady (legacyTick (sleepTick (flushProt (lossTick s))))

/-- SLOW_TICK (R25, R193): time moves on to the tick's multiple of 30 720 counts. -/
def execSlowTick (m : SlowMeas) (s : State) : Host.Outcome State Fault Refusal :=
  let t := tickInstant countsPerSlowTick s.slowAt s.now
  .next (if !s.sys.coreUp then s
    else slowWork m { advanceTo t s with slowTicks := s.slowTicks + 1, slowAt := t })

/-- A step with no command waiting: one frame-timer count passes; while the core is down and VAUX is valid, one period of the 32.768 kHz oscillator
adds to the operating time (R532; log entry 1). -/
def idleTick (s : State) : State :=
  if s.sys.coreUp then { s with now := s.now + 1 }
  else if s.sys.vauxValid then { s with opBase := s.opBase + (s.opFrac + 15625) / 512, opFrac := (s.opFrac + 15625) % 512 }
  else s

end Sys2Proof.Machine
end

