-- ==== Sys2Proof/Machine/Dispatch.lean ====
section
/-! DEFINITION. What each command does: one arm per row of spec/opcode_table.json. -/

namespace Sys2Proof.Machine

/-- A command's effect on everything but the queue. -/
def exec (i : Instr) (s : State) : Host.Outcome State Fault Refusal :=
  match i with
  | .nop d => Sys2Proof.Machine.execNop d s
  | .cancel d => Sys2Proof.Machine.execCancel d s
  | .timeQuery d => Sys2Proof.Machine.execTimeQuery d s
  | .deviceInfo d => Sys2Proof.Machine.execDeviceInfo d s
  | .powerStateSet d => Sys2Proof.Machine.execPowerStateSet d s
  | .orderlyStop d => Sys2Proof.Machine.execOrderlyStop d s
  | .restart d => Sys2Proof.Machine.execRestart d s
  | .deviceReset d => Sys2Proof.Machine.execDeviceReset d s
  | .configSave d => Sys2Proof.Machine.execConfigSave d s
  | .linkConfigure d => Sys2Proof.Machine.execLinkConfigure d s
  | .linkStatus d => Sys2Proof.Machine.execLinkStatus d s
  | .streamConfigure d => Sys2Proof.Machine.execStreamConfigure d s
  | .channelCreate d => Sys2Proof.Machine.execChannelCreate d s
  | .channelModify d => Sys2Proof.Machine.execChannelModify d s
  | .channelRemove d => Sys2Proof.Machine.execChannelRemove d s
  | .channelStatus d => Sys2Proof.Machine.execChannelStatus d s
  | .channelMute d => Sys2Proof.Machine.execChannelMute d s
  | .peakLimitSet d => Sys2Proof.Machine.execPeakLimitSet d s
  | .cancelConfigure d => Sys2Proof.Machine.execCancelConfigure d s
  | .cancelReset d => Sys2Proof.Machine.execCancelReset d s
  | .cancelReadTaps d => Sys2Proof.Machine.execCancelReadTaps d s
  | .isolationMeasure d => Sys2Proof.Machine.execIsolationMeasure d s
  | .marginRead d => Sys2Proof.Machine.execMarginRead d s
  | .marginSet d => Sys2Proof.Machine.execMarginSet d s
  | .stabilityStatus d => Sys2Proof.Machine.execStabilityStatus d s
  | .probeConfigure d => Sys2Proof.Machine.execProbeConfigure d s
  | .gainSet d => Sys2Proof.Machine.execGainSet d s
  | .alcConfigure d => Sys2Proof.Machine.execAlcConfigure d s
  | .powerLimitSet d => Sys2Proof.Machine.execPowerLimitSet d s
  | .ulCouplingSet d => Sys2Proof.Machine.execUlCouplingSet d s
  | .squelchConfigure d => Sys2Proof.Machine.execSquelchConfigure d s
  | .donorLossConfigure d => Sys2Proof.Machine.execDonorLossConfigure d s
  | .thresholdConfigure d => Sys2Proof.Machine.execThresholdConfigure d s
  | .protectionStatus d => Sys2Proof.Machine.execProtectionStatus d s
  | .protectionRelease d => Sys2Proof.Machine.execProtectionRelease d s
  | .assignmentCreate d => Sys2Proof.Machine.execAssignmentCreate d s
  | .assignmentModify d => Sys2Proof.Machine.execAssignmentModify d s
  | .assignmentRelease d => Sys2Proof.Machine.execAssignmentRelease d s
  | .migrate d => Sys2Proof.Machine.execMigrate d s
  | .engineStatus d => Sys2Proof.Machine.execEngineStatus d s
  | .placementPolicySet d => Sys2Proof.Machine.execPlacementPolicySet d s
  | .spareSet d => Sys2Proof.Machine.execSpareSet d s
  | .kernelCatalogueLoad d => Sys2Proof.Machine.execKernelCatalogueLoad d s
  | .capacityQuery d => Sys2Proof.Machine.execCapacityQuery d s
  | .frameSyncConfigure d => Sys2Proof.Machine.execFrameSyncConfigure d s
  | .tddPatternSet d => Sys2Proof.Machine.execTddPatternSet d s
  | .frameStatus d => Sys2Proof.Machine.execFrameStatus d s
  | .fePinConfigure d => Sys2Proof.Machine.execFePinConfigure d s
  | .serialQueueLoad d => Sys2Proof.Machine.execSerialQueueLoad d s
  | .loPlanWrite d => Sys2Proof.Machine.execLoPlanWrite d s
  | .loTune d => Sys2Proof.Machine.execLoTune d s
  | .loCalibrate d => Sys2Proof.Machine.execLoCalibrate d s
  | .loStatus d => Sys2Proof.Machine.execLoStatus d s
  | .txEnable d => Sys2Proof.Machine.execTxEnable d s
  | .surveyConfigure d => Sys2Proof.Machine.execSurveyConfigure d s
  | .surveyRead d => Sys2Proof.Machine.execSurveyRead d s
  | .coexConfigure d => Sys2Proof.Machine.execCoexConfigure d s
  | .loopConfigure d => Sys2Proof.Machine.execLoopConfigure d s
  | .loopCoeffLoad d => Sys2Proof.Machine.execLoopCoeffLoad d s
  | .loopSwap d => Sys2Proof.Machine.execLoopSwap d s
  | .loopModeSet d => Sys2Proof.Machine.execLoopModeSet d s
  | .loopStatus d => Sys2Proof.Machine.execLoopStatus d s
  | .repetitiveConfigure d => Sys2Proof.Machine.execRepetitiveConfigure d s
  | .repetitiveReset d => Sys2Proof.Machine.execRepetitiveReset d s
  | .railConfigure d => Sys2Proof.Machine.execRailConfigure d s
  | .railSetVoltage d => Sys2Proof.Machine.execRailSetVoltage d s
  | .railStart d => Sys2Proof.Machine.execRailStart d s
  | .railStop d => Sys2Proof.Machine.execRailStop d s
  | .railStatus d => Sys2Proof.Machine.execRailStatus d s
  | .trackingSet d => Sys2Proof.Machine.execTrackingSet d s
  | .coreAvsConfigure d => Sys2Proof.Machine.execCoreAvsConfigure d s
  | .thermalConfigure d => Sys2Proof.Machine.execThermalConfigure d s
  | .thermalStatus d => Sys2Proof.Machine.execThermalStatus d s
  | .sensorMapSet d => Sys2Proof.Machine.execSensorMapSet d s
  | .lifeRead d => Sys2Proof.Machine.execLifeRead d s
  | .faultStatus d => Sys2Proof.Machine.execFaultStatus d s
  | .reactionSet d => Sys2Proof.Machine.execReactionSet d s
  | .faultRelease d => Sys2Proof.Machine.execFaultRelease d s
  | .faultParamsSet d => Sys2Proof.Machine.execFaultParamsSet d s
  | .gbRead d => Sys2Proof.Machine.execGbRead d s
  | .gbTailStatus d => Sys2Proof.Machine.execGbTailStatus d s
  | .gbClearChallenge d => Sys2Proof.Machine.execGbClearChallenge d s
  | .gbClear d => Sys2Proof.Machine.execGbClear d s
  | .gbAppend d => Sys2Proof.Machine.execGbAppend d s
  | .wallClockSet d => Sys2Proof.Machine.execWallClockSet d s
  | .hrRead d => Sys2Proof.Machine.execHrRead d s
  | .hrAmendChallenge d => Sys2Proof.Machine.execHrAmendChallenge d s
  | .hrAmend d => Sys2Proof.Machine.execHrAmend d s
  | .hrLock d => Sys2Proof.Machine.execHrLock d s
  | .patchLoad d => Sys2Proof.Machine.execPatchLoad d s
  | .lodgerLoad d => Sys2Proof.Machine.execLodgerLoad d s
  | .lodgerStart d => Sys2Proof.Machine.execLodgerStart d s
  | .lodgerStop d => Sys2Proof.Machine.execLodgerStop d s
  | .identityRead d => Sys2Proof.Machine.execIdentityRead d s
  | .attest d => Sys2Proof.Machine.execAttest d s
  | .fabricDiscover d => Sys2Proof.Machine.execFabricDiscover d s
  | .fabricStatus d => Sys2Proof.Machine.execFabricStatus d s
  | .routeSet d => Sys2Proof.Machine.execRouteSet d s
  | .billetSet d => Sys2Proof.Machine.execBilletSet d s
  | .linkReclaim d => Sys2Proof.Machine.execLinkReclaim d s
  | .twinConfigure d => Sys2Proof.Machine.execTwinConfigure d s
  | .twinSync d => Sys2Proof.Machine.execTwinSync d s
  | .twinHandover d => Sys2Proof.Machine.execTwinHandover d s
  | .twinStatus d => Sys2Proof.Machine.execTwinStatus d s
  | .captureStart d => Sys2Proof.Machine.execCaptureStart d s
  | .captureStop d => Sys2Proof.Machine.execCaptureStop d s
  | .captureStatus d => Sys2Proof.Machine.execCaptureStatus d s
  | .deskFaultEvent d => Sys2Proof.Machine.execDeskFaultEvent d s
  | .deskWatchdog d => Sys2Proof.Machine.execDeskWatchdog d s
  | .deskHostMessage d => Sys2Proof.Machine.execDeskHostMessage d s
  | .deskRetain d => Sys2Proof.Machine.execDeskRetain d s
  | .deskDenied d => Sys2Proof.Machine.execDeskDenied d s
  | .cmdqDoorbell q value => Sys2Proof.Machine.execCmdqDoorbell q value s
  | .consumerDoorbell r value => Sys2Proof.Machine.execConsumerDoorbell r value s
  | .descriptorFetch q answer => Sys2Proof.Machine.execDescriptorFetch q answer s
  | .stepGrant => Sys2Proof.Machine.execStepGrant s
  | .commandTimeout q => Sys2Proof.Machine.execCommandTimeout q s
  | .ringAging q => Sys2Proof.Machine.execRingAging q s
  | .hardwareWaitDone q results => Sys2Proof.Machine.execHardwareWaitDone q results s
  | .epochRetire c d k => Sys2Proof.Machine.execEpochRetire c d k s
  | .recordSpace r => Sys2Proof.Machine.execRecordSpace r s
  | .coalesceTimeout r => Sys2Proof.Machine.execCoalesceTimeout r s
  | .ringEnable r cfg => Sys2Proof.Machine.execRingEnable r cfg s
  | .ringDisable r cfg => Sys2Proof.Machine.execRingDisable r cfg s
  | .hifEnable value => Sys2Proof.Machine.execHifEnable value s
  | .busMasterOff => Sys2Proof.Machine.execBusMasterOff s
  | .hostInterfaceReset kind => Sys2Proof.Machine.execHostInterfaceReset kind s
  | .captureSessionBegin q => Sys2Proof.Machine.execCaptureSessionBegin q s
  | .sysrefArm value => Sys2Proof.Machine.execSysrefArm value s
  | .clearLowWater value => Sys2Proof.Machine.execClearLowWater value s
  | .sysReset value => Sys2Proof.Machine.execSysReset value s
  | .firstFaultClear value => Sys2Proof.Machine.execFirstFaultClear value s
  | .registerWrite at_ value byteEnables => Sys2Proof.Machine.execRegisterWrite at_ value byteEnables s
  | .sysrefEdge phase => Sys2Proof.Machine.execSysrefEdge phase s
  | .jesdLaneLockChange lane syncHeader multiblock skewBlocks => Sys2Proof.Machine.execJesdLaneLockChange lane syncHeader multiblock skewBlocks s
  | .receiveMultiblock stream crcOk0 crcOk1 first second => Sys2Proof.Machine.execReceiveMultiblock stream crcOk0 crcOk1 first second s
  | .blockProcess c d u port found => Sys2Proof.Machine.execBlockProcess c d u port found s
  | .oscillationMute c d firstCount => Sys2Proof.Machine.execOscillationMute c d firstCount s
  | .blockArrival c d arrived => Sys2Proof.Machine.execBlockArrival c d arrived s
  | .blockDeadline c d => Sys2Proof.Machine.execBlockDeadline c d s
  | .transmitSegmentDue stream ready => Sys2Proof.Machine.execTransmitSegmentDue stream ready s
  | .slowTick m => Sys2Proof.Machine.execSlowTick m s
  | .censusTokenArrival link cls sent => Sys2Proof.Machine.execCensusTokenArrival link cls sent s
  | .alcTick n => Sys2Proof.Machine.execAlcTick n s
  | .implausibleMute c d => Sys2Proof.Machine.execImplausibleMute c d s
  | .donorUpdate n => Sys2Proof.Machine.execDonorUpdate n s
  | .couplingRelease c => Sys2Proof.Machine.execCouplingRelease c s
  | .donorLossMute c => Sys2Proof.Machine.execDonorLossMute c s
  | .donorReturn c => Sys2Proof.Machine.execDonorReturn c s
  | .floorUpdate n => Sys2Proof.Machine.execFloorUpdate n s
  | .squelchHangExpiry c => Sys2Proof.Machine.execSquelchHangExpiry c s
  | .overpowerMute c d => Sys2Proof.Machine.execOverpowerMute c d s
  | .overpowerRetry c d => Sys2Proof.Machine.execOverpowerRetry c d s
  | .compositeOver port => Sys2Proof.Machine.execCompositeOver port s
  | .portRetry port => Sys2Proof.Machine.execPortRetry port s
  | .reductionEnded obj reason => Sys2Proof.Machine.execReductionEnded obj reason s
  | .delaySearchEnd c d w => Sys2Proof.Machine.execDelaySearchEnd c d w s
  | .measurementEnd c d inService => Sys2Proof.Machine.execMeasurementEnd c d inService s
  | .marginStale c d => Sys2Proof.Machine.execMarginStale c d s
  | .backoffDwellExpiry c d => Sys2Proof.Machine.execBackoffDwellExpiry c d s
  | .holdDwellExpiry c d => Sys2Proof.Machine.execHoldDwellExpiry c d s
  | .oscHoldoffExpiry c d => Sys2Proof.Machine.execOscHoldoffExpiry c d s
  | .marginLostRetry c d => Sys2Proof.Machine.execMarginLostRetry c d s
  | .splitTc2Silence c d => Sys2Proof.Machine.execSplitTc2Silence c d s
  | .engineCheckFail e eccUncorrectable c d seq => Sys2Proof.Machine.execEngineCheckFail e eccUncorrectable c d seq s
  | .testBlocksEnd e agreed => Sys2Proof.Machine.execTestBlocksEnd e agreed s
  | .engineSlowNotice e => Sys2Proof.Machine.execEngineSlowNotice e s
  | .wingSlow w => Sys2Proof.Machine.execWingSlow w s
  | .migrationCopyDone e block => Sys2Proof.Machine.execMigrationCopyDone e block s
  | .migrationSwitch e q => Sys2Proof.Machine.execMigrationSwitch e q s
  | .migrationLimit e => Sys2Proof.Machine.execMigrationLimit e s
  | .selfTestDone e passed => Sys2Proof.Machine.execSelfTestDone e passed s
  | .frameStart => Sys2Proof.Machine.execFrameStart s
  | .syncReport src count phase16 => Sys2Proof.Machine.execSyncReport src count phase16 s
  | .ppsEdge phase => Sys2Proof.Machine.execPpsEdge phase s
  | .holdoverEntry => Sys2Proof.Machine.execHoldoverEntry s
  | .holdoverExpiry => Sys2Proof.Machine.execHoldoverExpiry s
  | .tddPatternSwitch slot => Sys2Proof.Machine.execTddPatternSwitch slot s
  | .loLock lo => Sys2Proof.Machine.execLoLock lo s
  | .loLockLoss lo => Sys2Proof.Machine.execLoLockLoss lo s
  | .txEnableDeadline port => Sys2Proof.Machine.execTxEnableDeadline port s
  | .serialTrigger m => Sys2Proof.Machine.execSerialTrigger m s
  | .serialTransactionEnd m readData => Sys2Proof.Machine.execSerialTransactionEnd m readData s
  | .surveyDwellEnd ended next => Sys2Proof.Machine.execSurveyDwellEnd ended next s
  | .coexReqRise x pri => Sys2Proof.Machine.execCoexReqRise x pri s
  | .coexGrant x => Sys2Proof.Machine.execCoexGrant x s
  | .coexDeferExpiry x => Sys2Proof.Machine.execCoexDeferExpiry x s
  | .coexReqFall x => Sys2Proof.Machine.execCoexReqFall x s
  | .coexLimit x byDuty => Sys2Proof.Machine.execCoexLimit x byDuty s
  | .coexAct x level => Sys2Proof.Machine.execCoexAct x level s
  | .loopTick l stillEvaluating => Sys2Proof.Machine.execLoopTick l stillEvaluating s
  | .handoverWindowEnd l => Sys2Proof.Machine.execHandoverWindowEnd l s
  | .switchingCycle r m => Sys2Proof.Machine.execSwitchingCycle r m s
  | .railUv r => Sys2Proof.Machine.execRailUv r s
  | .railShort r => Sys2Proof.Machine.execRailShort r s
  | .ladderMove r target => Sys2Proof.Machine.execLadderMove r target s
  | .phaseOpen p => Sys2Proof.Machine.execPhaseOpen p s
  | .phaseSense p => Sys2Proof.Machine.execPhaseSense p s
  | .softStartDone r => Sys2Proof.Machine.execSoftStartDone r s
  | .railStopDone r => Sys2Proof.Machine.execRailStopDone r s
  | .timebaseLock => Sys2Proof.Machine.execTimebaseLock s
  | .bootRetry => Sys2Proof.Machine.execBootRetry s
  | .coreResetRelease => Sys2Proof.Machine.execCoreResetRelease s
  | .thermalThresholdCross sensor stop up => Sys2Proof.Machine.execThermalThresholdCross sensor stop up s
  | .sensorReinstate sensor => Sys2Proof.Machine.execSensorReinstate sensor s
  | .thermalAutoRestart => Sys2Proof.Machine.execThermalAutoRestart s
  | .criticalTrip east => Sys2Proof.Machine.execCriticalTrip east s
  | .criticalRecovery => Sys2Proof.Machine.execCriticalRecovery s
  | .lifeCheckpoint hourly => Sys2Proof.Machine.execLifeCheckpoint hourly s
  | .daily => Sys2Proof.Machine.execDaily s
  | .faultEvent external => Sys2Proof.Machine.execFaultEvent external s
  | .faultQuietExpiry src => Sys2Proof.Machine.execFaultQuietExpiry src s
  | .vauxValid straps => Sys2Proof.Machine.execVauxValid straps s
  | .rfReady => Sys2Proof.Machine.execRfReady s
  | .brownOut => Sys2Proof.Machine.execBrownOut s
  | .holdupTrip => Sys2Proof.Machine.execHoldupTrip s
  | .holdupReopen => Sys2Proof.Machine.execHoldupReopen s
  | .supplyComparatorTrip vsdh => Sys2Proof.Machine.execSupplyComparatorTrip vsdh s
  | .supplyRecovered vsdh => Sys2Proof.Machine.execSupplyRecovered vsdh s
  | .boardReset => Sys2Proof.Machine.execBoardReset s
  | .deviceResetFire straps => Sys2Proof.Machine.execDeviceResetFire straps s
  | .wakeDetect levels => Sys2Proof.Machine.execWakeDetect levels s
  | .wallClockAlarm => Sys2Proof.Machine.execWallClockAlarm s
  | .perstRelease => Sys2Proof.Machine.execPerstRelease s
  | .sleepL2WaitEnd => Sys2Proof.Machine.execSleepL2WaitEnd s
  | .autoSleep => Sys2Proof.Machine.execAutoSleep s
  | .innkeeperWatchdog => Sys2Proof.Machine.execInnkeeperWatchdog s
  | .innkeeperRestartDone => Sys2Proof.Machine.execInnkeeperRestartDone s
  | .patchFloorRaise => Sys2Proof.Machine.execPatchFloorRaise s
  | .lodgerWatchdog core => Sys2Proof.Machine.execLodgerWatchdog core s
  | .lodgerAutorestart core => Sys2Proof.Machine.execLodgerAutorestart core s
  | .deskViolation core => Sys2Proof.Machine.execDeskViolation core s
  | .gbIntake entry => Sys2Proof.Machine.execGbIntake entry s
  | .collectorIntakeTimeout => Sys2Proof.Machine.execCollectorIntakeTimeout s
  | .gbTakeEntry => Sys2Proof.Machine.execGbTakeEntry s
  | .tailTimeout => Sys2Proof.Machine.execTailTimeout s
  | .tailSnapshot => Sys2Proof.Machine.execTailSnapshot s
  | .gbCommitDone => Sys2Proof.Machine.execGbCommitDone s
  | .clearEraseDone => Sys2Proof.Machine.execClearEraseDone s
  | .checkpoint => Sys2Proof.Machine.execCheckpoint s
  | .obxFrameReceive link f => Sys2Proof.Machine.execObxFrameReceive link f s
  | .replayTimeout link => Sys2Proof.Machine.execReplayTimeout link s
  | .obxLaneFailure link lanes refClockLost => Sys2Proof.Machine.execObxLaneFailure link lanes refClockLost s
  | .linkTrained link t => Sys2Proof.Machine.execLinkTrained link t s
  | .reclaimReportTimeout link => Sys2Proof.Machine.execReclaimReportTimeout link s
  | .heartbeatSend => Sys2Proof.Machine.execHeartbeatSend s
  | .heartbeatTimeout => Sys2Proof.Machine.execHeartbeatTimeout s
  | .ownerArbitration => Sys2Proof.Machine.execOwnerArbitration s
  | .ownerLost byAlive => Sys2Proof.Machine.execOwnerLost byAlive s
  | .aliveStop => Sys2Proof.Machine.execAliveStop s
  | .claimWaitExpiry => Sys2Proof.Machine.execClaimWaitExpiry s
  | .handoverSwitch => Sys2Proof.Machine.execHandoverSwitch s
  | .autoResync => Sys2Proof.Machine.execAutoResync s
  | .tapInstruction x => Sys2Proof.Machine.execTapInstruction x s
  | .legacySpiFrame header words lastWordClocks => Sys2Proof.Machine.execLegacySpiFrame header words lastWordClocks s
  | .compatWindowAccess isWrite offset value byteEnables => Sys2Proof.Machine.execCompatWindowAccess isWrite offset value byteEnables s
  | .gqHiRead addr => Sys2Proof.Machine.execGqHiRead addr s
  | .gqRunClear => Sys2Proof.Machine.execGqRunClear s
  | .gqRunSet => Sys2Proof.Machine.execGqRunSet s
  | .gqSoftReset => Sys2Proof.Machine.execGqSoftReset s
  | .gqCentreWrite d lo => Sys2Proof.Machine.execGqCentreWrite d lo s
  | .chEnableSet n => Sys2Proof.Machine.execChEnableSet n s
  | .chEnableClear n => Sys2Proof.Machine.execChEnableClear n s
  | .chMuteWrite n dlMute ulMute => Sys2Proof.Machine.execChMuteWrite n dlMute ulMute s
  | .chBwWrite n bw => Sys2Proof.Machine.execChBwWrite n bw s
  | .chSquelchWrite n on => Sys2Proof.Machine.execChSquelchWrite n on s
  | .chFreqWrite n d lo => Sys2Proof.Machine.execChFreqWrite n d lo s
  | .chGainWrite n d gain => Sys2Proof.Machine.execChGainWrite n d gain s
  | .gqMarginWrite margin agl => Sys2Proof.Machine.execGqMarginWrite margin agl s
  | .gqPowerLimitWrite d limit => Sys2Proof.Machine.execGqPowerLimitWrite d limit s
  | .gqDonorLossWrite value => Sys2Proof.Machine.execGqDonorLossWrite value s
  | .chOscClear n d => Sys2Proof.Machine.execChOscClear n d s
  | .safetyNetRelease c d => Sys2Proof.Machine.execSafetyNetRelease c d s
  | .boardResetEnd straps => Sys2Proof.Machine.execBoardResetEnd straps s
  | .hostInterfaceResetEnd => Sys2Proof.Machine.execHostInterfaceResetEnd s
  | .rtcOscillatorFailure => Sys2Proof.Machine.execRtcOscillatorFailure s
  | .handoverAckDeadline => Sys2Proof.Machine.execHandoverAckDeadline s
  | .comparatorArmed vsdh => Sys2Proof.Machine.execComparatorArmed vsdh s

end Sys2Proof.Machine
end

