-- ==== Sys2Proof/Machine/Pins.lean ====
section
/-! DEFINITION. The package (16_pins_and_electrical.md): what every ball carries (R675-R680) and what every pin does in reset and after it
(R681-R683), read off the state. -/

namespace Sys2Proof.Machine

/-- What a ball carries (R677-R680); the flag of a pair says that it is the positive ball. -/
inductive Signal where
  | vss | vcore | vsd | vsdh | vsyn | vio | vaux
  | feCtl (n : Fin 48)
  | smSclk (m : Fin 4) | smMosi (m : Fin 4) | smMiso (m : Fin 4) | smCs (m k : Fin 4)
  | cxReq (x : Fin 2) | cxPri (x : Fin 2) | cxAct (x : Fin 2) | cxGnt (x : Fin 2)
  | ppsIn
  | cmpSclk | cmpCs | cmpMosi | cmpMiso | alarm
  | flSclk | flDqs | flDq (n : Fin 8) | flCs | flReset
  | tck | tms | tdi | tdo | trst
  | ownerOut | ownerIn | aliveOut | aliveIn | txsel
  | xt (n : Fin 8) | xtVref
  | pwm (p : Fin 16) | drvEn (p : Fin 16) | zc (p : Fin 16)
  | csP (p : Fin 16) | csN (p : Fin 16) | vsP (r : Fin 10) | vsN (r : Fin 10)
  | modeStrap (n : Fin 2) | bootv (n : Fin 3) | devid (n : Fin 4) | twinSel
  | resetPin | perstPin | wakePin
  | xtalIn | xtalOut | wk (n : Fin 8) | coreSenseP | coreSenseN
  | obxTx (m l : Fin 4) (pos : Bool) | obxRx (m l : Fin 4) (pos : Bool)
  | twinTx (l : Fin 4) (pos : Bool) | twinRx (l : Fin 4) (pos : Bool)
  | pcieRefclk (pos : Bool) | pcieTx (l : Fin 8) (pos : Bool) | pcieRx (l : Fin 8) (pos : Bool)
  | rxLane (n : Fin 18) (pos : Bool) | txLane (n : Fin 16) (pos : Bool)
  | refclkIn (pos : Bool) | sysrefIn (pos : Bool) | refclkOut (n : Fin 2) (pos : Bool) | sysrefOut (n : Fin 2) (pos : Bool)
  | lo (n : Fin 5) (pos : Bool)
  deriving DecidableEq, Repr

/-! ## The ball map -/

/-- Letters of the 44 rows in order; a row's index counts from 1 (R675). -/
def rowNames : List String :=
  ["A", "B", "C", "D", "E", "F", "G", "H", "J", "K", "L", "M", "N", "P", "T", "U", "V", "W", "Y"] ++
  ["AA", "AB", "AC", "AD", "AE", "AF", "AG", "AH", "AJ", "AK", "AL", "AM", "AN", "AP", "AT", "AU", "AV", "AW", "AY"] ++
  ["BA", "BB", "BC", "BD", "BE", "BF"]

/-- The signals of a serial master in the order they are laid out (R679). -/
def masterSignals (m : Fin 4) : List Signal := [.smSclk m, .smMosi m, .smMiso m, .smCs m 0, .smCs m 1, .smCs m 2, .smCs m 3]

/-- The signals of a VIO-bank row from column 5 (R679). -/
def vioRow : Nat → List Signal
  | 7 => (List.range 36).map (fun n => .feCtl (Fin.ofNat 48 n))
  | 8 => (List.range 12).map (fun n => .feCtl (Fin.ofNat 48 (36 + n))) ++ masterSignals 0 ++ masterSignals 1 ++ masterSignals 2 ++
      [.cxReq 0, .cxPri 0, .cxAct 0]
  | 9 => masterSignals 3 ++ [.cxGnt 0, .cxReq 1, .cxPri 1, .cxAct 1, .cxGnt 1, .ppsIn, .cmpSclk, .cmpCs, .cmpMosi, .cmpMiso, .alarm,
      .flSclk, .flDqs] ++ (List.range 8).map (fun n => .flDq (Fin.ofNat 8 n)) ++ [.flCs, .flReset, .tck, .tms, .tdi, .tdo, .trst]
  | 10 => [.ownerOut, .ownerIn, .aliveOut, .aliveIn, .txsel] ++ (List.range 8).map (fun n => .xt (Fin.ofNat 8 n)) ++ [.xtVref]
  | _ => []

/-- The signals of a VAUX-bank row from column 5 (R680). -/
def vauxRow : Nat → List Signal
  | 34 => (List.range 16).map (fun n => .pwm (Fin.ofNat 16 n)) ++ (List.range 16).map (fun n => .drvEn (Fin.ofNat 16 n)) ++
      [.modeStrap 0, .modeStrap 1, .twinSel, .resetPin]
  | 35 => (List.range 16).flatMap (fun n => [.csP (Fin.ofNat 16 n), .csN (Fin.ofNat 16 n)]) ++ [.bootv 0, .bootv 1, .bootv 2, .perstPin]
  | 36 => (List.range 16).map (fun n => .zc (Fin.ofNat 16 n)) ++ (List.range 10).flatMap (fun r => [.vsP (Fin.ofNat 10 r), .vsN (Fin.ofNat 10 r)])
  | 37 => [.devid 0, .devid 1, .devid 2, .devid 3, .wakePin, .xtalIn, .xtalOut] ++ (List.range 8).map (fun n => .wk (Fin.ofNat 8 n)) ++
      [.coreSenseP, .coreSenseN]
  | _ => []

/-- North lane k (R678). -/
def northLane (k : Nat) (tx pos : Bool) : Signal :=
  let l : Fin 4 := Fin.ofNat 4 k
  if k < 16 then (if tx then .obxTx (Fin.ofNat 4 (k / 4)) l pos else .obxRx (Fin.ofNat 4 (k / 4)) l pos)
  else if tx then .twinTx l pos else .twinRx l pos

/-- Clock-and-LO pair j (R678). -/
def clockPair (j : Nat) (pos : Bool) : Signal :=
  if j = 0 then .refclkIn pos else if j = 1 then .sysrefIn pos
  else if j < 4 then .refclkOut (Fin.ofNat 2 (j - 2)) pos
  else if j < 6 then .sysrefOut (Fin.ofNat 2 (j - 4)) pos
  else .lo (Fin.ofNat 5 (j - 6)) pos

/-- A ball of the North SerDes zone, rows 1 to 5. -/
def northBall (row col : Nat) : Signal :=
  if col % 2 = 0 ∨ row = 3 then .vss else northLane ((col - 3) / 2) (row ≤ 2) (row % 3 == 1)

/-- A ball of the West PCIe zone, columns 1 and 2 (R677). -/
def westBall (row col : Nat) : Signal :=
  let pos := col == 1
  if row = 5 then .pcieRefclk pos
  else if [1, 3, 39, 41, 43].contains row then .vsdh
  else if row % 4 = 3 ∧ 7 ≤ row ∧ row ≤ 35 then .pcieTx (Fin.ofNat 8 ((row - 7) / 4)) pos
  else if row % 4 = 1 ∧ 9 ≤ row ∧ row ≤ 37 then .pcieRx (Fin.ofNat 8 ((row - 9) / 4)) pos
  else .vss

/-- A ball of the clock and LO zone, rows 39 to 42. -/
def clockBall (row col : Nat) : Signal :=
  if row = 41 then .vsd
  else if row = 42 then .vss
  else if col ≤ 20 then (if col % 2 = 1 then .vsyn else .vss)
  else if col % 2 = 0 then .vss
  else clockPair ((col - 21) / 2) (row == 39)

/-- What a ball carries, by its row index and column, both from 1 (R677). -/
def ball (row col : Nat) : Signal :=
  if col ≤ 2 then westBall row col
  else if 43 ≤ col then
    (if 39 ≤ row ∨ row % 2 = 0 ∨ row < 3 ∨ 37 < row then .vss else .rxLane (Fin.ofNat 18 ((row - 3) / 2)) (col == 44))
  else if row ≤ 5 then northBall row col
  else if row = 6 then .vsdh
  else if row ≤ 10 then
    (if col ≤ 4 ∨ 41 ≤ col then .vio else (vioRow row).getD (col - 5) .vss)
  else if row ≤ 33 then
    (if col = 3 ∨ col = 42 then .vsd else if (row + col) % 2 = 0 then .vcore else .vss)
  else if row ≤ 38 then
    (if row = 38 then .vss else if col ≤ 4 ∨ 41 ≤ col then .vaux else (vauxRow row).getD (col - 5) .vss)
  else if row ≤ 42 then clockBall row col
  else if col % 2 = 0 ∨ col < 5 ∨ 35 < col then .vss
  else .txLane (Fin.ofNat 16 ((col - 5) / 2)) (row == 44)

/-! ## Pin states -/

/-- What the block does at a pin: a level, high impedance with the internal pull of R696 or none, an open drain released, an input with its pull, a
signal of its interface, a supply. -/
inductive Drive where
  | low | high
  | highZ | highZUp | highZDown
  | released
  | input | inputUp | inputDown
  | idle
  | signal
  | supply
  deriving DecidableEq, Repr

/-- A level as a drive. -/
def Drive.ofBool (b : Bool) : Drive := if b then .high else .low

/-- VIO has fallen below its comparator (R577): the outputs of its bank are high-impedance. -/
def vioAbsent (s : State) : Bool := !s.sys.vauxValid || s.sys.npt.below.getLsbD 2

/-- An output of a bank: high-impedance while the bank's supply is absent, one drive in reset and one after core reset release. -/
def outputPin (absent : Bool) (inReset after : Drive) (s : State) : Drive :=
  if absent then .highZ else if s.sys.coreUp then after else inReset

/-- The output of a phase's PWM pin (R417, R682). -/
def pwmDrive (p : Fin 16) (s : State) : Drive := if s.sys.vauxValid && s.supply.phases[p].driver then .signal else .highZ

/-- Chip select k of a serial master is active: it runs an entry of it. -/
def selected (m k : Fin 4) (s : State) : Bool := s.radio.serial[m].running.any (fun e => e.cs == k.val)

/-- Counts of 100 us (R681). -/
def flashResetCounts : Nat := 3072

/-- What a VIO-bank pin does (R681). -/
def vioPin (p : Signal) (s : State) : Drive :=
  let out := outputPin (vioAbsent s)
  match p with
  | .feCtl n => out .highZ (.ofBool (pinLevel n s)) s
  | .smSclk m => out .highZDown (if s.radio.serial[m].running.isSome then .signal else .low) s
  | .smMosi m => out .highZDown (if s.radio.serial[m].running.isSome then .signal else .low) s
  | .smCs m k => out .highZUp (.ofBool (!selected m k s)) s
  | .cxGnt x => out .highZDown (.ofBool (s.radio.coex[x].enable && s.radio.coex[x].gnt)) s
  | .cmpMiso => out .highZ (if s.sys.mode == .compat then .signal else .highZ) s
  | .alarm => if vioAbsent s || !alarmAsserted s then .released else .low
  | .flSclk => out .highZDown .low s
  | .flCs => out .highZUp .high s
  | .flDq _ => out .highZDown .inputDown s
  | .flDqs => out .highZDown .inputDown s
  | .flReset => out .low (.ofBool (decide (flashResetCounts ≤ s.now))) s
  | .tms => .inputUp
  | .tdi => .inputUp
  | .cmpCs => .inputUp
  | .tdo => .highZ
  | .ownerOut => out .low (.ofBool (s.sys.straps.twinSel && s.twin.ownerOut)) s
  | .aliveOut => out .low (.ofBool (s.sys.straps.twinSel && s.twin.aliveOut)) s
  | .txsel => out .low (.ofBool (s.sys.straps.twinSel && s.twin.txSel)) s
  | .ownerIn => .input
  | .aliveIn => .input
  | .xt _ => .input
  | .xtVref => if s.sys.coreUp && !vioAbsent s then .signal else .low
  | _ => .inputDown

/-- What a VAUX-bank pin does (R682). -/
def vauxPin (p : Signal) (s : State) : Drive :=
  match p with
  | .pwm n => pwmDrive n s
  | .drvEn n => if s.sys.vauxValid then .ofBool s.supply.phases[n].driver else .highZ
  | .wakePin => if s.sys.vauxValid && s.sys.wakeN then .low else .released
  | .xtalIn => if s.sys.vauxValid then .signal else .idle
  | .xtalOut => if s.sys.vauxValid then .signal else .idle
  | .resetPin => .inputUp
  | .wk _ => if s.sys.power == .sleep then .input else .idle
  | _ => .input

/-- The lanes of a link leave electrical idle: it trains or is up (R683). -/
def linkDrives (l : Fin 5) (s : State) : Bool := s.sys.coreUp && s.fabric.links[l].state != .down

/-- What a high-speed or RF pin does (R683). -/
def fastPin (p : Signal) (s : State) : Drive :=
  let lane (b : Bool) : Drive := if b then .signal else .idle
  match p with
  | .txLane n _ =>
    let q : Fin 8 := Fin.ofNat 8 (n.val / 2 % 2 * 4 + n.val / 4)
    lane ((s.sys.coreUp && s.links.txActive[(Fin.ofNat 4 (n.val / 4) : Fin 4)]) || decide (0 < s.links.draining[q]))
  | .obxTx m _ _ => lane (linkDrives (m.castLE (by omega)) s)
  | .twinTx _ _ => lane (linkDrives 4 s)
  | .pcieTx _ _ => lane (!s.sys.perst)
  | .refclkOut _ _ => lane s.sys.vauxValid
  | .sysrefOut _ _ => if s.sys.coreUp then .signal else .low
  | .lo n _ => lane (s.sys.coreUp && s.radio.los[n].locked)
  | _ => .input

/-- What the block does at a pin (R681-R683). -/
def pinState (p : Signal) (s : State) : Drive :=
  match p with
  | .vss => .supply
  | .vcore => .supply
  | .vsd => .supply
  | .vsdh => .supply
  | .vsyn => .supply
  | .vio => .supply
  | .vaux => .supply
  | .pwm _ => vauxPin p s
  | .drvEn _ => vauxPin p s
  | .zc _ => vauxPin p s
  | .csP _ => vauxPin p s
  | .csN _ => vauxPin p s
  | .vsP _ => vauxPin p s
  | .vsN _ => vauxPin p s
  | .modeStrap _ => vauxPin p s
  | .bootv _ => vauxPin p s
  | .devid _ => vauxPin p s
  | .twinSel => vauxPin p s
  | .resetPin => vauxPin p s
  | .perstPin => vauxPin p s
  | .wakePin => vauxPin p s
  | .xtalIn => vauxPin p s
  | .xtalOut => vauxPin p s
  | .wk _ => vauxPin p s
  | .coreSenseP => vauxPin p s
  | .coreSenseN => vauxPin p s
  | .obxTx _ _ _ => fastPin p s
  | .obxRx _ _ _ => fastPin p s
  | .twinTx _ _ => fastPin p s
  | .twinRx _ _ => fastPin p s
  | .pcieRefclk _ => fastPin p s
  | .pcieTx _ _ => fastPin p s
  | .pcieRx _ _ => fastPin p s
  | .rxLane _ _ => fastPin p s
  | .txLane _ _ => fastPin p s
  | .refclkIn _ => fastPin p s
  | .sysrefIn _ => fastPin p s
  | .refclkOut _ _ => fastPin p s
  | .sysrefOut _ _ => fastPin p s
  | .lo _ _ => fastPin p s
  | _ => vioPin p s

end Sys2Proof.Machine
end

