-- ==== Sys2Proof/Safety.lean ====
section
/-! DEFINITION. The terms in which claims speak of runs: a state a step may meet, a command whose first step is granted at once, the record
and the buffer a command leaves, and what a command leaves alone. -/

namespace Sys2Proof.Safety

open Sys2Proof.Machine

/-- The machine is in an operating mode: the straps of a production test never let a step through (R2, R3), and the lodgers' retained areas
have the one form in which equal contents are equal data (R588, log entry 49). -/
def Inv (s : State) : Prop := (s.sys.mode = .native ∨ s.sys.mode = .compat) ∧ Memory.wf s = true

/-! ## A command whose first step is granted at once -/

/-- The descriptor with the opcode of its row. -/
def coded (code : Nat) (d : Desc) : Desc := { d with opcode := BitVec.ofNat 16 code }

/-- The state in which a command takes its first step: fetched, granted, out of its queue (R75, R85, R88). -/
def granting (code : Nat) (d : Desc) (s : State) : State :=
  let s1 := enqueue d.ring.val (coded code d) s
  modSource d.ring.val (fun x => { x with fetched := [] }) (granted d.ring.val s1)

/-- A command of the host or of a desk is fetched and takes its first step at once: its source fetches and has nothing before it, the processor is
free, the Innkeeper runs, and no standby waits for its changes or the command is none that a standby is sent (R75, R85-R88, R106, R636, R712). -/
structure Granted (code : Nat) (d : Desc) (s : State) : Prop where
  outside : d.ring.val < 20
  fetches : fetches d.ring.val s = true
  alone : (source d.ring.val s).fetched = [] ∧ (source d.ring.val s).running = none
  free : mayStart d.ring.val (enqueue d.ring.val (coded code d) s) = true ∧
    processorFree d.ring.val (enqueue d.ring.val (coded code d) s) = true
  innkeeper : s.sys.innkeeper = .running
  leadless : hasStandby s = false ∨
    (forwarded (coded code d).opcode.toNat = false ∧ (opRow (coded code d).opcode.toNat).any (fun x => x.kind == .epoch) = false)

/-- A command that takes its first step at once, and that nothing refuses before its own checks (R114, R115, R588). -/
structure Begins (code : Nat) (d : Desc) (s : State) : Prop extends Granted code d s where
  unrefused : startRefusal (coded code d) s = none

/-- The command in execution at its first step. -/
def starting (code : Nat) (d : Desc) (s : State) : Running :=
  { desc := coded code d, order := (takeMark (s.hif.doorbellOrder + 1) (source d.ring.val s).marks).1, startTick := s.slowTicks,
    lastRecord := s.now, steps := 1, phase := 0, wait := .none, committed := false, clamped := false, epochs := [], aux := [],
    results := [], result := 0, silent := false }

/-- The state that step meets: the command is in execution. -/
def stepping (code : Nat) (d : Desc) (s : State) : State :=
  modSource d.ring.val (fun x => { x with running := some { starting code d s with steps := 0 } }) (granting code d s)

/-! ## What a command leaves -/

/-- The last record posted for a source: on its completion ring, or waiting for room there (R94); in its own area for a desk (R587). -/
def lastRecord (q : Nat) (s : State) : Option Completion :=
  if q < 16 then (nth s.hif.completions (boundRing q s) [] ++ nth s.hif.waiting (boundRing q s) []).getLast?
  else (nth s.hif.inner (q - 16) []).getLast?

/-- The command has ended with a record of a status, a detail and a result (R80, R82). -/
def Answered (code : Nat) (d : Desc) (st : Status) (detail : Nat) (res : BitVec 128) (s : State) : Prop :=
  ∃ c, lastRecord d.ring.val s = some c ∧ c.tag = d.tag ∧ c.opcode = BitVec.ofNat 16 code ∧ c.status = st ∧
    c.detail = BitVec.ofNat 16 detail ∧ c.result = res ∧ c.final = true ∧ (source d.ring.val s).running = none

/-- The command's data buffer holds bytes (R79). -/
def Delivered (d : Desc) (bytes : List Byte) (s : State) : Prop := bytes = [] ∨ (d.dataAddr, bytes) ∈ s.hif.dataWritten

/-- The command stays in execution, waiting (R90). -/
def Awaits (code : Nat) (d : Desc) (w : Wait) (s : State) : Prop :=
  ∃ r, (source d.ring.val s).running = some r ∧ r.desc = coded code d ∧ r.wait = w

/-- Nothing has changed but the host interface, and the model's own count of the free values it has taken (log entry 4). -/
def OnlyHost (s t : State) : Prop := t = { s with hif := t.hif, freeCtr := t.freeCtr }

/-! ## Commands by the shape of their meaning -/

/-- A command starts at once and its own checks refuse nothing. -/
def Passes (code : Nat) (check : Running → State → Option Reject) (d : Desc) (s : State) : Prop :=
  Begins code d s ∧ check (starting code d s) (stepping code d s) = none

/-- What an effect answers when it ends its command at once: its result and its buffer's bytes. -/
def answerOf (effect : Running → State → Ans × State) (r : Running) (s : State) : BitVec 128 × List Byte :=
  match (effect r s).1 with
  | .final f => (f.result, f.data)
  | .stay _ => (0, [])

/-- A command that reads: its opcode, its descriptor, its checks, and the result and bytes it reads from the state. -/
structure Query where
  code : Nat
  desc : Desc
  check : Running → State → Option Reject
  reads : Running → State → BitVec 128 × List Byte

/-- The commands that read the state and leave it alone. -/
def queryOf : Instr → Option Query
  | .nop d => some { code := 0x0000, desc := d, check := checkBare, reads := answerOf (fun _ s => (doneWith 0, s)) }
  | .timeQuery d => some { code := 0x0002, desc := d, check := checkBare, reads := answerOf effectTimeQuery }
  | .deviceInfo d => some { code := 0x0010, desc := d, check := checkDeviceInfo, reads := answerOf effectDeviceInfo }
  | .linkStatus d => some { code := 0x0101, desc := d, check := checkLinkStatus, reads := answerOf effectLinkStatus }
  | .channelStatus d => some { code := 0x0113, desc := d, check := checkChannelStatus, reads := answerOf effectChannelStatus }
  | .cancelReadTaps d => some { code := 0x0202, desc := d, check := checkCancelReadTaps, reads := answerOf effectCancelReadTaps }
  | .marginRead d => some { code := 0x0211, desc := d, check := checkMarginRead, reads := answerOf effectMarginRead }
  | .stabilityStatus d => some { code := 0x0213, desc := d, check := checkStabilityStatus, reads := answerOf effectStabilityStatus }
  | .protectionStatus d => some { code := 0x0310, desc := d, check := checkProtectionStatus, reads := answerOf effectProtectionStatus }
  | .engineStatus d => some { code := 0x0404, desc := d, check := checkEngineStatus, reads := answerOf effectEngineStatus }
  | .capacityQuery d => some { code := 0x0411, desc := d, check := checkCapacityQuery, reads := answerOf effectCapacityQuery }
  | .frameStatus d => some { code := 0x0502, desc := d, check := checkFrameStatus, reads := answerOf effectFrameStatus }
  | .loStatus d => some { code := 0x0523, desc := d, check := checkLoStatus, reads := answerOf effectLoStatus }
  | .surveyRead d => some { code := 0x0541, desc := d, check := checkSurveyRead, reads := answerOf effectSurveyRead }
  | .loopStatus d => some { code := 0x0604, desc := d, check := checkLoopStatus, reads := answerOf effectLoopStatus }
  | .railStatus d => some { code := 0x0704, desc := d, check := checkRailStatus, reads := answerOf effectRailStatus }
  | .thermalStatus d => some { code := 0x0801, desc := d, check := checkThermalStatus, reads := answerOf effectThermalStatus }
  | .lifeRead d => some { code := 0x0803, desc := d, check := checkLifeRead, reads := answerOf effectLifeRead }
  | .faultStatus d => some { code := 0x0900, desc := d, check := checkFaultStatus, reads := answerOf effectFaultStatus }
  | .gbTailStatus d => some { code := 0x0A01, desc := d, check := checkGbTailStatus, reads := answerOf effectGbTailStatus }
  | .hrRead d => some { code := 0x0B00, desc := d, check := checkHrRead, reads := answerOf effectHrRead }
  | .identityRead d => some { code := 0x0B20, desc := d, check := checkIdentityRead, reads := answerOf effectIdentityRead }
  | .attest d => some { code := 0x0B21, desc := d, check := checkAttest, reads := answerOf effectAttest }
  | .fabricStatus d => some { code := 0x0C01, desc := d, check := checkFabricStatus, reads := answerOf effectFabricStatus }
  | .twinStatus d => some { code := 0x0C13, desc := d, check := checkTwinStatus, reads := answerOf effectTwinStatus }
  | .captureStatus d => some { code := 0x0D02, desc := d, check := checkCaptureStatus, reads := answerOf effectCaptureStatus }
  | _ => none

/-- The state before with what any accepted command may change taken from the state after: the host interface, the list of accepted settings and
the calibration store (R226, R589), and the model's own count of free values. -/
def Kept (s t : State) : State :=
  { s with hif := t.hif, freeCtr := t.freeCtr, sys := { s.sys with accepted := t.sys.accepted, calStore := t.sys.calStore } }

/-- The Guestbook's intake has taken a record of a class and code, where it has room for one (R537). -/
def Logged (cls : Fin 9) (code : Nat) (s t : State) : Prop :=
  gbRoom cls s = true → ∃ e ∈ t.gb.queue.drop s.gb.queue.length, e.cls = cls ∧ e.code = BitVec.ofNat 16 code

/-- A change with the given settings waits in a direction's configuration or gain line, behind the changes before it (R42). -/
def Queued (c : Fin 64) (d : Dir) (k : EpochKind) (settings : List Setting) (s t : State) : Prop :=
  ∃ g, ((direction c d t).line k).waiting = ((direction c d s).line k).waiting ++ [g] ∧ g.settings = settings

/-- A command that starts at once and that its checks pass answers a next state, with a final record DONE that carries a result, and with what p
says of the state. -/
def Does (code : Nat) (check : Running → State → Option Reject) (i : Instr) (d : Desc) (s : State) (res : BitVec 128) (p : State → Prop) : Prop :=
  Passes code check d s → ∃ t, exec i s = .next t ∧ Answered code d .done 0 res t ∧ p t

/-- A command that starts at once and that its checks pass answers a next state in which it waits, with what p says of the state. -/
def Starts (code : Nat) (check : Running → State → Option Reject) (i : Instr) (d : Desc) (s : State) (w : Wait) (p : State → Prop) : Prop :=
  Passes code check d s → ∃ t, exec i s = .next t ∧ Awaits code d w t ∧ p t

/-- A command answers a next state, with what p says of it. -/
def Runs (i : Instr) (s : State) (p : State → Prop) : Prop := ∃ t, exec i s = .next t ∧ p t

/-- A command answers the state it meets: it finds nothing to do. -/
def Rests (i : Instr) (s : State) : Prop := exec i s = .next s

/-- A fault event waits for the collector: source and object (R495, R496). -/
def Raised (n obj : Nat) (t : State) : Prop := ∃ e ∈ t.faults.inbox, e.src = Fin.ofNat 512 n ∧ e.obj = BitVec.ofNat 16 obj

end Sys2Proof.Safety
end

