-- ==== Sys2Proof/Certificates/Slice0/Obligations.lean ====
section
/-! DEFINITION. The statements for the provers. exec is the meaning of a command on everything but the queue; a statement of a command's effect says
that exec answers a next state and what that state holds. -/

open Sys2Proof Sys2Proof.Machine Sys2Proof.Safety

/-- With a command at the front of the queue, a step is exec of that command on the state with the queue's rest; the queue is the model's own (log entry
1). (02_host_interface.md) -/
def Obligations.StepRunsTheFront : Prop :=
  ∀ (s : State) (c : Instr) (rest : List Instr), s.pending = c :: rest → step s = exec c { s with pending := rest }

/-- On an empty queue a step answers a next state that differs in time alone: one frame-timer count while the core is up, one oscillator period of
15625/512 microseconds of operating time while it is down and VAUX is valid (the model's choice, log entry 1). (12_guestbook.md) -/
def Obligations.IdleStepIsTimeAlone : Prop :=
  ∀ s : State, s.pending = [] → ∃ t, step s = .next t ∧ t = { s with now := t.now, opBase := t.opBase, opFrac := t.opFrac } ∧
    (s.sys.coreUp = true → t.now = s.now + 1 ∧ t.opBase = s.opBase ∧ t.opFrac = s.opFrac) ∧
    (s.sys.coreUp = false → t.now = s.now) ∧
    (s.sys.coreUp = false → s.sys.vauxValid = true → 512 * t.opBase + t.opFrac = 512 * s.opBase + (s.opFrac + 15625))

/-- Whatever command runs in whatever state, a next state holds the queue of waiting commands unchanged. (02_host_interface.md) -/
def Obligations.ExecKeepsTheQueue : Prop :=
  ∀ (i : Instr) (s t : State), exec i s = .next t → t.pending = s.pending

/-- From every state whose mode is NATIVE or COMPAT and whose lodgers' retained areas are in canonical form, a step that answers a next state answers
one with both properties: no command brings a production-test mode, and every write of a retained area keeps its form. (16_pins_and_electrical.md,
13_start_up_trust_and_house_rules.md) -/
def Obligations.EveryStepKeepsInv : Prop :=
  ∀ s t : State, Inv s → step s = .next t → Inv t

/-- The state right after reset is in an operating mode (NATIVE straps are the model's choice, log entry 2) and its retained areas are in canonical
form. (16_pins_and_electrical.md) -/
def Obligations.ResetMeetsInv : Prop :=
  Inv State.reset

/-- For a device the host reaches: a doorbell write of an index not below the ring's size on an enabled command ring is discarded and takes the ring to
ERROR with cause DOORBELL_RANGE; on a disabled ring it changes the doorbell register alone; enabling the ring sets its indices whatever that
register holds; an index within range is taken as the host index. (R75) -/
def Obligations.CommandDoorbell : Prop :=
  ∀ (q : Fin 16) (r : Fin 26) (v cfg : Word) (s : State), hostUp s = true →
    ((ring q s).enable = true → (ring q s).size ≤ v.toNat % 65536 → ∃ t, exec (.cmdqDoorbell q v) s = .next t ∧
      (ring q t).state = .error ∧ (ring q t).errorCause = 2 ∧ (ring q t).error = true ∧ (ring q t).hostIndex = (ring q s).hostIndex ∧
      source q t = source q s ∧ OnlyHost s t) ∧
    ((ring q s).enable = false → ∃ t, exec (.cmdqDoorbell q v) s = .next t ∧
      ring q t = { ring q s with doorbell := BitVec.ofNat 16 v.toNat } ∧ source q t = source q s ∧ OnlyHost s t) ∧
    ((ring q s).enable = true → v.toNat % 65536 < (ring q s).size → ∃ t, exec (.cmdqDoorbell q v) s = .next t ∧
      ring q t = { ring q s with doorbell := BitVec.ofNat 16 v.toNat, hostIndex := v.toNat % 65536 } ∧
      ((v.toNat % 65536 + (ring q s).size - (ring q s).hostIndex) % (ring q s).size ≠ 0 →
        (source q t).marks = (source q s).marks ++
          [((v.toNat % 65536 + (ring q s).size - (ring q s).hostIndex) % (ring q s).size, s.hif.doorbellOrder + 1)]) ∧ OnlyHost s t) ∧
    ((ring (16 + r.val) s).enable = true → (ring (16 + r.val) s).size ≤ v.toNat % 65536 → ∃ t, exec (.consumerDoorbell r v) s = .next t ∧
      (ring (16 + r.val) t).state = .error ∧ (ring (16 + r.val) t).errorCause = 2 ∧ (ring (16 + r.val) t).hostIndex = (ring (16 + r.val) s).hostIndex ∧
      OnlyHost s t) ∧
    ((ring (16 + r.val) s).enable = false → ∃ t, exec (.consumerDoorbell r v) s = .next t ∧
      ring (16 + r.val) t = { ring (16 + r.val) s with doorbell := BitVec.ofNat 16 v.toNat } ∧ OnlyHost s t) ∧
    ((ring q s).enable = false → (ring (16 + boundRing q (modRing q (Ring.configured true (cfg ||| 0x20)) s)) s).enable = true →
      ∃ t, exec (.ringEnable (Fin.castLE (by omega) q) cfg) s = .next t ∧ (ring q t).enable = true ∧ (ring q t).state = .active ∧
        (ring q t).devIndex = 0 ∧ (ring q t).hostIndex = 0 ∧ (ring q t).phase = true ∧ (ring q t).doorbell = (ring q s).doorbell) ∧
    ((ring (16 + r.val) s).enable = false → (r.val ≠ 25 ∨ s.hif.resetSeenPending = false) →
      ∃ t, exec (.ringEnable ⟨16 + r.val, by omega⟩ cfg) s = .next t ∧ (ring (16 + r.val) t).enable = true ∧
        (ring (16 + r.val) t).devIndex = 0 ∧ (ring (16 + r.val) t).hostIndex = 0 ∧ (ring (16 + r.val) t).doorbell = (ring (16 + r.val) s).doorbell)

/-- For a device the host reaches, an index within range written to the doorbell of an enabled device-written ring frees the entries up to it, becomes
the host index and restarts the age of the rest; the ring is armed unless the entries left raise its vector at once, which disarms it. A
device-written ring with irq_enable set that is armed and holds unread entries raises its vector when the age limit expires, and is disarmed. (R104,
R75) -/
def Obligations.ConsumerDoorbell : Prop :=
  (∀ (r : Fin 26) (v : Word) (s : State), hostUp s = true → (ring (16 + r.val) s).enable = true → v.toNat % 65536 < (ring (16 + r.val) s).size →
    ∃ t, exec (.consumerDoorbell r v) s = .next t ∧ OnlyHost s t ∧ (ring (16 + r.val) t).hostIndex = v.toNat % 65536 ∧
      (ring (16 + r.val) t).oldestAt = s.now ∧ (ring (16 + r.val) t).devIndex = (ring (16 + r.val) s).devIndex ∧
      unread (16 + r.val) t = unread (16 + r.val) s - (v.toNat % 65536 + (ring (16 + r.val) s).size - (ring (16 + r.val) s).hostIndex) % (ring (16 + r.val) s).size ∧
      ((ring (16 + r.val) s).irqEnable = false → (ring (16 + r.val) t).armed = true)) ∧
  (∀ (r : Fin 26) (s : State), (ring (16 + r.val) s).irqEnable = true → (ring (16 + r.val) s).armed = true → 0 < unread (16 + r.val) s →
    ∃ t, exec (.coalesceTimeout r) s = .next t ∧ (ring (16 + r.val) t).armed = false ∧
      nth t.hif.msixRaised (ring (16 + r.val) s).msixVector.toNat 0 = nth s.hif.msixRaised (ring (16 + r.val) s).msixVector.toNat 0 + 1 ∧
      t = { s with hif := t.hif, now := t.now } ∧ s.now ≤ t.now)

/-- For a device the host reaches: enabling a device-written ring starts it ACTIVE with both indices 0 and phase 1; disabling a command ring discards
and counts what it fetched and did not start, and leaves it DRAINING while a command is in execution or a final record waits, DISABLED otherwise, or
in ERROR where it was (the model's choice, log entry 59); HIF_CTRL takes the enable bit; clearing Bus Master Enable takes an active ring to ERROR
with cause BUS_MASTER_OFF. A host-interface reset of a running core empties every command source of the host (work past its commit point goes on in
silence, R110), sets its registers back, counts itself and what it discarded, sets host_reset_seen and leaves channels, ports, radio, loops and
supplies as they were; its end makes the interface reachable again. (R71, R72, R106, R107, R109, R110, R111) -/
def Obligations.RingsOnAndOff : Prop :=
  (∀ (q : Fin 16) (r : Fin 42) (v : Word) (s : State), hostUp s = true →
    (16 ≤ r.val → r.val ≠ 41 → (ring r.val s).enable = false → ∃ t, exec (.ringEnable r v) s = .next t ∧ (ring r.val t).enable = true ∧
      (ring r.val t).state = .active ∧ (ring r.val t).devIndex = 0 ∧ (ring r.val t).hostIndex = 0 ∧ (ring r.val t).phase = true ∧
      (ring r.val t).lost = 0 ∧ OnlyHost s t) ∧
    ((ring q.val s).enable = true → ∃ t, exec (.ringDisable (Fin.castLE (by omega) q) v) s = .next t ∧ (ring q.val t).enable = false ∧
      (source q.val t).fetched = [] ∧ (source q.val t).running = (source q.val s).running ∧
      t.hif.abandonedCommands = satAdd 16 s.hif.abandonedCommands (source q.val s).fetched.length ∧
      (ring q.val t).state = offState (ringOwes q.val s) (ring q.val s).state ∧ OnlyHost s t) ∧
    (∃ t, exec (.hifEnable v) s = .next t ∧ t = refreshReady { s with hif := { s.hif with enable := v.getLsbD 0 } }) ∧
    ((ring r.val s).isActive = true → ∃ t, exec .busMasterOff s = .next t ∧ (ring r.val t).state = .error ∧ OnlyHost s t)) ∧
  (∀ (k : HostResetKind) (s : State), s.sys.coreUp = true →
    (∃ t, exec (.hostInterfaceReset k) s = .next t ∧ t.hif.inReset = true ∧ t.hif.hostResets = s.hif.hostResets + 1 ∧
      t.hif.hostResetSeen = true ∧ t.hif.enable = false ∧
      t.hif.abandonedCommands = min 0xFFFF (((List.range 16).map (fun q => (source q s).fetched.length)).sum) ∧
      t.hif.abandonedRecords = min 0xFFFF (s.hif.waiting.toList.map List.length).sum ∧
      (∀ q, q < 16 → (source q t).fetched = [] ∧ (source q t).marks = [] ∧ (source q t).running = none) ∧ (∀ r, r < 42 → (ring r t).enable = false) ∧
      t.chans = s.chans ∧ t.ports = s.ports ∧ t.radio = s.radio ∧ t.loops = s.loops ∧ t.supply = s.supply ∧ t.now = s.now) ∧
    (s.sys.perst = false → ∃ t, exec .hostInterfaceResetEnd s = .next t ∧ t.hif.inReset = false ∧
      t.sys.cfgReady = (s.sys.innkeeper != .starting) ∧ t.hif.rings = s.hif.rings ∧ t.hif.sources = s.hif.sources))

/-- A fetched descriptor joins its ring's queue and a failed descriptor read takes the ring to ERROR; a step grant serves the source the arbitration
chooses and changes nothing when there is none; an aged source is served as of priority 0; a hardware wait that ends makes the command ready; a
command past its timeout leaves the ring with a TIMEOUT record and continues; waiting records are posted while their ring has room. (R75, R88, R89,
R90, R91, R92, R94, R107) -/
def Obligations.StepsAndEnds : Prop :=
  ∀ (q : Fin 16) (k : Fin 22) (x : Desc) (r : Running) (rs : List Int) (s : State),
    (fetches q.val s = true → (source q.val s).marks ≠ [] →
      ∃ t, exec (.descriptorFetch q (some x)) s = .next t ∧ OnlyHost s t ∧
        ((source q.val t).fetched.map (·.desc)) = (source q.val s).fetched.map (·.desc) ++ [{ x with ring := Fin.castLE (by omega) q }]) ∧
    (fetches q.val s = true → (source q.val s).marks ≠ [] →
      ∃ t, exec (.descriptorFetch q none) s = .next t ∧ (ring q.val t).state = .error ∧ (ring q.val t).errorCause = 1 ∧
        (source q.val t).fetched = (source q.val s).fetched) ∧
    (s.sys.coreUp = true → chosen s = some k.val → ∃ t, exec .stepGrant s = .next t ∧ t = refreshReady (serve k.val (granted k.val s))) ∧
    (s.sys.coreUp = true → chosen s = none → ∃ t, exec .stepGrant s = .next t ∧ OnlyHost s t ∧ t.hif.rings = s.hif.rings ∧
      t.hif.completions = s.hif.completions) ∧
    (s.hif.aging ≠ 0 → grantable k.val s = true →
      ∃ t, exec (.ringAging k) s = .next t ∧ priorityOf k.val t = 0 ∧ t = { s with hif := t.hif, now := t.now }) ∧
    ((source k.val s).running = some r → r.wait = .hardware → outsideWait r.desc = true →
      ∃ t, exec (.hardwareWaitDone k rs) s = .next t ∧ OnlyHost s t ∧
        (source k.val t).running = some { r with wait := .none, results := rs }) ∧
    (k.val < 20 → (source k.val s).running = some r → expired r s = true →
      ∃ t, exec (.commandTimeout k) s = .next t ∧ OnlyHost s t ∧ (source k.val t).running = none ∧
        (source k.val t).continuing = (source k.val s).continuing ++ [r] ∧
        (∃ c, lastRecord k.val t = some c ∧ c.tag = r.desc.tag ∧ c.status = .timeout ∧ c.final = true)) ∧
    ((nth s.hif.waiting q.val []) ≠ [] → cplRoom q.val s = true →
      ∃ t, exec (.recordSpace q) s = .next t ∧ OnlyHost s t ∧ (nth t.hif.waiting q.val []).length < (nth s.hif.waiting q.val []).length ∧
        (nth s.hif.completions q.val []).length < (nth t.hif.completions q.val []).length)

/-- For a device the host reaches: a write of 0 to the enable field of a completion ring to which an enabled command ring is bound leaves the ring
enabled, with its indices, its phase and its state as they were, and every other ring alone. (R73) -/
def Obligations.BoundRingStays : Prop :=
  ∀ (p q : Fin 16) (v : Word) (r : Nat) (s : State), hostUp s = true → (ring p.val s).enable = true → (ring p.val s).cplRing = q →
    (ring (16 + q.val) s).enable = true → ∃ t, exec (.ringDisable ⟨16 + q.val, by omega⟩ v) s = .next t ∧ OnlyHost s t ∧
      (ring (16 + q.val) t).enable = true ∧ (ring (16 + q.val) t).state = (ring (16 + q.val) s).state ∧
      (ring (16 + q.val) t).devIndex = (ring (16 + q.val) s).devIndex ∧ (ring (16 + q.val) t).hostIndex = (ring (16 + q.val) s).hostIndex ∧
      (ring (16 + q.val) t).phase = (ring (16 + q.val) s).phase ∧ (r ≠ 16 + q.val → ring r t = ring r s)

/-- A requested effective count is kept with its change when (requested - current) mod 2^32 is in 1 to 2^31 - 1; with any other value the change waits
as one that requests none, which the channeliser stamps on the first block it forms. (R39) -/
def Obligations.EffectiveCountInTheFuture : Prop :=
  ∀ (c : Fin 64) (d : Dir) (k : EpochKind) (sets : List Setting) (e : Word) (first : Nat) (s : State),
    ((1 ≤ (e - BitVec.ofNat 32 (basisNow s)).toNat ∧ (e - BitVec.ofNat 32 (basisNow s)).toNat ≤ 2 ^ 31 - 1) →
      ((direction c d (requestChange c d k sets (some e) s)).line k).waiting = ((direction c d s).line k).waiting ++
        [{ ticket := s.tickets, effCount := some e, settings := sets }]) ∧
    (¬(1 ≤ (e - BitVec.ofNat 32 (basisNow s)).toNat ∧ (e - BitVec.ofNat 32 (basisNow s)).toNat ≤ 2 ^ 31 - 1) →
      requestChange c d k sets (some e) s = requestChange c d k sets none s ∧
      (((direction c d s).line k).waiting = [] → ((direction c d s).line k).stamped = none →
        ((direction c d (requestChange c d k sets (some e) s)).line k).due first = some { ticket := s.tickets, effCount := none, settings := sets }))

/-- Started at once, and with nothing wrong with their descriptors and buffers: of a channel being removed, CHANNEL_MODIFY and CHANNEL_MUTE complete
REJECTED_STATE with detail NO_CHANNEL and CHANNEL_CREATE completes REJECTED_STATE with detail CHANNEL_EXISTS; nothing changes but the host
interface. (R158) -/
def Obligations.ChannelBeingRemoved : Prop :=
  ∀ (d : Desc) (c : Fin 64) (s : State), (chan c s).state = .removing →
    (Begins 0x0111 d s → checkBuffer true (coded 0x0111 d) = none → dat d 0 1 = c.val → ∃ t, exec (.channelModify d) s = .next t ∧
      Answered 0x0111 d .rejectedState 0x0109 0 t ∧ OnlyHost s t) ∧
    (Begins 0x0114 d s → common true [(0, 3)] .none (coded 0x0114 d) = none → par d 1 1 < 4 → par d 0 1 = c.val → ∃ t, exec (.channelMute d) s = .next t ∧
      Answered 0x0114 d .rejectedState 0x0109 0 t ∧ OnlyHost s t) ∧
    (Begins 0x0110 d s → checkBuffer false (coded 0x0110 d) = none → dat d 0 1 = c.val → ∃ t, exec (.channelCreate d) s = .next t ∧
      Answered 0x0110 d .rejectedState 0x0108 0 t ∧ OnlyHost s t)

/-- When VAUX becomes valid with straps of an operating mode, the boot voltage is 660 mV plus 20 mV for each step of the BOOTV code sampled: SUP0 starts
towards it, code 0 giving 660 mV and code 7 giving 800 mV. (R447) -/
def Obligations.BootVoltage : Prop :=
  ∀ (x : Straps) (s : State), s.sys.vauxValid = false → x.mode.toNat < 2 → ∃ t, exec (.vauxValid x) s = .next t ∧
    bootMv t = 660 + 20 * x.bootv.toNat ∧ (bootAllowed t = true → (rail 0 t).target = 660 + 20 * x.bootv.toNat ∧ (rail 0 t).state = .softStart) ∧
    (x.bootv = 0 → bootMv t = 660) ∧ (x.bootv = 7 → bootMv t = 800)

/-- Counted from core reset, fault tick k falls on the frame-timer count that is the least at or above 768 k / 25: the count of ticks passed at
frame-timer count n is at least k exactly from there on, 25 ticks fall in every 768 counts and none at reset; and the collector takes the events
that wait at the next fault tick. (R495) -/
def Obligations.FaultTickGrid : Prop :=
  ∀ (k n : Nat) (e : FaultEvt) (s : State),
    (k ≤ faultTick { s with now := n } ↔ tickCount k ≤ n) ∧ 768 * k ≤ 25 * tickCount k ∧ 25 * tickCount k < 768 * k + 25 ∧
    faultTick { s with now := n + 768 } = faultTick { s with now := n } + 25 ∧ faultTick State.reset = 0 ∧
    (s.sys.coreUp = true → allocated e.src.val = true → ∃ evs u, exec (.faultEvent [e]) s = .next (runTick evs u) ∧ e ∈ evs ∧
      u.now = tickCount (faultTick s + 1) ∧ s.now < u.now ∧ u.faults.inbox = [] ∧ u.sys = s.sys ∧ (e.src ≠ 9 → u.gb = s.gb))

/-- A NOP that starts at once with no parameters, no buffer and no reserved flag completes DONE with a zero result and changes nothing but the host
interface; one with a parameter byte that is not zero completes REJECTED_PARAM with detail RESERVED. (R116) -/
def Obligations.NopAnswers : Prop :=
  ∀ (d : Desc) (s : State), Begins 0x0000 d s → d.flags.toNat < 8 → d.flags.getLsbD 1 = false →
    (d.params = 0 → d.dataLen = 0 → ∃ t, exec (.nop d) s = .next t ∧ Answered 0x0000 d .done 0 0 t ∧ OnlyHost s t) ∧
    (d.params ≠ 0 → ∃ t, exec (.nop d) s = .next t ∧ Answered 0x0000 d .rejectedParam detReserved 0 t ∧ OnlyHost s t)

/-- NOP, TIME_QUERY, DEVICE_INFO, LINK_STATUS, CHANNEL_STATUS, CANCEL_READ_TAPS, MARGIN_READ, STABILITY_STATUS, PROTECTION_STATUS, ENGINE_STATUS,
CAPACITY_QUERY, FRAME_STATUS, LO_STATUS, SURVEY_READ, LOOP_STATUS, RAIL_STATUS, THERMAL_STATUS, LIFE_READ, FAULT_STATUS, GB_TAIL_STATUS, HR_READ,
IDENTITY_READ, ATTEST, FABRIC_STATUS, TWIN_STATUS and CAPTURE_STATUS, started at once and past their checks, answer a next state with a final record
DONE that carries the result they read, their buffer delivered, and nothing changed but the host interface. (02_host_interface.md, R79, R80, R116,
R118) -/
def Obligations.QueriesAnswer : Prop :=
  ∀ (i : Instr) (k : Query) (s : State), queryOf i = some k → Passes k.code k.check k.desc s →
    ∃ t, exec i s = .next t ∧ OnlyHost s t ∧
      Answered k.code k.desc .done 0 (k.reads (starting k.code k.desc s) (stepping k.code k.desc s)).1 t ∧
      Delivered k.desc (k.reads (starting k.code k.desc s) (stepping k.code k.desc s)).2 t

/-- STREAM_CONFIGURE past its checks gives every named port the stream of its parameters and leaves the other ports' streams; PEAK_LIMIT_SET hands the
port's limiter its new setting and zeroes the port's two limiter counts, and changes nothing else. (03_streams_and_channels.md) -/
def Obligations.StreamSettings : Prop :=
  ∀ (d : Desc) (s : State),
    Does 0x0102 checkStreamConfigure (.streamConfigure d) d s 0 (fun t =>
      (∀ e ∈ (streamPorts d).zipIdx, t.links.streams[e.1] = newStream d e.1 e.2) ∧
      (∀ p, p ∉ streamPorts d → t.links.streams[p] = s.links.streams[p])) ∧
    Does 0x0120 checkPeakLimitSet (.peakLimitSet d) d s 0 (fun t =>
      t.links.limiters = upd s.links.limiters (par d 0 1) (fun v => { v with next := some (par d 1 1 == 1, parInt d 2 2, par d 4 2) }) ∧
      t.links.limited = upd s.links.limited (par d 0 1) (fun _ => 0) ∧ t.links.clipped = upd s.links.clipped (par d 0 1) (fun _ => 0) ∧
      t = { Kept s t with links := { s.links with limiters := t.links.limiters, limited := t.links.limited, clipped := t.links.clipped } })

/-- DONOR_LOSS_CONFIGURE past its checks sets the donor-loss rule of the UL directions it names; where House Rules make the rule mandatory a request to
disable it is forced on and completes CLAMPED with detail HR_MANDATORY. THRESHOLD_CONFIGURE hands the direction its floor parameters, or the ladder
its new parameters. (R251, R274, R275, 05_gain_and_network_protection.md) -/
def Obligations.ProtectionSettings : Prop :=
  ∀ (d : Desc) (s : State) (c : Fin 64),
    (¬ (par d 1 1 = 0 ∧ s.hr.rules.donorMandatory = true) →
      Does 0x0305 checkDonorLossConfigure (.donorLossConfigure d) d s 0 (fun t =>
        (c ∈ donorLossTargets d s → (direction c .ul t).gain.lossEnable = (par d 1 1 == 1) ∧ (direction c .ul t).gain.lossAbsentMs = par d 2 2 ∧
          (direction c .ul t).gain.lossReturnMs = par d 4 2) ∧
        (c ∉ donorLossTargets d s → chan c t = chan c s) ∧ direction c .dl t = direction c .dl s ∧ t = { Kept s t with chans := t.chans })) ∧
    (par d 1 1 = 0 → s.hr.rules.donorMandatory = true → Passes 0x0305 checkDonorLossConfigure d s →
      ∃ t, exec (.donorLossConfigure d) s = .next t ∧ Answered 0x0305 d .clamped 0x0306 0 t ∧
        (c ∈ donorLossTargets d s → (direction c .ul t).gain.lossEnable = true ∧ (direction c .ul t).gain.lossAbsentMs = par d 2 2)) ∧
    (par d 0 1 = 0 → Does 0x0306 checkThresholdConfigure (.thresholdConfigure d) d s 0 (fun t =>
        t = { Kept s t with chans := t.chans } ∧
        direction (chanOf (par d 1 1)) (dirOf (par d 2 1)) t =
          { direction (chanOf (par d 1 1)) (dirOf (par d 2 1)) s with
              gain := { (direction (chanOf (par d 1 1)) (dirOf (par d 2 1)) s).gain with
                          floorNext := some (floorOf d (direction (chanOf (par d 1 1)) (dirOf (par d 2 1)) s).gain) } })) ∧
    (par d 0 1 ≠ 0 → Does 0x0306 checkThresholdConfigure (.thresholdConfigure d) d s 0 (fun t =>
        t = { Kept s t with ladderNext := some { overpowerMs := par d 4 2, overRetryS := par d 6 2, overRetryLimit := par d 8 1,
                                                 portMuteLimit := par d 9 1, portRetryS := par d 10 2, deviceStopPorts := par d 12 1 } }))

/-- Past their checks: PLACEMENT_POLICY_SET hands the placement its policy for the next slow tick; SPARE_SET makes the idle engines of the wing that its
mask names spares and the spares it does not name idle, retired engines staying as they are; ASSIGNMENT_RELEASE empties the assignment. (R320, R321,
R317, 06_engine_pool.md) -/
def Obligations.PlacementSettings : Prop :=
  ∀ (d : Desc) (s : State),
    Does 0x0405 checkPlacementPolicySet (.placementPolicySet d) d s 0 (fun t =>
      t = { Kept s t with eng := { s.eng with policyNext := some (policyOf d) } }) ∧
    Does 0x0406 checkSpareSet (.spareSet d) d s 0 (fun t =>
      t = { Kept s t with eng := { s.eng with engines := t.eng.engines } } ∧
      ∀ e : Fin 256, t.eng.engines[e].state =
        (if e.val / 16 = par d 0 1 then
          if (par d 2 2).testBit (e.val % 16) then (if s.eng.engines[e].state = .idle then .spare else s.eng.engines[e].state)
          else if s.eng.engines[e].state = .spare then .idle else s.eng.engines[e].state
        else s.eng.engines[e].state)) ∧
    Does 0x0402 checkAssignmentRelease (.assignmentRelease d) d s 0 (fun t =>
      t.eng.asgs[Fin.ofNat 256 (par d 0 2)] = Assignment.reset ∧
      ∀ a : Fin 256, a ≠ Fin.ofNat 256 (par d 0 2) → t.eng.asgs[a].used = s.eng.asgs[a].used)

/-- Past their checks: LO_PLAN_WRITE writes or clears the plan it names; FE_PIN_CONFIGURE hands the pin its role and offsets for the next frame;
SERIAL_QUEUE_LOAD appends to, replaces or empties the master's queue; SURVEY_CONFIGURE takes the schedule and starts at its first entry;
COEX_CONFIGURE takes the interface's limits, and a disabled interface holds no grant. (R365, R366, R367, R372, R374,
07_radio_timing_and_front_end.md) -/
def Obligations.RadioSettings : Prop :=
  ∀ (d : Desc) (s : State),
    (par d 1 1 ≠ 1 → Does 0x0520 checkLoPlanWrite (.loPlanWrite d) d s 0 (fun t =>
      t = { Kept s t with radio := { s.radio with plans := t.radio.plans } } ∧
      (nth t.radio.plans (par d 0 1) LoPlan.reset).used = true ∧ (nth t.radio.plans (par d 0 1) LoPlan.reset).freq = dat d 8 8 ∧
      (nth t.radio.plans (par d 0 1) LoPlan.reset).synth = dat d 0 1 ∧ (nth t.radio.plans (par d 0 1) LoPlan.reset).level = dat d 2 1 ∧
      ∀ k, k ≠ par d 0 1 → nth t.radio.plans k LoPlan.reset = nth s.radio.plans k LoPlan.reset)) ∧
    (par d 1 1 = 1 → Does 0x0520 checkLoPlanWrite (.loPlanWrite d) d s 0 (fun t =>
      nth t.radio.plans (par d 0 1) LoPlan.reset = LoPlan.reset)) ∧
    Does 0x0510 checkFePinConfigure (.fePinConfigure d) d s 0 (fun t =>
      t = { Kept s t with radio := { s.radio with pinNext := upd s.radio.pinNext (par d 0 1) (fun _ => some
        { role := par d 1 1, port := Fin.ofNat 8 (par d 2 1), activeHigh := par d 3 1 == 1 || par d 1 1 == 1, onOffset := parInt d 4 2,
          offOffset := parInt d 6 2 }) } }) ∧
    Does 0x0511 checkSerialQueueLoad (.serialQueueLoad d) d s 0 (fun t =>
      t = { Kept s t with radio := { s.radio with serial := t.radio.serial } } ∧
      t.radio.serial[Fin.ofNat 4 (par d 0 1)].queue =
        (match par d 1 1 with
          | 0 => s.radio.serial[Fin.ofNat 4 (par d 0 1)].queue ++ serialEntries d s.now
          | 1 => serialEntries d s.now
          | 2 => []
          | _ => s.radio.serial[Fin.ofNat 4 (par d 0 1)].queue)) ∧
    (par d 0 1 = 0 → Does 0x0540 checkSurveyConfigure (.surveyConfigure d) d s 0 (fun t =>
      t.radio.survey = { s.radio.survey with enable := false, duty := par d 1 1, entries := surveyEntries d, index := 0, dwelling := false } ∧
      t = { Kept s t with radio := { s.radio with survey := t.radio.survey } })) ∧
    (par d 0 1 = 1 → Does 0x0540 checkSurveyConfigure (.surveyConfigure d) d s 0 (fun t =>
      t.radio.survey.enable = true ∧ t.radio.survey.duty = par d 1 1 ∧ t.radio.survey.entries = surveyEntries d ∧ t.radio.survey.index = 0)) ∧
    Does 0x0550 checkCoexConfigure (.coexConfigure d) d s 0 (fun t =>
      t.radio.coex[Fin.ofNat 2 (par d 0 1)] =
        { s.radio.coex[Fin.ofNat 2 (par d 0 1)] with
            enable := par d 1 1 == 1, port := Fin.ofNat 4 (par d 2 1), grantMaxMs := par d 4 2, maxDeferMs := par d 6 2, low := par d 8 8,
            high := par d 16 8, dutyPct := par d 24 1, gnt := s.radio.coex[Fin.ofNat 2 (par d 0 1)].gnt && par d 1 1 == 1,
            deferred := s.radio.coex[Fin.ofNat 2 (par d 0 1)].deferred && par d 1 1 == 1,
            yielding := t.radio.coex[Fin.ofNat 2 (par d 0 1)].yielding, grantedMs := t.radio.coex[Fin.ofNat 2 (par d 0 1)].grantedMs } ∧
      t.links = s.links ∧ t.loops = s.loops ∧ t.supply = s.supply)

/-- Past their checks: LOOP_CONFIGURE defines a loop from its parameters, waits for the first tick of a loop it starts, answers at once for one that
runs, stops a loop, removes one, or sets its saturation timers; LOOP_COEFF_LOAD replaces one slot and no other; LOOP_SWAP of a running loop waits
for its tick with the swap pending; LOOP_MODE_SET opens a hand-over to the incoming slot and waits; REPETITIVE_RESET marks the store and waits for
the tick; REPETITIVE_CONFIGURE answers the store's size. (08_loop_engine.md) -/
def Obligations.LoopSettings : Prop :=
  ∀ (d : Desc) (s : State) (l : Nat), par d 0 2 = l → l < 192 →
    (par d 2 1 = 0 → Does 0x0600 checkLoopConfigure (.loopConfigure d) d s 0 (fun t =>
      loop l t = definedLoop (coded 0x0600 d) ∧ (∀ k, k ≠ l → loop k t = loop k s) ∧ t = { Kept s t with loops := t.loops })) ∧
    (par d 2 1 = 1 → (loop l s).running = true → Does 0x0600 checkLoopConfigure (.loopConfigure d) d s 0 (fun t => t = Kept s t)) ∧
    (par d 2 1 = 1 → (loop l s).running = false → Starts 0x0600 checkLoopConfigure (.loopConfigure d) d s .hardware (fun t =>
      (loop l t).running = true ∧ (loop l t).startRing = some d.ring ∧ (loop l t).slot = (loop l s).slot ∧ (∀ k, k ≠ l → loop k t = loop k s) ∧
      t = { s with loops := t.loops, hif := t.hif })) ∧
    (par d 2 1 = 2 → (loop l s).running = true → (loop l s).swapPending = true →
      Does 0x0600 checkLoopConfigure (.loopConfigure d) d s 0 (fun t =>
        loop l t = { loop l s with stopAfterSwap := true } ∧ t = { Kept s t with loops := t.loops })) ∧
    (par d 2 1 = 2 → ((loop l s).running && (loop l s).swapPending) = false →
      Does 0x0600 checkLoopConfigure (.loopConfigure d) d s 0 (fun t => (loop l t).running = false)) ∧
    (par d 2 1 = 3 → Does 0x0600 checkLoopConfigure (.loopConfigure d) d s 0 (fun t => loop l t = Loop.reset)) ∧
    (4 ≤ par d 2 1 → Does 0x0600 checkLoopConfigure (.loopConfigure d) d s 0 (fun t =>
      loop l t = { loop l s with satNotice := par d 20 2, satFault := par d 22 2 } ∧ t = { Kept s t with loops := t.loops })) ∧
    Does 0x0601 checkLoopCoeffLoad (.loopCoeffLoad d) d s
      (result [(0, 1, ((loop l s).slots[Fin.ofNat 4 (par d 2 1)].load (par d 3 1) (coefficientSet (coded 0x0601 d))).2)]) (fun t =>
        loop l t = (loop l s).setSlot (Fin.ofNat 4 (par d 2 1))
          ((loop l s).slots[Fin.ofNat 4 (par d 2 1)].load (par d 3 1) (coefficientSet (coded 0x0601 d))).1 ∧
        t = { Kept s t with loops := t.loops }) ∧
    ((loop l s).running = true → Starts 0x0602 checkLoopSwap (.loopSwap d) d s .hardware (fun t =>
      loop l t = { loop l s with swapPending := true, swapRing := some d.ring } ∧ t = { s with loops := t.loops, hif := t.hif })) ∧
    ((loop l s).running = false → Passes 0x0602 checkLoopSwap d s → ∃ t res, exec (.loopSwap d) s = .next t ∧ Answered 0x0602 d .done 0 res t ∧
      loop l t = (loop l s).swap false) ∧
    Starts 0x0603 checkLoopModeSet (.loopModeSet d) d s .hardware (fun t => t = { s with loops := t.loops, hif := t.hif } ∧
      (loop l t).slot = (loop l s).slot ∧ ∃ h, (loop l t).handover = some h ∧ h.incoming = Fin.ofNat 4 (par d 2 1) ∧ h.ring = some d.ring ∧ h.ticks = 0 ∧
        h.window = (if par d 3 1 = 0 then 16 else par d 3 1)) ∧
    (Passes 0x0605 checkRepetitiveConfigure d s → ∃ t res, exec (.repetitiveConfigure d) s = .next t ∧ Answered 0x0605 d .done 0 res t ∧
      (loop l t).slots = (loop l s).slots ∧ (loop l t).rep.store.length =
        (if (loop l s).rep.store.length != repCount (coded 0x0605 d) (stepping 0x0605 d s) || (loop l s).rep.refSlot != repSlot (coded 0x0605 d) ||
            (loop l s).arg != repDivisor (coded 0x0605 d) (stepping 0x0605 d s) then repCount (coded 0x0605 d) (stepping 0x0605 d s)
         else (loop l s).rep.store.length)) ∧
    Starts 0x0606 checkRepetitiveReset (.repetitiveReset d) d s .hardware (fun t => t = { s with loops := t.loops, hif := t.hif } ∧
      (loop l t).rep.resetDue = true ∧ (loop l t).rep.resetRings = (loop l s).rep.resetRings ++ [d.ring])

/-- Past their checks: RAIL_CONFIGURE of a rail other than the core rail takes the plan and leaves the rail OFF, or monitored without phases, with its
target; RAIL_SET_VOLTAGE takes target and slew and waits for the settling; RAIL_START takes an OFF rail into its soft start and waits; RAIL_STOP
waits for the stop; TRACKING_SET takes or clears the relation; CORE_AVS_CONFIGURE hands the core supply its parameters. (09_supply_control.md) -/
def Obligations.RailCommands : Prop :=
  ∀ (d : Desc) (s : State) (n : Fin 10), Fin.ofNat 10 (par d 0 1) = n →
    (n ≠ 0 → Does 0x0700 checkRailConfigure (.railConfigure d) d s 0 (fun t =>
      (rail n t).plan = planOf (coded 0x0700 d) ∧ (rail n t).target = (planOf (coded 0x0700 d)).target ∧
      (rail n t).state = (if (planOf (coded 0x0700 d)).phaseMask = 0 then .monitor else .off) ∧ ∀ k, k ≠ n → rail k t = rail k s)) ∧
    (n = 0 → Does 0x0700 checkRailConfigure (.railConfigure d) d s 0 (fun t =>
      (rail n t).plan = corePlan (rail n s).plan (planOf (coded 0x0700 d)) ∧ (rail n t).state = (rail n s).state ∧
      (rail n t).target = (if s.supply.avsEnabled then (rail n s).target else (planOf (coded 0x0700 d)).target) ∧ ∀ k, k ≠ n → rail k t = rail k s)) ∧
    Starts 0x0701 checkRailSetVoltage (.railSetVoltage d) d s .hardware (fun t =>
      (rail n t).target = par d 2 2 ∧ (rail n t).slew = par d 4 2 ∧ (rail n t).setRing = some d.ring ∧ (rail n t).ref = (rail n s).ref ∧
      (rail n t).state = (rail n s).state ∧ (∀ k, k ≠ n → rail k t = rail k s) ∧ t = { s with supply := t.supply, hif := t.hif }) ∧
    ((rail n s).state = .off → Starts 0x0702 checkRailStart (.railStart d) d s .hardware (fun t =>
      (rail n t).state = .softStart ∧ (rail n t).startRing = some d.ring ∧ (rail n t).target = (rail n s).target)) ∧
    Starts 0x0703 checkRailStop (.railStop d) d s .hardware (fun t =>
      (rail n t).stopRing = some d.ring ∧ (rail n t).target = (rail n s).target ∧ (rail n t).plan = (rail n s).plan) ∧
    Does 0x0705 checkTrackingSet (.trackingSet d) d s 0 (fun t => t = { Kept s t with supply := t.supply } ∧
      rail n t = { rail n s with tracking :=
        (if par d 2 1 = 0 then none else some (Fin.ofNat 10 (par d 1 1), par d 2 1, if par d 2 1 = 1 then parInt d 4 2 else 0)) } ∧
      ∀ k, k ≠ n → rail k t = rail k s) ∧
    Does 0x0706 checkCoreAvsConfigure (.coreAvsConfigure d) d s 0 (fun t =>
      t.supply = { s.supply with avsNext := some { enable := par d 1 1 == 1, vMin := par d 2 2, vMax := par d 4 2, rise := par d 6 1, fall := par d 7 1, aging := par d 8 2 } } ∧
      t = { Kept s t with supply := t.supply })

/-- Past their checks: THERMAL_CONFIGURE hands every named sensor its parameters and, for the die, the lateral limits; SENSOR_MAP_SET writes the
thermistor's map; REACTION_SET applies the given masks with the reactions no mask may remove put back, and reports both; FAULT_RELEASE marks the
named parked sources for release and answers their number; FAULT_PARAMS_SET hands the source parameters that take effect two fault ticks later.
(10_thermal_and_service_life.md, 11_faults.md, R514, R522) -/
def Obligations.ThermalAndFaultSettings : Prop :=
  ∀ (d : Desc) (s : State),
    Does 0x0800 checkThermalConfigure (.thermalConfigure d) d s 0 (fun t => t = { Kept s t with thermal := t.thermal } ∧
      (∀ n, n < 32 → n ∈ namedSensors (coded 0x0800 d) → (sensor n t).next = some (sensorParamsOf (coded 0x0800 d))) ∧
      (∀ n, n ∉ namedSensors (coded 0x0800 d) → sensor n t = sensor n s) ∧
      t.thermal.latNext = (if par d 0 1 = 0 then some (par d 14 2, par d 16 2) else s.thermal.latNext)) ∧
    Does 0x0802 checkSensorMapSet (.sensorMapSet d) d s 0 (fun t =>
      t = { Kept s t with thermal := { s.thermal with maps := upd s.thermal.maps (par d 0 1) (fun _ =>
        { ports := BitVec.ofNat 8 (par d 1 1), r25 := BitVec.ofNat 32 (par d 4 4), beta := par d 8 2, pullUp := BitVec.ofNat 32 (par d 12 4) }) } }) ∧
    (par d 0 2 < 512 → Does 0x0901 checkReactionSet (.reactionSet d) d s
      (result [(0, 1, (par d 2 1 ||| floorMask (par d 0 2) 1 : Nat)), (1, 1, (par d 3 1 ||| floorMask (par d 0 2) 2 : Nat)),
        (2, 1, (par d 4 1 ||| floorMask (par d 0 2) 3 : Nat)),
        (3, 1, ((par d 2 1 ||| floorMask (par d 0 2) 1) - par d 2 1 ||| ((par d 3 1 ||| floorMask (par d 0 2) 2) - par d 3 1) |||
          ((par d 4 1 ||| floorMask (par d 0 2) 3) - par d 4 1) : Nat))]) (fun t =>
      t = { Kept s t with faults := t.faults } ∧
      faultSrc (par d 0 2) t = { faultSrc (par d 0 2) s with masks := #v[BitVec.ofNat 8 (par d 2 1 ||| floorMask (par d 0 2) 1),
        BitVec.ofNat 8 (par d 3 1 ||| floorMask (par d 0 2) 2), BitVec.ofNat 8 (par d 4 1 ||| floorMask (par d 0 2) 3)] })) ∧
    (par d 0 2 ≠ 0xFFFF → par d 0 2 < 512 → Does 0x0902 checkFaultRelease (.faultRelease d) d s (result [(0, 2, 1)]) (fun t =>
      t = { Kept s t with faults := t.faults } ∧ faultSrc (par d 0 2) t = { faultSrc (par d 0 2) s with releaseDue := true } ∧
      Fin.ofNat 512 (par d 0 2) ∈ t.faults.due)) ∧
    (par d 0 2 < 512 → Does 0x0903 checkFaultParamsSet (.faultParamsSet d) d s 0 (fun t =>
      t = { Kept s t with faults := t.faults } ∧ Fin.ofNat 512 (par d 0 2) ∈ t.faults.due ∧
      faultSrc (par d 0 2) t = { faultSrc (par d 0 2) s with newPar := some (faultParamsOf (coded 0x0903 d), faultTick (stepping 0x0903 d s) + 2) }))

/-- Past their checks: GB_CLEAR_CHALLENGE answers a nonce (a free value) and keeps it with its time; GB_CLEAR consumes the nonce, opens the clear record
where the open page has room and waits for its commit, waits for the room where it has none (R544; log entry 186), and a failed authorization
answers AUTH_FAILED and is counted; GB_APPEND queues the record with its class, code and bytes and waits for its sequence; WALL_CLOCK_SET sets the
wall clock valid and hands the Guestbook its record; CONFIG_SAVE waits for the flash; GB_READ goes on to its first record, and each later step of it
adds one record to its answer or, when no more fits or is asked for, completes it DONE with the first and last sequence and the number read.
(12_guestbook.md, R551, R552, R558) -/
def Obligations.GuestbookCommands : Prop :=
  ∀ (d : Desc) (q : Fin 20) (r : Running) (s : State),
    (Passes 0x0A02 checkClearChallenge d s → ∃ t v, exec (.gbClearChallenge d) s = .next t ∧ Answered 0x0A02 d .done 0 v t ∧
      t.gb = { s.gb with nonce := some (v, s.slowTicks) } ∧ t = { Kept s t with gb := t.gb }) ∧
    (Passes 0x0A03 (fun r s => firstOf [common false [] .own r.desc, hostRead r.desc, refuseIf (!s.gb.ready) (badState 0x0A0A)]) d s →
      clearChecks (coded 0x0A03 d) (stepping 0x0A03 d s) = (none, true) → clearRoom s = true → ∃ t, exec (.gbClear d) s = .next t ∧ Awaits 0x0A03 d .state t ∧
        t.gb.nonce = none ∧ t.gb.seqNext = s.gb.seqNext + 1 ∧ t.gb.flash = s.gb.flash ∧ (∃ c ∈ t.gb.staged, c.entry.cls = 5 ∧ c.entry.sequence = s.gb.seqNext)) ∧
    (Passes 0x0A03 (fun r s => firstOf [common false [] .own r.desc, hostRead r.desc, refuseIf (!s.gb.ready) (badState 0x0A0A)]) d s →
      clearChecks (coded 0x0A03 d) (stepping 0x0A03 d s) = (none, true) → clearRoom s = false → ∃ t, exec (.gbClear d) s = .next t ∧ Awaits 0x0A03 d .state t ∧
        t = { s with hif := t.hif, gb := { s.gb with nonce := none } }) ∧
    (∀ e b, Passes 0x0A03 (fun r s => firstOf [common false [] .own r.desc, hostRead r.desc, refuseIf (!s.gb.ready) (badState 0x0A0A)]) d s →
      clearChecks (coded 0x0A03 d) (stepping 0x0A03 d s) = (some (.authFailed, e), b) → ∃ t, exec (.gbClear d) s = .next t ∧
        Answered 0x0A03 d .authFailed e 0 t ∧ t.gb.authFailures = satAdd 16 s.gb.authFailures 1 ∧ t.gb.lastAuthFailTick = some s.slowTicks ∧
        t.gb.flash = s.gb.flash) ∧
    Starts 0x0A04 checkGbAppend (.gbAppend d) d s .state (fun t => ∃ e, t.gb.queue = s.gb.queue ++ [e] ∧ e.cls.val = par d 0 1 ∧
      e.severity = par d 1 1 ∧ e.code = BitVec.ofNat 16 (par d 2 2) ∧ t.gb.seqNext = s.gb.seqNext) ∧
    (Passes 0x0A05 checkWallClockSet d s → ∃ t res, exec (.wallClockSet d) s = .next t ∧ Answered 0x0A05 d .done 0 res t ∧
      t.gb.wallSeconds = BitVec.ofNat 32 (par d 0 4) ∧ t.gb.wallValid = true ∧ (∃ e, t.gb.queue = s.gb.queue ++ [e] ∧ e.cls = 6 ∧ e.code = 1) ∧ t.gb.seqNext = s.gb.seqNext ∧ t = { Kept s t with gb := t.gb }) ∧
    Starts 0x0015 checkConfigSave (.configSave d) d s .hardware (fun t => t = { s with hif := t.hif }) ∧
    Starts 0x0A00 checkGbRead (.gbRead d) d s .none (fun t => OnlyHost s t) ∧
    (s.sys.coreUp = true → chosen s = some q.val → (source q.val s).running = some r → r.desc.opcode = 0x0A00 → r.phase = 1 → r.wait = .none → r.steps ≠ 0 →
      expired r s = false → ∃ t, exec .stepGrant s = .next t ∧ OnlyHost s t ∧
        match (readStep r s).1 with
        | .final f => (source q.val t).running = none ∧ Delivered r.desc f.data t ∧
            ∃ c, lastRecord q.val t = some c ∧ c.tag = r.desc.tag ∧ c.status = .done ∧ c.final = true ∧ c.result = f.result
        | .stay v => ∃ w, (source q.val t).running = some w ∧ w.desc = r.desc ∧ w.phase = 1 ∧ w.wait = .none ∧ w.aux = v.aux)

/-- Past their checks: HR_AMEND_CHALLENGE answers a nonce (a free value) and keeps it; HR_AMEND with a good image takes the next slot, marks it used and
waits for its programming with the rules in force unchanged, and a refused image leaves rules and slots alone; HR_LOCK locks the store and waits for
the fuse. (13_start_up_trust_and_house_rules.md) -/
def Obligations.HouseRulesCommands : Prop :=
  ∀ (d : Desc) (s : State),
    (Passes 0x0B01 checkAmendChallenge d s → ∃ t v, exec (.hrAmendChallenge d) s = .next t ∧ Answered 0x0B01 d .done 0 v t ∧
      t.hr = { s.hr with nonce := some (v, s.slowTicks) } ∧ t = { Kept s t with hr := t.hr }) ∧
    (∀ k b, Begins 0x0B02 d s → checkAmendBuffer (coded 0x0B02 d) = none →
      amendChecks (coded 0x0B02 d) (stepping 0x0B02 d s) = (none, b) → nextSlot s = some k →
      ∃ t, exec (.hrAmend d) s = .next t ∧ Awaits 0x0B02 d .hardware t ∧ t.hr.slots = s.hr.slots.set k d.data ∧
        t.hr.used = s.hr.used ||| BitVec.ofNat 5 (2 ^ k.val) ∧ t.hr.programmed = s.hr.programmed ∧ t.hr.inForce = s.hr.inForce ∧ t.hr.rules = s.hr.rules ∧
        t = { s with hr := t.hr, hif := t.hif }) ∧
    (∀ e b, Begins 0x0B02 d s → checkAmendBuffer (coded 0x0B02 d) = none → amendChecks (coded 0x0B02 d) (stepping 0x0B02 d s) = (some e, b) →
      ∃ t, exec (.hrAmend d) s = .next t ∧ Answered 0x0B02 d e.1 e.2 0 t ∧ t.hr.slots = s.hr.slots ∧ t.hr.used = s.hr.used ∧
        t.hr.rules = s.hr.rules ∧ t.hr.inForce = s.hr.inForce ∧ (b = true → t.hr.nonce = none) ∧ Logged 4 0x0022 s t) ∧
    Starts 0x0B03 checkHrLock (.hrLock d) d s .hardware (fun t => t = { s with hr := { s.hr with locked := true }, hif := t.hif })

/-- Past their checks: PATCH_LOAD writes the version into the slot that is not in force and waits for the flash, leaving the slot in force alone;
LODGER_LOAD passes its first step and gives the core its image at its second, which leaves it LOADED; LODGER_START runs it with a fresh watchdog and
LODGER_STOP stops it; each keeps the core's retained area and leaves the other cores alone. (13_start_up_trust_and_house_rules.md) -/
def Obligations.PatchAndLodgerCommands : Prop :=
  ∀ (d : Desc) (q : Fin 20) (r : Running) (s : State),
    Starts 0x0B10 checkPatchLoad (.patchLoad d) d s .hardware (fun t => patchSlot (!inactiveSlot s) t = patchSlot (!inactiveSlot s) s ∧
      (patchSlot (inactiveSlot s) t).version = BitVec.ofNat 32 (dat d 8 4) ∧ t.sys.patchSlot = s.sys.patchSlot ∧ t.sys.patchFloor = s.sys.patchFloor ∧
      t = { s with sys := t.sys, hif := t.hif }) ∧
    Starts 0x0B11 checkLodgerLoad (.lodgerLoad d) d s .none (fun t => t = { s with hif := t.hif }) ∧
    (s.sys.coreUp = true → chosen s = some q.val → (source q.val s).running = some r → r.desc.opcode = 0x0B11 → r.phase = 1 → r.wait = .none → r.steps ≠ 0 →
      expired r s = false → checkLodgerLoad r s = none → ∃ t, exec .stepGrant s = .next t ∧ (source q.val t).running = none ∧
        (∃ c, lastRecord q.val t = some c ∧ c.tag = r.desc.tag ∧ c.status = .done ∧ c.final = true) ∧
        (lodger (imageCore r.desc) t).state = .loaded ∧ (lodger (imageCore r.desc) t).image = some (lodgerImage r.desc.data) ∧
        (lodger (imageCore r.desc) t).retained = (lodger (imageCore r.desc) s).retained ∧ (∀ n, n ≠ imageCore r.desc → lodger n t = lodger n s) ∧
        (s.gb.intakeClosed = false → s.gb.queue.length < 59 → ∃ e ∈ t.gb.queue.drop s.gb.queue.length, e.cls = 5 ∧ e.code = 0x0013)) ∧
    Does 0x0B12 checkLodgerStart (.lodgerStart d) d s 0 (fun t => lodger (Fin.ofNat 4 (par d 0 1)) t =
        { lodger (Fin.ofNat 4 (par d 0 1)) s with state := .running, watchdogMs := 0, kickedTick := s.slowTicks, restartDue := false, trapped := false } ∧
      (∀ n, n ≠ Fin.ofNat 4 (par d 0 1) → lodger n t = lodger n s) ∧ Logged 1 0x0014 s t) ∧
    Does 0x0B13 checkLodgerStop (.lodgerStop d) d s 0 (fun t => lodger (Fin.ofNat 4 (par d 0 1)) t =
        { lodger (Fin.ofNat 4 (par d 0 1)) s with state := .stopped, watchdogMs := 0, restartDue := false } ∧
      (∀ n, n ≠ Fin.ofNat 4 (par d 0 1) → lodger n t = lodger n s) ∧ Logged 1 0x0014 s t)

/-- Past their checks: DESK_FAULT_EVENT raises the source it names; DESK_WATCHDOG sets the core's window where one is given and kicks it;
DESK_HOST_MESSAGE posts its 16 bytes as an event and changes nothing but the host interface; DESK_RETAIN writes bytes that a read of the same place
gives back, or reads them; a request the desk does not accept is refused with DESK_DENIED and raises source 8. (R588,
13_start_up_trust_and_house_rules.md) -/
def Obligations.DeskCalls : Prop :=
  ∀ (d : Desc) (s : State),
    Does 0xD000 checkDeskFaultEvent (.deskFaultEvent d) d s 0 (fun t => t = { Kept s t with faults := { s.faults with inbox := s.faults.inbox ++
      [{ src := Fin.ofNat 512 (par d 0 2), obj := BitVec.ofNat 16 (par d 2 2), detail := BitVec.ofNat 64 (par d 8 8) }] } }) ∧
    Does 0xD001 checkDeskWatchdog (.deskWatchdog d) d s 0 (fun t => lodger (Fin.ofNat 4 (d.ring.val - 16)) t =
        { lodger (Fin.ofNat 4 (d.ring.val - 16)) s with
            kickedTick := s.slowTicks, watchdogMs := if par d 0 4 = 0 then (lodger (Fin.ofNat 4 (d.ring.val - 16)) s).watchdogMs else par d 0 4 } ∧
      ∀ n, n ≠ Fin.ofNat 4 (d.ring.val - 16) → lodger n t = lodger n s) ∧
    Does 0xD002 checkDeskHostMessage (.deskHostMessage d) d s 0 (fun t => t = Kept s t) ∧
    (par d 0 1 = 1 → Does 0xD003 checkDeskRetain (.deskRetain d) d s 0 (fun t =>
      (lodger (Fin.ofNat 4 (d.ring.val - 16)) t).retained =
        writeCells (par d 4 2) (d.data.take (par d 6 2)) (lodger (Fin.ofNat 4 (d.ring.val - 16)) s).retained ∧
      (lodger (Fin.ofNat 4 (d.ring.val - 16)) t).state = (lodger (Fin.ofNat 4 (d.ring.val - 16)) s).state ∧
      ∀ n, n ≠ Fin.ofNat 4 (d.ring.val - 16) → lodger n t = lodger n s)) ∧
    (par d 0 1 ≠ 1 → Does 0xD003 checkDeskRetain (.deskRetain d) d s 0 (fun t => t = Kept s t ∧
      Delivered d (readCells (lodger (Fin.ofNat 4 (d.ring.val - 16)) s).retained (par d 4 2) (par d 6 2)) t)) ∧
    (Granted d.opcode.toNat d s → startRefusal (coded d.opcode.toNat d) s = some (.rejectedState, 0x0B0E) →
      ∃ t, exec (.deskDenied d) s = .next t ∧ Answered d.opcode.toNat d .rejectedState 0x0B0E 0 t ∧
        t.faults = { s.faults with inbox := s.faults.inbox ++
          [{ src := 8, obj := BitVec.ofNat 16 (object 13 (1 + (Fin.ofNat 4 (d.ring.val - 16)).val)), detail := 0 }] } ∧
        t = { Kept s t with faults := t.faults })

/-- In a retained area in canonical form, bytes written at a place within 4096 read back at that place, every other byte reads as before, and the area
keeps its canonical form, so that equal contents are equal data (an unlisted byte reads 0, the model's choice, log entry 49). (R588,
13_start_up_trust_and_house_rules.md) -/
def Obligations.RetainedBytes : Prop :=
  ∀ (a : Nat) (bytes : List Byte) (m : List Host.Cell), cellsFrom 0 m = true → a + bytes.length ≤ 4096 →
    readCells (writeCells a bytes m) a bytes.length = bytes ∧ cellsFrom 0 (writeCells a bytes m) = true ∧
    ∀ k, (k < a ∨ a + bytes.length ≤ k) → readCells (writeCells a bytes m) k 1 = readCells m k 1

/-- Past their checks: DEVICE_RESET orders a device reset one slow tick later; ORDERLY_STOP stops every port, with the host as the reason, and is
answered when the device is stopped; RESTART of a device whose stopped rails all regulate makes it ACTIVE, and otherwise waits for them;
POWER_STATE_SET takes the sleep policy, leaves QUIET for ACTIVE at once, begins QUIET at its next step, and waits for a sleep that stops every port.
(13_start_up_trust_and_house_rules.md, 11_faults.md) -/
def Obligations.PowerCommands : Prop :=
  ∀ (d : Desc) (s : State) (p : Fin 8),
    Does 0x0014 checkDeviceReset (.deviceReset d) d s 0 (fun t => t.sys.resetDueTick = some (s.slowTicks + 1) ∧
      t = { Kept s t with sys := { (Kept s t).sys with resetDueTick := some (s.slowTicks + 1) } }) ∧
    (s.sys.power ≠ .stopped → s.sys.power ≠ .sleep → Passes 0x0012 checkOrderlyStop d s → ∃ t, exec (.orderlyStop d) s = .next t ∧
      (t.sys.power = .stopped ∧ t.sys.transition = .none ∧ Answered 0x0012 d .done 0 0 t ∨
        t.sys.power = s.sys.power ∧ t.sys.transition = .stopping 1 none ∧ Awaits 0x0012 d .state t) ∧
      t.sys.stopReason = 1 ∧ t.sys.stopSource = none ∧ (port p t).deviceStop = stopReasonCode 1) ∧
    (s.sys.power = .stopped → Does 0x0012 checkOrderlyStop (.orderlyStop d) d s 0 (fun t => t.sys.power = .stopped ∧ t.sys.stopReason = 1 ∧
      t.ports = s.ports ∧ t.chans = s.chans)) ∧
    ((∀ r : Fin 10, s.sys.stoppedRails.getLsbD r.val = true → (rail r s).state = .regulating) →
      Does 0x0013 checkRestart (.restart d) d s 0 (fun t => t.sys.power = .active ∧ t.sys.transition = .none ∧ t.sys.stopReason = 0 ∧ t.sys.stoppedRails = 0)) ∧
    ((∃ r : Fin 10, s.sys.stoppedRails.getLsbD r.val = true ∧ (rail r s).state ≠ .regulating) →
      Starts 0x0013 checkRestart (.restart d) d s .state (fun t => t.sys.transition = .restarting false ∧ t.sys.power = .stopped ∧
        t.sys.abandonedRestart = false)) ∧
    (par d 0 1 = 0xFE → Does 0x0011 checkPowerStateSet (.powerStateSet d) d s 0 (fun t => t.sys.power = s.sys.power ∧ t.sys.sleepAfterS = par d 4 2 ∧
      t.sys.wakeHoldS = if par d 6 2 = 0 then s.sys.wakeHoldS else par d 6 2)) ∧
    (par d 0 1 = 1 → s.sys.power = .quiet → Does 0x0011 checkPowerStateSet (.powerStateSet d) d s 0 (fun t =>
      t.sys.power = .active ∧ t.sys.sleepAfterS = par d 4 2)) ∧
    (par d 0 1 = 2 → s.sys.power = .active → Starts 0x0011 checkPowerStateSet (.powerStateSet d) d s .none (fun t =>
      t.sys.power = .active ∧ t.sys.transition = .quieting ∧ t.ports = s.ports ∧ t.chans = s.chans)) ∧
    (par d 0 1 = 4 → Starts 0x0011 checkPowerStateSet (.powerStateSet d) d s .state (fun t => (port p t).deviceStop = reasonPowerState ∧
      (t.sys.transition = .sleeping 1 ∨ t.sys.transition = .sleeping 2)))

/-- Past their checks: CHANNEL_CREATE of a channel that names no other device makes the channel ACTIVE with its definition, takes its slots and waits,
and of one that names others asks them and waits for their answers; CHANNEL_MODIFY and CHANNEL_MUTE queue one change for every direction they change
and wait for its epoch, or answer at once where nothing changes; CHANNEL_REMOVE marks the channel for removal and waits, or, where no direction
transmits here and no other device of it is in reach, removes it at once; LINK_CONFIGURE brings its groups up and waits for them.
(03_streams_and_channels.md, R42) -/
def Obligations.ChannelCommands : Prop :=
  ∀ (d : Desc) (s : State) (e : Dir),
    (definitionPeers (definitionOf d) s = [] → Starts 0x0110 checkChannelCreate (.channelCreate d) d s .state (fun t => (chan (chanOf (dat d 0 1)) t).state = .active ∧
      (chan (chanOf (dat d 0 1)) t).defn = definitionOf d ∧ t.pool.freeSlots = s.pool.freeSlots - definitionSlots (definitionOf d) s ∧
      ((definitionOf d).enables e = true → (direction (chanOf (dat d 0 1)) e t).gain.gt = initialGain (definitionOf d) e s))) ∧
    (definitionPeers (definitionOf d) s ≠ [] → Starts 0x0110 checkChannelCreate (.channelCreate d) d s .hardware (fun t =>
      (chan (chanOf (dat d 0 1)) t).asked = (definitionPeers (definitionOf d) s).map (Fin.ofNat 16) ∧ (chan (chanOf (dat d 0 1)) t).state = .absent ∧ t.pool = s.pool)) ∧
    (changedDirs (modifiedDefinition d (wantedDefinition (chanOf (dat d 0 1)) s)) (wantedDefinition (chanOf (dat d 0 1)) s) = [] →
      Does 0x0111 checkChannelModify (.channelModify d) d s 0 (fun t => t = Kept s t)) ∧
    (e ∈ changedDirs (modifiedDefinition d (wantedDefinition (chanOf (dat d 0 1)) s)) (wantedDefinition (chanOf (dat d 0 1)) s) →
      Starts 0x0111 checkChannelModify (.channelModify d) d s .epochs (fun t => (chan (chanOf (dat d 0 1)) t).defn = (chan (chanOf (dat d 0 1)) s).defn ∧
        Queued (chanOf (dat d 0 1)) e .config [.definition ((modifiedDefinition d (wantedDefinition (chanOf (dat d 0 1)) s)).dir e)
          (modifiedDefinition d (wantedDefinition (chanOf (dat d 0 1)) s)).tdd
          (((modifiedDefinition d (wantedDefinition (chanOf (dat d 0 1)) s)).dir e).centre != ((wantedDefinition (chanOf (dat d 0 1)) s).dir e).centre)] s t)) ∧
    ((transmitsHere (chanOf (par d 0 1)) s || (channelPeers (chanOf (par d 0 1)) s).any (fun a => routeKnown a s)) = true →
      Starts 0x0112 checkChannelRemove (.channelRemove d) d s .hardware (fun t => (chan (chanOf (par d 0 1)) t).state = .removing ∧
        (chan (chanOf (par d 0 1)) t).removeDue = true ∧ (∀ c, c ≠ chanOf (par d 0 1) → chan c t = chan c s) ∧
        (channelPeers (chanOf (par d 0 1)) s = [] → t = { Kept s t with chans := t.chans }))) ∧
    ((transmitsHere (chanOf (par d 0 1)) s || (channelPeers (chanOf (par d 0 1)) s).any (fun a => routeKnown a s)) = false →
      Passes 0x0112 checkChannelRemove d s → ∃ t res, exec (.channelRemove d) s = .next t ∧ Answered 0x0112 d .done 0 res t ∧
        (chan (chanOf (par d 0 1)) t).state = .absent) ∧
    (muteDirs d s = [] → Does 0x0114 checkChannelMute (.channelMute d) d s 0 (fun t => t = Kept s t)) ∧
    (e ∈ muteDirs d s → Starts 0x0114 checkChannelMute (.channelMute d) d s .epochs (fun t =>
      Queued (chanOf (par d 0 1)) e .gain [.hostMute (par d 2 1 == 1)] s t ∧ (∀ c, c ≠ chanOf (par d 0 1) → chan c t = chan c s) ∧
      t = { Kept s t with chans := t.chans, tickets := t.tickets })) ∧
    (∀ (g : Fin 5) (h : Fin 4), Starts 0x0100 checkLinkConfigure (.linkConfigure d) d s .state (fun t =>
      (g ∈ rxMask (par d 0 1) → t.links.rxConfigured[g] = true) ∧ (h ∈ maskGroups (par d 1 1) → t.links.txActive[h] = true) ∧
      t.links.sysrefMode = BitVec.ofNat 2 (par d 2 1)))

/-- Past their checks each queues its new settings in the gain line of the direction and waits for the epoch, leaving the settings in force until then:
GAIN_SET the target that House Rules allow, for each direction whose target differs (log entry 58), and answers at once where none does;
ALC_CONFIGURE, UL_COUPLING_SET and SQUELCH_CONFIGURE their parameters; POWER_LIMIT_SET the limits of a direction. For a port POWER_LIMIT_SET queues
the limit, no higher than House Rules allow, in the gain lines of the directions that use the port, sets it at once where none does, and a locked
store refuses a calibration. (R42, R269, R270, R271, 05_gain_and_network_protection.md) -/
def Obligations.GainCommands : Prop :=
  ∀ (d : Desc) (s : State) (c : Fin 64) (e : Dir),
    (gainSetChanged d s = [] → gainSetDirs d = [] ∨ (∀ e ∈ gainSetDirs d, (targetField d e : Int) ≤ gateGain (chanOf (par d 0 1)) e (targetField d e) s) →
      Passes 0x0300 checkGainSet d s → ∃ t res, exec (.gainSet d) s = .next t ∧ Answered 0x0300 d .done 0 res t ∧ t = Kept s t) ∧
    (e ∈ gainSetChanged d s → Starts 0x0300 checkGainSet (.gainSet d) d s .epochs (fun t =>
      Queued (chanOf (par d 0 1)) e .gain [.gainTarget (gateGain (chanOf (par d 0 1)) e (targetField d e) s)] s t ∧
      (direction (chanOf (par d 0 1)) e t).gain = (direction (chanOf (par d 0 1)) e s).gain ∧ (∀ c, c ≠ chanOf (par d 0 1) → chan c t = chan c s))) ∧
    (par d 0 1 = c.val → dirOf (par d 1 1) = e → Starts 0x0301 checkAlcConfigure (.alcConfigure d) d s .epochs (fun t =>
      Queued c e .gain [.alc (alcOf d (alcWanted (direction c e s)))] s t ∧ (direction c e t).gain = (direction c e s).gain ∧
      t = { Kept s t with chans := t.chans, tickets := s.tickets + 1 })) ∧
    (par d 0 1 = 0 → par d 1 1 = c.val → dirOf (par d 2 1) = e → Starts 0x0302 checkPowerLimitSet (.powerLimitSet d) d s .epochs (fun t =>
      (∃ v o, Queued c e .gain [.powerLimit v o] s t ∧ v = limitsOf e (dirDef c e s) (par d 4 2) (limitWanted (direction c e s)).1 s) ∧
      (direction c e t).gain = (direction c e s).gain ∧ t.ports = s.ports)) ∧
    (∀ p : Fin 8, par d 0 1 ≠ 0 → par d 1 1 = p.val → s.hr.locked = false → par d 4 2 ≠ 0x7FFF → dirsOnPort p s = [] → Passes 0x0302 checkPowerLimitSet d s →
      ∃ t, exec (.powerLimitSet d) s = .next t ∧ (port p t).pCompMax = some (min (parInt d 4 2) s.hr.rules.pCompMax[p]) ∧
        (port p t).pCalTx = keepLevel (par d 6 2) (port p s).pCalTx ∧ (source d.ring.val t).running = none ∧ ∀ k, k ≠ p → port k t = port k s) ∧
    (∀ p : Fin 8, par d 0 1 ≠ 0 → par d 1 1 = p.val → s.hr.locked = false → (c, e) ∈ dirsOnPort p s →
      (par d 4 2 ≠ 0x7FFF ∧ min (parInt d 4 2) s.hr.rules.pCompMax[p] ≠ (portWanted p s).1) → Starts 0x0302 checkPowerLimitSet (.powerLimitSet d) d s .epochs (fun t =>
        (∃ f, Queued c e .gain [.portLimits p (some (min (parInt d 4 2) s.hr.rules.pCompMax[p])) (keepLevel (par d 6 2) (portWanted p s).2.1)
          (keepLevel (par d 8 2) (portWanted p s).2.2), f] s t) ∧ t.ports = s.ports)) ∧
    (par d 0 1 ≠ 0 → s.hr.locked = true → namesCalibration d = true → Passes 0x0302 checkPowerLimitSet d s →
      ∃ t, exec (.powerLimitSet d) s = .next t ∧ Answered 0x0302 d .rejectedState 0x030B 0 t ∧ t.ports = s.ports ∧ t.chans = s.chans) ∧
    (par d 0 1 = c.val → Starts 0x0303 checkUlCouplingSet (.ulCouplingSet d) d s .epochs (fun t =>
      Queued c .ul .gain [.coupling (couplingOfDesc d (couplingWanted (direction c .ul s)))] s t ∧ direction c .dl t = direction c .dl s ∧
      (direction c .ul t).gain = (direction c .ul s).gain ∧ t = { Kept s t with chans := t.chans, tickets := s.tickets + 1 })) ∧
    (par d 0 1 = c.val → Starts 0x0304 checkSquelchConfigure (.squelchConfigure d) d s .epochs (fun t =>
      Queued c .ul .gain [.squelch (squelchOf d (squelchWanted (direction c .ul s)))] s t ∧ direction c .dl t = direction c .dl s ∧
      (direction c .ul t).gain = (direction c .ul s).gain ∧ t = { Kept s t with chans := t.chans, tickets := s.tickets + 1 }))

/-- Past their checks: CANCEL_CONFIGURE, CANCEL_RESET and PROBE_CONFIGURE queue their change in the direction's configuration line, MARGIN_SET in its
gain line with a required margin no lower than House Rules ask, and wait for the epoch; ISOLATION_MEASURE starts a measurement, muting the direction
where it is open-loop, and waits; PROTECTION_RELEASE takes the named reasons away and waits. PROTECTION_RELEASE past its checks waits with every
named reason that was in force taken from the direction, unless the release of a lock-out starts a measurement that mutes it, or from the port.
(R42, 04_cancellation_and_stability.md, 05_gain_and_network_protection.md) -/
def Obligations.CancellationCommands : Prop :=
  (∀ (d : Desc) (s : State) (c : Fin 64) (e : Dir), par d 0 1 = c.val → dirOf (par d 1 1) = e →
    Starts 0x0200 checkCancelConfigure (.cancelConfigure d) d s .epochs (fun t =>
      Queued c e .config [.cancelParams (BitVec.ofNat 16 (par d 2 2)) (cancelParamsOf (coded 0x0200 d))] s t) ∧
    Starts 0x0201 checkCancelReset (.cancelReset d) d s .epochs (fun t =>
      Queued c e .config [.cancelReset (BitVec.ofNat 16 (par d 2 2))] s t ∧ (direction c e t).paths = (direction c e s).paths ∧
      t = { Kept s t with chans := t.chans, tickets := s.tickets + 1 }) ∧
    Starts 0x0220 checkProbeConfigure (.probeConfigure d) d s .epochs (fun t =>
      Queued c e .config [.probe { levelMin := parInt d 2 2, levelMax := parInt d 4 2, w := par d 6 1 }] s t ∧
      t = { Kept s t with chans := t.chans, tickets := s.tickets + 1 }) ∧
    Starts 0x0212 checkMarginSet (.marginSet d) d s .epochs (fun t => (direction c e t).stab = (direction c e s).stab ∧ ∃ p : StabParams,
      Queued c e .gain [.margin p] s t ∧ s.hr.rules.mHr ≤ p.mReq ∧ p.mReq = max (marginWanted d (pendingMargin (direction c e s))).mReq s.hr.rules.mHr ∧
        p.backoff = (marginWanted d (pendingMargin (direction c e s))).backoff) ∧
    (par d 2 1 = 0 → Starts 0x0210 checkIsolationMeasure (.isolationMeasure d) d s .hardware (fun t => (direction c e t).stab.state = .muted ∧
      (direction c e t).stab.measuring = some { openLoop := true, searching := true, pilot := if par d 4 2 = 0 then -3000 else parInt d 4 2,
                                                searchMax := if par d 6 2 = 0 then 255 else par d 6 2, start := (direction c e s).ordinal, ring := some d.ring })) ∧
    (par d 2 1 ≠ 0 → Starts 0x0210 checkIsolationMeasure (.isolationMeasure d) d s .hardware (fun t =>
      (direction c e t).stab.state = (direction c e s).stab.state ∧ (∃ m, (direction c e t).stab.measuring = some m ∧ m.openLoop = false ∧ m.ring = some d.ring) ∧
      t = { Kept s t with chans := t.chans }))) ∧
  (∀ (d : Desc) (s : State) (k : Nat), k ∈ namedInForce (coded 0x0311 d) s →
    (par d 0 1 = 0 → lockoutNamed (coded 0x0311 d) s = false → Starts 0x0311 checkProtectionRelease (.protectionRelease d) d s .state (fun t =>
      hasReason (direction (chanOf (par d 1 1)) (dirOf (par d 2 1)) t).gain.reasons k = false ∧ t.ports = s.ports ∧
      ∀ c, c ≠ chanOf (par d 1 1) → chan c t = chan c s)) ∧
    (par d 0 1 ≠ 0 → Starts 0x0311 checkProtectionRelease (.protectionRelease d) d s .state (fun t =>
      hasReason (port (Fin.ofNat 8 (par d 1 1)) t).stops k = false ∧ ∀ p, p ≠ Fin.ofNat 8 (par d 1 1) → port p t = port p s)))

/-- Past their checks: ASSIGNMENT_CREATE takes the free stand-alone assignment with its detection entry and waits for its first run; ASSIGNMENT_MODIFY
of a channel's assignment queues the change in its direction and waits, of a stand-alone one waits for a run; MIGRATE of an engine shadows its
target and waits; KERNEL_CATALOGUE_LOAD stages the image, answers at once without activation and goes on step by step with it. (06_engine_pool.md,
R42) -/
def Obligations.EngineCommands : Prop :=
  ∀ (d : Desc) (s : State),
    ((planStandalone (chan (chanOf (dat d 0 1)) s).defn.cls (BitVec.ofNat 16 (par d 2 2)) s).toOption.isSome = true →
      Starts 0x0400 checkAssignmentCreate (.assignmentCreate d) d s .state (fun t => ∃ a : Fin 256, freeStandalone s = some a ∧
        t.eng.asgs[a].used = true ∧ t.eng.asgs[a].detect = d.data.take 32)) ∧
    (par d 0 2 < 128 → par d 3 1 = 2 → Starts 0x0401 checkAssignmentModify (.assignmentModify d) d s .epochs (fun t =>
      Queued (asgDir (Fin.ofNat 256 (par d 0 2))).1 (asgDir (Fin.ofNat 256 (par d 0 2))).2 .config
        [.kernels (Fin.ofNat 256 (par d 0 2)) 1 (par d 2 1) [(par d 4 2 : Nat)]] s t ∧ t.eng = s.eng)) ∧
    (128 ≤ par d 0 2 → par d 0 2 < 256 → par d 3 1 = 0 → par d 2 1 ≠ 2 → Starts 0x0401 checkAssignmentModify (.assignmentModify d) d s .state (fun t =>
      t.eng.asgs[Fin.ofNat 256 (par d 0 2)].detect = d.data.take 32 ∧ t.eng.asgs[Fin.ofNat 256 (par d 0 2)].ran = false ∧ t.chans = s.chans)) ∧
    (par d 0 1 = 0 → ∀ a g e, migrateSegment (coded 0x0403 d) s = some (a, g) → migrateTarget (coded 0x0403 d) a g s = some e →
      Starts 0x0403 checkMigrate (.migrate d) d s .hardware (fun t => t.eng.engines[e].state = .shadow ∧
        (∃ m ∈ t.eng.migrations, m.asg = a ∧ m.moves = [(g, e)] ∧ m.step = .copying ∧ m.ring = some d.ring) ∧ t.eng.asgs = s.eng.asgs ∧
        t = { Kept s t with eng := t.eng })) ∧
    (par d 0 1 = 0 → Does 0x0410 checkCatalogueLoad (.kernelCatalogueLoad d) d s (catalogueResult s) (fun t =>
      t = { Kept s t with eng := { s.eng with staged := catalogueOf d.data } })) ∧
    (par d 0 1 ≠ 0 → Starts 0x0410 checkCatalogueLoad (.kernelCatalogueLoad d) d s .none (fun t =>
      t = { Kept s t with eng := { s.eng with staged := catalogueOf d.data } }))

/-- Past their checks: FRAME_SYNC_CONFIGURE takes the list of sources and its parameters, and frees the timer where the list is empty; TDD_PATTERN_SET
clears a slot, or gives it the pattern at the instant computed and waits for the channels that use it, and answers at once where none does; LO_TUNE
unlocks the synthesizer and takes the plan; LO_CALIBRATE marks its synthesizer and waits; TX_ENABLE disables a port at once, or enables it and waits
for its transmission. (07_radio_timing_and_front_end.md, R42) -/
def Obligations.RadioCommands : Prop :=
  ∀ (d : Desc) (s : State),
    (par d 24 1 = 0 → Does 0x0500 checkFrameSyncConfigure (.frameSyncConfigure d) d s 0 (fun t =>
      t.radio.timer.detectAsg = par d 4 2 ∧ t.radio.timer.donorOffset = parInt d 8 4 ∧ t.radio.timer.ppsOffset = par d 12 4 ∧
      t.radio.timer.holdoverS = par d 16 4 ∧ (∀ k : Fin 4, t.radio.timer.sources[k] = (syncList (coded 0x0500 d)).getD k.val 0) ∧
      (syncList (coded 0x0500 d) = [] → t.radio.timer.state = .free ∧ t.radio.timer.tracked = 0))) ∧
    (par d 24 1 = 1 → Starts 0x0500 checkFrameSyncConfigure (.frameSyncConfigure d) d s .state (fun t =>
      t.radio.timer.holdoverS = par d 16 4 ∧ t.radio.timer.lossMs = par d 20 2)) ∧
    (par d 1 1 = 1 → Does 0x0501 checkTddPatternSet (.tddPatternSet d) d s 0 (fun t => t = { Kept s t with radio :=
      { s.radio with patterns := upd s.radio.patterns (par d 0 1) (fun _ => { cur := none, next := none }) } })) ∧
    (par d 1 1 ≠ 1 → overDuty 0 s.hr.rules.dlDuty (patternFrom (coded 0x0501 d)) = false → overDuty 1 s.hr.rules.ulDuty (patternFrom (coded 0x0501 d)) = false →
      slotUsers (par d 0 1) s = [] → Does 0x0501 checkTddPatternSet (.tddPatternSet d) d s
        (tddResult (patternFrom (coded 0x0501 d)) (switchInstant (coded 0x0501 d) (patternFrom (coded 0x0501 d)) s)) (fun t =>
          t.radio.patterns = upd s.radio.patterns (par d 0 1) (fun v =>
            { v with next := some (patternFrom (coded 0x0501 d), switchInstant (coded 0x0501 d) (patternFrom (coded 0x0501 d)) s) }) ∧ t.chans = s.chans)) ∧
    (∀ u ∈ slotUsers (par d 0 1) s, par d 1 1 ≠ 1 → overDuty 0 s.hr.rules.dlDuty (patternFrom (coded 0x0501 d)) = false →
      overDuty 1 s.hr.rules.ulDuty (patternFrom (coded 0x0501 d)) = false → Starts 0x0501 checkTddPatternSet (.tddPatternSet d) d s .epochs (fun t =>
        ∃ g ∈ ((direction u.1 u.2 t).line .config).waiting, g.settings = [.pattern (Fin.ofNat 8 (par d 0 1))])) ∧
    (∀ h, par d 1 1 ≠ 1 → h = (if overDuty 0 s.hr.rules.dlDuty (patternFrom (coded 0x0501 d)) then 0 else 1) →
      (overDuty 0 s.hr.rules.dlDuty (patternFrom (coded 0x0501 d)) || overDuty 1 s.hr.rules.ulDuty (patternFrom (coded 0x0501 d))) = true →
      Passes 0x0501 checkTddPatternSet d s → ∃ t, exec (.tddPatternSet d) s = .next t ∧ Answered 0x0501 d .rejectedParam 0x0503 0 t ∧
        t.radio = s.radio ∧ t.chans = s.chans) ∧
    Starts 0x0521 checkLoTune (.loTune d) d s .hardware (fun t => t.radio.los[Fin.ofNat 5 (par d 0 1)].locked = false ∧
      t.radio.los[Fin.ofNat 5 (par d 0 1)].settling = true ∧ t.radio.los[Fin.ofNat 5 (par d 0 1)].plan = Fin.ofNat 256 (par d 2 2) ∧
      ∀ n, n ≠ Fin.ofNat 5 (par d 0 1) → t.radio.los[n] = s.radio.los[n]) ∧
    Starts 0x0522 checkLoCalibrate (.loCalibrate d) d s .hardware (fun t =>
      t.radio.los[Fin.ofNat 5 (nth s.radio.plans (par d 0 1) LoPlan.reset).synth].calibrating = true ∧ t = { Kept s t with radio := t.radio }) ∧
    (par d 1 1 = 0 → Does 0x0524 checkTxEnable (.txEnable d) d s 0 (fun t => t.radio.tx[Fin.ofNat 8 (par d 0 1)].enabled = false ∧
      ∀ p, p ≠ Fin.ofNat 8 (par d 0 1) → t.radio.tx[p] = s.radio.tx[p])) ∧
    (par d 1 1 = 1 → Starts 0x0524 checkTxEnable (.txEnable d) d s .hardware (fun t => t.radio.tx[Fin.ofNat 8 (par d 0 1)].enabled = true ∧
      t.ports = s.ports))

/-- Past their checks: FABRIC_DISCOVER trains the named ports and waits; ROUTE_SET gives the address its manual port, or its computed one, and answers
once no block of the old route waits for replay; BILLET_SET hands the link its totals and waits; LINK_RECLAIM takes a link that is up down and into
its reclaim and waits; TWIN_CONFIGURE takes the parameters; TWIN_SYNC answers at once in lockstep and otherwise starts the exchange; TWIN_HANDOVER
offers a count at least 64 ahead and waits. (14_fabric_and_twin.md) -/
def Obligations.FabricTwinCommands : Prop :=
  ∀ (d : Desc) (s : State),
    (par d 1 1 ≠ 0 → Begins 0x0C00 d s → checkFabricDiscover (starting 0x0C00 d s) (stepping 0x0C00 d s) = none →
      ∃ t, exec (.fabricDiscover d) s = .next t ∧ Awaits 0x0C00 d .hardware t ∧ t.fabric.discoverRing = some d.ring ∧
        t.fabric.discoverPorts = BitVec.ofNat 4 (par d 1 1) ∧
        (∀ l, l < 4 → (par d 1 1).testBit l = true → (link l t).state = .training ∧ (link l t).rate = par d 0 1)) ∧
    (par d 0 1 < s.fabric.routes.size → Passes 0x0C02 checkRouteSet d s → ∃ t, exec (.routeSet d) s = .next t ∧
      (routeSettled d t = true → Answered 0x0C02 d .done 0 0 t) ∧ (routeSettled d t = false → Awaits 0x0C02 d .state t) ∧
      ((routeOf (par d 0 1) t).port = if par d 1 1 = 0xFF then (routeOf (par d 0 1) s).computed else par d 1 1) ∧
      ((routeOf (par d 0 1) t).manual = (par d 1 1 != 0xFF)) ∧ t.fabric.links = s.fabric.links) ∧
    (par d 0 1 < 5 → Starts 0x0C03 checkBilletSet (.billetSet d) d s .hardware (fun t =>
      (link (par d 0 1) t).billetNext = some (billetTotals (coded 0x0C03 d)) ∧ (link (par d 0 1) t).slots = (link (par d 0 1) s).slots ∧
      t = { Kept s t with fabric := t.fabric })) ∧
    (par d 0 1 < 4 → (link (par d 0 1) s).state ≠ .down → (link (par d 0 1) s).state ≠ .reclaiming →
      Starts 0x0C04 checkLinkReclaim (.linkReclaim d) d s .hardware (fun t =>
        (link (par d 0 1) t).state = .reclaiming ∧
        ∃ e ∈ t.faults.inbox, e.src = Fin.ofNat 512 (linkSource (par d 0 1)))) ∧
    Does 0x0C10 checkTwinConfigure (.twinConfigure d) d s 0 (fun t =>
      t = { Kept s t with twin := { s.twin with par := twinParamsOf (coded 0x0C10 d) } }) ∧
    (s.twin.state = .lockstep → Does 0x0C11 checkTwinSync (.twinSync d) d s (syncResult [1, s.twin.peerBeta.toNat, s.twin.compared]) (fun t =>
      t = Kept s t)) ∧
    (s.twin.state ≠ .lockstep → Starts 0x0C11 checkTwinSync (.twinSync d) d s .hardware (fun t => t.twin.state = .syncing ∧
      t.twin.syncRing = some d.ring ∧ t.chans = s.chans)) ∧
    (s.twin.hand = none → Starts 0x0C12 checkTwinHandover (.twinHandover d) d s .hardware (fun t => ∃ h, t.twin.hand = some h ∧
      h.ring = some d.ring ∧ h.acked = false ∧ h.x = BitVec.ofNat 32 (ceilDiv (basisNow s + 64) 256 * 256) ∧ t.chans = s.chans))

/-- CAPTURE_START past its checks gives the session its tap, mode and limits, ARMED where it waits for its begin and CAPTURING otherwise, and answers
the frame count; CAPTURE_STOP ends an armed session or a capturing one; an armed session begins to capture at its start. CANCEL past its checks of
another ring answers 0 for a fetched command that has not started and marks it cancelled; 1 for one in execution that has committed nothing, which
ends CANCELLED; 2 for one that has; 4 where the ring holds no such command; and changes nothing of the repeater but the work of a MIGRATE or a
GB_CLEAR that it ends. (R119, R120, 02_host_interface.md, R95, R117) -/
def Obligations.CaptureCommands : Prop :=
  (∀ (d : Desc) (s : State) (q : Fin 8), par d 0 1 = q.val →
    Does 0x0D00 checkCaptureStart (.captureStart d) d s (result [(0, 4, (frameCount s).toNat)]) (fun t =>
      (session q.val t).state = (if par d 4 1 = 0 then .capturing else .armed) ∧ (session q.val t).tap = BitVec.ofNat 16 (par d 2 2) ∧
      (session q.val t).limit = BitVec.ofNat 32 (par d 12 4) ∧ (session q.val t).written = 0 ∧ (session q.val t).decimation = max 1 (par d 16 2) ∧
      t = Kept s t) ∧
    Does 0x0D01 checkCaptureStop (.captureStop d) d s 0 (fun t =>
      session q.val t = { session q.val s with state := .idle } ∧ t = Kept s t)) ∧
  (∀ (d : Desc) (s : State) (q : Fin 16), par d 0 1 = q.val → d.ring.val < 16 → q.val ≠ d.ring.val →
    ((source q.val s).running = none → (source q.val s).continuing = [] → (∀ f ∈ (source q.val s).fetched, f.desc.tag ≠ BitVec.ofNat 16 (par d 2 2)) →
      Does 0x0001 checkCancel (.cancel d) d s (result [(0, 1, 4)]) (fun t => (source q.val t).fetched = (source q.val s).fetched ∧ (source q.val t).running = (source q.val s).running ∧
        (source q.val t).continuing = (source q.val s).continuing ∧ OnlyHost s t)) ∧
    (∀ f rest, (source q.val s).running = none → (source q.val s).continuing = [] → (source q.val s).fetched = f :: rest → f.desc.tag = BitVec.ofNat 16 (par d 2 2) →
      Does 0x0001 checkCancel (.cancel d) d s (result [(0, 1, 0)]) (fun t => (source q.val t).fetched = { f with cancelled := true } :: rest ∧ OnlyHost s t)) ∧
    (∀ r, (source q.val s).running = some r → r.desc.tag = BitVec.ofNat 16 (par d 2 2) → pastCommit r s = true →
      Does 0x0001 checkCancel (.cancel d) d s (result [(0, 1, 2)]) (fun t => (source q.val t).fetched = (source q.val s).fetched ∧ (source q.val t).running = (source q.val s).running ∧
        (source q.val t).continuing = (source q.val s).continuing ∧ OnlyHost s t)) ∧
    (∀ r, (source q.val s).running = some r → r.desc.tag = BitVec.ofNat 16 (par d 2 2) → pastCommit r s = false → expired r s = false →
      Does 0x0001 checkCancel (.cancel d) d s (result [(0, 1, 1)]) (fun t => (source q.val t).running = none ∧
        (source q.val t).fetched = (source q.val s).fetched ∧
        (r.desc.opcode ≠ 0x0403 → r.desc.opcode ≠ 0x0A03 → OnlyHost s t))))

/-- A write in the setup window of fewer than four bytes, or outside the blocks that hold writable registers, changes nothing, and one in the doorbell
window of fewer than four bytes neither; a write of the polarity registers changes them alone. SYSREF_ARM takes the mode and arms while no group is
up; CLEAR_LOW_WATER sets the low-water mark to the reported free cells; SYS_RESET with its key orders a device reset of a running core and changes
nothing without it; FIRST_FAULT_CLEAR clears what its bits name and keeps the first fault's source; an armed capture session begins. When the blocks
of a stamped epoch have left, the epoch retires: the line holds no stamp, and a command that waits for this epoch alone has ended. (R23, R57,
01_architecture.md, 02_host_interface.md, R42) -/
def Obligations.RegisterEvents : Prop :=
  (∀ (off : Half) (v : Word) (be : BitVec 4) (q : Fin 8) (s : State),
    (be ≠ 15 → Rests (.registerWrite (.setup off) v be) s) ∧
    (be ≠ 15 → Rests (.registerWrite (.doorbell off) v be) s) ∧
    (0x5000 ≤ off.toNat → Rests (.registerWrite (.setup off) v be) s) ∧
    (hostUp s = true → Runs (.registerWrite (.setup 0x1410) v 15) s (fun t => t = { s with links := { s.links with rxPolarity := v.extractLsb' 0 18 } })) ∧
    (hostUp s = true → Runs (.registerWrite (.setup 0x1414) v 15) s (fun t => t = { s with links := { s.links with txPolarity := v.extractLsb' 0 16 } })) ∧
    (hostUp s = false → Rests (.registerWrite (.setup off) v be) s) ∧
    Runs (.sysrefArm v) s (fun t => t.links.sysrefMode = BitVec.ofNat 2 v.toNat ∧
      t.links.sysrefArm = (s.links.sysrefArm || (v.getLsbD 2 && !anyGroupUp s)) ∧ t = { s with links := t.links }) ∧
    (v.getLsbD 31 = true → Runs (.clearLowWater v) s (fun t => t = { s with pool := { s.pool with lowWater := s.pool.reportedFree } })) ∧
    (v.getLsbD 31 = false → Rests (.clearLowWater v) s) ∧
    (s.sys.coreUp = true → v.toNat % 2 ^ 16 = 0xA55A → v.getLsbD 16 = true →
      Runs (.sysReset v) s (fun t => t = { s with sys := { s.sys with resetDueTick := some s.slowTicks } })) ∧
    (v.toNat % 2 ^ 16 ≠ 0xA55A ∨ v.getLsbD 16 = false → Rests (.sysReset v) s) ∧
    (s.sys.coreUp = true → Runs (.firstFaultClear v) s (fun t => t = { s with faults := { s.faults with
      firstValid := s.faults.firstValid && !v.getLsbD 0, alarm := s.faults.alarm && !v.getLsbD 1, simul := s.faults.simul && !v.getLsbD 2 } })) ∧
    ((session q.val s).state = .armed → Runs (.captureSessionBegin q) s (fun t => (session q.val t).state = .capturing ∧ s.now ≤ t.now ∧
      t = { s with hif := t.hif, now := t.now })) ∧
    ((session q.val s).state ≠ .armed → Rests (.captureSessionBegin q) s)) ∧
  (∀ (c : Fin 64) (d : Dir) (k : EpochKind) (st : Stamp) (s : State), ((direction c d s).line k).stamped = some st → st.left = true →
    Runs (.epochRetire c d k) s (fun t => ((direction c d t).line k).stamped = none ∧
      ∀ (q : Nat) (r : Running), q < 22 → (source q s).running = some r → r.wait = .epochs →
        r.epochs = [{ ticket := st.ticket, retired := false, seq := none }] → (source q t).running = none))

/-- The first SYSREF edge after arming is captured with its phase and disarms; a later edge out of phase sets the sticky phase error and raises source
55; a lane's lock change is taken, and a group that was ALIGNED and lost a lock is down and raises its source; a received multiblock advances the
stream's segment counter by two, zeroed or not. (R125, R131, 03_streams_and_channels.md) -/
def Obligations.LinkEvents : Prop :=
  ∀ (p : Fin 8) (n : Fin 18) (a b : Bool) (k : Nat) (g : Fin 9) (x y : Bool) (l l' : List Sample) (s : State),
    (s.links.sysrefArm = true → Runs (.sysrefEdge p) s (fun t => t.links.sysrefArm = false ∧ t.links.captured = true ∧
      t.links.capturePhase = BitVec.ofNat 3 p.val ∧ t.links.captureAt = 8 * s.now + p.val ∧ t.links.edges = s.links.edges + 1)) ∧
    (s.links.sysrefArm = false → s.links.captured = true → s.links.sysrefMode ≠ 0 → (8 * s.now + p.val - s.links.captureAt) % 128 ≠ 0 →
      Runs (.sysrefEdge p) s (fun t => t.links.phaseError = true ∧ Raised 55 0 t ∧ t.links.captureAt = s.links.captureAt ∧ t.links.rxGroups = s.links.rxGroups)) ∧
    (s.links.sysrefArm = false → (8 * s.now + p.val - s.links.captureAt) % 128 = 0 →
      Runs (.sysrefEdge p) s (fun t => t = { s with links := { s.links with edges := s.links.edges + 1 } })) ∧
    Runs (.jesdLaneLockChange n a b k) s (fun t => t.links.lanes[n] = { sync := a, multiblock := b, skew := k } ∧
      ∀ m : Fin 18, m ≠ n → t.links.lanes[m] = s.links.lanes[m]) ∧
    (s.links.rxGroups[laneGroup n] = .aligned → a = false → Runs (.jesdLaneLockChange n a b k) s (fun t =>
      t.links.rxGroups[laneGroup n] ≠ .aligned ∧ Raised (32 + (laneGroup n).val) (object 8 (laneGroup n).val) t)) ∧
    ((receiveRate g.val s).isSome = true → s.sys.coreUp = true → Runs (.receiveMultiblock g x y l l') s (fun t =>
      t.links.rxSegment[g] = s.links.rxSegment[g] + 2 ∧ t.links.txSegment = s.links.txSegment ∧ t.hr = s.hr)) ∧
    ((receiveRate g.val s).isNone = true → Rests (.receiveMultiblock g x y l l') s)

/-- A block whose waybill is intact is accepted as it arrives at its transmit port, or discarded where it is late; at a deadline the block's synthesis
time is reached, the next sequence is due, a missing block is counted late, and accepted blocks of the sequence leave; a transmit segment advances
the stream's counter, and one that is not ready counts an underrun and raises source 2; a kernel with no block to work on changes nothing.
(03_streams_and_channels.md) -/
def Obligations.BlockEvents : Prop :=
  ∀ (c : Fin 64) (d : Dir) (p : Fin 8) (b : Block) (u : KernelUnit) (f : BlockFound) (upset : BitVec 128) (ready : Bool) (s : State),
    (firstBlock (direction c d s) (fun b => b.stage == .gained && b.port == p) = some b → b.mirrored = false →
      (direction c d s).lateSeqs.contains (b.sequence, p) = false → Runs (.blockArrival c d { port := p, upset := 0 }) s (fun t =>
        { b with stage := .accepted } ∈ (direction c d t).blocks)) ∧
    (firstBlock (direction c d s) (fun b => b.stage == .gained && b.port == p) = some b → b.mirrored = false →
      (direction c d s).lateSeqs.contains (b.sequence, p) = true → Runs (.blockArrival c d { port := p, upset := 0 }) s (fun t =>
        b ∉ (direction c d t).blocks ∧ (direction c d t).late = (direction c d s).late ∧ t = { s with chans := t.chans })) ∧
    (firstBlock (direction c d s) (fun b => b.stage == .gained && b.port == p) = none → Rests (.blockArrival c d { port := p, upset := upset }) s) ∧
    (dirLive c d s = true → onTransmitDevice (dirDef c d s) s = true → (direction c d s).released < (direction c d s).ordinal → s.sys.coreUp = true →
      (chan c s).removeDue = false → Runs (.blockDeadline c d) s (fun t => (direction c d t).released = (direction c d s).released + 1 ∧ s.now ≤ t.now ∧
        (((dirDef c d s).txPorts d).all (fun p => !(synthBlock c d (direction c d s).released p s).late) = true → (direction c d t).late = (direction c d s).late) ∧
        ∀ x ∈ (direction c d t).blocks, ¬ (x.stage = .accepted ∧ x.sequence = BitVec.ofNat 16 (direction c d s).released))) ∧
    (dirLive c d s = false → Rests (.blockDeadline c d) s) ∧
    (s.links.txActive[Fin.ofNat 4 p.val] = true → s.links.streams[p].rate.isSome = true → s.sys.coreUp = true → ready = false →
      Runs (.transmitSegmentDue p ready) s (fun t => t.links.txSegment[p] = s.links.txSegment[p] + 1 ∧ Raised 2 (object 2 p.val) t ∧
        nth t.links.underrun p.val 0 = satAdd 32 (nth s.links.underrun p.val 0) 1)) ∧
    (s.links.txActive[Fin.ofNat 4 p.val] = true → s.links.streams[p].rate.isSome = true → s.sys.coreUp = true → ready = true →
      Runs (.transmitSegmentDue p ready) s (fun t => t.links.txSegment[p] = s.links.txSegment[p] + 1 ∧ t.links.underrun = s.links.underrun)) ∧
    (s.sys.coreUp = true → s.links.txActive[Fin.ofNat 4 p.val] = false → Rests (.transmitSegmentDue p ready) s) ∧
    (dirLive c d s = false → Rests (.blockProcess c d u p f) s) ∧
    (dirLive c d s = true → s.sys.coreUp = true → f.upset = 0 → shadowRuns c d .cancel p f.engine s = false →
      firstBlock (direction c d s) (fun b => b.stage == .channelised && b.port == p) = some b →
      Runs (.blockProcess c d .cancel p f) s (fun t => ∃ x ∈ (direction c d t).blocks, x.stage = .cancelled ∧ x.sequence = b.sequence ∧ x.port = b.port)) ∧
    (∀ low rest, dirLive c d s = true → s.sys.coreUp = true → f.upset = 0 → shadowRuns c d .shape p f.engine s = false → combinable c d s = some (low :: rest) →
      Runs (.blockProcess c d .shape p f) s (fun t => ∃ x ∈ (direction c d t).blocks, x.stage = .combined ∧ x.sequence = low.sequence))

/-- An onset that lasts 6144 counts mutes a direction for OSCILLATION, or locks it out at the configured number of mutes, and raises source 66; the
delay search and the measurement end once, a measurement without margin leaving MARGIN_LOST and one with margin CLIMB; a stale estimate raises
source 65; a backed-off or holding direction whose dwell is over climbs from its own ceiling; a hold-off or retry that is over starts a measurement;
without its condition each changes nothing. (04_cancellation_and_stability.md, R192, R199) -/
def Obligations.StabilityEvents : Prop :=
  ∀ (c : Fin 64) (d : Dir) (x : Word) (w : Nat) (b : Bool) (s : State),
    (∀ o, (direction c d s).stab.onset = some o → dirLive c d s = true → isFrozen (direction c d s) s = false → (direction c d s).stab.state ≠ .muted →
      6144 ≤ ((direction c d s).stab.runLast - o).toNat → Runs (.oscillationMute c d (direction c d s).stab.runLast) s (fun t => (direction c d t).stab.state = .muted ∧ Raised 66 (dirObject c d) t ∧
        (direction c d t).stab.measuring = none ∧ (direction c d t).stab.reason =
          (if inWatch s = false ∧ (direction c d s).stab.par.oscLimit ≤
              ((direction c d s).stab.mutes.filter (fun t => decide (s.slowTicks < t + 600000))).length + 1 then .oscLockout else .oscillation))) ∧
    (((direction c d s).stab.onset = none ∨ (direction c d s).stab.runLast ≠ x) → Rests (.oscillationMute c d x) s) ∧
    (dirLive c d s = true → searchingDelay (direction c d s) = true → isFrozen (direction c d s) s = false →
      searchDone (dirDef c d s) (direction c d s) = true → Runs (.delaySearchEnd c d (direction c d s).meter.par.w) s (fun t => searchingDelay (direction c d t) = false ∧ (direction c d t).stab.measuring.isSome = true ∧
        t = { s with chans := t.chans })) ∧
    ((direction c d s).meter.par.w ≠ w → Rests (.delaySearchEnd c d w) s) ∧
    ((direction c d s).stab.measuring.all (fun m => m.openLoop == b) = true → Rests (.measurementEnd c d b) s) ∧
    (∀ m, (direction c d s).stab.measuring = some m → m.openLoop = true → isFrozen (direction c d s) s = false → (direction c d s).stab.state = .muted →
      (direction c d s).stab.reason = .measure → m.searching = false → trainingDone (dirDef c d s) (direction c d s) = true → Runs (.measurementEnd c d false) s (fun t => (direction c d t).stab.measuring = none ∧
        ((direction c d t).stab.k < 0 → (direction c d t).stab.state = .muted ∧ (direction c d t).stab.reason = .marginLost ∧ Raised 68 (dirObject c d) t) ∧
        (0 ≤ (direction c d t).stab.k → (direction c d t).stab.state = .climb))) ∧
    (dirLive c d s = true → isSilent (direction c d s) s = false → estimateStale (chan c s).defn.cls (direction c d s).meter = true →
      (direction c d s).meter.stale = false → Runs (.marginStale c d) s (fun t => (direction c d t).meter.stale = true ∧ Raised 65 (dirObject c d) t)) ∧
    ((direction c d s).meter.stale = true → Rests (.marginStale c d) s) ∧
    (dirLive c d s = true → isFrozen (direction c d s) s = false → (direction c d s).stab.state = .backoff →
      (direction c d s).stab.par.backoffDwell ≤ (direction c d s).stab.dwell → (direction c d s).stab.s ≤ (direction c d s).stab.k →
      Runs (.backoffDwellExpiry c d) s (fun t => (direction c d t).stab.state = .climb ∧ (direction c d t).stab.s = (direction c d s).stab.s ∧
        (direction c d t).stab.dwell = 0 ∧ (direction c d t).gain = (direction c d s).gain)) ∧
    ((direction c d s).stab.state ≠ .backoff → Rests (.backoffDwellExpiry c d) s) ∧
    (dirLive c d s = true → isFrozen (direction c d s) s = false → (direction c d s).stab.state = .hold →
      (direction c d s).stab.par.holdDwell ≤ (direction c d s).stab.holdRun → Runs (.holdDwellExpiry c d) s (fun t =>
        (direction c d t).stab.state = .climb ∧ (direction c d t).stab.s = (direction c d s).stab.s ∧ (direction c d t).gain = (direction c d s).gain)) ∧
    ((direction c d s).stab.state ≠ .hold → Rests (.holdDwellExpiry c d) s) ∧
    (dirLive c d s = true → (direction c d s).stab.state = .muted → (direction c d s).stab.reason = .oscillation → (direction c d s).stab.measuring = none →
      inWatch s = false → (direction c d s).stab.par.oscHoldoff ≤ (direction c d s).stab.holdoff → Runs (.oscHoldoffExpiry c d) s (fun t =>
        (direction c d t).stab.state = .muted ∧ (direction c d t).stab.measuring =
          some { openLoop := true, searching := true, pilot := -3000, searchMax := 255, start := (direction c d s).ordinal, ring := none })) ∧
    ((direction c d s).stab.reason = .oscLockout → Rests (.oscHoldoffExpiry c d) s) ∧
    (dirLive c d s = true → (direction c d s).stab.state = .muted → (direction c d s).stab.reason = .marginLost → (direction c d s).stab.measuring = none →
      10000 ≤ (direction c d s).stab.retry → Runs (.marginLostRetry c d) s (fun t => (direction c d t).stab.state = .muted ∧
        (direction c d t).stab.measuring = some { openLoop := true, searching := true, pilot := -3000, searchMax := 255, start := (direction c d s).ordinal, ring := none })) ∧
    ((direction c d s).stab.retry < 10000 → Rests (.marginLostRetry c d) s) ∧
    (∀ v, dirLive c d s = true → splitTransmit (dirDef c d s) s = true → splitOf c d s = some v → v.silent = false → v.lastTick + 10 < s.slowTicks →
      Runs (.splitTc2Silence c d) s (fun t => Raised 65 (dirObject c d) t ∧ (splitOf c d t).any (·.silent) = true ∧
        (direction c d t).stab.s ≤ v.s - (direction c d s).stab.par.backoff)) ∧
    (splitTransmit (dirDef c d s) s = false → Rests (.splitTc2Silence c d) s)

/-- A direction implausible for 800 ticks is muted IMPLAUSIBLE; a donor update sets donor power and the coupling ceiling, which falls at once and rises
by at most 0.1 dB; donor loss mutes and its return releases; a floor update takes the new thresholds and the new ladder; the squelch rises after its
hang; an overpowered direction is muted, latched at the configured number of mutes, and its retry releases it; a mute changes no other channel.
(05_gain_and_network_protection.md, R250, R253) -/
def Obligations.GainEvents : Prop :=
  ∀ (c k : Fin 64) (d : Dir) (i : Nat) (s : State),
    (dirLive c d s = true → (direction c d s).gain.alcFrozen = true → 800 ≤ (direction c d s).gain.implausibleTicks → Runs (.implausibleMute c d) s (fun t =>
      hasReason (direction c d t).gain.reasons reasonImplausible = true ∧ (k ≠ c → chan k t = chan k s) ∧ t.ports = s.ports ∧ t.now = s.now)) ∧
    ((direction c d s).gain.implausibleTicks < 800 → Rests (.implausibleMute c d) s) ∧
    (∀ u, 10 * i = s.slowTicks → dirLive c .ul s = true → (∀ j, j ≠ c → dirLive j .ul s = false) →
      ceilingU c (donorPower c s) (if dirLive (refChannel c s) .dl s then
        meanApplied (dirDef (refChannel c s) .dl s) (direction (refChannel c s) .dl s).gain else none) s = u →
      Runs (.donorUpdate i) s (fun t => (direction c .ul t).gain.pDonor = donorPower c s ∧
        (direction c .ul t).gain.u = (if u ≤ (direction c .ul s).gain.u then u else min u ((direction c .ul s).gain.u + 10)) ∧
        ((direction c .ul t).gain.u < 0 → hasReason (direction c .ul t).gain.reasons reasonCoupling = true) ∧ t.ports = s.ports)) ∧
    ((liveDirs s = [] ∨ 10 * i ≠ s.slowTicks) → Rests (.donorUpdate i) s) ∧
    (∀ n, dirLive c .ul s = true → (direction c .ul s).gain.couplingOk = some n → 1000 ≤ n → Runs (.couplingRelease c) s (fun t =>
      hasReason (direction c .ul t).gain.reasons reasonCoupling = false ∧ (k ≠ c → chan k t = chan k s) ∧ t.ports = s.ports)) ∧
    ((direction c .ul s).gain.couplingOk = none → Rests (.couplingRelease c) s) ∧
    (∀ n, dirLive c .ul s = true → (direction c .ul s).gain.donorLossDue = some n → n < s.slowTicks → Runs (.donorLossMute c) s (fun t =>
      hasReason (direction c .ul t).gain.reasons reasonDonorLoss = true ∧ (direction c .ul t).gain.donorPresent = none ∧ (k ≠ c → chan k t = chan k s))) ∧
    ((direction c .ul s).gain.donorLossDue = none → Rests (.donorLossMute c) s) ∧
    (∀ n, dirLive c .ul s = true → (direction c .ul s).gain.donorPresent = some n → (direction c .ul s).gain.lossReturnMs ≤ n → Runs (.donorReturn c) s (fun t =>
      hasReason (direction c .ul t).gain.reasons reasonDonorLoss = false ∧ (k ≠ c → chan k t = chan k s))) ∧
    ((direction c .ul s).gain.donorPresent = none → Rests (.donorReturn c) s) ∧
    (100 * i ≠ s.slowTicks → Rests (.floorUpdate i) s) ∧
    (∀ p, 100 * i = s.slowTicks → s.ladderNext = some p → Runs (.floorUpdate i) s (fun t => t.ladder = p ∧ t.ladderNext = none ∧ t = { s with chans := t.chans, ladder := p, ladderNext := none })) ∧
    (∀ v, 100 * i = s.slowTicks → dirLive c d s = true → (direction c d s).gain.floorNext = some v → Runs (.floorUpdate i) s (fun t => (direction c d t).gain.floorNext = none ∧
      (direction c d t).gain.thrMin = v.1 ∧ (direction c d t).gain.thrMax = v.2.1 ∧ (direction c d t).gain.reasons = (direction c d s).gain.reasons)) ∧
    (dirLive c .ul s = true → (direction c .ul s).gain.squelch.enable = true → (direction c .ul s).gain.idle.isSome = true →
      (direction c .ul s).gain.squelch.hang * 30720 ≤ idleFor (direction c .ul s).gain s → Runs (.squelchHangExpiry c) s (fun t =>
        (direction c .ul t).gain = { (direction c .ul s).gain with sqRising := true } ∧ t = { s with chans := t.chans })) ∧
    ((direction c .ul s).gain.idle = none → Rests (.squelchHangExpiry c) s) ∧
    (dirLive c d s = true → hasReason (direction c d s).gain.reasons reasonOverpower = false → hasReason (direction c d s).gain.reasons reasonOverLatched = false →
      overpowered (direction c d s).gain s.ladder.overpowerMs = true → Runs (.overpowerMute c d) s (fun t =>
        hasReason (direction c d t).gain.reasons (if s.ladder.overRetryLimit ≤
          ((direction c d s).gain.overpowerMutes.filter (fun t => decide (s.slowTicks < t + 3600000))).length + 1 then reasonOverLatched else reasonOverpower) = true ∧
        (direction c d t).gain.overpowerMutes =
          (direction c d s).gain.overpowerMutes.filter (fun t => decide (s.slowTicks < t + 3600000)) ++ [s.slowTicks] ∧
        (direction c d t).gain.boundWindows = [])) ∧
    (overpowered (direction c d s).gain s.ladder.overpowerMs = false → Rests (.overpowerMute c d) s) ∧
    (∀ n, dirLive c d s = true → (direction c d s).gain.overpowerRetryAt = some n → n ≤ s.slowTicks → Runs (.overpowerRetry c d) s (fun t =>
      hasReason (direction c d t).gain.reasons reasonOverpower = false ∧ (direction c d t).gain.overpowerRetryAt = none ∧ (k ≠ c → chan k t = chan k s))) ∧
    ((direction c d s).gain.overpowerRetryAt = none → Rests (.overpowerRetry c d) s)

/-- A port that exceeded its composite limit in 80 tests in a row is stopped COMPOSITE_OVER, and no other port's stop reasons change by it; a retry that
is due takes the two retried reasons away; a reduction unbound for a second is reported ended, once. (05_gain_and_network_protection.md) -/
def Obligations.PortEvents : Prop :=
  ∀ (p k : Fin 8) (c : Fin 64) (d : Dir) (r : Fin 20) (s : State),
    (80 ≤ (port p s).pCompPeakOver → Runs (.compositeOver p) s (fun t => hasReason (port p t).stops reasonCompositeOver = true ∧
      (port p t).pCompPeakOver = 0 ∧ (k ≠ p → (port k t).stops = (port k s).stops))) ∧
    ((port p s).pCompPeakOver < 80 → Rests (.compositeOver p) s) ∧
    (∀ n, (port p s).retryAt = some n → n ≤ s.slowTicks → Runs (.portRetry p) s (fun t => hasReason (port p t).stops reasonCompositeOver = false ∧
      hasReason (port p t).stops reasonMuteCount = false ∧ (port p t).retryAt = none ∧ (k ≠ p → port k t = port k s))) ∧
    ((port p s).retryAt = none → Rests (.portRetry p) s) ∧
    (hasReason (direction c d s).gain.reducing r.val = true → unboundLong (direction c d s).gain.unbindingSince r.val s.slowTicks = true → 1 ≤ r.val →
      Runs (.reductionEnded (.direction c d) r) s (fun t => hasReason (direction c d t).gain.reducing r.val = false ∧
        (direction c d t).gain.reasons = (direction c d s).gain.reasons ∧ t.ports = s.ports)) ∧
    (hasReason (direction c d s).gain.reducing r.val = false → Rests (.reductionEnded (.direction c d) r) s) ∧
    (hasReason (port p s).reducing r.val = true → unboundLong (port p s).unbindingSince r.val s.slowTicks = true → 1 ≤ r.val →
      Runs (.reductionEnded (.port p) r) s (fun t => hasReason (port p t).reducing r.val = false ∧ (port p t).stops = (port p s).stops ∧ t.chans = s.chans)) ∧
    (hasReason (port p s).reducing r.val = false → Rests (.reductionEnded (.port p) r) s)

/-- A slow tick of a running core brings the timer to its multiple of 30720 counts, notes it and counts itself; an ALC tick brings it to its multiple of
3840, notes it and takes each port's capacity; a token that completes a census of a link takes the free and held counts latched, and latches a
mismatch and raises source 0 where the total differs; a census of the pool compares its own free and held cells; one that agrees raises nothing.
(R24, 01_architecture.md, 05_gain_and_network_protection.md, R37) -/
def Obligations.TickEvents : Prop :=
  ∀ (m : SlowMeas) (p : Fin 8) (l : Fin 6) (k : Fin 4) (i : Nat) (s : State),
    (s.sys.coreUp = true → s.sys.transition = .none → Runs (.slowTick m) s (fun t => t.slowTicks = s.slowTicks + 1 ∧
      t.slowAt = tickInstant 30720 s.slowAt s.now ∧ t.now = max s.now (tickInstant 30720 s.slowAt s.now))) ∧
    (s.sys.coreUp = false → Rests (.slowTick m) s) ∧
    (s.sys.coreUp = true → 3840 * i = tickInstant 3840 s.alcAt s.now → Runs (.alcTick i) s (fun t => t.alcAt = tickInstant 3840 s.alcAt s.now ∧ t.now = max s.now (tickInstant 3840 s.alcAt s.now) ∧
      (port p t).c = portCapacity p s ∧ t.slowTicks = s.slowTicks ∧ t.slowAt = s.slowAt)) ∧
    ((s.sys.coreUp = false ∨ 3840 * i ≠ tickInstant 3840 s.alcAt s.now) → Rests (.alcTick i) s) ∧
    (s.pool.freeSlots + poolHeld s = 8192 → Rests (.censusTokenArrival 5 k i) s) ∧
    (s.pool.freeSlots + poolHeld s ≠ 8192 → Runs (.censusTokenArrival 5 k i) s (fun t => t.pool.mismatch = true ∧ t.pool.poolMismatch = true ∧
      Raised 0 (object 12 (60 + k.val)) t ∧ (s.pool.mismatch = true → t.pool.tclass = s.pool.tclass) ∧ t.fabric = s.fabric)) ∧
    (l.val < 5 → (Machine.link l.val s).token[k].all (fun x => x.sent != i) = true → Rests (.censusTokenArrival l k i) s) ∧
    (∀ x, l.val < 5 → (Machine.link l.val s).token[k] = some x → (x.held : Int) + ((x.sent : Int) - x.received) + x.free = nth (Machine.link l.val s).total k.val 0 →
      Runs (.censusTokenArrival l k x.sent) s (fun t =>
      (Machine.link l.val t).free[k] = x.free ∧ (Machine.link l.val t).held[k] = x.held ∧ t = { s with fabric := t.fabric })) ∧
    (∀ x, l.val < 5 → (Machine.link l.val s).token[k] = some x → (x.held : Int) + ((x.sent : Int) - x.received) + x.free ≠ nth (Machine.link l.val s).total k.val 0 →
      Runs (.censusTokenArrival l k x.sent) s (fun t =>
      t.pool.mismatch = true ∧ t.pool.poolMismatch = s.pool.poolMismatch ∧ Raised 0 (object 12 (4 * l.val + k.val)) t))

/-- A check failure of an engine at work is counted, raises its wing's source and leaves the engine TESTING, or RETIRED where it failed before within 24
hours; its test blocks make it SPARE or RETIRED; the notice of a slow engine or wing is raised once; a migration goes from copying to shadow, is
switched once its blocks agree, or is tested at its limit, and a failed self-test retires the target; each changes nothing out of its turn.
(06_engine_pool.md) -/
def Obligations.EngineEvents : Prop :=
  ∀ (e : Fin 256) (w : Fin 16) (x : Bool) (c : Fin 64) (d : Dir) (q : Half) (m : Migration) (v : TestRun) (b : Bool) (s : State),
    ((s.eng.engines[e].state = .active ∨ s.eng.engines[e].state = .testing ∨ s.eng.engines[e].state = .shadow) → Runs (.engineCheckFail e x c d q) s (fun t =>
      t.eng.checkFailures = satAdd 16 s.eng.checkFailures 1 ∧ Raised (96 + (wingOf e).val) (object 3 e.val) t ∧
      t.eng.engines[e].state = (if (s.eng.engines[e].failTick).any (fun t => decide (s.slowTicks < t + 86400000)) then .retired else .testing) ∧
      t.eng.engines[e].failTick = some s.slowTicks)) ∧
    ((s.eng.engines[e].state = .idle ∨ s.eng.engines[e].state = .spare ∨ s.eng.engines[e].state = .retired) → Rests (.engineCheckFail e x c d q) s) ∧
    (s.eng.tests.find? (fun t => t.engine == e) = some v → s.eng.engines[e].state = .testing → v.finished s = true → s.eng.policy.testBlocks ≤ v.comparator.agreed →
      Runs (.testBlocksEnd e true) s (fun t => t.eng.engines[e].state = .spare ∧ t = { s with eng := t.eng })) ∧
    (s.eng.tests.find? (fun t => t.engine == e) = some v → s.eng.engines[e].state = .testing → v.finished s = true → v.comparator.agreed < s.eng.policy.testBlocks →
      Runs (.testBlocksEnd e false) s (fun t => t.eng.engines[e].state = .retired ∧ t.eng.asgs = s.eng.asgs)) ∧
    (s.eng.engines[e].state ≠ .testing → Rests (.testBlocksEnd e b) s) ∧
    (s.eng.tests.find? (fun t => t.engine == e) = some v → v.finished s = false → Rests (.testBlocksEnd e b) s) ∧
    (256 ≤ s.eng.engines[e].lowRun → s.eng.engines[e].notice = false → Runs (.engineSlowNotice e) s (fun t => t.eng.engines[e].notice = true ∧
      Raised (112 + (wingOf e).val) (object 3 e.val) t ∧ t = { s with eng := t.eng, faults := t.faults })) ∧
    (s.eng.engines[e].notice = true → Rests (.engineSlowNotice e) s) ∧
    (256 ≤ s.eng.wings[w].lowRun → s.eng.wings[w].slow = false → s.supply.creditedWing = w → 20 ≤ s.supply.credit → Runs (.wingSlow w) s (fun t =>
      t.eng.wings[w].slow = true ∧ Raised (128 + w.val) (object 4 w.val) t ∧ t = { s with eng := t.eng, faults := t.faults })) ∧
    (s.eng.wings[w].slow = true → Rests (.wingSlow w) s) ∧
    (migrationOf e s = some m → m.step = .copying → m.since + m.fill ≤ asgOrdinal m.asg s → m.upgrade = none → Runs (.migrationCopyDone e q) s (fun t =>
      migrationOf e t = some { m with step := .shadow, startBlock := q + 1, comparator := Comparator.reset,
                                      ticket := if m.agree then none else some s.tickets } ∧
      t.eng.asgs = s.eng.asgs ∧ t = { s with eng := t.eng })) ∧
    (migrationOf e s = none → Rests (.migrationCopyDone e q) s) ∧
    (migrationOf e s = some m → m.step = .shadow → m.agree = true → s.eng.policy.agreeBlocks ≤ agreements m.asg m.comparator s → q = m.comparator.last + 1 →
      blockWaits m.asg m.moves q s = true → Runs (.migrationSwitch e q) s (fun t =>
        t.eng.migrationCount = s.eng.migrationCount + 1 ∧ m ∉ t.eng.migrations)) ∧
    (migrationOf e s = some m → agreements m.asg m.comparator s < s.eng.policy.agreeBlocks → Rests (.migrationSwitch e q) s) ∧
    (migrationOf e s = some m → m.step = .shadow → m.agree = true → s.eng.policy.migrateLimit ≤ m.comparator.seen →
      agreements m.asg m.comparator s < s.eng.policy.agreeBlocks → Runs (.migrationLimit e) s (fun t => migrationOf e t = some { m with step := .selfTest, ring := none } ∧
      t.eng.engines = s.eng.engines)) ∧
    (migrationOf e s = none → Rests (.migrationLimit e) s) ∧
    (migrationOf e s = some m → m.step = .selfTest → Runs (.selfTestDone e false) s (fun t => m ∉ t.eng.migrations ∧ t.eng.engines[e].state = .retired ∧
      Raised 145 (object 3 e.val) t)) ∧
    (migrationOf e s = some m → m.step = .selfTest → Runs (.selfTestDone e true) s (fun t => m ∉ t.eng.migrations ∧
      Raised 145 (object 3 ((m.sources.head?).elim 0xFFF (·.val))) t)) ∧
    (migrationOf e s = none → Rests (.selfTestDone e x) s)

/-- A frame start brings the timer to its next frame and takes the pins handed over; a third good report of a listed source locks an acquiring timer to
it; a PPS edge is captured with its phase; a locked timer that loses its source holds over and raises source 160, and one whose hold-over ends
acquires again and raises source 161; a pattern handed over comes into force at its instant; without its condition each changes nothing.
(07_radio_timing_and_front_end.md) -/
def Obligations.FrameTimingEvents : Prop :=
  ∀ (k : Fin 8) (n : Fin 48) (src : SyncSource) (v : Word) (ph : Int) (s : State),
    Runs .frameStart s (fun t => t.radio.timer = nextFrame s.radio.timer ∧ s.now ≤ t.now ∧ t.radio.pins[n] = (s.radio.pinNext[n]).getD s.radio.pins[n] ∧
      t.radio.pinNext[n] = none) ∧
    (s.radio.timer.state = .free → Rests (.syncReport src v ph) s) ∧
    (s.radio.timer.state = .acquire → sourceRank (syncCode src) s.radio.timer ≠ 4 →
      3 ≤ ((nth s.radio.timer.tracks (syncCode src) SyncTrack.reset).hear
        (16 * (countNear v s.now + (if src = .donor then s.radio.timer.donorOffset else 0)) + ph) s.now).good → Runs (.syncReport src v ph) s (fun t =>
          t.radio.timer.state = .locked ∧ t.radio.timer.tracked = syncCode src)) ∧
    Runs (.ppsEdge k) s (fun t => t.radio.timer.ppsCapture = frameCount s ∧ t.radio.timer.ppsPhase = BitVec.ofNat 3 k.val ∧ t.now = s.now ∧ t.ports = s.ports) ∧
    (s.radio.timer.state = .locked → Runs .holdoverEntry s (fun t => t.radio.timer.state = .holdover ∧ t.radio.timer.tracked = s.radio.timer.tracked ∧
      s.now ≤ t.now ∧ Raised 160 0 t)) ∧
    (s.radio.timer.state ≠ .locked → Rests .holdoverEntry s) ∧
    (s.radio.timer.state = .holdover → Runs .holdoverExpiry s (fun t => t.radio.timer.state = .acquire ∧ s.now ≤ t.now ∧ Raised 161 0 t)) ∧
    (s.radio.timer.state ≠ .holdover → Rests .holdoverExpiry s) ∧
    (∀ p a, s.radio.patterns[k].next = some (p, a) → Runs (.tddPatternSwitch k) s (fun t => t.radio.patterns[k] = { cur := some p, next := none } ∧
      t.now = max s.now a ∧ ∀ j : Fin 8, j ≠ k → t.radio.patterns[j] = s.radio.patterns[j])) ∧
    (s.radio.patterns[k].next = none → Rests (.tddPatternSwitch k) s)

/-- A synthesizer that locks is locked and no longer settling, and one that loses its lock counts it and raises its source; an enabled port whose
synthesizer is out at its deadline is disabled; a serial master starts its due entry in time, or raises its source for a late one, and ends its
transaction; a survey dwell that ends leaves its entry valid and goes on to the next; without its condition each changes nothing. A request is taken
with its priority and, without priority, deferred; a grant that may be given is given and counted; a deferral ends at its expiry; a request that
falls ends its grant; a limit ends a grant and blocks the interface; an activity line is taken; and no interface changes another.
(07_radio_timing_and_front_end.md, R372, R374) -/
def Obligations.FrontEndEvents : Prop :=
  (∀ (o k : Fin 5) (p : Fin 8) (m : Fin 4) (w : Dword) (i j : Nat) (s : State),
    (s.radio.los[o].locked = false → Runs (.loLock o) s (fun t => t.radio.los[o].locked = true ∧ t.radio.los[o].settling = false ∧
      t.radio.los[o].plan = s.radio.los[o].plan ∧ (k ≠ o → t.radio.los[k] = s.radio.los[k]))) ∧
    (s.radio.los[o].locked = true → Rests (.loLock o) s) ∧
    (s.radio.los[o].locked = true → Runs (.loLockLoss o) s (fun t => t.radio.los[o].locked = false ∧ t.radio.los[o].unlocks = s.radio.los[o].unlocks + 1 ∧
      Raised (162 + o.val) (object 9 o.val) t ∧ (k ≠ o → t.radio.los[k] = s.radio.los[k]))) ∧
    (s.radio.los[o].locked = false → Rests (.loLockLoss o) s) ∧
    (∀ q, s.radio.tx[p].waiting = some q → loOut (txLo p s) s = true → Runs (.txEnableDeadline p) s (fun t => t.radio.tx[p].enabled = false ∧
      t.radio.tx[p].waiting = none ∧ s.now ≤ t.now ∧ t.ports = s.ports)) ∧
    (s.radio.tx[p].waiting = none → Rests (.txEnableDeadline p) s) ∧
    (∀ e n, firstEntry s s.radio.serial[m].queue = some (e, n) → s.radio.serial[m].running = none → max (max s.now n) (n + 4) - n ≤ s.radio.serial[m].lateTol →
      Runs (.serialTrigger m) s (fun t => t.radio.serial[m].running = some { e with trigger := BitVec.ofNat 32 n } ∧ t.now = max s.now n ∧
        t.radio.serial[m].late = s.radio.serial[m].late)) ∧
    (∀ e n, firstEntry s s.radio.serial[m].queue = some (e, n) → s.radio.serial[m].running = none → s.radio.serial[m].lateTol < max (max s.now n) (n + 4) - n →
      Runs (.serialTrigger m) s (fun t => t.radio.serial[m].late = s.radio.serial[m].late + 1 ∧ Raised (167 + m.val) (object 14 m.val) t ∧
        (e.skipIfLate = true → t.radio.serial[m].running = none))) ∧
    (firstEntry s s.radio.serial[m].queue = none → Rests (.serialTrigger m) s) ∧
    (∀ e, s.radio.serial[m].running = some e → s.radio.serial[m].queue = [] → Runs (.serialTransactionEnd m w) s (fun t =>
      t.radio.serial[m].running = none ∧ t.radio.serial[m].queue = [] ∧ t.now = s.now)) ∧
    (s.radio.serial[m].running = none → Rests (.serialTransactionEnd m w) s) ∧
    (∀ e, s.radio.survey.enable = true → s.radio.survey.dwelling = true → s.links.rxGroups[(4 : Fin 5)] = .aligned →
      s.radio.survey.entries[s.radio.survey.index]? = some e → recentMs s.slowTicks s.radio.survey.dwelt < 10 * surveyDuty s →
      Runs (.surveyDwellEnd s.radio.survey.index ((s.radio.survey.index + 1) % s.radio.survey.entries.length)) s (fun t =>
        t.radio.survey.index = (s.radio.survey.index + 1) % s.radio.survey.entries.length ∧
        t.radio.survey.entries.length = s.radio.survey.entries.length ∧ ∃ f, t.radio.survey.entries[s.radio.survey.index]? = some f ∧ f.valid = true ∧
          f.averaged = min 65535 s.radio.survey.spectra ∧ f.bins.length = 256)) ∧
    ((s.radio.survey.dwelling = false ∨ i ≠ s.radio.survey.index ∨ j ≠ (i + 1) % s.radio.survey.entries.length) → Rests (.surveyDwellEnd i j) s)) ∧
  (∀ (x y : Fin 2) (b : Bool) (s : State), x ≠ y →
    Runs (.coexReqRise x b) s (fun t => t.radio.coex[x].req = true ∧ t.radio.coex[x].pri = b ∧ t.radio.coex[x].deferred = (s.radio.coex[x].enable && !b) ∧
      t.radio.coex[x].reqAt = s.now ∧ t.radio.coex[x].gnt = s.radio.coex[x].gnt ∧ t.radio.coex[y] = s.radio.coex[y] ∧
      (b = false → t = { s with radio := t.radio })) ∧
    (s.radio.coex[x].enable = true → s.radio.coex[x].req = true → s.radio.coex[x].gnt = false → s.radio.coex[x].blocked = false →
      coexDutyFree s.radio.coex[x] s = true → s.radio.coex[x].yielding = true → coexQuiet s.radio.coex[x] s = true → Runs (.coexGrant x) s (fun t => t.radio.coex[x].gnt = true ∧ t.radio.coex[x].deferred = false ∧
        t.radio.coex[x].grants = s.radio.coex[x].grants + 1 ∧ t.radio.coex[x].grantAt = s.now ∧ t.radio.coex[y] = s.radio.coex[y])) ∧
    ((s.radio.coex[x].req = false ∨ s.radio.coex[x].blocked = true) → Rests (.coexGrant x) s) ∧
    (s.radio.coex[x].deferred = true → Runs (.coexDeferExpiry x) s (fun t => t.radio.coex[x].deferred = false ∧
      t.now = max s.now (s.radio.coex[x].reqAt + s.radio.coex[x].maxDeferMs * 30720) ∧ t.radio.coex[y] = s.radio.coex[y])) ∧
    (s.radio.coex[x].deferred = false → Rests (.coexDeferExpiry x) s) ∧
    Runs (.coexReqFall x) s (fun t => t.radio.coex[x].req = false ∧ t.radio.coex[x].gnt = false ∧ t.radio.coex[x].lowAt = s.now ∧
      t.radio.coex[y] = s.radio.coex[y]) ∧
    (s.radio.coex[x].gnt = true → Runs (.coexLimit x (decide (10 * s.radio.coex[x].dutyPct - grantedBefore s.radio.coex[x] s < s.radio.coex[x].grantMaxMs))) s (fun t => t.radio.coex[x].gnt = false ∧ t.radio.coex[x].blocked = true ∧
      s.now ≤ t.now ∧ t.radio.coex[y] = s.radio.coex[y])) ∧
    ((s.radio.coex[x].gnt = false ∨ b ≠ decide (10 * s.radio.coex[x].dutyPct - grantedBefore s.radio.coex[x] s < s.radio.coex[x].grantMaxMs)) →
      Rests (.coexLimit x b) s) ∧
    Runs (.coexAct x b) s (fun t => t = { s with radio := { s.radio with coex := s.radio.coex.set x { s.radio.coex[x] with act := b } } }))

/-- A tick that finds a loop still evaluating counts an overrun, raises source 248 and leaves the loop's output; a tick of a running loop answers its
start and takes a pending swap; a hand-over whose window has passed ends in the incoming slot within tolerance, and in the old one otherwise; a loop
that does not run is left alone. (08_loop_engine.md) -/
def Obligations.LoopEvents : Prop :=
  ∀ (l : Fin 192) (b : Bool) (h : HandOver) (s : State),
    (l.val < 136 → Rests (.loopTick l b) s) ∧
    (136 ≤ l.val → (loop l.val s).running = false → (loop l.val s).cur.template ≠ 5 → Rests (.loopTick l b) s) ∧
    (∀ n, 136 ≤ l.val → s.sys.coreUp = true → (loop l.val s).running = true → nextTick l.val s = some n → readyBefore l.val s = [] → Runs (.loopTick l true) s (fun t =>
      (loop l.val t).overruns = BitVec.ofNat 16 (satAdd 16 (loop l.val s).overruns.toNat 1) ∧ (loop l.val t).u1 = (loop l.val s).u1 ∧
      t.loops.overrun = true ∧ Raised 248 (object 10 l.val) t ∧ t.supply = s.supply)) ∧
    (∀ n, 136 ≤ l.val → s.sys.coreUp = true → (loop l.val s).running = true → nextTick l.val s = some n → readyBefore l.val s = [] → inStandby s = false →
      Runs (.loopTick l false) s (fun t =>
      (loop l.val t).startRing = none ∧ (loop l.val t).swapPending = false ∧ (loop l.val t).defined = (loop l.val s).defined)) ∧
    ((loop l.val s).handover = none → Rests (.handoverWindowEnd l) s) ∧
    ((loop l.val s).handover = some h → h.ticks < h.window → Rests (.handoverWindowEnd l) s) ∧
    ((loop l.val s).handover = some h → h.window ≤ h.ticks → h.gap ≤ h.tol → Runs (.handoverWindowEnd l) s (fun t => (loop l.val t).slot = h.incoming ∧
      (loop l.val t).handover = none ∧ (loop l.val t).u1 = (loop l.val s).u1)) ∧
    ((loop l.val s).handover = some h → h.window ≤ h.ticks → h.tol < h.gap → Runs (.handoverWindowEnd l) s (fun t =>
      (loop l.val t).slot = (loop l.val s).slot ∧ (loop l.val t).handover = none ∧ t.loops.abandoned = true))

/-- A switching cycle takes the rail's voltage and the clock of its period, and eight cycles of hard over-voltage take the rail to FAULT; an
under-voltage of 1 ms is raised once; a short takes a live rail to FAULT; a due move to burst and back is taken, and one to and from continuous
conduction hands the loop over; an open or failed phase is removed and raised; a soft start at its goal regulates and a stop at zero is OFF, or
FAULT where a fault stopped it; each changes nothing without its condition. The time base locks; a boot fault of the core supply is retried, at most
eight times, with rail 0 in its soft start; once rail 0 regulates and nothing holds it the core comes up STARTING with its counts at zero; a running
core is left alone. (09_supply_control.md) -/
def Obligations.RailEvents : Prop :=
  (∀ (r : Fin 10) (p : Fin 16) (m : RailMeas) (g : LadderMode) (s : State),
    ((railCycle r m (cycleBegun r m s)).ovRun < 8 → (r ≠ 0 ∨ s.sys.coreUp = false) → Runs (.switchingCycle r m) s (fun t =>
      (rail r t).sensed = m.sensedMv ∧ (rail r t).cycles = (rail r s).cycles + 1 ∧ (rail r t).clock = (rail r s).clock + (rail r s).plan.period ∧ (rail r t).state = (rail r s).state ∧
      (rail r t).target = (rail r s).target)) ∧
    (8 ≤ (railCycle r m (cycleBegun r m s)).ovRun → Runs (.switchingCycle r m) s (fun t => (rail r t).state = .fault ∧
      (rail r t).faultBy = [266 + r.val])) ∧
    ((rail r s).state = .regulating → 400000 ≤ (rail r s).uvTime → (rail r s).uvRaised = false → Runs (.railUv r) s (fun t => (rail r t).uvRaised = true ∧
      Raised (276 + r.val) (object 5 r.val) t ∧ t = { s with supply := t.supply, faults := t.faults })) ∧
    ((rail r s).uvRaised = true → Rests (.railUv r) s) ∧
    (shortDue (rail r s) = true → Runs (.railShort r) s (fun t => (rail r t).state = .fault ∧ (rail r t).faultBy = [256 + r.val])) ∧
    (shortDue (rail r s) = false → Rests (.railShort r) s) ∧
    ((rail r s).state = .regulating → (rail r s).mode = .de → 64 ≤ (rail r s).moveRun[modeNumber .burst] → (rail r s).moveHold[modeNumber .burst] = 0 →
      (loop (voltageLoop r) s).handover = none → Runs (.ladderMove r .burst) s (fun t => (rail r t).mode = .burst ∧
        (loop (voltageLoop r) t).running = false ∧ (rail r t).target = (rail r s).target)) ∧
    ((rail r s).state = .regulating → (rail r s).mode = .ccm → 64 ≤ (rail r s).moveRun[modeNumber .de] → (rail r s).moveHold[modeNumber .de] = 0 →
      (loop (voltageLoop r) s).handover = none → (loop (voltageLoop r) s).running = true → (loop (voltageLoop r) s).slots[(1 : Fin 4)].defined = true →
      Runs (.ladderMove r .de) s (fun t => (rail r t).mode = .ccm ∧ ∃ h, (loop (voltageLoop r) t).handover = some h ∧ h.incoming = 1 ∧ h.ladder = true)) ∧
    ((rail r s).state ≠ .regulating → Rests (.ladderMove r g) s) ∧
    (phaseJudged p s = none → Rests (.phaseOpen p) s) ∧ (phaseJudged p s = none → Rests (.phaseSense p) s) ∧
    (phaseJudged p s = some r → s.supply.phases[p].suspect < 32 → Rests (.phaseOpen p) s) ∧
    (phaseJudged p s = some r → 32 ≤ s.supply.phases[p].suspect → 2 ≤ (activePhases r s).length →
      4 * (activePhases r s).length * s.supply.phases[p].rise < (rail r s).current → Runs (.phaseOpen p) s (fun t =>
        t.supply.phases[p].state = .removedOpen ∧ Raised (286 + p.val) (object 6 p.val) t ∧ t.chans = s.chans)) ∧
    (phaseJudged p s = some r → 8 ≤ s.supply.phases[p].rangeRun → s.supply.phases[p].state ≠ .dutyMirror → Runs (.phaseSense p) s (fun t =>
      t.supply.phases[p].state = (if (activePhases r s).all (fun k => k == p) then .dutyMirror else .removedSense) ∧
      Raised (302 + p.val) (object 6 p.val) t ∧ (rail r t).state = (rail r s).state)) ∧
    ((rail r s).state = .softStart → (rail r s).ref = refGoal r s → (rail r s).powerGood = true → Runs (.softStartDone r) s (fun t =>
      (rail r t).state = .regulating ∧ (rail r t).mode = .ccm ∧ (rail r t).target = (rail r s).target)) ∧
    ((rail r s).state ≠ .softStart → Rests (.softStartDone r) s) ∧
    ((rail r s).state = .stopping → (rail r s).ref = 0 → s.sys.transition = .none → Runs (.railStopDone r) s (fun t =>
      (rail r t).state = (if (rail r s).faultBy = [] then .off else .fault))) ∧
    ((rail r s).state ≠ .stopping → Rests (.railStopDone r) s)) ∧
  (∀ s : State,
    Runs .timebaseLock s (fun t => t = { s with supply := { s.supply with timebaseLocked := true } }) ∧
    (s.sys.coreUp = false → s.supply.bootFault = true → s.supply.bootRetries.toNat < 8 → Runs .bootRetry s (fun t => t.supply.bootFault = false ∧
      t.supply.bootRetries = s.supply.bootRetries + 1 ∧ (rail 0 t).state = .softStart ∧ t.sys.coreUp = false)) ∧
    ((s.sys.coreUp = true ∨ s.supply.bootFault = false ∨ 8 ≤ s.supply.bootRetries.toNat) → Rests .bootRetry s) ∧
    (s.sys.coreUp = false → bootAllowed s = true → (rail 0 s).state = .regulating → Runs .coreResetRelease s (fun t => t.sys.coreUp = true ∧
      t.sys.power = .starting ∧ t.sys.innkeeper = .starting ∧ t.now = 0 ∧ t.slowTicks = 0 ∧ t.gb = s.gb ∧ t.hr = s.hr)) ∧
    (s.sys.coreUp = true → Rests .coreResetRelease s))

/-- A threshold crossed for its dwell changes the sensor's level and no other sensor's; a die sensor that reaches its stop level stops an active device
with the reason temperature; a failed sensor plausible for its time is reinstated; a device stopped for temperature restarts by itself once cool; a
critical trip resets the core, counts, latches and holds it until its recovery, and leaves the Guestbook's flash; life counters are kept at each
checkpoint and recorded daily. (10_thermal_and_service_life.md, R480) -/
def Obligations.ThermalEvents : Prop :=
  ∀ (n k : Fin 32) (a b : Bool) (s : State),
    (s.sys.coreUp = true → (sensor n.val s).warn = false → (sensor n.val s).par.dwell ≤ (sensor n.val s).warnUp → Runs (.thermalThresholdCross n false true) s (fun t =>
      (sensor n.val t).warn = true ∧ (k ≠ n → sensor k.val t = sensor k.val s) ∧ t.sys.power = s.sys.power ∧ t.ports = s.ports)) ∧
    (s.sys.coreUp = true → (sensor n.val s).stop = false → (sensor n.val s).par.dwell ≤ (sensor n.val s).stopUp → n.val < 24 → s.sys.power = .active →
      s.sys.transition = .none → Runs (.thermalThresholdCross n true true) s (fun t => (sensor n.val t).stop = true ∧ t.sys.stopReason = 4 ∧
        (k ≠ n → sensor k.val t = sensor k.val s))) ∧
    (s.sys.coreUp = true → (sensor n.val s).stop = true → (sensor n.val s).par.dwell ≤ (sensor n.val s).stopDown → Runs (.thermalThresholdCross n true false) s (fun t =>
      (sensor n.val t).stop = false ∧ (k ≠ n → sensor k.val t = sensor k.val s))) ∧
    (s.sys.coreUp = false → Rests (.thermalThresholdCross n a b) s) ∧
    ((sensor n.val s).failed = true → 1000 ≤ (sensor n.val s).plausible → Runs (.sensorReinstate n) s (fun t => (sensor n.val t).failed = false ∧
      (sensor n.val t).lastValid = (sensor n.val s).reading ∧ (k ≠ n → sensor k.val t = sensor k.val s))) ∧
    ((sensor n.val s).failed = false → Rests (.sensorReinstate n) s) ∧
    (s.sys.stopReason = 4 → 60000 ≤ s.thermal.below → s.sys.power = .stopped → s.sys.transition = .none → (recentRestarts s).length < 3 →
      Runs .thermalAutoRestart s (fun t => t.sys.restarts = recentRestarts s ++ [s.slowTicks] ∧
        (t.sys.power = .active ∨ t.sys.transition = .restarting true))) ∧
    (s.sys.stopReason ≠ 4 → Rests .thermalAutoRestart s) ∧
    (s.sys.vauxValid = true → s.sys.npt.critHold = false → Runs (.criticalTrip a) s (fun t => t.sys.coreUp = false ∧ t.sys.npt.critHold = true ∧
      t.sys.npt.critLatched = true ∧ t.thermal.critTrips = s.thermal.critTrips + 1 ∧ t.gb.flash = s.gb.flash ∧ t.sys.mode = s.sys.mode ∧ t.hr.locked = s.hr.locked)) ∧
    (s.sys.npt.critHold = true → Rests (.criticalTrip a) s) ∧
    (s.sys.npt.critHold = true → Runs .criticalRecovery s (fun t => t.sys.npt.critHold = false ∧ t.sys.npt.critLatched = s.sys.npt.critLatched ∧
      t.sys.coreUp = s.sys.coreUp)) ∧
    (s.sys.npt.critHold = false → Rests .criticalRecovery s) ∧
    (s.sys.coreUp = true → Runs (.lifeCheckpoint (decide ((s.thermal.checkMinute + 1) % 60 = 0))) s (fun t => t.thermal.lifeRetained = s.thermal.life ∧ t.thermal.checkMinute = s.thermal.checkMinute + 1 ∧
      t.thermal.lifeStored = (if t.thermal.checkMinute % 60 = 0 then s.thermal.life else s.thermal.lifeStored) ∧ s.now ≤ t.now ∧
      t = { s with thermal := t.thermal, now := t.now })) ∧
    ((s.sys.coreUp = false ∨ a ≠ decide ((s.thermal.checkMinute + 1) % 60 = 0)) → Rests (.lifeCheckpoint a) s) ∧
    (s.sys.coreUp = true → Runs .daily s (fun t => t.thermal.dayMark = s.thermal.dayMark + 24 ∧ s.now ≤ t.now ∧ Logged 7 1 s t)) ∧
    (s.sys.coreUp = false → Rests .daily s)

/-- An event reaches the collector at the next fault tick, where its source takes the object and detail, counts it, and is never CLEAR after it nor
below the state it had; a source in NOTICE whose quiet period passes without an event is CLEAR again. (R496, R499, R500, R501, 11_faults.md) -/
def Obligations.FaultEvents : Prop :=
  ∀ (e : FaultEvt) (n : Fin 512) (s : State),
    (s.sys.coreUp = true → s.faults.inbox = [] → s.faults.due = [] → allocated e.src.val = true → 1 ≤ (faultSrc e.src.val s).par.ceiling →
      Runs (.faultEvent [e]) s (fun t =>
      t.now = max s.now (tickCount (faultTick s + 1)) ∧ (faultSrc e.src.val t).lastObj = e.obj ∧ (faultSrc e.src.val t).lastDetail = e.detail ∧
      (faultSrc e.src.val t).events = (faultSrc e.src.val s).events + 1 ∧ (faultSrc e.src.val t).state ≠ .clear ∧
      (faultSrc e.src.val s).state.rank ≤ (faultSrc e.src.val t).state.rank)) ∧
    (s.sys.coreUp = false → Rests (.faultEvent [e]) s) ∧
    (s.faults.inbox = [] → Rests (.faultEvent []) s) ∧
    (s.sys.coreUp = true → s.faults.inbox = [] → s.faults.due = [] → (faultSrc n.val s).state = .notice → quietens n s = true → Runs (.faultQuietExpiry n) s (fun t =>
      (faultSrc n.val t).state = .clear ∧ (faultSrc n.val t).recoveries = (faultSrc n.val s).recoveries ∧ s.now ≤ t.now)) ∧
    (s.faults.due = [] → (faultSrc n.val s).state = .clear → Rests (.faultQuietExpiry n) s)

/-- The reset-end events with FACTORY_A or FACTORY_B straps stop with the fault factoryMode, for the spec gives the production test no behaviour; with
NATIVE or COMPAT straps they answer a next state in that mode with those straps, the core still down. (R2, R3, 16_pins_and_electrical.md) -/
def Obligations.FactoryStrapsStop : Prop :=
  ∀ (x : Straps) (s : State),
    (2 ≤ x.mode.toNat → s.sys.vauxValid = false → exec (.vauxValid x) s = .fault .factoryMode) ∧
    (2 ≤ x.mode.toNat → s.sys.npt.boardHold = true → exec (.boardResetEnd x) s = .fault .factoryMode) ∧
    (2 ≤ x.mode.toNat → s.sys.coreUp = true → (∃ n, s.sys.resetDueTick = some n ∧ n ≤ s.slowTicks) → exec (.deviceResetFire x) s = .fault .factoryMode) ∧
    (x.mode.toNat < 2 → s.sys.vauxValid = false → Runs (.vauxValid x) s (fun t => t.sys.vauxValid = true ∧ t.sys.straps = x ∧ t.sys.coreUp = false ∧
      t.sys.mode = (if x.mode = 0 then .native else .compat) ∧ t.hr = { s.hr with nonce := none } ∧ t.gb.seqNext = s.gb.seqNext ∧ t.sys.saved = s.sys.saved)) ∧
    (x.mode.toNat < 2 → s.sys.npt.boardHold = true → Runs (.boardResetEnd x) s (fun t => t.sys.npt.boardHold = false ∧ t.sys.straps = x ∧
      t.sys.mode = (if x.mode = 0 then .native else .compat) ∧ t.gb = s.gb ∧ t.hr = s.hr)) ∧
    (x.mode.toNat < 2 → s.sys.coreUp = true → (∃ n, s.sys.resetDueTick = some n ∧ n ≤ s.slowTicks) → Runs (.deviceResetFire x) s (fun t =>
      t.sys.coreUp = false ∧ t.sys.straps = x ∧ t.gb.flash = s.gb.flash ∧ t.hr = { s.hr with nonce := none } ∧ t.chans = State.reset.chans)) ∧
    (s.sys.vauxValid = true → Rests (.vauxValid x) s) ∧ (s.sys.npt.boardHold = false → Rests (.boardResetEnd x) s) ∧
    (s.sys.resetDueTick = none → Rests (.deviceResetFire x) s)

/-- A brown-out ends the supply and leaves House Rules as programmed; a hold-up trip of a running core closes the Guestbook's intake and raises source
384, and its end opens it; a trip of an armed comparator holds the core down and its recovery lets it go; a board reset holds the core down; an
oscillator failure raises source 389; each changes nothing without its condition. A board reset with VIO present leaves the pins as in reset: the
outputs of the VIO bank at their pulls, the drivers of the phases low and their outputs high-impedance. (16_pins_and_electrical.md, 12_guestbook.md,
09_supply_control.md, R545) -/
def Obligations.SupplyWatchEvents : Prop :=
  (∀ (b : Bool) (s : State),
    (s.sys.vauxValid = true → Runs .brownOut s (fun t => t.sys.vauxValid = false ∧ t.sys.coreUp = false ∧ t.sys.npt.npPending.getLsbD 1 = true ∧
      t.hr = { s.hr with nonce := none } ∧ t.gb.staged = [] ∧ t.gb.seqNext = s.gb.seqNext)) ∧
    (s.sys.vauxValid = false → Rests .brownOut s) ∧
    (s.sys.vauxValid = true → s.sys.npt.below.getLsbD 0 = false → s.sys.coreUp = true → Runs .holdupTrip s (fun t => t.gb.intakeClosed = true ∧
      t.sys.npt.below.getLsbD 0 = true ∧ t.sys.npt.tripped.getLsbD 0 = true ∧ (s.gb.collectorWait = [] → t.gb.queue = []) ∧ Raised 384 0 t)) ∧
    (s.sys.npt.below.getLsbD 0 = true → Rests .holdupTrip s) ∧
    (s.sys.npt.below.getLsbD 0 = true → Runs .holdupReopen s (fun t => t.gb.intakeClosed = false ∧ t.sys.npt.below.getLsbD 0 = false ∧
      t.sys.npt.tripped = s.sys.npt.tripped)) ∧
    (s.sys.npt.below.getLsbD 0 = false → Rests .holdupReopen s) ∧
    (s.sys.vauxValid = true → s.sys.npt.armed.getLsbD (comparatorOf b) = true → s.sys.npt.held.getLsbD (comparatorOf b) = false →
      Runs (.supplyComparatorTrip b) s (fun t => t.sys.coreUp = false ∧ t.sys.npt.held.getLsbD (comparatorOf b) = true ∧
        t.sys.npt.tripped.getLsbD (comparatorOf b) = true ∧ t.gb.flash = s.gb.flash)) ∧
    (s.sys.npt.armed.getLsbD (comparatorOf b) = false → Rests (.supplyComparatorTrip b) s) ∧
    (s.sys.npt.held.getLsbD (comparatorOf b) = true → Runs (.supplyRecovered b) s (fun t => t.sys.npt.held.getLsbD (comparatorOf b) = false ∧
      t.sys.npt.tripped = s.sys.npt.tripped ∧ t.sys.coreUp = s.sys.coreUp)) ∧
    (s.sys.npt.held.getLsbD (comparatorOf b) = false → Rests (.supplyRecovered b) s) ∧
    (s.sys.vauxValid = true → s.sys.npt.boardHold = false → Runs .boardReset s (fun t => t.sys.npt.boardHold = true ∧ t.sys.coreUp = false ∧
      t.supply.bootRetries = 0 ∧ t.gb.flash = s.gb.flash)) ∧
    (s.sys.npt.boardHold = true → Rests .boardReset s) ∧
    Runs (.comparatorArmed b) s (fun t => t.sys.npt.armed.getLsbD (comparatorOf b) = true ∧
      t = { s with sys := { s.sys with npt := { s.sys.npt with armed := t.sys.npt.armed } } }) ∧
    Runs .rtcOscillatorFailure s (fun t => t.sys.npt.rtcOk = false ∧ Raised 389 0 t ∧
      t = { s with sys := { s.sys with npt := { s.sys.npt with rtcOk := false } }, faults := t.faults })) ∧
  (∀ (n : Fin 48) (m k : Fin 4) (p : Fin 16) (s : State), s.sys.vauxValid = true → s.sys.npt.boardHold = false → vioAbsent s = false →
    Runs .boardReset s (fun t => pinState (.feCtl n) t = .highZ ∧ pinState (.smSclk m) t = .highZDown ∧ pinState (.smCs m k) t = .highZUp ∧
      pinState .flReset t = .low ∧ pinState .ownerOut t = .low ∧ pinState .txsel t = .low ∧ pinState (.drvEn p) t = .low ∧ pinState (.pwm p) t = .highZ))

/-- A core whose Innkeeper runs, whose replay is done and whose blocks have formed is ready once, and leaves STARTING for ACTIVE; the end of the link's
wait commits a sleep; an automatic sleep begins as commanded; an enabled receiver, the alarm and the release of PERST_N wake a sleeping device with
their causes; each changes nothing without its condition. (13_start_up_trust_and_house_rules.md, 16_pins_and_electrical.md) -/
def Obligations.SleepEvents : Prop :=
  ∀ (r : Vector (List Int) 8) (p : Fin 8) (s : State),
    (s.sys.coreUp = true → s.sys.innkeeper = .running → s.sys.rfReady = false → replayDone s = true → blocksFormed s = true → s.sys.power = .starting →
      s.sys.transition = .none → Runs .rfReady s (fun t => t.sys.rfReady = true ∧ t.sys.power = .active)) ∧
    (s.sys.rfReady = true → Rests .rfReady s) ∧
    (s.sys.transition = .sleeping 4 → s.sys.npt.wakeLatched = none → Runs .sleepL2WaitEnd s (fun t => t.sys.power = .sleep ∧ t.sys.coreUp = false ∧
      t.sys.sleepAfterS = s.sys.sleepAfterS ∧ t.sys.wakeHoldS = s.sys.wakeHoldS ∧ t.gb.flash = s.gb.flash)) ∧
    (s.sys.transition ≠ .sleeping 4 → Rests .sleepL2WaitEnd s) ∧
    (∀ n, s.sys.coreUp = true → s.sys.sleepAfterS ≠ 0 → s.sys.lossSinceTick = some n → n + 1000 * s.sys.sleepAfterS ≤ s.slowTicks →
      (∀ w, s.sys.wokeTick = some w → w + 1000 * s.sys.wakeHoldS ≤ s.slowTicks) → sleepRefused s = none → s.sys.transition = .none →
      (s.sys.power = .active ∨ s.sys.power = .quiet ∨ s.sys.power = .stopped) →
      Runs .autoSleep s (fun t => (t.sys.transition = .sleeping 1 ∨ t.sys.transition = .sleeping 2) ∧ (port p t).deviceStop = reasonPowerState)) ∧
    (s.sys.sleepAfterS = 0 → Rests .autoSleep s) ∧
    (s.sys.power = .sleep → s.sys.coreUp = false → (∃ n ∈ detecting r s, s.sys.npt.wk[n].activity = false) → Runs (.wakeDetect r) s (fun t =>
      t.sys.power = .starting ∧ t.sys.npt.wakeCause = 1 ∧ t.sys.npt.wakes = s.sys.npt.wakes + 1 ∧ t.sys.coreUp = false)) ∧
    (s.sys.power = .sleep → s.sys.coreUp = false → detecting r s ≠ [] → (∀ n ∈ detecting r s, s.sys.npt.wk[n].activity = true) →
      Runs (.wakeDetect r) s (fun t => t.sys.power = .starting ∧ t.sys.npt.wakeCause = 2)) ∧
    (detecting r s = [] → Rests (.wakeDetect r) s) ∧
    (s.sys.npt.alarm ≠ 0 → s.gb.wallValid = true → (wallNow s).toNat ≤ s.sys.npt.alarm.toNat → s.sys.power = .sleep → s.sys.coreUp = false → Runs .wallClockAlarm s (fun t =>
      t.sys.power = .starting ∧ t.sys.npt.wakeCause = 4)) ∧
    (s.sys.npt.alarm = 0 → Rests .wallClockAlarm s) ∧
    (s.sys.perst = true → Runs .perstRelease s (fun t => t.sys.perst = false ∧ t.sys.wakeN = false ∧
      (s.sys.power = .sleep → s.sys.coreUp = false → t.sys.power = .starting ∧ t.sys.npt.wakeCause = 3))) ∧
    (s.sys.perst = false → Rests .perstRelease s)

/-- A watchdog expiry of the running Innkeeper restarts it, raises source 3 and leaves the repeater's ports and channels; its restart ends RUNNING and
is recorded; a patch in force for an hour raises the floor to its security version and never lowers it; a Lodger past its watchdog is stopped and
raises its source, and one due is restarted; a desk violation raises source 8; each changes nothing without its condition.
(13_start_up_trust_and_house_rules.md, R586, R588) -/
def Obligations.TrustEvents : Prop :=
  ∀ (n k : Fin 4) (s : State), k ≠ n →
    (s.sys.coreUp = true → s.sys.innkeeper = .running → Runs .innkeeperWatchdog s (fun t => t.sys.innkeeper = .restarting ∧ Raised 3 (object 13 0) t ∧
      t.ports = s.ports ∧ t.chans = s.chans ∧ t.hr = s.hr)) ∧
    (s.sys.innkeeper ≠ .running → Rests .innkeeperWatchdog s) ∧
    (s.sys.coreUp = true → s.sys.innkeeper = .restarting → Runs .innkeeperRestartDone s (fun t => t.sys.innkeeper = .running ∧ t.sys.restartForPatch = false ∧
      t.ports = s.ports ∧ t.chans = s.chans)) ∧
    (s.sys.innkeeper ≠ .restarting → Rests .innkeeperRestartDone s) ∧
    (s.sys.coreUp = true → s.sys.innkeeper = .running → s.sys.romOnly = false → s.sys.bootUs + hourUs ≤ opTime s → Runs .patchFloorRaise s (fun t =>
      t.sys.patchFloor = BitVec.ofNat 16 (max s.sys.patchFloor.toNat (patchSlot s.sys.patchSlot s).security.toNat) ∧
      s.sys.patchFloor.toNat ≤ t.sys.patchFloor.toNat ∧ t = { s with sys := { s.sys with patchFloor := t.sys.patchFloor } })) ∧
    (s.sys.romOnly = true → Rests .patchFloorRaise s) ∧
    (s.sys.coreUp = true → (lodger n s).state = .running → (lodger n s).watchdogMs ≠ 0 → (lodger n s).kickedTick + (lodger n s).watchdogMs < s.slowTicks →
      Runs (.lodgerWatchdog n) s (fun t => (lodger n t).state = .stopped ∧ (lodger n t).retained = (lodger n s).retained ∧
        Raised (4 + n.val) (object 13 (1 + n.val)) t ∧ lodger k t = lodger k s)) ∧
    ((lodger n s).watchdogMs = 0 → Rests (.lodgerWatchdog n) s) ∧
    (s.sys.coreUp = true → (lodger n s).state = .stopped → (lodger n s).restartDue = true → (faultSrc (4 + n.val) s).state ≠ .parked →
      (lodger n s).kickedTick + 1000 ≤ s.slowTicks → Runs (.lodgerAutorestart n) s (fun t => (lodger n t).state = .running ∧
        (lodger n t).restartDue = false ∧ (lodger n t).retained = (lodger n s).retained ∧ lodger k t = lodger k s)) ∧
    ((lodger n s).restartDue = false → Rests (.lodgerAutorestart n) s) ∧
    (s.sys.coreUp = true → (lodger n s).state = .running → Runs (.deskViolation n) s (fun t => (lodger n t).trapped = true ∧
      (lodger n t).state = .running ∧ Raised 8 (object 13 (1 + n.val)) t ∧ lodger k t = lodger k s)) ∧
    ((lodger n s).state ≠ .running → Rests (.deskViolation n) s)

/-- An entry offered while there is room is queued with its time and one offered without room is lost and counted, never stored; the front entry is
taken while the Guestbook may take it; the tail closes, and its snapshot is staged, a second after its last repeat; a commit empties the staged
copies; an erase ends; a checkpoint keeps the time, the sequence and the wall clock. (R537, R542, R554, R557, 12_guestbook.md) -/
def Obligations.GuestbookEvents : Prop :=
  ∀ (e : GbEntry) (s : State),
    (e.cls ≠ 0 → e.cls ≠ 2 → gbRoom e.cls s = true → Runs (.gbIntake e) s (fun t => t = { s with gb := { s.gb with queue := s.gb.queue ++
      [{ e with late := false, payload := e.payload.take 480, timeUs := opTime s }] } })) ∧
    (e.cls ≠ 0 → e.cls ≠ 2 → gbRoom e.cls s = false → Runs (.gbIntake e) s (fun t => t.gb.queue = s.gb.queue ∧
      t.gb.overflow = upd s.gb.overflow e.cls.val (satAdd 32 · 1) ∧ t.gb.seqNext = s.gb.seqNext ∧ t.chans = s.chans)) ∧
    (e.cls = 0 → Rests (.gbIntake e) s) ∧
    (∀ f rest, s.gb.collectorWait = f :: rest → Runs .collectorIntakeTimeout s (fun t => t.gb.collectorWait = rest ∧ t.gb.queue = s.gb.queue ∧
      t.gb.overflow = upd s.gb.overflow f.cls.val (satAdd 32 · 1))) ∧
    (s.gb.collectorWait = [] → Rests .collectorIntakeTimeout s) ∧
    (∀ f rest, s.sys.coreUp = true → s.gb.intakeClosed = false → mayTake s = true → s.gb.queue = f :: rest → s.gb.collectorWait = [] →
      Runs .gbTakeEntry s (fun t => t.gb.queue = rest ∧ t.gb.flash = s.gb.flash)) ∧
    (s.gb.queue = [] → Rests .gbTakeEntry s) ∧
    (∀ v, s.gb.tail = some v → s.sys.coreUp = true → v.isOpen = true → v.lastRepeatTick + 1000 < s.slowTicks → Runs .tailTimeout s (fun t =>
      t.gb.tail = some { v with isOpen := false } ∧ t.gb.staged.length = s.gb.staged.length + 1 ∧ t = { s with gb := t.gb })) ∧
    (s.gb.tail = none → Rests .tailTimeout s) ∧
    (∀ v, s.gb.tail = some v → s.sys.coreUp = true → v.isOpen = true → v.snapshotTick + 1000 ≤ s.slowTicks → v.entry.repeats ≠ v.snapshotRepeats →
      Runs .tailSnapshot s (fun t => t.gb.tail = some { v with snapshotTick := s.slowTicks, snapshotRepeats := v.entry.repeats } ∧
        t.gb.staged = s.gb.staged ++ [{ entry := v.entry.flag flagOpen, isOpen := true }] ∧ t = { s with gb := t.gb })) ∧
    (s.gb.tail = none → Rests .tailSnapshot s) ∧
    (s.gb.staged ≠ [] → Runs .gbCommitDone s (fun t => t.gb.staged = [] ∧ t.gb.committing = false ∧ t.gb.queue = s.gb.queue ∧ t.gb.seqNext = s.gb.seqNext)) ∧
    (s.gb.staged = [] → Rests .gbCommitDone s) ∧
    ((s.gb.intakeClosed = false ∨ s.gb.committing = false) → Runs .clearEraseDone s (fun t => t = { s with gb := { s.gb with erasing := false } })) ∧
    (s.gb.intakeClosed = true → s.gb.committing = true → Rests .clearEraseDone s) ∧
    (s.sys.coreUp = true → Runs .checkpoint s (fun t => t.gb.checkpointUs = opTime t ∧ checkpointDueUs s ≤ opTime t ∧ s.now ≤ t.now ∧ t.gb.checkpointSeq = s.gb.seqNext ∧
      t.gb.checkpointCycles = s.gb.powerCycles ∧ t.gb.checkpointWall = wallNow t ∧ t.gb.flash = s.gb.flash)) ∧
    (s.sys.coreUp = false → Rests .checkpoint s)

/-- A link that carries nothing takes no frame; a frame with a bad CRC asks for a replay and moves nothing else; a good frame in sequence moves the
receive sequence on; a replay is counted and raised; a lane failure leaves an active link degraded on a whole pair, and the loss of its clock takes
it into its reclaim; a training that ends takes the neighbour and starts both sequences; a reclaim without its report ends after 100 ms; each
changes nothing out of its turn. (14_fabric_and_twin.md) -/
def Obligations.FabricEvents : Prop :=
  ∀ (l : Fin 5) (f : ObxFrame) (lanes : BitVec 4) (b : Bool) (r : TrainResult) (s : State),
    ((link l.val s).carries = false → Rests (.obxFrameReceive l f) s) ∧
    ((link l.val s).carries = true → s.sys.coreUp = true → f.crcOk = false → Runs (.obxFrameReceive l f) s (fun t => (link l.val t).nakWait = true ∧
      (link l.val t).recvSeq = (link l.val s).recvSeq ∧ t = { s with fabric := t.fabric })) ∧
    ((link l.val s).carries = true → s.sys.coreUp = true → f.crcOk = true → f.nak = false → f.kind = .block → f.seq = (link l.val s).recvSeq →
      Runs (.obxFrameReceive l f) s (fun t => (link l.val t).recvSeq = (link l.val s).recvSeq + 1)) ∧
    ((link l.val s).carries = true → (link l.val s).replay ≠ [] → Runs (.replayTimeout l) s (fun t =>
      (link l.val t).retries = satAdd 32 (link l.val s).retries 1 ∧ Raised (retrySource l.val) (linkObject l.val) t)) ∧
    ((link l.val s).replay = [] → Rests (.replayTimeout l) s) ∧
    (∀ p, (link l.val s).state = .active → (link l.val s).lanes &&& lanes ≠ 0 → wholePair ((link l.val s).lanes &&& ~~~lanes) = some p → (link l.val s).replay = [] →
      Runs (.obxLaneFailure l lanes false) s (fun t => (link l.val t).state = .degraded ∧ (link l.val t).lanes = p ∧
        (link l.val t).recvSeq = (link l.val s).recvSeq)) ∧
    ((link l.val s).carries = true → Runs (.obxLaneFailure l lanes true) s (fun t => (link l.val t).state = .reclaiming ∧
      ∃ e ∈ t.faults.inbox, e.src = Fin.ofNat 512 (linkSource l.val))) ∧
    ((link l.val s).carries = false → Rests (.obxLaneFailure l lanes b) s) ∧
    ((link l.val s).lanes &&& lanes = 0 → Rests (.obxLaneFailure l lanes false) s) ∧
    (∀ o, (link l.val s).state = .training → trainedLanes r.lanes = some 0xF → agreedOffset r.exchanges = some o → r.neighbour.val ≠ deviceAddress s → l.val < 4 →
      Runs (.linkTrained l r) s (fun t => (link l.val t).state = .active ∧ (link l.val t).neighbour = r.neighbour ∧ (link l.val t).recvSeq = 0)) ∧
    ((link l.val s).state ≠ .training → Rests (.linkTrained l r) s) ∧
    ((link l.val s).state = .reclaiming → (link l.val s).downAt + 100 < s.slowTicks → Runs (.reclaimReportTimeout l) s (fun t =>
      (link l.val t).state = .training ∧ (link l.val t).pending = [] ∧ (link l.val t).reclaimed = satAdd 32 (link l.val s).reclaimed (link l.val s).released)) ∧
    ((link l.val s).state ≠ .reclaiming → Rests (.reclaimReportTimeout l) s)

/-- A heartbeat is sent at its period and one missed raises source 361; of two owners the one with the odd address gives way; a standby in lockstep
whose owner is lost owns service, and one whose claim wait is over claims it; a device that stops its ALIVE gives up service; an acknowledged
hand-over changes the owner at its count and an unacknowledged one is dropped; an owner resynchronizes a detached pair; each changes nothing without
its condition. (R630, R632, R641, 14_fabric_and_twin.md) -/
def Obligations.TwinEvents : Prop :=
  ∀ (b : Bool) (h : TwinHand) (s : State),
    (twinStrapped s = true → s.sys.coreUp = true → (link 4 s).carries = true → Runs .heartbeatSend s (fun t =>
      t.now = max s.now (s.twin.sentAt + usCounts s.twin.par.hbPeriodUs) ∧ t.twin.sentAt = t.now ∧ t.twin.state = s.twin.state)) ∧
    (twinStrapped s = false → Rests .heartbeatSend s) ∧
    (twinStrapped s = true → s.sys.coreUp = true → s.twin.state ≠ .solo → Runs .heartbeatTimeout s (fun t => Raised 361 (linkObject 4) t ∧
      t.twin.heardAt = t.now ∧ s.now ≤ t.now ∧ t.twin.state = .detached ∧ t.twin.owner = s.twin.owner)) ∧
    (s.twin.state = .solo → Rests .heartbeatTimeout s) ∧
    (twinStrapped s = true → s.sys.coreUp = true → s.twin.ownerOut = true → deviceAddress s % 2 = 1 → Runs .ownerArbitration s (fun t =>
      t.twin.owner = false ∧ t.twin.ownerOut = false ∧ t.twin.txSel = false ∧ t.twin.ownerIn = true)) ∧
    (twinStrapped s = true → s.sys.coreUp = true → deviceAddress s % 2 = 0 → Runs .ownerArbitration s (fun t =>
      t = { s with twin := { s.twin with ownerIn := true } })) ∧
    (twinStrapped s = false → Rests .ownerArbitration s) ∧
    (inStandby s = true → s.sys.coreUp = true → s.twin.hand = none → s.twin.state = .lockstep → Runs (.ownerLost b) s (fun t => t.twin.owner = true ∧
      t.twin.ownerOut = true ∧ t.twin.handovers = s.twin.handovers + 1)) ∧
    (inStandby s = true → s.sys.coreUp = true → s.twin.hand = none → s.twin.state ≠ .lockstep → s.twin.par.takeoverDetached = false → Runs (.ownerLost b) s (fun t =>
      t.twin.owner = false ∧ t.chans = s.chans)) ∧
    (inStandby s = false → Rests (.ownerLost b) s) ∧
    (s.twin.aliveOut = true → Runs .aliveStop s (fun t => t.twin.aliveOut = false ∧ t.twin.ownerOut = false ∧ t.twin.txSel = false ∧ t.twin.owner = false)) ∧
    (s.twin.aliveOut = false → Rests .aliveStop s) ∧
    (inStandby s = true → s.sys.coreUp = true → deviceAddress s % 2 = 1 → s.twin.ownerIn = false → s.twin.ownerLowAt + s.twin.par.claimWaitMs ≤ s.slowTicks →
      Runs .claimWaitExpiry s (fun t => t.twin.owner = true ∧ t.twin.ownerOut = true ∧ t.twin.txSel = s.twin.aliveOut ∧ t = { s with twin := t.twin })) ∧
    (s.twin.ownerIn = true → Rests .claimWaitExpiry s) ∧
    (s.twin.hand = some h → h.acked = true → s.sys.coreUp = true → Runs .handoverSwitch s (fun t => t.twin.hand = none ∧ t.twin.owner = !s.twin.owner ∧
      t.twin.ownerIn = s.twin.owner ∧ t.twin.lastSwitch = h.x ∧ t.twin.state = afterHand h.cause)) ∧
    (s.twin.hand = some h → h.acked = false → Rests .handoverSwitch s) ∧ (s.twin.hand = none → Rests .handoverSwitch s) ∧
    (s.twin.hand = some h → h.acked = false → s.twin.owner = true → s.sys.coreUp = true → Runs .handoverAckDeadline s (fun t => t.twin.hand = none ∧
      t.twin.owner = true ∧ t.twin.state = s.twin.state)) ∧
    (s.twin.hand = some h → h.acked = true → Rests .handoverAckDeadline s) ∧ (s.twin.hand = none → Rests .handoverAckDeadline s) ∧
    (s.sys.coreUp = true → s.twin.owner = true → s.twin.state = .detached → s.twin.par.autoResync = true → (link 4 s).carries = true →
      s.twin.detachedAt + s.twin.par.holdoffMs ≤ s.slowTicks → (∀ n ∈ [360, 361, 362], (faultSrc n s).state = .clear) → Runs .autoResync s (fun t =>
        t.twin.state = .syncing ∧ t.twin.syncRing = none ∧ t.twin.owner = true)) ∧
    (s.twin.state ≠ .detached → Rests .autoResync s)

/-- Outside COMPAT mode no access does anything; a frame with a nonzero reserved header field sets the error; a read answers the status and the
registers; a window write reaches the halves it enables; reading a high register latches its low one; a register write before the device is ready is
discarded with NOT_READY and one during a soft reset with its own error; a test instruction comes into force, unless the lock stops one that drives
the pins. (R651, R656, R657, 15_compatibility_mode.md, 16_pins_and_electrical.md) -/
def Obligations.CompatAccess : Prop :=
  ∀ (hd : Half) (ws : List Half) (k : Nat) (wr : Bool) (off : BitVec 12) (v : Word) (be : BitVec 4) (n : Fin 16) (i : TapInstr) (s : State),
    (s.sys.mode ≠ .compat → Rests (.legacySpiFrame hd ws k) s ∧ Rests (.compatWindowAccess wr off v be) s ∧ Rests (.gqHiRead off) s ∧ Rests .gqRunSet s) ∧
    (s.sys.mode = .compat → s.sys.coreUp = true → hd.toNat / 0x1000 % 8 ≠ 0 → Runs (.legacySpiFrame hd ws k) s (fun t =>
      t.compat.spiOut = [gqStatus s] ∧ t.compat.error = 1 ∧ t.compat.errorValid = true ∧ t = { s with compat := t.compat })) ∧
    (s.sys.mode = .compat → s.sys.coreUp = true → hd.toNat / 0x1000 % 8 = 0 → hd.getLsbD 15 = true → 16 ≤ k → Runs (.legacySpiFrame hd ws k) s (fun t =>
      t.compat.spiOut = gqStatus s :: (readBurst (hd.toNat % 0x1000) ws.length s).1 ∧ t.compat.spiOut.length = ws.length + 1 ∧ t = { s with compat := t.compat })) ∧
    (s.sys.mode = .compat → s.sys.coreUp = true → s.compat.ready = true → s.compat.softReset = false → ∀ x : Half,
      Runs (.legacySpiFrame 0x00A [x] 16) s (fun t => t.compat.alarmEn = x.setWidth 4 ∧ t.compat.spiOut = [gqStatus s, 0] ∧ t = { s with compat := t.compat })) ∧
    (s.sys.mode = .compat → s.sys.coreUp = true → s.compat.ready = true → s.compat.softReset = false → Runs (.compatWindowAccess true 0x008 v 12) s (fun t =>
      t = { s with compat := { s.compat with alarmEn := (BitVec.ofNat 16 (v.toNat / 65536)).setWidth 4 } })) ∧
    (s.sys.mode = .compat → s.sys.coreUp = true → Runs (.compatWindowAccess false off v 15) s (fun t =>
      t.compat.windowOut = BitVec.ofNat 32 ((gqRead (off.toNat / 4 * 4) s).1.toNat +
        65536 * (gqRead (off.toNat / 4 * 4 + 2) (gqRead (off.toNat / 4 * 4) s).2).1.toNat))) ∧
    (s.sys.mode = .compat → s.sys.coreUp = true → s.compat.ready = true → off.toNat % 2 = 0 → isHi off.toNat = true → off.toNat + 2 < 0x1000 →
      s.compat.latched.find? (fun e => e.1 == off.toNat) = none → Runs (.gqHiRead off) s (fun t =>
        (gqRead (off.toNat + 2) t).1 = gqRegister (off.toNat + 2) s ∧ t = { s with compat := { s.compat with latched := t.compat.latched } })) ∧
    (s.sys.mode = .compat → s.sys.coreUp = true → s.compat.ready = false → Runs (.chGainWrite n .dl 0) s (fun t =>
      t = { s with compat := { s.compat with error := 2, errorValid := true } })) ∧
    (s.sys.mode = .compat → s.sys.coreUp = true → s.compat.ready = true → s.compat.softReset = true → Runs (.chGainWrite n .dl 0) s (fun t =>
      t = { s with compat := { s.compat with error := 0x0A, errorValid := true } })) ∧
    (scanLocked s = true → drivesPins i = true → Runs (.tapInstruction i) s (fun t => t.dbg.inForce = .bypass ∧
      t.dbg.refused = BitVec.ofNat 16 (satAdd 16 s.dbg.refused.toNat 1) ∧ t = { s with dbg := t.dbg })) ∧
    ((scanLocked s = false ∨ drivesPins i = false) → Runs (.tapInstruction i) s (fun t => t.dbg.inForce = i ∧ t.dbg.refused = s.dbg.refused ∧
      t = { s with dbg := t.dbg }))

/-- In COMPAT mode, ready, out of a soft reset and with room for commands: each write takes its register and queues its commands, or is refused with its
error and changes nothing else where its value is out of range; the mute, bandwidth, squelch, frequency and gain writes leave the other channels'
registers; clearing an oscillation flag and releasing the safety net take their flags away. (R656, R662, 15_compatibility_mode.md) -/
def Obligations.CompatWrites : Prop :=
  ∀ (n m : Fin 16) (a b : Bool) (bw : BitVec 2) (lo v : Half) (d : Dir) (c : Fin 64) (s : State),
    s.sys.mode = .compat → s.sys.coreUp = true → s.compat.ready = true → s.compat.softReset = false → (source 20 s).fetched.length ≤ 16 → m ≠ n →
    (s.compat.run = true → Runs .gqRunClear s (fun t => t.compat.run = false ∧ t = { s with compat := t.compat, hif := t.hif })) ∧
    (s.compat.run = false → Rests .gqRunClear s) ∧
    (s.compat.run = false → Runs .gqRunSet s (fun t => t.compat.run = true ∧ t = { s with compat := t.compat, hif := t.hif })) ∧
    (s.compat.run = true → Rests .gqRunSet s) ∧
    (gqEnabled s ≠ [] → Runs .gqSoftReset s (fun t => t.compat.softReset = true ∧ t = { s with compat := t.compat, hif := t.hif })) ∧
    (gqEnabled s = [] → gqBusy s = false → Runs .gqSoftReset s (fun t => t.compat.softReset = false ∧ t.compat.ready = true ∧ t = { s with compat := t.compat })) ∧
    (gqEnabled s = [] → Runs (.gqCentreWrite .ul lo) s (fun t => t.compat.ulLo = lo ∧ t.compat.ulCentre = pairKhz s.compat.ulHi lo ∧ t.compat.dlLo = s.compat.dlLo)) ∧
    (gqEnabled s = [] → Runs (.gqCentreWrite .dl lo) s (fun t => t.compat.dlLo = lo ∧ t.compat.dlCentre = pairKhz s.compat.dlHi lo ∧ t.compat.ulLo = s.compat.ulLo)) ∧
    (gqEnabled s ≠ [] → Runs (.gqCentreWrite d lo) s (fun t => t = { s with compat := { s.compat with error := 9, errorValid := true } })) ∧
    ((gqChan n s).enable = false → Runs (.chEnableSet n) s (fun t => (gqChan n t).enable = true ∧ gqChan m t = gqChan m s)) ∧
    ((gqChan n s).enable = true → Rests (.chEnableSet n) s) ∧
    ((gqChan n s).enable = true → Runs (.chEnableClear n) s (fun t => (gqChan n t).enable = false ∧ gqChan m t = gqChan m s)) ∧
    ((gqChan n s).enable = false → Rests (.chEnableClear n) s) ∧
    Runs (.chMuteWrite n a b) s (fun t => (gqChan n t).dl.mute = a ∧ (gqChan n t).ul.mute = b ∧ (gqChan n t).enable = (gqChan n s).enable ∧ gqChan m t = gqChan m s) ∧
    (bw ≠ 3 → Runs (.chBwWrite n bw) s (fun t => (gqChan n t).bw = bw ∧ (gqChan n t).enable = (gqChan n s).enable ∧ gqChan m t = gqChan m s)) ∧
    Runs (.chBwWrite n 3) s (fun t => t = { s with compat := { s.compat with error := 3, errorValid := true } }) ∧
    Runs (.chSquelchWrite n a) s (fun t => (gqChan n t).squelch = a ∧ gqChan m t = gqChan m s) ∧
    Runs (.chFreqWrite n .ul lo) s (fun t => (gqChan n t).ul.lo = lo ∧ (gqChan n t).ul.freq = pairKhz (gqChan n s).ul.hi lo ∧ (gqChan n t).dl = (gqChan n s).dl ∧
      gqChan m t = gqChan m s) ∧
    Runs (.chFreqWrite n .dl lo) s (fun t => (gqChan n t).dl.lo = lo ∧ (gqChan n t).dl.freq = pairKhz (gqChan n s).dl.hi lo ∧ (gqChan n t).ul = (gqChan n s).ul ∧
      gqChan m t = gqChan m s) ∧
    (v.toNat % 256 ≤ 220 → Runs (.chGainWrite n .dl v) s (fun t => (gqChan n t).dl.gain = v.setWidth 8 ∧ (gqChan n t).ul = (gqChan n s).ul ∧ gqChan m t = gqChan m s)) ∧
    (v.toNat % 256 ≤ 220 → Runs (.chGainWrite n .ul v) s (fun t => (gqChan n t).ul.gain = v.setWidth 8 ∧ (gqChan n t).dl = (gqChan n s).dl ∧ gqChan m t = gqChan m s)) ∧
    (220 < v.toNat % 256 → Runs (.chGainWrite n d v) s (fun t => t = { s with compat := { s.compat with error := 3, errorValid := true } })) ∧
    (v.toNat % 256 ≤ 60 → Runs (.gqMarginWrite v a) s (fun t => t = { s with compat := { s.compat with margin := v.setWidth 8, agl := a } })) ∧
    (60 < v.toNat % 256 → Runs (.gqMarginWrite v a) s (fun t => t = { s with compat := { s.compat with error := 3, errorValid := true } })) ∧
    (-40 ≤ v.toInt → v.toInt ≤ 120 → Runs (.gqPowerLimitWrite .ul v) s (fun t => t.compat.ulLimit = v ∧ t.compat.dlLimit = s.compat.dlLimit)) ∧
    (-40 ≤ v.toInt → v.toInt ≤ 120 → Runs (.gqPowerLimitWrite .dl v) s (fun t => t.compat.dlLimit = v ∧ t.compat.ulLimit = s.compat.ulLimit)) ∧
    (120 < v.toInt → Runs (.gqPowerLimitWrite d v) s (fun t => t = { s with compat := { s.compat with error := 3, errorValid := true } })) ∧
    (2 ≤ v.toNat % 32 → v.toNat % 32 ≤ 20 → Runs (.gqDonorLossWrite v) s (fun t => t.compat.lossAbsent = BitVec.ofNat 5 (v.toNat % 32) ∧
      t.compat.lossEnable = v.getLsbD 5)) ∧
    (20 < v.toNat % 32 → Runs (.gqDonorLossWrite v) s (fun t => t = { s with compat := { s.compat with error := 3, errorValid := true } })) ∧
    Runs (.chOscClear n d) s (fun t => ((gqChan n t).dir d).osc = false ∧ ((gqChan n t).dir d).oscLatched = false ∧ gqChan m t = gqChan m s) ∧
    (inWatch s = true → (gqDir c d s).net = true → 500 ≤ (gqDir c d s).netOkMs → Runs (.safetyNetRelease c d) s (fun t => (gqDir c d t).netOkMs = 0 ∧
      ((direction c d s).stab.state = .muted → (gqDir c d t).net = false))) ∧
    ((gqDir c d s).net = false → Rests (.safetyNetRelease c d) s)

/-- Every command answers a next state in every state, whatever its operands, but for a reset-end event with the straps of a production test, which
alone may stop (R2, R3). (00_scope.md, 16_pins_and_electrical.md) -/
def Obligations.EveryCommandCompletes : Prop :=
  ∀ (i : Instr) (s : State),
    ((∀ x : Straps, i ≠ .vauxValid x ∧ i ≠ .boardResetEnd x ∧ i ≠ .deviceResetFire x) → ∃ t, exec i s = .next t) ∧
    (∀ x : Straps, x.mode.toNat < 2 → (∃ t, exec (.vauxValid x) s = .next t) ∧ (∃ t, exec (.boardResetEnd x) s = .next t) ∧ (∃ t, exec (.deviceResetFire x) s = .next t))
end

