-- ==== Sys2Proof/Laws/State.lean ====
section
/-! SUPPORT. What each named change of one part of State leaves alone: one lemma per change and field, true by computation. -/

namespace Sys2Proof.Laws

open Sys2Proof.Machine

@[simp] theorem modRing_pending (r : Nat) (f : Ring → Ring) (s : State) : (modRing r f s).pending = s.pending := rfl
@[simp] theorem modRing_now (r : Nat) (f : Ring → Ring) (s : State) : (modRing r f s).now = s.now := rfl
@[simp] theorem modRing_slowTicks (r : Nat) (f : Ring → Ring) (s : State) : (modRing r f s).slowTicks = s.slowTicks := rfl
@[simp] theorem modRing_slowAt (r : Nat) (f : Ring → Ring) (s : State) : (modRing r f s).slowAt = s.slowAt := rfl
@[simp] theorem modRing_alcAt (r : Nat) (f : Ring → Ring) (s : State) : (modRing r f s).alcAt = s.alcAt := rfl
@[simp] theorem modRing_protWait (r : Nat) (f : Ring → Ring) (s : State) : (modRing r f s).protWait = s.protWait := rfl
@[simp] theorem modRing_opBase (r : Nat) (f : Ring → Ring) (s : State) : (modRing r f s).opBase = s.opBase := rfl
@[simp] theorem modRing_opFrac (r : Nat) (f : Ring → Ring) (s : State) : (modRing r f s).opFrac = s.opFrac := rfl
@[simp] theorem modRing_freeCtr (r : Nat) (f : Ring → Ring) (s : State) : (modRing r f s).freeCtr = s.freeCtr := rfl
@[simp] theorem modRing_tickets (r : Nat) (f : Ring → Ring) (s : State) : (modRing r f s).tickets = s.tickets := rfl
@[simp] theorem modRing_hif (r : Nat) (f : Ring → Ring) (s : State) : (modRing r f s).hif = { s.hif with rings := upd s.hif.rings r f } := rfl
@[simp] theorem modRing_links (r : Nat) (f : Ring → Ring) (s : State) : (modRing r f s).links = s.links := rfl
@[simp] theorem modRing_chans (r : Nat) (f : Ring → Ring) (s : State) : (modRing r f s).chans = s.chans := rfl
@[simp] theorem modRing_ports (r : Nat) (f : Ring → Ring) (s : State) : (modRing r f s).ports = s.ports := rfl
@[simp] theorem modRing_ladder (r : Nat) (f : Ring → Ring) (s : State) : (modRing r f s).ladder = s.ladder := rfl
@[simp] theorem modRing_ladderNext (r : Nat) (f : Ring → Ring) (s : State) : (modRing r f s).ladderNext = s.ladderNext := rfl
@[simp] theorem modRing_pool (r : Nat) (f : Ring → Ring) (s : State) : (modRing r f s).pool = s.pool := rfl
@[simp] theorem modRing_faults (r : Nat) (f : Ring → Ring) (s : State) : (modRing r f s).faults = s.faults := rfl
@[simp] theorem modRing_gb (r : Nat) (f : Ring → Ring) (s : State) : (modRing r f s).gb = s.gb := rfl
@[simp] theorem modRing_sys (r : Nat) (f : Ring → Ring) (s : State) : (modRing r f s).sys = s.sys := rfl
@[simp] theorem modRing_hr (r : Nat) (f : Ring → Ring) (s : State) : (modRing r f s).hr = s.hr := rfl
@[simp] theorem modRing_eng (r : Nat) (f : Ring → Ring) (s : State) : (modRing r f s).eng = s.eng := rfl
@[simp] theorem modRing_radio (r : Nat) (f : Ring → Ring) (s : State) : (modRing r f s).radio = s.radio := rfl
@[simp] theorem modRing_loops (r : Nat) (f : Ring → Ring) (s : State) : (modRing r f s).loops = s.loops := rfl
@[simp] theorem modRing_supply (r : Nat) (f : Ring → Ring) (s : State) : (modRing r f s).supply = s.supply := rfl
@[simp] theorem modRing_thermal (r : Nat) (f : Ring → Ring) (s : State) : (modRing r f s).thermal = s.thermal := rfl
@[simp] theorem modRing_fabric (r : Nat) (f : Ring → Ring) (s : State) : (modRing r f s).fabric = s.fabric := rfl
@[simp] theorem modRing_twin (r : Nat) (f : Ring → Ring) (s : State) : (modRing r f s).twin = s.twin := rfl
@[simp] theorem modRing_compat (r : Nat) (f : Ring → Ring) (s : State) : (modRing r f s).compat = s.compat := rfl
@[simp] theorem modRing_dbg (r : Nat) (f : Ring → Ring) (s : State) : (modRing r f s).dbg = s.dbg := rfl

@[simp] theorem modSource_pending (q : Nat) (f : Source → Source) (s : State) : (modSource q f s).pending = s.pending := rfl
@[simp] theorem modSource_now (q : Nat) (f : Source → Source) (s : State) : (modSource q f s).now = s.now := rfl
@[simp] theorem modSource_slowTicks (q : Nat) (f : Source → Source) (s : State) : (modSource q f s).slowTicks = s.slowTicks := rfl
@[simp] theorem modSource_slowAt (q : Nat) (f : Source → Source) (s : State) : (modSource q f s).slowAt = s.slowAt := rfl
@[simp] theorem modSource_alcAt (q : Nat) (f : Source → Source) (s : State) : (modSource q f s).alcAt = s.alcAt := rfl
@[simp] theorem modSource_protWait (q : Nat) (f : Source → Source) (s : State) : (modSource q f s).protWait = s.protWait := rfl
@[simp] theorem modSource_opBase (q : Nat) (f : Source → Source) (s : State) : (modSource q f s).opBase = s.opBase := rfl
@[simp] theorem modSource_opFrac (q : Nat) (f : Source → Source) (s : State) : (modSource q f s).opFrac = s.opFrac := rfl
@[simp] theorem modSource_freeCtr (q : Nat) (f : Source → Source) (s : State) : (modSource q f s).freeCtr = s.freeCtr := rfl
@[simp] theorem modSource_tickets (q : Nat) (f : Source → Source) (s : State) : (modSource q f s).tickets = s.tickets := rfl
@[simp] theorem modSource_hif (q : Nat) (f : Source → Source) (s : State) : (modSource q f s).hif = { s.hif with sources := upd s.hif.sources q f } := rfl
@[simp] theorem modSource_links (q : Nat) (f : Source → Source) (s : State) : (modSource q f s).links = s.links := rfl
@[simp] theorem modSource_chans (q : Nat) (f : Source → Source) (s : State) : (modSource q f s).chans = s.chans := rfl
@[simp] theorem modSource_ports (q : Nat) (f : Source → Source) (s : State) : (modSource q f s).ports = s.ports := rfl
@[simp] theorem modSource_ladder (q : Nat) (f : Source → Source) (s : State) : (modSource q f s).ladder = s.ladder := rfl
@[simp] theorem modSource_ladderNext (q : Nat) (f : Source → Source) (s : State) : (modSource q f s).ladderNext = s.ladderNext := rfl
@[simp] theorem modSource_pool (q : Nat) (f : Source → Source) (s : State) : (modSource q f s).pool = s.pool := rfl
@[simp] theorem modSource_faults (q : Nat) (f : Source → Source) (s : State) : (modSource q f s).faults = s.faults := rfl
@[simp] theorem modSource_gb (q : Nat) (f : Source → Source) (s : State) : (modSource q f s).gb = s.gb := rfl
@[simp] theorem modSource_sys (q : Nat) (f : Source → Source) (s : State) : (modSource q f s).sys = s.sys := rfl
@[simp] theorem modSource_hr (q : Nat) (f : Source → Source) (s : State) : (modSource q f s).hr = s.hr := rfl
@[simp] theorem modSource_eng (q : Nat) (f : Source → Source) (s : State) : (modSource q f s).eng = s.eng := rfl
@[simp] theorem modSource_radio (q : Nat) (f : Source → Source) (s : State) : (modSource q f s).radio = s.radio := rfl
@[simp] theorem modSource_loops (q : Nat) (f : Source → Source) (s : State) : (modSource q f s).loops = s.loops := rfl
@[simp] theorem modSource_supply (q : Nat) (f : Source → Source) (s : State) : (modSource q f s).supply = s.supply := rfl
@[simp] theorem modSource_thermal (q : Nat) (f : Source → Source) (s : State) : (modSource q f s).thermal = s.thermal := rfl
@[simp] theorem modSource_fabric (q : Nat) (f : Source → Source) (s : State) : (modSource q f s).fabric = s.fabric := rfl
@[simp] theorem modSource_twin (q : Nat) (f : Source → Source) (s : State) : (modSource q f s).twin = s.twin := rfl
@[simp] theorem modSource_compat (q : Nat) (f : Source → Source) (s : State) : (modSource q f s).compat = s.compat := rfl
@[simp] theorem modSource_dbg (q : Nat) (f : Source → Source) (s : State) : (modSource q f s).dbg = s.dbg := rfl

@[simp] theorem modHif_pending (f : HostIf → HostIf) (s : State) : (modHif f s).pending = s.pending := rfl
@[simp] theorem modHif_now (f : HostIf → HostIf) (s : State) : (modHif f s).now = s.now := rfl
@[simp] theorem modHif_slowTicks (f : HostIf → HostIf) (s : State) : (modHif f s).slowTicks = s.slowTicks := rfl
@[simp] theorem modHif_slowAt (f : HostIf → HostIf) (s : State) : (modHif f s).slowAt = s.slowAt := rfl
@[simp] theorem modHif_alcAt (f : HostIf → HostIf) (s : State) : (modHif f s).alcAt = s.alcAt := rfl
@[simp] theorem modHif_protWait (f : HostIf → HostIf) (s : State) : (modHif f s).protWait = s.protWait := rfl
@[simp] theorem modHif_opBase (f : HostIf → HostIf) (s : State) : (modHif f s).opBase = s.opBase := rfl
@[simp] theorem modHif_opFrac (f : HostIf → HostIf) (s : State) : (modHif f s).opFrac = s.opFrac := rfl
@[simp] theorem modHif_freeCtr (f : HostIf → HostIf) (s : State) : (modHif f s).freeCtr = s.freeCtr := rfl
@[simp] theorem modHif_tickets (f : HostIf → HostIf) (s : State) : (modHif f s).tickets = s.tickets := rfl
@[simp] theorem modHif_hif (f : HostIf → HostIf) (s : State) : (modHif f s).hif = f s.hif := rfl
@[simp] theorem modHif_links (f : HostIf → HostIf) (s : State) : (modHif f s).links = s.links := rfl
@[simp] theorem modHif_chans (f : HostIf → HostIf) (s : State) : (modHif f s).chans = s.chans := rfl
@[simp] theorem modHif_ports (f : HostIf → HostIf) (s : State) : (modHif f s).ports = s.ports := rfl
@[simp] theorem modHif_ladder (f : HostIf → HostIf) (s : State) : (modHif f s).ladder = s.ladder := rfl
@[simp] theorem modHif_ladderNext (f : HostIf → HostIf) (s : State) : (modHif f s).ladderNext = s.ladderNext := rfl
@[simp] theorem modHif_pool (f : HostIf → HostIf) (s : State) : (modHif f s).pool = s.pool := rfl
@[simp] theorem modHif_faults (f : HostIf → HostIf) (s : State) : (modHif f s).faults = s.faults := rfl
@[simp] theorem modHif_gb (f : HostIf → HostIf) (s : State) : (modHif f s).gb = s.gb := rfl
@[simp] theorem modHif_sys (f : HostIf → HostIf) (s : State) : (modHif f s).sys = s.sys := rfl
@[simp] theorem modHif_hr (f : HostIf → HostIf) (s : State) : (modHif f s).hr = s.hr := rfl
@[simp] theorem modHif_eng (f : HostIf → HostIf) (s : State) : (modHif f s).eng = s.eng := rfl
@[simp] theorem modHif_radio (f : HostIf → HostIf) (s : State) : (modHif f s).radio = s.radio := rfl
@[simp] theorem modHif_loops (f : HostIf → HostIf) (s : State) : (modHif f s).loops = s.loops := rfl
@[simp] theorem modHif_supply (f : HostIf → HostIf) (s : State) : (modHif f s).supply = s.supply := rfl
@[simp] theorem modHif_thermal (f : HostIf → HostIf) (s : State) : (modHif f s).thermal = s.thermal := rfl
@[simp] theorem modHif_fabric (f : HostIf → HostIf) (s : State) : (modHif f s).fabric = s.fabric := rfl
@[simp] theorem modHif_twin (f : HostIf → HostIf) (s : State) : (modHif f s).twin = s.twin := rfl
@[simp] theorem modHif_compat (f : HostIf → HostIf) (s : State) : (modHif f s).compat = s.compat := rfl
@[simp] theorem modHif_dbg (f : HostIf → HostIf) (s : State) : (modHif f s).dbg = s.dbg := rfl

@[simp] theorem modSession_pending (q : Nat) (f : Session → Session) (s : State) : (modSession q f s).pending = s.pending := rfl
@[simp] theorem modSession_now (q : Nat) (f : Session → Session) (s : State) : (modSession q f s).now = s.now := rfl
@[simp] theorem modSession_slowTicks (q : Nat) (f : Session → Session) (s : State) : (modSession q f s).slowTicks = s.slowTicks := rfl
@[simp] theorem modSession_slowAt (q : Nat) (f : Session → Session) (s : State) : (modSession q f s).slowAt = s.slowAt := rfl
@[simp] theorem modSession_alcAt (q : Nat) (f : Session → Session) (s : State) : (modSession q f s).alcAt = s.alcAt := rfl
@[simp] theorem modSession_protWait (q : Nat) (f : Session → Session) (s : State) : (modSession q f s).protWait = s.protWait := rfl
@[simp] theorem modSession_opBase (q : Nat) (f : Session → Session) (s : State) : (modSession q f s).opBase = s.opBase := rfl
@[simp] theorem modSession_opFrac (q : Nat) (f : Session → Session) (s : State) : (modSession q f s).opFrac = s.opFrac := rfl
@[simp] theorem modSession_freeCtr (q : Nat) (f : Session → Session) (s : State) : (modSession q f s).freeCtr = s.freeCtr := rfl
@[simp] theorem modSession_tickets (q : Nat) (f : Session → Session) (s : State) : (modSession q f s).tickets = s.tickets := rfl
@[simp] theorem modSession_links (q : Nat) (f : Session → Session) (s : State) : (modSession q f s).links = s.links := rfl
@[simp] theorem modSession_chans (q : Nat) (f : Session → Session) (s : State) : (modSession q f s).chans = s.chans := rfl
@[simp] theorem modSession_ports (q : Nat) (f : Session → Session) (s : State) : (modSession q f s).ports = s.ports := rfl
@[simp] theorem modSession_ladder (q : Nat) (f : Session → Session) (s : State) : (modSession q f s).ladder = s.ladder := rfl
@[simp] theorem modSession_ladderNext (q : Nat) (f : Session → Session) (s : State) : (modSession q f s).ladderNext = s.ladderNext := rfl
@[simp] theorem modSession_pool (q : Nat) (f : Session → Session) (s : State) : (modSession q f s).pool = s.pool := rfl
@[simp] theorem modSession_faults (q : Nat) (f : Session → Session) (s : State) : (modSession q f s).faults = s.faults := rfl
@[simp] theorem modSession_gb (q : Nat) (f : Session → Session) (s : State) : (modSession q f s).gb = s.gb := rfl
@[simp] theorem modSession_sys (q : Nat) (f : Session → Session) (s : State) : (modSession q f s).sys = s.sys := rfl
@[simp] theorem modSession_hr (q : Nat) (f : Session → Session) (s : State) : (modSession q f s).hr = s.hr := rfl
@[simp] theorem modSession_eng (q : Nat) (f : Session → Session) (s : State) : (modSession q f s).eng = s.eng := rfl
@[simp] theorem modSession_radio (q : Nat) (f : Session → Session) (s : State) : (modSession q f s).radio = s.radio := rfl
@[simp] theorem modSession_loops (q : Nat) (f : Session → Session) (s : State) : (modSession q f s).loops = s.loops := rfl
@[simp] theorem modSession_supply (q : Nat) (f : Session → Session) (s : State) : (modSession q f s).supply = s.supply := rfl
@[simp] theorem modSession_thermal (q : Nat) (f : Session → Session) (s : State) : (modSession q f s).thermal = s.thermal := rfl
@[simp] theorem modSession_fabric (q : Nat) (f : Session → Session) (s : State) : (modSession q f s).fabric = s.fabric := rfl
@[simp] theorem modSession_twin (q : Nat) (f : Session → Session) (s : State) : (modSession q f s).twin = s.twin := rfl
@[simp] theorem modSession_compat (q : Nat) (f : Session → Session) (s : State) : (modSession q f s).compat = s.compat := rfl
@[simp] theorem modSession_dbg (q : Nat) (f : Session → Session) (s : State) : (modSession q f s).dbg = s.dbg := rfl

@[simp] theorem modLinks_pending (f : Links → Links) (s : State) : (modLinks f s).pending = s.pending := rfl
@[simp] theorem modLinks_now (f : Links → Links) (s : State) : (modLinks f s).now = s.now := rfl
@[simp] theorem modLinks_slowTicks (f : Links → Links) (s : State) : (modLinks f s).slowTicks = s.slowTicks := rfl
@[simp] theorem modLinks_slowAt (f : Links → Links) (s : State) : (modLinks f s).slowAt = s.slowAt := rfl
@[simp] theorem modLinks_alcAt (f : Links → Links) (s : State) : (modLinks f s).alcAt = s.alcAt := rfl
@[simp] theorem modLinks_protWait (f : Links → Links) (s : State) : (modLinks f s).protWait = s.protWait := rfl
@[simp] theorem modLinks_opBase (f : Links → Links) (s : State) : (modLinks f s).opBase = s.opBase := rfl
@[simp] theorem modLinks_opFrac (f : Links → Links) (s : State) : (modLinks f s).opFrac = s.opFrac := rfl
@[simp] theorem modLinks_freeCtr (f : Links → Links) (s : State) : (modLinks f s).freeCtr = s.freeCtr := rfl
@[simp] theorem modLinks_tickets (f : Links → Links) (s : State) : (modLinks f s).tickets = s.tickets := rfl
@[simp] theorem modLinks_hif (f : Links → Links) (s : State) : (modLinks f s).hif = s.hif := rfl
@[simp] theorem modLinks_links (f : Links → Links) (s : State) : (modLinks f s).links = f s.links := rfl
@[simp] theorem modLinks_chans (f : Links → Links) (s : State) : (modLinks f s).chans = s.chans := rfl
@[simp] theorem modLinks_ports (f : Links → Links) (s : State) : (modLinks f s).ports = s.ports := rfl
@[simp] theorem modLinks_ladder (f : Links → Links) (s : State) : (modLinks f s).ladder = s.ladder := rfl
@[simp] theorem modLinks_ladderNext (f : Links → Links) (s : State) : (modLinks f s).ladderNext = s.ladderNext := rfl
@[simp] theorem modLinks_pool (f : Links → Links) (s : State) : (modLinks f s).pool = s.pool := rfl
@[simp] theorem modLinks_faults (f : Links → Links) (s : State) : (modLinks f s).faults = s.faults := rfl
@[simp] theorem modLinks_gb (f : Links → Links) (s : State) : (modLinks f s).gb = s.gb := rfl
@[simp] theorem modLinks_sys (f : Links → Links) (s : State) : (modLinks f s).sys = s.sys := rfl
@[simp] theorem modLinks_hr (f : Links → Links) (s : State) : (modLinks f s).hr = s.hr := rfl
@[simp] theorem modLinks_eng (f : Links → Links) (s : State) : (modLinks f s).eng = s.eng := rfl
@[simp] theorem modLinks_radio (f : Links → Links) (s : State) : (modLinks f s).radio = s.radio := rfl
@[simp] theorem modLinks_loops (f : Links → Links) (s : State) : (modLinks f s).loops = s.loops := rfl
@[simp] theorem modLinks_supply (f : Links → Links) (s : State) : (modLinks f s).supply = s.supply := rfl
@[simp] theorem modLinks_thermal (f : Links → Links) (s : State) : (modLinks f s).thermal = s.thermal := rfl
@[simp] theorem modLinks_fabric (f : Links → Links) (s : State) : (modLinks f s).fabric = s.fabric := rfl
@[simp] theorem modLinks_twin (f : Links → Links) (s : State) : (modLinks f s).twin = s.twin := rfl
@[simp] theorem modLinks_compat (f : Links → Links) (s : State) : (modLinks f s).compat = s.compat := rfl
@[simp] theorem modLinks_dbg (f : Links → Links) (s : State) : (modLinks f s).dbg = s.dbg := rfl

@[simp] theorem modChan_pending (c : Fin 64) (f : Channel → Channel) (s : State) : (modChan c f s).pending = s.pending := rfl
@[simp] theorem modChan_now (c : Fin 64) (f : Channel → Channel) (s : State) : (modChan c f s).now = s.now := rfl
@[simp] theorem modChan_slowTicks (c : Fin 64) (f : Channel → Channel) (s : State) : (modChan c f s).slowTicks = s.slowTicks := rfl
@[simp] theorem modChan_slowAt (c : Fin 64) (f : Channel → Channel) (s : State) : (modChan c f s).slowAt = s.slowAt := rfl
@[simp] theorem modChan_alcAt (c : Fin 64) (f : Channel → Channel) (s : State) : (modChan c f s).alcAt = s.alcAt := rfl
@[simp] theorem modChan_protWait (c : Fin 64) (f : Channel → Channel) (s : State) : (modChan c f s).protWait = s.protWait := rfl
@[simp] theorem modChan_opBase (c : Fin 64) (f : Channel → Channel) (s : State) : (modChan c f s).opBase = s.opBase := rfl
@[simp] theorem modChan_opFrac (c : Fin 64) (f : Channel → Channel) (s : State) : (modChan c f s).opFrac = s.opFrac := rfl
@[simp] theorem modChan_freeCtr (c : Fin 64) (f : Channel → Channel) (s : State) : (modChan c f s).freeCtr = s.freeCtr := rfl
@[simp] theorem modChan_tickets (c : Fin 64) (f : Channel → Channel) (s : State) : (modChan c f s).tickets = s.tickets := rfl
@[simp] theorem modChan_hif (c : Fin 64) (f : Channel → Channel) (s : State) : (modChan c f s).hif = s.hif := rfl
@[simp] theorem modChan_links (c : Fin 64) (f : Channel → Channel) (s : State) : (modChan c f s).links = s.links := rfl
@[simp] theorem modChan_chans (c : Fin 64) (f : Channel → Channel) (s : State) : (modChan c f s).chans = s.chans.set c (f s.chans[c]) := rfl
@[simp] theorem modChan_ports (c : Fin 64) (f : Channel → Channel) (s : State) : (modChan c f s).ports = s.ports := rfl
@[simp] theorem modChan_ladder (c : Fin 64) (f : Channel → Channel) (s : State) : (modChan c f s).ladder = s.ladder := rfl
@[simp] theorem modChan_ladderNext (c : Fin 64) (f : Channel → Channel) (s : State) : (modChan c f s).ladderNext = s.ladderNext := rfl
@[simp] theorem modChan_pool (c : Fin 64) (f : Channel → Channel) (s : State) : (modChan c f s).pool = s.pool := rfl
@[simp] theorem modChan_faults (c : Fin 64) (f : Channel → Channel) (s : State) : (modChan c f s).faults = s.faults := rfl
@[simp] theorem modChan_gb (c : Fin 64) (f : Channel → Channel) (s : State) : (modChan c f s).gb = s.gb := rfl
@[simp] theorem modChan_sys (c : Fin 64) (f : Channel → Channel) (s : State) : (modChan c f s).sys = s.sys := rfl
@[simp] theorem modChan_hr (c : Fin 64) (f : Channel → Channel) (s : State) : (modChan c f s).hr = s.hr := rfl
@[simp] theorem modChan_eng (c : Fin 64) (f : Channel → Channel) (s : State) : (modChan c f s).eng = s.eng := rfl
@[simp] theorem modChan_radio (c : Fin 64) (f : Channel → Channel) (s : State) : (modChan c f s).radio = s.radio := rfl
@[simp] theorem modChan_loops (c : Fin 64) (f : Channel → Channel) (s : State) : (modChan c f s).loops = s.loops := rfl
@[simp] theorem modChan_supply (c : Fin 64) (f : Channel → Channel) (s : State) : (modChan c f s).supply = s.supply := rfl
@[simp] theorem modChan_thermal (c : Fin 64) (f : Channel → Channel) (s : State) : (modChan c f s).thermal = s.thermal := rfl
@[simp] theorem modChan_fabric (c : Fin 64) (f : Channel → Channel) (s : State) : (modChan c f s).fabric = s.fabric := rfl
@[simp] theorem modChan_twin (c : Fin 64) (f : Channel → Channel) (s : State) : (modChan c f s).twin = s.twin := rfl
@[simp] theorem modChan_compat (c : Fin 64) (f : Channel → Channel) (s : State) : (modChan c f s).compat = s.compat := rfl
@[simp] theorem modChan_dbg (c : Fin 64) (f : Channel → Channel) (s : State) : (modChan c f s).dbg = s.dbg := rfl

@[simp] theorem modDir_pending (c : Fin 64) (d : Dir) (f : Direction → Direction) (s : State) : (modDir c d f s).pending = s.pending := rfl
@[simp] theorem modDir_now (c : Fin 64) (d : Dir) (f : Direction → Direction) (s : State) : (modDir c d f s).now = s.now := rfl
@[simp] theorem modDir_slowTicks (c : Fin 64) (d : Dir) (f : Direction → Direction) (s : State) : (modDir c d f s).slowTicks = s.slowTicks := rfl
@[simp] theorem modDir_slowAt (c : Fin 64) (d : Dir) (f : Direction → Direction) (s : State) : (modDir c d f s).slowAt = s.slowAt := rfl
@[simp] theorem modDir_alcAt (c : Fin 64) (d : Dir) (f : Direction → Direction) (s : State) : (modDir c d f s).alcAt = s.alcAt := rfl
@[simp] theorem modDir_protWait (c : Fin 64) (d : Dir) (f : Direction → Direction) (s : State) : (modDir c d f s).protWait = s.protWait := rfl
@[simp] theorem modDir_opBase (c : Fin 64) (d : Dir) (f : Direction → Direction) (s : State) : (modDir c d f s).opBase = s.opBase := rfl
@[simp] theorem modDir_opFrac (c : Fin 64) (d : Dir) (f : Direction → Direction) (s : State) : (modDir c d f s).opFrac = s.opFrac := rfl
@[simp] theorem modDir_freeCtr (c : Fin 64) (d : Dir) (f : Direction → Direction) (s : State) : (modDir c d f s).freeCtr = s.freeCtr := rfl
@[simp] theorem modDir_tickets (c : Fin 64) (d : Dir) (f : Direction → Direction) (s : State) : (modDir c d f s).tickets = s.tickets := rfl
@[simp] theorem modDir_hif (c : Fin 64) (d : Dir) (f : Direction → Direction) (s : State) : (modDir c d f s).hif = s.hif := rfl
@[simp] theorem modDir_links (c : Fin 64) (d : Dir) (f : Direction → Direction) (s : State) : (modDir c d f s).links = s.links := rfl
@[simp] theorem modDir_ports (c : Fin 64) (d : Dir) (f : Direction → Direction) (s : State) : (modDir c d f s).ports = s.ports := rfl
@[simp] theorem modDir_ladder (c : Fin 64) (d : Dir) (f : Direction → Direction) (s : State) : (modDir c d f s).ladder = s.ladder := rfl
@[simp] theorem modDir_ladderNext (c : Fin 64) (d : Dir) (f : Direction → Direction) (s : State) : (modDir c d f s).ladderNext = s.ladderNext := rfl
@[simp] theorem modDir_pool (c : Fin 64) (d : Dir) (f : Direction → Direction) (s : State) : (modDir c d f s).pool = s.pool := rfl
@[simp] theorem modDir_faults (c : Fin 64) (d : Dir) (f : Direction → Direction) (s : State) : (modDir c d f s).faults = s.faults := rfl
@[simp] theorem modDir_gb (c : Fin 64) (d : Dir) (f : Direction → Direction) (s : State) : (modDir c d f s).gb = s.gb := rfl
@[simp] theorem modDir_sys (c : Fin 64) (d : Dir) (f : Direction → Direction) (s : State) : (modDir c d f s).sys = s.sys := rfl
@[simp] theorem modDir_hr (c : Fin 64) (d : Dir) (f : Direction → Direction) (s : State) : (modDir c d f s).hr = s.hr := rfl
@[simp] theorem modDir_eng (c : Fin 64) (d : Dir) (f : Direction → Direction) (s : State) : (modDir c d f s).eng = s.eng := rfl
@[simp] theorem modDir_radio (c : Fin 64) (d : Dir) (f : Direction → Direction) (s : State) : (modDir c d f s).radio = s.radio := rfl
@[simp] theorem modDir_loops (c : Fin 64) (d : Dir) (f : Direction → Direction) (s : State) : (modDir c d f s).loops = s.loops := rfl
@[simp] theorem modDir_supply (c : Fin 64) (d : Dir) (f : Direction → Direction) (s : State) : (modDir c d f s).supply = s.supply := rfl
@[simp] theorem modDir_thermal (c : Fin 64) (d : Dir) (f : Direction → Direction) (s : State) : (modDir c d f s).thermal = s.thermal := rfl
@[simp] theorem modDir_fabric (c : Fin 64) (d : Dir) (f : Direction → Direction) (s : State) : (modDir c d f s).fabric = s.fabric := rfl
@[simp] theorem modDir_twin (c : Fin 64) (d : Dir) (f : Direction → Direction) (s : State) : (modDir c d f s).twin = s.twin := rfl
@[simp] theorem modDir_compat (c : Fin 64) (d : Dir) (f : Direction → Direction) (s : State) : (modDir c d f s).compat = s.compat := rfl
@[simp] theorem modDir_dbg (c : Fin 64) (d : Dir) (f : Direction → Direction) (s : State) : (modDir c d f s).dbg = s.dbg := rfl

@[simp] theorem modGain_pending (c : Fin 64) (d : Dir) (f : GainState → GainState) (s : State) : (modGain c d f s).pending = s.pending := rfl
@[simp] theorem modGain_now (c : Fin 64) (d : Dir) (f : GainState → GainState) (s : State) : (modGain c d f s).now = s.now := rfl
@[simp] theorem modGain_slowTicks (c : Fin 64) (d : Dir) (f : GainState → GainState) (s : State) : (modGain c d f s).slowTicks = s.slowTicks := rfl
@[simp] theorem modGain_slowAt (c : Fin 64) (d : Dir) (f : GainState → GainState) (s : State) : (modGain c d f s).slowAt = s.slowAt := rfl
@[simp] theorem modGain_alcAt (c : Fin 64) (d : Dir) (f : GainState → GainState) (s : State) : (modGain c d f s).alcAt = s.alcAt := rfl
@[simp] theorem modGain_protWait (c : Fin 64) (d : Dir) (f : GainState → GainState) (s : State) : (modGain c d f s).protWait = s.protWait := rfl
@[simp] theorem modGain_opBase (c : Fin 64) (d : Dir) (f : GainState → GainState) (s : State) : (modGain c d f s).opBase = s.opBase := rfl
@[simp] theorem modGain_opFrac (c : Fin 64) (d : Dir) (f : GainState → GainState) (s : State) : (modGain c d f s).opFrac = s.opFrac := rfl
@[simp] theorem modGain_freeCtr (c : Fin 64) (d : Dir) (f : GainState → GainState) (s : State) : (modGain c d f s).freeCtr = s.freeCtr := rfl
@[simp] theorem modGain_tickets (c : Fin 64) (d : Dir) (f : GainState → GainState) (s : State) : (modGain c d f s).tickets = s.tickets := rfl
@[simp] theorem modGain_hif (c : Fin 64) (d : Dir) (f : GainState → GainState) (s : State) : (modGain c d f s).hif = s.hif := rfl
@[simp] theorem modGain_links (c : Fin 64) (d : Dir) (f : GainState → GainState) (s : State) : (modGain c d f s).links = s.links := rfl
@[simp] theorem modGain_ports (c : Fin 64) (d : Dir) (f : GainState → GainState) (s : State) : (modGain c d f s).ports = s.ports := rfl
@[simp] theorem modGain_ladder (c : Fin 64) (d : Dir) (f : GainState → GainState) (s : State) : (modGain c d f s).ladder = s.ladder := rfl
@[simp] theorem modGain_ladderNext (c : Fin 64) (d : Dir) (f : GainState → GainState) (s : State) : (modGain c d f s).ladderNext = s.ladderNext := rfl
@[simp] theorem modGain_pool (c : Fin 64) (d : Dir) (f : GainState → GainState) (s : State) : (modGain c d f s).pool = s.pool := rfl
@[simp] theorem modGain_faults (c : Fin 64) (d : Dir) (f : GainState → GainState) (s : State) : (modGain c d f s).faults = s.faults := rfl
@[simp] theorem modGain_gb (c : Fin 64) (d : Dir) (f : GainState → GainState) (s : State) : (modGain c d f s).gb = s.gb := rfl
@[simp] theorem modGain_sys (c : Fin 64) (d : Dir) (f : GainState → GainState) (s : State) : (modGain c d f s).sys = s.sys := rfl
@[simp] theorem modGain_hr (c : Fin 64) (d : Dir) (f : GainState → GainState) (s : State) : (modGain c d f s).hr = s.hr := rfl
@[simp] theorem modGain_eng (c : Fin 64) (d : Dir) (f : GainState → GainState) (s : State) : (modGain c d f s).eng = s.eng := rfl
@[simp] theorem modGain_radio (c : Fin 64) (d : Dir) (f : GainState → GainState) (s : State) : (modGain c d f s).radio = s.radio := rfl
@[simp] theorem modGain_loops (c : Fin 64) (d : Dir) (f : GainState → GainState) (s : State) : (modGain c d f s).loops = s.loops := rfl
@[simp] theorem modGain_supply (c : Fin 64) (d : Dir) (f : GainState → GainState) (s : State) : (modGain c d f s).supply = s.supply := rfl
@[simp] theorem modGain_thermal (c : Fin 64) (d : Dir) (f : GainState → GainState) (s : State) : (modGain c d f s).thermal = s.thermal := rfl
@[simp] theorem modGain_fabric (c : Fin 64) (d : Dir) (f : GainState → GainState) (s : State) : (modGain c d f s).fabric = s.fabric := rfl
@[simp] theorem modGain_twin (c : Fin 64) (d : Dir) (f : GainState → GainState) (s : State) : (modGain c d f s).twin = s.twin := rfl
@[simp] theorem modGain_compat (c : Fin 64) (d : Dir) (f : GainState → GainState) (s : State) : (modGain c d f s).compat = s.compat := rfl
@[simp] theorem modGain_dbg (c : Fin 64) (d : Dir) (f : GainState → GainState) (s : State) : (modGain c d f s).dbg = s.dbg := rfl

@[simp] theorem modStab_pending (c : Fin 64) (d : Dir) (f : Stability → Stability) (s : State) : (modStab c d f s).pending = s.pending := rfl
@[simp] theorem modStab_now (c : Fin 64) (d : Dir) (f : Stability → Stability) (s : State) : (modStab c d f s).now = s.now := rfl
@[simp] theorem modStab_slowTicks (c : Fin 64) (d : Dir) (f : Stability → Stability) (s : State) : (modStab c d f s).slowTicks = s.slowTicks := rfl
@[simp] theorem modStab_slowAt (c : Fin 64) (d : Dir) (f : Stability → Stability) (s : State) : (modStab c d f s).slowAt = s.slowAt := rfl
@[simp] theorem modStab_alcAt (c : Fin 64) (d : Dir) (f : Stability → Stability) (s : State) : (modStab c d f s).alcAt = s.alcAt := rfl
@[simp] theorem modStab_protWait (c : Fin 64) (d : Dir) (f : Stability → Stability) (s : State) : (modStab c d f s).protWait = s.protWait := rfl
@[simp] theorem modStab_opBase (c : Fin 64) (d : Dir) (f : Stability → Stability) (s : State) : (modStab c d f s).opBase = s.opBase := rfl
@[simp] theorem modStab_opFrac (c : Fin 64) (d : Dir) (f : Stability → Stability) (s : State) : (modStab c d f s).opFrac = s.opFrac := rfl
@[simp] theorem modStab_freeCtr (c : Fin 64) (d : Dir) (f : Stability → Stability) (s : State) : (modStab c d f s).freeCtr = s.freeCtr := rfl
@[simp] theorem modStab_tickets (c : Fin 64) (d : Dir) (f : Stability → Stability) (s : State) : (modStab c d f s).tickets = s.tickets := rfl
@[simp] theorem modStab_hif (c : Fin 64) (d : Dir) (f : Stability → Stability) (s : State) : (modStab c d f s).hif = s.hif := rfl
@[simp] theorem modStab_links (c : Fin 64) (d : Dir) (f : Stability → Stability) (s : State) : (modStab c d f s).links = s.links := rfl
@[simp] theorem modStab_ports (c : Fin 64) (d : Dir) (f : Stability → Stability) (s : State) : (modStab c d f s).ports = s.ports := rfl
@[simp] theorem modStab_ladder (c : Fin 64) (d : Dir) (f : Stability → Stability) (s : State) : (modStab c d f s).ladder = s.ladder := rfl
@[simp] theorem modStab_ladderNext (c : Fin 64) (d : Dir) (f : Stability → Stability) (s : State) : (modStab c d f s).ladderNext = s.ladderNext := rfl
@[simp] theorem modStab_pool (c : Fin 64) (d : Dir) (f : Stability → Stability) (s : State) : (modStab c d f s).pool = s.pool := rfl
@[simp] theorem modStab_faults (c : Fin 64) (d : Dir) (f : Stability → Stability) (s : State) : (modStab c d f s).faults = s.faults := rfl
@[simp] theorem modStab_gb (c : Fin 64) (d : Dir) (f : Stability → Stability) (s : State) : (modStab c d f s).gb = s.gb := rfl
@[simp] theorem modStab_sys (c : Fin 64) (d : Dir) (f : Stability → Stability) (s : State) : (modStab c d f s).sys = s.sys := rfl
@[simp] theorem modStab_hr (c : Fin 64) (d : Dir) (f : Stability → Stability) (s : State) : (modStab c d f s).hr = s.hr := rfl
@[simp] theorem modStab_eng (c : Fin 64) (d : Dir) (f : Stability → Stability) (s : State) : (modStab c d f s).eng = s.eng := rfl
@[simp] theorem modStab_radio (c : Fin 64) (d : Dir) (f : Stability → Stability) (s : State) : (modStab c d f s).radio = s.radio := rfl
@[simp] theorem modStab_loops (c : Fin 64) (d : Dir) (f : Stability → Stability) (s : State) : (modStab c d f s).loops = s.loops := rfl
@[simp] theorem modStab_supply (c : Fin 64) (d : Dir) (f : Stability → Stability) (s : State) : (modStab c d f s).supply = s.supply := rfl
@[simp] theorem modStab_thermal (c : Fin 64) (d : Dir) (f : Stability → Stability) (s : State) : (modStab c d f s).thermal = s.thermal := rfl
@[simp] theorem modStab_fabric (c : Fin 64) (d : Dir) (f : Stability → Stability) (s : State) : (modStab c d f s).fabric = s.fabric := rfl
@[simp] theorem modStab_twin (c : Fin 64) (d : Dir) (f : Stability → Stability) (s : State) : (modStab c d f s).twin = s.twin := rfl
@[simp] theorem modStab_compat (c : Fin 64) (d : Dir) (f : Stability → Stability) (s : State) : (modStab c d f s).compat = s.compat := rfl
@[simp] theorem modStab_dbg (c : Fin 64) (d : Dir) (f : Stability → Stability) (s : State) : (modStab c d f s).dbg = s.dbg := rfl

@[simp] theorem modMeter_pending (c : Fin 64) (d : Dir) (f : Meter → Meter) (s : State) : (modMeter c d f s).pending = s.pending := rfl
@[simp] theorem modMeter_now (c : Fin 64) (d : Dir) (f : Meter → Meter) (s : State) : (modMeter c d f s).now = s.now := rfl
@[simp] theorem modMeter_slowTicks (c : Fin 64) (d : Dir) (f : Meter → Meter) (s : State) : (modMeter c d f s).slowTicks = s.slowTicks := rfl
@[simp] theorem modMeter_slowAt (c : Fin 64) (d : Dir) (f : Meter → Meter) (s : State) : (modMeter c d f s).slowAt = s.slowAt := rfl
@[simp] theorem modMeter_alcAt (c : Fin 64) (d : Dir) (f : Meter → Meter) (s : State) : (modMeter c d f s).alcAt = s.alcAt := rfl
@[simp] theorem modMeter_protWait (c : Fin 64) (d : Dir) (f : Meter → Meter) (s : State) : (modMeter c d f s).protWait = s.protWait := rfl
@[simp] theorem modMeter_opBase (c : Fin 64) (d : Dir) (f : Meter → Meter) (s : State) : (modMeter c d f s).opBase = s.opBase := rfl
@[simp] theorem modMeter_opFrac (c : Fin 64) (d : Dir) (f : Meter → Meter) (s : State) : (modMeter c d f s).opFrac = s.opFrac := rfl
@[simp] theorem modMeter_freeCtr (c : Fin 64) (d : Dir) (f : Meter → Meter) (s : State) : (modMeter c d f s).freeCtr = s.freeCtr := rfl
@[simp] theorem modMeter_tickets (c : Fin 64) (d : Dir) (f : Meter → Meter) (s : State) : (modMeter c d f s).tickets = s.tickets := rfl
@[simp] theorem modMeter_hif (c : Fin 64) (d : Dir) (f : Meter → Meter) (s : State) : (modMeter c d f s).hif = s.hif := rfl
@[simp] theorem modMeter_links (c : Fin 64) (d : Dir) (f : Meter → Meter) (s : State) : (modMeter c d f s).links = s.links := rfl
@[simp] theorem modMeter_ports (c : Fin 64) (d : Dir) (f : Meter → Meter) (s : State) : (modMeter c d f s).ports = s.ports := rfl
@[simp] theorem modMeter_ladder (c : Fin 64) (d : Dir) (f : Meter → Meter) (s : State) : (modMeter c d f s).ladder = s.ladder := rfl
@[simp] theorem modMeter_ladderNext (c : Fin 64) (d : Dir) (f : Meter → Meter) (s : State) : (modMeter c d f s).ladderNext = s.ladderNext := rfl
@[simp] theorem modMeter_pool (c : Fin 64) (d : Dir) (f : Meter → Meter) (s : State) : (modMeter c d f s).pool = s.pool := rfl
@[simp] theorem modMeter_faults (c : Fin 64) (d : Dir) (f : Meter → Meter) (s : State) : (modMeter c d f s).faults = s.faults := rfl
@[simp] theorem modMeter_gb (c : Fin 64) (d : Dir) (f : Meter → Meter) (s : State) : (modMeter c d f s).gb = s.gb := rfl
@[simp] theorem modMeter_sys (c : Fin 64) (d : Dir) (f : Meter → Meter) (s : State) : (modMeter c d f s).sys = s.sys := rfl
@[simp] theorem modMeter_hr (c : Fin 64) (d : Dir) (f : Meter → Meter) (s : State) : (modMeter c d f s).hr = s.hr := rfl
@[simp] theorem modMeter_eng (c : Fin 64) (d : Dir) (f : Meter → Meter) (s : State) : (modMeter c d f s).eng = s.eng := rfl
@[simp] theorem modMeter_radio (c : Fin 64) (d : Dir) (f : Meter → Meter) (s : State) : (modMeter c d f s).radio = s.radio := rfl
@[simp] theorem modMeter_loops (c : Fin 64) (d : Dir) (f : Meter → Meter) (s : State) : (modMeter c d f s).loops = s.loops := rfl
@[simp] theorem modMeter_supply (c : Fin 64) (d : Dir) (f : Meter → Meter) (s : State) : (modMeter c d f s).supply = s.supply := rfl
@[simp] theorem modMeter_thermal (c : Fin 64) (d : Dir) (f : Meter → Meter) (s : State) : (modMeter c d f s).thermal = s.thermal := rfl
@[simp] theorem modMeter_fabric (c : Fin 64) (d : Dir) (f : Meter → Meter) (s : State) : (modMeter c d f s).fabric = s.fabric := rfl
@[simp] theorem modMeter_twin (c : Fin 64) (d : Dir) (f : Meter → Meter) (s : State) : (modMeter c d f s).twin = s.twin := rfl
@[simp] theorem modMeter_compat (c : Fin 64) (d : Dir) (f : Meter → Meter) (s : State) : (modMeter c d f s).compat = s.compat := rfl
@[simp] theorem modMeter_dbg (c : Fin 64) (d : Dir) (f : Meter → Meter) (s : State) : (modMeter c d f s).dbg = s.dbg := rfl

@[simp] theorem modGq_pending (c : Fin 64) (d : Dir) (f : GqDir → GqDir) (s : State) : (modGq c d f s).pending = s.pending := rfl
@[simp] theorem modGq_now (c : Fin 64) (d : Dir) (f : GqDir → GqDir) (s : State) : (modGq c d f s).now = s.now := rfl
@[simp] theorem modGq_slowTicks (c : Fin 64) (d : Dir) (f : GqDir → GqDir) (s : State) : (modGq c d f s).slowTicks = s.slowTicks := rfl
@[simp] theorem modGq_slowAt (c : Fin 64) (d : Dir) (f : GqDir → GqDir) (s : State) : (modGq c d f s).slowAt = s.slowAt := rfl
@[simp] theorem modGq_alcAt (c : Fin 64) (d : Dir) (f : GqDir → GqDir) (s : State) : (modGq c d f s).alcAt = s.alcAt := rfl
@[simp] theorem modGq_protWait (c : Fin 64) (d : Dir) (f : GqDir → GqDir) (s : State) : (modGq c d f s).protWait = s.protWait := rfl
@[simp] theorem modGq_opBase (c : Fin 64) (d : Dir) (f : GqDir → GqDir) (s : State) : (modGq c d f s).opBase = s.opBase := rfl
@[simp] theorem modGq_opFrac (c : Fin 64) (d : Dir) (f : GqDir → GqDir) (s : State) : (modGq c d f s).opFrac = s.opFrac := rfl
@[simp] theorem modGq_freeCtr (c : Fin 64) (d : Dir) (f : GqDir → GqDir) (s : State) : (modGq c d f s).freeCtr = s.freeCtr := rfl
@[simp] theorem modGq_tickets (c : Fin 64) (d : Dir) (f : GqDir → GqDir) (s : State) : (modGq c d f s).tickets = s.tickets := rfl
@[simp] theorem modGq_hif (c : Fin 64) (d : Dir) (f : GqDir → GqDir) (s : State) : (modGq c d f s).hif = s.hif := rfl
@[simp] theorem modGq_links (c : Fin 64) (d : Dir) (f : GqDir → GqDir) (s : State) : (modGq c d f s).links = s.links := rfl
@[simp] theorem modGq_chans (c : Fin 64) (d : Dir) (f : GqDir → GqDir) (s : State) : (modGq c d f s).chans = s.chans := rfl
@[simp] theorem modGq_ports (c : Fin 64) (d : Dir) (f : GqDir → GqDir) (s : State) : (modGq c d f s).ports = s.ports := rfl
@[simp] theorem modGq_ladder (c : Fin 64) (d : Dir) (f : GqDir → GqDir) (s : State) : (modGq c d f s).ladder = s.ladder := rfl
@[simp] theorem modGq_ladderNext (c : Fin 64) (d : Dir) (f : GqDir → GqDir) (s : State) : (modGq c d f s).ladderNext = s.ladderNext := rfl
@[simp] theorem modGq_pool (c : Fin 64) (d : Dir) (f : GqDir → GqDir) (s : State) : (modGq c d f s).pool = s.pool := rfl
@[simp] theorem modGq_faults (c : Fin 64) (d : Dir) (f : GqDir → GqDir) (s : State) : (modGq c d f s).faults = s.faults := rfl
@[simp] theorem modGq_gb (c : Fin 64) (d : Dir) (f : GqDir → GqDir) (s : State) : (modGq c d f s).gb = s.gb := rfl
@[simp] theorem modGq_sys (c : Fin 64) (d : Dir) (f : GqDir → GqDir) (s : State) : (modGq c d f s).sys = s.sys := rfl
@[simp] theorem modGq_hr (c : Fin 64) (d : Dir) (f : GqDir → GqDir) (s : State) : (modGq c d f s).hr = s.hr := rfl
@[simp] theorem modGq_eng (c : Fin 64) (d : Dir) (f : GqDir → GqDir) (s : State) : (modGq c d f s).eng = s.eng := rfl
@[simp] theorem modGq_radio (c : Fin 64) (d : Dir) (f : GqDir → GqDir) (s : State) : (modGq c d f s).radio = s.radio := rfl
@[simp] theorem modGq_loops (c : Fin 64) (d : Dir) (f : GqDir → GqDir) (s : State) : (modGq c d f s).loops = s.loops := rfl
@[simp] theorem modGq_supply (c : Fin 64) (d : Dir) (f : GqDir → GqDir) (s : State) : (modGq c d f s).supply = s.supply := rfl
@[simp] theorem modGq_thermal (c : Fin 64) (d : Dir) (f : GqDir → GqDir) (s : State) : (modGq c d f s).thermal = s.thermal := rfl
@[simp] theorem modGq_fabric (c : Fin 64) (d : Dir) (f : GqDir → GqDir) (s : State) : (modGq c d f s).fabric = s.fabric := rfl
@[simp] theorem modGq_twin (c : Fin 64) (d : Dir) (f : GqDir → GqDir) (s : State) : (modGq c d f s).twin = s.twin := rfl
@[simp] theorem modGq_dbg (c : Fin 64) (d : Dir) (f : GqDir → GqDir) (s : State) : (modGq c d f s).dbg = s.dbg := rfl

@[simp] theorem modPort_pending (p : Fin 8) (f : PortState → PortState) (s : State) : (modPort p f s).pending = s.pending := rfl
@[simp] theorem modPort_now (p : Fin 8) (f : PortState → PortState) (s : State) : (modPort p f s).now = s.now := rfl
@[simp] theorem modPort_slowTicks (p : Fin 8) (f : PortState → PortState) (s : State) : (modPort p f s).slowTicks = s.slowTicks := rfl
@[simp] theorem modPort_slowAt (p : Fin 8) (f : PortState → PortState) (s : State) : (modPort p f s).slowAt = s.slowAt := rfl
@[simp] theorem modPort_alcAt (p : Fin 8) (f : PortState → PortState) (s : State) : (modPort p f s).alcAt = s.alcAt := rfl
@[simp] theorem modPort_protWait (p : Fin 8) (f : PortState → PortState) (s : State) : (modPort p f s).protWait = s.protWait := rfl
@[simp] theorem modPort_opBase (p : Fin 8) (f : PortState → PortState) (s : State) : (modPort p f s).opBase = s.opBase := rfl
@[simp] theorem modPort_opFrac (p : Fin 8) (f : PortState → PortState) (s : State) : (modPort p f s).opFrac = s.opFrac := rfl
@[simp] theorem modPort_freeCtr (p : Fin 8) (f : PortState → PortState) (s : State) : (modPort p f s).freeCtr = s.freeCtr := rfl
@[simp] theorem modPort_tickets (p : Fin 8) (f : PortState → PortState) (s : State) : (modPort p f s).tickets = s.tickets := rfl
@[simp] theorem modPort_hif (p : Fin 8) (f : PortState → PortState) (s : State) : (modPort p f s).hif = s.hif := rfl
@[simp] theorem modPort_links (p : Fin 8) (f : PortState → PortState) (s : State) : (modPort p f s).links = s.links := rfl
@[simp] theorem modPort_chans (p : Fin 8) (f : PortState → PortState) (s : State) : (modPort p f s).chans = s.chans := rfl
@[simp] theorem modPort_ports (p : Fin 8) (f : PortState → PortState) (s : State) : (modPort p f s).ports = s.ports.set p (f s.ports[p]) := rfl
@[simp] theorem modPort_ladder (p : Fin 8) (f : PortState → PortState) (s : State) : (modPort p f s).ladder = s.ladder := rfl
@[simp] theorem modPort_ladderNext (p : Fin 8) (f : PortState → PortState) (s : State) : (modPort p f s).ladderNext = s.ladderNext := rfl
@[simp] theorem modPort_pool (p : Fin 8) (f : PortState → PortState) (s : State) : (modPort p f s).pool = s.pool := rfl
@[simp] theorem modPort_faults (p : Fin 8) (f : PortState → PortState) (s : State) : (modPort p f s).faults = s.faults := rfl
@[simp] theorem modPort_gb (p : Fin 8) (f : PortState → PortState) (s : State) : (modPort p f s).gb = s.gb := rfl
@[simp] theorem modPort_sys (p : Fin 8) (f : PortState → PortState) (s : State) : (modPort p f s).sys = s.sys := rfl
@[simp] theorem modPort_hr (p : Fin 8) (f : PortState → PortState) (s : State) : (modPort p f s).hr = s.hr := rfl
@[simp] theorem modPort_eng (p : Fin 8) (f : PortState → PortState) (s : State) : (modPort p f s).eng = s.eng := rfl
@[simp] theorem modPort_radio (p : Fin 8) (f : PortState → PortState) (s : State) : (modPort p f s).radio = s.radio := rfl
@[simp] theorem modPort_loops (p : Fin 8) (f : PortState → PortState) (s : State) : (modPort p f s).loops = s.loops := rfl
@[simp] theorem modPort_supply (p : Fin 8) (f : PortState → PortState) (s : State) : (modPort p f s).supply = s.supply := rfl
@[simp] theorem modPort_thermal (p : Fin 8) (f : PortState → PortState) (s : State) : (modPort p f s).thermal = s.thermal := rfl
@[simp] theorem modPort_fabric (p : Fin 8) (f : PortState → PortState) (s : State) : (modPort p f s).fabric = s.fabric := rfl
@[simp] theorem modPort_twin (p : Fin 8) (f : PortState → PortState) (s : State) : (modPort p f s).twin = s.twin := rfl
@[simp] theorem modPort_compat (p : Fin 8) (f : PortState → PortState) (s : State) : (modPort p f s).compat = s.compat := rfl
@[simp] theorem modPort_dbg (p : Fin 8) (f : PortState → PortState) (s : State) : (modPort p f s).dbg = s.dbg := rfl

@[simp] theorem modFault_pending (n : Nat) (f : FaultSrc → FaultSrc) (s : State) : (modFault n f s).pending = s.pending := rfl
@[simp] theorem modFault_now (n : Nat) (f : FaultSrc → FaultSrc) (s : State) : (modFault n f s).now = s.now := rfl
@[simp] theorem modFault_slowTicks (n : Nat) (f : FaultSrc → FaultSrc) (s : State) : (modFault n f s).slowTicks = s.slowTicks := rfl
@[simp] theorem modFault_slowAt (n : Nat) (f : FaultSrc → FaultSrc) (s : State) : (modFault n f s).slowAt = s.slowAt := rfl
@[simp] theorem modFault_alcAt (n : Nat) (f : FaultSrc → FaultSrc) (s : State) : (modFault n f s).alcAt = s.alcAt := rfl
@[simp] theorem modFault_protWait (n : Nat) (f : FaultSrc → FaultSrc) (s : State) : (modFault n f s).protWait = s.protWait := rfl
@[simp] theorem modFault_opBase (n : Nat) (f : FaultSrc → FaultSrc) (s : State) : (modFault n f s).opBase = s.opBase := rfl
@[simp] theorem modFault_opFrac (n : Nat) (f : FaultSrc → FaultSrc) (s : State) : (modFault n f s).opFrac = s.opFrac := rfl
@[simp] theorem modFault_freeCtr (n : Nat) (f : FaultSrc → FaultSrc) (s : State) : (modFault n f s).freeCtr = s.freeCtr := rfl
@[simp] theorem modFault_tickets (n : Nat) (f : FaultSrc → FaultSrc) (s : State) : (modFault n f s).tickets = s.tickets := rfl
@[simp] theorem modFault_hif (n : Nat) (f : FaultSrc → FaultSrc) (s : State) : (modFault n f s).hif = s.hif := rfl
@[simp] theorem modFault_links (n : Nat) (f : FaultSrc → FaultSrc) (s : State) : (modFault n f s).links = s.links := rfl
@[simp] theorem modFault_chans (n : Nat) (f : FaultSrc → FaultSrc) (s : State) : (modFault n f s).chans = s.chans := rfl
@[simp] theorem modFault_ports (n : Nat) (f : FaultSrc → FaultSrc) (s : State) : (modFault n f s).ports = s.ports := rfl
@[simp] theorem modFault_ladder (n : Nat) (f : FaultSrc → FaultSrc) (s : State) : (modFault n f s).ladder = s.ladder := rfl
@[simp] theorem modFault_ladderNext (n : Nat) (f : FaultSrc → FaultSrc) (s : State) : (modFault n f s).ladderNext = s.ladderNext := rfl
@[simp] theorem modFault_pool (n : Nat) (f : FaultSrc → FaultSrc) (s : State) : (modFault n f s).pool = s.pool := rfl
@[simp] theorem modFault_gb (n : Nat) (f : FaultSrc → FaultSrc) (s : State) : (modFault n f s).gb = s.gb := rfl
@[simp] theorem modFault_sys (n : Nat) (f : FaultSrc → FaultSrc) (s : State) : (modFault n f s).sys = s.sys := rfl
@[simp] theorem modFault_hr (n : Nat) (f : FaultSrc → FaultSrc) (s : State) : (modFault n f s).hr = s.hr := rfl
@[simp] theorem modFault_eng (n : Nat) (f : FaultSrc → FaultSrc) (s : State) : (modFault n f s).eng = s.eng := rfl
@[simp] theorem modFault_radio (n : Nat) (f : FaultSrc → FaultSrc) (s : State) : (modFault n f s).radio = s.radio := rfl
@[simp] theorem modFault_loops (n : Nat) (f : FaultSrc → FaultSrc) (s : State) : (modFault n f s).loops = s.loops := rfl
@[simp] theorem modFault_supply (n : Nat) (f : FaultSrc → FaultSrc) (s : State) : (modFault n f s).supply = s.supply := rfl
@[simp] theorem modFault_thermal (n : Nat) (f : FaultSrc → FaultSrc) (s : State) : (modFault n f s).thermal = s.thermal := rfl
@[simp] theorem modFault_fabric (n : Nat) (f : FaultSrc → FaultSrc) (s : State) : (modFault n f s).fabric = s.fabric := rfl
@[simp] theorem modFault_twin (n : Nat) (f : FaultSrc → FaultSrc) (s : State) : (modFault n f s).twin = s.twin := rfl
@[simp] theorem modFault_compat (n : Nat) (f : FaultSrc → FaultSrc) (s : State) : (modFault n f s).compat = s.compat := rfl
@[simp] theorem modFault_dbg (n : Nat) (f : FaultSrc → FaultSrc) (s : State) : (modFault n f s).dbg = s.dbg := rfl

@[simp] theorem modGb_pending (f : Guestbook → Guestbook) (s : State) : (modGb f s).pending = s.pending := rfl
@[simp] theorem modGb_now (f : Guestbook → Guestbook) (s : State) : (modGb f s).now = s.now := rfl
@[simp] theorem modGb_slowTicks (f : Guestbook → Guestbook) (s : State) : (modGb f s).slowTicks = s.slowTicks := rfl
@[simp] theorem modGb_slowAt (f : Guestbook → Guestbook) (s : State) : (modGb f s).slowAt = s.slowAt := rfl
@[simp] theorem modGb_alcAt (f : Guestbook → Guestbook) (s : State) : (modGb f s).alcAt = s.alcAt := rfl
@[simp] theorem modGb_protWait (f : Guestbook → Guestbook) (s : State) : (modGb f s).protWait = s.protWait := rfl
@[simp] theorem modGb_opBase (f : Guestbook → Guestbook) (s : State) : (modGb f s).opBase = s.opBase := rfl
@[simp] theorem modGb_opFrac (f : Guestbook → Guestbook) (s : State) : (modGb f s).opFrac = s.opFrac := rfl
@[simp] theorem modGb_freeCtr (f : Guestbook → Guestbook) (s : State) : (modGb f s).freeCtr = s.freeCtr := rfl
@[simp] theorem modGb_tickets (f : Guestbook → Guestbook) (s : State) : (modGb f s).tickets = s.tickets := rfl
@[simp] theorem modGb_hif (f : Guestbook → Guestbook) (s : State) : (modGb f s).hif = s.hif := rfl
@[simp] theorem modGb_links (f : Guestbook → Guestbook) (s : State) : (modGb f s).links = s.links := rfl
@[simp] theorem modGb_chans (f : Guestbook → Guestbook) (s : State) : (modGb f s).chans = s.chans := rfl
@[simp] theorem modGb_ports (f : Guestbook → Guestbook) (s : State) : (modGb f s).ports = s.ports := rfl
@[simp] theorem modGb_ladder (f : Guestbook → Guestbook) (s : State) : (modGb f s).ladder = s.ladder := rfl
@[simp] theorem modGb_ladderNext (f : Guestbook → Guestbook) (s : State) : (modGb f s).ladderNext = s.ladderNext := rfl
@[simp] theorem modGb_pool (f : Guestbook → Guestbook) (s : State) : (modGb f s).pool = s.pool := rfl
@[simp] theorem modGb_faults (f : Guestbook → Guestbook) (s : State) : (modGb f s).faults = s.faults := rfl
@[simp] theorem modGb_gb (f : Guestbook → Guestbook) (s : State) : (modGb f s).gb = f s.gb := rfl
@[simp] theorem modGb_sys (f : Guestbook → Guestbook) (s : State) : (modGb f s).sys = s.sys := rfl
@[simp] theorem modGb_hr (f : Guestbook → Guestbook) (s : State) : (modGb f s).hr = s.hr := rfl
@[simp] theorem modGb_eng (f : Guestbook → Guestbook) (s : State) : (modGb f s).eng = s.eng := rfl
@[simp] theorem modGb_radio (f : Guestbook → Guestbook) (s : State) : (modGb f s).radio = s.radio := rfl
@[simp] theorem modGb_loops (f : Guestbook → Guestbook) (s : State) : (modGb f s).loops = s.loops := rfl
@[simp] theorem modGb_supply (f : Guestbook → Guestbook) (s : State) : (modGb f s).supply = s.supply := rfl
@[simp] theorem modGb_thermal (f : Guestbook → Guestbook) (s : State) : (modGb f s).thermal = s.thermal := rfl
@[simp] theorem modGb_fabric (f : Guestbook → Guestbook) (s : State) : (modGb f s).fabric = s.fabric := rfl
@[simp] theorem modGb_twin (f : Guestbook → Guestbook) (s : State) : (modGb f s).twin = s.twin := rfl
@[simp] theorem modGb_compat (f : Guestbook → Guestbook) (s : State) : (modGb f s).compat = s.compat := rfl
@[simp] theorem modGb_dbg (f : Guestbook → Guestbook) (s : State) : (modGb f s).dbg = s.dbg := rfl

@[simp] theorem modSys_pending (f : System → System) (s : State) : (modSys f s).pending = s.pending := rfl
@[simp] theorem modSys_now (f : System → System) (s : State) : (modSys f s).now = s.now := rfl
@[simp] theorem modSys_slowTicks (f : System → System) (s : State) : (modSys f s).slowTicks = s.slowTicks := rfl
@[simp] theorem modSys_slowAt (f : System → System) (s : State) : (modSys f s).slowAt = s.slowAt := rfl
@[simp] theorem modSys_alcAt (f : System → System) (s : State) : (modSys f s).alcAt = s.alcAt := rfl
@[simp] theorem modSys_protWait (f : System → System) (s : State) : (modSys f s).protWait = s.protWait := rfl
@[simp] theorem modSys_opBase (f : System → System) (s : State) : (modSys f s).opBase = s.opBase := rfl
@[simp] theorem modSys_opFrac (f : System → System) (s : State) : (modSys f s).opFrac = s.opFrac := rfl
@[simp] theorem modSys_freeCtr (f : System → System) (s : State) : (modSys f s).freeCtr = s.freeCtr := rfl
@[simp] theorem modSys_tickets (f : System → System) (s : State) : (modSys f s).tickets = s.tickets := rfl
@[simp] theorem modSys_hif (f : System → System) (s : State) : (modSys f s).hif = s.hif := rfl
@[simp] theorem modSys_links (f : System → System) (s : State) : (modSys f s).links = s.links := rfl
@[simp] theorem modSys_chans (f : System → System) (s : State) : (modSys f s).chans = s.chans := rfl
@[simp] theorem modSys_ports (f : System → System) (s : State) : (modSys f s).ports = s.ports := rfl
@[simp] theorem modSys_ladder (f : System → System) (s : State) : (modSys f s).ladder = s.ladder := rfl
@[simp] theorem modSys_ladderNext (f : System → System) (s : State) : (modSys f s).ladderNext = s.ladderNext := rfl
@[simp] theorem modSys_pool (f : System → System) (s : State) : (modSys f s).pool = s.pool := rfl
@[simp] theorem modSys_faults (f : System → System) (s : State) : (modSys f s).faults = s.faults := rfl
@[simp] theorem modSys_gb (f : System → System) (s : State) : (modSys f s).gb = s.gb := rfl
@[simp] theorem modSys_sys (f : System → System) (s : State) : (modSys f s).sys = f s.sys := rfl
@[simp] theorem modSys_hr (f : System → System) (s : State) : (modSys f s).hr = s.hr := rfl
@[simp] theorem modSys_eng (f : System → System) (s : State) : (modSys f s).eng = s.eng := rfl
@[simp] theorem modSys_radio (f : System → System) (s : State) : (modSys f s).radio = s.radio := rfl
@[simp] theorem modSys_loops (f : System → System) (s : State) : (modSys f s).loops = s.loops := rfl
@[simp] theorem modSys_supply (f : System → System) (s : State) : (modSys f s).supply = s.supply := rfl
@[simp] theorem modSys_thermal (f : System → System) (s : State) : (modSys f s).thermal = s.thermal := rfl
@[simp] theorem modSys_fabric (f : System → System) (s : State) : (modSys f s).fabric = s.fabric := rfl
@[simp] theorem modSys_twin (f : System → System) (s : State) : (modSys f s).twin = s.twin := rfl
@[simp] theorem modSys_compat (f : System → System) (s : State) : (modSys f s).compat = s.compat := rfl
@[simp] theorem modSys_dbg (f : System → System) (s : State) : (modSys f s).dbg = s.dbg := rfl

@[simp] theorem modNpt_pending (f : NightPorter → NightPorter) (s : State) : (modNpt f s).pending = s.pending := rfl
@[simp] theorem modNpt_now (f : NightPorter → NightPorter) (s : State) : (modNpt f s).now = s.now := rfl
@[simp] theorem modNpt_slowTicks (f : NightPorter → NightPorter) (s : State) : (modNpt f s).slowTicks = s.slowTicks := rfl
@[simp] theorem modNpt_slowAt (f : NightPorter → NightPorter) (s : State) : (modNpt f s).slowAt = s.slowAt := rfl
@[simp] theorem modNpt_alcAt (f : NightPorter → NightPorter) (s : State) : (modNpt f s).alcAt = s.alcAt := rfl
@[simp] theorem modNpt_protWait (f : NightPorter → NightPorter) (s : State) : (modNpt f s).protWait = s.protWait := rfl
@[simp] theorem modNpt_opBase (f : NightPorter → NightPorter) (s : State) : (modNpt f s).opBase = s.opBase := rfl
@[simp] theorem modNpt_opFrac (f : NightPorter → NightPorter) (s : State) : (modNpt f s).opFrac = s.opFrac := rfl
@[simp] theorem modNpt_freeCtr (f : NightPorter → NightPorter) (s : State) : (modNpt f s).freeCtr = s.freeCtr := rfl
@[simp] theorem modNpt_tickets (f : NightPorter → NightPorter) (s : State) : (modNpt f s).tickets = s.tickets := rfl
@[simp] theorem modNpt_hif (f : NightPorter → NightPorter) (s : State) : (modNpt f s).hif = s.hif := rfl
@[simp] theorem modNpt_links (f : NightPorter → NightPorter) (s : State) : (modNpt f s).links = s.links := rfl
@[simp] theorem modNpt_chans (f : NightPorter → NightPorter) (s : State) : (modNpt f s).chans = s.chans := rfl
@[simp] theorem modNpt_ports (f : NightPorter → NightPorter) (s : State) : (modNpt f s).ports = s.ports := rfl
@[simp] theorem modNpt_ladder (f : NightPorter → NightPorter) (s : State) : (modNpt f s).ladder = s.ladder := rfl
@[simp] theorem modNpt_ladderNext (f : NightPorter → NightPorter) (s : State) : (modNpt f s).ladderNext = s.ladderNext := rfl
@[simp] theorem modNpt_pool (f : NightPorter → NightPorter) (s : State) : (modNpt f s).pool = s.pool := rfl
@[simp] theorem modNpt_faults (f : NightPorter → NightPorter) (s : State) : (modNpt f s).faults = s.faults := rfl
@[simp] theorem modNpt_gb (f : NightPorter → NightPorter) (s : State) : (modNpt f s).gb = s.gb := rfl
@[simp] theorem modNpt_sys (f : NightPorter → NightPorter) (s : State) : (modNpt f s).sys = { s.sys with npt := f s.sys.npt } := rfl
@[simp] theorem modNpt_hr (f : NightPorter → NightPorter) (s : State) : (modNpt f s).hr = s.hr := rfl
@[simp] theorem modNpt_eng (f : NightPorter → NightPorter) (s : State) : (modNpt f s).eng = s.eng := rfl
@[simp] theorem modNpt_radio (f : NightPorter → NightPorter) (s : State) : (modNpt f s).radio = s.radio := rfl
@[simp] theorem modNpt_loops (f : NightPorter → NightPorter) (s : State) : (modNpt f s).loops = s.loops := rfl
@[simp] theorem modNpt_supply (f : NightPorter → NightPorter) (s : State) : (modNpt f s).supply = s.supply := rfl
@[simp] theorem modNpt_thermal (f : NightPorter → NightPorter) (s : State) : (modNpt f s).thermal = s.thermal := rfl
@[simp] theorem modNpt_fabric (f : NightPorter → NightPorter) (s : State) : (modNpt f s).fabric = s.fabric := rfl
@[simp] theorem modNpt_twin (f : NightPorter → NightPorter) (s : State) : (modNpt f s).twin = s.twin := rfl
@[simp] theorem modNpt_compat (f : NightPorter → NightPorter) (s : State) : (modNpt f s).compat = s.compat := rfl
@[simp] theorem modNpt_dbg (f : NightPorter → NightPorter) (s : State) : (modNpt f s).dbg = s.dbg := rfl

@[simp] theorem modHr_pending (f : HrStore → HrStore) (s : State) : (modHr f s).pending = s.pending := rfl
@[simp] theorem modHr_now (f : HrStore → HrStore) (s : State) : (modHr f s).now = s.now := rfl
@[simp] theorem modHr_slowTicks (f : HrStore → HrStore) (s : State) : (modHr f s).slowTicks = s.slowTicks := rfl
@[simp] theorem modHr_slowAt (f : HrStore → HrStore) (s : State) : (modHr f s).slowAt = s.slowAt := rfl
@[simp] theorem modHr_alcAt (f : HrStore → HrStore) (s : State) : (modHr f s).alcAt = s.alcAt := rfl
@[simp] theorem modHr_protWait (f : HrStore → HrStore) (s : State) : (modHr f s).protWait = s.protWait := rfl
@[simp] theorem modHr_opBase (f : HrStore → HrStore) (s : State) : (modHr f s).opBase = s.opBase := rfl
@[simp] theorem modHr_opFrac (f : HrStore → HrStore) (s : State) : (modHr f s).opFrac = s.opFrac := rfl
@[simp] theorem modHr_freeCtr (f : HrStore → HrStore) (s : State) : (modHr f s).freeCtr = s.freeCtr := rfl
@[simp] theorem modHr_tickets (f : HrStore → HrStore) (s : State) : (modHr f s).tickets = s.tickets := rfl
@[simp] theorem modHr_hif (f : HrStore → HrStore) (s : State) : (modHr f s).hif = s.hif := rfl
@[simp] theorem modHr_links (f : HrStore → HrStore) (s : State) : (modHr f s).links = s.links := rfl
@[simp] theorem modHr_chans (f : HrStore → HrStore) (s : State) : (modHr f s).chans = s.chans := rfl
@[simp] theorem modHr_ports (f : HrStore → HrStore) (s : State) : (modHr f s).ports = s.ports := rfl
@[simp] theorem modHr_ladder (f : HrStore → HrStore) (s : State) : (modHr f s).ladder = s.ladder := rfl
@[simp] theorem modHr_ladderNext (f : HrStore → HrStore) (s : State) : (modHr f s).ladderNext = s.ladderNext := rfl
@[simp] theorem modHr_pool (f : HrStore → HrStore) (s : State) : (modHr f s).pool = s.pool := rfl
@[simp] theorem modHr_faults (f : HrStore → HrStore) (s : State) : (modHr f s).faults = s.faults := rfl
@[simp] theorem modHr_gb (f : HrStore → HrStore) (s : State) : (modHr f s).gb = s.gb := rfl
@[simp] theorem modHr_sys (f : HrStore → HrStore) (s : State) : (modHr f s).sys = s.sys := rfl
@[simp] theorem modHr_hr (f : HrStore → HrStore) (s : State) : (modHr f s).hr = f s.hr := rfl
@[simp] theorem modHr_eng (f : HrStore → HrStore) (s : State) : (modHr f s).eng = s.eng := rfl
@[simp] theorem modHr_radio (f : HrStore → HrStore) (s : State) : (modHr f s).radio = s.radio := rfl
@[simp] theorem modHr_loops (f : HrStore → HrStore) (s : State) : (modHr f s).loops = s.loops := rfl
@[simp] theorem modHr_supply (f : HrStore → HrStore) (s : State) : (modHr f s).supply = s.supply := rfl
@[simp] theorem modHr_thermal (f : HrStore → HrStore) (s : State) : (modHr f s).thermal = s.thermal := rfl
@[simp] theorem modHr_fabric (f : HrStore → HrStore) (s : State) : (modHr f s).fabric = s.fabric := rfl
@[simp] theorem modHr_twin (f : HrStore → HrStore) (s : State) : (modHr f s).twin = s.twin := rfl
@[simp] theorem modHr_compat (f : HrStore → HrStore) (s : State) : (modHr f s).compat = s.compat := rfl
@[simp] theorem modHr_dbg (f : HrStore → HrStore) (s : State) : (modHr f s).dbg = s.dbg := rfl

@[simp] theorem modSlot_pending (b : Bool) (f : PatchSlot → PatchSlot) (s : State) : (modSlot b f s).pending = s.pending := rfl
@[simp] theorem modSlot_now (b : Bool) (f : PatchSlot → PatchSlot) (s : State) : (modSlot b f s).now = s.now := rfl
@[simp] theorem modSlot_slowTicks (b : Bool) (f : PatchSlot → PatchSlot) (s : State) : (modSlot b f s).slowTicks = s.slowTicks := rfl
@[simp] theorem modSlot_slowAt (b : Bool) (f : PatchSlot → PatchSlot) (s : State) : (modSlot b f s).slowAt = s.slowAt := rfl
@[simp] theorem modSlot_alcAt (b : Bool) (f : PatchSlot → PatchSlot) (s : State) : (modSlot b f s).alcAt = s.alcAt := rfl
@[simp] theorem modSlot_protWait (b : Bool) (f : PatchSlot → PatchSlot) (s : State) : (modSlot b f s).protWait = s.protWait := rfl
@[simp] theorem modSlot_opBase (b : Bool) (f : PatchSlot → PatchSlot) (s : State) : (modSlot b f s).opBase = s.opBase := rfl
@[simp] theorem modSlot_opFrac (b : Bool) (f : PatchSlot → PatchSlot) (s : State) : (modSlot b f s).opFrac = s.opFrac := rfl
@[simp] theorem modSlot_freeCtr (b : Bool) (f : PatchSlot → PatchSlot) (s : State) : (modSlot b f s).freeCtr = s.freeCtr := rfl
@[simp] theorem modSlot_tickets (b : Bool) (f : PatchSlot → PatchSlot) (s : State) : (modSlot b f s).tickets = s.tickets := rfl
@[simp] theorem modSlot_hif (b : Bool) (f : PatchSlot → PatchSlot) (s : State) : (modSlot b f s).hif = s.hif := rfl
@[simp] theorem modSlot_links (b : Bool) (f : PatchSlot → PatchSlot) (s : State) : (modSlot b f s).links = s.links := rfl
@[simp] theorem modSlot_chans (b : Bool) (f : PatchSlot → PatchSlot) (s : State) : (modSlot b f s).chans = s.chans := rfl
@[simp] theorem modSlot_ports (b : Bool) (f : PatchSlot → PatchSlot) (s : State) : (modSlot b f s).ports = s.ports := rfl
@[simp] theorem modSlot_ladder (b : Bool) (f : PatchSlot → PatchSlot) (s : State) : (modSlot b f s).ladder = s.ladder := rfl
@[simp] theorem modSlot_ladderNext (b : Bool) (f : PatchSlot → PatchSlot) (s : State) : (modSlot b f s).ladderNext = s.ladderNext := rfl
@[simp] theorem modSlot_pool (b : Bool) (f : PatchSlot → PatchSlot) (s : State) : (modSlot b f s).pool = s.pool := rfl
@[simp] theorem modSlot_faults (b : Bool) (f : PatchSlot → PatchSlot) (s : State) : (modSlot b f s).faults = s.faults := rfl
@[simp] theorem modSlot_gb (b : Bool) (f : PatchSlot → PatchSlot) (s : State) : (modSlot b f s).gb = s.gb := rfl
@[simp] theorem modSlot_hr (b : Bool) (f : PatchSlot → PatchSlot) (s : State) : (modSlot b f s).hr = s.hr := rfl
@[simp] theorem modSlot_eng (b : Bool) (f : PatchSlot → PatchSlot) (s : State) : (modSlot b f s).eng = s.eng := rfl
@[simp] theorem modSlot_radio (b : Bool) (f : PatchSlot → PatchSlot) (s : State) : (modSlot b f s).radio = s.radio := rfl
@[simp] theorem modSlot_loops (b : Bool) (f : PatchSlot → PatchSlot) (s : State) : (modSlot b f s).loops = s.loops := rfl
@[simp] theorem modSlot_supply (b : Bool) (f : PatchSlot → PatchSlot) (s : State) : (modSlot b f s).supply = s.supply := rfl
@[simp] theorem modSlot_thermal (b : Bool) (f : PatchSlot → PatchSlot) (s : State) : (modSlot b f s).thermal = s.thermal := rfl
@[simp] theorem modSlot_fabric (b : Bool) (f : PatchSlot → PatchSlot) (s : State) : (modSlot b f s).fabric = s.fabric := rfl
@[simp] theorem modSlot_twin (b : Bool) (f : PatchSlot → PatchSlot) (s : State) : (modSlot b f s).twin = s.twin := rfl
@[simp] theorem modSlot_compat (b : Bool) (f : PatchSlot → PatchSlot) (s : State) : (modSlot b f s).compat = s.compat := rfl
@[simp] theorem modSlot_dbg (b : Bool) (f : PatchSlot → PatchSlot) (s : State) : (modSlot b f s).dbg = s.dbg := rfl

@[simp] theorem modLodger_pending (n : Fin 4) (f : Lodger → Lodger) (s : State) : (modLodger n f s).pending = s.pending := rfl
@[simp] theorem modLodger_now (n : Fin 4) (f : Lodger → Lodger) (s : State) : (modLodger n f s).now = s.now := rfl
@[simp] theorem modLodger_slowTicks (n : Fin 4) (f : Lodger → Lodger) (s : State) : (modLodger n f s).slowTicks = s.slowTicks := rfl
@[simp] theorem modLodger_slowAt (n : Fin 4) (f : Lodger → Lodger) (s : State) : (modLodger n f s).slowAt = s.slowAt := rfl
@[simp] theorem modLodger_alcAt (n : Fin 4) (f : Lodger → Lodger) (s : State) : (modLodger n f s).alcAt = s.alcAt := rfl
@[simp] theorem modLodger_protWait (n : Fin 4) (f : Lodger → Lodger) (s : State) : (modLodger n f s).protWait = s.protWait := rfl
@[simp] theorem modLodger_opBase (n : Fin 4) (f : Lodger → Lodger) (s : State) : (modLodger n f s).opBase = s.opBase := rfl
@[simp] theorem modLodger_opFrac (n : Fin 4) (f : Lodger → Lodger) (s : State) : (modLodger n f s).opFrac = s.opFrac := rfl
@[simp] theorem modLodger_freeCtr (n : Fin 4) (f : Lodger → Lodger) (s : State) : (modLodger n f s).freeCtr = s.freeCtr := rfl
@[simp] theorem modLodger_tickets (n : Fin 4) (f : Lodger → Lodger) (s : State) : (modLodger n f s).tickets = s.tickets := rfl
@[simp] theorem modLodger_hif (n : Fin 4) (f : Lodger → Lodger) (s : State) : (modLodger n f s).hif = s.hif := rfl
@[simp] theorem modLodger_links (n : Fin 4) (f : Lodger → Lodger) (s : State) : (modLodger n f s).links = s.links := rfl
@[simp] theorem modLodger_chans (n : Fin 4) (f : Lodger → Lodger) (s : State) : (modLodger n f s).chans = s.chans := rfl
@[simp] theorem modLodger_ports (n : Fin 4) (f : Lodger → Lodger) (s : State) : (modLodger n f s).ports = s.ports := rfl
@[simp] theorem modLodger_ladder (n : Fin 4) (f : Lodger → Lodger) (s : State) : (modLodger n f s).ladder = s.ladder := rfl
@[simp] theorem modLodger_ladderNext (n : Fin 4) (f : Lodger → Lodger) (s : State) : (modLodger n f s).ladderNext = s.ladderNext := rfl
@[simp] theorem modLodger_pool (n : Fin 4) (f : Lodger → Lodger) (s : State) : (modLodger n f s).pool = s.pool := rfl
@[simp] theorem modLodger_faults (n : Fin 4) (f : Lodger → Lodger) (s : State) : (modLodger n f s).faults = s.faults := rfl
@[simp] theorem modLodger_gb (n : Fin 4) (f : Lodger → Lodger) (s : State) : (modLodger n f s).gb = s.gb := rfl
@[simp] theorem modLodger_hr (n : Fin 4) (f : Lodger → Lodger) (s : State) : (modLodger n f s).hr = s.hr := rfl
@[simp] theorem modLodger_eng (n : Fin 4) (f : Lodger → Lodger) (s : State) : (modLodger n f s).eng = s.eng := rfl
@[simp] theorem modLodger_radio (n : Fin 4) (f : Lodger → Lodger) (s : State) : (modLodger n f s).radio = s.radio := rfl
@[simp] theorem modLodger_loops (n : Fin 4) (f : Lodger → Lodger) (s : State) : (modLodger n f s).loops = s.loops := rfl
@[simp] theorem modLodger_supply (n : Fin 4) (f : Lodger → Lodger) (s : State) : (modLodger n f s).supply = s.supply := rfl
@[simp] theorem modLodger_thermal (n : Fin 4) (f : Lodger → Lodger) (s : State) : (modLodger n f s).thermal = s.thermal := rfl
@[simp] theorem modLodger_fabric (n : Fin 4) (f : Lodger → Lodger) (s : State) : (modLodger n f s).fabric = s.fabric := rfl
@[simp] theorem modLodger_twin (n : Fin 4) (f : Lodger → Lodger) (s : State) : (modLodger n f s).twin = s.twin := rfl
@[simp] theorem modLodger_compat (n : Fin 4) (f : Lodger → Lodger) (s : State) : (modLodger n f s).compat = s.compat := rfl
@[simp] theorem modLodger_dbg (n : Fin 4) (f : Lodger → Lodger) (s : State) : (modLodger n f s).dbg = s.dbg := rfl

@[simp] theorem modEngine_pending (e : Fin 256) (f : Engine → Engine) (s : State) : (modEngine e f s).pending = s.pending := rfl
@[simp] theorem modEngine_now (e : Fin 256) (f : Engine → Engine) (s : State) : (modEngine e f s).now = s.now := rfl
@[simp] theorem modEngine_slowTicks (e : Fin 256) (f : Engine → Engine) (s : State) : (modEngine e f s).slowTicks = s.slowTicks := rfl
@[simp] theorem modEngine_slowAt (e : Fin 256) (f : Engine → Engine) (s : State) : (modEngine e f s).slowAt = s.slowAt := rfl
@[simp] theorem modEngine_alcAt (e : Fin 256) (f : Engine → Engine) (s : State) : (modEngine e f s).alcAt = s.alcAt := rfl
@[simp] theorem modEngine_protWait (e : Fin 256) (f : Engine → Engine) (s : State) : (modEngine e f s).protWait = s.protWait := rfl
@[simp] theorem modEngine_opBase (e : Fin 256) (f : Engine → Engine) (s : State) : (modEngine e f s).opBase = s.opBase := rfl
@[simp] theorem modEngine_opFrac (e : Fin 256) (f : Engine → Engine) (s : State) : (modEngine e f s).opFrac = s.opFrac := rfl
@[simp] theorem modEngine_freeCtr (e : Fin 256) (f : Engine → Engine) (s : State) : (modEngine e f s).freeCtr = s.freeCtr := rfl
@[simp] theorem modEngine_tickets (e : Fin 256) (f : Engine → Engine) (s : State) : (modEngine e f s).tickets = s.tickets := rfl
@[simp] theorem modEngine_hif (e : Fin 256) (f : Engine → Engine) (s : State) : (modEngine e f s).hif = s.hif := rfl
@[simp] theorem modEngine_links (e : Fin 256) (f : Engine → Engine) (s : State) : (modEngine e f s).links = s.links := rfl
@[simp] theorem modEngine_chans (e : Fin 256) (f : Engine → Engine) (s : State) : (modEngine e f s).chans = s.chans := rfl
@[simp] theorem modEngine_ports (e : Fin 256) (f : Engine → Engine) (s : State) : (modEngine e f s).ports = s.ports := rfl
@[simp] theorem modEngine_ladder (e : Fin 256) (f : Engine → Engine) (s : State) : (modEngine e f s).ladder = s.ladder := rfl
@[simp] theorem modEngine_ladderNext (e : Fin 256) (f : Engine → Engine) (s : State) : (modEngine e f s).ladderNext = s.ladderNext := rfl
@[simp] theorem modEngine_pool (e : Fin 256) (f : Engine → Engine) (s : State) : (modEngine e f s).pool = s.pool := rfl
@[simp] theorem modEngine_faults (e : Fin 256) (f : Engine → Engine) (s : State) : (modEngine e f s).faults = s.faults := rfl
@[simp] theorem modEngine_gb (e : Fin 256) (f : Engine → Engine) (s : State) : (modEngine e f s).gb = s.gb := rfl
@[simp] theorem modEngine_sys (e : Fin 256) (f : Engine → Engine) (s : State) : (modEngine e f s).sys = s.sys := rfl
@[simp] theorem modEngine_hr (e : Fin 256) (f : Engine → Engine) (s : State) : (modEngine e f s).hr = s.hr := rfl
@[simp] theorem modEngine_radio (e : Fin 256) (f : Engine → Engine) (s : State) : (modEngine e f s).radio = s.radio := rfl
@[simp] theorem modEngine_loops (e : Fin 256) (f : Engine → Engine) (s : State) : (modEngine e f s).loops = s.loops := rfl
@[simp] theorem modEngine_supply (e : Fin 256) (f : Engine → Engine) (s : State) : (modEngine e f s).supply = s.supply := rfl
@[simp] theorem modEngine_thermal (e : Fin 256) (f : Engine → Engine) (s : State) : (modEngine e f s).thermal = s.thermal := rfl
@[simp] theorem modEngine_fabric (e : Fin 256) (f : Engine → Engine) (s : State) : (modEngine e f s).fabric = s.fabric := rfl
@[simp] theorem modEngine_twin (e : Fin 256) (f : Engine → Engine) (s : State) : (modEngine e f s).twin = s.twin := rfl
@[simp] theorem modEngine_compat (e : Fin 256) (f : Engine → Engine) (s : State) : (modEngine e f s).compat = s.compat := rfl
@[simp] theorem modEngine_dbg (e : Fin 256) (f : Engine → Engine) (s : State) : (modEngine e f s).dbg = s.dbg := rfl

@[simp] theorem modAsg_pending (a : Fin 256) (f : Assignment → Assignment) (s : State) : (modAsg a f s).pending = s.pending := rfl
@[simp] theorem modAsg_now (a : Fin 256) (f : Assignment → Assignment) (s : State) : (modAsg a f s).now = s.now := rfl
@[simp] theorem modAsg_slowTicks (a : Fin 256) (f : Assignment → Assignment) (s : State) : (modAsg a f s).slowTicks = s.slowTicks := rfl
@[simp] theorem modAsg_slowAt (a : Fin 256) (f : Assignment → Assignment) (s : State) : (modAsg a f s).slowAt = s.slowAt := rfl
@[simp] theorem modAsg_alcAt (a : Fin 256) (f : Assignment → Assignment) (s : State) : (modAsg a f s).alcAt = s.alcAt := rfl
@[simp] theorem modAsg_protWait (a : Fin 256) (f : Assignment → Assignment) (s : State) : (modAsg a f s).protWait = s.protWait := rfl
@[simp] theorem modAsg_opBase (a : Fin 256) (f : Assignment → Assignment) (s : State) : (modAsg a f s).opBase = s.opBase := rfl
@[simp] theorem modAsg_opFrac (a : Fin 256) (f : Assignment → Assignment) (s : State) : (modAsg a f s).opFrac = s.opFrac := rfl
@[simp] theorem modAsg_freeCtr (a : Fin 256) (f : Assignment → Assignment) (s : State) : (modAsg a f s).freeCtr = s.freeCtr := rfl
@[simp] theorem modAsg_tickets (a : Fin 256) (f : Assignment → Assignment) (s : State) : (modAsg a f s).tickets = s.tickets := rfl
@[simp] theorem modAsg_hif (a : Fin 256) (f : Assignment → Assignment) (s : State) : (modAsg a f s).hif = s.hif := rfl
@[simp] theorem modAsg_links (a : Fin 256) (f : Assignment → Assignment) (s : State) : (modAsg a f s).links = s.links := rfl
@[simp] theorem modAsg_chans (a : Fin 256) (f : Assignment → Assignment) (s : State) : (modAsg a f s).chans = s.chans := rfl
@[simp] theorem modAsg_ports (a : Fin 256) (f : Assignment → Assignment) (s : State) : (modAsg a f s).ports = s.ports := rfl
@[simp] theorem modAsg_ladder (a : Fin 256) (f : Assignment → Assignment) (s : State) : (modAsg a f s).ladder = s.ladder := rfl
@[simp] theorem modAsg_ladderNext (a : Fin 256) (f : Assignment → Assignment) (s : State) : (modAsg a f s).ladderNext = s.ladderNext := rfl
@[simp] theorem modAsg_pool (a : Fin 256) (f : Assignment → Assignment) (s : State) : (modAsg a f s).pool = s.pool := rfl
@[simp] theorem modAsg_faults (a : Fin 256) (f : Assignment → Assignment) (s : State) : (modAsg a f s).faults = s.faults := rfl
@[simp] theorem modAsg_gb (a : Fin 256) (f : Assignment → Assignment) (s : State) : (modAsg a f s).gb = s.gb := rfl
@[simp] theorem modAsg_sys (a : Fin 256) (f : Assignment → Assignment) (s : State) : (modAsg a f s).sys = s.sys := rfl
@[simp] theorem modAsg_hr (a : Fin 256) (f : Assignment → Assignment) (s : State) : (modAsg a f s).hr = s.hr := rfl
@[simp] theorem modAsg_radio (a : Fin 256) (f : Assignment → Assignment) (s : State) : (modAsg a f s).radio = s.radio := rfl
@[simp] theorem modAsg_loops (a : Fin 256) (f : Assignment → Assignment) (s : State) : (modAsg a f s).loops = s.loops := rfl
@[simp] theorem modAsg_supply (a : Fin 256) (f : Assignment → Assignment) (s : State) : (modAsg a f s).supply = s.supply := rfl
@[simp] theorem modAsg_thermal (a : Fin 256) (f : Assignment → Assignment) (s : State) : (modAsg a f s).thermal = s.thermal := rfl
@[simp] theorem modAsg_fabric (a : Fin 256) (f : Assignment → Assignment) (s : State) : (modAsg a f s).fabric = s.fabric := rfl
@[simp] theorem modAsg_twin (a : Fin 256) (f : Assignment → Assignment) (s : State) : (modAsg a f s).twin = s.twin := rfl
@[simp] theorem modAsg_compat (a : Fin 256) (f : Assignment → Assignment) (s : State) : (modAsg a f s).compat = s.compat := rfl
@[simp] theorem modAsg_dbg (a : Fin 256) (f : Assignment → Assignment) (s : State) : (modAsg a f s).dbg = s.dbg := rfl

@[simp] theorem modMigration_pending (e : Fin 256) (f : Migration → Migration) (s : State) : (modMigration e f s).pending = s.pending := rfl
@[simp] theorem modMigration_now (e : Fin 256) (f : Migration → Migration) (s : State) : (modMigration e f s).now = s.now := rfl
@[simp] theorem modMigration_slowTicks (e : Fin 256) (f : Migration → Migration) (s : State) : (modMigration e f s).slowTicks = s.slowTicks := rfl
@[simp] theorem modMigration_slowAt (e : Fin 256) (f : Migration → Migration) (s : State) : (modMigration e f s).slowAt = s.slowAt := rfl
@[simp] theorem modMigration_alcAt (e : Fin 256) (f : Migration → Migration) (s : State) : (modMigration e f s).alcAt = s.alcAt := rfl
@[simp] theorem modMigration_protWait (e : Fin 256) (f : Migration → Migration) (s : State) : (modMigration e f s).protWait = s.protWait := rfl
@[simp] theorem modMigration_opBase (e : Fin 256) (f : Migration → Migration) (s : State) : (modMigration e f s).opBase = s.opBase := rfl
@[simp] theorem modMigration_opFrac (e : Fin 256) (f : Migration → Migration) (s : State) : (modMigration e f s).opFrac = s.opFrac := rfl
@[simp] theorem modMigration_freeCtr (e : Fin 256) (f : Migration → Migration) (s : State) : (modMigration e f s).freeCtr = s.freeCtr := rfl
@[simp] theorem modMigration_tickets (e : Fin 256) (f : Migration → Migration) (s : State) : (modMigration e f s).tickets = s.tickets := rfl
@[simp] theorem modMigration_hif (e : Fin 256) (f : Migration → Migration) (s : State) : (modMigration e f s).hif = s.hif := rfl
@[simp] theorem modMigration_links (e : Fin 256) (f : Migration → Migration) (s : State) : (modMigration e f s).links = s.links := rfl
@[simp] theorem modMigration_chans (e : Fin 256) (f : Migration → Migration) (s : State) : (modMigration e f s).chans = s.chans := rfl
@[simp] theorem modMigration_ports (e : Fin 256) (f : Migration → Migration) (s : State) : (modMigration e f s).ports = s.ports := rfl
@[simp] theorem modMigration_ladder (e : Fin 256) (f : Migration → Migration) (s : State) : (modMigration e f s).ladder = s.ladder := rfl
@[simp] theorem modMigration_ladderNext (e : Fin 256) (f : Migration → Migration) (s : State) : (modMigration e f s).ladderNext = s.ladderNext := rfl
@[simp] theorem modMigration_pool (e : Fin 256) (f : Migration → Migration) (s : State) : (modMigration e f s).pool = s.pool := rfl
@[simp] theorem modMigration_faults (e : Fin 256) (f : Migration → Migration) (s : State) : (modMigration e f s).faults = s.faults := rfl
@[simp] theorem modMigration_gb (e : Fin 256) (f : Migration → Migration) (s : State) : (modMigration e f s).gb = s.gb := rfl
@[simp] theorem modMigration_sys (e : Fin 256) (f : Migration → Migration) (s : State) : (modMigration e f s).sys = s.sys := rfl
@[simp] theorem modMigration_hr (e : Fin 256) (f : Migration → Migration) (s : State) : (modMigration e f s).hr = s.hr := rfl
@[simp] theorem modMigration_radio (e : Fin 256) (f : Migration → Migration) (s : State) : (modMigration e f s).radio = s.radio := rfl
@[simp] theorem modMigration_loops (e : Fin 256) (f : Migration → Migration) (s : State) : (modMigration e f s).loops = s.loops := rfl
@[simp] theorem modMigration_supply (e : Fin 256) (f : Migration → Migration) (s : State) : (modMigration e f s).supply = s.supply := rfl
@[simp] theorem modMigration_thermal (e : Fin 256) (f : Migration → Migration) (s : State) : (modMigration e f s).thermal = s.thermal := rfl
@[simp] theorem modMigration_fabric (e : Fin 256) (f : Migration → Migration) (s : State) : (modMigration e f s).fabric = s.fabric := rfl
@[simp] theorem modMigration_twin (e : Fin 256) (f : Migration → Migration) (s : State) : (modMigration e f s).twin = s.twin := rfl
@[simp] theorem modMigration_compat (e : Fin 256) (f : Migration → Migration) (s : State) : (modMigration e f s).compat = s.compat := rfl
@[simp] theorem modMigration_dbg (e : Fin 256) (f : Migration → Migration) (s : State) : (modMigration e f s).dbg = s.dbg := rfl

@[simp] theorem modRadio_pending (f : Radio → Radio) (s : State) : (modRadio f s).pending = s.pending := rfl
@[simp] theorem modRadio_now (f : Radio → Radio) (s : State) : (modRadio f s).now = s.now := rfl
@[simp] theorem modRadio_slowTicks (f : Radio → Radio) (s : State) : (modRadio f s).slowTicks = s.slowTicks := rfl
@[simp] theorem modRadio_slowAt (f : Radio → Radio) (s : State) : (modRadio f s).slowAt = s.slowAt := rfl
@[simp] theorem modRadio_alcAt (f : Radio → Radio) (s : State) : (modRadio f s).alcAt = s.alcAt := rfl
@[simp] theorem modRadio_protWait (f : Radio → Radio) (s : State) : (modRadio f s).protWait = s.protWait := rfl
@[simp] theorem modRadio_opBase (f : Radio → Radio) (s : State) : (modRadio f s).opBase = s.opBase := rfl
@[simp] theorem modRadio_opFrac (f : Radio → Radio) (s : State) : (modRadio f s).opFrac = s.opFrac := rfl
@[simp] theorem modRadio_freeCtr (f : Radio → Radio) (s : State) : (modRadio f s).freeCtr = s.freeCtr := rfl
@[simp] theorem modRadio_tickets (f : Radio → Radio) (s : State) : (modRadio f s).tickets = s.tickets := rfl
@[simp] theorem modRadio_hif (f : Radio → Radio) (s : State) : (modRadio f s).hif = s.hif := rfl
@[simp] theorem modRadio_links (f : Radio → Radio) (s : State) : (modRadio f s).links = s.links := rfl
@[simp] theorem modRadio_chans (f : Radio → Radio) (s : State) : (modRadio f s).chans = s.chans := rfl
@[simp] theorem modRadio_ports (f : Radio → Radio) (s : State) : (modRadio f s).ports = s.ports := rfl
@[simp] theorem modRadio_ladder (f : Radio → Radio) (s : State) : (modRadio f s).ladder = s.ladder := rfl
@[simp] theorem modRadio_ladderNext (f : Radio → Radio) (s : State) : (modRadio f s).ladderNext = s.ladderNext := rfl
@[simp] theorem modRadio_pool (f : Radio → Radio) (s : State) : (modRadio f s).pool = s.pool := rfl
@[simp] theorem modRadio_faults (f : Radio → Radio) (s : State) : (modRadio f s).faults = s.faults := rfl
@[simp] theorem modRadio_gb (f : Radio → Radio) (s : State) : (modRadio f s).gb = s.gb := rfl
@[simp] theorem modRadio_sys (f : Radio → Radio) (s : State) : (modRadio f s).sys = s.sys := rfl
@[simp] theorem modRadio_hr (f : Radio → Radio) (s : State) : (modRadio f s).hr = s.hr := rfl
@[simp] theorem modRadio_eng (f : Radio → Radio) (s : State) : (modRadio f s).eng = s.eng := rfl
@[simp] theorem modRadio_radio (f : Radio → Radio) (s : State) : (modRadio f s).radio = f s.radio := rfl
@[simp] theorem modRadio_loops (f : Radio → Radio) (s : State) : (modRadio f s).loops = s.loops := rfl
@[simp] theorem modRadio_supply (f : Radio → Radio) (s : State) : (modRadio f s).supply = s.supply := rfl
@[simp] theorem modRadio_thermal (f : Radio → Radio) (s : State) : (modRadio f s).thermal = s.thermal := rfl
@[simp] theorem modRadio_fabric (f : Radio → Radio) (s : State) : (modRadio f s).fabric = s.fabric := rfl
@[simp] theorem modRadio_twin (f : Radio → Radio) (s : State) : (modRadio f s).twin = s.twin := rfl
@[simp] theorem modRadio_compat (f : Radio → Radio) (s : State) : (modRadio f s).compat = s.compat := rfl
@[simp] theorem modRadio_dbg (f : Radio → Radio) (s : State) : (modRadio f s).dbg = s.dbg := rfl

@[simp] theorem modTimer_pending (f : FrameTimer → FrameTimer) (s : State) : (modTimer f s).pending = s.pending := rfl
@[simp] theorem modTimer_now (f : FrameTimer → FrameTimer) (s : State) : (modTimer f s).now = s.now := rfl
@[simp] theorem modTimer_slowTicks (f : FrameTimer → FrameTimer) (s : State) : (modTimer f s).slowTicks = s.slowTicks := rfl
@[simp] theorem modTimer_slowAt (f : FrameTimer → FrameTimer) (s : State) : (modTimer f s).slowAt = s.slowAt := rfl
@[simp] theorem modTimer_alcAt (f : FrameTimer → FrameTimer) (s : State) : (modTimer f s).alcAt = s.alcAt := rfl
@[simp] theorem modTimer_protWait (f : FrameTimer → FrameTimer) (s : State) : (modTimer f s).protWait = s.protWait := rfl
@[simp] theorem modTimer_opBase (f : FrameTimer → FrameTimer) (s : State) : (modTimer f s).opBase = s.opBase := rfl
@[simp] theorem modTimer_opFrac (f : FrameTimer → FrameTimer) (s : State) : (modTimer f s).opFrac = s.opFrac := rfl
@[simp] theorem modTimer_freeCtr (f : FrameTimer → FrameTimer) (s : State) : (modTimer f s).freeCtr = s.freeCtr := rfl
@[simp] theorem modTimer_tickets (f : FrameTimer → FrameTimer) (s : State) : (modTimer f s).tickets = s.tickets := rfl
@[simp] theorem modTimer_hif (f : FrameTimer → FrameTimer) (s : State) : (modTimer f s).hif = s.hif := rfl
@[simp] theorem modTimer_links (f : FrameTimer → FrameTimer) (s : State) : (modTimer f s).links = s.links := rfl
@[simp] theorem modTimer_chans (f : FrameTimer → FrameTimer) (s : State) : (modTimer f s).chans = s.chans := rfl
@[simp] theorem modTimer_ports (f : FrameTimer → FrameTimer) (s : State) : (modTimer f s).ports = s.ports := rfl
@[simp] theorem modTimer_ladder (f : FrameTimer → FrameTimer) (s : State) : (modTimer f s).ladder = s.ladder := rfl
@[simp] theorem modTimer_ladderNext (f : FrameTimer → FrameTimer) (s : State) : (modTimer f s).ladderNext = s.ladderNext := rfl
@[simp] theorem modTimer_pool (f : FrameTimer → FrameTimer) (s : State) : (modTimer f s).pool = s.pool := rfl
@[simp] theorem modTimer_faults (f : FrameTimer → FrameTimer) (s : State) : (modTimer f s).faults = s.faults := rfl
@[simp] theorem modTimer_gb (f : FrameTimer → FrameTimer) (s : State) : (modTimer f s).gb = s.gb := rfl
@[simp] theorem modTimer_sys (f : FrameTimer → FrameTimer) (s : State) : (modTimer f s).sys = s.sys := rfl
@[simp] theorem modTimer_hr (f : FrameTimer → FrameTimer) (s : State) : (modTimer f s).hr = s.hr := rfl
@[simp] theorem modTimer_eng (f : FrameTimer → FrameTimer) (s : State) : (modTimer f s).eng = s.eng := rfl
@[simp] theorem modTimer_radio (f : FrameTimer → FrameTimer) (s : State) : (modTimer f s).radio = { s.radio with timer := f s.radio.timer } := rfl
@[simp] theorem modTimer_loops (f : FrameTimer → FrameTimer) (s : State) : (modTimer f s).loops = s.loops := rfl
@[simp] theorem modTimer_supply (f : FrameTimer → FrameTimer) (s : State) : (modTimer f s).supply = s.supply := rfl
@[simp] theorem modTimer_thermal (f : FrameTimer → FrameTimer) (s : State) : (modTimer f s).thermal = s.thermal := rfl
@[simp] theorem modTimer_fabric (f : FrameTimer → FrameTimer) (s : State) : (modTimer f s).fabric = s.fabric := rfl
@[simp] theorem modTimer_twin (f : FrameTimer → FrameTimer) (s : State) : (modTimer f s).twin = s.twin := rfl
@[simp] theorem modTimer_compat (f : FrameTimer → FrameTimer) (s : State) : (modTimer f s).compat = s.compat := rfl
@[simp] theorem modTimer_dbg (f : FrameTimer → FrameTimer) (s : State) : (modTimer f s).dbg = s.dbg := rfl

@[simp] theorem modLo_pending (n : Fin 5) (f : Lo → Lo) (s : State) : (modLo n f s).pending = s.pending := rfl
@[simp] theorem modLo_now (n : Fin 5) (f : Lo → Lo) (s : State) : (modLo n f s).now = s.now := rfl
@[simp] theorem modLo_slowTicks (n : Fin 5) (f : Lo → Lo) (s : State) : (modLo n f s).slowTicks = s.slowTicks := rfl
@[simp] theorem modLo_slowAt (n : Fin 5) (f : Lo → Lo) (s : State) : (modLo n f s).slowAt = s.slowAt := rfl
@[simp] theorem modLo_alcAt (n : Fin 5) (f : Lo → Lo) (s : State) : (modLo n f s).alcAt = s.alcAt := rfl
@[simp] theorem modLo_protWait (n : Fin 5) (f : Lo → Lo) (s : State) : (modLo n f s).protWait = s.protWait := rfl
@[simp] theorem modLo_opBase (n : Fin 5) (f : Lo → Lo) (s : State) : (modLo n f s).opBase = s.opBase := rfl
@[simp] theorem modLo_opFrac (n : Fin 5) (f : Lo → Lo) (s : State) : (modLo n f s).opFrac = s.opFrac := rfl
@[simp] theorem modLo_freeCtr (n : Fin 5) (f : Lo → Lo) (s : State) : (modLo n f s).freeCtr = s.freeCtr := rfl
@[simp] theorem modLo_tickets (n : Fin 5) (f : Lo → Lo) (s : State) : (modLo n f s).tickets = s.tickets := rfl
@[simp] theorem modLo_hif (n : Fin 5) (f : Lo → Lo) (s : State) : (modLo n f s).hif = s.hif := rfl
@[simp] theorem modLo_links (n : Fin 5) (f : Lo → Lo) (s : State) : (modLo n f s).links = s.links := rfl
@[simp] theorem modLo_chans (n : Fin 5) (f : Lo → Lo) (s : State) : (modLo n f s).chans = s.chans := rfl
@[simp] theorem modLo_ports (n : Fin 5) (f : Lo → Lo) (s : State) : (modLo n f s).ports = s.ports := rfl
@[simp] theorem modLo_ladder (n : Fin 5) (f : Lo → Lo) (s : State) : (modLo n f s).ladder = s.ladder := rfl
@[simp] theorem modLo_ladderNext (n : Fin 5) (f : Lo → Lo) (s : State) : (modLo n f s).ladderNext = s.ladderNext := rfl
@[simp] theorem modLo_pool (n : Fin 5) (f : Lo → Lo) (s : State) : (modLo n f s).pool = s.pool := rfl
@[simp] theorem modLo_faults (n : Fin 5) (f : Lo → Lo) (s : State) : (modLo n f s).faults = s.faults := rfl
@[simp] theorem modLo_gb (n : Fin 5) (f : Lo → Lo) (s : State) : (modLo n f s).gb = s.gb := rfl
@[simp] theorem modLo_sys (n : Fin 5) (f : Lo → Lo) (s : State) : (modLo n f s).sys = s.sys := rfl
@[simp] theorem modLo_hr (n : Fin 5) (f : Lo → Lo) (s : State) : (modLo n f s).hr = s.hr := rfl
@[simp] theorem modLo_eng (n : Fin 5) (f : Lo → Lo) (s : State) : (modLo n f s).eng = s.eng := rfl
@[simp] theorem modLo_loops (n : Fin 5) (f : Lo → Lo) (s : State) : (modLo n f s).loops = s.loops := rfl
@[simp] theorem modLo_supply (n : Fin 5) (f : Lo → Lo) (s : State) : (modLo n f s).supply = s.supply := rfl
@[simp] theorem modLo_thermal (n : Fin 5) (f : Lo → Lo) (s : State) : (modLo n f s).thermal = s.thermal := rfl
@[simp] theorem modLo_fabric (n : Fin 5) (f : Lo → Lo) (s : State) : (modLo n f s).fabric = s.fabric := rfl
@[simp] theorem modLo_twin (n : Fin 5) (f : Lo → Lo) (s : State) : (modLo n f s).twin = s.twin := rfl
@[simp] theorem modLo_compat (n : Fin 5) (f : Lo → Lo) (s : State) : (modLo n f s).compat = s.compat := rfl
@[simp] theorem modLo_dbg (n : Fin 5) (f : Lo → Lo) (s : State) : (modLo n f s).dbg = s.dbg := rfl

@[simp] theorem modTx_pending (p : Fin 8) (f : TxPort → TxPort) (s : State) : (modTx p f s).pending = s.pending := rfl
@[simp] theorem modTx_now (p : Fin 8) (f : TxPort → TxPort) (s : State) : (modTx p f s).now = s.now := rfl
@[simp] theorem modTx_slowTicks (p : Fin 8) (f : TxPort → TxPort) (s : State) : (modTx p f s).slowTicks = s.slowTicks := rfl
@[simp] theorem modTx_slowAt (p : Fin 8) (f : TxPort → TxPort) (s : State) : (modTx p f s).slowAt = s.slowAt := rfl
@[simp] theorem modTx_alcAt (p : Fin 8) (f : TxPort → TxPort) (s : State) : (modTx p f s).alcAt = s.alcAt := rfl
@[simp] theorem modTx_protWait (p : Fin 8) (f : TxPort → TxPort) (s : State) : (modTx p f s).protWait = s.protWait := rfl
@[simp] theorem modTx_opBase (p : Fin 8) (f : TxPort → TxPort) (s : State) : (modTx p f s).opBase = s.opBase := rfl
@[simp] theorem modTx_opFrac (p : Fin 8) (f : TxPort → TxPort) (s : State) : (modTx p f s).opFrac = s.opFrac := rfl
@[simp] theorem modTx_freeCtr (p : Fin 8) (f : TxPort → TxPort) (s : State) : (modTx p f s).freeCtr = s.freeCtr := rfl
@[simp] theorem modTx_tickets (p : Fin 8) (f : TxPort → TxPort) (s : State) : (modTx p f s).tickets = s.tickets := rfl
@[simp] theorem modTx_hif (p : Fin 8) (f : TxPort → TxPort) (s : State) : (modTx p f s).hif = s.hif := rfl
@[simp] theorem modTx_links (p : Fin 8) (f : TxPort → TxPort) (s : State) : (modTx p f s).links = s.links := rfl
@[simp] theorem modTx_chans (p : Fin 8) (f : TxPort → TxPort) (s : State) : (modTx p f s).chans = s.chans := rfl
@[simp] theorem modTx_ports (p : Fin 8) (f : TxPort → TxPort) (s : State) : (modTx p f s).ports = s.ports := rfl
@[simp] theorem modTx_ladder (p : Fin 8) (f : TxPort → TxPort) (s : State) : (modTx p f s).ladder = s.ladder := rfl
@[simp] theorem modTx_ladderNext (p : Fin 8) (f : TxPort → TxPort) (s : State) : (modTx p f s).ladderNext = s.ladderNext := rfl
@[simp] theorem modTx_pool (p : Fin 8) (f : TxPort → TxPort) (s : State) : (modTx p f s).pool = s.pool := rfl
@[simp] theorem modTx_faults (p : Fin 8) (f : TxPort → TxPort) (s : State) : (modTx p f s).faults = s.faults := rfl
@[simp] theorem modTx_gb (p : Fin 8) (f : TxPort → TxPort) (s : State) : (modTx p f s).gb = s.gb := rfl
@[simp] theorem modTx_sys (p : Fin 8) (f : TxPort → TxPort) (s : State) : (modTx p f s).sys = s.sys := rfl
@[simp] theorem modTx_hr (p : Fin 8) (f : TxPort → TxPort) (s : State) : (modTx p f s).hr = s.hr := rfl
@[simp] theorem modTx_eng (p : Fin 8) (f : TxPort → TxPort) (s : State) : (modTx p f s).eng = s.eng := rfl
@[simp] theorem modTx_loops (p : Fin 8) (f : TxPort → TxPort) (s : State) : (modTx p f s).loops = s.loops := rfl
@[simp] theorem modTx_supply (p : Fin 8) (f : TxPort → TxPort) (s : State) : (modTx p f s).supply = s.supply := rfl
@[simp] theorem modTx_thermal (p : Fin 8) (f : TxPort → TxPort) (s : State) : (modTx p f s).thermal = s.thermal := rfl
@[simp] theorem modTx_fabric (p : Fin 8) (f : TxPort → TxPort) (s : State) : (modTx p f s).fabric = s.fabric := rfl
@[simp] theorem modTx_twin (p : Fin 8) (f : TxPort → TxPort) (s : State) : (modTx p f s).twin = s.twin := rfl
@[simp] theorem modTx_compat (p : Fin 8) (f : TxPort → TxPort) (s : State) : (modTx p f s).compat = s.compat := rfl
@[simp] theorem modTx_dbg (p : Fin 8) (f : TxPort → TxPort) (s : State) : (modTx p f s).dbg = s.dbg := rfl

@[simp] theorem modSerial_pending (m : Fin 4) (f : SerialMaster → SerialMaster) (s : State) : (modSerial m f s).pending = s.pending := rfl
@[simp] theorem modSerial_now (m : Fin 4) (f : SerialMaster → SerialMaster) (s : State) : (modSerial m f s).now = s.now := rfl
@[simp] theorem modSerial_slowTicks (m : Fin 4) (f : SerialMaster → SerialMaster) (s : State) : (modSerial m f s).slowTicks = s.slowTicks := rfl
@[simp] theorem modSerial_slowAt (m : Fin 4) (f : SerialMaster → SerialMaster) (s : State) : (modSerial m f s).slowAt = s.slowAt := rfl
@[simp] theorem modSerial_alcAt (m : Fin 4) (f : SerialMaster → SerialMaster) (s : State) : (modSerial m f s).alcAt = s.alcAt := rfl
@[simp] theorem modSerial_protWait (m : Fin 4) (f : SerialMaster → SerialMaster) (s : State) : (modSerial m f s).protWait = s.protWait := rfl
@[simp] theorem modSerial_opBase (m : Fin 4) (f : SerialMaster → SerialMaster) (s : State) : (modSerial m f s).opBase = s.opBase := rfl
@[simp] theorem modSerial_opFrac (m : Fin 4) (f : SerialMaster → SerialMaster) (s : State) : (modSerial m f s).opFrac = s.opFrac := rfl
@[simp] theorem modSerial_freeCtr (m : Fin 4) (f : SerialMaster → SerialMaster) (s : State) : (modSerial m f s).freeCtr = s.freeCtr := rfl
@[simp] theorem modSerial_tickets (m : Fin 4) (f : SerialMaster → SerialMaster) (s : State) : (modSerial m f s).tickets = s.tickets := rfl
@[simp] theorem modSerial_hif (m : Fin 4) (f : SerialMaster → SerialMaster) (s : State) : (modSerial m f s).hif = s.hif := rfl
@[simp] theorem modSerial_links (m : Fin 4) (f : SerialMaster → SerialMaster) (s : State) : (modSerial m f s).links = s.links := rfl
@[simp] theorem modSerial_chans (m : Fin 4) (f : SerialMaster → SerialMaster) (s : State) : (modSerial m f s).chans = s.chans := rfl
@[simp] theorem modSerial_ports (m : Fin 4) (f : SerialMaster → SerialMaster) (s : State) : (modSerial m f s).ports = s.ports := rfl
@[simp] theorem modSerial_ladder (m : Fin 4) (f : SerialMaster → SerialMaster) (s : State) : (modSerial m f s).ladder = s.ladder := rfl
@[simp] theorem modSerial_ladderNext (m : Fin 4) (f : SerialMaster → SerialMaster) (s : State) : (modSerial m f s).ladderNext = s.ladderNext := rfl
@[simp] theorem modSerial_pool (m : Fin 4) (f : SerialMaster → SerialMaster) (s : State) : (modSerial m f s).pool = s.pool := rfl
@[simp] theorem modSerial_faults (m : Fin 4) (f : SerialMaster → SerialMaster) (s : State) : (modSerial m f s).faults = s.faults := rfl
@[simp] theorem modSerial_gb (m : Fin 4) (f : SerialMaster → SerialMaster) (s : State) : (modSerial m f s).gb = s.gb := rfl
@[simp] theorem modSerial_sys (m : Fin 4) (f : SerialMaster → SerialMaster) (s : State) : (modSerial m f s).sys = s.sys := rfl
@[simp] theorem modSerial_hr (m : Fin 4) (f : SerialMaster → SerialMaster) (s : State) : (modSerial m f s).hr = s.hr := rfl
@[simp] theorem modSerial_eng (m : Fin 4) (f : SerialMaster → SerialMaster) (s : State) : (modSerial m f s).eng = s.eng := rfl
@[simp] theorem modSerial_loops (m : Fin 4) (f : SerialMaster → SerialMaster) (s : State) : (modSerial m f s).loops = s.loops := rfl
@[simp] theorem modSerial_supply (m : Fin 4) (f : SerialMaster → SerialMaster) (s : State) : (modSerial m f s).supply = s.supply := rfl
@[simp] theorem modSerial_thermal (m : Fin 4) (f : SerialMaster → SerialMaster) (s : State) : (modSerial m f s).thermal = s.thermal := rfl
@[simp] theorem modSerial_fabric (m : Fin 4) (f : SerialMaster → SerialMaster) (s : State) : (modSerial m f s).fabric = s.fabric := rfl
@[simp] theorem modSerial_twin (m : Fin 4) (f : SerialMaster → SerialMaster) (s : State) : (modSerial m f s).twin = s.twin := rfl
@[simp] theorem modSerial_compat (m : Fin 4) (f : SerialMaster → SerialMaster) (s : State) : (modSerial m f s).compat = s.compat := rfl
@[simp] theorem modSerial_dbg (m : Fin 4) (f : SerialMaster → SerialMaster) (s : State) : (modSerial m f s).dbg = s.dbg := rfl

@[simp] theorem modCoex_pending (x : Fin 2) (f : Coex → Coex) (s : State) : (modCoex x f s).pending = s.pending := rfl
@[simp] theorem modCoex_now (x : Fin 2) (f : Coex → Coex) (s : State) : (modCoex x f s).now = s.now := rfl
@[simp] theorem modCoex_slowTicks (x : Fin 2) (f : Coex → Coex) (s : State) : (modCoex x f s).slowTicks = s.slowTicks := rfl
@[simp] theorem modCoex_slowAt (x : Fin 2) (f : Coex → Coex) (s : State) : (modCoex x f s).slowAt = s.slowAt := rfl
@[simp] theorem modCoex_alcAt (x : Fin 2) (f : Coex → Coex) (s : State) : (modCoex x f s).alcAt = s.alcAt := rfl
@[simp] theorem modCoex_protWait (x : Fin 2) (f : Coex → Coex) (s : State) : (modCoex x f s).protWait = s.protWait := rfl
@[simp] theorem modCoex_opBase (x : Fin 2) (f : Coex → Coex) (s : State) : (modCoex x f s).opBase = s.opBase := rfl
@[simp] theorem modCoex_opFrac (x : Fin 2) (f : Coex → Coex) (s : State) : (modCoex x f s).opFrac = s.opFrac := rfl
@[simp] theorem modCoex_freeCtr (x : Fin 2) (f : Coex → Coex) (s : State) : (modCoex x f s).freeCtr = s.freeCtr := rfl
@[simp] theorem modCoex_tickets (x : Fin 2) (f : Coex → Coex) (s : State) : (modCoex x f s).tickets = s.tickets := rfl
@[simp] theorem modCoex_hif (x : Fin 2) (f : Coex → Coex) (s : State) : (modCoex x f s).hif = s.hif := rfl
@[simp] theorem modCoex_links (x : Fin 2) (f : Coex → Coex) (s : State) : (modCoex x f s).links = s.links := rfl
@[simp] theorem modCoex_chans (x : Fin 2) (f : Coex → Coex) (s : State) : (modCoex x f s).chans = s.chans := rfl
@[simp] theorem modCoex_ports (x : Fin 2) (f : Coex → Coex) (s : State) : (modCoex x f s).ports = s.ports := rfl
@[simp] theorem modCoex_ladder (x : Fin 2) (f : Coex → Coex) (s : State) : (modCoex x f s).ladder = s.ladder := rfl
@[simp] theorem modCoex_ladderNext (x : Fin 2) (f : Coex → Coex) (s : State) : (modCoex x f s).ladderNext = s.ladderNext := rfl
@[simp] theorem modCoex_pool (x : Fin 2) (f : Coex → Coex) (s : State) : (modCoex x f s).pool = s.pool := rfl
@[simp] theorem modCoex_faults (x : Fin 2) (f : Coex → Coex) (s : State) : (modCoex x f s).faults = s.faults := rfl
@[simp] theorem modCoex_gb (x : Fin 2) (f : Coex → Coex) (s : State) : (modCoex x f s).gb = s.gb := rfl
@[simp] theorem modCoex_sys (x : Fin 2) (f : Coex → Coex) (s : State) : (modCoex x f s).sys = s.sys := rfl
@[simp] theorem modCoex_hr (x : Fin 2) (f : Coex → Coex) (s : State) : (modCoex x f s).hr = s.hr := rfl
@[simp] theorem modCoex_eng (x : Fin 2) (f : Coex → Coex) (s : State) : (modCoex x f s).eng = s.eng := rfl
@[simp] theorem modCoex_loops (x : Fin 2) (f : Coex → Coex) (s : State) : (modCoex x f s).loops = s.loops := rfl
@[simp] theorem modCoex_supply (x : Fin 2) (f : Coex → Coex) (s : State) : (modCoex x f s).supply = s.supply := rfl
@[simp] theorem modCoex_thermal (x : Fin 2) (f : Coex → Coex) (s : State) : (modCoex x f s).thermal = s.thermal := rfl
@[simp] theorem modCoex_fabric (x : Fin 2) (f : Coex → Coex) (s : State) : (modCoex x f s).fabric = s.fabric := rfl
@[simp] theorem modCoex_twin (x : Fin 2) (f : Coex → Coex) (s : State) : (modCoex x f s).twin = s.twin := rfl
@[simp] theorem modCoex_compat (x : Fin 2) (f : Coex → Coex) (s : State) : (modCoex x f s).compat = s.compat := rfl
@[simp] theorem modCoex_dbg (x : Fin 2) (f : Coex → Coex) (s : State) : (modCoex x f s).dbg = s.dbg := rfl

@[simp] theorem modLoopEngine_pending (f : LoopEngine → LoopEngine) (s : State) : (modLoopEngine f s).pending = s.pending := rfl
@[simp] theorem modLoopEngine_now (f : LoopEngine → LoopEngine) (s : State) : (modLoopEngine f s).now = s.now := rfl
@[simp] theorem modLoopEngine_slowTicks (f : LoopEngine → LoopEngine) (s : State) : (modLoopEngine f s).slowTicks = s.slowTicks := rfl
@[simp] theorem modLoopEngine_slowAt (f : LoopEngine → LoopEngine) (s : State) : (modLoopEngine f s).slowAt = s.slowAt := rfl
@[simp] theorem modLoopEngine_alcAt (f : LoopEngine → LoopEngine) (s : State) : (modLoopEngine f s).alcAt = s.alcAt := rfl
@[simp] theorem modLoopEngine_protWait (f : LoopEngine → LoopEngine) (s : State) : (modLoopEngine f s).protWait = s.protWait := rfl
@[simp] theorem modLoopEngine_opBase (f : LoopEngine → LoopEngine) (s : State) : (modLoopEngine f s).opBase = s.opBase := rfl
@[simp] theorem modLoopEngine_opFrac (f : LoopEngine → LoopEngine) (s : State) : (modLoopEngine f s).opFrac = s.opFrac := rfl
@[simp] theorem modLoopEngine_freeCtr (f : LoopEngine → LoopEngine) (s : State) : (modLoopEngine f s).freeCtr = s.freeCtr := rfl
@[simp] theorem modLoopEngine_tickets (f : LoopEngine → LoopEngine) (s : State) : (modLoopEngine f s).tickets = s.tickets := rfl
@[simp] theorem modLoopEngine_hif (f : LoopEngine → LoopEngine) (s : State) : (modLoopEngine f s).hif = s.hif := rfl
@[simp] theorem modLoopEngine_links (f : LoopEngine → LoopEngine) (s : State) : (modLoopEngine f s).links = s.links := rfl
@[simp] theorem modLoopEngine_chans (f : LoopEngine → LoopEngine) (s : State) : (modLoopEngine f s).chans = s.chans := rfl
@[simp] theorem modLoopEngine_ports (f : LoopEngine → LoopEngine) (s : State) : (modLoopEngine f s).ports = s.ports := rfl
@[simp] theorem modLoopEngine_ladder (f : LoopEngine → LoopEngine) (s : State) : (modLoopEngine f s).ladder = s.ladder := rfl
@[simp] theorem modLoopEngine_ladderNext (f : LoopEngine → LoopEngine) (s : State) : (modLoopEngine f s).ladderNext = s.ladderNext := rfl
@[simp] theorem modLoopEngine_pool (f : LoopEngine → LoopEngine) (s : State) : (modLoopEngine f s).pool = s.pool := rfl
@[simp] theorem modLoopEngine_faults (f : LoopEngine → LoopEngine) (s : State) : (modLoopEngine f s).faults = s.faults := rfl
@[simp] theorem modLoopEngine_gb (f : LoopEngine → LoopEngine) (s : State) : (modLoopEngine f s).gb = s.gb := rfl
@[simp] theorem modLoopEngine_sys (f : LoopEngine → LoopEngine) (s : State) : (modLoopEngine f s).sys = s.sys := rfl
@[simp] theorem modLoopEngine_hr (f : LoopEngine → LoopEngine) (s : State) : (modLoopEngine f s).hr = s.hr := rfl
@[simp] theorem modLoopEngine_eng (f : LoopEngine → LoopEngine) (s : State) : (modLoopEngine f s).eng = s.eng := rfl
@[simp] theorem modLoopEngine_radio (f : LoopEngine → LoopEngine) (s : State) : (modLoopEngine f s).radio = s.radio := rfl
@[simp] theorem modLoopEngine_loops (f : LoopEngine → LoopEngine) (s : State) : (modLoopEngine f s).loops = f s.loops := rfl
@[simp] theorem modLoopEngine_supply (f : LoopEngine → LoopEngine) (s : State) : (modLoopEngine f s).supply = s.supply := rfl
@[simp] theorem modLoopEngine_thermal (f : LoopEngine → LoopEngine) (s : State) : (modLoopEngine f s).thermal = s.thermal := rfl
@[simp] theorem modLoopEngine_fabric (f : LoopEngine → LoopEngine) (s : State) : (modLoopEngine f s).fabric = s.fabric := rfl
@[simp] theorem modLoopEngine_twin (f : LoopEngine → LoopEngine) (s : State) : (modLoopEngine f s).twin = s.twin := rfl
@[simp] theorem modLoopEngine_compat (f : LoopEngine → LoopEngine) (s : State) : (modLoopEngine f s).compat = s.compat := rfl
@[simp] theorem modLoopEngine_dbg (f : LoopEngine → LoopEngine) (s : State) : (modLoopEngine f s).dbg = s.dbg := rfl

@[simp] theorem modLoop_pending (l : Nat) (f : Loop → Loop) (s : State) : (modLoop l f s).pending = s.pending := rfl
@[simp] theorem modLoop_now (l : Nat) (f : Loop → Loop) (s : State) : (modLoop l f s).now = s.now := rfl
@[simp] theorem modLoop_slowTicks (l : Nat) (f : Loop → Loop) (s : State) : (modLoop l f s).slowTicks = s.slowTicks := rfl
@[simp] theorem modLoop_slowAt (l : Nat) (f : Loop → Loop) (s : State) : (modLoop l f s).slowAt = s.slowAt := rfl
@[simp] theorem modLoop_alcAt (l : Nat) (f : Loop → Loop) (s : State) : (modLoop l f s).alcAt = s.alcAt := rfl
@[simp] theorem modLoop_protWait (l : Nat) (f : Loop → Loop) (s : State) : (modLoop l f s).protWait = s.protWait := rfl
@[simp] theorem modLoop_opBase (l : Nat) (f : Loop → Loop) (s : State) : (modLoop l f s).opBase = s.opBase := rfl
@[simp] theorem modLoop_opFrac (l : Nat) (f : Loop → Loop) (s : State) : (modLoop l f s).opFrac = s.opFrac := rfl
@[simp] theorem modLoop_freeCtr (l : Nat) (f : Loop → Loop) (s : State) : (modLoop l f s).freeCtr = s.freeCtr := rfl
@[simp] theorem modLoop_tickets (l : Nat) (f : Loop → Loop) (s : State) : (modLoop l f s).tickets = s.tickets := rfl
@[simp] theorem modLoop_hif (l : Nat) (f : Loop → Loop) (s : State) : (modLoop l f s).hif = s.hif := rfl
@[simp] theorem modLoop_links (l : Nat) (f : Loop → Loop) (s : State) : (modLoop l f s).links = s.links := rfl
@[simp] theorem modLoop_chans (l : Nat) (f : Loop → Loop) (s : State) : (modLoop l f s).chans = s.chans := rfl
@[simp] theorem modLoop_ports (l : Nat) (f : Loop → Loop) (s : State) : (modLoop l f s).ports = s.ports := rfl
@[simp] theorem modLoop_ladder (l : Nat) (f : Loop → Loop) (s : State) : (modLoop l f s).ladder = s.ladder := rfl
@[simp] theorem modLoop_ladderNext (l : Nat) (f : Loop → Loop) (s : State) : (modLoop l f s).ladderNext = s.ladderNext := rfl
@[simp] theorem modLoop_pool (l : Nat) (f : Loop → Loop) (s : State) : (modLoop l f s).pool = s.pool := rfl
@[simp] theorem modLoop_faults (l : Nat) (f : Loop → Loop) (s : State) : (modLoop l f s).faults = s.faults := rfl
@[simp] theorem modLoop_gb (l : Nat) (f : Loop → Loop) (s : State) : (modLoop l f s).gb = s.gb := rfl
@[simp] theorem modLoop_sys (l : Nat) (f : Loop → Loop) (s : State) : (modLoop l f s).sys = s.sys := rfl
@[simp] theorem modLoop_hr (l : Nat) (f : Loop → Loop) (s : State) : (modLoop l f s).hr = s.hr := rfl
@[simp] theorem modLoop_eng (l : Nat) (f : Loop → Loop) (s : State) : (modLoop l f s).eng = s.eng := rfl
@[simp] theorem modLoop_radio (l : Nat) (f : Loop → Loop) (s : State) : (modLoop l f s).radio = s.radio := rfl
@[simp] theorem modLoop_supply (l : Nat) (f : Loop → Loop) (s : State) : (modLoop l f s).supply = s.supply := rfl
@[simp] theorem modLoop_thermal (l : Nat) (f : Loop → Loop) (s : State) : (modLoop l f s).thermal = s.thermal := rfl
@[simp] theorem modLoop_fabric (l : Nat) (f : Loop → Loop) (s : State) : (modLoop l f s).fabric = s.fabric := rfl
@[simp] theorem modLoop_twin (l : Nat) (f : Loop → Loop) (s : State) : (modLoop l f s).twin = s.twin := rfl
@[simp] theorem modLoop_compat (l : Nat) (f : Loop → Loop) (s : State) : (modLoop l f s).compat = s.compat := rfl
@[simp] theorem modLoop_dbg (l : Nat) (f : Loop → Loop) (s : State) : (modLoop l f s).dbg = s.dbg := rfl

@[simp] theorem modSupply_pending (f : Supply → Supply) (s : State) : (modSupply f s).pending = s.pending := rfl
@[simp] theorem modSupply_now (f : Supply → Supply) (s : State) : (modSupply f s).now = s.now := rfl
@[simp] theorem modSupply_slowTicks (f : Supply → Supply) (s : State) : (modSupply f s).slowTicks = s.slowTicks := rfl
@[simp] theorem modSupply_slowAt (f : Supply → Supply) (s : State) : (modSupply f s).slowAt = s.slowAt := rfl
@[simp] theorem modSupply_alcAt (f : Supply → Supply) (s : State) : (modSupply f s).alcAt = s.alcAt := rfl
@[simp] theorem modSupply_protWait (f : Supply → Supply) (s : State) : (modSupply f s).protWait = s.protWait := rfl
@[simp] theorem modSupply_opBase (f : Supply → Supply) (s : State) : (modSupply f s).opBase = s.opBase := rfl
@[simp] theorem modSupply_opFrac (f : Supply → Supply) (s : State) : (modSupply f s).opFrac = s.opFrac := rfl
@[simp] theorem modSupply_freeCtr (f : Supply → Supply) (s : State) : (modSupply f s).freeCtr = s.freeCtr := rfl
@[simp] theorem modSupply_tickets (f : Supply → Supply) (s : State) : (modSupply f s).tickets = s.tickets := rfl
@[simp] theorem modSupply_hif (f : Supply → Supply) (s : State) : (modSupply f s).hif = s.hif := rfl
@[simp] theorem modSupply_links (f : Supply → Supply) (s : State) : (modSupply f s).links = s.links := rfl
@[simp] theorem modSupply_chans (f : Supply → Supply) (s : State) : (modSupply f s).chans = s.chans := rfl
@[simp] theorem modSupply_ports (f : Supply → Supply) (s : State) : (modSupply f s).ports = s.ports := rfl
@[simp] theorem modSupply_ladder (f : Supply → Supply) (s : State) : (modSupply f s).ladder = s.ladder := rfl
@[simp] theorem modSupply_ladderNext (f : Supply → Supply) (s : State) : (modSupply f s).ladderNext = s.ladderNext := rfl
@[simp] theorem modSupply_pool (f : Supply → Supply) (s : State) : (modSupply f s).pool = s.pool := rfl
@[simp] theorem modSupply_faults (f : Supply → Supply) (s : State) : (modSupply f s).faults = s.faults := rfl
@[simp] theorem modSupply_gb (f : Supply → Supply) (s : State) : (modSupply f s).gb = s.gb := rfl
@[simp] theorem modSupply_sys (f : Supply → Supply) (s : State) : (modSupply f s).sys = s.sys := rfl
@[simp] theorem modSupply_hr (f : Supply → Supply) (s : State) : (modSupply f s).hr = s.hr := rfl
@[simp] theorem modSupply_eng (f : Supply → Supply) (s : State) : (modSupply f s).eng = s.eng := rfl
@[simp] theorem modSupply_radio (f : Supply → Supply) (s : State) : (modSupply f s).radio = s.radio := rfl
@[simp] theorem modSupply_loops (f : Supply → Supply) (s : State) : (modSupply f s).loops = s.loops := rfl
@[simp] theorem modSupply_supply (f : Supply → Supply) (s : State) : (modSupply f s).supply = f s.supply := rfl
@[simp] theorem modSupply_thermal (f : Supply → Supply) (s : State) : (modSupply f s).thermal = s.thermal := rfl
@[simp] theorem modSupply_fabric (f : Supply → Supply) (s : State) : (modSupply f s).fabric = s.fabric := rfl
@[simp] theorem modSupply_twin (f : Supply → Supply) (s : State) : (modSupply f s).twin = s.twin := rfl
@[simp] theorem modSupply_compat (f : Supply → Supply) (s : State) : (modSupply f s).compat = s.compat := rfl
@[simp] theorem modSupply_dbg (f : Supply → Supply) (s : State) : (modSupply f s).dbg = s.dbg := rfl

@[simp] theorem modRail_pending (r : Fin 10) (f : Rail → Rail) (s : State) : (modRail r f s).pending = s.pending := rfl
@[simp] theorem modRail_now (r : Fin 10) (f : Rail → Rail) (s : State) : (modRail r f s).now = s.now := rfl
@[simp] theorem modRail_slowTicks (r : Fin 10) (f : Rail → Rail) (s : State) : (modRail r f s).slowTicks = s.slowTicks := rfl
@[simp] theorem modRail_slowAt (r : Fin 10) (f : Rail → Rail) (s : State) : (modRail r f s).slowAt = s.slowAt := rfl
@[simp] theorem modRail_alcAt (r : Fin 10) (f : Rail → Rail) (s : State) : (modRail r f s).alcAt = s.alcAt := rfl
@[simp] theorem modRail_protWait (r : Fin 10) (f : Rail → Rail) (s : State) : (modRail r f s).protWait = s.protWait := rfl
@[simp] theorem modRail_opBase (r : Fin 10) (f : Rail → Rail) (s : State) : (modRail r f s).opBase = s.opBase := rfl
@[simp] theorem modRail_opFrac (r : Fin 10) (f : Rail → Rail) (s : State) : (modRail r f s).opFrac = s.opFrac := rfl
@[simp] theorem modRail_freeCtr (r : Fin 10) (f : Rail → Rail) (s : State) : (modRail r f s).freeCtr = s.freeCtr := rfl
@[simp] theorem modRail_tickets (r : Fin 10) (f : Rail → Rail) (s : State) : (modRail r f s).tickets = s.tickets := rfl
@[simp] theorem modRail_hif (r : Fin 10) (f : Rail → Rail) (s : State) : (modRail r f s).hif = s.hif := rfl
@[simp] theorem modRail_links (r : Fin 10) (f : Rail → Rail) (s : State) : (modRail r f s).links = s.links := rfl
@[simp] theorem modRail_chans (r : Fin 10) (f : Rail → Rail) (s : State) : (modRail r f s).chans = s.chans := rfl
@[simp] theorem modRail_ports (r : Fin 10) (f : Rail → Rail) (s : State) : (modRail r f s).ports = s.ports := rfl
@[simp] theorem modRail_ladder (r : Fin 10) (f : Rail → Rail) (s : State) : (modRail r f s).ladder = s.ladder := rfl
@[simp] theorem modRail_ladderNext (r : Fin 10) (f : Rail → Rail) (s : State) : (modRail r f s).ladderNext = s.ladderNext := rfl
@[simp] theorem modRail_pool (r : Fin 10) (f : Rail → Rail) (s : State) : (modRail r f s).pool = s.pool := rfl
@[simp] theorem modRail_faults (r : Fin 10) (f : Rail → Rail) (s : State) : (modRail r f s).faults = s.faults := rfl
@[simp] theorem modRail_gb (r : Fin 10) (f : Rail → Rail) (s : State) : (modRail r f s).gb = s.gb := rfl
@[simp] theorem modRail_sys (r : Fin 10) (f : Rail → Rail) (s : State) : (modRail r f s).sys = s.sys := rfl
@[simp] theorem modRail_hr (r : Fin 10) (f : Rail → Rail) (s : State) : (modRail r f s).hr = s.hr := rfl
@[simp] theorem modRail_eng (r : Fin 10) (f : Rail → Rail) (s : State) : (modRail r f s).eng = s.eng := rfl
@[simp] theorem modRail_radio (r : Fin 10) (f : Rail → Rail) (s : State) : (modRail r f s).radio = s.radio := rfl
@[simp] theorem modRail_loops (r : Fin 10) (f : Rail → Rail) (s : State) : (modRail r f s).loops = s.loops := rfl
@[simp] theorem modRail_thermal (r : Fin 10) (f : Rail → Rail) (s : State) : (modRail r f s).thermal = s.thermal := rfl
@[simp] theorem modRail_fabric (r : Fin 10) (f : Rail → Rail) (s : State) : (modRail r f s).fabric = s.fabric := rfl
@[simp] theorem modRail_twin (r : Fin 10) (f : Rail → Rail) (s : State) : (modRail r f s).twin = s.twin := rfl
@[simp] theorem modRail_compat (r : Fin 10) (f : Rail → Rail) (s : State) : (modRail r f s).compat = s.compat := rfl
@[simp] theorem modRail_dbg (r : Fin 10) (f : Rail → Rail) (s : State) : (modRail r f s).dbg = s.dbg := rfl

@[simp] theorem modPhase_pending (p : Fin 16) (f : Phase → Phase) (s : State) : (modPhase p f s).pending = s.pending := rfl
@[simp] theorem modPhase_now (p : Fin 16) (f : Phase → Phase) (s : State) : (modPhase p f s).now = s.now := rfl
@[simp] theorem modPhase_slowTicks (p : Fin 16) (f : Phase → Phase) (s : State) : (modPhase p f s).slowTicks = s.slowTicks := rfl
@[simp] theorem modPhase_slowAt (p : Fin 16) (f : Phase → Phase) (s : State) : (modPhase p f s).slowAt = s.slowAt := rfl
@[simp] theorem modPhase_alcAt (p : Fin 16) (f : Phase → Phase) (s : State) : (modPhase p f s).alcAt = s.alcAt := rfl
@[simp] theorem modPhase_protWait (p : Fin 16) (f : Phase → Phase) (s : State) : (modPhase p f s).protWait = s.protWait := rfl
@[simp] theorem modPhase_opBase (p : Fin 16) (f : Phase → Phase) (s : State) : (modPhase p f s).opBase = s.opBase := rfl
@[simp] theorem modPhase_opFrac (p : Fin 16) (f : Phase → Phase) (s : State) : (modPhase p f s).opFrac = s.opFrac := rfl
@[simp] theorem modPhase_freeCtr (p : Fin 16) (f : Phase → Phase) (s : State) : (modPhase p f s).freeCtr = s.freeCtr := rfl
@[simp] theorem modPhase_tickets (p : Fin 16) (f : Phase → Phase) (s : State) : (modPhase p f s).tickets = s.tickets := rfl
@[simp] theorem modPhase_hif (p : Fin 16) (f : Phase → Phase) (s : State) : (modPhase p f s).hif = s.hif := rfl
@[simp] theorem modPhase_links (p : Fin 16) (f : Phase → Phase) (s : State) : (modPhase p f s).links = s.links := rfl
@[simp] theorem modPhase_chans (p : Fin 16) (f : Phase → Phase) (s : State) : (modPhase p f s).chans = s.chans := rfl
@[simp] theorem modPhase_ports (p : Fin 16) (f : Phase → Phase) (s : State) : (modPhase p f s).ports = s.ports := rfl
@[simp] theorem modPhase_ladder (p : Fin 16) (f : Phase → Phase) (s : State) : (modPhase p f s).ladder = s.ladder := rfl
@[simp] theorem modPhase_ladderNext (p : Fin 16) (f : Phase → Phase) (s : State) : (modPhase p f s).ladderNext = s.ladderNext := rfl
@[simp] theorem modPhase_pool (p : Fin 16) (f : Phase → Phase) (s : State) : (modPhase p f s).pool = s.pool := rfl
@[simp] theorem modPhase_faults (p : Fin 16) (f : Phase → Phase) (s : State) : (modPhase p f s).faults = s.faults := rfl
@[simp] theorem modPhase_gb (p : Fin 16) (f : Phase → Phase) (s : State) : (modPhase p f s).gb = s.gb := rfl
@[simp] theorem modPhase_sys (p : Fin 16) (f : Phase → Phase) (s : State) : (modPhase p f s).sys = s.sys := rfl
@[simp] theorem modPhase_hr (p : Fin 16) (f : Phase → Phase) (s : State) : (modPhase p f s).hr = s.hr := rfl
@[simp] theorem modPhase_eng (p : Fin 16) (f : Phase → Phase) (s : State) : (modPhase p f s).eng = s.eng := rfl
@[simp] theorem modPhase_radio (p : Fin 16) (f : Phase → Phase) (s : State) : (modPhase p f s).radio = s.radio := rfl
@[simp] theorem modPhase_loops (p : Fin 16) (f : Phase → Phase) (s : State) : (modPhase p f s).loops = s.loops := rfl
@[simp] theorem modPhase_thermal (p : Fin 16) (f : Phase → Phase) (s : State) : (modPhase p f s).thermal = s.thermal := rfl
@[simp] theorem modPhase_fabric (p : Fin 16) (f : Phase → Phase) (s : State) : (modPhase p f s).fabric = s.fabric := rfl
@[simp] theorem modPhase_twin (p : Fin 16) (f : Phase → Phase) (s : State) : (modPhase p f s).twin = s.twin := rfl
@[simp] theorem modPhase_compat (p : Fin 16) (f : Phase → Phase) (s : State) : (modPhase p f s).compat = s.compat := rfl
@[simp] theorem modPhase_dbg (p : Fin 16) (f : Phase → Phase) (s : State) : (modPhase p f s).dbg = s.dbg := rfl

@[simp] theorem modThermal_pending (f : Thermal → Thermal) (s : State) : (modThermal f s).pending = s.pending := rfl
@[simp] theorem modThermal_now (f : Thermal → Thermal) (s : State) : (modThermal f s).now = s.now := rfl
@[simp] theorem modThermal_slowTicks (f : Thermal → Thermal) (s : State) : (modThermal f s).slowTicks = s.slowTicks := rfl
@[simp] theorem modThermal_slowAt (f : Thermal → Thermal) (s : State) : (modThermal f s).slowAt = s.slowAt := rfl
@[simp] theorem modThermal_alcAt (f : Thermal → Thermal) (s : State) : (modThermal f s).alcAt = s.alcAt := rfl
@[simp] theorem modThermal_protWait (f : Thermal → Thermal) (s : State) : (modThermal f s).protWait = s.protWait := rfl
@[simp] theorem modThermal_opBase (f : Thermal → Thermal) (s : State) : (modThermal f s).opBase = s.opBase := rfl
@[simp] theorem modThermal_opFrac (f : Thermal → Thermal) (s : State) : (modThermal f s).opFrac = s.opFrac := rfl
@[simp] theorem modThermal_freeCtr (f : Thermal → Thermal) (s : State) : (modThermal f s).freeCtr = s.freeCtr := rfl
@[simp] theorem modThermal_tickets (f : Thermal → Thermal) (s : State) : (modThermal f s).tickets = s.tickets := rfl
@[simp] theorem modThermal_hif (f : Thermal → Thermal) (s : State) : (modThermal f s).hif = s.hif := rfl
@[simp] theorem modThermal_links (f : Thermal → Thermal) (s : State) : (modThermal f s).links = s.links := rfl
@[simp] theorem modThermal_chans (f : Thermal → Thermal) (s : State) : (modThermal f s).chans = s.chans := rfl
@[simp] theorem modThermal_ports (f : Thermal → Thermal) (s : State) : (modThermal f s).ports = s.ports := rfl
@[simp] theorem modThermal_ladder (f : Thermal → Thermal) (s : State) : (modThermal f s).ladder = s.ladder := rfl
@[simp] theorem modThermal_ladderNext (f : Thermal → Thermal) (s : State) : (modThermal f s).ladderNext = s.ladderNext := rfl
@[simp] theorem modThermal_pool (f : Thermal → Thermal) (s : State) : (modThermal f s).pool = s.pool := rfl
@[simp] theorem modThermal_faults (f : Thermal → Thermal) (s : State) : (modThermal f s).faults = s.faults := rfl
@[simp] theorem modThermal_gb (f : Thermal → Thermal) (s : State) : (modThermal f s).gb = s.gb := rfl
@[simp] theorem modThermal_sys (f : Thermal → Thermal) (s : State) : (modThermal f s).sys = s.sys := rfl
@[simp] theorem modThermal_hr (f : Thermal → Thermal) (s : State) : (modThermal f s).hr = s.hr := rfl
@[simp] theorem modThermal_eng (f : Thermal → Thermal) (s : State) : (modThermal f s).eng = s.eng := rfl
@[simp] theorem modThermal_radio (f : Thermal → Thermal) (s : State) : (modThermal f s).radio = s.radio := rfl
@[simp] theorem modThermal_loops (f : Thermal → Thermal) (s : State) : (modThermal f s).loops = s.loops := rfl
@[simp] theorem modThermal_supply (f : Thermal → Thermal) (s : State) : (modThermal f s).supply = s.supply := rfl
@[simp] theorem modThermal_thermal (f : Thermal → Thermal) (s : State) : (modThermal f s).thermal = f s.thermal := rfl
@[simp] theorem modThermal_fabric (f : Thermal → Thermal) (s : State) : (modThermal f s).fabric = s.fabric := rfl
@[simp] theorem modThermal_twin (f : Thermal → Thermal) (s : State) : (modThermal f s).twin = s.twin := rfl
@[simp] theorem modThermal_compat (f : Thermal → Thermal) (s : State) : (modThermal f s).compat = s.compat := rfl
@[simp] theorem modThermal_dbg (f : Thermal → Thermal) (s : State) : (modThermal f s).dbg = s.dbg := rfl

@[simp] theorem modSensor_pending (n : Nat) (f : Sensor → Sensor) (s : State) : (modSensor n f s).pending = s.pending := rfl
@[simp] theorem modSensor_now (n : Nat) (f : Sensor → Sensor) (s : State) : (modSensor n f s).now = s.now := rfl
@[simp] theorem modSensor_slowTicks (n : Nat) (f : Sensor → Sensor) (s : State) : (modSensor n f s).slowTicks = s.slowTicks := rfl
@[simp] theorem modSensor_slowAt (n : Nat) (f : Sensor → Sensor) (s : State) : (modSensor n f s).slowAt = s.slowAt := rfl
@[simp] theorem modSensor_alcAt (n : Nat) (f : Sensor → Sensor) (s : State) : (modSensor n f s).alcAt = s.alcAt := rfl
@[simp] theorem modSensor_protWait (n : Nat) (f : Sensor → Sensor) (s : State) : (modSensor n f s).protWait = s.protWait := rfl
@[simp] theorem modSensor_opBase (n : Nat) (f : Sensor → Sensor) (s : State) : (modSensor n f s).opBase = s.opBase := rfl
@[simp] theorem modSensor_opFrac (n : Nat) (f : Sensor → Sensor) (s : State) : (modSensor n f s).opFrac = s.opFrac := rfl
@[simp] theorem modSensor_freeCtr (n : Nat) (f : Sensor → Sensor) (s : State) : (modSensor n f s).freeCtr = s.freeCtr := rfl
@[simp] theorem modSensor_tickets (n : Nat) (f : Sensor → Sensor) (s : State) : (modSensor n f s).tickets = s.tickets := rfl
@[simp] theorem modSensor_hif (n : Nat) (f : Sensor → Sensor) (s : State) : (modSensor n f s).hif = s.hif := rfl
@[simp] theorem modSensor_links (n : Nat) (f : Sensor → Sensor) (s : State) : (modSensor n f s).links = s.links := rfl
@[simp] theorem modSensor_chans (n : Nat) (f : Sensor → Sensor) (s : State) : (modSensor n f s).chans = s.chans := rfl
@[simp] theorem modSensor_ports (n : Nat) (f : Sensor → Sensor) (s : State) : (modSensor n f s).ports = s.ports := rfl
@[simp] theorem modSensor_ladder (n : Nat) (f : Sensor → Sensor) (s : State) : (modSensor n f s).ladder = s.ladder := rfl
@[simp] theorem modSensor_ladderNext (n : Nat) (f : Sensor → Sensor) (s : State) : (modSensor n f s).ladderNext = s.ladderNext := rfl
@[simp] theorem modSensor_pool (n : Nat) (f : Sensor → Sensor) (s : State) : (modSensor n f s).pool = s.pool := rfl
@[simp] theorem modSensor_faults (n : Nat) (f : Sensor → Sensor) (s : State) : (modSensor n f s).faults = s.faults := rfl
@[simp] theorem modSensor_gb (n : Nat) (f : Sensor → Sensor) (s : State) : (modSensor n f s).gb = s.gb := rfl
@[simp] theorem modSensor_sys (n : Nat) (f : Sensor → Sensor) (s : State) : (modSensor n f s).sys = s.sys := rfl
@[simp] theorem modSensor_hr (n : Nat) (f : Sensor → Sensor) (s : State) : (modSensor n f s).hr = s.hr := rfl
@[simp] theorem modSensor_eng (n : Nat) (f : Sensor → Sensor) (s : State) : (modSensor n f s).eng = s.eng := rfl
@[simp] theorem modSensor_radio (n : Nat) (f : Sensor → Sensor) (s : State) : (modSensor n f s).radio = s.radio := rfl
@[simp] theorem modSensor_loops (n : Nat) (f : Sensor → Sensor) (s : State) : (modSensor n f s).loops = s.loops := rfl
@[simp] theorem modSensor_supply (n : Nat) (f : Sensor → Sensor) (s : State) : (modSensor n f s).supply = s.supply := rfl
@[simp] theorem modSensor_fabric (n : Nat) (f : Sensor → Sensor) (s : State) : (modSensor n f s).fabric = s.fabric := rfl
@[simp] theorem modSensor_twin (n : Nat) (f : Sensor → Sensor) (s : State) : (modSensor n f s).twin = s.twin := rfl
@[simp] theorem modSensor_compat (n : Nat) (f : Sensor → Sensor) (s : State) : (modSensor n f s).compat = s.compat := rfl
@[simp] theorem modSensor_dbg (n : Nat) (f : Sensor → Sensor) (s : State) : (modSensor n f s).dbg = s.dbg := rfl

@[simp] theorem modFabric_pending (f : Fabric → Fabric) (s : State) : (modFabric f s).pending = s.pending := rfl
@[simp] theorem modFabric_now (f : Fabric → Fabric) (s : State) : (modFabric f s).now = s.now := rfl
@[simp] theorem modFabric_slowTicks (f : Fabric → Fabric) (s : State) : (modFabric f s).slowTicks = s.slowTicks := rfl
@[simp] theorem modFabric_slowAt (f : Fabric → Fabric) (s : State) : (modFabric f s).slowAt = s.slowAt := rfl
@[simp] theorem modFabric_alcAt (f : Fabric → Fabric) (s : State) : (modFabric f s).alcAt = s.alcAt := rfl
@[simp] theorem modFabric_protWait (f : Fabric → Fabric) (s : State) : (modFabric f s).protWait = s.protWait := rfl
@[simp] theorem modFabric_opBase (f : Fabric → Fabric) (s : State) : (modFabric f s).opBase = s.opBase := rfl
@[simp] theorem modFabric_opFrac (f : Fabric → Fabric) (s : State) : (modFabric f s).opFrac = s.opFrac := rfl
@[simp] theorem modFabric_freeCtr (f : Fabric → Fabric) (s : State) : (modFabric f s).freeCtr = s.freeCtr := rfl
@[simp] theorem modFabric_tickets (f : Fabric → Fabric) (s : State) : (modFabric f s).tickets = s.tickets := rfl
@[simp] theorem modFabric_hif (f : Fabric → Fabric) (s : State) : (modFabric f s).hif = s.hif := rfl
@[simp] theorem modFabric_links (f : Fabric → Fabric) (s : State) : (modFabric f s).links = s.links := rfl
@[simp] theorem modFabric_chans (f : Fabric → Fabric) (s : State) : (modFabric f s).chans = s.chans := rfl
@[simp] theorem modFabric_ports (f : Fabric → Fabric) (s : State) : (modFabric f s).ports = s.ports := rfl
@[simp] theorem modFabric_ladder (f : Fabric → Fabric) (s : State) : (modFabric f s).ladder = s.ladder := rfl
@[simp] theorem modFabric_ladderNext (f : Fabric → Fabric) (s : State) : (modFabric f s).ladderNext = s.ladderNext := rfl
@[simp] theorem modFabric_pool (f : Fabric → Fabric) (s : State) : (modFabric f s).pool = s.pool := rfl
@[simp] theorem modFabric_faults (f : Fabric → Fabric) (s : State) : (modFabric f s).faults = s.faults := rfl
@[simp] theorem modFabric_gb (f : Fabric → Fabric) (s : State) : (modFabric f s).gb = s.gb := rfl
@[simp] theorem modFabric_sys (f : Fabric → Fabric) (s : State) : (modFabric f s).sys = s.sys := rfl
@[simp] theorem modFabric_hr (f : Fabric → Fabric) (s : State) : (modFabric f s).hr = s.hr := rfl
@[simp] theorem modFabric_eng (f : Fabric → Fabric) (s : State) : (modFabric f s).eng = s.eng := rfl
@[simp] theorem modFabric_radio (f : Fabric → Fabric) (s : State) : (modFabric f s).radio = s.radio := rfl
@[simp] theorem modFabric_loops (f : Fabric → Fabric) (s : State) : (modFabric f s).loops = s.loops := rfl
@[simp] theorem modFabric_supply (f : Fabric → Fabric) (s : State) : (modFabric f s).supply = s.supply := rfl
@[simp] theorem modFabric_thermal (f : Fabric → Fabric) (s : State) : (modFabric f s).thermal = s.thermal := rfl
@[simp] theorem modFabric_fabric (f : Fabric → Fabric) (s : State) : (modFabric f s).fabric = f s.fabric := rfl
@[simp] theorem modFabric_twin (f : Fabric → Fabric) (s : State) : (modFabric f s).twin = s.twin := rfl
@[simp] theorem modFabric_compat (f : Fabric → Fabric) (s : State) : (modFabric f s).compat = s.compat := rfl
@[simp] theorem modFabric_dbg (f : Fabric → Fabric) (s : State) : (modFabric f s).dbg = s.dbg := rfl

@[simp] theorem modTwin_pending (f : Twin → Twin) (s : State) : (modTwin f s).pending = s.pending := rfl
@[simp] theorem modTwin_now (f : Twin → Twin) (s : State) : (modTwin f s).now = s.now := rfl
@[simp] theorem modTwin_slowTicks (f : Twin → Twin) (s : State) : (modTwin f s).slowTicks = s.slowTicks := rfl
@[simp] theorem modTwin_slowAt (f : Twin → Twin) (s : State) : (modTwin f s).slowAt = s.slowAt := rfl
@[simp] theorem modTwin_alcAt (f : Twin → Twin) (s : State) : (modTwin f s).alcAt = s.alcAt := rfl
@[simp] theorem modTwin_protWait (f : Twin → Twin) (s : State) : (modTwin f s).protWait = s.protWait := rfl
@[simp] theorem modTwin_opBase (f : Twin → Twin) (s : State) : (modTwin f s).opBase = s.opBase := rfl
@[simp] theorem modTwin_opFrac (f : Twin → Twin) (s : State) : (modTwin f s).opFrac = s.opFrac := rfl
@[simp] theorem modTwin_freeCtr (f : Twin → Twin) (s : State) : (modTwin f s).freeCtr = s.freeCtr := rfl
@[simp] theorem modTwin_tickets (f : Twin → Twin) (s : State) : (modTwin f s).tickets = s.tickets := rfl
@[simp] theorem modTwin_hif (f : Twin → Twin) (s : State) : (modTwin f s).hif = s.hif := rfl
@[simp] theorem modTwin_links (f : Twin → Twin) (s : State) : (modTwin f s).links = s.links := rfl
@[simp] theorem modTwin_chans (f : Twin → Twin) (s : State) : (modTwin f s).chans = s.chans := rfl
@[simp] theorem modTwin_ports (f : Twin → Twin) (s : State) : (modTwin f s).ports = s.ports := rfl
@[simp] theorem modTwin_ladder (f : Twin → Twin) (s : State) : (modTwin f s).ladder = s.ladder := rfl
@[simp] theorem modTwin_ladderNext (f : Twin → Twin) (s : State) : (modTwin f s).ladderNext = s.ladderNext := rfl
@[simp] theorem modTwin_pool (f : Twin → Twin) (s : State) : (modTwin f s).pool = s.pool := rfl
@[simp] theorem modTwin_faults (f : Twin → Twin) (s : State) : (modTwin f s).faults = s.faults := rfl
@[simp] theorem modTwin_gb (f : Twin → Twin) (s : State) : (modTwin f s).gb = s.gb := rfl
@[simp] theorem modTwin_sys (f : Twin → Twin) (s : State) : (modTwin f s).sys = s.sys := rfl
@[simp] theorem modTwin_hr (f : Twin → Twin) (s : State) : (modTwin f s).hr = s.hr := rfl
@[simp] theorem modTwin_eng (f : Twin → Twin) (s : State) : (modTwin f s).eng = s.eng := rfl
@[simp] theorem modTwin_radio (f : Twin → Twin) (s : State) : (modTwin f s).radio = s.radio := rfl
@[simp] theorem modTwin_loops (f : Twin → Twin) (s : State) : (modTwin f s).loops = s.loops := rfl
@[simp] theorem modTwin_supply (f : Twin → Twin) (s : State) : (modTwin f s).supply = s.supply := rfl
@[simp] theorem modTwin_thermal (f : Twin → Twin) (s : State) : (modTwin f s).thermal = s.thermal := rfl
@[simp] theorem modTwin_fabric (f : Twin → Twin) (s : State) : (modTwin f s).fabric = s.fabric := rfl
@[simp] theorem modTwin_twin (f : Twin → Twin) (s : State) : (modTwin f s).twin = f s.twin := rfl
@[simp] theorem modTwin_compat (f : Twin → Twin) (s : State) : (modTwin f s).compat = s.compat := rfl
@[simp] theorem modTwin_dbg (f : Twin → Twin) (s : State) : (modTwin f s).dbg = s.dbg := rfl

@[simp] theorem modLink_pending (l : Nat) (f : ObxLink → ObxLink) (s : State) : (modLink l f s).pending = s.pending := rfl
@[simp] theorem modLink_now (l : Nat) (f : ObxLink → ObxLink) (s : State) : (modLink l f s).now = s.now := rfl
@[simp] theorem modLink_slowTicks (l : Nat) (f : ObxLink → ObxLink) (s : State) : (modLink l f s).slowTicks = s.slowTicks := rfl
@[simp] theorem modLink_slowAt (l : Nat) (f : ObxLink → ObxLink) (s : State) : (modLink l f s).slowAt = s.slowAt := rfl
@[simp] theorem modLink_alcAt (l : Nat) (f : ObxLink → ObxLink) (s : State) : (modLink l f s).alcAt = s.alcAt := rfl
@[simp] theorem modLink_protWait (l : Nat) (f : ObxLink → ObxLink) (s : State) : (modLink l f s).protWait = s.protWait := rfl
@[simp] theorem modLink_opBase (l : Nat) (f : ObxLink → ObxLink) (s : State) : (modLink l f s).opBase = s.opBase := rfl
@[simp] theorem modLink_opFrac (l : Nat) (f : ObxLink → ObxLink) (s : State) : (modLink l f s).opFrac = s.opFrac := rfl
@[simp] theorem modLink_freeCtr (l : Nat) (f : ObxLink → ObxLink) (s : State) : (modLink l f s).freeCtr = s.freeCtr := rfl
@[simp] theorem modLink_tickets (l : Nat) (f : ObxLink → ObxLink) (s : State) : (modLink l f s).tickets = s.tickets := rfl
@[simp] theorem modLink_hif (l : Nat) (f : ObxLink → ObxLink) (s : State) : (modLink l f s).hif = s.hif := rfl
@[simp] theorem modLink_links (l : Nat) (f : ObxLink → ObxLink) (s : State) : (modLink l f s).links = s.links := rfl
@[simp] theorem modLink_chans (l : Nat) (f : ObxLink → ObxLink) (s : State) : (modLink l f s).chans = s.chans := rfl
@[simp] theorem modLink_ports (l : Nat) (f : ObxLink → ObxLink) (s : State) : (modLink l f s).ports = s.ports := rfl
@[simp] theorem modLink_ladder (l : Nat) (f : ObxLink → ObxLink) (s : State) : (modLink l f s).ladder = s.ladder := rfl
@[simp] theorem modLink_ladderNext (l : Nat) (f : ObxLink → ObxLink) (s : State) : (modLink l f s).ladderNext = s.ladderNext := rfl
@[simp] theorem modLink_pool (l : Nat) (f : ObxLink → ObxLink) (s : State) : (modLink l f s).pool = s.pool := rfl
@[simp] theorem modLink_faults (l : Nat) (f : ObxLink → ObxLink) (s : State) : (modLink l f s).faults = s.faults := rfl
@[simp] theorem modLink_gb (l : Nat) (f : ObxLink → ObxLink) (s : State) : (modLink l f s).gb = s.gb := rfl
@[simp] theorem modLink_sys (l : Nat) (f : ObxLink → ObxLink) (s : State) : (modLink l f s).sys = s.sys := rfl
@[simp] theorem modLink_hr (l : Nat) (f : ObxLink → ObxLink) (s : State) : (modLink l f s).hr = s.hr := rfl
@[simp] theorem modLink_eng (l : Nat) (f : ObxLink → ObxLink) (s : State) : (modLink l f s).eng = s.eng := rfl
@[simp] theorem modLink_radio (l : Nat) (f : ObxLink → ObxLink) (s : State) : (modLink l f s).radio = s.radio := rfl
@[simp] theorem modLink_loops (l : Nat) (f : ObxLink → ObxLink) (s : State) : (modLink l f s).loops = s.loops := rfl
@[simp] theorem modLink_supply (l : Nat) (f : ObxLink → ObxLink) (s : State) : (modLink l f s).supply = s.supply := rfl
@[simp] theorem modLink_thermal (l : Nat) (f : ObxLink → ObxLink) (s : State) : (modLink l f s).thermal = s.thermal := rfl
@[simp] theorem modLink_twin (l : Nat) (f : ObxLink → ObxLink) (s : State) : (modLink l f s).twin = s.twin := rfl
@[simp] theorem modLink_compat (l : Nat) (f : ObxLink → ObxLink) (s : State) : (modLink l f s).compat = s.compat := rfl
@[simp] theorem modLink_dbg (l : Nat) (f : ObxLink → ObxLink) (s : State) : (modLink l f s).dbg = s.dbg := rfl

@[simp] theorem modSplit_pending (c : Fin 64) (d : Dir) (f : SplitDir → SplitDir) (s : State) : (modSplit c d f s).pending = s.pending := rfl
@[simp] theorem modSplit_now (c : Fin 64) (d : Dir) (f : SplitDir → SplitDir) (s : State) : (modSplit c d f s).now = s.now := rfl
@[simp] theorem modSplit_slowTicks (c : Fin 64) (d : Dir) (f : SplitDir → SplitDir) (s : State) : (modSplit c d f s).slowTicks = s.slowTicks := rfl
@[simp] theorem modSplit_slowAt (c : Fin 64) (d : Dir) (f : SplitDir → SplitDir) (s : State) : (modSplit c d f s).slowAt = s.slowAt := rfl
@[simp] theorem modSplit_alcAt (c : Fin 64) (d : Dir) (f : SplitDir → SplitDir) (s : State) : (modSplit c d f s).alcAt = s.alcAt := rfl
@[simp] theorem modSplit_protWait (c : Fin 64) (d : Dir) (f : SplitDir → SplitDir) (s : State) : (modSplit c d f s).protWait = s.protWait := rfl
@[simp] theorem modSplit_opBase (c : Fin 64) (d : Dir) (f : SplitDir → SplitDir) (s : State) : (modSplit c d f s).opBase = s.opBase := rfl
@[simp] theorem modSplit_opFrac (c : Fin 64) (d : Dir) (f : SplitDir → SplitDir) (s : State) : (modSplit c d f s).opFrac = s.opFrac := rfl
@[simp] theorem modSplit_freeCtr (c : Fin 64) (d : Dir) (f : SplitDir → SplitDir) (s : State) : (modSplit c d f s).freeCtr = s.freeCtr := rfl
@[simp] theorem modSplit_tickets (c : Fin 64) (d : Dir) (f : SplitDir → SplitDir) (s : State) : (modSplit c d f s).tickets = s.tickets := rfl
@[simp] theorem modSplit_hif (c : Fin 64) (d : Dir) (f : SplitDir → SplitDir) (s : State) : (modSplit c d f s).hif = s.hif := rfl
@[simp] theorem modSplit_links (c : Fin 64) (d : Dir) (f : SplitDir → SplitDir) (s : State) : (modSplit c d f s).links = s.links := rfl
@[simp] theorem modSplit_chans (c : Fin 64) (d : Dir) (f : SplitDir → SplitDir) (s : State) : (modSplit c d f s).chans = s.chans := rfl
@[simp] theorem modSplit_ports (c : Fin 64) (d : Dir) (f : SplitDir → SplitDir) (s : State) : (modSplit c d f s).ports = s.ports := rfl
@[simp] theorem modSplit_ladder (c : Fin 64) (d : Dir) (f : SplitDir → SplitDir) (s : State) : (modSplit c d f s).ladder = s.ladder := rfl
@[simp] theorem modSplit_ladderNext (c : Fin 64) (d : Dir) (f : SplitDir → SplitDir) (s : State) : (modSplit c d f s).ladderNext = s.ladderNext := rfl
@[simp] theorem modSplit_pool (c : Fin 64) (d : Dir) (f : SplitDir → SplitDir) (s : State) : (modSplit c d f s).pool = s.pool := rfl
@[simp] theorem modSplit_faults (c : Fin 64) (d : Dir) (f : SplitDir → SplitDir) (s : State) : (modSplit c d f s).faults = s.faults := rfl
@[simp] theorem modSplit_gb (c : Fin 64) (d : Dir) (f : SplitDir → SplitDir) (s : State) : (modSplit c d f s).gb = s.gb := rfl
@[simp] theorem modSplit_sys (c : Fin 64) (d : Dir) (f : SplitDir → SplitDir) (s : State) : (modSplit c d f s).sys = s.sys := rfl
@[simp] theorem modSplit_hr (c : Fin 64) (d : Dir) (f : SplitDir → SplitDir) (s : State) : (modSplit c d f s).hr = s.hr := rfl
@[simp] theorem modSplit_eng (c : Fin 64) (d : Dir) (f : SplitDir → SplitDir) (s : State) : (modSplit c d f s).eng = s.eng := rfl
@[simp] theorem modSplit_radio (c : Fin 64) (d : Dir) (f : SplitDir → SplitDir) (s : State) : (modSplit c d f s).radio = s.radio := rfl
@[simp] theorem modSplit_loops (c : Fin 64) (d : Dir) (f : SplitDir → SplitDir) (s : State) : (modSplit c d f s).loops = s.loops := rfl
@[simp] theorem modSplit_supply (c : Fin 64) (d : Dir) (f : SplitDir → SplitDir) (s : State) : (modSplit c d f s).supply = s.supply := rfl
@[simp] theorem modSplit_thermal (c : Fin 64) (d : Dir) (f : SplitDir → SplitDir) (s : State) : (modSplit c d f s).thermal = s.thermal := rfl
@[simp] theorem modSplit_twin (c : Fin 64) (d : Dir) (f : SplitDir → SplitDir) (s : State) : (modSplit c d f s).twin = s.twin := rfl
@[simp] theorem modSplit_compat (c : Fin 64) (d : Dir) (f : SplitDir → SplitDir) (s : State) : (modSplit c d f s).compat = s.compat := rfl
@[simp] theorem modSplit_dbg (c : Fin 64) (d : Dir) (f : SplitDir → SplitDir) (s : State) : (modSplit c d f s).dbg = s.dbg := rfl

@[simp] theorem modCompat_pending (f : Compat → Compat) (s : State) : (modCompat f s).pending = s.pending := rfl
@[simp] theorem modCompat_now (f : Compat → Compat) (s : State) : (modCompat f s).now = s.now := rfl
@[simp] theorem modCompat_slowTicks (f : Compat → Compat) (s : State) : (modCompat f s).slowTicks = s.slowTicks := rfl
@[simp] theorem modCompat_slowAt (f : Compat → Compat) (s : State) : (modCompat f s).slowAt = s.slowAt := rfl
@[simp] theorem modCompat_alcAt (f : Compat → Compat) (s : State) : (modCompat f s).alcAt = s.alcAt := rfl
@[simp] theorem modCompat_protWait (f : Compat → Compat) (s : State) : (modCompat f s).protWait = s.protWait := rfl
@[simp] theorem modCompat_opBase (f : Compat → Compat) (s : State) : (modCompat f s).opBase = s.opBase := rfl
@[simp] theorem modCompat_opFrac (f : Compat → Compat) (s : State) : (modCompat f s).opFrac = s.opFrac := rfl
@[simp] theorem modCompat_freeCtr (f : Compat → Compat) (s : State) : (modCompat f s).freeCtr = s.freeCtr := rfl
@[simp] theorem modCompat_tickets (f : Compat → Compat) (s : State) : (modCompat f s).tickets = s.tickets := rfl
@[simp] theorem modCompat_hif (f : Compat → Compat) (s : State) : (modCompat f s).hif = s.hif := rfl
@[simp] theorem modCompat_links (f : Compat → Compat) (s : State) : (modCompat f s).links = s.links := rfl
@[simp] theorem modCompat_chans (f : Compat → Compat) (s : State) : (modCompat f s).chans = s.chans := rfl
@[simp] theorem modCompat_ports (f : Compat → Compat) (s : State) : (modCompat f s).ports = s.ports := rfl
@[simp] theorem modCompat_ladder (f : Compat → Compat) (s : State) : (modCompat f s).ladder = s.ladder := rfl
@[simp] theorem modCompat_ladderNext (f : Compat → Compat) (s : State) : (modCompat f s).ladderNext = s.ladderNext := rfl
@[simp] theorem modCompat_pool (f : Compat → Compat) (s : State) : (modCompat f s).pool = s.pool := rfl
@[simp] theorem modCompat_faults (f : Compat → Compat) (s : State) : (modCompat f s).faults = s.faults := rfl
@[simp] theorem modCompat_gb (f : Compat → Compat) (s : State) : (modCompat f s).gb = s.gb := rfl
@[simp] theorem modCompat_sys (f : Compat → Compat) (s : State) : (modCompat f s).sys = s.sys := rfl
@[simp] theorem modCompat_hr (f : Compat → Compat) (s : State) : (modCompat f s).hr = s.hr := rfl
@[simp] theorem modCompat_eng (f : Compat → Compat) (s : State) : (modCompat f s).eng = s.eng := rfl
@[simp] theorem modCompat_radio (f : Compat → Compat) (s : State) : (modCompat f s).radio = s.radio := rfl
@[simp] theorem modCompat_loops (f : Compat → Compat) (s : State) : (modCompat f s).loops = s.loops := rfl
@[simp] theorem modCompat_supply (f : Compat → Compat) (s : State) : (modCompat f s).supply = s.supply := rfl
@[simp] theorem modCompat_thermal (f : Compat → Compat) (s : State) : (modCompat f s).thermal = s.thermal := rfl
@[simp] theorem modCompat_fabric (f : Compat → Compat) (s : State) : (modCompat f s).fabric = s.fabric := rfl
@[simp] theorem modCompat_twin (f : Compat → Compat) (s : State) : (modCompat f s).twin = s.twin := rfl
@[simp] theorem modCompat_compat (f : Compat → Compat) (s : State) : (modCompat f s).compat = f s.compat := rfl
@[simp] theorem modCompat_dbg (f : Compat → Compat) (s : State) : (modCompat f s).dbg = s.dbg := rfl

@[simp] theorem modGqChan_pending (n : Fin 16) (f : GqChan → GqChan) (s : State) : (modGqChan n f s).pending = s.pending := rfl
@[simp] theorem modGqChan_now (n : Fin 16) (f : GqChan → GqChan) (s : State) : (modGqChan n f s).now = s.now := rfl
@[simp] theorem modGqChan_slowTicks (n : Fin 16) (f : GqChan → GqChan) (s : State) : (modGqChan n f s).slowTicks = s.slowTicks := rfl
@[simp] theorem modGqChan_slowAt (n : Fin 16) (f : GqChan → GqChan) (s : State) : (modGqChan n f s).slowAt = s.slowAt := rfl
@[simp] theorem modGqChan_alcAt (n : Fin 16) (f : GqChan → GqChan) (s : State) : (modGqChan n f s).alcAt = s.alcAt := rfl
@[simp] theorem modGqChan_protWait (n : Fin 16) (f : GqChan → GqChan) (s : State) : (modGqChan n f s).protWait = s.protWait := rfl
@[simp] theorem modGqChan_opBase (n : Fin 16) (f : GqChan → GqChan) (s : State) : (modGqChan n f s).opBase = s.opBase := rfl
@[simp] theorem modGqChan_opFrac (n : Fin 16) (f : GqChan → GqChan) (s : State) : (modGqChan n f s).opFrac = s.opFrac := rfl
@[simp] theorem modGqChan_freeCtr (n : Fin 16) (f : GqChan → GqChan) (s : State) : (modGqChan n f s).freeCtr = s.freeCtr := rfl
@[simp] theorem modGqChan_tickets (n : Fin 16) (f : GqChan → GqChan) (s : State) : (modGqChan n f s).tickets = s.tickets := rfl
@[simp] theorem modGqChan_hif (n : Fin 16) (f : GqChan → GqChan) (s : State) : (modGqChan n f s).hif = s.hif := rfl
@[simp] theorem modGqChan_links (n : Fin 16) (f : GqChan → GqChan) (s : State) : (modGqChan n f s).links = s.links := rfl
@[simp] theorem modGqChan_chans (n : Fin 16) (f : GqChan → GqChan) (s : State) : (modGqChan n f s).chans = s.chans := rfl
@[simp] theorem modGqChan_ports (n : Fin 16) (f : GqChan → GqChan) (s : State) : (modGqChan n f s).ports = s.ports := rfl
@[simp] theorem modGqChan_ladder (n : Fin 16) (f : GqChan → GqChan) (s : State) : (modGqChan n f s).ladder = s.ladder := rfl
@[simp] theorem modGqChan_ladderNext (n : Fin 16) (f : GqChan → GqChan) (s : State) : (modGqChan n f s).ladderNext = s.ladderNext := rfl
@[simp] theorem modGqChan_pool (n : Fin 16) (f : GqChan → GqChan) (s : State) : (modGqChan n f s).pool = s.pool := rfl
@[simp] theorem modGqChan_faults (n : Fin 16) (f : GqChan → GqChan) (s : State) : (modGqChan n f s).faults = s.faults := rfl
@[simp] theorem modGqChan_gb (n : Fin 16) (f : GqChan → GqChan) (s : State) : (modGqChan n f s).gb = s.gb := rfl
@[simp] theorem modGqChan_sys (n : Fin 16) (f : GqChan → GqChan) (s : State) : (modGqChan n f s).sys = s.sys := rfl
@[simp] theorem modGqChan_hr (n : Fin 16) (f : GqChan → GqChan) (s : State) : (modGqChan n f s).hr = s.hr := rfl
@[simp] theorem modGqChan_eng (n : Fin 16) (f : GqChan → GqChan) (s : State) : (modGqChan n f s).eng = s.eng := rfl
@[simp] theorem modGqChan_radio (n : Fin 16) (f : GqChan → GqChan) (s : State) : (modGqChan n f s).radio = s.radio := rfl
@[simp] theorem modGqChan_loops (n : Fin 16) (f : GqChan → GqChan) (s : State) : (modGqChan n f s).loops = s.loops := rfl
@[simp] theorem modGqChan_supply (n : Fin 16) (f : GqChan → GqChan) (s : State) : (modGqChan n f s).supply = s.supply := rfl
@[simp] theorem modGqChan_thermal (n : Fin 16) (f : GqChan → GqChan) (s : State) : (modGqChan n f s).thermal = s.thermal := rfl
@[simp] theorem modGqChan_fabric (n : Fin 16) (f : GqChan → GqChan) (s : State) : (modGqChan n f s).fabric = s.fabric := rfl
@[simp] theorem modGqChan_twin (n : Fin 16) (f : GqChan → GqChan) (s : State) : (modGqChan n f s).twin = s.twin := rfl
@[simp] theorem modGqChan_dbg (n : Fin 16) (f : GqChan → GqChan) (s : State) : (modGqChan n f s).dbg = s.dbg := rfl

end Sys2Proof.Laws
end

