-- ==== Sys2Proof/Laws/Host.lean ====
section
/-! SUPPORT. Rings, sources and completion records: reading after a change, and what a row does whose first step is granted at once. -/

namespace Sys2Proof.Laws

open Sys2Proof.Machine Sys2Proof.Safety

/-! ## Reading after a change of one element -/

theorem nth_upd_same {α : Type} {n : Nat} (v : Vector α n) (i : Nat) (f : α → α) (dflt : α) (h : i < n) :
    nth (upd v i f) i dflt = f (nth v i dflt) := by
  simp [nth, upd, h]

theorem nth_upd_ne {α : Type} {n : Nat} (v : Vector α n) (i j : Nat) (f : α → α) (dflt : α) (h : j ≠ i) :
    nth (upd v i f) j dflt = nth v j dflt := by
  by_cases hi : i < n <;> by_cases hj : j < n <;> simp [nth, upd, hi, hj, Ne.symm h]

theorem ring_modRing_same (r : Nat) (f : Ring → Ring) (s : State) (h : r < 42) : ring r (modRing r f s) = f (ring r s) := by
  simp [ring, nth_upd_same, h]

theorem ring_modRing_ne (r q : Nat) (f : Ring → Ring) (s : State) (h : q ≠ r) : ring q (modRing r f s) = ring q s := by
  simp [ring, nth_upd_ne, h]

theorem source_modSource_same (q : Nat) (f : Source → Source) (s : State) (h : q < 22) : source q (modSource q f s) = f (source q s) := by
  simp [source, nth_upd_same, h]

theorem source_modSource_ne (q p : Nat) (f : Source → Source) (s : State) (h : p ≠ q) : source p (modSource q f s) = source p s := by
  simp [source, nth_upd_ne, h]

@[simp] theorem source_modRing (q r : Nat) (f : Ring → Ring) (s : State) : source q (modRing r f s) = source q s := rfl

@[simp] theorem ring_modSource (q r : Nat) (f : Source → Source) (s : State) : ring r (modSource q f s) = ring r s := rfl

@[simp] theorem ring_raiseVector (r v : Nat) (s : State) : ring r (raiseVector v s) = ring r s := rfl

@[simp] theorem source_raiseVector (q v : Nat) (s : State) : source q (raiseVector v s) = source q s := rfl

theorem modSource_modSource (q : Nat) (f g : Source → Source) (s : State) : modSource q f (modSource q g s) = modSource q (fun x => f (g x)) s := by
  unfold modSource upd
  split <;> simp

/-! ## Interrupts and event records touch the host interface alone -/

theorem coalesce_hif (r n : Nat) (s : State) : coalesce r n s = { s with hif := (coalesce r n s).hif } := by
  simp only [coalesce]
  split <;> rfl

@[simp] theorem source_coalesce (q r n : Nat) (s : State) : source q (coalesce r n s) = source q s := by
  simp only [coalesce]
  split <;> rfl

theorem ring_coalesce_ne (r q n : Nat) (s : State) (h : q ≠ r) : ring q (coalesce r n s) = ring q s := by
  simp only [coalesce]
  split <;> simp [ring_modRing_ne, h]

theorem postEntry_hif (e : EventRec) (b : Bool) (w : Word) (s : State) : postEntry e b w s = { s with hif := (postEntry e b w s).hif } := by
  simp only [postEntry]
  split
  · rw [coalesce_hif]
  · rfl

@[simp] theorem source_postEntry (q : Nat) (e : EventRec) (b : Bool) (w : Word) (s : State) : source q (postEntry e b w s) = source q s := by
  simp only [postEntry]
  split
  · simp [source]
    rw [← source, ← source, source_coalesce]
    rfl
  · rfl

theorem ring_postEntry_ne (q : Nat) (e : EventRec) (b : Bool) (w : Word) (s : State) (h : q ≠ 40 + eventQueue e) :
    ring q (postEntry e b w s) = ring q s := by
  simp only [postEntry]
  split
  · rw [ring_coalesce_ne _ _ _ _ h]
    simp [ring, nth_upd_ne, h]
  · exact ring_modRing_ne _ _ _ _ h

theorem postEvent_hif (c v n : Nat) (b : List Byte) (s : State) : postEvent c v n b s = { s with hif := (postEvent c v n b s).hif } :=
  postEntry_hif _ _ _ _

@[simp] theorem source_postEvent (q c v n : Nat) (b : List Byte) (s : State) : source q (postEvent c v n b s) = source q s :=
  source_postEntry _ _ _ _ _

theorem ringError_hif (r c : Nat) (s : State) : ringError r c s = { s with hif := (ringError r c s).hif } := by
  unfold ringError
  rw [postEvent_hif]
  rfl

@[simp] theorem source_ringError (q r c : Nat) (s : State) : source q (ringError r c s) = source q s := by
  simp [ringError]

/-! ## A row whose first step is granted at once -/

theorem source_enqueue (q : Nat) (x : Desc) (s : State) (h : q < 20) (hf : (source q s).fetched = []) :
    (source q (enqueue q x s)).fetched = [{ desc := x, order := (takeMark (s.hif.doorbellOrder + 1) (source q s).marks).1, cancelled := false }] := by
  have h2 : q < 22 := by omega
  unfold enqueue
  simp only [source_modSource_same, h2]
  split <;> split <;> simp_all [source, modHif, modRing]

theorem sys_granting (code : Nat) (d : Desc) (s : State) : granting code d s = { s with hif := (granting code d s).hif } := by
  unfold granting modSource granted enqueue modHif modSource modRing
  simp only []
  split <;> split <;> rfl

theorem startRefusal_hif (x : Desc) (s : State) (h : HostIf) : startRefusal x { s with hif := h } = startRefusal x s := rfl

theorem withLead_none (x : Desc) (s : State) (h : hasStandby s = false ∨ (opRow x.opcode.toNat).any (fun y => y.kind == .epoch) = false) :
    withLead x s = x := by
  rcases h with h | h <;> simp only [withLead, h, Bool.and_false, Bool.false_and, Bool.false_eq_true, if_false]

theorem hasStandby_hif (s : State) (h : HostIf) : hasStandby { s with hif := h } = hasStandby s := rfl

theorem firstStep_plain (run : Op) (r : Running) (s : State) (h : startRefusal r.desc s = none) : firstStep run r s = run r s := by
  simp [firstStep, h]

theorem startRefusal_modSource (x : Desc) (q : Nat) (f : Source → Source) (s : State) : startRefusal x (modSource q f s) = startRefusal x s := rfl

/-- A change of the sources alone that leaves each one's command in execution. -/
def KeepsRunning (s t : State) : Prop :=
  t = { s with hif := { s.hif with sources := t.hif.sources } } ∧ ∀ p, (source p t).running = (source p s).running

theorem keepsRunning_modSource (q : Nat) (f : Source → Source) (s : State) (h : ∀ x, (f x).running = x.running) : KeepsRunning s (modSource q f s) := by
  refine ⟨rfl, fun p => ?_⟩
  by_cases hq : q < 22
  · by_cases hp : p = q
    · subst hp; rw [source_modSource_same _ _ _ hq, h]
    · rw [source_modSource_ne _ _ _ _ hp]
  · have : modSource q f s = s := by unfold modSource upd; simp [hq]
    rw [this]

theorem keepsRunning_foldl {α : Type} (f : State → α → State) (h : ∀ s a, KeepsRunning s (f s a)) (l : List α) (s : State) :
    KeepsRunning s (l.foldl f s) := by
  induction l generalizing s with
  | nil => exact ⟨rfl, fun _ => rfl⟩
  | cons a l ih =>
    obtain ⟨h1, h2⟩ := h s a
    obtain ⟨h3, h4⟩ := ih (f s a)
    refine ⟨?_, fun p => (h4 p).trans (h2 p)⟩
    rw [List.foldl_cons, h3, h1]

/-- What keeping the readiness of the sources up to date may change (R89). -/
theorem keepsRunning_refreshReady (s : State) : KeepsRunning s (refreshReady s) := by
  unfold refreshReady
  apply keepsRunning_foldl
  intro s q
  unfold refreshSource
  exact keepsRunning_modSource _ _ s (fun _ => rfl)

theorem KeepsRunning.hif {s t : State} (h : KeepsRunning s t) : t = { s with hif := t.hif } := by
  obtain ⟨h, -⟩ := h
  generalize t.hif.sources = x at h
  subst h
  rfl

theorem KeepsRunning.lastRecord {s t : State} (h : KeepsRunning s t) (q : Nat) : Safety.lastRecord q t = Safety.lastRecord q s := by
  obtain ⟨h, -⟩ := h
  generalize t.hif.sources = x at h
  subst h
  rfl

theorem KeepsRunning.dataWritten {s t : State} (h : KeepsRunning s t) : t.hif.dataWritten = s.hif.dataWritten := by
  obtain ⟨h, -⟩ := h
  generalize t.hif.sources = x at h
  subst h
  rfl

theorem refreshReady_hif (s : State) : refreshReady s = { s with hif := (refreshReady s).hif } := (keepsRunning_refreshReady s).hif

/-- The first step of a command counts one (R80). -/
theorem stepsAfter_first (r : Running) (h : r.steps = 0) : stepsAfter r = 1 := by simp [stepsAfter, h]

theorem submit_begins (code : Nat) (op : Running → State → Ans × State) (d : Desc) (s : State) (h : Begins code d s) :
    submitRow code op d s = refreshReady
      (match (op (starting code d s) (stepping code d s)).1 with
      | .final f => finishRunning d.ring.val (starting code d s) f (op (starting code d s) (stepping code d s)).2
      | .stay v => keepRunning d.ring.val { starting code d s with steps := 0 } v (op (starting code d s) (stepping code d s)).2) := by
  obtain ⟨⟨ho, hf, ⟨ha, hr⟩, ⟨hm, hp⟩, hi, hl⟩, hu⟩ := h
  have hq := source_enqueue d.ring.val (coded code d) s ho ha
  have hst : s.sys = (granting code d s).sys := by rw [sys_granting]
  unfold submitRow
  simp only [hf]
  unfold coded at hq hm hp
  simp only [hq, hm, hp, Bool.not_true, Bool.false_eq_true, if_false, Bool.and_self, if_true]
  congr 1
  show startCommand op d.ring.val _ (granting code d s) = _
  have hl' : hasStandby (granting code d s) = false ∨ (opRow (coded code d).opcode.toNat).any (fun y => y.kind == .epoch) = false := by
    rw [sys_granting, hasStandby_hif]; exact hl.imp id (fun h => h.2)
  have hu' : startRefusal (coded code d) (granting code d s) = none := by rw [sys_granting, startRefusal_hif]; exact hu
  have e1 : (granting code d s).slowTicks = s.slowTicks := by rw [sys_granting]
  have e2 : (granting code d s).now = s.now := by rw [sys_granting]
  unfold startCommand
  rw [withLead_none { d with opcode := BitVec.ofNat 16 code } _ hl']
  have hi' : (granting code d s).sys.innkeeper = .running := by rw [← hst]; exact hi
  simp only [hi', Bool.false_eq_true, if_false, bne_self_eq_false, Bool.and_false, Bool.false_and]
  unfold stepRunning runStep
  simp only [reduceCtorEq, if_false, if_true, e1, e2]
  rw [stepsAfter_first _ rfl, firstStep_plain]
  · rfl
  · rw [startRefusal_modSource]; exact hu'

/-! ## Ends of commands -/

/-- A command is not past its timeout in the slow tick in which it starts (R91). -/
theorem expired_start (r : Running) (s : State) (h : s.slowTicks ≤ r.startTick) : expired r s = false := by
  unfold expired
  cases timeoutOf r.desc s with
  | none => rfl
  | some t => simp; omega

theorem writeBuffer_hif (x : Desc) (b : List Byte) (s : State) : writeBuffer x b s = { s with hif := (writeBuffer x b s).hif } := by
  unfold writeBuffer
  split <;> rfl

/-- A command that has not passed its commit point ends in the slow tick in which it started with its own record, and its effects (R79, R80, R91). -/
theorem finishRunning_intime (q : Nat) (r : Running) (f : Finish) (s : State) (hc : r.committed = false) (h : s.slowTicks ≤ r.startTick) :
    finishRunning q r f s =
      endEffects q r f.status f.detail (releaseRing q (postCompletion q (recordOf q r f.status f.detail f.result f.seq true)
        (writeBuffer r.desc f.data (modSource q (fun x => { x with running := none }) s)))) := by
  have he : expired r (writeBuffer r.desc f.data (modSource q (fun x => { x with running := none }) s)) = false := by
    apply expired_start
    rw [writeBuffer_hif]
    exact h
  simp only [finishRunning, Finish.readFailed, hc, Bool.false_and, Bool.false_eq_true, if_false, he]

theorem releaseRing_hif (q : Nat) (s : State) : releaseRing q s = { s with hif := (releaseRing q s).hif } := by
  unfold releaseRing
  split <;> rfl

theorem cplWrite_hif (k : Nat) (c : Completion) (s : State) : cplWrite k c s = { s with hif := (cplWrite k c s).hif } := by
  simp only [cplWrite]
  rw [coalesce_hif]

theorem postCompletion_hif (q : Nat) (c : Completion) (s : State) : postCompletion q c s = { s with hif := (postCompletion q c s).hif } := by
  simp only [postCompletion]
  split
  · split
    · exact cplWrite_hif _ _ _
    · rfl
  · rfl

@[simp] theorem completions_modRing (r : Nat) (f : Ring → Ring) (s : State) : (modRing r f s).hif.completions = s.hif.completions := rfl

@[simp] theorem waiting_modRing (r : Nat) (f : Ring → Ring) (s : State) : (modRing r f s).hif.waiting = s.hif.waiting := rfl

theorem completions_coalesce (r n : Nat) (s : State) : (coalesce r n s).hif.completions = s.hif.completions := by
  simp only [coalesce]
  split <;> rfl

theorem waiting_coalesce (r n : Nat) (s : State) : (coalesce r n s).hif.waiting = s.hif.waiting := by
  simp only [coalesce]
  split <;> rfl

theorem dataWritten_coalesce (r n : Nat) (s : State) : (coalesce r n s).hif.dataWritten = s.hif.dataWritten := by
  simp only [coalesce]
  split <;> rfl

/-- The ring a command ring's records go to lies above the command rings, so that writing one does not move the binding. -/
theorem boundRing_postCompletion (q : Nat) (c : Completion) (s : State) : boundRing q (postCompletion q c s) = boundRing q s := by
  simp only [postCompletion]
  split
  · split
    · simp only [boundRing, cplWrite]
      rw [ring_coalesce_ne _ _ _ _ (by omega)]
      simp only [ring]
      rw [nth_upd_ne _ _ _ _ _ (by omega)]
    · rfl
  · rfl

/-- The record handed over is the last one of its source (R94). -/
theorem lastRecord_postCompletion (q : Nat) (c : Completion) (s : State) (hq : q < 22) (hk : boundRing q s < 16) :
    ∃ p n, lastRecord q (postCompletion q c s) = some { c with phase := p, cmdqHead := n } := by
  unfold lastRecord
  rw [boundRing_postCompletion]
  by_cases h : q < 16
  · simp only [h, if_true, postCompletion]
    split
    · rename_i hw
      simp only [Bool.and_eq_true, List.isEmpty_iff] at hw
      simp only [cplWrite, completions_coalesce, waiting_coalesce]
      rw [nth_upd_same _ _ _ _ hk, hw.1]
      exact ⟨_, _, by simp; exact ⟨rfl, rfl⟩⟩
    · rw [nth_upd_same _ _ _ _ hk]
      exact ⟨c.phase, c.cmdqHead, by simp⟩
  · simp only [h, if_false, postCompletion]
    rw [nth_upd_same _ _ _ _ (by omega)]
    exact ⟨c.phase, fetchIndex q s, by simp⟩

theorem boundRing_lt (q : Nat) (s : State) : boundRing q s < 16 := by
  unfold boundRing
  exact (ring q s).cplRing.isLt

@[simp] theorem source_cplWrite (q k : Nat) (c : Completion) (s : State) : source q (cplWrite k c s) = source q s := by
  simp only [cplWrite, source_coalesce]
  rfl

@[simp] theorem source_postCompletion (q p : Nat) (c : Completion) (s : State) : source p (postCompletion q c s) = source p s := by
  simp only [postCompletion]
  split
  · split
    · simp
    · rfl
  · rfl

@[simp] theorem source_releaseRing (q p : Nat) (s : State) : source p (releaseRing q s) = source p s := by
  unfold releaseRing
  split <;> simp

@[simp] theorem source_writeBuffer (x : Desc) (b : List Byte) (p : Nat) (s : State) : source p (writeBuffer x b s) = source p s := by
  unfold writeBuffer
  split <;> rfl

theorem lastRecord_releaseRing (q : Nat) (s : State) (hq : q < 22) : lastRecord q (releaseRing q s) = lastRecord q s := by
  unfold releaseRing
  split
  · rename_i h
    unfold lastRecord
    simp only [h.1, if_true, boundRing, completions_modRing, waiting_modRing]
    rw [ring_modRing_same _ _ _ (by omega)]
    split <;> rfl
  · rfl

/-- The effects of an end that is not an accepted setting's leave the state alone (R82, R589, R636). -/
theorem endEffects_plain (q : Nat) (r : Running) (st : Status) (det : Nat) (s : State) (hq : q < 20) (hg : replayGroup r.desc.opcode.toNat = none)
    (ho : r.desc.opcode.toNat ≠ 0x0112) (ht : hasStandby s = false ∨ forwarded r.desc.opcode.toNat = false) (hd : st ≠ .rejectedParam ∧ st ≠ .deviceFault) :
    endEffects q r st det s = s := by
  have ha : accept r.desc s = s := by
    unfold accept
    simp only [ho, hg, if_false, Option.isNone_none, if_true, ite_self]
  have hn : noteAccepted r.desc s = s := by
    unfold noteAccepted
    rcases ht with ht | ht <;> simp [ha, ht]
  unfold endEffects
  have h1 : q ≠ 20 := by omega
  have h2 : q ≠ 21 := by omega
  simp [hn, h1, h2, hd]

theorem dataWritten_postCompletion (q : Nat) (c : Completion) (s : State) : (postCompletion q c s).hif.dataWritten = s.hif.dataWritten := by
  simp only [postCompletion]
  split
  · split
    · simp only [cplWrite, dataWritten_coalesce]
    · rfl
  · rfl

theorem dataWritten_releaseRing (q : Nat) (s : State) : (releaseRing q s).hif.dataWritten = s.hif.dataWritten := by
  unfold releaseRing
  split <;> rfl

theorem delivered_writeBuffer (d : Desc) (b : List Byte) (s : State) : Delivered d b (writeBuffer d b s) := by
  unfold Delivered writeBuffer
  cases b with
  | nil => exact .inl rfl
  | cons x xs => exact .inr (by simp [modHif])

theorem stepping_hif (code : Nat) (d : Desc) (s : State) : stepping code d s = { s with hif := (stepping code d s).hif } := by
  unfold stepping
  rw [sys_granting]
  rfl

/-- What a row does whose command ends DONE at its first step: the record, the buffer, and the state its effect left but for the interface. -/
theorem submit_done (code : Nat) (op : Running → State → Ans × State) (d : Desc) (s s' : State) (h : Begins code d s)
    (res : BitVec 128) (data : List Byte) (hop : op (starting code d s) (stepping code d s) = (doneData res data, s'))
    (hs : s'.slowTicks = s.slowTicks) (hg : replayGroup (BitVec.ofNat 16 code).toNat = none) (ho : (BitVec.ofNat 16 code).toNat ≠ 0x0112)
    (ht : hasStandby s' = false ∨ forwarded (BitVec.ofNat 16 code).toNat = false) :
    ∃ t, submitRow code op d s = t ∧ t = { s' with hif := t.hif } ∧ Answered code d .done 0 res t ∧ Delivered d data t := by
  refine ⟨_, rfl, ?_⟩
  rw [submit_begins _ _ _ _ h, hop]
  simp only [doneData]
  have hq : d.ring.val < 20 := h.outside
  rw [finishRunning_intime _ _ _ _ rfl (by simp [starting, hs])]
  rw [endEffects_plain _ _ _ _ _ hq hg ho (ht.imp (fun h => by rw [releaseRing_hif, postCompletion_hif, writeBuffer_hif]; exact h) id) ⟨Status.noConfusion, Status.noConfusion⟩]
  refine ⟨?_, ?_, ?_⟩
  · rw [refreshReady_hif, releaseRing_hif, postCompletion_hif, writeBuffer_hif]; rfl
  · obtain ⟨p, n, hp⟩ := lastRecord_postCompletion d.ring.val
      (recordOf d.ring.val (starting code d s) .done 0 res none true)
      (writeBuffer (starting code d s).desc data (modSource d.ring.val (fun x => { x with running := none }) s')) (by omega) (boundRing_lt _ _)
    refine ⟨_, by rw [(keepsRunning_refreshReady _).lastRecord, lastRecord_releaseRing _ _ (by omega)]; exact hp, ?_⟩
    rw [(keepsRunning_refreshReady _).2]
    simp [recordOf, starting, coded, source_modSource_same]
  · have h1 := delivered_writeBuffer (starting code d s).desc data (modSource d.ring.val (fun x => { x with running := none }) s')
    unfold Delivered at h1 ⊢
    rw [(keepsRunning_refreshReady _).dataWritten, dataWritten_releaseRing, dataWritten_postCompletion]
    exact h1

end Sys2Proof.Laws
end

