-- ==== Sys2Proof/Laws/Memory.lean ====
section
/-! SUPPORT. The Lodgers' retained areas, the block's one addressed store: a write keeps the canonical form, reads back, and leaves every
other byte alone. -/

namespace Sys2Proof.Machine

/-- An area in form from a bound on is in form from every lower bound. -/
theorem cellsFrom_mono {lo hi : Nat} (h : lo ≤ hi) : ∀ {m : List Host.Cell}, cellsFrom hi m = true → cellsFrom lo m = true
  | [], _ => rfl
  | e :: rest, hm => by
    simp only [cellsFrom, Bool.and_eq_true, decide_eq_true_eq] at hm ⊢
    exact ⟨⟨by omega, hm.1.2⟩, hm.2⟩

/-- Writing a byte keeps the form. -/
theorem writeCell_cellsFrom (v : Byte) : ∀ {lo a : Nat} {m : List Host.Cell}, lo ≤ a → cellsFrom lo m = true → cellsFrom lo (writeCell a v m) = true
  | lo, a, [], h, _ => by
    unfold writeCell
    split
    · rfl
    · rename_i hv
      simpa only [cellsFrom, Bool.and_eq_true, decide_eq_true_eq, bne_iff_ne, ne_eq] using ⟨⟨h, hv⟩, trivial⟩
  | lo, a, e :: rest, h, hm => by
    simp only [cellsFrom, Bool.and_eq_true, decide_eq_true_eq, bne_iff_ne, ne_eq] at hm
    obtain ⟨⟨h1, h2⟩, h3⟩ := hm
    unfold writeCell
    split
    · simp only [cellsFrom, Bool.and_eq_true, decide_eq_true_eq, bne_iff_ne, ne_eq]
      exact ⟨⟨h1, h2⟩, writeCell_cellsFrom v (by omega) h3⟩
    · split
      · rename_i ha
        split
        · exact cellsFrom_mono (by omega) h3
        · rename_i hv
          simp only [cellsFrom, Bool.and_eq_true, decide_eq_true_eq, bne_iff_ne, ne_eq]
          exact ⟨⟨h, hv⟩, ha ▸ h3⟩
      · split
        · simp only [cellsFrom, Bool.and_eq_true, decide_eq_true_eq, bne_iff_ne, ne_eq]
          exact ⟨⟨h1, h2⟩, h3⟩
        · rename_i hv
          simp only [cellsFrom, Bool.and_eq_true, decide_eq_true_eq, bne_iff_ne, ne_eq]
          exact ⟨⟨h, hv⟩, ⟨by omega, h2⟩, h3⟩

/-- Writing bytes keeps the form. -/
theorem writeCells_cellsFrom : ∀ (bytes : List Byte) {a : Nat} {m : List Host.Cell}, cellsFrom 0 m = true → cellsFrom 0 (writeCells a bytes m) = true
  | [], _, _, h => h
  | b :: bs, _, _, h => writeCells_cellsFrom bs (writeCell_cellsFrom b (Nat.zero_le _) h)

/-- A read looks at the first entry, then at the rest. -/
theorem readCell_cons (e : Host.Cell) (rest : List Host.Cell) (k : Nat) : readCell (e :: rest) k = if e.1 = k then e.2 else readCell rest k := by
  by_cases h : e.1 = k <;> simp [readCell, h]

/-- Below an area's bound nothing is listed. -/
theorem readCell_below : ∀ {lo k : Nat} {m : List Host.Cell}, cellsFrom lo m = true → k < lo → readCell m k = 0
  | _, _, [], _, _ => rfl
  | lo, k, e :: rest, h, hk => by
    simp only [cellsFrom, Bool.and_eq_true, decide_eq_true_eq] at h
    rw [readCell_cons, if_neg (by omega)]
    exact readCell_below h.2 (by omega)

/-- A written byte reads back, and every other byte reads as before. -/
theorem readCell_writeCell (v : Byte) (k : Nat) : ∀ {lo a : Nat} {m : List Host.Cell}, cellsFrom lo m = true →
    readCell (writeCell a v m) k = if k = a then v else readCell m k
  | lo, a, [], _ => by
    unfold writeCell
    by_cases hv : v = 0
    · rw [if_pos hv, hv]; exact (ite_self _).symm
    · rw [if_neg hv, readCell_cons]
      by_cases hk : a = k
      · rw [if_pos hk, if_pos hk.symm]
      · rw [if_neg hk, if_neg (Ne.symm hk)]
  | lo, a, e :: rest, hm => by
    simp only [cellsFrom, Bool.and_eq_true, decide_eq_true_eq] at hm
    have low := fun (h : k < e.1 + 1) => readCell_below hm.2 h
    unfold writeCell
    split
    · rename_i hlt
      rw [readCell_cons, readCell_cons, readCell_writeCell v k (a := a) hm.2]
      by_cases hk : e.1 = k
      · rw [if_pos hk, if_pos hk, if_neg (by omega)]
      · rw [if_neg hk, if_neg hk]
    · split
      · rename_i hea
        by_cases hk : k = a
        · rw [if_pos hk]
          split
          · rename_i hv; rw [low (by omega), hv]
          · rw [readCell_cons, if_pos hk.symm]
        · have hne : ¬ e.1 = k := by omega
          rw [if_neg hk, readCell_cons e, if_neg hne]
          split
          · rfl
          · rw [readCell_cons, if_neg (Ne.symm hk)]
      · by_cases hk : k = a
        · rw [if_pos hk]
          split
          · rename_i hv; rw [readCell_cons, if_neg (by omega), low (by omega), hv]
          · rw [readCell_cons, if_pos hk.symm]
        · rw [if_neg hk]
          split
          · rfl
          · rw [readCell_cons, if_neg (Ne.symm hk)]

/-- After reset every retained area has its form. -/
theorem reset_memory_wf : Memory.wf State.reset = true := by decide +kernel

end Sys2Proof.Machine
end

