-- ==== Sys2Proof/WellFormed.lean ====
section
/-! DEFINITION. Well-formed commands: what a sender can send beyond what the operands' types say. exec is total on ill-formed commands too. -/

namespace Sys2Proof

/-- A descriptor's buffer: a read that is answered brings the bytes the descriptor names (R76, R108). -/
def Desc.wf (d : Desc) : Bool := !d.readOk || d.data.length == d.dataLen.toNat

/-- A doorbell word: bits [31:16] are reserved (R74). -/
def doorbellWf (v : Word) : Bool := v.toNat < 65536

/-- An address of a register: those of the windows are aligned to 4 bytes (R57, R74). -/
def RegAddr.wf : RegAddr → Bool
  | .setup o | .doorbell o => o.toNat % 4 == 0
  | _ => true

/-- Samples of a block or a segment: 64 of them (R18, R28). -/
def samplesWf (l : List Sample) : Bool := l.length == 64

/-- A temperature: signed, 1/64 °C, in 16 bits (R463). -/
def temperatureWf (v : Int) : Bool := decide (-32768 ≤ v) && decide (v ≤ 32767)

/-- A Guestbook entry: class 0-8 by type, severity 0-4, a payload of at most 480 bytes (R526). -/
def entryWf (e : GbEntry) : Bool := decide (e.severity ≤ 4) && decide (e.payload.length ≤ 480)

/-- A link frame: at most 15 hops, at most 63 returned billets, and 64 samples in a block (R605, R606). -/
def frameWf (f : ObxFrame) : Bool :=
  decide (f.hops ≤ 15) && decide (f.returned ≤ 63) && (f.kind != .block || samplesWf f.samples)

/-- A legacy SPI frame's clocks after its last word: fewer than a word's 16 (R653). -/
def spiWf (n : Nat) : Bool := decide (n ≤ 16)

/-- Checks of each command: descriptors, words, offsets, samples, temperatures, entries, frames. -/
def Instr.wf : Instr → Bool
  | .nop d | .cancel d | .timeQuery d | .deviceInfo d | .powerStateSet d | .orderlyStop d | .restart d | .deviceReset d | .configSave d => d.wf
  | .linkConfigure d | .linkStatus d | .streamConfigure d | .channelCreate d | .channelModify d | .channelRemove d | .channelStatus d => d.wf
  | .channelMute d | .peakLimitSet d | .cancelConfigure d | .cancelReset d | .cancelReadTaps d | .isolationMeasure d | .marginRead d => d.wf
  | .marginSet d | .stabilityStatus d | .probeConfigure d | .gainSet d | .alcConfigure d | .powerLimitSet d | .ulCouplingSet d => d.wf
  | .squelchConfigure d | .donorLossConfigure d | .thresholdConfigure d | .protectionStatus d | .protectionRelease d => d.wf
  | .assignmentCreate d | .assignmentModify d | .assignmentRelease d | .migrate d | .engineStatus d | .placementPolicySet d | .spareSet d => d.wf
  | .kernelCatalogueLoad d | .capacityQuery d | .frameSyncConfigure d | .tddPatternSet d | .frameStatus d | .fePinConfigure d => d.wf
  | .serialQueueLoad d | .loPlanWrite d | .loTune d | .loCalibrate d | .loStatus d | .txEnable d | .surveyConfigure d | .surveyRead d => d.wf
  | .coexConfigure d | .loopConfigure d | .loopCoeffLoad d | .loopSwap d | .loopModeSet d | .loopStatus d | .repetitiveConfigure d => d.wf
  | .repetitiveReset d | .railConfigure d | .railSetVoltage d | .railStart d | .railStop d | .railStatus d | .trackingSet d => d.wf
  | .coreAvsConfigure d | .thermalConfigure d | .thermalStatus d | .sensorMapSet d | .lifeRead d | .faultStatus d | .reactionSet d => d.wf
  | .faultRelease d | .faultParamsSet d | .gbRead d | .gbTailStatus d | .gbClearChallenge d | .gbClear d | .gbAppend d | .wallClockSet d => d.wf
  | .hrRead d | .hrAmendChallenge d | .hrAmend d | .hrLock d | .patchLoad d | .lodgerLoad d | .lodgerStart d | .lodgerStop d => d.wf
  | .identityRead d | .attest d | .fabricDiscover d | .fabricStatus d | .routeSet d | .billetSet d | .linkReclaim d | .twinConfigure d => d.wf
  | .twinSync d | .twinHandover d | .twinStatus d | .captureStart d | .captureStop d | .captureStatus d => d.wf
  | .deskFaultEvent d | .deskWatchdog d | .deskHostMessage d | .deskRetain d | .deskDenied d => d.wf
  | .cmdqDoorbell _ v | .consumerDoorbell _ v => doorbellWf v
  | .descriptorFetch _ a => a.all Desc.wf
  | .registerWrite a _ _ => a.wf
  | .receiveMultiblock _ _ _ first second => samplesWf first && samplesWf second
  | .transmitSegmentDue _ _ => true
  | .slowTick m => m.temps.all temperatureWf
  | .gbIntake e => entryWf e
  | .obxFrameReceive _ f => frameWf f
  | .legacySpiFrame _ _ n => spiWf n
  | .stepGrant | .commandTimeout _ | .ringAging _ | .hardwareWaitDone _ _ | .epochRetire _ _ _ | .recordSpace _ | .coalesceTimeout _ => true
  | .ringEnable _ _ | .ringDisable _ _ | .hifEnable _ | .busMasterOff | .hostInterfaceReset _ | .captureSessionBegin _ | .sysrefArm _ => true
  | .clearLowWater _ | .sysReset _ | .firstFaultClear _ | .sysrefEdge _ | .jesdLaneLockChange _ _ _ _ | .blockProcess _ _ _ _ _ => true
  | .oscillationMute _ _ _ | .blockArrival _ _ _ | .blockDeadline _ _ | .censusTokenArrival _ _ _ | .alcTick _ | .implausibleMute _ _ => true
  | .donorUpdate _ | .couplingRelease _ | .donorLossMute _ | .donorReturn _ | .floorUpdate _ | .squelchHangExpiry _ | .overpowerMute _ _ => true
  | .overpowerRetry _ _ | .compositeOver _ | .portRetry _ | .reductionEnded _ _ | .delaySearchEnd _ _ _ | .measurementEnd _ _ _ => true
  | .marginStale _ _ | .backoffDwellExpiry _ _ | .holdDwellExpiry _ _ | .oscHoldoffExpiry _ _ | .marginLostRetry _ _ => true
  | .splitTc2Silence _ _ | .engineCheckFail _ _ _ _ _ | .testBlocksEnd _ _ | .engineSlowNotice _ | .wingSlow _ | .migrationCopyDone _ _ => true
  | .migrationSwitch _ _ | .migrationLimit _ | .selfTestDone _ _ | .frameStart | .syncReport _ _ _ | .ppsEdge _ | .holdoverEntry => true
  | .holdoverExpiry | .tddPatternSwitch _ | .loLock _ | .loLockLoss _ | .txEnableDeadline _ | .serialTrigger _ => true
  | .serialTransactionEnd _ _ | .surveyDwellEnd _ _ | .coexReqRise _ _ | .coexGrant _ | .coexDeferExpiry _ | .coexReqFall _ => true
  | .coexLimit _ _ | .coexAct _ _ | .loopTick _ _ | .handoverWindowEnd _ | .switchingCycle _ _ | .railUv _ | .railShort _ => true
  | .ladderMove _ _ | .phaseOpen _ | .phaseSense _ | .softStartDone _ | .railStopDone _ | .timebaseLock | .bootRetry => true
  | .coreResetRelease | .thermalThresholdCross _ _ _ | .sensorReinstate _ | .thermalAutoRestart | .criticalTrip _ | .criticalRecovery => true
  | .lifeCheckpoint _ | .daily | .faultEvent _ | .faultQuietExpiry _ | .rfReady | .brownOut | .holdupTrip | .holdupReopen => true
  | .supplyComparatorTrip _ | .supplyRecovered _ | .boardReset | .wakeDetect _ | .wallClockAlarm | .perstRelease | .sleepL2WaitEnd => true
  | .autoSleep | .innkeeperWatchdog | .innkeeperRestartDone | .patchFloorRaise | .lodgerWatchdog _ | .lodgerAutorestart _ => true
  | .deskViolation _ | .collectorIntakeTimeout | .gbTakeEntry | .tailTimeout | .tailSnapshot | .gbCommitDone | .clearEraseDone => true
  | .checkpoint | .replayTimeout _ | .obxLaneFailure _ _ _ | .linkTrained _ _ | .reclaimReportTimeout _ | .heartbeatSend => true
  | .heartbeatTimeout | .ownerArbitration | .ownerLost _ | .aliveStop | .claimWaitExpiry | .handoverSwitch | .autoResync => true
  | .tapInstruction _ | .compatWindowAccess _ _ _ _ | .gqHiRead _ | .gqRunClear | .gqRunSet | .gqSoftReset | .gqCentreWrite _ _ => true
  | .chEnableSet _ | .chEnableClear _ | .chMuteWrite _ _ _ | .chBwWrite _ _ | .chSquelchWrite _ _ | .chFreqWrite _ _ _ => true
  | .chGainWrite _ _ _ | .gqMarginWrite _ _ | .gqPowerLimitWrite _ _ | .gqDonorLossWrite _ | .chOscClear _ _ => true
  | .vauxValid _ | .deviceResetFire _ | .boardResetEnd _ | .safetyNetRelease _ _ | .hostInterfaceResetEnd | .rtcOscillatorFailure | .handoverAckDeadline | .comparatorArmed _ => true

end Sys2Proof
end

