-- ==== Sys2Proof/Tests/Slice0.lean ====
section
/-! SUPPORT. Tests: ill-formed commands, check values of named standards, the manual's worked examples, single steps, and for every statement of the
obligations states and operands that meet its hypotheses. -/

namespace Sys2Proof.Tests

set_option maxRecDepth 100000
set_option Elab.async false
set_option linter.unusedVariables false

open Sys2Proof.Machine Sys2Proof.Safety

/-! ## States and descriptors -/

/-- A descriptor of command ring 0 with parameters as one number, least significant byte first, and a data buffer. -/
def cmd (params : Nat) (bytes : List Byte) : Desc :=
  { ring := 0, opcode := 0, tag := 7, flags := 0, timeoutMs := 0, effCount := 0, dataLen := BitVec.ofNat 32 bytes.length, dataAddr := 64,
    params := BitVec.ofNat 320 params, data := bytes, readOk := true }

/-- Parameters or buffer bytes from fields (offset, length, value). -/
def fieldsNat (fs : List (Nat × Nat × Nat)) : Nat := fs.foldl (fun a f => a + f.2.2 * 2 ^ (8 * f.1)) 0

/-- A buffer of n bytes with fields. -/
def buffer (n : Nat) (fs : List (Nat × Nat × Nat)) : List Byte := (List.range n).map (fun i => BitVec.ofNat 8 (fieldsNat fs / 2 ^ (8 * i)))

/-- A descriptor with parameter fields and no buffer. -/
def cmdP (fs : List (Nat × Nat × Nat)) : Desc := cmd (fieldsNat fs) []

/-- A descriptor of a lodger's desk. -/
def deskP (fs : List (Nat × Nat × Nat)) (bytes : List Byte) : Desc := { cmd (fieldsNat fs) bytes with ring := 16 }

/-- A started device: the Innkeeper runs, power ACTIVE, the fetch enable set, command ring 0 and completion ring 0 active. -/
def up : State :=
  { State.reset with
    sys := { State.reset.sys with innkeeper := .running, power := .active, rfReady := true, cfgReady := true },
    hif := { State.reset.hif with
      enable := true,
      rings := upd (upd State.reset.hif.rings 0 (fun g => { g with enable := true, state := .active })) 16
        (fun g => { g with enable := true, state := .active }) } }

/-- A channel definition: BW20, FDD, one receive and one transmit port each way. -/
def someDef : ChanDef :=
  { cls := 2, duplex := 0, tdd := 0xFF, wingMask := 1,
    dl := { rx := 1, tx := 1, centre := 2110000000, gain := 6000, taps := 16, weight := #v[-100, 0, 0, 0], trim := Vector.replicate 4 0, rxDevice := 0xFF, txDevice := 0xFF },
    ul := { rx := 1, tx := 1, centre := 1920000000, gain := 5000, taps := 16, weight := #v[-100, 0, 0, 0], trim := Vector.replicate 4 0, rxDevice := 0xFF, txDevice := 0xFF } }

/-- Channel c exists with this definition. -/
def withChan (c : Fin 64) (s : State) : State := modChan c (fun x => { x with state := .active, defn := someDef, dl := { x.dl with gainCentre := 2110000000 }, ul := { x.ul with gainCentre := 1920000000 } }) s

/-- A started device with channel 3. -/
def chanUp : State := withChan 3 up

/-! ## The hypotheses of the statements as booleans -/

/-- Granted, as a boolean. -/
def grantedB (code : Nat) (d : Desc) (s : State) : Bool :=
  decide (d.ring.val < 20) && fetches d.ring.val s && (source d.ring.val s).fetched.isEmpty && (source d.ring.val s).running.isNone
  && mayStart d.ring.val (enqueue d.ring.val (coded code d) s) && processorFree d.ring.val (enqueue d.ring.val (coded code d) s)
  && (s.sys.innkeeper == .running) &&
  (!hasStandby s || (!forwarded (coded code d).opcode.toNat && !(opRow (coded code d).opcode.toNat).any (fun x => x.kind == .epoch)))

/-- Begins, as a boolean. -/
def beginsB (code : Nat) (d : Desc) (s : State) : Bool := grantedB code d s && (startRefusal (coded code d) s).isNone

/-- Passes, as a boolean. -/
def passesB (code : Nat) (check : Running → State → Option Reject) (d : Desc) (s : State) : Bool :=
  beginsB code d s && (check (starting code d s) (stepping code d s)).isNone

/-- A command in execution. -/
def someRun (code params : Nat) (w : Wait) : Running :=
  { desc := { cmd params [] with opcode := BitVec.ofNat 16 code }, order := 1, startTick := 0, lastRecord := 0, steps := 1, phase := 0, wait := w,
    committed := false, clamped := false, epochs := [], aux := [], results := [], result := 0, silent := false }

/-- A record of a completion ring. -/
def someRecord : Completion :=
  { tag := 9, status := .done, phase := true, seqValid := false, final := true, effSeq := 0, stepCount := 1, sourceRing := 0, cmdqHead := 0, detail := 0,
    opcode := 0, result := 0, order := 1 }

/-- The started device with every ring of the device enabled. -/
def ringsUp : State := (List.range 42).foldl (fun s r => modRing r (fun g => { g with enable := true, state := .active }) s) up
/-- A House Rules image of generation 0 with its check value. -/
def someImage : List Byte :=
  let body := buffer 60 [(0, 4, 0x4C52484A), (4, 2, 1), (32, 1, 0xFF), (34, 2, 600), (42, 2, 25), (44, 2, 0x10000 - 12000)]
  body ++ buffer 4 [(0, 4, (crc32 (body ++ List.replicate 4 0 ++ List.replicate 3008 0)).toNat)] ++ List.replicate 3008 0

/-- A lodger image for core 3 with 8 bytes of code. -/
def someLodger : List Byte :=
  buffer 64 [(0, 4, 0x474C444C), (4, 2, 1), (6, 1, 3), (7, 1, 2), (8, 4, 0), (12, 4, 8), (20, 4, 5), (24, 4, (crc32 (buffer 8 [(0, 8, 77)])).toNat)] ++
    buffer 8 [(0, 8, 77)]

/-- The started device with lodger core 0 running and its desk. -/
def deskUp : State := modLodger 0 (fun x => { x with state := .running }) up
/-- The started device with its converter links up, every port at 1474.56 MS/s, and House Rules that admit the two bands. -/
def linked : State :=
  { up with
    links := { up.links with
      rxGroups := Vector.replicate 5 .aligned, rxConfigured := Vector.replicate 5 true, txActive := Vector.replicate 4 true,
      streams := Vector.ofFn (fun p => { Stream.reset with rate := some 3, rxCentre := if p.val < 4 then 2110000000 else 1920000000,
                                                           txCentre := if p.val < 4 then 1920000000 else 2110000000 }) },
    hr := { up.hr with rules := { up.hr.rules with
      donorMandatory := false, sleepPermitted := true, mHr := 1200, uIcpt := 11000,
      ranges := [{ low := 1000000000, high := 3000000000, dl := true, ul := true, gHr := 9000 }],
      pCompMax := Vector.replicate 8 4000, pChMax := Vector.replicate 8 3000 } } }

/-- The same with channel 3. -/
def chanRich : State := withChan 3 linked

/-- A definition as a CHANNEL_CREATE buffer holds it: number, duplex and wing mask given, BW20. -/
def defBuffer (n duplex wings : Nat) : List Byte :=
  buffer 80 [(0, 1, n), (1, 1, 2), (2, 1, duplex), (3, 1, 0xFF), (4, 1, 1), (5, 1, 1), (6, 1, 1), (7, 1, 1), (8, 8, 2110000000), (16, 8, 1920000000),
    (24, 2, 6000), (26, 2, 5000), (28, 2, 16), (30, 2, 16), (32, 2, 0x10000 - 100), (48, 2, 0x10000 - 100), (64, 2, wings), (66, 4, 0xFFFFFFFF)]
/-- An assignment of a direction of channel 3: one path of 16 taps, everything on engine 0. -/
def builtAsg : Assignment :=
  { Assignment.reset with
    used := true, cls := 2, wingMask := 1, tSh := 32,
    segs := [{ kernel := 0, inst := 0, path := 0, slice := 0, cost := 1966080000, engine := some 0 },
      { kernel := 1, inst := 0, path := 0, slice := 0, cost := 983040000, engine := some 0 },
      { kernel := 1, inst := 0, path := 16, slice := 0, cost := 491520000, engine := some 0 },
      { kernel := 2, inst := 0, path := 0, slice := 0, cost := 4055040000, engine := some 0 },
      { kernel := 3, inst := 0, path := 0, slice := 0, cost := 983040000, engine := some 0 },
      { kernel := 5, inst := 0, path := 0, slice := 0, cost := 245760000, engine := some 0 }],
    mem := [{ kernel := 0, inst := 0, wing := 0, bytes := 448 }, { kernel := 1, inst := 0, wing := 0, bytes := 24576 },
      { kernel := 2, inst := 0, wing := 0, bytes := 1152 }, { kernel := 3, inst := 0, wing := 0, bytes := 19580 },
      { kernel := 5, inst := 0, wing := 0, bytes := 5120 }, { kernel := 7, inst := 0, wing := 0, bytes := 1024 }] }

/-- Channel 3 with its assignments 6 and 7 built. -/
def made : State :=
  modAsg 6 (fun _ => builtAsg) (modAsg 7 (fun _ => builtAsg) (modEngine 0 (fun e => { e with state := .active }) chanRich))

/-- The started device with a TWIN strap and an active twin link, its owner. -/
def twinUp : State :=
  modTwin (fun t => { t with owner := true, state := .detached }) (modLink 4 (fun x => { x with state := .active })
    { up with sys := { up.sys with straps := { up.sys.straps with twinSel := true } } })

/-- The started device with link OBX0 active towards device 1. -/
def fabricUp : State := modLink 0 (fun x => { x with state := .active, lanes := 15, neighbour := 1, known := true, up := true }) up
/-- The same device with device 1 in reach over link OBX0. -/
def reaching (s : State) : State :=
  modFabric (fun f => { f with routes := upd f.routes 1 (fun v => { v with port := 0, hops := 1 }) })
    (modLink 0 (fun x => { x with state := .active, lanes := 15, neighbour := 1, known := true, up := true }) s)

/-- A block of receive port 0 with sequence 0. -/
def someBlock (st : Stage) (p : Fin 8) : Block :=
  { stage := st, port := p, mute := false, tddBoundary := false, boundaryIndex := 0, probeActive := false, late := false, mirrored := false,
    migrateMark := false, configEpoch := 0, gainEpoch := 0, sequence := 0, source := 0, firstCount := 256, applied := 0, samples := [] }

/-- A direction whose next block is 1 and that holds this block. -/
def withBlock (st : Stage) (p : Fin 8) (s : State) : State :=
  modDir 3 .dl (fun x => { x with ordinal := 1, portOrdinal := Vector.replicate 4 1, blocks := [someBlock st p] }) s

/-- A direction under way: S and K at 60 dB, with a measurement behind it. -/
def tracking (d : Dir) (s : State) : State :=
  modStab 3 d (fun m => { m with state := .track, s := 6000, k := 6000, reason := .initial }) s
/-- A complete sub-window of a silent path. -/
def aWindow : SubWindow := { count := 0, first := 0, pre := [], post := [], preNoise := [], postNoise := [], ref := 0 }

/-- Measurements of a quiet slow tick: 40 degrees everywhere. -/
def quietSlow : SlowMeas := { temps := Vector.replicate 24 2560, ratios := Vector.replicate 8 500000, wingAging := Vector.replicate 16 0 }

/-- A migration of the SHAPE segment of channel 3's downlink to engine 1. -/
def someMigration (st : MigrationStep) (start : Half) (ring : Option (Fin 22)) : Migration :=
  { asg := 6, moves := [({ kernel := 2, inst := 0, path := 0, slice := 0, cost := 4055040000, engine := some 0 }, 1)], step := st, startBlock := start,
    ring := ring, wasSpare := [], comparator := Comparator.reset, since := 0, fill := 0, upgrade := none, agree := true, ticket := none }

/-- The device that carries out this migration. -/
def migrating (m : Migration) : State := modEngine 1 (fun x => { x with state := .shadow }) { made with eng := { made.eng with migrations := [m] } }
/-- What a rail's switching cycle meets: its voltage in mV, no current, nothing flagged. -/
def cycleAt (mv : Nat) : RailMeas :=
  { sensedMv := mv, atStart := Vector.replicate 16 0, atCentre := Vector.replicate 16 0, atEnd := Vector.replicate 16 0 }
/-- An entry of the Guestbook's intake. -/
def anEntry (cls : Fin 9) : GbEntry :=
  { cls := cls, severity := 2, source := 12, code := 3, simul := false, late := false, payload := [1, 2], timeUs := 5, events := [] }

/-- A tail record with two repeats. -/
def aTail (isOpen : Bool) : Tail :=
  { entry := { cls := 5, severity := 2, source := 12, code := 3, flags := 0, repeats := 2, sequence := 4, powerCycles := 1, timeUs := 5, payload := [1, 2] },
    isOpen := isOpen, lastRepeatTick := 0, lastRepeatUs := 5, snapshotTick := 0, snapshotRepeats := 1, snapshot := false, finalCopy := false }

/-- The started device with this Guestbook. -/
def withGb (f : Guestbook → Guestbook) : State := { up with gb := f up.gb }

/-- A frame of a link. -/
def aFrame (kind : ObxKind) : ObxFrame :=
  { tc := 0, kind := kind, dst := 0, src := 1, hops := 0, retClass := 0, returned := 0, seq := 0, ackSeq := 0, ackValid := false, nak := false,
    crcOk := true, waybill := 0, samples := [], msg := .none, mirrors := [], sent := Vector.replicate 4 0 }

/-- The started device in compatibility mode, its legacy map ready. -/
def compatUp : State :=
  { up with sys := { up.sys with mode := .compat }, compat := { up.compat with ready := true } }

/-- The same with legacy channel 15 enabled. -/
def compatOn : State :=
  { compatUp with compat := { compatUp.compat with chans := upd compatUp.compat.chans 15 (fun g => { g with enable := true }) } }

/-- The pair's device with a hand-over announced for the count 100. -/
def handing (acked : Bool) : State :=
  modTwin (fun t => { t with state := .lockstep, ownerOut := true, hand := some { x := 100, cause := 0, ring := none, acked := acked } }) twinUp

/-- The pair's standby, an odd device. -/
def standbyUp : State :=
  { modTwin (fun t => { t with owner := false, state := .lockstep }) twinUp with
    sys := { twinUp.sys with straps := { twinUp.sys.straps with devid := 5 } } }

theorem grantedB_iff (code : Nat) (d : Desc) (s : State) : grantedB code d s = true ↔ Granted code d s := by
  simp only [grantedB, Bool.and_eq_true, Bool.or_eq_true, Bool.not_eq_true', decide_eq_true_eq, List.isEmpty_iff, Option.isNone_iff_eq_none,
    beq_iff_eq]
  exact ⟨fun ⟨⟨⟨⟨⟨⟨⟨a, b⟩, c⟩, e⟩, f⟩, g⟩, h⟩, k⟩ => ⟨a, b, ⟨c, e⟩, ⟨f, g⟩, h, k⟩,
    fun ⟨a, b, ⟨c, e⟩, ⟨f, g⟩, h, k⟩ => ⟨⟨⟨⟨⟨⟨⟨a, b⟩, c⟩, e⟩, f⟩, g⟩, h⟩, k⟩⟩

theorem beginsB_iff (code : Nat) (d : Desc) (s : State) : beginsB code d s = true ↔ Begins code d s := by
  simp only [beginsB, Bool.and_eq_true, grantedB_iff, Option.isNone_iff_eq_none]
  exact ⟨fun ⟨a, b⟩ => { toGranted := a, unrefused := b }, fun h => ⟨h.toGranted, h.unrefused⟩⟩

theorem passesB_iff (code : Nat) (check : Running → State → Option Reject) (d : Desc) (s : State) :
    passesB code check d s = true ↔ Passes code check d s := by
  simp only [passesB, Bool.and_eq_true, beginsB_iff, Option.isNone_iff_eq_none]
  exact Iff.rfl

/-! ## Ill-formed commands -/

theorem test_wf_descriptor : (Instr.nop { cmd 0 [1] with dataLen := 2 }).wf = false ∧ (Instr.nop (cmd 0 [1])).wf = true := by decide +kernel
theorem test_wf_doorbell : (Instr.cmdqDoorbell 3 65536).wf = false ∧ (Instr.cmdqDoorbell 3 65535).wf = true := by decide
theorem test_wf_fetch : (Instr.descriptorFetch 3 (some { cmd 0 [1] with dataLen := 2 })).wf = false ∧ (Instr.descriptorFetch 3 none).wf = true := by
  decide +kernel
theorem test_wf_offset : (Instr.registerWrite (.setup 0x102) 0 15).wf = false ∧ (Instr.registerWrite (.setup 0x104) 0 15).wf = true := by decide
theorem test_wf_samples : (Instr.receiveMultiblock 0 true true [] (List.replicate 64 { i := 0, q := 0 })).wf = false ∧
    (Instr.receiveMultiblock 0 true true (List.replicate 64 { i := 0, q := 0 }) (List.replicate 64 { i := 0, q := 0 })).wf = true := by decide +kernel
theorem test_wf_temperature :
    (Instr.slowTick { quietSlow with temps := Vector.replicate 24 32768 }).wf = false ∧ (Instr.slowTick quietSlow).wf = true := by decide +kernel
theorem test_wf_entry : (Instr.gbIntake { anEntry 5 with severity := 5 }).wf = false ∧ (Instr.gbIntake (anEntry 5)).wf = true := by decide
theorem test_wf_frame : (Instr.obxFrameReceive 0 { aFrame .control with returned := 64 }).wf = false ∧
    (Instr.obxFrameReceive 0 (aFrame .control)).wf = true := by decide +kernel
theorem test_wf_spi : (Instr.legacySpiFrame 0 [] 17).wf = false ∧ (Instr.legacySpiFrame 0 [] 16).wf = true := by decide

/-! ## Check values of the standards the manual names -/

/-- "123456789" under the CRC-16 of R31 (CCITT, initial 0xFFFF) and the CRC-32 of IEEE 802.3: their published check values. -/
theorem test_crc_check_values :
    crc16 [49, 50, 51, 52, 53, 54, 55, 56, 57] = 0x29B1 ∧ crc32 [49, 50, 51, 52, 53, 54, 55, 56, 57] = 0xCBF43926 := by decide +kernel

/-- SHA-256 of "abc" (FIPS 180-4). -/
theorem test_sha256_abc : (sha256 [97, 98, 99]).take 4 = [0xBA, 0x78, 0x16, 0xBF] := by decide +kernel

/-! ## Worked examples of the manual -/

/-- A filter change at a chosen count (01): the waybill of block 0x3A11 at the GAIN output for S0. -/
theorem test_waybill_example :
    waybillCovered 5 .dl { someBlock .gained 4 with
        probeActive := true, configEpoch := 8, gainEpoch := 2, source := 3, sequence := 0x3A11, firstCount := 0x000F4280, applied := 0x1964 } =
      0x08040405 + 0x03023A11 * 2 ^ 32 + 0x000F4280 * 2 ^ 64 + 0x1964 * 2 ^ 96 := by decide +kernel

/-- The same block at the channeliser output: word 0 = 0x08000005. -/
theorem test_waybill_example_receive :
    waybillCovered 5 .dl { someBlock .channelised 0 with configEpoch := 8, gainEpoch := 2, source := 3, sequence := 0x3A11 } % 2 ^ 32 = 0x08000005 := by
  decide +kernel

/-- Losing a PA supply phase (05): the composite of 27.00 and 30.00 dBm, and half of it in decibels. -/
theorem test_composite_example : ratioDb (powerOf 2700 + powerOf 3000) (2 ^ 48) = 3176 ∧ ratioDb 500 1000 = -301 := by decide +kernel

/-- Gain above isolation (04): cancellation 32.40 dB less a tail of 38.00 dB predicts 31.34 dB. -/
theorem test_tail_example : ratioDb (2 ^ 48) (powerOf (-3240) + powerOf (-3800)) = 3134 := by decide +kernel

/-- Slot A of LP160 in "Swap while saturated" (08), and set B beside it. -/
def exampleSlot : LoopSlot :=
  { defined := true, template := 0, setA := #v[0, 0x6000, 0, 0, 0x4000, 0x0800, 0, 0, 0, 0, 0, 0, 0, 0, 0, 0],
    setB := #v[0, 0x5000, 0, 0, 0x2000, 0x0800, 0, 0, 0, 0, 0, 0, 0, 0, 0, 0], activeB := false, iAcc := 0x2CCCCCCC, df := 0, s1 := 0, s2 := 0, s3 := 0,
    y := 0 }

/-- Step 1: core_out 0x699A, u 0x6000 and lim_hi. -/
theorem test_swap_example_before :
    let o := pidCore exampleSlot 0x2000 0x2000 true false
    o.value = 0x699A ∧ (setPath exampleSlot.set o.value 0 0x6000).u = 0x6000 ∧ (setPath exampleSlot.set o.value 0 0x6000).hi = true := by decide +kernel

/-- Steps 2 and 3: i_acc 0x24000000 after the swap, then core_out and u 0x5000 with the freeze held. -/
theorem test_swap_example_after :
    let b := ({ exampleSlot with activeB := true }).back 0 0x6000 0 0x2000
    let o := pidCore b 0x2000 0x2000 true false
    b.iAcc = 0x24000000 ∧ o.value = 0x5000 ∧ o.frozen = true ∧ (setPath b.set o.value 0 0x5000).u = 0x5000 := by decide +kernel

/-- The two-operator rural repeater (03): 240 pool slots are 4 × 20 for the BW20 channels and 4 × 40 for the BW100 ones. -/
theorem test_slots_example : slotsOf 2 someDef.dl .dl up = 20 ∧ slotsOf 4 someDef.dl .dl up = 40 := by decide +kernel

/-- Worked turn-round (07): the n78 pattern is well formed, and DDDSU holds 57 056 counts of DL. -/
theorem test_pattern_example :
    let p : Pattern := { period := 76800, offset := 0, segs := [(57056, 0), (1792, 2), (17552, 1), (400, 2)] }
    badPattern p = false ∧ kindCounts 0 p = 57056 ∧ ((p.segs.map (·.1)).sum = 76800) := by decide +kernel

/-- A fault tick (11): receive group 1 and phase 5 enter MINOR, an engine of wing 6 NOTICE; the records go by state, then by number. -/
theorem test_tick_order_example :
    (tickOrder [{ src := 102, old := 0, new := 1, events := [] }, { src := 291, old := 0, new := 2, events := [] },
      { src := 33, old := 0, new := 2, events := [] }]).map (·.src) = [33, 291, 102] := by decide +kernel

/-- A wing sensor fails while throttling (10): Θ = 4.60 dB is wing step 3, and 6.00 dB step 4. -/
theorem test_wing_step_example : nextStep 3 (64 * 460) = 3 ∧ nextStep 3 (64 * 600) = 4 := by decide +kernel

/-- The ball map (16): 863 VSS, 437 VCORE, 86 VSD, 50 VSDH, 18 VSYN, 16 VIO and 16 VAUX balls among the 1,936. -/
theorem test_ball_counts :
    let all := (List.range 44).flatMap (fun r => (List.range 44).map (fun c => ball (r + 1) (c + 1)))
    [Signal.vss, .vcore, .vsd, .vsdh, .vsyn, .vio, .vaux].map (fun x => (all.filter (fun y => y == x)).length) = [863, 437, 86, 50, 18, 16, 16] := by
  decide +kernel

/-! ## Single steps -/

/-- The command at the front is taken and the rest waits behind it. -/
theorem test_step_takes_the_front :
    (match step { up with pending := [.cmdqDoorbell 3 5, .nop (cmd 0 [])] } with
      | .next t => decide (t.pending = [.nop (cmd 0 [])])
      | _ => false) = true := by decide +kernel

/-- An empty queue lets one count pass. -/
theorem test_step_idles : (match step up with
      | .next t => t.now == up.now + 1
      | _ => false) = true := by decide +kernel

/-- A row has no bits: no word spells a command, and none is placed. -/
theorem test_no_words : decodeTableWord 0 0 = none ∧ decodeTableWord 64 0xFFFF = none ∧ State.reset.withFetchWord 16 5 = State.reset :=
  ⟨rfl, rfl, rfl⟩

/-! ## Witnesses

For each statement, operands and states that meet the hypotheses of its clauses, several at the boundaries of their ranges; where one
theorem covers a block, it is the conjunction over the block's clauses. passesB_iff, beginsB_iff and grantedB_iff read the booleans back. -/

theorem witness_StepRunsTheFront : ({ up with pending := [.nop (cmd 0 [])] } : State).pending = .nop (cmd 0 []) :: [] := rfl

theorem witness_IdleStepIsTimeAlone : up.pending = [] ∧ up.sys.coreUp = true ∧ State.reset.pending = [] ∧
    ({ up with sys := { up.sys with coreUp := false, vauxValid := true } } : State).pending = [] := by decide +kernel

theorem witness_ExecKeepsTheQueue : ∃ t, exec (.cmdqDoorbell 3 5) up = .next t := ⟨_, rfl⟩

theorem witness_EveryStepKeepsInv : Inv up ∧ ∃ t, step { up with pending := [.cmdqDoorbell 3 5] } = .next t :=
  ⟨⟨.inl (by decide +kernel), by decide +kernel⟩, ⟨_, rfl⟩⟩

/-- The queries with descriptors and states that their checks pass. -/
def someQueries : List (Instr × State) :=
  [(.nop (cmd 0 []), up), (.timeQuery (cmd 0 []), up), (.deviceInfo (cmd 0 []), up), (.linkStatus (cmd 0 []), up),
   (.channelStatus (cmd 63 (buffer 64 [])), up), (.cancelReadTaps (cmd 3 (buffer 272 [])), chanRich), (.marginRead (cmd 3 []), chanUp),
   (.stabilityStatus (cmd 3 []), chanUp), (.protectionStatus (cmd (1 + 7 * 256) (buffer 64 [])), up), (.protectionStatus (cmd (3 * 256) (buffer 64 [])), chanUp),
   (.engineStatus (cmdP [(0, 1, 0), (2, 2, 255)]), up), (.engineStatus (cmdP [(0, 1, 1), (2, 2, 15)]), up),
   (.capacityQuery (cmd 0 (defBuffer 3 0 1)), up), (.frameStatus (cmd 0 []), up), (.loStatus (cmd 4 []), up), (.surveyRead (cmd 0 []), up),
   (.loopStatus (cmd 191 []), up), (.railStatus (cmd 9 []), up), (.thermalStatus (cmd 0 (buffer 136 [])), up), (.lifeRead (cmd 0 []), up),
   (.faultStatus (cmdP [(0, 2, 511), (2, 1, 1)]), up), (.faultStatus (cmd 0 (buffer 256 [])), up),
   (.gbTailStatus (cmd 0 []), up),
   (.hrRead (cmd 4 (buffer 3072 [])), { up with hr := { up.hr with programmed := 16 } }), (.identityRead (cmd 0 (buffer 144 [])), up),
   (.attest (cmd (2 ^ 64 * 77) (buffer 192 [])), up), (.fabricStatus (cmd 3 []), up), (.fabricStatus (cmd 255 []), up), (.twinStatus (cmd 0 []), twinUp),
   (.captureStatus (cmd 7 []), up)]

theorem witness_QueriesAnswer : someQueries.all (fun p => (queryOf p.1).any (fun k => passesB k.code k.check k.desc p.2)) = true := by decide +kernel

theorem witness_EveryCommandCompletes :
    (∀ x : Straps, Instr.stepGrant ≠ .vauxValid x ∧ Instr.stepGrant ≠ .boardResetEnd x ∧ Instr.stepGrant ≠ .deviceResetFire x) ∧
      up.sys.straps.mode.toNat < 2 :=
  ⟨fun _ => ⟨Instr.noConfusion, Instr.noConfusion, Instr.noConfusion⟩, by decide +kernel⟩

theorem witness_RetainedBytes : cellsFrom 0 [(5, 7), (4095, 1)] = true ∧ 4094 + ([1, 0] : List Byte).length ≤ 4096 := by decide

theorem witness_CommandDoorbell : (
    (let q : Fin 16 := 0;
      let v : Word := 64;
      let s : State := up; decide (hostUp s = true) && decide ((ring q s).enable = true) && decide ((ring q s).size ≤ v.toNat % 65536)) &&
    (let q : Fin 16 := 15;
      let v : Word := 65535;
      let s : State := ringsUp; decide (hostUp s = true) && decide ((ring q s).enable = true) && decide ((ring q s).size ≤ v.toNat % 65536)) &&
    (let q : Fin 16 := 15;
      let s : State := up; decide (hostUp s = true) && decide ((ring q s).enable = false)) &&
    (let q : Fin 16 := 0;
      let v : Word := 63;
      let s : State := up; decide (hostUp s = true) && decide ((ring q s).enable = true) && decide (v.toNat % 65536 < (ring q s).size)) &&
    (let q : Fin 16 := 0;
      let v : Word := 0;
      let s : State := up; decide (hostUp s = true) && decide ((ring q s).enable = true) && decide (v.toNat % 65536 < (ring q s).size)) &&
    (let r : Fin 26 := 0;
      let v : Word := 64;
      let s : State := up; decide (hostUp s = true) && decide ((ring (16 + r.val) s).enable = true) && decide ((ring (16 + r.val) s).size ≤ v.toNat % 65536)) &&
    (let r : Fin 26 := 25;
      let v : Word := 64;
      let s : State := ringsUp; decide (hostUp s = true) && decide ((ring (16 + r.val) s).enable = true) && decide ((ring (16 + r.val) s).size ≤ v.toNat % 65536)) &&
    (let r : Fin 26 := 25;
      let s : State := up; decide (hostUp s = true) && decide ((ring (16 + r.val) s).enable = false)) &&
    (let q : Fin 16 := 15;
      let cfg : Word := 0;
      let s : State := up; decide (hostUp s = true) && decide ((ring q s).enable = false) && decide ((ring (16 + boundRing q (modRing q (Ring.configured true (cfg ||| 0x20)) s)) s).enable = true)) &&
    (let q : Fin 16 := 1;
      let cfg : Word := 0x3F;
      let s : State := up; decide (hostUp s = true) && decide ((ring q s).enable = false) && decide ((ring (16 + boundRing q (modRing q (Ring.configured true (cfg ||| 0x20)) s)) s).enable = true)) &&
    (let r : Fin 26 := 25;
      let s : State := up; decide (hostUp s = true) && decide ((ring (16 + r.val) s).enable = false) && decide ((r.val ≠ 25 ∨ s.hif.resetSeenPending = false))) &&
    (let r : Fin 26 := 24;
      let s : State := up; decide (hostUp s = true) && decide ((ring (16 + r.val) s).enable = false) && decide ((r.val ≠ 25 ∨ s.hif.resetSeenPending = false)))) = true := by decide +kernel

theorem witness_ConsumerDoorbell : (
    (let r : Fin 26 := 0;
      let v : Word := 63;
      let s : State := up; decide (hostUp s = true) && decide ((ring (16 + r.val) s).enable = true) && decide (v.toNat % 65536 < (ring (16 + r.val) s).size)) &&
    (let r : Fin 26 := 0;
      let v : Word := 1;
      let s : State := { up with hif := { up.hif with completions := upd up.hif.completions 0 (fun _ => [someRecord, someRecord]), rings := upd up.hif.rings 16 (fun g => { g with devIndex := 2, irqEnable := true }) } }; decide (hostUp s = true) && decide ((ring (16 + r.val) s).enable = true) && decide (v.toNat % 65536 < (ring (16 + r.val) s).size)) &&
    (let r : Fin 26 := 25;
      let v : Word := 0;
      let s : State := ringsUp; decide (hostUp s = true) && decide ((ring (16 + r.val) s).enable = true) && decide (v.toNat % 65536 < (ring (16 + r.val) s).size))) = true := by decide +kernel

theorem witness_ConsumerDoorbellTwo : (
    (let r : Fin 26 := 0;
      let s : State := { up with hif := { up.hif with completions := upd up.hif.completions 0 (fun _ => [someRecord]), rings := upd up.hif.rings 16 (fun g => { g with devIndex := 1, irqEnable := true, coalesceCount := 255, coalesceTimeUs := 3 }) } }; decide ((ring (16 + r.val) s).irqEnable = true) && decide ((ring (16 + r.val) s).armed = true) && decide (0 < unread (16 + r.val) s))) = true := by decide +kernel

theorem witness_RingsOnAndOff : (
    (let r : Fin 42 := 40;
      let s : State := up; decide (hostUp s = true) && decide (16 ≤ r.val) && decide (r.val ≠ 41) && decide ((ring r.val s).enable = false)) &&
    (let r : Fin 42 := 17;
      let s : State := up; decide (hostUp s = true) && decide (16 ≤ r.val) && decide (r.val ≠ 41) && decide ((ring r.val s).enable = false)) &&
    (let q : Fin 16 := 0;
      let s : State := up; decide (hostUp s = true) && decide ((ring q.val s).enable = true)) &&
    (let q : Fin 16 := 0;
      let s : State := modSource 0 (fun x => { x with running := some (someRun 0x500 0 .state), fetched := [{ desc := cmd 0 [], order := 0, cancelled := false }] }) up; decide (hostUp s = true) && decide ((ring q.val s).enable = true)) &&
    (let s : State := up; decide (hostUp s = true)) &&
    (let s : State := up; decide (hostUp s = true)) &&
    (let r : Fin 42 := 0;
      let s : State := up; decide (hostUp s = true) && decide ((ring r.val s).isActive = true)) &&
    (let r : Fin 42 := 41;
      let s : State := ringsUp; decide (hostUp s = true) && decide ((ring r.val s).isActive = true)) &&
    (let r : Fin 42 := 16;
      let s : State := up; decide (hostUp s = true) && decide ((ring r.val s).isActive = true))) = true := by decide +kernel

theorem witness_RingsOnAndOffTwo : (
    (let s : State := up; decide (s.sys.coreUp = true)) &&
    (let s : State := up; decide (s.sys.coreUp = true)) &&
    (let s : State := modSource 0 (fun x => { x with running := some (someRun 0x500 0 .state), fetched := [{ desc := cmd 0 [], order := 0, cancelled := false }] }) ringsUp; decide (s.sys.coreUp = true)) &&
    (let s : State := up; decide (s.sys.coreUp = true) && decide (s.sys.perst = false)) &&
    (let s : State := { ringsUp with hif := { ringsUp.hif with inReset := true }, sys := { up.sys with innkeeper := .starting } }; decide (s.sys.coreUp = true) && decide (s.sys.perst = false))) = true := by decide +kernel

theorem witness_StepsAndEnds : (
    (let q : Fin 16 := 0;
      let s : State := modSource 0 (fun v => { v with marks := [(1, 1)] }) up; decide (fetches q.val s = true) && decide ((source q.val s).marks ≠ [])) &&
    (let q : Fin 16 := 0;
      let s : State := modSource 0 (fun v => { v with marks := [(2, 5), (1, 6)] }) up; decide (fetches q.val s = true) && decide ((source q.val s).marks ≠ [])) &&
    (let q : Fin 16 := 0;
      let s : State := modSource 0 (fun v => { v with marks := [(1, 1)] }) up; decide (fetches q.val s = true) && decide ((source q.val s).marks ≠ [])) &&
    (let k : Fin 22 := 0;
      let s : State := modSource 0 (fun v => { v with fetched := [{ desc := cmd 0 [], order := 1, cancelled := false }], readySince := some 0 }) up; decide (s.sys.coreUp = true) && decide (chosen s = some k.val)) &&
    (let s : State := up; decide (s.sys.coreUp = true) && decide (chosen s = none)) &&
    (let k : Fin 22 := 0;
      let s : State := modSource 0 (fun v => { v with fetched := [{ desc := cmd 0 [], order := 1, cancelled := false }], readySince := some 0 }) up; decide (s.hif.aging ≠ 0) && decide (grantable k.val s = true)) &&
    (let k : Fin 22 := 21;
      let s : State := modSource 21 (fun v => { v with fetched := [{ desc := cmd 0 [], order := 1, cancelled := false }] }) up; decide (s.hif.aging ≠ 0) && decide (grantable k.val s = true)) &&
    (let k : Fin 22 := 0;
      let r : Running := someRun 0x0521 0 .hardware;
      let s : State := modSource 0 (fun v => { v with running := some (someRun 0x0521 0 .hardware) }) up; decide ((source k.val s).running = some r) && decide (r.wait = .hardware) && decide (outsideWait r.desc = true)) &&
    (let k : Fin 22 := 0;
      let r : Running := { someRun 0x0521 0 .hardware with desc := { (someRun 0x0521 0 .hardware).desc with timeoutMs := 1 } };
      let s : State := { modSource 0 (fun v => { v with running := some { someRun 0x0521 0 .hardware with desc := { (someRun 0x0521 0 .hardware).desc with timeoutMs := 1 } } }) up with slowTicks := 5 }; decide (k.val < 20) && decide ((source k.val s).running = some r) && decide (expired r s = true)) &&
    (let q : Fin 16 := 0;
      let s : State := { up with hif := { up.hif with waiting := upd up.hif.waiting 0 (fun _ => [someRecord]) } }; decide ((nth s.hif.waiting q.val []) ≠ []) && decide (cplRoom q.val s = true))) = true := by decide +kernel

theorem witness_BoundRingStays : (
    (let p : Fin 16 := 0;
      let q : Fin 16 := 0;
      let s : State := up; decide (hostUp s = true) && decide ((ring p.val s).enable = true) && decide ((ring p.val s).cplRing = q) && decide ((ring (16 + q.val) s).enable = true)) &&
    (let p : Fin 16 := 0;
      let q : Fin 16 := 0;
      let s : State := up; decide (hostUp s = true) && decide ((ring p.val s).enable = true) && decide ((ring p.val s).cplRing = q) && decide ((ring (16 + q.val) s).enable = true)) &&
    (let p : Fin 16 := 15;
      let q : Fin 16 := 0;
      let s : State := ringsUp; decide (hostUp s = true) && decide ((ring p.val s).enable = true) && decide ((ring p.val s).cplRing = q) && decide ((ring (16 + q.val) s).enable = true))) = true := by decide +kernel

theorem witness_EffectiveCountInTheFuture : (
    (let e : Word := 1;
      let s : State := up; decide ((1 ≤ (e - BitVec.ofNat 32 (basisNow s)).toNat ∧ (e - BitVec.ofNat 32 (basisNow s)).toNat ≤ 2 ^ 31 - 1))) &&
    (let e : Word := 0x7FFFFFFF;
      let s : State := up; decide ((1 ≤ (e - BitVec.ofNat 32 (basisNow s)).toNat ∧ (e - BitVec.ofNat 32 (basisNow s)).toNat ≤ 2 ^ 31 - 1))) &&
    (let e : Word := 4;
      let s : State := { up with now := 0xFFFFFFFF }; decide ((1 ≤ (e - BitVec.ofNat 32 (basisNow s)).toNat ∧ (e - BitVec.ofNat 32 (basisNow s)).toNat ≤ 2 ^ 31 - 1))) &&
    (let e : Word := 0;
      let s : State := up; decide (¬(1 ≤ (e - BitVec.ofNat 32 (basisNow s)).toNat ∧ (e - BitVec.ofNat 32 (basisNow s)).toNat ≤ 2 ^ 31 - 1))) &&
    (let e : Word := 0x80000000;
      let s : State := up; decide (¬(1 ≤ (e - BitVec.ofNat 32 (basisNow s)).toNat ∧ (e - BitVec.ofNat 32 (basisNow s)).toNat ≤ 2 ^ 31 - 1)))) = true := by decide +kernel

theorem witness_ChannelBeingRemoved : (
    (let c : Fin 64 := 3;
      let d : Desc := cmd 0 (buffer 80 [(0, 1, 3)]);
      let s : State := modChan 3 (fun x => { x with state := .removing }) chanUp; decide ((chan c s).state = .removing) && beginsB 0x0111 d s && decide (checkBuffer true (coded 0x0111 d) = none) && decide (dat d 0 1 = c.val)) &&
    (let c : Fin 64 := 3;
      let d : Desc := cmdP [(0, 1, 3), (1, 1, 3), (2, 1, 1)];
      let s : State := modChan 3 (fun x => { x with state := .removing }) chanUp; decide ((chan c s).state = .removing) && beginsB 0x0114 d s && decide (common true [(0, 3)] .none (coded 0x0114 d) = none) && decide (par d 1 1 < 4) && decide (par d 0 1 = c.val)) &&
    (let c : Fin 64 := 3;
      let d : Desc := cmd 0 (buffer 80 [(0, 1, 3)]);
      let s : State := modChan 3 (fun x => { x with state := .removing }) chanUp; decide ((chan c s).state = .removing) && beginsB 0x0110 d s && decide (checkBuffer false (coded 0x0110 d) = none) && decide (dat d 0 1 = c.val))) = true := by decide +kernel

theorem witness_BootVoltage : (
    (let x : Straps := { mode := 1, bootv := 7, devid := 15, twinSel := true };
      let s : State := { up with sys := { up.sys with vauxValid := false, coreUp := false } }; decide (s.sys.vauxValid = false) && decide (x.mode.toNat < 2)) &&
    (let x : Straps := { mode := 0, bootv := 0, devid := 0, twinSel := false };
      let s : State := { up with sys := { up.sys with vauxValid := false } }; decide (s.sys.vauxValid = false) && decide (x.mode.toNat < 2))) = true := by decide +kernel

theorem witness_FaultTickGrid : (
    (let e : FaultEvt := { src := 0, obj := 0xFFFF, detail := 0 };
      let s : State := up; decide (s.sys.coreUp = true) && decide (allocated e.src.val = true)) &&
    (let e : FaultEvt := { src := 0, obj := 0xFFFF, detail := 0 };
      let s : State := { up with now := 31 }; decide (s.sys.coreUp = true) && decide (allocated e.src.val = true))) = true := by decide +kernel

theorem witness_NopAnswers : (
    (let d : Desc := cmd 0 [];
      let s : State := up; beginsB 0x0000 d s && decide (d.flags.toNat < 8) && decide (d.flags.getLsbD 1 = false) && decide (d.params = 0) && decide (d.dataLen = 0)) &&
    (let d : Desc := { cmd 0 [] with flags := 1 };
      let s : State := up; beginsB 0x0000 d s && decide (d.flags.toNat < 8) && decide (d.flags.getLsbD 1 = false) && decide (d.params = 0) && decide (d.dataLen = 0)) &&
    (let d : Desc := { cmd 0 [] with flags := 5, timeoutMs := 0xFFFF };
      let s : State := up; beginsB 0x0000 d s && decide (d.flags.toNat < 8) && decide (d.flags.getLsbD 1 = false) && decide (d.params = 0) && decide (d.dataLen = 0)) &&
    (let d : Desc := cmdP [(39, 1, 128)];
      let s : State := up; beginsB 0x0000 d s && decide (d.flags.toNat < 8) && decide (d.flags.getLsbD 1 = false) && decide (d.params ≠ 0)) &&
    (let d : Desc := cmdP [(0, 1, 1)];
      let s : State := up; beginsB 0x0000 d s && decide (d.flags.toNat < 8) && decide (d.flags.getLsbD 1 = false) && decide (d.params ≠ 0))) = true := by decide +kernel

theorem witness_StreamSettings : (
    (let d : Desc := cmd (fieldsNat [(0, 1, 0x81), (1, 1, 3)]) (buffer 32 [(0, 8, 2110000000), (8, 8, 1920000000), (24, 8, 0xFFFFFFFFFFFF)]);
      let s : State := up; passesB 0x0102 checkStreamConfigure d s) &&
    (let d : Desc := cmdP [(0, 1, 1), (1, 1, 255)];
      let s : State := up; passesB 0x0102 checkStreamConfigure d s) &&
    (let d : Desc := cmdP [(0, 1, 7), (1, 1, 1), (2, 2, 0x10000 - 1200), (4, 2, 1000)];
      let s : State := up; passesB 0x0120 checkPeakLimitSet d s) &&
    (let d : Desc := cmdP [(0, 1, 0), (2, 2, 0), (4, 2, 1)];
      let s : State := up; passesB 0x0120 checkPeakLimitSet d s)) = true := by decide +kernel

theorem witness_ProtectionSettings : (
    (let d : Desc := cmdP [(0, 1, 3), (1, 1, 1), (2, 2, 20), (4, 2, 10000), (6, 2, 2000)];
      let s : State := chanUp; decide (¬ (par d 1 1 = 0 ∧ s.hr.rules.donorMandatory = true)) && passesB 0x0305 checkDonorLossConfigure d s) &&
    (let d : Desc := cmdP [(0, 1, 255), (1, 1, 1), (2, 2, 200), (4, 2, 100), (6, 2, 300)];
      let s : State := chanUp; decide (¬ (par d 1 1 = 0 ∧ s.hr.rules.donorMandatory = true)) && passesB 0x0305 checkDonorLossConfigure d s) &&
    (let d : Desc := cmdP [(0, 1, 255), (1, 1, 1), (2, 2, 200), (4, 2, 100), (6, 2, 300)];
      let s : State := chanUp; decide (¬ (par d 1 1 = 0 ∧ s.hr.rules.donorMandatory = true)) && passesB 0x0305 checkDonorLossConfigure d s) &&
    (let d : Desc := cmdP [(0, 1, 3), (1, 1, 0), (2, 2, 200), (4, 2, 100), (6, 2, 300)];
      let s : State := chanUp; decide (par d 1 1 = 0) && decide (s.hr.rules.donorMandatory = true) && passesB 0x0305 checkDonorLossConfigure d s) &&
    (let d : Desc := cmdP [(0, 1, 0), (1, 1, 3), (2, 1, 1), (4, 2, 0x10000 - 12000), (6, 2, 0x10000 - 2000), (8, 1, 50), (10, 2, 300)];
      let s : State := chanUp; decide (par d 0 1 = 0) && passesB 0x0306 checkThresholdConfigure d s) &&
    (let d : Desc := cmdP [(0, 1, 1), (4, 2, 1000), (6, 2, 3600), (8, 1, 15), (9, 1, 16), (10, 2, 0), (12, 1, 8)];
      let s : State := chanUp; decide (par d 0 1 ≠ 0) && passesB 0x0306 checkThresholdConfigure d s)) = true := by decide +kernel

theorem witness_PlacementSettings : (
    (let d : Desc := cmdP [(0, 1, 1), (1, 1, 30), (2, 1, 16), (3, 1, 0), (4, 2, 256), (6, 2, 65535), (8, 1, 128), (10, 4, 16777216)];
      let s : State := up; passesB 0x0405 checkPlacementPolicySet d s) &&
    (let d : Desc := cmdP [(0, 1, 15), (2, 2, 0x7FFF)];
      let s : State := up; passesB 0x0406 checkSpareSet d s) &&
    (let d : Desc := cmdP [(0, 1, 0), (2, 2, 0)];
      let s : State := up; passesB 0x0406 checkSpareSet d s) &&
    (let d : Desc := cmdP [(0, 2, 255)];
      let s : State := { up with eng := { up.eng with asgs := up.eng.asgs.set 255 { Assignment.reset with used := true, cls := 2, wingMask := 1 } } }; passesB 0x0402 checkAssignmentRelease d s)) = true := by decide +kernel

theorem witness_RadioSettings : (
    (let d : Desc := cmd (fieldsNat [(0, 1, 255)]) (buffer 16 [(0, 1, 4), (1, 1, 1), (2, 1, 3), (8, 8, 7200000000)]);
      let s : State := up; decide (par d 1 1 ≠ 1) && passesB 0x0520 checkLoPlanWrite d s) &&
    (let d : Desc := cmdP [(0, 1, 255), (1, 1, 1)];
      let s : State := up; decide (par d 1 1 = 1) && passesB 0x0520 checkLoPlanWrite d s) &&
    (let d : Desc := cmdP [(0, 1, 47), (1, 1, 6), (2, 1, 7), (3, 1, 1), (4, 2, 0x10000 - 48), (6, 2, 48)];
      let s : State := up; passesB 0x0510 checkFePinConfigure d s) &&
    (let d : Desc := cmdP [(0, 1, 3), (1, 1, 2), (6, 1, 3)];
      let s : State := up; passesB 0x0511 checkSerialQueueLoad d s) &&
    (let d : Desc := cmd (fieldsNat [(0, 1, 3), (1, 1, 0), (2, 2, 1)]) (buffer 16 [(0, 4, 100), (5, 1, 0), (7, 1, 8), (8, 1, 0xA5)]);
      let s : State := up; passesB 0x0511 checkSerialQueueLoad d s) &&
    (let d : Desc := cmdP [(0, 1, 0), (1, 1, 100)];
      let s : State := up; decide (par d 0 1 = 0) && passesB 0x0540 checkSurveyConfigure d s) &&
    (let d : Desc := cmd (fieldsNat [(0, 1, 1), (1, 1, 1), (2, 2, 1)]) (buffer 8 [(0, 2, 255), (2, 2, 1000)]);
      let s : State := { up with radio := { up.radio with plans := upd up.radio.plans 255 (fun _ => { LoPlan.reset with used := true, synth := 4, freq := 700000000 }) } }; decide (par d 0 1 = 1) && passesB 0x0540 checkSurveyConfigure d s) &&
    (let d : Desc := cmdP [(0, 1, 1), (1, 1, 1), (2, 1, 3), (4, 2, 1000), (6, 2, 1), (8, 8, 5), (16, 8, 5), (24, 1, 100)];
      let s : State := up; passesB 0x0550 checkCoexConfigure d s)) = true := by decide +kernel

theorem witness_LoopSettings : (
    (let d : Desc := cmdP [(0, 2, 191), (2, 1, 0), (3, 1, 1), (4, 1, 3), (8, 2, 24), (10, 1, 0), (12, 2, 0x8000), (11, 1, 7), (14, 2, 15), (16, 1, 3), (17, 1, 160), (20, 2, 5), (22, 2, 5)];
      let s : State := up;
      let l : Nat := 191; decide (par d 0 2 = l) && decide (l < 192) && decide (par d 2 1 = 0) && passesB 0x0600 checkLoopConfigure d s) &&
    (let d : Desc := cmdP [(0, 2, 191), (2, 1, 1)];
      let s : State := modLoop 191 (fun x => { x with defined := true, running := true, slots := x.slots.set 0 { LoopSlot.reset with defined := true } }) up;
      let l : Nat := 191; decide (par d 0 2 = l) && decide (l < 192) && decide (par d 2 1 = 1) && decide ((loop l s).running = true) && passesB 0x0600 checkLoopConfigure d s) &&
    (let d : Desc := cmdP [(0, 2, 191), (2, 1, 1)];
      let s : State := modLoop 191 (fun x => { x with defined := true, slots := x.slots.set 0 { LoopSlot.reset with defined := true } }) up;
      let l : Nat := 191; decide (par d 0 2 = l) && decide (l < 192) && decide (par d 2 1 = 1) && decide ((loop l s).running = false) && passesB 0x0600 checkLoopConfigure d s) &&
    (let d : Desc := cmdP [(0, 2, 191), (2, 1, 2)];
      let s : State := modLoop 191 (fun x => { x with defined := true, running := true, swapPending := true, slots := x.slots.set 0 { LoopSlot.reset with defined := true } }) up;
      let l : Nat := 191; decide (par d 0 2 = l) && decide (l < 192) && decide (par d 2 1 = 2) && decide ((loop l s).running = true) && decide ((loop l s).swapPending = true) && passesB 0x0600 checkLoopConfigure d s) &&
    (let d : Desc := cmdP [(0, 2, 191), (2, 1, 2)];
      let s : State := modLoop 191 (fun x => { x with defined := true, running := true, slots := x.slots.set 0 { LoopSlot.reset with defined := true } }) up;
      let l : Nat := 191; decide (par d 0 2 = l) && decide (l < 192) && decide (par d 2 1 = 2) && decide (((loop l s).running && (loop l s).swapPending) = false) && passesB 0x0600 checkLoopConfigure d s) &&
    (let d : Desc := cmdP [(0, 2, 191), (2, 1, 3)];
      let s : State := modLoop 191 (fun x => { x with defined := true, running := true }) up;
      let l : Nat := 191; decide (par d 0 2 = l) && decide (l < 192) && decide (par d 2 1 = 3) && passesB 0x0600 checkLoopConfigure d s) &&
    (let d : Desc := cmdP [(0, 2, 136), (2, 1, 4), (20, 2, 1), (22, 2, 1)];
      let s : State := up;
      let l : Nat := 136; decide (par d 0 2 = l) && decide (l < 192) && decide (4 ≤ par d 2 1) && passesB 0x0600 checkLoopConfigure d s) &&
    (let d : Desc := cmdP [(0, 2, 191), (2, 1, 3), (3, 1, 2), (8, 2, 0x8000), (10, 2, 0x7FFF), (12, 2, 5), (14, 2, 8), (16, 2, 77)];
      let s : State := up;
      let l : Nat := 191; decide (par d 0 2 = l) && decide (l < 192) && passesB 0x0601 checkLoopCoeffLoad d s) &&
    (let d : Desc := cmdP [(0, 2, 191), (2, 1, 0), (3, 1, 5), (8, 2, 0x8000), (10, 2, 0x7FFF), (12, 2, 5), (14, 2, 8)];
      let s : State := up;
      let l : Nat := 191; decide (par d 0 2 = l) && decide (l < 192) && passesB 0x0601 checkLoopCoeffLoad d s) &&
    (let d : Desc := cmdP [(0, 2, 191), (2, 1, 0), (3, 1, 0), (8, 2, 0x8000), (10, 2, 0x7FFF), (12, 2, 5)];
      let s : State := modLoop 191 (fun x => { x with defined := true, running := true, slots := x.slots.set 0 { LoopSlot.reset with defined := true } }) up;
      let l : Nat := 191; decide (par d 0 2 = l) && decide (l < 192) && passesB 0x0601 checkLoopCoeffLoad d s) &&
    (let d : Desc := cmdP [(0, 2, 191)];
      let s : State := modLoop 191 (fun x => { x with defined := true, running := true, slots := x.slots.set 0 { LoopSlot.reset with defined := true } }) up;
      let l : Nat := 191; decide (par d 0 2 = l) && decide (l < 192) && decide ((loop l s).running = true) && passesB 0x0602 checkLoopSwap d s) &&
    (let d : Desc := cmdP [(0, 2, 191)];
      let s : State := modLoop 191 (fun x => { x with defined := true, slots := x.slots.set 0 { LoopSlot.reset with defined := true } }) up;
      let l : Nat := 191; decide (par d 0 2 = l) && decide (l < 192) && decide ((loop l s).running = false) && passesB 0x0602 checkLoopSwap d s) &&
    (let d : Desc := cmdP [(0, 2, 191), (2, 1, 3), (3, 1, 0), (4, 2, 0x7FFF), (6, 2, 0x7FFF)];
      let s : State := modLoop 191 (fun x => { x with defined := true, running := true, slots := (x.slots.set 0 { LoopSlot.reset with defined := true }).set 3 { LoopSlot.reset with defined := true } }) up;
      let l : Nat := 191; decide (par d 0 2 = l) && decide (l < 192) && passesB 0x0603 checkLoopModeSet d s) &&
    (let d : Desc := cmdP [(0, 2, 191), (2, 1, 0), (4, 2, 1), (14, 2, 24)];
      let s : State := modLoop 191 (fun x => { x with defined := true, tick := 3, arg := 24, slots := x.slots.set 0 { LoopSlot.reset with defined := true, template := 5 } }) up;
      let l : Nat := 191; decide (par d 0 2 = l) && decide (l < 192) && passesB 0x0605 checkRepetitiveConfigure d s) &&
    (let d : Desc := cmdP [(0, 2, 191)];
      let s : State := modLoop 191 (fun x => { x with defined := true, running := true, slots := x.slots.set 0 { LoopSlot.reset with defined := true, template := 5 } }) up;
      let l : Nat := 191; decide (par d 0 2 = l) && decide (l < 192) && passesB 0x0606 checkRepetitiveReset d s)) = true := by decide +kernel

theorem witness_RailCommands : (
    (let d : Desc := cmd (fieldsNat [(0, 1, 9), (1, 1, 1)]) (buffer 48 [(0, 1, 9), (1, 1, 255), (4, 2, 160), (6, 2, 1000), (10, 2, 1), (12, 2, 50), (14, 2, 20), (16, 2, 1), (18, 1, 150), (19, 1, 90), (20, 2, 10), (22, 2, 10), (24, 2, 200), (26, 1, 50), (27, 1, 30), (28, 1, 150), (29, 1, 100), (30, 2, 1200), (34, 1, 10), (35, 1, 2), (36, 2, 1), (38, 2, 1200), (40, 4, 1000)]);
      let s : State := up;
      let n : Fin 10 := 9; decide (Fin.ofNat 10 (par d 0 1) = n) && decide (n ≠ 0) && passesB 0x0700 checkRailConfigure d s) &&
    (let d : Desc := cmd (fieldsNat [(0, 1, 1), (1, 1, 16)]) (buffer 48 [(0, 1, 1), (1, 1, 255), (2, 2, 0x30), (4, 2, 2000), (6, 2, 60000), (10, 2, 1), (12, 2, 50), (14, 2, 20), (16, 2, 1), (18, 1, 150), (19, 1, 90), (20, 2, 10), (22, 2, 10), (24, 2, 200), (26, 1, 50), (27, 1, 30), (28, 1, 150), (29, 1, 100), (30, 2, 1200), (34, 1, 10), (35, 1, 2), (36, 2, 1), (38, 2, 0), (40, 4, 1000)]);
      let s : State := up;
      let n : Fin 10 := 1; decide (Fin.ofNat 10 (par d 0 1) = n) && decide (n ≠ 0) && passesB 0x0700 checkRailConfigure d s) &&
    (let d : Desc := cmd (fieldsNat [(0, 1, 0), (1, 1, 1)]) (buffer 48 [(0, 1, 0), (1, 1, 255), (4, 2, 160), (6, 2, 1000), (10, 2, 1), (12, 2, 50), (14, 2, 20), (16, 2, 1), (18, 1, 150), (19, 1, 90), (20, 2, 10), (22, 2, 10), (24, 2, 200), (26, 1, 50), (27, 1, 30), (28, 1, 150), (29, 1, 100), (30, 2, 1200), (34, 1, 10), (35, 1, 2), (36, 2, 1), (38, 2, 800), (40, 4, 1000)]);
      let s : State := up;
      let n : Fin 10 := 0; decide (Fin.ofNat 10 (par d 0 1) = n) && decide (n = 0) && passesB 0x0700 checkRailConfigure d s) &&
    (let d : Desc := cmdP [(0, 1, 0), (2, 2, 620), (4, 2, 10000)];
      let s : State := up;
      let n : Fin 10 := 0; decide (Fin.ofNat 10 (par d 0 1) = n) && passesB 0x0701 checkRailSetVoltage d s) &&
    (let d : Desc := cmdP [(0, 1, 9)];
      let s : State := modRail 9 (fun x => { x with state := .off }) up;
      let n : Fin 10 := 9; decide (Fin.ofNat 10 (par d 0 1) = n) && decide ((rail n s).state = .off) && passesB 0x0702 checkRailStart d s) &&
    (let d : Desc := cmdP [(0, 1, 9)];
      let s : State := modRail 9 (fun x => { x with state := .regulating }) up;
      let n : Fin 10 := 9; decide (Fin.ofNat 10 (par d 0 1) = n) && passesB 0x0703 checkRailStop d s) &&
    (let d : Desc := cmdP [(0, 1, 9), (1, 1, 8), (2, 1, 2)];
      let s : State := up;
      let n : Fin 10 := 9; decide (Fin.ofNat 10 (par d 0 1) = n) && passesB 0x0705 checkTrackingSet d s) &&
    (let d : Desc := cmdP [(0, 1, 9), (1, 1, 8), (2, 1, 1), (4, 2, 0x8000)];
      let s : State := up;
      let n : Fin 10 := 9; decide (Fin.ofNat 10 (par d 0 1) = n) && passesB 0x0705 checkTrackingSet d s) &&
    (let d : Desc := cmdP [(0, 1, 9), (1, 1, 9), (2, 1, 0)];
      let s : State := up;
      let n : Fin 10 := 9; decide (Fin.ofNat 10 (par d 0 1) = n) && passesB 0x0705 checkTrackingSet d s) &&
    (let d : Desc := cmdP [(0, 1, 0), (1, 1, 1), (2, 2, 620), (4, 2, 800), (6, 1, 20), (7, 1, 1), (8, 2, 50)];
      let s : State := up;
      let n : Fin 10 := 0; decide (Fin.ofNat 10 (par d 0 1) = n) && passesB 0x0706 checkCoreAvsConfigure d s)) = true := by decide +kernel

theorem witness_ThermalAndFaultSettings : (
    (let d : Desc := cmdP [(0, 1, 0), (1, 1, 23), (2, 2, 6400), (4, 2, 6400), (6, 2, 7680), (8, 2, 1000), (10, 2, 2000), (12, 1, 40), (13, 1, 64), (14, 2, 1000), (16, 2, 200)];
      let s : State := up; passesB 0x0800 checkThermalConfigure d s) &&
    (let d : Desc := cmdP [(0, 1, 1), (1, 1, 255), (2, 2, 3000), (4, 2, 3000), (6, 2, 3840), (8, 2, 10), (10, 2, 0), (12, 1, 4), (13, 1, 1)];
      let s : State := up; passesB 0x0800 checkThermalConfigure d s) &&
    (let d : Desc := cmdP [(0, 1, 7), (1, 1, 255), (4, 4, 0xFFFFFFFF), (8, 2, 10000), (12, 4, 1)];
      let s : State := up; passesB 0x0802 checkSensorMapSet d s) &&
    (let d : Desc := cmdP [(0, 2, 0), (2, 1, 64), (3, 1, 0), (4, 1, 3)];
      let s : State := up; decide (par d 0 2 < 512) && passesB 0x0901 checkReactionSet d s) &&
    (let d : Desc := cmdP [(0, 2, 387)];
      let s : State := up; decide (par d 0 2 < 512) && passesB 0x0901 checkReactionSet d s) &&
    (let d : Desc := cmdP [(0, 2, 480)];
      let s : State := modFault 480 (fun x => { x with state := .parked }) up; decide (par d 0 2 ≠ 0xFFFF) && decide (par d 0 2 < 512) && passesB 0x0902 checkFaultRelease d s) &&
    (let d : Desc := cmdP [(0, 2, 256), (2, 1, 3), (3, 1, 1), (4, 1, 255), (8, 4, 1), (12, 4, 86400000), (16, 4, 100), (20, 1, 8)];
      let s : State := up; decide (par d 0 2 < 512) && passesB 0x0903 checkFaultParamsSet d s)) = true := by decide +kernel

theorem witness_GuestbookCommands : (
    (let d : Desc := cmd 0 [];
      let s : State := up; passesB 0x0A02 checkClearChallenge d s) &&
    (let d : Desc := cmd 0 [];
      let s : State := { up with slowTicks := 60000, gb := { up.gb with lastAuthFailTick := some 0 } }; passesB 0x0A02 checkClearChallenge d s) &&
    (let d : Desc := cmd 0 (buffer 128 [(0, 4, 0x4C434247), (4, 2, 1), (6, 1, 4)]);
      let r : Running := someRun 0x0A00 0 .none;
      let s : State := modGb (fun g => { g with ready := true }) up;
      let e := 0x0A04;
      let b := false; passesB 0x0A03 (fun r s => firstOf [common false [] .own r.desc, hostRead r.desc, refuseIf (!s.gb.ready) (badState 0x0A0A)]) d s && decide (clearChecks (coded 0x0A03 d) (stepping 0x0A03 d s) = (some (.authFailed, e), b))) &&
    (let d : Desc := cmdP [(0, 1, 8), (1, 1, 2), (2, 2, 0x8000), (4, 1, 32), (8, 32, 5)];
      let s : State := up; passesB 0x0A04 checkGbAppend d s) &&
    (let d : Desc := cmdP [(0, 1, 1), (1, 1, 0), (2, 2, 0xFFFF)];
      let s : State := up; passesB 0x0A04 checkGbAppend d s) &&
    (let d : Desc := cmdP [(0, 4, 0xFFFFFFFF)];
      let s : State := up; passesB 0x0A05 checkWallClockSet d s) &&
    (let d : Desc := cmdP [(0, 4, 5)];
      let s : State := { up with opBase := 1000000, gb := { up.gb with wallSetUs := some 0, wallSeconds := 7, wallValid := true } }; passesB 0x0A05 checkWallClockSet d s) &&
    (let d : Desc := cmdP [(0, 1, 1)];
      let s : State := up; passesB 0x0015 checkConfigSave d s) &&
    (let d : Desc := cmd 0 (buffer 512 []);
      let s : State := withGb (fun g => { g with ready := true }); passesB 0x0A00 checkGbRead d s) &&
    (let q : Fin 20 := 0;
      let r : Running := { someRun 0x0A00 0 .none with phase := 1, aux := [0, 0, 0, 0] };
      let s : State := modSource 0 (fun v => { v with running := some { someRun 0x0A00 0 .none with phase := 1, aux := [0, 0, 0, 0] } }) up; decide (s.sys.coreUp = true) && decide (chosen s = some q.val) && decide ((source q.val s).running = some r) && decide (r.desc.opcode = 0x0A00) && decide (r.phase = 1) && decide (r.wait = .none) && decide (r.steps ≠ 0) && decide (expired r s = false)) &&
    (let q : Fin 20 := 0;
      let r : Running := { someRun 0x0A00 0 .none with phase := 1, aux := [0, 1, 0, 0], desc := { cmd 0 (buffer 512 []) with opcode := 0x0A00 } };
      let s : State := modSource 0 (fun v => { v with running := some { someRun 0x0A00 0 .none with phase := 1, aux := [0, 1, 0, 0], desc := { cmd 0 (buffer 512 []) with opcode := 0x0A00 } } }) (withGb (fun g => { g with ready := true, flash := [{ entry := (aTail false).entry, sector := 0 }] })); decide (s.sys.coreUp = true) && decide (chosen s = some q.val) && decide ((source q.val s).running = some r) && decide (r.desc.opcode = 0x0A00) && decide (r.phase = 1) && decide (r.wait = .none) && decide (r.steps ≠ 0) && decide (expired r s = false))) = true := by decide +kernel

theorem witness_HouseRulesCommands : (
    (let d : Desc := cmd 0 [];
      let s : State := up; passesB 0x0B01 checkAmendChallenge d s) &&
    (let d : Desc := cmd 0 someImage;
      let s : State := up;
      let b := false;
      let k := 0; beginsB 0x0B02 d s && decide (checkAmendBuffer (coded 0x0B02 d) = none) && decide (amendChecks (coded 0x0B02 d) (stepping 0x0B02 d s) = (none, b)) && decide (nextSlot s = some k)) &&
    (let d : Desc := cmd 0 [];
      let s : State := up;
      let e := (.rejectedParam, 0x0B03);
      let b := false; beginsB 0x0B02 d s && decide (checkAmendBuffer (coded 0x0B02 d) = none) && decide (amendChecks (coded 0x0B02 d) (stepping 0x0B02 d s) = (some e, b))) &&
    (let d : Desc := cmd 0 someImage;
      let s : State := { up with hr := { up.hr with used := 31 } };
      let e := (.rejectedState, 0x0B02);
      let b := false; beginsB 0x0B02 d s && decide (checkAmendBuffer (coded 0x0B02 d) = none) && decide (amendChecks (coded 0x0B02 d) (stepping 0x0B02 d s) = (some e, b))) &&
    (let d : Desc := cmd 0 someImage;
      let s : State := { up with hr := { up.hr with locked := true, rules := { up.hr.rules with keysEnrolled := 1 } } };
      let e := (.authFailed, 0x0B06);
      let b := false; beginsB 0x0B02 d s && decide (checkAmendBuffer (coded 0x0B02 d) = none) && decide (amendChecks (coded 0x0B02 d) (stepping 0x0B02 d s) = (some e, b)))) = true := by decide +kernel

theorem witness_PatchAndLodgerCommands : (
    (let d : Desc := cmd (fieldsNat [(0, 1, 1)]) someLodger;
      let s : State := up; passesB 0x0B11 checkLodgerLoad d s) &&
    (let d : Desc := cmd 0 someLodger;
      let s : State := modLodger 3 (fun x => { x with state := .stopped, retained := [(5, 7)] }) up; passesB 0x0B11 checkLodgerLoad d s) &&
    (let q : Fin 20 := 0;
      let r : Running := { someRun 0x0B11 0 .none with phase := 1, desc := { cmd 1 someLodger with opcode := 0x0B11 } };
      let s : State := modSource 0 (fun v => { v with running := some { someRun 0x0B11 0 .none with phase := 1, desc := { cmd 1 someLodger with opcode := 0x0B11 } } }) up; decide (s.sys.coreUp = true) && decide (chosen s = some q.val) && decide ((source q.val s).running = some r) && decide (r.desc.opcode = 0x0B11) && decide (r.phase = 1) && decide (r.wait = .none) && decide (r.steps ≠ 0) && decide (expired r s = false) && decide (checkLodgerLoad r s = none)) &&
    (let d : Desc := cmdP [(0, 1, 3)];
      let s : State := { modLodger 3 (fun x => { x with state := .stopped, watchdogMs := 10 }) up with slowTicks := 9 }; passesB 0x0B12 checkLodgerStart d s) &&
    (let d : Desc := cmdP [(0, 1, 0)];
      let s : State := deskUp; passesB 0x0B13 checkLodgerStop d s)) = true := by decide +kernel

theorem witness_DeskCalls : (
    (let d : Desc := deskP [(0, 2, 511), (2, 2, 0xFFFF), (8, 8, 9)] [];
      let s : State := deskUp; passesB 0xD000 checkDeskFaultEvent d s) &&
    (let d : Desc := deskP [(0, 4, 60000)] [];
      let s : State := deskUp; passesB 0xD001 checkDeskWatchdog d s) &&
    (let d : Desc := deskP [(0, 4, 0)] [];
      let s : State := deskUp; passesB 0xD001 checkDeskWatchdog d s) &&
    (let d : Desc := deskP [(8, 16, 1000)] [];
      let s : State := deskUp; passesB 0xD002 checkDeskHostMessage d s) &&
    (let d : Desc := deskP [(0, 1, 1), (4, 2, 4095), (6, 2, 1)] (buffer 8 [(0, 1, 200)]);
      let s : State := deskUp; decide (par d 0 1 = 1) && passesB 0xD003 checkDeskRetain d s) &&
    (let d : Desc := deskP [(0, 1, 1), (4, 2, 0), (6, 2, 8)] (buffer 8 [(0, 8, 0x100)]);
      let s : State := deskUp; decide (par d 0 1 = 1) && passesB 0xD003 checkDeskRetain d s) &&
    (let d : Desc := deskP [(0, 1, 0), (4, 2, 4095), (6, 2, 1)] (buffer 8 []);
      let s : State := modLodger 0 (fun x => { x with retained := [(4095, 7)] }) deskUp; decide (par d 0 1 ≠ 1) && passesB 0xD003 checkDeskRetain d s) &&
    (let d : Desc := { deskP [] [] with opcode := 0x0014 };
      let s : State := deskUp; grantedB d.opcode.toNat d s && decide (startRefusal (coded d.opcode.toNat d) s = some (.rejectedState, 0x0B0E))) &&
    (let d : Desc := { deskP [] [] with opcode := 0x0D00, ring := 19 };
      let s : State := modLodger 3 (fun x => { x with state := .running }) up; grantedB d.opcode.toNat d s && decide (startRefusal (coded d.opcode.toNat d) s = some (.rejectedState, 0x0B0E)))) = true := by decide +kernel

theorem witness_PowerCommands : (
    (let d : Desc := cmdP [(0, 4, 0xA55A)];
      let s : State := up; passesB 0x0014 checkDeviceReset d s) &&
    (let d : Desc := cmd 0 [];
      let s : State := up; decide (s.sys.power ≠ .stopped) && decide (s.sys.power ≠ .sleep) && passesB 0x0012 checkOrderlyStop d s) &&
    (let d : Desc := cmd 0 [];
      let s : State := chanUp; decide (s.sys.power ≠ .stopped) && decide (s.sys.power ≠ .sleep) && passesB 0x0012 checkOrderlyStop d s) &&
    (let d : Desc := cmd 0 [];
      let s : State := { modRail 1 (fun x => { x with state := .regulating }) chanUp with sys := { up.sys with power := .quiet } }; decide (s.sys.power ≠ .stopped) && decide (s.sys.power ≠ .sleep) && passesB 0x0012 checkOrderlyStop d s) &&
    (let d : Desc := cmd 0 [];
      let s : State := { up with sys := { up.sys with power := .starting } }; decide (s.sys.power ≠ .stopped) && decide (s.sys.power ≠ .sleep) && passesB 0x0012 checkOrderlyStop d s) &&
    (let d : Desc := cmd 0 [];
      let s : State := { up with sys := { up.sys with power := .stopped, stopReason := 4 } }; decide (s.sys.power = .stopped) && passesB 0x0012 checkOrderlyStop d s) &&
    (let d : Desc := cmd 0 [];
      let s : State := { up with sys := { up.sys with power := .stopped, stopReason := 1 } }; decide ((∀ r : Fin 10, s.sys.stoppedRails.getLsbD r.val = true → (rail r s).state = .regulating)) && passesB 0x0013 checkRestart d s) &&
    (let d : Desc := cmd 0 [];
      let s : State := { up with thermal := { up.thermal with below := 60000 }, sys := { up.sys with power := .stopped, stopReason := 4, stoppedRails := 1 } }; decide ((∀ r : Fin 10, s.sys.stoppedRails.getLsbD r.val = true → (rail r s).state = .regulating)) && passesB 0x0013 checkRestart d s) &&
    (let d : Desc := cmd 0 [];
      let s : State := { modRail 9 (fun x => { x with state := .off }) up with sys := { up.sys with power := .stopped, stopReason := 1, stoppedRails := 0x200 } }; decide ((∃ r : Fin 10, s.sys.stoppedRails.getLsbD r.val = true ∧ (rail r s).state ≠ .regulating)) && passesB 0x0013 checkRestart d s) &&
    (let d : Desc := cmdP [(0, 1, 0xFE), (4, 2, 10), (6, 2, 3600)];
      let s : State := up; decide (par d 0 1 = 0xFE) && passesB 0x0011 checkPowerStateSet d s) &&
    (let d : Desc := cmdP [(0, 1, 0xFE)];
      let s : State := up; decide (par d 0 1 = 0xFE) && passesB 0x0011 checkPowerStateSet d s) &&
    (let d : Desc := cmdP [(0, 1, 1), (4, 2, 65535)];
      let s : State := { up with sys := { up.sys with power := .quiet } }; decide (par d 0 1 = 1) && decide (s.sys.power = .quiet) && passesB 0x0011 checkPowerStateSet d s) &&
    (let d : Desc := cmdP [(0, 1, 2)];
      let s : State := up; decide (par d 0 1 = 2) && decide (s.sys.power = .active) && passesB 0x0011 checkPowerStateSet d s) &&
    (let d : Desc := cmdP [(0, 1, 4)];
      let s : State := { up with hr := { up.hr with rules := { up.hr.rules with sleepPermitted := true } } }; decide (par d 0 1 = 4) && passesB 0x0011 checkPowerStateSet d s) &&
    (let d : Desc := cmdP [(0, 1, 4)];
      let s : State := { chanUp with hr := { up.hr with rules := { up.hr.rules with sleepPermitted := true } } }; decide (par d 0 1 = 4) && passesB 0x0011 checkPowerStateSet d s)) = true := by decide +kernel

theorem witness_ChannelCommands : (
    (let d : Desc := cmd 0 (defBuffer 63 0 1);
      let s : State := linked; decide (definitionPeers (definitionOf d) s = []) && passesB 0x0110 checkChannelCreate d s) &&
    (let d : Desc := cmd 0 ((defBuffer 3 0 1).set 67 1 |>.set 69 1);
      let s : State := reaching linked; decide (definitionPeers (definitionOf d) s ≠ []) && passesB 0x0110 checkChannelCreate d s) &&
    (let d : Desc := cmd 0 (buffer 80 [(0, 1, 3), (1, 1, 2), (2, 1, 0), (3, 1, 0xFF), (4, 1, 1), (5, 1, 1), (6, 1, 1), (7, 1, 1), (8, 8, 2110000000), (16, 8, 1920000000), (32, 2, 0x10000 - 100), (48, 2, 0x10000 - 100), (64, 2, 1), (66, 4, 0xFFFFFFFF)]);
      let s : State := chanRich; decide (changedDirs (modifiedDefinition d (wantedDefinition (chanOf (dat d 0 1)) s)) (wantedDefinition (chanOf (dat d 0 1)) s) = []) && passesB 0x0111 checkChannelModify d s) &&
    (let d : Desc := cmd 0 (buffer 80 [(0, 1, 3), (1, 1, 2), (2, 1, 0), (3, 1, 0xFF), (4, 1, 1), (5, 1, 1), (6, 1, 1), (7, 1, 1), (8, 8, 2115000000), (16, 8, 1920000000), (32, 2, 0x10000 - 100), (48, 2, 0x10000 - 100), (64, 2, 1), (66, 4, 0xFFFFFFFF)]);
      let s : State := chanRich;
      let e : Dir := .dl; decide (e ∈ changedDirs (modifiedDefinition d (wantedDefinition (chanOf (dat d 0 1)) s)) (wantedDefinition (chanOf (dat d 0 1)) s)) && passesB 0x0111 checkChannelModify d s) &&
    (let d : Desc := cmd 0 (buffer 80 [(0, 1, 3), (1, 1, 2), (2, 1, 0), (3, 1, 0xFF), (4, 1, 1), (5, 1, 1), (6, 1, 1), (7, 1, 1), (8, 8, 2115000000), (16, 8, 1920000000), (32, 2, 0x10000 - 100), (48, 2, 0x10000 - 200), (64, 2, 1), (66, 4, 0xFFFFFFFF)]);
      let s : State := chanRich;
      let e : Dir := .ul; decide (e ∈ changedDirs (modifiedDefinition d (wantedDefinition (chanOf (dat d 0 1)) s)) (wantedDefinition (chanOf (dat d 0 1)) s)) && passesB 0x0111 checkChannelModify d s) &&
    (let d : Desc := cmdP [(0, 1, 3)];
      let s : State := chanUp; decide ((transmitsHere (chanOf (par d 0 1)) s || (channelPeers (chanOf (par d 0 1)) s).any (fun a => routeKnown a s)) = true) && passesB 0x0112 checkChannelRemove d s) &&
    (let d : Desc := cmdP [(0, 1, 3)];
      let s : State := reaching (modChan 3 (fun x => { x with defn := { someDef with dl := { someDef.dl with txDevice := 1 }, ul := { someDef.ul with txDevice := 1 } } }) chanUp); decide ((transmitsHere (chanOf (par d 0 1)) s || (channelPeers (chanOf (par d 0 1)) s).any (fun a => routeKnown a s)) = true) && passesB 0x0112 checkChannelRemove d s) &&
    (let d : Desc := cmdP [(0, 1, 3)];
      let s : State := modChan 3 (fun x => { x with defn := { someDef with dl := { someDef.dl with txDevice := 1 }, ul := { someDef.ul with txDevice := 1 } } }) chanUp; decide ((transmitsHere (chanOf (par d 0 1)) s || (channelPeers (chanOf (par d 0 1)) s).any (fun a => routeKnown a s)) = false) && passesB 0x0112 checkChannelRemove d s) &&
    (let d : Desc := cmdP [(0, 1, 3), (1, 1, 0), (2, 1, 1)];
      let s : State := chanUp; decide (muteDirs d s = []) && passesB 0x0114 checkChannelMute d s) &&
    (let d : Desc := cmdP [(0, 1, 3), (1, 1, 3), (2, 1, 1)];
      let s : State := chanUp;
      let e : Dir := .dl; decide (e ∈ muteDirs d s) && passesB 0x0114 checkChannelMute d s) &&
    (let d : Desc := cmdP [(0, 1, 3), (1, 1, 3), (2, 1, 1)];
      let s : State := chanUp;
      let e : Dir := .ul; decide (e ∈ muteDirs d s) && passesB 0x0114 checkChannelMute d s) &&
    (let d : Desc := cmdP [(0, 1, 31), (1, 1, 15), (2, 1, 1)];
      let s : State := linked; passesB 0x0100 checkLinkConfigure d s) &&
    (let d : Desc := cmdP [(0, 1, 0), (1, 1, 0), (2, 1, 0)];
      let s : State := linked; passesB 0x0100 checkLinkConfigure d s)) = true := by decide +kernel

theorem witness_GainCommands : (
    (let d : Desc := cmdP [(0, 1, 3), (2, 2, 0x7FFF), (4, 2, 0x7FFF)];
      let s : State := chanRich;
      let e : Dir := .dl; decide (gainSetChanged d s = []) && decide (gainSetDirs d = [] ∨ (∀ e ∈ gainSetDirs d, (targetField d e : Int) ≤ gateGain (chanOf (par d 0 1)) e (targetField d e) s)) && passesB 0x0300 checkGainSet d s) &&
    (let d : Desc := cmdP [(0, 1, 3), (2, 2, 0), (4, 2, 0x7FFF)];
      let s : State := chanRich;
      let e : Dir := .dl; decide (gainSetChanged d s = []) && decide (gainSetDirs d = [] ∨ (∀ e ∈ gainSetDirs d, (targetField d e : Int) ≤ gateGain (chanOf (par d 0 1)) e (targetField d e) s)) && passesB 0x0300 checkGainSet d s) &&
    (let d : Desc := cmdP [(0, 1, 3), (2, 2, 11000), (4, 2, 0x7FFF)];
      let s : State := chanRich;
      let e : Dir := .dl; decide (e ∈ gainSetChanged d s) && passesB 0x0300 checkGainSet d s) &&
    (let d : Desc := cmdP [(0, 1, 3), (2, 2, 10), (4, 2, 20)];
      let s : State := chanRich;
      let e : Dir := .ul; decide (e ∈ gainSetChanged d s) && passesB 0x0300 checkGainSet d s) &&
    (let d : Desc := cmdP [(0, 1, 3), (1, 1, 1), (2, 1, 0), (4, 2, 0x7FFF), (6, 2, 0x10), (8, 2, 200), (10, 2, 0x7FFF), (12, 2, 6000), (14, 2, 25), (16, 1, 64)];
      let s : State := chanRich;
      let c : Fin 64 := 3;
      let e : Dir := .ul; decide (par d 0 1 = c.val) && decide (dirOf (par d 1 1) = e) && passesB 0x0301 checkAlcConfigure d s) &&
    (let d : Desc := cmdP [(0, 1, 0), (1, 1, 3), (2, 1, 0), (4, 2, 6000), (6, 2, 600)];
      let s : State := chanRich;
      let c : Fin 64 := 3;
      let e : Dir := .dl; decide (par d 0 1 = 0) && decide (par d 1 1 = c.val) && decide (dirOf (par d 2 1) = e) && passesB 0x0302 checkPowerLimitSet d s) &&
    (let d : Desc := cmdP [(0, 1, 0), (1, 1, 3), (2, 1, 1), (4, 2, 0x7FFF), (6, 2, 0x7FFF)];
      let s : State := chanRich;
      let c : Fin 64 := 3;
      let e : Dir := .ul; decide (par d 0 1 = 0) && decide (par d 1 1 = c.val) && decide (dirOf (par d 2 1) = e) && passesB 0x0302 checkPowerLimitSet d s) &&
    (let d : Desc := cmdP [(0, 1, 1), (1, 1, 7), (4, 2, 6000), (6, 2, 8000), (8, 2, 0x7FFF)];
      let s : State := chanRich;
      let p : Fin 8 := 7; decide (par d 0 1 ≠ 0) && decide (par d 1 1 = p.val) && decide (s.hr.locked = false) && decide (par d 4 2 ≠ 0x7FFF) && decide (dirsOnPort p s = []) && passesB 0x0302 checkPowerLimitSet d s) &&
    (let d : Desc := cmdP [(0, 1, 1), (1, 1, 4), (4, 2, 3500), (6, 2, 8000), (8, 2, 0x7FFF)];
      let s : State := chanRich;
      let c : Fin 64 := 3;
      let e : Dir := .dl;
      let p : Fin 8 := 4; decide (par d 0 1 ≠ 0) && decide (par d 1 1 = p.val) && decide (s.hr.locked = false) && decide ((c, e) ∈ dirsOnPort p s) && decide ((par d 4 2 ≠ 0x7FFF ∧ min (parInt d 4 2) s.hr.rules.pCompMax[p] ≠ (portWanted p s).1)) && passesB 0x0302 checkPowerLimitSet d s) &&
    (let d : Desc := cmdP [(0, 1, 1), (1, 1, 7), (4, 2, 6000), (6, 2, 8000), (8, 2, 0x7FFF)];
      let s : State := { chanRich with hr := { chanRich.hr with locked := true } }; decide (par d 0 1 ≠ 0) && decide (s.hr.locked = true) && decide (namesCalibration d = true) && passesB 0x0302 checkPowerLimitSet d s) &&
    (let d : Desc := cmdP [(0, 1, 3), (1, 1, 1), (2, 1, 63), (4, 2, 11000), (6, 2, 400), (8, 2, 0x10000 - 2000), (10, 2, 3000)];
      let s : State := chanRich;
      let c : Fin 64 := 3; decide (par d 0 1 = c.val) && passesB 0x0303 checkUlCouplingSet d s) &&
    (let d : Desc := cmdP [(0, 1, 3), (1, 1, 0), (2, 1, 255), (4, 2, 11000), (6, 2, 400), (8, 2, 0x10000 - 2000), (10, 2, 0x7FFF)];
      let s : State := chanRich;
      let c : Fin 64 := 3; decide (par d 0 1 = c.val) && passesB 0x0303 checkUlCouplingSet d s) &&
    (let d : Desc := cmdP [(0, 1, 3), (1, 1, 1), (2, 2, 2000), (4, 2, 100), (6, 2, 10000), (8, 2, 10)];
      let s : State := chanRich;
      let c : Fin 64 := 3; decide (par d 0 1 = c.val) && passesB 0x0304 checkSquelchConfigure d s)) = true := by decide +kernel

theorem witness_CancellationCommands : (
    (let d : Desc := cmdP [(0, 1, 3), (1, 1, 0), (2, 2, 1), (4, 2, 0), (6, 2, 0x2000), (8, 1, 0), (9, 1, 1), (10, 2, 0), (12, 1, 8), (13, 1, 20), (14, 2, 0x7FFF), (16, 1, 0)];
      let s : State := made;
      let c : Fin 64 := 3;
      let e : Dir := .dl; decide (par d 0 1 = c.val) && decide (dirOf (par d 1 1) = e) && passesB 0x0200 checkCancelConfigure d s) &&
    (let d : Desc := cmdP [(0, 1, 3), (1, 1, 1), (2, 2, 1)];
      let s : State := chanRich;
      let c : Fin 64 := 3;
      let e : Dir := .ul; decide (par d 0 1 = c.val) && decide (dirOf (par d 1 1) = e) && passesB 0x0201 checkCancelReset d s) &&
    (let d : Desc := cmdP [(0, 1, 3), (1, 1, 1), (2, 2, 0x10000 - 4500), (4, 2, 0x10000 - 2000), (6, 1, 17)];
      let s : State := chanRich;
      let c : Fin 64 := 3;
      let e : Dir := .ul; decide (par d 0 1 = c.val) && decide (dirOf (par d 1 1) = e) && passesB 0x0220 checkProbeConfigure d s) &&
    (let d : Desc := cmdP [(0, 1, 3), (1, 1, 1), (2, 2, 600), (4, 2, 1200), (6, 2, 10), (8, 2, 6000), (10, 2, 0x2000), (12, 2, 100), (14, 1, 15), (16, 2, 100), (18, 2, 10000)];
      let s : State := chanRich;
      let c : Fin 64 := 3;
      let e : Dir := .ul; decide (par d 0 1 = c.val) && decide (dirOf (par d 1 1) = e) && passesB 0x0212 checkMarginSet d s) &&
    (let d : Desc := cmdP [(0, 1, 3), (1, 1, 1), (2, 1, 0), (4, 2, 0), (6, 2, 4095)];
      let s : State := chanRich;
      let c : Fin 64 := 3;
      let e : Dir := .ul; decide (par d 0 1 = c.val) && decide (dirOf (par d 1 1) = e) && decide (par d 2 1 = 0) && passesB 0x0210 checkIsolationMeasure d s) &&
    (let d : Desc := cmdP [(0, 1, 3), (1, 1, 1), (2, 1, 0), (4, 2, 0x10000 - 6000), (6, 2, 0)];
      let s : State := chanRich;
      let c : Fin 64 := 3;
      let e : Dir := .ul; decide (par d 0 1 = c.val) && decide (dirOf (par d 1 1) = e) && decide (par d 2 1 = 0) && passesB 0x0210 checkIsolationMeasure d s) &&
    (let d : Desc := cmdP [(0, 1, 3), (1, 1, 1), (2, 1, 1), (4, 2, 0), (6, 2, 0)];
      let s : State := modStab 3 .ul (fun m => { m with state := .track }) chanRich;
      let c : Fin 64 := 3;
      let e : Dir := .ul; decide (par d 0 1 = c.val) && decide (dirOf (par d 1 1) = e) && decide (par d 2 1 ≠ 0) && passesB 0x0210 checkIsolationMeasure d s)) = true := by decide +kernel

theorem witness_CancellationCommandsTwo : (
    (let d : Desc := cmdP [(0, 1, 0), (1, 1, 3), (2, 1, 1), (4, 2, 0x1E)];
      let s : State := modGain 3 .ul (fun g => { g with reasons := 0xFFFFF }) chanRich;
      let k : Nat := 16; decide (k ∈ namedInForce (coded 0x0311 d) s) && decide (par d 0 1 = 0) && decide (lockoutNamed (coded 0x0311 d) s = false) && passesB 0x0311 checkProtectionRelease d s) &&
    (let d : Desc := cmdP [(0, 1, 0), (1, 1, 3), (2, 1, 1), (4, 2, 0x1E)];
      let s : State := modGain 3 .ul (fun g => { g with reasons := 0xFFFFF }) chanRich;
      let k : Nat := 10; decide (k ∈ namedInForce (coded 0x0311 d) s) && decide (par d 0 1 = 0) && decide (lockoutNamed (coded 0x0311 d) s = false) && passesB 0x0311 checkProtectionRelease d s) &&
    (let d : Desc := cmdP [(0, 1, 1), (1, 1, 7), (4, 2, 0x100)];
      let s : State := modPort 7 (fun x => { x with stops := 0x800 }) chanRich;
      let k : Nat := 12; decide (k ∈ namedInForce (coded 0x0311 d) s) && decide (par d 0 1 ≠ 0) && passesB 0x0311 checkProtectionRelease d s)) = true := by decide +kernel

theorem witness_EngineCommands : (
    (let d : Desc := cmd (fieldsNat [(0, 1, 4), (2, 2, 0x8000)]) (buffer 32 [(0, 1, 3), (8, 2, 0xFFFF), (10, 2, 160)]);
      let s : State := chanRich; decide ((planStandalone (chan (chanOf (dat d 0 1)) s).defn.cls (BitVec.ofNat 16 (par d 2 2)) s).toOption.isSome = true) && passesB 0x0400 checkAssignmentCreate d s) &&
    (let d : Desc := cmdP [(0, 2, 6), (2, 1, 3), (3, 1, 2), (4, 2, 0)];
      let s : State := made; decide (par d 0 2 < 128) && decide (par d 3 1 = 2) && passesB 0x0401 checkAssignmentModify d s) &&
    (let d : Desc := cmd (fieldsNat [(0, 2, 255), (2, 1, 4), (3, 1, 0)]) (buffer 32 [(0, 1, 3), (8, 2, 0xFFFF), (10, 2, 160)]);
      let s : State := { made with eng := { made.eng with asgs := made.eng.asgs.set 255 { Assignment.reset with used := true, cls := 2, wingMask := 1, segs := [{ kernel := 4, inst := 0, path := 0, slice := 0, cost := 5, engine := some 3 }] } } }; decide (128 ≤ par d 0 2) && decide (par d 0 2 < 256) && decide (par d 3 1 = 0) && decide (par d 2 1 ≠ 2) && passesB 0x0401 checkAssignmentModify d s) &&
    (let d : Desc := cmdP [(0, 1, 0), (2, 2, 0), (4, 2, 15), (6, 1, 255)];
      let s : State := made;
      let a := (((hosted 0 made).head?.map (·.1)).getD 0);
      let g := ((migrateSegment (coded 0x0403 (cmdP [(0, 1, 0), (2, 2, 0), (4, 2, 15), (6, 1, 255)])) made).map (·.2)).getD { kernel := 0, inst := 0, path := 0, slice := 0, cost := 0, engine := none };
      let e := 15; decide (par d 0 1 = 0) && decide (migrateSegment (coded 0x0403 d) s = some (a, g)) && decide (migrateTarget (coded 0x0403 d) a g s = some e) && passesB 0x0403 checkMigrate d s)) = true := by decide +kernel

theorem witness_RadioCommands : (
    (let d : Desc := cmdP [(0, 1, 2), (1, 1, 4), (4, 2, 0), (8, 4, 0xFFFFFFFF), (12, 4, 307199), (16, 4, 86400), (20, 2, 20), (22, 2, 4096), (24, 1, 0)];
      let s : State := up; decide (par d 24 1 = 0) && passesB 0x0500 checkFrameSyncConfigure d s) &&
    (let d : Desc := cmdP [(16, 4, 1), (20, 2, 10000), (22, 2, 1), (24, 1, 0)];
      let s : State := up; decide (par d 24 1 = 0) && passesB 0x0500 checkFrameSyncConfigure d s) &&
    (let d : Desc := cmdP [(0, 1, 2), (16, 4, 1), (20, 2, 10000), (22, 2, 1), (24, 1, 1)];
      let s : State := up; decide (par d 24 1 = 1) && passesB 0x0500 checkFrameSyncConfigure d s) &&
    (let d : Desc := cmdP [(0, 1, 7), (1, 1, 1)];
      let s : State := up; decide (par d 1 1 = 1) && passesB 0x0501 checkTddPatternSet d s) &&
    (let d : Desc := cmd (fieldsNat [(0, 1, 7)]) (buffer 20 [(0, 4, 307200), (4, 4, 307199), (8, 1, 1), (16, 3, 307200), (19, 1, 2)]);
      let s : State := up; decide (par d 1 1 ≠ 1) && decide (overDuty 0 s.hr.rules.dlDuty (patternFrom (coded 0x0501 d)) = false) && decide (overDuty 1 s.hr.rules.ulDuty (patternFrom (coded 0x0501 d)) = false) && decide (slotUsers (par d 0 1) s = []) && passesB 0x0501 checkTddPatternSet d s) &&
    (let d : Desc := cmd (fieldsNat [(0, 1, 7)]) (buffer 20 [(0, 4, 307200), (8, 1, 1), (16, 3, 307200), (19, 1, 2)]);
      let s : State := modChan 3 (fun x => { x with defn := { x.defn with duplex := 1, tdd := 7 } }) chanUp;
      let u := (3, .dl); decide (u ∈ slotUsers (par d 0 1) s) && decide (par d 1 1 ≠ 1) && decide (overDuty 0 s.hr.rules.dlDuty (patternFrom (coded 0x0501 d)) = false) && decide (overDuty 1 s.hr.rules.ulDuty (patternFrom (coded 0x0501 d)) = false) && passesB 0x0501 checkTddPatternSet d s) &&
    (let d : Desc := cmd (fieldsNat [(0, 1, 7)]) (buffer 20 [(0, 4, 307200), (8, 1, 1), (16, 3, 307200), (19, 1, 0)]);
      let s : State := up;
      let h := 0; decide (par d 1 1 ≠ 1) && decide (h = (if overDuty 0 s.hr.rules.dlDuty (patternFrom (coded 0x0501 d)) then 0 else 1)) && decide ((overDuty 0 s.hr.rules.dlDuty (patternFrom (coded 0x0501 d)) || overDuty 1 s.hr.rules.ulDuty (patternFrom (coded 0x0501 d))) = true) && passesB 0x0501 checkTddPatternSet d s) &&
    (let d : Desc := cmd (fieldsNat [(0, 1, 7)]) (buffer 20 [(0, 4, 307200), (8, 1, 1), (16, 3, 307200), (19, 1, 1)]);
      let s : State := up;
      let h := 1; decide (par d 1 1 ≠ 1) && decide (h = (if overDuty 0 s.hr.rules.dlDuty (patternFrom (coded 0x0501 d)) then 0 else 1)) && decide ((overDuty 0 s.hr.rules.dlDuty (patternFrom (coded 0x0501 d)) || overDuty 1 s.hr.rules.ulDuty (patternFrom (coded 0x0501 d))) = true) && passesB 0x0501 checkTddPatternSet d s) &&
    (let d : Desc := cmdP [(0, 1, 3), (2, 2, 255)];
      let s : State := { up with radio := { up.radio with plans := upd up.radio.plans 255 (fun _ => { LoPlan.reset with used := true, synth := 3, freq := 700000000 }) } }; passesB 0x0521 checkLoTune d s) &&
    (let d : Desc := cmdP [(0, 1, 255), (1, 1, 1), (2, 1, 1)];
      let s : State := { up with radio := { up.radio with plans := upd up.radio.plans 255 (fun _ => { LoPlan.reset with used := true, synth := 3, freq := 700000000 }) } }; passesB 0x0522 checkLoCalibrate d s) &&
    (let d : Desc := cmdP [(0, 1, 7), (1, 1, 0)];
      let s : State := modTx 7 (fun x => { x with enabled := true }) up; decide (par d 1 1 = 0) && passesB 0x0524 checkTxEnable d s) &&
    (let d : Desc := cmdP [(0, 1, 7), (1, 1, 1)];
      let s : State := linked; decide (par d 1 1 = 1) && passesB 0x0524 checkTxEnable d s)) = true := by decide +kernel

theorem witness_FabricTwinCommands : (
    (let d : Desc := cmdP [(0, 1, 2), (1, 1, 15), (2, 1, 1)];
      let s : State := up; decide (par d 1 1 ≠ 0) && beginsB 0x0C00 d s && decide (checkFabricDiscover (starting 0x0C00 d s) (stepping 0x0C00 d s) = none)) &&
    (let d : Desc := cmdP [(0, 1, 15), (1, 1, 255)];
      let s : State := up; decide (par d 0 1 < s.fabric.routes.size) && passesB 0x0C02 checkRouteSet d s) &&
    (let d : Desc := cmdP [(0, 1, 1), (1, 1, 0)];
      let s : State := fabricUp; decide (par d 0 1 < s.fabric.routes.size) && passesB 0x0C02 checkRouteSet d s) &&
    (let d : Desc := cmdP [(0, 1, 4), (6, 2, 128), (8, 2, 128)];
      let s : State := modTwin (fun t => { t with state := .solo }) twinUp; decide (par d 0 1 < 5) && passesB 0x0C03 checkBilletSet d s) &&
    (let d : Desc := cmdP [(0, 1, 0), (2, 2, 256)];
      let s : State := fabricUp; decide (par d 0 1 < 5) && passesB 0x0C03 checkBilletSet d s) &&
    (let d : Desc := cmdP [(0, 1, 0)];
      let s : State := fabricUp; decide (par d 0 1 < 4) && decide ((link (par d 0 1) s).state ≠ .down) && decide ((link (par d 0 1) s).state ≠ .reclaiming) && passesB 0x0C04 checkLinkReclaim d s) &&
    (let d : Desc := cmdP [(0, 2, 1000), (2, 2, 3000), (4, 2, 16), (6, 2, 0), (8, 2, 100), (10, 2, 60000), (12, 2, 10000), (14, 1, 3)];
      let s : State := up; passesB 0x0C10 checkTwinConfigure d s) &&
    (let d : Desc := cmd 0 [];
      let s : State := modTwin (fun t => { t with state := .lockstep }) twinUp; decide (s.twin.state = .lockstep) && passesB 0x0C11 checkTwinSync d s) &&
    (let d : Desc := cmd 0 [];
      let s : State := twinUp; decide (s.twin.state ≠ .lockstep) && passesB 0x0C11 checkTwinSync d s) &&
    (let d : Desc := cmd 0 [];
      let s : State := modTwin (fun t => { t with state := .lockstep }) twinUp; decide (s.twin.hand = none) && passesB 0x0C12 checkTwinHandover d s)) = true := by decide +kernel

theorem witness_CaptureCommands : (
    (let d : Desc := cmdP [(0, 1, 7), (2, 2, 8), (4, 1, 0), (12, 4, 0xFFFFFFFF), (16, 2, 65535)];
      let s : State := ringsUp;
      let q : Fin 8 := 7; decide (par d 0 1 = q.val) && passesB 0x0D00 checkCaptureStart d s) &&
    (let d : Desc := cmdP [(0, 1, 7), (2, 2, 0), (4, 1, 2), (8, 4, 5), (12, 4, 0), (16, 2, 0)];
      let s : State := ringsUp;
      let q : Fin 8 := 7; decide (par d 0 1 = q.val) && passesB 0x0D00 checkCaptureStart d s) &&
    (let d : Desc := cmdP [(0, 1, 7)];
      let s : State := { ringsUp with hif := { ringsUp.hif with sessions := upd ringsUp.hif.sessions 7 (fun x => { x with state := .armed, limit := 9 }) } };
      let q : Fin 8 := 7; decide (par d 0 1 = q.val) && passesB 0x0D01 checkCaptureStop d s)) = true := by decide +kernel

theorem witness_CaptureCommandsTwo : (
    (let d : Desc := cmdP [(0, 1, 15), (2, 2, 7)];
      let s : State := modSource 15 (fun x => { x with fetched := [{ desc := { cmd 0 [] with tag := 8, ring := 15 }, order := 1, cancelled := false }] }) up;
      let q : Fin 16 := 15; decide (par d 0 1 = q.val) && decide (d.ring.val < 16) && decide (q.val ≠ d.ring.val) && decide ((source q.val s).running = none) && decide ((source q.val s).continuing = []) && decide ((∀ f ∈ (source q.val s).fetched, f.desc.tag ≠ BitVec.ofNat 16 (par d 2 2))) && passesB 0x0001 checkCancel d s) &&
    (let d : Desc := cmdP [(0, 1, 1), (2, 2, 0xFFFF)];
      let s : State := up;
      let q : Fin 16 := 1; decide (par d 0 1 = q.val) && decide (d.ring.val < 16) && decide (q.val ≠ d.ring.val) && decide ((source q.val s).running = none) && decide ((source q.val s).continuing = []) && decide ((∀ f ∈ (source q.val s).fetched, f.desc.tag ≠ BitVec.ofNat 16 (par d 2 2))) && passesB 0x0001 checkCancel d s) &&
    (let d : Desc := cmdP [(0, 1, 15), (2, 2, 7)];
      let s : State := modSource 15 (fun x => { x with fetched := [{ desc := { cmd 0 [] with tag := 7, ring := 15 }, order := 1, cancelled := false }] }) up;
      let q : Fin 16 := 15;
      let f := { desc := { cmd 0 [] with tag := 7, ring := 15 }, order := 1, cancelled := false };
      let rest := []; decide (par d 0 1 = q.val) && decide (d.ring.val < 16) && decide (q.val ≠ d.ring.val) && decide ((source q.val s).running = none) && decide ((source q.val s).continuing = []) && decide ((source q.val s).fetched = f :: rest) && decide (f.desc.tag = BitVec.ofNat 16 (par d 2 2)) && passesB 0x0001 checkCancel d s) &&
    (let d : Desc := cmdP [(0, 1, 15), (2, 2, 7)];
      let s : State := modSource 15 (fun x => { x with running := some { someRun 0x521 0 .hardware with committed := true, desc := { (someRun 0x521 0 .hardware).desc with tag := 7, ring := 15 } } }) up;
      let q : Fin 16 := 15;
      let r := { someRun 0x521 0 .hardware with committed := true, desc := { (someRun 0x521 0 .hardware).desc with tag := 7, ring := 15 } }; decide (par d 0 1 = q.val) && decide (d.ring.val < 16) && decide (q.val ≠ d.ring.val) && decide ((source q.val s).running = some r) && decide (r.desc.tag = BitVec.ofNat 16 (par d 2 2)) && decide (pastCommit r s = true) && passesB 0x0001 checkCancel d s) &&
    (let d : Desc := cmdP [(0, 1, 15), (2, 2, 7)];
      let s : State := modSource 15 (fun x => { x with running := some { someRun 0x521 0 .hardware with desc := { (someRun 0x521 0 .hardware).desc with tag := 7, ring := 15 } } }) up;
      let q : Fin 16 := 15;
      let r := { someRun 0x521 0 .hardware with desc := { (someRun 0x521 0 .hardware).desc with tag := 7, ring := 15 } }; decide (par d 0 1 = q.val) && decide (d.ring.val < 16) && decide (q.val ≠ d.ring.val) && decide ((source q.val s).running = some r) && decide (r.desc.tag = BitVec.ofNat 16 (par d 2 2)) && decide (pastCommit r s = false) && decide (expired r s = false) && passesB 0x0001 checkCancel d s) &&
    (let d : Desc := cmdP [(0, 1, 15), (2, 2, 7)];
      let s : State := modSource 15 (fun x => { x with running := some { someRun 0x521 0 .hardware with desc := { (someRun 0x521 0 .hardware).desc with tag := 7, ring := 15 } } }) ringsUp;
      let q : Fin 16 := 15;
      let r := { someRun 0x521 0 .hardware with desc := { (someRun 0x521 0 .hardware).desc with tag := 7, ring := 15 } }; decide (par d 0 1 = q.val) && decide (d.ring.val < 16) && decide (q.val ≠ d.ring.val) && decide ((source q.val s).running = some r) && decide (r.desc.tag = BitVec.ofNat 16 (par d 2 2)) && decide (pastCommit r s = false) && decide (expired r s = false) && passesB 0x0001 checkCancel d s)) = true := by decide +kernel

theorem witness_RegisterEvents : (
    (let be : BitVec 4 := 14; decide (be ≠ 15)) &&
    (let be : BitVec 4 := 0; decide (be ≠ 15)) &&
    (let be : BitVec 4 := 14; decide (be ≠ 15)) &&
    (let be : BitVec 4 := 0; decide (be ≠ 15)) &&
    (let off : Half := 0x5000; decide (0x5000 ≤ off.toNat)) &&
    (let off : Half := 0xFFFF; decide (0x5000 ≤ off.toNat)) &&
    (let s : State := up; decide (hostUp s = true)) &&
    (let s : State := up; decide (hostUp s = true)) &&
    (let s : State := { up with hif := { up.hif with inReset := true } }; decide (hostUp s = false)) &&
    (let s : State := { up with sys := { up.sys with coreUp := false } }; decide (hostUp s = false)) &&
    (let v : Word := 0x80000000; decide (v.getLsbD 31 = true)) &&
    (let v : Word := 0x7FFFFFFF; decide (v.getLsbD 31 = false)) &&
    (let v : Word := 0x1A55A;
      let s : State := up; decide (s.sys.coreUp = true) && decide (v.toNat % 2 ^ 16 = 0xA55A) && decide (v.getLsbD 16 = true)) &&
    (let v : Word := 0xA55A; decide (v.toNat % 2 ^ 16 ≠ 0xA55A ∨ v.getLsbD 16 = false)) &&
    (let v : Word := 0x1A55B; decide (v.toNat % 2 ^ 16 ≠ 0xA55A ∨ v.getLsbD 16 = false)) &&
    (let s : State := { up with faults := { up.faults with firstValid := true, alarm := true, simul := true } }; decide (s.sys.coreUp = true)) &&
    (let s : State := { up with faults := { up.faults with firstValid := true, alarm := true, simul := true } }; decide (s.sys.coreUp = true)) &&
    (let q : Fin 8 := 7;
      let s : State := { ringsUp with hif := { ringsUp.hif with sessions := upd ringsUp.hif.sessions 7 (fun x => { x with state := .armed, startMode := 1, startCount := 9 }) } }; decide ((session q.val s).state = .armed)) &&
    (let q : Fin 8 := 7;
      let s : State := { ringsUp with hif := { ringsUp.hif with sessions := upd ringsUp.hif.sessions 7 (fun x => { x with state := .armed, startMode := 2, startCount := 9 }) } }; decide ((session q.val s).state = .armed)) &&
    (let q : Fin 8 := 7;
      let s : State := ringsUp; decide ((session q.val s).state ≠ .armed))) = true := by decide +kernel

theorem witness_RegisterEventsTwo : (
    (let c : Fin 64 := 3;
      let d : Dir := .ul;
      let k : EpochKind := .gain;
      let st : Stamp := { ticket := 5, epoch := 1, ordinal := 7, settings := [.hostMute true], adopted := [], left := true };
      let s : State := modSource 0 (fun x => { x with running := some { someRun 0x114 0x10103 .epochs with epochs := [{ ticket := 5, retired := false, seq := none }] } }) (modDir 3 .ul (fun x => { x with gainLine := { x.gainLine with stamped := some { ticket := 5, epoch := 1, ordinal := 7, settings := [.hostMute true], adopted := [], left := true } } }) chanRich); decide (((direction c d s).line k).stamped = some st) && decide (st.left = true))) = true := by decide +kernel

theorem witness_LinkEvents : (
    (let s : State := modLinks (fun v => { v with sysrefArm := true }) up; decide (s.links.sysrefArm = true)) &&
    (let p : Fin 8 := 7;
      let s : State := modLinks (fun v => { v with captured := true, captureAt := 0 }) up; decide (s.links.sysrefArm = false) && decide (s.links.captured = true) && decide (s.links.sysrefMode ≠ 0) && decide ((8 * s.now + p.val - s.links.captureAt) % 128 ≠ 0)) &&
    (let p : Fin 8 := 7;
      let s : State := modLinks (fun v => { v with captured := true, captureAt := 7 }) up; decide (s.links.sysrefArm = false) && decide ((8 * s.now + p.val - s.links.captureAt) % 128 = 0)) &&
    (let p : Fin 8 := 0;
      let s : State := up; decide (s.links.sysrefArm = false) && decide ((8 * s.now + p.val - s.links.captureAt) % 128 = 0)) &&
    (let n : Fin 18 := 17;
      let a : Bool := false;
      let s : State := linked; decide (s.links.rxGroups[laneGroup n] = .aligned) && decide (a = false)) &&
    (let n : Fin 18 := 0;
      let a : Bool := false;
      let s : State := linked; decide (s.links.rxGroups[laneGroup n] = .aligned) && decide (a = false)) &&
    (let g : Fin 9 := 8;
      let s : State := linked; decide ((receiveRate g.val s).isSome = true) && decide (s.sys.coreUp = true)) &&
    (let g : Fin 9 := 0;
      let s : State := linked; decide ((receiveRate g.val s).isSome = true) && decide (s.sys.coreUp = true)) &&
    (let g : Fin 9 := 0;
      let s : State := up; decide ((receiveRate g.val s).isNone = true))) = true := by decide +kernel

theorem witness_BlockEvents : (
    (let c : Fin 64 := 3;
      let d : Dir := .dl;
      let p : Fin 8 := 4;
      let b : Block := someBlock .gained 4;
      let s : State := withBlock .gained 4 chanRich; decide (firstBlock (direction c d s) (fun b => b.stage == .gained && b.port == p) = some b) && decide (b.mirrored = false) && decide ((direction c d s).lateSeqs.contains (b.sequence, p) = false)) &&
    (let c : Fin 64 := 3;
      let d : Dir := .dl;
      let p : Fin 8 := 4;
      let b : Block := someBlock .gained 4;
      let s : State := modDir 3 .dl (fun x => { x with lateSeqs := [(0, 4)] }) (withBlock .gained 4 chanRich); decide (firstBlock (direction c d s) (fun b => b.stage == .gained && b.port == p) = some b) && decide (b.mirrored = false) && decide ((direction c d s).lateSeqs.contains (b.sequence, p) = true)) &&
    (let c : Fin 64 := 3;
      let d : Dir := .dl;
      let p : Fin 8 := 4;
      let b : Block := someBlock .gained 4;
      let s : State := chanRich; decide (firstBlock (direction c d s) (fun b => b.stage == .gained && b.port == p) = none)) &&
    (let c : Fin 64 := 3;
      let d : Dir := .dl;
      let s : State := modDir 3 .dl (fun x => { x with ordinal := 1 }) chanRich; decide (dirLive c d s = true) && decide (onTransmitDevice (dirDef c d s) s = true) && decide ((direction c d s).released < (direction c d s).ordinal) && decide (s.sys.coreUp = true) && decide ((chan c s).removeDue = false)) &&
    (let c : Fin 64 := 3;
      let d : Dir := .dl;
      let s : State := withBlock .accepted 4 chanRich; decide (dirLive c d s = true) && decide (onTransmitDevice (dirDef c d s) s = true) && decide ((direction c d s).released < (direction c d s).ordinal) && decide (s.sys.coreUp = true) && decide ((chan c s).removeDue = false)) &&
    (let c : Fin 64 := 3;
      let d : Dir := .dl;
      let s : State := withBlock .accepted 4 made; decide (dirLive c d s = true) && decide (onTransmitDevice (dirDef c d s) s = true) && decide ((direction c d s).released < (direction c d s).ordinal) && decide (s.sys.coreUp = true) && decide ((chan c s).removeDue = false)) &&
    (let c : Fin 64 := 3;
      let d : Dir := .dl;
      let s : State := up; decide (dirLive c d s = false)) &&
    (let p : Fin 8 := 4;
      let ready : Bool := false;
      let s : State := linked; decide (s.links.txActive[Fin.ofNat 4 p.val] = true) && decide (s.links.streams[p].rate.isSome = true) && decide (s.sys.coreUp = true) && decide (ready = false)) &&
    (let p : Fin 8 := 4;
      let ready : Bool := true;
      let s : State := linked; decide (s.links.txActive[Fin.ofNat 4 p.val] = true) && decide (s.links.streams[p].rate.isSome = true) && decide (s.sys.coreUp = true) && decide (ready = true)) &&
    (let p : Fin 8 := 4;
      let s : State := up; decide (s.sys.coreUp = true) && decide (s.links.txActive[Fin.ofNat 4 p.val] = false)) &&
    (let c : Fin 64 := 3;
      let d : Dir := .dl;
      let s : State := up; decide (dirLive c d s = false)) &&
    (let c : Fin 64 := 3;
      let d : Dir := .dl;
      let p : Fin 8 := 0;
      let b : Block := someBlock .channelised 0;
      let f : BlockFound := { upset := 0, engine := 0, busy := 10, differs := 0 };
      let s : State := withBlock .channelised 0 chanRich; decide (dirLive c d s = true) && decide (s.sys.coreUp = true) && decide (f.upset = 0) && decide (shadowRuns c d .cancel p f.engine s = false) && decide (firstBlock (direction c d s) (fun b => b.stage == .channelised && b.port == p) = some b)) &&
    (let c : Fin 64 := 3;
      let d : Dir := .dl;
      let p : Fin 8 := 0;
      let b : Block := someBlock .channelised 0;
      let f : BlockFound := { upset := 0, engine := 0, busy := 10, differs := 0 };
      let s : State := withBlock .channelised 0 made; decide (dirLive c d s = true) && decide (s.sys.coreUp = true) && decide (f.upset = 0) && decide (shadowRuns c d .cancel p f.engine s = false) && decide (firstBlock (direction c d s) (fun b => b.stage == .channelised && b.port == p) = some b)) &&
    (let c : Fin 64 := 3;
      let d : Dir := .dl;
      let p : Fin 8 := 4;
      let f : BlockFound := { upset := 0, engine := 0, busy := 10, differs := 0 };
      let s : State := withBlock .cancelled 0 made;
      let low := someBlock .cancelled 0;
      let rest := []; decide (dirLive c d s = true) && decide (s.sys.coreUp = true) && decide (f.upset = 0) && decide (shadowRuns c d .shape p f.engine s = false) && decide (combinable c d s = some (low :: rest)))) = true := by decide +kernel

theorem witness_StabilityEvents : (
    (let c : Fin 64 := 3;
      let d : Dir := .ul;
      let s : State := modStab 3 .ul (fun m => { m with onset := some 0, runLast := 6144 }) (tracking .ul chanRich);
      let o := 0; decide ((direction c d s).stab.onset = some o) && decide (dirLive c d s = true) && decide (isFrozen (direction c d s) s = false) && decide ((direction c d s).stab.state ≠ .muted) && decide (6144 ≤ ((direction c d s).stab.runLast - o).toNat)) &&
    (let c : Fin 64 := 3;
      let d : Dir := .ul;
      let s : State := { modStab 3 .ul (fun m => { m with onset := some 0xFFFFFFFF, runLast := 6143, mutes := [1, 2, 3] }) (tracking .ul chanRich) with slowTicks := 599999 };
      let o := 0xFFFFFFFF; decide ((direction c d s).stab.onset = some o) && decide (dirLive c d s = true) && decide (isFrozen (direction c d s) s = false) && decide ((direction c d s).stab.state ≠ .muted) && decide (6144 ≤ ((direction c d s).stab.runLast - o).toNat)) &&
    (let c : Fin 64 := 3;
      let d : Dir := .ul;
      let s : State := tracking .ul chanRich;
      let x : Word := 7; decide (((direction c d s).stab.onset = none ∨ (direction c d s).stab.runLast ≠ x))) &&
    (let c : Fin 64 := 3;
      let d : Dir := .ul;
      let s : State := modStab 3 .ul (fun m => { m with onset := some 0, runLast := 6144 }) (tracking .ul chanRich);
      let x : Word := 7; decide (((direction c d s).stab.onset = none ∨ (direction c d s).stab.runLast ≠ x))) &&
    (let c : Fin 64 := 3;
      let d : Dir := .ul;
      let s : State := modStab 3 .ul (fun m => { m with measuring := some { openLoop := true, searching := true, pilot := -3000, searchMax := 255, start := 0, ring := none } }) (modDir 3 .ul (fun x => x.mapPaths (fun _ p => { p with search := { p.search with count := 2 ^ 24 } })) chanRich); decide (dirLive c d s = true) && decide (searchingDelay (direction c d s) = true) && decide (isFrozen (direction c d s) s = false) && decide (searchDone (dirDef c d s) (direction c d s) = true)) &&
    (let c : Fin 64 := 3;
      let d : Dir := .ul;
      let s : State := chanRich;
      let w : Nat := 9; decide ((direction c d s).meter.par.w ≠ w)) &&
    (let c : Fin 64 := 3;
      let d : Dir := .ul;
      let s : State := tracking .ul chanRich;
      let b : Bool := true; decide ((direction c d s).stab.measuring.all (fun m => m.openLoop == b) = true)) &&
    (let c : Fin 64 := 3;
      let d : Dir := .ul;
      let s : State := modStab 3 .ul (fun m => { m with measuring := some { openLoop := false, searching := false, pilot := -3000, searchMax := 255, start := 0, ring := none } }) chanRich;
      let b : Bool := false; decide ((direction c d s).stab.measuring.all (fun m => m.openLoop == b) = true)) &&
    (let c : Fin 64 := 3;
      let d : Dir := .ul;
      let s : State := modStab 3 .ul (fun m => { m with reason := .measure, measuring := some { openLoop := true, searching := false, pilot := -3000, searchMax := 255, start := 0, ring := none } }) (modDir 3 .ul (fun x => x.mapPaths (fun _ p => { p with done := List.replicate 12 aWindow })) chanRich);
      let m := { openLoop := true, searching := false, pilot := -3000, searchMax := 255, start := 0, ring := none }; decide ((direction c d s).stab.measuring = some m) && decide (m.openLoop = true) && decide (isFrozen (direction c d s) s = false) && decide ((direction c d s).stab.state = .muted) && decide ((direction c d s).stab.reason = .measure) && decide (m.searching = false) && decide (trainingDone (dirDef c d s) (direction c d s) = true)) &&
    (let c : Fin 64 := 3;
      let d : Dir := .ul;
      let s : State := modStab 3 .ul (fun m => { m with reason := .measure, par := { m.par with mReq := 6000 }, measuring := some { openLoop := true, searching := false, pilot := -3000, searchMax := 255, start := 0, ring := none } }) (modDir 3 .ul (fun x => x.mapPaths (fun _ p => { p with done := List.replicate 16 aWindow })) chanRich);
      let m := { openLoop := true, searching := false, pilot := -3000, searchMax := 255, start := 0, ring := none }; decide ((direction c d s).stab.measuring = some m) && decide (m.openLoop = true) && decide (isFrozen (direction c d s) s = false) && decide ((direction c d s).stab.state = .muted) && decide ((direction c d s).stab.reason = .measure) && decide (m.searching = false) && decide (trainingDone (dirDef c d s) (direction c d s) = true)) &&
    (let c : Fin 64 := 3;
      let d : Dir := .ul;
      let s : State := modMeter 3 .ul (fun m => { m with ageMs := 100000 }) (tracking .ul chanRich); decide (dirLive c d s = true) && decide (isSilent (direction c d s) s = false) && decide (estimateStale (chan c s).defn.cls (direction c d s).meter = true) && decide ((direction c d s).meter.stale = false)) &&
    (let c : Fin 64 := 3;
      let d : Dir := .ul;
      let s : State := modMeter 3 .ul (fun m => { m with stale := true }) chanRich; decide ((direction c d s).meter.stale = true)) &&
    (let c : Fin 64 := 3;
      let d : Dir := .ul;
      let s : State := modStab 3 .ul (fun m => { m with state := .backoff, s := 6000, k := 6000, dwell := 500 }) chanRich; decide (dirLive c d s = true) && decide (isFrozen (direction c d s) s = false) && decide ((direction c d s).stab.state = .backoff) && decide ((direction c d s).stab.par.backoffDwell ≤ (direction c d s).stab.dwell) && decide ((direction c d s).stab.s ≤ (direction c d s).stab.k)) &&
    (let c : Fin 64 := 3;
      let d : Dir := .ul;
      let s : State := chanRich; decide ((direction c d s).stab.state ≠ .backoff)) &&
    (let c : Fin 64 := 3;
      let d : Dir := .ul;
      let s : State := modStab 3 .ul (fun m => { m with state := .hold, holdRun := 100 }) chanRich; decide (dirLive c d s = true) && decide (isFrozen (direction c d s) s = false) && decide ((direction c d s).stab.state = .hold) && decide ((direction c d s).stab.par.holdDwell ≤ (direction c d s).stab.holdRun)) &&
    (let c : Fin 64 := 3;
      let d : Dir := .ul;
      let s : State := chanRich; decide ((direction c d s).stab.state ≠ .hold)) &&
    (let c : Fin 64 := 3;
      let d : Dir := .ul;
      let s : State := modStab 3 .ul (fun m => { m with reason := .oscillation, holdoff := 1000 }) chanRich; decide (dirLive c d s = true) && decide ((direction c d s).stab.state = .muted) && decide ((direction c d s).stab.reason = .oscillation) && decide ((direction c d s).stab.measuring = none) && decide (inWatch s = false) && decide ((direction c d s).stab.par.oscHoldoff ≤ (direction c d s).stab.holdoff)) &&
    (let c : Fin 64 := 3;
      let d : Dir := .ul;
      let s : State := modStab 3 .ul (fun m => { m with reason := .oscLockout }) chanRich; decide ((direction c d s).stab.reason = .oscLockout)) &&
    (let c : Fin 64 := 3;
      let d : Dir := .ul;
      let s : State := modStab 3 .ul (fun m => { m with reason := .marginLost, retry := 10000 }) chanRich; decide (dirLive c d s = true) && decide ((direction c d s).stab.state = .muted) && decide ((direction c d s).stab.reason = .marginLost) && decide ((direction c d s).stab.measuring = none) && decide (10000 ≤ (direction c d s).stab.retry)) &&
    (let c : Fin 64 := 3;
      let d : Dir := .ul;
      let s : State := modStab 3 .ul (fun m => { m with reason := .marginLost, retry := 9999 }) chanRich; decide ((direction c d s).stab.retry < 10000)) &&
    (let c : Fin 64 := 3;
      let d : Dir := .ul;
      let s : State := { modFabric (fun f => { f with splits := [{ chan := 3, dir := .ul, s := 5000, k := 5000, state := 2, cut := none, lastTick := 0, silent := false }] }) (modChan 3 (fun x => { x with defn := { x.defn with ul := { x.defn.ul with rxDevice := 1 } } }) (tracking .ul chanRich)) with slowTicks := 11 };
      let v := { chan := 3, dir := .ul, s := 5000, k := 5000, state := 2, cut := none, lastTick := 0, silent := false }; decide (dirLive c d s = true) && decide (splitTransmit (dirDef c d s) s = true) && decide (splitOf c d s = some v) && decide (v.silent = false) && decide (v.lastTick + 10 < s.slowTicks)) &&
    (let c : Fin 64 := 3;
      let d : Dir := .ul;
      let s : State := chanRich; decide (splitTransmit (dirDef c d s) s = false))) = true := by decide +kernel

theorem witness_GainEvents : (
    (let c : Fin 64 := 3;
      let d : Dir := .ul;
      let s : State := modGain 3 .ul (fun g => { g with alcFrozen := true, implausibleTicks := 800 }) (tracking .ul chanRich); decide (dirLive c d s = true) && decide ((direction c d s).gain.alcFrozen = true) && decide (800 ≤ (direction c d s).gain.implausibleTicks)) &&
    (let c : Fin 64 := 3;
      let d : Dir := .ul;
      let s : State := modGain 3 .ul (fun g => { g with alcFrozen := true, implausibleTicks := 799 }) chanRich; decide ((direction c d s).gain.implausibleTicks < 800)) &&
    (let c : Fin 64 := 3;
      let s : State := tracking .dl (tracking .ul (modGain 3 .ul (fun g => { g with coupling := { g.coupling with refChannel := some 3 } }) chanRich));
      let i : Nat := 0;
      let u := ceilingU 3 (donorPower 3 s) (if dirLive (refChannel 3 s) .dl s then meanApplied (dirDef (refChannel 3 s) .dl s) (direction (refChannel 3 s) .dl s).gain else none) s; decide (10 * i = s.slowTicks) && decide (dirLive c .ul s = true) && decide ((∀ j, j ≠ c → dirLive j .ul s = false)) && decide (ceilingU c (donorPower c s) (if dirLive (refChannel c s) .dl s then meanApplied (dirDef (refChannel c s) .dl s) (direction (refChannel c s) .dl s).gain else none) s = u)) &&
    (let c : Fin 64 := 3;
      let s : State := tracking .dl (tracking .ul (modGain 3 .ul (fun g => { g with coupling := { g.coupling with refChannel := some 3, enable := true } }) chanRich));
      let i : Nat := 0;
      let u := ceilingU 3 (donorPower 3 s) (if dirLive (refChannel 3 s) .dl s then meanApplied (dirDef (refChannel 3 s) .dl s) (direction (refChannel 3 s) .dl s).gain else none) s; decide (10 * i = s.slowTicks) && decide (dirLive c .ul s = true) && decide ((∀ j, j ≠ c → dirLive j .ul s = false)) && decide (ceilingU c (donorPower c s) (if dirLive (refChannel c s) .dl s then meanApplied (dirDef (refChannel c s) .dl s) (direction (refChannel c s) .dl s).gain else none) s = u)) &&
    (let s : State := up;
      let i : Nat := 0; decide ((liveDirs s = [] ∨ 10 * i ≠ s.slowTicks))) &&
    (let s : State := chanRich;
      let i : Nat := 1; decide ((liveDirs s = [] ∨ 10 * i ≠ s.slowTicks))) &&
    (let c : Fin 64 := 3;
      let s : State := modGain 3 .ul (fun g => { g with couplingOk := some 1000, reasons := 0xFFFFF }) chanRich;
      let n := 1000; decide (dirLive c .ul s = true) && decide ((direction c .ul s).gain.couplingOk = some n) && decide (1000 ≤ n)) &&
    (let c : Fin 64 := 3;
      let s : State := modGain 3 .ul (fun g => { g with couplingOk := some 1000, reasons := 0x00 }) (tracking .ul chanRich);
      let n := 1000; decide (dirLive c .ul s = true) && decide ((direction c .ul s).gain.couplingOk = some n) && decide (1000 ≤ n)) &&
    (let c : Fin 64 := 3;
      let s : State := modGain 3 .ul (fun g => { g with couplingOk := none, reasons := 0xFFFFF }) chanRich; decide ((direction c .ul s).gain.couplingOk = none)) &&
    (let c : Fin 64 := 3;
      let s : State := modGain 3 .ul (fun g => { g with donorLossDue := some 4, donorPresent := some 9 }) { (tracking .ul chanRich) with slowTicks := 5 };
      let n := 4; decide (dirLive c .ul s = true) && decide ((direction c .ul s).gain.donorLossDue = some n) && decide (n < s.slowTicks)) &&
    (let c : Fin 64 := 3;
      let s : State := chanRich; decide ((direction c .ul s).gain.donorLossDue = none)) &&
    (let c : Fin 64 := 3;
      let s : State := modGain 3 .ul (fun g => { g with donorPresent := some 1000, reasons := 0xFFFFF }) (tracking .ul chanRich);
      let n := 1000; decide (dirLive c .ul s = true) && decide ((direction c .ul s).gain.donorPresent = some n) && decide ((direction c .ul s).gain.lossReturnMs ≤ n)) &&
    (let c : Fin 64 := 3;
      let s : State := modGain 3 .ul (fun g => { g with donorPresent := none, reasons := 0xFFFFF }) (tracking .ul chanRich); decide ((direction c .ul s).gain.donorPresent = none)) &&
    (let s : State := { chanRich with ladderNext := some LadderParams.reset };
      let i : Nat := 1; decide (100 * i ≠ s.slowTicks)) &&
    (let s : State := { chanRich with ladderNext := some { LadderParams.reset with overpowerMs := 10 } };
      let p := { LadderParams.reset with overpowerMs := 10 };
      let i : Nat := 0; decide (100 * i = s.slowTicks) && decide (s.ladderNext = some p)) &&
    (let c : Fin 64 := 3;
      let d : Dir := .ul;
      let s : State := modGain 3 .ul (fun g => { g with floorNext := some (-12000, -2000, 50, 300) }) chanRich;
      let v := (-12000, -2000, 50, 300);
      let i : Nat := 0; decide (100 * i = s.slowTicks) && decide (dirLive c d s = true) && decide ((direction c d s).gain.floorNext = some v)) &&
    (let c : Fin 64 := 3;
      let d : Dir := .ul;
      let s : State := modGain 3 .ul (fun g => { g with floorNext := some (-12000, -2000, 50, 300) }) chanRich;
      let v := (-12000, -2000, 50, 300);
      let i : Nat := 0; decide (100 * i = s.slowTicks) && decide (dirLive c d s = true) && decide ((direction c d s).gain.floorNext = some v)) &&
    (let c : Fin 64 := 3;
      let s : State := modGain 3 .ul (fun g => { g with squelch := { g.squelch with enable := true }, idle := some 0 }) { chanRich with now := 200 * 30720 }; decide (dirLive c .ul s = true) && decide ((direction c .ul s).gain.squelch.enable = true) && decide ((direction c .ul s).gain.idle.isSome = true) && decide ((direction c .ul s).gain.squelch.hang * 30720 ≤ idleFor (direction c .ul s).gain s)) &&
    (let c : Fin 64 := 3;
      let s : State := chanRich; decide ((direction c .ul s).gain.idle = none)) &&
    (let c : Fin 64 := 3;
      let d : Dir := .ul;
      let s : State := modGain 3 .ul (fun g => { g with boundWindows := List.replicate 50 (1, 1) }) (tracking .ul chanRich); decide (dirLive c d s = true) && decide (hasReason (direction c d s).gain.reasons reasonOverpower = false) && decide (hasReason (direction c d s).gain.reasons reasonOverLatched = false) && decide (overpowered (direction c d s).gain s.ladder.overpowerMs = true)) &&
    (let c : Fin 64 := 3;
      let d : Dir := .ul;
      let s : State := { modGain 3 .ul (fun g => { g with boundWindows := List.replicate 60 (1, 1), overpowerMutes := [1, 2, 3] }) (tracking .ul chanRich) with slowTicks := 9 }; decide (dirLive c d s = true) && decide (hasReason (direction c d s).gain.reasons reasonOverpower = false) && decide (hasReason (direction c d s).gain.reasons reasonOverLatched = false) && decide (overpowered (direction c d s).gain s.ladder.overpowerMs = true)) &&
    (let c : Fin 64 := 3;
      let d : Dir := .ul;
      let s : State := chanRich; decide (overpowered (direction c d s).gain s.ladder.overpowerMs = false)) &&
    (let c : Fin 64 := 3;
      let d : Dir := .ul;
      let s : State := modGain 3 .ul (fun g => { g with overpowerRetryAt := some 5, reasons := 0xFFFFF }) { (tracking .ul chanRich) with slowTicks := 5 };
      let n := 5; decide (dirLive c d s = true) && decide ((direction c d s).gain.overpowerRetryAt = some n) && decide (n ≤ s.slowTicks)) &&
    (let c : Fin 64 := 3;
      let d : Dir := .ul;
      let s : State := chanRich; decide ((direction c d s).gain.overpowerRetryAt = none))) = true := by decide +kernel

theorem witness_PortEvents : (
    (let p : Fin 8 := 7;
      let s : State := modPort 7 (fun x => { x with pCompPeakOver := 80 }) chanRich; decide (80 ≤ (port p s).pCompPeakOver)) &&
    (let p : Fin 8 := 7;
      let s : State := modPort 7 (fun x => { x with pCompPeakOver := 80, muteCounts := [0, 0, 0, 0, 0] }) { chanRich with ladder := { chanRich.ladder with deviceStopPorts := 1 } }; decide (80 ≤ (port p s).pCompPeakOver)) &&
    (let p : Fin 8 := 7;
      let s : State := modPort 7 (fun x => { x with pCompPeakOver := 79 }) chanRich; decide ((port p s).pCompPeakOver < 80)) &&
    (let p : Fin 8 := 7;
      let s : State := modPort 7 (fun x => { x with retryAt := some 5, stops := 0xFFFFF }) { chanRich with slowTicks := 5 };
      let n := 5; decide ((port p s).retryAt = some n) && decide (n ≤ s.slowTicks)) &&
    (let p : Fin 8 := 7;
      let s : State := chanRich; decide ((port p s).retryAt = none)) &&
    (let c : Fin 64 := 3;
      let d : Dir := .dl;
      let r : Fin 20 := 1;
      let s : State := { modGain 3 .dl (fun g => { g with reducing := 1, unbindingSince := [(1, 0)] }) chanRich with slowTicks := 100000 }; decide (hasReason (direction c d s).gain.reducing r.val = true) && decide (unboundLong (direction c d s).gain.unbindingSince r.val s.slowTicks = true) && decide (1 ≤ r.val)) &&
    (let c : Fin 64 := 3;
      let d : Dir := .dl;
      let r : Fin 20 := 19;
      let s : State := chanRich; decide (hasReason (direction c d s).gain.reducing r.val = false)) &&
    (let p : Fin 8 := 7;
      let r : Fin 20 := 2;
      let s : State := { modPort 7 (fun g => { g with reducing := 2, unbindingSince := [(2, 0)] }) chanRich with slowTicks := 100000 }; decide (hasReason (port p s).reducing r.val = true) && decide (unboundLong (port p s).unbindingSince r.val s.slowTicks = true) && decide (1 ≤ r.val)) &&
    (let p : Fin 8 := 7;
      let r : Fin 20 := 19;
      let s : State := chanRich; decide (hasReason (port p s).reducing r.val = false))) = true := by decide +kernel

theorem witness_TickEvents : (
    (let s : State := up; decide (s.sys.coreUp = true) && decide (s.sys.transition = .none)) &&
    (let s : State := { tracking .ul (tracking .dl chanRich) with now := 30719 }; decide (s.sys.coreUp = true) && decide (s.sys.transition = .none)) &&
    (let s : State := { made with now := 30720 }; decide (s.sys.coreUp = true) && decide (s.sys.transition = .none)) &&
    (let s : State := State.reset; decide (s.sys.coreUp = true) && decide (s.sys.transition = .none)) &&
    (let s : State := { twinUp with now := 5 }; decide (s.sys.coreUp = true) && decide (s.sys.transition = .none)) &&
    (let s : State := { up with sys := { up.sys with coreUp := false } }; decide (s.sys.coreUp = false)) &&
    (let s : State := up;
      let i : Nat := 1; decide (s.sys.coreUp = true) && decide (3840 * i = tickInstant 3840 s.alcAt s.now)) &&
    (let s : State := { tracking .ul (tracking .dl chanRich) with now := 3839 };
      let i : Nat := 1; decide (s.sys.coreUp = true) && decide (3840 * i = tickInstant 3840 s.alcAt s.now)) &&
    (let s : State := { made with now := 3840, alcAt := 3840 };
      let i : Nat := 2; decide (s.sys.coreUp = true) && decide (3840 * i = tickInstant 3840 s.alcAt s.now)) &&
    (let s : State := { up with sys := { up.sys with coreUp := false } };
      let i : Nat := 0; decide ((s.sys.coreUp = false ∨ 3840 * i ≠ tickInstant 3840 s.alcAt s.now))) &&
    (let s : State := { up with now := 5 };
      let i : Nat := 0; decide ((s.sys.coreUp = false ∨ 3840 * i ≠ tickInstant 3840 s.alcAt s.now))) &&
    (let s : State := up; decide (s.pool.freeSlots + poolHeld s = 8192)) &&
    (let s : State := { up with pool := { up.pool with freeSlots := 8191 } }; decide (s.pool.freeSlots + poolHeld s ≠ 8192)) &&
    (let s : State := { up with pool := { up.pool with freeSlots := 8191, mismatch := true, tclass := 1, link := 2 } }; decide (s.pool.freeSlots + poolHeld s ≠ 8192)) &&
    (let l : Fin 6 := 0;
      let k : Fin 4 := 3;
      let s : State := fabricUp;
      let i : Nat := 0; decide (l.val < 5) && decide ((Machine.link l.val s).token[k].all (fun x => x.sent != i) = true)) &&
    (let l : Fin 6 := 0;
      let k : Fin 4 := 1;
      let s : State := modLink 0 (fun v => { v with token := v.token.set 1 (some { sent := 3, received := 1, held := 60, free := 2 }) }) fabricUp;
      let i : Nat := 9; decide (l.val < 5) && decide ((Machine.link l.val s).token[k].all (fun x => x.sent != i) = true)) &&
    (let l : Fin 6 := 0;
      let k : Fin 4 := 1;
      let x := { sent := 3, received := 1, held := 60, free := 2 };
      let s : State := modLink 0 (fun v => { v with token := v.token.set 1 (some { sent := 3, received := 1, held := 60, free := 2 }), total := v.total.set 1 64 }) fabricUp; decide (l.val < 5) && decide ((Machine.link l.val s).token[k] = some x) && decide ((x.held : Int) + ((x.sent : Int) - x.received) + x.free = nth (Machine.link l.val s).total k.val 0)) &&
    (let l : Fin 6 := 0;
      let k : Fin 4 := 1;
      let x := { sent := 3, received := 1, held := 60, free := 3 };
      let s : State := modLink 0 (fun v => { v with token := v.token.set 1 (some { sent := 3, received := 1, held := 60, free := 3 }), total := v.total.set 1 64 }) fabricUp; decide (l.val < 5) && decide ((Machine.link l.val s).token[k] = some x) && decide ((x.held : Int) + ((x.sent : Int) - x.received) + x.free ≠ nth (Machine.link l.val s).total k.val 0)) &&
    (let l : Fin 6 := 4;
      let k : Fin 4 := 3;
      let x := { sent := 1, received := 3, held := 0, free := 0 };
      let s : State := modLink 4 (fun v => { v with token := v.token.set 3 (some { sent := 1, received := 3, held := 0, free := 0 }), total := v.total.set 3 64 }) twinUp; decide (l.val < 5) && decide ((Machine.link l.val s).token[k] = some x) && decide ((x.held : Int) + ((x.sent : Int) - x.received) + x.free ≠ nth (Machine.link l.val s).total k.val 0))) = true := by decide +kernel

theorem witness_EngineEvents : (
    (let e : Fin 256 := 0;
      let s : State := made; decide ((s.eng.engines[e].state = .active ∨ s.eng.engines[e].state = .testing ∨ s.eng.engines[e].state = .shadow))) &&
    (let e : Fin 256 := 0;
      let x : Bool := false;
      let s : State := modEngine 0 (fun x => { x with failTick := some 5 }) { made with slowTicks := 86400004 }; decide ((s.eng.engines[e].state = .active ∨ s.eng.engines[e].state = .testing ∨ s.eng.engines[e].state = .shadow))) &&
    (let e : Fin 256 := 0;
      let x : Bool := false;
      let s : State := modEngine 0 (fun x => { x with failTick := some 5 }) { made with slowTicks := 86400005 }; decide ((s.eng.engines[e].state = .active ∨ s.eng.engines[e].state = .testing ∨ s.eng.engines[e].state = .shadow))) &&
    (let e : Fin 256 := 15;
      let x : Bool := false;
      let s : State := modEngine 15 (fun x => { x with state := .testing }) made; decide ((s.eng.engines[e].state = .active ∨ s.eng.engines[e].state = .testing ∨ s.eng.engines[e].state = .shadow))) &&
    (let e : Fin 256 := 15;
      let x : Bool := false;
      let s : State := modEngine 15 (fun x => { x with state := .shadow }) made; decide ((s.eng.engines[e].state = .active ∨ s.eng.engines[e].state = .testing ∨ s.eng.engines[e].state = .shadow))) &&
    (let e : Fin 256 := 255;
      let s : State := made; decide ((s.eng.engines[e].state = .idle ∨ s.eng.engines[e].state = .spare ∨ s.eng.engines[e].state = .retired))) &&
    (let e : Fin 256 := 1;
      let s : State := made; decide ((s.eng.engines[e].state = .idle ∨ s.eng.engines[e].state = .spare ∨ s.eng.engines[e].state = .retired))) &&
    (let e : Fin 256 := 0;
      let x : Bool := false;
      let v : TestRun := { engine := 0, asg := 6, segs := [], comparator := { Comparator.reset with agreed := 100000, seen := 100000 } };
      let s : State := modEngine 0 (fun x => { x with state := .testing }) { made with eng := { made.eng with tests := [{ engine := 0, asg := 6, segs := [], comparator := { Comparator.reset with agreed := 100000, seen := 100000 } }] } }; decide (s.eng.tests.find? (fun t => t.engine == e) = some v) && decide (s.eng.engines[e].state = .testing) && decide (v.finished s = true) && decide (s.eng.policy.testBlocks ≤ v.comparator.agreed)) &&
    (let e : Fin 256 := 0;
      let x : Bool := false;
      let v : TestRun := { engine := 0, asg := 6, segs := [], comparator := { Comparator.reset with agreed := 7, seen := 100000 } };
      let s : State := modEngine 0 (fun x => { x with state := .testing }) { made with eng := { made.eng with tests := [{ engine := 0, asg := 6, segs := [], comparator := { Comparator.reset with agreed := 7, seen := 100000 } }] } }; decide (s.eng.tests.find? (fun t => t.engine == e) = some v) && decide (s.eng.engines[e].state = .testing) && decide (v.finished s = true) && decide (v.comparator.agreed < s.eng.policy.testBlocks)) &&
    (let e : Fin 256 := 0;
      let s : State := made; decide (s.eng.engines[e].state ≠ .testing)) &&
    (let e : Fin 256 := 0;
      let x : Bool := false;
      let v : TestRun := { engine := 0, asg := 6, segs := [], comparator := { Comparator.reset with agreed := 7, seen := 7 } };
      let s : State := modEngine 0 (fun x => { x with state := .testing }) { made with eng := { made.eng with tests := [{ engine := 0, asg := 6, segs := [], comparator := { Comparator.reset with agreed := 7, seen := 7 } }] } }; decide (s.eng.tests.find? (fun t => t.engine == e) = some v) && decide (v.finished s = false)) &&
    (let e : Fin 256 := 0;
      let x : Bool := false;
      let s : State := modEngine 0 (fun x => { x with lowRun := 256 }) made; decide (256 ≤ s.eng.engines[e].lowRun) && decide (s.eng.engines[e].notice = false)) &&
    (let e : Fin 256 := 0;
      let x : Bool := false;
      let s : State := modEngine 0 (fun x => { x with lowRun := 256, notice := true }) made; decide (s.eng.engines[e].notice = true)) &&
    (let w : Fin 16 := 0;
      let s : State := { made with eng := { made.eng with wings := made.eng.wings.set 0 { Wing.reset with lowRun := 256 } }, supply := { made.supply with creditedWing := 0, credit := 20 } }; decide (256 ≤ s.eng.wings[w].lowRun) && decide (s.eng.wings[w].slow = false) && decide (s.supply.creditedWing = w) && decide (20 ≤ s.supply.credit)) &&
    (let w : Fin 16 := 0;
      let s : State := { made with eng := { made.eng with wings := made.eng.wings.set 0 { Wing.reset with lowRun := 256, slow := true } }, supply := { made.supply with creditedWing := 0, credit := 20 } }; decide (s.eng.wings[w].slow = true)) &&
    (let e : Fin 256 := 1;
      let m : Migration := (someMigration .copying 0 none);
      let s : State := migrating (someMigration .copying 0 none); decide (migrationOf e s = some m) && decide (m.step = .copying) && decide (m.since + m.fill ≤ asgOrdinal m.asg s) && decide (m.upgrade = none)) &&
    (let e : Fin 256 := 1;
      let s : State := made; decide (migrationOf e s = none)) &&
    (let e : Fin 256 := 1;
      let x : Bool := false;
      let q : Half := 40;
      let m : Migration := { someMigration .shadow 24 none with comparator := { Comparator.reset with agreed := 100000, seen := 100000, last := 39 } };
      let s : State := modDir 3 .dl (fun x => { x with blocks := [{ someBlock .cancelled 0 with sequence := 40 }] }) (migrating { someMigration .shadow 24 none with comparator := { Comparator.reset with agreed := 100000, seen := 100000, last := 39 } }); decide (migrationOf e s = some m) && decide (m.step = .shadow) && decide (m.agree = true) && decide (s.eng.policy.agreeBlocks ≤ agreements m.asg m.comparator s) && decide (q = m.comparator.last + 1) && decide (blockWaits m.asg m.moves q s = true)) &&
    (let e : Fin 256 := 1;
      let m : Migration := (someMigration .shadow 25 none);
      let s : State := migrating (someMigration .shadow 25 none); decide (migrationOf e s = some m) && decide (agreements m.asg m.comparator s < s.eng.policy.agreeBlocks)) &&
    (let e : Fin 256 := 1;
      let m : Migration := { someMigration .shadow 24 (some 0) with comparator := { Comparator.reset with agreed := 7, seen := 100000 } };
      let v : TestRun := { engine := 0, asg := 6, segs := [], comparator := Comparator.reset };
      let s : State := modSource 0 (fun v => { v with running := some (someRun 0x403 0 .hardware) }) (migrating { someMigration .shadow 24 (some 0) with comparator := { Comparator.reset with agreed := 7, seen := 100000 } }); decide (migrationOf e s = some m) && decide (m.step = .shadow) && decide (m.agree = true) && decide (s.eng.policy.migrateLimit ≤ m.comparator.seen) && decide (agreements m.asg m.comparator s < s.eng.policy.agreeBlocks)) &&
    (let e : Fin 256 := 1;
      let s : State := made; decide (migrationOf e s = none)) &&
    (let e : Fin 256 := 1;
      let m : Migration := (someMigration .selfTest 24 none);
      let s : State := migrating (someMigration .selfTest 24 none); decide (migrationOf e s = some m) && decide (m.step = .selfTest)) &&
    (let e : Fin 256 := 1;
      let m : Migration := (someMigration .selfTest 24 none);
      let s : State := migrating (someMigration .selfTest 24 none); decide (migrationOf e s = some m) && decide (m.step = .selfTest)) &&
    (let e : Fin 256 := 1;
      let s : State := made; decide (migrationOf e s = none))) = true := by decide +kernel

theorem witness_FrameTimingEvents : (
    (let s : State := up; decide (s.radio.timer.state = .free)) &&
    (let src : SyncSource := .fabric;
      let v : Word := 100;
      let ph : Int := 0;
      let s : State := modTimer (fun t => { t with state := .acquire, sources := #v[4, 0, 0, 0], tracks := t.tracks.set 4 { good := 2, lastOrigin := 1600, lastAt := 50 } }) { up with now := 307300 }; decide (s.radio.timer.state = .acquire) && decide (sourceRank (syncCode src) s.radio.timer ≠ 4) && decide (3 ≤ ((nth s.radio.timer.tracks (syncCode src) SyncTrack.reset).hear (16 * (countNear v s.now + (if src = .donor then s.radio.timer.donorOffset else 0)) + ph) s.now).good)) &&
    (let src : SyncSource := .donor;
      let v : Word := 100;
      let ph : Int := 0;
      let s : State := modTimer (fun t => { t with state := .acquire, donorOffset := -100, sources := #v[2, 1, 0, 0], tracks := t.tracks.set 1 { good := 5, lastOrigin := 0, lastAt := 50 } }) { up with now := 400 }; decide (s.radio.timer.state = .acquire) && decide (sourceRank (syncCode src) s.radio.timer ≠ 4) && decide (3 ≤ ((nth s.radio.timer.tracks (syncCode src) SyncTrack.reset).hear (16 * (countNear v s.now + (if src = .donor then s.radio.timer.donorOffset else 0)) + ph) s.now).good)) &&
    (let v : Word := 5;
      let s : State := modTimer (fun t => { t with state := .locked, tracked := 1, sources := #v[1, 0, 0, 0] }) up; decide (s.radio.timer.state = .locked)) &&
    (let s : State := up; decide (s.radio.timer.state ≠ .locked)) &&
    (let v : Word := 5;
      let s : State := modTimer (fun t => { t with state := .holdover, tracked := 1, sources := #v[1, 0, 0, 0] }) up; decide (s.radio.timer.state = .holdover)) &&
    (let s : State := up; decide (s.radio.timer.state ≠ .holdover)) &&
    (let k : Fin 8 := 7;
      let s : State := { up with radio := { up.radio with patterns := up.radio.patterns.set 7 { cur := none, next := some ({ period := 307200, offset := 0, segs := [(307200, 0)] }, 500) } } };
      let p := { period := 307200, offset := 0, segs := [(307200, 0)] };
      let a := 500; decide (s.radio.patterns[k].next = some (p, a))) &&
    (let k : Fin 8 := 7;
      let s : State := up; decide (s.radio.patterns[k].next = none))) = true := by decide +kernel

theorem witness_FrontEndEvents : (
    (let o : Fin 5 := 3;
      let s : State := modLo 3 (fun x => { x with settling := true, plan := 9 }) up; decide (s.radio.los[o].locked = false)) &&
    (let o : Fin 5 := 3;
      let s : State := modLo 3 (fun x => { x with locked := true }) up; decide (s.radio.los[o].locked = true)) &&
    (let o : Fin 5 := 3;
      let s : State := modLo 3 (fun x => { x with locked := true }) linked; decide (s.radio.los[o].locked = true)) &&
    (let o : Fin 5 := 0;
      let s : State := modLo 0 (fun x => { x with locked := true }) made; decide (s.radio.los[o].locked = true)) &&
    (let o : Fin 5 := 3;
      let s : State := up; decide (s.radio.los[o].locked = false)) &&
    (let p : Fin 8 := 7;
      let s : State := modTx 7 (fun x => { x with enabled := true, waiting := some 0 }) { up with radio := { up.radio with mapTx := up.radio.mapTx.set 7 3 } };
      let q := 0; decide (s.radio.tx[p].waiting = some q) && decide (loOut (txLo p s) s = true)) &&
    (let p : Fin 8 := 7;
      let s : State := up; decide (s.radio.tx[p].waiting = none)) &&
    (let m : Fin 4 := 3;
      let s : State := modSerial 3 (fun x => { x with queue := [{ trigger := 100, kind := 0, cs := 0, skipIfLate := true, read := false, len := 8, bytes := [1], due := 100 }] }) up;
      let e := { trigger := 100, kind := 0, cs := 0, skipIfLate := true, read := false, len := 8, bytes := [1], due := 100 };
      let n := 100; decide (firstEntry s s.radio.serial[m].queue = some (e, n)) && decide (s.radio.serial[m].running = none) && decide (max (max s.now n) (n + 4) - n ≤ s.radio.serial[m].lateTol)) &&
    (let m : Fin 4 := 3;
      let s : State := modSerial 3 (fun x => { x with queue := [{ trigger := 100, kind := 0, cs := 0, skipIfLate := true, read := false, len := 8, bytes := [1], due := 100 }] }) { up with now := 109 };
      let e := { trigger := 100, kind := 0, cs := 0, skipIfLate := true, read := false, len := 8, bytes := [1], due := 100 };
      let n := 100; decide (firstEntry s s.radio.serial[m].queue = some (e, n)) && decide (s.radio.serial[m].running = none) && decide (s.radio.serial[m].lateTol < max (max s.now n) (n + 4) - n)) &&
    (let m : Fin 4 := 3;
      let s : State := modSerial 3 (fun x => { x with queue := [{ trigger := 100, kind := 0, cs := 0, skipIfLate := false, read := false, len := 8, bytes := [1], due := 100 }] }) { up with now := 109 };
      let e := { trigger := 100, kind := 0, cs := 0, skipIfLate := false, read := false, len := 8, bytes := [1], due := 100 };
      let n := 100; decide (firstEntry s s.radio.serial[m].queue = some (e, n)) && decide (s.radio.serial[m].running = none) && decide (s.radio.serial[m].lateTol < max (max s.now n) (n + 4) - n)) &&
    (let m : Fin 4 := 3;
      let s : State := up; decide (firstEntry s s.radio.serial[m].queue = none)) &&
    (let m : Fin 4 := 3;
      let s : State := modSerial 3 (fun x => { x with running := some { trigger := 100, kind := 0, cs := 0, skipIfLate := false, read := true, len := 8, bytes := [1], due := 100 } }) up;
      let e := { trigger := 100, kind := 0, cs := 0, skipIfLate := false, read := true, len := 8, bytes := [1], due := 100 }; decide (s.radio.serial[m].running = some e) && decide (s.radio.serial[m].queue = [])) &&
    (let m : Fin 4 := 3;
      let s : State := up; decide (s.radio.serial[m].running = none)) &&
    (let s : State := modRadio (fun r => { r with survey := { r.survey with enable := true, dwelling := true, entries := [{ plan := 1, dwellMs := 10, valid := false, skipped := false, averaged := 0, endCount := 0, bins := [] }] } }) linked;
      let e := { plan := 1, dwellMs := 10, valid := false, skipped := false, averaged := 0, endCount := 0, bins := [] }; decide (s.radio.survey.enable = true) && decide (s.radio.survey.dwelling = true) && decide (s.links.rxGroups[(4 : Fin 5)] = .aligned) && decide (s.radio.survey.entries[s.radio.survey.index]? = some e) && decide (recentMs s.slowTicks s.radio.survey.dwelt < 10 * surveyDuty s)) &&
    (let s : State := up;
      let i : Nat := 0;
      let j : Nat := 0; decide ((s.radio.survey.dwelling = false ∨ i ≠ s.radio.survey.index ∨ j ≠ (i + 1) % s.radio.survey.entries.length)))) = true := by decide +kernel

theorem witness_FrontEndEventsTwo : (
    (let x : Fin 2 := 1;
      let y : Fin 2 := 0; decide (x ≠ y)) &&
    (let x : Fin 2 := 1;
      let y : Fin 2 := 0; decide (x ≠ y)) &&
    (let x : Fin 2 := 1;
      let y : Fin 2 := 0;
      let s : State := modCoex 1 (fun c => { c with enable := true, req := true, deferred := true, yielding := true, dutyPct := 50 }) up; decide (x ≠ y) && decide (s.radio.coex[x].enable = true) && decide (s.radio.coex[x].req = true) && decide (s.radio.coex[x].gnt = false) && decide (s.radio.coex[x].blocked = false) && decide (coexDutyFree s.radio.coex[x] s = true) && decide (s.radio.coex[x].yielding = true) && decide (coexQuiet s.radio.coex[x] s = true)) &&
    (let x : Fin 2 := 1;
      let y : Fin 2 := 0;
      let s : State := modCoex 1 (fun c => { c with enable := true, req := true, blocked := true }) up; decide (x ≠ y) && decide ((s.radio.coex[x].req = false ∨ s.radio.coex[x].blocked = true))) &&
    (let x : Fin 2 := 1;
      let y : Fin 2 := 0;
      let s : State := modCoex 1 (fun c => { c with enable := true, req := true, deferred := true, reqAt := 5 }) { up with now := 9 }; decide (x ≠ y) && decide (s.radio.coex[x].deferred = true)) &&
    (let x : Fin 2 := 1;
      let y : Fin 2 := 0;
      let s : State := up; decide (x ≠ y) && decide (s.radio.coex[x].deferred = false)) &&
    (let x : Fin 2 := 1;
      let y : Fin 2 := 0; decide (x ≠ y)) &&
    (let x : Fin 2 := 1;
      let y : Fin 2 := 0;
      let s : State := modCoex 1 (fun c => { c with enable := true, req := true, gnt := true }) { up with now := 9 }; decide (x ≠ y) && decide (s.radio.coex[x].gnt = true)) &&
    (let x : Fin 2 := 1;
      let y : Fin 2 := 0;
      let s : State := modCoex 1 (fun c => { c with enable := true, req := true, gnt := true }) { up with now := 9 }; decide (x ≠ y) && decide (s.radio.coex[x].gnt = true)) &&
    (let x : Fin 2 := 1;
      let y : Fin 2 := 0;
      let b : Bool := false;
      let s : State := up; decide (x ≠ y) && decide ((s.radio.coex[x].gnt = false ∨ b ≠ decide (10 * s.radio.coex[x].dutyPct - grantedBefore s.radio.coex[x] s < s.radio.coex[x].grantMaxMs)))) &&
    (let x : Fin 2 := 1;
      let y : Fin 2 := 0; decide (x ≠ y))) = true := by decide +kernel

theorem witness_LoopEvents : (
    (let l : Fin 192 := 0; decide (l.val < 136)) &&
    (let l : Fin 192 := 191;
      let s : State := up; decide (136 ≤ l.val) && decide ((loop l.val s).running = false) && decide ((loop l.val s).cur.template ≠ 5)) &&
    (let l : Fin 192 := 191;
      let s : State := modLoop 191 (fun x => { x with defined := true, running := true, overruns := 0xFFFF, slots := x.slots.set 0 { LoopSlot.reset with defined := true } }) up;
      let n := (none, 0); decide (136 ≤ l.val) && decide (s.sys.coreUp = true) && decide ((loop l.val s).running = true) && decide (nextTick l.val s = some n) && decide (readyBefore l.val s = [])) &&
    (let l : Fin 192 := 191;
      let s : State := modLoop 191 (fun x => { x with defined := true, running := true, startRing := some 0, swapPending := true, slots := x.slots.set 0 { LoopSlot.reset with defined := true } }) up;
      let n := (none, 0); decide (136 ≤ l.val) && decide (s.sys.coreUp = true) && decide ((loop l.val s).running = true) && decide (nextTick l.val s = some n) && decide (readyBefore l.val s = []) && decide (inStandby s = false)) &&
    (let l : Fin 192 := 136;
      let s : State := modLoop 136 (fun x => { x with defined := true, running := true, swapPending := true, slots := x.slots.set 0 { LoopSlot.reset with defined := true } }) up;
      let n := (none, 0); decide (136 ≤ l.val) && decide (s.sys.coreUp = true) && decide ((loop l.val s).running = true) && decide (nextTick l.val s = some n) && decide (readyBefore l.val s = []) && decide (inStandby s = false)) &&
    (let l : Fin 192 := 191;
      let s : State := modLoop 191 (fun x => { x with defined := true, running := true, startRing := some 0, swapPending := true, stopAfterSwap := true, slots := x.slots.set 0 { LoopSlot.reset with defined := true, template := 5 } }) up;
      let n := (none, 0); decide (136 ≤ l.val) && decide (s.sys.coreUp = true) && decide ((loop l.val s).running = true) && decide (nextTick l.val s = some n) && decide (readyBefore l.val s = []) && decide (inStandby s = false)) &&
    (let l : Fin 192 := 191;
      let s : State := up; decide ((loop l.val s).handover = none)) &&
    (let l : Fin 192 := 191;
      let h : HandOver := { incoming := 3, window := 16, tol := 5, rate := 0, delta := 0, ticks := 15, gap := 5, ring := none, ladder := false };
      let s : State := modLoop 191 (fun x => { x with handover := some { incoming := 3, window := 16, tol := 5, rate := 0, delta := 0, ticks := 15, gap := 5, ring := none, ladder := false } }) up; decide ((loop l.val s).handover = some h) && decide (h.ticks < h.window)) &&
    (let l : Fin 192 := 191;
      let h : HandOver := { incoming := 3, window := 16, tol := 5, rate := 0, delta := 0, ticks := 16, gap := 5, ring := none, ladder := false };
      let s : State := modLoop 191 (fun x => { x with handover := some { incoming := 3, window := 16, tol := 5, rate := 0, delta := 0, ticks := 16, gap := 5, ring := none, ladder := false } }) up; decide ((loop l.val s).handover = some h) && decide (h.window ≤ h.ticks) && decide (h.gap ≤ h.tol)) &&
    (let l : Fin 192 := 191;
      let h : HandOver := { incoming := 3, window := 16, tol := 5, rate := 0, delta := 0, ticks := 16, gap := 6, ring := some 0, ladder := false };
      let s : State := modSource 0 (fun v => { v with running := some (someRun 0x603 0 .hardware) }) (modLoop 191 (fun x => { x with handover := some { incoming := 3, window := 16, tol := 5, rate := 0, delta := 0, ticks := 16, gap := 6, ring := some 0, ladder := false } }) up); decide ((loop l.val s).handover = some h) && decide (h.window ≤ h.ticks) && decide (h.tol < h.gap))) = true := by decide +kernel

theorem witness_RailEvents : (
    (let r : Fin 10 := 1;
      let m : RailMeas := cycleAt 5000;
      let s : State := modRail 1 (fun x => { x with state := .regulating, target := 5000, ref := 50000000000, plan := { x.plan with vMax := 6000 } }) up; decide ((railCycle r m (cycleBegun r m s)).ovRun < 8) && decide ((r ≠ 0 ∨ s.sys.coreUp = false))) &&
    (let r : Fin 10 := 1;
      let m : RailMeas := cycleAt 5000;
      let s : State := modRail 1 (fun x => { x with state := .softStart, target := 5000, ref := 50, ovRun := 6 }) up; decide ((railCycle r m (cycleBegun r m s)).ovRun < 8) && decide ((r ≠ 0 ∨ s.sys.coreUp = false))) &&
    (let r : Fin 10 := 1;
      let m : RailMeas := cycleAt 0;
      let s : State := modRail 1 (fun x => { x with state := .stopping, target := 5000, ref := 50, stopRing := some 0 }) up; decide ((railCycle r m (cycleBegun r m s)).ovRun < 8) && decide ((r ≠ 0 ∨ s.sys.coreUp = false))) &&
    (let r : Fin 10 := 0;
      let m : RailMeas := cycleAt 0;
      let s : State := { up with sys := { up.sys with coreUp := false } }; decide ((railCycle r m (cycleBegun r m s)).ovRun < 8) && decide ((r ≠ 0 ∨ s.sys.coreUp = false))) &&
    (let r : Fin 10 := 1;
      let m : RailMeas := cycleAt 5000;
      let s : State := modRail 1 (fun x => { x with state := .regulating, target := 100, ref := 1000000000, ovRun := 7 }) up; decide (8 ≤ (railCycle r m (cycleBegun r m s)).ovRun)) &&
    (let r : Fin 10 := 1;
      let m : RailMeas := cycleAt 5000;
      let s : State := modRail 1 (fun x => { x with state := .monitor, target := 100, ref := 1000000000, ovRun := 7 }) up; decide (8 ≤ (railCycle r m (cycleBegun r m s)).ovRun)) &&
    (let r : Fin 10 := 0;
      let m : RailMeas := cycleAt 5000;
      let s : State := modRail 0 (fun x => { x with ovRun := 7 }) up; decide (8 ≤ (railCycle r m (cycleBegun r m s)).ovRun)) &&
    (let r : Fin 10 := 1;
      let s : State := modRail 1 (fun x => { x with state := .regulating, uvTime := 400000 }) up; decide ((rail r s).state = .regulating) && decide (400000 ≤ (rail r s).uvTime) && decide ((rail r s).uvRaised = false)) &&
    (let r : Fin 10 := 1;
      let s : State := modRail 1 (fun x => { x with state := .regulating, uvTime := 400000, uvRaised := true }) up; decide ((rail r s).uvRaised = true)) &&
    (let r : Fin 10 := 1;
      let s : State := modRail 1 (fun x => { x with state := .regulating, limitRun := 64 }) up; decide (shortDue (rail r s) = true)) &&
    (let r : Fin 10 := 0;
      let s : State := modRail 0 (fun x => { x with state := .regulating, limitRun := 64 }) up; decide (shortDue (rail r s) = true)) &&
    (let r : Fin 10 := 0;
      let s : State := modRail 0 (fun x => { x with state := .regulating, lowTime := 100000 }) { up with sys := { up.sys with coreUp := false } }; decide (shortDue (rail r s) = true)) &&
    (let r : Fin 10 := 1;
      let s : State := modRail 1 (fun x => { x with state := .regulating, limitRun := 63 }) up; decide (shortDue (rail r s) = false)) &&
    (let r : Fin 10 := 1;
      let s : State := modRail 1 (fun x => { x with state := .regulating, mode := .de, moveRun := Vector.replicate 3 64 }) up; decide ((rail r s).state = .regulating) && decide ((rail r s).mode = .de) && decide (64 ≤ (rail r s).moveRun[modeNumber .burst]) && decide ((rail r s).moveHold[modeNumber .burst] = 0) && decide ((loop (voltageLoop r) s).handover = none)) &&
    (let r : Fin 10 := 1;
      let s : State := modLoop 137 (fun x => { x with running := true, slots := (x.slots.set 0 { LoopSlot.reset with defined := true }).set 1 { LoopSlot.reset with defined := true } }) (modRail 1 (fun x => { x with state := .regulating, mode := .ccm, moveRun := Vector.replicate 3 64 }) up); decide ((rail r s).state = .regulating) && decide ((rail r s).mode = .ccm) && decide (64 ≤ (rail r s).moveRun[modeNumber .de]) && decide ((rail r s).moveHold[modeNumber .de] = 0) && decide ((loop (voltageLoop r) s).handover = none) && decide ((loop (voltageLoop r) s).running = true) && decide ((loop (voltageLoop r) s).slots[(1 : Fin 4)].defined = true)) &&
    (let r : Fin 10 := 1;
      let s : State := up; decide ((rail r s).state ≠ .regulating)) &&
    (let p : Fin 16 := 15;
      let s : State := up; decide (phaseJudged p s = none)) &&
    (let p : Fin 16 := 15;
      let s : State := up; decide (phaseJudged p s = none)) &&
    (let r : Fin 10 := 1;
      let p : Fin 16 := 4;
      let s : State := modPhase 4 (fun x => { x with state := .active, suspect := 31 }) (modRail 1 (fun x => { x with state := .regulating }) up); decide (phaseJudged p s = some r) && decide (s.supply.phases[p].suspect < 32)) &&
    (let r : Fin 10 := 1;
      let p : Fin 16 := 4;
      let s : State := modPhase 5 (fun x => { x with state := .active }) (modPhase 4 (fun x => { x with state := .active, suspect := 32 }) (modRail 1 (fun x => { x with state := .regulating, current := 500 }) up)); decide (phaseJudged p s = some r) && decide (32 ≤ s.supply.phases[p].suspect) && decide (2 ≤ (activePhases r s).length) && decide (4 * (activePhases r s).length * s.supply.phases[p].rise < (rail r s).current)) &&
    (let r : Fin 10 := 1;
      let p : Fin 16 := 4;
      let s : State := modPhase 5 (fun x => { x with state := .active }) (modPhase 4 (fun x => { x with state := .active, rangeRun := 8 }) (modRail 1 (fun x => { x with state := .regulating, current := 500 }) up)); decide (phaseJudged p s = some r) && decide (8 ≤ s.supply.phases[p].rangeRun) && decide (s.supply.phases[p].state ≠ .dutyMirror)) &&
    (let r : Fin 10 := 1;
      let p : Fin 16 := 4;
      let s : State := modPhase 4 (fun x => { x with state := .active, rangeRun := 8 }) (modRail 1 (fun x => { x with state := .regulating, current := 500 }) up); decide (phaseJudged p s = some r) && decide (8 ≤ s.supply.phases[p].rangeRun) && decide (s.supply.phases[p].state ≠ .dutyMirror)) &&
    (let r : Fin 10 := 1;
      let s : State := modRail 1 (fun x => { x with state := .softStart, target := 100, ref := 1000000000, powerGood := true, startRing := some 0 }) (modSource 0 (fun v => { v with running := some (someRun 0x702 1 .hardware) }) up); decide ((rail r s).state = .softStart) && decide ((rail r s).ref = refGoal r s) && decide ((rail r s).powerGood = true)) &&
    (let r : Fin 10 := 1;
      let s : State := up; decide ((rail r s).state ≠ .softStart)) &&
    (let r : Fin 10 := 1;
      let s : State := modRail 1 (fun x => { x with state := .stopping, target := 100, ref := 0, stopRing := some 0 }) (modSource 0 (fun v => { v with running := some (someRun 0x703 1 .hardware) }) up); decide ((rail r s).state = .stopping) && decide ((rail r s).ref = 0) && decide (s.sys.transition = .none)) &&
    (let r : Fin 10 := 1;
      let s : State := modRail 1 (fun x => { x with state := .stopping, target := 100, ref := 0, faultBy := [256] }) up; decide ((rail r s).state = .stopping) && decide ((rail r s).ref = 0) && decide (s.sys.transition = .none)) &&
    (let r : Fin 10 := 1;
      let s : State := up; decide ((rail r s).state ≠ .stopping))) = true := by decide +kernel

theorem witness_RailEventsTwo : (
    (let s : State := { up with sys := { up.sys with coreUp := false }, supply := { up.supply with bootFault := true, bootRetries := 7 } }; decide (s.sys.coreUp = false) && decide (s.supply.bootFault = true) && decide (s.supply.bootRetries.toNat < 8)) &&
    (let s : State := { up with sys := { up.sys with coreUp := false, vauxValid := false }, supply := { up.supply with bootFault := true, bootRetries := 7 } }; decide (s.sys.coreUp = false) && decide (s.supply.bootFault = true) && decide (s.supply.bootRetries.toNat < 8)) &&
    (let s : State := up; decide ((s.sys.coreUp = true ∨ s.supply.bootFault = false ∨ 8 ≤ s.supply.bootRetries.toNat))) &&
    (let s : State := { up with sys := { up.sys with coreUp := false }, supply := { up.supply with bootFault := true, bootRetries := 8 } }; decide ((s.sys.coreUp = true ∨ s.supply.bootFault = false ∨ 8 ≤ s.supply.bootRetries.toNat))) &&
    (let s : State := { up with sys := { up.sys with coreUp := false } }; decide (s.sys.coreUp = false) && decide (bootAllowed s = true) && decide ((rail 0 s).state = .regulating)) &&
    (let s : State := up; decide (s.sys.coreUp = true))) = true := by decide +kernel

theorem witness_ThermalEvents : (
    (let n : Fin 32 := 23;
      let s : State := modSensor 23 (fun x => { x with warnUp := 4 }) up; decide (s.sys.coreUp = true) && decide ((sensor n.val s).warn = false) && decide ((sensor n.val s).par.dwell ≤ (sensor n.val s).warnUp)) &&
    (let n : Fin 32 := 31;
      let s : State := modSensor 31 (fun x => { x with warnUp := 4 }) chanRich; decide (s.sys.coreUp = true) && decide ((sensor n.val s).warn = false) && decide ((sensor n.val s).par.dwell ≤ (sensor n.val s).warnUp)) &&
    (let n : Fin 32 := 23;
      let s : State := modSensor 23 (fun x => { x with stopUp := 4 }) up; decide (s.sys.coreUp = true) && decide ((sensor n.val s).stop = false) && decide ((sensor n.val s).par.dwell ≤ (sensor n.val s).stopUp) && decide (n.val < 24) && decide (s.sys.power = .active) && decide (s.sys.transition = .none)) &&
    (let n : Fin 32 := 23;
      let s : State := modSensor 23 (fun x => { x with stopUp := 4 }) { chanRich with twin := { chanRich.twin with owner := true, state := .lockstep } }; decide (s.sys.coreUp = true) && decide ((sensor n.val s).stop = false) && decide ((sensor n.val s).par.dwell ≤ (sensor n.val s).stopUp) && decide (n.val < 24) && decide (s.sys.power = .active) && decide (s.sys.transition = .none)) &&
    (let n : Fin 32 := 23;
      let s : State := modSensor 23 (fun x => { x with stop := true, stopDown := 4 }) up; decide (s.sys.coreUp = true) && decide ((sensor n.val s).stop = true) && decide ((sensor n.val s).par.dwell ≤ (sensor n.val s).stopDown)) &&
    (let n : Fin 32 := 31;
      let s : State := modSensor 31 (fun x => { x with stop := true, stopDown := 4 }) up; decide (s.sys.coreUp = true) && decide ((sensor n.val s).stop = true) && decide ((sensor n.val s).par.dwell ≤ (sensor n.val s).stopDown)) &&
    (let s : State := { up with sys := { up.sys with coreUp := false } }; decide (s.sys.coreUp = false)) &&
    (let n : Fin 32 := 31;
      let s : State := modSensor 31 (fun x => { x with failed := true, plausible := 1000, reading := 77 }) up; decide ((sensor n.val s).failed = true) && decide (1000 ≤ (sensor n.val s).plausible)) &&
    (let n : Fin 32 := 0;
      let s : State := modSensor 0 (fun x => { x with failed := true, plausible := 1000, reading := 77 }) up; decide ((sensor n.val s).failed = true) && decide (1000 ≤ (sensor n.val s).plausible)) &&
    (let n : Fin 32 := 31;
      let s : State := up; decide ((sensor n.val s).failed = false)) &&
    (let s : State := { up with thermal := { up.thermal with below := 60000 }, sys := { up.sys with power := .stopped, stopReason := 4 } }; decide (s.sys.stopReason = 4) && decide (60000 ≤ s.thermal.below) && decide (s.sys.power = .stopped) && decide (s.sys.transition = .none) && decide ((recentRestarts s).length < 3)) &&
    (let s : State := { modRail 3 (fun x => { x with state := .off }) up with thermal := { up.thermal with below := 60000 }, sys := { up.sys with power := .stopped, stopReason := 4, stoppedRails := 8, restarts := [0, 0] } }; decide (s.sys.stopReason = 4) && decide (60000 ≤ s.thermal.below) && decide (s.sys.power = .stopped) && decide (s.sys.transition = .none) && decide ((recentRestarts s).length < 3)) &&
    (let s : State := up; decide (s.sys.stopReason ≠ 4)) &&
    (let s : State := up; decide (s.sys.vauxValid = true) && decide (s.sys.npt.critHold = false)) &&
    (let s : State := { up with sys := { up.sys with coreUp := false } }; decide (s.sys.vauxValid = true) && decide (s.sys.npt.critHold = false)) &&
    (let n : Fin 32 := 23;
      let s : State := modNpt (fun n => { n with critHold := true }) up; decide (s.sys.npt.critHold = true)) &&
    (let n : Fin 32 := 23;
      let s : State := modNpt (fun n => { n with critHold := true, critLatched := true }) { up with sys := { up.sys with coreUp := false } }; decide (s.sys.npt.critHold = true)) &&
    (let s : State := up; decide (s.sys.npt.critHold = false)) &&
    (let s : State := up; decide (s.sys.coreUp = true)) &&
    (let s : State := { up with thermal := { up.thermal with life := Vector.replicate 24 7 } }; decide (s.sys.coreUp = true)) &&
    (let a : Bool := true;
      let s : State := { up with sys := { up.sys with coreUp := false } }; decide ((s.sys.coreUp = false ∨ a ≠ decide ((s.thermal.checkMinute + 1) % 60 = 0)))) &&
    (let s : State := up; decide (s.sys.coreUp = true)) &&
    (let s : State := { up with opBase := 90000000000 }; decide (s.sys.coreUp = true)) &&
    (let s : State := { up with sys := { up.sys with coreUp := false } }; decide (s.sys.coreUp = false))) = true := by decide +kernel

theorem witness_FaultEvents : (
    (let e : FaultEvt := { src := 55, obj := 0, detail := 9 };
      let s : State := up; decide (s.sys.coreUp = true) && decide (s.faults.inbox = []) && decide (s.faults.due = []) && decide (allocated e.src.val = true) && decide (1 ≤ (faultSrc e.src.val s).par.ceiling)) &&
    (let e : FaultEvt := { src := 3, obj := 0, detail := 9 };
      let s : State := modFault 3 (fun x => { x with state := .parked, events := 0xFFFF }) chanRich; decide (s.sys.coreUp = true) && decide (s.faults.inbox = []) && decide (s.faults.due = []) && decide (allocated e.src.val = true) && decide (1 ≤ (faultSrc e.src.val s).par.ceiling)) &&
    (let e : FaultEvt := { src := 256, obj := 0x5000, detail := 9 };
      let s : State := modFault 256 (fun x => { x with state := .minor }) made; decide (s.sys.coreUp = true) && decide (s.faults.inbox = []) && decide (s.faults.due = []) && decide (allocated e.src.val = true) && decide (1 ≤ (faultSrc e.src.val s).par.ceiling)) &&
    (let e : FaultEvt := { src := 66, obj := 0x1003, detail := 9 };
      let s : State := made; decide (s.sys.coreUp = true) && decide (s.faults.inbox = []) && decide (s.faults.due = []) && decide (allocated e.src.val = true) && decide (1 ≤ (faultSrc e.src.val s).par.ceiling)) &&
    (let e : FaultEvt := { src := 68, obj := 0x1003, detail := 9 };
      let s : State := { up with now := 31 }; decide (s.sys.coreUp = true) && decide (s.faults.inbox = []) && decide (s.faults.due = []) && decide (allocated e.src.val = true) && decide (1 ≤ (faultSrc e.src.val s).par.ceiling)) &&
    (let s : State := { up with sys := { up.sys with coreUp := false } }; decide (s.sys.coreUp = false)) &&
    (let s : State := up; decide (s.faults.inbox = [])) &&
    (let n : Fin 512 := 55;
      let s : State := modFault 55 (fun x => { x with state := .notice, lastTick := 0 }) up; decide (s.sys.coreUp = true) && decide (s.faults.inbox = []) && decide (s.faults.due = []) && decide ((faultSrc n.val s).state = .notice) && decide (quietens n s = true)) &&
    (let n : Fin 512 := 55;
      let s : State := modFault 55 (fun x => { x with state := .notice, lastTick := 5 }) { up with now := 30720 }; decide (s.sys.coreUp = true) && decide (s.faults.inbox = []) && decide (s.faults.due = []) && decide ((faultSrc n.val s).state = .notice) && decide (quietens n s = true)) &&
    (let n : Fin 512 := 55;
      let s : State := up; decide (s.faults.due = []) && decide ((faultSrc n.val s).state = .clear))) = true := by decide +kernel

theorem witness_FactoryStrapsStop : (
    (let x : Straps := { mode := 2, bootv := 0, devid := 0, twinSel := false };
      let s : State := { up with sys := { up.sys with vauxValid := false } }; decide (2 ≤ x.mode.toNat) && decide (s.sys.vauxValid = false)) &&
    (let x : Straps := { mode := 3, bootv := 7, devid := 15, twinSel := true };
      let s : State := modNpt (fun n => { n with boardHold := true }) up; decide (2 ≤ x.mode.toNat) && decide (s.sys.npt.boardHold = true)) &&
    (let x : Straps := { mode := 2, bootv := 0, devid := 0, twinSel := false };
      let s : State := { up with sys := { up.sys with resetDueTick := some 0 } }; decide (2 ≤ x.mode.toNat) && decide (s.sys.coreUp = true) && decide ((∃ n, s.sys.resetDueTick = some n ∧ n ≤ s.slowTicks))) &&
    (let x : Straps := { mode := 1, bootv := 7, devid := 15, twinSel := true };
      let s : State := { up with sys := { up.sys with vauxValid := false } }; decide (x.mode.toNat < 2) && decide (s.sys.vauxValid = false)) &&
    (let x : Straps := { mode := 0, bootv := 7, devid := 15, twinSel := true };
      let s : State := { chanRich with sys := { up.sys with vauxValid := false, coreUp := false } }; decide (x.mode.toNat < 2) && decide (s.sys.vauxValid = false)) &&
    (let x : Straps := { mode := 1, bootv := 7, devid := 15, twinSel := true };
      let s : State := modNpt (fun n => { n with boardHold := true }) { up with sys := { up.sys with coreUp := false } }; decide (x.mode.toNat < 2) && decide (s.sys.npt.boardHold = true)) &&
    (let x : Straps := { mode := 1, bootv := 7, devid := 15, twinSel := true };
      let s : State := { chanRich with sys := { up.sys with resetDueTick := some 0 } }; decide (x.mode.toNat < 2) && decide (s.sys.coreUp = true) && decide ((∃ n, s.sys.resetDueTick = some n ∧ n ≤ s.slowTicks))) &&
    (let s : State := up; decide (s.sys.vauxValid = true)) &&
    (let s : State := up; decide (s.sys.npt.boardHold = false)) &&
    (let s : State := up; decide (s.sys.resetDueTick = none))) = true := by decide +kernel

theorem witness_SupplyWatchEvents : (
    (let s : State := up; decide (s.sys.vauxValid = true)) &&
    (let s : State := { chanRich with sys := { up.sys with coreUp := false } }; decide (s.sys.vauxValid = true)) &&
    (let s : State := { up with sys := { up.sys with vauxValid := false } }; decide (s.sys.vauxValid = false)) &&
    (let s : State := up; decide (s.sys.vauxValid = true) && decide (s.sys.npt.below.getLsbD 0 = false) && decide (s.sys.coreUp = true)) &&
    (let s : State := modGb (fun g => { g with queue := List.replicate 5 { cls := 1, severity := 0, source := 0, code := 1, simul := false, late := false, payload := [], timeUs := 0, events := [] } }) up; decide (s.sys.vauxValid = true) && decide (s.sys.npt.below.getLsbD 0 = false) && decide (s.sys.coreUp = true)) &&
    (let s : State := modNpt (fun n => { n with below := 1 }) up; decide (s.sys.npt.below.getLsbD 0 = true)) &&
    (let s : State := modNpt (fun n => { n with below := 0xF }) (modGb (fun g => { g with intakeClosed := true }) up); decide (s.sys.npt.below.getLsbD 0 = true)) &&
    (let s : State := up; decide (s.sys.npt.below.getLsbD 0 = false)) &&
    (let b : Bool := true;
      let s : State := modNpt (fun n => { n with armed := 0xF }) up; decide (s.sys.vauxValid = true) && decide (s.sys.npt.armed.getLsbD (comparatorOf b) = true) && decide (s.sys.npt.held.getLsbD (comparatorOf b) = false)) &&
    (let b : Bool := false;
      let s : State := modNpt (fun n => { n with armed := 0xF }) chanRich; decide (s.sys.vauxValid = true) && decide (s.sys.npt.armed.getLsbD (comparatorOf b) = true) && decide (s.sys.npt.held.getLsbD (comparatorOf b) = false)) &&
    (let b : Bool := false;
      let s : State := up; decide (s.sys.npt.armed.getLsbD (comparatorOf b) = false)) &&
    (let b : Bool := true;
      let s : State := modNpt (fun n => { n with held := 0xF }) { up with sys := { up.sys with coreUp := false } }; decide (s.sys.npt.held.getLsbD (comparatorOf b) = true)) &&
    (let b : Bool := false;
      let s : State := up; decide (s.sys.npt.held.getLsbD (comparatorOf b) = false)) &&
    (let s : State := up; decide (s.sys.vauxValid = true) && decide (s.sys.npt.boardHold = false)) &&
    (let s : State := { up with sys := { up.sys with coreUp := false } }; decide (s.sys.vauxValid = true) && decide (s.sys.npt.boardHold = false)) &&
    (let s : State := modNpt (fun n => { n with boardHold := true }) up; decide (s.sys.npt.boardHold = true))) = true := by decide +kernel

theorem witness_SleepEvents : (
    (let s : State := { up with sys := { up.sys with power := .starting, rfReady := false } }; decide (s.sys.coreUp = true) && decide (s.sys.innkeeper = .running) && decide (s.sys.rfReady = false) && decide (replayDone s = true) && decide (blocksFormed s = true) && decide (s.sys.power = .starting) && decide (s.sys.transition = .none)) &&
    (let s : State := up; decide (s.sys.rfReady = true)) &&
    (let s : State := { chanRich with sys := { up.sys with transition := .sleeping 4, sleepAfterS := 60 } }; decide (s.sys.transition = .sleeping 4) && decide (s.sys.npt.wakeLatched = none)) &&
    (let s : State := up; decide (s.sys.transition ≠ .sleeping 4)) &&
    (let s : State := { chanRich with sys := { up.sys with sleepAfterS := 10, lossSinceTick := some 0, wokeTick := some 0, power := .quiet }, slowTicks := 60000 };
      let n := 0; decide (s.sys.coreUp = true) && decide (s.sys.sleepAfterS ≠ 0) && decide (s.sys.lossSinceTick = some n) && decide (n + 1000 * s.sys.sleepAfterS ≤ s.slowTicks) && decide ((∀ w, s.sys.wokeTick = some w → w + 1000 * s.sys.wakeHoldS ≤ s.slowTicks)) && decide (sleepRefused s = none) && decide (s.sys.transition = .none) && decide ((s.sys.power = .active ∨ s.sys.power = .quiet ∨ s.sys.power = .stopped))) &&
    (let s : State := { chanRich with sys := { up.sys with sleepAfterS := 10, lossSinceTick := some 0, power := .stopped }, slowTicks := 10000 };
      let n := 0; decide (s.sys.coreUp = true) && decide (s.sys.sleepAfterS ≠ 0) && decide (s.sys.lossSinceTick = some n) && decide (n + 1000 * s.sys.sleepAfterS ≤ s.slowTicks) && decide ((∀ w, s.sys.wokeTick = some w → w + 1000 * s.sys.wakeHoldS ≤ s.slowTicks)) && decide (sleepRefused s = none) && decide (s.sys.transition = .none) && decide ((s.sys.power = .active ∨ s.sys.power = .quiet ∨ s.sys.power = .stopped))) &&
    (let s : State := up; decide (s.sys.sleepAfterS = 0)) &&
    (let r : Vector (List Int) 8 := Vector.replicate 8 [-3000, -3000, -3000, -3000];
      let s : State := modNpt (fun n => { n with wk := n.wk.set 7 { n.wk[7] with enable := true } }) { chanRich with sys := { up.sys with power := .sleep, coreUp := false } }; decide (s.sys.power = .sleep) && decide (s.sys.coreUp = false) && decide ((∃ n ∈ detecting r s, s.sys.npt.wk[n].activity = false))) &&
    (let r : Vector (List Int) 8 := Vector.replicate 8 [-3000, -3000, -3000, -3000];
      let s : State := modNpt (fun n => { n with wk := n.wk.set 7 { n.wk[7] with enable := true, activity := true } }) { chanRich with sys := { up.sys with power := .sleep, coreUp := false } }; decide (s.sys.power = .sleep) && decide (s.sys.coreUp = false) && decide (detecting r s ≠ []) && decide ((∀ n ∈ detecting r s, s.sys.npt.wk[n].activity = true))) &&
    (let r : Vector (List Int) 8 := Vector.replicate 8 [-3000, -3000, -3000, -3000];
      let s : State := up; decide (detecting r s = [])) &&
    (let s : State := modNpt (fun n => { n with alarm := 5 }) { up with gb := { up.gb with wallValid := true, wallSeconds := 5 }, sys := { up.sys with power := .sleep, coreUp := false } }; decide (s.sys.npt.alarm ≠ 0) && decide (s.gb.wallValid = true) && decide ((wallNow s).toNat ≤ s.sys.npt.alarm.toNat) && decide (s.sys.power = .sleep) && decide (s.sys.coreUp = false)) &&
    (let s : State := up; decide (s.sys.npt.alarm = 0)) &&
    (let s : State := { up with sys := { up.sys with perst := true, wakeN := true } }; decide (s.sys.perst = true)) &&
    (let s : State := { up with sys := { up.sys with perst := true, wakeN := true, power := .sleep, coreUp := false } }; decide (s.sys.perst = true)) &&
    (let s : State := up; decide (s.sys.perst = false))) = true := by decide +kernel

theorem witness_TrustEvents : (
    (let n : Fin 4 := 3;
      let k : Fin 4 := 0;
      let s : State := up; decide (k ≠ n) && decide (s.sys.coreUp = true) && decide (s.sys.innkeeper = .running)) &&
    (let n : Fin 4 := 3;
      let k : Fin 4 := 0;
      let s : State := chanRich; decide (k ≠ n) && decide (s.sys.coreUp = true) && decide (s.sys.innkeeper = .running)) &&
    (let n : Fin 4 := 3;
      let k : Fin 4 := 0;
      let s : State := State.reset; decide (k ≠ n) && decide (s.sys.innkeeper ≠ .running)) &&
    (let n : Fin 4 := 3;
      let k : Fin 4 := 0;
      let s : State := { chanRich with sys := { up.sys with innkeeper := .restarting, restartForPatch := true } }; decide (k ≠ n) && decide (s.sys.coreUp = true) && decide (s.sys.innkeeper = .restarting)) &&
    (let n : Fin 4 := 3;
      let k : Fin 4 := 0;
      let s : State := up; decide (k ≠ n) && decide (s.sys.innkeeper ≠ .restarting)) &&
    (let n : Fin 4 := 3;
      let k : Fin 4 := 0;
      let s : State := { up with opBase := hourUs, sys := { up.sys with romOnly := false, patchSlot := true, slotB := { PatchSlot.reset with valid := true, security := 9 } } }; decide (k ≠ n) && decide (s.sys.coreUp = true) && decide (s.sys.innkeeper = .running) && decide (s.sys.romOnly = false) && decide (s.sys.bootUs + hourUs ≤ opTime s)) &&
    (let n : Fin 4 := 3;
      let k : Fin 4 := 0;
      let s : State := up; decide (k ≠ n) && decide (s.sys.romOnly = true)) &&
    (let n : Fin 4 := 3;
      let k : Fin 4 := 0;
      let s : State := { modLodger 3 (fun x => { x with state := .running, watchdogMs := 10, retained := [(1, 1)], image := some { autostart := false, autorestart := true, entry := 0, version := 0, crc := 0, body := [] } }) up with slowTicks := 11 }; decide (k ≠ n) && decide (s.sys.coreUp = true) && decide ((lodger n s).state = .running) && decide ((lodger n s).watchdogMs ≠ 0) && decide ((lodger n s).kickedTick + (lodger n s).watchdogMs < s.slowTicks)) &&
    (let n : Fin 4 := 3;
      let k : Fin 4 := 0;
      let s : State := up; decide (k ≠ n) && decide ((lodger n s).watchdogMs = 0)) &&
    (let n : Fin 4 := 3;
      let k : Fin 4 := 0;
      let s : State := { modLodger 3 (fun x => { x with state := .stopped, restartDue := true }) up with slowTicks := 1000 }; decide (k ≠ n) && decide (s.sys.coreUp = true) && decide ((lodger n s).state = .stopped) && decide ((lodger n s).restartDue = true) && decide ((faultSrc (4 + n.val) s).state ≠ .parked) && decide ((lodger n s).kickedTick + 1000 ≤ s.slowTicks)) &&
    (let n : Fin 4 := 3;
      let k : Fin 4 := 0;
      let s : State := up; decide (k ≠ n) && decide ((lodger n s).restartDue = false)) &&
    (let n : Fin 4 := 3;
      let k : Fin 4 := 0;
      let s : State := modLodger 3 (fun x => { x with state := .running }) up; decide (k ≠ n) && decide (s.sys.coreUp = true) && decide ((lodger n s).state = .running)) &&
    (let n : Fin 4 := 3;
      let k : Fin 4 := 0;
      let s : State := up; decide (k ≠ n) && decide ((lodger n s).state ≠ .running))) = true := by decide +kernel

theorem witness_GuestbookEvents : (
    (let e : GbEntry := anEntry 8;
      let s : State := up; decide (e.cls ≠ 0) && decide (e.cls ≠ 2) && decide (gbRoom e.cls s = true)) &&
    (let e : GbEntry := anEntry 6;
      let s : State := withGb (fun g => { g with queue := List.replicate 63 (anEntry 2) }); decide (e.cls ≠ 0) && decide (e.cls ≠ 2) && decide (gbRoom e.cls s = true)) &&
    (let e : GbEntry := anEntry 5;
      let s : State := withGb (fun g => { g with queue := List.replicate 59 (anEntry 2) }); decide (e.cls ≠ 0) && decide (e.cls ≠ 2) && decide (gbRoom e.cls s = true)) &&
    (let e : GbEntry := anEntry 3;
      let s : State := withGb (fun g => { g with queue := List.replicate 60 (anEntry 2) }); decide (e.cls ≠ 0) && decide (e.cls ≠ 2) && decide (gbRoom e.cls s = false)) &&
    (let e : GbEntry := anEntry 1;
      let s : State := withGb (fun g => { g with queue := List.replicate 64 (anEntry 2) }); decide (e.cls ≠ 0) && decide (e.cls ≠ 2) && decide (gbRoom e.cls s = false)) &&
    (let e : GbEntry := anEntry 1;
      let s : State := withGb (fun g => { g with intakeClosed := true, overflow := Vector.replicate 9 0xFFFFFFFF }); decide (e.cls ≠ 0) && decide (e.cls ≠ 2) && decide (gbRoom e.cls s = false)) &&
    (let e : GbEntry := anEntry 0; decide (e.cls = 0)) &&
    (let s : State := withGb (fun g => { g with collectorWait := [anEntry 5] });
      let f := anEntry 5;
      let rest := []; decide (s.gb.collectorWait = f :: rest)) &&
    (let s : State := up; decide (s.gb.collectorWait = [])) &&
    (let s : State := withGb (fun g => { g with queue := [anEntry 5] });
      let f := anEntry 5;
      let rest := []; decide (s.sys.coreUp = true) && decide (s.gb.intakeClosed = false) && decide (mayTake s = true) && decide (s.gb.queue = f :: rest) && decide (s.gb.collectorWait = [])) &&
    (let s : State := withGb (fun g => { g with queue := [anEntry 5, anEntry 2], tail := some (aTail true) });
      let f := anEntry 5;
      let rest := [anEntry 2]; decide (s.sys.coreUp = true) && decide (s.gb.intakeClosed = false) && decide (mayTake s = true) && decide (s.gb.queue = f :: rest) && decide (s.gb.collectorWait = [])) &&
    (let s : State := up; decide (s.gb.queue = [])) &&
    (let s : State := { withGb (fun g => { g with tail := some (aTail true) }) with slowTicks := 1001 };
      let v := aTail true; decide (s.gb.tail = some v) && decide (s.sys.coreUp = true) && decide (v.isOpen = true) && decide (v.lastRepeatTick + 1000 < s.slowTicks)) &&
    (let s : State := up; decide (s.gb.tail = none)) &&
    (let s : State := { withGb (fun g => { g with tail := some (aTail true) }) with slowTicks := 1001 };
      let v := aTail true; decide (s.gb.tail = some v) && decide (s.sys.coreUp = true) && decide (v.isOpen = true) && decide (v.snapshotTick + 1000 ≤ s.slowTicks) && decide (v.entry.repeats ≠ v.snapshotRepeats)) &&
    (let s : State := up; decide (s.gb.tail = none)) &&
    (let s : State := withGb (fun g => { g with staged := [{ entry := (aTail true).entry, isOpen := true }], committing := true }); decide (s.gb.staged ≠ [])) &&
    (let s : State := up; decide (s.gb.staged = [])) &&
    (let s : State := withGb (fun g => { g with erasing := true }); decide ((s.gb.intakeClosed = false ∨ s.gb.committing = false))) &&
    (let s : State := withGb (fun g => { g with intakeClosed := true, committing := true }); decide (s.gb.intakeClosed = true) && decide (s.gb.committing = true)) &&
    (let s : State := up; decide (s.sys.coreUp = true)) &&
    (let s : State := { up with sys := { up.sys with coreUp := false } }; decide (s.sys.coreUp = false))) = true := by decide +kernel

theorem witness_FabricEvents : (
    (let l : Fin 5 := 4;
      let s : State := fabricUp; decide ((link l.val s).carries = false)) &&
    (let l : Fin 5 := 0;
      let s : State := modLink 0 (fun x => { x with state := .reclaiming }) fabricUp; decide ((link l.val s).carries = false)) &&
    (let l : Fin 5 := 0;
      let f : ObxFrame := { aFrame .block with crcOk := false };
      let s : State := fabricUp; decide ((link l.val s).carries = true) && decide (s.sys.coreUp = true) && decide (f.crcOk = false)) &&
    (let l : Fin 5 := 4;
      let f : ObxFrame := { aFrame .mirror with crcOk := false };
      let s : State := twinUp; decide ((link l.val s).carries = true) && decide (s.sys.coreUp = true) && decide (f.crcOk = false)) &&
    (let l : Fin 5 := 0;
      let f : ObxFrame := aFrame .block;
      let s : State := fabricUp; decide ((link l.val s).carries = true) && decide (s.sys.coreUp = true) && decide (f.crcOk = true) && decide (f.nak = false) && decide (f.kind = .block) && decide (f.seq = (link l.val s).recvSeq)) &&
    (let l : Fin 5 := 0;
      let f : ObxFrame := { aFrame .block with seq := 4095, dst := 3, hops := 6 };
      let s : State := modLink 0 (fun x => { x with recvSeq := 4095 }) fabricUp; decide ((link l.val s).carries = true) && decide (s.sys.coreUp = true) && decide (f.crcOk = true) && decide (f.nak = false) && decide (f.kind = .block) && decide (f.seq = (link l.val s).recvSeq)) &&
    (let l : Fin 5 := 0;
      let s : State := modLink 0 (fun x => { x with replay := [aFrame .block] }) fabricUp; decide ((link l.val s).carries = true) && decide ((link l.val s).replay ≠ [])) &&
    (let l : Fin 5 := 4;
      let s : State := modLink 4 (fun x => { x with replay := [aFrame .mirror], retries := 0xFFFFFFFF }) twinUp; decide ((link l.val s).carries = true) && decide ((link l.val s).replay ≠ [])) &&
    (let l : Fin 5 := 0;
      let s : State := fabricUp; decide ((link l.val s).replay = [])) &&
    (let l : Fin 5 := 0;
      let lanes : BitVec 4 := 1;
      let s : State := fabricUp;
      let p := 12; decide ((link l.val s).state = .active) && decide ((link l.val s).lanes &&& lanes ≠ 0) && decide (wholePair ((link l.val s).lanes &&& ~~~lanes) = some p) && decide ((link l.val s).replay = [])) &&
    (let l : Fin 5 := 0;
      let lanes : BitVec 4 := 8;
      let s : State := fabricUp;
      let p := 3; decide ((link l.val s).state = .active) && decide ((link l.val s).lanes &&& lanes ≠ 0) && decide (wholePair ((link l.val s).lanes &&& ~~~lanes) = some p) && decide ((link l.val s).replay = [])) &&
    (let l : Fin 5 := 0;
      let s : State := fabricUp; decide ((link l.val s).carries = true)) &&
    (let l : Fin 5 := 4;
      let s : State := twinUp; decide ((link l.val s).carries = true)) &&
    (let l : Fin 5 := 3;
      let s : State := fabricUp; decide ((link l.val s).carries = false)) &&
    (let l : Fin 5 := 0;
      let lanes : BitVec 4 := 0;
      let s : State := fabricUp; decide ((link l.val s).lanes &&& lanes = 0)) &&
    (let l : Fin 5 := 0;
      let lanes : BitVec 4 := 1;
      let r : TrainResult := { lanes := 0xF, neighbour := 1, exchanges := List.replicate 16 { sent := 0, arrivedThere := 6, sentThere := 0, arrived := 0 } };
      let s : State := modLink 0 (fun x => { x with state := .training }) up;
      let o := 3; decide ((link l.val s).state = .training) && decide (trainedLanes r.lanes = some 0xF) && decide (agreedOffset r.exchanges = some o) && decide (r.neighbour.val ≠ deviceAddress s) && decide (l.val < 4)) &&
    (let l : Fin 5 := 3;
      let lanes : BitVec 4 := 1;
      let r : TrainResult := { lanes := 0xF, neighbour := 15, exchanges := List.replicate 8 { sent := 0, arrivedThere := 0, sentThere := 0, arrived := 14 } ++ List.replicate 8 { sent := 0, arrivedThere := 0, sentThere := 0, arrived := 12 } };
      let s : State := modLink 3 (fun x => { x with state := .training }) up;
      let o := -7; decide ((link l.val s).state = .training) && decide (trainedLanes r.lanes = some 0xF) && decide (agreedOffset r.exchanges = some o) && decide (r.neighbour.val ≠ deviceAddress s) && decide (l.val < 4)) &&
    (let l : Fin 5 := 0;
      let s : State := fabricUp; decide ((link l.val s).state ≠ .training)) &&
    (let l : Fin 5 := 0;
      let s : State := { modLink 0 (fun x => { x with state := .reclaiming, released := 7 }) fabricUp with slowTicks := 101 }; decide ((link l.val s).state = .reclaiming) && decide ((link l.val s).downAt + 100 < s.slowTicks)) &&
    (let l : Fin 5 := 0;
      let s : State := fabricUp; decide ((link l.val s).state ≠ .reclaiming))) = true := by decide +kernel

theorem witness_TwinEvents : (
    (let s : State := twinUp; decide (twinStrapped s = true) && decide (s.sys.coreUp = true) && decide ((link 4 s).carries = true)) &&
    (let s : State := up; decide (twinStrapped s = false)) &&
    (let s : State := modTwin (fun t => { t with state := .lockstep }) twinUp; decide (twinStrapped s = true) && decide (s.sys.coreUp = true) && decide (s.twin.state ≠ .solo)) &&
    (let s : State := modTwin (fun t => { t with state := .detached }) twinUp; decide (twinStrapped s = true) && decide (s.sys.coreUp = true) && decide (s.twin.state ≠ .solo)) &&
    (let s : State := modTwin (fun t => { t with state := .lockstep }) standbyUp; decide (twinStrapped s = true) && decide (s.sys.coreUp = true) && decide (s.twin.state ≠ .solo)) &&
    (let s : State := modTwin (fun t => { t with state := .solo }) twinUp; decide (s.twin.state = .solo)) &&
    (let s : State := modTwin (fun t => { t with ownerOut := true, owner := true }) standbyUp; decide (twinStrapped s = true) && decide (s.sys.coreUp = true) && decide (s.twin.ownerOut = true) && decide (deviceAddress s % 2 = 1)) &&
    (let s : State := twinUp; decide (twinStrapped s = true) && decide (s.sys.coreUp = true) && decide (deviceAddress s % 2 = 0)) &&
    (let s : State := up; decide (twinStrapped s = false)) &&
    (let s : State := standbyUp; decide (inStandby s = true) && decide (s.sys.coreUp = true) && decide (s.twin.hand = none) && decide (s.twin.state = .lockstep)) &&
    (let s : State := standbyUp; decide (inStandby s = true) && decide (s.sys.coreUp = true) && decide (s.twin.hand = none) && decide (s.twin.state = .lockstep)) &&
    (let s : State := modTwin (fun t => { t with state := .detached, par := { t.par with takeoverDetached := false } }) standbyUp; decide (inStandby s = true) && decide (s.sys.coreUp = true) && decide (s.twin.hand = none) && decide (s.twin.state ≠ .lockstep) && decide (s.twin.par.takeoverDetached = false)) &&
    (let s : State := modTwin (fun t => { t with state := .detached, par := { t.par with takeoverDetached := false } }) standbyUp; decide (inStandby s = true) && decide (s.sys.coreUp = true) && decide (s.twin.hand = none) && decide (s.twin.state ≠ .lockstep) && decide (s.twin.par.takeoverDetached = false)) &&
    (let s : State := twinUp; decide (inStandby s = false)) &&
    (let s : State := modTwin (fun t => { t with aliveOut := true }) twinUp; decide (s.twin.aliveOut = true)) &&
    (let s : State := modTwin (fun t => { t with aliveOut := false }) twinUp; decide (s.twin.aliveOut = false)) &&
    (let s : State := { modTwin (fun t => { t with ownerIn := false, par := { t.par with claimWaitMs := 50 } }) standbyUp with slowTicks := 50 }; decide (inStandby s = true) && decide (s.sys.coreUp = true) && decide (deviceAddress s % 2 = 1) && decide (s.twin.ownerIn = false) && decide (s.twin.ownerLowAt + s.twin.par.claimWaitMs ≤ s.slowTicks)) &&
    (let s : State := modTwin (fun t => { t with ownerIn := true }) standbyUp; decide (s.twin.ownerIn = true)) &&
    (let h : TwinHand := { x := 100, cause := 0, ring := none, acked := true };
      let s : State := handing true; decide (s.twin.hand = some h) && decide (h.acked = true) && decide (s.sys.coreUp = true)) &&
    (let h : TwinHand := { x := 100, cause := 1, ring := none, acked := true };
      let s : State := modTwin (fun t => { t with hand := some { x := 100, cause := 1, ring := none, acked := true } }) standbyUp; decide (s.twin.hand = some h) && decide (h.acked = true) && decide (s.sys.coreUp = true)) &&
    (let h : TwinHand := { x := 100, cause := 0, ring := none, acked := false };
      let s : State := handing false; decide (s.twin.hand = some h) && decide (h.acked = false)) &&
    (let s : State := twinUp; decide (s.twin.hand = none)) &&
    (let h : TwinHand := { x := 100, cause := 0, ring := none, acked := false };
      let s : State := handing false; decide (s.twin.hand = some h) && decide (h.acked = false) && decide (s.twin.owner = true) && decide (s.sys.coreUp = true)) &&
    (let h : TwinHand := { x := 100, cause := 0, ring := none, acked := true };
      let s : State := handing true; decide (s.twin.hand = some h) && decide (h.acked = true)) &&
    (let s : State := twinUp; decide (s.twin.hand = none)) &&
    (let s : State := { modTwin (fun t => { t with par := { t.par with autoResync := true, holdoffMs := 5 } }) twinUp with slowTicks := 5 }; decide (s.sys.coreUp = true) && decide (s.twin.owner = true) && decide (s.twin.state = .detached) && decide (s.twin.par.autoResync = true) && decide ((link 4 s).carries = true) && decide (s.twin.detachedAt + s.twin.par.holdoffMs ≤ s.slowTicks) && [360, 361, 362].all (fun n => (faultSrc n s).state == .clear)) &&
    (let s : State := modTwin (fun t => { t with state := .solo }) twinUp; decide (s.twin.state ≠ .detached))) = true := by decide +kernel

theorem witness_CompatAccess : (
    (let s : State := up; decide (s.sys.mode ≠ .compat)) &&
    (let hd : Half := 0x7000;
      let s : State := compatUp; decide (s.sys.mode = .compat) && decide (s.sys.coreUp = true) && decide (hd.toNat / 0x1000 % 8 ≠ 0)) &&
    (let hd : Half := 0x900A;
      let s : State := compatUp; decide (s.sys.mode = .compat) && decide (s.sys.coreUp = true) && decide (hd.toNat / 0x1000 % 8 ≠ 0)) &&
    (let hd : Half := 0x8FFE;
      let k : Nat := 16;
      let s : State := compatUp; decide (s.sys.mode = .compat) && decide (s.sys.coreUp = true) && decide (hd.toNat / 0x1000 % 8 = 0) && decide (hd.getLsbD 15 = true) && decide (16 ≤ k)) &&
    (let hd : Half := 0x800A;
      let k : Nat := 16;
      let s : State := compatUp; decide (s.sys.mode = .compat) && decide (s.sys.coreUp = true) && decide (hd.toNat / 0x1000 % 8 = 0) && decide (hd.getLsbD 15 = true) && decide (16 ≤ k)) &&
    (let hd : Half := 0x8102;
      let k : Nat := 16;
      let s : State := compatOn; decide (s.sys.mode = .compat) && decide (s.sys.coreUp = true) && decide (hd.toNat / 0x1000 % 8 = 0) && decide (hd.getLsbD 15 = true) && decide (16 ≤ k)) &&
    (let s : State := compatUp; decide (s.sys.mode = .compat) && decide (s.sys.coreUp = true) && decide (s.compat.ready = true) && decide (s.compat.softReset = false)) &&
    (let s : State := compatUp; decide (s.sys.mode = .compat) && decide (s.sys.coreUp = true) && decide (s.compat.ready = true) && decide (s.compat.softReset = false)) &&
    (let s : State := compatUp; decide (s.sys.mode = .compat) && decide (s.sys.coreUp = true) && decide (s.compat.ready = true) && decide (s.compat.softReset = false)) &&
    (let s : State := compatUp; decide (s.sys.mode = .compat) && decide (s.sys.coreUp = true) && decide (s.compat.ready = true) && decide (s.compat.softReset = false)) &&
    (let s : State := compatUp; decide (s.sys.mode = .compat) && decide (s.sys.coreUp = true)) &&
    (let s : State := compatOn; decide (s.sys.mode = .compat) && decide (s.sys.coreUp = true)) &&
    (let s : State := compatUp; decide (s.sys.mode = .compat) && decide (s.sys.coreUp = true)) &&
    (let off : BitVec 12 := 0x00C;
      let s : State := compatUp; decide (s.sys.mode = .compat) && decide (s.sys.coreUp = true) && decide (s.compat.ready = true) && decide (off.toNat % 2 = 0) && decide (isHi off.toNat = true) && decide (off.toNat + 2 < 0x1000) && decide (s.compat.latched.find? (fun e => e.1 == off.toNat) = none)) &&
    (let off : BitVec 12 := 0x2E6;
      let s : State := compatOn; decide (s.sys.mode = .compat) && decide (s.sys.coreUp = true) && decide (s.compat.ready = true) && decide (off.toNat % 2 = 0) && decide (isHi off.toNat = true) && decide (off.toNat + 2 < 0x1000) && decide (s.compat.latched.find? (fun e => e.1 == off.toNat) = none)) &&
    (let s : State := { up with sys := { up.sys with mode := .compat } }; decide (s.sys.mode = .compat) && decide (s.sys.coreUp = true) && decide (s.compat.ready = false)) &&
    (let s : State := { compatUp with compat := { compatUp.compat with softReset := true } }; decide (s.sys.mode = .compat) && decide (s.sys.coreUp = true) && decide (s.compat.ready = true) && decide (s.compat.softReset = true)) &&
    (let i : TapInstr := .extest;
      let s : State := { up with hr := { up.hr with locked := true } }; decide (scanLocked s = true) && decide (drivesPins i = true)) &&
    (let i : TapInstr := .clamp;
      let s : State := { up with hr := { up.hr with locked := true } , dbg := { up.dbg with refused := 0xFFFF } }; decide (scanLocked s = true) && decide (drivesPins i = true)) &&
    (let i : TapInstr := .extest;
      let s : State := { up with hr := { up.hr with locked := false } }; decide ((scanLocked s = false ∨ drivesPins i = false))) &&
    (let i : TapInstr := .sample;
      let s : State := { up with hr := { up.hr with locked := true } }; decide ((scanLocked s = false ∨ drivesPins i = false)))) = true := by decide +kernel

theorem witness_CompatWrites : (
    (let n : Fin 16 := 15;
      let m : Fin 16 := 0;
      let s : State := { compatUp with compat := { compatUp.compat with run := true } }; decide (s.sys.mode = .compat) && decide (s.sys.coreUp = true) && decide (s.compat.ready = true) && decide (s.compat.softReset = false) && decide ((source 20 s).fetched.length ≤ 16) && decide (m ≠ n) && decide (s.compat.run = true)) &&
    (let n : Fin 16 := 15;
      let m : Fin 16 := 0;
      let s : State := { compatOn with compat := { compatOn.compat with run := true } }; decide (s.sys.mode = .compat) && decide (s.sys.coreUp = true) && decide (s.compat.ready = true) && decide (s.compat.softReset = false) && decide ((source 20 s).fetched.length ≤ 16) && decide (m ≠ n) && decide (s.compat.run = true)) &&
    (let n : Fin 16 := 15;
      let m : Fin 16 := 0;
      let s : State := compatUp; decide (s.sys.mode = .compat) && decide (s.sys.coreUp = true) && decide (s.compat.ready = true) && decide (s.compat.softReset = false) && decide ((source 20 s).fetched.length ≤ 16) && decide (m ≠ n) && decide (s.compat.run = false)) &&
    (let n : Fin 16 := 15;
      let m : Fin 16 := 0;
      let s : State := compatUp; decide (s.sys.mode = .compat) && decide (s.sys.coreUp = true) && decide (s.compat.ready = true) && decide (s.compat.softReset = false) && decide ((source 20 s).fetched.length ≤ 16) && decide (m ≠ n) && decide (s.compat.run = false)) &&
    (let n : Fin 16 := 15;
      let m : Fin 16 := 0;
      let s : State := compatOn; decide (s.sys.mode = .compat) && decide (s.sys.coreUp = true) && decide (s.compat.ready = true) && decide (s.compat.softReset = false) && decide ((source 20 s).fetched.length ≤ 16) && decide (m ≠ n) && decide (s.compat.run = false)) &&
    (let n : Fin 16 := 15;
      let m : Fin 16 := 0;
      let s : State := { compatUp with compat := { compatUp.compat with run := true } }; decide (s.sys.mode = .compat) && decide (s.sys.coreUp = true) && decide (s.compat.ready = true) && decide (s.compat.softReset = false) && decide ((source 20 s).fetched.length ≤ 16) && decide (m ≠ n) && decide (s.compat.run = true)) &&
    (let n : Fin 16 := 15;
      let m : Fin 16 := 0;
      let s : State := compatOn; decide (s.sys.mode = .compat) && decide (s.sys.coreUp = true) && decide (s.compat.ready = true) && decide (s.compat.softReset = false) && decide ((source 20 s).fetched.length ≤ 16) && decide (m ≠ n) && decide (gqEnabled s ≠ [])) &&
    (let n : Fin 16 := 15;
      let m : Fin 16 := 0;
      let s : State := { compatOn with compat := { compatOn.compat with run := true } }; decide (s.sys.mode = .compat) && decide (s.sys.coreUp = true) && decide (s.compat.ready = true) && decide (s.compat.softReset = false) && decide ((source 20 s).fetched.length ≤ 16) && decide (m ≠ n) && decide (gqEnabled s ≠ [])) &&
    (let n : Fin 16 := 15;
      let m : Fin 16 := 0;
      let s : State := compatUp; decide (s.sys.mode = .compat) && decide (s.sys.coreUp = true) && decide (s.compat.ready = true) && decide (s.compat.softReset = false) && decide ((source 20 s).fetched.length ≤ 16) && decide (m ≠ n) && decide (gqEnabled s = []) && decide (gqBusy s = false)) &&
    (let n : Fin 16 := 15;
      let m : Fin 16 := 0;
      let s : State := compatUp; decide (s.sys.mode = .compat) && decide (s.sys.coreUp = true) && decide (s.compat.ready = true) && decide (s.compat.softReset = false) && decide ((source 20 s).fetched.length ≤ 16) && decide (m ≠ n) && decide (gqEnabled s = [])) &&
    (let n : Fin 16 := 15;
      let m : Fin 16 := 0;
      let s : State := compatUp; decide (s.sys.mode = .compat) && decide (s.sys.coreUp = true) && decide (s.compat.ready = true) && decide (s.compat.softReset = false) && decide ((source 20 s).fetched.length ≤ 16) && decide (m ≠ n) && decide (gqEnabled s = [])) &&
    (let n : Fin 16 := 15;
      let m : Fin 16 := 0;
      let s : State := compatOn; decide (s.sys.mode = .compat) && decide (s.sys.coreUp = true) && decide (s.compat.ready = true) && decide (s.compat.softReset = false) && decide ((source 20 s).fetched.length ≤ 16) && decide (m ≠ n) && decide (gqEnabled s ≠ [])) &&
    (let n : Fin 16 := 15;
      let m : Fin 16 := 0;
      let s : State := compatOn; decide (s.sys.mode = .compat) && decide (s.sys.coreUp = true) && decide (s.compat.ready = true) && decide (s.compat.softReset = false) && decide ((source 20 s).fetched.length ≤ 16) && decide (m ≠ n) && decide (gqEnabled s ≠ [])) &&
    (let n : Fin 16 := 15;
      let m : Fin 16 := 0;
      let s : State := compatUp; decide (s.sys.mode = .compat) && decide (s.sys.coreUp = true) && decide (s.compat.ready = true) && decide (s.compat.softReset = false) && decide ((source 20 s).fetched.length ≤ 16) && decide (m ≠ n) && decide ((gqChan n s).enable = false)) &&
    (let n : Fin 16 := 0;
      let m : Fin 16 := 15;
      let s : State := { compatUp with compat := { compatUp.compat with run := true } }; decide (s.sys.mode = .compat) && decide (s.sys.coreUp = true) && decide (s.compat.ready = true) && decide (s.compat.softReset = false) && decide ((source 20 s).fetched.length ≤ 16) && decide (m ≠ n) && decide ((gqChan n s).enable = false)) &&
    (let n : Fin 16 := 15;
      let m : Fin 16 := 0;
      let s : State := compatOn; decide (s.sys.mode = .compat) && decide (s.sys.coreUp = true) && decide (s.compat.ready = true) && decide (s.compat.softReset = false) && decide ((source 20 s).fetched.length ≤ 16) && decide (m ≠ n) && decide ((gqChan n s).enable = true)) &&
    (let n : Fin 16 := 15;
      let m : Fin 16 := 0;
      let s : State := compatOn; decide (s.sys.mode = .compat) && decide (s.sys.coreUp = true) && decide (s.compat.ready = true) && decide (s.compat.softReset = false) && decide ((source 20 s).fetched.length ≤ 16) && decide (m ≠ n) && decide ((gqChan n s).enable = true)) &&
    (let n : Fin 16 := 15;
      let m : Fin 16 := 0;
      let s : State := { compatOn with compat := { compatOn.compat with run := true } }; decide (s.sys.mode = .compat) && decide (s.sys.coreUp = true) && decide (s.compat.ready = true) && decide (s.compat.softReset = false) && decide ((source 20 s).fetched.length ≤ 16) && decide (m ≠ n) && decide ((gqChan n s).enable = true)) &&
    (let n : Fin 16 := 15;
      let m : Fin 16 := 0;
      let s : State := compatUp; decide (s.sys.mode = .compat) && decide (s.sys.coreUp = true) && decide (s.compat.ready = true) && decide (s.compat.softReset = false) && decide ((source 20 s).fetched.length ≤ 16) && decide (m ≠ n) && decide ((gqChan n s).enable = false)) &&
    (let n : Fin 16 := 15;
      let m : Fin 16 := 0;
      let s : State := compatUp; decide (s.sys.mode = .compat) && decide (s.sys.coreUp = true) && decide (s.compat.ready = true) && decide (s.compat.softReset = false) && decide ((source 20 s).fetched.length ≤ 16) && decide (m ≠ n)) &&
    (let n : Fin 16 := 15;
      let m : Fin 16 := 0;
      let s : State := { compatOn with compat := { compatOn.compat with run := true } }; decide (s.sys.mode = .compat) && decide (s.sys.coreUp = true) && decide (s.compat.ready = true) && decide (s.compat.softReset = false) && decide ((source 20 s).fetched.length ≤ 16) && decide (m ≠ n)) &&
    (let n : Fin 16 := 15;
      let m : Fin 16 := 0;
      let bw : BitVec 2 := 2;
      let s : State := compatUp; decide (s.sys.mode = .compat) && decide (s.sys.coreUp = true) && decide (s.compat.ready = true) && decide (s.compat.softReset = false) && decide ((source 20 s).fetched.length ≤ 16) && decide (m ≠ n) && decide (bw ≠ 3)) &&
    (let n : Fin 16 := 15;
      let m : Fin 16 := 0;
      let bw : BitVec 2 := 0;
      let s : State := { compatOn with compat := { compatOn.compat with run := true } }; decide (s.sys.mode = .compat) && decide (s.sys.coreUp = true) && decide (s.compat.ready = true) && decide (s.compat.softReset = false) && decide ((source 20 s).fetched.length ≤ 16) && decide (m ≠ n) && decide (bw ≠ 3)) &&
    (let n : Fin 16 := 15;
      let m : Fin 16 := 0;
      let s : State := compatUp; decide (s.sys.mode = .compat) && decide (s.sys.coreUp = true) && decide (s.compat.ready = true) && decide (s.compat.softReset = false) && decide ((source 20 s).fetched.length ≤ 16) && decide (m ≠ n)) &&
    (let n : Fin 16 := 15;
      let m : Fin 16 := 0;
      let s : State := compatUp; decide (s.sys.mode = .compat) && decide (s.sys.coreUp = true) && decide (s.compat.ready = true) && decide (s.compat.softReset = false) && decide ((source 20 s).fetched.length ≤ 16) && decide (m ≠ n)) &&
    (let n : Fin 16 := 15;
      let m : Fin 16 := 0;
      let s : State := { compatOn with compat := { compatOn.compat with run := true } }; decide (s.sys.mode = .compat) && decide (s.sys.coreUp = true) && decide (s.compat.ready = true) && decide (s.compat.softReset = false) && decide ((source 20 s).fetched.length ≤ 16) && decide (m ≠ n)) &&
    (let n : Fin 16 := 15;
      let m : Fin 16 := 0;
      let s : State := compatUp; decide (s.sys.mode = .compat) && decide (s.sys.coreUp = true) && decide (s.compat.ready = true) && decide (s.compat.softReset = false) && decide ((source 20 s).fetched.length ≤ 16) && decide (m ≠ n)) &&
    (let n : Fin 16 := 15;
      let m : Fin 16 := 0;
      let s : State := { compatOn with compat := { compatOn.compat with run := true } }; decide (s.sys.mode = .compat) && decide (s.sys.coreUp = true) && decide (s.compat.ready = true) && decide (s.compat.softReset = false) && decide ((source 20 s).fetched.length ≤ 16) && decide (m ≠ n)) &&
    (let n : Fin 16 := 15;
      let m : Fin 16 := 0;
      let s : State := compatUp; decide (s.sys.mode = .compat) && decide (s.sys.coreUp = true) && decide (s.compat.ready = true) && decide (s.compat.softReset = false) && decide ((source 20 s).fetched.length ≤ 16) && decide (m ≠ n)) &&
    (let n : Fin 16 := 15;
      let m : Fin 16 := 0;
      let s : State := { compatOn with compat := { compatOn.compat with run := true } }; decide (s.sys.mode = .compat) && decide (s.sys.coreUp = true) && decide (s.compat.ready = true) && decide (s.compat.softReset = false) && decide ((source 20 s).fetched.length ≤ 16) && decide (m ≠ n)) &&
    (let n : Fin 16 := 15;
      let m : Fin 16 := 0;
      let v : Half := 220;
      let s : State := compatUp; decide (s.sys.mode = .compat) && decide (s.sys.coreUp = true) && decide (s.compat.ready = true) && decide (s.compat.softReset = false) && decide ((source 20 s).fetched.length ≤ 16) && decide (m ≠ n) && decide (v.toNat % 256 ≤ 220)) &&
    (let n : Fin 16 := 15;
      let m : Fin 16 := 0;
      let v : Half := 220;
      let s : State := { compatOn with compat := { compatOn.compat with run := true } }; decide (s.sys.mode = .compat) && decide (s.sys.coreUp = true) && decide (s.compat.ready = true) && decide (s.compat.softReset = false) && decide ((source 20 s).fetched.length ≤ 16) && decide (m ≠ n) && decide (v.toNat % 256 ≤ 220)) &&
    (let n : Fin 16 := 15;
      let m : Fin 16 := 0;
      let v : Half := 220;
      let s : State := compatUp; decide (s.sys.mode = .compat) && decide (s.sys.coreUp = true) && decide (s.compat.ready = true) && decide (s.compat.softReset = false) && decide ((source 20 s).fetched.length ≤ 16) && decide (m ≠ n) && decide (v.toNat % 256 ≤ 220)) &&
    (let n : Fin 16 := 15;
      let m : Fin 16 := 0;
      let v : Half := 220;
      let s : State := { compatOn with compat := { compatOn.compat with run := true } }; decide (s.sys.mode = .compat) && decide (s.sys.coreUp = true) && decide (s.compat.ready = true) && decide (s.compat.softReset = false) && decide ((source 20 s).fetched.length ≤ 16) && decide (m ≠ n) && decide (v.toNat % 256 ≤ 220)) &&
    (let n : Fin 16 := 15;
      let m : Fin 16 := 0;
      let v : Half := 221;
      let s : State := compatUp; decide (s.sys.mode = .compat) && decide (s.sys.coreUp = true) && decide (s.compat.ready = true) && decide (s.compat.softReset = false) && decide ((source 20 s).fetched.length ≤ 16) && decide (m ≠ n) && decide (220 < v.toNat % 256)) &&
    (let n : Fin 16 := 15;
      let m : Fin 16 := 0;
      let v : Half := 0xFFFF;
      let s : State := compatUp; decide (s.sys.mode = .compat) && decide (s.sys.coreUp = true) && decide (s.compat.ready = true) && decide (s.compat.softReset = false) && decide ((source 20 s).fetched.length ≤ 16) && decide (m ≠ n) && decide (220 < v.toNat % 256)) &&
    (let n : Fin 16 := 15;
      let m : Fin 16 := 0;
      let v : Half := 60;
      let s : State := compatUp; decide (s.sys.mode = .compat) && decide (s.sys.coreUp = true) && decide (s.compat.ready = true) && decide (s.compat.softReset = false) && decide ((source 20 s).fetched.length ≤ 16) && decide (m ≠ n) && decide (v.toNat % 256 ≤ 60)) &&
    (let n : Fin 16 := 15;
      let m : Fin 16 := 0;
      let v : Half := 0;
      let s : State := { compatOn with compat := { compatOn.compat with run := true } }; decide (s.sys.mode = .compat) && decide (s.sys.coreUp = true) && decide (s.compat.ready = true) && decide (s.compat.softReset = false) && decide ((source 20 s).fetched.length ≤ 16) && decide (m ≠ n) && decide (v.toNat % 256 ≤ 60)) &&
    (let n : Fin 16 := 15;
      let m : Fin 16 := 0;
      let v : Half := 61;
      let s : State := compatUp; decide (s.sys.mode = .compat) && decide (s.sys.coreUp = true) && decide (s.compat.ready = true) && decide (s.compat.softReset = false) && decide ((source 20 s).fetched.length ≤ 16) && decide (m ≠ n) && decide (60 < v.toNat % 256)) &&
    (let n : Fin 16 := 15;
      let m : Fin 16 := 0;
      let v : Half := 120;
      let s : State := compatUp; decide (s.sys.mode = .compat) && decide (s.sys.coreUp = true) && decide (s.compat.ready = true) && decide (s.compat.softReset = false) && decide ((source 20 s).fetched.length ≤ 16) && decide (m ≠ n) && decide (-40 ≤ v.toInt) && decide (v.toInt ≤ 120)) &&
    (let n : Fin 16 := 15;
      let m : Fin 16 := 0;
      let v : Half := 0xFFD8;
      let s : State := { compatOn with compat := { compatOn.compat with run := true } }; decide (s.sys.mode = .compat) && decide (s.sys.coreUp = true) && decide (s.compat.ready = true) && decide (s.compat.softReset = false) && decide ((source 20 s).fetched.length ≤ 16) && decide (m ≠ n) && decide (-40 ≤ v.toInt) && decide (v.toInt ≤ 120)) &&
    (let n : Fin 16 := 15;
      let m : Fin 16 := 0;
      let v : Half := 120;
      let s : State := compatUp; decide (s.sys.mode = .compat) && decide (s.sys.coreUp = true) && decide (s.compat.ready = true) && decide (s.compat.softReset = false) && decide ((source 20 s).fetched.length ≤ 16) && decide (m ≠ n) && decide (-40 ≤ v.toInt) && decide (v.toInt ≤ 120)) &&
    (let n : Fin 16 := 15;
      let m : Fin 16 := 0;
      let v : Half := 0xFFD8;
      let s : State := { compatOn with compat := { compatOn.compat with run := true } }; decide (s.sys.mode = .compat) && decide (s.sys.coreUp = true) && decide (s.compat.ready = true) && decide (s.compat.softReset = false) && decide ((source 20 s).fetched.length ≤ 16) && decide (m ≠ n) && decide (-40 ≤ v.toInt) && decide (v.toInt ≤ 120)) &&
    (let n : Fin 16 := 15;
      let m : Fin 16 := 0;
      let v : Half := 121;
      let s : State := compatUp; decide (s.sys.mode = .compat) && decide (s.sys.coreUp = true) && decide (s.compat.ready = true) && decide (s.compat.softReset = false) && decide ((source 20 s).fetched.length ≤ 16) && decide (m ≠ n) && decide (120 < v.toInt)) &&
    (let n : Fin 16 := 15;
      let m : Fin 16 := 0;
      let v : Half := 0x7FFF;
      let s : State := compatUp; decide (s.sys.mode = .compat) && decide (s.sys.coreUp = true) && decide (s.compat.ready = true) && decide (s.compat.softReset = false) && decide ((source 20 s).fetched.length ≤ 16) && decide (m ≠ n) && decide (120 < v.toInt)) &&
    (let n : Fin 16 := 15;
      let m : Fin 16 := 0;
      let v : Half := 2;
      let s : State := compatUp; decide (s.sys.mode = .compat) && decide (s.sys.coreUp = true) && decide (s.compat.ready = true) && decide (s.compat.softReset = false) && decide ((source 20 s).fetched.length ≤ 16) && decide (m ≠ n) && decide (2 ≤ v.toNat % 32) && decide (v.toNat % 32 ≤ 20)) &&
    (let n : Fin 16 := 15;
      let m : Fin 16 := 0;
      let v : Half := 0xFFF4;
      let s : State := compatUp; decide (s.sys.mode = .compat) && decide (s.sys.coreUp = true) && decide (s.compat.ready = true) && decide (s.compat.softReset = false) && decide ((source 20 s).fetched.length ≤ 16) && decide (m ≠ n) && decide (2 ≤ v.toNat % 32) && decide (v.toNat % 32 ≤ 20)) &&
    (let n : Fin 16 := 15;
      let m : Fin 16 := 0;
      let v : Half := 21;
      let s : State := compatUp; decide (s.sys.mode = .compat) && decide (s.sys.coreUp = true) && decide (s.compat.ready = true) && decide (s.compat.softReset = false) && decide ((source 20 s).fetched.length ≤ 16) && decide (m ≠ n) && decide (20 < v.toNat % 32)) &&
    (let n : Fin 16 := 15;
      let m : Fin 16 := 0;
      let v : Half := 0x1F;
      let s : State := compatUp; decide (s.sys.mode = .compat) && decide (s.sys.coreUp = true) && decide (s.compat.ready = true) && decide (s.compat.softReset = false) && decide ((source 20 s).fetched.length ≤ 16) && decide (m ≠ n) && decide (20 < v.toNat % 32)) &&
    (let n : Fin 16 := 15;
      let m : Fin 16 := 0;
      let s : State := compatUp; decide (s.sys.mode = .compat) && decide (s.sys.coreUp = true) && decide (s.compat.ready = true) && decide (s.compat.softReset = false) && decide ((source 20 s).fetched.length ≤ 16) && decide (m ≠ n)) &&
    (let n : Fin 16 := 15;
      let m : Fin 16 := 0;
      let s : State := compatOn; decide (s.sys.mode = .compat) && decide (s.sys.coreUp = true) && decide (s.compat.ready = true) && decide (s.compat.softReset = false) && decide ((source 20 s).fetched.length ≤ 16) && decide (m ≠ n)) &&
    (let n : Fin 16 := 15;
      let m : Fin 16 := 0;
      let d : Dir := .dl;
      let c : Fin 64 := 15;
      let s : State := { compatUp with compat := { compatUp.compat with chans := upd compatUp.compat.chans 15 (fun g => { g with dl := { g.dl with net := true, netOkMs := 500 } }) } }; decide (s.sys.mode = .compat) && decide (s.sys.coreUp = true) && decide (s.compat.ready = true) && decide (s.compat.softReset = false) && decide ((source 20 s).fetched.length ≤ 16) && decide (m ≠ n) && decide (inWatch s = true) && decide ((gqDir c d s).net = true) && decide (500 ≤ (gqDir c d s).netOkMs)) &&
    (let n : Fin 16 := 15;
      let m : Fin 16 := 0;
      let d : Dir := .dl;
      let c : Fin 64 := 15;
      let s : State := compatUp; decide (s.sys.mode = .compat) && decide (s.sys.coreUp = true) && decide (s.compat.ready = true) && decide (s.compat.softReset = false) && decide ((source 20 s).fetched.length ≤ 16) && decide (m ≠ n) && decide ((gqDir c d s).net = false)) &&
    (let n : Fin 16 := 15;
      let m : Fin 16 := 0;
      let d : Dir := .ul;
      let c : Fin 64 := 63;
      let s : State := compatUp; decide (s.sys.mode = .compat) && decide (s.sys.coreUp = true) && decide (s.compat.ready = true) && decide (s.compat.softReset = false) && decide ((source 20 s).fetched.length ≤ 16) && decide (m ≠ n) && decide ((gqDir c d s).net = false))) = true := by decide +kernel

theorem witness_SupplyWatchEventsTwo : (
    (let s : State := { chanRich with sys := { up.sys with coreUp := false } }; decide (s.sys.vauxValid = true) && decide (s.sys.npt.boardHold = false) && decide (vioAbsent s = false)) &&
    (let s : State := up; decide (s.sys.vauxValid = true) && decide (s.sys.npt.boardHold = false) && decide (vioAbsent s = false))) = true := by decide +kernel

/-! ## Witnesses that need a signature of Jallor or of an enrolled key, or the device identity

The keys in ROM and the identity in the fuses are constants without a body, so that these say: on a part whose key verifies the image's
signature, or whose identity is 5, the hypotheses hold. -/

/-- A patch image of eight bytes of code, with its hash. -/
def somePatch : List Byte :=
  let body := buffer 8 [(0, 8, 77)]
  buffer 32 [(0, 4, 0x50434A4C), (4, 2, 1), (8, 4, 9), (12, 2, 3), (16, 4, 168)] ++ sha256 body ++ buffer 96 [] ++ body

/-- A catalogue image of the kernel CANCEL with eight bytes of code, with its hash. -/
def someCatalogue : List Byte :=
  let body := buffer 32 [(0, 1, 0), (2, 2, 2), (4, 4, 8)] ++ buffer 8 [(0, 8, 77)]
  buffer 32 [(0, 4, 0x4B43544C), (4, 2, 1), (6, 2, 1), (8, 4, 9), (12, 2, 3), (16, 4, 200)] ++ sha256 body ++ buffer 96 [] ++ body

/-- A clear block of slot 3 with nonce 99 for the device of identity 5. -/
def someClear : List Byte := buffer 128 [(0, 4, 0x4C434247), (4, 2, 1), (6, 1, 3), (8, 8, 5), (16, 16, 99)]

/-- A device with key 3 enrolled and the nonce 99 issued. -/
def clearUp : State :=
  { modGb (fun g => { g with ready := true, nonce := some (99, 0) }) up with hr := { up.hr with rules := { up.hr.rules with keysEnrolled := 8 } } }

theorem witness_PatchLoad (h : ecdsaVerify Config.patchKey (somePatch.take 96) ((somePatch.drop 96).take 64) = true) :
    passesB 0x0B10 checkPatchLoad (cmd 0 somePatch) up = true := by
  have b : beginsB 0x0B10 (cmd 0 somePatch) up = true := by decide +kernel
  have c : (checkPatchLoad (starting 0x0B10 (cmd 0 somePatch) up) (stepping 0x0B10 (cmd 0 somePatch) up)).isNone = true := by
    unfold checkPatchLoad
    have d : (starting 0x0B10 (cmd 0 somePatch) up).desc.data = somePatch := rfl
    simp only [d, h]
    decide +kernel
  rw [passesB, b, c]
  rfl

theorem witness_KernelCatalogueLoad (h : ecdsaVerify Config.catalogueKey (someCatalogue.take 96) ((someCatalogue.drop 96).take 64) = true) :
    passesB 0x0410 checkCatalogueLoad (cmd 0 someCatalogue) up = true ∧ par (cmd 0 someCatalogue) 0 1 = 0 ∧
      passesB 0x0410 checkCatalogueLoad (cmd 1 someCatalogue) up = true ∧ par (cmd 1 someCatalogue) 0 1 ≠ 0 := by
  have e : catalogueOf someCatalogue = some { version := 9, security := 3, kernels := [(0, 2, false)] } := by decide +kernel
  have d0 : (starting 0x0410 (cmd 0 someCatalogue) up).desc.data = someCatalogue := rfl
  have d1 : (starting 0x0410 (cmd 1 someCatalogue) up).desc.data = someCatalogue := rfl
  refine ⟨?_, by decide +kernel, ?_, by decide +kernel⟩
  · have b : beginsB 0x0410 (cmd 0 someCatalogue) up = true := by decide +kernel
    have c : (checkCatalogueLoad (starting 0x0410 (cmd 0 someCatalogue) up) (stepping 0x0410 (cmd 0 someCatalogue) up)).isNone = true := by
      unfold checkCatalogueLoad
      simp only [d0, e, h]
      decide +kernel
    rw [passesB, b, c]
    rfl
  · have b : beginsB 0x0410 (cmd 1 someCatalogue) up = true := by decide +kernel
    have c : (checkCatalogueLoad (starting 0x0410 (cmd 1 someCatalogue) up) (stepping 0x0410 (cmd 1 someCatalogue) up)).isNone = true := by
      unfold checkCatalogueLoad
      simp only [d1, e, h]
      decide +kernel
    rw [passesB, b, c]
    rfl

theorem witness_GbClear (hi : identityNat = 5)
    (h : ecdsaVerify (nth clearUp.hr.rules.keys 3 []) (someClear.take 64) ((someClear.drop 64).take 64) = true) :
    passesB 0x0A03 (fun r s => firstOf [common false [] .own r.desc, hostRead r.desc, refuseIf (!s.gb.ready) (badState 0x0A0A)])
        (cmd 0 someClear) clearUp = true ∧
      clearChecks (coded 0x0A03 (cmd 0 someClear)) (stepping 0x0A03 (cmd 0 someClear) clearUp) = (none, true) := by
  refine ⟨by decide +kernel, ?_⟩
  have e1 : clearFormat (coded 0x0A03 (cmd 0 someClear)) = true := by decide +kernel
  have e2 : (stepping 0x0A03 (cmd 0 someClear) clearUp).gb.erasing = false := by decide +kernel
  have e3 : enrolledKey (dat (coded 0x0A03 (cmd 0 someClear)) 6 1) (stepping 0x0A03 (cmd 0 someClear) clearUp) = some (nth clearUp.hr.rules.keys 3 []) := by
    decide +kernel
  have e4 : dat (coded 0x0A03 (cmd 0 someClear)) 8 8 = 5 := by decide +kernel
  have e5 : nonceCurrent (stepping 0x0A03 (cmd 0 someClear) clearUp).gb.nonce (dat (coded 0x0A03 (cmd 0 someClear)) 16 16)
      (stepping 0x0A03 (cmd 0 someClear) clearUp).slowTicks = true := by decide +kernel
  have e6 : (coded 0x0A03 (cmd 0 someClear)).data = someClear := rfl
  simp only [clearChecks, e1, e2, e3, e4, e5, e6, hi, h]
  rfl

theorem witness_HrLock (hi : identityNat = 5) :
    passesB 0x0B03 checkHrLock (cmdP [(0, 4, 5)])
      { up with hr := { up.hr with programmed := 1, used := 1, slots := upd up.hr.slots 0 (fun _ => buffer 3072 [(1120, 1, 8)]) } } = true := by
  unfold passesB checkHrLock
  simp only [hi]
  decide +kernel

end Sys2Proof.Tests
end

/-! # The end of a reset -/
section
namespace Sys2Proof.Proofs

open Sys2Proof Sys2Proof.Machine Sys2Proof.Safety

/-! ## What an event answers -/

/-- An event whose meaning is a next state that has the property runs to it. -/
theorem runs_of_exec {i : Instr} {s t : State} {p : State → Prop} (h : exec i s = .next t) (hp : p t) : Runs i s p := ⟨t, h, hp⟩

/-! ## The supply controller's changes touch the supply alone -/

theorem foldl_supply {α : Type} (f : State → α → State) (h : ∀ s a, f s a = { s with supply := (f s a).supply }) (l : List α) (s : State) :
    l.foldl f s = { s with supply := (l.foldl f s).supply } := by
  induction l generalizing s with
  | nil => rfl
  | cons a l ih =>
    rw [List.foldl_cons, ih, h s a]

theorem phasesOn_supply (r : Fin 10) (s : State) : phasesOn r s = { s with supply := (phasesOn r s).supply } := by
  unfold phasesOn
  rw [foldl_supply _ (fun _ _ => rfl), foldl_supply _ (fun _ _ => rfl) _ s]

theorem bootCore_supply (s : State) : bootCore s = { s with supply := (bootCore s).supply } := by
  unfold bootCore
  split
  · rw [phasesOn_supply]
    rfl
  · rfl

@[simp] theorem bootCore_sys (s : State) : (bootCore s).sys = s.sys := by rw [bootCore_supply]
@[simp] theorem bootCore_gb (s : State) : (bootCore s).gb = s.gb := by rw [bootCore_supply]
@[simp] theorem bootCore_hr (s : State) : (bootCore s).hr = s.hr := by rw [bootCore_supply]
@[simp] theorem bootCore_chans (s : State) : (bootCore s).chans = s.chans := by rw [bootCore_supply]

/-! ## The straps -/

/-- With production-test straps a reset's end has no behaviour (R2, R3). -/
theorem withStraps_factory {x : Straps} (h : 2 ≤ x.mode.toNat) (s : State) : withStraps x s = .fault .factoryMode := if_pos h

theorem withStraps_product {x : Straps} (h : x.mode.toNat < 2) (s : State) : withStraps x s = .next s := if_neg (by omega)

/-- Of the four codes the two of a product are NATIVE and COMPAT (R2). -/
theorem sampleStraps_product {x : Straps} (h : x.mode.toNat < 2) (s : State) :
    sampleStraps x s = modSys (fun v => { v with straps := x, mode := if x.mode = 0 then .native else .compat }) s := by
  have hm : x.mode = 0 ∨ x.mode = 1 := by bv_omega
  unfold sampleStraps
  rcases hm with hm | hm <;> rw [hm] <;> rfl

/-! ## What a core reset keeps (R561) -/

@[simp] theorem coreReset_hr (b : Bool) (s : State) : (coreReset b s).hr = { s.hr with nonce := none } := rfl
@[simp] theorem coreReset_chans (b : Bool) (s : State) : (coreReset b s).chans = State.reset.chans := rfl
@[simp] theorem coreReset_coreUp (b : Bool) (s : State) : (coreReset b s).sys.coreUp = false := rfl
@[simp] theorem coreReset_saved (b : Bool) (s : State) : (coreReset b s).sys.saved = s.sys.saved := rfl
@[simp] theorem coreReset_seqNext (b : Bool) (s : State) : (coreReset b s).gb.seqNext = s.gb.seqNext := by cases b <;> rfl
@[simp] theorem coreReset_flash (s : State) : (coreReset false s).gb.flash = s.gb.flash := rfl

/-! ## The three events that end a reset -/

/-- A power-up with a product's straps: a power-on reset, then the straps and the boot regulator. -/
theorem runs_vauxValid {x : Straps} {s : State} (hx : x.mode.toNat < 2) (hs : s.sys.vauxValid = false) : Runs (.vauxValid x) s (fun t =>
    t.sys.vauxValid = true ∧ t.sys.straps = x ∧ t.sys.coreUp = false ∧ t.sys.mode = (if x.mode = 0 then .native else .compat) ∧
      t.hr = { s.hr with nonce := none } ∧ t.gb.seqNext = s.gb.seqNext ∧ t.sys.saved = s.sys.saved) := by
  have run : exec (.vauxValid x) s = .next (bootCore (modNpt (fun n => { n with rtcOk := true })
      (sampleStraps x (modSys (fun v => { v with vauxValid := true }) (coreReset true s))))) := by
    show execVauxValid x s = _
    rw [execVauxValid, hs, if_neg Bool.false_ne_true, withStraps_product hx]
  refine runs_of_exec run ?_
  simp [sampleStraps_product hx]

/-- The end of a board reset with a product's straps: the hold is off, and the Guestbook and House Rules are as the reset left them. -/
theorem runs_boardResetEnd {x : Straps} {s : State} (hx : x.mode.toNat < 2) (hs : s.sys.npt.boardHold = true) : Runs (.boardResetEnd x) s (fun t =>
    t.sys.npt.boardHold = false ∧ t.sys.straps = x ∧ t.sys.mode = (if x.mode = 0 then .native else .compat) ∧ t.gb = s.gb ∧ t.hr = s.hr) := by
  have run : exec (.boardResetEnd x) s = .next (bootCore (sampleStraps x (modNpt (fun n => { n with boardHold := false }) s))) := by
    show execBoardResetEnd x s = _
    rw [execBoardResetEnd, if_pos hs, withStraps_product hx]
  refine runs_of_exec run ?_
  simp [sampleStraps_product hx]

/-- An ordered device reset fires in a running core whose instant has come. -/
theorem resetDue {s : State} (hu : s.sys.coreUp = true) (hd : ∃ n, s.sys.resetDueTick = some n ∧ n ≤ s.slowTicks) :
    (s.sys.coreUp && s.sys.resetDueTick.any (fun t => decide (t ≤ s.slowTicks))) = true := by
  obtain ⟨n, hn, hle⟩ := hd
  simp [hu, hn, hle]

theorem runs_deviceResetFire {x : Straps} {s : State} (hx : x.mode.toNat < 2) (hu : s.sys.coreUp = true)
    (hd : ∃ n, s.sys.resetDueTick = some n ∧ n ≤ s.slowTicks) : Runs (.deviceResetFire x) s (fun t =>
    t.sys.coreUp = false ∧ t.sys.straps = x ∧ t.gb.flash = s.gb.flash ∧ t.hr = { s.hr with nonce := none } ∧ t.chans = State.reset.chans) := by
  have run : exec (.deviceResetFire x) s = .next (bootCore (sampleStraps x
      (modSupply (fun v => { v with bootRetries := 0, bootFault := false }) (coreReset false s)))) := by
    show execDeviceResetFire x s = _
    rw [execDeviceResetFire, if_pos (resetDue hu hd), withStraps_product hx]
  refine runs_of_exec run ?_
  simp [sampleStraps_product hx]

/-- Settles O51: the meaning of each reset-end event is its reset followed by withStraps, the one place where the model stops (R2, R3). -/
theorem factoryStrapsStop : Obligations.FactoryStrapsStop := by
  intro x s
  refine ⟨?_, ?_, ?_, runs_vauxValid, runs_boardResetEnd, runs_deviceResetFire, ?_, ?_, ?_⟩
  · intro hx hs
    show execVauxValid x s = _
    rw [execVauxValid, hs, if_neg Bool.false_ne_true, withStraps_factory hx]
  · intro hx hs
    show execBoardResetEnd x s = _
    rw [execBoardResetEnd, if_pos hs, withStraps_factory hx]
  · intro hx hu hd
    show execDeviceResetFire x s = _
    rw [execDeviceResetFire, if_pos (resetDue hu hd), withStraps_factory hx]
  · exact fun h => if_pos h
  · exact fun h => if_neg (by simp [h])
  · exact fun h => if_neg (by simp [h])

end Sys2Proof.Proofs
end

/-! # The outline of the state -/
section
namespace Sys2Proof.Proofs

open Sys2Proof Sys2Proof.Machine Sys2Proof.Safety

/-- The command a source has in execution, as the epochs see it: whether there is one, and which it is while it waits for its epochs (R42). -/
def epochView (x : Source) : Option (Option Running) := x.running.map (fun r => if r.wait = .epochs then some r else none)

/-- Whether a direction's configuration line and its gain line hold a stamp (R37). -/
def carries (x : Direction) : Bool × Bool := (x.config.stamped.isSome, x.gainLine.stamped.isSome)

/-- What the record keeping, the stability machine, the protection ladder and the power states leave alone: the queue, time with its ticks, the ports'
capacities (R405), the commands in execution as the epochs see them, and which lines hold a stamp. -/
structure Outline where
  pending : List Instr
  now : Nat
  slowTicks : Nat
  slowAt : Nat
  alcAt : Nat
  capacities : Vector Nat 8
  running : Vector (Option (Option Running)) 22
  stamped : Vector ((Bool × Bool) × (Bool × Bool)) 64

/-- The outline of a state. -/
def outline (s : State) : Outline :=
  { pending := s.pending, now := s.now, slowTicks := s.slowTicks, slowAt := s.slowAt, alcAt := s.alcAt, capacities := s.ports.map (·.c),
    running := s.hif.sources.map epochView, stamped := s.chans.map (fun ch => (carries ch.dl, carries ch.ul)) }

/-! ## Changes of one field of the state -/

theorem map_set_same {α β : Type} {n : Nat} (v : Vector α n) (g : α → β) (i : Nat) (h : i < n) (a : α) (e : g a = g v[i]) :
    (v.set i a h).map g = v.map g := by
  ext j hj
  by_cases hij : i = j
  · subst hij; simp [e]
  · simp [hij]

theorem map_upd_same {α β : Type} {n : Nat} (v : Vector α n) (g : α → β) (i : Nat) (f : α → α) (e : ∀ x, g (f x) = g x) :
    (upd v i f).map g = v.map g := by
  unfold upd
  split
  · exact map_set_same v g i _ _ (e _)
  · rfl

theorem outline_with_protWait (s : State) (x : List ProtTrigger) : outline { s with protWait := x } = outline s := rfl
theorem outline_with_opBase (s : State) (x : Nat) : outline { s with opBase := x } = outline s := rfl
theorem outline_with_freeCtr (s : State) (x : Nat) : outline { s with freeCtr := x } = outline s := rfl
theorem outline_with_tickets (s : State) (x : Nat) : outline { s with tickets := x } = outline s := rfl
theorem outline_with_pool (s : State) (x : Pool) : outline { s with pool := x } = outline s := rfl
theorem outline_with_faults (s : State) (x : Faults) : outline { s with faults := x } = outline s := rfl
theorem outline_with_gb (s : State) (x : Guestbook) : outline { s with gb := x } = outline s := rfl
theorem outline_with_sys (s : State) (x : System) : outline { s with sys := x } = outline s := rfl
theorem outline_with_eng (s : State) (x : EnginePool) : outline { s with eng := x } = outline s := rfl
theorem outline_with_hr (s : State) (x : HrStore) : outline { s with hr := x } = outline s := rfl
theorem outline_with_loops (s : State) (x : LoopEngine) : outline { s with loops := x } = outline s := rfl
theorem outline_with_supply (s : State) (x : Supply) : outline { s with supply := x } = outline s := rfl
theorem outline_with_thermal (s : State) (x : Thermal) : outline { s with thermal := x } = outline s := rfl
theorem outline_with_fabric (s : State) (x : Fabric) : outline { s with fabric := x } = outline s := rfl
theorem outline_with_twin (s : State) (x : Twin) : outline { s with twin := x } = outline s := rfl
theorem outline_with_compat (s : State) (x : Compat) : outline { s with compat := x } = outline s := rfl
theorem outline_with_dbg (s : State) (x : Debug) : outline { s with dbg := x } = outline s := rfl
theorem outline_with_radio_sys (s : State) (x : Radio) (y : System) : outline { s with radio := x, sys := y } = outline s := rfl

/-- A change of the host interface that leaves the sources. -/
theorem outline_with_hif (s : State) (x : HostIf) (h : x.sources = s.hif.sources) : outline { s with hif := x } = outline s := by
  unfold outline; rw [h]

theorem outline_with_ports (s : State) (x : Vector PortState 8) (h : x.map (·.c) = s.ports.map (·.c)) :
    outline { s with ports := x } = outline s := by
  unfold outline; rw [h]

theorem outline_modHif (f : HostIf → HostIf) (s : State) (h : (f s.hif).sources = s.hif.sources) : outline (modHif f s) = outline s :=
  outline_with_hif s _ h

theorem outline_modPort (p : Fin 8) (f : PortState → PortState) (s : State) (h : ∀ x, (f x).c = x.c) : outline (modPort p f s) = outline s :=
  outline_with_ports s _ (map_set_same _ _ _ _ _ (h _))

theorem outline_modSource (q : Nat) (f : Source → Source) (s : State) (h : ∀ x, epochView (f x) = epochView x) :
    outline (modSource q f s) = outline s := by
  unfold outline modSource
  rw [map_upd_same _ _ _ _ h]

theorem outline_modSource_running (q : Nat) (f : Source → Source) (s : State) (h : ∀ x, (f x).running = x.running) :
    outline (modSource q f s) = outline s :=
  outline_modSource q f s (fun x => congrArg (Option.map _) (h x))

theorem outline_modChan (c : Fin 64) (f : Channel → Channel) (s : State) (hd : carries (f (chan c s)).dl = carries (chan c s).dl)
    (hu : carries (f (chan c s)).ul = carries (chan c s).ul) : outline (modChan c f s) = outline s := by
  unfold outline modChan
  rw [map_set_same _ _ _ _ _ (Prod.ext hd hu)]

theorem outline_modDir (c : Fin 64) (d : Dir) (f : Direction → Direction) (s : State)
    (h : carries (f (direction c d s)) = carries (direction c d s)) : outline (modDir c d f s) = outline s := by
  cases d
  · exact outline_modChan _ _ _ h rfl
  · exact outline_modChan _ _ _ rfl h

/-- A change of a direction that leaves both its lines. -/
theorem outline_modDir_lines (c : Fin 64) (d : Dir) (f : Direction → Direction) (s : State) (hc : ∀ x, (f x).config = x.config)
    (hg : ∀ x, (f x).gainLine = x.gainLine) : outline (modDir c d f s) = outline s :=
  outline_modDir c d f s (by rw [carries, hc, hg, carries])

theorem outline_modGain (c : Fin 64) (d : Dir) (f : GainState → GainState) (s : State) : outline (modGain c d f s) = outline s :=
  outline_modDir c d _ s rfl

theorem outline_modStab (c : Fin 64) (d : Dir) (f : Stability → Stability) (s : State) : outline (modStab c d f s) = outline s :=
  outline_modDir c d _ s rfl

theorem outline_modMeter (c : Fin 64) (d : Dir) (f : Meter → Meter) (s : State) : outline (modMeter c d f s) = outline s :=
  outline_modDir c d _ s rfl

theorem mapPaths_config (x : Direction) (f : Nat → Path → Path) : (x.mapPaths f).config = x.config := by rw [Direction.mapPaths]

theorem mapPaths_gainLine (x : Direction) (f : Nat → Path → Path) : (x.mapPaths f).gainLine = x.gainLine := by rw [Direction.mapPaths]

theorem outline_mapPaths (c : Fin 64) (d : Dir) (f : Direction → Nat → Path → Path) (s : State) :
    outline (modDir c d (fun x => x.mapPaths (f x)) s) = outline s :=
  outline_modDir_lines _ _ _ _ (fun _ => mapPaths_config _ _) (fun _ => mapPaths_gainLine _ _)

/-! ## Branches and loops -/

theorem outline_ite (p : Prop) [Decidable p] (s t : State) : outline (if p then s else t) = if p then outline s else outline t :=
  apply_ite outline p s t

theorem outline_foldl {α : Type} (f : State → α → State) (l : List α) (s : State) (h : ∀ s a, outline (f s a) = outline s) :
    outline (l.foldl f s) = outline s := by
  induction l generalizing s with
  | nil => rfl
  | cons a l ih => rw [List.foldl_cons, ih, h]

/-! ## The named changes of one part -/

@[simp] theorem outline_modFault (n : Nat) (f : FaultSrc → FaultSrc) (s : State) : outline (modFault n f s) = outline s := outline_with_faults _ _

@[simp] theorem outline_modSupply (f : Supply → Supply) (s : State) : outline (modSupply f s) = outline s := outline_with_supply _ _

@[simp] theorem outline_modPhase (p : Fin 16) (f : Phase → Phase) (s : State) : outline (modPhase p f s) = outline s := outline_with_supply _ _

@[simp] theorem outline_modRail (r : Fin 10) (f : Rail → Rail) (s : State) : outline (modRail r f s) = outline s := outline_with_supply _ _

@[simp] theorem outline_raiseVector (v : Nat) (s : State) : outline (raiseVector v s) = outline s := outline_with_hif _ _ rfl

@[simp] theorem outline_modRing (r : Nat) (f : Ring → Ring) (s : State) : outline (modRing r f s) = outline s := outline_with_hif _ _ rfl

@[simp] theorem outline_modLoopEngine (f : LoopEngine → LoopEngine) (s : State) : outline (modLoopEngine f s) = outline s := outline_with_loops _ _

@[simp] theorem outline_modLoop (l : Nat) (f : Loop → Loop) (s : State) : outline (modLoop l f s) = outline s := outline_with_loops _ _

@[simp] theorem outline_modGq (c : Fin 64) (d : Dir) (f : GqDir → GqDir) (s : State) : outline (modGq c d f s) = outline s :=
  outline_with_compat _ _

@[simp] theorem outline_modFabric (f : Fabric → Fabric) (s : State) : outline (modFabric f s) = outline s := outline_with_fabric _ _

@[simp] theorem outline_modLink (l : Nat) (f : ObxLink → ObxLink) (s : State) : outline (modLink l f s) = outline s := outline_with_fabric _ _

@[simp] theorem outline_modHr (f : HrStore → HrStore) (s : State) : outline (modHr f s) = outline s := outline_with_hr _ _

@[simp] theorem outline_modSys (f : System → System) (s : State) : outline (modSys f s) = outline s := outline_with_sys _ _

@[simp] theorem outline_modNpt (f : NightPorter → NightPorter) (s : State) : outline (modNpt f s) = outline s := outline_with_sys _ _

@[simp] theorem outline_modGb (f : Guestbook → Guestbook) (s : State) : outline (modGb f s) = outline s := outline_with_gb _ _

@[simp] theorem outline_modThermal (f : Thermal → Thermal) (s : State) : outline (modThermal f s) = outline s := outline_with_thermal _ _

@[simp] theorem outline_modLodger (n : Fin 4) (f : Lodger → Lodger) (s : State) : outline (modLodger n f s) = outline s := outline_with_sys _ _

@[simp] theorem outline_modTwin (f : Twin → Twin) (s : State) : outline (modTwin f s) = outline s := outline_with_twin _ _

@[simp] theorem outline_modAsg (a : Fin 256) (f : Assignment → Assignment) (s : State) : outline (modAsg a f s) = outline s := outline_with_eng _ _

@[simp] theorem outline_modEngine (e : Fin 256) (f : Engine → Engine) (s : State) : outline (modEngine e f s) = outline s := outline_with_eng _ _

@[simp] theorem outline_modCompat (f : Compat → Compat) (s : State) : outline (modCompat f s) = outline s := outline_with_compat _ _

@[simp] theorem outline_modGqChan (n : Fin 16) (f : GqChan → GqChan) (s : State) : outline (modGqChan n f s) = outline s := outline_with_compat _ _

@[simp] theorem outline_raise (n : Nat) (obj : Nat) (detail : Nat) (s : State) : outline (raise n obj detail s) = outline s := outline_with_faults _ _

/-! ## Events and records (R99, R104, R537) -/

@[simp] theorem outline_coalesce (r unread : Nat) (s : State) : outline (coalesce r unread s) = outline s := by
  simp only [coalesce, outline_raiseVector, outline_modRing, outline_ite, ite_self]

@[simp] theorem outline_postEntry (e : EventRec) (recorded : Bool) (seq : Word) (s : State) : outline (postEntry e recorded seq s) = outline s := by
  simp only [postEntry, outline_coalesce, outline_modRing, outline_with_hif, outline_ite, ite_self]

@[simp] theorem outline_postEvent (code severity source : Nat) (bytes : List Byte) (s : State) :
    outline (postEvent code severity source bytes s) = outline s := by
  simp only [postEvent, outline_postEntry]

@[simp] theorem outline_gbLose (g : GbEntry) (s : State) : outline (gbLose g s) = outline s := by
  simp only [gbLose, outline_postEntry, outline_with_gb, outline_foldl, implies_true]

@[simp] theorem outline_gbIntake (g : GbEntry) (s : State) : outline (gbIntake g s) = outline s := by
  simp only [gbIntake, outline_gbLose, outline_with_gb, outline_ite, ite_self]

@[simp] theorem outline_gbCollector (g : GbEntry) (s : State) : outline (gbCollector g s) = outline s := by
  simp only [gbCollector, outline_with_gb, outline_ite, ite_self]

@[simp] theorem outline_logRecord (cls severity source code : Nat) (bytes : List Byte) (events : List EventRec) (s : State) :
    outline (logRecord cls severity source code bytes events s) = outline s := by
  simp only [logRecord, outline_gbIntake]

@[simp] theorem outline_protRecord (code obj ch dir prt step reason : Nat) (i : ProtInfo) (s : State) :
    outline (protRecord code obj ch dir prt step reason i s) = outline s := by
  simp only [protRecord, outline_logRecord, outline_with_protWait, outline_ite, ite_self]

@[simp] theorem outline_dirRecord (code : Nat) (c : Fin 64) (d : Dir) (step reason : Nat) (i : ProtInfo) (s : State) :
    outline (dirRecord code c d step reason i s) = outline s := by
  simp only [dirRecord, outline_protRecord]

@[simp] theorem outline_portRecord (code : Nat) (p : Fin 8) (step reason : Nat) (i : ProtInfo) (s : State) :
    outline (portRecord code p step reason i s) = outline s := by
  simp only [portRecord, outline_protRecord]

@[simp] theorem outline_systemRecord (cls severity codeOf writer : Nat) (bytes : List Byte) (events : List EventRec) (s : State) :
    outline (systemRecord cls severity codeOf writer bytes events s) = outline s := by
  simp only [systemRecord, outline_logRecord]

@[simp] theorem outline_lifeRecord (code : Nat) (retired : Option (Fin 256)) (s : State) : outline (lifeRecord code retired s) = outline s := by
  simp only [lifeRecord, outline_logRecord]

@[simp] theorem outline_flushProt (s : State) : outline (flushProt s) = outline s := by
  simp only [flushProt, outline_logRecord, outline_with_protWait, outline_foldl, implies_true]

@[simp] theorem outline_dropScan (old : PowerState) (s : State) : outline (dropScan old s) = outline s := by
  simp only [dropScan, outline_with_dbg, outline_ite, ite_self]

@[simp] theorem outline_powerRecord (old new : PowerState) (cause writer : Nat) (s : State) :
    outline (powerRecord old new cause writer s) = outline s := by
  simp only [powerRecord, outline_dropScan, outline_logRecord]

@[simp] theorem outline_writeCheckpoint (s : State) : outline (writeCheckpoint s) = outline s := by
  simp only [writeCheckpoint, outline_with_gb]

/-! ## Waits for hardware, and messages between devices -/

/-- A command that waits for hardware does not wait for its epochs. -/
@[simp] theorem outline_hardwareDone (q : Nat) (want : Desc → Bool) (results : List Int) (s : State) :
    outline (hardwareDone q want results s) = outline s := by
  refine outline_modSource _ _ _ (fun x => ?_)
  simp only [epochView, Option.map_map]
  congr 1
  funext r
  rw [Function.comp_apply]
  by_cases h : (r.wait == .hardware && want r.desc) = true
  · have hw : r.wait = .hardware := by simpa using (Bool.and_eq_true_iff.mp h).1
    rw [if_pos h, if_neg Wait.noConfusion, hw, if_neg Wait.noConfusion]
  · rw [if_neg h]

@[simp] theorem outline_answerMeasure (c : Fin 64) (d : Dir) (s : State) : outline (answerMeasure c d s) = outline s := by
  unfold answerMeasure
  split
  · exact outline_hardwareDone _ _ _ _
  · rfl

@[simp] theorem outline_answerRing (r : Fin 10) (ringOf : Option (Fin 22)) (results : List Int) (s : State) :
    outline (answerRing r ringOf results s) = outline s := by
  unfold answerRing
  split
  · exact outline_hardwareDone _ _ _ _
  · rfl

theorem outline_sendFrame {l : Nat} {f : ObxFrame} {s t : State} (h : sendFrame l f s = some t) : outline t = outline s := by
  unfold sendFrame at h
  split at h
  · rw [← Option.some.inj h, outline_modLink]
  · cases h

@[simp] theorem outline_sendControl (a : Nat) (m : ControlMsg) (s : State) : outline (sendControl a m s) = outline s := by
  unfold sendControl
  split
  · cases h : sendFrame _ _ s with
    | none => rfl
    | some t => exact outline_sendFrame h
  · rfl

@[simp] theorem outline_flushTwin (l : List ControlMsg) (s : State) : outline (flushTwin l s) = outline s := by
  induction l generalizing s with
  | nil => exact outline_modTwin _ _
  | cons m l ih =>
    unfold flushTwin
    split
    · next h => exact (ih _).trans (outline_sendFrame h)
    · exact outline_modTwin _ _

@[simp] theorem outline_queueTwin (m : ControlMsg) (s : State) : outline (queueTwin m s) = outline s := by
  simp only [queueTwin, outline_flushTwin]

@[simp] theorem outline_tellSplit (c : Fin 64) (d : Dir) (s : State) : outline (tellSplit c d s) = outline s := by
  simp only [tellSplit, outline_sendControl, outline_ite, ite_self]

@[simp] theorem outline_tellCal (c : Fin 64) (d : Dir) (s : State) : outline (tellCal c d s) = outline s := by
  simp only [tellCal, outline_sendControl, outline_ite, ite_self]

@[simp] theorem outline_setLink (l : Nat) (v : ObxState) (lanes : BitVec 4) (s : State) : outline (setLink l v lanes s) = outline s := by
  simp only [setLink, outline_modLink, outline_postEvent, outline_ite, ite_self]

@[simp] theorem outline_trainLink (s : State) : outline (trainLink s) = outline s :=
  outline_with_hif _ _ rfl

/-! ## The stability machine (R193-R207) -/

@[simp] theorem outline_refreshK (c : Fin 64) (d : Dir) (s : State) : outline (refreshK c d s) = outline s := by
  simp only [refreshK, outline_modStab]

@[simp] theorem outline_watchNet (c : Fin 64) (d : Dir) (s : State) : outline (watchNet c d s) = outline s := by
  simp only [watchNet, outline_modGq, outline_dirRecord, outline_with_compat, outline_ite, ite_self]

@[simp] theorem outline_setStability (c : Fin 64) (d : Dir) (m : Stability) (s : State) : outline (setStability c d m s) = outline s := by
  simp only [setStability, outline_modStab, outline_tellSplit, outline_postEvent, outline_ite, ite_self]

@[simp] theorem outline_enterMarginLost (c : Fin 64) (d : Dir) (s : State) : outline (enterMarginLost c d s) = outline s := by
  simp only [enterMarginLost, outline_answerMeasure, outline_raise, outline_setStability]

@[simp] theorem outline_enterBackoff (c : Fin 64) (d : Dir) (ceiling : Int) (s : State) : outline (enterBackoff c d ceiling s) = outline s := by
  simp only [enterBackoff, outline_enterMarginLost, outline_setStability, outline_ite, ite_self]

@[simp] theorem outline_watchState (c : Fin 64) (d : Dir) (v : Int) (s : State) : outline (watchState c d v s) = outline s := by
  simp only [watchState, outline_setStability]

@[simp] theorem outline_settleWatch (c : Fin 64) (d : Dir) (s : State) : outline (settleWatch c d s) = outline s := by
  simp only [settleWatch, outline_watchNet, outline_enterBackoff, outline_watchState, outline_ite, ite_self]

@[simp] theorem outline_enterClimb (c : Fin 64) (d : Dir) (ceiling : Int) (s : State) : outline (enterClimb c d ceiling s) = outline s := by
  simp only [enterClimb, outline_setStability]

@[simp] theorem outline_settleNative (c : Fin 64) (d : Dir) (s : State) : outline (settleNative c d s) = outline s := by
  simp only [settleNative]
  split <;> simp only [outline_enterBackoff, outline_setStability, outline_enterClimb, outline_ite, ite_self]

@[simp] theorem outline_settle (c : Fin 64) (d : Dir) (s : State) : outline (settle c d s) = outline s := by
  simp only [settle, outline_settleWatch, outline_settleNative, outline_ite, ite_self]

@[simp] theorem outline_newTarget (c : Fin 64) (d : Dir) (s : State) : outline (newTarget c d s) = outline s := by
  simp only [newTarget, outline_modStab, outline_settle, outline_ite, ite_self]

@[simp] theorem outline_unfreeze (c : Fin 64) (d : Dir) (s : State) : outline (unfreeze c d s) = outline s := by
  simp only [unfreeze, outline_refreshK, outline_modStab, outline_newTarget, outline_enterClimb, outline_ite, ite_self]

@[simp] theorem outline_freezeFrom (was : Bool) (c : Fin 64) (d : Dir) (s : State) : outline (freezeFrom was c d s) = outline s := by
  simp only [freezeFrom, outline_modStab, outline_unfreeze, outline_ite, ite_self]

@[simp] theorem outline_refreeze (was : List ((Fin 64 × Dir) × Bool)) (s : State) : outline (refreeze was s) = outline s := by
  simp only [refreeze, outline_freezeFrom, outline_foldl, implies_true]

@[simp] theorem outline_watchTick (c : Fin 64) (d : Dir) (s : State) : outline (watchTick c d s) = outline s := by
  simp only [watchTick, outline_settleWatch, outline_modGq, outline_modStab, outline_watchState, outline_ite, ite_self]

@[simp] theorem outline_climbTick (c : Fin 64) (d : Dir) (s : State) : outline (climbTick c d s) = outline s := by
  simp only [climbTick, outline_setStability, outline_modStab, outline_ite, ite_self]

@[simp] theorem outline_stabilityTick (c : Fin 64) (d : Dir) (s : State) : outline (stabilityTick c d s) = outline s := by
  simp only [stabilityTick, outline_ite, outline_watchTick, outline_refreshK]
  split
  · rfl
  · split
    · rfl
    · split <;> simp only [outline_modStab, outline_settle, outline_climbTick, outline_refreshK, outline_ite, ite_self]

/-! ## Rails and their loops -/

@[simp] theorem outline_setRailState (r : Fin 10) (v : RailState) (source : Nat) (s : State) : outline (setRailState r v source s) = outline s := by
  simp only [setRailState, outline_postEvent, outline_modRail, outline_ite, ite_self]

@[simp] theorem outline_phasesOn (r : Fin 10) (s : State) : outline (phasesOn r s) = outline s := by
  simp only [phasesOn, outline_modPhase, outline_foldl, implies_true]

@[simp] theorem outline_startLoop (l : Nat) (s : State) : outline (startLoop l s) = outline s := by
  simp only [startLoop, outline_modLoop]

@[simp] theorem outline_beginSoftStart (r : Fin 10) (s : State) : outline (beginSoftStart r s) = outline s := by
  simp only [beginSoftStart, outline_phasesOn, outline_setRailState, outline_modRail, outline_startLoop, outline_modLoop, outline_ite, ite_self]

@[simp] theorem outline_dropWaits (r : Fin 10) (results : List Int) (s : State) : outline (dropWaits r results s) = outline s := by
  simp only [dropWaits, outline_modRail, outline_answerRing]

@[simp] theorem outline_beginRailStop (r : Fin 10) (s : State) : outline (beginRailStop r s) = outline s := by
  simp only [beginRailStop, outline_setRailState, outline_dropWaits, outline_ite, ite_self]

@[simp] theorem outline_stopGroup (r : Fin 10) (s : State) : outline (stopGroup r s) = outline s := by
  simp only [stopGroup, outline_beginRailStop, outline_foldl, implies_true]

@[simp] theorem outline_stopPortRails (s : State) : outline (stopPortRails s) = outline s := by
  simp only [stopPortRails, outline_stopGroup, outline_with_sys, outline_foldl, implies_true]

/-! ## Mutes, port stops and power states (R254-R277) -/

@[simp] theorem outline_legacyMute (c : Fin 64) (d : Dir) (reason : Nat) (s : State) : outline (legacyMute c d reason s) = outline s := by
  simp only [legacyMute, outline_modGq, outline_with_compat, outline_ite, ite_self]

@[simp] theorem outline_addMute (c : Fin 64) (d : Dir) (reason : Nat) (i : ProtInfo) (s : State) : outline (addMute c d reason i s) = outline s := by
  simp only [addMute, outline_modGain, outline_dirRecord, outline_freezeFrom, outline_legacyMute, outline_ite, ite_self]

@[simp] theorem outline_dropMute (c : Fin 64) (d : Dir) (reason : Nat) (i : ProtInfo) (s : State) :
    outline (dropMute c d reason i s) = outline s := by
  simp only [dropMute, outline_modGain, outline_dirRecord, outline_freezeFrom, outline_ite, ite_self]

@[simp] theorem outline_endFaultMute (c : Fin 64) (d : Dir) (s : State) : outline (endFaultMute c d s) = outline s := by
  simp only [endFaultMute, outline_dropMute, outline_ite, ite_self]

@[simp] theorem outline_noteHolds (c : Fin 64) (d : Dir) (s : State) : outline (noteHolds c d s) = outline s := by
  simp only [noteHolds, outline_modDir_lines, implies_true]

@[simp] theorem outline_refreshHolds (s : State) : outline (refreshHolds s) = outline s := by
  simp only [refreshHolds, outline_noteHolds, outline_freezeFrom, outline_modDir_lines, outline_foldl, outline_ite, ite_self, implies_true]

@[simp] theorem outline_refreshPortStops (s : State) : outline (refreshPortStops s) = outline s := by
  simp only [refreshPortStops, outline_refreshHolds, outline_addMute, outline_dropMute, outline_foldl, implies_true, outline_ite, ite_self]

@[simp] theorem outline_releasePort (p : Fin 8) (reason : Nat) (i : ProtInfo) (s : State) : outline (releasePort p reason i s) = outline s := by
  simp only [releasePort, outline_modPort, outline_refreshPortStops, outline_portRecord, outline_ite, ite_self, implies_true]

@[simp] theorem outline_releaseDeviceStops (s : State) : outline (releaseDeviceStops s) = outline s := by
  simp only [releaseDeviceStops, outline_portRecord, outline_modPort, outline_refreshPortStops, outline_foldl, outline_ite, ite_self, implies_true]

@[simp] theorem outline_beginStop (portCode : Nat) (s : State) : outline (beginStop portCode s) = outline s := by
  simp only [beginStop, outline_modPort, outline_portRecord, outline_stopPortRails, outline_flushProt, outline_refreshPortStops, outline_foldl,
    outline_ite, ite_self, implies_true]

@[simp] theorem outline_enterStopped (s : State) : outline (enterStopped s) = outline s := by
  simp only [enterStopped, outline_refreeze, outline_with_sys]

@[simp] theorem outline_orderlyStop (reason : Nat) (src : Option (Fin 512)) (writer : Nat) (s : State) :
    outline (orderlyStop reason src writer s) = outline s := by
  simp only [orderlyStop, outline_ite, outline_enterStopped, outline_writeCheckpoint, outline_powerRecord, outline_beginStop, outline_protRecord,
    outline_with_sys, ite_self]

@[simp] theorem outline_checkPorts (s : State) : outline (checkPorts s) = outline s := by
  simp only [checkPorts, outline_orderlyStop, outline_ite, ite_self]

@[simp] theorem outline_legacyStop (p : Fin 8) (reason : Nat) (s : State) : outline (legacyStop p reason s) = outline s := by
  simp only [legacyStop, outline_modGq, outline_with_compat, outline_foldl, implies_true, outline_ite, ite_self]

@[simp] theorem outline_stopPort (p : Fin 8) (reason : Nat) (i : ProtInfo) (s : State) : outline (stopPort p reason i s) = outline s := by
  simp only [stopPort, outline_modPort, outline_checkPorts, outline_refreshPortStops, outline_portRecord, outline_legacyStop, outline_ite, ite_self,
    implies_true]

@[simp] theorem outline_restartProgress (s : State) : outline (restartProgress s) = outline s := by
  unfold restartProgress
  split <;> simp only [outline_releaseDeviceStops, outline_powerRecord, outline_refreeze, outline_with_sys, outline_ite, ite_self]

@[simp] theorem outline_beginRestart (automatic : Bool) (s : State) : outline (beginRestart automatic s) = outline s := by
  simp only [beginRestart, outline_restartProgress, outline_beginSoftStart, outline_with_sys, outline_foldl, implies_true]

@[simp] theorem outline_autoRestart (s : State) : outline (autoRestart s) = outline s := by
  simp only [autoRestart, outline_beginRestart, outline_ite, ite_self]

/-! ## The fault collector -/

@[simp] theorem outline_takeParams (n : Fin 512) (s : State) : outline (takeParams n s) = outline s := by
  unfold takeParams
  split <;> simp only [outline_modFault, outline_ite, ite_self]

@[simp] theorem outline_phaseFaultExit (n : Nat) (s : State) : outline (phaseFaultExit n s) = outline s := by
  simp only [phaseFaultExit]
  split
  · rfl
  · split
    · split <;> simp only [outline_postEvent, outline_modPhase]
    · rfl

@[simp] theorem outline_railFaultExit (n : Nat) (s : State) : outline (railFaultExit n s) = outline s := by
  simp only [railFaultExit, outline_setRailState, outline_beginSoftStart, outline_foldl, implies_true, outline_ite, ite_self]

@[simp] theorem outline_endActions (n : Nat) (s : State) : outline (endActions n s) = outline s := by
  simp only [endActions, outline_modFault, outline_endFaultMute, outline_releasePort, outline_foldl, implies_true, outline_ite, ite_self]

@[simp] theorem outline_enterClear (n : Nat) (s : State) : outline (enterClear n s) = outline s := by
  simp only [enterClear, outline_phaseFaultExit, outline_railFaultExit, outline_endActions, outline_modFault, outline_autoRestart, outline_ite,
    ite_self]

@[simp] theorem outline_setParked (n : Fin 512) (on : Bool) (s : State) : outline (setParked n on s) = outline s := by
  simp only [setParked, outline_with_sys]

@[simp] theorem outline_releaseSource (n : Fin 512) (simul : Bool) (s : State) : outline (releaseSource n simul s).2 = outline s := by
  simp only [releaseSource]
  split
  · exact outline_modFault _ _ _
  · exact (outline_enterClear _ _).trans ((outline_setParked _ _ _).trans (outline_modFault _ _ _))

theorem outline_releaseSources (simul : Bool) (l : List (Fin 512)) (v : List GbEntry × State) :
    outline (l.foldl (fun (v : List GbEntry × State) n => let w := releaseSource n simul v.2; (v.1 ++ w.1, w.2)) v).2 = outline v.2 := by
  induction l generalizing v with
  | nil => rfl
  | cons n l ih => rw [List.foldl_cons, ih, outline_releaseSource]

@[simp] theorem outline_settleFaults (simul : Bool) (s : State) : outline (settleFaults simul s).2 = outline s := by
  rw [settleFaults, outline_with_faults, outline_releaseSources]
  exact outline_foldl _ _ _ (fun _ _ => outline_takeParams _ _)

@[simp] theorem outline_settleDue (s : State) : outline (settleDue s) = outline s := by
  simp only [settleDue, outline_ite, outline_foldl, outline_gbCollector, outline_settleFaults, implies_true, ite_self]

/-! ## The Guestbook -/

@[simp] theorem outline_clearPoint (x : Record) (s : State) : outline (clearPoint x s) = outline s := by
  simp only [clearPoint, outline_postEntry, outline_modGb, outline_ite, ite_self]

@[simp] theorem outline_program (x : Record) (s : State) : outline (program x s) = outline s := by
  simp only [program, outline_modGb]

@[simp] theorem outline_commitOne (s : State) (c : Staged) : outline (commitOne s c) = outline s := by
  simp only [commitOne, outline_clearPoint, outline_program, outline_modGb]

@[simp] theorem outline_commitAll (s : State) : outline (commitAll s) = outline s := by
  simp only [commitAll, outline_commitOne, outline_modGb, outline_writeCheckpoint, outline_foldl, implies_true, outline_ite, ite_self]

@[simp] theorem outline_stage (x : Record) (isOpen : Bool) (s : State) : outline (stage x isOpen s) = outline s := by
  simp only [stage, outline_modGb]

@[simp] theorem outline_closeTail (s : State) : outline (closeTail s) = outline s := by
  unfold closeTail
  split <;> simp only [outline_stage, outline_modGb, outline_ite, ite_self]

@[simp] theorem outline_latchSequence (x : Record) (s : State) : outline (latchSequence x s) = outline s := by
  simp only [latchSequence, outline_with_faults, outline_ite, ite_self]

@[simp] theorem outline_newRecord (cls severity : Nat) (source codeOf : Half) (flags : Nat) (body : List Byte) (timeUs : Nat)
    (events : List EventRec) (s : State) : outline (newRecord cls severity source codeOf flags body timeUs events s) = outline s := by
  simp only [newRecord, outline_closeTail, outline_stage, outline_modGb, outline_postEntry, outline_latchSequence, outline_foldl, implies_true]

@[simp] theorem outline_ownRecord (cls severity codeOf flags : Nat) (body : List Byte) (events : List EventRec) (s : State) :
    outline (ownRecord cls severity codeOf flags body events s) = outline s := by
  simp only [ownRecord, outline_newRecord]

@[simp] theorem outline_writeOverflow (s : State) : outline (writeOverflow s) = outline s := by
  simp only [writeOverflow, outline_ownRecord, outline_modGb, outline_ite, ite_self]

@[simp] theorem outline_loseWaiting (s : State) : outline (loseWaiting s) = outline s := by
  unfold loseWaiting
  split <;> simp only [outline_gbLose, outline_modGb, outline_with_faults, outline_ite, ite_self]

@[simp] theorem outline_loseLate (n : Nat) (s : State) : outline (loseLate n s) = outline s := by
  induction n generalizing s with
  | zero => rfl
  | succ n ih => rw [loseLate, outline_ite, ih, outline_loseWaiting, ite_self]

@[simp] theorem outline_admitCollector (s : State) : outline (admitCollector s) = outline s := by
  simp only [admitCollector]
  split
  · simp only [outline_modGb, outline_loseLate, outline_ite, ite_self]
  · exact outline_loseLate _ _

@[simp] theorem outline_noteTaken (e : GbEntry) (folded : Bool) (s : State) : outline (noteTaken e folded s) = outline s := by
  simp only [noteTaken, outline_modGb, outline_with_hif, outline_ite, ite_self]

@[simp] theorem outline_fileEntry (e : GbEntry) (s : State) : outline (fileEntry e s) = outline s := by
  simp only [fileEntry]
  split <;> simp only [outline_noteTaken, outline_foldl, outline_postEntry, outline_closeTail, outline_modGb, outline_newRecord, outline_ite,
    ite_self, implies_true]

@[simp] theorem outline_takeFront (s : State) : outline (takeFront s) = outline s := by
  unfold takeFront
  split <;> simp only [outline_writeOverflow, outline_admitCollector, outline_fileEntry, outline_modGb]

@[simp] theorem outline_takeEntries (n : Nat) (s : State) : outline (takeEntries n s) = outline s := by
  induction n generalizing s with
  | zero => rfl
  | succ n ih => rw [takeEntries, ih, outline_takeFront]

@[simp] theorem outline_guestbookStart (kind : Nat) (powerUp : Bool) (s : State) : outline (guestbookStart kind powerUp s) = outline s := by
  simp only [guestbookStart, outline_commitAll, outline_closeTail, outline_takeEntries, outline_modGb, outline_ownRecord, outline_ite, ite_self]

/-! ## Start-up (R563) -/

@[simp] theorem outline_selectGeneration (s : State) : outline (selectGeneration s) = outline s := by
  unfold selectGeneration
  split <;> simp only [outline_modHr, outline_raise, outline_addMute, outline_foldl, implies_true, outline_ite, ite_self]

@[simp] theorem outline_bootInnkeeper (s : State) : outline (bootInnkeeper s) = outline s := by
  unfold bootInnkeeper
  split <;> simp only [outline_modSys, outline_systemRecord]

@[simp] theorem outline_resumeCounts (s : State) : outline (resumeCounts s) = outline s := by
  simp only [resumeCounts, outline_modGb, outline_with_opBase]

@[simp] theorem outline_wireVoltageLoop (r : Fin 10) (div : Nat) (s : State) : outline (wireVoltageLoop r div s) = outline s := by
  simp only [wireVoltageLoop, outline_modLoop]

@[simp] theorem outline_startCoreLoop (s : State) : outline (startCoreLoop s) = outline s := by
  simp only [startCoreLoop, outline_modLoop, outline_wireVoltageLoop, outline_startLoop, outline_modSupply, outline_ite, ite_self]

@[simp] theorem outline_loadCalibrations (s : State) : outline (loadCalibrations s) = outline s := by
  simp only [loadCalibrations, outline_modPort, outline_foldl, implies_true]

@[simp] theorem outline_restoreParked (s : State) : outline (restoreParked s) = outline s := by
  simp only [restoreParked, outline_modFault, outline_foldl, implies_true]

@[simp] theorem outline_raiseTrips (s : State) : outline (raiseTrips s) = outline s := by
  simp only [raiseTrips, outline_raise, outline_modNpt, outline_foldl, implies_true, outline_ite, ite_self]

@[simp] theorem outline_reportCutoff (s : State) : outline (reportCutoff s) = outline s := by
  simp only [reportCutoff, outline_lifeRecord, outline_raise, outline_modThermal, outline_ite, ite_self]

@[simp] theorem outline_replay (image : SavedConfig) (s : State) : outline (replay image s) = outline s := by
  rw [replay, outline_with_radio_sys]
  exact outline_modSource_running _ _ _ (fun _ => rfl)

@[simp] theorem outline_setLodger (n : Fin 4) (v : LodgerState) (cause writer : Nat) (s : State) :
    outline (setLodger n v cause writer s) = outline s := by
  simp only [setLodger, outline_modLodger, outline_systemRecord]

@[simp] theorem outline_runLodger (n : Fin 4) (cause writer : Nat) (s : State) : outline (runLodger n cause writer s) = outline s := by
  simp only [runLodger, outline_setLodger, outline_modLodger]

@[simp] theorem outline_startLodgers (s : State) : outline (startLodgers s) = outline s := by
  refine outline_foldl _ _ _ (fun s n => ?_)
  split <;> simp only [outline_runLodger, outline_modLodger, outline_ite, ite_self]

@[simp] theorem outline_startUp (s : State) : outline (startUp s) = outline s := by
  simp only [startUp, outline_ite, outline_modSys, outline_trainLink, outline_setLink, outline_startLodgers]
  split
  · rfl
  · split <;> simp only [outline_replay, outline_raiseTrips, outline_reportCutoff, outline_startCoreLoop, outline_loadCalibrations,
    outline_restoreParked,
      outline_ite, outline_powerRecord, outline_guestbookStart, outline_resumeCounts, outline_modNpt, outline_selectGeneration, outline_bootInnkeeper,
      ite_self]

/-! ## The work of a slow tick -/

@[simp] theorem outline_postSubstituted (n severity : Nat) (s : State) : outline (postSubstituted n severity s) = outline s := by
  simp only [postSubstituted, outline_postEvent]

@[simp] theorem outline_reportFailure (old : Sensor) (s : State) (n : Nat) : outline (reportFailure old s n) = outline s := by
  simp only [reportFailure, outline_postSubstituted, outline_raise, outline_ite, ite_self]

@[simp] theorem outline_hotTick (s : State) : outline (hotTick s) = outline s := by
  simp only [hotTick, outline_modThermal]

@[simp] theorem outline_lifeSteps (s : State) : outline (lifeSteps s) = outline s := by
  simp only [lifeSteps, outline_lifeRecord, outline_modThermal, outline_ite, ite_self]

@[simp] theorem outline_lifeTick (s : State) : outline (lifeTick s) = outline s := by
  simp only [lifeTick, outline_modThermal]

@[simp] theorem outline_refreshThermalStops (s : State) : outline (refreshThermalStops s) = outline s := by
  refine outline_foldl _ _ _ (fun s p => ?_)
  dsimp only
  split <;> simp only [outline_stopPort, outline_releasePort]

@[simp] theorem outline_requestChange (c : Fin 64) (d : Dir) (k : EpochKind) (settings : List Setting) (eff : Option Word) (s : State) :
    outline (requestChange c d k settings eff s) = outline s := by
  refine (outline_modDir _ _ _ _ ?_).trans (outline_with_tickets _ _)
  cases k <;> rfl

@[simp] theorem outline_spreadSteps (old : Vector (Fin 7) 16) (s : State) : outline (spreadSteps old s) = outline s := by
  simp only [spreadSteps, outline_requestChange, outline_foldl, implies_true]

@[simp] theorem outline_setWingStep (w : Fin 16) (new : Fin 7) (s : State) : outline (setWingStep w new s) = outline s := by
  simp only [setWingStep, outline_postEvent, outline_modThermal, outline_ite, ite_self]

@[simp] theorem outline_wingStepTick (s : State) (w : Fin 16) : outline (wingStepTick s w) = outline s := by
  simp only [wingStepTick, outline_setWingStep]

@[simp] theorem outline_wingSteps (s : State) : outline (wingSteps s) = outline s := by
  simp only [wingSteps, outline_spreadSteps, outline_wingStepTick, outline_queueTwin, outline_foldl, implies_true, outline_ite, ite_self]

@[simp] theorem outline_thermalTick (m : SlowMeas) (s : State) : outline (thermalTick m s) = outline s := by
  simp only [thermalTick, outline_modThermal, outline_hotTick, outline_lifeSteps, outline_lifeTick, outline_refreshThermalStops, outline_wingSteps]
  rw [outline_with_ports _ _ (by ext; simp)]
  simp only [outline_foldl, outline_reportFailure, outline_modThermal, outline_with_eng, implies_true]

@[simp] theorem outline_insertTokens (s : State) : outline (insertTokens s) = outline s := by
  rw [insertTokens, outline_with_pool]
  refine outline_foldl _ _ _ (fun s l => ?_)
  dsimp only
  split
  · rfl
  · split
    · next h => exact (outline_modLink _ _ _).trans (outline_sendFrame h)
    · rfl

@[simp] theorem coupled_config (df : DirDef) (x : Direction) : (x.coupled df).config = x.config := by
  simp only [Direction.coupled]
  split <;> rfl

@[simp] theorem coupled_gainLine (df : DirDef) (x : Direction) : (x.coupled df).gainLine = x.gainLine := by
  simp only [Direction.coupled]
  split <;> rfl

theorem publish_config (cls n : Nat) (df : DirDef) (x : Direction) : (Direction.publish cls n df x).config = x.config := by
  rw [Direction.publish, coupled_config]
  rfl

theorem publish_gainLine (cls n : Nat) (df : DirDef) (x : Direction) : (Direction.publish cls n df x).gainLine = x.gainLine := by
  rw [Direction.publish, coupled_gainLine]
  rfl

@[simp] theorem outline_publish (n : Nat) (c : Fin 64) (d : Dir) (s : State) : outline (publish n c d s) = outline s := by
  unfold publish
  simp only [outline_ite]
  rw [outline_modDir_lines _ _ _ _ (publish_config _ _ _) (publish_gainLine _ _ _), ite_self]

@[simp] theorem outline_meterTick (s : State) (e : Fin 64 × Dir) : outline (meterTick s e) = outline s := by
  simp only [meterTick, outline_publish, outline_modMeter, outline_ite, ite_self]

@[simp] theorem outline_directionTick (s : State) (e : Fin 64 × Dir) : outline (directionTick s e) = outline s := by
  simp only [directionTick, outline_stabilityTick, outline_modGain, outline_tellCal, outline_tellSplit, outline_ite, ite_self]

@[simp] theorem outline_avsTick (s : State) : outline (avsTick s) = outline s := by
  simp only [avsTick, outline_ite, outline_modSupply, outline_modRail, outline_postEvent, ite_self]

@[simp] theorem outline_refreshEngines (s : State) : outline (refreshEngines s) = outline s :=
  outline_with_eng _ _

@[simp] theorem outline_buildPlan (a : Fin 256) (cls latency : Nat) (mask : BitVec 16) (p : Plan) (s : State) :
    outline (buildPlan a cls latency mask p s) = outline s := by
  simp only [buildPlan, outline_refreshEngines, outline_modAsg]

@[simp] theorem outline_settleAsg (a : Fin 256) (s : State) : outline (settleAsg a s) = outline s := by
  simp only [settleAsg, outline_ite, outline_refreshEngines]
  split
  · split <;> simp only [outline_buildPlan, outline_refreshEngines]
  · rfl

@[simp] theorem outline_moveSegments (a : Fin 256) (moves : List (Segment × Fin 256)) (s : State) : outline (moveSegments a moves s) = outline s :=
  outline_modAsg _ _ _

@[simp] theorem outline_rebuildAsg (a : Fin 256) (s : State) : outline (rebuildAsg a s) = outline s := by
  unfold rebuildAsg
  split
  · rfl
  · simp only [outline_endFaultMute, outline_modAsg, outline_ite, ite_self]
  · split
    · rfl
    · simp only [outline_settleAsg, outline_modAsg, outline_moveSegments]

@[simp] theorem outline_startMigration (m : Migration) (s : State) : outline (startMigration m s) = outline s := by
  simp only [startMigration, outline_modEngine, outline_with_eng, outline_foldl, implies_true]

@[simp] theorem outline_beginMigration (a : Fin 256) (moves : List (Segment × Fin 256)) (ringOf : Option (Fin 22)) (s : State) :
    outline (beginMigration a moves ringOf s) = outline s := by
  simp only [beginMigration, outline_startMigration]

@[simp] theorem outline_relieveWing (w : Fin 16) (s : State) : outline (relieveWing w s) = outline s := by
  simp only [relieveWing]
  split
  · rfl
  · split <;> simp only [outline_beginMigration]

@[simp] theorem outline_relieve (e : Fin 256) (s : State) : outline (relieve e s) = outline s := by
  simp only [relieve]
  split
  · rfl
  · split
    · rfl
    · split <;> simp only [outline_beginMigration, outline_postEvent, outline_raise, outline_ite, ite_self]

@[simp] theorem outline_respareWing (w : Fin 16) (s : State) : outline (respareWing w s) = outline s := by
  simp only [respareWing]
  split
  · rfl
  · split
    · exact outline_modEngine _ _ _
    · split
      · rfl
      · split
        · rfl
        · split <;> simp only [outline_beginMigration]

@[simp] theorem outline_placementTick (s : State) : outline (placementTick s) = outline s := by
  simp only [placementTick, outline_rebuildAsg, outline_relieveWing, outline_relieve, outline_respareWing, outline_with_eng, outline_foldl,
    implies_true, outline_ite, ite_self]

@[simp] theorem outline_refreshSource (s : State) (q : Nat) : outline (refreshSource s q) = outline s := by
  simp only [refreshSource, outline_modSource_running, implies_true]

@[simp] theorem outline_refreshReady (s : State) : outline (refreshReady s) = outline s := by
  simp only [refreshReady, outline_refreshSource, outline_foldl, implies_true]

@[simp] theorem outline_legacyMeasure (n : Fin 16) (s : State) (d : Dir) : outline (legacyMeasure n s d) = outline s := by
  simp only [legacyMeasure, outline_modGqChan]

@[simp] theorem outline_legacyTick (s : State) : outline (legacyTick s) = outline s := by
  simp only [legacyTick, outline_legacyMeasure, outline_modCompat, outline_foldl, implies_true, outline_ite, ite_self]

@[simp] theorem outline_sleepCommit (writer : Nat) (s : State) : outline (sleepCommit writer s) = outline s := by
  simp only [sleepCommit, outline_modSys, outline_powerRecord, outline_closeTail, outline_commitAll, outline_takeEntries]

@[simp] theorem outline_sleepTick (s : State) : outline (sleepTick s) = outline s := by
  simp only [sleepTick, outline_sleepCommit, outline_ite, ite_self]

@[simp] theorem outline_lossTick (s : State) : outline (lossTick s) = outline s := by
  simp only [lossTick, outline_modSys]

@[simp] theorem outline_slowWork (m : SlowMeas) (s : State) : outline (slowWork m s) = outline s := by
  simp only [slowWork, outline_settleDue, outline_startUp, outline_thermalTick, outline_insertTokens, outline_meterTick, outline_directionTick,
    outline_avsTick, outline_placementTick, outline_refreshReady, outline_legacyTick, outline_sleepTick, outline_flushProt, outline_lossTick,
    outline_foldl, implies_true]

/-! ## The work of an ALC tick -/

@[simp] theorem outline_dirReduction (c : Fin 64) (d : Dir) (reason : Nat) (binding : Bool) (i : ProtInfo) (s : State) :
    outline (dirReduction c d reason binding i s) = outline s := by
  simp only [dirReduction, outline_modGain, outline_dirRecord, outline_ite, ite_self]

@[simp] theorem outline_alcReductions (c : Fin 64) (d : Dir) (s : State) : outline (alcReductions c d s) = outline s := by
  simp only [alcReductions, outline_dirReduction, outline_ite, ite_self]

@[simp] theorem outline_alcSupervise (c : Fin 64) (d : Dir) (s : State) : outline (alcSupervise c d s) = outline s := by
  simp only [alcSupervise]
  split <;> simp only [outline_modGain, outline_raise, outline_ite, ite_self]

@[simp] theorem outline_alcLoop (c : Fin 64) (d : Dir) (s : State) : outline (alcLoop c d s) = outline s := by
  simp only [alcLoop, outline_modGain, outline_ite, ite_self]

@[simp] theorem outline_clearTaps (s : State) : outline (clearTaps s) = outline s := by
  rw [clearTaps, outline_with_ports _ _ (by simp)]
  exact outline_foldl _ _ _ (fun _ _ => outline_modGain _ _ _ _)

@[simp] theorem outline_portReduction (p : Fin 8) (reason : Nat) (binding : Bool) (i : ProtInfo) (s : State) :
    outline (portReduction p reason binding i s) = outline s := by
  simp only [portReduction, outline_modPort, outline_portRecord, outline_ite, ite_self, implies_true]

@[simp] theorem outline_portReductions (p : Fin 8) (s : State) : outline (portReductions p s) = outline s := by
  simp only [portReductions, outline_portReduction]

@[simp] theorem outline_compSupervise (p : Fin 8) (s : State) : outline (compSupervise p s) = outline s := by
  unfold compSupervise
  split <;> simp only [outline_raise, outline_modPort, outline_ite, ite_self, implies_true]

@[simp] theorem outline_supplyStop (p : Fin 8) (s : State) : outline (supplyStop p s) = outline s := by
  simp only [supplyStop, outline_releasePort, outline_stopPort, outline_ite, ite_self]

@[simp] theorem outline_compLoop (p : Fin 8) (s : State) : outline (compLoop p s) = outline s := by
  simp only [compLoop, outline_supplyStop, outline_modPort, implies_true]

@[simp] theorem outline_alcTick (s : State) : outline (alcTick s) = outline s := by
  simp only [alcTick, outline_alcReductions, outline_alcSupervise, outline_alcLoop, outline_clearTaps, outline_portReductions,
    outline_compSupervise, outline_compLoop, outline_foldl, implies_true]

/-! ## What the end of a command does beside ending it (R80, R91) -/

@[simp] theorem outline_writeBuffer (x : Desc) (bytes : List Byte) (s : State) : outline (writeBuffer x bytes s) = outline s := by
  simp only [writeBuffer, outline_modHif, outline_ite, ite_self]

@[simp] theorem outline_cplWrite (k : Nat) (c : Completion) (s : State) : outline (cplWrite k c s) = outline s := by
  simp only [cplWrite, outline_coalesce, outline_with_hif]

@[simp] theorem outline_postCompletion (q : Nat) (c : Completion) (s : State) : outline (postCompletion q c s) = outline s := by
  simp only [postCompletion, outline_cplWrite, outline_with_hif, outline_ite, ite_self]

@[simp] theorem outline_accept (x : Desc) (s : State) : outline (accept x s) = outline s := by
  simp only [accept, outline_modSys, outline_ite, ite_self]

@[simp] theorem outline_noteAccepted (x : Desc) (s : State) : outline (noteAccepted x s) = outline s := by
  simp only [noteAccepted, outline_accept, outline_queueTwin, outline_ite, ite_self]

@[simp] theorem outline_replayFailed (x : Desc) (status : Status) (detail : Nat) (s : State) :
    outline (replayFailed x status detail s) = outline s := by
  simp only [replayFailed, outline_modSource_running, outline_modSys, outline_systemRecord, implies_true]

@[simp] theorem outline_legacyApplied (w : GqWait) (x : Desc) (s : State) : outline (legacyApplied w x s) = outline s := by
  simp only [legacyApplied, outline_ite, outline_modGqChan, outline_modCompat, ite_self]

@[simp] theorem outline_gqError (codeOf : Nat) (s : State) : outline (gqError codeOf s) = outline s := by
  simp only [gqError, outline_modCompat]

@[simp] theorem outline_legacyRestore (w : GqWait) (s : State) : outline (legacyRestore w s) = outline s := by
  simp only [legacyRestore, outline_ite]
  split <;> split <;> simp only [outline_modCompat, outline_modGqChan]

@[simp] theorem outline_legacyRefused (w : GqWait) (st : Status) (detail : Nat) (s : State) : outline (legacyRefused w st detail s) = outline s := by
  simp only [legacyRefused, outline_modCompat, outline_modSource_running, outline_gqError, outline_legacyRestore, implies_true]

@[simp] theorem outline_legacyReady (s : State) : outline (legacyReady s) = outline s := by
  simp only [legacyReady, outline_with_compat, outline_ite, ite_self]

@[simp] theorem outline_legacyReset (s : State) : outline (legacyReset s) = outline s := by
  simp only [legacyReset, outline_legacyReady, outline_modCompat]

@[simp] theorem outline_legacyDone (x : Desc) (st : Status) (detail : Nat) (s : State) : outline (legacyDone x st detail s) = outline s := by
  simp only [legacyDone]
  split <;> simp only [outline_legacyReset, outline_legacyApplied, outline_legacyRefused, outline_modCompat, outline_ite, ite_self]

@[simp] theorem outline_logAer (s : State) : outline (logAer s) = outline s :=
  outline_with_hif _ _ rfl

@[simp] theorem outline_hostError (s : State) : outline (hostError s) = outline s := by
  simp only [hostError, outline_raise, outline_logAer]

@[simp] theorem outline_endEffects (q : Nat) (r : Running) (st : Status) (detail : Nat) (s : State) :
    outline (endEffects q r st detail s) = outline s := by
  simp only [endEffects, outline_noteAccepted, outline_replayFailed, outline_legacyDone, outline_hostError, outline_ite, ite_self]

@[simp] theorem outline_lateEnd (q : Nat) (r : Running) (f : Finish) (s : State) : outline (lateEnd q r f s) = outline s := by
  simp only [lateEnd, outline_postCompletion, outline_postEvent, outline_endEffects, outline_ite, ite_self]

@[simp] theorem outline_releaseRing (q : Nat) (s : State) : outline (releaseRing q s) = outline s := by
  simp only [releaseRing, outline_modRing, outline_ite, ite_self]

@[simp] theorem outline_postTimeout (q : Nat) (r : Running) (s : State) : outline (postTimeout q r s) = outline s := by
  simp only [postTimeout, outline_releaseRing, outline_postCompletion]

@[simp] theorem outline_finishLate (q i : Nat) (r : Running) (f : Finish) (s : State) : outline (finishLate q i r f s) = outline s := by
  simp only [finishLate, outline_lateEnd, outline_modSource_running, implies_true]

/-! ## Settings adopted at the block that carries them (R40) -/

@[simp] theorem outline_versionSetting (u : KernelUnit) (x : Setting) (s : State) : outline (versionSetting u x s) = outline s := by
  unfold versionSetting
  split <;> simp only [outline_with_eng, outline_ite, ite_self]

@[simp] theorem outline_cancelSetting (i ordinal : Nat) (c : Fin 64) (d : Dir) (x : Setting) (s : State) :
    outline (cancelSetting i ordinal c d x s) = outline s := by
  cases x with
  | cancelParams | cancelReset | tapFraction =>
    show outline (modDir c d _ _) = _
    exact outline_mapPaths _ _ _ _
  | definition df tdd moved =>
    cases moved
    · rfl
    · show outline (modDir c d _ _) = _
      exact outline_mapPaths _ _ _ _
  | _ => rfl

@[simp] theorem outline_shapeSetting (c : Fin 64) (d : Dir) (x : Setting) (s : State) : outline (shapeSetting c d x s) = outline s := by
  unfold shapeSetting
  split
  · exact outline_with_eng _ _
  · exact outline_modChan _ _ _ rfl rfl
  · rfl

@[simp] theorem outline_reclamp (c : Fin 64) (d : Dir) (s : State) : outline (reclamp c d s) = outline s := by
  simp only [reclamp, outline_refreshK, outline_settle, outline_ite, ite_self]

@[simp] theorem outline_refreshCoupling (c : Fin 64) (d : Dir) (s : State) : outline (refreshCoupling c d s) = outline s :=
  outline_modDir_lines _ _ _ _ (coupled_config _) (coupled_gainLine _)

/-- GAIN's part of a new definition before its clamp: the trims, the centre, the couplings, and a lowered estimate where the centre moved. -/
theorem outline_movedDefinition (ordinal : Nat) (c : Fin 64) (d : Dir) (df : DirDef) (moved : Bool) (s : State) :
    let s1 := modChan c (fun ch => { ch with defn := ch.defn.setDir d { ch.defn.dir d with trim := df.trim } }) s
    let s2 := refreshCoupling c d (modDir c d (fun x => { x with gainCentre := df.centre }) s1)
    outline (if moved then modDir c d (fun x =>
      { x with meter := { x.meter with iDrop := 600, cPred := some 0, newSince := some ordinal } }) s2 else s2) = outline s := by
  intro s1 s2
  have h1 : outline s1 = outline s := outline_modChan _ _ _ rfl rfl
  have h2 : outline s2 = outline s1 := (outline_refreshCoupling _ _ _).trans (outline_modDir_lines _ _ _ _ (fun _ => rfl) (fun _ => rfl))
  have h3 := outline_modMeter c d (fun m => { m with iDrop := 600, cPred := some 0, newSince := some ordinal }) s2
  split
  · exact h3.trans (h2.trans h1)
  · exact h2.trans h1

@[simp] theorem outline_gainSetting (ordinal : Nat) (c : Fin 64) (d : Dir) (x : Setting) (s : State) :
    outline (gainSetting ordinal c d x s) = outline s := by
  cases x with
  | hostMute m => exact (outline_freezeFrom _ _ _ _).trans (outline_modDir_lines _ _ _ _ (fun _ => rfl) (fun _ => rfl))
  | gainTarget g =>
    have h := outline_modGain c d (fun x => { x with gt := g }) s
    refine (outline_ite _ _ _).trans ?_
    rw [outline_newTarget, ite_self]
    exact h
  | margin p => exact (outline_reclamp _ _ _).trans (outline_modStab _ _ _ _)
  | frontEnd f => exact (outline_reclamp _ _ _).trans (outline_modGain _ _ _ _)
  | alc | powerLimit | coupling | squelch | donorRule => exact outline_modGain _ _ _ _
  | portLimits p comp tx rx => exact outline_modPort _ _ _ (fun _ => rfl)
  | definition df tdd moved => exact (outline_reclamp _ _ _).trans (outline_movedDefinition ordinal c d df moved s)
  | cancelParams | cancelReset | tapFraction => exact (outline_reclamp _ _ _).trans (outline_refreshCoupling _ _ _)
  | probe | pattern | kernels => rfl

@[simp] theorem outline_probeSetting (c : Fin 64) (d : Dir) (x : Setting) (s : State) : outline (probeSetting c d x s) = outline s := by
  cases x with
  | probe p =>
    refine outline_modDir_lines _ _ _ _ (fun x => ?_) (fun x => ?_) <;> dsimp only <;> split
    · rfl
    · exact mapPaths_config _ _
    · rfl
    · exact mapPaths_gainLine _ _
  | _ => rfl

@[simp] theorem outline_unitSettings (u : KernelUnit) (p : Fin 8) (c : Fin 64) (d : Dir) (ordinal : Nat) (sets : List Setting) (s : State) :
    outline (unitSettings u p c d ordinal sets s) = outline s := by
  simp only [unitSettings]
  split <;> simp only [outline_foldl, outline_versionSetting, outline_cancelSetting, outline_shapeSetting, outline_gainSetting,
    outline_probeSetting, implies_true]

/-- A unit that adopts a change leaves its stamp on the line. -/
@[simp] theorem outline_adoptLine (k : EpochKind) (u : KernelUnit) (p : Fin 8) (c : Fin 64) (d : Dir) (ordinal : Nat) (s : State) :
    outline (adoptLine k u p c d ordinal s) = outline s := by
  simp only [adoptLine, outline_ite]
  rw [outline_foldl _ _ _ (fun _ _ => outline_unitSettings _ _ _ _ _ _ _), outline_modDir, ite_self]
  cases k <;> simp [carries, Direction.setLine, Direction.line]

@[simp] theorem outline_adoptRest (k : EpochKind) (c : Fin 64) (d : Dir) (s : State) : outline (adoptRest k c d s) = outline s := by
  unfold adoptRest
  split
  · rfl
  · simp only [outline_foldl, outline_adoptLine, outline_ite, ite_self, implies_true]

end Sys2Proof.Proofs
end

/-! # The ticks and the census -/
section
namespace Sys2Proof.Proofs

open Sys2Proof Sys2Proof.Machine Sys2Proof.Safety Sys2Proof.Laws

/-! ## What states of one outline share -/

theorem now_of_outline {s t : State} (h : outline t = outline s) : t.now = s.now := congrArg Outline.now h
theorem slowTicks_of_outline {s t : State} (h : outline t = outline s) : t.slowTicks = s.slowTicks := congrArg Outline.slowTicks h
theorem slowAt_of_outline {s t : State} (h : outline t = outline s) : t.slowAt = s.slowAt := congrArg Outline.slowAt h
theorem alcAt_of_outline {s t : State} (h : outline t = outline s) : t.alcAt = s.alcAt := congrArg Outline.alcAt h

theorem capacity_of_outline {s t : State} (h : outline t = outline s) (p : Fin 8) : (port p t).c = (port p s).c := by
  have hp : (outline t).capacities[p] = (outline s).capacities[p] := by rw [h]
  simpa [outline, port] using hp

/-! ## The slow tick -/

/-- The state in which the work of a slow tick begins: time has moved on to the tick, which is noted and counted (R24). -/
def slowTickStart (s : State) : State :=
  { advanceTo (tickInstant 30720 s.slowAt s.now) s with slowTicks := s.slowTicks + 1, slowAt := tickInstant 30720 s.slowAt s.now }

theorem exec_slowTick_up (m : SlowMeas) {s : State} (h : s.sys.coreUp = true) : exec (.slowTick m) s = .next (slowWork m (slowTickStart s)) := by
  show execSlowTick m s = _
  rw [execSlowTick, h]
  rfl

theorem slowTick_rests (m : SlowMeas) {s : State} (h : s.sys.coreUp = false) : Rests (.slowTick m) s := by
  show execSlowTick m s = _
  rw [execSlowTick, h]
  rfl

/-- Whatever the chapters do at a slow tick, they leave the time and the ticks that the tick itself has moved on. -/
theorem runs_slowTick (m : SlowMeas) {s : State} (h : s.sys.coreUp = true) : Runs (.slowTick m) s (fun t => t.slowTicks = s.slowTicks + 1 ∧
    t.slowAt = tickInstant 30720 s.slowAt s.now ∧ t.now = max s.now (tickInstant 30720 s.slowAt s.now)) := by
  refine runs_of_exec (exec_slowTick_up m h) ?_
  have work : outline (slowWork m (slowTickStart s)) = outline (slowTickStart s) := outline_slowWork m _
  exact ⟨slowTicks_of_outline work, slowAt_of_outline work, now_of_outline work⟩

/-! ## The ALC tick -/

/-- The state in which the work of an ALC tick begins: time has moved on to the tick, which is noted (R232). -/
def alcTickStart (s : State) : State := { advanceTo (tickInstant 3840 s.alcAt s.now) s with alcAt := tickInstant 3840 s.alcAt s.now }

theorem exec_alcTick_due {i : Nat} {s : State} (h : s.sys.coreUp = true) (hi : 3840 * i = tickInstant 3840 s.alcAt s.now) :
    exec (.alcTick i) s = .next (alcTick (takeCapacity (alcTickStart s))) := by
  show execAlcTick i s = _
  simp only [execAlcTick, h, hi, Bool.not_true, bne_self_eq_false, Bool.or_self, Bool.false_eq_true, if_false, alcTickStart]

theorem alcTick_rests {i : Nat} {s : State} (h : s.sys.coreUp = false ∨ 3840 * i ≠ tickInstant 3840 s.alcAt s.now) : Rests (.alcTick i) s :=
  congrArg _ (if_pos (by simpa using h))

theorem port_takeCapacity_c (p : Fin 8) (s : State) : (port p (takeCapacity s)).c = portCapacity p s := by
  simp [port, takeCapacity]

theorem runs_alcTick (p : Fin 8) {i : Nat} {s : State} (h : s.sys.coreUp = true) (hi : 3840 * i = tickInstant 3840 s.alcAt s.now) :
    Runs (.alcTick i) s (fun t => t.alcAt = tickInstant 3840 s.alcAt s.now ∧ t.now = max s.now (tickInstant 3840 s.alcAt s.now) ∧
      (port p t).c = portCapacity p s ∧ t.slowTicks = s.slowTicks ∧ t.slowAt = s.slowAt) := by
  refine runs_of_exec (exec_alcTick_due h hi) ?_
  have work : outline (alcTick (takeCapacity (alcTickStart s))) = outline (takeCapacity (alcTickStart s)) := outline_alcTick _
  exact ⟨alcAt_of_outline work, now_of_outline work, (capacity_of_outline work p).trans (port_takeCapacity_c p _),
    (slowTicks_of_outline work).trans rfl, (slowAt_of_outline work).trans rfl⟩

/-! ## The census (R53) -/

theorem link_modLink_same (l : Nat) (f : ObxLink → ObxLink) (s : State) (h : l < 5) : link l (modLink l f s) = f (link l s) :=
  nth_upd_same _ _ _ _ h

/-- A mismatch raises source 0 with the link, 15 for the pool, and the class as object. -/
theorem raised_censusMismatch (l : Fin 6) (c : Fin 4) (expected : Nat) (observed : Int) (s : State) :
    Raised 0 (object 12 (4 * (if l = 5 then 15 else l.val) + c.val)) (censusMismatch l c expected observed s) :=
  ⟨_, List.mem_append_right _ (List.mem_singleton_self _), rfl, rfl⟩

/-- The first mismatch keeps its class. -/
theorem censusMismatch_tclass (l : Fin 6) (c : Fin 4) (expected : Nat) (observed : Int) {s : State} (h : s.pool.mismatch = true) :
    (censusMismatch l c expected observed s).pool.tclass = s.pool.tclass := by
  simp [censusMismatch, raise, h]

/-- A census that a token completes takes the free and held counts that it latched. -/
def takeCounts (c : Fin 4) (x : CensusLatch) (v : ObxLink) : ObxLink :=
  { v with free := v.free.set c x.free, held := v.held.set c x.held, token := v.token.set c none }

theorem exec_censusToken_link {l : Fin 6} (c : Fin 4) (i : Nat) (s : State) (h : l.val < 5) :
    exec (.censusTokenArrival l c i) s = .next (auditLink l c i s) := congrArg _ (if_pos h)

/-- The audit of a link's class by the token it waits for: the counts are taken, and their sum is compared with the total. -/
theorem auditLink_token {l : Fin 6} {c : Fin 4} {x : CensusLatch} {s : State} (hl : l.val < 5) (h : (link l.val s).token[c] = some x) :
    auditLink l c x.sent s =
      if (x.held : Int) + ((x.sent : Int) - x.received) + x.free = nth (link l.val s).total c.val 0 then modLink l.val (takeCounts c x) s
      else censusMismatch l c (nth (link l.val s).total c.val 0) ((x.held : Int) + ((x.sent : Int) - x.received) + x.free)
        (modLink l.val (takeCounts c x) s) := by
  have hx : nth (link l.val s).token c.val none = some x := by simpa [nth] using h
  have ht : (link l.val (modLink l.val (takeCounts c x) s)).total = (link l.val s).total := by rw [link_modLink_same _ _ _ hl]; rfl
  rw [auditLink, hx, ← ht]
  exact if_neg (fun h => h rfl)

/-- A token whose count the link does not wait for changes nothing (log entry 187). -/
theorem auditLink_other {l : Fin 6} {c : Fin 4} {i : Nat} {s : State} (h : (link l.val s).token[c].all (fun x => x.sent != i) = true) :
    auditLink l c i s = s := by
  have hx : nth (link l.val s).token c.val none = (link l.val s).token[c] := by simp [nth]
  rw [auditLink, hx]
  cases e : (link l.val s).token[c] with
  | none => rfl
  | some x =>
    rw [e] at h
    exact if_pos (by simpa using h)

theorem runs_census_agrees {l : Fin 6} {c : Fin 4} {x : CensusLatch} {s : State} (hl : l.val < 5) (h : (link l.val s).token[c] = some x)
    (hs : (x.held : Int) + ((x.sent : Int) - x.received) + x.free = nth (link l.val s).total c.val 0) :
    Runs (.censusTokenArrival l c x.sent) s (fun t => (link l.val t).free[c] = x.free ∧ (link l.val t).held[c] = x.held ∧
      t = { s with fabric := t.fabric }) := by
  refine runs_of_exec ((exec_censusToken_link c _ s hl).trans (congrArg _ ((auditLink_token hl h).trans (if_pos hs)))) ?_
  rw [link_modLink_same _ _ _ hl]
  exact ⟨by simp [takeCounts], by simp [takeCounts], rfl⟩

theorem runs_census_differs {l : Fin 6} {c : Fin 4} {x : CensusLatch} {s : State} (hl : l.val < 5) (h : (link l.val s).token[c] = some x)
    (hs : (x.held : Int) + ((x.sent : Int) - x.received) + x.free ≠ nth (link l.val s).total c.val 0) :
    Runs (.censusTokenArrival l c x.sent) s (fun t => t.pool.mismatch = true ∧ t.pool.poolMismatch = s.pool.poolMismatch ∧
      Raised 0 (object 12 (4 * l.val + c.val)) t) := by
  refine runs_of_exec ((exec_censusToken_link c _ s hl).trans (congrArg _ ((auditLink_token hl h).trans (if_neg hs)))) ?_
  have h5 : l ≠ 5 := by omega
  have raised := raised_censusMismatch l c (nth (link l.val s).total c.val 0) ((x.held : Int) + ((x.sent : Int) - x.received) + x.free)
    (modLink l.val (takeCounts c x) s)
  rw [if_neg h5] at raised
  exact ⟨rfl, by simp [censusMismatch, raise, h5], raised⟩

theorem census_pool_rests (c : Fin 4) (i : Nat) {s : State} (h : s.pool.freeSlots + poolHeld s = 8192) : Rests (.censusTokenArrival 5 c i) s :=
  congrArg _ (if_pos h)

theorem runs_census_pool (c : Fin 4) (i : Nat) {s : State} (h : s.pool.freeSlots + poolHeld s ≠ 8192) :
    Runs (.censusTokenArrival 5 c i) s (fun t => t.pool.mismatch = true ∧ t.pool.poolMismatch = true ∧ Raised 0 (object 12 (60 + c.val)) t ∧
      (s.pool.mismatch = true → t.pool.tclass = s.pool.tclass) ∧ t.fabric = s.fabric) := by
  have run : exec (.censusTokenArrival 5 c i) s = .next (censusMismatch 5 c 8192 (s.pool.freeSlots + poolHeld s : Nat) s) :=
    congrArg _ (if_neg h)
  exact runs_of_exec run ⟨rfl, Bool.or_true _, raised_censusMismatch 5 c _ _ s, censusMismatch_tclass 5 c _ _, rfl⟩

/-- Settles O43: the work of a tick leaves the outline of the state, so that time, the ticks and the capacities are those with which it began; the
census by the equations of its audit. -/
theorem tickEvents : Obligations.TickEvents := by
  intro m p l k i s
  refine ⟨fun h _ => runs_slowTick m h, slowTick_rests m, runs_alcTick p, alcTick_rests, census_pool_rests k i, runs_census_pool k i, ?_,
    fun x => runs_census_agrees, fun x => runs_census_differs⟩
  intro hl h
  exact (exec_censusToken_link k i s hl).trans (congrArg _ (auditLink_other h))

end Sys2Proof.Proofs
end

/-! # Register writes and the retirement of an epoch -/
section
namespace Sys2Proof.Proofs

open Sys2Proof Sys2Proof.Machine Sys2Proof.Safety Sys2Proof.Laws

/-! ## Register writes (R23, R57) -/

theorem registerWrite_rests_down (a : RegAddr) (v : Word) (be : BitVec 4) {s : State} (h : hostUp s = false) : Rests (.registerWrite a v be) s :=
  congrArg Host.Outcome.next (if_pos (by simp [h]))

theorem exec_registerWrite_setup (o : Half) (v : Word) (be : BitVec 4) {s : State} (h : hostUp s = true) :
    exec (.registerWrite (.setup o) v be) s = .next (if be == 15 then regWrite o.toNat v s else s) :=
  congrArg Host.Outcome.next (if_neg (by simp [h]))

theorem exec_registerWrite_doorbell (o : Half) (v : Word) (be : BitVec 4) {s : State} (h : hostUp s = true) :
    exec (.registerWrite (.doorbell o) v be) s = .next (if be == 15 then doorbellWrite o.toNat v s else s) :=
  congrArg Host.Outcome.next (if_neg (by simp [h]))

/-- A write of fewer than four bytes is discarded in both windows. -/
theorem registerWrite_rests_partial (o : Half) (v : Word) {be : BitVec 4} (s : State) (h : be ≠ 15) :
    Rests (.registerWrite (.setup o) v be) s ∧ Rests (.registerWrite (.doorbell o) v be) s := by
  have hb : ¬ (be == 15) = true := by simpa using h
  cases hu : hostUp s with
  | false => exact ⟨registerWrite_rests_down _ _ _ hu, registerWrite_rests_down _ _ _ hu⟩
  | true =>
    exact ⟨(exec_registerWrite_setup o v be hu).trans (congrArg Host.Outcome.next (if_neg hb)),
      (exec_registerWrite_doorbell o v be hu).trans (congrArg Host.Outcome.next (if_neg hb))⟩

/-- The blocks from 0x5000 on hold no register that a write changes. -/
theorem regWrite_readOnly {off : Nat} (v : Word) (s : State) (h : 0x5000 ≤ off) : regWrite off v s = s := by
  simp only [regWrite]
  repeat rw [if_neg (by omega)]

theorem registerWrite_rests_readOnly (o : Half) (v : Word) (be : BitVec 4) (s : State) (h : 0x5000 ≤ o.toNat) :
    Rests (.registerWrite (.setup o) v be) s := by
  cases hu : hostUp s with
  | false => exact registerWrite_rests_down _ _ _ hu
  | true =>
    refine (exec_registerWrite_setup o v be hu).trans (congrArg _ ?_)
    rw [regWrite_readOnly v s h, ite_self]

theorem runs_rxPolarity (v : Word) {s : State} (h : hostUp s = true) : Runs (.registerWrite (.setup 0x1410) v 15) s (fun t =>
    t = { s with links := { s.links with rxPolarity := v.extractLsb' 0 18 } }) :=
  runs_of_exec (exec_registerWrite_setup _ v 15 h) rfl

theorem runs_txPolarity (v : Word) {s : State} (h : hostUp s = true) : Runs (.registerWrite (.setup 0x1414) v 15) s (fun t =>
    t = { s with links := { s.links with txPolarity := v.extractLsb' 0 16 } }) :=
  runs_of_exec (exec_registerWrite_setup _ v 15 h) rfl

/-! ## What a write triggers -/

theorem runs_sysrefArm (v : Word) (s : State) : Runs (.sysrefArm v) s (fun t => t.links.sysrefMode = BitVec.ofNat 2 v.toNat ∧
    t.links.sysrefArm = (s.links.sysrefArm || (v.getLsbD 2 && !anyGroupUp s)) ∧ t = { s with links := t.links }) := by
  refine runs_of_exec (i := .sysrefArm v) rfl ?_
  have hg : anyGroupUp (modLinks (fun l => { l with sysrefMode := BitVec.ofNat 2 v.toNat }) s) = anyGroupUp s := rfl
  rw [hg]
  cases v.getLsbD 2 && !anyGroupUp s with
  | false => exact ⟨rfl, (Bool.or_false _).symm, rfl⟩
  | true => exact ⟨rfl, (Bool.or_true _).symm, rfl⟩

theorem runs_clearLowWater {v : Word} {s : State} (h : v.getLsbD 31 = true) :
    Runs (.clearLowWater v) s (fun t => t = { s with pool := { s.pool with lowWater := s.pool.reportedFree } }) :=
  ⟨_, congrArg Host.Outcome.next (if_pos h), rfl⟩

theorem clearLowWater_rests {v : Word} {s : State} (h : v.getLsbD 31 = false) : Rests (.clearLowWater v) s :=
  congrArg Host.Outcome.next (if_neg (by rw [h]; exact Bool.false_ne_true))

theorem runs_sysReset {v : Word} {s : State} (hu : s.sys.coreUp = true) (hk : v.toNat % 2 ^ 16 = 0xA55A) (hg : v.getLsbD 16 = true) :
    Runs (.sysReset v) s (fun t => t = { s with sys := { s.sys with resetDueTick := some s.slowTicks } }) :=
  ⟨_, congrArg Host.Outcome.next (if_pos (by rw [hu, hk, hg]; rfl)), rfl⟩

theorem sysReset_rests {v : Word} {s : State} (h : v.toNat % 2 ^ 16 ≠ 0xA55A ∨ v.getLsbD 16 = false) : Rests (.sysReset v) s := by
  have hc : (s.sys.coreUp && v.toNat % 2 ^ 16 == 0xA55A && v.getLsbD 16) = false := by
    rcases h with h | h
    · rw [beq_false_of_ne h, Bool.and_false, Bool.false_and]
    · rw [h, Bool.and_false]
  exact congrArg Host.Outcome.next (if_neg (by rw [hc]; exact Bool.false_ne_true))

theorem runs_firstFaultClear (v : Word) {s : State} (hu : s.sys.coreUp = true) :
    Runs (.firstFaultClear v) s (fun t => t = { s with faults := { s.faults with
      firstValid := s.faults.firstValid && !v.getLsbD 0, alarm := s.faults.alarm && !v.getLsbD 1, simul := s.faults.simul && !v.getLsbD 2 } }) :=
  ⟨_, congrArg Host.Outcome.next (if_neg (by simp [hu])), rfl⟩

theorem session_modSession_same (q : Nat) (f : Session → Session) (s : State) (h : q < 8) : session q (modSession q f s) = f (session q s) :=
  nth_upd_same _ _ _ _ h

/-- An armed session begins at some instant: its start count, or the frame's start. -/
theorem exec_captureSessionBegin_armed {q : Fin 8} {s : State} (h : (session q.val s).state = .armed) : ∃ n, exec (.captureSessionBegin q) s =
    .next (modSession q.val (fun v => { v with state := .capturing }) (advanceTo n s)) :=
  ⟨_, congrArg Host.Outcome.next (if_pos h)⟩

theorem runs_captureSessionBegin {q : Fin 8} {s : State} (h : (session q.val s).state = .armed) :
    Runs (.captureSessionBegin q) s (fun t => (session q.val t).state = .capturing ∧ s.now ≤ t.now ∧ t = { s with hif := t.hif, now := t.now }) := by
  obtain ⟨n, run⟩ := exec_captureSessionBegin_armed h
  refine runs_of_exec run ⟨?_, le_max_left _ _, rfl⟩
  rw [session_modSession_same _ _ _ q.isLt]

/-! ## Reading the outline -/

theorem nth_map {α β : Type} {n : Nat} (v : Vector α n) (g : α → β) (i : Nat) (dflt : α) : nth (v.map g) i (g dflt) = g (nth v i dflt) := by
  unfold nth
  split <;> simp

/-- A source's command in execution, read from the outline. -/
theorem outline_running (q : Nat) (s : State) : nth (outline s).running q none = epochView (source q s) :=
  nth_map s.hif.sources epochView q Source.reset

theorem epochView_eq_none {x : Source} : epochView x = none ↔ x.running = none := Option.map_eq_none_iff

theorem epochView_waiting {x : Source} {r : Running} (hr : x.running = some r) (hw : r.wait = .epochs) : epochView x = some (some r) := by
  simp [epochView, hr, hw]

theorem running_of_epochView {x : Source} {r : Running} (h : epochView x = some (some r)) : x.running = some r ∧ r.wait = .epochs := by
  obtain ⟨y, hy, e⟩ := Option.map_eq_some_iff.mp h
  split at e
  · next hw => obtain rfl := Option.some.inj e; exact ⟨hy, hw⟩
  · cases e

theorem epochView_of_outline {s t : State} (h : outline t = outline s) (q : Nat) : epochView (source q t) = epochView (source q s) := by
  rw [← outline_running, h, outline_running]

/-- Whether a line holds a stamp, read from the outline. -/
def Outline.holdsStamp (o : Outline) (c : Fin 64) (d : Dir) (k : EpochKind) : Bool :=
  let x := if d = .ul then o.stamped[c].2 else o.stamped[c].1
  if k = .gain then x.2 else x.1

theorem outline_holdsStamp (c : Fin 64) (d : Dir) (k : EpochKind) (s : State) :
    (outline s).holdsStamp c d k = ((direction c d s).line k).stamped.isSome := by
  cases d <;> cases k <;> simp [Outline.holdsStamp, outline, carries, direction, chan, Channel.dir, Direction.line]

/-! ## The end of a command that waited for its epochs -/

/-- The outline with no command in execution at a source. -/
def Outline.ended (q : Nat) (o : Outline) : Outline := { o with running := upd o.running q (fun _ => none) }

theorem map_upd {α β : Type} {n : Nat} (v : Vector α n) (g : α → β) (i : Nat) (f : α → α) (f' : β → β) (h : ∀ x, g (f x) = f' (g x)) :
    (upd v i f).map g = upd (v.map g) i f' := by
  unfold upd
  split
  · simp [Vector.map_set, h]
  · rfl

theorem outline_finishRunning (q : Nat) (r : Running) (f : Finish) (s : State) : outline (finishRunning q r f s) = (outline s).ended q := by
  have h : outline (modSource q (fun x => { x with running := none }) s) = (outline s).ended q := by
    unfold outline Outline.ended modSource
    simp only [map_upd s.hif.sources epochView q (fun x => { x with running := none }) (fun _ => none) (fun _ => rfl)]
  simp only [finishRunning, outline_ite, outline_lateEnd, outline_postTimeout, outline_endEffects, outline_releaseRing, outline_postCompletion,
    outline_writeBuffer, h, ite_self]

/-- The command in execution of a source ends where it waits for its epochs and they are over. -/
def endRunning (q : Nat) (s : State) : State :=
  match (source q s).running with
  | some r => if r.wait = .epochs ∧ epochsOver r s then finishRunning q r (epochsEnd r s) s else s
  | none => s

/-- A command that goes on past its timeout ends where its epochs are over. -/
def endContinuing (q : Nat) (s : State) : State :=
  match (source q s).continuing.findIdx? (fun r => r.wait == .epochs && epochsOver r s) with
  | some i =>
    match (source q s).continuing[i]? with
    | some r => finishLate q i r (epochsEnd r s) s
    | none => s
  | none => s

theorem endEpochs_eq (q : Nat) (s : State) : endEpochs s q = endContinuing q (endRunning q s) := rfl

theorem outline_endContinuing (q : Nat) (s : State) : outline (endContinuing q s) = outline s := by
  unfold endContinuing
  split
  · split
    · exact outline_finishLate _ _ _ _ _
    · rfl
  · rfl

theorem outline_endEpochs (q : Nat) (s : State) : outline (endEpochs s q) = outline (endRunning q s) := by
  rw [endEpochs_eq, outline_endContinuing]

theorem outline_endEpochs_cases (q : Nat) (s : State) : outline (endEpochs s q) = outline s ∨ outline (endEpochs s q) = (outline s).ended q := by
  rw [outline_endEpochs, endRunning]
  split
  · split
    · exact .inr (outline_finishRunning _ _ _ _)
    · exact .inl rfl
  · exact .inl rfl

theorem outline_endEpochs_over {q : Nat} {s : State} {r : Running} (hr : epochView (source q s) = some (some r)) (ho : epochsOver r s = true) :
    outline (endEpochs s q) = (outline s).ended q := by
  obtain ⟨hrun, hw⟩ := running_of_epochView hr
  rw [outline_endEpochs, endRunning, hrun]
  simp only [hw, ho, and_self, if_true, outline_finishRunning]

/-! ## The round of the sources -/

theorem ended_holdsStamp (q : Nat) (o : Outline) (c : Fin 64) (d : Dir) (k : EpochKind) : (o.ended q).holdsStamp c d k = o.holdsStamp c d k := rfl

theorem ended_running_same {q : Nat} (o : Outline) (h : q < 22) : nth (o.ended q).running q none = none := nth_upd_same _ _ _ _ h

theorem ended_running_ne {p q : Nat} (o : Outline) (h : q ≠ p) : nth (o.ended p).running q none = nth o.running q none := nth_upd_ne _ _ _ _ _ h

/-- Ending commands leaves every line's stamp. -/
theorem holdsStamp_endEpochs (l : List Nat) (c : Fin 64) (d : Dir) (k : EpochKind) (s : State) :
    (outline (l.foldl endEpochs s)).holdsStamp c d k = (outline s).holdsStamp c d k := by
  induction l generalizing s with
  | nil => rfl
  | cons q l ih =>
    rw [List.foldl_cons, ih]
    rcases outline_endEpochs_cases q s with h | h
    · rw [h]
    · rw [h, ended_holdsStamp]

/-- At another source's turn a source's command stays as it is. -/
theorem epochView_endEpochs_ne {p q : Nat} (s : State) (h : q ≠ p) : epochView (source q (endEpochs s p)) = epochView (source q s) := by
  rw [← outline_running, ← outline_running]
  rcases outline_endEpochs_cases p s with e | e
  · rw [e]
  · rw [e, ended_running_ne _ h]

/-- A source without a command in execution has none after any turn. -/
theorem epochView_endEpochs_none {q : Nat} (p : Nat) {s : State} (hq : q < 22) (h : epochView (source q s) = none) :
    epochView (source q (endEpochs s p)) = none := by
  by_cases hp : q = p
  · subst hp
    rw [← outline_running] at h ⊢
    rcases outline_endEpochs_cases q s with e | e
    · rw [e, h]
    · rw [e, ended_running_same _ hq]
  · rw [epochView_endEpochs_ne s hp, h]

theorem epochView_foldl_endEpochs_none {q : Nat} (l : List Nat) {s : State} (hq : q < 22) (h : epochView (source q s) = none) :
    epochView (source q (l.foldl endEpochs s)) = none := by
  induction l generalizing s with
  | nil => exact h
  | cons p l ih => exact ih (epochView_endEpochs_none p hq h)

/-- A round that comes to a source whose command has seen all its epochs retire ends that command. -/
theorem epochView_foldl_endEpochs_over {q : Nat} {r : Running} (l : List Nat) {s : State} (hq : q < 22) (hl : q ∈ l)
    (hr : epochView (source q s) = some (some r)) (ho : ∀ t, epochsOver r t = true) : epochView (source q (l.foldl endEpochs s)) = none := by
  induction l generalizing s with
  | nil => cases hl
  | cons p l ih =>
    rw [List.foldl_cons]
    by_cases hp : q = p
    · subst hp
      refine epochView_foldl_endEpochs_none l hq ?_
      rw [← outline_running, outline_endEpochs_over hr (ho s), ended_running_same _ hq]
    · exact ih ((List.mem_cons.mp hl).resolve_left hp) (by rw [epochView_endEpochs_ne s hp, hr])

/-! ## The retirement of an epoch (R41, R42) -/

theorem line_setLine_same (x : Direction) (k : EpochKind) (l : EpochLine) : (x.setLine k l).line k = l := by cases k <;> rfl

theorem direction_modDir_same (c : Fin 64) (d : Dir) (f : Direction → Direction) (s : State) : direction c d (modDir c d f s) = f (direction c d s) := by
  cases d <;> simp [direction, chan, modDir, modChan, Channel.dir, Channel.setDir]

theorem direction_retireTicket (ticket : Nat) (seq : Half) (c : Fin 64) (d : Dir) (s : State) :
    direction c d (retireTicket ticket seq s) = direction c d s := rfl

theorem retireEpoch_left {k : EpochKind} {c : Fin 64} {d : Dir} {st : Stamp} {s : State} (h : ((direction c d s).line k).stamped = some st)
    (hl : st.left = true) : retireEpoch k c d s = retireTicket st.ticket (BitVec.ofNat 16 st.ordinal)
      (modDir c d (fun x => x.setLine k (retired (x.line k))) (adoptRest k c d s)) := by
  simp only [retireEpoch, h, hl, Bool.not_true, Bool.false_eq_true, if_false]

/-- The line whose epoch retires holds no stamp. -/
theorem holdsStamp_retireEpoch {k : EpochKind} {c : Fin 64} {d : Dir} {st : Stamp} {s : State} (h : ((direction c d s).line k).stamped = some st)
    (hl : st.left = true) : (outline (retireEpoch k c d s)).holdsStamp c d k = false := by
  rw [outline_holdsStamp, retireEpoch_left h hl, direction_retireTicket, direction_modDir_same, line_setLine_same]
  rfl

/-- What a source's commands learn of a retirement. -/
def retireIn (ticket : Nat) (seq : Half) (x : Source) : Source :=
  { x with running := x.running.map (Running.retire ticket seq), continuing := x.continuing.map (Running.retire ticket seq) }

theorem source_retireTicket (ticket : Nat) (seq : Half) (q : Nat) (s : State) :
    source q (retireTicket ticket seq s) = retireIn ticket seq (source q s) :=
  nth_map s.hif.sources (retireIn ticket seq) q Source.reset

/-- A command that waits for the epoch learns of its retirement; until then it has stayed in execution. -/
theorem epochView_retireEpoch {k : EpochKind} {c : Fin 64} {d : Dir} {st : Stamp} {s : State} {q : Nat} {r : Running}
    (h : ((direction c d s).line k).stamped = some st) (hl : st.left = true) (hr : (source q s).running = some r) (hw : r.wait = .epochs) :
    epochView (source q (retireEpoch k c d s)) = some (some (r.retire st.ticket (BitVec.ofNat 16 st.ordinal))) := by
  have hv : epochView (source q (adoptRest k c d s)) = some (some r) :=
    (epochView_of_outline (outline_adoptRest k c d s) q).trans (epochView_waiting hr hw)
  refine epochView_waiting ?_ hw
  rw [retireEpoch_left h hl, source_retireTicket]
  exact congrArg (Option.map _) (running_of_epochView hv).1

/-- A command's only epoch is over once its ticket has retired. -/
theorem epochsOver_retire {r : Running} {ticket : Nat} {seq : Half} (h : r.epochs = [{ ticket := ticket, retired := false, seq := none }]) (t : State) :
    epochsOver (r.retire ticket seq) t = true := by
  simp [epochsOver, Running.retire, h]

theorem runs_epochRetire {k : EpochKind} {c : Fin 64} {d : Dir} {st : Stamp} {s : State} (h : ((direction c d s).line k).stamped = some st)
    (hl : st.left = true) : Runs (.epochRetire c d k) s (fun t => ((direction c d t).line k).stamped = none ∧
      ∀ (q : Nat) (r : Running), q < 22 → (source q s).running = some r → r.wait = .epochs →
        r.epochs = [{ ticket := st.ticket, retired := false, seq := none }] → (source q t).running = none) := by
  refine runs_of_exec (i := .epochRetire c d k) rfl ⟨?_, fun q r hq hr hw he => ?_⟩
  · refine Option.not_isSome_iff_eq_none.mp ?_
    rw [← outline_holdsStamp, outline_refreshReady, holdsStamp_endEpochs, holdsStamp_retireEpoch h hl]
    exact Bool.false_ne_true
  · rw [(keepsRunning_refreshReady _).2, ← epochView_eq_none]
    exact epochView_foldl_endEpochs_over _ hq (List.mem_range.mpr hq) (epochView_retireEpoch h hl hr hw) (epochsOver_retire he)

/-- Settles O37: the writes by the equations of their rows; the retirement by what adopting a change, ending a command and keeping the sources' readiness
leave of the outline of the state. -/
theorem registerEvents : Obligations.RegisterEvents := by
  refine ⟨fun off v be q s => ?_, fun c d k st s => runs_epochRetire⟩
  refine ⟨fun h => (registerWrite_rests_partial off v s h).1, fun h => (registerWrite_rests_partial off v s h).2,
    registerWrite_rests_readOnly off v be s, runs_rxPolarity v, runs_txPolarity v, registerWrite_rests_down _ v be, runs_sysrefArm v s,
    runs_clearLowWater, clearLowWater_rests, runs_sysReset, sysReset_rests, runs_firstFaultClear v, runs_captureSessionBegin, ?_⟩
  exact fun h => congrArg Host.Outcome.next (if_neg h)

end Sys2Proof.Proofs
end

/-! # What a command leaves at its first step -/
section
namespace Sys2Proof.Proofs

open Sys2Proof Sys2Proof.Machine Sys2Proof.Safety Sys2Proof.Laws

/-! ## What the ends of commands may change beside their effects -/

theorem kept_trans {s s' t : State} (h : s' = Kept s s') (h' : t = Kept s' t) : t = Kept s t :=
  h'.trans (by rw [h]; rfl)

theorem kept_hif {s t : State} (h : t = { s with hif := t.hif }) : t = Kept s t := by
  generalize t.hif = x at h
  subst h
  rfl

/-- What any accepted command may change beside its effect. -/
structure Aside where
  hif : HostIf
  freeCtr : Nat
  accepted : List Desc
  calStore : Vector (Int × Int) 8

/-- A state with that changed. -/
def Aside.on (b : Aside) (s : State) : State :=
  { s with hif := b.hif, freeCtr := b.freeCtr, sys := { s.sys with accepted := b.accepted, calStore := b.calStore } }

theorem aside_of_kept {s t : State} (h : t = Kept s t) : ∃ b : Aside, t = b.on s := ⟨⟨t.hif, t.freeCtr, t.sys.accepted, t.sys.calStore⟩, h⟩

theorem kept_accept (x : Desc) (s : State) : accept x s = Kept s (accept x s) := by
  simp only [accept]
  split
  · rfl
  · split
    · rfl
    · split <;> rfl

theorem kept_postProgress (q : Nat) (r : Running) (s : State) : (postProgress q r s).2 = Kept s (postProgress q r s).2 := by
  simp only [postProgress]
  split
  · split
    all_goals
      split
      · rfl
      · exact kept_trans rfl (kept_hif (postCompletion_hif _ _ _))
  · rfl

/-- A progress record leaves the command as it is but for the instant of its last record (R93). -/
theorem postProgress_command (q : Nat) (r : Running) (s : State) :
    (postProgress q r s).1.desc = r.desc ∧ (postProgress q r s).1.wait = r.wait := by
  simp only [postProgress]
  split
  · split
    all_goals split <;> exact ⟨rfl, rfl⟩
  · exact ⟨rfl, rfl⟩

/-- No standby hears of a command of the opcode (R636). -/
def Leadless (code : Nat) (s : State) : Prop := hasStandby s = false ∨ forwarded (BitVec.ofNat 16 code).toNat = false

theorem leadless_of_begins {code : Nat} {d : Desc} {s : State} (h : Begins code d s) : Leadless code s := h.leadless.imp id And.left

theorem noteAccepted_leadless {code : Nat} {d : Desc} {s t : State} (h : Leadless code s) (ht : t.twin = s.twin) :
    noteAccepted (coded code d) t = accept (coded code d) t := by
  have ha : hasStandby (accept (coded code d) t) = hasStandby s := by
    rw [kept_accept]
    unfold hasStandby Kept
    rw [ht]
  simp only [noteAccepted, ha]
  refine if_neg ?_
  rcases h with h | h
  · rw [h]; exact Bool.false_ne_true
  · show ¬ (_ && forwarded (BitVec.ofNat 16 code).toNat) = true
    rw [h, Bool.and_false]; exact Bool.false_ne_true

theorem kept_noteAccepted {code : Nat} {d : Desc} {s t : State} (h : Leadless code s) (ht : t.twin = s.twin) :
    noteAccepted (coded code d) t = Kept t (noteAccepted (coded code d) t) := by
  rw [noteAccepted_leadless h ht]
  exact kept_accept _ _

/-! ## A command that stays in execution -/

theorem slowTicks_of_kept {s t : State} (h : t = Kept s t) : t.slowTicks = s.slowTicks := by
  rw [h]; rfl

theorem keepRunning_intime {q : Nat} {old v : Running} {s : State} (h : (if v.committed && !old.committed then noteAccepted v.desc s else s).slowTicks ≤
    v.startTick) : keepRunning q old v s =
      modSource q (fun x => { x with running := some (postProgress q v (if v.committed && !old.committed then noteAccepted v.desc s else s)).1 })
        (postProgress q v (if v.committed && !old.committed then noteAccepted v.desc s else s)).2 := by
  simp only [keepRunning, expired_start _ _ h, Bool.false_eq_true, if_false]

theorem keepRunning_start {code : Nat} {d : Desc} {s s' : State} {old v : Running} (hq : d.ring.val < 22) (h : Leadless code s)
    (hv : v.desc = coded code d) (ht : s'.slowTicks ≤ v.startTick) (htw : s'.twin = s.twin) :
    keepRunning d.ring.val old v s' = Kept s' (keepRunning d.ring.val old v s') ∧ Awaits code d v.wait (keepRunning d.ring.val old v s') := by
  have ha : (if v.committed && !old.committed then noteAccepted v.desc s' else s') =
      Kept s' (if v.committed && !old.committed then noteAccepted v.desc s' else s') := by
    rw [hv]
    split
    · exact kept_noteAccepted h htw
    · rfl
  rw [keepRunning_intime ((slowTicks_of_kept ha).trans_le ht)]
  obtain ⟨hd, hw⟩ := postProgress_command d.ring.val v (if v.committed && !old.committed then noteAccepted v.desc s' else s')
  refine ⟨kept_trans (kept_trans ha (kept_postProgress _ _ _)) (kept_hif rfl), _, ?_, hd.trans hv, hw⟩
  rw [source_modSource_same _ _ _ hq]

/-- What the first step of an opcode leaves a command in that stays: it waits, and what else has come about leaves time and the pair alone. -/
structure Stays (code : Nat) (d : Desc) (s : State) (w : Wait) (p : State → Prop) (a : Ans × State) : Prop where
  stays : ∃ v, a.1 = .stay v ∧ v.desc = coded code d ∧ v.startTick = s.slowTicks ∧ v.wait = w
  slowTicks : a.2.slowTicks = s.slowTicks
  twin : a.2.twin = s.twin
  leaves : ∀ b : Aside, p (b.on a.2)

theorem starts_of_stays {code : Nat} {check : Running → State → Option Reject} {i : Instr} {op : Op} {d : Desc} {s : State} {w : Wait} {p : State → Prop}
    (hx : exec i s = .next (submitRow code op d s))
    (h : ∀ x : HostIf, check (starting code d s) { s with hif := x } = none → Stays code d s w p (op (starting code d s) { s with hif := x })) :
    Starts code check i d s w p := by
  intro ⟨hb, hc⟩
  rw [stepping_hif] at hc
  obtain ⟨⟨v, ha, hd, hs, hw⟩, hst, htw, hp⟩ := h _ hc
  rw [← stepping_hif] at ha hst htw hp
  have hq : d.ring.val < 22 := d.ring.isLt
  obtain ⟨hk, r, hr, hrd, hrw⟩ := keepRunning_start (old := { starting code d s with steps := 0 }) hq (leadless_of_begins hb) hd
    (hst.trans hs.symm).le htw
  have hrun := keepsRunning_refreshReady (keepRunning d.ring.val { starting code d s with steps := 0 } v (op (starting code d s) (stepping code d s)).2)
  refine ⟨_, hx, ?_⟩
  rw [submit_begins _ _ _ _ hb, ha]
  obtain ⟨b, hb⟩ := aside_of_kept (kept_trans hk (kept_hif hrun.hif))
  exact ⟨⟨r, (hrun.2 _).trans hr, hrd, hrw.trans hw⟩, hb ▸ hp b⟩

/-! ## A command that ends -/

@[simp] theorem source_accept (q : Nat) (x : Desc) (s : State) : source q (accept x s) = source q s := by
  simp only [accept]
  split
  · rfl
  · split
    · rfl
    · split <;> rfl

@[simp] theorem lastRecord_accept (q : Nat) (x : Desc) (s : State) : lastRecord q (accept x s) = lastRecord q s := by
  simp only [accept]
  split
  · rfl
  · split
    · rfl
    · split <;> rfl

/-- An end that reports a buffer that could not be read (R108). -/
def Unread (f : Finish) : Prop := (f.detail = detHostRead ∧ f.status = .rejectedParam) ∨ (f.detail = 11 ∧ f.status = .deviceFault)

/-- The effects of the end of a command of the host or of a desk: what succeeded is accepted (R589, R636). -/
theorem endEffects_outside {code : Nat} {d : Desc} {s t : State} {r : Running} {f : Finish} {q : Nat} (hq : q < 20) (h : Leadless code s)
    (hr : r.desc = coded code d) (hc : r.committed = false) (hf : ¬ Unread f) (ht : t.twin = s.twin) :
    endEffects q r f.status f.detail t = if succeeded f.status then accept (coded code d) t else t := by
  have h20 : q ≠ 20 := by omega
  have h21 : q ≠ 21 := by omega
  unfold Unread at hf
  simp only [endEffects, hr, hc, noteAccepted_leadless h ht, h20, h21, hf, Bool.not_false, Bool.and_true, false_and, if_false]

/-- What the first step of an opcode ends a command with: an answer, and what else has come about leaves time and the pair alone. -/
structure Ends (s : State) (st : Status) (detail : Nat) (res : BitVec 128) (p : State → Prop) (a : Ans × State) : Prop where
  ends : ∃ f, a.1 = .final f ∧ f.status = st ∧ f.detail = detail ∧ f.result = res ∧ ¬ Unread f
  slowTicks : a.2.slowTicks = s.slowTicks
  twin : a.2.twin = s.twin
  leaves : ∀ b : Aside, p (b.on a.2)

theorem read_of_detail_zero {f : Finish} (h : f.detail = 0) : ¬ Unread f := by
  simp [Unread, h, detHostRead]

/-- The state in which an end hands its record over. -/
def handedOver (q : Nat) (r : Running) (f : Finish) (s : State) : State :=
  releaseRing q (postCompletion q (recordOf q r f.status f.detail f.result f.seq true)
    (writeBuffer r.desc f.data (modSource q (fun x => { x with running := none }) s)))

theorem handedOver_hif (q : Nat) (r : Running) (f : Finish) (s : State) : handedOver q r f s = { s with hif := (handedOver q r f s).hif } := by
  unfold handedOver
  rw [releaseRing_hif, postCompletion_hif, writeBuffer_hif]
  rfl

theorem handedOver_source {q : Nat} (r : Running) (f : Finish) (s : State) (hq : q < 22) : (source q (handedOver q r f s)).running = none := by
  simp [handedOver, source_modSource_same, hq]

theorem handedOver_lastRecord {q : Nat} (r : Running) (f : Finish) (s : State) (hq : q < 22) :
    ∃ p n, lastRecord q (handedOver q r f s) = some { recordOf q r f.status f.detail f.result f.seq true with phase := p, cmdqHead := n } := by
  unfold handedOver
  rw [lastRecord_releaseRing _ _ hq]
  exact lastRecord_postCompletion _ _ _ hq (boundRing_lt _ _)

theorem kept_ite {s a b : State} {x : Bool} (ha : a = Kept s a) (hb : b = Kept s b) : (if x then a else b) = Kept s (if x then a else b) := by
  cases x
  · exact hb
  · exact ha

/-- The end of a command at its first step: its record, its source free, and its effect kept but for what any accepted command may change. -/
theorem finishRunning_start {code : Nat} {d : Desc} {s s' : State} {r : Running} {f : Finish} (hq : d.ring.val < 20) (h : Leadless code s)
    (hr : r.desc = coded code d) (hc : r.committed = false) (hf : ¬ Unread f) (ht : s'.slowTicks ≤ r.startTick) (htw : s'.twin = s.twin) :
    finishRunning d.ring.val r f s' = Kept s' (finishRunning d.ring.val r f s') ∧
      Answered code d f.status f.detail f.result (finishRunning d.ring.val r f s') := by
  have hq' : d.ring.val < 22 := d.ring.isLt
  have hh : (handedOver d.ring.val r f s').twin = s.twin := by rw [handedOver_hif]; exact htw
  have he : finishRunning d.ring.val r f s' =
      if succeeded f.status then accept (coded code d) (handedOver d.ring.val r f s') else handedOver d.ring.val r f s' :=
    (finishRunning_intime _ _ _ _ hc ht).trans (endEffects_outside hq h hr hc hf hh)
  have hk := kept_hif (handedOver_hif d.ring.val r f s')
  obtain ⟨p, n, hl⟩ := handedOver_lastRecord r f s' hq'
  have hs := handedOver_source r f s' hq'
  rw [he]
  have htag : r.desc.tag = d.tag := by rw [hr]; rfl
  have hcode : r.desc.opcode = BitVec.ofNat 16 code := by rw [hr]; rfl
  have hs' : (source d.ring.val (if succeeded f.status then accept (coded code d) (handedOver d.ring.val r f s')
      else handedOver d.ring.val r f s')).running = none := by
    rw [apply_ite (source d.ring.val), source_accept, ite_self]; exact hs
  have hl' : lastRecord d.ring.val (if succeeded f.status then accept (coded code d) (handedOver d.ring.val r f s')
      else handedOver d.ring.val r f s') = lastRecord d.ring.val (handedOver d.ring.val r f s') := by
    rw [apply_ite (lastRecord d.ring.val), lastRecord_accept, ite_self]
  exact ⟨kept_ite (kept_trans hk (kept_accept _ _)) hk, _, hl'.trans hl, htag, hcode, rfl, rfl, rfl, rfl, hs'⟩

theorem exec_of_ends_stepping {code : Nat} {i : Instr} {op : Op} {d : Desc} {s : State} {st : Status} {detail : Nat} {res : BitVec 128}
    {p : State → Prop} (hx : exec i s = .next (submitRow code op d s)) (hb : Begins code d s)
    (h : Ends s st detail res p (op (starting code d s) (stepping code d s))) :
    ∃ t, exec i s = .next t ∧ Answered code d st detail res t ∧ p t := by
  obtain ⟨⟨f, ha, rfl, rfl, rfl, hf⟩, hst, htw, hp⟩ := h
  obtain ⟨hk, c, hl, ht, ho, h1, h2, h3, h4, hs⟩ := finishRunning_start (r := starting code d s) hb.outside (leadless_of_begins hb) rfl rfl hf
    hst.le htw
  have hrun := keepsRunning_refreshReady (finishRunning d.ring.val (starting code d s) f (op (starting code d s) (stepping code d s)).2)
  refine ⟨_, hx, ?_⟩
  rw [submit_begins _ _ _ _ hb, ha]
  obtain ⟨b, hb⟩ := aside_of_kept (kept_trans hk (kept_hif hrun.hif))
  exact ⟨⟨c, (hrun.lastRecord _).trans hl, ht, ho, h1, h2, h3, h4, (hrun.2 _).trans hs⟩, hb ▸ hp b⟩

theorem answers_of_ends {code : Nat} {check : Running → State → Option Reject} {i : Instr} {op : Op} {d : Desc} {s : State} {st : Status} {detail : Nat}
    {res : BitVec 128} {p : State → Prop} (hx : exec i s = .next (submitRow code op d s))
    (h : ∀ x : HostIf, check (starting code d s) { s with hif := x } = none →
      Ends s st detail res p (op (starting code d s) { s with hif := x })) :
    Passes code check d s → ∃ t, exec i s = .next t ∧ Answered code d st detail res t ∧ p t := by
  intro ⟨hb, hc⟩
  refine exec_of_ends_stepping hx hb ?_
  rw [stepping_hif] at hc ⊢
  exact h _ hc

/-- The same with a result that the state before gives. -/
theorem exec_of_ends {code : Nat} {check : Running → State → Option Reject} {i : Instr} {op : Op} {d : Desc} {s : State} {st : Status} {detail : Nat}
    {p : State → Prop} (hx : exec i s = .next (submitRow code op d s))
    (h : ∀ x : HostIf, check (starting code d s) { s with hif := x } = none →
      ∃ res, Ends s st detail res p (op (starting code d s) { s with hif := x })) :
    Passes code check d s → ∃ t res, exec i s = .next t ∧ Answered code d st detail res t ∧ p t := by
  intro ⟨hb, hc⟩
  rw [stepping_hif] at hc
  obtain ⟨res, he⟩ := h _ hc
  rw [← stepping_hif] at he
  obtain ⟨t, ht⟩ := exec_of_ends_stepping hx hb he
  exact ⟨t, res, ht⟩

/-! ## Rows whose first step is a check and an effect -/

theorem guarded_pass {check : Running → State → Option Reject} (effect : Running → State → Ans × State) {r : Running} {s : State}
    (h : check r s = none) : guarded check effect r s = effect r s := by
  simp only [guarded, h]

theorem starts_of_effect {code : Nat} {check : Running → State → Option Reject} {i : Instr} {op : Op} (effect : Running → State → Ans × State)
    {d : Desc} {s : State} {w : Wait} {p : State → Prop} (hx : exec i s = .next (submitRow code op d s))
    (hop : ∀ t, op (starting code d s) t = guarded check effect (starting code d s) t)
    (h : ∀ x : HostIf, check (starting code d s) { s with hif := x } = none → Stays code d s w p (effect (starting code d s) { s with hif := x })) :
    Starts code check i d s w p :=
  starts_of_stays hx (fun x hc => ((hop _).trans (guarded_pass effect hc)) ▸ h x hc)

theorem exec_of_effect {code : Nat} {check : Running → State → Option Reject} {i : Instr} {op : Op} (effect : Running → State → Ans × State) {d : Desc}
    {s : State} {st : Status} {detail : Nat} {p : State → Prop} (hx : exec i s = .next (submitRow code op d s))
    (hop : ∀ t, op (starting code d s) t = guarded check effect (starting code d s) t)
    (h : ∀ x : HostIf, check (starting code d s) { s with hif := x } = none →
      ∃ res, Ends s st detail res p (effect (starting code d s) { s with hif := x })) :
    Passes code check d s → ∃ t res, exec i s = .next t ∧ Answered code d st detail res t ∧ p t :=
  exec_of_ends hx (fun x hc => ((hop _).trans (guarded_pass effect hc)) ▸ h x hc)

theorem answers_of_effect {code : Nat} {check : Running → State → Option Reject} {i : Instr} {op : Op} (effect : Running → State → Ans × State)
    {d : Desc} {s : State} {st : Status} {detail : Nat} {res : BitVec 128} {p : State → Prop} (hx : exec i s = .next (submitRow code op d s))
    (hop : ∀ t, op (starting code d s) t = guarded check effect (starting code d s) t)
    (h : ∀ x : HostIf, check (starting code d s) { s with hif := x } = none →
      Ends s st detail res p (effect (starting code d s) { s with hif := x })) :
    Passes code check d s → ∃ t, exec i s = .next t ∧ Answered code d st detail res t ∧ p t :=
  answers_of_ends hx (fun x hc => ((hop _).trans (guarded_pass effect hc)) ▸ h x hc)

end Sys2Proof.Proofs
end

/-! # Requests for an epoch -/
section
namespace Sys2Proof.Proofs

open Sys2Proof Sys2Proof.Machine Sys2Proof.Safety Sys2Proof.Laws

/-! ## Loops -/

/-- What one turn of a loop brings about and every turn leaves, holds after the loop. -/
theorem foldl_reaches {α β : Type} {f : β → α → β} {a : α} {l : List α} {s : β} (p : β → Prop) (ha : a ∈ l) (hm : ∀ t, p (f t a))
    (hk : ∀ t b, p t → p (f t b)) : p (l.foldl f s) := by
  induction l generalizing s with
  | nil => cases ha
  | cons b l ih =>
    rw [List.foldl_cons]
    rcases List.mem_cons.mp ha with rfl | ha
    · exact List.foldlRecOn l f (hm s) (fun t ht b _ => hk t b ht)
    · exact ih ha

/-- In a loop that comes to an element once: what the turns before leave, that element's turn finds; what it brings about, the turns after leave. -/
theorem foldl_meets {α β : Type} {f : β → α → β} {a : α} {l : List α} {s : β} (before after : β → Prop) (hn : l.Nodup) (ha : a ∈ l)
    (h0 : before s) (hb : ∀ t b, b ≠ a → before t → before (f t b)) (hm : ∀ t, before t → after (f t a)) (hk : ∀ t b, b ≠ a → after t → after (f t b)) :
    after (l.foldl f s) := by
  induction l generalizing s with
  | nil => cases ha
  | cons b l ih =>
    obtain ⟨hbl, hl⟩ := List.nodup_cons.mp hn
    rw [List.foldl_cons]
    rcases List.mem_cons.mp ha with rfl | ha
    · exact List.foldlRecOn l f (hm s h0) (fun t ht b hb => hk t b (fun e => hbl (e ▸ hb)) ht)
    · exact ih hl ha (hb s b (fun e => hbl (e ▸ ha)) h0)

/-! ## Channels and directions after a change of one -/

theorem chan_modChan_same (c : Fin 64) (f : Channel → Channel) (s : State) : chan c (modChan c f s) = f (chan c s) := by
  simp [chan, modChan]

theorem chan_modChan_ne {c c' : Fin 64} (f : Channel → Channel) (s : State) (h : c' ≠ c) : chan c' (modChan c f s) = chan c' s := by
  have : c.val ≠ c'.val := fun e => h (Fin.ext e.symm)
  simp [chan, modChan, this]

theorem chan_modDir_ne {c c' : Fin 64} (d : Dir) (f : Direction → Direction) (s : State) (h : c' ≠ c) : chan c' (modDir c d f s) = chan c' s :=
  chan_modChan_ne _ s h

theorem dir_setDir_ne : ∀ {d d' : Dir} (ch : Channel) (x : Direction), d' ≠ d → (ch.setDir d x).dir d' = ch.dir d'
  | .dl, .ul, _, _, _ | .ul, .dl, _, _, _ => rfl
  | .dl, .dl, _, _, h | .ul, .ul, _, _, h => absurd rfl h

theorem defn_setDir (ch : Channel) (d : Dir) (x : Direction) : (ch.setDir d x).defn = ch.defn := by cases d <;> rfl

theorem direction_modDir_ne {c c' : Fin 64} {d d' : Dir} (f : Direction → Direction) (s : State) (h : (c', d') ≠ (c, d)) :
    direction c' d' (modDir c d f s) = direction c' d' s := by
  by_cases hc : c' = c
  · subst hc
    rw [direction, modDir, chan_modChan_same, dir_setDir_ne _ _ (fun e => h (by rw [e]))]
    rfl
  · rw [direction, chan_modDir_ne _ _ _ hc]
    rfl

theorem defn_modDir (c c' : Fin 64) (d : Dir) (f : Direction → Direction) (s : State) : (chan c' (modDir c d f s)).defn = (chan c' s).defn := by
  by_cases hc : c' = c
  · subst hc
    rw [modDir, chan_modChan_same, defn_setDir]
  · rw [chan_modDir_ne _ _ _ hc]

/-! ## One request (R37-R39) -/

/-- An effective count lies in the future of the count in force (R39). -/
def inFuture (s : State) (e : Word) : Bool :=
  decide (1 ≤ (e.toNat + 2 ^ 32 - basisNow s % 2 ^ 32) % 2 ^ 32) && decide ((e.toNat + 2 ^ 32 - basisNow s % 2 ^ 32) % 2 ^ 32 ≤ 2 ^ 31 - 1)

section
variable (c : Fin 64) (d : Dir) (k : EpochKind) (sets : List Setting) (eff : Option Word) (s : State)

/-- A request changes its direction's line and the count of tickets alone. -/
theorem requestChange_lines : requestChange c d k sets eff s = { s with chans := (requestChange c d k sets eff s).chans, tickets := s.tickets + 1 } := rfl

/-- The line of a request takes its change, with its count where that lies in the future. -/
theorem line_requestChange : (direction c d (requestChange c d k sets eff s)).line k =
    { (direction c d s).line k with waiting := ((direction c d s).line k).waiting ++
      [{ ticket := s.tickets, effCount := eff.filter (inFuture s), settings := sets }] } := by
  simp only [requestChange, direction_modDir_same, line_setLine_same]
  rfl

theorem queued_requestChange : Queued c d k sets s (requestChange c d k sets eff s) :=
  ⟨_, congrArg EpochLine.waiting (line_requestChange c d k sets eff s), rfl⟩

theorem gain_requestChange : (direction c d (requestChange c d k sets eff s)).gain = (direction c d s).gain := by
  simp only [requestChange, direction_modDir_same, Direction.setLine]
  split <;> rfl

theorem stab_requestChange : (direction c d (requestChange c d k sets eff s)).stab = (direction c d s).stab := by
  simp only [requestChange, direction_modDir_same, Direction.setLine]
  split <;> rfl

theorem paths_requestChange : (direction c d (requestChange c d k sets eff s)).paths = (direction c d s).paths := by
  simp only [requestChange, direction_modDir_same, Direction.setLine]
  split <;> rfl

theorem chan_requestChange_ne {c' : Fin 64} (h : c' ≠ c) : chan c' (requestChange c d k sets eff s) = chan c' s := chan_modDir_ne _ _ _ h

theorem direction_requestChange_ne {c' : Fin 64} {d' : Dir} (h : (c', d') ≠ (c, d)) :
    direction c' d' (requestChange c d k sets eff s) = direction c' d' s := direction_modDir_ne _ _ h

theorem defn_requestChange (c' : Fin 64) : (chan c' (requestChange c d k sets eff s)).defn = (chan c' s).defn := defn_modDir _ _ _ _ _

end

theorem inFuture_iff (e : Word) (s : State) :
    inFuture s e = true ↔ 1 ≤ (e - BitVec.ofNat 32 (basisNow s)).toNat ∧ (e - BitVec.ofNat 32 (basisNow s)).toNat ≤ 2 ^ 31 - 1 := by
  have h : (e.toNat + 2 ^ 32 - basisNow s % 2 ^ 32) % 2 ^ 32 = (e - BitVec.ofNat 32 (basisNow s)).toNat := by
    rw [BitVec.toNat_sub, BitVec.toNat_ofNat]
    congr 1
    omega
  rw [inFuture, h, Bool.and_eq_true, decide_eq_true_eq, decide_eq_true_eq]

theorem filter_inFuture {e : Word} {s : State} (h : inFuture s e = true) : (some e).filter (inFuture s) = some e := by
  rw [Option.filter_some, if_pos h]

/-- A count that does not lie in the future is none. -/
theorem requestChange_past (c : Fin 64) (d : Dir) (k : EpochKind) (sets : List Setting) {e : Word} {s : State} (h : inFuture s e ≠ true) :
    requestChange c d k sets (some e) s = requestChange c d k sets none s := by
  have hf : (some e).filter (inFuture s) = none := by rw [Option.filter_some, if_neg h]
  exact congrArg (fun eff' => modDir c d (fun x => x.setLine k { x.line k with
    waiting := (x.line k).waiting ++ [{ ticket := s.tickets, effCount := eff', settings := sets }] }) { s with tickets := s.tickets + 1 }) hf

/-- Where a line carries no stamp, its first change is due on whatever block when it asks for no count (R37). -/
theorem due_of_no_count {l : EpochLine} {x : Change} (first : Nat) (hs : l.stamped = none) (hw : l.waiting = [x]) (hx : x.effCount = none) :
    l.due first = some x := by
  simp [EpochLine.due, hs, hw, hx]

/-- Settles O11: the filter of requestChange is the manual's interval, as the difference of two words. -/
theorem effectiveCountInTheFuture : Obligations.EffectiveCountInTheFuture := by
  intro c d k sets e first s
  rw [← inFuture_iff]
  refine ⟨fun h => ?_, fun h => ⟨requestChange_past c d k sets h, fun hw hs => ?_⟩⟩
  · rw [line_requestChange, filter_inFuture h]
  · rw [requestChange_past c d k sets h, line_requestChange]
    refine due_of_no_count first hs ?_ rfl
    rw [hw]
    rfl

end Sys2Proof.Proofs
end

/-! # Gain control and its limits -/
section
namespace Sys2Proof.Proofs

open Sys2Proof Sys2Proof.Machine Sys2Proof.Safety Sys2Proof.Laws

/-! ## Operands that name a channel and a direction -/

theorem chanOf_val {n : Nat} {c : Fin 64} (h : n = c.val) : chanOf n = c := h ▸ Fin.ofNat_val_eq_self c

/-! ## Records of the limit gates touch the Guestbook and the host interface alone (R261) -/

theorem foldl_hif {α : Type} (f : State → α → State) (h : ∀ s a, f s a = { s with hif := (f s a).hif }) (l : List α) (s : State) :
    l.foldl f s = { s with hif := (l.foldl f s).hif } := by
  induction l generalizing s with
  | nil => rfl
  | cons a l ih => rw [List.foldl_cons, ih, h s a]

theorem gbLose_records (g : GbEntry) (s : State) : ∃ x y, gbLose g s = { s with hif := x, gb := y } := by
  unfold gbLose
  rw [foldl_hif _ (fun _ _ => postEntry_hif _ _ _ _)]
  exact ⟨_, _, rfl⟩

theorem logRecord_records (cls severity source code : Nat) (bytes : List Byte) (events : List EventRec) (s : State) :
    ∃ x y, logRecord cls severity source code bytes events s = { s with hif := x, gb := y } := by
  simp only [logRecord, gbIntake]
  split
  · exact ⟨_, _, rfl⟩
  · exact gbLose_records _ _

theorem gateClamped_records (p : Prop) [Decidable p] (writer setting op ch dir : Nat) (requested applied bound : Int) (s : State) :
    ∃ x y, (if p then gateClamped writer setting op ch dir requested applied bound s else s) = { s with hif := x, gb := y } := by
  split
  · exact logRecord_records _ _ _ _ _ _ _
  · exact ⟨_, _, rfl⟩

theorem clamped_records (b : Bool) (writer setting op ch dir : Nat) (requested applied bound : Int) (s : State) :
    ∃ x y, (if b then gateClamped writer setting op ch dir requested applied bound s else s) = { s with hif := x, gb := y } :=
  gateClamped_records (b = true) _ _ _ _ _ _ _ _ _

theorem gateRefused_records (writer setting op ch dir : Nat) (requested applied bound : Int) (s : State) :
    ∃ x y, gateRefused writer setting op ch dir requested applied bound s = { s with hif := x, gb := y } :=
  logRecord_records _ _ _ _ _ _ _

/-! ## GAIN_SET -/

/-- One target: its record, and its request where it differs from the one wanted (R259; log entry 58). -/
theorem setTarget_cases (writer op : Nat) (c : Fin 64) (d : Dir) (want : Int) (eff : Option Word) (s : State) :
    ∃ x y, setTarget writer op c d want eff s = if gateGain c d want s = targetWanted (direction c d s) then { s with hif := x, gb := y }
      else requestChange c d .gain [.gainTarget (gateGain c d want s)] eff { s with hif := x, gb := y } := by
  obtain ⟨x, y, h⟩ := gateClamped_records (gateGain c d want s < want) writer 0 op c.val (dirCode d).toNat want (gateGain c d want s)
    (gateGain c d want s) s
  refine ⟨x, y, ?_⟩
  simp only [setTarget, h]
  rfl

/-- A target in force that no gate lowers asks for nothing. -/
theorem setTarget_kept {writer op : Nat} {c : Fin 64} {d : Dir} {want : Int} {eff : Option Word} {s : State}
    (hc : want ≤ gateGain c d want s) (hw : gateGain c d want s = targetWanted (direction c d s)) : setTarget writer op c d want eff s = s := by
  simp only [setTarget, if_neg (not_lt.mpr hc), if_pos hw]

/-- What a target of a direction is held against: the rules, the definition, the direction. -/
def SameTerms (c : Fin 64) (e : Dir) (s t : State) : Prop := t.hr = s.hr ∧ (chan c t).defn = (chan c s).defn ∧ direction c e t = direction c e s

theorem SameTerms.gateGain {c : Fin 64} {e : Dir} {s t : State} (h : SameTerms c e s t) (want : Int) : gateGain c e want t = gateGain c e want s := by
  obtain ⟨hr, hd, hx⟩ := h
  simp only [Machine.gateGain, gHr, hr, hd, hx]

theorem SameTerms.setTarget_ne {writer op : Nat} {c : Fin 64} {d e : Dir} {want : Int} {eff : Option Word} {s t : State} (hd : d ≠ e)
    (h : SameTerms c e s t) : SameTerms c e s (setTarget writer op c d want eff t) := by
  obtain ⟨hr, hf, hx⟩ := h
  obtain ⟨x, y, hs⟩ := setTarget_cases writer op c d want eff t
  rw [hs]
  split
  · exact ⟨hr, hf, hx⟩
  · refine ⟨hr, (defn_requestChange _ _ _ _ _ _ _).trans hf, (direction_requestChange_ne _ _ _ _ _ _ ?_).trans hx⟩
    exact fun he => hd (Prod.mk.inj he).2.symm

/-- A target of another direction leaves a direction's line and gain. -/
theorem setTarget_direction_ne {writer op : Nat} {c : Fin 64} {d e : Dir} {want : Int} {eff : Option Word} {t : State} (hd : d ≠ e) :
    direction c e (setTarget writer op c d want eff t) = direction c e t :=
  (SameTerms.setTarget_ne hd ⟨rfl, rfl, rfl⟩).2.2

/-- Targets of a channel leave the other channels, time and the pair alone. -/
theorem setTarget_outside (writer op : Nat) (c : Fin 64) (d : Dir) (want : Int) (eff : Option Word) (s : State) :
    (setTarget writer op c d want eff s).slowTicks = s.slowTicks ∧ (setTarget writer op c d want eff s).twin = s.twin ∧
      ∀ c', c' ≠ c → chan c' (setTarget writer op c d want eff s) = chan c' s := by
  obtain ⟨x, y, hs⟩ := setTarget_cases writer op c d want eff s
  rw [hs]
  split
  · exact ⟨rfl, rfl, fun _ _ => rfl⟩
  · exact ⟨rfl, rfl, fun _ h => chan_requestChange_ne _ _ _ _ _ _ h⟩

/-- The targets of a GAIN_SET set one after the other. -/
def setTargets (x : Desc) (s : State) : State :=
  (gainSetDirs x).foldl (fun s d => setTarget (writerOf x.ring.val) x.opcode.toNat (chanOf (par x 0 1)) d (targetField x d) (effOf x) s) s

theorem setTargets_outside (x : Desc) (s : State) : (setTargets x s).slowTicks = s.slowTicks ∧ (setTargets x s).twin = s.twin ∧
    ∀ c, c ≠ chanOf (par x 0 1) → chan c (setTargets x s) = chan c s := by
  refine List.foldlRecOn (motive := fun t => t.slowTicks = s.slowTicks ∧ t.twin = s.twin ∧ ∀ c, c ≠ chanOf (par x 0 1) → chan c t = chan c s)
    _ _ ⟨rfl, rfl, fun _ _ => rfl⟩ (fun t ht d _ => ?_)
  obtain ⟨h1, h2, h3⟩ := setTarget_outside (writerOf x.ring.val) x.opcode.toNat (chanOf (par x 0 1)) d (targetField x d) (effOf x) t
  exact ⟨h1.trans ht.1, h2.trans ht.2.1, fun c hc => (h3 c hc).trans (ht.2.2 c hc)⟩

theorem mem_gainSetChanged {x : Desc} {s : State} {e : Dir} : e ∈ gainSetChanged x s ↔ e ∈ gainSetDirs x ∧
    gateGain (chanOf (par x 0 1)) e (targetField x e) s ≠ targetWanted (direction (chanOf (par x 0 1)) e s) := by
  simp only [gainSetChanged, List.mem_filter, decide_eq_true_eq]

theorem nodup_bothDirs_filter (p : Dir → Bool) : (bothDirs.filter p).Nodup := List.Nodup.filter _ (by decide)

theorem setTargets_changed {x : Desc} {s : State} {e : Dir} (he : e ∈ gainSetChanged x s) :
    Queued (chanOf (par x 0 1)) e .gain [.gainTarget (gateGain (chanOf (par x 0 1)) e (targetField x e) s)] s (setTargets x s) ∧
      (direction (chanOf (par x 0 1)) e (setTargets x s)).gain = (direction (chanOf (par x 0 1)) e s).gain := by
  obtain ⟨hm, hw⟩ := mem_gainSetChanged.mp he
  refine foldl_meets (SameTerms (chanOf (par x 0 1)) e s)
    (fun t => Queued (chanOf (par x 0 1)) e .gain [.gainTarget (gateGain (chanOf (par x 0 1)) e (targetField x e) s)] s t ∧
      (direction (chanOf (par x 0 1)) e t).gain = (direction (chanOf (par x 0 1)) e s).gain)
    (nodup_bothDirs_filter _) hm ⟨rfl, rfl, rfl⟩ (fun t d hd ht => ht.setTarget_ne hd) (fun t ht => ?_) (fun t d hd ht => ?_)
  · obtain ⟨u, v, hs⟩ := setTarget_cases (writerOf x.ring.val) x.opcode.toNat (chanOf (par x 0 1)) e (targetField x e) (effOf x) t
    have hx := ht.2.2
    rw [hs, ht.gateGain, hx, if_neg hw]
    obtain ⟨g, hg, hset⟩ := queued_requestChange (chanOf (par x 0 1)) e .gain
      [.gainTarget (gateGain (chanOf (par x 0 1)) e (targetField x e) s)] (effOf x) { t with hif := u, gb := v }
    refine ⟨⟨g, hg.trans ?_, hset⟩, (gain_requestChange _ _ _ _ _ _).trans ?_⟩
    · exact congrArg (fun y : Direction => (y.line .gain).waiting ++ [g]) hx
    · exact congrArg Direction.gain hx
  · obtain ⟨⟨g, hg, hset⟩, hgain⟩ := ht
    have hx : direction (chanOf (par x 0 1)) e (setTarget (writerOf x.ring.val) x.opcode.toNat (chanOf (par x 0 1)) d (targetField x d) (effOf x) t) =
      direction (chanOf (par x 0 1)) e t := setTarget_direction_ne hd
    exact ⟨⟨g, by rw [hx, hg], hset⟩, by rw [hx, hgain]⟩

theorem foldl_fixed {α β : Type} {f : β → α → β} {l : List α} {s : β} (h : ∀ a ∈ l, f s a = s) : l.foldl f s = s :=
  List.foldlRecOn (motive := fun t => t = s) l f rfl (fun _ ht a ha => ht ▸ h a ha)

/-- Named targets that are in force, below every gate, ask for nothing. -/
theorem setTargets_kept {x : Desc} {s : State} (hn : gainSetChanged x s = [])
    (hg : ∀ e ∈ gainSetDirs x, (targetField x e : Int) ≤ gateGain (chanOf (par x 0 1)) e (targetField x e) s) : setTargets x s = s := by
  refine foldl_fixed (fun e he => setTarget_kept (hg e he) ?_)
  by_contra hw
  exact absurd (mem_gainSetChanged.mpr ⟨he, hw⟩) (by simp [hn])

theorem gainSet_kept (d : Desc) (s : State) (hn : gainSetChanged d s = [])
    (hg : gainSetDirs d = [] ∨ ∀ e ∈ gainSetDirs d, (targetField d e : Int) ≤ gateGain (chanOf (par d 0 1)) e (targetField d e) s) :
    Passes 0x0300 checkGainSet d s → ∃ t res, exec (.gainSet d) s = .next t ∧ Answered 0x0300 d .done 0 res t ∧ t = Kept s t := by
  have hg' : ∀ e ∈ gainSetDirs d, (targetField d e : Int) ≤ gateGain (chanOf (par d 0 1)) e (targetField d e) s :=
    hg.elim (fun h => by simp [h]) id
  refine exec_of_effect effectGainSet rfl (fun _ => rfl) (fun x _ => ?_)
  have hs : setTargets (coded 0x0300 d) { s with hif := x } = { s with hif := x } := setTargets_kept hn hg'
  have hc : (gainSetDirs d).any (fun e => decide (gateGain (chanOf (par d 0 1)) e (targetField d e) s < targetField d e)) = false := by
    simpa using hg'
  have he : effectGainSet (starting 0x0300 d s) { s with hif := x } = (doneClamped _ 0 _, setTargets (coded 0x0300 d) { s with hif := x }) :=
    if_pos (congrArg List.length hn)
  rw [he, hs]
  refine ⟨_, ⟨_, rfl, ?_, ite_self _, rfl, ?_⟩, rfl, rfl, fun b => rfl⟩
  · exact if_neg (by rw [← Bool.not_eq_true] at hc; exact hc)
  · exact read_of_detail_zero (ite_self _)

theorem starts_gainSet (d : Desc) (s : State) {e : Dir} (he : e ∈ gainSetChanged d s) : Starts 0x0300 checkGainSet (.gainSet d) d s .epochs (fun t =>
    Queued (chanOf (par d 0 1)) e .gain [.gainTarget (gateGain (chanOf (par d 0 1)) e (targetField d e) s)] s t ∧
      (direction (chanOf (par d 0 1)) e t).gain = (direction (chanOf (par d 0 1)) e s).gain ∧ (∀ c, c ≠ chanOf (par d 0 1) → chan c t = chan c s)) := by
  refine starts_of_effect effectGainSet rfl (fun _ => rfl) (fun x _ => ?_)
  have hn : (gainSetChanged d { s with hif := x }).length ≠ 0 := (List.length_pos_of_mem he).ne'
  obtain ⟨h1, h2, h3⟩ := setTargets_outside (coded 0x0300 d) { s with hif := x }
  have he' : effectGainSet (starting 0x0300 d s) { s with hif := x } =
      (awaitEpochs (starting 0x0300 d s) _ _ _, setTargets (coded 0x0300 d) { s with hif := x }) :=
    if_neg hn
  obtain ⟨hq, hgain⟩ := setTargets_changed (x := coded 0x0300 d) (s := { s with hif := x }) he
  rw [he']
  exact ⟨⟨_, rfl, rfl, rfl, rfl⟩, h1, h2, fun b => ⟨hq, hgain, h3⟩⟩

/-! ## ALC_CONFIGURE, UL_COUPLING_SET and SQUELCH_CONFIGURE -/

theorem starts_alcConfigure {d : Desc} {c : Fin 64} {e : Dir} (s : State) (hc : par d 0 1 = c.val) (he : dirOf (par d 1 1) = e) :
    Starts 0x0301 checkAlcConfigure (.alcConfigure d) d s .epochs (fun t =>
      Queued c e .gain [.alc (alcOf d (alcWanted (direction c e s)))] s t ∧ (direction c e t).gain = (direction c e s).gain ∧
      t = { Kept s t with chans := t.chans, tickets := s.tickets + 1 }) := by
  obtain rfl := chanOf_val hc
  subst he
  exact starts_of_effect effectAlcConfigure rfl (fun _ => rfl) (fun x _ => ⟨⟨_, rfl, rfl, rfl, rfl⟩, rfl, rfl, fun _ =>
    ⟨queued_requestChange _ _ _ _ _ { s with hif := x }, gain_requestChange _ _ _ _ _ { s with hif := x }, rfl⟩⟩)

theorem dl_requestChange_ul (c : Fin 64) (k : EpochKind) (sets : List Setting) (eff : Option Word) (s : State) :
    direction c .dl (requestChange c .ul k sets eff s) = direction c .dl s :=
  direction_requestChange_ne _ _ _ _ _ _ (fun h => Dir.noConfusion (Prod.mk.inj h).2)

theorem starts_ulCouplingSet {d : Desc} {c : Fin 64} (s : State) (hc : par d 0 1 = c.val) :
    Starts 0x0303 checkUlCouplingSet (.ulCouplingSet d) d s .epochs (fun t =>
      Queued c .ul .gain [.coupling (couplingOfDesc d (couplingWanted (direction c .ul s)))] s t ∧ direction c .dl t = direction c .dl s ∧
      (direction c .ul t).gain = (direction c .ul s).gain ∧ t = { Kept s t with chans := t.chans, tickets := s.tickets + 1 }) := by
  obtain rfl := chanOf_val hc
  exact starts_of_effect effectUlCouplingSet rfl (fun _ => rfl) (fun x _ => ⟨⟨_, rfl, rfl, rfl, rfl⟩, rfl, rfl, fun _ =>
    ⟨queued_requestChange _ _ _ _ _ { s with hif := x }, dl_requestChange_ul _ _ _ _ { s with hif := x },
      gain_requestChange _ _ _ _ _ { s with hif := x }, rfl⟩⟩)

theorem starts_squelchConfigure {d : Desc} {c : Fin 64} (s : State) (hc : par d 0 1 = c.val) :
    Starts 0x0304 checkSquelchConfigure (.squelchConfigure d) d s .epochs (fun t =>
      Queued c .ul .gain [.squelch (squelchOf d (squelchWanted (direction c .ul s)))] s t ∧ direction c .dl t = direction c .dl s ∧
      (direction c .ul t).gain = (direction c .ul s).gain ∧ t = { Kept s t with chans := t.chans, tickets := s.tickets + 1 }) := by
  obtain rfl := chanOf_val hc
  exact starts_of_effect effectSquelchConfigure rfl (fun _ => rfl) (fun x _ => ⟨⟨_, rfl, rfl, rfl, rfl⟩, rfl, rfl, fun _ =>
    ⟨queued_requestChange _ _ _ _ _ { s with hif := x }, dl_requestChange_ul _ _ _ _ { s with hif := x },
      gain_requestChange _ _ _ _ _ { s with hif := x }, rfl⟩⟩)

/-! ## POWER_LIMIT_SET of a direction -/

/-- The command waits for the one request of its direction; a clamp leaves its record. -/
theorem limitDirection_request (r : Running) (s : State) : ∃ x y l clamped res ovs, limitDirection r s = (awaitEpochs r l clamped res,
    requestChange (chanOf (par r.desc 1 1)) (dirOf (par r.desc 2 1)) .gain
      [.powerLimit (limitsOf (dirOf (par r.desc 2 1)) (dirDef (chanOf (par r.desc 1 1)) (dirOf (par r.desc 2 1)) s) (par r.desc 4 2)
        (limitWanted (direction (chanOf (par r.desc 1 1)) (dirOf (par r.desc 2 1)) s)).1 s) ovs]
      (effOf r.desc) { s with hif := x, gb := y }) := by
  obtain ⟨x, y, h⟩ := clamped_records _ _ _ _ _ _ _ _ _ s
  exact ⟨x, y, _, _, _, _, Prod.ext rfl (congrArg (requestChange _ _ _ _ _) h)⟩

theorem starts_powerLimitSet_direction {d : Desc} {c : Fin 64} {e : Dir} (s : State) (h0 : par d 0 1 = 0) (hc : par d 1 1 = c.val)
    (he : dirOf (par d 2 1) = e) : Starts 0x0302 checkPowerLimitSet (.powerLimitSet d) d s .epochs (fun t =>
      (∃ v o, Queued c e .gain [.powerLimit v o] s t ∧ v = limitsOf e (dirDef c e s) (par d 4 2) (limitWanted (direction c e s)).1 s) ∧
      (direction c e t).gain = (direction c e s).gain ∧ t.ports = s.ports) := by
  obtain rfl := chanOf_val hc
  subst he
  refine starts_of_effect effectPowerLimitSet rfl (fun _ => rfl) (fun x _ => ?_)
  obtain ⟨u, y, l, clamped, res, ovs, h⟩ := limitDirection_request (starting 0x0302 d s) { s with hif := x }
  have hd : effectPowerLimitSet (starting 0x0302 d s) { s with hif := x } = limitDirection (starting 0x0302 d s) { s with hif := x } := if_pos h0
  rw [hd, h]
  exact ⟨⟨_, rfl, rfl, rfl, rfl⟩, rfl, rfl, fun _ => ⟨⟨_, ovs, queued_requestChange _ _ _ _ _ { s with hif := u, gb := y }, rfl⟩,
    gain_requestChange _ _ _ _ _ { s with hif := u, gb := y }, rfl⟩⟩

/-! ## POWER_LIMIT_SET of a port -/

theorem nodup_liveDirs (s : State) : (liveDirs s).Nodup := by
  refine List.nodup_flatMap.mpr ⟨fun c _ => List.Nodup.map (fun _ _ h => (Prod.mk.inj h).2) (nodup_bothDirs_filter _), ?_⟩
  refine (List.nodup_finRange 64).imp (fun {c c'} hc => ?_)
  simp only [Function.onFun, List.disjoint_left, List.mem_map]
  rintro _ ⟨_, _, rfl⟩ ⟨_, _, h⟩
  exact hc (Prod.mk.inj h).1.symm

theorem nodup_dirsOnPort (p : Fin 8) (s : State) : (dirsOnPort p s).Nodup := (nodup_liveDirs s).filter _

/-- A port that no direction uses has what is in force. -/
theorem portWanted_unused {p : Fin 8} {s : State} (h : dirsOnPort p s = []) : portWanted p s = (compLimit p s, (port p s).pCalTx, (port p s).pCalRx) := by
  simp [portWanted, h]

theorem port_withPort_same (p : Fin 8) (comp : Option Int) (tx rx : Int) (s : State) : port p (withPort p comp tx rx s) =
    { port p s with pCompMax := comp.or (port p s).pCompMax, pCalTx := tx, pCalRx := rx } := by
  simp [port, withPort]

theorem port_withPort_ne {p k : Fin 8} (comp : Option Int) (tx rx : Int) (s : State) (h : k ≠ p) : port k (withPort p comp tx rx s) = port k s := by
  have : p.val ≠ k.val := fun e => h (Fin.ext e.symm)
  simp [port, withPort, this]

/-- Calibrations are refused while House Rules are locked (R226). -/
theorem limitPort_locked {r : Running} {s : State} (hl : s.hr.locked = true) (hn : namesCalibration r.desc = true) :
    ∃ x y, limitPort r s = (refuse (.rejectedState, 0x030B), { s with hif := x, gb := y }) := by
  have hc : (namesCalibration r.desc && s.hr.locked) = true := by rw [hl, hn]; rfl
  obtain ⟨x, y, h⟩ := gateRefused_records _ _ _ _ _ _ _ _ s
  exact ⟨x, y, (if_pos hc).trans (Prod.ext rfl h)⟩

/-- The limit POWER_LIMIT_SET gives a port: no higher than House Rules allow. -/
def portBound (x : Desc) (s : State) : Int := min (parInt x 4 2) s.hr.rules.pCompMax[Fin.ofNat 8 (par x 1 1)]

/-- House Rules allow less than it asks for. -/
def portClamped (x : Desc) (s : State) : Bool := par x 4 2 != 0x7FFF && decide (s.hr.rules.pCompMax[Fin.ofNat 8 (par x 1 1)] < parInt x 4 2)

/-- Without a calibration that House Rules refuse, the limit is set at once on a port that no direction uses. -/
theorem limitPort_unused {r : Running} {s : State} (hl : s.hr.locked = false) (hw : par r.desc 4 2 ≠ 0x7FFF)
    (hu : dirsOnPort (Fin.ofNat 8 (par r.desc 1 1)) s = []) : ∃ x y res, limitPort r s = (doneClamped (portClamped r.desc s) 0 res,
      withPort (Fin.ofNat 8 (par r.desc 1 1)) (some (portBound r.desc s)) (keepLevel (par r.desc 6 2) (port (Fin.ofNat 8 (par r.desc 1 1)) s).pCalTx)
        (keepLevel (par r.desc 8 2) (port (Fin.ofNat 8 (par r.desc 1 1)) s).pCalRx) { s with hif := x, gb := y }) := by
  obtain ⟨x, y, h⟩ := clamped_records (par r.desc 4 2 != 0x7FFF && decide (s.hr.rules.pCompMax[Fin.ofNat 8 (par r.desc 1 1)] < parInt r.desc 4 2))
    (writerOf r.desc.ring.val) 3 r.desc.opcode.toNat (Fin.ofNat 8 (par r.desc 1 1)).val 0xFF (parInt r.desc 4 2)
    s.hr.rules.pCompMax[Fin.ofNat 8 (par r.desc 1 1)] s.hr.rules.pCompMax[Fin.ofNat 8 (par r.desc 1 1)] s
  have hu' : dirsOnPort (Fin.ofNat 8 (par r.desc 1 1)) { s with hif := x, gb := y } = [] := hu
  refine ⟨x, y, ?_⟩
  simp only [limitPort, hl, Bool.and_false, Bool.false_eq_true, if_false, h, hu', portWanted_unused hu, if_neg hw, List.length_nil, true_or, if_true]
  exact ⟨_, rfl⟩

/-- On a port that directions use, a limit that differs from the one wanted is asked of every one of them. -/
theorem limitPort_used {r : Running} {s : State} (hl : s.hr.locked = false) (hw : par r.desc 4 2 ≠ 0x7FFF)
    (hu : dirsOnPort (Fin.ofNat 8 (par r.desc 1 1)) s ≠ []) (hd : portBound r.desc s ≠ (portWanted (Fin.ofNat 8 (par r.desc 1 1)) s).1) :
    ∃ x y l clamped res, limitPort r s = (awaitEpochs r l clamped res, requestPort (Fin.ofNat 8 (par r.desc 1 1)) (some (portBound r.desc s))
      (keepLevel (par r.desc 6 2) (portWanted (Fin.ofNat 8 (par r.desc 1 1)) s).2.1)
      (keepLevel (par r.desc 8 2) (portWanted (Fin.ofNat 8 (par r.desc 1 1)) s).2.2) (effOf r.desc) { s with hif := x, gb := y }) := by
  obtain ⟨x, y, h⟩ := clamped_records (par r.desc 4 2 != 0x7FFF && decide (s.hr.rules.pCompMax[Fin.ofNat 8 (par r.desc 1 1)] < parInt r.desc 4 2))
    (writerOf r.desc.ring.val) 3 r.desc.opcode.toNat (Fin.ofNat 8 (par r.desc 1 1)).val 0xFF (parInt r.desc 4 2)
    s.hr.rules.pCompMax[Fin.ofNat 8 (par r.desc 1 1)] s.hr.rules.pCompMax[Fin.ofNat 8 (par r.desc 1 1)] s
  have hu' : dirsOnPort (Fin.ofNat 8 (par r.desc 1 1)) { s with hif := x, gb := y } ≠ [] := hu
  refine ⟨x, y, ?_⟩
  simp only [limitPort, hl, Bool.and_false, Bool.false_eq_true, if_false, h, if_neg hw]
  refine ⟨_, _, _, if_neg ?_⟩
  rintro (hz | hz)
  · exact hu' (List.length_eq_zero_iff.mp hz)
  · exact hd (congrArg Prod.fst hz)

theorem requestPort_outside (p : Fin 8) (comp : Option Int) (tx rx : Int) (eff : Option Word) (s : State) :
    (requestPort p comp tx rx eff s).slowTicks = s.slowTicks ∧ (requestPort p comp tx rx eff s).twin = s.twin ∧
      (requestPort p comp tx rx eff s).ports = s.ports :=
  List.foldlRecOn (motive := fun (t : State) => t.slowTicks = s.slowTicks ∧ t.twin = s.twin ∧ t.ports = s.ports) _ _ ⟨rfl, rfl, rfl⟩
    (fun _ ht _ _ => ht)

/-- Every direction that uses the port is asked once. -/
theorem requestPort_queued {p : Fin 8} (comp : Option Int) (tx rx : Int) (eff : Option Word) {s : State} {c : Fin 64} {e : Dir}
    (h : (c, e) ∈ dirsOnPort p s) : ∃ f, Queued c e .gain [.portLimits p comp tx rx, f] s (requestPort p comp tx rx eff s) := by
  refine foldl_meets (fun t => direction c e t = direction c e s) (fun t => ∃ f, Queued c e .gain [.portLimits p comp tx rx, f] s t)
    (nodup_dirsOnPort p s) h rfl (fun t b hb ht => ?_) (fun t ht => ?_) (fun t b hb ht => ?_)
  · exact (direction_requestChange_ne _ _ _ _ _ _ (Ne.symm hb)).trans ht
  · obtain ⟨g, hg, hs⟩ := queued_requestChange c e .gain [.portLimits p comp tx rx,
      .frontEnd (frontEnd e (dirDef c e s) (direction c e s).peerCal (withPort p comp tx rx s))] eff t
    exact ⟨_, g, hg.trans (by rw [ht]), hs⟩
  · obtain ⟨f, g, hg, hs⟩ := ht
    exact ⟨f, g, (congrArg (fun x : Direction => (x.line .gain).waiting) (direction_requestChange_ne _ _ _ _ _ _ (Ne.symm hb))).trans hg, hs⟩

section
variable {d : Desc} {p : Fin 8} (s : State)

theorem powerLimitSet_port_answers (h0 : par d 0 1 ≠ 0) (hp : par d 1 1 = p.val) (hl : s.hr.locked = false) (hw : par d 4 2 ≠ 0x7FFF)
    (hu : dirsOnPort p s = []) : Passes 0x0302 checkPowerLimitSet d s → ∃ t res, exec (.powerLimitSet d) s = .next t ∧
      Answered 0x0302 d (if portClamped d s then .clamped else .done) 0 res t ∧
      (port p t).pCompMax = some (min (parInt d 4 2) s.hr.rules.pCompMax[p]) ∧ (port p t).pCalTx = keepLevel (par d 6 2) (port p s).pCalTx ∧
      ∀ k, k ≠ p → port k t = port k s := by
  obtain rfl : Fin.ofNat 8 (par d 1 1) = p := hp ▸ Fin.ofNat_val_eq_self p
  refine exec_of_effect effectPowerLimitSet rfl (fun _ => rfl) (fun x _ => ?_)
  obtain ⟨u, y, res, h⟩ := limitPort_unused (r := starting 0x0302 d s) (s := { s with hif := x }) hl hw hu
  have hd : effectPowerLimitSet (starting 0x0302 d s) { s with hif := x } = limitPort (starting 0x0302 d s) { s with hif := x } := if_neg h0
  have hport := port_withPort_same (Fin.ofNat 8 (par d 1 1)) (some (portBound d s)) (keepLevel (par d 6 2) (port (Fin.ofNat 8 (par d 1 1)) s).pCalTx)
    (keepLevel (par d 8 2) (port (Fin.ofNat 8 (par d 1 1)) s).pCalRx) { s with hif := u, gb := y }
  rw [hd, h]
  exact ⟨res, ⟨_, rfl, rfl, ite_self _, rfl, read_of_detail_zero (ite_self _)⟩, rfl, rfl, fun _ =>
    ⟨congrArg PortState.pCompMax hport, congrArg PortState.pCalTx hport, fun k hk => port_withPort_ne _ _ _ { s with hif := u, gb := y } hk⟩⟩

theorem powerLimitSet_port_unused (h0 : par d 0 1 ≠ 0) (hp : par d 1 1 = p.val) (hl : s.hr.locked = false) (hw : par d 4 2 ≠ 0x7FFF)
    (hu : dirsOnPort p s = []) (hpass : Passes 0x0302 checkPowerLimitSet d s) : ∃ t, exec (.powerLimitSet d) s = .next t ∧
      (port p t).pCompMax = some (min (parInt d 4 2) s.hr.rules.pCompMax[p]) ∧ (port p t).pCalTx = keepLevel (par d 6 2) (port p s).pCalTx ∧
      (source d.ring.val t).running = none ∧ ∀ k, k ≠ p → port k t = port k s := by
  obtain ⟨t, res, hx, ⟨_, _, _, _, _, _, _, _, hr⟩, h1, h2, h3⟩ := powerLimitSet_port_answers s h0 hp hl hw hu hpass
  exact ⟨t, hx, h1, h2, hr, h3⟩

theorem starts_powerLimitSet_port {c : Fin 64} {e : Dir} (h0 : par d 0 1 ≠ 0) (hp : par d 1 1 = p.val) (hl : s.hr.locked = false)
    (hu : (c, e) ∈ dirsOnPort p s) (hw : par d 4 2 ≠ 0x7FFF ∧ min (parInt d 4 2) s.hr.rules.pCompMax[p] ≠ (portWanted p s).1) :
    Starts 0x0302 checkPowerLimitSet (.powerLimitSet d) d s .epochs (fun t =>
      (∃ f, Queued c e .gain [.portLimits p (some (min (parInt d 4 2) s.hr.rules.pCompMax[p])) (keepLevel (par d 6 2) (portWanted p s).2.1)
        (keepLevel (par d 8 2) (portWanted p s).2.2), f] s t) ∧ t.ports = s.ports) := by
  obtain rfl : Fin.ofNat 8 (par d 1 1) = p := hp ▸ Fin.ofNat_val_eq_self p
  refine starts_of_effect effectPowerLimitSet rfl (fun _ => rfl) (fun x _ => ?_)
  obtain ⟨u, y, l, clamped, res, h⟩ := limitPort_used (r := starting 0x0302 d s) (s := { s with hif := x }) hl hw.1 (List.ne_nil_of_mem hu) hw.2
  have hd : effectPowerLimitSet (starting 0x0302 d s) { s with hif := x } = limitPort (starting 0x0302 d s) { s with hif := x } := if_neg h0
  rw [hd, h]
  obtain ⟨h1, h2, h3⟩ := requestPort_outside (Fin.ofNat 8 (par d 1 1)) (some (portBound d s))
    (keepLevel (par d 6 2) (portWanted (Fin.ofNat 8 (par d 1 1)) s).2.1)
    (keepLevel (par d 8 2) (portWanted (Fin.ofNat 8 (par d 1 1)) s).2.2) (effOf (coded 0x0302 d)) { s with hif := u, gb := y }
  exact ⟨⟨_, rfl, rfl, rfl, rfl⟩, h1, h2, fun _ => ⟨requestPort_queued _ _ _ _ (s := { s with hif := u, gb := y }) hu, h3⟩⟩

theorem powerLimitSet_locked (h0 : par d 0 1 ≠ 0) (hl : s.hr.locked = true) (hn : namesCalibration d = true) :
    Passes 0x0302 checkPowerLimitSet d s → ∃ t, exec (.powerLimitSet d) s = .next t ∧ Answered 0x0302 d .rejectedState 0x030B 0 t ∧
      t.ports = s.ports ∧ t.chans = s.chans := by
  refine answers_of_effect effectPowerLimitSet rfl (fun _ => rfl) (fun x _ => ?_)
  obtain ⟨u, y, h⟩ := limitPort_locked (r := starting 0x0302 d s) (s := { s with hif := x }) hl hn
  have hd : effectPowerLimitSet (starting 0x0302 d s) { s with hif := x } = limitPort (starting 0x0302 d s) { s with hif := x } := if_neg h0
  rw [hd, h]
  exact ⟨⟨_, rfl, rfl, rfl, rfl, by simp [Unread]⟩, rfl, rfl, fun _ => ⟨rfl, rfl⟩⟩

end

/-- Settles O31: each command's effect is its requests in the gain lines, behind the records of the gates. -/
theorem gainCommands : Obligations.GainCommands := by
  intro d s c e
  exact ⟨gainSet_kept d s, starts_gainSet d s, starts_alcConfigure s, starts_powerLimitSet_direction s,
    fun p h0 hp hl hw hu => powerLimitSet_port_unused s h0 hp hl hw hu, fun p h0 hp hl hu hw => starts_powerLimitSet_port s h0 hp hl hu hw,
    powerLimitSet_locked s, starts_ulCouplingSet s, starts_squelchConfigure s⟩

end Sys2Proof.Proofs
end

/-! # The engine pool -/
section
namespace Sys2Proof.Proofs

open Sys2Proof Sys2Proof.Machine Sys2Proof.Safety Sys2Proof.Laws

/-! ## Checks in order -/

theorem firstOf_eq_none {l : List (Option Reject)} : firstOf l = none ↔ ∀ x ∈ l, x = none := by
  induction l with
  | nil => simp [firstOf]
  | cons a l ih => cases a <;> simp [firstOf, ih]

theorem refuseIf_eq_none {b : Bool} {r : Reject} : refuseIf b (some r) = none ↔ b = false := by
  cases b <;> simp [refuseIf]

/-! ## Assignments and engines after a change of one -/

theorem asgs_modAsg_same (a : Fin 256) (f : Assignment → Assignment) (s : State) : (modAsg a f s).eng.asgs[a] = f s.eng.asgs[a] := by
  simp [modAsg]

theorem state_modEngine_same (e : Fin 256) (f : Engine → Engine) (s : State) : (modEngine e f s).eng.engines[e] = f s.eng.engines[e] := by
  simp [modEngine]

theorem asgs_refreshEngines (s : State) : (refreshEngines s).eng.asgs = s.eng.asgs := by
  simp only [refreshEngines]

/-- A plan built makes the assignment one in use, with what the plan does not name as it was. -/
theorem asgs_buildPlan_same (a : Fin 256) (cls latency : Nat) (mask : BitVec 16) (p : Plan) (s : State) : (buildPlan a cls latency mask p s).eng.asgs[a] =
    { s.eng.asgs[a] with used := true, cls := cls, wingMask := mask, segs := p.segs, mem := p.memory cls latency } :=
  (congrArg (fun v => v[a]) (asgs_refreshEngines _)).trans (asgs_modAsg_same _ _ s)

/-! ## ASSIGNMENT_CREATE -/

theorem freeStandalone_of_check {r : Running} {s : State} (h : checkAssignmentCreate r s = none) : ∃ a, freeStandalone s = some a := by
  have hf := refuseIf_eq_none.mp (firstOf_eq_none.mp h (refuseIf (freeStandalone s).isNone (some (.noResource, detEngines))) (by simp))
  rw [Option.isNone_eq_false_iff] at hf
  exact Option.isSome_iff_exists.mp hf

theorem beginAssignmentCreate_free {r : Running} {s : State} {a : Fin 256} {p : Plan} (ha : freeStandalone s = some a)
    (hp : planStandalone (chan (chanOf (dat r.desc 0 1)) s).defn.cls (BitVec.ofNat 16 (par r.desc 2 2)) s = .ok p) :
    beginAssignmentCreate r s = (awaitState { r with committed := true } 1 [a.val],
      buildPlan a (chan (chanOf (dat r.desc 0 1)) s).defn.cls 0 (BitVec.ofNat 16 (par r.desc 2 2)) p
        (modAsg a (fun _ => { Assignment.reset with detect := r.desc.data.take 32 }) s)) := by
  simp only [beginAssignmentCreate, ha, hp, Option.getD_some]

theorem starts_assignmentCreate {d : Desc} {s : State}
    (hp : (planStandalone (chan (chanOf (dat d 0 1)) s).defn.cls (BitVec.ofNat 16 (par d 2 2)) s).toOption.isSome = true) :
    Starts 0x0400 checkAssignmentCreate (.assignmentCreate d) d s .state (fun t => ∃ a : Fin 256, freeStandalone s = some a ∧
      t.eng.asgs[a].used = true ∧ t.eng.asgs[a].detect = d.data.take 32) := by
  refine starts_of_effect beginAssignmentCreate rfl (fun _ => rfl) (fun x hc => ?_)
  obtain ⟨a, ha⟩ := freeStandalone_of_check hc
  cases hq : planStandalone (chan (chanOf (dat d 0 1)) s).defn.cls (BitVec.ofNat 16 (par d 2 2)) s with
  | error n => rw [hq] at hp; cases hp
  | ok p =>
    rw [beginAssignmentCreate_free (r := starting 0x0400 d s) (s := { s with hif := x }) ha hq]
    refine ⟨⟨_, rfl, rfl, rfl, rfl⟩, rfl, rfl, fun b => ⟨a, ha, ?_⟩⟩
    have hb := asgs_buildPlan_same a (chan (chanOf (dat d 0 1)) s).defn.cls 0 (BitVec.ofNat 16 (par d 2 2)) p
      (modAsg a (fun _ => { Assignment.reset with detect := d.data.take 32 }) { s with hif := x })
    exact ⟨congrArg Assignment.used hb, (congrArg Assignment.detect hb).trans
      (congrArg Assignment.detect (asgs_modAsg_same a (fun _ => { Assignment.reset with detect := d.data.take 32 }) { s with hif := x }))⟩

/-! ## ASSIGNMENT_MODIFY -/

theorem ofNat_val_lt {n : Nat} (h : n < 256) : (Fin.ofNat 256 n).val = n := Nat.mod_eq_of_lt h

/-- A new version of a kernel of a direction's assignment. -/
theorem effectAssignmentModify_version {r : Running} (s : State) (ha : par r.desc 0 2 < 128) (ho : par r.desc 3 1 = 2) :
    ∃ l clamped res, effectAssignmentModify r s = (awaitEpochs r l clamped res,
      requestChange (asgDir (Fin.ofNat 256 (par r.desc 0 2))).1 (asgDir (Fin.ofNat 256 (par r.desc 0 2))).2 .config
        [.kernels (Fin.ofNat 256 (par r.desc 0 2)) 1 (par r.desc 2 1) [(par r.desc 4 2 : Nat)]] (effOf r.desc) s) := by
  have hv : (Fin.ofNat 256 (par r.desc 0 2)).val < 128 := by rw [ofNat_val_lt (by omega)]; exact ha
  simp only [effectAssignmentModify, ho, show ¬ (2 = 1) by decide, show ¬ (2 = 0) by decide, false_and, if_false, if_true, if_pos hv]
  exact ⟨_, _, _, rfl⟩

theorem starts_assignmentModify_version {d : Desc} {s : State} (ha : par d 0 2 < 128) (ho : par d 3 1 = 2) :
    Starts 0x0401 checkAssignmentModify (.assignmentModify d) d s .epochs (fun t =>
      Queued (asgDir (Fin.ofNat 256 (par d 0 2))).1 (asgDir (Fin.ofNat 256 (par d 0 2))).2 .config
        [.kernels (Fin.ofNat 256 (par d 0 2)) 1 (par d 2 1) [(par d 4 2 : Nat)]] s t ∧ t.eng = s.eng) := by
  refine starts_of_effect effectAssignmentModify rfl (fun _ => rfl) (fun x _ => ?_)
  obtain ⟨l, clamped, res, h⟩ := effectAssignmentModify_version (r := starting 0x0401 d s) { s with hif := x } ha ho
  rw [h]
  exact ⟨⟨_, rfl, rfl, rfl, rfl⟩, rfl, rfl, fun _ => ⟨queued_requestChange _ _ _ _ _ { s with hif := x }, rfl⟩⟩

/-- A new detection entry of a stand-alone assignment. -/
theorem effectAssignmentModify_detect {r : Running} (s : State) (ha : 128 ≤ par r.desc 0 2) (hb : par r.desc 0 2 < 256) (ho : par r.desc 3 1 = 0)
    (hk : par r.desc 2 1 ≠ 2) : effectAssignmentModify r s = (awaitState { r with committed := true } 1 [(Fin.ofNat 256 (par r.desc 0 2)).val],
      modAsg (Fin.ofNat 256 (par r.desc 0 2)) (fun y => { y with ran := false })
        (modAsg (Fin.ofNat 256 (par r.desc 0 2)) (fun y => { y with detect := r.desc.data.take 32 }) s)) := by
  have hv : ¬ (Fin.ofNat 256 (par r.desc 0 2)).val < 128 := by rw [ofNat_val_lt hb]; omega
  simp only [effectAssignmentModify, ho, show ¬ (0 = 1) by decide, hk, and_false, if_false, if_true, if_neg hv]

theorem starts_assignmentModify_detect {d : Desc} {s : State} (ha : 128 ≤ par d 0 2) (hb : par d 0 2 < 256) (ho : par d 3 1 = 0) (hk : par d 2 1 ≠ 2) :
    Starts 0x0401 checkAssignmentModify (.assignmentModify d) d s .state (fun t =>
      t.eng.asgs[Fin.ofNat 256 (par d 0 2)].detect = d.data.take 32 ∧ t.eng.asgs[Fin.ofNat 256 (par d 0 2)].ran = false ∧ t.chans = s.chans) := by
  refine starts_of_effect effectAssignmentModify rfl (fun _ => rfl) (fun x _ => ?_)
  rw [effectAssignmentModify_detect (r := starting 0x0401 d s) { s with hif := x } ha hb ho hk]
  have hd := asgs_modAsg_same (Fin.ofNat 256 (par d 0 2)) (fun y => { y with detect := d.data.take 32 }) { s with hif := x }
  have hr := asgs_modAsg_same (Fin.ofNat 256 (par d 0 2)) (fun y => { y with ran := false })
    (modAsg (Fin.ofNat 256 (par d 0 2)) (fun y => { y with detect := d.data.take 32 }) { s with hif := x })
  exact ⟨⟨_, rfl, rfl, rfl, rfl⟩, rfl, rfl, fun _ => ⟨(congrArg Assignment.detect hr).trans (congrArg Assignment.detect hd),
    congrArg Assignment.ran hr, rfl⟩⟩

/-! ## MIGRATE -/

/-- A migration of one segment: its target is a shadow, and its entry stands with the others. -/
theorem beginMigration_one (a e : Fin 256) (g : Segment) (ringOf : Option (Fin 22)) (s : State) :
    (beginMigration a [(g, e)] ringOf s).eng.engines[e].state = .shadow ∧
      ∃ m ∈ (beginMigration a [(g, e)] ringOf s).eng.migrations, m.asg = a ∧ m.moves = [(g, e)] ∧ m.step = .copying ∧ m.ring = ringOf := by
  refine ⟨?_, _, List.mem_append_right _ (List.mem_singleton.mpr rfl), rfl, rfl, rfl, rfl⟩
  exact congrArg Engine.state (state_modEngine_same e (fun v => { v with state := .shadow }) _)

theorem beginMigrate_engine {r : Running} {s : State} {a e : Fin 256} {g : Segment} (h0 : par r.desc 0 1 = 0)
    (hg : migrateSegment r.desc s = some (a, g)) (he : migrateTarget r.desc a g s = some e) :
    beginMigrate r s = (awaitHardware r 1 [], beginMigration a [(g, e)] (some r.desc.ring) s) := by
  simp only [beginMigrate, h0, if_true, hg, he]

theorem starts_migrate {d : Desc} {s : State} (h0 : par d 0 1 = 0) (a : Fin 256) (g : Segment) (e : Fin 256)
    (hg : migrateSegment (coded 0x0403 d) s = some (a, g)) (he : migrateTarget (coded 0x0403 d) a g s = some e) :
    Starts 0x0403 checkMigrate (.migrate d) d s .hardware (fun t => t.eng.engines[e].state = .shadow ∧
      (∃ m ∈ t.eng.migrations, m.asg = a ∧ m.moves = [(g, e)] ∧ m.step = .copying ∧ m.ring = some d.ring) ∧ t.eng.asgs = s.eng.asgs ∧
      t = { Kept s t with eng := t.eng }) := by
  refine starts_of_effect beginMigrate rfl (fun _ => rfl) (fun x _ => ?_)
  rw [beginMigrate_engine (r := starting 0x0403 d s) (s := { s with hif := x }) h0 hg he]
  obtain ⟨hs, hm⟩ := beginMigration_one a e g (some d.ring) { s with hif := x }
  exact ⟨⟨_, rfl, rfl, rfl, rfl⟩, rfl, rfl, fun _ => ⟨hs, hm, rfl, rfl⟩⟩

/-! ## KERNEL_CATALOGUE_LOAD -/

theorem does_kernelCatalogueLoad {d : Desc} {s : State} (h0 : par d 0 1 = 0) :
    Does 0x0410 checkCatalogueLoad (.kernelCatalogueLoad d) d s (catalogueResult s) (fun t =>
      t = { Kept s t with eng := { s.eng with staged := catalogueOf d.data } }) := by
  refine answers_of_effect beginCatalogueLoad rfl (fun _ => rfl) (fun x _ => ?_)
  have hd : beginCatalogueLoad (starting 0x0410 d s) { s with hif := x } =
      (doneWith (catalogueResult s), { s with hif := x, eng := { s.eng with staged := catalogueOf d.data } }) := if_pos h0
  rw [hd]
  exact ⟨⟨_, rfl, rfl, rfl, rfl, read_of_detail_zero rfl⟩, rfl, rfl, fun _ => rfl⟩

theorem starts_kernelCatalogueLoad {d : Desc} {s : State} (h0 : par d 0 1 ≠ 0) :
    Starts 0x0410 checkCatalogueLoad (.kernelCatalogueLoad d) d s .none (fun t =>
      t = { Kept s t with eng := { s.eng with staged := catalogueOf d.data } }) := by
  refine starts_of_effect beginCatalogueLoad rfl (fun _ => rfl) (fun x _ => ?_)
  have hd : beginCatalogueLoad (starting 0x0410 d s) { s with hif := x } =
      (.stay { starting 0x0410 d s with wait := .none, phase := 1, aux := [0] }, { s with hif := x, eng := { s.eng with staged := catalogueOf d.data } }) :=
    if_neg h0
  rw [hd]
  exact ⟨⟨_, rfl, rfl, rfl, rfl⟩, rfl, rfl, fun _ => rfl⟩

/-- Settles O33: each command's first step is its effect on the pool, or its request for an epoch. -/
theorem engineCommands : Obligations.EngineCommands := by
  intro d s
  exact ⟨starts_assignmentCreate, starts_assignmentModify_version, starts_assignmentModify_detect, starts_migrate, does_kernelCatalogueLoad,
    starts_kernelCatalogueLoad⟩

end Sys2Proof.Proofs
end

/-! # What mutes, holds and the stability machine leave alone -/
section
namespace Sys2Proof.Proofs

open Sys2Proof Sys2Proof.Machine Sys2Proof.Safety Sys2Proof.Laws

/-- A state without its records, alarms and messages, and of its directions what a reading takes. -/
structure View (β : Type) where
  rest : State
  channels : Fin 64 → Channel
  directions : Fin 64 → Dir → β

/-- The view that a reading of directions gives. -/
def view {β : Type} (v : Fin 64 → Dir → Direction → β) (s : State) : View β where
  rest := { s with protWait := [], hif := HostIf.reset, faults := Faults.reset, gb := Guestbook.reset, fabric := Fabric.reset, compat := Compat.reset,
                   chans := Vector.replicate 64 Channel.reset }
  channels c := { chan c s with dl := Direction.reset, ul := Direction.reset }
  directions c d := v c d (direction c d s)

section
variable {β : Type} {v : Fin 64 → Dir → Direction → β}

/-! ## Changes of one part -/

theorem view_ite (p : Prop) [Decidable p] (s t : State) : view v (if p then s else t) = if p then view v s else view v t := apply_ite (view v) p s t

theorem view_foldl {α : Type} (f : State → α → State) (l : List α) (s : State) (h : ∀ s a, view v (f s a) = view v s) :
    view v (l.foldl f s) = view v s :=
  List.foldlRecOn (motive := fun t => view v t = view v s) l f rfl (fun t ht a _ => (h t a).trans ht)

theorem view_with_compat (s : State) (x : Compat) : view v { s with compat := x } = view v s := rfl

/-- A change that a reading of its direction does not see. -/
theorem view_modDir {c : Fin 64} {d : Dir} {f : Direction → Direction} {s : State} (h : v c d (f (direction c d s)) = v c d (direction c d s)) :
    view v (modDir c d f s) = view v s := by
  have hc : ∀ c', { chan c' (modDir c d f s) with dl := Direction.reset, ul := Direction.reset } =
      { chan c' s with dl := Direction.reset, ul := Direction.reset } := by
    intro c'
    by_cases hc : c' = c
    · subst hc
      rw [modDir, chan_modChan_same]
      cases d <;> rfl
    · rw [chan_modDir_ne _ _ _ hc]
  have hd : ∀ c' d', v c' d' (direction c' d' (modDir c d f s)) = v c' d' (direction c' d' s) := by
    intro c' d'
    by_cases he : (c', d') = (c, d)
    · obtain ⟨rfl, rfl⟩ := Prod.mk.inj he
      rw [direction_modDir_same, h]
    · rw [direction_modDir_ne _ _ he]
  exact congrArg₂ (View.mk (view v s).rest) (funext hc) (funext fun c' => funext (hd c'))

/-! ## Records, alarms and messages -/

@[simp] theorem view_postEvent (code severity source : Nat) (bytes : List Byte) (s : State) :
    view v (postEvent code severity source bytes s) = view v s := by
  rw [show postEvent code severity source bytes s = { s with hif := (postEvent code severity source bytes s).hif } from postEntry_hif _ _ _ _]
  rfl

@[simp] theorem view_raise (n obj detail : Nat) (s : State) : view v (raise n obj detail s) = view v s := rfl

@[simp] theorem view_logRecord (cls severity source code : Nat) (bytes : List Byte) (events : List EventRec) (s : State) :
    view v (logRecord cls severity source code bytes events s) = view v s := by
  obtain ⟨x, y, h⟩ := logRecord_records cls severity source code bytes events s
  rw [h]
  rfl

@[simp] theorem view_protRecord (code obj ch dir prt step reason : Nat) (i : ProtInfo) (s : State) :
    view v (protRecord code obj ch dir prt step reason i s) = view v s := by
  simp only [protRecord]
  split
  · exact view_logRecord _ _ _ _ _ _ _
  · rfl

@[simp] theorem view_dirRecord (code : Nat) (c : Fin 64) (d : Dir) (step reason : Nat) (i : ProtInfo) (s : State) :
    view v (dirRecord code c d step reason i s) = view v s := view_protRecord _ _ _ _ _ _ _ _ _

@[simp] theorem view_portRecord (code : Nat) (p : Fin 8) (step reason : Nat) (i : ProtInfo) (s : State) :
    view v (portRecord code p step reason i s) = view v s := view_protRecord _ _ _ _ _ _ _ _ _

@[simp] theorem view_modGq (c : Fin 64) (d : Dir) (f : GqDir → GqDir) (s : State) : view v (modGq c d f s) = view v s := rfl

@[simp] theorem view_answerMeasure (c : Fin 64) (d : Dir) (s : State) : view v (answerMeasure c d s) = view v s := by
  unfold answerMeasure
  split <;> rfl

/-- A message leaves by a link's queue. -/
theorem sendControl_links (a : Nat) (m : ControlMsg) (s : State) : ∃ l, sendControl a m s = { s with fabric := { s.fabric with links := l } } := by
  unfold sendControl sendFrame
  split
  · split <;> exact ⟨_, rfl⟩
  · exact ⟨_, rfl⟩

@[simp] theorem view_sendControl (a : Nat) (m : ControlMsg) (s : State) : view v (sendControl a m s) = view v s := by
  obtain ⟨l, h⟩ := sendControl_links a m s
  rw [h]
  rfl

@[simp] theorem view_tellSplit (c : Fin 64) (d : Dir) (s : State) : view v (tellSplit c d s) = view v s := by
  simp only [tellSplit, view_ite, view_sendControl, ite_self]

@[simp] theorem view_legacyMute (c : Fin 64) (d : Dir) (reason : Nat) (s : State) : view v (legacyMute c d reason s) = view v s := by
  simp only [legacyMute, view_ite, view_modGq, view_with_compat, ite_self]

/-! ## The stability machine, in a reading that does not see it -/

section
variable {c : Fin 64} {d : Dir} (hs : ∀ x m, v c d { x with stab := m } = v c d x) (s : State)
include hs

theorem view_modStab (f : Stability → Stability) : view v (modStab c d f s) = view v s := view_modDir (hs _ _)

theorem view_refreshK : view v (refreshK c d s) = view v s := view_modStab hs s _

theorem view_setStability (m : Stability) : view v (setStability c d m s) = view v s := by
  simp only [setStability, view_ite, view_postEvent, view_tellSplit, view_modStab hs, ite_self]

theorem view_enterMarginLost : view v (enterMarginLost c d s) = view v s := by
  simp only [enterMarginLost, view_raise, view_setStability hs, view_answerMeasure]

theorem view_enterBackoff (ceiling : Int) : view v (enterBackoff c d ceiling s) = view v s := by
  simp only [enterBackoff, view_ite, view_enterMarginLost hs, view_setStability hs, ite_self]

theorem view_enterClimb (ceiling : Int) : view v (enterClimb c d ceiling s) = view v s := view_setStability hs s _

theorem view_watchState (x : Int) : view v (watchState c d x s) = view v s := view_setStability hs s _

omit hs in
theorem view_watchNet : view v (watchNet c d s) = view v s := by
  simp only [watchNet, view_ite, view_dirRecord, view_with_compat, view_modGq, ite_self]

theorem view_settleWatch : view v (settleWatch c d s) = view v s := by
  simp only [settleWatch, view_ite, view_watchState hs, view_enterBackoff hs, view_watchNet, ite_self]

theorem view_settleNative : view v (settleNative c d s) = view v s := by
  simp only [settleNative]
  split <;> simp only [view_ite, view_enterBackoff hs, view_setStability hs, view_enterClimb hs, ite_self]

theorem view_settle : view v (settle c d s) = view v s := by
  simp only [settle, view_ite, view_settleWatch hs, view_settleNative hs, ite_self]

theorem view_newTarget : view v (newTarget c d s) = view v s := by
  simp only [newTarget, view_ite, view_settle hs, view_modStab hs, ite_self]

theorem view_unfreeze : view v (unfreeze c d s) = view v s := by
  simp only [unfreeze, view_ite, view_newTarget hs, view_enterClimb hs, view_modStab hs, view_refreshK hs, ite_self]

theorem view_freezeFrom (was : Bool) : view v (freezeFrom was c d s) = view v s := by
  simp only [freezeFrom, view_ite, view_modStab hs, view_unfreeze hs, ite_self]

/-! ## Mutes of a direction -/

section
variable (hr : ∀ x g, v c d { x with gain := { x.gain with reasons := g } } = v c d x)
include hr

theorem view_addMute (reason : Nat) (i : ProtInfo) : view v (addMute c d reason i s) = view v s := by
  have hg : view v (modGain c d (fun g => { g with reasons := putReason g.reasons reason }) s) = view v s := view_modDir (hr _ _)
  simp only [addMute, view_ite, view_freezeFrom hs, view_legacyMute, view_dirRecord, hg, ite_self]

theorem view_dropMute (reason : Nat) (i : ProtInfo) : view v (dropMute c d reason i s) = view v s := by
  have hg : view v (modGain c d (fun g => { g with reasons := cutReason g.reasons reason }) s) = view v s := view_modDir (hr _ _)
  simp only [dropMute, view_ite, view_freezeFrom hs, view_dirRecord, hg, ite_self]

end

end

/-! ## Holds and port stops of every direction -/

section
variable (hs : ∀ c d x m, v c d { x with stab := m } = v c d x) (hh : ∀ c d x h, v c d { x with held := h } = v c d x)
  (hp : ∀ c d x h e, v c d { x with heldPorts := h, heldEnd := e } = v c d x) (s : State)
include hs hh hp

theorem view_refreshHolds : view v (refreshHolds s) = view v s := by
  refine view_foldl _ _ _ (fun t e => ?_)
  have hn : view v (noteHolds e.1 e.2 t) = view v t := view_modDir (hp _ _ _ _ _)
  have hm (h : Bool) : view v (modDir e.1 e.2 (fun x => { x with held := h }) (noteHolds e.1 e.2 t)) = view v t := (view_modDir (hh _ _ _ _)).trans hn
  simp only [view_ite, view_freezeFrom (hs _ _), hm, hn, ite_self]

theorem view_refreshPortStops (hr : ∀ c d x g, v c d { x with gain := { x.gain with reasons := g } } = v c d x) :
    view v (refreshPortStops s) = view v s := by
  refine (view_refreshHolds hs hh hp _).trans (view_foldl _ _ _ (fun t e => ?_))
  simp only [view_ite, view_addMute (hs _ _) t (hr _ _), view_dropMute (hs _ _) t (hr _ _), ite_self]

end

/-! ## What a view tells -/

section
variable {s t : State} (h : view v t = view v s)
include h

theorem slowTicks_of_view : t.slowTicks = s.slowTicks := congrArg (fun w => w.rest.slowTicks) h

theorem twin_of_view : t.twin = s.twin := congrArg (fun w => w.rest.twin) h

theorem ports_of_view : t.ports = s.ports := congrArg (fun w => w.rest.ports) h

theorem port_of_view (p : Fin 8) : port p t = port p s := congrArg (fun w => port p w.rest) h

theorem radio_of_view : t.radio = s.radio := congrArg (fun w => w.rest.radio) h

theorem pool_of_view : t.pool = s.pool := congrArg (fun w => w.rest.pool) h

theorem direction_of_view (c : Fin 64) (d : Dir) : v c d (direction c d t) = v c d (direction c d s) :=
  congrFun (congrFun (congrArg View.directions h) c) d

theorem channel_of_view (c : Fin 64) :
    { chan c t with dl := Direction.reset, ul := Direction.reset } = { chan c s with dl := Direction.reset, ul := Direction.reset } :=
  congrFun (congrArg View.channels h) c

end

theorem state_of_view {s t : State} (h : view v t = view v s) (c : Fin 64) : (chan c t).state = (chan c s).state :=
  congrArg (fun w => (w.channels c).state) h

theorem defn_of_view {s t : State} (h : view v t = view v s) (c : Fin 64) : (chan c t).defn = (chan c s).defn :=
  congrArg (fun w => (w.channels c).defn) h

/-- A channel whose directions a view tells. -/
theorem chan_of_view {s t : State} {c : Fin 64} (h : view v t = view v s) (hd : ∀ d, direction c d t = direction c d s) : chan c t = chan c s := by
  have hc := channel_of_view h c
  have hdl : (chan c t).dl = (chan c s).dl := hd .dl
  have hul : (chan c t).ul = (chan c s).ul := hd .ul
  generalize chan c t = a at hc hdl hul ⊢
  generalize chan c s = b at hc hdl hul ⊢
  cases a
  cases b
  simp_all

end

/-! ## Readings -/

/-- All directions but one. -/
def butOne (c : Fin 64) (d : Dir) (c' : Fin 64) (d' : Dir) (x : Direction) : Option Direction := if (c', d') = (c, d) then none else some x

theorem butOne_same (c : Fin 64) (d : Dir) (x y : Direction) : butOne c d c d x = butOne c d c d y := by
  simp [butOne]

/-- What leaves all directions but one leaves the other channels. -/
theorem chan_of_butOne {c c' : Fin 64} {d : Dir} {s t : State} (h : view (butOne c d) t = view (butOne c d) s) (hc : c' ≠ c) : chan c' t = chan c' s := by
  refine chan_of_view h (fun d' => ?_)
  have hn : (c', d') ≠ (c, d) := fun e => hc (Prod.mk.inj e).1
  have := direction_of_view h c' d'
  rw [butOne, butOne, if_neg hn, if_neg hn] at this
  exact Option.some.inj this

end Sys2Proof.Proofs
end

/-! # Cancellation, the stability margin and the release of protection -/
section
namespace Sys2Proof.Proofs

open Sys2Proof Sys2Proof.Machine Sys2Proof.Safety Sys2Proof.Laws

/-! ## What a new plan of a direction's engines changes -/

/-- Two states that differ in the pool of engines and the host interface alone. -/
def Repooled (s t : State) : Prop := ∃ x y, t = { s with hif := x, eng := y }

theorem repooled_hif (s : State) (x : HostIf) : Repooled s { s with hif := x } := ⟨x, s.eng, rfl⟩

theorem repooled_eng (s : State) (y : EnginePool) : Repooled s { s with eng := y } := ⟨s.hif, y, rfl⟩

theorem Repooled.trans {s t u : State} (h : Repooled s t) (h' : Repooled t u) : Repooled s u := by
  obtain ⟨_, _, rfl⟩ := h
  obtain ⟨x, y, rfl⟩ := h'
  exact ⟨x, y, rfl⟩

theorem repooled_foldl {α : Type} {f : State → α → State} (h : ∀ s a, Repooled s (f s a)) (l : List α) (s : State) : Repooled s (l.foldl f s) :=
  List.foldlRecOn (motive := Repooled s) l f (repooled_hif s s.hif) (fun t ht a _ => ht.trans (h t a))

theorem repooled_refreshEngines (s : State) : Repooled s (refreshEngines s) := by
  simp only [refreshEngines]
  exact repooled_eng s _

theorem repooled_dropMigrations (p : Migration → Bool) (s : State) : Repooled s (dropMigrations p s) := by
  have hm (t : State) (m : Migration) (l : List (Segment × Fin 256)) : Repooled t (l.foldl (fun s v =>
      modEngine v.2 (fun e => if e.state = .shadow ∨ e.state = .testing then
        { e with state := if m.wasSpare.contains v.2 then .spare else .idle } else e) s) t) :=
    repooled_foldl (fun _ _ => repooled_eng _ _) _ _
  have hg := repooled_foldl (fun t m => hm t m m.moves) (s.eng.migrations.filter p)
    { s with eng := { s.eng with migrations := s.eng.migrations.filter (fun m => !p m) } }
  exact (Repooled.trans (repooled_eng s _) hg).trans (repooled_refreshEngines _)

theorem repooled_endMigrate (m : Migration) (detail : Nat) (s : State) : Repooled s (endMigrate m detail s) := by
  unfold endMigrate
  split
  · exact repooled_hif _ _
  · exact repooled_hif s s.hif

theorem repooled_supersede (a : Fin 256) (detail : Nat) (s : State) : Repooled s (supersede a detail s) :=
  (repooled_dropMigrations _ s).trans (repooled_foldl (fun t m => repooled_endMigrate m detail t) _ _)

theorem repooled_buildPlan (a : Fin 256) (cls latency : Nat) (mask : BitVec 16) (p : Plan) (s : State) : Repooled s (buildPlan a cls latency mask p s) :=
  (repooled_eng s _).trans (repooled_refreshEngines _)

theorem repooled_planTaps {c : Fin 64} {d : Dir} {taps bulk : Nat → Nat} {s : State} : Repooled s (planApplied (planTaps c d taps bulk s) s) := by
  simp only [planTaps]
  generalize planDirection _ _ _ _ _ _ _ _ _ = q
  cases q with
  | error n => exact repooled_hif s s.hif
  | ok p =>
    simp only [planApplied]
    split
    · exact repooled_buildPlan _ _ _ _ _ _
    · exact (repooled_supersede _ _ _).trans (repooled_buildPlan _ _ _ _ _ _)

/-! ## Commands that ask for an epoch -/

/-- CANCEL_CONFIGURE asks for its parameters once the engines are planned anew. -/
theorem effectCancelConfigure_request (r : Running) (s : State) : ∃ x y l res, effectCancelConfigure r s = (awaitEpochs r l false res,
    requestChange (chanOf (par r.desc 0 1)) (dirOf (par r.desc 1 1)) .config
      [.cancelParams (BitVec.ofNat 16 (par r.desc 2 2)) (cancelParamsOf r.desc)] (effOf r.desc) { s with hif := x, eng := y }) := by
  obtain ⟨x, y, h⟩ : Repooled s (planApplied (planTaps (chanOf (par r.desc 0 1)) (dirOf (par r.desc 1 1)) (newTapCounts r.desc s)
    (newBulkDelays r.desc s) s) s) := repooled_planTaps
  exact ⟨x, y, _, _, Prod.ext rfl (congrArg (requestChange _ _ _ _ _) h)⟩

section
variable {d : Desc} {s : State} {c : Fin 64} {e : Dir} (hc : par d 0 1 = c.val) (he : dirOf (par d 1 1) = e)
include hc he

theorem starts_cancelConfigure : Starts 0x0200 checkCancelConfigure (.cancelConfigure d) d s .epochs (fun t =>
    Queued c e .config [.cancelParams (BitVec.ofNat 16 (par d 2 2)) (cancelParamsOf (coded 0x0200 d))] s t) := by
  obtain rfl := chanOf_val hc
  subst he
  refine starts_of_effect effectCancelConfigure rfl (fun _ => rfl) (fun x _ => ?_)
  obtain ⟨u, y, l, res, h⟩ := effectCancelConfigure_request (starting 0x0200 d s) { s with hif := x }
  rw [h]
  exact ⟨⟨_, rfl, rfl, rfl, rfl⟩, rfl, rfl, fun _ => queued_requestChange _ _ _ _ _ { s with hif := u, eng := y }⟩

theorem starts_cancelReset : Starts 0x0201 checkCancelReset (.cancelReset d) d s .epochs (fun t =>
    Queued c e .config [.cancelReset (BitVec.ofNat 16 (par d 2 2))] s t ∧ (direction c e t).paths = (direction c e s).paths ∧
    t = { Kept s t with chans := t.chans, tickets := s.tickets + 1 }) := by
  obtain rfl := chanOf_val hc
  subst he
  exact starts_of_effect effectCancelReset rfl (fun _ => rfl) (fun x _ => ⟨⟨_, rfl, rfl, rfl, rfl⟩, rfl, rfl, fun _ =>
    ⟨queued_requestChange _ _ _ _ _ { s with hif := x }, paths_requestChange _ _ _ _ _ { s with hif := x }, rfl⟩⟩)

theorem starts_probeConfigure : Starts 0x0220 checkProbeConfigure (.probeConfigure d) d s .epochs (fun t =>
    Queued c e .config [.probe { levelMin := parInt d 2 2, levelMax := parInt d 4 2, w := par d 6 1 }] s t ∧
    t = { Kept s t with chans := t.chans, tickets := s.tickets + 1 }) := by
  obtain rfl := chanOf_val hc
  subst he
  exact starts_of_effect effectProbeConfigure rfl (fun _ => rfl) (fun x _ => ⟨⟨_, rfl, rfl, rfl, rfl⟩, rfl, rfl, fun _ =>
    ⟨queued_requestChange _ _ _ _ _ { s with hif := x }, rfl⟩⟩)

end

/-- MARGIN_SET asks for its margin, no lower than House Rules ask; a clamp leaves its record. -/
theorem effectMarginSet_request (r : Running) (s : State) : ∃ x y l clamped res, effectMarginSet r s = (awaitEpochs r l clamped res,
    requestChange (chanOf (par r.desc 0 1)) (dirOf (par r.desc 1 1)) .gain
      [.margin { marginWanted r.desc (pendingMargin (direction (chanOf (par r.desc 0 1)) (dirOf (par r.desc 1 1)) s)) with
        mReq := max (marginWanted r.desc (pendingMargin (direction (chanOf (par r.desc 0 1)) (dirOf (par r.desc 1 1)) s))).mReq s.hr.rules.mHr }]
      (effOf r.desc) { s with hif := x, gb := y }) := by
  obtain ⟨x, y, h⟩ := clamped_records _ _ _ _ _ _ _ _ _ s
  exact ⟨x, y, _, _, _, Prod.ext rfl (congrArg (requestChange _ _ _ _ _) h)⟩

theorem starts_marginSet {d : Desc} {s : State} {c : Fin 64} {e : Dir} (hc : par d 0 1 = c.val) (he : dirOf (par d 1 1) = e) :
    Starts 0x0212 checkMarginSet (.marginSet d) d s .epochs (fun t => (direction c e t).stab = (direction c e s).stab ∧ ∃ p : StabParams,
      Queued c e .gain [.margin p] s t ∧ s.hr.rules.mHr ≤ p.mReq ∧ p.mReq = max (marginWanted d (pendingMargin (direction c e s))).mReq s.hr.rules.mHr ∧
        p.backoff = (marginWanted d (pendingMargin (direction c e s))).backoff) := by
  obtain rfl := chanOf_val hc
  subst he
  refine starts_of_effect effectMarginSet rfl (fun _ => rfl) (fun x _ => ?_)
  obtain ⟨u, y, l, clamped, res, h⟩ := effectMarginSet_request (starting 0x0212 d s) { s with hif := x }
  rw [h]
  exact ⟨⟨_, rfl, rfl, rfl, rfl⟩, rfl, rfl, fun _ => ⟨stab_requestChange _ _ _ _ _ { s with hif := u, gb := y }, _,
    queued_requestChange _ _ _ _ _ { s with hif := u, gb := y }, le_max_right _ _, rfl, rfl⟩⟩

/-! ## ISOLATION_MEASURE -/

theorem stab_setStability (c : Fin 64) (d : Dir) (m : Stability) (s : State) : (direction c d (setStability c d m s)).stab = m := by
  have hv : view (fun _ _ x => x.stab) (setStability c d m s) = view (fun _ _ x => x.stab) (modStab c d (fun _ => m) s) := by
    simp only [setStability, view_ite, view_postEvent, view_tellSplit, ite_self]
  refine (direction_of_view hv c d).trans ?_
  rw [modStab, direction_modDir_same]

/-- A start-up measurement mutes its direction. -/
theorem stab_startMeasurement (c : Fin 64) (d : Dir) (pilot : Int) (searchMax : Nat) (ringOf : Option (Fin 22)) (s : State) :
    (direction c d (startMeasurement c d pilot searchMax ringOf s)).stab.state = .muted ∧
      (direction c d (startMeasurement c d pilot searchMax ringOf s)).stab.measuring =
        some { openLoop := true, searching := true, pilot := pilot, searchMax := searchMax, start := (direction c d s).ordinal, ring := ringOf } := by
  have ho : (direction c d (modDir c d (fun x => x.mapPaths (fun _ p => { p.freshWindow with search := DelaySearch.reset })) s)).ordinal =
      (direction c d s).ordinal := by
    rw [direction_modDir_same]
    rfl
  simp only [startMeasurement, ho]
  split
  · next h => simp only [stab_setStability, h, and_self]
  · simp only [stab_setStability, and_self]

theorem view_startMeasurement {β : Type} {v : Fin 64 → Dir → Direction → β} {c : Fin 64} {d : Dir} (hs : ∀ x m, v c d { x with stab := m } = v c d x)
    (hp : ∀ x f, v c d (Direction.mapPaths x f) = v c d x) (pilot : Int) (searchMax : Nat) (ringOf : Option (Fin 22)) (s : State) :
    view v (startMeasurement c d pilot searchMax ringOf s) = view v s := by
  simp only [startMeasurement, view_ite, view_setStability hs, ite_self]
  exact view_modDir (hp _ _)

section
variable {d : Desc} {s : State} {c : Fin 64} {e : Dir} (hc : par d 0 1 = c.val) (he : dirOf (par d 1 1) = e)
include hc he

theorem starts_isolationMeasure_open (h0 : par d 2 1 = 0) : Starts 0x0210 checkIsolationMeasure (.isolationMeasure d) d s .hardware (fun t =>
    (direction c e t).stab.state = .muted ∧
    (direction c e t).stab.measuring = some { openLoop := true, searching := true, pilot := if par d 4 2 = 0 then -3000 else parInt d 4 2,
                                              searchMax := if par d 6 2 = 0 then 255 else par d 6 2, start := (direction c e s).ordinal, ring := some d.ring }) := by
  obtain rfl := chanOf_val hc
  subst he
  refine starts_of_effect beginIsolationMeasure rfl (fun _ => rfl) (fun x _ => ?_)
  have hd : beginIsolationMeasure (starting 0x0210 d s) { s with hif := x } = (awaitHardware (starting 0x0210 d s) 1 [],
      startMeasurement (chanOf (par d 0 1)) (dirOf (par d 1 1)) (if par d 4 2 = 0 then -3000 else parInt d 4 2) (if par d 6 2 = 0 then 255 else par d 6 2)
        (some d.ring) { s with hif := x }) := if_pos h0
  have hv := view_startMeasurement (v := fun _ _ _ => ()) (c := chanOf (par d 0 1)) (d := dirOf (par d 1 1)) (fun _ _ => rfl)
    (fun _ _ => rfl) (if par d 4 2 = 0 then -3000 else parInt d 4 2) (if par d 6 2 = 0 then 255 else par d 6 2) (some d.ring) { s with hif := x }
  rw [hd]
  exact ⟨⟨_, rfl, rfl, rfl, rfl⟩, slowTicks_of_view hv, twin_of_view hv, fun _ => stab_startMeasurement _ _ _ _ _ { s with hif := x }⟩

theorem starts_isolationMeasure_inService (h0 : par d 2 1 ≠ 0) : Starts 0x0210 checkIsolationMeasure (.isolationMeasure d) d s .hardware (fun t =>
    (direction c e t).stab.state = (direction c e s).stab.state ∧ (∃ m, (direction c e t).stab.measuring = some m ∧ m.openLoop = false ∧
      m.ring = some d.ring) ∧ t = { Kept s t with chans := t.chans }) := by
  obtain rfl := chanOf_val hc
  subst he
  refine starts_of_effect beginIsolationMeasure rfl (fun _ => rfl) (fun x _ => ?_)
  have hd : ∃ v : Measurement, v.openLoop = false ∧ v.ring = some d.ring ∧ beginIsolationMeasure (starting 0x0210 d s) { s with hif := x } =
      (awaitHardware (starting 0x0210 d s) 1 [],
        modStab (chanOf (par d 0 1)) (dirOf (par d 1 1)) (fun m => { m with measuring := some v }) { s with hif := x }) :=
    ⟨_, rfl, rfl, if_neg h0⟩
  obtain ⟨v, ho, hr, hd⟩ := hd
  have hm := direction_modDir_same (chanOf (par d 0 1)) (dirOf (par d 1 1)) (fun y => { y with stab := { y.stab with measuring := some v } })
    { s with hif := x }
  rw [hd]
  exact ⟨⟨_, rfl, rfl, rfl, rfl⟩, rfl, rfl, fun _ =>
    ⟨congrArg (fun y => y.stab.state) hm, ⟨v, congrArg (fun y => y.stab.measuring) hm, ho, hr⟩, rfl⟩⟩

end

/-! ## Reasons taken away -/

theorem hasReason_cutReason_same (m : BitVec 20) (k : Nat) : hasReason (cutReason m k) k = false := by
  simp only [hasReason, cutReason, BitVec.getLsbD_and, BitVec.getLsbD_not, BitVec.getLsbD_ofNat, Nat.testBit_two_pow_self]
  by_cases h : k - 1 < 20 <;> simp [h]

theorem hasReason_cutReason_of_not {m : BitVec 20} {k : Nat} (j : Nat) (h : hasReason m k = false) : hasReason (cutReason m j) k = false := by
  simp only [hasReason, cutReason, BitVec.getLsbD_and] at h ⊢
  rw [h, Bool.false_and]

theorem reasons_dropMute (c : Fin 64) (d : Dir) (k : Nat) (i : ProtInfo) (s : State) : (direction c d (dropMute c d k i s)).gain.reasons =
    if hasReason (direction c d s).gain.reasons k then cutReason (direction c d s).gain.reasons k else (direction c d s).gain.reasons := by
  cases h : hasReason (direction c d s).gain.reasons k with
  | false => simp only [dropMute, h, Bool.not_false, if_true, Bool.false_eq_true, if_false]
  | true =>
    have hv : view (fun _ _ x => x.gain.reasons) (dropMute c d k i s) =
        view (fun _ _ x => x.gain.reasons) (modGain c d (fun g => { g with reasons := cutReason g.reasons k }) s) := by
      simp only [dropMute, h, Bool.not_true, Bool.false_eq_true, if_false]
      rw [view_freezeFrom (fun _ _ => rfl), view_dirRecord]
    refine (direction_of_view hv c d).trans ?_
    rw [modGain, direction_modDir_same, if_pos rfl]

theorem dropMute_drops (c : Fin 64) (d : Dir) (k : Nat) (i : ProtInfo) (s : State) :
    hasReason (direction c d (dropMute c d k i s)).gain.reasons k = false := by
  rw [reasons_dropMute]
  split
  · exact hasReason_cutReason_same _ _
  · next h => exact Bool.not_eq_true _ ▸ h

theorem dropMute_without {c : Fin 64} {d : Dir} {k : Nat} (j : Nat) (i : ProtInfo) {s : State} (h : hasReason (direction c d s).gain.reasons k = false) :
    hasReason (direction c d (dropMute c d j i s)).gain.reasons k = false := by
  rw [reasons_dropMute]
  split
  · exact hasReason_cutReason_of_not j h
  · exact h

/-! ## PROTECTION_RELEASE of a direction -/

/-- The plausibility check of the ALC anew. -/
def plausibleAnew (g : GainState) : GainState := { g with alcFrozen := false, implausibleTicks := 0, plausBad := 0, plausGood := 0 }

/-- Reasons that end on a direction, with what their sources held and the plausibility check anew. -/
def releaseDir (c : Fin 64) (d : Dir) (named : List Nat) (s : State) : State :=
  let s := named.foldl (fun s k => dropMute c d k {} s) s
  let s := if named.contains reasonFault then dropHeld (BitVec.ofNat 16 (dirObject c d)) true s else s
  if named.contains reasonImplausible then
    modGain c d plausibleAnew s else s

theorem view_dropHeld {β : Type} {v : Fin 64 → Dir → Direction → β} (obj : Half) (mute : Bool) (s : State) :
    view v (dropHeld obj mute s) = view v s := rfl

theorem view_releaseDir (c : Fin 64) (d : Dir) (named : List Nat) (s : State) : view (butOne c d) (releaseDir c d named s) = view (butOne c d) s := by
  have hf : view (butOne c d) (named.foldl (fun s k => dropMute c d k {} s) s) = view (butOne c d) s :=
    view_foldl _ _ _ (fun t k => view_dropMute (fun _ _ => butOne_same _ _ _ _) t (fun _ _ => butOne_same _ _ _ _) k {})
  have hg (t : State) : view (butOne c d) (modGain c d plausibleAnew t) = view (butOne c d) t := view_modDir (butOne_same _ _ _ _)
  simp only [releaseDir, view_ite, hg, view_dropHeld, hf, ite_self]

theorem releaseDir_drops {c : Fin 64} {d : Dir} {named : List Nat} {k : Nat} (h : k ∈ named) (s : State) :
    hasReason (direction c d (releaseDir c d named s)).gain.reasons k = false := by
  have hf : hasReason (direction c d (named.foldl (fun s k => dropMute c d k {} s) s)).gain.reasons k = false :=
    foldl_reaches (fun t => hasReason (direction c d t).gain.reasons k = false) h (fun t => dropMute_drops c d k {} t)
      (fun _ j ht => dropMute_without j {} ht)
  have hv : view (fun _ _ x => x.gain.reasons) (releaseDir c d named s) =
      view (fun _ _ x => x.gain.reasons) (named.foldl (fun s k => dropMute c d k {} s) s) := by
    have hg (t : State) : view (fun _ _ x => x.gain.reasons) (modGain c d plausibleAnew t) = view (fun _ _ x => x.gain.reasons) t := view_modDir rfl
    simp only [releaseDir, view_ite, hg, view_dropHeld, ite_self]
  exact (congrArg (fun m => hasReason m k) (direction_of_view hv c d)).trans hf

theorem beginProtectionRelease_dir {r : Running} {s : State} (h0 : par r.desc 0 1 = 0) (hl : lockoutNamed r.desc s = false) :
    beginProtectionRelease r s = (awaitState r 1 [], releaseDir (chanOf (par r.desc 1 1)) (dirOf (par r.desc 2 1)) (namedInForce r.desc s) s) := by
  simp only [beginProtectionRelease, h0, if_true, hl, Bool.false_eq_true, if_false, releaseDir]
  rfl

theorem starts_protectionRelease_dir {d : Desc} {s : State} {k : Nat} (hk : k ∈ namedInForce (coded 0x0311 d) s) (h0 : par d 0 1 = 0)
    (hl : lockoutNamed (coded 0x0311 d) s = false) : Starts 0x0311 checkProtectionRelease (.protectionRelease d) d s .state (fun t =>
      hasReason (direction (chanOf (par d 1 1)) (dirOf (par d 2 1)) t).gain.reasons k = false ∧ t.ports = s.ports ∧
      ∀ c, c ≠ chanOf (par d 1 1) → chan c t = chan c s) := by
  refine starts_of_effect beginProtectionRelease rfl (fun _ => rfl) (fun x _ => ?_)
  have hd : beginProtectionRelease (starting 0x0311 d s) { s with hif := x } = (awaitState (starting 0x0311 d s) 1 [],
      releaseDir (chanOf (par d 1 1)) (dirOf (par d 2 1)) (namedInForce (coded 0x0311 d) s) { s with hif := x }) := beginProtectionRelease_dir h0 hl
  rw [hd]
  have hv := view_releaseDir (chanOf (par d 1 1)) (dirOf (par d 2 1)) (namedInForce (coded 0x0311 d) s) { s with hif := x }
  exact ⟨⟨_, rfl, rfl, rfl, rfl⟩, slowTicks_of_view hv, twin_of_view hv, fun _ =>
    ⟨releaseDir_drops hk { s with hif := x }, (ports_of_view hv :), fun _ hc => (chan_of_butOne hv hc :)⟩⟩

/-! ## PROTECTION_RELEASE of a port -/

theorem port_modPort_same (p : Fin 8) (f : PortState → PortState) (s : State) : port p (modPort p f s) = f (port p s) := by
  simp [port, modPort]

theorem port_modPort_ne {p q : Fin 8} (f : PortState → PortState) (s : State) (h : q ≠ p) : port q (modPort p f s) = port q s := by
  have : p.val ≠ q.val := fun e => h (Fin.ext e.symm)
  simp [port, modPort, this]

/-- The port's own stop ends; what follows on the directions leaves the ports, time and the pair alone. -/
theorem view_releasePort {p : Fin 8} {k : Nat} (i : ProtInfo) {s : State} (h : hasReason (port p s).stops k = true) :
    ∃ f : PortState → PortState, (∀ x, (f x).stops = cutReason x.stops k) ∧
      view (fun _ _ _ => ()) (releasePort p k i s) = view (fun _ _ _ => ()) (modPort p f s) := by
  simp only [releasePort, h, Bool.not_true, Bool.false_eq_true, if_false]
  rw [view_refreshPortStops (fun _ _ _ _ => rfl) (fun _ _ _ _ => rfl) (fun _ _ _ _ _ => rfl) _ (fun _ _ _ _ => rfl), view_portRecord]
  exact ⟨_, fun _ => rfl, rfl⟩

theorem stops_releasePort {p : Fin 8} {k : Nat} (i : ProtInfo) {s : State} (h : hasReason (port p s).stops k = true) :
    (port p (releasePort p k i s)).stops = cutReason (port p s).stops k := by
  obtain ⟨f, hf, hv⟩ := view_releasePort i h
  rw [port_of_view hv, port_modPort_same, hf]

theorem releasePort_absent {p : Fin 8} {k : Nat} (i : ProtInfo) {s : State} (h : hasReason (port p s).stops k = false) : releasePort p k i s = s := by
  simp only [releasePort, h, Bool.not_false, if_true]

theorem releasePort_outside (p : Fin 8) (k : Nat) (i : ProtInfo) (s : State) : (releasePort p k i s).slowTicks = s.slowTicks ∧
    (releasePort p k i s).twin = s.twin ∧ ∀ q, q ≠ p → port q (releasePort p k i s) = port q s := by
  cases h : hasReason (port p s).stops k with
  | false => rw [releasePort_absent i h]; exact ⟨rfl, rfl, fun _ _ => rfl⟩
  | true =>
    obtain ⟨f, _, hv⟩ := view_releasePort i h
    exact ⟨(slowTicks_of_view hv).trans rfl, (twin_of_view hv).trans rfl, fun q hq => (port_of_view hv q).trans (port_modPort_ne f s hq)⟩

theorem releasePort_drops (p : Fin 8) (k : Nat) (i : ProtInfo) (s : State) : hasReason (port p (releasePort p k i s)).stops k = false := by
  cases h : hasReason (port p s).stops k with
  | false => rw [releasePort_absent i h, h]
  | true =>
    rw [stops_releasePort i h]
    exact hasReason_cutReason_same _ _

theorem releasePort_without {p : Fin 8} {k : Nat} (j : Nat) (i : ProtInfo) {s : State} (hk : hasReason (port p s).stops k = false) :
    hasReason (port p (releasePort p j i s)).stops k = false := by
  cases h : hasReason (port p s).stops j with
  | false => rw [releasePort_absent i h, hk]
  | true =>
    rw [stops_releasePort i h]
    exact hasReason_cutReason_of_not j hk

/-- The stops that end on a port, one after the other. -/
def releaseStops (p : Fin 8) (named : List Nat) (s : State) : State := named.foldl (fun s k => releasePort p k {} s) s

theorem releaseStops_outside (p : Fin 8) (named : List Nat) (s : State) : (releaseStops p named s).slowTicks = s.slowTicks ∧
    (releaseStops p named s).twin = s.twin ∧ ∀ q, q ≠ p → port q (releaseStops p named s) = port q s := by
  refine List.foldlRecOn (motive := fun (t : State) => t.slowTicks = s.slowTicks ∧ t.twin = s.twin ∧ ∀ q, q ≠ p → port q t = port q s) _ _
    ⟨rfl, rfl, fun _ _ => rfl⟩ (fun t ht k _ => ?_)
  obtain ⟨h1, h2, h3⟩ := releasePort_outside p k {} t
  exact ⟨h1.trans ht.1, h2.trans ht.2.1, fun q hq => (h3 q hq).trans (ht.2.2 q hq)⟩

theorem releaseStops_drops {p : Fin 8} {named : List Nat} {k : Nat} (h : k ∈ named) (s : State) :
    hasReason (port p (releaseStops p named s)).stops k = false :=
  foldl_reaches (fun t => hasReason (port p t).stops k = false) h (fun t => releasePort_drops p k {} t) (fun _ j ht => releasePort_without j {} ht)

theorem beginProtectionRelease_port {r : Running} {s : State} (h0 : par r.desc 0 1 ≠ 0) : ∃ f, beginProtectionRelease r s = (awaitState r 1 [],
    { releaseStops (Fin.ofNat 8 (par r.desc 1 1)) (namedInForce r.desc s) s with faults := f }) := by
  simp only [beginProtectionRelease, h0, if_false, releaseStops]
  split
  · exact ⟨_, rfl⟩
  · exact ⟨_, rfl⟩

theorem starts_protectionRelease_port {d : Desc} {s : State} {k : Nat} (hk : k ∈ namedInForce (coded 0x0311 d) s) (h0 : par d 0 1 ≠ 0) :
    Starts 0x0311 checkProtectionRelease (.protectionRelease d) d s .state (fun t =>
      hasReason (port (Fin.ofNat 8 (par d 1 1)) t).stops k = false ∧ ∀ p, p ≠ Fin.ofNat 8 (par d 1 1) → port p t = port p s) := by
  refine starts_of_effect beginProtectionRelease rfl (fun _ => rfl) (fun x _ => ?_)
  obtain ⟨f, hd⟩ := beginProtectionRelease_port (r := starting 0x0311 d s) (s := { s with hif := x }) h0
  obtain ⟨h1, h2, h3⟩ := releaseStops_outside (Fin.ofNat 8 (par d 1 1)) (namedInForce (coded 0x0311 d) s) { s with hif := x }
  rw [hd]
  exact ⟨⟨_, rfl, rfl, rfl, rfl⟩, h1, h2, fun _ => ⟨releaseStops_drops hk { s with hif := x }, h3⟩⟩

/-- Settles O32: requests in the direction's lines, a measurement in its stability machine, and reasons cut one by one. -/
theorem cancellationCommands : Obligations.CancellationCommands :=
  ⟨fun _ _ _ _ hc he => ⟨starts_cancelConfigure hc he, starts_cancelReset hc he, starts_probeConfigure hc he, starts_marginSet hc he,
    starts_isolationMeasure_open hc he, starts_isolationMeasure_inService hc he⟩,
   fun _ _ _ hk => ⟨starts_protectionRelease_dir hk, starts_protectionRelease_port hk⟩⟩

end Sys2Proof.Proofs
end

/-! # Channels -/
section
namespace Sys2Proof.Proofs

open Sys2Proof Sys2Proof.Machine Sys2Proof.Safety Sys2Proof.Laws

/-! ## One request in each direction of a list -/

/-- A change asked of every direction of a list. -/
def requestAll (l : List (Fin 64 × Dir)) (k : EpochKind) (sets : Fin 64 × Dir → List Setting) (eff : Option Word) (s : State) : State :=
  l.foldl (fun s u => requestChange u.1 u.2 k (sets u) eff s) s

section
variable {l : List (Fin 64 × Dir)} (k : EpochKind) (sets : Fin 64 × Dir → List Setting) (eff : Option Word) (s : State)

/-- Requests change lines and the count of tickets alone. -/
theorem requestAll_lines : ∃ v n, requestAll l k sets eff s = { s with chans := v, tickets := n } := by
  refine List.foldlRecOn (motive := fun t => ∃ v n, t = ({ s with chans := v, tickets := n } : State)) l _
    ⟨s.chans, s.tickets, rfl⟩ (fun t ht u _ => ?_)
  obtain ⟨v, n, rfl⟩ := ht
  exact ⟨_, _, requestChange_lines _ _ _ _ _ _⟩

theorem slowTicks_requestAll : (requestAll l k sets eff s).slowTicks = s.slowTicks := by
  obtain ⟨v, n, h⟩ := requestAll_lines (l := l) k sets eff s
  rw [h]

theorem twin_requestAll : (requestAll l k sets eff s).twin = s.twin := by
  obtain ⟨v, n, h⟩ := requestAll_lines (l := l) k sets eff s
  rw [h]

theorem on_requestAll (b : Aside) : b.on (requestAll l k sets eff s) =
    { Kept s (b.on (requestAll l k sets eff s)) with chans := (b.on (requestAll l k sets eff s)).chans,
                                                     tickets := (b.on (requestAll l k sets eff s)).tickets } := by
  obtain ⟨v, n, h⟩ := requestAll_lines (l := l) k sets eff s
  rw [h]
  rfl

theorem defn_requestAll (c : Fin 64) : (chan c (requestAll l k sets eff s)).defn = (chan c s).defn :=
  List.foldlRecOn (motive := fun t => (chan c t).defn = (chan c s).defn) l _ rfl (fun t ht _ _ => (defn_requestChange _ _ _ _ _ t c).trans ht)

theorem chan_requestAll_ne {c : Fin 64} (h : ∀ u ∈ l, u.1 ≠ c) : chan c (requestAll l k sets eff s) = chan c s :=
  List.foldlRecOn (motive := fun t => chan c t = chan c s) l _ rfl
    (fun t ht u hu => (chan_requestChange_ne _ _ _ _ _ t (h u hu).symm).trans ht)

/-- Each direction of the list takes its change behind what waited. -/
theorem queued_requestAll (hn : l.Nodup) {c : Fin 64} {d : Dir} (h : (c, d) ∈ l) : Queued c d k (sets (c, d)) s (requestAll l k sets eff s) := by
  refine foldl_meets (fun t => direction c d t = direction c d s) (Queued c d k (sets (c, d)) s) hn h rfl (fun t u hu ht => ?_) (fun t ht => ?_)
    (fun t u hu ht => ?_)
  · exact (direction_requestChange_ne _ _ _ _ _ t hu.symm).trans ht
  · obtain ⟨g, hg, hs⟩ := queued_requestChange c d k (sets (c, d)) eff t
    exact ⟨g, ht ▸ hg, hs⟩
  · obtain ⟨g, hg, hs⟩ := ht
    exact ⟨g, (congrArg (fun x : Direction => (x.line k).waiting) (direction_requestChange_ne u.1 u.2 k (sets u) eff t hu.symm)).trans hg, hs⟩

end

/-- The directions of one channel, asked one after the other. -/
theorem foldl_dirs_requestAll (dirs : List Dir) (c : Fin 64) (k : EpochKind) (sets : Dir → List Setting) (eff : Option Word) (s : State) :
    dirs.foldl (fun s d => requestChange c d k (sets d) eff s) s = requestAll (dirs.map (c, ·)) k (fun u => sets u.2) eff s := by
  rw [requestAll, List.foldl_map]

theorem nodup_dirs {dirs : List Dir} (h : dirs.Nodup) (c : Fin 64) : (dirs.map (c, ·)).Nodup := h.map (fun _ _ e => (Prod.mk.inj e).2)

theorem mem_dirs {dirs : List Dir} {d : Dir} (h : d ∈ dirs) (c : Fin 64) : (c, d) ∈ dirs.map (c, ·) := List.mem_map_of_mem h

theorem chan_of_mem_dirs {dirs : List Dir} {c c' : Fin 64} (h : c' ≠ c) : ∀ u ∈ dirs.map (c, ·), u.1 ≠ c' := by
  rintro u hu rfl
  obtain ⟨d, _, rfl⟩ := List.mem_map.mp hu
  exact h rfl

/-! ## CHANNEL_CREATE on this device -/

theorem repooled_buildChannel (c : Fin 64) (v : ChanDef) (s : State) : Repooled s (buildChannel c v s) :=
  repooled_foldl (fun s _ => (repooled_eng s _).trans (repooled_buildPlan _ _ _ _ _ _)) _ s

/-- A channel made: ACTIVE with its definition, its slots taken, its directions at the gain House Rules allow; what follows on mutes and holds leaves that. -/
theorem view_makeChannel (c : Fin 64) (v : ChanDef) (s : State) : ∃ x y ch, ch.state = .active ∧ ch.defn = v ∧
    (∀ e, v.enables e = true → (ch.dir e).gain.gt = initialGain v e s) ∧
    view (fun _ _ z => z.gain.gt) (makeChannel c v s) = view (fun _ _ z => z.gain.gt)
      { modChan c (fun _ => ch) { s with hif := x, eng := y } with pool := { s.pool with freeSlots := s.pool.freeSlots - definitionSlots v s } } := by
  obtain ⟨x, y, hb⟩ := repooled_buildChannel c v s
  simp only [makeChannel, hb]
  rw [view_refreshHolds (fun _ _ _ _ => rfl) (fun _ _ _ _ => rfl) (fun _ _ _ _ _ => rfl),
    view_refreshPortStops (fun _ _ _ _ => rfl) (fun _ _ _ _ => rfl) (fun _ _ _ _ _ => rfl) _ (fun _ _ _ _ => rfl)]
  refine ⟨x, y, _, ?_, ?_, ?_, rfl⟩
  · rfl
  · rfl
  · rintro (_ | _) he
    · simp only [he, if_true]; rfl
    · simp only [he, if_true]; rfl

/-- What CHANNEL_CREATE brings about on a channel and in the pool of slots. -/
def Made (c : Fin 64) (v : ChanDef) (s t : State) : Prop :=
  (chan c t).state = .active ∧ (chan c t).defn = v ∧ t.pool.freeSlots = s.pool.freeSlots - definitionSlots v s ∧
    ∀ e, v.enables e = true → (direction c e t).gain.gt = initialGain v e s

theorem Made.of_records {c : Fin 64} {v : ChanDef} {s t : State} {x : HostIf} {y : Guestbook} (h : Made c v { s with hif := x, gb := y } t) : Made c v s t := h

theorem made_makeChannel (c : Fin 64) (v : ChanDef) (s : State) : Made c v s (makeChannel c v s) ∧ (makeChannel c v s).slowTicks = s.slowTicks ∧
    (makeChannel c v s).twin = s.twin := by
  obtain ⟨x, y, ch, hst, hdf, hgt, hv⟩ := view_makeChannel c v s
  have hch := chan_modChan_same c (fun _ => ch) { s with hif := x, eng := y }
  refine ⟨⟨?_, ?_, congrArg Pool.freeSlots (pool_of_view hv :), fun e he => ?_⟩, (slowTicks_of_view hv :), (twin_of_view hv :)⟩
  · exact (state_of_view hv c).trans ((congrArg Channel.state hch).trans hst)
  · exact (defn_of_view hv c).trans ((congrArg Channel.defn hch).trans hdf)
  · exact (direction_of_view hv c e).trans ((congrArg (fun z : Channel => (z.dir e).gain.gt) hch).trans (hgt e he))

/-- The gate's records of a definition. -/
theorem gateInitialGain_records (w op n : Nat) (v : ChanDef) (s : State) : ∃ x y, gateInitialGain w op n v s = { s with hif := x, gb := y } := by
  refine List.foldlRecOn (motive := fun t => ∃ x y, t = { s with hif := x, gb := y }) v.dirs _ ⟨s.hif, s.gb, rfl⟩ (fun t ht d _ => ?_)
  obtain ⟨x, y, rfl⟩ := ht
  obtain ⟨x', y', h⟩ := gateClamped_records (initialGain v d { s with hif := x, gb := y } < (v.dir d).gain) w 0 op n (dirCode d).toNat (v.dir d).gain
    (initialGain v d { s with hif := x, gb := y }) (initialGain v d { s with hif := x, gb := y }) { s with hif := x, gb := y }
  exact ⟨x', y', h⟩

theorem beginChannelCreate_makes {r : Running} {n : Nat} {v : ChanDef} (s : State) (hn : dat r.desc 0 1 = n) (hv : definitionOf r.desc = v) :
    ∃ x y clamped res, beginChannelCreate r s = (awaitState { r with committed := true, clamped := clamped, result := res } 1 [],
      makeChannel (chanOf n) v { s with hif := x, gb := y }) := by
  obtain ⟨x, y, h⟩ := gateInitialGain_records (writerOf r.desc.ring.val) r.desc.opcode.toNat n v s
  simp only [beginChannelCreate, hn, hv, h]
  exact ⟨x, y, _, _, rfl⟩

/-- A channel that names no other device is made at once. -/
theorem opChannelCreate_alone {r : Running} {s : State} {n : Nat} {v : ChanDef} (hn : dat r.desc 0 1 = n) (hv : definitionOf r.desc = v)
    (h0 : r.phase = 0) (hc : checkChannelCreate r s = none) (hp : definitionPeers v s = []) :
    ∃ clamped res t, opChannelCreate r s = (awaitState { r with committed := true, clamped := clamped, result := res } 1 [], t) ∧
      Made (chanOf n) v s t ∧ t.slowTicks = s.slowTicks ∧ t.twin = s.twin := by
  obtain ⟨x, y, clamped, res, h⟩ := beginChannelCreate_makes s hn hv
  obtain ⟨hm, h1, h2⟩ := made_makeChannel (chanOf n) v { s with hif := x, gb := y }
  refine ⟨clamped, res, _, ?_, hm.of_records, h1, h2⟩
  rw [← h]
  simp only [opChannelCreate, h0, if_true, hc, hv, hp]

theorem starts_channelCreate_alone {d : Desc} {s : State} {e : Dir} (hp : definitionPeers (definitionOf d) s = []) :
    Starts 0x0110 checkChannelCreate (.channelCreate d) d s .state (fun t => (chan (chanOf (dat d 0 1)) t).state = .active ∧
      (chan (chanOf (dat d 0 1)) t).defn = definitionOf d ∧ t.pool.freeSlots = s.pool.freeSlots - definitionSlots (definitionOf d) s ∧
      ((definitionOf d).enables e = true → (direction (chanOf (dat d 0 1)) e t).gain.gt = initialGain (definitionOf d) e s)) := by
  refine starts_of_stays rfl (fun x hc => ?_)
  obtain ⟨clamped, res, t, h, ⟨hst, hdf, hpool, hgt⟩, h1, h2⟩ := opChannelCreate_alone (r := starting 0x0110 d s) (n := dat d 0 1)
    (v := definitionOf d) rfl rfl rfl hc hp
  rw [h]
  exact ⟨⟨_, rfl, rfl, rfl, rfl⟩, h1, h2, fun b => ⟨hst, hdf, hpool, hgt e⟩⟩

/-! ## CHANNEL_CREATE with other devices -/

/-- Messages to other devices leave by the links' queues. -/
theorem tellPeers_links (l : List Nat) (m : ControlMsg) (s : State) : ∃ x, tellPeers l m s = { s with fabric := { s.fabric with links := x } } := by
  refine List.foldlRecOn (motive := fun t => ∃ x, t = ({ s with fabric := { s.fabric with links := x } } : State)) l _ ⟨s.fabric.links, rfl⟩
    (fun t ht a _ => ?_)
  obtain ⟨x, rfl⟩ := ht
  exact sendControl_links a m _

theorem state_of_not_exists {n : Nat} {s : State} (hn : n < 64) (h : channelExists n s = false) : (chan (chanOf n) s).state = .absent := by
  simp only [channelExists, hn, decide_true, Bool.true_and, Bool.or_eq_false_iff, bne_eq_false_iff_eq] at h
  exact h.1

theorem absent_of_check {r : Running} {s : State} (h : checkChannelCreate r s = none) : (chan (chanOf (dat r.desc 0 1)) s).state = .absent := by
  have he := refuseIf_eq_none.mp (firstOf_eq_none.mp h (refuseIf (channelExists (dat r.desc 0 1) s) (some (.rejectedState, 0x0108))) (by simp [badState]))
  have hc := firstOf_eq_none.mp h (checkCodes (dat r.desc 0 1) (definitionOf r.desc)) (by simp)
  have hn := refuseIf_eq_none.mp (firstOf_eq_none.mp hc (refuseIf (decide (63 < dat r.desc 0 1) || badDefinition (definitionOf r.desc))
    (some (.rejectedParam, 0x010E))) (by simp [badParam]))
  simp only [Bool.or_eq_false_iff, decide_eq_false_iff_not] at hn
  exact state_of_not_exists (by omega) he

/-- A channel that names other devices waits for what they answer. -/
theorem opChannelCreate_asks {r : Running} {s : State} {n : Nat} {v : ChanDef} (hn : dat r.desc 0 1 = n) (hv : definitionOf r.desc = v)
    (h0 : r.phase = 0) (hc : checkChannelCreate r s = none) (hp : definitionPeers v s ≠ []) : ∃ l, opChannelCreate r s = (awaitHardware r 2 [],
      { modChan (chanOf n) (fun ch => { ch with asked := (definitionPeers v s).map (Fin.ofNat 16), refusal := none }) s with
        fabric := { s.fabric with links := l } }) := by
  obtain ⟨a, l, h⟩ := List.exists_cons_of_ne_nil hp
  simp only [opChannelCreate, h0, if_true, hc, hv, h, askPeers, hn]
  obtain ⟨x, ht⟩ := tellPeers_links (a :: l) (.channelAsk (chanOf n) (sharedDefinition r.desc s))
    (modChan (chanOf n) (fun ch => { ch with asked := (a :: l).map (Fin.ofNat 16), refusal := none }) s)
  rw [ht]
  exact ⟨x, rfl⟩

theorem starts_channelCreate_asks {d : Desc} {s : State} (hp : definitionPeers (definitionOf d) s ≠ []) :
    Starts 0x0110 checkChannelCreate (.channelCreate d) d s .hardware (fun t =>
      (chan (chanOf (dat d 0 1)) t).asked = (definitionPeers (definitionOf d) s).map (Fin.ofNat 16) ∧ (chan (chanOf (dat d 0 1)) t).state = .absent ∧
      t.pool = s.pool) := by
  refine starts_of_stays rfl (fun x hc => ?_)
  obtain ⟨l, h⟩ := opChannelCreate_asks (r := starting 0x0110 d s) (n := dat d 0 1) (v := definitionOf d) rfl rfl rfl hc hp
  have hst : (chan (chanOf (dat d 0 1)) { s with hif := x }).state = .absent := absent_of_check hc
  have hch := chan_modChan_same (chanOf (dat d 0 1))
    (fun ch => { ch with asked := (definitionPeers (definitionOf d) s).map (Fin.ofNat 16), refusal := none }) { s with hif := x }
  rw [h]
  exact ⟨⟨_, rfl, rfl, rfl, rfl⟩, rfl, rfl, fun _ => ⟨congrArg Channel.asked hch, (congrArg Channel.state hch).trans hst, rfl⟩⟩

/-! ## CHANNEL_MODIFY -/

theorem opChannelModify_pass {r : Running} {s : State} (hc : checkChannelModify r s = none) : opChannelModify r s = effectChannelModify r s := by
  simp only [opChannelModify, hc]

theorem does_channelModify_same {d : Desc} {s : State}
    (hn : changedDirs (modifiedDefinition d (wantedDefinition (chanOf (dat d 0 1)) s)) (wantedDefinition (chanOf (dat d 0 1)) s) = []) :
    Does 0x0111 checkChannelModify (.channelModify d) d s 0 (fun t => t = Kept s t) := by
  refine answers_of_ends rfl (fun x hc => ?_)
  have he : effectChannelModify (starting 0x0111 d s) { s with hif := x } = (doneWith 0, { s with hif := x }) := if_pos (congrArg List.isEmpty hn)
  rw [opChannelModify_pass hc, he]
  exact ⟨⟨_, rfl, rfl, rfl, rfl, read_of_detail_zero rfl⟩, rfl, rfl, fun _ => rfl⟩

/-- The change CHANNEL_MODIFY asks of a direction. -/
def modifySets (v w : ChanDef) (e : Dir) : List Setting := [.definition (v.dir e) v.tdd ((v.dir e).centre != (w.dir e).centre)]

/-- Every changed direction is asked for its part of the definition. -/
theorem effectChannelModify_requests {r : Running} {s : State} {c : Fin 64} {v w : ChanDef} (hc : chanOf (dat r.desc 0 1) = c)
    (hw : wantedDefinition c s = w) (hv : modifiedDefinition r.desc w = v) (hn : changedDirs v w ≠ []) : ∃ l res, effectChannelModify r s =
      (awaitEpochs r l false res, requestAll ((changedDirs v w).map (c, ·)) .config (fun u => modifySets v w u.2) (effOf r.desc) s) := by
  have he : (changedDirs v w).isEmpty = false := by rw [List.isEmpty_eq_false_iff]; exact hn
  simp only [effectChannelModify, hc, hw, hv, he, Bool.false_eq_true, if_false, ← foldl_dirs_requestAll]
  exact ⟨_, _, rfl⟩

theorem nodup_changedDirs (v w : ChanDef) : (changedDirs v w).Nodup := (nodup_bothDirs_filter _).filter _

theorem starts_channelModify {d : Desc} {s : State} {e : Dir}
    (he : e ∈ changedDirs (modifiedDefinition d (wantedDefinition (chanOf (dat d 0 1)) s)) (wantedDefinition (chanOf (dat d 0 1)) s)) :
    Starts 0x0111 checkChannelModify (.channelModify d) d s .epochs (fun t => (chan (chanOf (dat d 0 1)) t).defn = (chan (chanOf (dat d 0 1)) s).defn ∧
      Queued (chanOf (dat d 0 1)) e .config [.definition ((modifiedDefinition d (wantedDefinition (chanOf (dat d 0 1)) s)).dir e)
        (modifiedDefinition d (wantedDefinition (chanOf (dat d 0 1)) s)).tdd
        (((modifiedDefinition d (wantedDefinition (chanOf (dat d 0 1)) s)).dir e).centre != ((wantedDefinition (chanOf (dat d 0 1)) s).dir e).centre)] s t) := by
  refine starts_of_stays rfl (fun x hc => ?_)
  generalize hw : wantedDefinition (chanOf (dat d 0 1)) s = w at he ⊢
  generalize hv : modifiedDefinition d w = v at he ⊢
  obtain ⟨l, res, h⟩ := effectChannelModify_requests (r := starting 0x0111 d s) (s := { s with hif := x }) rfl hw hv (List.ne_nil_of_mem he)
  have hd := defn_requestAll (l := (changedDirs v w).map (chanOf (dat d 0 1), ·)) .config (fun u => modifySets v w u.2) (effOf (coded 0x0111 d))
    { s with hif := x } (chanOf (dat d 0 1))
  have hq := queued_requestAll .config (fun u => modifySets v w u.2) (effOf (coded 0x0111 d)) { s with hif := x }
    (nodup_dirs (nodup_changedDirs v w) (chanOf (dat d 0 1))) (mem_dirs he _)
  rw [opChannelModify_pass hc, h]
  exact ⟨⟨_, rfl, rfl, rfl, rfl⟩, slowTicks_requestAll _ _ _ _, twin_requestAll _ _ _ _, fun _ => ⟨hd, hq⟩⟩

/-! ## CHANNEL_MUTE -/

theorem does_channelMute_same {d : Desc} {s : State} (hn : muteDirs d s = []) :
    Does 0x0114 checkChannelMute (.channelMute d) d s 0 (fun t => t = Kept s t) := by
  refine answers_of_effect effectChannelMute rfl (fun _ => rfl) (fun x _ => ?_)
  have he : effectChannelMute (starting 0x0114 d s) { s with hif := x } = (doneWith 0, { s with hif := x }) := if_pos (congrArg List.isEmpty hn)
  rw [he]
  exact ⟨⟨_, rfl, rfl, rfl, rfl, read_of_detail_zero rfl⟩, rfl, rfl, fun _ => rfl⟩

/-- Every direction whose mute changes is asked for it. -/
theorem effectChannelMute_requests {r : Running} {s : State} {c : Fin 64} {dirs : List Dir} {on : Bool} (hc : chanOf (par r.desc 0 1) = c)
    (hd : muteDirs r.desc s = dirs) (ho : (par r.desc 2 1 == 1) = on) (hn : dirs ≠ []) : ∃ l, effectChannelMute r s =
      (awaitEpochs r l false 0, requestAll (dirs.map (c, ·)) .gain (fun _ => [.hostMute on]) (effOf r.desc) s) := by
  have he : dirs.isEmpty = false := by rw [List.isEmpty_eq_false_iff]; exact hn
  have hf := foldl_dirs_requestAll dirs c .gain (fun _ => [.hostMute on]) (effOf r.desc) s
  simp only [effectChannelMute, hc, hd, ho, he, Bool.false_eq_true, if_false, ← hf]
  exact ⟨_, rfl⟩

theorem starts_channelMute {d : Desc} {s : State} {e : Dir} (he : e ∈ muteDirs d s) : Starts 0x0114 checkChannelMute (.channelMute d) d s .epochs (fun t =>
    Queued (chanOf (par d 0 1)) e .gain [.hostMute (par d 2 1 == 1)] s t ∧ (∀ c, c ≠ chanOf (par d 0 1) → chan c t = chan c s) ∧
    t = { Kept s t with chans := t.chans, tickets := t.tickets }) := by
  refine starts_of_effect effectChannelMute rfl (fun _ => rfl) (fun x _ => ?_)
  generalize hdirs : muteDirs d s = dirs at he
  have hn : dirs.Nodup := hdirs ▸ nodup_bothDirs_filter _
  obtain ⟨l, h⟩ := effectChannelMute_requests (r := starting 0x0114 d s) (s := { s with hif := x }) rfl hdirs rfl (List.ne_nil_of_mem he)
  have hq := queued_requestAll .gain (fun _ => [.hostMute (par d 2 1 == 1)]) (effOf (coded 0x0114 d)) { s with hif := x }
    (nodup_dirs hn (chanOf (par d 0 1))) (mem_dirs he _)
  have hch : ∀ c, c ≠ chanOf (par d 0 1) → chan c (requestAll (dirs.map (chanOf (par d 0 1), ·)) .gain (fun _ => [.hostMute (par d 2 1 == 1)])
      (effOf (coded 0x0114 d)) { s with hif := x }) = chan c { s with hif := x } :=
    fun c hc => chan_requestAll_ne _ _ _ _ (chan_of_mem_dirs hc)
  rw [h]
  exact ⟨⟨_, rfl, rfl, rfl, rfl⟩, slowTicks_requestAll _ _ _ _, twin_requestAll _ _ _ _, fun b => ⟨hq, hch, on_requestAll _ _ _ _ b⟩⟩

/-! ## CHANNEL_REMOVE -/

/-- A channel marked for removal, its directions ramping down. -/
def rampedDown (ch : Channel) : Channel :=
  { ch with state := .removing, removeDue := true, dl := { ch.dl with rampDown := true }, ul := { ch.ul with rampDown := true } }

/-- The state with a channel marked so. -/
def removing (c : Fin 64) (s : State) : State := modChan c rampedDown s

/-- A direction transmits here, or another device of the channel is in reach. -/
def reached (c : Fin 64) (s : State) : Bool := transmitsHere c s || (channelPeers c s).any (fun a => routeKnown a s)

theorem reached_removing {c : Fin 64} {s : State} (h : (chan c s).state = .active) : reached c (removing c s) = reached c s := by
  have hd : (chan c (removing c s)).defn = (chan c s).defn := by rw [removing, chan_modChan_same]; rfl
  have hst : (chan c (removing c s)).state = .removing := by rw [removing, chan_modChan_same]; rfl
  have hp : channelPeers c (removing c s) = channelPeers c s := congrArg (fun v => definitionPeers v s) hd
  have ht : transmitsHere c (removing c s) = transmitsHere c s := by
    simp only [transmitsHere, dirLive, dirDef, hd, hst, h]
    rfl
  rw [reached, hp, ht]
  rfl

theorem startRemoval_waits {c : Fin 64} {s : State} (h : (chan c s).state = .active) (hr : reached c s = true) : startRemoval c s = removing c s :=
  if_pos ((reached_removing h).trans hr)

theorem startRemoval_removes {c : Fin 64} {s : State} (h : (chan c s).state = .active) (hr : reached c s = false) :
    startRemoval c s = removeChannel c (removing c s) :=
  if_neg (ne_true_of_eq_false ((reached_removing h).trans hr))

theorem active_of_noChannel {n : Nat} {s : State} (h : noChannel n s = none) : (chan (chanOf n) s).state = .active := by
  have hf := refuseIf_eq_none.mp h
  rw [Bool.or_eq_false_iff, bne_eq_false_iff_eq] at hf
  exact hf.2

theorem active_of_checkRemove {r : Running} {s : State} (h : checkChannelRemove r s = none) : (chan (chanOf (par r.desc 0 1)) s).state = .active :=
  active_of_noChannel (firstOf_eq_none.mp h _ (by simp))

theorem tellPeers_nil (m : ControlMsg) (s : State) : tellPeers [] m s = s := rfl

/-- Where the removal waits, the channel is marked and the other devices are told. -/
theorem beginChannelRemove_waits {r : Running} {s : State} {c : Fin 64} (hc : chanOf (par r.desc 0 1) = c) (h : (chan c s).state = .active)
    (hr : reached c s = true) : ∃ l, (channelPeers c s = [] → l = s.fabric.links) ∧
      beginChannelRemove r s = (awaitHardware { r with committed := true } 1 [], removing c { s with fabric := { s.fabric with links := l } }) := by
  obtain ⟨l, hl⟩ := tellPeers_links (channelPeers c s) (.channelDrop c) s
  have hw : startRemoval c { s with fabric := { s.fabric with links := l } } = removing c { s with fabric := { s.fabric with links := l } } :=
    startRemoval_waits h hr
  have hst : (chan c (removing c { s with fabric := { s.fabric with links := l } })).state = .removing :=
    congrArg Channel.state (chan_modChan_same c rampedDown { s with fabric := { s.fabric with links := l } })
  refine ⟨l, fun hp => ?_, ?_⟩
  · rw [hp, tellPeers_nil] at hl
    exact (congrArg (fun t : State => t.fabric.links) hl).symm
  · simp only [beginChannelRemove, hc, hl, hw, hst, reduceCtorEq, if_false]

theorem starts_channelRemove {d : Desc} {s : State} (hr : reached (chanOf (par d 0 1)) s = true) :
    Starts 0x0112 checkChannelRemove (.channelRemove d) d s .hardware (fun t => (chan (chanOf (par d 0 1)) t).state = .removing ∧
      (chan (chanOf (par d 0 1)) t).removeDue = true ∧ (∀ c, c ≠ chanOf (par d 0 1) → chan c t = chan c s) ∧
      (channelPeers (chanOf (par d 0 1)) s = [] → t = { Kept s t with chans := t.chans })) := by
  refine starts_of_effect beginChannelRemove rfl (fun _ => rfl) (fun x hc => ?_)
  obtain ⟨l, hl, h⟩ := beginChannelRemove_waits (r := starting 0x0112 d s) (s := { s with hif := x }) rfl (active_of_checkRemove hc) hr
  have hch := chan_modChan_same (chanOf (par d 0 1)) rampedDown { s with hif := x, fabric := { s.fabric with links := l } }
  rw [h]
  refine ⟨⟨_, rfl, rfl, rfl, rfl⟩, rfl, rfl, fun b => ⟨congrArg Channel.state hch, congrArg Channel.removeDue hch, fun c hc => ?_, fun hp => ?_⟩⟩
  · exact chan_modChan_ne _ { s with hif := x, fabric := { s.fabric with links := l } } hc
  · obtain rfl : l = s.fabric.links := hl hp
    rfl

/-- What answers, engines freed and messages leave alone: the channels, time and the pair. -/
def Untouched (s t : State) : Prop := t.chans = s.chans ∧ t.slowTicks = s.slowTicks ∧ t.twin = s.twin

theorem Untouched.trans {s t u : State} (h : Untouched s t) (h' : Untouched t u) : Untouched s u :=
  ⟨h'.1.trans h.1, h'.2.1.trans h.2.1, h'.2.2.trans h.2.2⟩

theorem Repooled.untouched {s t : State} (h : Repooled s t) : Untouched s t := by
  obtain ⟨_, _, rfl⟩ := h
  exact ⟨rfl, rfl, rfl⟩

theorem untouched_answerStamped (c : Fin 64) (s : State) (d : Dir) : Untouched s (answerStamped c s d) := by
  refine List.foldlRecOn (motive := Untouched s) _ _ ⟨rfl, rfl, rfl⟩ (fun t ht l _ => ht.trans ?_)
  split
  · exact ⟨rfl, rfl, rfl⟩
  · exact ⟨rfl, rfl, rfl⟩

theorem untouched_releaseAsg (a : Fin 256) (s : State) : Untouched s (releaseAsg a s) :=
  ((repooled_supersede _ _ _).trans ((repooled_eng _ _).trans (repooled_refreshEngines _))).untouched

theorem untouched_tellPeers (l : List Nat) (m : ControlMsg) (s : State) : Untouched s (tellPeers l m s) := by
  obtain ⟨x, h⟩ := tellPeers_links l m s
  rw [h]
  exact ⟨rfl, rfl, rfl⟩

theorem untouched_pool (s : State) (x : Pool) : Untouched s { s with pool := x } := ⟨rfl, rfl, rfl⟩

theorem untouched_wakeCommands (opcode : Nat) (p : Running → Bool) (results : List Int) (s : State) : Untouched s (wakeCommands opcode p results s) :=
  ⟨rfl, rfl, rfl⟩

/-- A channel removed is absent; time and the pair are as they were. -/
theorem removeChannel_absent (c : Fin 64) (s : State) : (chan c (removeChannel c s)).state = .absent ∧ (removeChannel c s).slowTicks = s.slowTicks ∧
    (removeChannel c s).twin = s.twin := by
  obtain ⟨t, ht, h⟩ : ∃ t, Untouched s t ∧ Untouched (modChan c (fun ch => { ch with
      state := .absent, dl := removedDirection ch.dl, ul := removedDirection ch.ul, removeDue := false }) t) (removeChannel c s) := by
    refine ⟨bothDirs.foldl (answerStamped c) s, ?_, ?_⟩
    · exact List.foldlRecOn (motive := Untouched s) _ _ ⟨rfl, rfl, rfl⟩ (fun t ht d _ => ht.trans (untouched_answerStamped c t d))
    · simp only [removeChannel]
      refine Untouched.trans (((untouched_releaseAsg (asgOf c .dl) _).trans (untouched_releaseAsg (asgOf c .ul) _)).trans (untouched_pool _ ?_))
        (Untouched.trans ?_ (untouched_wakeCommands _ _ _ _))
      rotate_left
      · split
        · exact untouched_tellPeers _ _ _
        · exact ⟨rfl, rfl, rfl⟩
  obtain ⟨_, ht1, ht2⟩ := ht
  obtain ⟨h0, h1, h2⟩ := h
  refine ⟨?_, h1.trans ht1, h2.trans ht2⟩
  rw [chan, h0]
  exact congrArg Channel.state (chan_modChan_same c _ t)

theorem beginChannelRemove_removes {r : Running} {s : State} {c : Fin 64} (hc : chanOf (par r.desc 0 1) = c) (h : (chan c s).state = .active)
    (hr : reached c s = false) : ∃ res t, beginChannelRemove r s = (doneWith res, t) ∧ (chan c t).state = .absent ∧ t.slowTicks = s.slowTicks ∧
      t.twin = s.twin := by
  obtain ⟨l, hl⟩ := tellPeers_links (channelPeers c s) (.channelDrop c) s
  have hw : startRemoval c { s with fabric := { s.fabric with links := l } } = removeChannel c (removing c { s with fabric := { s.fabric with links := l } }) :=
    startRemoval_removes h hr
  obtain ⟨ha, h1, h2⟩ := removeChannel_absent c (removing c { s with fabric := { s.fabric with links := l } })
  simp only [beginChannelRemove, hc, hl, hw, ha, if_true]
  exact ⟨_, _, rfl, ha, h1, h2⟩

theorem channelRemove_atOnce {d : Desc} {s : State} (hr : reached (chanOf (par d 0 1)) s = false) :
    Passes 0x0112 checkChannelRemove d s → ∃ t res, exec (.channelRemove d) s = .next t ∧ Answered 0x0112 d .done 0 res t ∧
      (chan (chanOf (par d 0 1)) t).state = .absent := by
  refine exec_of_effect beginChannelRemove rfl (fun _ => rfl) (fun x hc => ?_)
  obtain ⟨res, t, h, ha, h1, h2⟩ := beginChannelRemove_removes (r := starting 0x0112 d s) (s := { s with hif := x }) rfl (active_of_checkRemove hc) hr
  rw [h]
  exact ⟨res, ⟨_, rfl, rfl, rfl, rfl, read_of_detail_zero rfl⟩, h1, h2, fun _ => ha⟩

/-! ## LINK_CONFIGURE -/

theorem rxConfigured_bringUpRx (s : State) (g : Fin 5) : (bringUpRx s g).links.rxConfigured = s.links.rxConfigured.set g true := by
  simp only [bringUpRx, groupDown]
  split <;> rfl

theorem txActive_bringUpTx (s : State) (g : Fin 4) : (bringUpTx s g).links.txActive = s.links.txActive.set g true := rfl

/-- What bringing a group up leaves alone. -/
def SameMode (s t : State) : Prop := t.slowTicks = s.slowTicks ∧ t.twin = s.twin ∧ t.links.sysrefMode = s.links.sysrefMode

theorem SameMode.trans {s t u : State} (h : SameMode s t) (h' : SameMode t u) : SameMode s u :=
  ⟨h'.1.trans h.1, h'.2.1.trans h.2.1, h'.2.2.trans h.2.2⟩

theorem sameMode_bringUpRx (s : State) (g : Fin 5) : SameMode s (bringUpRx s g) := by
  simp only [bringUpRx, groupDown]
  split <;> exact ⟨rfl, rfl, rfl⟩

theorem sameMode_bringUpTx (s : State) (g : Fin 4) : SameMode s (bringUpTx s g) := ⟨rfl, rfl, rfl⟩

theorem sameMode_foldl {α : Type} {f : State → α → State} (h : ∀ s a, SameMode s (f s a)) (l : List α) (s : State) : SameMode s (l.foldl f s) :=
  List.foldlRecOn (motive := SameMode s) l f ⟨rfl, rfl, rfl⟩ (fun t ht a _ => ht.trans (h t a))

theorem get_set_true {n : Nat} {v : Vector Bool n} {i j : Fin n} (h : v[i] = true) : (v.set j true)[i] = true := by
  simp only [Fin.getElem_fin, Vector.getElem_set]
  split
  · rfl
  · exact h

/-- The named groups brought up, one after the other. -/
def bringUp (rx : List (Fin 5)) (tx : List (Fin 4)) (s : State) : State := tx.foldl bringUpTx (rx.foldl bringUpRx s)

theorem sameMode_bringUp (rx : List (Fin 5)) (tx : List (Fin 4)) (s : State) : SameMode s (bringUp rx tx s) :=
  (sameMode_foldl sameMode_bringUpRx rx s).trans (sameMode_foldl sameMode_bringUpTx tx _)

theorem rxConfigured_bringUp {rx : List (Fin 5)} (tx : List (Fin 4)) {g : Fin 5} (s : State) (h : g ∈ rx) :
    (bringUp rx tx s).links.rxConfigured[g] = true := by
  have hr : (rx.foldl bringUpRx s).links.rxConfigured[g] = true :=
    foldl_reaches (fun t : State => t.links.rxConfigured[g] = true) h (fun t => by simp [rxConfigured_bringUpRx])
      (fun t k ht => by rw [rxConfigured_bringUpRx]; exact get_set_true ht)
  exact List.foldlRecOn (motive := fun (t : State) => t.links.rxConfigured[g] = true) tx bringUpTx hr (fun _ ht _ _ => ht)

theorem txActive_bringUp (rx : List (Fin 5)) {tx : List (Fin 4)} {g : Fin 4} (s : State) (h : g ∈ tx) : (bringUp rx tx s).links.txActive[g] = true :=
  foldl_reaches (fun t : State => t.links.txActive[g] = true) h (fun t => by simp [txActive_bringUpTx])
    (fun t k ht => by rw [txActive_bringUpTx]; exact get_set_true ht)

/-- A SYSREF mode taken, with the capture armed where no group is up. -/
def newMode (mode : Nat) (s : State) : State :=
  modLinks (fun l => { l with sysrefMode := BitVec.ofNat 2 mode, sysrefArm := l.sysrefArm || !anyGroupUp s }) s

theorem starts_linkConfigure {d : Desc} {s : State} (g : Fin 5) (h : Fin 4) :
    Starts 0x0100 checkLinkConfigure (.linkConfigure d) d s .state (fun t =>
      (g ∈ rxMask (par d 0 1) → t.links.rxConfigured[g] = true) ∧ (h ∈ maskGroups (par d 1 1) → t.links.txActive[h] = true) ∧
      t.links.sysrefMode = BitVec.ofNat 2 (par d 2 1)) := by
  refine starts_of_effect beginLinkConfigure rfl (fun _ => rfl) (fun x _ => ?_)
  obtain ⟨h1, h2, h3⟩ := sameMode_bringUp (rxMask (par d 0 1)) (maskGroups (par d 1 1)) (newMode (par d 2 1) { s with hif := x })
  have he : beginLinkConfigure (starting 0x0100 d s) { s with hif := x } = (awaitState (starting 0x0100 d s) 1 [],
    bringUp (rxMask (par d 0 1)) (maskGroups (par d 1 1)) (newMode (par d 2 1) { s with hif := x })) := rfl
  rw [he]
  exact ⟨⟨_, rfl, rfl, rfl, rfl⟩, h1, h2, fun _ => ⟨rxConfigured_bringUp _ _, txActive_bringUp _ _, h3⟩⟩

/-- Settles O30: a channel made, asked for, changed, removed or muted by the first step of its command. -/
theorem channelCommands : Obligations.ChannelCommands := by
  intro d s e
  exact ⟨starts_channelCreate_alone, starts_channelCreate_asks, does_channelModify_same, starts_channelModify, starts_channelRemove,
    channelRemove_atOnce, does_channelMute_same, starts_channelMute, starts_linkConfigure⟩

end Sys2Proof.Proofs
end

/-! # Frame timer, patterns, synthesisers and transmission -/
section
namespace Sys2Proof.Proofs

open Sys2Proof Sys2Proof.Machine Sys2Proof.Safety Sys2Proof.Laws

/-! ## What holds brought up to date leave alone -/

theorem view_refreshHolds_all (s : State) : view (fun _ _ _ => ()) (refreshHolds s) = view (fun _ _ _ => ()) s :=
  view_refreshHolds (fun _ _ _ _ => rfl) (fun _ _ _ _ => rfl) (fun _ _ _ _ _ => rfl) s

theorem radio_refreshHolds (s : State) : (refreshHolds s).radio = s.radio := radio_of_view (view_refreshHolds_all s)

theorem slowTicks_refreshHolds (s : State) : (refreshHolds s).slowTicks = s.slowTicks := slowTicks_of_view (view_refreshHolds_all s)

theorem twin_refreshHolds (s : State) : (refreshHolds s).twin = s.twin := twin_of_view (view_refreshHolds_all s)

theorem ports_refreshHolds (s : State) : (refreshHolds s).ports = s.ports := ports_of_view (view_refreshHolds_all s)

/-! ## FRAME_SYNC_CONFIGURE -/

/-- The frame timer's parameters in a command. -/
def withSync (x : Desc) (t : FrameTimer) : FrameTimer :=
  { t with sources := Vector.ofFn (fun k => (syncList x).getD k.val 0), detectAsg := par x 4 2, donorOffset := parInt x 8 4, ppsOffset := par x 12 4,
           holdoverS := par x 16 4, lossMs := par x 20 2, stepLimit := par x 22 2 }

/-- A frame timer with a command's parameters. -/
def HasSync (x : Desc) (t : FrameTimer) : Prop :=
  t.detectAsg = par x 4 2 ∧ t.donorOffset = parInt x 8 4 ∧ t.ppsOffset = par x 12 4 ∧ t.holdoverS = par x 16 4 ∧ t.lossMs = par x 20 2 ∧
    ∀ k : Fin 4, t.sources[k] = (syncList x).getD k.val 0

theorem hasSync_withSync (x : Desc) (t : FrameTimer) : HasSync x (withSync x t) :=
  ⟨rfl, rfl, rfl, rfl, rfl, fun k => by simp [withSync]⟩

/-- A change of frame state leaves the timer's parameters and what it tracks; its event goes to its ring. -/
theorem setFrameState_timer (v : FrameState) (s : State) : ∃ x a b, setFrameState v s =
    { s with hif := x, radio := { s.radio with timer := { s.radio.timer with state := v, holdoverSince := a, holdEnd := b } } } := by
  simp only [setFrameState]
  split
  · exact ⟨_, _, _, rfl⟩
  · rw [postEvent, postEntry_hif]
    exact ⟨_, _, _, rfl⟩

theorem setFrameState_keeps (v : FrameState) (s : State) : (setFrameState v s).slowTicks = s.slowTicks ∧ (setFrameState v s).twin = s.twin ∧
    (setFrameState v s).radio.timer.state = v ∧ (setFrameState v s).radio.timer.tracked = s.radio.timer.tracked ∧
    ∀ x, HasSync x s.radio.timer → HasSync x (setFrameState v s).radio.timer := by
  obtain ⟨y, a, b, h⟩ := setFrameState_timer v s
  rw [h]
  exact ⟨rfl, rfl, rfl, rfl, fun _ hx => hx⟩

/-- Past its checks FRAME_SYNC_CONFIGURE has taken its parameters; without a source the timer is free and tracks none. -/
theorem effectFrameSyncConfigure_timer {r : Running} {x : Desc} (hx : r.desc = x) (s : State) : ∃ t : State,
    effectFrameSyncConfigure r s = (if par x 24 1 = 1 then awaitState r 1 [] else doneWith 0, t) ∧ HasSync x t.radio.timer ∧
      (syncList x = [] → t.radio.timer.state = .free ∧ t.radio.timer.tracked = 0) ∧ t.slowTicks = s.slowTicks ∧ t.twin = s.twin := by
  subst hx
  simp only [effectFrameSyncConfigure]
  refine ⟨_, rfl, ?_⟩
  rw [radio_refreshHolds, slowTicks_refreshHolds, twin_refreshHolds]
  by_cases hl : (syncList r.desc).isEmpty = true
  · obtain ⟨h1, h2, h3, h4, h5⟩ := setFrameState_keeps .free (track 0 (modTimer (withSync r.desc) s))
    rw [if_pos hl]
    exact ⟨h5 _ (hasSync_withSync r.desc s.radio.timer), fun _ => ⟨h3, h4⟩, h1, h2⟩
  · rw [if_neg hl]
    have hn : ∀ p : Prop, syncList r.desc = [] → p := fun _ he => absurd (congrArg List.isEmpty he) hl
    split
    · obtain ⟨h1, h2, _, _, h5⟩ := setFrameState_keeps .acquire (modTimer (fun t => { t with tracks := t.tracks.map (fun k => { k with good := 0 }) })
        (modTimer (withSync r.desc) s))
      exact ⟨h5 _ (hasSync_withSync r.desc s.radio.timer), hn _, h1, h2⟩
    · exact ⟨hasSync_withSync _ _, hn _, rfl, rfl⟩

theorem does_frameSyncConfigure {d : Desc} {s : State} (h0 : par d 24 1 = 0) :
    Does 0x0500 checkFrameSyncConfigure (.frameSyncConfigure d) d s 0 (fun t =>
      t.radio.timer.detectAsg = par d 4 2 ∧ t.radio.timer.donorOffset = parInt d 8 4 ∧ t.radio.timer.ppsOffset = par d 12 4 ∧
      t.radio.timer.holdoverS = par d 16 4 ∧ (∀ k : Fin 4, t.radio.timer.sources[k] = (syncList (coded 0x0500 d)).getD k.val 0) ∧
      (syncList (coded 0x0500 d) = [] → t.radio.timer.state = .free ∧ t.radio.timer.tracked = 0)) := by
  refine answers_of_effect effectFrameSyncConfigure rfl (fun _ => rfl) (fun y _ => ?_)
  obtain ⟨t, h, ⟨ha, hd, hp, hh, _, hs⟩, hf, h1, h2⟩ := effectFrameSyncConfigure_timer (r := starting 0x0500 d s) rfl { s with hif := y }
  have hw : ¬ par (coded 0x0500 d) 24 1 = 1 := fun h => absurd (h0.symm.trans h) (by decide)
  rw [h]
  simp only [starting, hw, if_false]
  exact ⟨⟨_, rfl, rfl, rfl, rfl, read_of_detail_zero rfl⟩, h1, h2, fun _ => ⟨ha, hd, hp, hh, hs, hf⟩⟩

theorem starts_frameSyncConfigure {d : Desc} {s : State} (h0 : par d 24 1 = 1) :
    Starts 0x0500 checkFrameSyncConfigure (.frameSyncConfigure d) d s .state (fun t =>
      t.radio.timer.holdoverS = par d 16 4 ∧ t.radio.timer.lossMs = par d 20 2) := by
  refine starts_of_effect effectFrameSyncConfigure rfl (fun _ => rfl) (fun y _ => ?_)
  obtain ⟨t, h, ⟨_, _, _, hh, hl, _⟩, _, h1, h2⟩ := effectFrameSyncConfigure_timer (r := starting 0x0500 d s) rfl { s with hif := y }
  have hw : par (coded 0x0500 d) 24 1 = 1 := h0
  rw [h]
  simp only [starting, hw, if_true]
  exact ⟨⟨_, rfl, rfl, rfl, rfl⟩, h1, h2, fun _ => ⟨hh, hl⟩⟩

/-! ## TDD_PATTERN_SET -/

theorem does_tddPatternSet_clear {d : Desc} {s : State} (h1 : par d 1 1 = 1) :
    Does 0x0501 checkTddPatternSet (.tddPatternSet d) d s 0 (fun t => t = { Kept s t with radio :=
      { s.radio with patterns := upd s.radio.patterns (par d 0 1) (fun _ => { cur := none, next := none }) } }) := by
  refine answers_of_effect effectTddPatternSet rfl (fun _ => rfl) (fun y _ => ?_)
  have he : effectTddPatternSet (starting 0x0501 d s) { s with hif := y } = (doneWith 0, { s with hif := y, radio :=
      { s.radio with patterns := upd s.radio.patterns (par d 0 1) (fun _ => { cur := none, next := none }) } }) := if_pos h1
  rw [he]
  exact ⟨⟨_, rfl, rfl, rfl, rfl, read_of_detail_zero rfl⟩, rfl, rfl, fun _ => rfl⟩

/-- A pattern put into a slot from an instant on. -/
def withPattern (slot : Nat) (p : Pattern) (at_ : Nat) (s : State) : State :=
  modRadio (fun g => { g with patterns := upd g.patterns slot (fun v => { v with next := some (p, at_) }) }) s

/-- A pattern of a duty that House Rules allow: the slot takes it at its instant, and every direction that uses the slot is asked for it. -/
theorem effectTddPatternSet_defines {r : Running} {s : State} {slot : Nat} {p : Pattern} {at_ : Nat} (hs : par r.desc 0 1 = slot)
    (h1 : par r.desc 1 1 ≠ 1) (hp : patternFrom r.desc = p) (ha : switchInstant r.desc p s = at_) (h0 : overDuty 0 s.hr.rules.dlDuty p = false)
    (hu : overDuty 1 s.hr.rules.ulDuty p = false) : effectTddPatternSet r s =
      if (slotUsers slot s).isEmpty then (doneWith (tddResult p at_), withPattern slot p at_ s)
      else (awaitEpochs r ((List.range (slotUsers slot s).length).map (s.tickets + ·)) false (tddResult p at_),
        requestAll (slotUsers slot s) .config (fun _ => [.pattern (Fin.ofNat 8 slot)]) (some (BitVec.ofNat 32 at_)) (withPattern slot p at_ s)) := by
  simp only [effectTddPatternSet, hs, h1, if_false, hp, ha, h0, hu, Bool.or_self, Bool.false_eq_true]
  rfl

theorem does_tddPatternSet {d : Desc} {s : State} (h1 : par d 1 1 ≠ 1) (h0 : overDuty 0 s.hr.rules.dlDuty (patternFrom (coded 0x0501 d)) = false)
    (hu : overDuty 1 s.hr.rules.ulDuty (patternFrom (coded 0x0501 d)) = false) (hn : slotUsers (par d 0 1) s = []) :
    Does 0x0501 checkTddPatternSet (.tddPatternSet d) d s
      (tddResult (patternFrom (coded 0x0501 d)) (switchInstant (coded 0x0501 d) (patternFrom (coded 0x0501 d)) s)) (fun t =>
        t.radio.patterns = upd s.radio.patterns (par d 0 1) (fun v =>
          { v with next := some (patternFrom (coded 0x0501 d), switchInstant (coded 0x0501 d) (patternFrom (coded 0x0501 d)) s) }) ∧ t.chans = s.chans) := by
  refine answers_of_effect effectTddPatternSet rfl (fun _ => rfl) (fun y _ => ?_)
  have he := effectTddPatternSet_defines (r := starting 0x0501 d s) (s := { s with hif := y }) (slot := par d 0 1)
    (at_ := switchInstant (coded 0x0501 d) (patternFrom (coded 0x0501 d)) s) rfl h1 rfl rfl h0 hu
  have hn' : (slotUsers (par d 0 1) { s with hif := y }).isEmpty = true := congrArg List.isEmpty hn
  rw [he, if_pos hn']
  exact ⟨⟨_, rfl, rfl, rfl, rfl, read_of_detail_zero rfl⟩, rfl, rfl, fun _ => ⟨rfl, rfl⟩⟩

theorem nodup_slotUsers (slot : Nat) (s : State) : (slotUsers slot s).Nodup := (nodup_liveDirs s).filter _

theorem starts_tddPatternSet {d : Desc} {s : State} (u : Fin 64 × Dir) (hm : u ∈ slotUsers (par d 0 1) s) (h1 : par d 1 1 ≠ 1)
    (h0 : overDuty 0 s.hr.rules.dlDuty (patternFrom (coded 0x0501 d)) = false)
    (hu : overDuty 1 s.hr.rules.ulDuty (patternFrom (coded 0x0501 d)) = false) :
    Starts 0x0501 checkTddPatternSet (.tddPatternSet d) d s .epochs (fun t =>
      ∃ g ∈ ((direction u.1 u.2 t).line .config).waiting, g.settings = [.pattern (Fin.ofNat 8 (par d 0 1))]) := by
  refine starts_of_effect effectTddPatternSet rfl (fun _ => rfl) (fun y _ => ?_)
  have he := effectTddPatternSet_defines (r := starting 0x0501 d s) (s := { s with hif := y }) (slot := par d 0 1)
    (at_ := switchInstant (coded 0x0501 d) (patternFrom (coded 0x0501 d)) s) rfl h1 rfl rfl h0 hu
  have hm' : u ∈ slotUsers (par d 0 1) { s with hif := y } := hm
  have hn' : ¬ (slotUsers (par d 0 1) { s with hif := y }).isEmpty = true := fun he => List.ne_nil_of_mem hm' (List.isEmpty_iff.mp he)
  rw [he, if_neg hn']
  obtain ⟨g, hg, hs⟩ := queued_requestAll .config (fun _ => [.pattern (Fin.ofNat 8 (par d 0 1))])
    (some (BitVec.ofNat 32 (switchInstant (coded 0x0501 d) (patternFrom (coded 0x0501 d)) s)))
    (withPattern (par d 0 1) (patternFrom (coded 0x0501 d)) (switchInstant (coded 0x0501 d) (patternFrom (coded 0x0501 d)) s) { s with hif := y })
    (nodup_slotUsers (par d 0 1) { s with hif := y }) hm'
  exact ⟨⟨_, rfl, rfl, rfl, rfl⟩, slowTicks_requestAll _ _ _ _, twin_requestAll _ _ _ _, fun _ =>
    ⟨g, hg.symm ▸ List.mem_append_right _ (List.mem_singleton.mpr rfl), hs⟩⟩

/-- A duty above what House Rules allow is refused with a record (R337). -/
theorem effectTddPatternSet_refuses {r : Running} {s : State} (h1 : par r.desc 1 1 ≠ 1)
    (ho : (overDuty 0 s.hr.rules.dlDuty (patternFrom r.desc) || overDuty 1 s.hr.rules.ulDuty (patternFrom r.desc)) = true) :
    ∃ x y, effectTddPatternSet r s = (refuse (.rejectedParam, 0x0503), { s with hif := x, gb := y }) := by
  simp only [effectTddPatternSet, h1, if_false, ho, if_true]
  obtain ⟨x, y, h⟩ := gateRefused_records (writerOf r.desc.ring.val) 6 r.desc.opcode.toNat (par r.desc 0 1)
    (if overDuty 0 s.hr.rules.dlDuty (patternFrom r.desc) then 0 else 1)
    (patternDuty (if overDuty 0 s.hr.rules.dlDuty (patternFrom r.desc) then 0 else 1) (patternFrom r.desc) : Nat) 0
    (if overDuty 0 s.hr.rules.dlDuty (patternFrom r.desc) then s.hr.rules.dlDuty else s.hr.rules.ulDuty : Nat) s
  exact ⟨x, y, Prod.ext rfl h⟩

theorem tddPatternSet_refused {d : Desc} {s : State} (h1 : par d 1 1 ≠ 1)
    (ho : (overDuty 0 s.hr.rules.dlDuty (patternFrom (coded 0x0501 d)) || overDuty 1 s.hr.rules.ulDuty (patternFrom (coded 0x0501 d))) = true) :
    Passes 0x0501 checkTddPatternSet d s → ∃ t, exec (.tddPatternSet d) s = .next t ∧ Answered 0x0501 d .rejectedParam 0x0503 0 t ∧
      t.radio = s.radio ∧ t.chans = s.chans := by
  refine answers_of_effect effectTddPatternSet rfl (fun _ => rfl) (fun y _ => ?_)
  obtain ⟨u, v, h⟩ := effectTddPatternSet_refuses (r := starting 0x0501 d s) (s := { s with hif := y }) h1 ho
  rw [h]
  exact ⟨⟨_, rfl, rfl, rfl, rfl, by simp [Unread, detHostRead]⟩, rfl, rfl, fun _ => ⟨rfl, rfl⟩⟩

/-! ## LO_TUNE and LO_CALIBRATE -/

theorem locked_unlock (t : Nat) (l : Lo) : (l.unlock t).locked = false := by
  unfold Lo.unlock
  split
  · rfl
  · next h => exact Bool.not_eq_true _ ▸ h

theorem lo_modLo_same (n : Fin 5) (f : Lo → Lo) (s : State) : (modLo n f s).radio.los[n] = f s.radio.los[n] := by
  simp [modLo, modRadio]

theorem lo_modLo_ne {n k : Fin 5} (f : Lo → Lo) (s : State) (h : k ≠ n) : (modLo n f s).radio.los[k] = s.radio.los[k] := by
  have : n.val ≠ k.val := fun e => h (Fin.ext e.symm)
  simp [modLo, modRadio, this]

/-- A synthesiser out of lock that settles on a plan. -/
def tuning (plan : Fin 256) (now : Nat) (l : Lo) : Lo := { l.unlock now with settling := true, plan := plan, tuneAt := now }

theorem radio_beginTune (n : Fin 5) (plan : Fin 256) (s : State) : (beginTune n plan s).radio = (modLo n (tuning plan s.now) s).radio :=
  radio_refreshHolds _

theorem starts_loTune {d : Desc} {s : State} : Starts 0x0521 checkLoTune (.loTune d) d s .hardware (fun t =>
    t.radio.los[Fin.ofNat 5 (par d 0 1)].locked = false ∧ t.radio.los[Fin.ofNat 5 (par d 0 1)].settling = true ∧
    t.radio.los[Fin.ofNat 5 (par d 0 1)].plan = Fin.ofNat 256 (par d 2 2) ∧
    ∀ n, n ≠ Fin.ofNat 5 (par d 0 1) → t.radio.los[n] = s.radio.los[n]) := by
  refine starts_of_effect effectLoTune rfl (fun _ => rfl) (fun y _ => ?_)
  obtain ⟨t, h, hr, h1, h2⟩ : ∃ t : State, effectLoTune (starting 0x0521 d s) { s with hif := y } = (awaitHardware (starting 0x0521 d s) 1 [], t) ∧
      t.radio = (modLo (Fin.ofNat 5 (par d 0 1)) (tuning (Fin.ofNat 256 (par d 2 2)) s.now) { s with hif := y }).radio ∧
      t.slowTicks = s.slowTicks ∧ t.twin = s.twin :=
    ⟨_, rfl, radio_beginTune _ _ { s with hif := y }, slowTicks_refreshHolds _, twin_refreshHolds _⟩
  have hl := lo_modLo_same (Fin.ofNat 5 (par d 0 1)) (tuning (Fin.ofNat 256 (par d 2 2)) s.now) { s with hif := y }
  rw [← hr] at hl
  rw [h]
  refine ⟨⟨_, rfl, rfl, rfl, rfl⟩, h1, h2, fun _ => ⟨?_, congrArg Lo.settling hl, congrArg Lo.plan hl, fun n hn => ?_⟩⟩
  · exact (congrArg Lo.locked hl).trans (locked_unlock _ _)
  · exact (congrArg (fun g : Radio => g.los[n]) hr).trans (lo_modLo_ne _ { s with hif := y } hn)

theorem starts_loCalibrate {d : Desc} {s : State} : Starts 0x0522 checkLoCalibrate (.loCalibrate d) d s .hardware (fun t =>
    t.radio.los[Fin.ofNat 5 (nth s.radio.plans (par d 0 1) LoPlan.reset).synth].calibrating = true ∧ t = { Kept s t with radio := t.radio }) :=
  starts_of_effect effectLoCalibrate rfl (fun _ => rfl) (fun y _ => ⟨⟨_, rfl, rfl, rfl, rfl⟩, rfl, rfl, fun _ =>
    ⟨congrArg Lo.calibrating (lo_modLo_same (Fin.ofNat 5 (nth s.radio.plans (par d 0 1) LoPlan.reset).synth) (fun l => { l with calibrating := true })
      { s with hif := y }), rfl⟩⟩)

/-! ## TX_ENABLE -/

theorem tx_modTx_same (p : Fin 8) (f : TxPort → TxPort) (s : State) : (modTx p f s).radio.tx[p] = f s.radio.tx[p] := by
  simp [modTx, modRadio]

theorem tx_modTx_ne {p k : Fin 8} (f : TxPort → TxPort) (s : State) (h : k ≠ p) : (modTx p f s).radio.tx[k] = s.radio.tx[k] := by
  have : p.val ≠ k.val := fun e => h (Fin.ext e.symm)
  simp [modTx, modRadio, this]

theorem does_txEnable_off {d : Desc} {s : State} (h0 : par d 1 1 = 0) : Does 0x0524 checkTxEnable (.txEnable d) d s 0 (fun t =>
    t.radio.tx[Fin.ofNat 8 (par d 0 1)].enabled = false ∧ ∀ p, p ≠ Fin.ofNat 8 (par d 0 1) → t.radio.tx[p] = s.radio.tx[p]) := by
  refine answers_of_effect effectTxEnable rfl (fun _ => rfl) (fun y _ => ?_)
  obtain ⟨t, h, hr, h1, h2⟩ : ∃ t : State, effectTxEnable (starting 0x0524 d s) { s with hif := y } = (doneWith 0, t) ∧
      t.radio = (modTx (Fin.ofNat 8 (par d 0 1)) (fun t => { t with enabled := false, openedAt := none }) { s with hif := y }).radio ∧
      t.slowTicks = s.slowTicks ∧ t.twin = s.twin :=
    ⟨_, if_pos h0, radio_refreshHolds _, slowTicks_refreshHolds _, twin_refreshHolds _⟩
  have hl := tx_modTx_same (Fin.ofNat 8 (par d 0 1)) (fun t => { t with enabled := false, openedAt := none }) { s with hif := y }
  rw [← hr] at hl
  rw [h]
  exact ⟨⟨_, rfl, rfl, rfl, rfl, read_of_detail_zero rfl⟩, h1, h2, fun _ => ⟨congrArg TxPort.enabled hl, fun p hp =>
    (congrArg (fun g : Radio => g.tx[p]) hr).trans (tx_modTx_ne _ { s with hif := y } hp)⟩⟩

/-- The ports whose hold has ended, marked. -/
def markEnded (old s : State) : State := (List.finRange 8).foldl (fun s p => if portHeld p old && !portHeld p s then markStart p s else s) s

/-- What a mark of a port's start leaves alone. -/
def SameEnabled (s t : State) : Prop := t.slowTicks = s.slowTicks ∧ t.twin = s.twin ∧ t.ports = s.ports ∧
  ∀ p : Fin 8, t.radio.tx[p].enabled = s.radio.tx[p].enabled

theorem SameEnabled.trans {s t u : State} (h : SameEnabled s t) (h' : SameEnabled t u) : SameEnabled s u :=
  ⟨h'.1.trans h.1, h'.2.1.trans h.2.1, h'.2.2.1.trans h.2.2.1, fun p => (h'.2.2.2 p).trans (h.2.2.2 p)⟩

theorem sameEnabled_markStart (p : Fin 8) (s : State) : SameEnabled s (markStart p s) := by
  refine ⟨rfl, rfl, rfl, fun k => ?_⟩
  simp only [markStart, modRadio, upd, p.isLt, dif_pos, Fin.getElem_fin, Vector.getElem_set]
  split
  · next h => obtain rfl := Fin.ext h; rfl
  · rfl

theorem sameEnabled_markEnded (old s : State) : SameEnabled s (markEnded old s) := by
  refine List.foldlRecOn (motive := SameEnabled s) _ _ ⟨rfl, rfl, rfl, fun _ => rfl⟩ (fun t ht p _ => ht.trans ?_)
  split
  · exact sameEnabled_markStart p t
  · exact ⟨rfl, rfl, rfl, fun _ => rfl⟩

theorem sameEnabled_holdsAfter (old s : State) : SameEnabled s (holdsAfter old s) := by
  refine (sameEnabled_markEnded old s).trans ⟨slowTicks_refreshHolds _, twin_refreshHolds _, ports_refreshHolds _, fun p => ?_⟩
  exact congrArg (fun g : Radio => g.tx[p].enabled) (radio_refreshHolds _)

theorem starts_txEnable_on {d : Desc} {s : State} (h1 : par d 1 1 = 1) : Starts 0x0524 checkTxEnable (.txEnable d) d s .hardware (fun t =>
    t.radio.tx[Fin.ofNat 8 (par d 0 1)].enabled = true ∧ t.ports = s.ports) := by
  refine starts_of_effect effectTxEnable rfl (fun _ => rfl) (fun y _ => ?_)
  have h0 : ¬ par d 1 1 = 0 := by omega
  obtain ⟨t, h, ht, hp, k1, k2⟩ : ∃ t : State, effectTxEnable (starting 0x0524 d s) { s with hif := y } =
      (awaitHardware (starting 0x0524 d s) 1 [], t) ∧ t.radio.tx[Fin.ofNat 8 (par d 0 1)].enabled = true ∧ t.ports = s.ports ∧ t.slowTicks = s.slowTicks ∧ t.twin = s.twin := by
    obtain ⟨k1, k2, k3, k4⟩ := sameEnabled_holdsAfter { s with hif := y } (modTx (Fin.ofNat 8 (par d 0 1))
      (fun t => { t with enabled := true, waiting := some d.ring, waitFrom := s.now }) { s with hif := y })
    refine ⟨_, if_neg h0, (k4 _).trans ?_, k3, k1, k2⟩
    exact congrArg TxPort.enabled (tx_modTx_same _ _ { s with hif := y })
  rw [h]
  exact ⟨⟨_, rfl, rfl, rfl, rfl⟩, k1, k2, fun _ => ⟨ht, hp⟩⟩

/-- Settles O34: the first step of each command is its change of the radio, with the holds that follow, or its requests for an epoch. -/
theorem radioCommands : Obligations.RadioCommands := by
  intro d s
  exact ⟨does_frameSyncConfigure, starts_frameSyncConfigure, does_tddPatternSet_clear, does_tddPatternSet, starts_tddPatternSet,
    fun _ h1 _ ho => tddPatternSet_refused h1 ho, starts_loTune, starts_loCalibrate, does_txEnable_off, starts_txEnable_on⟩

end Sys2Proof.Proofs
end

/-! # The end of a command at its first step, and what it leaves of the host interface -/
section
namespace Sys2Proof.Proofs

open Sys2Proof Sys2Proof.Machine Sys2Proof.Safety Sys2Proof.Laws

/-! ## The round that keeps the sources' readiness -/

/-- The commands of a source are the same: those that wait, the one in execution, and those that go on past their timeout. -/
def SameWork (x y : Source) : Prop := y.marks = x.marks ∧ y.fetched = x.fetched ∧ y.running = x.running ∧ y.continuing = x.continuing

theorem SameWork.refl (x : Source) : SameWork x x := ⟨rfl, rfl, rfl, rfl⟩

theorem SameWork.trans {x y z : Source} (h : SameWork x y) (h' : SameWork y z) : SameWork x z :=
  ⟨h'.1.trans h.1, h'.2.1.trans h.2.1, h'.2.2.1.trans h.2.2.1, h'.2.2.2.trans h.2.2.2⟩

theorem sameWork_modSource (p q : Nat) (f : Source → Source) (s : State) (h : ∀ x, SameWork x (f x)) :
    SameWork (source p s) (source p (modSource q f s)) := by
  by_cases hq : q < 22
  · by_cases hp : p = q
    · subst hp; rw [source_modSource_same _ _ _ hq]; exact h _
    · rw [source_modSource_ne _ _ _ _ hp]; exact .refl _
  · rw [show modSource q f s = s by unfold modSource upd; simp [hq]]; exact .refl _

theorem sameWork_refreshReady (p : Nat) (s : State) : SameWork (source p s) (source p (refreshReady s)) :=
  List.foldlRecOn (motive := fun t => SameWork (source p s) (source p t)) _ refreshSource (.refl _)
    (fun t ht q _ => ht.trans (sameWork_modSource p q _ t (fun _ => .refl _)))

/-- The round changes the sources alone. -/
theorem refreshReady_sources (s : State) : refreshReady s = { s with hif := { s.hif with sources := (refreshReady s).hif.sources } } :=
  (keepsRunning_refreshReady s).1

@[simp] theorem ring_refreshReady (r : Nat) (s : State) : ring r (refreshReady s) = ring r s := by
  unfold ring
  rw [refreshReady_sources]

@[simp] theorem sessions_refreshReady (s : State) : (refreshReady s).hif.sessions = s.hif.sessions := by rw [refreshReady_sources]

theorem onlyHost_refreshReady {s t : State} (h : OnlyHost s t) : OnlyHost s (refreshReady t) := by
  unfold OnlyHost
  rw [refreshReady_hif, h]

theorem onlyHost_modSource (q : Nat) (f : Source → Source) (s : State) : OnlyHost s (modSource q f s) := rfl

theorem onlyHost_of_hif {s t : State} (h : t = { s with hif := t.hif }) : OnlyHost s t := by
  unfold OnlyHost
  generalize t.hif = x at h
  subst h
  rfl

/-! ## Records leave the capture sessions -/

@[simp] theorem sessions_coalesce (r n : Nat) (s : State) : (coalesce r n s).hif.sessions = s.hif.sessions := by
  simp only [coalesce]
  split <;> rfl

@[simp] theorem sessions_postCompletion (q : Nat) (c : Completion) (s : State) : (postCompletion q c s).hif.sessions = s.hif.sessions := by
  simp only [postCompletion]
  split
  · split
    · simp only [cplWrite, sessions_coalesce]
    · rfl
  · rfl

@[simp] theorem sessions_releaseRing (q : Nat) (s : State) : (releaseRing q s).hif.sessions = s.hif.sessions := by
  unfold releaseRing
  split <;> rfl

@[simp] theorem sessions_writeBuffer (x : Desc) (b : List Byte) (s : State) : (writeBuffer x b s).hif.sessions = s.hif.sessions := by
  unfold writeBuffer
  split <;> rfl

/-! ## The record of an end -/

theorem source_handedOver_same {q : Nat} (r : Running) (f : Finish) (s : State) (hq : q < 22) :
    source q (handedOver q r f s) = { source q s with running := none } := by
  simp only [handedOver, source_releaseRing, source_postCompletion, source_writeBuffer, source_modSource_same _ _ _ hq]

theorem source_handedOver_ne {p q : Nat} (r : Running) (f : Finish) (s : State) (h : p ≠ q) : source p (handedOver q r f s) = source p s := by
  simp only [handedOver, source_releaseRing, source_postCompletion, source_writeBuffer, source_modSource_ne _ _ _ _ h]

@[simp] theorem sessions_handedOver (q : Nat) (r : Running) (f : Finish) (s : State) : (handedOver q r f s).hif.sessions = s.hif.sessions := by
  simp only [handedOver, sessions_releaseRing, sessions_postCompletion, sessions_writeBuffer, modSource_hif]

theorem delivered_handedOver (q : Nat) (r : Running) (f : Finish) (s : State) : Delivered r.desc f.data (handedOver q r f s) := by
  unfold handedOver Delivered
  rw [dataWritten_releaseRing, dataWritten_postCompletion]
  exact delivered_writeBuffer _ _ _

/-! ## A command whose settings are not stored (R589, R636) -/

/-- The opcode's settings are neither stored nor undone, and no standby hears of it. -/
def Unstored (code : Nat) : Prop := forwarded (BitVec.ofNat 16 code).toNat = false

theorem accept_unstored {code : Nat} (h : Unstored code) (d : Desc) (s : State) : accept (coded code d) s = s := by
  have hf : forwarded (coded code d).opcode.toNat = false := h
  simp only [forwarded, Bool.or_eq_false_iff] at hf
  obtain ⟨hg, hl⟩ := hf
  have h0 : (coded code d).opcode.toNat ≠ 0x0112 := fun e => by rw [e] at hl; exact absurd hl (by decide)
  have hn := Option.isSome_eq_false_iff.mp hg
  simp only [accept, h0, hn, if_true, if_false, ite_self]

/-- A command whose first step is its end hands its record over, and nothing follows. -/
theorem submitRow_ends {code : Nat} {op : Op} {d : Desc} {s s' : State} {f : Finish} (hb : Begins code d s) (hc : Unstored code)
    (hop : op (starting code d s) (stepping code d s) = (.final f, s')) (hf : ¬ Unread f) (ht : s'.slowTicks = s.slowTicks) :
    submitRow code op d s = refreshReady (handedOver d.ring.val (starting code d s) f s') := by
  rw [submit_begins _ _ _ _ hb, hop]
  refine congrArg refreshReady ?_
  refine (finishRunning_intime _ _ _ _ rfl ht.le).trans ((endEffects_outside hb.outside (.inr hc) rfl rfl hf rfl).trans ?_)
  rw [accept_unstored hc, ite_self]
  rfl

/-- What the end of a command leaves of the state in which its effect left the device. -/
structure Ended (d : Desc) (f : Finish) (s' t : State) : Prop where
  hif : t = { s' with hif := t.hif }
  delivered : Delivered d f.data t
  sessions : t.hif.sessions = s'.hif.sessions
  others : ∀ p, p ≠ d.ring.val → SameWork (source p s') (source p t)

theorem ended_handedOver {code : Nat} {d : Desc} {s : State} (f : Finish) (s' : State) :
    Ended d f s' (refreshReady (handedOver d.ring.val (starting code d s) f s')) where
  hif := by rw [refreshReady_hif, handedOver_hif]
  delivered := by
    have h := delivered_handedOver d.ring.val (starting code d s) f s'
    unfold Delivered at h ⊢
    rw [(keepsRunning_refreshReady _).dataWritten]
    exact h
  sessions := by rw [sessions_refreshReady, sessions_handedOver]
  others p hp := by
    have h := sameWork_refreshReady p (handedOver d.ring.val (starting code d s) f s')
    rwa [source_handedOver_ne _ _ _ hp] at h

theorem answered_handedOver {code : Nat} {d : Desc} {s : State} (f : Finish) (s' : State) :
    Answered code d f.status f.detail f.result (refreshReady (handedOver d.ring.val (starting code d s) f s')) := by
  have hq : d.ring.val < 22 := d.ring.isLt
  have hk := keepsRunning_refreshReady (handedOver d.ring.val (starting code d s) f s')
  obtain ⟨p, n, hl⟩ := handedOver_lastRecord (starting code d s) f s' hq
  exact ⟨_, (hk.lastRecord _).trans hl, rfl, rfl, rfl, rfl, rfl, rfl, (hk.2 _).trans (handedOver_source _ _ _ hq)⟩

theorem exec_ended {code : Nat} {i : Instr} {op : Op} {d : Desc} {s s' : State} {f : Finish} (hx : exec i s = .next (submitRow code op d s))
    (hb : Begins code d s) (hc : Unstored code) (hop : op (starting code d s) (stepping code d s) = (.final f, s')) (hf : ¬ Unread f)
    (ht : s'.slowTicks = s.slowTicks) : ∃ t, exec i s = .next t ∧ Answered code d f.status f.detail f.result t ∧ Ended d f s' t :=
  ⟨_, hx.trans (congrArg _ (submitRow_ends hb hc hop hf ht)), answered_handedOver f s', ended_handedOver f s'⟩

end Sys2Proof.Proofs
end

/-! # The commands that read -/
section
namespace Sys2Proof.Proofs

open Sys2Proof Sys2Proof.Machine Sys2Proof.Safety Sys2Proof.Laws

/-! ## What an effect that reads may do -/

/-- An effect that ends its command at once with what it has read, and leaves the state but for the count of free values taken (log entry 4). -/
def Reads (effect : Running → State → Ans × State) : Prop :=
  ∀ r s, ∃ res data n, effect r s = (doneData res data, { s with freeCtr := n })

theorem reads_pure (res : Running → State → BitVec 128) (data : Running → State → List Byte) : Reads (fun r s => (doneData (res r s) (data r s), s)) :=
  fun r s => ⟨res r s, data r s, s.freeCtr, rfl⟩

theorem reads_engineStatus : Reads effectEngineStatus := by
  intro r s
  simp only [effectEngineStatus]
  split
  · exact ⟨_, _, s.freeCtr, rfl⟩
  · split <;> exact ⟨_, _, s.freeCtr, rfl⟩

theorem reads_faultStatus : Reads effectFaultStatus := by
  intro r s
  simp only [effectFaultStatus]
  split
  · split <;> exact ⟨_, _, s.freeCtr, rfl⟩
  · exact ⟨_, _, s.freeCtr, rfl⟩

theorem reads_gbTailStatus : Reads effectGbTailStatus := by
  intro r s
  simp only [effectGbTailStatus]
  split <;> exact ⟨_, _, s.freeCtr, rfl⟩

/-- The CRC over the route table is a free value. -/
theorem reads_fabricStatus : Reads effectFabricStatus := by
  intro r s
  simp only [effectFabricStatus]
  split
  · exact ⟨_, _, s.freeCtr + 1, rfl⟩
  · exact ⟨_, _, s.freeCtr, rfl⟩

/-! ## A query past its checks -/

/-- A query's answer: DONE with what it read, its buffer delivered, and nothing changed but the host interface. -/
def ReadsOut (i : Instr) (k : Query) (s : State) : Prop :=
  ∃ t, exec i s = .next t ∧ OnlyHost s t ∧
    Answered k.code k.desc .done 0 (k.reads (starting k.code k.desc s) (stepping k.code k.desc s)).1 t ∧
    Delivered k.desc (k.reads (starting k.code k.desc s) (stepping k.code k.desc s)).2 t

theorem onlyHost_stepping (code : Nat) (d : Desc) (s : State) : OnlyHost s (stepping code d s) := onlyHost_of_hif (stepping_hif code d s)

theorem onlyHost_freeCtr (n : Nat) (s : State) : OnlyHost s { s with freeCtr := n } := rfl

theorem onlyHost_trans {s t u : State} (h : OnlyHost s t) (h' : OnlyHost t u) : OnlyHost s u := by
  unfold OnlyHost at *
  rw [h', h]

theorem readsOut {code : Nat} {check : Running → State → Option Reject} {effect : Running → State → Ans × State} {i : Instr} {d : Desc} {s : State}
    (he : Reads effect) (hc : Unstored code) (hx : exec i s = .next (submitRow code (guarded check effect) d s)) (hp : Passes code check d s) :
    ReadsOut i { code := code, desc := d, check := check, reads := answerOf effect } s := by
  obtain ⟨hb, hk⟩ := hp
  obtain ⟨res, data, n, hr⟩ := he (starting code d s) (stepping code d s)
  have hop := (guarded_pass effect hk).trans hr
  have hv : answerOf effect (starting code d s) (stepping code d s) = (res, data) := by simp only [answerOf, hr, doneData]
  obtain ⟨t, ht, ha, hend⟩ := exec_ended hx hb hc hop (read_of_detail_zero rfl) (by rw [stepping_hif])
  refine ⟨t, ht, ?_, ?_, ?_⟩
  · exact onlyHost_trans (onlyHost_trans (onlyHost_stepping code d s) (onlyHost_freeCtr n _)) (onlyHost_of_hif hend.hif)
  · simp only [hv]; exact ha
  · simp only [hv]; exact hend.delivered

/-- Settles O16: each query's effect answers with what it reads. -/
theorem queriesAnswer : Obligations.QueriesAnswer := by
  intro i k s hk hp
  show ReadsOut i k s
  unfold queryOf at hk
  split at hk <;> cases hk
  -- ENGINE_STATUS, FAULT_STATUS, GB_TAIL_STATUS and FABRIC_STATUS answer by cases; what the others answer is one value of the state.
  case h_10 => exact readsOut reads_engineStatus rfl rfl hp
  case h_19 => exact readsOut reads_faultStatus rfl rfl hp
  case h_20 => exact readsOut reads_gbTailStatus rfl rfl hp
  case h_24 => exact readsOut reads_fabricStatus rfl rfl hp
  all_goals exact readsOut (reads_pure _ _) rfl rfl hp

/-! ## NOP (R116) -/

/-- A number whose lowest bytes are all zero is a multiple of their weight. -/
theorem dvd_of_bytes_zero (n k : Nat) (h : ∀ i < k, byteField n i 1 = 0) : 2 ^ (8 * k) ∣ n := by
  induction k with
  | zero => exact one_dvd n
  | succ k ih =>
    obtain ⟨m, rfl⟩ := ih (fun i hi => h i (by omega))
    have hb := h k (Nat.lt_succ_self k)
    rw [byteField, Nat.shiftRight_eq_div_pow, Nat.mul_div_cancel_left _ (Nat.two_pow_pos _)] at hb
    rw [Nat.mul_succ, pow_add]
    exact Nat.mul_dvd_mul_left _ (Nat.dvd_of_mod_eq_zero hb)

theorem eq_zero_of_bytes_zero {k : Nat} (x : BitVec (8 * k)) (h : ∀ i < k, byteField x.toNat i 1 = 0) : x = 0 :=
  BitVec.eq_of_toNat_eq (Nat.eq_zero_of_dvd_of_lt (dvd_of_bytes_zero _ _ h) x.isLt)

/-- A command that uses no byte of its parameters finds them all zero or not. -/
theorem paramsReserved_nil (d : Desc) : paramsReserved [] d = true ↔ d.params = 0 := by
  have hb : paramsReserved [] d = true ↔ ∀ i < 40, par d i 1 = 0 := by simp [paramsReserved]
  rw [hb]
  refine ⟨eq_zero_of_bytes_zero (k := 40) d.params, fun h i _ => ?_⟩
  rw [par, h, byteField, BitVec.ofNat_eq_ofNat, BitVec.toNat_zero, Nat.zero_shiftRight, Nat.zero_mod]

theorem checkBare_none {r : Running} {s : State} (hf : r.desc.flags.toNat < 8) (hc : r.desc.flags.getLsbD 1 = false) (hp : r.desc.params = 0)
    (hl : r.desc.dataLen = 0) : checkBare r s = none := by
  have h8 : decide (8 ≤ r.desc.flags.toNat) = false := decide_eq_false (by omega)
  simp only [checkBare, common, useCount, h8, hc, (paramsReserved_nil r.desc).2 hp, hl]
  rfl

theorem checkBare_reserved {r : Running} {s : State} (hf : r.desc.flags.toNat < 8) (hc : r.desc.flags.getLsbD 1 = false) (hp : r.desc.params ≠ 0) :
    checkBare r s = some (.rejectedParam, detReserved) := by
  have hr : paramsReserved [] r.desc = false := Bool.eq_false_iff.mpr (fun h => hp ((paramsReserved_nil r.desc).1 h))
  have h8 : decide (8 ≤ r.desc.flags.toNat) = false := decide_eq_false (by omega)
  simp only [checkBare, common, useCount, h8, hc, hr]
  rfl

theorem guarded_refused {check : Running → State → Option Reject} (effect : Running → State → Ans × State) {r : Running} {s : State} {e : Reject}
    (h : check r s = some e) : guarded check effect r s = (refuse e, s) := by
  simp only [guarded, h]

/-- A command whose first step leaves the state as it is, and whose end nothing follows, changes the host interface alone. -/
theorem exec_ends_alone {code : Nat} {i : Instr} {op : Op} {d : Desc} {s : State} {f : Finish} (hx : exec i s = .next (submitRow code op d s))
    (hb : Begins code d s) (hc : Unstored code) (hop : op (starting code d s) (stepping code d s) = (.final f, stepping code d s)) (hf : ¬ Unread f) :
    ∃ t, exec i s = .next t ∧ Answered code d f.status f.detail f.result t ∧ OnlyHost s t := by
  obtain ⟨t, ht, ha, he⟩ := exec_ended hx hb hc hop hf (by rw [stepping_hif])
  exact ⟨t, ht, ha, onlyHost_trans (onlyHost_stepping code d s) (onlyHost_of_hif he.hif)⟩

/-- Settles O15: the checks of a command without parameters, and the effect that ends it. -/
theorem nopAnswers : Obligations.NopAnswers := by
  intro d s hb hf hc
  refine ⟨fun hp hl => ?_, fun hp => ?_⟩
  · exact exec_ends_alone (op := opNop) rfl hb rfl (guarded_pass _ (checkBare_none hf hc hp hl)) (read_of_detail_zero rfl)
  · exact exec_ends_alone (op := opNop) rfl hb rfl (guarded_refused _ (checkBare_reserved hf hc hp)) (by simp [Unread, detReserved, detHostRead])

end Sys2Proof.Proofs
end

/-! # Rings, their doorbells and their enables -/
section
namespace Sys2Proof.Proofs

open Sys2Proof Sys2Proof.Machine Sys2Proof.Safety Sys2Proof.Laws

/-! ## A ring that enters ERROR (R107) -/

/-- RING_ERROR goes to EVQ0 (R100). -/
theorem eventQueue_severe {e : EventRec} (h : 2 ≤ e.severity) : eventQueue e = 0 := if_pos (.inl h)

/-- A ring that is not active takes no event: it counts the loss (R101). -/
theorem postEntry_inactive {e : EventRec} (b : Bool) (w : Word) {s : State} (h : (ring (40 + eventQueue e) s).state ≠ .active) :
    postEntry e b w s = modRing (40 + eventQueue e) (fun g => { g with lost := satAdd 16 g.lost 1, lostSince := satAdd 16 g.lostSince 1 }) s := by
  have hs : ((ring (40 + eventQueue e) s).state == .active) = false := beq_false_of_ne h
  simp only [postEntry, hs, Bool.false_and, Bool.false_eq_true, if_false]

theorem ring_ringError_same {r : Nat} (c : Nat) (s : State) (hr : r < 42) :
    ∃ l m, ring r (ringError r c s) = { (ring r s).fail c with lost := l, lostSince := m } := by
  have hf : ring r (raiseVector 63 (modRing r (Ring.fail c) s)) = (ring r s).fail c := ring_modRing_same r _ s hr
  unfold ringError postEvent
  generalize raiseVector 63 (modRing r (Ring.fail c) s) = t at hf ⊢
  have hq : eventQueue (eventAt t 0x0001 2 0xFFFF (payload 16 [(0, 1, r), (1, 1, c)])) = 0 := eventQueue_severe (le_refl 2)
  by_cases h : r = 40
  · subst h
    rw [postEntry_inactive _ _ (by rw [hq, hf]; exact RingState.noConfusion), hq, ring_modRing_same _ _ _ hr, hf]
    exact ⟨_, _, rfl⟩
  · rw [ring_postEntry_ne _ _ _ _ _ (by rw [hq]; exact h), hf]
    exact ⟨_, _, rfl⟩

/-! ## Doorbells (R75) -/

theorem ofNat_mod_half (n : Nat) : BitVec.ofNat 16 (n % 65536) = BitVec.ofNat 16 n := BitVec.eq_of_toNat_eq (by simp)

/-- An index within range becomes the host index, and the doorbell takes the next number (R74, R87). -/
def takeIndex (q : Nat) (v : Word) (s : State) : State :=
  modHif (fun h => { h with doorbellOrder := h.doorbellOrder + 1 })
    (modRing q (fun g => { g with doorbell := BitVec.ofNat 16 v.toNat, hostIndex := v.toNat % 65536 }) s)

/-- The descriptors that the last doorbell made visible. -/
def markVisible (q n : Nat) (s : State) : State :=
  if n = 0 then s else modSource q (fun x => { x with marks := x.marks ++ [(n, s.hif.doorbellOrder)] }) s

theorem ring_takeIndex {q : Nat} (v : Word) (s : State) (hq : q < 42) :
    ring q (takeIndex q v s) = { ring q s with doorbell := BitVec.ofNat 16 v.toNat, hostIndex := v.toNat % 65536 } := ring_modRing_same q _ s hq

theorem ring_markVisible (r q n : Nat) (s : State) : ring r (markVisible q n s) = ring r s := by
  unfold markVisible
  split <;> rfl

theorem marks_markVisible {q n : Nat} (s : State) (hq : q < 22) (hn : n ≠ 0) :
    (source q (markVisible q n s)).marks = (source q s).marks ++ [(n, s.hif.doorbellOrder)] := by
  rw [markVisible, if_neg hn, source_modSource_same _ _ _ hq]

theorem onlyHost_markVisible (q n : Nat) (v : Word) (s : State) : OnlyHost s (markVisible q n (takeIndex q v s)) := by
  unfold markVisible
  split <;> rfl

section
variable {q : Fin 16} {r : Fin 26} {v : Word} {s : State} (hu : hostUp s = true)
include hu

theorem exec_cmdqDoorbell_off (h : (ring q s).enable = false) :
    exec (.cmdqDoorbell q v) s = .next (modRing q.val (fun g => { g with doorbell := BitVec.ofNat 16 v.toNat }) s) := by
  show execCmdqDoorbell q v s = _
  simp only [execCmdqDoorbell, hu, h, ofNat_mod_half, Bool.not_true, Bool.not_false, Bool.false_eq_true, if_false, if_true]

theorem exec_cmdqDoorbell_out (h : (ring q s).enable = true) (hi : (ring q s).size ≤ v.toNat % 65536) :
    exec (.cmdqDoorbell q v) s = .next (ringError q.val 2 s) := by
  show execCmdqDoorbell q v s = _
  simp only [execCmdqDoorbell, hu, h, hi, Bool.not_true, Bool.false_eq_true, if_false, if_true]

theorem exec_consumerDoorbell_off (h : (ring (16 + r.val) s).enable = false) :
    exec (.consumerDoorbell r v) s = .next (modRing (16 + r.val) (fun g => { g with doorbell := BitVec.ofNat 16 v.toNat }) s) := by
  show execConsumerDoorbell r v s = _
  simp only [execConsumerDoorbell, hu, h, ofNat_mod_half, Bool.not_true, Bool.not_false, Bool.false_eq_true, if_false, if_true]

theorem exec_consumerDoorbell_out (h : (ring (16 + r.val) s).enable = true) (hi : (ring (16 + r.val) s).size ≤ v.toNat % 65536) :
    exec (.consumerDoorbell r v) s = .next (ringError (16 + r.val) 2 s) := by
  show execConsumerDoorbell r v s = _
  simp only [execConsumerDoorbell, hu, h, hi, Bool.not_true, Bool.false_eq_true, if_false, if_true]

theorem exec_cmdqDoorbell_in (h : (ring q s).enable = true) (hi : v.toNat % 65536 < (ring q s).size) :
    exec (.cmdqDoorbell q v) s = .next (markVisible q.val
      ((v.toNat % 65536 + (ring q s).size - (ring q s).hostIndex) % (ring q s).size) (takeIndex q.val v s)) := by
  show execCmdqDoorbell q v s = _
  simp only [execCmdqDoorbell, hu, h, hi.not_ge, ofNat_mod_half, Bool.not_true, Bool.false_eq_true, if_false]
  rfl

end

/-! ## A ring's enable (R69-R73) -/

@[simp] theorem ring_clearEntries (k r : Nat) (s : State) : ring k (clearEntries r s) = ring k s := by
  simp only [ring, clearEntries, modHif]
  split_ifs <;> rfl

@[simp] theorem resetSeenPending_clearEntries (r : Nat) (s : State) : (clearEntries r s).hif.resetSeenPending = s.hif.resetSeenPending := by
  simp only [clearEntries, modHif]
  split_ifs <;> rfl

/-- A ring just enabled (R71). -/
def opened (now : Nat) (g : Ring) : Ring :=
  { g with enable := true, state := .active, devIndex := 0, hostIndex := 0, phase := true, lost := 0, armed := true, oldestAt := now }

/-- A ring opened and emptied. -/
def opening (r : Nat) (s : State) : State := clearEntries r (modRing r (opened s.now) (if 32 ≤ r ∧ r < 40 then setGap (r - 32) 0 s else s))

theorem enableRing_eq (r : Nat) (s : State) : enableRing r s =
    if r < 16 ∧ (ring (16 + boundRing r (opening r s)) (opening r s)).enable = false then ringError r 4 (opening r s)
    else if r = 41 then postResetSeen (opening r s) else opening r s := by
  unfold opening
  split <;> simp only [enableRing, *] <;> rfl

theorem ring_gap (k r : Nat) (s : State) : ring k (if 32 ≤ r ∧ r < 40 then setGap (r - 32) 0 s else s) = ring k s := by
  split <;> rfl

theorem ring_opening_same {r : Nat} (s : State) (h : r < 42) : ring r (opening r s) = opened s.now (ring r s) := by
  rw [opening, ring_clearEntries, ring_modRing_same _ _ _ h, ring_gap]

theorem ring_opening_ne {k r : Nat} (s : State) (h : k ≠ r) : ring k (opening r s) = ring k s := by
  rw [opening, ring_clearEntries, ring_modRing_ne _ _ _ _ h, ring_gap]

theorem boundRing_opening {r : Nat} (s : State) (h : r < 42) : boundRing r (opening r s) = boundRing r s := by
  rw [boundRing, ring_opening_same s h]
  rfl

theorem resetSeenPending_opening (r : Nat) (s : State) : (opening r s).hif.resetSeenPending = s.hif.resetSeenPending := by
  rw [opening, resetSeenPending_clearEntries]
  split <;> rfl

/-- A command ring bound to an enabled completion ring opens. -/
theorem enableRing_command {r : Nat} {s : State} (hr : r < 16) (h : (ring (16 + boundRing r s) s).enable = true) : enableRing r s = opening r s := by
  rw [enableRing_eq, boundRing_opening s (by omega), ring_opening_ne s (by omega), if_neg (fun hc => by simp [h] at hc), if_neg (by omega)]

/-- A device-written ring opens; on EVQ1 a reset of the interface may still have to be told (R111). -/
theorem enableRing_device {r : Nat} {s : State} (hr : 16 ≤ r) (h : r ≠ 41 ∨ s.hif.resetSeenPending = false) : enableRing r s = opening r s := by
  rw [enableRing_eq, if_neg (by omega)]
  rcases h with h | h
  · rw [if_neg h]
  · simp only [postResetSeen, resetSeenPending_opening, h, Bool.false_eq_true, if_false, ite_self]

theorem doorbell_configured (b : Bool) (cfg : Word) (g : Ring) : (g.configured b cfg).doorbell = g.doorbell := by
  simp only [Ring.configured]
  split_ifs <;> rfl

theorem enableBit_or (cfg : Word) : (cfg ||| 0x20).getLsbD 5 = true := by simp

theorem exec_ringEnable {r : Nat} (hr : r < 42) {cfg : Word} {s : State} (hu : hostUp s = true) (h : (ring r s).enable = false) :
    exec (.ringEnable ⟨r, hr⟩ cfg) s = .next (refreshReady (enableRing r (modRing r (Ring.configured (decide (r < 16)) (cfg ||| 0x20)) s))) := by
  show execRingEnable ⟨r, hr⟩ cfg s = _
  simp only [execRingEnable, writeRingCfg, hu, h, enableBit_or, Bool.true_or, Bool.not_false, Bool.and_true, if_true]

/-- What a ring holds that a write has enabled. -/
theorem ring_enabled {r : Nat} (cfg : Word) {s : State} (hr : r < 42) :
    ring r (refreshReady (opening r (modRing r (Ring.configured (decide (r < 16)) cfg) s))) =
      opened s.now ((ring r s).configured (decide (r < 16)) cfg) := by
  rw [ring_refreshReady, ring_opening_same _ hr, ring_modRing_same _ _ _ hr]
  rfl

/-- Settles O6: the branches of the two doorbells, and a ring opened by its enable. -/
theorem commandDoorbell : Obligations.CommandDoorbell := by
  intro q r v cfg s hu
  have hq : q.val < 42 := by omega
  have hr : 16 + r.val < 42 := by omega
  refine ⟨fun h hi => ?_, fun h => ?_, fun h hi => ?_, fun h hi => ?_, fun h => ?_, fun h hb => ?_, fun h hp => ?_⟩
  · obtain ⟨l, m, he⟩ := ring_ringError_same 2 s hq
    refine ⟨_, exec_cmdqDoorbell_out hu h hi, ?_⟩
    rw [he]
    exact ⟨rfl, rfl, rfl, rfl, source_ringError _ _ _ _, onlyHost_of_hif (ringError_hif _ _ _)⟩
  · exact ⟨_, exec_cmdqDoorbell_off hu h, ring_modRing_same _ _ _ hq, rfl, rfl⟩
  · refine ⟨_, exec_cmdqDoorbell_in hu h hi, (ring_markVisible _ _ _ _).trans (ring_takeIndex v s hq), fun hn => ?_, onlyHost_markVisible _ _ _ _⟩
    exact marks_markVisible (takeIndex q.val v s) (by omega) hn
  · obtain ⟨l, m, he⟩ := ring_ringError_same 2 s hr
    refine ⟨_, exec_consumerDoorbell_out hu h hi, ?_⟩
    rw [he]
    exact ⟨rfl, rfl, rfl, onlyHost_of_hif (ringError_hif _ _ _)⟩
  · exact ⟨_, exec_consumerDoorbell_off hu h, ring_modRing_same _ _ _ hr, rfl⟩
  · refine ⟨_, exec_ringEnable hq hu h, ?_⟩
    rw [enableRing_command q.isLt, ring_enabled _ hq]
    · exact ⟨rfl, rfl, rfl, rfl, rfl, doorbell_configured _ _ _⟩
    · rw [ring_modRing_ne _ _ _ _ (by omega), decide_eq_true q.isLt]
      exact hb
  · have hp' : 16 + r.val ≠ 41 ∨ s.hif.resetSeenPending = false := hp.imp_left (fun h => by omega)
    refine ⟨_, exec_ringEnable hr hu h, ?_⟩
    rw [enableRing_device (s := modRing _ _ s) (Nat.le_add_right 16 _) hp', ring_enabled _ hr]
    exact ⟨rfl, rfl, rfl, doorbell_configured _ _ _⟩

/-- A write of 0 to the enable field of a completion ring that stays bound leaves it enabled (R73). -/
theorem exec_ringDisable_bound {q : Fin 16} {v : Word} {s : State} (hu : hostUp s = true) (he : (ring (16 + q.val) s).enable = true)
    (hb : boundEnabled q.val s = true) : exec (.ringDisable ⟨16 + q.val, by omega⟩ v) s =
      .next (refreshReady (modRing (16 + q.val) (Ring.configured false (v &&& ~~~0x20)) s)) := by
  have h1 : decide (16 ≤ 16 + q.val) = true := decide_eq_true (by omega)
  have h2 : decide (16 + q.val < 32) = true := decide_eq_true (by omega)
  have h3 : decide (16 + q.val < 16) = false := decide_eq_false (by omega)
  show execRingDisable ⟨16 + q.val, by omega⟩ v s = _
  simp only [execRingDisable, writeRingCfg, hu, he, h1, h2, h3, Nat.add_sub_cancel_left, hb, Bool.and_true, Bool.or_true, Bool.not_true, Bool.and_false,
    Bool.false_eq_true, if_false, if_true]

theorem boundEnabled_of_ring {p q : Fin 16} {s : State} (he : (ring p.val s).enable = true) (hb : (ring p.val s).cplRing = q) :
    boundEnabled q.val s = true :=
  List.any_eq_true.mpr ⟨p.val, List.mem_range.mpr p.isLt, by rw [he, hb, beq_self_eq_true]; rfl⟩

/-- Fields of a device-written ring that a write of its configuration leaves while it is enabled (R70). -/
theorem configured_enabled {g : Ring} (cfg : Word) (h : g.enable = true) : g.configured false cfg =
    { g with msixVector := cfg.extractLsb' 12 6, irqEnable := cfg.getLsbD 18, coalesceCount := cfg.extractLsb' 24 8 } := by
  simp only [Ring.configured, h, if_true, Bool.false_eq_true, if_false]

/-- Settles O10: the ring that is bound keeps its enable, and a write of its other fields is left. -/
theorem boundRingStays : Obligations.BoundRingStays := by
  intro p q v r s hu hp hb he
  have hr := ring_modRing_same (16 + q.val) (Ring.configured false (v &&& ~~~0x20)) s (by omega)
  rw [configured_enabled _ he] at hr
  refine ⟨_, exec_ringDisable_bound hu he (boundEnabled_of_ring hp hb), onlyHost_refreshReady rfl, ?_⟩
  simp only [ring_refreshReady, hr]
  exact ⟨he, trivial, trivial, trivial, trivial, fun h => ring_modRing_ne _ _ _ _ h⟩

end Sys2Proof.Proofs
end

/-! # Fetching, grants, timeouts and waiting records -/
section
namespace Sys2Proof.Proofs

open Sys2Proof Sys2Proof.Machine Sys2Proof.Safety Sys2Proof.Laws

/-! ## DESCRIPTOR_FETCH (R75, R107) -/

/-- A descriptor fetched moves its ring's indices and joins its source; a doorbell's number may be taken for it. -/
theorem enqueue_eq (q : Nat) (x : Desc) (s : State) : ∃ rings n f, (∀ v : Source, (f v).fetched.map (·.desc) = v.fetched.map (·.desc) ++ [x]) ∧
    enqueue q x s = modSource q f { s with hif := { s.hif with rings := rings, doorbellOrder := n } } := by
  simp only [enqueue]
  split_ifs <;> exact ⟨_, _, _, fun v => by rw [List.map_append]; rfl, rfl⟩

theorem onlyHost_enqueue (q : Nat) (x : Desc) (s : State) : OnlyHost s (enqueue q x s) := by
  obtain ⟨_, _, _, -, h⟩ := enqueue_eq q x s
  rw [h]
  rfl

theorem fetched_enqueue {q : Nat} (x : Desc) (s : State) (hq : q < 22) :
    (source q (enqueue q x s)).fetched.map (·.desc) = (source q s).fetched.map (·.desc) ++ [x] := by
  obtain ⟨_, _, _, hf, h⟩ := enqueue_eq q x s
  rw [h, source_modSource_same _ _ _ hq, hf]
  rfl

theorem ring_hostError (r : Nat) (s : State) : ring r (hostError s) = ring r s := rfl

theorem source_hostError (q : Nat) (s : State) : source q (hostError s) = source q s := rfl

section
variable {q : Fin 16} {s : State} (hf : fetches q.val s = true) (hm : (source q.val s).marks ≠ [])
include hf hm

theorem exec_descriptorFetch_some (x : Desc) :
    exec (.descriptorFetch q (some x)) s = .next (refreshReady (enqueue q.val { x with ring := Fin.castLE (by omega) q } s)) :=
  congrArg Host.Outcome.next (if_pos (by simp [hf, hm]))

theorem exec_descriptorFetch_none : exec (.descriptorFetch q none) s = .next (hostError (ringError q.val 1 s)) :=
  congrArg Host.Outcome.next (if_pos (by simp [hf, hm]))

theorem fetch_joins (x : Desc) : ∃ t, exec (.descriptorFetch q (some x)) s = .next t ∧ OnlyHost s t ∧
    ((source q.val t).fetched.map (·.desc)) = (source q.val s).fetched.map (·.desc) ++ [{ x with ring := Fin.castLE (by omega) q }] := by
  refine ⟨_, exec_descriptorFetch_some hf hm x, onlyHost_refreshReady (onlyHost_enqueue _ _ _), ?_⟩
  obtain ⟨-, hfetched, -, -⟩ := sameWork_refreshReady q.val (enqueue q.val { x with ring := Fin.castLE (by omega) q } s)
  rw [hfetched, fetched_enqueue _ _ (by omega)]

theorem fetch_fails : ∃ t, exec (.descriptorFetch q none) s = .next t ∧ (ring q.val t).state = .error ∧ (ring q.val t).errorCause = 1 ∧
    (source q.val t).fetched = (source q.val s).fetched := by
  obtain ⟨l, m, he⟩ := ring_ringError_same 1 s (r := q.val) (by omega)
  refine ⟨_, exec_descriptorFetch_none hf hm, ?_⟩
  rw [ring_hostError, he, source_hostError, source_ringError]
  exact ⟨rfl, rfl, rfl⟩

end

/-! ## STEP_GRANT and RING_AGING (R88, R89) -/

theorem exec_stepGrant_chosen {k : Nat} {s : State} (hu : s.sys.coreUp = true) (h : chosen s = some k) :
    exec .stepGrant s = .next (refreshReady (serve k (granted k s))) := by
  show execStepGrant s = _
  simp only [execStepGrant, hu, h, Bool.not_true, Bool.false_eq_true, if_false]

theorem exec_stepGrant_none {s : State} (hu : s.sys.coreUp = true) (h : chosen s = none) : exec .stepGrant s = .next (refreshReady s) := by
  show execStepGrant s = _
  simp only [execStepGrant, hu, h, Bool.not_true, Bool.false_eq_true, if_false]

theorem stepGrant_none {s : State} (hu : s.sys.coreUp = true) (h : chosen s = none) : ∃ t, exec .stepGrant s = .next t ∧ OnlyHost s t ∧
    t.hif.rings = s.hif.rings ∧ t.hif.completions = s.hif.completions := by
  refine ⟨_, exec_stepGrant_none hu h, onlyHost_refreshReady rfl, ?_⟩
  rw [refreshReady_sources]
  exact ⟨rfl, rfl⟩

theorem priorityOf_aged {q : Nat} {s : State} (h : (source q s).aged = true) : priorityOf q s = 0 := if_pos h

theorem ringAging_ages {k : Fin 22} {s : State} (ha : s.hif.aging ≠ 0) (hg : grantable k.val s = true) :
    ∃ t, exec (.ringAging k) s = .next t ∧ priorityOf k.val t = 0 ∧ t = { s with hif := t.hif, now := t.now } := by
  refine ⟨_, congrArg Host.Outcome.next (if_neg (not_or.mpr ⟨ha, by simp [hg]⟩)), priorityOf_aged ?_, rfl⟩
  rw [source_modSource_same _ _ _ k.isLt]

/-! ## HARDWARE_WAIT_DONE (R90) -/

theorem running_hardwareDone {q : Nat} {want : Desc → Bool} {r : Running} (results : List Int) {s : State} (hq : q < 22)
    (hr : (source q s).running = some r) (hw : r.wait = .hardware) (hd : want r.desc = true) :
    (source q (hardwareDone q want results s)).running = some { r with wait := .none, results := results } := by
  have hit : (r.wait == .hardware && want r.desc) = true := by rw [hw, hd]; rfl
  unfold hardwareDone
  rw [source_modSource_same _ _ _ hq]
  simp only [hr, Option.map_some, hit, if_true]

theorem hardwareWaitDone_readies {k : Fin 22} {r : Running} (rs : List Int) {s : State} (hr : (source k.val s).running = some r)
    (hw : r.wait = .hardware) (hd : outsideWait r.desc = true) : ∃ t, exec (.hardwareWaitDone k rs) s = .next t ∧ OnlyHost s t ∧
      (source k.val t).running = some { r with wait := .none, results := rs } :=
  ⟨_, rfl, onlyHost_refreshReady rfl, ((keepsRunning_refreshReady _).2 _).trans (running_hardwareDone rs k.isLt hr hw hd)⟩

/-! ## COMMAND_TIMEOUT (R91, R92) -/

theorem onlyHost_postTimeout (q : Nat) (r : Running) (s : State) : OnlyHost s (postTimeout q r s) :=
  onlyHost_of_hif (by rw [postTimeout, releaseRing_hif, postCompletion_hif])

theorem source_postTimeout (p q : Nat) (r : Running) (s : State) : source p (postTimeout q r s) = source p s := by
  rw [postTimeout, source_releaseRing, source_postCompletion]

theorem lastRecord_postTimeout {q : Nat} (r : Running) (s : State) (hq : q < 22) :
    ∃ p n, lastRecord q (postTimeout q r s) = some { recordOf q r .timeout 0 0 none true with phase := p, cmdqHead := n } := by
  rw [postTimeout, lastRecord_releaseRing _ _ hq]
  exact lastRecord_postCompletion _ _ _ hq (boundRing_lt _ _)

theorem commandTimeout_continues {k : Fin 22} {r : Running} {s : State} (hr : (source k.val s).running = some r) (he : expired r s = true) :
    ∃ t, exec (.commandTimeout k) s = .next t ∧ OnlyHost s t ∧ (source k.val t).running = none ∧
      (source k.val t).continuing = (source k.val s).continuing ++ [r] ∧
      (∃ c, lastRecord k.val t = some c ∧ c.tag = r.desc.tag ∧ c.status = .timeout ∧ c.final = true) := by
  have hx : exec (.commandTimeout k) s = .next (postTimeout k.val r
      (modSource k.val (fun x => { x with running := none, continuing := x.continuing ++ [r] }) s)) := by
    show execCommandTimeout k s = _
    simp only [execCommandTimeout, hr, he, if_true]
  obtain ⟨p, n, hl⟩ := lastRecord_postTimeout r (modSource k.val (fun x => { x with running := none, continuing := x.continuing ++ [r] }) s) k.isLt
  refine ⟨_, hx, onlyHost_trans (onlyHost_modSource _ _ s) (onlyHost_postTimeout _ _ _), ?_, ?_, _, hl, rfl, rfl, rfl⟩
  all_goals rw [source_postTimeout, source_modSource_same _ _ _ k.isLt]

/-! ## RECORD_SPACE (R94) -/

/-- Records waiting for a completion ring. -/
def awaiting (k : Nat) (s : State) : Nat := (nth s.hif.waiting k []).length

/-- Records in a completion ring that the host has not consumed. -/
def posted (k : Nat) (s : State) : Nat := (nth s.hif.completions k []).length

/-- The oldest record that waits, written to its ring. -/
def drainOne (k : Nat) (c : Completion) (rest : List Completion) (s : State) : State :=
  cplWrite k c (modHif (fun h => { h with waiting := upd h.waiting k (fun _ => rest) }) s)

theorem awaiting_drainOne {k : Nat} (c : Completion) (rest : List Completion) (s : State) (hk : k < 16) :
    awaiting k (drainOne k c rest s) = rest.length := by
  simp only [awaiting, drainOne, cplWrite, waiting_coalesce, modHif_hif, nth_upd_same _ _ _ _ hk]

theorem posted_drainOne {k : Nat} (c : Completion) (rest : List Completion) (s : State) (hk : k < 16) :
    posted k (drainOne k c rest s) = posted k s + 1 := by
  simp only [posted, drainOne, cplWrite, completions_coalesce, modHif_hif, nth_upd_same _ _ _ _ hk, List.length_append, List.length_singleton]

theorem onlyHost_drainOne (k : Nat) (c : Completion) (rest : List Completion) (s : State) : OnlyHost s (drainOne k c rest s) :=
  onlyHost_of_hif (by rw [drainOne, cplWrite_hif]; rfl)

theorem drainWaiting_room {k : Nat} (n : Nat) {c : Completion} {rest : List Completion} {s : State} (hw : nth s.hif.waiting k [] = c :: rest)
    (hr : cplRoom k s = true) : drainWaiting k (n + 1) s = drainWaiting k n (drainOne k c rest s) := by
  simp only [drainWaiting, hw, hr, if_true]
  rfl

/-- Posting never adds to what waits and never takes from what is posted. -/
theorem drainWaiting_moves {k : Nat} (n : Nat) (s : State) (hk : k < 16) :
    OnlyHost s (drainWaiting k n s) ∧ awaiting k (drainWaiting k n s) ≤ awaiting k s ∧ posted k s ≤ posted k (drainWaiting k n s) := by
  induction n generalizing s with
  | zero => exact ⟨rfl, le_rfl, le_rfl⟩
  | succ n ih =>
    cases hw : nth s.hif.waiting k [] with
    | nil => simp only [drainWaiting, hw]; exact ⟨rfl, le_rfl, le_rfl⟩
    | cons c rest =>
      cases hr : cplRoom k s with
      | false => simp only [drainWaiting, hw, hr, Bool.false_eq_true, if_false]; exact ⟨rfl, le_rfl, le_rfl⟩
      | true =>
        obtain ⟨ho, ha, hp⟩ := ih (drainOne k c rest s)
        rw [awaiting_drainOne c rest s hk] at ha
        rw [posted_drainOne c rest s hk] at hp
        have hs : awaiting k s = rest.length + 1 := by rw [awaiting, hw, List.length_cons]
        rw [drainWaiting_room n hw hr]
        exact ⟨onlyHost_trans (onlyHost_drainOne k c rest s) ho, by omega, by omega⟩

theorem releaseAll_leaves (k : Nat) (s : State) : OnlyHost s ((List.range 16).foldl (fun s q => releaseRing q s) s) ∧
    awaiting k ((List.range 16).foldl (fun s q => releaseRing q s) s) = awaiting k s ∧
    posted k ((List.range 16).foldl (fun s q => releaseRing q s) s) = posted k s := by
  refine List.foldlRecOn (motive := fun t => OnlyHost s t ∧ awaiting k t = awaiting k s ∧ posted k t = posted k s) _ _ ⟨rfl, rfl, rfl⟩ ?_
  rintro t ⟨ho, ha, hp⟩ q -
  refine ⟨onlyHost_trans ho (onlyHost_of_hif (releaseRing_hif _ _)), ha ▸ ?_, hp ▸ ?_⟩
  all_goals unfold releaseRing; split <;> rfl

theorem recordSpace_posts {q : Fin 16} {s : State} (hw : nth s.hif.waiting q.val [] ≠ []) (hr : cplRoom q.val s = true) :
    ∃ t, exec (.recordSpace q) s = .next t ∧ OnlyHost s t ∧ awaiting q.val t < awaiting q.val s ∧ posted q.val s < posted q.val t := by
  obtain ⟨c, rest, hc⟩ := List.exists_cons_of_ne_nil hw
  have hs : awaiting q.val s = rest.length + 1 := by rw [awaiting, hc, List.length_cons]
  obtain ⟨ho, ha, hp⟩ := drainWaiting_moves rest.length (drainOne q.val c rest s) q.isLt
  rw [← drainWaiting_room _ hc hr, ← hs] at ho ha hp
  rw [awaiting_drainOne c rest s q.isLt] at ha
  rw [posted_drainOne c rest s q.isLt] at hp
  obtain ⟨ho', ha', hp'⟩ := releaseAll_leaves q.val (drainWaiting q.val (awaiting q.val s) s)
  refine ⟨_, rfl, onlyHost_refreshReady (onlyHost_trans (onlyHost_trans (onlyHost_drainOne q.val c rest s) ho) ho'), ?_⟩
  have hk (t : State) : awaiting q.val (refreshReady t) = awaiting q.val t ∧ posted q.val (refreshReady t) = posted q.val t := by
    unfold awaiting posted
    rw [refreshReady_sources]
    exact ⟨rfl, rfl⟩
  rw [(hk _).1, (hk _).2]
  exact ⟨ha'.trans_lt (by omega), lt_of_lt_of_eq (by omega) hp'.symm⟩

/-- Settles O9: each event's branch and what it leaves of its source, its ring and its records. -/
theorem stepsAndEnds : Obligations.StepsAndEnds := by
  intro q k x r rs s
  exact ⟨fun hf hm => fetch_joins hf hm x, fun hf hm => fetch_fails hf hm, fun hu hc => ⟨_, exec_stepGrant_chosen hu hc, rfl⟩, stepGrant_none,
    ringAging_ages, hardwareWaitDone_readies rs, fun _ => commandTimeout_continues, recordSpace_posts⟩

end Sys2Proof.Proofs
end

/-! # Capture sessions and CANCEL -/
section
namespace Sys2Proof.Proofs

open Sys2Proof Sys2Proof.Machine Sys2Proof.Safety Sys2Proof.Laws

/-! ## The state in which a command takes its first step -/

/-- A change of the host interface at one source's turn: it leaves the capture sessions, the default timeout and the other sources. -/
structure AtSource (q : Nat) (s t : State) : Prop where
  hif : t = { s with hif := t.hif }
  sessions : t.hif.sessions = s.hif.sessions
  timeoutDefault : t.hif.timeoutDefault = s.hif.timeoutDefault
  others : ∀ p, p ≠ q → source p t = source p s

theorem AtSource.trans {q : Nat} {s t u : State} (h : AtSource q s t) (h' : AtSource q t u) : AtSource q s u where
  hif := by rw [h'.hif, h.hif]
  sessions := h'.sessions.trans h.sessions
  timeoutDefault := h'.timeoutDefault.trans h.timeoutDefault
  others p hp := (h'.others p hp).trans (h.others p hp)

theorem atSource_modSource (q : Nat) (f : Source → Source) (s : State) : AtSource q s (modSource q f s) :=
  ⟨rfl, rfl, rfl, fun _ hp => source_modSource_ne _ _ _ _ hp⟩

theorem atSource_enqueue (q : Nat) (x : Desc) (s : State) : AtSource q s (enqueue q x s) := by
  obtain ⟨rings, n, f, -, h⟩ := enqueue_eq q x s
  rw [h]
  exact AtSource.trans (t := { s with hif := { s.hif with rings := rings, doorbellOrder := n } }) ⟨rfl, rfl, rfl, fun _ _ => rfl⟩
    (atSource_modSource _ _ _)

theorem atSource_granted (q : Nat) (s : State) : AtSource q s (granted q s) :=
  (atSource_modSource q _ s).trans ⟨rfl, rfl, rfl, fun _ _ => rfl⟩

theorem atSource_stepping (code : Nat) (d : Desc) (s : State) : AtSource d.ring.val s (stepping code d s) :=
  (((atSource_enqueue _ _ s).trans (atSource_granted _ _)).trans (atSource_modSource _ _ _)).trans (atSource_modSource _ _ _)

theorem source_stepping_ne {code : Nat} {d : Desc} {p : Nat} (s : State) (h : p ≠ d.ring.val) : source p (stepping code d s) = source p s :=
  (atSource_stepping code d s).others p h

theorem expired_stepping (code : Nat) (d : Desc) (r : Running) (s : State) : expired r (stepping code d s) = expired r s := by
  have h := atSource_stepping code d s
  unfold expired timeoutOf
  rw [h.timeoutDefault, h.hif]

theorem pastCommit_stepping (code : Nat) (d : Desc) (r : Running) (s : State) : pastCommit r (stepping code d s) = pastCommit r s := by
  rw [stepping_hif]
  rfl

/-! ## CAPTURE_START and CAPTURE_STOP (R119, R120) -/

theorem kept_of_onlyHost {s t : State} (h : OnlyHost s t) : t = Kept s t := by
  unfold OnlyHost at h
  generalize t.hif = x, t.freeCtr = y at h
  subst h
  rfl

/-- A command of capture past its checks ends DONE with the session as its effect left it, and changes the host interface alone. -/
theorem capture_does {code : Nat} {check : Running → State → Option Reject} {effect : Running → State → Ans × State} {i : Instr} {d : Desc} {s s' : State}
    {res : BitVec 128} {q : Nat} {v : Session} (hc : Unstored code) (hx : exec i s = .next (submitRow code (guarded check effect) d s))
    (he : effect (starting code d s) (stepping code d s) = (doneWith res, s')) (hs : s' = { stepping code d s with hif := s'.hif }) (hv : session q s' = v) :
    Does code check i d s res (fun t => session q t = v ∧ t = Kept s t) := by
  rintro ⟨hb, hk⟩
  obtain ⟨t, ht, ha, hend⟩ := exec_ended hx hb hc ((guarded_pass effect hk).trans he) (read_of_detail_zero rfl) (by rw [hs, stepping_hif])
  refine ⟨t, ht, ha, ?_, kept_of_onlyHost ?_⟩
  · rw [session, hend.sessions]; exact hv
  · exact onlyHost_trans (onlyHost_trans (onlyHost_stepping code d s) (onlyHost_of_hif hs)) (onlyHost_of_hif hend.hif)

/-- The session that CAPTURE_START begins. -/
def capturing (d : Desc) : Session :=
  { Session.reset with state := if par d 4 1 = 0 then .capturing else .armed, tap := BitVec.ofNat 16 (par d 2 2), startMode := BitVec.ofNat 8 (par d 4 1),
                       startCount := BitVec.ofNat 32 (par d 8 4), limit := BitVec.ofNat 32 (par d 12 4), decimation := max 1 (par d 16 2) }

theorem does_captureStart {d : Desc} {s : State} {q : Fin 8} (hq : par d 0 1 = q.val) :
    Does 0x0D00 checkCaptureStart (.captureStart d) d s (result [(0, 4, (frameCount s).toNat)]) (fun t => session q.val t = capturing d ∧ t = Kept s t) := by
  refine capture_does (effect := effectCaptureStart) rfl rfl (s' := modSession q.val (fun _ => capturing d) (stepping 0x0D00 d s)) ?_ rfl
    (session_modSession_same _ _ _ q.isLt)
  rw [← hq, stepping_hif]
  rfl

@[simp] theorem sessions_postEvent (code severity source : Nat) (bytes : List Byte) (s : State) :
    (postEvent code severity source bytes s).hif.sessions = s.hif.sessions := by
  simp only [postEvent, postEntry]
  split
  · rw [sessions_coalesce]
  · rfl

theorem session_endSession_same {q : Nat} (s : State) (hq : q < 8) : session q (endSession q s) = { session q s with state := .idle } := by
  rw [endSession, session, sessions_postEvent]
  exact session_modSession_same q _ s hq

theorem endSession_hif (q : Nat) (s : State) : endSession q s = { s with hif := (endSession q s).hif } := by
  rw [endSession, postEvent_hif]
  rfl

/-- The state in which CAPTURE_STOP ends its session. -/
def lastMarked (q : Nat) (s : State) : State := if (session q s).written = 0 then s else markLast q s

theorem lastMarked_hif (q : Nat) (s : State) : lastMarked q s = { s with hif := (lastMarked q s).hif } := by
  unfold lastMarked
  split <;> rfl

theorem session_lastMarked (p q : Nat) (s : State) : session p (lastMarked q s) = session p s := by
  unfold lastMarked
  split <;> rfl

theorem session_stepping (p code : Nat) (d : Desc) (s : State) : session p (stepping code d s) = session p s := by
  rw [session, (atSource_stepping code d s).sessions]
  rfl

theorem does_captureStop {d : Desc} {s : State} {q : Fin 8} (hq : par d 0 1 = q.val) :
    Does 0x0D01 checkCaptureStop (.captureStop d) d s 0 (fun t => session q.val t = { session q.val s with state := .idle } ∧ t = Kept s t) := by
  refine capture_does (effect := effectCaptureStop) rfl rfl (s' := endSession q.val (lastMarked q.val (stepping 0x0D01 d s))) ?_ ?_ ?_
  · rw [← hq]
    rfl
  · rw [endSession_hif, lastMarked_hif]
  · rw [session_endSession_same _ q.isLt, session_lastMarked, session_stepping]

/-! ## Work that CANCEL stops (R318, R554) -/

theorem eng_foldl {α : Type} {f : State → α → State} (h : ∀ s a, ∃ y, f s a = { s with eng := y }) (l : List α) (s : State) :
    ∃ y, l.foldl f s = { s with eng := y } := by
  refine List.foldlRecOn (motive := fun t => ∃ y, t = { s with eng := y }) l f ⟨s.eng, rfl⟩ ?_
  rintro _ ⟨_, rfl⟩ a -
  exact h _ a

/-- Migrations given up change the engine pool alone. -/
theorem eng_dropMigrations (p : Migration → Bool) (s : State) : ∃ y, dropMigrations p s = { s with eng := y } := by
  have hm (t : State) (m : Migration) (l : List (Segment × Fin 256)) : ∃ y, l.foldl (fun s v =>
      modEngine v.2 (fun e => if e.state = .shadow ∨ e.state = .testing then
        { e with state := if m.wasSpare.contains v.2 then .spare else .idle } else e) s) t = { t with eng := y } :=
    eng_foldl (fun _ _ => ⟨_, rfl⟩) l t
  obtain ⟨y, hy⟩ := eng_foldl (fun t m => hm t m m.moves) (s.eng.migrations.filter p)
    { s with eng := { s.eng with migrations := s.eng.migrations.filter (fun m => !p m) } }
  refine ⟨(dropMigrations p s).eng, ?_⟩
  simp only [dropMigrations, hy, refreshEngines]

/-- Work that is stopped changes the engine pool and the Guestbook alone. -/
theorem stopWork_eq (q : Nat) (r : Running) (s : State) : ∃ y g, stopWork q r s = { s with eng := y, gb := g } := by
  unfold stopWork
  split
  · obtain ⟨y, h⟩ := eng_dropMigrations (fun m => m.ring == some (Fin.ofNat 22 q)) s
    exact ⟨y, s.gb, h⟩
  · split
    · exact ⟨s.eng, _, rfl⟩
    · exact ⟨s.eng, s.gb, rfl⟩

theorem stopWork_other {q : Nat} {r : Running} (s : State) (h : r.desc.opcode ≠ 0x0403) (h' : r.desc.opcode ≠ 0x0A03) : stopWork q r s = s := by
  rw [stopWork, if_neg h, if_neg (fun hc => h' hc.1)]

/-! ## What CANCEL answers of its target (R95) -/

/-- A command that CANCEL stopped within its timeout, on a ring of the host: its record is all that its end brings. -/
theorem finishRunning_cancelled {q : Nat} {r : Running} {s : State} (hq : q < 16) (he : expired r s = false) :
    finishRunning q r cancelledEnd s = handedOver q r cancelledEnd s := by
  have h20 : q ≠ 20 := by omega
  have h21 : q ≠ 21 := by omega
  have hw : expired r (writeBuffer r.desc cancelledEnd.data (modSource q (fun x => { x with running := none }) s)) = false := he
  have hf : cancelledEnd.readFailed r.committed = cancelledEnd := by
    unfold Finish.readFailed
    exact if_neg (by simp [cancelledEnd, detHostRead])
  simp only [finishRunning, hf, hw, Bool.false_eq_true, if_false]
  simp only [endEffects, h20, h21]
  rfl

section
variable {q : Nat} {tag : Half} {s : State}

theorem cancelTarget_absent (own : Bool) (hr : (source q s).running = none) (hc : (source q s).continuing = [])
    (hf : ∀ f ∈ (source q s).fetched, f.desc.tag ≠ tag) : cancelTarget own q tag s = (4, s) := by
  have hn : (source q s).fetched.findIdx? (fun f => f.desc.tag == tag) = none :=
    List.findIdx?_eq_none_iff.mpr (fun f h => beq_false_of_ne (hf f h))
  simp only [cancelTarget, hr, hc, hn, Option.filter_none, List.findIdx?_nil]

theorem cancelTarget_waiting (own : Bool) {f : Fetched} {rest : List Fetched} (hr : (source q s).running = none) (hc : (source q s).continuing = [])
    (hf : (source q s).fetched = f :: rest) (ht : f.desc.tag = tag) : cancelTarget own q tag s =
      (0, modSource q (fun x => { x with fetched := x.fetched.modify 0 (fun f => { f with cancelled := true }) }) s) := by
  have hn : (source q s).fetched.findIdx? (fun f => f.desc.tag == tag) = some 0 := by simp [hf, ht, List.findIdx?_cons]
  simp only [cancelTarget, hr, hc, hn, Option.filter_none, List.findIdx?_nil]

variable {r : Running} (hr : (source q s).running = some r) (ht : r.desc.tag = tag)
include hr ht

theorem cancelTarget_committed (own : Bool) (hp : pastCommit r s = true) : cancelTarget own q tag s = (2, s) := by
  simp only [cancelTarget, hr, Option.filter_some, ht, beq_self_eq_true, hp, Bool.true_or, if_true]

theorem cancelTarget_stopped (hp : pastCommit r s = false) (he : expired r s = false) :
    cancelTarget false q tag s = (1, finishRunning q r cancelledEnd (stopWork q r s)) := by
  simp only [cancelTarget, hr, Option.filter_some, ht, beq_self_eq_true, hp, he, Bool.or_self, Bool.false_eq_true, if_false, if_true]

end

/-! ## CANCEL past its checks (R117) -/

section
variable {d : Desc} {s : State} {q : Fin 16} (hq : par d 0 1 = q.val) (hd : d.ring.val < 16) (hne : q.val ≠ d.ring.val)
include hq hd hne

/-- CANCEL of another ring ends DONE with its outcome, and leaves its target's source and the repeater as its outcome did. -/
theorem cancel_does {n : Nat} {s' : State} {p : State → Prop}
    (he : cancelTarget false q.val (BitVec.ofNat 16 (par d 2 2)) (stepping 0x0001 d s) = (n, s')) (ht : s'.slowTicks = s.slowTicks)
    (hp : ∀ t, SameWork (source q.val s') (source q.val t) → t = { s' with hif := t.hif } → p t) :
    Does 0x0001 checkCancel (.cancel d) d s (result [(0, 1, (n : Int))]) p := by
  rintro ⟨hb, hk⟩
  have hr : cancelRing (coded 0x0001 d) = q.val := (if_pos hd).trans hq
  have hown : (q.val == d.ring.val) = false := beq_false_of_ne hne
  have hv : cancelTarget (cancelRing (coded 0x0001 d) == d.ring.val) (cancelRing (coded 0x0001 d)) (BitVec.ofNat 16 (par d 2 2))
      (stepping 0x0001 d s) = (n, s') := by rw [hr, hown, he]
  have hop : effectCancel (starting 0x0001 d s) (stepping 0x0001 d s) = (doneWith (result [(0, 1, (n : Int))]), s') :=
    congrArg (fun x : Nat × State => (doneWith (result [(0, 1, (x.1 : Int))]), x.2)) hv
  obtain ⟨t, hx, ha, hend⟩ := exec_ended (i := .cancel d) (op := opCancel) rfl hb rfl ((guarded_pass effectCancel hk).trans hop)
    (read_of_detail_zero rfl) ht
  exact ⟨t, hx, ha, hp t (hend.others q.val hne) hend.hif⟩

/-- An outcome that leaves its target leaves everything but the host interface, and the target's source its commands. -/
theorem cancel_leaves {n : Nat} (he : cancelTarget false q.val (BitVec.ofNat 16 (par d 2 2)) (stepping 0x0001 d s) = (n, stepping 0x0001 d s)) :
    Does 0x0001 checkCancel (.cancel d) d s (result [(0, 1, (n : Int))]) (fun t => (source q.val t).fetched = (source q.val s).fetched ∧
      (source q.val t).running = (source q.val s).running ∧ (source q.val t).continuing = (source q.val s).continuing ∧ OnlyHost s t) := by
  refine cancel_does hq hd hne he (by rw [stepping_hif]) (fun t hw ht => ?_)
  rw [source_stepping_ne _ hne] at hw
  obtain ⟨-, hf, hr, hc⟩ := hw
  exact ⟨hf, hr, hc, onlyHost_trans (onlyHost_stepping _ d s) (onlyHost_of_hif ht)⟩

theorem does_cancel_absent (hr : (source q.val s).running = none) (hc : (source q.val s).continuing = [])
    (hf : ∀ f ∈ (source q.val s).fetched, f.desc.tag ≠ BitVec.ofNat 16 (par d 2 2)) :
    Does 0x0001 checkCancel (.cancel d) d s (result [(0, 1, 4)]) (fun t => (source q.val t).fetched = (source q.val s).fetched ∧
      (source q.val t).running = (source q.val s).running ∧ (source q.val t).continuing = (source q.val s).continuing ∧ OnlyHost s t) := by
  rw [← source_stepping_ne (code := 0x0001) s hne] at hr hc hf
  exact cancel_leaves hq hd hne (n := 4) (cancelTarget_absent false hr hc hf)

theorem does_cancel_waiting {f : Fetched} {rest : List Fetched} (hr : (source q.val s).running = none) (hc : (source q.val s).continuing = [])
    (hf : (source q.val s).fetched = f :: rest) (ht : f.desc.tag = BitVec.ofNat 16 (par d 2 2)) :
    Does 0x0001 checkCancel (.cancel d) d s (result [(0, 1, 0)]) (fun t =>
      (source q.val t).fetched = { f with cancelled := true } :: rest ∧ OnlyHost s t) := by
  rw [← source_stepping_ne (code := 0x0001) s hne] at hr hc hf
  refine cancel_does hq hd hne (n := 0) (cancelTarget_waiting false hr hc hf ht) (by rw [stepping_hif]; rfl) (fun t hw hh => ?_)
  obtain ⟨-, hfetched, -, -⟩ := hw
  refine ⟨?_, onlyHost_trans (onlyHost_trans (onlyHost_stepping _ d s) (onlyHost_modSource _ _ _)) (onlyHost_of_hif hh)⟩
  rw [hfetched, source_modSource_same _ _ _ (by omega), hf]
  rfl

variable {r : Running} (hr : (source q.val s).running = some r) (ht : r.desc.tag = BitVec.ofNat 16 (par d 2 2))
include hr ht

theorem does_cancel_committed (hp : pastCommit r s = true) :
    Does 0x0001 checkCancel (.cancel d) d s (result [(0, 1, 2)]) (fun t => (source q.val t).fetched = (source q.val s).fetched ∧
      (source q.val t).running = (source q.val s).running ∧ (source q.val t).continuing = (source q.val s).continuing ∧ OnlyHost s t) := by
  rw [← source_stepping_ne (code := 0x0001) s hne] at hr
  rw [← pastCommit_stepping 0x0001 d] at hp
  exact cancel_leaves hq hd hne (n := 2) (cancelTarget_committed hr ht false hp)

theorem does_cancel_stopped (hp : pastCommit r s = false) (he : expired r s = false) :
    Does 0x0001 checkCancel (.cancel d) d s (result [(0, 1, 1)]) (fun t => (source q.val t).running = none ∧
      (source q.val t).fetched = (source q.val s).fetched ∧ (r.desc.opcode ≠ 0x0403 → r.desc.opcode ≠ 0x0A03 → OnlyHost s t)) := by
  have hs := source_stepping_ne (code := 0x0001) s hne
  rw [← hs] at hr
  rw [← pastCommit_stepping 0x0001 d] at hp
  rw [← expired_stepping 0x0001 d] at he
  obtain ⟨y, g, hstop⟩ := stopWork_eq q.val r (stepping 0x0001 d s)
  have hend : finishRunning q.val r cancelledEnd (stopWork q.val r (stepping 0x0001 d s)) =
      handedOver q.val r cancelledEnd (stopWork q.val r (stepping 0x0001 d s)) := by
    refine finishRunning_cancelled q.isLt ?_
    rw [hstop]
    exact he
  have htarget := cancelTarget_stopped hr ht hp he
  rw [hend] at htarget
  refine cancel_does hq hd hne (n := 1) htarget ?_ (fun t hw hh => ?_)
  · rw [handedOver_hif, hstop, stepping_hif]
  obtain ⟨-, hfetched, hrunning, -⟩ := hw
  rw [source_handedOver_same _ _ _ (by omega)] at hfetched hrunning
  refine ⟨hrunning, hfetched.trans ?_, fun h1 h2 => ?_⟩
  · rw [hstop, ← hs]
    rfl
  · rw [stopWork_other _ h1 h2] at hh
    exact onlyHost_trans (onlyHost_trans (onlyHost_stepping _ d s) (onlyHost_of_hif (handedOver_hif _ _ _ _))) (onlyHost_of_hif hh)

end

/-- Settles O36: the session as the effect of CAPTURE_START and of CAPTURE_STOP leaves it, and CANCEL by what it finds of its target. -/
theorem captureCommands : Obligations.CaptureCommands := by
  refine ⟨fun d s q hq => ⟨?_, does_captureStop hq⟩, fun d s q hq hd hne => ⟨does_cancel_absent hq hd hne, fun _ _ => does_cancel_waiting hq hd hne,
    fun _ => does_cancel_committed hq hd hne, fun _ => does_cancel_stopped hq hd hne⟩⟩
  intro hp
  obtain ⟨t, hx, ha, hv, hk⟩ := does_captureStart hq hp
  exact ⟨t, hx, ha, congrArg Session.state hv, congrArg Session.tap hv, congrArg Session.limit hv, congrArg Session.written hv,
    congrArg Session.decimation hv, hk⟩

end Sys2Proof.Proofs
end

/-! # Channels being removed -/
section
namespace Sys2Proof.Proofs

open Sys2Proof Sys2Proof.Machine Sys2Proof.Safety Sys2Proof.Laws

/-! ## A command that its state refuses -/

/-- A command whose first step ends it without success hands its record over, and nothing follows: what is not accepted is neither stored nor undone
(R589, R636). -/
theorem submitRow_fails {code : Nat} {op : Op} {d : Desc} {s : State} {f : Finish} (hb : Begins code d s)
    (hop : op (starting code d s) (stepping code d s) = (.final f, stepping code d s)) (hs : succeeded f.status = false) (hf : ¬ Unread f) :
    submitRow code op d s = refreshReady (handedOver d.ring.val (starting code d s) f (stepping code d s)) := by
  have ht : (stepping code d s).slowTicks = s.slowTicks := by rw [stepping_hif]
  have hw : (handedOver d.ring.val (starting code d s) f (stepping code d s)).twin = s.twin := by rw [handedOver_hif, stepping_hif]
  have he := endEffects_outside (t := handedOver d.ring.val (starting code d s) f (stepping code d s)) hb.outside (leadless_of_begins hb)
    (r := starting code d s) rfl rfl hf hw
  rw [hs] at he
  rw [submit_begins _ _ _ _ hb, hop]
  exact congrArg refreshReady ((finishRunning_intime _ _ _ _ rfl ht.le).trans he)

/-- A command refused for the state it meets completes REJECTED_STATE and changes the host interface alone. -/
theorem exec_rejectedState {code detail : Nat} {i : Instr} {op : Op} {d : Desc} {s : State} (hx : exec i s = .next (submitRow code op d s))
    (hb : Begins code d s) (hop : op (starting code d s) (stepping code d s) = (refuse (.rejectedState, detail), stepping code d s)) :
    ∃ t, exec i s = .next t ∧ Answered code d .rejectedState detail 0 t ∧ OnlyHost s t := by
  have hrow := submitRow_fails hb hop rfl (by simp [Unread])
  exact ⟨_, hx.trans (congrArg _ hrow), answered_handedOver _ _,
    onlyHost_trans (onlyHost_stepping code d s) (onlyHost_of_hif (ended_handedOver _ _).hif)⟩

/-! ## What the checks find of a channel being removed (R158) -/

theorem chan_stepping (c : Fin 64) (code : Nat) (d : Desc) (s : State) : chan c (stepping code d s) = chan c s := by
  rw [stepping_hif]
  rfl

section
variable {c : Fin 64} {s : State} (h : (chan c s).state = .removing)
include h

theorem noChannel_removing : noChannel c.val s = some (.rejectedState, 0x0109) := by
  simp [noChannel, chanOf_val (rfl : c.val = c.val), h, refuseIf, badState, detNoChannel]

theorem channelExists_removing : channelExists c.val s = true := by
  simp [channelExists, chanOf_val (rfl : c.val = c.val), h]

variable {r : Running}

theorem checkChannelModify_removing (hk : checkBuffer true r.desc = none) (hn : dat r.desc 0 1 = c.val) :
    checkChannelModify r s = some (.rejectedState, 0x0109) := by
  simp only [checkChannelModify, hn, hk, noChannel_removing h, firstOf]

theorem checkChannelMute_removing (hk : common true [(0, 3)] .none r.desc = none) (hd : par r.desc 1 1 < 4) (hn : par r.desc 0 1 = c.val) :
    checkChannelMute r s = some (.rejectedState, 0x0109) := by
  have hr : refuseIf (decide (3 < par r.desc 1 1)) (badParam detReserved) = none := refuseIf_eq_none.mpr (decide_eq_false (by omega))
  simp only [checkChannelMute, hk, hr, hn, noChannel_removing h, firstOf]

theorem checkChannelCreate_removing (hk : checkBuffer false r.desc = none) (hn : dat r.desc 0 1 = c.val) :
    checkChannelCreate r s = some (.rejectedState, 0x0108) := by
  simp only [checkChannelCreate, hk, hn, channelExists_removing h, refuseIf, badState, firstOf, if_true]

end

/-! ## What the commands do with a refusal -/

/-- Only a refusal by House Rules leaves records (R261). -/
theorem refuseChannel_alone (x : Desc) {e : Reject} (s : State) (h : e.2 ≠ 0x0104) : refuseChannel x e s = (refuse e, s) := by
  rw [refuseChannel, if_neg h]

theorem opChannelModify_refused {r : Running} {s : State} {e : Reject} (h : checkChannelModify r s = some e) :
    opChannelModify r s = refuseChannel r.desc e s := by
  simp only [opChannelModify, h]

theorem opChannelCreate_refused {r : Running} {s : State} {e : Reject} (h0 : r.phase = 0) (h : checkChannelCreate r s = some e) :
    opChannelCreate r s = refuseChannel r.desc e s := by
  simp only [opChannelCreate, h0, if_true, h]

/-- Settles O12: each command's checks meet the channel's state after its descriptor and buffer, and refuse. -/
theorem channelBeingRemoved : Obligations.ChannelBeingRemoved := by
  intro d c s hc
  have hs (code : Nat) : (chan c (stepping code d s)).state = .removing := by rw [chan_stepping, hc]
  refine ⟨fun hb hk hn => ?_, fun hb hk hd hn => ?_, fun hb hk hn => ?_⟩
  · have hr := checkChannelModify_removing (r := starting 0x0111 d s) (hs 0x0111) hk hn
    exact exec_rejectedState rfl hb ((opChannelModify_refused hr).trans (refuseChannel_alone _ _ (by decide)))
  · have hr := checkChannelMute_removing (r := starting 0x0114 d s) (hs 0x0114) hk hd hn
    exact exec_rejectedState (op := opChannelMute) rfl hb (guarded_refused _ hr)
  · have hr := checkChannelCreate_removing (r := starting 0x0110 d s) (hs 0x0110) hk hn
    exact exec_rejectedState rfl hb ((opChannelCreate_refused rfl hr).trans (refuseChannel_alone _ _ (by decide)))

end Sys2Proof.Proofs
end

/-! # SYSREF, lane locks and received multiblocks -/
section
namespace Sys2Proof.Proofs

open Sys2Proof Sys2Proof.Machine Sys2Proof.Safety Sys2Proof.Laws

theorem raised_raise (n obj detail : Nat) (s : State) : Raised n obj (raise n obj detail s) :=
  ⟨_, List.mem_append_right _ (List.mem_singleton_self _), rfl, rfl⟩

/-! ## SYSREF edges (R129, R131) -/

/-- The edge counted. -/
def edgeCounted (s : State) : State := modLinks (fun l => { l with edges := l.edges + 1 }) s

section
variable {p : Fin 8} {s : State}

theorem exec_sysrefEdge_armed (h : s.links.sysrefArm = true) : exec (.sysrefEdge p) s = .next (modLinks (fun l =>
    { l with sysrefArm := false, captured := true, capturePhase := BitVec.ofNat 3 p.val, captureAt := 8 * s.now + p.val }) (edgeCounted s)) :=
  congrArg Host.Outcome.next (if_pos h)

theorem exec_sysrefEdge_outOfPhase (h : s.links.sysrefArm = false) (hc : s.links.captured = true) (hm : s.links.sysrefMode ≠ 0)
    (hp : (8 * s.now + p.val - s.links.captureAt) % 128 ≠ 0) :
    exec (.sysrefEdge p) s = .next (raise 55 0 0 (modLinks (fun l => { l with phaseError := true }) (edgeCounted s))) := by
  refine congrArg Host.Outcome.next ((if_neg (ne_true_of_eq_false h)).trans (if_pos ?_))
  simp only [Bool.and_eq_true, bne_iff_ne]
  exact ⟨⟨hc, hm⟩, hp⟩

theorem exec_sysrefEdge_inPhase (h : s.links.sysrefArm = false) (hp : (8 * s.now + p.val - s.links.captureAt) % 128 = 0) :
    exec (.sysrefEdge p) s = .next (edgeCounted s) := by
  refine congrArg Host.Outcome.next ((if_neg (ne_true_of_eq_false h)).trans (if_neg ?_))
  simp only [Bool.and_eq_true, bne_iff_ne]
  exact fun hn => hn.2 hp

end

/-! ## Lane locks (R125, R126) -/

/-- The lane's locks and skew as an event reports them. -/
def laneSet (n : Fin 18) (v : Lane) (s : State) : State := modLinks (fun l => { l with lanes := l.lanes.set n v }) s

theorem exec_jesdLaneLockChange (n : Fin 18) (a b : Bool) (k : Nat) (s : State) : exec (.jesdLaneLockChange n a b k) s =
    .next (followGroup (laneGroup n) (laneSet n { sync := a, multiblock := b, skew := k } s)) := rfl

theorem lanes_groupDown (g : Fin 5) (s : State) : (groupDown g s).links.lanes = s.links.lanes := by
  simp only [groupDown]
  split <;> rfl

theorem lanes_climbGroup (g : Fin 5) (s : State) : (climbGroup g s).links.lanes = s.links.lanes := by
  simp only [climbGroup]
  split
  · split <;> rfl
  · split <;> rfl
  all_goals rfl

/-- A group follows its lanes and leaves them. -/
theorem lanes_followGroup (g : Fin 5) (s : State) : (followGroup g s).links.lanes = s.links.lanes := by
  simp only [followGroup, lanes_climbGroup]
  split
  · exact lanes_groupDown g s
  · rfl

theorem mem_groupLanes (n : Fin 18) : n ∈ groupLanes (laneGroup n) := by
  revert n
  decide

theorem groupSync_laneSet {n : Fin 18} {v : Lane} (s : State) (h : v.sync = false) : groupSync (laneGroup n) (laneSet n v s) = false := by
  refine List.all_eq_false.mpr ⟨n, mem_groupLanes n, ?_⟩
  simp [laneSet, h]

theorem groupSync_groupDown (g g' : Fin 5) (s : State) : groupSync g' (groupDown g s) = groupSync g' s := by
  simp only [groupSync, lanes_groupDown]

theorem groupDown_aligned {g : Fin 5} {s : State} (h : s.links.rxGroups[g] = .aligned) :
    groupDown g s = raise (32 + g.val) (object 8 g.val) 0 (modLinks (fun l => { l with rxGroups := l.rxGroups.set g .down }) s) :=
  if_pos h

theorem rxGroups_groupDown (g : Fin 5) (s : State) : (groupDown g s).links.rxGroups[g] = .down := by
  simp only [groupDown]
  split <;> exact Vector.getElem_set_self _

/-- A group that is down stays so while a lane lacks sync-header lock. -/
theorem climbGroup_unlocked {g : Fin 5} {s : State} (h : s.links.rxGroups[g] = .down) (hs : groupSync g s = false) : climbGroup g s = s := by
  simp only [climbGroup, h, hs, Bool.and_false, Bool.false_eq_true, if_false]

theorem raised_groupDown {g : Fin 5} {s : State} (h : s.links.rxGroups[g] = .aligned) :
    Raised (32 + g.val) (object 8 g.val) (groupDown g s) := by
  rw [groupDown_aligned h]
  exact raised_raise _ _ 0 _

/-- An aligned group without sync-header lock on one of its lanes goes down, and no further. -/
theorem followGroup_lost {g : Fin 5} {s : State} (h : s.links.rxGroups[g] = .aligned) (hs : groupSync g s = false) : followGroup g s = groupDown g s := by
  have hl : lockLost s.links.rxGroups[g] g s = true := by simp only [h, lockLost, hs, Bool.not_false, Bool.true_or]
  have hc := climbGroup_unlocked (rxGroups_groupDown g s) ((groupSync_groupDown g g s).trans hs)
  simp only [followGroup, hl, if_true, hc]

theorem followGroup_laneLost {n : Fin 18} {v : Lane} {s : State} (h : s.links.rxGroups[laneGroup n] = .aligned) (hv : v.sync = false) :
    followGroup (laneGroup n) (laneSet n v s) = groupDown (laneGroup n) (laneSet n v s) :=
  followGroup_lost (s := laneSet n v s) h (groupSync_laneSet s hv)

/-! ## Received multiblocks (R27, R128, R136) -/

/-- The converter links and House Rules: what copies for the host, the forming of blocks and the survey leave alone. -/
def wired (s : State) : Links × HrStore := (s.links, s.hr)

theorem links_of_wired {s t : State} (h : wired t = wired s) : t.links = s.links := congrArg Prod.fst h

theorem hr_of_wired {s t : State} (h : wired t = wired s) : t.hr = s.hr := congrArg Prod.snd h

theorem wired_ite (p : Prop) [Decidable p] (s t : State) : wired (if p then s else t) = if p then wired s else wired t := apply_ite wired p s t

theorem wired_foldl {α : Type} (f : State → α → State) (l : List α) (s : State) (h : ∀ s a, wired (f s a) = wired s) : wired (l.foldl f s) = wired s :=
  List.foldlRecOn (motive := fun t => wired t = wired s) l f rfl (fun t ht a _ => (h t a).trans ht)

@[simp] theorem wired_modDir (c : Fin 64) (d : Dir) (f : Direction → Direction) (s : State) : wired (modDir c d f s) = wired s := rfl

@[simp] theorem wired_advanceTo (n : Nat) (s : State) : wired (advanceTo n s) = wired s := rfl

@[simp] theorem wired_modSession (q : Nat) (f : Session → Session) (s : State) : wired (modSession q f s) = wired s := rfl

theorem wired_of_hif {s t : State} (h : t = { s with hif := t.hif }) : wired t = wired s := by
  rw [h]
  rfl

@[simp] theorem wired_postEvent (code severity source : Nat) (bytes : List Byte) (s : State) : wired (postEvent code severity source bytes s) = wired s :=
  wired_of_hif (postEvent_hif _ _ _ _ _)

@[simp] theorem wired_coalesce (r n : Nat) (s : State) : wired (coalesce r n s) = wired s := wired_of_hif (coalesce_hif _ _ _)

/-! ### Copies for the host -/

theorem wired_captureWrite (q : Nat) (tag : BitVec 128) (samples : List Sample) (s : State) : wired (captureWrite q tag samples s) = wired s := by
  have hw (x : HostIf) (r n : Nat) : wired (setGap q 0 (coalesce r n { s with hif := x })) = wired s := wired_coalesce r n _
  simp only [captureWrite, endSession, wired_ite, wired_postEvent, wired_modSession, hw, ite_self]

theorem wired_captureOne (q : Nat) (tag : BitVec 128) (samples : List Sample) (s : State) : wired (captureOne q tag samples s) = wired s := by
  have hl (t : State) : wired (captureLose q t) = wired t := rfl
  have hf (t : State) : wired (takeFree t).2 = wired t := rfl
  simp only [captureOne, wired_ite, wired_captureWrite, hl, hf, wired_modSession, ite_self]

@[simp] theorem wired_capture (tap : Nat) (tag : BitVec 128) (samples : List Sample) (s : State) : wired (capture tap tag samples s) = wired s :=
  wired_foldl _ _ _ (fun t q => by simp only [wired_ite, wired_captureOne, ite_self])

/-! ### Block formation -/

theorem wired_stampSetting (n : Nat) (c : Fin 64) (d : Dir) (x : Setting) (s : State) : wired (stampSetting n c d x s) = wired s := by
  cases x with
  | definition df tdd moved => cases moved <;> rfl
  | _ => rfl

@[simp] theorem wired_stampLine (k : EpochKind) (c : Fin 64) (d : Dir) (n first : Nat) (s : State) : wired (stampLine k c d n first s) = wired s := by
  simp only [stampLine]
  split
  · rfl
  · exact wired_foldl _ _ _ (fun t x => wired_stampSetting n c d x t)

@[simp] theorem wired_postBlanked (p : Fin 8) (counts first : Nat) (s : State) : wired (postBlanked p counts first s) = wired s := by
  have hr (x : Radio) : wired { s with radio := x } = wired s := rfl
  simp only [postBlanked, wired_ite, wired_postEvent, hr, ite_self]

theorem wired_formBlock (p : Fin 8) (c : Fin 64) (d : Dir) (samples : List Sample) (s : State) : wired (formBlock p c d samples s) = wired s := by
  simp only [formBlock, captureBlock, wired_capture, wired_modDir, wired_postBlanked, wired_ite, wired_stampLine, wired_advanceTo, ite_self]

theorem wired_chainSample (p : Fin 8) (c : Fin 64) (d : Dir) (s : State) (x : Sample) : wired (chainSample p c d s x) = wired s := by
  simp only [chainSample, wired_ite, wired_formBlock, wired_modDir, ite_self]

@[simp] theorem wired_feedChains (p : Fin 8) (samples : List Sample) (s : State) : wired (feedChains p samples s) = wired s :=
  wired_foldl _ _ _ (fun _ e => wired_foldl _ _ _ (fun u x => wired_chainSample p e.1 e.2 u x))

@[simp] theorem wired_surveySamples (l : List Sample) (s : State) : wired (surveySamples l s) = wired s := by
  have hr (f : Radio → Radio) : wired (modRadio f s) = wired s := rfl
  simp only [surveySamples, wired_ite, hr, ite_self]

/-! ### Segment counters -/

/-- The segment counters of the streams, and House Rules. -/
def counters (s : State) : Vector Half 9 × Vector Half 8 × HrStore := (s.links.rxSegment, s.links.txSegment, s.hr)

theorem counters_of_wired {s t : State} (h : wired t = wired s) : counters t = counters s := by
  simp only [counters, links_of_wired h, hr_of_wired h]

theorem counters_alignGroup (g : Fin 5) (s : State) : counters (alignGroup g s) = counters s := by
  unfold alignGroup
  split <;> rfl

theorem counters_laneCrc (lane : Nat) (ok : Bool) (s : State) : counters (laneCrc lane ok s) = counters s := by
  cases ok <;> rfl

/-- The counters with one segment more of a stream. -/
def oneMore (g : Fin 9) (x : Vector Half 9 × Vector Half 8 × HrStore) : Vector Half 9 × Vector Half 8 × HrStore := (x.1.set g (x.1[g] + 1), x.2)

theorem oneMore_twice (g : Fin 9) (x : Vector Half 9 × Vector Half 8 × HrStore) :
    (oneMore g (oneMore g x)).1[g] = x.1[g] + 2 ∧ (oneMore g (oneMore g x)).2 = x.2 := by
  refine ⟨?_, rfl⟩
  simp only [oneMore, Fin.getElem_fin, Vector.getElem_set_self]
  rw [add_assoc]
  rfl

/-- A segment's copy leaves the counters, and its stream's goes on by one. -/
theorem counters_segment (g : Fin 9) (tap : Nat) (tag : BitVec 128) (part : List Sample) (s : State) :
    counters (modLinks (fun l => { l with rxSegment := l.rxSegment.set g (s.links.rxSegment[g] + 1) }) (capture tap tag part s)) =
      oneMore g (counters s) := by
  have h := wired_capture tap tag part s
  simp only [counters, oneMore, modLinks_links, modLinks_hr, links_of_wired h, hr_of_wired h]

/-- A multiblock is two segments of its stream. -/
theorem counters_segmentPair (g : Fin 9) (zeroed : Bool) (samples : List Sample) (s : State) :
    counters (segmentPair g zeroed samples s) = oneMore g (oneMore g (counters s)) := by
  simp only [segmentPair, show List.range 2 = [0, 1] from rfl, List.foldl_cons, List.foldl_nil, counters_segment]

theorem exec_receiveMultiblock_unrated {g : Fin 9} {x y : Bool} {l l' : List Sample} {s : State} (h : (receiveRate g.val s).isNone = true) :
    exec (.receiveMultiblock g x y l l') s = .next s :=
  congrArg Host.Outcome.next (if_pos (by rw [h, Bool.true_or]))

theorem exec_receiveMultiblock_rated {g : Fin 9} (x y : Bool) (l l' : List Sample) {s : State} (h : (receiveRate g.val s).isSome = true)
    (hu : s.sys.coreUp = true) : Runs (.receiveMultiblock g x y l l') s (fun t => counters t = oneMore g (oneMore g (counters s))) := by
  have hn : ¬ ((receiveRate g.val s).isNone || !s.sys.coreUp) = true := by
    rw [hu, ← Option.not_isSome, h]
    decide
  refine runs_of_exec (congrArg Host.Outcome.next (if_neg hn)) ?_
  have feed (a b : List Sample) (u : State) : counters (if h : g.val < 8 then feedChains ⟨g.val, h⟩ a u else surveySamples b u) = counters u := by
    split
    · exact counters_of_wired (wired_feedChains _ _ _)
    · exact counters_of_wired (wired_surveySamples _ _)
  have checked (p : Prop) [Decidable p] (u : State) :
      counters (if p then u else laneCrc (streamLane g + 1) y (laneCrc (streamLane g) x u)) = counters u := by
    split
    · rfl
    · rw [counters_laneCrc, counters_laneCrc]
  rw [feed, counters_segmentPair, checked, counters_alignGroup]

/-- Settles O38: an edge by what SYSREF capture is doing, a lane's group by whether it was aligned, a multiblock by its two segments. -/
theorem linkEvents : Obligations.LinkEvents := by
  intro p n a b k g x y l l' s
  refine ⟨fun h => ?_, fun h hc hm hp => ?_, fun h hp => ?_, ?_, fun h ha => ?_, fun h hu => ?_, fun h => exec_receiveMultiblock_unrated h⟩
  · exact runs_of_exec (exec_sysrefEdge_armed h) ⟨rfl, rfl, rfl, rfl, rfl⟩
  · exact runs_of_exec (exec_sysrefEdge_outOfPhase h hc hm hp) ⟨rfl, raised_raise 55 0 0 _, rfl, rfl⟩
  · exact runs_of_exec (exec_sysrefEdge_inPhase h hp) rfl
  · refine runs_of_exec (exec_jesdLaneLockChange n a b k s) ?_
    rw [lanes_followGroup]
    exact ⟨Vector.getElem_set_self _, fun m hm => Vector.getElem_set_ne n.isLt m.isLt (fun e => hm (Fin.ext e.symm))⟩
  · refine runs_of_exec (exec_jesdLaneLockChange n a b k s) ?_
    rw [followGroup_laneLost h ha, rxGroups_groupDown]
    exact ⟨by decide, raised_groupDown (s := laneSet n _ s) h⟩
  · obtain ⟨t, ht, hc⟩ := exec_receiveMultiblock_rated x y l l' h hu
    obtain ⟨hseg, hrest⟩ := oneMore_twice g (counters s)
    refine ⟨t, ht, (congrArg (fun z => z.1[g]) hc).trans hseg, ?_⟩
    have hr := (congrArg Prod.snd hc).trans hrest
    exact ⟨congrArg Prod.fst hr, congrArg Prod.snd hr⟩

end Sys2Proof.Proofs
end

/-! # Oscillation, measurements and dwells of the stability machine -/
section
namespace Sys2Proof.Proofs

open Sys2Proof Sys2Proof.Machine Sys2Proof.Safety Sys2Proof.Laws

/-! ## What a direction shows after a step -/

theorem inWatch_of_view {β : Type} {v : Fin 64 → Dir → Direction → β} {s t : State} (h : view v t = view v s) : inWatch t = inWatch s :=
  congrArg (fun w => inWatch w.rest) h

theorem direction_answerMeasure (c : Fin 64) (d : Dir) (s : State) : direction c d (answerMeasure c d s) = direction c d s :=
  direction_of_view (v := fun _ _ x => x) (view_answerMeasure c d s) c d

theorem direction_sendControl (c : Fin 64) (d : Dir) (a : Nat) (m : ControlMsg) (s : State) : direction c d (sendControl a m s) = direction c d s :=
  direction_of_view (v := fun _ _ x => x) (view_sendControl a m s) c d

theorem stab_modStab (c : Fin 64) (d : Dir) (f : Stability → Stability) (s : State) :
    (direction c d (modStab c d f s)).stab = f (direction c d s).stab := by
  rw [modStab, direction_modDir_same]

theorem stab_enterClimb (c : Fin 64) (d : Dir) (ceiling : Int) (s : State) : (direction c d (enterClimb c d ceiling s)).stab =
    { (direction c d s).stab with state := .climb, s := ceiling, dwell := 0, dwellRunning := false, holdRun := 0 } :=
  stab_setStability _ _ _ _

theorem gain_enterClimb (c : Fin 64) (d : Dir) (ceiling : Int) (s : State) : (direction c d (enterClimb c d ceiling s)).gain = (direction c d s).gain :=
  direction_of_view (v := fun _ _ x => x.gain) (view_enterClimb (fun _ _ => rfl) s ceiling) c d

theorem stab_enterMarginLost (c : Fin 64) (d : Dir) (s : State) : (direction c d (enterMarginLost c d s)).stab =
    { (direction c d s).stab with state := .muted, reason := .marginLost, dwellRunning := false, onset := none, retry := 0, measuring := none } := by
  refine (stab_setStability _ _ _ _).trans ?_
  rw [direction_answerMeasure]

/-! ## Events raised stay on their way to the collector -/

theorem raised_raise_of {n obj : Nat} {s : State} (m o detail : Nat) (h : Raised n obj s) : Raised n obj (raise m o detail s) := by
  obtain ⟨e, he, hn⟩ := h
  exact ⟨e, List.mem_append_left _ he, hn⟩

theorem raised_sendControl {n obj : Nat} {s : State} (a : Nat) (m : ControlMsg) (h : Raised n obj s) : Raised n obj (sendControl a m s) := by
  obtain ⟨l, e⟩ := sendControl_links a m s
  rw [e]
  exact h

/-! ## OSCILLATION_MUTE (R199, R204) -/

/-- The mutes for OSCILLATION in the 600 s before now. -/
def recentMutes (m : Stability) (s : State) : List Nat := m.mutes.filter (fun t => decide (s.slowTicks < t + 600000))

/-- One more mute for OSCILLATION locks the direction out: it is the configured number of them, and the device is not in watch mode (R204, R669). -/
def oscLocks (m : Stability) (s : State) : Bool := !inWatch s && decide (m.par.oscLimit ≤ (recentMutes m s ++ [s.slowTicks]).length)

/-- The machine that a mute for OSCILLATION leaves. -/
def oscMuted (m : Stability) (s : State) : Stability :=
  { m with state := .muted, reason := if oscLocks m s then .oscLockout else .oscillation, mutes := recentMutes m s ++ [s.slowTicks], holdoff := 0,
           onset := none, dwellRunning := false, measuring := none }

/-- The state in which that machine is put in place: a measurement cut short is answered, and in watch mode the osc bit latches. -/
def oscNoted (c : Fin 64) (d : Dir) (s : State) : State :=
  if inWatch (answerMeasure c d s) then modGq c d (fun g => { g with osc := true, oscLatched := true }) (answerMeasure c d s) else answerMeasure c d s

theorem view_oscNoted {β : Type} {v : Fin 64 → Dir → Direction → β} (c : Fin 64) (d : Dir) (s : State) : view v (oscNoted c d s) = view v s := by
  simp only [oscNoted, view_ite, view_modGq, view_answerMeasure, ite_self]

theorem oscillationMute_raises (c : Fin 64) (d : Dir) (s : State) : oscillationMute c d s =
    if oscLocks (direction c d s).stab s then
      raise 67 (dirObject c d) 0 (raise 66 (dirObject c d) 0 (setStability c d (oscMuted (direction c d s).stab s) (oscNoted c d s)))
    else raise 66 (dirObject c d) 0 (setStability c d (oscMuted (direction c d s).stab s) (oscNoted c d s)) := by
  have hv : view (fun _ _ x => x) (oscNoted c d s) = view (fun _ _ x => x) s := view_oscNoted c d s
  have hr (m : Stability) : recentMutes m (oscNoted c d s) = recentMutes m s := by rw [recentMutes, slowTicks_of_view hv, recentMutes]
  have hl (m : Stability) : oscLocks m (oscNoted c d s) = oscLocks m s := by
    simp only [oscLocks, inWatch_of_view hv, slowTicks_of_view hv, hr]
  have hm (m : Stability) : oscMuted m (oscNoted c d s) = oscMuted m s := by
    simp only [oscMuted, slowTicks_of_view hv, hr, hl]
  rw [← hm, ← hl, ← direction_answerMeasure c d s]
  rfl

theorem stab_oscillationMute (c : Fin 64) (d : Dir) (s : State) :
    (direction c d (oscillationMute c d s)).stab = oscMuted (direction c d s).stab s := by
  rw [oscillationMute_raises]
  split <;> exact stab_setStability _ _ _ _

theorem raised_oscillationMute (c : Fin 64) (d : Dir) (s : State) : Raised 66 (dirObject c d) (oscillationMute c d s) := by
  rw [oscillationMute_raises]
  split
  · exact raised_raise_of _ _ _ (raised_raise _ _ _ _)
  · exact raised_raise _ _ _ _

theorem oscMuted_reason (m : Stability) (s : State) : (oscMuted m s).reason =
    if inWatch s = false ∧ m.par.oscLimit ≤ (recentMutes m s).length + 1 then .oscLockout else .oscillation := by
  simp only [oscMuted, oscLocks, Bool.and_eq_true, Bool.not_eq_true', decide_eq_true_eq, List.length_append, List.length_singleton]

/-- The state once the transmit device of a split direction has sent the other device word of the mute. -/
def splitMuteTold (c : Fin 64) (d : Dir) (s : State) : State :=
  if splitTransmit (dirDef c d s) s then sendControl (otherDevice (dirDef c d s) s) (.splitMute c d) s else s

section
variable {c : Fin 64} {d : Dir} {s : State}

theorem direction_splitMuteTold : direction c d (splitMuteTold c d s) = direction c d s := by
  simp only [splitMuteTold]
  split
  · exact direction_sendControl _ _ _ _ _
  · rfl

theorem raised_splitMuteTold {n obj : Nat} (h : Raised n obj s) : Raised n obj (splitMuteTold c d s) := by
  simp only [splitMuteTold]
  split
  · exact raised_sendControl _ _ h
  · exact h

theorem exec_oscillationMute_due {o : Word} (ho : (direction c d s).stab.onset = some o) (hl : dirLive c d s = true)
    (hf : isFrozen (direction c d s) s = false) (hm : (direction c d s).stab.state ≠ .muted) (hr : 6144 ≤ ((direction c d s).stab.runLast - o).toNat) :
    exec (.oscillationMute c d (direction c d s).stab.runLast) s = .next (splitMuteTold c d (oscillationMute c d s)) := by
  have hrun : 6144 ≤ runLength (direction c d s).stab := by
    rw [runLength, ho]
    exact hr
  refine congrArg Host.Outcome.next (if_pos ?_)
  simp [hl, hf, hm, hrun]

/-- An event whose operand names another first_count than that of the run's last block is none of the direction's (log entry 187). -/
theorem exec_oscillationMute_other {x : Word} (h : (direction c d s).stab.onset = none ∨ (direction c d s).stab.runLast ≠ x) :
    Rests (.oscillationMute c d x) s := by
  refine congrArg Host.Outcome.next (if_neg ?_)
  rcases h with h | h <;> simp [runLength, h]

/-! ## DELAY_SEARCH_END (R209) -/

/-- The delays found, and training begun. -/
def searchEnded (c : Fin 64) (d : Dir) (s : State) : State :=
  modStab c d (fun m => { m with measuring := m.measuring.map (fun v => { v with searching := false }) })
    (modDir c d (fun x => x.mapPaths (fun _ p => p.searched)) s)

theorem exec_delaySearchEnd_due (hl : dirLive c d s = true) (hm : searchingDelay (direction c d s) = true)
    (hf : isFrozen (direction c d s) s = false) (hd : searchDone (dirDef c d s) (direction c d s) = true) :
    exec (.delaySearchEnd c d (direction c d s).meter.par.w) s = .next (searchEnded c d s) := by
  refine congrArg Host.Outcome.next (if_pos ?_)
  simp [hl, hm, hf, hd]

/-- An event that names another window is none of the direction's (log entry 187). -/
theorem exec_delaySearchEnd_other {w : Nat} (h : (direction c d s).meter.par.w ≠ w) : Rests (.delaySearchEnd c d w) s := by
  refine congrArg Host.Outcome.next (if_neg ?_)
  simp [h]

theorem measuring_searchEnded : (direction c d (searchEnded c d s)).stab.measuring =
    (direction c d s).stab.measuring.map (fun v => { v with searching := false }) := by
  rw [searchEnded, stab_modStab, direction_modDir_same]
  rfl

theorem searchingDelay_searchEnded : searchingDelay (direction c d (searchEnded c d s)) = false := by
  rw [searchingDelay, measuring_searchEnded, Option.any_map]
  simp

theorem measuring_of_searchingDelay {x : Direction} (h : searchingDelay x = true) : x.stab.measuring.isSome = true :=
  Option.isSome_of_any h

/-! ## MEASUREMENT_END (R209, R215) -/

theorem publish_stab (cls n : Nat) (df : DirDef) (x : Direction) : (Direction.publish cls n df x).stab = x.stab := by
  simp only [Direction.publish, Direction.coupled]
  split <;> rfl

theorem stab_publish (n : Nat) : (direction c d (publish n c d s)).stab = (direction c d s).stab := by
  simp only [publish]
  split
  · rw [direction_modDir_same, publish_stab]
  · rfl

/-- The estimate published, K computed from it, and the measurement ended. -/
def measured (c : Fin 64) (d : Dir) (s : State) : State :=
  modStab c d (fun m => { m with measuring := none }) (refreshK c d (publish 12 c d (answerMeasure c d s)))

theorem stab_measured : (direction c d (measured c d s)).stab =
    { (direction c d s).stab with k := currentK c d (publish 12 c d (answerMeasure c d s)), measuring := none } := by
  rw [measured, stab_modStab, refreshK, stab_modStab, stab_publish, direction_answerMeasure]

theorem endMeasurement_lost (hm : (direction c d s).stab.state = .muted) (hr : (direction c d s).stab.reason ≠ .oscLockout)
    (hk : (direction c d (measured c d s)).stab.k < 0) : endMeasurement c d s = enterMarginLost c d (measured c d s) := by
  have hn : ¬ ((direction c d (measured c d s)).stab.state ≠ .muted ∨ (direction c d (measured c d s)).stab.reason = .oscLockout) := by
    simp [stab_measured, hm, hr]
  exact (if_neg hn).trans (if_pos hk)

theorem endMeasurement_climbs (hm : (direction c d s).stab.state = .muted) (hr : (direction c d s).stab.reason ≠ .oscLockout)
    (hk : ¬ (direction c d (measured c d s)).stab.k < 0) : ∃ ceiling, endMeasurement c d s = enterClimb c d ceiling (measured c d s) := by
  have hn : ¬ ((direction c d (measured c d s)).stab.state ≠ .muted ∨ (direction c d (measured c d s)).stab.reason = .oscLockout) := by
    simp [stab_measured, hm, hr]
  exact ⟨_, (if_neg hn).trans (if_neg hk)⟩

/-- A start-up measurement of a muted direction ends once: without margin in MARGIN_LOST, with margin in CLIMB. -/
theorem endMeasurement_leaves (hm : (direction c d s).stab.state = .muted) (hr : (direction c d s).stab.reason ≠ .oscLockout) :
    (direction c d (endMeasurement c d s)).stab.measuring = none ∧
    ((direction c d (endMeasurement c d s)).stab.k < 0 → (direction c d (endMeasurement c d s)).stab.state = .muted ∧
      (direction c d (endMeasurement c d s)).stab.reason = .marginLost ∧ Raised 68 (dirObject c d) (endMeasurement c d s)) ∧
    (0 ≤ (direction c d (endMeasurement c d s)).stab.k → (direction c d (endMeasurement c d s)).stab.state = .climb) := by
  by_cases hk : (direction c d (measured c d s)).stab.k < 0
  · rw [endMeasurement_lost hm hr hk, stab_enterMarginLost]
    exact ⟨rfl, fun _ => ⟨rfl, rfl, raised_raise _ _ _ _⟩, fun h => absurd hk (not_lt.mpr h)⟩
  · obtain ⟨ceiling, he⟩ := endMeasurement_climbs hm hr hk
    rw [he, stab_enterClimb]
    exact ⟨congrArg Stability.measuring stab_measured, fun h => absurd h hk, fun _ => rfl⟩

theorem exec_measurementEnd_due {m : Measurement} (h : (direction c d s).stab.measuring = some m) (ho : m.openLoop = true)
    (hs : m.searching = false) (hf : isFrozen (direction c d s) s = false) (hd : trainingDone (dirDef c d s) (direction c d s) = true) :
    exec (.measurementEnd c d false) s = .next (endMeasurement c d s) := by
  refine congrArg Host.Outcome.next ?_
  simp [h, ho, hs, hf, hd]

/-- An event that names the other measurement, or none in progress, is none of the direction's (log entry 187). -/
theorem exec_measurementEnd_other {b : Bool} (h : (direction c d s).stab.measuring.all (fun m => m.openLoop == b) = true) :
    Rests (.measurementEnd c d b) s := by
  refine congrArg Host.Outcome.next ?_
  cases hm : (direction c d s).stab.measuring with
  | none => rfl
  | some m =>
    rw [hm] at h
    exact if_pos (eq_of_beq h)

/-! ## MARGIN_STALE (R192) -/

/-- The direction whose estimate has just become stale, with the clamp computed from it. -/
def staleSettled (c : Fin 64) (d : Dir) (s : State) : State := settle c d (refreshK c d (modMeter c d (fun m => { m with stale := true }) s))

theorem stale_staleSettled : (direction c d (staleSettled c d s)).meter.stale = true := by
  have hv : view (fun _ _ x => x.meter) (staleSettled c d s) = view (fun _ _ x => x.meter) (modMeter c d (fun m => { m with stale := true }) s) :=
    (view_settle (fun _ _ => rfl) _).trans (view_refreshK (fun _ _ => rfl) _)
  refine (congrArg Meter.stale (direction_of_view hv c d)).trans ?_
  rw [modMeter, direction_modDir_same]

theorem exec_marginStale_due (hl : dirLive c d s = true) (hq : isSilent (direction c d s) s = false)
    (he : estimateStale (chan c s).defn.cls (direction c d s).meter = true) (hn : (direction c d s).meter.stale = false) :
    exec (.marginStale c d) s = .next (raise 65 (dirObject c d) 0 (staleSettled c d s)) := by
  refine congrArg Host.Outcome.next (if_pos ?_)
  simp [hl, hq, he, hn]

theorem exec_marginStale_again (h : (direction c d s).meter.stale = true) : Rests (.marginStale c d) s := by
  refine congrArg Host.Outcome.next (if_neg ?_)
  simp [h]

/-! ## BACKOFF_DWELL_EXPIRY and HOLD_DWELL_EXPIRY (R203) -/

theorem exec_backoffDwellExpiry_due (hl : dirLive c d s = true) (hf : isFrozen (direction c d s) s = false)
    (hb : (direction c d s).stab.state = .backoff) (hd : (direction c d s).stab.par.backoffDwell ≤ (direction c d s).stab.dwell)
    (hk : (direction c d s).stab.s ≤ (direction c d s).stab.k) :
    exec (.backoffDwellExpiry c d) s = .next (enterClimb c d (direction c d s).stab.s s) := by
  refine congrArg Host.Outcome.next (if_pos ?_)
  simp [hl, hf, hb, hd, hk]

theorem exec_backoffDwellExpiry_other (h : (direction c d s).stab.state ≠ .backoff) : Rests (.backoffDwellExpiry c d) s := by
  refine congrArg Host.Outcome.next (if_neg ?_)
  simp [h]

theorem exec_holdDwellExpiry_due (hl : dirLive c d s = true) (hf : isFrozen (direction c d s) s = false)
    (hh : (direction c d s).stab.state = .hold) (hd : (direction c d s).stab.par.holdDwell ≤ (direction c d s).stab.holdRun) :
    exec (.holdDwellExpiry c d) s = .next (enterClimb c d (direction c d s).stab.s s) := by
  refine congrArg Host.Outcome.next (if_pos ?_)
  simp [hl, hf, hh, hd]

theorem exec_holdDwellExpiry_other (h : (direction c d s).stab.state ≠ .hold) : Rests (.holdDwellExpiry c d) s := by
  refine congrArg Host.Outcome.next (if_neg ?_)
  simp [h]

/-! ## OSC_HOLDOFF_EXPIRY and MARGIN_LOST_RETRY (R204) -/

theorem exec_oscHoldoffExpiry_due (hl : dirLive c d s = true) (hm : (direction c d s).stab.state = .muted)
    (hr : (direction c d s).stab.reason = .oscillation) (hn : (direction c d s).stab.measuring = none) (hw : inWatch s = false)
    (ho : (direction c d s).stab.par.oscHoldoff ≤ (direction c d s).stab.holdoff) :
    exec (.oscHoldoffExpiry c d) s = .next (startMeasurement c d (-3000) 255 none s) := by
  refine congrArg Host.Outcome.next (if_pos ?_)
  simp [hl, hm, hr, hn, hw, ho]

theorem exec_oscHoldoffExpiry_lockedOut (h : (direction c d s).stab.reason = .oscLockout) : Rests (.oscHoldoffExpiry c d) s := by
  refine congrArg Host.Outcome.next (if_neg ?_)
  simp [h]

theorem exec_marginLostRetry_due (hl : dirLive c d s = true) (hm : (direction c d s).stab.state = .muted)
    (hr : (direction c d s).stab.reason = .marginLost) (hn : (direction c d s).stab.measuring = none) (ho : 10000 ≤ (direction c d s).stab.retry) :
    exec (.marginLostRetry c d) s = .next (startMeasurement c d (-3000) 255 none s) := by
  refine congrArg Host.Outcome.next (if_pos ?_)
  simp [hl, hm, hr, hn, ho]

theorem exec_marginLostRetry_early (h : (direction c d s).stab.retry < 10000) : Rests (.marginLostRetry c d) s := by
  refine congrArg Host.Outcome.next (if_neg ?_)
  simp [h]

/-! ## SPLIT_TC2_SILENCE (R623) -/

/-- What the transmit device keeps of a split direction is found where it was put. -/
theorem splitOf_modSplit {v : SplitDir} {f : SplitDir → SplitDir} (h : splitOf c d s = some v) (hf : (f v).chan = c ∧ (f v).dir = d) :
    splitOf c d (modSplit c d f s) = some (f v) := by
  have hnone : (s.fabric.splits.filter (fun e => !(e.chan == c && e.dir == d))).find? (fun e => e.chan == c && e.dir == d) = none := by
    rw [List.find?_eq_none]
    intro e he
    simpa only [Bool.not_eq_true', Bool.not_eq_true] using (List.mem_filter.mp he).2
  simp only [splitOf, modSplit, modFabric] at h ⊢
  rw [List.find?_append, hnone, h]
  simp [hf]

theorem names_of_splitOf {v : SplitDir} (h : splitOf c d s = some v) : v.chan = c ∧ v.dir = d := by
  simpa using List.find?_some h

theorem splitOf_takeSplit : splitOf c d (takeSplit c d s) = splitOf c d s := by
  simp only [takeSplit]
  split <;> rfl

/-- GAIN takes no more than the S kept. -/
theorem takeSplit_le {v : SplitDir} (h : splitOf c d s = some v) : (direction c d (takeSplit c d s)).stab.s ≤ v.s := by
  simp only [takeSplit, h, stab_modStab]
  split
  · exact min_le_right _ _
  · exact le_rfl

/-- What the transmit device does at the silence: S falls by backoff, and the silence is noted. -/
def silenced (c : Fin 64) (d : Dir) (s : State) : State :=
  modSplit c d (fun v => { v with s := v.s - (direction c d s).stab.par.backoff, silent := true }) (modSplit c d id s)

theorem splitOf_silenced {v : SplitDir} (h : splitOf c d s = some v) :
    splitOf c d (silenced c d s) = some { v with s := v.s - (direction c d s).stab.par.backoff, silent := true } := by
  have hn := names_of_splitOf h
  exact splitOf_modSplit (splitOf_modSplit (f := id) h hn) hn

theorem exec_splitTc2Silence_due {v : SplitDir} (hl : dirLive c d s = true) (ht : splitTransmit (dirDef c d s) s = true) (h : splitOf c d s = some v)
    (hv : v.silent = false) (hn : v.lastTick + 10 < s.slowTicks) :
    exec (.splitTc2Silence c d) s = .next (raise 65 (dirObject c d) 0 (takeSplit c d (silenced c d s))) := by
  have hs : splitOf c d (modSplit c d id s) = some v := splitOf_modSplit (f := id) h (names_of_splitOf h)
  have hlate : decide ((modSplit c d id s).slowTicks ≤ v.lastTick + 10) = false := decide_eq_false (Nat.not_le.mpr hn)
  refine congrArg Host.Outcome.next ((if_neg ?_).trans (if_neg ?_))
  · simp [hl, ht]
  · simp only [hs, Option.any_some, hv, hlate, Bool.or_false, Bool.false_eq_true, not_false_eq_true]

theorem exec_splitTc2Silence_elsewhere (h : splitTransmit (dirDef c d s) s = false) : Rests (.splitTc2Silence c d) s := by
  refine congrArg Host.Outcome.next (if_pos ?_)
  simp [h]

end

/-- Settles O40: each event by the state it leaves where it is due, and by the test that it fails where it is not. -/
theorem stabilityEvents : Obligations.StabilityEvents := by
  intro c d x w b s
  refine ⟨fun o ho hl hf hm hr => ?_, exec_oscillationMute_other, fun hl hm hf hd => ?_, exec_delaySearchEnd_other, exec_measurementEnd_other,
    fun m h ho hf hm hr hs hd => ?_, fun hl hq he hn => ?_, exec_marginStale_again, fun hl hf hb hd hk => ?_, exec_backoffDwellExpiry_other,
    fun hl hf hh hd => ?_, exec_holdDwellExpiry_other, fun hl hm hr hn hw ho => ?_, exec_oscHoldoffExpiry_lockedOut, fun hl hm hr hn ho => ?_,
    exec_marginLostRetry_early, fun v hl ht h hv hn => ?_, exec_splitTc2Silence_elsewhere⟩
  · refine runs_of_exec (exec_oscillationMute_due ho hl hf hm hr) ?_
    rw [direction_splitMuteTold, stab_oscillationMute]
    exact ⟨rfl, raised_splitMuteTold (raised_oscillationMute c d s), rfl, oscMuted_reason _ _⟩
  · refine runs_of_exec (exec_delaySearchEnd_due hl hm hf hd) ⟨searchingDelay_searchEnded, ?_, rfl⟩
    rw [measuring_searchEnded, Option.isSome_map]
    exact measuring_of_searchingDelay hm
  · refine runs_of_exec (exec_measurementEnd_due h ho hs hf hd) (endMeasurement_leaves hm ?_)
    rw [hr]
    decide
  · exact runs_of_exec (exec_marginStale_due hl hq he hn) ⟨stale_staleSettled, raised_raise _ _ _ _⟩
  · refine runs_of_exec (exec_backoffDwellExpiry_due hl hf hb hd hk) ?_
    rw [stab_enterClimb]
    exact ⟨rfl, rfl, rfl, gain_enterClimb c d _ s⟩
  · refine runs_of_exec (exec_holdDwellExpiry_due hl hf hh hd) ?_
    rw [stab_enterClimb]
    exact ⟨rfl, rfl, gain_enterClimb c d _ s⟩
  · exact runs_of_exec (exec_oscHoldoffExpiry_due hl hm hr hn hw ho) (stab_startMeasurement c d (-3000) 255 none s)
  · exact runs_of_exec (exec_marginLostRetry_due hl hm hr hn ho) (stab_startMeasurement c d (-3000) 255 none s)
  · refine runs_of_exec (exec_splitTc2Silence_due hl ht h hv hn) ⟨raised_raise _ _ _ _, ?_, takeSplit_le (splitOf_silenced h)⟩
    exact congrArg (Option.any (·.silent)) (splitOf_takeSplit.trans (splitOf_silenced h))

end Sys2Proof.Proofs
end

/-! # The settings of donor loss, floors and the ladder -/
section
namespace Sys2Proof.Proofs

open Sys2Proof Sys2Proof.Machine Sys2Proof.Safety Sys2Proof.Laws

/-! ## Changes of directions alone -/

theorem foldl_chans {α : Type} (f : State → α → State) (h : ∀ s a, f s a = { s with chans := (f s a).chans }) (l : List α) (s : State) :
    l.foldl f s = { s with chans := (l.foldl f s).chans } :=
  List.foldlRecOn (motive := fun (t : State) => t = { s with chans := t.chans }) l f rfl (fun t ht a _ => (h t a).trans (by rw [ht]))

theorem direction_modGain_same (c : Fin 64) (d : Dir) (f : GainState → GainState) (s : State) :
    direction c d (modGain c d f s) = { direction c d s with gain := f (direction c d s).gain } := direction_modDir_same _ _ _ _

theorem gain_modGain (c : Fin 64) (d : Dir) (f : GainState → GainState) (s : State) :
    (direction c d (modGain c d f s)).gain = f (direction c d s).gain := congrArg Direction.gain (direction_modGain_same c d f s)

/-! ## DONOR_LOSS_CONFIGURE (R251, R274) -/

/-- A direction's donor-loss rule as the command gives it. -/
def donorRuled (x : Desc) (on : Bool) (g : GainState) : GainState :=
  { g with lossEnable := on, lossAbsentMs := par x 2 2, lossReturnMs := par x 4 2, donorMargin := keepLevel (par x 6 2) g.donorMargin }

/-- The rule set in every direction of a list. -/
def ruleDonors (x : Desc) (on : Bool) (l : List (Fin 64)) (s : State) : State := l.foldl (fun s c => modGain c .ul (donorRuled x on) s) s

section
variable {x : Desc} {on : Bool} {l : List (Fin 64)} {s : State}

theorem ruleDonors_chans : ruleDonors x on l s = { s with chans := (ruleDonors x on l s).chans } := foldl_chans _ (fun _ _ => rfl) l s

theorem ruleDonors_named {c : Fin 64} (h : c ∈ l) : (direction c .ul (ruleDonors x on l s)).gain.lossEnable = on ∧
    (direction c .ul (ruleDonors x on l s)).gain.lossAbsentMs = par x 2 2 ∧ (direction c .ul (ruleDonors x on l s)).gain.lossReturnMs = par x 4 2 := by
  refine foldl_reaches (fun t => (direction c .ul t).gain.lossEnable = on ∧ (direction c .ul t).gain.lossAbsentMs = par x 2 2 ∧
    (direction c .ul t).gain.lossReturnMs = par x 4 2) h (fun t => ?_) (fun t b ht => ?_)
  · rw [gain_modGain]
    exact ⟨rfl, rfl, rfl⟩
  · by_cases hb : b = c
    · rw [hb, gain_modGain]
      exact ⟨rfl, rfl, rfl⟩
    · rw [modGain, direction_modDir_ne _ _ (fun e => hb (Prod.mk.inj e).1.symm)]
      exact ht

theorem ruleDonors_other {c : Fin 64} (h : c ∉ l) : chan c (ruleDonors x on l s) = chan c s :=
  List.foldlRecOn (motive := fun t => chan c t = chan c s) l _ rfl
    (fun _ ht b hb => (chan_modDir_ne _ _ _ (fun e : c = b => h (e ▸ hb))).trans ht)

theorem ruleDonors_dl (c : Fin 64) : direction c .dl (ruleDonors x on l s) = direction c .dl s :=
  List.foldlRecOn (motive := fun t => direction c .dl t = direction c .dl s) l _ rfl
    (fun _ ht _ _ => (direction_modDir_ne _ _ (fun e => Dir.noConfusion (Prod.mk.inj e).2)).trans ht)

end

/-- A request to disable a rule that House Rules make mandatory. -/
def forcesRule (x : Desc) (s : State) : Bool := par x 1 1 == 0 && s.hr.rules.donorMandatory

theorem effectDonorLossConfigure_asked {r : Running} {s : State} (h : forcesRule r.desc s = false) : effectDonorLossConfigure r s =
    (doneWith 0, ruleDonors r.desc (par r.desc 1 1 == 1) (donorLossTargets r.desc s) s) := by
  rw [forcesRule] at h
  simp only [effectDonorLossConfigure, h, Bool.or_false]
  rfl

theorem effectDonorLossConfigure_forced {r : Running} {s : State} (h : forcesRule r.desc s = true) : ∃ x y, effectDonorLossConfigure r s =
    (doneClamped true 0x0306 0, ruleDonors r.desc true (donorLossTargets r.desc s) { s with hif := x, gb := y }) := by
  obtain ⟨x, y, hg⟩ := clamped_records (forcesRule r.desc s) (writerOf r.desc.ring.val) 4 r.desc.opcode.toNat (par r.desc 0 1) 1 0
    (min 200 (par r.desc 2 2)) 200 s
  rw [forcesRule] at h hg
  refine ⟨x, y, ?_⟩
  simp only [effectDonorLossConfigure, hg]
  simp only [h, Bool.or_true]
  rfl

section
variable {d : Desc} {s : State} (c : Fin 64)

theorem donorLossConfigure_asked (h : ¬ (par d 1 1 = 0 ∧ s.hr.rules.donorMandatory = true)) :
    Does 0x0305 checkDonorLossConfigure (.donorLossConfigure d) d s 0 (fun t =>
      (c ∈ donorLossTargets d s → (direction c .ul t).gain.lossEnable = (par d 1 1 == 1) ∧ (direction c .ul t).gain.lossAbsentMs = par d 2 2 ∧
        (direction c .ul t).gain.lossReturnMs = par d 4 2) ∧
      (c ∉ donorLossTargets d s → chan c t = chan c s) ∧ direction c .dl t = direction c .dl s ∧ t = { Kept s t with chans := t.chans }) := by
  refine answers_of_effect effectDonorLossConfigure rfl (fun _ => rfl) (fun x _ => ?_)
  have hf : forcesRule (coded 0x0305 d) { s with hif := x } = false := by
    rw [forcesRule, ← Bool.not_eq_true, Bool.and_eq_true, beq_iff_eq]
    exact h
  rw [effectDonorLossConfigure_asked (r := starting 0x0305 d s) hf, ruleDonors_chans]
  exact ⟨⟨_, rfl, rfl, rfl, rfl, read_of_detail_zero rfl⟩, rfl, rfl, fun b =>
    ⟨fun hc => (ruleDonors_named hc :), fun hc => (ruleDonors_other hc :), (ruleDonors_dl c :), rfl⟩⟩

theorem donorLossConfigure_forced (h0 : par d 1 1 = 0) (hm : s.hr.rules.donorMandatory = true) : Passes 0x0305 checkDonorLossConfigure d s →
    ∃ t, exec (.donorLossConfigure d) s = .next t ∧ Answered 0x0305 d .clamped 0x0306 0 t ∧
      (c ∈ donorLossTargets d s → (direction c .ul t).gain.lossEnable = true ∧ (direction c .ul t).gain.lossAbsentMs = par d 2 2) := by
  refine answers_of_effect effectDonorLossConfigure rfl (fun _ => rfl) (fun x _ => ?_)
  have hf : forcesRule (coded 0x0305 d) { s with hif := x } = true := by
    rw [forcesRule, Bool.and_eq_true, beq_iff_eq]
    exact ⟨h0, hm⟩
  obtain ⟨u, y, he⟩ := effectDonorLossConfigure_forced (r := starting 0x0305 d s) hf
  rw [he, ruleDonors_chans]
  refine ⟨⟨_, rfl, rfl, rfl, rfl, by simp [Unread]⟩, rfl, rfl, fun b hc => ?_⟩
  obtain ⟨hon, habsent, _⟩ := ruleDonors_named (x := coded 0x0305 d) (on := true) (s := { s with hif := u, gb := y }) hc
  exact ⟨hon, habsent⟩

/-! ## THRESHOLD_CONFIGURE (R275) -/

/-- The floor parameters of the command wait for the next update. -/
def floorAsked (x : Desc) (g : GainState) : GainState := { g with floorNext := some (floorOf x g) }

theorem effectThresholdConfigure_floor {r : Running} {s : State} (h : par r.desc 0 1 = 0) : effectThresholdConfigure r s =
    (doneWith 0, modGain (chanOf (par r.desc 1 1)) (dirOf (par r.desc 2 1)) (floorAsked r.desc) s) := Prod.ext rfl (if_pos h)

theorem thresholdConfigure_floor (h0 : par d 0 1 = 0) : Does 0x0306 checkThresholdConfigure (.thresholdConfigure d) d s 0 (fun t =>
    t = { Kept s t with chans := t.chans } ∧
    direction (chanOf (par d 1 1)) (dirOf (par d 2 1)) t =
      { direction (chanOf (par d 1 1)) (dirOf (par d 2 1)) s with
          gain := { (direction (chanOf (par d 1 1)) (dirOf (par d 2 1)) s).gain with
                      floorNext := some (floorOf d (direction (chanOf (par d 1 1)) (dirOf (par d 2 1)) s).gain) } }) := by
  refine answers_of_effect effectThresholdConfigure rfl (fun _ => rfl) (fun x _ => ?_)
  rw [effectThresholdConfigure_floor (r := starting 0x0306 d s) h0]
  exact ⟨⟨_, rfl, rfl, rfl, rfl, read_of_detail_zero rfl⟩, rfl, rfl, fun _ =>
    ⟨rfl, direction_modGain_same (chanOf (par d 1 1)) (dirOf (par d 2 1)) (floorAsked d) { s with hif := x }⟩⟩

theorem thresholdConfigure_ladder (h0 : par d 0 1 ≠ 0) : Does 0x0306 checkThresholdConfigure (.thresholdConfigure d) d s 0 (fun t =>
    t = { Kept s t with ladderNext := some { overpowerMs := par d 4 2, overRetryS := par d 6 2, overRetryLimit := par d 8 1,
                                             portMuteLimit := par d 9 1, portRetryS := par d 10 2, deviceStopPorts := par d 12 1 } }) := by
  refine answers_of_effect effectThresholdConfigure rfl (fun _ => rfl) (fun x _ => ?_)
  have he : effectThresholdConfigure (starting 0x0306 d s) { s with hif := x } = (doneWith 0,
      { s with hif := x, ladderNext := some { overpowerMs := par d 4 2, overRetryS := par d 6 2, overRetryLimit := par d 8 1,
                                              portMuteLimit := par d 9 1, portRetryS := par d 10 2, deviceStopPorts := par d 12 1 } }) :=
    Prod.ext rfl (if_neg h0)
  rw [he]
  exact ⟨⟨_, rfl, rfl, rfl, rfl, read_of_detail_zero rfl⟩, rfl, rfl, fun _ => rfl⟩

end

/-- Settles O18: the donor-loss rule is set direction by direction, behind the record of a clamp; the other parameters wait for their update. -/
theorem protectionSettings : Obligations.ProtectionSettings := by
  intro d s c
  exact ⟨donorLossConfigure_asked c, donorLossConfigure_forced c, thresholdConfigure_floor, thresholdConfigure_ladder⟩

end Sys2Proof.Proofs
end

/-! # Mutes of a direction, and port stops as its gain sees them -/
section
namespace Sys2Proof.Proofs

open Sys2Proof Sys2Proof.Machine Sys2Proof.Safety Sys2Proof.Laws

/-! ## Reasons put in -/

theorem hasReason_putReason_same {k : Nat} (h : k - 1 < 20) (m : BitVec 20) : hasReason (putReason m k) k = true := by
  rw [hasReason, putReason, BitVec.getLsbD_or, BitVec.getLsbD_ofNat, Nat.testBit_two_pow_self, decide_eq_true h, Bool.and_self, Bool.or_true]

section
variable {j k : Nat} (h : k - 1 ≠ j - 1) (m : BitVec 20)
include h

/-- The bit of a reason is clear in the mask of another. -/
theorem getLsbD_reason_ne : (BitVec.ofNat 20 (2 ^ (j - 1))).getLsbD (k - 1) = false := by
  rw [BitVec.getLsbD_ofNat, Nat.testBit_two_pow_of_ne h.symm, Bool.and_false]

theorem hasReason_putReason_ne : hasReason (putReason m j) k = hasReason m k := by
  rw [hasReason, putReason, BitVec.getLsbD_or, getLsbD_reason_ne h, Bool.or_false, hasReason]

theorem hasReason_cutReason_ne : hasReason (cutReason m j) k = hasReason m k := by
  rw [hasReason, cutReason, BitVec.getLsbD_and, BitVec.getLsbD_not, getLsbD_reason_ne h, hasReason]
  by_cases hk : k - 1 < 20
  · simp [hk]
  · simp [BitVec.getLsbD_of_ge m (k - 1) (by omega)]

end

section
variable (c : Fin 64) (d : Dir) (k : Nat) (i : ProtInfo) (s : State)

theorem reasons_addMute : (direction c d (addMute c d k i s)).gain.reasons =
    if hasReason (direction c d s).gain.reasons k then (direction c d s).gain.reasons else putReason (direction c d s).gain.reasons k := by
  cases h : hasReason (direction c d s).gain.reasons k with
  | true => simp only [addMute, h, if_true]
  | false =>
    have hv : view (fun _ _ x => x.gain.reasons) (addMute c d k i s) =
        view (fun _ _ x => x.gain.reasons) (modGain c d (fun g => { g with reasons := putReason g.reasons k }) s) := by
      simp only [addMute, h, Bool.false_eq_true, if_false]
      rw [view_freezeFrom (fun _ _ => rfl), view_legacyMute, view_dirRecord]
    refine (direction_of_view hv c d).trans ?_
    rw [gain_modGain, if_neg Bool.false_ne_true]

theorem addMute_adds {k : Nat} (h : k - 1 < 20) : hasReason (direction c d (addMute c d k i s)).gain.reasons k = true := by
  rw [reasons_addMute]
  split
  · assumption
  · exact hasReason_putReason_same h _

theorem dropMute_keeps {j k : Nat} (h : k - 1 ≠ j - 1) :
    hasReason (direction c d (dropMute c d j i s)).gain.reasons k = hasReason (direction c d s).gain.reasons k := by
  rw [reasons_dropMute]
  split
  · exact hasReason_cutReason_ne h _
  · rfl

/-! ## Of the other directions a mute changes nothing -/

theorem view_modGain_butOne (f : GainState → GainState) : view (butOne c d) (modGain c d f s) = view (butOne c d) s := view_modDir (butOne_same _ _ _ _)

theorem view_addMute_butOne : view (butOne c d) (addMute c d k i s) = view (butOne c d) s :=
  view_addMute (fun _ _ => butOne_same _ _ _ _) s (fun _ _ => butOne_same _ _ _ _) k i

theorem view_dropMute_butOne : view (butOne c d) (dropMute c d k i s) = view (butOne c d) s :=
  view_dropMute (fun _ _ => butOne_same _ _ _ _) s (fun _ _ => butOne_same _ _ _ _) k i

end

theorem now_of_view {β : Type} {v : Fin 64 → Dir → Direction → β} {s t : State} (h : view v t = view v s) : t.now = s.now :=
  congrArg (fun w => w.rest.now) h

theorem dirLive_of_view {β : Type} {v : Fin 64 → Dir → Direction → β} {s t : State} (h : view v t = view v s) (c : Fin 64) (d : Dir) :
    dirLive c d t = dirLive c d s := by
  rw [dirLive, state_of_view h, defn_of_view h, dirLive]

theorem mem_liveDirs {c : Fin 64} {d : Dir} {s : State} : (c, d) ∈ liveDirs s ↔ dirLive c d s = true := by
  cases d <;> simp [liveDirs, bothDirs]

/-! ## What port stops and orderly stops leave of the directions (R254-R256, R570) -/

/-- What a reading takes of the directions. -/
def seen {β : Type} (v : Fin 64 → Dir → Direction → β) (s : State) : Fin 64 → Dir → β := fun c d => v c d (direction c d s)

section
variable {β : Type} {v : Fin 64 → Dir → Direction → β}

theorem seen_of_view {s t : State} (h : view v t = view v s) : seen v t = seen v s := congrArg View.directions h

theorem seen_of_chans {s t : State} (h : t.chans = s.chans) : seen v t = seen v s := by
  unfold seen direction chan
  rw [h]

theorem seen_ite (p : Prop) [Decidable p] (s t : State) : seen v (if p then s else t) = if p then seen v s else seen v t := apply_ite (seen v) p s t

theorem seen_foldl {α : Type} (f : State → α → State) (l : List α) (s : State) (h : ∀ s a, seen v (f s a) = seen v s) :
    seen v (l.foldl f s) = seen v s :=
  List.foldlRecOn (motive := fun t => seen v t = seen v s) l f rfl (fun t ht a _ => (h t a).trans ht)

/-! ### Parts of a stop that touch no direction -/

theorem chans_ite (p : Prop) [Decidable p] (s t : State) : (if p then s else t).chans = if p then s.chans else t.chans := apply_ite State.chans p s t

theorem chans_foldl {α : Type} (f : State → α → State) (l : List α) (s : State) (h : ∀ s a, (f s a).chans = s.chans) : (l.foldl f s).chans = s.chans :=
  List.foldlRecOn (motive := fun t => t.chans = s.chans) l f rfl (fun t ht a _ => (h t a).trans ht)

@[simp] theorem chans_postEvent (code severity source : Nat) (bytes : List Byte) (s : State) : (postEvent code severity source bytes s).chans = s.chans := by
  rw [postEvent_hif]

@[simp] theorem chans_logRecord (cls severity source code : Nat) (bytes : List Byte) (events : List EventRec) (s : State) :
    (logRecord cls severity source code bytes events s).chans = s.chans := by
  obtain ⟨x, y, h⟩ := logRecord_records cls severity source code bytes events s
  rw [h]

@[simp] theorem chans_flushProt (s : State) : (flushProt s).chans = s.chans :=
  chans_foldl _ _ _ (fun _ _ => chans_logRecord _ _ _ _ _ _ _)

@[simp] theorem chans_powerRecord (old new : PowerState) (cause writer : Nat) (s : State) : (powerRecord old new cause writer s).chans = s.chans := by
  have hd (t : State) : (dropScan old t).chans = t.chans := by
    rw [dropScan, chans_ite, ite_self]
  rw [powerRecord, hd, chans_logRecord]

@[simp] theorem chans_answerRing (r : Fin 10) (ringOf : Option (Fin 22)) (results : List Int) (s : State) :
    (answerRing r ringOf results s).chans = s.chans := by
  cases ringOf <;> rfl

@[simp] theorem chans_setRailState (r : Fin 10) (x : RailState) (source : Nat) (s : State) : (setRailState r x source s).chans = s.chans := by
  rw [setRailState, chans_ite, chans_postEvent]
  exact ite_self _

@[simp] theorem chans_dropWaits (r : Fin 10) (results : List Int) (s : State) : (dropWaits r results s).chans = s.chans :=
  (chans_answerRing r _ results _).trans (chans_answerRing r _ results s)

@[simp] theorem chans_beginRailStop (r : Fin 10) (s : State) : (beginRailStop r s).chans = s.chans := by
  simp only [beginRailStop, chans_ite, chans_setRailState, chans_dropWaits, ite_self]

@[simp] theorem chans_stopPortRails (s : State) : (stopPortRails s).chans = s.chans :=
  chans_foldl _ _ _ (fun _ _ => chans_foldl _ _ _ (fun _ _ => chans_beginRailStop _ _))

@[simp] theorem chans_legacyStop (p : Fin 8) (reason : Nat) (s : State) : (legacyStop p reason s).chans = s.chans := by
  have hg (c : Fin 64) (e : Dir) (f : GqDir → GqDir) (t : State) : (modGq c e f t).chans = t.chans := rfl
  simp only [legacyStop, chans_ite, chans_foldl, hg, implies_true, ite_self]

/-! ### Stops, in a reading that sees neither the stability machine, nor holds, nor the mute of a stopped port -/

/-- A reading of directions that the stop of a port does not change. -/
structure BlindToStops (v : Fin 64 → Dir → Direction → β) : Prop where
  stab : ∀ c d x m, v c d { x with stab := m } = v c d x
  held : ∀ c d x h, v c d { x with held := h } = v c d x
  heldPorts : ∀ c d x h e, v c d { x with heldPorts := h, heldEnd := e } = v c d x
  put : ∀ c d x, v c d { x with gain := { x.gain with reasons := putReason x.gain.reasons reasonPortStop } } = v c d x
  cut : ∀ c d x, v c d { x with gain := { x.gain with reasons := cutReason x.gain.reasons reasonPortStop } } = v c d x

section
variable (hv : BlindToStops v)
include hv

theorem view_addMute_portStop (c : Fin 64) (d : Dir) (i : ProtInfo) (s : State) : view v (addMute c d reasonPortStop i s) = view v s := by
  have hg : view v (modGain c d (fun g => { g with reasons := putReason g.reasons reasonPortStop }) s) = view v s := view_modDir (hv.put _ _ _)
  simp only [addMute, view_ite, view_freezeFrom (hv.stab _ _), view_legacyMute, view_dirRecord, hg, ite_self]

theorem view_dropMute_portStop (c : Fin 64) (d : Dir) (i : ProtInfo) (s : State) : view v (dropMute c d reasonPortStop i s) = view v s := by
  have hg : view v (modGain c d (fun g => { g with reasons := cutReason g.reasons reasonPortStop }) s) = view v s := view_modDir (hv.cut _ _ _)
  simp only [dropMute, view_ite, view_freezeFrom (hv.stab _ _), view_dirRecord, hg, ite_self]

theorem seen_refreshPortStops (s : State) : seen v (refreshPortStops s) = seen v s := by
  refine seen_of_view ((view_refreshHolds hv.stab hv.held hv.heldPorts _).trans (view_foldl _ _ _ (fun t e => ?_)))
  simp only [view_ite, view_addMute_portStop hv, view_dropMute_portStop hv, ite_self]

theorem seen_enterStopped (s : State) : seen v (enterStopped s) = seen v s :=
  (seen_foldl _ _ _ (fun t _ => seen_of_view (view_freezeFrom (hv.stab _ _) t _))).trans (seen_of_chans rfl)

theorem seen_beginStop (portCode : Nat) (s : State) : seen v (beginStop portCode s) = seen v s := by
  have hm (p : Fin 8) (f : PortState → PortState) (t : State) : seen v (modPort p f t) = seen v t := rfl
  have hr (p : Fin 8) (t : State) : seen v (portRecord 0x0005 p 3 portCode {} t) = seen v t := seen_of_view (view_portRecord _ _ _ _ _ _)
  rw [beginStop, seen_of_chans (chans_stopPortRails _), seen_of_chans (chans_flushProt _), seen_refreshPortStops hv]
  refine seen_foldl _ _ _ (fun t p => ?_)
  simp only [seen_ite, hr, hm, ite_self]

theorem seen_orderlyStop (reason : Nat) (src : Option (Fin 512)) (writer : Nat) (s : State) : seen v (orderlyStop reason src writer s) = seen v s := by
  have hp (code obj ch dir prt step k : Nat) (i : ProtInfo) (t : State) : seen v (protRecord code obj ch dir prt step k i t) = seen v t :=
    seen_of_view (view_protRecord _ _ _ _ _ _ _ _ _)
  have hw (old : PowerState) (t : State) : seen v (writeCheckpoint (powerRecord old .stopped reason writer t)) = seen v t :=
    seen_of_chans (chans_powerRecord _ _ _ _ _)
  have hs (x : System) (t : State) : seen v { t with sys := x } = seen v t := rfl
  simp only [orderlyStop, seen_ite, seen_enterStopped hv, hw, seen_beginStop hv, hp, hs, ite_self]

theorem seen_checkPorts (s : State) : seen v (checkPorts s) = seen v s := by
  simp only [checkPorts, seen_ite, seen_orderlyStop hv, ite_self]

theorem seen_stopPort (p : Fin 8) (reason : Nat) (i : ProtInfo) (s : State) : seen v (stopPort p reason i s) = seen v s := by
  have hm (f : PortState → PortState) (t : State) : seen v (modPort p f t) = seen v t := rfl
  have hr (t : State) : seen v (portRecord 0x0005 p 3 reason i t) = seen v t := seen_of_view (view_portRecord _ _ _ _ _ _)
  have hl (t : State) : seen v (legacyStop p reason t) = seen v t := seen_of_chans (chans_legacyStop _ _ _)
  simp only [stopPort, seen_ite, seen_checkPorts hv, seen_refreshPortStops hv, hr, hl, hm, ite_self]

theorem seen_countMute (c : Fin 64) (d : Dir) (s : State) : seen v (countMute c d s) = seen v s := by
  have hm (p : Fin 8) (f : PortState → PortState) (t : State) : seen v (modPort p f t) = seen v t := rfl
  refine seen_foldl _ _ _ (fun t p => ?_)
  simp only [seen_ite, seen_stopPort hv, hm, ite_self]

end

end

end Sys2Proof.Proofs
end

/-! # The donor, floors, squelch and over-power -/
section
namespace Sys2Proof.Proofs

open Sys2Proof Sys2Proof.Machine Sys2Proof.Safety Sys2Proof.Laws

/-! ## Mutes and releases of one direction (R240, R245, R250) -/

section
variable {c k : Fin 64} {d : Dir} {s : State}

theorem runs_implausibleMute (hl : dirLive c d s = true) (hf : (direction c d s).gain.alcFrozen = true)
    (ht : 800 ≤ (direction c d s).gain.implausibleTicks) : Runs (.implausibleMute c d) s (fun t =>
      hasReason (direction c d t).gain.reasons reasonImplausible = true ∧ (k ≠ c → chan k t = chan k s) ∧ t.ports = s.ports ∧ t.now = s.now) := by
  have hv (i : ProtInfo) := view_addMute_butOne c d reasonImplausible i s
  refine runs_of_exec (congrArg Host.Outcome.next (if_pos ?_)) ⟨addMute_adds _ _ _ _ (by decide), chan_of_butOne (hv _), ports_of_view (hv _), now_of_view (hv _)⟩
  simp [hl, hf, ht]

theorem rests_implausibleMute (h : (direction c d s).gain.implausibleTicks < 800) : Rests (.implausibleMute c d) s := by
  refine congrArg Host.Outcome.next (if_neg ?_)
  simp [h]

theorem runs_couplingRelease {n : Nat} (hl : dirLive c .ul s = true) (hn : (direction c .ul s).gain.couplingOk = some n) (h : 1000 ≤ n) :
    Runs (.couplingRelease c) s (fun t =>
      hasReason (direction c .ul t).gain.reasons reasonCoupling = false ∧ (k ≠ c → chan k t = chan k s) ∧ t.ports = s.ports) := by
  have hv (i : ProtInfo) := view_dropMute_butOne c .ul reasonCoupling i s
  refine runs_of_exec (congrArg Host.Outcome.next (if_pos ?_)) ⟨dropMute_drops _ _ _ _ _, chan_of_butOne (hv _), ports_of_view (hv _)⟩
  simp [hl, hn, h]

theorem rests_couplingRelease (h : (direction c .ul s).gain.couplingOk = none) : Rests (.couplingRelease c) s := by
  refine congrArg Host.Outcome.next (if_neg ?_)
  simp [h]

/-- The run of the donor's presence ended, and the mute for its loss. -/
def donorLost (c : Fin 64) (i : ProtInfo) (s : State) : State :=
  addMute c .ul reasonDonorLoss i (modGain c .ul (fun g => { g with donorPresent := none }) s)

theorem view_donorLost (c : Fin 64) (i : ProtInfo) (s : State) : view (butOne c .ul) (donorLost c i s) = view (butOne c .ul) s :=
  (view_addMute_butOne _ _ _ _ _).trans (view_modGain_butOne _ _ _ _)

theorem donorPresent_donorLost (c : Fin 64) (i : ProtInfo) (s : State) : (direction c .ul (donorLost c i s)).gain.donorPresent = none := by
  have hv : view (fun _ _ x => x.gain.donorPresent) (donorLost c i s) =
      view (fun _ _ x => x.gain.donorPresent) (modGain c .ul (fun g => { g with donorPresent := none }) s) :=
    view_addMute (fun _ _ => rfl) _ (fun _ _ => rfl) _ _
  refine (direction_of_view hv c .ul).trans ?_
  rw [gain_modGain]

theorem runs_donorLossMute {n : Nat} (hl : dirLive c .ul s = true) (hn : (direction c .ul s).gain.donorLossDue = some n) (h : n < s.slowTicks) :
    Runs (.donorLossMute c) s (fun t => hasReason (direction c .ul t).gain.reasons reasonDonorLoss = true ∧
      (direction c .ul t).gain.donorPresent = none ∧ (k ≠ c → chan k t = chan k s)) := by
  refine runs_of_exec (t := donorLost c _ s) (congrArg Host.Outcome.next (if_pos ?_))
    ⟨addMute_adds _ _ _ _ (by decide), donorPresent_donorLost _ _ _, chan_of_butOne (view_donorLost _ _ _)⟩
  simp [hl, hn, h]

theorem rests_donorLossMute (h : (direction c .ul s).gain.donorLossDue = none) : Rests (.donorLossMute c) s := by
  refine congrArg Host.Outcome.next (if_neg ?_)
  simp [h]

theorem runs_donorReturn {n : Nat} (hl : dirLive c .ul s = true) (hn : (direction c .ul s).gain.donorPresent = some n)
    (h : (direction c .ul s).gain.lossReturnMs ≤ n) : Runs (.donorReturn c) s (fun t =>
      hasReason (direction c .ul t).gain.reasons reasonDonorLoss = false ∧ (k ≠ c → chan k t = chan k s)) := by
  refine runs_of_exec (congrArg Host.Outcome.next (if_pos ?_)) ⟨dropMute_drops _ _ _ _ _, chan_of_butOne (view_dropMute_butOne _ _ _ _ _)⟩
  simp [hl, hn, h]

theorem rests_donorReturn (h : (direction c .ul s).gain.donorPresent = none) : Rests (.donorReturn c) s := by
  refine congrArg Host.Outcome.next (if_neg ?_)
  simp [h]

end

/-! ## DONOR_UPDATE (R241-R245, R249, R250) -/

/-- The ceiling that the rules give an UL direction for its donor. -/
def donorCeiling (c : Fin 64) (s : State) : Int :=
  ceilingU c (donorPower c s) (if dirLive (refChannel c s) .dl s then
    meanApplied (dirDef (refChannel c s) .dl s) (direction (refChannel c s) .dl s).gain else none) s

/-- The ceiling in force moves to a new one: at once down, by at most 0.10 dB up (R242). -/
def ceilingMoved (u old : Int) : Int := if u ≤ old then u else min u (old + 10)

section
variable {c : Fin 64} {s : State}

theorem donorUpdate_absent (h : dirLive c .ul s = false) : donorUpdate c s = s := by
  rw [donorUpdate, h]
  rfl

/-- An update takes the meters' readings, then mutes below 0 dB, then releases where the rule of donor loss is off. -/
theorem donorUpdate_live (h : dirLive c .ul s = true) : ∃ f : GainState → GainState,
    (∀ g, (f g).pDonor = donorPower c s ∧ (f g).u = ceilingMoved (donorCeiling c s) g.u) ∧ ∃ i j, donorUpdate c s =
      let t := modGain c .ul f s
      let m := if (direction c .ul t).gain.u < 0 then addMute c .ul reasonCoupling i t else t
      if (direction c .ul t).gain.lossEnable then m else dropMute c .ul reasonDonorLoss j m :=
  ⟨_, fun _ => ⟨rfl, rfl⟩, _, _, if_neg (by rw [h]; decide)⟩

/-- An update changes directions alone, but for records, alarms and messages. -/
theorem view_donorUpdate (c : Fin 64) (s : State) : view (fun _ _ _ => ()) (donorUpdate c s) = view (fun _ _ _ => ()) s := by
  cases h : dirLive c .ul s with
  | false => rw [donorUpdate_absent h]
  | true =>
    obtain ⟨f, _, i, j, he⟩ := donorUpdate_live h
    have hf : view (fun _ _ _ => ()) (modGain c .ul f s) = view (fun _ _ _ => ()) s := view_modDir rfl
    simp only [he, view_ite, view_addMute (v := fun _ _ _ => ()) (fun _ _ => rfl) _ (fun _ _ => rfl),
      view_dropMute (v := fun _ _ _ => ()) (fun _ _ => rfl) _ (fun _ _ => rfl), hf, ite_self]

theorem donorUpdate_takes (h : dirLive c .ul s = true) : (direction c .ul (donorUpdate c s)).gain.pDonor = donorPower c s ∧
    (direction c .ul (donorUpdate c s)).gain.u = ceilingMoved (donorCeiling c s) (direction c .ul s).gain.u := by
  obtain ⟨f, hf, i, j, he⟩ := donorUpdate_live h
  have hv : view (fun _ _ x => (x.gain.pDonor, x.gain.u)) (donorUpdate c s) = view (fun _ _ x => (x.gain.pDonor, x.gain.u)) (modGain c .ul f s) := by
    simp only [he, view_ite, view_addMute (v := fun _ _ x => (x.gain.pDonor, x.gain.u)) (fun _ _ => rfl) _ (fun _ _ => rfl),
      view_dropMute (v := fun _ _ x => (x.gain.pDonor, x.gain.u)) (fun _ _ => rfl) _ (fun _ _ => rfl), ite_self]
  obtain ⟨hp, hu⟩ := Prod.mk.inj (direction_of_view hv c .ul)
  rw [hp, hu, gain_modGain]
  exact hf _

theorem donorUpdate_mutes (h : dirLive c .ul s = true) (hu : (direction c .ul (donorUpdate c s)).gain.u < 0) :
    hasReason (direction c .ul (donorUpdate c s)).gain.reasons reasonCoupling = true := by
  rw [(donorUpdate_takes h).2] at hu
  obtain ⟨f, hf, i, j, he⟩ := donorUpdate_live h
  have hn : (direction c .ul (modGain c .ul f s)).gain.u < 0 := by
    rw [gain_modGain, (hf _).2]
    exact hu
  have hm := addMute_adds c .ul i (modGain c .ul f s) (k := reasonCoupling) (by decide)
  simp only [he, if_pos hn]
  split
  · exact hm
  · exact (dropMute_keeps _ _ _ _ (by decide)).trans hm

/-- Where one UL direction is alone, an update of all of them is its own. -/
theorem donorUpdates_alone (h : ∀ j, j ≠ c → dirLive j .ul s = false) :
    (List.finRange 64).foldl (fun s c => donorUpdate c s) s = donorUpdate c s :=
  foldl_meets (· = s) (· = donorUpdate c s) (List.nodup_finRange 64) (List.mem_finRange c) rfl
    (fun _ j hj ht => (ht ▸ donorUpdate_absent (h j hj)).trans ht) (fun _ ht => ht ▸ rfl)
    (fun _ j hj ht => by
      rw [ht]
      exact donorUpdate_absent ((dirLive_of_view (view_donorUpdate c s) j .ul).trans (h j hj)))

/-- The meters that begin anew touch neither what the update took nor the mutes. -/
theorem view_nextDonorBins (l : List (Fin 64 × Dir)) (s : State) :
    view (fun _ _ x => (x.gain.pDonor, x.gain.u, x.gain.reasons)) (l.foldl nextDonorBins s) =
      view (fun _ _ x => (x.gain.pDonor, x.gain.u, x.gain.reasons)) s := by
  refine view_foldl _ _ _ (fun t e => ?_)
  unfold nextDonorBins
  exact view_modDir rfl

theorem runs_donorUpdate {i : Nat} {u : Int} (hi : 10 * i = s.slowTicks) (hl : dirLive c .ul s = true) (ha : ∀ j, j ≠ c → dirLive j .ul s = false)
    (hu : donorCeiling c s = u) : Runs (.donorUpdate i) s (fun t => (direction c .ul t).gain.pDonor = donorPower c s ∧
      (direction c .ul t).gain.u = ceilingMoved u (direction c .ul s).gain.u ∧
      ((direction c .ul t).gain.u < 0 → hasReason (direction c .ul t).gain.reasons reasonCoupling = true) ∧ t.ports = s.ports) := by
  subst hu
  have hx : exec (.donorUpdate i) s = .next ((liveDirs s).foldl nextDonorBins (donorUpdate c s)) := by
    rw [← donorUpdates_alone ha]
    exact congrArg Host.Outcome.next (if_neg (not_not.mpr hi))
  have hv := view_nextDonorBins (liveDirs s) (donorUpdate c s)
  have hg := direction_of_view hv c .ul
  simp only [Prod.mk.injEq] at hg
  obtain ⟨hp, hc, hr⟩ := hg
  obtain ⟨hp', hc'⟩ := donorUpdate_takes hl
  refine runs_of_exec hx ⟨hp.trans hp', hc.trans hc', ?_, (ports_of_view hv).trans (ports_of_view (view_donorUpdate c s))⟩
  rw [hc, hr]
  exact donorUpdate_mutes hl

theorem rests_donorUpdate {i : Nat} (h : liveDirs s = [] ∨ 10 * i ≠ s.slowTicks) : Rests (.donorUpdate i) s := by
  by_cases hi : 10 * i = s.slowTicks
  · have hn : liveDirs s = [] := h.resolve_right (not_not.mpr hi)
    have hd (c : Fin 64) : dirLive c .ul s = false := by
      rw [← Bool.not_eq_true, ← mem_liveDirs, hn]
      exact List.not_mem_nil
    have hu : (List.finRange 64).foldl (fun s c => donorUpdate c s) s = s := foldl_fixed (fun c _ => donorUpdate_absent (hd c))
    have hx : (liveDirs s).foldl nextDonorBins ((List.finRange 64).foldl (fun s c => donorUpdate c s) s) = s := by
      rw [hu, hn, List.foldl_nil]
    exact congrArg Host.Outcome.next ((if_neg (not_not.mpr hi)).trans hx)
  · exact congrArg Host.Outcome.next (if_pos hi)

end

/-! ## FLOOR_UPDATE (R252, R253, R275) -/

/-- Floor parameters that wait come into force. -/
def takeFloor (g : GainState) : GainState :=
  match g.floorNext with
  | some (lo, hi, n, r) => { g with thrMin := lo, thrMax := hi, percentile := n, riseMax := r, floorNext := none }
  | none => g

/-- The floor parameters of every direction come into force. -/
def takeFloors (s : State) : State := (liveDirs s).foldl (fun s e => modGain e.1 e.2 takeFloor s) s

section
variable {c : Fin 64} {d : Dir} {s : State}

theorem takeFloors_chans (s : State) : takeFloors s = { s with chans := (takeFloors s).chans } := foldl_chans _ (fun _ _ => rfl) _ s

theorem takeThresholds_eq (s : State) : takeThresholds s =
    match (takeFloors s).ladderNext with
    | some p => { takeFloors s with ladder := p, ladderNext := none }
    | none => takeFloors s := rfl

/-- New ladder parameters leave the directions. -/
theorem direction_takeThresholds (c : Fin 64) (d : Dir) (s : State) : direction c d (takeThresholds s) = direction c d (takeFloors s) := by
  rw [takeThresholds_eq]
  split <;> rfl

theorem takeThresholds_ladder {p : LadderParams} (h : s.ladderNext = some p) :
    takeThresholds s = { takeFloors s with ladder := p, ladderNext := none } := by
  have hn : (takeFloors s).ladderNext = some p := by rw [takeFloors_chans, h]
  rw [takeThresholds_eq, hn]

theorem gain_takeFloors (h : dirLive c d s = true) : (direction c d (takeFloors s)).gain = takeFloor (direction c d s).gain := by
  refine foldl_meets (fun t => (direction c d t).gain = (direction c d s).gain) (fun t => (direction c d t).gain = takeFloor (direction c d s).gain)
    (nodup_liveDirs s) (mem_liveDirs.mpr h) rfl (fun t e he ht => ?_) (fun t ht => ?_) (fun t e he ht => ?_)
  · rw [modGain, direction_modDir_ne _ _ (Ne.symm he), ht]
  · rw [gain_modGain, ht]
  · rw [modGain, direction_modDir_ne _ _ (Ne.symm he), ht]

/-- The update of one point of a direction's noise floor. -/
def updatePoint (c : Fin 64) (d : Dir) (s : State) (k : Fin 4) : State :=
  modGain c d (fun g => { g with floor := g.floor.set k (nextFloor (direction c d s).gain k (floorThreshold c d k s)) }) s

theorem floorUpdate_eq (s : State) (e : Fin 64 × Dir) : floorUpdate s e =
    modGain e.1 e.2 (fun g => { g with floorBins := g.floorBins.map (fun l => [] :: l.take 9) })
      ((floorPoints e.2 (dirDef e.1 e.2 s)).foldl (updatePoint e.1 e.2) s) := rfl

/-- The update of the floors of all directions that receive here. -/
def updateFloors (s : State) : State := ((liveDirs s).filter (fun e => onReceiveDevice (dirDef e.1 e.2 s) s)).foldl floorUpdate s

theorem updateFloors_chans (s : State) : updateFloors s = { s with chans := (updateFloors s).chans } := by
  refine foldl_chans _ (fun t e => ?_) _ s
  rw [floorUpdate_eq, foldl_chans (updatePoint e.1 e.2) (fun _ _ => rfl)]
  rfl

/-- New floors leave the parameters and the mutes. -/
theorem view_updateFloors (s : State) : view (fun _ _ x => (x.gain.floorNext, x.gain.thrMin, x.gain.thrMax, x.gain.reasons)) (updateFloors s) =
    view (fun _ _ x => (x.gain.floorNext, x.gain.thrMin, x.gain.thrMax, x.gain.reasons)) s := by
  refine view_foldl _ _ _ (fun t e => ?_)
  rw [floorUpdate_eq]
  refine (view_modDir rfl).trans (view_foldl _ _ _ (fun u k => ?_))
  unfold updatePoint
  exact view_modDir rfl

theorem exec_floorUpdate {i : Nat} (h : 100 * i = s.slowTicks) : exec (.floorUpdate i) s = .next (updateFloors (takeThresholds s)) :=
  congrArg Host.Outcome.next (if_neg (not_not.mpr h))

theorem rests_floorUpdate {i : Nat} (h : 100 * i ≠ s.slowTicks) : Rests (.floorUpdate i) s := congrArg Host.Outcome.next (if_pos h)

theorem runs_floorUpdate_ladder {i : Nat} {p : LadderParams} (hi : 100 * i = s.slowTicks) (hp : s.ladderNext = some p) :
    Runs (.floorUpdate i) s (fun t => t.ladder = p ∧ t.ladderNext = none ∧ t = { s with chans := t.chans, ladder := p, ladderNext := none }) := by
  refine runs_of_exec (exec_floorUpdate hi) ?_
  rw [updateFloors_chans, takeThresholds_ladder hp, takeFloors_chans]
  exact ⟨rfl, rfl, rfl⟩

theorem runs_floorUpdate_floor {i : Nat} {v : Int × Int × Nat × Int} (hi : 100 * i = s.slowTicks) (hl : dirLive c d s = true)
    (hv : (direction c d s).gain.floorNext = some v) : Runs (.floorUpdate i) s (fun t => (direction c d t).gain.floorNext = none ∧
      (direction c d t).gain.thrMin = v.1 ∧ (direction c d t).gain.thrMax = v.2.1 ∧
      (direction c d t).gain.reasons = (direction c d s).gain.reasons) := by
  have hg : (direction c d (takeThresholds s)).gain = { (direction c d s).gain with
      thrMin := v.1, thrMax := v.2.1, percentile := v.2.2.1, riseMax := v.2.2.2, floorNext := none } := by
    rw [direction_takeThresholds, gain_takeFloors hl, takeFloor, hv]
  have hu := direction_of_view (view_updateFloors (takeThresholds s)) c d
  simp only [Prod.mk.injEq, hg] at hu
  exact runs_of_exec (exec_floorUpdate hi) hu

end

/-! ## SQUELCH_HANG_EXPIRY (R247) -/

section
variable {c k : Fin 64} {d : Dir} {s : State}

theorem runs_squelchHangExpiry (hl : dirLive c .ul s = true) (he : (direction c .ul s).gain.squelch.enable = true)
    (hi : (direction c .ul s).gain.idle.isSome = true) (hh : (direction c .ul s).gain.squelch.hang * 30720 ≤ idleFor (direction c .ul s).gain s) :
    Runs (.squelchHangExpiry c) s (fun t => (direction c .ul t).gain = { (direction c .ul s).gain with sqRising := true } ∧ t = { s with chans := t.chans }) := by
  refine runs_of_exec (congrArg Host.Outcome.next (if_pos ?_)) ⟨gain_modGain _ _ _ _, rfl⟩
  simp [hl, he, hi, countsPerSlowTick, hh]

theorem rests_squelchHangExpiry (h : (direction c .ul s).gain.idle = none) : Rests (.squelchHangExpiry c) s := by
  refine congrArg Host.Outcome.next (if_neg ?_)
  simp [h]

/-! ## OVERPOWER_MUTE and OVERPOWER_RETRY (R254) -/

/-- The mutes for OVERPOWER of the hour before now. -/
def hourMutes (g : GainState) (s : State) : List Nat := g.overpowerMutes.filter (fun t => decide (s.slowTicks < t + 3600000))

/-- One more mute latches: it is the configured number of them. -/
def overLatches (g : GainState) (s : State) : Bool := decide (s.ladder.overRetryLimit ≤ (hourMutes g s ++ [s.slowTicks]).length)

/-- The reason of one more mute. -/
def overReason (g : GainState) (s : State) : Nat := if overLatches g s then reasonOverLatched else reasonOverpower

theorem overReason_eq (g : GainState) (s : State) : overReason g s =
    if s.ladder.overRetryLimit ≤ (hourMutes g s).length + 1 then reasonOverLatched else reasonOverpower := by
  simp only [overReason, overLatches, List.length_append, List.length_singleton, decide_eq_true_eq]

theorem overReason_valid (g : GainState) (s : State) : overReason g s - 1 < 20 ∧ overReason g s - 1 ≠ reasonPortStop - 1 := by
  rw [overReason]
  split <;> decide

/-- One reason of a direction, its mutes for OVERPOWER and the windows of R254. -/
def overPart (k : Nat) (_ : Fin 64) (_ : Dir) (x : Direction) : Bool × List Nat × List (Nat × Nat) :=
  (hasReason x.gain.reasons k, x.gain.overpowerMutes, x.gain.boundWindows)

theorem blindToStops_overPart {k : Nat} (h : k - 1 ≠ reasonPortStop - 1) : BlindToStops (overPart k) where
  stab _ _ _ _ := rfl
  held _ _ _ _ := rfl
  heldPorts _ _ _ _ _ := rfl
  put _ _ x := Prod.ext (hasReason_putReason_ne h x.gain.reasons) rfl
  cut _ _ x := Prod.ext (hasReason_cutReason_ne h x.gain.reasons) rfl

/-- One more mute for OVERPOWER noted, and the windows begun anew. -/
def overNoted (g : GainState) (r : Option Nat) (s : State) (x : GainState) : GainState :=
  { x with overpowerMutes := hourMutes g s ++ [s.slowTicks], overpowerRetryAt := r, boundWindows := [] }

/-- That, the mute with its reason, and the mute counted on the ports. -/
def overMuted (c : Fin 64) (d : Dir) (g : GainState) (r : Option Nat) (i : ProtInfo) (s : State) : State :=
  countMute c d (addMute c d (overReason g s) i (modGain c d (overNoted g r s) s))

theorem exec_overpowerMute_due (hl : dirLive c d s = true) (hm : hasReason (direction c d s).gain.reasons reasonOverpower = false)
    (hm' : hasReason (direction c d s).gain.reasons reasonOverLatched = false)
    (ho : overpowered (direction c d s).gain s.ladder.overpowerMs = true) :
    ∃ r i, exec (.overpowerMute c d) s = .next (overMuted c d (direction c d s).gain r i s) :=
  ⟨_, _, congrArg Host.Outcome.next (if_pos (by simp [hl, hm, hm', ho]))⟩

/-- The mute, its note and the windows begun anew stay, whatever ports the count of mutes stops. -/
theorem overMuted_leaves (r : Option Nat) (i : ProtInfo) (g : GainState) :
    hasReason (direction c d (overMuted c d g r i s)).gain.reasons (overReason g s) = true ∧
      (direction c d (overMuted c d g r i s)).gain.overpowerMutes = hourMutes g s ++ [s.slowTicks] ∧
      (direction c d (overMuted c d g r i s)).gain.boundWindows = [] := by
  obtain ⟨hk, hs⟩ := overReason_valid g s
  have hc := congrFun (congrFun (seen_countMute (blindToStops_overPart hs) c d (addMute c d (overReason g s) i (modGain c d (overNoted g r s) s))) c) d
  have hv : view (fun _ _ x => (x.gain.overpowerMutes, x.gain.boundWindows)) (addMute c d (overReason g s) i (modGain c d (overNoted g r s) s)) =
      view (fun _ _ x => (x.gain.overpowerMutes, x.gain.boundWindows)) (modGain c d (overNoted g r s) s) :=
    view_addMute (fun _ _ => rfl) _ (fun _ _ => rfl) _ _
  have hn := direction_of_view hv c d
  rw [gain_modGain] at hn
  simp only [seen, overPart, Prod.mk.injEq] at hc hn
  obtain ⟨hr, hm, hw⟩ := hc
  obtain ⟨hm', hw'⟩ := hn
  exact ⟨hr.trans (addMute_adds _ _ _ _ hk), hm.trans hm', hw.trans hw'⟩

theorem runs_overpowerMute (hl : dirLive c d s = true) (hm : hasReason (direction c d s).gain.reasons reasonOverpower = false)
    (hm' : hasReason (direction c d s).gain.reasons reasonOverLatched = false)
    (ho : overpowered (direction c d s).gain s.ladder.overpowerMs = true) : Runs (.overpowerMute c d) s (fun t =>
      hasReason (direction c d t).gain.reasons (if s.ladder.overRetryLimit ≤ (hourMutes (direction c d s).gain s).length + 1 then reasonOverLatched
        else reasonOverpower) = true ∧
      (direction c d t).gain.overpowerMutes = hourMutes (direction c d s).gain s ++ [s.slowTicks] ∧ (direction c d t).gain.boundWindows = []) := by
  obtain ⟨r, i, hx⟩ := exec_overpowerMute_due hl hm hm' ho
  rw [← overReason_eq]
  exact runs_of_exec hx (overMuted_leaves r i _)

theorem rests_overpowerMute (h : overpowered (direction c d s).gain s.ladder.overpowerMs = false) : Rests (.overpowerMute c d) s := by
  refine congrArg Host.Outcome.next (if_neg ?_)
  simp [h]

theorem runs_overpowerRetry {n : Nat} (hl : dirLive c d s = true) (hn : (direction c d s).gain.overpowerRetryAt = some n) (h : n ≤ s.slowTicks) :
    Runs (.overpowerRetry c d) s (fun t => hasReason (direction c d t).gain.reasons reasonOverpower = false ∧
      (direction c d t).gain.overpowerRetryAt = none ∧ (k ≠ c → chan k t = chan k s)) := by
  have hv := view_dropMute (v := fun _ _ x => x.gain.overpowerRetryAt) (c := c) (d := d) (fun _ _ => rfl)
    (modGain c d (fun g => { g with overpowerRetryAt := none }) s) (fun _ _ => rfl) reasonOverpower {}
  refine runs_of_exec (congrArg Host.Outcome.next (if_pos ?_)) ⟨dropMute_drops _ _ _ _ _, (direction_of_view hv c d).trans ?_,
    chan_of_butOne ((view_dropMute_butOne _ _ _ _ _).trans (view_modGain_butOne _ _ _ _))⟩
  · simp [hl, hn, h]
  · rw [gain_modGain]

theorem rests_overpowerRetry (h : (direction c d s).gain.overpowerRetryAt = none) : Rests (.overpowerRetry c d) s := by
  refine congrArg Host.Outcome.next (if_neg ?_)
  simp [h]

end

/-- Settles O41: each event by the state it leaves where it is due, and by the test that it fails where it is not; a mute is read through
what it leaves of the other directions. -/
theorem gainEvents : Obligations.GainEvents := by
  intro c k d i s
  exact ⟨runs_implausibleMute, rests_implausibleMute, fun _ hi hl ha hu => runs_donorUpdate hi hl ha hu, rests_donorUpdate,
    fun _ hl hn h => runs_couplingRelease hl hn h, rests_couplingRelease, fun _ hl hn h => runs_donorLossMute hl hn h, rests_donorLossMute,
    fun _ hl hn h => runs_donorReturn hl hn h, rests_donorReturn, rests_floorUpdate, fun _ hi hp => runs_floorUpdate_ladder hi hp,
    fun _ hi hl hv => runs_floorUpdate_floor hi hl hv, runs_squelchHangExpiry, rests_squelchHangExpiry, runs_overpowerMute, rests_overpowerMute,
    fun _ hl hn h => runs_overpowerRetry hl hn h, rests_overpowerRetry⟩

end Sys2Proof.Proofs
end

/-! # The placement's policy, spares and the release of an assignment -/
section
namespace Sys2Proof.Proofs

open Sys2Proof Sys2Proof.Machine Sys2Proof.Safety Sys2Proof.Laws

/-! ## PLACEMENT_POLICY_SET (R320) -/

theorem does_placementPolicySet (d : Desc) (s : State) : Does 0x0405 checkPlacementPolicySet (.placementPolicySet d) d s 0 (fun t =>
    t = { Kept s t with eng := { s.eng with policyNext := some (policyOf d) } }) :=
  answers_of_effect effectPlacementPolicySet rfl (fun _ => rfl) (fun _ _ =>
    ⟨⟨_, rfl, rfl, rfl, rfl, read_of_detail_zero rfl⟩, rfl, rfl, fun _ => rfl⟩)

/-! ## Changes of engines, each on its own -/

theorem engines_modEngine_ne {e k : Fin 256} (f : Engine → Engine) (s : State) (h : k ≠ e) : (modEngine e f s).eng.engines[k] = s.eng.engines[k] :=
  Vector.getElem_set_ne e.isLt k.isLt (fun he => h (Fin.ext he.symm))

/-- Each engine of a list changed in its own way. -/
def modEngines (f : Fin 256 → Engine → Engine) (l : List (Fin 256)) (s : State) : State := l.foldl (fun s e => modEngine e (f e) s) s

section
variable {f : Fin 256 → Engine → Engine} {l : List (Fin 256)} {s : State} {e : Fin 256}

theorem modEngines_engines : modEngines f l s = { s with eng := { s.eng with engines := (modEngines f l s).eng.engines } } :=
  List.foldlRecOn (motive := fun (t : State) => t = { s with eng := { s.eng with engines := t.eng.engines } }) l _ rfl
    (fun t ht e _ => by rw [ht]; rfl)

theorem modEngines_named (hn : l.Nodup) (h : e ∈ l) : (modEngines f l s).eng.engines[e] = f e s.eng.engines[e] :=
  foldl_meets (fun t => t.eng.engines[e] = s.eng.engines[e]) (fun t => t.eng.engines[e] = f e s.eng.engines[e]) hn h rfl
    (fun t _ hb ht => (engines_modEngine_ne _ t hb.symm).trans ht)
    (fun t ht => (state_modEngine_same e _ t).trans (congrArg (f e) ht))
    (fun t _ hb ht => (engines_modEngine_ne _ t hb.symm).trans ht)

theorem modEngines_other (h : e ∉ l) : (modEngines f l s).eng.engines[e] = s.eng.engines[e] :=
  List.foldlRecOn (motive := fun (t : State) => t.eng.engines[e] = s.eng.engines[e]) l _ rfl
    (fun t ht b hb => (engines_modEngine_ne _ t (fun he : e = b => h (he ▸ hb))).trans ht)

end

/-! ## SPARE_SET (R321) -/

theorem val_engineInWing (w k : Fin 16) : (Fin.ofNat 256 (16 * w.val + k.val)).val = 16 * w.val + k.val := ofNat_val_lt (by omega)

theorem nodup_wingEngines (w : Fin 16) : (wingEngines w).Nodup := by
  refine List.Nodup.map (fun j k h => Fin.ext ?_) (List.nodup_finRange 16)
  have hv := congrArg Fin.val h
  rw [val_engineInWing, val_engineInWing] at hv
  omega

theorem mem_wingEngines {w : Fin 16} {e : Fin 256} : e ∈ wingEngines w ↔ e.val / 16 = w.val := by
  rw [wingEngines, List.mem_map]
  constructor
  · rintro ⟨k, -, rfl⟩
    rw [val_engineInWing]
    omega
  · intro h
    refine ⟨⟨e.val % 16, by omega⟩, List.mem_finRange _, Fin.ext ?_⟩
    rw [val_engineInWing]
    simp only
    omega

/-- An engine of the wing by its bit of the mask: an idle one that it names a spare, a spare that it does not name idle. -/
def sparedBy (mask : Nat) (e : Fin 256) (v : Engine) : Engine :=
  if mask.testBit (e.val % 16) then (if v.state = .idle then { v with state := .spare } else v)
  else if v.state = .spare then { v with state := .idle } else v

theorem state_sparedBy (mask : Nat) (e : Fin 256) (v : Engine) : (sparedBy mask e v).state =
    if mask.testBit (e.val % 16) then (if v.state = .idle then .spare else v.state) else if v.state = .spare then .idle else v.state := by
  simp only [sparedBy, apply_ite Engine.state]

theorem state_modEngines_sparedBy (mask : Nat) (w : Fin 16) (e : Fin 256) (s : State) :
    (modEngines (sparedBy mask) (wingEngines w) s).eng.engines[e].state =
      if e.val / 16 = w.val then
        if mask.testBit (e.val % 16) then (if s.eng.engines[e].state = .idle then .spare else s.eng.engines[e].state)
        else if s.eng.engines[e].state = .spare then .idle else s.eng.engines[e].state
      else s.eng.engines[e].state := by
  split
  next h => rw [modEngines_named (nodup_wingEngines w) (mem_wingEngines.mpr h), state_sparedBy]
  next h => rw [modEngines_other (fun hm => h (mem_wingEngines.mp hm))]

theorem wing_of_checkSpareSet {r : Running} {s : State} (h : checkSpareSet r s = none) : par r.desc 0 1 < 16 := by
  have hw := refuseIf_eq_none.mp (firstOf_eq_none.mp h (refuseIf (decide (15 < par r.desc 0 1)) badEngine) (by simp))
  rw [decide_eq_false_iff_not] at hw
  omega

theorem does_spareSet (d : Desc) (s : State) : Does 0x0406 checkSpareSet (.spareSet d) d s 0 (fun t =>
    t = { Kept s t with eng := { s.eng with engines := t.eng.engines } } ∧
    ∀ e : Fin 256, t.eng.engines[e].state =
      (if e.val / 16 = par d 0 1 then
        if (par d 2 2).testBit (e.val % 16) then (if s.eng.engines[e].state = .idle then .spare else s.eng.engines[e].state)
        else if s.eng.engines[e].state = .spare then .idle else s.eng.engines[e].state
      else s.eng.engines[e].state)) := by
  refine answers_of_effect effectSpareSet rfl (fun _ => rfl) (fun x hc => ?_)
  have hw : (Fin.ofNat 16 (par d 0 1)).val = par d 0 1 := Nat.mod_eq_of_lt (wing_of_checkSpareSet hc)
  have hs := fun e => state_modEngines_sparedBy (par d 2 2) (Fin.ofNat 16 (par d 0 1)) e { s with hif := x }
  rw [hw] at hs
  have he : effectSpareSet (starting 0x0406 d s) { s with hif := x } =
      (doneWith 0, modEngines (sparedBy (par d 2 2)) (wingEngines (Fin.ofNat 16 (par d 0 1))) { s with hif := x }) := rfl
  rw [he, modEngines_engines]
  exact ⟨⟨_, rfl, rfl, rfl, rfl, read_of_detail_zero rfl⟩, rfl, rfl, fun _ => ⟨rfl, hs⟩⟩

/-! ## ASSIGNMENT_RELEASE (R317) -/

theorem foldl_asgs {α : Type} {f : State → α → State} (h : ∀ s a, (f s a).eng.asgs = s.eng.asgs) (l : List α) (s : State) :
    (l.foldl f s).eng.asgs = s.eng.asgs :=
  List.foldlRecOn (motive := fun (t : State) => t.eng.asgs = s.eng.asgs) l f rfl (fun t ht a _ => (h t a).trans ht)

theorem asgs_modEngine (e : Fin 256) (f : Engine → Engine) (s : State) : (modEngine e f s).eng.asgs = s.eng.asgs := rfl

theorem asgs_dropMigrations (p : Migration → Bool) (s : State) : (dropMigrations p s).eng.asgs = s.eng.asgs := by
  rw [dropMigrations, asgs_refreshEngines]
  refine foldl_asgs (fun t m => ?_) _ _
  exact foldl_asgs (fun _ _ => asgs_modEngine _ _ _) _ _

theorem asgs_endMigrate (m : Migration) (detail : Nat) (s : State) : (endMigrate m detail s).eng.asgs = s.eng.asgs := by
  unfold endMigrate
  split
  · rfl
  · rfl

/-- Migrations given up leave every assignment as it is. -/
theorem asgs_supersede (a : Fin 256) (detail : Nat) (s : State) : (supersede a detail s).eng.asgs = s.eng.asgs :=
  (foldl_asgs (fun t m => asgs_endMigrate m detail t) _ _).trans (asgs_dropMigrations _ s)

theorem asgs_releaseAsg (a : Fin 256) (s : State) : (releaseAsg a s).eng.asgs = s.eng.asgs.set a Assignment.reset := by
  rw [releaseAsg, asgs_refreshEngines, modAsg, asgs_supersede]

theorem does_assignmentRelease (d : Desc) (s : State) : Does 0x0402 checkAssignmentRelease (.assignmentRelease d) d s 0 (fun t =>
    t.eng.asgs[Fin.ofNat 256 (par d 0 2)] = Assignment.reset ∧
    ∀ a : Fin 256, a ≠ Fin.ofNat 256 (par d 0 2) → t.eng.asgs[a].used = s.eng.asgs[a].used) := by
  refine answers_of_effect effectAssignmentRelease rfl (fun _ => rfl) (fun x _ => ?_)
  obtain ⟨_, hs, ht⟩ := untouched_releaseAsg (Fin.ofNat 256 (par d 0 2)) { s with hif := x }
  have hr := asgs_releaseAsg (Fin.ofNat 256 (par d 0 2)) { s with hif := x }
  refine ⟨⟨_, rfl, rfl, rfl, rfl, read_of_detail_zero rfl⟩, hs, ht, fun b => ⟨?_, fun a ha => ?_⟩⟩
  · exact (congrArg (·[Fin.ofNat 256 (par d 0 2)]) hr).trans (Vector.getElem_set_self _)
  · exact congrArg Assignment.used ((congrArg (·[a]) hr).trans (Vector.getElem_set_ne _ _ (fun he => ha (Fin.ext he.symm))))

/-- Settles O19: the policy waits for the slow tick; each engine of the wing is met once by SPARE_SET; what a release gives up of migrations
leaves the assignments alone. -/
theorem placementSettings : Obligations.PlacementSettings := by
  intro d s
  exact ⟨does_placementPolicySet d s, does_spareSet d s, does_assignmentRelease d s⟩

end Sys2Proof.Proofs
end

/-! # What a survey hop and a change of a coexistence interface leave alone -/
section
namespace Sys2Proof.Proofs

open Sys2Proof Sys2Proof.Machine Sys2Proof.Safety Sys2Proof.Laws

/-! ## Parts of the radio -/

theorem serial_modSerial_same (m : Fin 4) (f : SerialMaster → SerialMaster) (s : State) : (modSerial m f s).radio.serial[m] = f s.radio.serial[m] :=
  Vector.getElem_set_self m.isLt

theorem coex_modCoex_same (x : Fin 2) (f : Coex → Coex) (s : State) : (modCoex x f s).radio.coex[x] = f s.radio.coex[x] :=
  Vector.getElem_set_self x.isLt

theorem coex_modCoex_ne {x y : Fin 2} (f : Coex → Coex) (s : State) (h : x ≠ y) : (modCoex x f s).radio.coex[y] = s.radio.coex[y] :=
  Vector.getElem_set_ne x.isLt y.isLt (fun he => h (Fin.ext he))

theorem now_refreshHolds (s : State) : (refreshHolds s).now = s.now := now_of_view (view_refreshHolds_all s)

/-! ## The survey's hop (R356) -/

/-- A hop retunes LO4; of the survey it changes the dwell alone. -/
theorem survey_surveyTune (s : State) :
    (surveyTune s).radio.survey = { s.radio.survey with dwelling := (surveyTune s).radio.survey.dwelling } := by
  unfold surveyTune
  split
  next e _ => rw [radio_beginTune]; rfl
  next => rfl

theorem surveyTune_outside (s : State) : (surveyTune s).slowTicks = s.slowTicks ∧ (surveyTune s).twin = s.twin := by
  unfold surveyTune
  split
  next => exact ⟨slowTicks_refreshHolds _, twin_refreshHolds _⟩
  next => exact ⟨rfl, rfl⟩

/-! ## A coexistence interface changed, and the holds that follow (R342, R357) -/

/-- A state with one coexistence interface changed, but for holds, records and alarms. -/
def CoexTo (x : Fin 2) (f : Coex → Coex) (s t : State) : Prop := view (fun _ _ _ => ()) t = view (fun _ _ _ => ()) (modCoex x f s)

section
variable {x y : Fin 2} {f g : Coex → Coex} {s t u : State}

theorem coexTo_modCoex : CoexTo x f s (modCoex x f s) := rfl

theorem coexTo_refreshHolds : CoexTo x f s (refreshHolds (modCoex x f s)) := view_refreshHolds_all _

theorem coexTo_self : CoexTo x id s s := by
  simp [CoexTo, modCoex, modRadio]

theorem CoexTo.sameView (h : CoexTo x f s t) : view (fun _ _ _ => ()) t = view (fun _ _ _ => ()) (modCoex x f s) := h

theorem CoexTo.congr (h : CoexTo x f s t) (hg : f s.radio.coex[x] = g s.radio.coex[x]) : CoexTo x g s t :=
  h.sameView.trans (congrArg (fun v => view _ (modCoex x (fun _ => v) s)) hg)

/-- A change of the radio is seen by a view as it is. -/
theorem view_modRadio {β : Type} {v : Fin 64 → Dir → Direction → β} (f : Radio → Radio) (h : view v t = view v s) :
    view v (modRadio f t) = view v (modRadio f s) :=
  congrArg (fun w : View β => { w with rest := modRadio f w.rest }) h

theorem CoexTo.trans (h : CoexTo x f s t) (h' : CoexTo x g t u) : CoexTo x (fun v => g (f v)) s u := by
  refine (h'.sameView.trans (view_modRadio _ h)).trans ?_
  simp [modCoex, modRadio]

theorem CoexTo.postEvent (h : CoexTo x f s t) (code severity source : Nat) (bytes : List Byte) :
    CoexTo x f s (postEvent code severity source bytes t) :=
  (view_postEvent _ _ _ _ _).trans h

theorem CoexTo.changed (h : CoexTo x f s t) : t.radio.coex[x] = f s.radio.coex[x] :=
  (congrArg (fun r : Radio => r.coex[x]) (radio_of_view h.sameView)).trans (coex_modCoex_same x f s)

theorem CoexTo.other (h : CoexTo x f s t) (hy : x ≠ y) : t.radio.coex[y] = s.radio.coex[y] :=
  (congrArg (fun r : Radio => r.coex[y]) (radio_of_view h.sameView)).trans (coex_modCoex_ne f s hy)

theorem CoexTo.now (h : CoexTo x f s t) : t.now = s.now := (now_of_view h.sameView).trans rfl

theorem CoexTo.outside (h : CoexTo x f s t) :
    t.slowTicks = s.slowTicks ∧ t.twin = s.twin ∧ t.links = s.links ∧ t.loops = s.loops ∧ t.supply = s.supply :=
  ⟨(slowTicks_of_view h.sameView).trans rfl, (twin_of_view h.sameView).trans rfl, congrArg (fun w => w.rest.links) h.sameView,
    congrArg (fun w => w.rest.loops) h.sameView, congrArg (fun w => w.rest.supply) h.sameView⟩

end

/-- An interface whose grant has ended in a state: its time counts towards the duty (R360). -/
def grantEnded (x : Fin 2) (s : State) (v : Coex) : Coex :=
  { v with gnt := false, yielding := false,
           grantedMs := v.grantedMs.filter (fun e => decide (s.slowTicks < e.1 + 1000)) ++
             if v.gnt then [(s.slowTicks, (s.now - s.radio.coex[x].grantAt) / 30720)] else [] }

theorem coexTo_endGrant (x : Fin 2) (s : State) : CoexTo x (grantEnded x s) s (endGrant x s) := coexTo_refreshHolds

/-- An interface whose request, if it is served, takes the affected contributions to zero (R359). -/
def yielded (s : State) (v : Coex) : Coex := if coexServes v s then { v with yielding := true, deferred := false } else v

theorem coexTo_coexYield (x : Fin 2) (s : State) : CoexTo x (yielded s) s (coexYield x s) := by
  unfold coexYield
  split
  next h => exact coexTo_refreshHolds.congr (if_pos h).symm
  next h => exact coexTo_self.congr (if_neg h).symm

/-- An interface that defers nothing keeps everything but whether it yields. -/
theorem yielded_kept (s : State) (v : Coex) (h : v.deferred = false) : yielded s v = { v with yielding := (yielded s v).yielding } := by
  unfold yielded
  split
  next => rw [← h]
  next => rfl

end Sys2Proof.Proofs
end

/-! # The settings of synthesiser plans, pins, serial masters, survey and coexistence -/
section
namespace Sys2Proof.Proofs

open Sys2Proof Sys2Proof.Machine Sys2Proof.Safety Sys2Proof.Laws

section
variable (d : Desc) (s : State)

theorem par_byte_lt (k : Nat) : par d k 1 < 256 := Nat.mod_lt _ (by decide)

/-! ## LO_PLAN_WRITE (R367) -/

/-- The plan that a command's buffer gives; a plan of the same frequency keeps its calibration. -/
def planWritten (d : Desc) (p : LoPlan) : LoPlan :=
  { used := true, synth := dat d 0 1, freq := dat d 8 8, level := dat d 2 1, autocal := dat d 1 1 % 2 == 1,
    calTemp := if p.used && p.freq == dat d 8 8 then p.calTemp else none }

theorem does_loPlanWrite (h : par d 1 1 ≠ 1) : Does 0x0520 checkLoPlanWrite (.loPlanWrite d) d s 0 (fun t =>
    t = { Kept s t with radio := { s.radio with plans := t.radio.plans } } ∧
    (nth t.radio.plans (par d 0 1) LoPlan.reset).used = true ∧ (nth t.radio.plans (par d 0 1) LoPlan.reset).freq = dat d 8 8 ∧
    (nth t.radio.plans (par d 0 1) LoPlan.reset).synth = dat d 0 1 ∧ (nth t.radio.plans (par d 0 1) LoPlan.reset).level = dat d 2 1 ∧
    ∀ k, k ≠ par d 0 1 → nth t.radio.plans k LoPlan.reset = nth s.radio.plans k LoPlan.reset) := by
  refine answers_of_effect effectLoPlanWrite rfl (fun _ => rfl) (fun x _ => ?_)
  have he : effectLoPlanWrite (starting 0x0520 d s) { s with hif := x } =
      (doneWith 0, { s with hif := x, radio := { s.radio with plans := upd s.radio.plans (par d 0 1) (planWritten d) } }) :=
    congrArg (fun f => (doneWith 0, modRadio (fun g => { g with plans := upd g.plans (par d 0 1) f }) { s with hif := x }))
      (funext fun _ => if_neg h)
  have hn := nth_upd_same s.radio.plans _ (planWritten d) LoPlan.reset (par_byte_lt d 0)
  rw [he]
  exact ⟨⟨_, rfl, rfl, rfl, rfl, read_of_detail_zero rfl⟩, rfl, rfl, fun _ => ⟨rfl, congrArg LoPlan.used hn, congrArg LoPlan.freq hn,
    congrArg LoPlan.synth hn, congrArg LoPlan.level hn, fun _ hk => nth_upd_ne _ _ _ _ _ hk⟩⟩

theorem does_loPlanWrite_erase (h : par d 1 1 = 1) : Does 0x0520 checkLoPlanWrite (.loPlanWrite d) d s 0 (fun t =>
    nth t.radio.plans (par d 0 1) LoPlan.reset = LoPlan.reset) := by
  refine answers_of_effect effectLoPlanWrite rfl (fun _ => rfl) (fun x _ =>
    ⟨⟨_, rfl, rfl, rfl, rfl, read_of_detail_zero rfl⟩, rfl, rfl, fun _ => ?_⟩)
  exact (nth_upd_same s.radio.plans _ _ _ (par_byte_lt d 0)).trans (if_pos h)

/-! ## FE_PIN_CONFIGURE (R365) -/

theorem does_fePinConfigure : Does 0x0510 checkFePinConfigure (.fePinConfigure d) d s 0 (fun t =>
    t = { Kept s t with radio := { s.radio with pinNext := upd s.radio.pinNext (par d 0 1) (fun _ => some
      { role := par d 1 1, port := Fin.ofNat 8 (par d 2 1), activeHigh := par d 3 1 == 1 || par d 1 1 == 1, onOffset := parInt d 4 2,
        offOffset := parInt d 6 2 }) } }) :=
  answers_of_effect effectFePinConfigure rfl (fun _ => rfl) (fun _ _ =>
    ⟨⟨_, rfl, rfl, rfl, rfl, read_of_detail_zero rfl⟩, rfl, rfl, fun _ => rfl⟩)

end

/-! ## SERIAL_QUEUE_LOAD (R366) -/

section
variable (v : SerialMaster)

/-- A change of clock leaves a master's queue, the entry in progress and the count of late ones. -/
theorem takeClock_keeps : (takeClock v).queue = v.queue ∧ (takeClock v).running = v.running ∧ (takeClock v).late = v.late := by
  unfold takeClock
  split
  · exact ⟨rfl, rfl, rfl⟩
  · exact ⟨rfl, rfl, rfl⟩

theorem takeClock_queue : (takeClock v).queue = v.queue := (takeClock_keeps v).1

theorem takeClock_running : (takeClock v).running = v.running := (takeClock_keeps v).2.1

theorem takeClock_late : (takeClock v).late = v.late := (takeClock_keeps v).2.2

end

section
variable (d : Desc) (s : State)

/-- A master's queue after a load: appended to, replaced, emptied or as it was. -/
def queueLoaded (op : Nat) (q es : List SerialEntry) : List SerialEntry :=
  match op with
  | 0 => q ++ es
  | 1 => es
  | 2 => []
  | _ => q

/-- A master with a load's queue; its clock waits for the master to be idle. -/
def masterLoaded (d : Desc) (now : Nat) (v : SerialMaster) : SerialMaster :=
  { v with queue := queueLoaded (par d 1 1) v.queue (serialEntries d now), lateTol := if par d 4 1 = 0 then v.lateTol else par d 4 1,
           newClock := some (par d 5 1, par d 6 1) }

theorem does_serialQueueLoad : Does 0x0511 checkSerialQueueLoad (.serialQueueLoad d) d s 0 (fun t =>
    t = { Kept s t with radio := { s.radio with serial := t.radio.serial } } ∧
    t.radio.serial[Fin.ofNat 4 (par d 0 1)].queue =
      queueLoaded (par d 1 1) s.radio.serial[Fin.ofNat 4 (par d 0 1)].queue (serialEntries d s.now)) :=
  answers_of_effect effectSerialQueueLoad rfl (fun _ => rfl) (fun x _ =>
    ⟨⟨_, rfl, rfl, rfl, rfl, read_of_detail_zero rfl⟩, rfl, rfl, fun _ => ⟨rfl,
      (congrArg SerialMaster.queue (serial_modSerial_same (Fin.ofNat 4 (par d 0 1))
        (fun v => takeClock (masterLoaded d s.now v)) { s with hif := x })).trans (takeClock_queue _)⟩⟩)

/-! ## SURVEY_CONFIGURE (R372) -/

/-- The survey with a command's schedule, at its first entry. -/
def surveyAsked (d : Desc) (v : Survey) : Survey :=
  { v with enable := par d 0 1 == 1, duty := par d 1 1, entries := surveyEntries d, index := 0, dwelling := false }

theorem does_surveyConfigure_off (h : par d 0 1 = 0) : Does 0x0540 checkSurveyConfigure (.surveyConfigure d) d s 0 (fun t =>
    t.radio.survey = { s.radio.survey with enable := false, duty := par d 1 1, entries := surveyEntries d, index := 0, dwelling := false } ∧
    t = { Kept s t with radio := { s.radio with survey := t.radio.survey } }) := by
  refine answers_of_effect effectSurveyConfigure rfl (fun _ => rfl) (fun x _ => ?_)
  have hs : surveyAsked d s.radio.survey =
      { s.radio.survey with enable := false, duty := par d 1 1, entries := surveyEntries d, index := 0, dwelling := false } := by
    rw [surveyAsked, h]
    rfl
  have hn : ¬ par (starting 0x0540 d s).desc 0 1 = 1 := fun he => absurd (h.symm.trans he) (by decide)
  have he : effectSurveyConfigure (starting 0x0540 d s) { s with hif := x } =
      (doneWith 0, { s with hif := x, radio := { s.radio with survey := surveyAsked d s.radio.survey } }) :=
    congrArg (Prod.mk _) (if_neg hn)
  rw [he]
  exact ⟨⟨_, rfl, rfl, rfl, rfl, read_of_detail_zero rfl⟩, rfl, rfl, fun _ => ⟨hs, rfl⟩⟩

theorem does_surveyConfigure_on (h : par d 0 1 = 1) : Does 0x0540 checkSurveyConfigure (.surveyConfigure d) d s 0 (fun t =>
    t.radio.survey.enable = true ∧ t.radio.survey.duty = par d 1 1 ∧ t.radio.survey.entries = surveyEntries d ∧ t.radio.survey.index = 0) := by
  refine answers_of_effect effectSurveyConfigure rfl (fun _ => rfl) (fun x _ => ?_)
  have he : effectSurveyConfigure (starting 0x0540 d s) { s with hif := x } =
      (doneWith 0, surveyTune { s with hif := x, radio := { s.radio with survey := surveyAsked d s.radio.survey } }) :=
    congrArg (Prod.mk _) (if_pos h)
  have hv := survey_surveyTune { s with hif := x, radio := { s.radio with survey := surveyAsked d s.radio.survey } }
  obtain ⟨h1, h2⟩ := surveyTune_outside { s with hif := x, radio := { s.radio with survey := surveyAsked d s.radio.survey } }
  rw [he]
  exact ⟨⟨_, rfl, rfl, rfl, rfl, read_of_detail_zero rfl⟩, h1, h2, fun _ => ⟨(congrArg Survey.enable hv).trans (beq_iff_eq.mpr h),
    congrArg Survey.duty hv, congrArg Survey.entries hv, congrArg Survey.index hv⟩⟩

/-! ## COEX_CONFIGURE (R374) -/

/-- An interface with a command's limits; a disabled one defers nothing. -/
def coexLimited (d : Desc) (v : Coex) : Coex :=
  { v with enable := par d 1 1 == 1, port := Fin.ofNat 4 (par d 2 1), grantMaxMs := par d 4 2, maxDeferMs := par d 6 2, low := par d 8 8,
           high := par d 16 8, dutyPct := par d 24 1, deferred := v.deferred && par d 1 1 == 1 }

/-- An interface after COEX_CONFIGURE: its limits, no grant and nothing deferred where it is disabled; what it yields and the time it has granted are
those of w. -/
def coexConfigured (d : Desc) (v w : Coex) : Coex :=
  { coexLimited d v with gnt := v.gnt && par d 1 1 == 1, yielding := w.yielding, grantedMs := w.grantedMs }

/-- The grant in force ends before the limits are set, where the command disables the interface. -/
def grantKept (d : Desc) (i : Fin 2) (s : State) (v : Coex) : Coex := if par d 1 1 = 1 then v else grantEnded i s v

theorem coexLimited_grantKept (i : Fin 2) (v : Coex) :
    coexLimited d (grantKept d i s v) = coexConfigured d v (coexLimited d (grantKept d i s v)) := by
  by_cases h : par d 1 1 = 1 <;> simp [coexConfigured, coexLimited, grantKept, grantEnded, h]

theorem coexTo_effectCoexConfigure {r : Running} (hr : r.desc.params = d.params) :
    CoexTo (Fin.ofNat 2 (par d 0 1)) (fun v => coexLimited d (grantKept d (Fin.ofNat 2 (par d 0 1)) s v)) s (effectCoexConfigure r s).2 := by
  have hp (a b : Nat) : par r.desc a b = par d a b := congrArg (fun p : BitVec _ => byteField p.toNat a b) hr
  simp only [effectCoexConfigure, hp, beq_iff_eq]
  split
  next h => exact coexTo_refreshHolds.congr (congrArg (coexLimited d) (if_pos h).symm)
  next h => exact ((coexTo_endGrant _ s).trans coexTo_refreshHolds).congr (congrArg (coexLimited d) (if_neg h).symm)

theorem does_coexConfigure : Does 0x0550 checkCoexConfigure (.coexConfigure d) d s 0 (fun t =>
    t.radio.coex[Fin.ofNat 2 (par d 0 1)] =
      coexConfigured d s.radio.coex[Fin.ofNat 2 (par d 0 1)] t.radio.coex[Fin.ofNat 2 (par d 0 1)] ∧
    t.links = s.links ∧ t.loops = s.loops ∧ t.supply = s.supply) := by
  refine answers_of_effect effectCoexConfigure rfl (fun _ => rfl) (fun x _ => ?_)
  have hc := coexTo_effectCoexConfigure d { s with hif := x } (r := starting 0x0550 d s) rfl
  obtain ⟨h1, h2, h3, h4, h5⟩ := hc.outside
  have hi : (effectCoexConfigure (starting 0x0550 d s) { s with hif := x }).2.radio.coex[Fin.ofNat 2 (par d 0 1)] = coexConfigured d
      s.radio.coex[Fin.ofNat 2 (par d 0 1)] (effectCoexConfigure (starting 0x0550 d s) { s with hif := x }).2.radio.coex[Fin.ofNat 2 (par d 0 1)] := by
    rw [hc.changed]
    exact coexLimited_grantKept d _ _ _
  exact ⟨⟨_, rfl, rfl, rfl, rfl, read_of_detail_zero rfl⟩, h1, h2, fun _ => ⟨hi, h3, h4, h5⟩⟩

end

/-- Settles O20: each effect is its change of one part of the radio; a survey that starts tunes LO4, and a coexistence
interface disabled ends its grant. -/
theorem radioSettings : Obligations.RadioSettings := by
  intro d s
  exact ⟨does_loPlanWrite d s, does_loPlanWrite_erase d s, does_fePinConfigure d s, does_serialQueueLoad d s, does_surveyConfigure_off d s,
    does_surveyConfigure_on d s, does_coexConfigure d s⟩

end Sys2Proof.Proofs
end

/-! # Synthesizer locks, deadlines, serial transactions, the survey's dwells and the coexistence signals -/
section
namespace Sys2Proof.Proofs

open Sys2Proof Sys2Proof.Machine Sys2Proof.Safety Sys2Proof.Laws

/-! ## Events posted -/

theorem radio_postEvent (code severity source : Nat) (bytes : List Byte) (s : State) : (postEvent code severity source bytes s).radio = s.radio :=
  (congrArg State.radio (postEvent_hif code severity source bytes s) :)

theorem now_postEvent (code severity source : Nat) (bytes : List Byte) (s : State) : (postEvent code severity source bytes s).now = s.now :=
  (congrArg State.now (postEvent_hif code severity source bytes s) :)

theorem raised_postEvent {n obj : Nat} {s : State} (code severity source : Nat) (bytes : List Byte) (h : Raised n obj s) :
    Raised n obj (postEvent code severity source bytes s) := by
  rw [postEvent_hif]
  exact h

/-! ## Synthesizers (R345) -/

section
variable {o k : Fin 5} {s : State}

theorem los_markEnded (old s : State) : (markEnded old s).radio.los = s.radio.los := by
  refine List.foldlRecOn (motive := fun (t : State) => t.radio.los = s.radio.los) _ _ rfl (fun t ht p _ => ?_)
  split
  · exact ht
  · exact ht

theorem los_holdsAfter (old s : State) : (holdsAfter old s).radio.los = s.radio.los :=
  (congrArg Radio.los (radio_refreshHolds _)).trans (los_markEnded old s)

theorem los_wakeCommands (code : Nat) (f : Running → Bool) (results : List Int) (s : State) :
    (wakeCommands code f results s).radio.los = s.radio.los := rfl

theorem los_surveyLocked (s : State) : (surveyLocked s).radio.los = s.radio.los := rfl

/-- A synthesiser in lock from a count on, t counts after its retune began. -/
def lockedSince (now t : Nat) (l : Lo) : Lo :=
  { l with locked := true, lockedAt := now, settling := false, lastLock := if l.settling then t else l.lastLock,
           worstLock := if l.settling then max l.worstLock t else l.worstLock }

theorem exec_loLock (h : s.radio.los[o].locked = false) :
    ∃ t n, exec (.loLock o) s = .next t ∧ t.radio.los = (modLo o (lockedSince s.now n) s).radio.los := by
  refine ⟨_, min 65535 (s.now - s.radio.los[o].tuneAt), congrArg Host.Outcome.next (if_neg (ne_true_of_eq_false h)), ?_⟩
  have hl := los_holdsAfter s (modLo o (lockedSince s.now (min 65535 (s.now - s.radio.los[o].tuneAt))) s)
  split
  · exact (los_surveyLocked _).trans ((los_wakeCommands _ _ _ _).trans hl)
  · exact (los_wakeCommands _ _ _ _).trans hl

theorem runs_loLock (h : s.radio.los[o].locked = false) : Runs (.loLock o) s (fun t => t.radio.los[o].locked = true ∧
    t.radio.los[o].settling = false ∧ t.radio.los[o].plan = s.radio.los[o].plan ∧ (k ≠ o → t.radio.los[k] = s.radio.los[k])) := by
  obtain ⟨t, n, ht, hl⟩ := exec_loLock h
  refine runs_of_exec ht ?_
  have ho : t.radio.los[o] = lockedSince s.now n s.radio.los[o] := (congrArg (·[o]) hl).trans (lo_modLo_same o _ s)
  exact ⟨congrArg Lo.locked ho, congrArg Lo.settling ho, (congrArg Lo.plan ho :), fun hk => (congrArg (·[k]) hl).trans (lo_modLo_ne _ s hk)⟩

theorem rests_loLock (h : s.radio.los[o].locked = true) : Rests (.loLock o) s := congrArg Host.Outcome.next (if_pos h)

/-- A synthesiser whose lock is lost at a count. -/
def lockLost (now : Nat) (l : Lo) : Lo := { l.unlock now with unlocks := l.unlocks + 1 }

theorem locked_lockLost (now : Nat) (l : Lo) : (lockLost now l).locked = false := locked_unlock now l

theorem exec_loLockLoss (h : s.radio.los[o].locked = true) : ∃ t, exec (.loLockLoss o) s = .next t ∧
    t.radio.los = (modLo o (lockLost s.now) s).radio.los ∧ Raised (162 + o.val) (object 9 o.val) t := by
  have hn : ¬ (!s.radio.los[o].locked) = true := by rw [h]; decide
  refine ⟨_, congrArg Host.Outcome.next (if_neg hn), ?_, raised_postEvent _ _ _ _ (raised_raise _ _ _ _)⟩
  rw [radio_postEvent]
  exact congrArg Radio.los (radio_refreshHolds (modLo o (lockLost s.now) s))

theorem runs_loLockLoss (h : s.radio.los[o].locked = true) : Runs (.loLockLoss o) s (fun t => t.radio.los[o].locked = false ∧
    t.radio.los[o].unlocks = s.radio.los[o].unlocks + 1 ∧ Raised (162 + o.val) (object 9 o.val) t ∧ (k ≠ o → t.radio.los[k] = s.radio.los[k])) := by
  obtain ⟨t, ht, hl, hr⟩ := exec_loLockLoss h
  refine runs_of_exec ht ?_
  have ho : t.radio.los[o] = lockLost s.now s.radio.los[o] := (congrArg (·[o]) hl).trans (lo_modLo_same o _ s)
  exact ⟨(congrArg Lo.locked ho).trans (locked_lockLost _ _), congrArg Lo.unlocks ho, hr,
    fun hk => (congrArg (·[k]) hl).trans (lo_modLo_ne _ s hk)⟩

theorem rests_loLockLoss (h : s.radio.los[o].locked = false) : Rests (.loLockLoss o) s :=
  congrArg Host.Outcome.next (if_pos (by rw [h]; rfl))

end

/-! ## The deadline of TX_ENABLE (R347) -/

section
variable {p : Fin 8} {s : State}

theorem runs_txEnableDeadline {q : Fin 22} (hq : s.radio.tx[p].waiting = some q) (hl : loOut (txLo p s) s = true) :
    Runs (.txEnableDeadline p) s (fun t => t.radio.tx[p].enabled = false ∧ t.radio.tx[p].waiting = none ∧ s.now ≤ t.now ∧ t.ports = s.ports) := by
  have run : exec (.txEnableDeadline p) s = .next (hardwareDone q.val (waitOf [0x0524] 0 1 p.val) [0, 0] (refreshHolds
      (modTx p (fun t => { t with enabled := false, waiting := none, openedAt := none }) (advanceTo (lockDeadline p s) s)))) := by
    show execTxEnableDeadline p s = _
    simp only [execTxEnableDeadline, hq, hl, if_true]
  have hp := (congrArg (fun r : Radio => r.tx[p]) (radio_refreshHolds _)).trans
    (tx_modTx_same p (fun t => { t with enabled := false, waiting := none, openedAt := none }) (advanceTo (lockDeadline p s) s))
  have hn := now_refreshHolds
    (modTx p (fun t => { t with enabled := false, waiting := none, openedAt := none }) (advanceTo (lockDeadline p s) s))
  exact runs_of_exec run ⟨congrArg TxPort.enabled hp, congrArg TxPort.waiting hp, (le_max_left _ _).trans_eq hn.symm, ports_refreshHolds _⟩

theorem rests_txEnableDeadline (h : s.radio.tx[p].waiting = none) : Rests (.txEnableDeadline p) s := by
  show execTxEnableDeadline p s = _
  simp only [execTxEnableDeadline, h]

end

/-! ## Serial masters (R353-R355) -/

section
variable {m : Fin 4} {e : SerialEntry} {n : Nat} {s : State}

/-- A master's queue once an entry has started at its trigger: one of a single instant leaves it, another waits for its next instant. -/
def queueStarted (e : SerialEntry) (n : Nat) (q : List SerialEntry) : List SerialEntry :=
  if e.kind = 0 ∨ e.kind = 3 then removeFirst (· == e) q else q.map (fun f => if f = e then { f with due := n + 1 } else f)

/-- A master whose entry has started in time at its trigger. -/
def startedInTime (e : SerialEntry) (n : Nat) (v : SerialMaster) : SerialMaster :=
  { v with queue := queueStarted e n v.queue, running := some { e with trigger := BitVec.ofNat 32 n } }

/-- A master whose entry has started late, or has been skipped where it asks for that. -/
def startedLate (e : SerialEntry) (n : Nat) (v : SerialMaster) : SerialMaster :=
  { v with queue := queueStarted e n v.queue, late := v.late + 1,
           running := if e.skipIfLate then none else some { e with trigger := BitVec.ofNat 32 n } }

theorem startEntry_inTime (h : max s.now (n + 4) - n ≤ s.radio.serial[m].lateTol) : startEntry m e n s = modSerial m (startedInTime e n) s := by
  have hl : decide (s.radio.serial[m].lateTol < max s.now (n + 4) - n) = false := decide_eq_false (by omega)
  simp only [startEntry, hl, Bool.false_and, Bool.false_eq_true, if_false]
  rfl

theorem startEntry_late (h : s.radio.serial[m].lateTol < max s.now (n + 4) - n) : ∃ bytes, startEntry m e n s =
    postEvent 0x0504 1 (167 + m.val) bytes (raise (167 + m.val) (object 14 m.val) 0 (modSerial m (startedLate e n) s)) := by
  simp only [startEntry, decide_eq_true h, Bool.true_and, if_true]
  exact ⟨_, rfl⟩

/-- An idle master starts the entry whose trigger comes first. -/
theorem exec_serialTrigger (hf : firstEntry s s.radio.serial[m].queue = some (e, n)) (hr : s.radio.serial[m].running = none) :
    exec (.serialTrigger m) s = .next (modSerial m takeClock (startEntry m e n (advanceTo n s))) := by
  have hi : (advanceTo n s).radio.serial[m].running.isSome = false := congrArg Option.isSome hr
  show execSerialTrigger m s = _
  simp only [execSerialTrigger, hf, hi, Bool.false_eq_true, if_false]

theorem raised_modSerial {k obj : Nat} (f : SerialMaster → SerialMaster) (h : Raised k obj s) : Raised k obj (modSerial m f s) := h

theorem runs_serialTrigger_inTime (hf : firstEntry s s.radio.serial[m].queue = some (e, n)) (hr : s.radio.serial[m].running = none)
    (hl : max (max s.now n) (n + 4) - n ≤ s.radio.serial[m].lateTol) : Runs (.serialTrigger m) s (fun t =>
    t.radio.serial[m].running = some { e with trigger := BitVec.ofNat 32 n } ∧ t.now = max s.now n ∧
      t.radio.serial[m].late = s.radio.serial[m].late) := by
  refine runs_of_exec (exec_serialTrigger hf hr) ?_
  rw [startEntry_inTime (s := advanceTo n s) hl, serial_modSerial_same, takeClock_running, takeClock_late, serial_modSerial_same]
  exact ⟨rfl, rfl, rfl⟩

theorem runs_serialTrigger_late (hf : firstEntry s s.radio.serial[m].queue = some (e, n)) (hr : s.radio.serial[m].running = none)
    (hl : s.radio.serial[m].lateTol < max (max s.now n) (n + 4) - n) : Runs (.serialTrigger m) s (fun t =>
    t.radio.serial[m].late = s.radio.serial[m].late + 1 ∧ Raised (167 + m.val) (object 14 m.val) t ∧
      (e.skipIfLate = true → t.radio.serial[m].running = none)) := by
  obtain ⟨bytes, h⟩ := startEntry_late (e := e) (s := advanceTo n s) hl
  refine runs_of_exec (exec_serialTrigger hf hr) ?_
  rw [h, serial_modSerial_same, takeClock_running, takeClock_late, radio_postEvent]
  have hm : (raise (167 + m.val) (object 14 m.val) 0 (modSerial m (startedLate e n) (advanceTo n s))).radio.serial[m] =
      startedLate e n s.radio.serial[m] := serial_modSerial_same m _ (advanceTo n s)
  rw [hm]
  exact ⟨rfl, raised_modSerial _ (raised_postEvent _ _ _ bytes (raised_raise _ _ _ _)), fun hs => if_pos hs⟩

theorem rests_serialTrigger (h : firstEntry s s.radio.serial[m].queue = none) : Rests (.serialTrigger m) s := by
  show execSerialTrigger m s = _
  simp only [execSerialTrigger, h]

/-- A master that is idle again. -/
def transactionEnded (v : SerialMaster) : SerialMaster := takeClock { v with running := none }

/-- An event for what the entry has read, where it reads. -/
def readPosted (m : Fin 4) (e : SerialEntry) (w : Dword) (s : State) : State :=
  if e.read then postEvent 0x0505 0 0xFFFF (payload 16 [(0, 1, m.val), (4, 4, e.trigger.toNat), (8, 8, w.toNat)]) s else s

theorem readPosted_outside (w : Dword) : (readPosted m e w s).radio = s.radio ∧ (readPosted m e w s).now = s.now := by
  unfold readPosted
  split
  · exact ⟨radio_postEvent _ _ _ _ _, now_postEvent _ _ _ _ _⟩
  · exact ⟨rfl, rfl⟩

theorem runs_serialTransactionEnd {w : Dword} (hr : s.radio.serial[m].running = some e) (hq : s.radio.serial[m].queue = []) :
    Runs (.serialTransactionEnd m w) s (fun t => t.radio.serial[m].running = none ∧ t.radio.serial[m].queue = [] ∧ t.now = s.now) := by
  obtain ⟨h1, h2⟩ := readPosted_outside (m := m) (e := e) (s := modSerial m transactionEnded s) w
  have hm : (readPosted m e w (modSerial m transactionEnded s)).radio.serial[m] = transactionEnded s.radio.serial[m] :=
    (congrArg (fun r : Radio => r.serial[m]) h1).trans (serial_modSerial_same m _ s)
  have hn : (transactionEnded s.radio.serial[m]).queue = [] := (takeClock_queue _).trans hq
  have run : exec (.serialTransactionEnd m w) s = .next (readPosted m e w (modSerial m transactionEnded s)) := by
    have hf : firstEntry (readPosted m e w (modSerial m transactionEnded s))
        (readPosted m e w (modSerial m transactionEnded s)).radio.serial[m].queue = none := by rw [hm, hn]; rfl
    show execSerialTransactionEnd m w s = _
    unfold readPosted transactionEnded at hf ⊢
    simp only [execSerialTransactionEnd, hr, hf]
  refine runs_of_exec run ?_
  rw [hm]
  exact ⟨takeClock_running _, hn, h2⟩

theorem rests_serialTransactionEnd {w : Dword} (h : s.radio.serial[m].running = none) : Rests (.serialTransactionEnd m w) s := by
  show execSerialTransactionEnd m w s = _
  simp only [execSerialTransactionEnd, h]

end

/-! ## The survey's dwells (R356, R473) -/

section
variable {i j : Nat} {s : State}

/-- The survey after an entry's dwell, at the next entry. -/
def dwellEnded (next : Nat) (e : SurveyEntry) (dwelt : List (Nat × Nat)) (v : Survey) : Survey :=
  { v with entries := v.entries.set v.index e, dwelt := dwelt, index := next }

/-- A state with another survey. -/
def withSurvey (v : Survey) (s : State) : State := modRadio (fun r => { r with survey := v }) s

/-- A dwell that has room under the duty leaves its entry valid with the spectra's levels, and the survey hops to the next entry. -/
theorem exec_surveyDwellEnd {e : SurveyEntry} (hr : surveyRuns s = true) (he : s.radio.survey.entries[s.radio.survey.index]? = some e)
    (hd : recentMs s.slowTicks s.radio.survey.dwelt < 10 * surveyDuty s) : ∃ f dwelt n,
    exec (.surveyDwellEnd s.radio.survey.index ((s.radio.survey.index + 1) % s.radio.survey.entries.length)) s =
      .next (surveyTune (withSurvey (dwellEnded ((s.radio.survey.index + 1) % s.radio.survey.entries.length) f dwelt s.radio.survey)
        (advanceTo n s))) ∧
      f.valid = true ∧ f.averaged = min 65535 s.radio.survey.spectra ∧ f.bins.length = 256 := by
  have hroom : ¬ (10 * surveyDuty s - recentMs s.slowTicks s.radio.survey.dwelt = 0) := by omega
  show ∃ f dwelt n, execSurveyDwellEnd _ _ s = _ ∧ _
  simp only [execSurveyDwellEnd, hr, he, hroom, Bool.not_true, Bool.false_eq_true, if_false, ne_eq, not_true, or_self]
  exact ⟨_, _, _, rfl, rfl, rfl, by simp⟩

theorem runs_surveyDwellEnd {e : SurveyEntry} (hn : s.radio.survey.enable = true) (hw : s.radio.survey.dwelling = true)
    (hg : s.links.rxGroups[(4 : Fin 5)] = .aligned) (he : s.radio.survey.entries[s.radio.survey.index]? = some e)
    (hd : recentMs s.slowTicks s.radio.survey.dwelt < 10 * surveyDuty s) :
    Runs (.surveyDwellEnd s.radio.survey.index ((s.radio.survey.index + 1) % s.radio.survey.entries.length)) s (fun t =>
      t.radio.survey.index = (s.radio.survey.index + 1) % s.radio.survey.entries.length ∧
      t.radio.survey.entries.length = s.radio.survey.entries.length ∧ ∃ f, t.radio.survey.entries[s.radio.survey.index]? = some f ∧
        f.valid = true ∧ f.averaged = min 65535 s.radio.survey.spectra ∧ f.bins.length = 256) := by
  have hr : surveyRuns s = true := by
    rw [surveyRuns, hn, hw]
    exact beq_iff_eq.mpr hg
  obtain ⟨f, dwelt, n, run, hv, ha, hb⟩ := exec_surveyDwellEnd hr he hd
  have hs := survey_surveyTune (withSurvey (dwellEnded ((s.radio.survey.index + 1) % s.radio.survey.entries.length) f dwelt s.radio.survey)
    (advanceTo n s))
  have hes := congrArg Survey.entries hs
  refine runs_of_exec run ⟨congrArg Survey.index hs, (congrArg List.length hes).trans List.length_set, f, ?_, hv, ha, hb⟩
  obtain ⟨hlt, _⟩ := List.getElem?_eq_some_iff.mp he
  exact (congrArg (·[s.radio.survey.index]?) hes).trans (List.getElem?_set_self hlt)

/-- Nothing dwells, or the indices are not those of the entry that dwells and the next (log entry 187). -/
theorem rests_surveyDwellEnd (h : s.radio.survey.dwelling = false ∨ i ≠ s.radio.survey.index ∨ j ≠ (i + 1) % s.radio.survey.entries.length) :
    Rests (.surveyDwellEnd i j) s := by
  show execSurveyDwellEnd i j s = _
  rcases h with h | h
  · have hr : surveyRuns s = false := by rw [surveyRuns, h, Bool.and_false, Bool.false_and]
    simp only [execSurveyDwellEnd, hr, Bool.not_false, if_true]
  · have hx : i ≠ s.radio.survey.index ∨ j ≠ (s.radio.survey.index + 1) % s.radio.survey.entries.length := by
      by_cases hi : i = s.radio.survey.index
      · exact .inr (hi ▸ h.resolve_left (fun hn => hn hi))
      · exact .inl hi
    simp only [execSurveyDwellEnd, hx, or_true, if_true]
    split
    · rfl
    · split
      · rfl
      · rfl

end

/-! ## Coexistence signals (R357-R360) -/

section
variable {x y : Fin 2} {b : Bool} {s : State}

/-- An interface whose request has risen (R359). -/
def requestRisen (pri : Bool) (now : Nat) (v : Coex) : Coex :=
  { v with req := true, pri := pri, deferred := v.enable && !pri, reqAt := now, blocked := v.blocked && decide (now < v.lowAt + 30720) }

theorem runs_coexReqRise (hxy : x ≠ y) : Runs (.coexReqRise x b) s (fun t => t.radio.coex[x].req = true ∧ t.radio.coex[x].pri = b ∧
    t.radio.coex[x].deferred = (s.radio.coex[x].enable && !b) ∧ t.radio.coex[x].reqAt = s.now ∧ t.radio.coex[x].gnt = s.radio.coex[x].gnt ∧
    t.radio.coex[y] = s.radio.coex[y] ∧ (b = false → t = { s with radio := t.radio })) := by
  cases b with
  | false =>
    have hc := coexTo_modCoex (x := x) (f := requestRisen false s.now) (s := s)
    have hx := hc.changed
    exact runs_of_exec rfl ⟨congrArg Coex.req hx, congrArg Coex.pri hx, congrArg Coex.deferred hx, congrArg Coex.reqAt hx, (congrArg Coex.gnt hx :),
      hc.other hxy, fun _ => rfl⟩
  | true =>
    have hc := (coexTo_modCoex (x := x) (f := requestRisen true s.now) (s := s)).trans (coexTo_coexYield x _)
    have hx := hc.changed.trans (yielded_kept _ _ (Bool.and_false _))
    exact runs_of_exec rfl ⟨congrArg Coex.req hx, congrArg Coex.pri hx, congrArg Coex.deferred hx, congrArg Coex.reqAt hx, (congrArg Coex.gnt hx :),
      hc.other hxy, fun h => absurd h (by decide)⟩

/-- An interface granted at a count (R359). -/
def grantRisen (now : Nat) (v : Coex) : Coex :=
  { v with gnt := true, yielding := false, deferred := false, grants := v.grants + 1, grantAt := now }

theorem runs_coexGrant (hxy : x ≠ y) (he : s.radio.coex[x].enable = true) (hr : s.radio.coex[x].req = true) (hg : s.radio.coex[x].gnt = false)
    (hb : s.radio.coex[x].blocked = false) (hd : coexDutyFree s.radio.coex[x] s = true) (hy : s.radio.coex[x].yielding = true)
    (hq : coexQuiet s.radio.coex[x] s = true) : Runs (.coexGrant x) s (fun t => t.radio.coex[x].gnt = true ∧ t.radio.coex[x].deferred = false ∧
      t.radio.coex[x].grants = s.radio.coex[x].grants + 1 ∧ t.radio.coex[x].grantAt = s.now ∧ t.radio.coex[y] = s.radio.coex[y]) := by
  have hs : coexServes s.radio.coex[x] s = true := by simp only [coexServes, he, hr, hg, hb, hd]; rfl
  have run : exec (.coexGrant x) s = .next (refreshHolds (modCoex x (grantRisen s.now) s)) := by
    show execCoexGrant x s = _
    simp only [execCoexGrant, hs, hq, hy, Bool.not_true, Bool.true_or, Bool.and_self, Bool.false_eq_true, if_false, if_true]
    rfl
  have hc := coexTo_refreshHolds (x := x) (f := grantRisen s.now) (s := s)
  have hx := hc.changed
  exact runs_of_exec run ⟨(congrArg Coex.gnt hx :), congrArg Coex.deferred hx, congrArg Coex.grants hx, congrArg Coex.grantAt hx, hc.other hxy⟩

theorem rests_coexGrant (h : s.radio.coex[x].req = false ∨ s.radio.coex[x].blocked = true) : Rests (.coexGrant x) s := by
  have hs : coexServes s.radio.coex[x] s = false := by
    rcases h with h | h
    · simp only [coexServes, h, Bool.and_false, Bool.false_and]
    · simp only [coexServes, h, Bool.not_true, Bool.and_false, Bool.false_and]
  exact congrArg Host.Outcome.next (if_pos (by rw [hs]; rfl))

/-- An interface that defers no more. -/
def undeferred (v : Coex) : Coex := { v with deferred := false }

theorem runs_coexDeferExpiry (hxy : x ≠ y) (h : s.radio.coex[x].deferred = true) : Runs (.coexDeferExpiry x) s (fun t =>
    t.radio.coex[x].deferred = false ∧ t.now = max s.now (s.radio.coex[x].reqAt + s.radio.coex[x].maxDeferMs * 30720) ∧
    t.radio.coex[y] = s.radio.coex[y]) := by
  have hc := (coexTo_modCoex (x := x) (f := undeferred)
    (s := advanceTo (s.radio.coex[x].reqAt + s.radio.coex[x].maxDeferMs * 30720) s)).trans (coexTo_coexYield x _)
  have hx := hc.changed.trans (yielded_kept _ _ rfl)
  exact runs_of_exec (congrArg Host.Outcome.next (if_pos h)) ⟨congrArg Coex.deferred hx, hc.now, hc.other hxy⟩

theorem rests_coexDeferExpiry (h : s.radio.coex[x].deferred = false) : Rests (.coexDeferExpiry x) s :=
  congrArg Host.Outcome.next (if_neg (ne_true_of_eq_false h))

/-- An interface whose request has fallen (R359). -/
def requestFallen (now : Nat) (v : Coex) : Coex := { v with req := false, deferred := false, lowAt := now }

theorem runs_coexReqFall (hxy : x ≠ y) : Runs (.coexReqFall x) s (fun t => t.radio.coex[x].req = false ∧ t.radio.coex[x].gnt = false ∧
    t.radio.coex[x].lowAt = s.now ∧ t.radio.coex[y] = s.radio.coex[y]) := by
  have hf := coexTo_modCoex (x := x) (f := requestFallen s.now) (s := s)
  by_cases h : (s.radio.coex[x].gnt || s.radio.coex[x].yielding) = true
  · have hc := hf.trans (coexTo_endGrant x _)
    have hx := hc.changed
    exact runs_of_exec (congrArg Host.Outcome.next (if_pos h)) ⟨congrArg Coex.req hx, (congrArg Coex.gnt hx :), congrArg Coex.lowAt hx, hc.other hxy⟩
  · have hx := hf.changed
    obtain ⟨hg, _⟩ := Bool.or_eq_false_iff.mp (Bool.not_eq_true _ ▸ h)
    exact runs_of_exec (congrArg Host.Outcome.next (if_neg h)) ⟨congrArg Coex.req hx, (congrArg Coex.gnt hx).trans hg, congrArg Coex.lowAt hx,
      hf.other hxy⟩

/-- Whether the duty, not grant_max_ms, is the limit of the grant in force (R360). -/
def limitedByDuty (x : Fin 2) (s : State) : Bool := decide (10 * s.radio.coex[x].dutyPct - grantedBefore s.radio.coex[x] s < s.radio.coex[x].grantMaxMs)

/-- An interface that takes no request until its peer's has been low (R360). -/
def requestBlocked (v : Coex) : Coex := { v with blocked := true }

/-- The grant ends at its limit, and the interface's event says which limit it is. -/
theorem exec_coexLimit (h : s.radio.coex[x].gnt = true) : ∃ n bytes, exec (.coexLimit x (limitedByDuty x s)) s =
    .next (postEvent 0x0506 1 0xFFFF bytes (modCoex x requestBlocked (endGrant x (advanceTo n s)))) := by
  have hl : (s.radio.coex[x].gnt && limitedByDuty x s == limitedByDuty x s) = true := by rw [h]; simp
  exact ⟨_, _, congrArg Host.Outcome.next (if_pos hl)⟩

theorem runs_coexLimit (hxy : x ≠ y) (h : s.radio.coex[x].gnt = true) : Runs (.coexLimit x (limitedByDuty x s)) s (fun t =>
    t.radio.coex[x].gnt = false ∧ t.radio.coex[x].blocked = true ∧ s.now ≤ t.now ∧ t.radio.coex[y] = s.radio.coex[y]) := by
  obtain ⟨n, bytes, run⟩ := exec_coexLimit h
  have hc := ((coexTo_endGrant x (advanceTo n s)).trans (coexTo_modCoex (f := requestBlocked))).postEvent 0x0506 1 0xFFFF bytes
  exact runs_of_exec run ⟨congrArg Coex.gnt hc.changed, congrArg Coex.blocked hc.changed, (le_max_left _ _).trans_eq hc.now.symm, hc.other hxy⟩

theorem rests_coexLimit (h : s.radio.coex[x].gnt = false ∨ b ≠ limitedByDuty x s) : Rests (.coexLimit x b) s := by
  have hl : ¬ (s.radio.coex[x].gnt && limitedByDuty x s == b) = true := by
    rw [Bool.and_eq_true, beq_iff_eq]
    rintro ⟨hg, hb⟩
    rcases h with h | h
    · exact ne_true_of_eq_false h hg
    · exact h hb.symm
  exact congrArg Host.Outcome.next (if_neg hl)

theorem runs_coexAct : Runs (.coexAct x b) s (fun t =>
    t = { s with radio := { s.radio with coex := s.radio.coex.set x { s.radio.coex[x] with act := b } } }) :=
  runs_of_exec rfl rfl

end

/-- Settles O46: each event is its change of one synthesiser, port, serial master, the survey or one coexistence interface; without its condition it is
the state it meets. -/
theorem frontEndEvents : Obligations.FrontEndEvents := by
  refine ⟨fun o k p m w i j s => ?_, fun x y b s hxy => ?_⟩
  · exact ⟨runs_loLock, rests_loLock, runs_loLockLoss, rests_loLockLoss, fun _ hq hl => runs_txEnableDeadline hq hl, rests_txEnableDeadline,
      fun _ _ hf hr hl => runs_serialTrigger_inTime hf hr hl, fun _ _ hf hr hl => runs_serialTrigger_late hf hr hl, rests_serialTrigger,
      fun _ hr hq => runs_serialTransactionEnd hr hq, rests_serialTransactionEnd, fun _ hn hw hg he hd => runs_surveyDwellEnd hn hw hg he hd,
      rests_surveyDwellEnd⟩
  · exact ⟨runs_coexReqRise hxy, runs_coexGrant hxy, rests_coexGrant, runs_coexDeferExpiry hxy, rests_coexDeferExpiry, runs_coexReqFall hxy,
      runs_coexLimit hxy, rests_coexLimit, runs_coexAct⟩

end Sys2Proof.Proofs
end

/-! # The boot regulator's start -/
section
namespace Sys2Proof.Proofs

open Sys2Proof Sys2Proof.Machine Sys2Proof.Safety

/-! ## SUP0 as the boot regulator starts it (R445) -/

@[simp] theorem rail_modRail_same (r : Fin 10) (f : Rail → Rail) (s : State) : rail r (modRail r f s) = f (rail r s) :=
  Vector.getElem_set_self r.isLt

@[simp] theorem rail_modPhase (r : Fin 10) (p : Fin 16) (f : Phase → Phase) (s : State) : rail r (modPhase p f s) = rail r s := rfl

theorem rail_foldl_modPhase (r : Fin 10) (f : State → Fin 16 → Phase → Phase) (l : List (Fin 16)) (s : State) :
    rail r (l.foldl (fun t p => modPhase p (f t p) t) s) = rail r s :=
  List.foldlRecOn (motive := fun t => rail r t = rail r s) l _ rfl (fun t ht p _ => (rail_modPhase r p (f t p) t).trans ht)

/-- Phases brought in change no rail. -/
@[simp] theorem rail_phasesOn (r q : Fin 10) (s : State) : rail r (phasesOn q s) = rail r s :=
  (rail_foldl_modPhase r _ _ _).trans (rail_foldl_modPhase r _ _ _)

/-- With nothing that holds the core down the boot regulator begins, from the sensed voltage, towards the voltage of the straps. -/
theorem rail_bootCore {s : State} (ha : bootAllowed s = true) (hu : s.sys.coreUp = false) : rail 0 (bootCore s) =
    { Rail.booted s.sys.straps.bootv with
        state := .softStart, ref := (rail 0 s).sensed * mvUnit, sensed := (rail 0 s).sensed, powerGood := false, pgRun := 0 } := by
  have hb : (bootAllowed s && !s.sys.coreUp) = true := by rw [ha, hu]; rfl
  rw [bootCore, if_pos hb, rail_phasesOn, rail_modRail_same]

/-! ## VAUX_VALID up to the boot regulator (R563 steps 1 and 2) -/

/-- The power-on reset with its straps, before the boot regulator. -/
def poweredUp (x : Straps) (s : State) : State :=
  modNpt (fun n => { n with rtcOk := true }) (sampleStraps x (modSys (fun v => { v with vauxValid := true }) (coreReset true s)))

theorem exec_vauxValid {x : Straps} {s : State} (hs : s.sys.vauxValid = false) (hx : x.mode.toNat < 2) :
    exec (.vauxValid x) s = .next (bootCore (poweredUp x s)) := by
  show execVauxValid x s = _
  rw [execVauxValid, hs, if_neg Bool.false_ne_true, withStraps_product hx, poweredUp]

@[simp] theorem poweredUp_straps (x : Straps) (s : State) : (poweredUp x s).sys.straps = x := rfl
@[simp] theorem poweredUp_coreUp (x : Straps) (s : State) : (poweredUp x s).sys.coreUp = false := rfl

/-- A power-on reset clears every hold of the Night Porter, so that the boot regulator always starts. -/
@[simp] theorem bootAllowed_poweredUp (x : Straps) (s : State) : bootAllowed (poweredUp x s) = true := rfl

theorem bootMv_bootCore (s : State) : bootMv (bootCore s) = bootMillivolts s.sys.straps.bootv := by rw [bootMv, bootCore_sys]

/-- Settles O13: the straps sampled are those from which the boot regulator takes the target of SUP0. -/
theorem bootVoltage : Obligations.BootVoltage := by
  intro x s hs hx
  have hmv : bootMv (bootCore (poweredUp x s)) = bootMillivolts x.bootv := bootMv_bootCore _
  have hrail := rail_bootCore (bootAllowed_poweredUp x s) (poweredUp_coreUp x s)
  refine ⟨_, exec_vauxValid hs hx, hmv, fun _ => ⟨congrArg Rail.target hrail, congrArg Rail.state hrail⟩, ?_, ?_⟩
  · intro h0
    rw [hmv, h0]
    rfl
  · intro h7
    rw [hmv, h7]
    rfl

end Sys2Proof.Proofs
end

/-! # Thermal thresholds, sensors, critical trips and the life counters -/
section
namespace Sys2Proof.Proofs

open Sys2Proof Sys2Proof.Machine Sys2Proof.Safety Sys2Proof.Laws

/-! ## The thermal and the system block -/

/-- The two blocks that thermal events read and change. -/
def blocks (s : State) : Thermal × System := (s.thermal, s.sys)

theorem blocks_ite (p : Prop) [Decidable p] (s t : State) : blocks (if p then s else t) = if p then blocks s else blocks t := apply_ite blocks p s t

theorem blocks_foldl {α : Type} (f : State → α → State) (l : List α) (s : State) (h : ∀ s a, blocks (f s a) = blocks s) :
    blocks (l.foldl f s) = blocks s :=
  List.foldlRecOn (motive := fun t => blocks t = blocks s) l f rfl (fun t ht a _ => (h t a).trans ht)

theorem blocks_of_view {β : Type} {v : Fin 64 → Dir → Direction → β} {s t : State} (h : view v t = view v s) : blocks t = blocks s :=
  congrArg (fun w => blocks w.rest) h

theorem thermal_of_blocks {s t : State} (h : blocks t = blocks s) : t.thermal = s.thermal := congrArg Prod.fst h

theorem sys_of_blocks {s t : State} (h : blocks t = blocks s) : t.sys = s.sys := congrArg Prod.snd h

/-! ### Records and port stops -/

/-- A reading that takes nothing of the directions does not see the stop of a port there. -/
theorem view_refreshPortStops_all (s : State) : view (fun _ _ _ => ()) (refreshPortStops s) = view (fun _ _ _ => ()) s :=
  view_refreshPortStops (fun _ _ _ _ => rfl) (fun _ _ _ _ => rfl) (fun _ _ _ _ _ => rfl) s (fun _ _ _ _ => rfl)

@[simp] theorem blocks_postEvent (code severity source : Nat) (bytes : List Byte) (s : State) :
    blocks (postEvent code severity source bytes s) = blocks s :=
  blocks_of_view (v := fun _ _ _ => ()) (view_postEvent _ _ _ _ _)

@[simp] theorem blocks_logRecord (cls severity source code : Nat) (bytes : List Byte) (events : List EventRec) (s : State) :
    blocks (logRecord cls severity source code bytes events s) = blocks s :=
  blocks_of_view (v := fun _ _ _ => ()) (view_logRecord _ _ _ _ _ _ _)

@[simp] theorem blocks_protRecord (code obj ch dir prt step reason : Nat) (i : ProtInfo) (s : State) :
    blocks (protRecord code obj ch dir prt step reason i s) = blocks s :=
  blocks_of_view (v := fun _ _ _ => ()) (view_protRecord _ _ _ _ _ _ _ _ _)

@[simp] theorem blocks_portRecord (code : Nat) (p : Fin 8) (step reason : Nat) (i : ProtInfo) (s : State) :
    blocks (portRecord code p step reason i s) = blocks s := blocks_protRecord _ _ _ _ _ _ _ _ _

@[simp] theorem blocks_modPort (p : Fin 8) (f : PortState → PortState) (s : State) : blocks (modPort p f s) = blocks s := rfl

@[simp] theorem blocks_refreshPortStops (s : State) : blocks (refreshPortStops s) = blocks s := blocks_of_view (view_refreshPortStops_all s)

@[simp] theorem blocks_flushProt (s : State) : blocks (flushProt s) = blocks s :=
  blocks_foldl _ _ _ (fun _ _ => blocks_logRecord _ _ _ _ _ _ _)

@[simp] theorem blocks_powerRecord (old new : PowerState) (cause writer : Nat) (s : State) : blocks (powerRecord old new cause writer s) = blocks s := by
  have hd (t : State) : blocks (dropScan old t) = blocks t := by
    rw [dropScan, blocks_ite]
    exact ite_self _
  rw [powerRecord, hd, blocks_logRecord]

@[simp] theorem blocks_refreeze (was : List ((Fin 64 × Dir) × Bool)) (s : State) : blocks (refreeze was s) = blocks s :=
  blocks_foldl _ _ _ (fun _ _ => blocks_of_view (v := fun _ _ _ => ()) (view_freezeFrom (fun _ _ => rfl) _ _))

@[simp] theorem blocks_legacyStop (p : Fin 8) (reason : Nat) (s : State) : blocks (legacyStop p reason s) = blocks s := by
  have hc (x : Compat) (t : State) : blocks { t with compat := x } = blocks t := rfl
  have hg (c : Fin 64) (d : Dir) (f : GqDir → GqDir) (t : State) : blocks (modGq c d f t) = blocks t := rfl
  simp only [legacyStop, blocks_ite, blocks_foldl, hc, hg, implies_true, ite_self]

@[simp] theorem blocks_releaseDeviceStops (s : State) : blocks (releaseDeviceStops s) = blocks s := by
  simp only [releaseDeviceStops, blocks_refreshPortStops, blocks_foldl, blocks_ite, blocks_portRecord, blocks_modPort, implies_true, ite_self]

/-! ### Rails -/

@[simp] theorem blocks_modRail (r : Fin 10) (f : Rail → Rail) (s : State) : blocks (modRail r f s) = blocks s := rfl

@[simp] theorem blocks_modLoop (l : Nat) (f : Loop → Loop) (s : State) : blocks (modLoop l f s) = blocks s := rfl

@[simp] theorem blocks_phasesOn (r : Fin 10) (s : State) : blocks (phasesOn r s) = blocks s := by
  rw [phasesOn_supply]
  rfl

@[simp] theorem blocks_setRailState (r : Fin 10) (v : RailState) (source : Nat) (s : State) : blocks (setRailState r v source s) = blocks s := by
  simp only [setRailState, blocks_ite, blocks_postEvent, blocks_modRail, ite_self]

@[simp] theorem blocks_answerRing (r : Fin 10) (ringOf : Option (Fin 22)) (results : List Int) (s : State) :
    blocks (answerRing r ringOf results s) = blocks s := by
  cases ringOf <;> rfl

@[simp] theorem blocks_dropWaits (r : Fin 10) (results : List Int) (s : State) : blocks (dropWaits r results s) = blocks s := by
  simp only [dropWaits, blocks_modRail, blocks_answerRing]

@[simp] theorem blocks_stopGroup (r : Fin 10) (s : State) : blocks (stopGroup r s) = blocks s := by
  have hr (k : Fin 10) (t : State) : blocks (beginRailStop k t) = blocks t := by
    simp only [beginRailStop, blocks_ite, blocks_setRailState, blocks_dropWaits, ite_self]
  exact blocks_foldl _ _ _ (fun t k => hr k t)

@[simp] theorem blocks_beginSoftStart (r : Fin 10) (s : State) : blocks (beginSoftStart r s) = blocks s := by
  simp only [beginSoftStart, startLoop, blocks_ite, blocks_modLoop, blocks_modRail, blocks_phasesOn, blocks_setRailState, ite_self]

/-! ## Stops of the device (R570, R571) -/

/-- What a stop of the device leaves once its reason is noted. -/
def stopView (s : State) : Thermal × Nat := (s.thermal, s.sys.stopReason)

theorem stopView_ite (p : Prop) [Decidable p] (s t : State) : stopView (if p then s else t) = if p then stopView s else stopView t :=
  apply_ite stopView p s t

theorem stopView_of_blocks {s t : State} (h : blocks t = blocks s) : stopView t = stopView s := by
  rw [stopView, thermal_of_blocks h, sys_of_blocks h, stopView]

theorem stopView_beginStop (portCode : Nat) (s : State) : stopView (beginStop portCode s) = stopView s := by
  have hrails (t : State) : stopView (stopPortRails t) = stopView t :=
    (stopView_of_blocks (blocks_foldl _ _ _ (fun _ _ => blocks_stopGroup _ _))).trans rfl
  refine (hrails _).trans (stopView_of_blocks ?_)
  simp only [blocks_flushProt, blocks_refreshPortStops, blocks_foldl, blocks_ite, blocks_portRecord, blocks_modPort, implies_true, ite_self]

theorem stopView_enterStopped (s : State) : stopView (enterStopped s) = stopView s := (stopView_of_blocks (blocks_refreeze _ _)).trans rfl

theorem stopView_stopRecord (old : PowerState) (reason writer : Nat) (s : State) :
    stopView (writeCheckpoint (powerRecord old .stopped reason writer s)) = stopView s := stopView_of_blocks (blocks_powerRecord _ _ _ _ _)

theorem stopView_protRecord (code obj ch dir prt step reason : Nat) (i : ProtInfo) (s : State) :
    stopView (protRecord code obj ch dir prt step reason i s) = stopView s := stopView_of_blocks (blocks_protRecord _ _ _ _ _ _ _ _ _)

/-- An orderly stop leaves its reason, where it is taken, and the thermal block. -/
theorem stopView_orderlyStop (reason : Nat) (src : Option (Fin 512)) (writer : Nat) (s : State) :
    stopView (orderlyStop reason src writer s) = stopView s ∨ stopView (orderlyStop reason src writer s) = (s.thermal, reason) := by
  simp only [orderlyStop, stopView_ite, stopView_enterStopped, stopView_stopRecord, stopView_beginStop, stopView_protRecord, ite_self]
  exact ite_eq_or_eq _ _ _

theorem thermal_orderlyStop (reason : Nat) (src : Option (Fin 512)) (writer : Nat) (s : State) : (orderlyStop reason src writer s).thermal = s.thermal :=
  (stopView_orderlyStop reason src writer s).elim (congrArg Prod.fst) (congrArg Prod.fst)

/-- An active device takes the stop. -/
theorem stopReason_orderlyStop {s : State} (hp : s.sys.power = .active) (ht : s.sys.transition = .none) (reason : Nat) (src : Option (Fin 512))
    (writer : Nat) : (orderlyStop reason src writer s).sys.stopReason = reason := by
  have h : stopView (orderlyStop reason src writer s) = (s.thermal, reason) := by
    simp only [orderlyStop, ht, hp, stopView_ite, stopView_enterStopped, stopView_stopRecord, stopView_beginStop, stopView_protRecord, ite_self]
    rfl
  exact congrArg Prod.snd h

/-! ## Port stops for temperature leave the thermal block (R478) -/

theorem thermal_stopPort (p : Fin 8) (reason : Nat) (i : ProtInfo) (s : State) : (stopPort p reason i s).thermal = s.thermal := by
  have hc (t : State) : (checkPorts t).thermal = t.thermal := by
    unfold checkPorts
    split
    · exact thermal_orderlyStop _ _ _ _
    · rfl
  unfold stopPort
  split
  · rfl
  · refine (hc _).trans (thermal_of_blocks ?_)
    simp only [blocks_refreshPortStops, blocks_portRecord, blocks_legacyStop, blocks_modPort]

theorem thermal_releasePort (p : Fin 8) (reason : Nat) (i : ProtInfo) (s : State) : (releasePort p reason i s).thermal = s.thermal := by
  refine thermal_of_blocks ?_
  simp only [releasePort, blocks_ite, blocks_refreshPortStops, blocks_portRecord, blocks_modPort, ite_self]

theorem thermal_refreshThermalStops (s : State) : (refreshThermalStops s).thermal = s.thermal := by
  refine List.foldlRecOn (motive := fun t : State => t.thermal = s.thermal) _ _ rfl (fun t ht p _ => Eq.trans ?_ ht)
  dsimp only
  split
  · exact thermal_stopPort _ _ _ _
  · exact thermal_releasePort _ _ _ _

/-! ## The stop of a hot die (R479) -/

theorem blocks_stopAllPorts (s : State) : blocks (stopAllPorts s) = blocks s := by
  simp only [stopAllPorts, blocks_refreshPortStops, blocks_foldl, blocks_ite, blocks_portRecord, blocks_modPort, implies_true, ite_self]

theorem thermal_dieStop (n : Nat) (s : State) : (dieStop n s).thermal = s.thermal := by
  unfold dieStop
  split
  · rfl
  · split
    · exact thermal_orderlyStop _ _ _ _
    · exact (thermal_of_blocks (blocks_stopAllPorts _)).trans (thermal_orderlyStop _ _ _ _)

theorem stopReason_dieStop {s : State} (hp : s.sys.power = .active) (ht : s.sys.transition = .none) (n : Nat) : (dieStop n s).sys.stopReason = 4 := by
  rw [dieStop, if_neg (by simp [hp])]
  split
  · exact stopReason_orderlyStop hp ht _ _ _
  · rw [sys_of_blocks (blocks_stopAllPorts _), stopReason_orderlyStop hp ht]

/-! ## THERMAL_THRESHOLD_CROSS (R466, R468) -/

theorem sensor_modSensor_same (n : Fin 32) (f : Sensor → Sensor) (s : State) : sensor n.val (modSensor n.val f s) = f (sensor n.val s) :=
  nth_upd_same _ _ _ _ n.isLt

theorem sensor_modSensor_ne {n k : Fin 32} (f : Sensor → Sensor) (s : State) (h : k ≠ n) : sensor k.val (modSensor n.val f s) = sensor k.val s :=
  nth_upd_ne _ _ _ _ _ (fun he => h (Fin.ext he))

theorem sensor_of_thermal {s t : State} (h : t.thermal = s.thermal) (n : Nat) : sensor n t = sensor n s := by rw [sensor, h, sensor]

/-- The thermal block of one state but for one sensor. -/
def SensorTo (n : Fin 32) (f : Sensor → Sensor) (s t : State) : Prop := t.thermal = (modSensor n.val f s).thermal

section
variable {n k : Fin 32} {f : Sensor → Sensor} {s t u : State}

theorem SensorTo.changed (h : SensorTo n f s t) : sensor n.val t = f (sensor n.val s) := (sensor_of_thermal h _).trans (sensor_modSensor_same n f s)

theorem SensorTo.other (h : SensorTo n f s t) (hk : k ≠ n) : sensor k.val t = sensor k.val s :=
  (sensor_of_thermal h _).trans (sensor_modSensor_ne f s hk)

theorem SensorTo.trans (h : SensorTo n f s t) (hu : u.thermal = t.thermal) : SensorTo n f s u := Eq.trans hu h

end

/-- A sensor on the other side of T_warn or T_stop; its runs begin anew. -/
def crossed (stop up : Bool) (x : Sensor) : Sensor :=
  if stop then { x with stop := up, stopUp := 0, stopDown := 0 } else { x with warn := up, warnUp := 0, warnDown := 0 }

/-- Samples in a row beyond the threshold that a crossing counts. -/
def crossRun (x : Sensor) : Bool → Bool → Nat
  | false, true => if x.warn then 0 else x.warnUp
  | false, false => if x.warn then x.warnDown else 0
  | true, true => if x.stop then 0 else x.stopUp
  | true, false => if x.stop then x.stopDown else 0

/-- The new level with its event. -/
def levelTaken (n : Fin 32) (stop up : Bool) (s : State) : State := postLevel n.val stop up (modSensor n.val (crossed stop up) s)

/-- The legacy alarm of a warning in WATCH mode. -/
def warnAlarm (stop up : Bool) (s : State) : State :=
  if inWatch s && up && !stop then { s with compat := { s.compat with alarmTemp := true } } else s

/-- What a stop level orders: the port stops of an external sensor, the stop of the device by a die sensor. -/
def stopOrders (n : Fin 32) (stop up : Bool) (s : State) : State :=
  if stop && decide (24 ≤ n.val) then refreshThermalStops s else if stop && up then dieStop n.val s else s

section
variable {n k : Fin 32} {stop up : Bool} {s : State}

theorem exec_thermalThresholdCross : exec (.thermalThresholdCross n stop up) s =
    .next (if crossRun (sensor n.val s) stop up < (sensor n.val s).par.dwell ∨ s.sys.coreUp = false then s
      else stopOrders n stop up (warnAlarm stop up (levelTaken n stop up s))) := by
  cases stop <;> cases up <;> rfl

theorem exec_crossing (hu : s.sys.coreUp = true) (hd : (sensor n.val s).par.dwell ≤ crossRun (sensor n.val s) stop up) :
    exec (.thermalThresholdCross n stop up) s = .next (stopOrders n stop up (warnAlarm stop up (levelTaken n stop up s))) := by
  rw [exec_thermalThresholdCross, if_neg (by simp [hu, hd])]

theorem rests_thermalThresholdCross (h : s.sys.coreUp = false) : Rests (.thermalThresholdCross n stop up) s := by
  rw [Rests, exec_thermalThresholdCross, if_pos (.inr h)]

theorem view_warnAlarm {β : Type} (v : Fin 64 → Dir → Direction → β) (t : State) : view v (warnAlarm stop up t) = view v t := by
  unfold warnAlarm
  split <;> rfl

theorem view_warnAlarm_levelTaken : view (fun _ _ _ => ()) (warnAlarm stop up (levelTaken n stop up s)) =
    view (fun _ _ _ => ()) (modSensor n.val (crossed stop up) s) := (view_warnAlarm _ _).trans (view_postEvent _ _ _ _ _)

/-- Whatever a crossing orders, of the sensors it changes its own alone. -/
theorem sensorTo_crossing : SensorTo n (crossed stop up) s (stopOrders n stop up (warnAlarm stop up (levelTaken n stop up s))) := by
  have hl : SensorTo n (crossed stop up) s (warnAlarm stop up (levelTaken n stop up s)) := thermal_of_blocks (blocks_of_view view_warnAlarm_levelTaken)
  unfold stopOrders
  split
  · exact hl.trans (thermal_refreshThermalStops _)
  · split
    · exact hl.trans (thermal_dieStop _ _)
    · exact hl

theorem sys_warnAlarm_levelTaken : (warnAlarm stop up (levelTaken n stop up s)).sys = s.sys :=
  (sys_of_blocks (blocks_of_view view_warnAlarm_levelTaken)).trans rfl

theorem ports_warnAlarm_levelTaken : (warnAlarm stop up (levelTaken n stop up s)).ports = s.ports := (ports_of_view view_warnAlarm_levelTaken).trans rfl

/-- A warning orders nothing of the device: beside the sensor, an event and the legacy alarm. -/
theorem runs_warnRise (hu : s.sys.coreUp = true) (hw : (sensor n.val s).warn = false) (hd : (sensor n.val s).par.dwell ≤ (sensor n.val s).warnUp) :
    Runs (.thermalThresholdCross n false true) s (fun t => (sensor n.val t).warn = true ∧ (k ≠ n → sensor k.val t = sensor k.val s) ∧
      t.sys.power = s.sys.power ∧ t.ports = s.ports) := by
  refine runs_of_exec (exec_crossing hu (by rwa [crossRun, if_neg (by simp [hw])])) ⟨?_, sensorTo_crossing.other, ?_, ports_warnAlarm_levelTaken⟩
  · rw [sensorTo_crossing.changed]
    rfl
  · exact congrArg System.power sys_warnAlarm_levelTaken

theorem runs_dieStop (hu : s.sys.coreUp = true) (hw : (sensor n.val s).stop = false) (hd : (sensor n.val s).par.dwell ≤ (sensor n.val s).stopUp)
    (hn : n.val < 24) (hp : s.sys.power = .active) (ht : s.sys.transition = .none) : Runs (.thermalThresholdCross n true true) s (fun t =>
      (sensor n.val t).stop = true ∧ t.sys.stopReason = 4 ∧ (k ≠ n → sensor k.val t = sensor k.val s)) := by
  refine runs_of_exec (exec_crossing hu (by rwa [crossRun, if_neg (by simp [hw])])) ⟨?_, ?_, sensorTo_crossing.other⟩
  · rw [sensorTo_crossing.changed]
    rfl
  · rw [stopOrders, if_neg (by simp [hn]), if_pos (by rfl)]
    exact stopReason_dieStop (by rw [sys_warnAlarm_levelTaken, hp]) (by rw [sys_warnAlarm_levelTaken, ht]) _

theorem runs_stopFall (hu : s.sys.coreUp = true) (hw : (sensor n.val s).stop = true) (hd : (sensor n.val s).par.dwell ≤ (sensor n.val s).stopDown) :
    Runs (.thermalThresholdCross n true false) s (fun t => (sensor n.val t).stop = false ∧ (k ≠ n → sensor k.val t = sensor k.val s)) := by
  refine runs_of_exec (exec_crossing hu (by rwa [crossRun, if_pos hw])) ⟨?_, sensorTo_crossing.other⟩
  rw [sensorTo_crossing.changed]
  rfl

/-! ## SENSOR_REINSTATE (R477) -/

/-- A sensor in use again, from its reading. -/
def reinstated (x : Sensor) : Sensor := { x with failed := false, plausible := 0, lastValid := x.reading, estimateBad := 0 }

theorem sensorTo_reinstated : SensorTo n reinstated s (modSensor n.val reinstated (postSubstituted n.val 0 s)) := by
  have h : blocks (postSubstituted n.val 0 s) = blocks s := blocks_postEvent _ _ _ _ _
  exact congrArg (fun x : Thermal => { x with sensors := upd x.sensors n.val reinstated }) (thermal_of_blocks h)

theorem runs_sensorReinstate (hf : (sensor n.val s).failed = true) (hp : 1000 ≤ (sensor n.val s).plausible) : Runs (.sensorReinstate n) s (fun t =>
    (sensor n.val t).failed = false ∧ (sensor n.val t).lastValid = (sensor n.val s).reading ∧ (k ≠ n → sensor k.val t = sensor k.val s)) := by
  have run : exec (.sensorReinstate n) s = .next (modSensor n.val reinstated (postSubstituted n.val 0 s)) :=
    congrArg Host.Outcome.next (if_pos (by simp [hf, hp]))
  refine runs_of_exec run ⟨?_, ?_, sensorTo_reinstated.other⟩ <;> rw [sensorTo_reinstated.changed] <;> rfl

theorem rests_sensorReinstate (h : (sensor n.val s).failed = false) : Rests (.sensorReinstate n) s :=
  congrArg Host.Outcome.next (if_neg (by simp [h]))

end

/-! ## THERMAL_AUTO_RESTART (R571, R572) -/

section
variable {s : State}

/-- A restart on its way goes on, or ends in ACTIVE; either way the restarts counted stay. -/
theorem restartProgress_restarting {a : Bool} (h : s.sys.transition = .restarting a) : (restartProgress s).sys.restarts = s.sys.restarts ∧
    ((restartProgress s).sys.power = .active ∨ (restartProgress s).sys.transition = .restarting a) := by
  simp only [restartProgress, h]
  split
  · rw [sys_of_blocks (blocks_powerRecord _ _ _ _ _), sys_of_blocks (blocks_refreeze _ _), sys_of_blocks (blocks_releaseDeviceStops s)]
    exact ⟨rfl, .inl rfl⟩
  · exact ⟨rfl, .inr h⟩

/-- An automatic restart noted and counted. -/
def restartNoted (s : State) : State :=
  { s with sys := { s.sys with transition := .restarting true, abandonedRestart := false, restarts := recentRestarts s ++ [s.slowTicks] } }

/-- The rails that the stop stopped, started with their followers. -/
def railsRestarted (s : State) : State :=
  ((List.finRange 10).filter (fun r => s.sys.stoppedRails.getLsbD r.val)).foldl (fun s r =>
    ((r :: followers r s).filter (fun k => (rail k s).state == .off)).foldl (fun s k => beginSoftStart k s) s) s

theorem blocks_railsRestarted (s : State) : blocks (railsRestarted s) = blocks s :=
  blocks_foldl _ _ _ (fun _ _ => blocks_foldl _ _ _ (fun _ _ => blocks_beginSoftStart _ _))

theorem beginRestart_automatic (s : State) : (beginRestart true s).sys.restarts = recentRestarts s ++ [s.slowTicks] ∧
    ((beginRestart true s).sys.power = .active ∨ (beginRestart true s).sys.transition = .restarting true) := by
  have hs : (railsRestarted (restartNoted s)).sys = (restartNoted s).sys := sys_of_blocks (blocks_railsRestarted _)
  obtain ⟨hr, hp⟩ := restartProgress_restarting (congrArg System.transition hs)
  exact ⟨hr.trans (congrArg System.restarts hs), hp⟩

theorem runs_thermalAutoRestart (hs : s.sys.stopReason = 4) (hb : 60000 ≤ s.thermal.below) (hp : s.sys.power = .stopped)
    (ht : s.sys.transition = .none) (hn : (recentRestarts s).length < 3) : Runs .thermalAutoRestart s (fun t =>
      t.sys.restarts = recentRestarts s ++ [s.slowTicks] ∧ (t.sys.power = .active ∨ t.sys.transition = .restarting true)) := by
  have run : exec .thermalAutoRestart s = .next (beginRestart true s) :=
    congrArg Host.Outcome.next ((if_pos ⟨hs, hb⟩).trans (if_pos ⟨hp, ht, hn⟩))
  exact runs_of_exec run (beginRestart_automatic s)

theorem rests_thermalAutoRestart (h : s.sys.stopReason ≠ 4) : Rests .thermalAutoRestart s :=
  congrArg Host.Outcome.next (if_neg (fun hb => h hb.1))

/-! ## CRITICAL_TRIP and CRITICAL_RECOVERY (R480, R481) -/

/-- A trip of either cutoff: the core reset of a running VAUX, which keeps the Guestbook's flash, the mode and House Rules (R561). -/
theorem runs_criticalTrip {east : Bool} (hv : s.sys.vauxValid = true) (hh : s.sys.npt.critHold = false) : Runs (.criticalTrip east) s (fun t =>
    t.sys.coreUp = false ∧ t.sys.npt.critHold = true ∧ t.sys.npt.critLatched = true ∧ t.thermal.critTrips = s.thermal.critTrips + 1 ∧
      t.gb.flash = s.gb.flash ∧ t.sys.mode = s.sys.mode ∧ t.hr.locked = s.hr.locked) :=
  runs_of_exec (congrArg Host.Outcome.next (if_pos (by simp [hv, hh]))) ⟨rfl, rfl, rfl, rfl, rfl, rfl, rfl⟩

theorem rests_criticalTrip {east : Bool} (h : s.sys.npt.critHold = true) : Rests (.criticalTrip east) s :=
  congrArg Host.Outcome.next (if_neg (by simp [h]))

theorem runs_criticalRecovery (h : s.sys.npt.critHold = true) : Runs .criticalRecovery s (fun t =>
    t.sys.npt.critHold = false ∧ t.sys.npt.critLatched = s.sys.npt.critLatched ∧ t.sys.coreUp = s.sys.coreUp) := by
  refine runs_of_exec (congrArg Host.Outcome.next (if_pos h)) ?_
  rw [bootCore_sys]
  exact ⟨rfl, rfl, rfl⟩

theorem rests_criticalRecovery (h : s.sys.npt.critHold = false) : Rests .criticalRecovery s :=
  congrArg Host.Outcome.next (if_neg (by simp [h]))

/-! ## LIFE_CHECKPOINT and DAILY (R485, R487) -/

/-- The operating minute that comes ends an hour. -/
def hourEnds (s : State) : Bool := decide ((s.thermal.checkMinute + 1) % 60 = 0)

/-- The checkpoint whose flag tells of the minute that comes whether it ends an hour is taken at the end of that minute (log entries 181, 187). -/
theorem runs_lifeCheckpoint (hu : s.sys.coreUp = true) : Runs (.lifeCheckpoint (hourEnds s)) s (fun t =>
    t.thermal.lifeRetained = s.thermal.life ∧ t.thermal.checkMinute = s.thermal.checkMinute + 1 ∧
      t.thermal.lifeStored = (if t.thermal.checkMinute % 60 = 0 then s.thermal.life else s.thermal.lifeStored) ∧ s.now ≤ t.now ∧
      t = { s with thermal := t.thermal, now := t.now }) := by
  refine runs_of_exec (congrArg Host.Outcome.next (if_pos (by simp [hu, hourEnds]))) ⟨rfl, rfl, ?_, le_max_left _ _, rfl⟩
  exact if_congr decide_eq_true_iff rfl rfl

theorem rests_lifeCheckpoint {a : Bool} (h : s.sys.coreUp = false ∨ a ≠ hourEnds s) : Rests (.lifeCheckpoint a) s := by
  refine congrArg Host.Outcome.next (if_neg (fun hb => ?_))
  obtain ⟨hu, ha⟩ := Bool.and_eq_true_iff.mp hb
  exact h.elim (fun hc => Bool.false_ne_true (hc.symm.trans hu)) (fun hn => hn (beq_iff_eq.mp ha))

/-- The next operating day begun, at its instant. -/
def dayTaken (s : State) : State :=
  modThermal (fun x => { x with dayMark := s.thermal.dayMark + 24 }) (advanceTo (opInstant ((s.thermal.dayMark + 24) * 3600000000) s) s)

/-- A record that finds room is the last of the intake queue (R537). -/
theorem logged_logRecord (cls : Fin 9) (severity source code : Nat) (bytes : List Byte) (events : List EventRec) (s : State) :
    Logged cls code s (logRecord cls.val severity source code bytes events s) := by
  intro hr
  have hc : Fin.ofNat 9 cls.val = cls := Fin.ofNat_val_eq_self cls
  simp only [logRecord, gbIntake, hc, hr, if_true]
  exact ⟨_, by rw [List.drop_left]; exact List.mem_singleton_self _, rfl, rfl⟩

theorem runs_daily (hu : s.sys.coreUp = true) : Runs .daily s (fun t =>
    t.thermal.dayMark = s.thermal.dayMark + 24 ∧ s.now ≤ t.now ∧ Logged 7 1 s t) := by
  have run : exec .daily s = .next (lifeRecord 1 none (dayTaken s)) := congrArg Host.Outcome.next (if_pos hu)
  have hv : view (fun _ _ _ => ()) (lifeRecord 1 none (dayTaken s)) = view (fun _ _ _ => ()) (dayTaken s) := view_logRecord _ _ _ _ _ _ _
  refine runs_of_exec run ⟨?_, ?_, logged_logRecord 7 _ _ _ _ _ (dayTaken s)⟩
  · rw [thermal_of_blocks (blocks_of_view hv)]
    rfl
  · rw [now_of_view hv]
    exact le_max_left _ _

theorem rests_daily (h : s.sys.coreUp = false) : Rests .daily s := congrArg Host.Outcome.next (if_neg (by simp [h]))

end

/-- Settles O49: each event by the state it leaves where it is due, and by the test that it fails where it is not; of the stops that a crossing orders,
that they leave the thermal block, so that no other sensor changes. -/
theorem thermalEvents : Obligations.ThermalEvents := by
  intro n k a b s
  exact ⟨runs_warnRise, runs_dieStop, runs_stopFall, rests_thermalThresholdCross, runs_sensorReinstate, rests_sensorReinstate, runs_thermalAutoRestart,
    rests_thermalAutoRestart, runs_criticalTrip, rests_criticalTrip, runs_criticalRecovery, rests_criticalRecovery, runs_lifeCheckpoint,
    rests_lifeCheckpoint, runs_daily, rests_daily⟩

end Sys2Proof.Proofs
end

/-! # Fault ticks -/
section
namespace Sys2Proof.Proofs

open Sys2Proof Sys2Proof.Machine Sys2Proof.Safety Sys2Proof.Laws

/-! ## The grid of the fault ticks (R495) -/

theorem le_faultTick_iff (k : Nat) (s : State) : k ≤ faultTick s ↔ 768 * k ≤ 25 * s.now := by
  rw [faultTick, Nat.le_div_iff_mul_le (by decide), Nat.mul_comm]

theorem tickCount_le_iff (k n : Nat) : tickCount k ≤ n ↔ 768 * k ≤ 25 * n := by
  unfold tickCount ceilDiv
  omega

/-- A tick falls on a count that is not before its instant and less than one count after it. -/
theorem tickCount_bounds (k : Nat) : 768 * k ≤ 25 * tickCount k ∧ 25 * tickCount k < 768 * k + 25 := by
  unfold tickCount ceilDiv
  omega

theorem faultTick_grid (n : Nat) (s : State) : faultTick { s with now := n + 768 } = faultTick { s with now := n } + 25 := by
  show 25 * (n + 768) / 768 = 25 * n / 768 + 25
  omega

/-- The next fault tick is ahead. -/
theorem now_lt_nextTick (s : State) : s.now < tickCount (faultTick s + 1) := by
  by_contra h
  have hk := (tickCount_le_iff _ _).mp (Nat.le_of_not_lt h)
  exact Nat.not_succ_le_self _ ((le_faultTick_iff _ s).mpr hk)

/-! ## FAULT_EVENT up to the tick's work (R496) -/

/-- The events that the collector takes at the next fault tick. -/
def arrivals (external : List FaultEvt) (s : State) : List FaultEvt := (s.faults.inbox ++ external).filter (fun e => allocated e.src.val)

/-- The state at the next fault tick, its events taken. -/
def atNextTick (external : List FaultEvt) (s : State) : State :=
  let u := noteFlash external (advanceTo (tickCount (faultTick s + 1)) s)
  { u with faults := { u.faults with inbox := [] } }

section
variable {external : List FaultEvt} {s : State}

theorem exec_faultEvent (hu : s.sys.coreUp = true) (he : arrivals external s ≠ []) :
    exec (.faultEvent external) s = .next (runTick (arrivals external s) (atNextTick external s)) := by
  have hc : ((arrivals external s).isEmpty || !s.sys.coreUp) = false := by simp [he, hu]
  exact congrArg Host.Outcome.next (if_neg (Bool.eq_false_iff.mp hc))

theorem rests_faultEvent (h : s.sys.coreUp = false ∨ arrivals external s = []) : Rests (.faultEvent external) s := by
  have hc : ((arrivals external s).isEmpty || !s.sys.coreUp) = true := by rcases h with h | h <;> simp [h]
  exact congrArg Host.Outcome.next (if_pos hc)

theorem mem_arrivals {e : FaultEvt} (he : e ∈ external) (ha : allocated e.src.val = true) : e ∈ arrivals external s :=
  List.mem_filter.mpr ⟨List.mem_append_right _ he, ha⟩

/-- A FLASH_ERROR from outside is noted in the Guestbook alone; the note takes a free value. -/
theorem noteFlash_gb (external : List FaultEvt) (s : State) : ∃ n g, noteFlash external s = { s with freeCtr := n, gb := g } := by
  unfold noteFlash
  split
  · exact ⟨_, _, rfl⟩
  · exact ⟨_, _, rfl⟩

theorem noteFlash_other (h : ∀ e ∈ external, e.src ≠ 9) : noteFlash external s = s := by
  refine if_neg ?_
  simpa using h

theorem atNextTick_now : (atNextTick external s).now = tickCount (faultTick s + 1) := by
  obtain ⟨n, g, h⟩ := noteFlash_gb external (advanceTo (tickCount (faultTick s + 1)) s)
  rw [atNextTick, h]
  exact Nat.max_eq_right (now_lt_nextTick s).le

theorem atNextTick_sys : (atNextTick external s).sys = s.sys := by
  obtain ⟨n, g, h⟩ := noteFlash_gb external (advanceTo (tickCount (faultTick s + 1)) s)
  rw [atNextTick, h]
  rfl

theorem atNextTick_faults : (atNextTick external s).faults = { s.faults with inbox := [] } := by
  obtain ⟨n, g, h⟩ := noteFlash_gb external (advanceTo (tickCount (faultTick s + 1)) s)
  rw [atNextTick, h]
  rfl

theorem atNextTick_gb (h : ∀ e ∈ external, e.src ≠ 9) : (atNextTick external s).gb = s.gb := by
  rw [atNextTick, noteFlash_other h]
  rfl

end

/-- Settles O14: the grid is arithmetic of the quotient 25 n / 768; FAULT_EVENT moves time to the next tick (log entry 1) and runs it there. -/
theorem faultTickGrid : Obligations.FaultTickGrid := by
  intro k n e s
  obtain ⟨hlow, hhigh⟩ := tickCount_bounds k
  refine ⟨(le_faultTick_iff _ _).trans (tickCount_le_iff _ _).symm, hlow, hhigh, faultTick_grid n s, rfl, fun hu ha => ?_⟩
  have hm : e ∈ arrivals [e] s := mem_arrivals (List.mem_singleton_self e) ha
  refine ⟨_, _, exec_faultEvent hu (List.ne_nil_of_mem hm), hm, atNextTick_now, ?_, ?_, atNextTick_sys, fun h9 => atNextTick_gb ?_⟩
  · rw [atNextTick_now]
    exact now_lt_nextTick s
  · rw [atNextTick_faults]
  · intro x hx
    rw [List.mem_singleton.mp hx]
    exact h9

end Sys2Proof.Proofs
end

/-! # The settings of sensors and fault sources -/
section
namespace Sys2Proof.Proofs

open Sys2Proof Sys2Proof.Machine Sys2Proof.Safety Sys2Proof.Laws

/-! ## One source after a change of one -/

theorem faultSrc_modFault_same {n : Nat} (f : FaultSrc → FaultSrc) (s : State) (h : n < 512) : faultSrc n (modFault n f s) = f (faultSrc n s) :=
  nth_upd_same _ _ _ _ h

theorem faultSrc_modFault_ne {n k : Nat} (f : FaultSrc → FaultSrc) (s : State) (h : n ≠ k) : faultSrc n (modFault k f s) = faultSrc n s :=
  nth_upd_ne _ _ _ _ _ h

section
variable {d : Desc} {s : State}

/-! ## THERMAL_CONFIGURE and SENSOR_MAP_SET -/

/-- Parameters that a sensor takes at its next update. -/
def handed (p : SensorParams) (v : Sensor) : Sensor := { v with next := some p }

/-- Parameters handed to every sensor of a list. -/
def handSensors (p : SensorParams) (l : List Nat) (s : State) : State := l.foldl (fun s n => modSensor n (handed p) s) s

theorem handSensors_thermal (p : SensorParams) (l : List Nat) (s : State) : handSensors p l s = { s with thermal := (handSensors p l s).thermal } :=
  List.foldlRecOn (motive := fun t : State => t = { s with thermal := t.thermal }) l _ rfl
    (fun _ ht _ _ => (congrArg (modSensor _ _) ht).trans rfl)

theorem handSensors_named {p : SensorParams} {l : List Nat} {n : Nat} (hn : n < 32) (h : n ∈ l) : (sensor n (handSensors p l s)).next = some p := by
  refine foldl_reaches (fun t => (sensor n t).next = some p) h (fun t => ?_) (fun _ k ht => ?_)
  · exact congrArg Sensor.next (nth_upd_same _ _ _ _ hn)
  · by_cases hk : n = k
    · exact hk ▸ congrArg Sensor.next (nth_upd_same _ _ _ _ hn)
    · exact (congrArg Sensor.next (nth_upd_ne _ _ _ _ _ hk)).trans ht

theorem handSensors_other {p : SensorParams} {l : List Nat} {n : Nat} (h : n ∉ l) : sensor n (handSensors p l s) = sensor n s :=
  List.foldlRecOn (motive := fun t => sensor n t = sensor n s) l _ rfl
    (fun _ ht _ hk => Eq.trans (nth_upd_ne _ _ _ _ _ (fun e => h (e ▸ hk))) ht)

theorem handSensors_latNext (p : SensorParams) (l : List Nat) (s : State) : (handSensors p l s).thermal.latNext = s.thermal.latNext :=
  List.foldlRecOn (motive := fun t : State => t.thermal.latNext = s.thermal.latNext) l _ rfl (fun _ ht _ _ => ht)

/-- The lateral limits that a THERMAL_CONFIGURE of the die leaves for the next update. -/
def limitsHanded (x : Desc) (s : State) : State :=
  if par x 0 1 = 0 then modThermal (fun v => { v with latNext := some (par x 14 2, par x 16 2) }) s else s

theorem effectThermalConfigure_eq (r : Running) (s : State) : effectThermalConfigure r s =
    (doneWith 0, limitsHanded r.desc (handSensors (sensorParamsOf r.desc) (namedSensors r.desc) s)) := rfl

theorem limitsHanded_thermal (x : Desc) (s : State) : limitsHanded x s = { s with thermal := (limitsHanded x s).thermal } := by
  unfold limitsHanded
  split <;> rfl

theorem sensor_limitsHanded (n : Nat) (x : Desc) (s : State) : sensor n (limitsHanded x s) = sensor n s := by
  unfold limitsHanded
  split <;> rfl

theorem latNext_limitsHanded (x : Desc) (s : State) :
    (limitsHanded x s).thermal.latNext = if par x 0 1 = 0 then some (par x 14 2, par x 16 2) else s.thermal.latNext := by
  rw [limitsHanded, apply_ite State.thermal, apply_ite Thermal.latNext]
  rfl

theorem does_thermalConfigure : Does 0x0800 checkThermalConfigure (.thermalConfigure d) d s 0 (fun t => t = { Kept s t with thermal := t.thermal } ∧
    (∀ n, n < 32 → n ∈ namedSensors (coded 0x0800 d) → (sensor n t).next = some (sensorParamsOf (coded 0x0800 d))) ∧
    (∀ n, n ∉ namedSensors (coded 0x0800 d) → sensor n t = sensor n s) ∧
    t.thermal.latNext = (if par d 0 1 = 0 then some (par d 14 2, par d 16 2) else s.thermal.latNext)) := by
  refine answers_of_effect effectThermalConfigure rfl (fun _ => rfl) (fun x _ => ?_)
  have named (n : Nat) (hn : n < 32) (h : n ∈ namedSensors (coded 0x0800 d)) :
      (sensor n (effectThermalConfigure (starting 0x0800 d s) { s with hif := x }).2).next = some (sensorParamsOf (coded 0x0800 d)) := by
    rw [effectThermalConfigure_eq, sensor_limitsHanded]
    exact handSensors_named hn h
  have other (n : Nat) (h : n ∉ namedSensors (coded 0x0800 d)) :
      sensor n (effectThermalConfigure (starting 0x0800 d s) { s with hif := x }).2 = sensor n s := by
    rw [effectThermalConfigure_eq, sensor_limitsHanded]
    exact handSensors_other h
  have limits : (effectThermalConfigure (starting 0x0800 d s) { s with hif := x }).2.thermal.latNext =
      if par d 0 1 = 0 then some (par d 14 2, par d 16 2) else s.thermal.latNext := by
    rw [effectThermalConfigure_eq, latNext_limitsHanded, handSensors_latNext]
    rfl
  have frame : (effectThermalConfigure (starting 0x0800 d s) { s with hif := x }).2 =
      { s with hif := x, thermal := (effectThermalConfigure (starting 0x0800 d s) { s with hif := x }).2.thermal } := by
    rw [effectThermalConfigure_eq, limitsHanded_thermal, handSensors_thermal]
  refine ⟨⟨_, rfl, rfl, rfl, rfl, read_of_detail_zero rfl⟩, ?_, ?_, fun _ => ⟨?_, named, other, limits⟩⟩
  · rw [frame]
  · rw [frame]
  · rw [frame]
    rfl

theorem does_sensorMapSet : Does 0x0802 checkSensorMapSet (.sensorMapSet d) d s 0 (fun t =>
    t = { Kept s t with thermal := { s.thermal with maps := upd s.thermal.maps (par d 0 1) (fun _ =>
      { ports := BitVec.ofNat 8 (par d 1 1), r25 := BitVec.ofNat 32 (par d 4 4), beta := par d 8 2, pullUp := BitVec.ofNat 32 (par d 12 4) }) } }) :=
  answers_of_effect effectSensorMapSet rfl (fun _ => rfl) (fun _ _ =>
    ⟨⟨_, rfl, rfl, rfl, rfl, read_of_detail_zero rfl⟩, rfl, rfl, fun _ => rfl⟩)

/-! ## REACTION_SET (R514, R522) -/

theorem does_reactionSet (hn : par d 0 2 < 512) : Does 0x0901 checkReactionSet (.reactionSet d) d s
    (result [(0, 1, (par d 2 1 ||| floorMask (par d 0 2) 1 : Nat)), (1, 1, (par d 3 1 ||| floorMask (par d 0 2) 2 : Nat)),
      (2, 1, (par d 4 1 ||| floorMask (par d 0 2) 3 : Nat)),
      (3, 1, ((par d 2 1 ||| floorMask (par d 0 2) 1) - par d 2 1 ||| ((par d 3 1 ||| floorMask (par d 0 2) 2) - par d 3 1) |||
        ((par d 4 1 ||| floorMask (par d 0 2) 3) - par d 4 1) : Nat))]) (fun t =>
    t = { Kept s t with faults := t.faults } ∧
    faultSrc (par d 0 2) t = { faultSrc (par d 0 2) s with masks := #v[BitVec.ofNat 8 (par d 2 1 ||| floorMask (par d 0 2) 1),
      BitVec.ofNat 8 (par d 3 1 ||| floorMask (par d 0 2) 2), BitVec.ofNat 8 (par d 4 1 ||| floorMask (par d 0 2) 3)] }) :=
  answers_of_effect effectReactionSet rfl (fun _ => rfl) (fun x _ =>
    ⟨⟨_, rfl, rfl, rfl, rfl, read_of_detail_zero rfl⟩, rfl, rfl, fun _ => ⟨rfl, faultSrc_modFault_same _ { s with hif := x } hn⟩⟩)

/-! ## FAULT_RELEASE (R502, R524) and FAULT_PARAMS_SET (R523; log entry 106) -/

/-- A source in the collector's list of what waits for its fault tick. -/
def noteDue (n : Nat) (s : State) : State :=
  { s with faults := { s.faults with due := s.faults.due.filter (· != Fin.ofNat 512 n) ++ [Fin.ofNat 512 n] } }

theorem mem_noteDue (n : Nat) (s : State) : Fin.ofNat 512 n ∈ (noteDue n s).faults.due := List.mem_append_right _ (List.mem_singleton_self _)

theorem effectFaultRelease_one {r : Running} {s : State} (ha : par r.desc 0 2 ≠ 0xFFFF) (hn : par r.desc 0 2 < 512) :
    effectFaultRelease r s =
      (doneWith (result [(0, 2, 1)]), noteDue (par r.desc 0 2) (modFault (par r.desc 0 2) (fun f => { f with releaseDue := true }) s)) := by
  have hl : releasedSources r s = [Fin.ofNat 512 (par r.desc 0 2)] := if_neg ha
  have hv : (Fin.ofNat 512 (par r.desc 0 2)).val = par r.desc 0 2 := Nat.mod_eq_of_lt hn
  have hf (a : Fin 512) : (fun n => !([a].contains n)) = (· != a) := by
    funext n
    simp [bne, beq_eq_decide]
  simp only [effectFaultRelease, hl, List.foldl_cons, List.foldl_nil, hv, hf, List.length_singleton, noteDue]
  rfl

theorem does_faultRelease (ha : par d 0 2 ≠ 0xFFFF) (hn : par d 0 2 < 512) :
    Does 0x0902 checkFaultRelease (.faultRelease d) d s (result [(0, 2, 1)]) (fun t => t = { Kept s t with faults := t.faults } ∧
      faultSrc (par d 0 2) t = { faultSrc (par d 0 2) s with releaseDue := true } ∧ Fin.ofNat 512 (par d 0 2) ∈ t.faults.due) := by
  refine answers_of_effect effectFaultRelease rfl (fun _ => rfl) (fun x _ => ?_)
  rw [effectFaultRelease_one (r := starting 0x0902 d s) ha hn]
  exact ⟨⟨_, rfl, rfl, rfl, rfl, read_of_detail_zero rfl⟩, rfl, rfl, fun b =>
    ⟨rfl, faultSrc_modFault_same _ { s with hif := x } hn, mem_noteDue _ _⟩⟩

theorem does_faultParamsSet (hn : par d 0 2 < 512) : Does 0x0903 checkFaultParamsSet (.faultParamsSet d) d s 0 (fun t =>
    t = { Kept s t with faults := t.faults } ∧ Fin.ofNat 512 (par d 0 2) ∈ t.faults.due ∧
    faultSrc (par d 0 2) t = { faultSrc (par d 0 2) s with newPar := some (faultParamsOf (coded 0x0903 d), faultTick (stepping 0x0903 d s) + 2) }) := by
  refine answers_of_effect effectFaultParamsSet rfl (fun _ => rfl) (fun x _ => ?_)
  rw [stepping_hif]
  exact ⟨⟨_, rfl, rfl, rfl, rfl, read_of_detail_zero rfl⟩, rfl, rfl, fun _ =>
    ⟨rfl, mem_noteDue _ _, faultSrc_modFault_same _ { s with hif := x } hn⟩⟩

end

/-- Settles O23: each command's effect is a change of the thermal block or of one source, past its checks. -/
theorem thermalAndFaultSettings : Obligations.ThermalAndFaultSettings := fun _ _ =>
  ⟨does_thermalConfigure, does_sensorMapSet, does_reactionSet, does_faultRelease, does_faultParamsSet⟩

end Sys2Proof.Proofs
end

/-! # What the work of a fault tick leaves of the sources -/
section
namespace Sys2Proof.Proofs

open Sys2Proof Sys2Proof.Machine Sys2Proof.Safety Sys2Proof.Laws

/-- A source without the objects that its actions have reached (R506, R509). -/
def bare (f : FaultSrc) : FaultSrc := { f with heldMute := [], heldStop := [], degraded := [] }

/-- What the actions of a fault leave alone: the sources but for the objects reached, and time. -/
def counted (s : State) : Vector FaultSrc 512 × Nat := (s.faults.srcs.map bare, s.now)

/-! ## What states of one count share -/

theorem now_of_counted {s t : State} (h : counted t = counted s) : t.now = s.now := congrArg Prod.snd h

theorem nth_counted (n : Nat) (s : State) : nth (counted s).1 n (bare (FaultSrc.reset 511)) = bare (faultSrc n s) := nth_map _ _ _ _

theorem bare_of_counted {s t : State} (h : counted t = counted s) (n : Nat) : bare (faultSrc n t) = bare (faultSrc n s) := by
  rw [← nth_counted, h, nth_counted]

/-! ## Branches, loops and changes of one part -/

theorem counted_ite (p : Prop) [Decidable p] (s t : State) : counted (if p then s else t) = if p then counted s else counted t := apply_ite counted p s t

theorem counted_foldl {α : Type} (f : State → α → State) (l : List α) (s : State) (h : ∀ s a, counted (f s a) = counted s) :
    counted (l.foldl f s) = counted s :=
  List.foldlRecOn (motive := fun t => counted t = counted s) l f rfl (fun t ht a _ => (h t a).trans ht)

theorem counted_with_sys (s : State) (x : System) : counted { s with sys := x } = counted s := rfl
theorem counted_with_gb (s : State) (x : Guestbook) : counted { s with gb := x } = counted s := rfl
theorem counted_with_dbg (s : State) (x : Debug) : counted { s with dbg := x } = counted s := rfl
theorem counted_with_compat (s : State) (x : Compat) : counted { s with compat := x } = counted s := rfl
theorem counted_with_protWait (s : State) (x : List ProtTrigger) : counted { s with protWait := x } = counted s := rfl

@[simp] theorem counted_modPort (p : Fin 8) (f : PortState → PortState) (s : State) : counted (modPort p f s) = counted s := rfl
@[simp] theorem counted_modDir (c : Fin 64) (d : Dir) (f : Direction → Direction) (s : State) : counted (modDir c d f s) = counted s := rfl
@[simp] theorem counted_modGain (c : Fin 64) (d : Dir) (f : GainState → GainState) (s : State) : counted (modGain c d f s) = counted s := rfl
@[simp] theorem counted_modStab (c : Fin 64) (d : Dir) (f : Stability → Stability) (s : State) : counted (modStab c d f s) = counted s := rfl
@[simp] theorem counted_modGq (c : Fin 64) (d : Dir) (f : GqDir → GqDir) (s : State) : counted (modGq c d f s) = counted s := rfl
@[simp] theorem counted_modRail (r : Fin 10) (f : Rail → Rail) (s : State) : counted (modRail r f s) = counted s := rfl
@[simp] theorem counted_modPhase (p : Fin 16) (f : Phase → Phase) (s : State) : counted (modPhase p f s) = counted s := rfl
@[simp] theorem counted_modLoop (l : Nat) (f : Loop → Loop) (s : State) : counted (modLoop l f s) = counted s := rfl
@[simp] theorem counted_modTwin (f : Twin → Twin) (s : State) : counted (modTwin f s) = counted s := rfl
@[simp] theorem counted_raise (n obj detail : Nat) (s : State) : counted (raise n obj detail s) = counted s := rfl
@[simp] theorem counted_writeCheckpoint (s : State) : counted (writeCheckpoint s) = counted s := rfl
@[simp] theorem counted_setParked (n : Fin 512) (on : Bool) (s : State) : counted (setParked n on s) = counted s := rfl

/-- A change of a source that only the objects reached tell. -/
theorem counted_modFault {n : Nat} {f : FaultSrc → FaultSrc} (s : State) (h : ∀ x, bare (f x) = bare x) : counted (modFault n f s) = counted s :=
  Prod.ext (map_upd_same _ _ _ _ h) rfl

/-! ## Records and messages -/

@[simp] theorem counted_postEvent (code severity source : Nat) (bytes : List Byte) (s : State) :
    counted (postEvent code severity source bytes s) = counted s := by
  rw [postEvent_hif]
  rfl

@[simp] theorem counted_logRecord (cls severity source code : Nat) (bytes : List Byte) (events : List EventRec) (s : State) :
    counted (logRecord cls severity source code bytes events s) = counted s := by
  obtain ⟨x, y, h⟩ := logRecord_records cls severity source code bytes events s
  rw [h]
  rfl

@[simp] theorem counted_gbCollector (g : GbEntry) (s : State) : counted (gbCollector g s) = counted s := by
  simp only [gbCollector, counted_ite, counted_with_gb, ite_self]

@[simp] theorem counted_protRecord (code obj ch dir prt step reason : Nat) (i : ProtInfo) (s : State) :
    counted (protRecord code obj ch dir prt step reason i s) = counted s := by
  simp only [protRecord, counted_ite, counted_logRecord, counted_with_protWait, ite_self]

@[simp] theorem counted_dirRecord (code : Nat) (c : Fin 64) (d : Dir) (step reason : Nat) (i : ProtInfo) (s : State) :
    counted (dirRecord code c d step reason i s) = counted s := counted_protRecord _ _ _ _ _ _ _ _ _

@[simp] theorem counted_portRecord (code : Nat) (p : Fin 8) (step reason : Nat) (i : ProtInfo) (s : State) :
    counted (portRecord code p step reason i s) = counted s := counted_protRecord _ _ _ _ _ _ _ _ _

@[simp] theorem counted_flushProt (s : State) : counted (flushProt s) = counted s := counted_foldl _ _ _ (fun _ _ => counted_logRecord _ _ _ _ _ _ _)

@[simp] theorem counted_powerRecord (old new : PowerState) (cause writer : Nat) (s : State) :
    counted (powerRecord old new cause writer s) = counted s := by
  simp only [powerRecord, dropScan, counted_ite, counted_with_dbg, counted_logRecord, ite_self]

/-- A frame goes out by its link, where one can be sent. -/
theorem counted_sendFrame (l : Nat) (f : ObxFrame) (s : State) : counted ((sendFrame l f s).getD s) = counted s := by
  unfold sendFrame
  split <;> rfl

@[simp] theorem counted_sendTwin (m : ControlMsg) (s : State) : counted (sendTwin m s) = counted s := counted_sendFrame _ _ _

@[simp] theorem counted_tellSplit (c : Fin 64) (d : Dir) (s : State) : counted (tellSplit c d s) = counted s := by
  have hc (a : Nat) (m : ControlMsg) (t : State) : counted (sendControl a m t) = counted t := by
    obtain ⟨l, h⟩ := sendControl_links a m t
    rw [h]
    rfl
  simp only [tellSplit, counted_ite, hc, ite_self]

@[simp] theorem counted_answerMeasure (c : Fin 64) (d : Dir) (s : State) : counted (answerMeasure c d s) = counted s := by
  unfold answerMeasure
  split <;> rfl

@[simp] theorem counted_answerRing (r : Fin 10) (ringOf : Option (Fin 22)) (results : List Int) (s : State) :
    counted (answerRing r ringOf results s) = counted s := by
  cases ringOf <;> rfl

/-! ## The stability machine (R193-R207) -/

section
variable (c : Fin 64) (d : Dir) (s : State)

theorem counted_setStability (m : Stability) : counted (setStability c d m s) = counted s := by
  simp only [setStability, counted_ite, counted_postEvent, counted_tellSplit, counted_modStab, ite_self]

theorem counted_enterBackoff (ceiling : Int) : counted (enterBackoff c d ceiling s) = counted s := by
  simp only [enterBackoff, enterMarginLost, counted_ite, counted_raise, counted_setStability, counted_answerMeasure, ite_self]

theorem counted_settleWatch : counted (settleWatch c d s) = counted s := by
  simp only [settleWatch, watchNet, watchState, counted_ite, counted_setStability, counted_enterBackoff, counted_dirRecord, counted_with_compat,
    counted_modGq, ite_self]

theorem counted_enterClimb (ceiling : Int) : counted (enterClimb c d ceiling s) = counted s := counted_setStability c d s _

theorem counted_settleNative : counted (settleNative c d s) = counted s := by
  simp only [settleNative]
  split <;> simp only [counted_ite, counted_enterBackoff, counted_setStability, counted_enterClimb, ite_self]

theorem counted_newTarget : counted (newTarget c d s) = counted s := by
  simp only [newTarget, settle, counted_ite, counted_settleWatch, counted_settleNative, counted_modStab, ite_self]

theorem counted_refreshK : counted (refreshK c d s) = counted s := rfl

theorem counted_unfreeze : counted (unfreeze c d s) = counted s := by
  simp only [unfreeze, counted_ite, counted_newTarget, counted_enterClimb, counted_modStab, counted_refreshK, ite_self]

@[simp] theorem counted_freezeFrom (was : Bool) : counted (freezeFrom was c d s) = counted s := by
  simp only [freezeFrom, counted_ite, counted_unfreeze, counted_modStab, ite_self]

/-! ## Mutes of directions and holds (R254, R509) -/

@[simp] theorem counted_addMute (reason : Nat) (i : ProtInfo) : counted (addMute c d reason i s) = counted s := by
  simp only [addMute, legacyMute, counted_ite, counted_freezeFrom, counted_modGq, counted_with_compat, counted_dirRecord, counted_modGain, ite_self]

@[simp] theorem counted_dropMute (reason : Nat) (i : ProtInfo) : counted (dropMute c d reason i s) = counted s := by
  simp only [dropMute, counted_ite, counted_freezeFrom, counted_dirRecord, counted_modGain, ite_self]

@[simp] theorem counted_endFaultMute : counted (endFaultMute c d s) = counted s := by
  simp only [endFaultMute, counted_ite, counted_dropMute, ite_self]

end

section
variable (s : State)

@[simp] theorem counted_refreshHolds : counted (refreshHolds s) = counted s := by
  have hn (c : Fin 64) (d : Dir) (t : State) : counted (noteHolds c d t) = counted t := rfl
  simp only [refreshHolds, counted_foldl, counted_ite, counted_freezeFrom, counted_modDir, hn, implies_true, ite_self]

@[simp] theorem counted_refreshPortStops : counted (refreshPortStops s) = counted s := by
  simp only [refreshPortStops, counted_refreshHolds, counted_foldl, counted_ite, counted_addMute, counted_dropMute, implies_true, ite_self]

@[simp] theorem counted_refreeze (was : List ((Fin 64 × Dir) × Bool)) : counted (refreeze was s) = counted s :=
  counted_foldl _ _ _ (fun _ _ => counted_freezeFrom _ _ _ _)

/-! ## Rails -/

@[simp] theorem counted_setRailState (r : Fin 10) (v : RailState) (source : Nat) : counted (setRailState r v source s) = counted s := by
  simp only [setRailState, counted_ite, counted_postEvent, counted_modRail, ite_self]

@[simp] theorem counted_dropWaits (r : Fin 10) (results : List Int) : counted (dropWaits r results s) = counted s := by
  simp only [dropWaits, counted_modRail, counted_answerRing]

@[simp] theorem counted_beginRailStop (r : Fin 10) : counted (beginRailStop r s) = counted s := by
  simp only [beginRailStop, counted_ite, counted_setRailState, counted_dropWaits, ite_self]

@[simp] theorem counted_stopGroup (r : Fin 10) : counted (stopGroup r s) = counted s := counted_foldl _ _ _ (fun t k => counted_beginRailStop t k)

@[simp] theorem counted_stopPortRails : counted (stopPortRails s) = counted s := by
  simp only [stopPortRails, counted_foldl, counted_stopGroup, counted_with_sys, implies_true]

@[simp] theorem counted_phasesOn (r : Fin 10) : counted (phasesOn r s) = counted s := by
  rw [phasesOn_supply]
  rfl

@[simp] theorem counted_beginSoftStart (r : Fin 10) : counted (beginSoftStart r s) = counted s := by
  simp only [beginSoftStart, startLoop, counted_ite, counted_modLoop, counted_modRail, counted_phasesOn, counted_setRailState, ite_self]

/-! ## Port stops, orderly stops and restarts (R255, R256, R570-R572) -/

@[simp] theorem counted_beginStop (portCode : Nat) : counted (beginStop portCode s) = counted s := by
  simp only [beginStop, counted_stopPortRails, counted_flushProt, counted_refreshPortStops, counted_foldl, counted_ite, counted_portRecord,
    counted_modPort, implies_true, ite_self]

@[simp] theorem counted_enterStopped : counted (enterStopped s) = counted s := by
  simp only [enterStopped, counted_refreeze, counted_with_sys]

@[simp] theorem counted_orderlyStop (reason : Nat) (src : Option (Fin 512)) (writer : Nat) : counted (orderlyStop reason src writer s) = counted s := by
  simp only [orderlyStop, counted_ite, counted_enterStopped, counted_writeCheckpoint, counted_powerRecord, counted_beginStop, counted_protRecord,
    counted_with_sys, ite_self]

@[simp] theorem counted_checkPorts : counted (checkPorts s) = counted s := by
  simp only [checkPorts, counted_ite, counted_orderlyStop, ite_self]

@[simp] theorem counted_legacyStop (p : Fin 8) (reason : Nat) : counted (legacyStop p reason s) = counted s := by
  simp only [legacyStop]
  split
  · rfl
  · split
    · exact counted_foldl _ _ _ (fun _ _ => rfl)
    · rfl

@[simp] theorem counted_stopPort (p : Fin 8) (reason : Nat) (i : ProtInfo) : counted (stopPort p reason i s) = counted s := by
  simp only [stopPort, counted_ite, counted_checkPorts, counted_refreshPortStops, counted_portRecord, counted_legacyStop, counted_modPort, ite_self]

@[simp] theorem counted_releasePort (p : Fin 8) (reason : Nat) (i : ProtInfo) : counted (releasePort p reason i s) = counted s := by
  simp only [releasePort, counted_ite, counted_refreshPortStops, counted_portRecord, counted_modPort, ite_self]

@[simp] theorem counted_restartProgress : counted (restartProgress s) = counted s := by
  unfold restartProgress
  split
  · simp only [releaseDeviceStops, counted_ite, counted_foldl, counted_powerRecord, counted_refreeze, counted_with_sys, counted_refreshPortStops,
      counted_portRecord, counted_modPort, implies_true, ite_self]
  · rfl

@[simp] theorem counted_autoRestart : counted (autoRestart s) = counted s := by
  simp only [autoRestart, beginRestart, counted_ite, counted_foldl, counted_restartProgress, counted_beginSoftStart, counted_with_sys, implies_true,
    ite_self]

/-! ## Work that moves between engines, and the pair (R305, R637) -/

@[simp] theorem counted_beginMigration (a : Fin 256) (moves : List (Segment × Fin 256)) (ringOf : Option (Fin 22)) :
    counted (beginMigration a moves ringOf s) = counted s :=
  counted_foldl _ _ _ (fun _ _ => rfl)

@[simp] theorem counted_relieve (e : Fin 256) : counted (relieve e s) = counted s := by
  simp only [relieve]
  split
  · rfl
  · split
    · rfl
    · split <;> simp only [counted_ite, counted_beginMigration, counted_postEvent, counted_raise, ite_self]

@[simp] theorem counted_relieveWing (w : Fin 16) : counted (relieveWing w s) = counted s := by
  simp only [relieveWing]
  split
  · rfl
  · split
    · exact counted_beginMigration _ _ _ _
    · rfl

@[simp] theorem counted_respareWing (w : Fin 16) : counted (respareWing w s) = counted s := by
  simp only [respareWing]
  split
  · rfl
  · split
    · rfl
    · split
      · rfl
      · split
        · rfl
        · split
          · exact counted_beginMigration _ _ _ _
          · rfl

@[simp] theorem counted_outputChanged (cause : Nat) : counted (outputChanged cause s) = counted s := by
  simp only [outputChanged, leaveLockstep, setTwinState, counted_ite, counted_sendTwin, counted_postEvent, counted_modTwin, ite_self]

@[simp] theorem counted_beginHandover (cause : Nat) (ringOf : Option (Fin 22)) : counted (beginHandover cause ringOf s) = counted s := by
  simp only [beginHandover, counted_ite, counted_sendTwin, counted_modTwin, ite_self]

end

end Sys2Proof.Proofs
end

/-! # Fault events and quiet periods -/
section
namespace Sys2Proof.Proofs

open Sys2Proof Sys2Proof.Machine Sys2Proof.Safety Sys2Proof.Laws

/-! ## The ladder of one source (R499) -/

theorem rank_le_three {f : FaultState} (h : f ≠ .parked) : f.rank ≤ 3 := by
  cases f
  case parked => exact absurd rfl h
  all_goals decide

theorem rank_ofRank {k : Nat} (h : k ≤ 3) : (FaultState.ofRank k).rank = k := by
  interval_cases k <;> rfl

theorem rank_pos {f : FaultState} (h : 1 ≤ f.rank) : f ≠ .clear := by
  rintro rfl
  exact absurd h (by decide)

/-- A source that has counted an event is not CLEAR and not below the state it had. -/
theorem climb_rises (t : Nat) {f : FaultSrc} (h : 1 ≤ f.par.ceiling) : f.climb t ≠ .clear ∧ f.state.rank ≤ (f.climb t).rank := by
  by_cases hp : f.state = .parked
  · rw [FaultSrc.climb, if_pos hp, hp]
    exact ⟨FaultState.noConfusion, le_refl _⟩
  · rw [FaultSrc.climb, if_neg hp]
    dsimp only
    generalize hw : (if f.par.n2 ≤ windowCount f.par.w2 t f.subs2 then 3 else if f.par.n1 ≤ windowCount f.par.w1 t f.subs1 then 2 else 1) = want
    have hlow : 1 ≤ want ∧ want ≤ 3 := by
      rw [← hw]
      split
      · decide
      · split <;> decide
    have hr := rank_le_three hp
    have he : (FaultState.ofRank (max f.state.rank (min want f.par.ceiling))).rank = max f.state.rank (min want f.par.ceiling) :=
      rank_ofRank (by omega)
    exact ⟨rank_pos (by omega), by omega⟩

/-! ## The actions of an event (R505-R507) -/

theorem counted_muteFor (n : Nat) (o : Half) (s : State) : counted (muteFor n o s) = counted s := by
  have hh (l : List Half) (t : State) : counted (modFault n (fun f => { f with heldMute := (f.heldMute ++ l).eraseDups }) t) = counted t :=
    counted_modFault _ (fun _ => rfl)
  simp only [muteFor, hh, counted_foldl, counted_addMute, implies_true]

theorem counted_stopFor (n : Nat) (o : Half) (s : State) : counted (stopFor n o s) = counted s := by
  have hh (l : List Half) (t : State) : counted (modFault n (fun f => { f with heldStop := (f.heldStop ++ l).eraseDups }) t) = counted t :=
    counted_modFault _ (fun _ => rfl)
  simp only [stopFor, hh, counted_foldl, counted_stopPort, implies_true]

theorem counted_degrade (o : Half) (s : State) : counted (degrade o s) = counted s := by
  unfold degrade
  split
  · rfl
  · split <;> simp only [counted_ite, counted_respareWing, counted_relieve, counted_relieveWing, ite_self]

/-- The device alarm that an INTERRUPT raises. -/
theorem counted_alarm (s : State) (x : Bool) (y : Compat) : counted { s with faults := { s.faults with alarm := x }, compat := y } = counted s := rfl

theorem counted_actFor (n : Nat) (o : Half) (done : Nat) (s : State) : counted (actFor n o done s) = counted s := by
  have hd (t : State) : counted (modFault n (fun f => { f with degraded := (f.degraded ++ [o]).eraseDups }) t) = counted t :=
    counted_modFault _ (fun _ => rfl)
  simp only [actFor, counted_ite, counted_beginHandover, counted_stopFor, counted_muteFor, hd, counted_degrade, counted_alarm, counted_outputChanged,
    ite_self]

theorem counted_reactTo (m : Moved) (simul first : Bool) (e : FaultEvt) (s : State) : counted (reactTo m simul first e s) = counted s := by
  simp only [reactTo, counted_gbCollector, counted_actFor]

/-! ## The work of a fault tick -/

theorem settleFaults_none (simul : Bool) {s : State} (h : s.faults.due = []) : settleFaults simul s = ([], s) := by
  simp only [settleFaults, h, List.foldl_nil, List.filter_nil]
  rw [← h]

/-- The sources as a tick's events move them. -/
def moveSources (evs : List FaultEvt) (s : State) : List Moved × State :=
  (evs.map (·.src)).eraseDups.foldl (fun v n => let w := moveSource evs n v.2; (v.1 ++ [w.1], w.2)) ([], s)

theorem counted_latchFirst (moved : List Moved) (s : State) : counted (latchFirst moved s) = counted s := by
  simp only [latchFirst]
  split
  · rfl
  · split <;> rfl

/-- Where nothing waits for the tick, its work leaves the sources as its events move them, but for the objects that their actions reach. -/
theorem counted_runTick (evs : List FaultEvt) {s : State} (h : s.faults.due = []) : counted (runTick evs s) = counted (moveSources evs s).2 := by
  simp only [runTick, settleFaults_none _ h]
  split <;> simp only [counted_orderlyStop, counted_foldl, counted_gbCollector, counted_reactTo, counted_latchFirst, implies_true, moveSources]

/-! ## FAULT_EVENT of one event -/

/-- The source of an event with the event counted. -/
def counting (e : FaultEvt) (s : State) : FaultSrc := (faultSrc e.src.val s).countEvent (faultTick s) (frameCount s) e

section
variable {e : FaultEvt} {s : State}

theorem moveSources_one : ∃ l, (moveSources [e] s).2 =
    modFault e.src.val (fun _ => { counting e s with state := (counting e s).climb (faultTick s), degraded := l }) s := by
  have hsrcs : ([e].map (·.src)).eraseDups = [e.src] := by simp [List.eraseDups_cons]
  have hmine : [e].filter (fun x => x.src == e.src) = [e] := by simp
  simp only [moveSources, hsrcs, List.foldl_cons, List.foldl_nil, moveSource, hmine]
  exact ⟨_, rfl⟩

theorem bare_runTick_one (h : s.faults.due = []) :
    bare (faultSrc e.src.val (runTick [e] s)) = bare { counting e s with state := (counting e s).climb (faultTick s) } := by
  obtain ⟨l, hl⟩ := moveSources_one (e := e) (s := s)
  rw [bare_of_counted (counted_runTick [e] h), hl, faultSrc_modFault_same _ _ e.src.isLt]
  rfl

theorem now_runTick_one (h : s.faults.due = []) : (runTick [e] s).now = s.now := by
  obtain ⟨l, hl⟩ := moveSources_one (e := e) (s := s)
  rw [now_of_counted (counted_runTick [e] h), hl]
  rfl

theorem runs_faultEvent (hu : s.sys.coreUp = true) (hi : s.faults.inbox = []) (hd : s.faults.due = []) (ha : allocated e.src.val = true)
    (hc : 1 ≤ (faultSrc e.src.val s).par.ceiling) : Runs (.faultEvent [e]) s (fun t =>
      t.now = max s.now (tickCount (faultTick s + 1)) ∧ (faultSrc e.src.val t).lastObj = e.obj ∧ (faultSrc e.src.val t).lastDetail = e.detail ∧
      (faultSrc e.src.val t).events = (faultSrc e.src.val s).events + 1 ∧ (faultSrc e.src.val t).state ≠ .clear ∧
      (faultSrc e.src.val s).state.rank ≤ (faultSrc e.src.val t).state.rank) := by
  have harr : arrivals [e] s = [e] := by simp [arrivals, hi, ha]
  have hdue : (atNextTick [e] s).faults.due = [] := by rw [atNextTick_faults, hd]
  have hsrc : faultSrc e.src.val (atNextTick [e] s) = faultSrc e.src.val s := by rw [faultSrc, atNextTick_faults, faultSrc]
  have hrun := exec_faultEvent (external := [e]) hu (by rw [harr]; exact List.cons_ne_nil e [])
  rw [harr] at hrun
  have hb := bare_runTick_one (e := e) hdue
  have hrise := climb_rises (faultTick (atNextTick [e] s)) (f := counting e (atNextTick [e] s)) (by rw [counting, hsrc]; exact hc)
  rw [counting, hsrc] at hb hrise
  have hstate := congrArg FaultSrc.state hb
  refine ⟨_, hrun, ?_, congrArg FaultSrc.lastObj hb, congrArg FaultSrc.lastDetail hb, congrArg FaultSrc.events hb,
    fun h => hrise.1 (hstate.symm.trans h), hrise.2.trans_eq (congrArg FaultState.rank hstate).symm⟩
  rw [now_runTick_one hdue, atNextTick_now, Nat.max_eq_right (now_lt_nextTick s).le]

end

/-! ## What the end of a fault state leaves of the sources (R436, R443, R509, R571) -/

section
variable (n : Nat) (s : State)

theorem counted_endActions : counted (endActions n s) = counted s := by
  have hh (t : State) : counted (modFault n (fun f => { f with heldMute := [], heldStop := [], degraded := [] }) t) = counted t :=
    counted_modFault _ (fun _ => rfl)
  simp only [endActions, counted_foldl, counted_ite, counted_endFaultMute, counted_releasePort, hh, implies_true, ite_self]

theorem counted_railFaultExit : counted (railFaultExit n s) = counted s := by
  simp only [railFaultExit, counted_foldl, counted_ite, counted_setRailState, counted_beginSoftStart, implies_true, ite_self]

theorem counted_phaseFaultExit : counted (phaseFaultExit n s) = counted s := by
  simp only [phaseFaultExit]
  split
  · rfl
  · split
    · split <;> simp only [counted_postEvent, counted_modPhase]
    · rfl

theorem counted_enterClear : counted (enterClear n s) = counted (modFault n (fun f => { f with state := .clear }) s) := by
  simp only [enterClear, counted_ite, counted_autoRestart, counted_phaseFaultExit, counted_railFaultExit, counted_endActions, ite_self]

end

/-! ## A source that leaves its fault state (R500, R501) -/

section
variable {n : Fin 512} {s : State} (simul : Bool)

/-- The history that a source keeps when it recovers. -/
def keepHistory (n : Fin 512) (s : State) : State := modFault n.val (fun f => { f with recoveries := recoveriesWith n.val s }) s

theorem counted_recover_parked (h : parks n.val s = true) :
    counted (recover simul n s) = counted (modFault n.val (fun f => { f with state := .parked }) (keepHistory n s)) := by
  simp only [recover, h, if_true, counted_gbCollector, counted_setParked, keepHistory]

theorem recover_clear (h : parks n.val s = false) : ∃ g, recover simul n s = enterClear n.val (gbCollector g (keepHistory n s)) := by
  simp only [recover, h]
  exact ⟨_, rfl⟩

/-- A source's recovery leaves the other sources, but for the objects that actions reach. -/
theorem bare_recover_ne {k : Fin 512} (hk : k ≠ n) : bare (faultSrc k.val (recover simul n s)) = bare (faultSrc k.val s) := by
  have hv : k.val ≠ n.val := fun h => hk (Fin.ext h)
  cases hp : parks n.val s with
  | true => rw [bare_of_counted (counted_recover_parked simul hp), faultSrc_modFault_ne _ _ hv, keepHistory, faultSrc_modFault_ne _ _ hv]
  | false =>
    obtain ⟨g, hg⟩ := recover_clear simul hp
    rw [hg, bare_of_counted (counted_enterClear _ _), faultSrc_modFault_ne _ _ hv, bare_of_counted (counted_gbCollector _ _), keepHistory,
      faultSrc_modFault_ne _ _ hv]

/-- A source in NOTICE does not park, and its return is no recovery. -/
theorem recover_notice (h : (faultSrc n.val s).state = .notice) : (faultSrc n.val (recover simul n s)).state = .clear ∧
    (faultSrc n.val (recover simul n s)).recoveries = (faultSrc n.val s).recoveries := by
  have hp : parks n.val s = false := by simp [parks, h]
  have hh : recoveriesWith n.val s = (faultSrc n.val s).recoveries := if_pos h
  obtain ⟨g, hg⟩ := recover_clear simul hp
  have hb : bare (faultSrc n.val (recover simul n s)) = bare { faultSrc n.val (gbCollector g (keepHistory n s)) with state := .clear } := by
    rw [hg, bare_of_counted (counted_enterClear _ _), faultSrc_modFault_same _ _ n.isLt]
  have hk : bare (faultSrc n.val (gbCollector g (keepHistory n s))) = bare { faultSrc n.val s with recoveries := recoveriesWith n.val s } := by
    rw [bare_of_counted (counted_gbCollector _ _), keepHistory, faultSrc_modFault_same _ _ n.isLt]
  exact ⟨congrArg FaultSrc.state hb, (congrArg FaultSrc.recoveries hb).trans ((congrArg FaultSrc.recoveries hk).trans hh)⟩

theorem outline_recover : outline (recover simul n s) = outline s := by
  simp only [recover, outline_ite, outline_gbCollector, outline_setParked, outline_modFault, outline_enterClear, ite_self]

end

/-! ## FAULT_QUIET_EXPIRY -/

section
variable {n : Fin 512} {s : State}

theorem settleDue_none (h : s.faults.due = []) : settleDue s = s := if_pos (by rw [h]; rfl)

theorem rests_faultQuietExpiry (hd : s.faults.due = []) (hq : quietens n s = false) : Rests (.faultQuietExpiry n) s := by
  refine congrArg Host.Outcome.next ?_
  rw [settleDue_none hd]
  exact if_pos (by simp [hq])

/-- Sources that recover one after the other. -/
def recoverAll (simul : Bool) (l : List (Fin 512)) (s : State) : State := l.foldl (fun s n => recover simul n s) s

/-- The fault tick in which a source's quiet period has passed. -/
def quietEnd (n : Fin 512) (s : State) : State := advanceTo (tickCount (faultSrc n.val s).quietTick) s

/-- The sources whose quiet periods end with that of one. -/
def quietWith (n : Fin 512) (s : State) : List (Fin 512) := quietGroup (faultSrc n.val s).quietTick (quietEnd n s)

theorem exec_faultQuietExpiry (hu : s.sys.coreUp = true) (hd : s.faults.due = []) (hq : quietens n s = true) : exec (.faultQuietExpiry n) s =
    .next (recoverAll (decide (2 ≤ (quietWith n s).length)) (quietWith n s) (quietEnd n s)) := by
  have hend : settleDue (advanceTo (tickCount (faultSrc n.val s).quietTick) s) = quietEnd n s := settleDue_none hd
  have hc : ¬ (!s.sys.coreUp || !quietens n s) = true := by simp [hu, hq]
  show execFaultQuietExpiry n s = _
  rw [execFaultQuietExpiry]
  dsimp only
  rw [settleDue_none hd, if_neg hc, hend, recoverAll, quietWith]

theorem nodup_quietGroup (t : Nat) (s : State) : (quietGroup t s).Nodup :=
  (List.filter_append_perm _ _).nodup_iff.mpr ((List.nodup_finRange 512).filter _)

theorem mem_quietWith (hq : quietens n s = true) : n ∈ quietWith n s := by
  have hm : n ∈ (List.finRange 512).filter (fun k =>
      quietens k (quietEnd n s) && (faultSrc k.val (quietEnd n s)).quietTick == (faultSrc n.val s).quietTick) :=
    List.mem_filter.mpr ⟨List.mem_finRange n, Bool.and_eq_true_iff.mpr ⟨hq, beq_self_eq_true _⟩⟩
  exact (List.filter_append_perm _ _).mem_iff.mpr hm

theorem bare_recoverAll_ne (simul : Bool) {l : List (Fin 512)} (hl : n ∉ l) (s : State) :
    bare (faultSrc n.val (recoverAll simul l s)) = bare (faultSrc n.val s) :=
  List.foldlRecOn (motive := fun t => bare (faultSrc n.val t) = bare (faultSrc n.val s)) l _ rfl
    (fun _ ht k hk => (bare_recover_ne simul (fun e : n = k => hl (e ▸ hk))).trans ht)

theorem outline_recoverAll (simul : Bool) (l : List (Fin 512)) (s : State) : outline (recoverAll simul l s) = outline s :=
  outline_foldl _ _ _ (fun _ _ => outline_recover _)

/-- Of sources that recover once each, one in NOTICE is CLEAR after it. -/
theorem recoverAll_notice (simul : Bool) {l : List (Fin 512)} (hl : l.Nodup) (hm : n ∈ l) (h : (faultSrc n.val s).state = .notice) :
    (faultSrc n.val (recoverAll simul l s)).state = .clear ∧ (faultSrc n.val (recoverAll simul l s)).recoveries = (faultSrc n.val s).recoveries := by
  obtain ⟨before, after, rfl⟩ := List.append_of_mem hm
  obtain ⟨hna, hnb⟩ : n ∉ after ∧ n ∉ before := by
    rw [List.nodup_append, List.nodup_cons] at hl
    exact ⟨hl.2.1.1, fun hb => hl.2.2 n hb n List.mem_cons_self rfl⟩
  have hsplit : recoverAll simul (before ++ n :: after) s = recoverAll simul after (recover simul n (recoverAll simul before s)) := by
    rw [recoverAll, List.foldl_append, List.foldl_cons, ← recoverAll, ← recoverAll]
  have hb := bare_recoverAll_ne simul hnb s
  have ha := bare_recoverAll_ne simul hna (recover simul n (recoverAll simul before s))
  obtain ⟨hclear, hkept⟩ := recover_notice simul ((congrArg FaultSrc.state hb).trans h)
  rw [hsplit]
  exact ⟨(congrArg FaultSrc.state ha).trans hclear, ((congrArg FaultSrc.recoveries ha).trans hkept).trans (congrArg FaultSrc.recoveries hb :)⟩

theorem runs_faultQuietExpiry (hu : s.sys.coreUp = true) (hd : s.faults.due = []) (hn : (faultSrc n.val s).state = .notice)
    (hq : quietens n s = true) : Runs (.faultQuietExpiry n) s (fun t => (faultSrc n.val t).state = .clear ∧
      (faultSrc n.val t).recoveries = (faultSrc n.val s).recoveries ∧ s.now ≤ t.now) := by
  obtain ⟨hclear, hkept⟩ := recoverAll_notice (s := quietEnd n s) (decide (2 ≤ (quietWith n s).length)) (nodup_quietGroup _ _) (mem_quietWith hq) hn
  refine ⟨_, exec_faultQuietExpiry hu hd hq, hclear, hkept, ?_⟩
  rw [now_of_outline (outline_recoverAll _ _ _)]
  exact Nat.le_max_left _ _

end

/-- Settles O50: of the work of a tick, that it leaves what the collector has counted; of a quiet period's end, that each source of the group recovers
once and leaves the others. -/
theorem faultEvents : Obligations.FaultEvents := by
  intro e n s
  exact ⟨runs_faultEvent, fun h => rests_faultEvent (.inl h), fun h => rests_faultEvent (.inr (by rw [arrivals, h]; rfl)),
    fun hu _ hd hn hq => runs_faultQuietExpiry hu hd hn hq, fun hd hn => rests_faultQuietExpiry hd (by simp [quietens, hn])⟩

end Sys2Proof.Proofs
end

/-! # A step of the block, and the Lodgers' retained bytes -/
section
namespace Sys2Proof.Proofs
open Sys2Proof Sys2Proof.Machine Sys2Proof.Safety Sys2Proof.Laws

theorem step_cons {s : State} {c : Instr} {rest : List Instr} (h : s.pending = c :: rest) : step s = exec c { s with pending := rest } := by
  unfold step
  rw [h]

theorem step_nil {s : State} (h : s.pending = []) : step s = .next (idleTick s) := by
  unfold step
  rw [h]

/-- Settles O1. -/
theorem stepRunsTheFront : Obligations.StepRunsTheFront := by
  unfold Obligations.StepRunsTheFront
  exact fun s c rest h => step_cons h

theorem idleTick_up {s : State} (h : s.sys.coreUp = true) : idleTick s = { s with now := s.now + 1 } := by
  unfold idleTick
  exact if_pos h

/-- Settles O2, by the three cases of an idle step: the core up, the core down under VAUX, and no supply at all. -/
theorem idleStepIsTimeAlone : Obligations.IdleStepIsTimeAlone := by
  unfold Obligations.IdleStepIsTimeAlone
  intro s h
  refine ⟨idleTick s, step_nil h, ?_⟩
  cases hu : s.sys.coreUp
  case true =>
    rw [idleTick_up hu]
    exact ⟨rfl, fun _ => ⟨rfl, rfl, rfl⟩, nofun, nofun⟩
  case false =>
    cases hv : s.sys.vauxValid
    case true =>
      have down : idleTick s = { s with opBase := s.opBase + (s.opFrac + 15625) / 512, opFrac := (s.opFrac + 15625) % 512 } := by
        simp [idleTick, hu, hv]
      rw [down]
      refine ⟨rfl, nofun, fun _ => rfl, fun _ _ => ?_⟩
      show 512 * (s.opBase + (s.opFrac + 15625) / 512) + (s.opFrac + 15625) % 512 = 512 * s.opBase + (s.opFrac + 15625)
      omega
    case false =>
      have off : idleTick s = s := by simp [idleTick, hu, hv]
      rw [off]
      exact ⟨rfl, nofun, fun _ => rfl, nofun⟩

/-- Settles O5. -/
theorem resetMeetsInv : Obligations.ResetMeetsInv := by
  unfold Obligations.ResetMeetsInv
  exact ⟨.inl rfl, reset_memory_wf⟩

/-- A byte outside the place written reads as before. -/
theorem readCell_writeCells_outside (bytes : List Byte) : ∀ (a k : Nat) (m : List Host.Cell), cellsFrom 0 m = true →
    (k < a ∨ a + bytes.length ≤ k) → readCell (writeCells a bytes m) k = readCell m k := by
  induction bytes with
  | nil => exact fun _ _ _ _ _ => rfl
  | cons b bs ih =>
    intro a k m hm hk
    rw [List.length_cons] at hk
    calc readCell (writeCells (a + 1) bs (writeCell a b m)) k
        = readCell (writeCell a b m) k := ih (a + 1) k _ (writeCell_cellsFrom b (Nat.zero_le _) hm) (by omega)
      _ = readCell m k := by rw [readCell_writeCell b k hm, if_neg (by omega)]

/-- What is written at a place reads back there, byte by byte. -/
theorem readCells_writeCells (bytes : List Byte) : ∀ (a : Nat) (m : List Host.Cell), cellsFrom 0 m = true →
    readCells (writeCells a bytes m) a bytes.length = bytes := by
  induction bytes with
  | nil => exact fun _ _ _ => rfl
  | cons b bs ih =>
    intro a m hm
    have hw := writeCell_cellsFrom b (Nat.zero_le a) hm
    have front : readCell (writeCells a (b :: bs) m) a = b := by
      show readCell (writeCells (a + 1) bs (writeCell a b m)) a = b
      rw [readCell_writeCells_outside bs (a + 1) a _ hw (.inl (by omega)), readCell_writeCell b a hm, if_pos rfl]
    have rest : (List.range bs.length).map (fun i => readCell (writeCells (a + 1) bs (writeCell a b m)) (a + 1 + i)) = bs :=
      ih (a + 1) _ hw
    unfold readCells
    rw [List.length_cons, List.range_succ_eq_map, List.map_cons, List.map_map, Nat.add_zero, front]
    congr 1
    calc (List.range bs.length).map ((fun i => readCell (writeCells a (b :: bs) m) (a + i)) ∘ Nat.succ)
        = (List.range bs.length).map (fun i => readCell (writeCells (a + 1) bs (writeCell a b m)) (a + 1 + i)) :=
          List.map_congr_left (fun i _ => congrArg _ (Nat.succ_add_eq_add_succ a i).symm)
      _ = bs := rest

/-- Settles O28: the read at the place written, the form, and the bytes elsewhere. -/
theorem retainedBytes : Obligations.RetainedBytes := by
  unfold Obligations.RetainedBytes
  intro a bytes m hm _
  refine ⟨readCells_writeCells bytes a m hm, writeCells_cellsFrom bytes hm, fun k hk => ?_⟩
  show [readCell (writeCells a bytes m) (k + 0)] = [readCell m (k + 0)]
  rw [Nat.add_zero, readCell_writeCells_outside bytes a k m hm hk]

end Sys2Proof.Proofs
end

/-! # What every command leaves alone but a few: the queue, the operating mode, the retained areas -/
section
namespace Sys2Proof.Proofs
open Sys2Proof Sys2Proof.Machine Sys2Proof.Safety Sys2Proof.Laws

/-- The parts of the system block that the invariant reads: the operating mode and the Lodgers' retained areas. -/
def form (x : System) : Mode × Vector (List Host.Cell) 4 := (x.mode, x.lodgers.map (·.retained))

/-- What every command leaves alone but those that end a reset, remove VAUX or write a retained area: the queue, the mode, the areas. -/
def footing (s : State) : List Instr × (Mode × Vector (List Host.Cell) 4) := (s.pending, form s.sys)

theorem form_mk (straps : Straps) (mode : Mode) (power : PowerState) (stopReason : Nat) (stopSource : Option (Fin 512)) (transition : Transition)
    (stoppedRails : BitVec 10) (rfReady autonomous : Bool) (restarts : List Nat) (abandonedRestart coreUp vauxValid : Bool)
    (startKind rfReadyMs : Nat) (resetDueTick : Option Nat) (sleepAfterS wakeHoldS : Nat) (lossSinceTick wokeTick : Option Nat) (perst wakeN : Bool)
    (l2WaitSince : Option Nat) (cfgReady : Bool) (configSkipped : Nat) (innkeeper : InnState) (restartForPatch : Bool) (bootTick bootUs : Nat)
    (patchSlot romOnly : Bool) (slotA slotB : PatchSlot) (patchFloor : Half) (lodgers : Vector Lodger 4) (npt : NightPorter) (accepted : List Desc)
    (saved sleepImage : SavedConfig) (calStore : Vector (Int × Int) 8) :
    form ⟨straps, mode, power, stopReason, stopSource, transition, stoppedRails, rfReady, autonomous, restarts, abandonedRestart, coreUp, vauxValid,
      startKind, rfReadyMs, resetDueTick, sleepAfterS, wakeHoldS, lossSinceTick, wokeTick, perst, wakeN, l2WaitSince, cfgReady, configSkipped,
      innkeeper, restartForPatch, bootTick, bootUs, patchSlot, romOnly, slotA, slotB, patchFloor, lodgers, npt, accepted, saved, sleepImage,
      calStore⟩ = (mode, lodgers.map (·.retained)) := by rfl

theorem form_eta (x : System) : (x.mode, x.lodgers.map (·.retained)) = form x := by rfl

theorem footing_mk (pending : List Instr) (now slowTicks slowAt alcAt : Nat) (protWait : List ProtTrigger) (opBase opFrac freeCtr tickets : Nat)
    (hif : HostIf) (links : Links) (chans : Vector Channel 64) (ports : Vector PortState 8) (ladder : LadderParams) (ladderNext : Option LadderParams)
    (pool : Pool) (faults : Faults) (gb : Guestbook) (sys : System) (hr : HrStore) (eng : EnginePool) (radio : Radio) (loops : LoopEngine)
    (supply : Supply) (thermal : Thermal) (fabric : Fabric) (twin : Twin) (compat : Compat) (dbg : Debug) :
    footing ⟨pending, now, slowTicks, slowAt, alcAt, protWait, opBase, opFrac, freeCtr, tickets, hif, links, chans, ports, ladder, ladderNext, pool,
      faults, gb, sys, hr, eng, radio, loops, supply, thermal, fabric, twin, compat, dbg⟩ = (pending, form sys) := by rfl

theorem footing_eta (s : State) : (s.pending, form s.sys) = footing s := by rfl

theorem footing_ite (p : Prop) [Decidable p] (s t : State) : footing (if p then s else t) = if p then footing s else footing t :=
  apply_ite footing p s t

theorem footing_either {p : Prop} [Decidable p] {a b s : State} (ha : footing a = footing s) (hb : footing b = footing s) :
    footing (if p then a else b) = footing s := by
  rw [footing_ite, ha, hb, ite_self]

theorem footing_snd_ite {α : Type} (p : Prop) [Decidable p] (x y : α × State) :
    footing (if p then x else y).2 = if p then footing x.2 else footing y.2 := apply_ite (fun v => footing v.2) p x y

theorem footing_foldl {α : Type} (f : State → α → State) (l : List α) (s : State) (h : ∀ s a, footing (f s a) = footing s) :
    footing (l.foldl f s) = footing s :=
  List.foldlRecOn (motive := fun t => footing t = footing s) l f rfl (fun t ht a _ => (h t a).trans ht)

theorem footing_foldl_snd {α β : Type} (f : β × State → α → β × State) (l : List α) (b : β) (s : State)
    (h : ∀ v a, footing (f v a).2 = footing v.2) : footing (l.foldl f (b, s)).2 = footing s :=
  List.foldlRecOn (motive := fun v => footing v.2 = footing s) l f rfl (fun v hv a _ => (h v a).trans hv)

theorem footing_coreReset (s : State) : footing (coreReset false s) = footing s := by
  refine Prod.ext rfl (Prod.ext rfl ?_)
  show (s.sys.lodgers.map _).map Lodger.retained = _
  rw [Vector.map_map]
  rfl

theorem footing_modSys (f : System → System) (s : State) : footing (modSys f s) = (s.pending, form (f s.sys)) := by rfl

theorem footing_modLodger (n : Fin 4) (f : Lodger → Lodger) (s : State) (h : ∀ x, (f x).retained = x.retained) :
    footing (modLodger n f s) = footing s :=
  Prod.ext rfl (Prod.ext rfl (map_set_same _ _ _ _ _ (h _)))

theorem footing_guarded (check : Running → State → Option Reject) (effect : Running → State → Ans × State)
    (h : ∀ r s, footing (effect r s).2 = footing s) (r : Running) (s : State) : footing (guarded check effect r s).2 = footing s := by
  unfold guarded
  split
  · rfl
  · exact h r s

/-! ## Machine/Ops -/

theorem footing_advanceTo (n : Nat) (s : State) : footing (advanceTo n s) = footing s := by rfl

theorem footing_modRing (r : Nat) (f : Machine.Ring → Machine.Ring) (s : State) : footing (modRing r f s) = footing s := by rfl

theorem footing_raiseVector (v : Nat) (s : State) : footing (raiseVector v s) = footing s := by rfl

theorem footing_coalesce (r unread : Nat) (s : State) : footing (coalesce r unread s) = footing s := by
  simp only [coalesce, footing_raiseVector, footing_modRing, footing_ite, ite_self]

theorem footing_postEntry (e : EventRec) (recorded : Bool) (seq : Word) (s : State) : footing (postEntry e recorded seq s) = footing s := by
  simp only [postEntry, footing_coalesce, footing_modRing, footing_mk, footing_eta, footing_ite, ite_self]

theorem footing_postEvent (code severity source : Nat) (bytes : List Byte) (s : State) :
    footing (postEvent code severity source bytes s) = footing s := by
  simp only [postEvent, footing_postEntry]

theorem footing_ringError (r cause : Nat) (s : State) : footing (ringError r cause s) = footing s := by
  simp only [ringError, footing_postEvent, footing_raiseVector, footing_modRing]

theorem footing_gbLose (g : GbEntry) (s : State) : footing (gbLose g s) = footing s := by
  simp only [gbLose, footing_postEntry, footing_mk, footing_eta, footing_foldl, implies_true]

theorem footing_gbIntake (g : GbEntry) (s : State) : footing (gbIntake g s) = footing s := by
  simp only [gbIntake, footing_gbLose, footing_mk, footing_eta, footing_ite, ite_self]

theorem footing_gbCollector (g : GbEntry) (s : State) : footing (gbCollector g s) = footing s := by
  simp only [gbCollector, footing_mk, footing_eta, footing_ite, ite_self]

theorem footing_logRecord (cls severity source code : Nat) (bytes : List Byte) (events : List EventRec) (s : State) :
    footing (logRecord cls severity source code bytes events s) = footing s := by
  simp only [logRecord, footing_gbIntake]

theorem footing_raise (n obj detail : Nat) (s : State) : footing (raise n obj detail s) = footing s := by rfl

theorem footing_modChan (c : Fin 64) (f : Channel → Channel) (s : State) : footing (modChan c f s) = footing s := by rfl

theorem footing_modDir (c : Fin 64) (d : Dir) (f : Direction → Direction) (s : State) : footing (modDir c d f s) = footing s := by rfl

theorem footing_modGain (c : Fin 64) (d : Dir) (f : GainState → GainState) (s : State) : footing (modGain c d f s) = footing s := by rfl

theorem footing_modStab (c : Fin 64) (d : Dir) (f : Stability → Stability) (s : State) : footing (modStab c d f s) = footing s := by rfl

theorem footing_modMeter (c : Fin 64) (d : Dir) (f : Meter → Meter) (s : State) : footing (modMeter c d f s) = footing s := by rfl

theorem footing_modPort (p : Fin 8) (f : PortState → PortState) (s : State) : footing (modPort p f s) = footing s := by rfl

theorem footing_modSource (q : Nat) (f : Source → Source) (s : State) : footing (modSource q f s) = footing s := by rfl

theorem footing_cplWrite (k : Nat) (c : Completion) (s : State) : footing (cplWrite k c s) = footing s := by
  simp only [cplWrite, footing_coalesce, footing_mk, footing_eta]

theorem footing_postCompletion (q : Nat) (c : Completion) (s : State) : footing (postCompletion q c s) = footing s := by
  simp only [postCompletion, footing_cplWrite, footing_mk, footing_eta, footing_ite, ite_self]

theorem footing_requestChange (c : Fin 64) (d : Dir) (k : EpochKind) (settings : List Setting) (eff : Option Word) (s : State) :
    footing (requestChange c d k settings eff s) = footing s := by rfl

theorem footing_takeFree (s : State) : footing (takeFree s).2 = footing s := by rfl

theorem footing_trainLink (s : State) : footing (trainLink s) = footing s := by rfl

theorem footing_logAer (s : State) : footing (logAer s) = footing s := by rfl

theorem footing_hostError (s : State) : footing (hostError s) = footing s := by rfl

/-! ## Machine/Operands -/

theorem footing_hardwareDone (q : Nat) (want : Desc → Bool) (results : List Int) (s : State) :
    footing (hardwareDone q want results s) = footing s := by rfl

/-! ## Machine/RailOps -/

theorem footing_modSupply (f : Supply → Supply) (s : State) : footing (modSupply f s) = footing s := by rfl

theorem footing_modRail (r : Fin 10) (f : Rail → Rail) (s : State) : footing (modRail r f s) = footing s := by rfl

theorem footing_modPhase (p : Fin 16) (f : Phase → Phase) (s : State) : footing (modPhase p f s) = footing s := by rfl

theorem footing_takeCapacity (s : State) : footing (takeCapacity s) = footing s := by rfl

theorem footing_setRailState (r : Fin 10) (v : RailState) (source : Nat) (s : State) : footing (setRailState r v source s) = footing s := by
  simp only [setRailState, footing_postEvent, footing_modRail, footing_ite, ite_self]

theorem footing_phasesOff (r : Fin 10) (s : State) : footing (phasesOff r s) = footing s := by
  refine footing_foldl _ _ _ (fun s x => ?_)
  simp only [footing_modPhase]

theorem footing_phasesOn (r : Fin 10) (s : State) : footing (phasesOn r s) = footing s := by
  simp only [phasesOn, footing_modPhase, footing_foldl, implies_true]

theorem footing_answerRing (r : Fin 10) (ringOf : Option (Fin 22)) (results : List Int) (s : State) :
    footing (answerRing r ringOf results s) = footing s := by
  unfold answerRing
  split <;> simp only [footing_hardwareDone]

theorem footing_dropWaits (r : Fin 10) (results : List Int) (s : State) : footing (dropWaits r results s) = footing s := by
  simp only [dropWaits, footing_modRail, footing_answerRing]

theorem footing_beginRailStop (r : Fin 10) (s : State) : footing (beginRailStop r s) = footing s := by
  simp only [beginRailStop, footing_setRailState, footing_dropWaits, footing_ite, ite_self]

theorem footing_stopGroup (r : Fin 10) (s : State) : footing (stopGroup r s) = footing s := by
  simp only [stopGroup, footing_beginRailStop, footing_foldl, implies_true]

theorem footing_stopPortRails (s : State) : footing (stopPortRails s) = footing s := by
  simp only [stopPortRails, footing_stopGroup, footing_mk, footing_eta, form_mk, form_eta, footing_foldl, implies_true]

/-! ## Machine/FabricOps -/

theorem footing_modFabric (f : Fabric → Fabric) (s : State) : footing (modFabric f s) = footing s := by rfl

theorem footing_modTwin (f : Twin → Twin) (s : State) : footing (modTwin f s) = footing s := by rfl

theorem footing_modLink (l : Nat) (f : ObxLink → ObxLink) (s : State) : footing (modLink l f s) = footing s := by rfl

theorem footing_setLink (l : Nat) (v : ObxState) (lanes : BitVec 4) (s : State) : footing (setLink l v lanes s) = footing s := by
  simp only [setLink, footing_modLink, footing_postEvent, footing_ite, ite_self]

theorem footing_sendFrame {l : Nat} {f : ObxFrame} {s t : State} (h : sendFrame l f s = some t) : footing t = footing s := by
  unfold sendFrame at h
  split at h
  · obtain rfl := Option.some.inj h
    rfl
  · cases h

theorem footing_sendFrame_getD (l : Nat) (f : ObxFrame) (s : State) : footing ((sendFrame l f s).getD s) = footing s := by
  cases h : sendFrame l f s with
  | none => rfl
  | some t => exact footing_sendFrame h

theorem footing_sendIdle (l : Nat) (nak : Bool) (s : State) : footing (sendIdle l nak s) = footing s := by
  simp only [sendIdle, footing_modLink, footing_ite, ite_self]

theorem footing_takeSlot (l : Nat) (tc : Fin 4) (s : State) : footing (takeSlot l tc s) = footing s := by rfl

theorem footing_freeSlot (l : Nat) (tc : Fin 4) (s : State) : footing (freeSlot l tc s) = footing s := by rfl

theorem footing_sendControl (a : Nat) (m : ControlMsg) (s : State) : footing (sendControl a m s) = footing s := by
  unfold sendControl
  split
  · exact footing_sendFrame_getD _ _ _
  · rfl

theorem footing_sendTwin (m : ControlMsg) (s : State) : footing (sendTwin m s) = footing s := footing_sendFrame_getD _ _ _

theorem footing_flushTwin (msgs : List ControlMsg) (s : State) : footing (flushTwin msgs s) = footing s := by
  induction msgs generalizing s with
  | nil => rfl
  | cons m rest ih =>
    unfold flushTwin
    split
    · next t h => exact (ih t).trans (footing_sendFrame h)
    · exact footing_modTwin _ _

theorem footing_queueTwin (m : ControlMsg) (s : State) : footing (queueTwin m s) = footing s := by
  simp only [queueTwin, footing_flushTwin]

theorem footing_tellSplit (c : Fin 64) (d : Dir) (s : State) : footing (tellSplit c d s) = footing s := by
  simp only [tellSplit, footing_sendControl, footing_ite, ite_self]

theorem footing_tellCal (c : Fin 64) (d : Dir) (s : State) : footing (tellCal c d s) = footing s := by
  simp only [tellCal, footing_sendControl, footing_ite, ite_self]

theorem footing_modSplit (c : Fin 64) (d : Dir) (f : SplitDir → SplitDir) (s : State) : footing (modSplit c d f s) = footing s := by rfl

theorem footing_takeSplit (c : Fin 64) (d : Dir) (s : State) : footing (takeSplit c d s) = footing s := by
  unfold takeSplit
  split <;> simp only [footing_modStab]

theorem footing_beginHandover (cause : Nat) (ringOf : Option (Fin 22)) (s : State) : footing (beginHandover cause ringOf s) = footing s := by
  simp only [beginHandover, footing_sendTwin, footing_modTwin, footing_ite, ite_self]

theorem footing_setTwinState (v : TwinState) (cause : Nat) (s : State) : footing (setTwinState v cause s) = footing s := by
  simp only [setTwinState, footing_modTwin, footing_postEvent, footing_ite, ite_self]

theorem footing_leaveLockstep (cause : Nat) (s : State) : footing (leaveLockstep cause s) = footing s := by
  simp only [leaveLockstep, footing_sendTwin, footing_setTwinState]

theorem footing_outputChanged (cause : Nat) (s : State) : footing (outputChanged cause s) = footing s := by
  simp only [outputChanged, footing_leaveLockstep, footing_ite, ite_self]

theorem footing_compareMirror (own peer : MirrorRec) (s : State) : footing (compareMirror own peer s) = footing s := by
  simp only [compareMirror, footing_modTwin, footing_sendTwin, footing_setTwinState, footing_leaveLockstep, footing_raise, footing_ite, ite_self]

theorem footing_matchMirrors (s : State) : footing (matchMirrors s) = footing s := by
  refine footing_foldl _ _ _ (fun s x => ?_)
  (repeat' split) <;> simp only [footing_compareMirror, footing_modTwin]

theorem footing_matchFulls (own : List MirrorRec) (s : State) : footing (matchFulls own s) = footing s := by
  refine footing_foldl _ _ _ (fun s x => ?_)
  (repeat' split) <;> simp only [footing_modTwin, footing_compareMirror]

theorem footing_flushMirrors (s : State) : footing (flushMirrors s) = footing s := by
  unfold flushMirrors
  split
  · rfl
  · split
    · next t h => exact (footing_modTwin _ _).trans (footing_sendFrame h)
    · rfl

theorem footing_sampleMirror (c : Fin 64) (d : Dir) (b : Block) (s : State) : footing (sampleMirror c d b s) = footing s := by
  unfold sampleMirror
  dsimp only
  split
  · exact footing_modTwin _ _
  · split
    · next t h => exact (footing_modTwin _ _).trans (footing_sendFrame h)
    · exact footing_modTwin _ _

theorem footing_mirrorBlock (c : Fin 64) (d : Dir) (b : Block) (s : State) : footing (mirrorBlock c d b s) = footing s := by
  simp only [mirrorBlock, footing_sampleMirror, footing_flushMirrors, footing_modTwin, footing_matchMirrors, footing_matchFulls, footing_ite,
    ite_self]

/-! ## Machine/Ladder -/

theorem footing_modFault (n : Nat) (f : FaultSrc → FaultSrc) (s : State) : footing (modFault n f s) = footing s := by rfl

/-! ## Machine/Records -/

theorem footing_protRecord (code obj ch dir prt step reason : Nat) (i : ProtInfo) (s : State) :
    footing (protRecord code obj ch dir prt step reason i s) = footing s := by
  simp only [protRecord, footing_logRecord, footing_mk, footing_eta, footing_ite, ite_self]

theorem footing_dirRecord (code : Nat) (c : Fin 64) (d : Dir) (step reason : Nat) (i : ProtInfo) (s : State) :
    footing (dirRecord code c d step reason i s) = footing s := by rfl

theorem footing_portRecord (code : Nat) (p : Fin 8) (step reason : Nat) (i : ProtInfo) (s : State) :
    footing (portRecord code p step reason i s) = footing s := by rfl

theorem footing_flushProt (s : State) : footing (flushProt s) = footing s := by
  simp only [flushProt, footing_logRecord, footing_mk, footing_eta, footing_foldl, implies_true]

/-! ## Machine/Stability -/

theorem footing_modGq (c : Fin 64) (d : Dir) (f : GqDir → GqDir) (s : State) : footing (modGq c d f s) = footing s := by rfl

theorem footing_watchNet (c : Fin 64) (d : Dir) (s : State) : footing (watchNet c d s) = footing s := by
  simp only [watchNet, footing_modGq, footing_dirRecord, footing_mk, footing_eta, footing_ite, ite_self]

theorem footing_setStability (c : Fin 64) (d : Dir) (m : Stability) (s : State) : footing (setStability c d m s) = footing s := by
  simp only [setStability, footing_modStab, footing_tellSplit, footing_postEvent, footing_ite, ite_self]

theorem footing_answerMeasure (c : Fin 64) (d : Dir) (s : State) : footing (answerMeasure c d s) = footing s := by
  unfold answerMeasure
  split <;> simp only [footing_hardwareDone]

theorem footing_enterMarginLost (c : Fin 64) (d : Dir) (s : State) : footing (enterMarginLost c d s) = footing s := by
  simp only [enterMarginLost, footing_answerMeasure, footing_raise, footing_setStability]

theorem footing_enterBackoff (c : Fin 64) (d : Dir) (ceiling : Int) (s : State) : footing (enterBackoff c d ceiling s) = footing s := by
  simp only [enterBackoff, footing_enterMarginLost, footing_setStability, footing_ite, ite_self]

theorem footing_enterClimb (c : Fin 64) (d : Dir) (ceiling : Int) (s : State) : footing (enterClimb c d ceiling s) = footing s := by
  simp only [enterClimb, footing_setStability]

theorem footing_refreshK (c : Fin 64) (d : Dir) (s : State) : footing (refreshK c d s) = footing s := by rfl

theorem footing_settleNative (c : Fin 64) (d : Dir) (s : State) : footing (settleNative c d s) = footing s := by
  simp only [settleNative]
  (repeat' split) <;> simp only [footing_enterBackoff, footing_setStability, footing_enterClimb]

theorem footing_watchState (c : Fin 64) (d : Dir) (v : Int) (s : State) : footing (watchState c d v s) = footing s := by
  simp only [watchState, footing_setStability]

theorem footing_settleWatch (c : Fin 64) (d : Dir) (s : State) : footing (settleWatch c d s) = footing s := by
  simp only [settleWatch, footing_watchNet, footing_enterBackoff, footing_watchState, footing_ite, ite_self]

theorem footing_watchTick (c : Fin 64) (d : Dir) (s : State) : footing (watchTick c d s) = footing s := by
  simp only [watchTick, footing_settleWatch, footing_modGq, footing_modStab, footing_watchState, footing_ite, ite_self]

theorem footing_settle (c : Fin 64) (d : Dir) (s : State) : footing (settle c d s) = footing s := by
  simp only [settle, footing_settleWatch, footing_settleNative, footing_ite, ite_self]

theorem footing_newTarget (c : Fin 64) (d : Dir) (s : State) : footing (newTarget c d s) = footing s := by
  simp only [newTarget, footing_modStab, footing_settle, footing_ite, ite_self]

theorem footing_climbTick (c : Fin 64) (d : Dir) (s : State) : footing (climbTick c d s) = footing s := by
  simp only [climbTick, footing_setStability, footing_modStab, footing_ite, ite_self]

theorem footing_stabilityTick (c : Fin 64) (d : Dir) (s : State) : footing (stabilityTick c d s) = footing s := by
  simp only [stabilityTick]
  (repeat' split) <;> simp only [footing_refreshK, footing_watchTick, footing_modStab, footing_settle, footing_climbTick]

theorem footing_unfreeze (c : Fin 64) (d : Dir) (s : State) : footing (unfreeze c d s) = footing s := by
  simp only [unfreeze, footing_refreshK, footing_modStab, footing_newTarget, footing_enterClimb, footing_ite, ite_self]

theorem footing_freezeFrom (was : Bool) (c : Fin 64) (d : Dir) (s : State) : footing (freezeFrom was c d s) = footing s := by
  simp only [freezeFrom, footing_modStab, footing_unfreeze, footing_ite, ite_self]

theorem footing_startMeasurement (c : Fin 64) (d : Dir) (pilot : Int) (searchMax : Nat) (ringOf : Option (Fin 22)) (s : State) :
    footing (startMeasurement c d pilot searchMax ringOf s) = footing s := by
  simp only [startMeasurement, footing_modDir, footing_setStability, footing_ite, ite_self]

theorem footing_oscillationMute (c : Fin 64) (d : Dir) (s : State) : footing (oscillationMute c d s) = footing s := by
  simp only [oscillationMute, footing_answerMeasure, footing_modGq, footing_setStability, footing_raise, footing_ite, ite_self]

/-! ## Machine/Protect -/

theorem footing_dropScan (old : PowerState) (s : State) : footing (dropScan old s) = footing s := by
  simp only [dropScan, footing_mk, footing_eta, footing_ite, ite_self]

theorem footing_powerRecord (old new : PowerState) (cause writer : Nat) (s : State) : footing (powerRecord old new cause writer s) = footing s := by
  simp only [powerRecord, footing_dropScan, footing_logRecord]

theorem footing_writeCheckpoint (s : State) : footing (writeCheckpoint s) = footing s := by rfl

theorem footing_refreeze (was : List ((Fin 64 × Dir) × Bool)) (s : State) : footing (refreeze was s) = footing s := by
  simp only [refreeze, footing_freezeFrom, footing_foldl, implies_true]

theorem footing_legacyMute (c : Fin 64) (d : Dir) (reason : Nat) (s : State) : footing (legacyMute c d reason s) = footing s := by
  simp only [legacyMute, footing_modGq, footing_mk, footing_eta, footing_ite, ite_self]

theorem footing_legacyStop (p : Fin 8) (reason : Nat) (s : State) : footing (legacyStop p reason s) = footing s := by
  simp only [legacyStop, footing_modGq, footing_mk, footing_eta, footing_ite, footing_foldl, implies_true, ite_self]

theorem footing_addMute (c : Fin 64) (d : Dir) (reason : Nat) (i : ProtInfo) (s : State) : footing (addMute c d reason i s) = footing s := by
  simp only [addMute, footing_modGain, footing_dirRecord, footing_freezeFrom, footing_legacyMute, footing_ite, ite_self]

theorem footing_dropMute (c : Fin 64) (d : Dir) (reason : Nat) (i : ProtInfo) (s : State) : footing (dropMute c d reason i s) = footing s := by
  simp only [dropMute, footing_modGain, footing_dirRecord, footing_freezeFrom, footing_ite, ite_self]

theorem footing_noteHolds (c : Fin 64) (d : Dir) (s : State) : footing (noteHolds c d s) = footing s := by rfl

theorem footing_refreshHolds (s : State) : footing (refreshHolds s) = footing s := by
  simp only [refreshHolds, footing_noteHolds, footing_freezeFrom, footing_modDir, footing_ite, footing_foldl, implies_true, ite_self]

theorem footing_refreshPortStops (s : State) : footing (refreshPortStops s) = footing s := by
  simp only [refreshPortStops, footing_refreshHolds, footing_addMute, footing_dropMute, footing_ite, footing_foldl, implies_true, ite_self]

theorem footing_beginStop (portCode : Nat) (s : State) : footing (beginStop portCode s) = footing s := by
  simp only [beginStop, footing_modPort, footing_portRecord, footing_stopPortRails, footing_flushProt, footing_refreshPortStops, footing_ite,
    footing_foldl, implies_true, ite_self]

theorem footing_enterStopped (s : State) : footing (enterStopped s) = footing s := by
  simp only [enterStopped, footing_refreeze, footing_mk, footing_eta, form_mk, form_eta]

theorem footing_orderlyStop (reason : Nat) (src : Option (Fin 512)) (writer : Nat) (s : State) :
    footing (orderlyStop reason src writer s) = footing s := by
  simp only [orderlyStop, footing_protRecord, footing_beginStop, footing_writeCheckpoint, footing_powerRecord, footing_enterStopped, footing_mk,
    footing_eta, form_mk, form_eta, footing_ite, ite_self]

theorem footing_checkPorts (s : State) : footing (checkPorts s) = footing s := by
  simp only [checkPorts, footing_orderlyStop, footing_ite, ite_self]

theorem footing_stopPort (p : Fin 8) (reason : Nat) (i : ProtInfo) (s : State) : footing (stopPort p reason i s) = footing s := by
  simp only [stopPort, footing_modPort, footing_checkPorts, footing_refreshPortStops, footing_portRecord, footing_legacyStop, footing_ite, ite_self]

theorem footing_releasePort (p : Fin 8) (reason : Nat) (i : ProtInfo) (s : State) : footing (releasePort p reason i s) = footing s := by
  simp only [releasePort, footing_modPort, footing_refreshPortStops, footing_portRecord, footing_ite, ite_self]

theorem footing_releaseDeviceStops (s : State) : footing (releaseDeviceStops s) = footing s := by
  simp only [releaseDeviceStops, footing_portRecord, footing_modPort, footing_refreshPortStops, footing_ite, footing_foldl, implies_true, ite_self]

theorem footing_countMute (c : Fin 64) (d : Dir) (s : State) : footing (countMute c d s) = footing s := by
  simp only [countMute, footing_modPort, footing_stopPort, footing_ite, footing_foldl, implies_true, ite_self]

theorem footing_dirReduction (c : Fin 64) (d : Dir) (reason : Nat) (binding : Bool) (i : ProtInfo) (s : State) :
    footing (dirReduction c d reason binding i s) = footing s := by
  simp only [dirReduction, footing_modGain, footing_dirRecord, footing_ite, ite_self]

theorem footing_portReduction (p : Fin 8) (reason : Nat) (binding : Bool) (i : ProtInfo) (s : State) :
    footing (portReduction p reason binding i s) = footing s := by
  simp only [portReduction, footing_modPort, footing_portRecord, footing_ite, ite_self]

theorem footing_gateClamped (writer setting op ch dir : Nat) (requested applied bound : Int) (s : State) :
    footing (gateClamped writer setting op ch dir requested applied bound s) = footing s := by
  simp only [gateClamped, footing_logRecord]

theorem footing_gateRefused (writer setting op ch dir : Nat) (requested applied bound : Int) (s : State) :
    footing (gateRefused writer setting op ch dir requested applied bound s) = footing s := by
  simp only [gateRefused, footing_logRecord]

theorem footing_gateTripped (c : Fin 64) (d : Dir) (applied bound : Int) (s : State) : footing (gateTripped c d applied bound s) = footing s := by
  simp only [gateTripped, footing_logRecord]

/-! ## Machine/Epochs -/

theorem footing_refreshCoupling (c : Fin 64) (d : Dir) (s : State) : footing (refreshCoupling c d s) = footing s := by rfl

theorem footing_reclamp (c : Fin 64) (d : Dir) (s : State) : footing (reclamp c d s) = footing s := by
  simp only [reclamp, footing_refreshK, footing_settle, footing_ite, ite_self]

theorem footing_stampSetting (ordinal : Nat) (c : Fin 64) (d : Dir) (x3 : Setting) (s : State) :
    footing (stampSetting ordinal c d x3 s) = footing s := by
  unfold stampSetting
  split <;> simp only [footing_modDir, footing_modChan, footing_ite, ite_self]

theorem footing_cancelSetting (i ordinal : Nat) (c : Fin 64) (d : Dir) (x : Setting) (s : State) :
    footing (cancelSetting i ordinal c d x s) = footing s := by
  cases x with
  | cancelParams | cancelReset | tapFraction => exact footing_modDir _ _ _ _
  | definition df tdd moved =>
    cases moved
    · rfl
    · exact footing_modDir _ _ _ _
  | _ => rfl

theorem footing_shapeSetting (c : Fin 64) (d : Dir) (x2 : Setting) (s : State) : footing (shapeSetting c d x2 s) = footing s := by
  unfold shapeSetting
  split <;> simp only [footing_modChan, footing_mk, footing_eta]

theorem footing_movedDefinition (ordinal : Nat) (c : Fin 64) (d : Dir) (df : DirDef) (moved : Bool) (s : State) :
    let s1 := modChan c (fun ch => { ch with defn := ch.defn.setDir d { ch.defn.dir d with trim := df.trim } }) s
    let s2 := refreshCoupling c d (modDir c d (fun x => { x with gainCentre := df.centre }) s1)
    footing (if moved then modDir c d (fun x =>
      { x with meter := { x.meter with iDrop := 600, cPred := some 0, newSince := some ordinal } }) s2 else s2) = footing s := by
  intro s1 s2
  have h2 : footing s2 = footing s := (footing_refreshCoupling _ _ _).trans ((footing_modDir _ _ _ _).trans (footing_modChan _ _ _))
  exact footing_either ((footing_modDir _ _ _ _).trans h2) h2

theorem footing_gainSetting (ordinal : Nat) (c : Fin 64) (d : Dir) (x : Setting) (s : State) : footing (gainSetting ordinal c d x s) = footing s := by
  cases x with
  | hostMute m => exact (footing_freezeFrom _ _ _ _).trans (footing_modDir _ _ _ _)
  | gainTarget g =>
    refine (footing_ite _ _ _).trans ?_
    rw [footing_newTarget, footing_modGain, ite_self]
  | margin p => exact (footing_reclamp _ _ _).trans (footing_modStab _ _ _ _)
  | frontEnd f => exact (footing_reclamp _ _ _).trans (footing_modGain _ _ _ _)
  | alc | powerLimit | coupling | squelch | donorRule => exact footing_modGain _ _ _ _
  | portLimits p comp tx rx => exact footing_modPort _ _ _
  | definition df tdd moved => exact (footing_reclamp _ _ _).trans (footing_movedDefinition ordinal c d df moved s)
  | cancelParams | cancelReset | tapFraction => exact (footing_reclamp _ _ _).trans (footing_refreshCoupling _ _ _)
  | _ => rfl

theorem footing_probeSetting (c : Fin 64) (d : Dir) (x2 : Setting) (s : State) : footing (probeSetting c d x2 s) = footing s := by
  unfold probeSetting
  split <;> simp only [footing_modDir]

theorem footing_versionSetting (u : KernelUnit) (x1 : Setting) (s : State) : footing (versionSetting u x1 s) = footing s := by
  unfold versionSetting
  split <;> simp only [footing_mk, footing_eta, footing_ite, ite_self]

theorem footing_unitSettings (u : KernelUnit) (p : Fin 8) (c : Fin 64) (d : Dir) (ordinal : Nat) (sets : List Setting) (s : State) :
    footing (unitSettings u p c d ordinal sets s) = footing s := by
  unfold unitSettings
  split <;> simp only [footing_versionSetting, footing_cancelSetting, footing_shapeSetting, footing_gainSetting, footing_probeSetting,
    footing_foldl, implies_true]

theorem footing_adoptLine (k : EpochKind) (u : KernelUnit) (p : Fin 8) (c : Fin 64) (d : Dir) (ordinal : Nat) (s : State) :
    footing (adoptLine k u p c d ordinal s) = footing s := by
  simp only [adoptLine, footing_modDir, footing_unitSettings, footing_ite, footing_foldl, implies_true, ite_self]

theorem footing_adopt (u : KernelUnit) (p : Fin 8) (c : Fin 64) (d : Dir) (ordinal : Nat) (s : State) :
    footing (adopt u p c d ordinal s) = footing s := by
  simp only [adopt, footing_adoptLine]

theorem footing_stampLine (k : EpochKind) (c : Fin 64) (d : Dir) (ordinal firstCount : Nat) (s : State) :
    footing (stampLine k c d ordinal firstCount s) = footing s := by
  simp only [stampLine]
  (repeat' split) <;> simp only [footing_modDir, footing_stampSetting, footing_foldl, implies_true]

theorem footing_markLeft (c : Fin 64) (d : Dir) (ordinal : Nat) (s : State) : footing (markLeft c d ordinal s) = footing s := by rfl

theorem footing_adoptRest (k : EpochKind) (c : Fin 64) (d : Dir) (s : State) : footing (adoptRest k c d s) = footing s := by
  unfold adoptRest
  split <;> simp only [footing_adoptLine, footing_ite, footing_foldl, implies_true, ite_self]

theorem footing_retireTicket (ticket : Nat) (seq : Half) (s : State) : footing (retireTicket ticket seq s) = footing s := by rfl

theorem footing_retireEpoch (k : EpochKind) (c : Fin 64) (d : Dir) (s : State) : footing (retireEpoch k c d s) = footing s := by
  unfold retireEpoch
  split <;> simp only [footing_adoptRest, footing_modDir, footing_retireTicket, footing_ite, ite_self]

/-! ## Machine/EngineOps -/

theorem footing_modEngine (e : Fin 256) (f : Engine → Engine) (s : State) : footing (modEngine e f s) = footing s := by rfl

theorem footing_modAsg (a : Fin 256) (f : Assignment → Assignment) (s : State) : footing (modAsg a f s) = footing s := by rfl

theorem footing_refreshEngines (s : State) : footing (refreshEngines s) = footing s := by
  simp only [refreshEngines, footing_mk, footing_eta]

theorem footing_buildPlan (a : Fin 256) (cls latency : Nat) (mask : BitVec 16) (p : Plan) (s : State) :
    footing (buildPlan a cls latency mask p s) = footing s := by
  simp only [buildPlan, footing_refreshEngines, footing_modAsg]

theorem footing_dropMigrations (p : Migration → Bool) (s : State) : footing (dropMigrations p s) = footing s := by
  simp only [dropMigrations, footing_modEngine, footing_refreshEngines, footing_mk, footing_eta, footing_foldl, implies_true]

theorem footing_endMigrate (m : Migration) (detail : Nat) (s : State) : footing (endMigrate m detail s) = footing s := by
  unfold endMigrate
  split <;> simp only [footing_hardwareDone]

theorem footing_supersede (a : Fin 256) (detail : Nat) (s : State) : footing (supersede a detail s) = footing s := by
  simp only [supersede, footing_endMigrate, footing_dropMigrations, footing_foldl, implies_true]

theorem footing_releaseAsg (a : Fin 256) (s : State) : footing (releaseAsg a s) = footing s := by
  simp only [releaseAsg, footing_refreshEngines, footing_modAsg, footing_supersede]

theorem footing_planTaps {c : Fin 64} {d : Dir} {taps bulk : Nat → Nat} {s t : State} (h : planTaps c d taps bulk s = .ok t) :
    footing t = footing s := by
  unfold planTaps at h
  dsimp only at h
  split at h
  · cases h
  · obtain rfl := Except.ok.inj h
    rw [footing_buildPlan, footing_ite, footing_supersede, ite_self]

/-! ## Machine/Probe -/

theorem footing_probeStep (c : Fin 64) (d : Dir) (t : Tapped) (s : State) : footing (probeStep c d t s) = footing s := by
  simp only [probeStep, footing_modDir, footing_ite, ite_self]

theorem footing_publish (n : Nat) (c : Fin 64) (d : Dir) (s : State) : footing (publish n c d s) = footing s := by
  simp only [publish, footing_modDir, footing_ite, ite_self]

theorem footing_meterTick (s : State) (e : Fin 64 × Dir) : footing (meterTick s e) = footing s := by
  simp only [meterTick, footing_publish, footing_modMeter, footing_ite, ite_self]

theorem footing_endMeasurement (c : Fin 64) (d : Dir) (s : State) : footing (endMeasurement c d s) = footing s := by
  simp only [endMeasurement, footing_modStab, footing_refreshK, footing_publish, footing_answerMeasure, footing_enterMarginLost, footing_enterClimb,
    footing_ite, ite_self]

/-! ## Machine/Cancel -/

theorem footing_planApplied (c : Fin 64) (d : Dir) (taps bulk : Nat → Nat) (s : State) :
    footing (planApplied (planTaps c d taps bulk s) s) = footing s := by
  cases h : planTaps c d taps bulk s with
  | error e => rfl
  | ok t => exact footing_planTaps h

theorem footing_effectCancelConfigure (r : Running) (s : State) : footing (effectCancelConfigure r s).2 = footing s := by
  unfold effectCancelConfigure
  rw [footing_requestChange, footing_planApplied]

theorem footing_opCancelConfigure (r : Running) (s : State) : footing (opCancelConfigure r s).2 = footing s :=
  footing_guarded _ _ footing_effectCancelConfigure _ _

theorem footing_effectCancelReset (r : Running) (s : State) : footing (effectCancelReset r s).2 = footing s := by rfl

theorem footing_opCancelReset (r : Running) (s : State) : footing (opCancelReset r s).2 = footing s :=
  footing_guarded _ _ footing_effectCancelReset _ _

theorem footing_effectCancelReadTaps (r : Running) (s : State) : footing (effectCancelReadTaps r s).2 = footing s := by rfl

theorem footing_opCancelReadTaps (r : Running) (s : State) : footing (opCancelReadTaps r s).2 = footing s :=
  footing_guarded _ _ footing_effectCancelReadTaps _ _

theorem footing_beginIsolationMeasure (r : Running) (s : State) : footing (beginIsolationMeasure r s).2 = footing s := by
  simp only [beginIsolationMeasure, footing_startMeasurement, footing_modStab, footing_snd_ite, ite_self]

theorem footing_opIsolationMeasure (r : Running) (s : State) : footing (opIsolationMeasure r s).2 = footing s := by
  unfold opIsolationMeasure
  (repeat' split) <;> simp only [footing_beginIsolationMeasure, implies_true, footing_guarded]

theorem footing_effectMarginRead (r : Running) (s : State) : footing (effectMarginRead r s).2 = footing s := by rfl

theorem footing_opMarginRead (r : Running) (s : State) : footing (opMarginRead r s).2 = footing s :=
  footing_guarded _ _ footing_effectMarginRead _ _

theorem footing_effectMarginSet (r : Running) (s : State) : footing (effectMarginSet r s).2 = footing s := by
  simp only [effectMarginSet, footing_gateClamped, footing_requestChange, footing_ite, ite_self]

theorem footing_opMarginSet (r : Running) (s : State) : footing (opMarginSet r s).2 = footing s :=
  footing_guarded _ _ footing_effectMarginSet _ _

theorem footing_effectStabilityStatus (r : Running) (s : State) : footing (effectStabilityStatus r s).2 = footing s := by rfl

theorem footing_opStabilityStatus (r : Running) (s : State) : footing (opStabilityStatus r s).2 = footing s :=
  footing_guarded _ _ footing_effectStabilityStatus _ _

theorem footing_effectProbeConfigure (r : Running) (s : State) : footing (effectProbeConfigure r s).2 = footing s := by rfl

theorem footing_opProbeConfigure (r : Running) (s : State) : footing (opProbeConfigure r s).2 = footing s :=
  footing_guarded _ _ footing_effectProbeConfigure _ _

theorem footing_execOscillationMute {c : Fin 64} {d : Dir} {firstCount : Word} {s t : State} (h : execOscillationMute c d firstCount s = .next t) :
    footing t = footing s := by
  obtain rfl := Host.Outcome.next.inj h
  simp only [footing_oscillationMute, footing_sendControl, footing_ite, ite_self]

theorem footing_execDelaySearchEnd {c : Fin 64} {d : Dir} {w : Nat} {s t : State} (h : execDelaySearchEnd c d w s = .next t) :
    footing t = footing s := by
  obtain rfl := Host.Outcome.next.inj h
  simp only [footing_modStab, footing_modDir, footing_ite, ite_self]

theorem footing_endInService (c : Fin 64) (d : Dir) (start : Nat) (s : State) : footing (endInService c d start s) = footing s := by
  simp only [endInService, footing_refreshK, footing_modStab, footing_answerMeasure, footing_ite, ite_self]

theorem footing_execMeasurementEnd {c : Fin 64} {d : Dir} {inService : Bool} {s t : State} (h : execMeasurementEnd c d inService s = .next t) :
    footing t = footing s := by
  obtain rfl := Host.Outcome.next.inj h
  split <;> simp only [footing_endMeasurement, footing_endInService, footing_ite, ite_self]

theorem footing_execMarginStale {c : Fin 64} {d : Dir} {s t : State} (h : execMarginStale c d s = .next t) : footing t = footing s := by
  obtain rfl := Host.Outcome.next.inj h
  simp only [footing_raise, footing_settle, footing_refreshK, footing_modMeter, footing_ite, ite_self]

theorem footing_execBackoffDwellExpiry {c : Fin 64} {d : Dir} {s t : State} (h : execBackoffDwellExpiry c d s = .next t) : footing t = footing s := by
  obtain rfl := Host.Outcome.next.inj h
  simp only [footing_enterClimb, footing_ite, ite_self]

theorem footing_execHoldDwellExpiry {c : Fin 64} {d : Dir} {s t : State} (h : execHoldDwellExpiry c d s = .next t) : footing t = footing s := by
  obtain rfl := Host.Outcome.next.inj h
  simp only [footing_enterClimb, footing_ite, ite_self]

theorem footing_execOscHoldoffExpiry {c : Fin 64} {d : Dir} {s t : State} (h : execOscHoldoffExpiry c d s = .next t) : footing t = footing s := by
  obtain rfl := Host.Outcome.next.inj h
  simp only [footing_startMeasurement, footing_ite, ite_self]

theorem footing_execMarginLostRetry {c : Fin 64} {d : Dir} {s t : State} (h : execMarginLostRetry c d s = .next t) : footing t = footing s := by
  obtain rfl := Host.Outcome.next.inj h
  simp only [footing_startMeasurement, footing_ite, ite_self]

/-! ## Machine/Gain -/

theorem footing_setTarget (writer op : Nat) (c : Fin 64) (d : Dir) (want : Int) (eff : Option Word) (s : State) :
    footing (setTarget writer op c d want eff s) = footing s := by
  simp only [setTarget, footing_gateClamped, footing_requestChange, footing_ite, ite_self]

theorem footing_effectGainSet (r : Running) (s : State) : footing (effectGainSet r s).2 = footing s := by
  simp only [effectGainSet, footing_setTarget, footing_snd_ite, footing_foldl, implies_true, ite_self]

theorem footing_opGainSet (r : Running) (s : State) : footing (opGainSet r s).2 = footing s :=
  footing_guarded _ _ footing_effectGainSet _ _

theorem footing_effectAlcConfigure (r : Running) (s : State) : footing (effectAlcConfigure r s).2 = footing s := by rfl

theorem footing_opAlcConfigure (r : Running) (s : State) : footing (opAlcConfigure r s).2 = footing s :=
  footing_guarded _ _ footing_effectAlcConfigure _ _

theorem footing_limitDirection (r : Running) (s : State) : footing (limitDirection r s).2 = footing s := by
  simp only [limitDirection, footing_gateClamped, footing_requestChange, footing_ite, ite_self]

theorem footing_withPort (p : Fin 8) (comp : Option Int) (tx rx : Int) (s : State) : footing (withPort p comp tx rx s) = footing s := by rfl

theorem footing_requestPort (p : Fin 8) (comp : Option Int) (tx rx : Int) (eff : Option Word) (s : State) :
    footing (requestPort p comp tx rx eff s) = footing s := by
  refine footing_foldl _ _ _ (fun s x => ?_)
  simp only [footing_requestChange]

theorem footing_limitPort (r : Running) (s : State) : footing (limitPort r s).2 = footing s := by
  simp only [limitPort, footing_gateRefused, footing_gateClamped, footing_withPort, footing_requestPort, footing_ite, footing_snd_ite, ite_self]

theorem footing_effectPowerLimitSet (r : Running) (s : State) : footing (effectPowerLimitSet r s).2 = footing s := by
  simp only [effectPowerLimitSet, footing_limitDirection, footing_limitPort, footing_snd_ite, ite_self]

theorem footing_opPowerLimitSet (r : Running) (s : State) : footing (opPowerLimitSet r s).2 = footing s :=
  footing_guarded _ _ footing_effectPowerLimitSet _ _

theorem footing_effectUlCouplingSet (r : Running) (s : State) : footing (effectUlCouplingSet r s).2 = footing s := by rfl

theorem footing_opUlCouplingSet (r : Running) (s : State) : footing (opUlCouplingSet r s).2 = footing s :=
  footing_guarded _ _ footing_effectUlCouplingSet _ _

theorem footing_effectSquelchConfigure (r : Running) (s : State) : footing (effectSquelchConfigure r s).2 = footing s := by rfl

theorem footing_opSquelchConfigure (r : Running) (s : State) : footing (opSquelchConfigure r s).2 = footing s :=
  footing_guarded _ _ footing_effectSquelchConfigure _ _

theorem footing_effectDonorLossConfigure (r : Running) (s : State) : footing (effectDonorLossConfigure r s).2 = footing s := by
  simp only [effectDonorLossConfigure, footing_gateClamped, footing_modGain, footing_ite, footing_foldl, implies_true, ite_self]

theorem footing_opDonorLossConfigure (r : Running) (s : State) : footing (opDonorLossConfigure r s).2 = footing s :=
  footing_guarded _ _ footing_effectDonorLossConfigure _ _

theorem footing_effectThresholdConfigure (r : Running) (s : State) : footing (effectThresholdConfigure r s).2 = footing s := by
  simp only [effectThresholdConfigure, footing_modGain, footing_mk, footing_eta, footing_ite, ite_self]

theorem footing_opThresholdConfigure (r : Running) (s : State) : footing (opThresholdConfigure r s).2 = footing s :=
  footing_guarded _ _ footing_effectThresholdConfigure _ _

theorem footing_effectProtectionStatus (r : Running) (s : State) : footing (effectProtectionStatus r s).2 = footing s := by rfl

theorem footing_opProtectionStatus (r : Running) (s : State) : footing (opProtectionStatus r s).2 = footing s :=
  footing_guarded _ _ footing_effectProtectionStatus _ _

theorem footing_dropHeld (obj : Half) (mute : Bool) (s : State) : footing (dropHeld obj mute s) = footing s := by rfl

theorem footing_beginProtectionRelease (r : Running) (s : State) : footing (beginProtectionRelease r s).2 = footing s := by
  simp only [beginProtectionRelease, footing_dropMute, footing_dropHeld, footing_modGain, footing_startMeasurement, footing_setStability,
    footing_releasePort, footing_ite, footing_snd_ite, footing_foldl, implies_true, ite_self]

theorem footing_opProtectionRelease (r : Running) (s : State) : footing (opProtectionRelease r s).2 = footing s := by
  unfold opProtectionRelease
  (repeat' split) <;> simp only [footing_beginProtectionRelease, implies_true, footing_guarded]

theorem footing_alcLoop (c : Fin 64) (d : Dir) (s : State) : footing (alcLoop c d s) = footing s := by
  simp only [alcLoop, footing_modGain, footing_ite, ite_self]

theorem footing_alcSupervise (c : Fin 64) (d : Dir) (s : State) : footing (alcSupervise c d s) = footing s := by
  simp only [alcSupervise]
  (repeat' split) <;> simp only [footing_modGain, footing_raise]

theorem footing_alcReductions (c : Fin 64) (d : Dir) (s : State) : footing (alcReductions c d s) = footing s := by
  simp only [alcReductions, footing_dirReduction, footing_ite, ite_self]

theorem footing_supplyStop (p : Fin 8) (s : State) : footing (supplyStop p s) = footing s := by
  simp only [supplyStop, footing_releasePort, footing_stopPort, footing_ite, ite_self]

theorem footing_compLoop (p : Fin 8) (s : State) : footing (compLoop p s) = footing s := by
  simp only [compLoop, footing_supplyStop, footing_modPort]

theorem footing_compSupervise (p : Fin 8) (s : State) : footing (compSupervise p s) = footing s := by
  unfold compSupervise
  split <;> simp only [footing_modPort, footing_raise, footing_ite, ite_self]

theorem footing_portReductions (p : Fin 8) (s : State) : footing (portReductions p s) = footing s := by
  simp only [portReductions, footing_portReduction]

theorem footing_clearTaps (s : State) : footing (clearTaps s) = footing s := by
  refine footing_foldl _ _ _ (fun s x => ?_)
  simp only [footing_modGain]

theorem footing_alcTick (s : State) : footing (alcTick s) = footing s := by
  simp only [alcTick, footing_alcReductions, footing_alcSupervise, footing_alcLoop, footing_clearTaps, footing_portReductions,
    footing_compSupervise, footing_compLoop, footing_foldl, implies_true]

theorem footing_execAlcTick {n : Nat} {s t : State} (h : execAlcTick n s = .next t) : footing t = footing s := by
  obtain rfl := Host.Outcome.next.inj h
  simp only [footing_alcTick, footing_takeCapacity, footing_advanceTo, footing_mk, footing_eta, footing_ite, ite_self]

theorem footing_execImplausibleMute {c : Fin 64} {d : Dir} {s t : State} (h : execImplausibleMute c d s = .next t) : footing t = footing s := by
  obtain rfl := Host.Outcome.next.inj h
  simp only [footing_addMute, footing_ite, ite_self]

theorem footing_donorUpdate (c : Fin 64) (s : State) : footing (donorUpdate c s) = footing s := by
  simp only [donorUpdate, footing_modGain, footing_addMute, footing_dropMute, footing_ite, ite_self]

theorem footing_nextDonorBins (s : State) (e : Fin 64 × Dir) : footing (nextDonorBins s e) = footing s := by rfl

theorem footing_execDonorUpdate {n : Nat} {s t : State} (h : execDonorUpdate n s = .next t) : footing t = footing s := by
  obtain rfl := Host.Outcome.next.inj h
  simp only [footing_nextDonorBins, footing_donorUpdate, footing_ite, footing_foldl, implies_true, ite_self]

theorem footing_execCouplingRelease {c : Fin 64} {s t : State} (h : execCouplingRelease c s = .next t) : footing t = footing s := by
  obtain rfl := Host.Outcome.next.inj h
  simp only [footing_dropMute, footing_ite, ite_self]

theorem footing_execDonorLossMute {c : Fin 64} {s t : State} (h : execDonorLossMute c s = .next t) : footing t = footing s := by
  obtain rfl := Host.Outcome.next.inj h
  simp only [footing_addMute, footing_modGain, footing_ite, ite_self]

theorem footing_execDonorReturn {c : Fin 64} {s t : State} (h : execDonorReturn c s = .next t) : footing t = footing s := by
  obtain rfl := Host.Outcome.next.inj h
  simp only [footing_dropMute, footing_ite, ite_self]

theorem footing_takeThresholds (s : State) : footing (takeThresholds s) = footing s := by
  simp only [takeThresholds]
  (repeat' split) <;> simp only [footing_modGain, footing_mk, footing_eta, footing_foldl, implies_true]

theorem footing_floorUpdate (s : State) (e : Fin 64 × Dir) : footing (floorUpdate s e) = footing s := by
  refine footing_foldl _ _ _ (fun s x => ?_)
  simp only [footing_modGain]

theorem footing_execFloorUpdate {n : Nat} {s t : State} (h : execFloorUpdate n s = .next t) : footing t = footing s := by
  obtain rfl := Host.Outcome.next.inj h
  simp only [footing_takeThresholds, footing_floorUpdate, footing_ite, footing_foldl, implies_true, ite_self]

theorem footing_execSquelchHangExpiry {c : Fin 64} {s t : State} (h : execSquelchHangExpiry c s = .next t) : footing t = footing s := by
  obtain rfl := Host.Outcome.next.inj h
  simp only [footing_modGain, footing_ite, ite_self]

theorem footing_execOverpowerMute {c : Fin 64} {d : Dir} {s t : State} (h : execOverpowerMute c d s = .next t) : footing t = footing s := by
  obtain rfl := Host.Outcome.next.inj h
  simp only [footing_modGain, footing_countMute, footing_addMute, footing_ite, ite_self]

theorem footing_execOverpowerRetry {c : Fin 64} {d : Dir} {s t : State} (h : execOverpowerRetry c d s = .next t) : footing t = footing s := by
  obtain rfl := Host.Outcome.next.inj h
  simp only [footing_dropMute, footing_modGain, footing_ite, ite_self]

theorem footing_execCompositeOver {p : Fin 8} {s t : State} (h : execCompositeOver p s = .next t) : footing t = footing s := by
  obtain rfl := Host.Outcome.next.inj h
  simp only [footing_stopPort, footing_modPort, footing_ite, ite_self]

theorem footing_execPortRetry {p : Fin 8} {s t : State} (h : execPortRetry p s = .next t) : footing t = footing s := by
  obtain rfl := Host.Outcome.next.inj h
  simp only [footing_releasePort, footing_modPort, footing_ite, ite_self]

theorem footing_execReductionEnded {obj : ReductionObject} {reason : Fin 20} {s t : State} (h : execReductionEnded obj reason s = .next t) :
    footing t = footing s := by
  obtain rfl := Host.Outcome.next.inj h
  split <;> simp only [footing_dirRecord, footing_modGain, footing_portRecord, footing_modPort, footing_ite, ite_self]

/-! ## Machine/Streams -/

theorem footing_modLinks (f : Links → Links) (s : State) : footing (modLinks f s) = footing s := by rfl

theorem footing_groupDown (g : Fin 5) (s : State) : footing (groupDown g s) = footing s := by
  simp only [groupDown, footing_modLinks, footing_raise, footing_ite, ite_self]

theorem footing_climbGroup (g : Fin 5) (s : State) : footing (climbGroup g s) = footing s := by
  unfold climbGroup
  split <;> simp only [footing_modLinks, footing_ite, ite_self]

theorem footing_alignGroup (g : Fin 5) (s : State) : footing (alignGroup g s) = footing s := by
  simp only [alignGroup, footing_modLinks, footing_ite, ite_self]

theorem footing_followGroup (g : Fin 5) (s : State) : footing (followGroup g s) = footing s := by
  simp only [followGroup, footing_groupDown, footing_climbGroup, footing_ite, ite_self]

theorem footing_execJesdLaneLockChange {lane : Fin 18} {syncHeader multiblock : Bool} {skewBlocks : Nat} {s t : State}
    (h : execJesdLaneLockChange lane syncHeader multiblock skewBlocks s = .next t) : footing t = footing s := by
  obtain rfl := Host.Outcome.next.inj h
  simp only [footing_followGroup, footing_modLinks]

theorem footing_execSysrefEdge {phase : Fin 8} {s t : State} (h : execSysrefEdge phase s = .next t) : footing t = footing s := by
  obtain rfl := Host.Outcome.next.inj h
  simp only [footing_modLinks, footing_raise, footing_ite, ite_self]

theorem footing_execSysrefArm {value : Word} {s t : State} (h : execSysrefArm value s = .next t) : footing t = footing s := by
  obtain rfl := Host.Outcome.next.inj h
  simp only [footing_modLinks, footing_ite, ite_self]

theorem footing_bringUpRx (s : State) (g : Fin 5) : footing (bringUpRx s g) = footing s := by
  simp only [bringUpRx, footing_groupDown, footing_modLinks]

theorem footing_bringUpTx (s : State) (g : Fin 4) : footing (bringUpTx s g) = footing s := by rfl

theorem footing_beginLinkConfigure (r : Running) (s : State) : footing (beginLinkConfigure r s).2 = footing s := by
  simp only [beginLinkConfigure, footing_modLinks, footing_bringUpTx, footing_bringUpRx, footing_foldl, implies_true]

theorem footing_opLinkConfigure (r : Running) (s : State) : footing (opLinkConfigure r s).2 = footing s := by
  unfold opLinkConfigure
  (repeat' split) <;> simp only [footing_beginLinkConfigure, implies_true, footing_guarded]

theorem footing_effectLinkStatus (x0 : Running) (s : State) : footing (effectLinkStatus x0 s).2 = footing s := by rfl

theorem footing_opLinkStatus (r : Running) (s : State) : footing (opLinkStatus r s).2 = footing s :=
  footing_guarded _ _ footing_effectLinkStatus _ _

theorem footing_dropGroup (old s : State) (g : Fin 4) : footing (dropGroup old s g) = footing s := by
  simp only [dropGroup, footing_groupDown, footing_modLinks, footing_ite, ite_self]

theorem footing_effectStreamConfigure (r : Running) (s : State) : footing (effectStreamConfigure r s).2 = footing s := by
  simp only [effectStreamConfigure, footing_modLinks, footing_dropGroup, footing_foldl, implies_true]

theorem footing_opStreamConfigure (r : Running) (s : State) : footing (opStreamConfigure r s).2 = footing s :=
  footing_guarded _ _ footing_effectStreamConfigure _ _

theorem footing_effectPeakLimitSet (r : Running) (s : State) : footing (effectPeakLimitSet r s).2 = footing s := by rfl

theorem footing_opPeakLimitSet (r : Running) (s : State) : footing (opPeakLimitSet r s).2 = footing s :=
  footing_guarded _ _ footing_effectPeakLimitSet _ _

/-! ## Machine/Radio -/

theorem footing_modRadio (f : Radio → Radio) (s : State) : footing (modRadio f s) = footing s := by rfl

theorem footing_modTimer (f : FrameTimer → FrameTimer) (s : State) : footing (modTimer f s) = footing s := by rfl

theorem footing_wakeCommands (opcode : Nat) (p : Running → Bool) (results : List Int) (s : State) :
    footing (wakeCommands opcode p results s) = footing s := by rfl

theorem footing_markStart (p : Fin 8) (s : State) : footing (markStart p s) = footing s := by rfl

theorem footing_holdsAfter (old s : State) : footing (holdsAfter old s) = footing s := by
  simp only [holdsAfter, footing_refreshHolds, footing_markStart, footing_ite, footing_foldl, implies_true, ite_self]

theorem footing_setFrameState (v : FrameState) (s : State) : footing (setFrameState v s) = footing s := by
  simp only [setFrameState, footing_modTimer, footing_postEvent, footing_ite, ite_self]

theorem footing_closeError (e : Int) (stage : Nat) (s : State) : footing (closeError e stage s) = footing s := by
  simp only [closeError, footing_modTimer, footing_ite, ite_self]

theorem footing_track (src : Nat) (s : State) : footing (track src s) = footing s := by rfl

theorem footing_follow (e : Int) (s : State) : footing (follow e s) = footing s := by rfl

theorem footing_frameReport (src : Nat) (at16 : Int) (ok : Bool) (s : State) : footing (frameReport src at16 ok s) = footing s := by
  simp only [frameReport]
  (repeat' split) <;> simp only [footing_modTimer, footing_refreshHolds, footing_setFrameState, footing_closeError, footing_track, footing_follow]

theorem footing_execSyncReport {src : SyncSource} {count : Word} {phase16 : Int} {s t : State} (h : execSyncReport src count phase16 s = .next t) :
    footing t = footing s := by
  obtain rfl := Host.Outcome.next.inj h
  simp only [footing_frameReport]

theorem footing_execPpsEdge {phase : Fin 8} {s t : State} (h : execPpsEdge phase s = .next t) : footing t = footing s := by
  obtain rfl := Host.Outcome.next.inj h
  simp only [footing_modTimer, footing_frameReport]

theorem footing_execHoldoverEntry {s t : State} (h : execHoldoverEntry s = .next t) : footing t = footing s := by
  obtain rfl := Host.Outcome.next.inj h
  simp only [footing_advanceTo, footing_modTimer, footing_raise, footing_setFrameState, footing_ite, ite_self]

theorem footing_execHoldoverExpiry {s t : State} (h : execHoldoverExpiry s = .next t) : footing t = footing s := by
  obtain rfl := Host.Outcome.next.inj h
  simp only [footing_advanceTo, footing_modTimer, footing_refreshHolds, footing_raise, footing_setFrameState, footing_ite, ite_self]

theorem footing_effectFrameSyncConfigure (r : Running) (s : State) : footing (effectFrameSyncConfigure r s).2 = footing s := by
  simp only [effectFrameSyncConfigure, footing_modTimer, footing_setFrameState, footing_track, footing_refreshHolds, footing_ite, ite_self]

theorem footing_opFrameSyncConfigure (r : Running) (s : State) : footing (opFrameSyncConfigure r s).2 = footing s := by
  unfold opFrameSyncConfigure
  (repeat' split) <;> simp only [footing_effectFrameSyncConfigure, implies_true, footing_guarded]

theorem footing_effectFrameStatus (x0 : Running) (s : State) : footing (effectFrameStatus x0 s).2 = footing s := by rfl

theorem footing_opFrameStatus (r : Running) (s : State) : footing (opFrameStatus r s).2 = footing s :=
  footing_guarded _ _ footing_effectFrameStatus _ _

theorem footing_effectTddPatternSet (r : Running) (s : State) : footing (effectTddPatternSet r s).2 = footing s := by
  simp only [effectTddPatternSet, footing_modRadio, footing_gateRefused, footing_requestChange, footing_snd_ite, footing_foldl, implies_true,
    ite_self]

theorem footing_opTddPatternSet (r : Running) (s : State) : footing (opTddPatternSet r s).2 = footing s :=
  footing_guarded _ _ footing_effectTddPatternSet _ _

theorem footing_modLo (n : Fin 5) (f : Lo → Lo) (s : State) : footing (modLo n f s) = footing s := by rfl

theorem footing_beginTune (n : Fin 5) (plan : Fin 256) (s : State) : footing (beginTune n plan s) = footing s := by
  simp only [beginTune, footing_refreshHolds, footing_modLo]

theorem footing_surveyLocked (s : State) : footing (surveyLocked s) = footing s := by rfl

theorem footing_execLoLock {lo : Fin 5} {s t : State} (h : execLoLock lo s = .next t) : footing t = footing s := by
  obtain rfl := Host.Outcome.next.inj h
  simp only [footing_modLo, footing_holdsAfter, footing_wakeCommands, footing_surveyLocked, footing_ite, ite_self]

theorem footing_execLoLockLoss {lo : Fin 5} {s t : State} (h : execLoLockLoss lo s = .next t) : footing t = footing s := by
  obtain rfl := Host.Outcome.next.inj h
  simp only [footing_modLo, footing_raise, footing_refreshHolds, footing_postEvent, footing_ite, ite_self]

theorem footing_effectLoPlanWrite (r : Running) (s : State) : footing (effectLoPlanWrite r s).2 = footing s := by rfl

theorem footing_opLoPlanWrite (r : Running) (s : State) : footing (opLoPlanWrite r s).2 = footing s :=
  footing_guarded _ _ footing_effectLoPlanWrite _ _

theorem footing_effectLoTune (r : Running) (s : State) : footing (effectLoTune r s).2 = footing s := by
  simp only [effectLoTune, footing_beginTune]

theorem footing_opLoTune (r : Running) (s : State) : footing (opLoTune r s).2 = footing s := by
  unfold opLoTune
  (repeat' split) <;> simp only [footing_effectLoTune, implies_true, footing_guarded]

theorem footing_setCalibrating (plan : Nat) (on : Bool) (s : State) : footing (setCalibrating plan on s) = footing s := by rfl

theorem footing_calStep (r : Running) (s : State) : footing (calStep r s).2 = footing s := by
  simp only [calStep, footing_setCalibrating, footing_modRadio, footing_modLo, footing_ite, footing_snd_ite, ite_self]

theorem footing_effectLoCalibrate (r : Running) (s : State) : footing (effectLoCalibrate r s).2 = footing s := by rfl

theorem footing_opLoCalibrate (r : Running) (s : State) : footing (opLoCalibrate r s).2 = footing s := by
  unfold opLoCalibrate
  (repeat' split) <;> simp only [footing_effectLoCalibrate, footing_calStep, implies_true, footing_guarded]

theorem footing_effectLoStatus (r : Running) (s : State) : footing (effectLoStatus r s).2 = footing s := by rfl

theorem footing_opLoStatus (r : Running) (s : State) : footing (opLoStatus r s).2 = footing s :=
  footing_guarded _ _ footing_effectLoStatus _ _

theorem footing_modTx (p : Fin 8) (f : TxPort → TxPort) (s : State) : footing (modTx p f s) = footing s := by rfl

theorem footing_effectTxEnable (r : Running) (s : State) : footing (effectTxEnable r s).2 = footing s := by
  simp only [effectTxEnable, footing_refreshHolds, footing_modTx, footing_holdsAfter, footing_snd_ite, ite_self]

theorem footing_opTxEnable (r : Running) (s : State) : footing (opTxEnable r s).2 = footing s := by
  unfold opTxEnable
  (repeat' split) <;> simp only [footing_effectTxEnable, implies_true, footing_guarded]

theorem footing_execTxEnableDeadline {port : Fin 8} {s t : State} (h : execTxEnableDeadline port s = .next t) : footing t = footing s := by
  obtain rfl := Host.Outcome.next.inj h
  split <;> simp only [footing_advanceTo, footing_hardwareDone, footing_refreshHolds, footing_modTx, footing_ite, ite_self]

theorem footing_portTransmitted (p : Fin 8) (t : Nat) (s : State) : footing (portTransmitted p t s) = footing s := by
  unfold portTransmitted
  split <;> simp only [footing_hardwareDone, footing_modTx]

theorem footing_effectFePinConfigure (r : Running) (s : State) : footing (effectFePinConfigure r s).2 = footing s := by rfl

theorem footing_opFePinConfigure (r : Running) (s : State) : footing (opFePinConfigure r s).2 = footing s :=
  footing_guarded _ _ footing_effectFePinConfigure _ _

theorem footing_modSerial (m : Fin 4) (f : SerialMaster → SerialMaster) (s : State) : footing (modSerial m f s) = footing s := by rfl

theorem footing_startEntry (m : Fin 4) (e : SerialEntry) (t : Nat) (s : State) : footing (startEntry m e t s) = footing s := by
  simp only [startEntry, footing_modSerial, footing_postEvent, footing_raise, footing_ite, ite_self]

theorem footing_execSerialTrigger {m : Fin 4} {s t : State} (h : execSerialTrigger m s = .next t) : footing t = footing s := by
  obtain rfl := Host.Outcome.next.inj h
  split <;> simp only [footing_advanceTo, footing_modSerial, footing_startEntry, footing_ite, ite_self]

theorem footing_execSerialTransactionEnd {m : Fin 4} {readData : Dword} {s t : State} (h : execSerialTransactionEnd m readData s = .next t) :
    footing t = footing s := by
  obtain rfl := Host.Outcome.next.inj h
  split
  · rfl
  · dsimp only
    split <;> simp only [footing_ite, footing_startEntry, footing_postEvent, footing_modSerial, ite_self]

theorem footing_effectSerialQueueLoad (r : Running) (s : State) : footing (effectSerialQueueLoad r s).2 = footing s := by rfl

theorem footing_opSerialQueueLoad (r : Running) (s : State) : footing (opSerialQueueLoad r s).2 = footing s :=
  footing_guarded _ _ footing_effectSerialQueueLoad _ _

theorem footing_surveyTune (s : State) : footing (surveyTune s) = footing s := by
  unfold surveyTune
  split <;> simp only [footing_beginTune, footing_modRadio]

theorem footing_surveySamples (l : List Sample) (s : State) : footing (surveySamples l s) = footing s := by
  simp only [surveySamples, footing_modRadio, footing_ite, ite_self]

theorem footing_execSurveyDwellEnd {ended next : Nat} {s t : State} (h : execSurveyDwellEnd ended next s = .next t) : footing t = footing s := by
  obtain rfl := Host.Outcome.next.inj h
  (repeat' split) <;> simp only [footing_advanceTo, footing_surveyTune, footing_modRadio, footing_ite, ite_self]

theorem footing_effectSurveyConfigure (r : Running) (s : State) : footing (effectSurveyConfigure r s).2 = footing s := by
  simp only [effectSurveyConfigure, footing_modRadio, footing_surveyTune, footing_ite, ite_self]

theorem footing_opSurveyConfigure (r : Running) (s : State) : footing (opSurveyConfigure r s).2 = footing s :=
  footing_guarded _ _ footing_effectSurveyConfigure _ _

theorem footing_effectSurveyRead (x0 : Running) (s : State) : footing (effectSurveyRead x0 s).2 = footing s := by rfl

theorem footing_opSurveyRead (r : Running) (s : State) : footing (opSurveyRead r s).2 = footing s :=
  footing_guarded _ _ footing_effectSurveyRead _ _

theorem footing_modCoex (x : Fin 2) (f : Coex → Coex) (s : State) : footing (modCoex x f s) = footing s := by rfl

theorem footing_endGrant (x : Fin 2) (s : State) : footing (endGrant x s) = footing s := by
  simp only [endGrant, footing_refreshHolds, footing_modCoex]

theorem footing_effectCoexConfigure (r : Running) (s : State) : footing (effectCoexConfigure r s).2 = footing s := by
  simp only [effectCoexConfigure, footing_endGrant, footing_refreshHolds, footing_modCoex, footing_ite, ite_self]

theorem footing_opCoexConfigure (r : Running) (s : State) : footing (opCoexConfigure r s).2 = footing s :=
  footing_guarded _ _ footing_effectCoexConfigure _ _

theorem footing_coexYield (x : Fin 2) (s : State) : footing (coexYield x s) = footing s := by
  simp only [coexYield, footing_refreshHolds, footing_modCoex, footing_ite, ite_self]

theorem footing_execCoexReqRise {x : Fin 2} {pri : Bool} {s t : State} (h : execCoexReqRise x pri s = .next t) : footing t = footing s := by
  obtain rfl := Host.Outcome.next.inj h
  simp only [footing_modCoex, footing_coexYield, footing_ite, ite_self]

theorem footing_execCoexGrant {x : Fin 2} {s t : State} (h : execCoexGrant x s = .next t) : footing t = footing s := by
  obtain rfl := Host.Outcome.next.inj h
  simp only [footing_refreshHolds, footing_modCoex, footing_coexYield, footing_ite, ite_self]

theorem footing_execCoexDeferExpiry {x : Fin 2} {s t : State} (h : execCoexDeferExpiry x s = .next t) : footing t = footing s := by
  obtain rfl := Host.Outcome.next.inj h
  simp only [footing_coexYield, footing_modCoex, footing_advanceTo, footing_ite, ite_self]

theorem footing_execCoexReqFall {x : Fin 2} {s t : State} (h : execCoexReqFall x s = .next t) : footing t = footing s := by
  obtain rfl := Host.Outcome.next.inj h
  simp only [footing_modCoex, footing_endGrant, footing_ite, ite_self]

theorem footing_execCoexLimit {x : Fin 2} {byDuty : Bool} {s t : State} (h : execCoexLimit x byDuty s = .next t) : footing t = footing s := by
  obtain rfl := Host.Outcome.next.inj h
  simp only [footing_advanceTo, footing_postEvent, footing_modCoex, footing_endGrant, footing_ite, ite_self]

theorem footing_execCoexAct {x : Fin 2} {level : Bool} {s t : State} (h : execCoexAct x level s = .next t) : footing t = footing s := by
  obtain rfl := Host.Outcome.next.inj h
  rfl

/-! ## Machine/Channels -/

theorem footing_gateInitialGain (w op n : Nat) (v : ChanDef) (s : State) : footing (gateInitialGain w op n v s) = footing s := by
  simp only [gateInitialGain, footing_gateClamped, footing_ite, footing_foldl, implies_true, ite_self]

theorem footing_buildChannel (c : Fin 64) (v : ChanDef) (s : State) : footing (buildChannel c v s) = footing s := by
  simp only [buildChannel, footing_buildPlan, footing_modAsg, footing_foldl, implies_true]

theorem footing_makeChannel (c : Fin 64) (v : ChanDef) (s : State) : footing (makeChannel c v s) = footing s := by
  simp only [makeChannel, footing_buildChannel, footing_modChan, footing_refreshHolds, footing_refreshPortStops, footing_mk, footing_eta]

theorem footing_tellPeers (l : List Nat) (m : ControlMsg) (s : State) : footing (tellPeers l m s) = footing s := by
  simp only [tellPeers, footing_sendControl, footing_foldl, implies_true]

theorem footing_beginChannelCreate (r : Running) (s : State) : footing (beginChannelCreate r s).2 = footing s := by
  simp only [beginChannelCreate, footing_gateInitialGain, footing_makeChannel]

theorem footing_askPeers (r : Running) (peers : List Nat) (s : State) : footing (askPeers r peers s).2 = footing s := by
  simp only [askPeers, footing_tellPeers, footing_modChan]

theorem footing_recordRefusals (w op n : Nat) (v : ChanDef) (s : State) : footing (recordRefusals w op n v s) = footing s := by
  simp only [recordRefusals, footing_gateRefused, footing_foldl, implies_true]

theorem footing_refuseChannel (x : Desc) (e : Reject) (s : State) : footing (refuseChannel x e s).2 = footing s := by
  simp only [refuseChannel, footing_recordRefusals, footing_ite, ite_self]

theorem footing_endPeers (r : Running) (s : State) : footing (endPeers r s).2 = footing s := by
  simp only [endPeers]
  (repeat' split) <;> simp only [footing_tellPeers, footing_modChan, footing_refuseChannel, footing_beginChannelCreate]

theorem footing_opChannelCreate (r : Running) (s : State) : footing (opChannelCreate r s).2 = footing s := by
  simp only [opChannelCreate]
  (repeat' split) <;> simp only [footing_refuseChannel, footing_beginChannelCreate, footing_askPeers, footing_endPeers]

theorem footing_effectChannelModify (r : Running) (s : State) : footing (effectChannelModify r s).2 = footing s := by
  simp only [effectChannelModify, footing_requestChange, footing_snd_ite, footing_foldl, implies_true, ite_self]

theorem footing_opChannelModify (r : Running) (s : State) : footing (opChannelModify r s).2 = footing s := by
  unfold opChannelModify
  split <;> simp only [footing_refuseChannel, footing_effectChannelModify]

theorem footing_answerStamped (c : Fin 64) (s : State) (d : Dir) : footing (answerStamped c s d) = footing s := by
  refine footing_foldl _ _ _ (fun s x => ?_)
  (repeat' split) <;> simp only [footing_retireTicket]

theorem footing_removeChannel (c : Fin 64) (s : State) : footing (removeChannel c s) = footing s := by
  simp only [removeChannel, footing_answerStamped, footing_modChan, footing_releaseAsg, footing_tellPeers, footing_wakeCommands, footing_mk,
    footing_eta, footing_ite, footing_foldl, implies_true, ite_self]

theorem footing_startRemoval (c : Fin 64) (s : State) : footing (startRemoval c s) = footing s := by
  simp only [startRemoval, footing_modChan, footing_removeChannel, footing_ite, ite_self]

theorem footing_beginChannelRemove (r : Running) (s : State) : footing (beginChannelRemove r s).2 = footing s := by
  simp only [beginChannelRemove, footing_startRemoval, footing_tellPeers, footing_snd_ite, ite_self]

theorem footing_opChannelRemove (r : Running) (s : State) : footing (opChannelRemove r s).2 = footing s := by
  unfold opChannelRemove
  (repeat' split) <;> simp only [footing_beginChannelRemove, implies_true, footing_guarded]

theorem footing_arriveAsk (a : Nat) (c : Fin 64) (bytes : List Byte) (s : State) : footing (arriveAsk a c bytes s) = footing s := by
  simp only [arriveAsk]
  (repeat' split) <;> simp only [footing_sendControl, footing_makeChannel]

theorem footing_arriveAnswer (a : Nat) (c : Fin 64) (status detail : Nat) (s : State) : footing (arriveAnswer a c status detail s) = footing s := by
  simp only [arriveAnswer, footing_modChan, footing_wakeCommands, footing_ite, ite_self]

theorem footing_arriveDrop (c : Fin 64) (s : State) : footing (arriveDrop c s) = footing s := by
  simp only [arriveDrop, footing_startRemoval, footing_ite, ite_self]

theorem footing_arriveGone (c : Fin 64) (s : State) : footing (arriveGone c s) = footing s := by
  simp only [arriveGone, footing_removeChannel, footing_ite, ite_self]

theorem footing_effectChannelStatus (r : Running) (s : State) : footing (effectChannelStatus r s).2 = footing s := by rfl

theorem footing_opChannelStatus (r : Running) (s : State) : footing (opChannelStatus r s).2 = footing s :=
  footing_guarded _ _ footing_effectChannelStatus _ _

theorem footing_effectChannelMute (r : Running) (s : State) : footing (effectChannelMute r s).2 = footing s := by
  simp only [effectChannelMute, footing_requestChange, footing_snd_ite, footing_foldl, implies_true, ite_self]

theorem footing_opChannelMute (r : Running) (s : State) : footing (opChannelMute r s).2 = footing s :=
  footing_guarded _ _ footing_effectChannelMute _ _

/-! ## Machine/Life -/

theorem footing_lifeRecord (code : Nat) (retired : Option (Fin 256)) (s : State) : footing (lifeRecord code retired s) = footing s := by
  simp only [lifeRecord, footing_logRecord]

/-! ## Machine/Engines -/

theorem footing_startMigration (m : Migration) (s : State) : footing (startMigration m s) = footing s := by
  refine footing_foldl _ _ _ (fun s x => ?_)
  simp only [footing_modEngine]

theorem footing_beginMigration (a : Fin 256) (moves : List (Segment × Fin 256)) (ringOf : Option (Fin 22)) (s : State) :
    footing (beginMigration a moves ringOf s) = footing s := by
  simp only [beginMigration, footing_startMigration]

theorem footing_modMigration (e : Fin 256) (f : Migration → Migration) (s : State) : footing (modMigration e f s) = footing s := by rfl

theorem footing_settleAsg (a : Fin 256) (s : State) : footing (settleAsg a s) = footing s := by
  simp only [settleAsg]
  (repeat' split) <;> simp only [footing_buildPlan, footing_refreshEngines]

theorem footing_moveSegments (a : Fin 256) (moves : List (Segment × Fin 256)) (s : State) : footing (moveSegments a moves s) = footing s := by rfl

theorem footing_markBlock (a : Fin 256) (moves : List (Segment × Fin 256)) (q : Half) (s : State) : footing (markBlock a moves q s) = footing s := by
  simp only [markBlock, footing_modDir, footing_ite, ite_self]

theorem footing_finishMigration (m : Migration) (q : Half) (s : State) : footing (finishMigration m q s) = footing s := by
  simp only [finishMigration]
  (repeat' split) <;> simp only [footing_modEngine, footing_settleAsg, footing_markBlock, footing_moveSegments, footing_modAsg, footing_postEvent,
    footing_hardwareDone, footing_mk, footing_eta, footing_foldl, implies_true]

theorem footing_execMigrationCopyDone {e : Fin 256} {block : Half} {s t : State} (h : execMigrationCopyDone e block s = .next t) :
    footing t = footing s := by
  obtain rfl := Host.Outcome.next.inj h
  (repeat' split) <;> simp only [footing_modMigration, footing_requestChange]

theorem footing_execMigrationSwitch {e : Fin 256} {q : Half} {s t : State} (h : execMigrationSwitch e q s = .next t) : footing t = footing s := by
  obtain rfl := Host.Outcome.next.inj h
  split <;> simp only [footing_finishMigration, footing_ite, ite_self]

theorem footing_execMigrationLimit {e : Fin 256} {s t : State} (h : execMigrationLimit e s = .next t) : footing t = footing s := by
  obtain rfl := Host.Outcome.next.inj h
  split <;> simp only [footing_endMigrate, footing_modMigration, footing_ite, ite_self]

theorem footing_retireEngine (e : Fin 256) (cause : Nat) (s : State) : footing (retireEngine e cause s) = footing s := by
  simp only [retireEngine, footing_modEngine, footing_lifeRecord, footing_postEvent]

theorem footing_endFaultMute (c : Fin 64) (d : Dir) (s : State) : footing (endFaultMute c d s) = footing s := by
  simp only [endFaultMute, footing_dropMute, footing_ite, ite_self]

theorem footing_impairBlock (c : Fin 64) (d : Dir) (segs : List Segment) (seq : Half) (s : State) :
    footing (impairBlock c d segs seq s) = footing s := by rfl

theorem footing_rehost (e : Fin 256) (target : Option (Fin 256)) (s : State) : footing (rehost e target s) = footing s := by rfl

theorem footing_failEngine (e : Fin 256) (lost : List (Fin 256 × Segment)) (s : State) : footing (failEngine e lost s) = footing s := by
  simp only [failEngine, footing_modEngine, footing_retireEngine, footing_mk, footing_eta, footing_ite, ite_self]

theorem footing_takeOver (e : Fin 256) (block : Half) (s : State) : footing (takeOver e block s) = footing s := by
  simp only [takeOver]
  (repeat' split) <;> simp only [footing_rehost, footing_modEngine, footing_postEvent, footing_addMute, footing_mk, footing_eta, footing_ite,
    footing_foldl, implies_true, ite_self]

theorem footing_endFailed (o : Option Migration) (s : State) : footing (match o with
    | some m => endMigrate m 0x040A (dropMigrations (· == m) s)
    | none => s) = footing s := by
  cases o with
  | none => rfl
  | some m => exact (footing_endMigrate _ _ _).trans (footing_dropMigrations _ _)

theorem footing_failOver (e : Fin 256) (lost : List (Fin 256 × Segment)) (seq : Half) (o : Option Migration) (s : State) : footing (match o with
    | some m =>
      let s := finishMigration m (seq + 1) s
      refreshEngines (failEngine e lost (if (hosted e s).isEmpty then s else takeOver e seq s))
    | none =>
      let stale := s.eng.migrations.filter (fun m => m.sources.contains e)
      let s := stale.foldl (fun s m => endMigrate m 0x0409 s) (dropMigrations (fun m => m.sources.contains e) s)
      refreshEngines (failEngine e lost (takeOver e seq s))) = footing s := by
  cases o <;> simp only [footing_refreshEngines, footing_failEngine, footing_ite, footing_takeOver, footing_finishMigration, footing_endMigrate,
    footing_dropMigrations, footing_foldl, implies_true, ite_self]

theorem footing_execEngineCheckFail {e : Fin 256} {eccUncorrectable : Bool} {c : Fin 64} {d : Dir} {seq : Half} {s t : State}
    (h : execEngineCheckFail e eccUncorrectable c d seq s = .next t) : footing t = footing s := by
  obtain rfl := Host.Outcome.next.inj h
  refine footing_either rfl (footing_either ?_ ?_)
  · rw [footing_refreshEngines, footing_failEngine]
    refine (footing_endFailed _ _).trans ?_
    rw [footing_raise, footing_modEngine, footing_mk, footing_eta]
  · refine (footing_failOver _ _ _ _ _).trans ((footing_impairBlock _ _ _ _ _).trans ((footing_endFailed _ _).trans ?_))
    rw [footing_raise, footing_modEngine, footing_mk, footing_eta]

theorem footing_execTestBlocksEnd {e : Fin 256} {agreed : Bool} {s t : State} (h : execTestBlocksEnd e agreed s = .next t) :
    footing t = footing s := by
  obtain rfl := Host.Outcome.next.inj h
  split <;> simp only [footing_modEngine, footing_retireEngine, footing_mk, footing_eta, footing_ite, ite_self]

theorem footing_execSelfTestDone {e : Fin 256} {passed : Bool} {s t : State} (h : execSelfTestDone e passed s = .next t) : footing t = footing s := by
  obtain rfl := Host.Outcome.next.inj h
  split <;> simp only [footing_dropMigrations, footing_refreshEngines, footing_failEngine, footing_takeOver, footing_raise, footing_retireEngine,
    footing_ite, footing_foldl, implies_true, ite_self]

theorem footing_wingPeriod (e : Fin 256) (s : State) : footing (wingPeriod e s) = footing s := by
  simp only [wingPeriod, footing_mk, footing_eta, footing_ite, ite_self]

theorem footing_reportSlack (e : Fin 256) (cls busy : Nat) (s : State) : footing (reportSlack e cls busy s) = footing s := by
  simp only [reportSlack, footing_modEngine, footing_wingPeriod, footing_ite, ite_self]

theorem footing_execEngineSlowNotice {e : Fin 256} {s t : State} (h : execEngineSlowNotice e s = .next t) : footing t = footing s := by
  obtain rfl := Host.Outcome.next.inj h
  simp only [footing_raise, footing_modEngine, footing_ite, ite_self]

theorem footing_execWingSlow {w : Fin 16} {s t : State} (h : execWingSlow w s = .next t) : footing t = footing s := by
  obtain rfl := Host.Outcome.next.inj h
  simp only [footing_raise, footing_mk, footing_eta, footing_ite, ite_self]

theorem footing_attributeLate (c : Fin 64) (d : Dir) (s : State) : footing (attributeLate c d s) = footing s := by
  refine footing_foldl _ _ _ (fun s x => ?_)
  simp only [footing_modEngine]

theorem footing_relieve (e : Fin 256) (s : State) : footing (relieve e s) = footing s := by
  simp only [relieve]
  (repeat' split) <;> simp only [footing_beginMigration, footing_postEvent, footing_raise]

theorem footing_relieveWing (w : Fin 16) (s : State) : footing (relieveWing w s) = footing s := by
  simp only [relieveWing]
  (repeat' split) <;> simp only [footing_beginMigration]

theorem footing_rebuildAsg (a : Fin 256) (s : State) : footing (rebuildAsg a s) = footing s := by
  simp only [rebuildAsg]
  (repeat' split) <;> simp only [footing_endFaultMute, footing_modAsg, footing_settleAsg, footing_moveSegments]

theorem footing_respareWing (w : Fin 16) (s : State) : footing (respareWing w s) = footing s := by
  simp only [respareWing]
  (repeat' split) <;> simp only [footing_modEngine, footing_beginMigration]

theorem footing_placementTick (s : State) : footing (placementTick s) = footing s := by
  simp only [placementTick, footing_rebuildAsg, footing_relieveWing, footing_relieve, footing_respareWing, footing_mk, footing_eta, footing_ite,
    footing_foldl, implies_true, ite_self]

theorem footing_beginAssignmentCreate (r : Running) (s : State) : footing (beginAssignmentCreate r s).2 = footing s := by
  simp only [beginAssignmentCreate]
  (repeat' split) <;> simp only [footing_buildPlan, footing_modAsg]

theorem footing_opAssignmentCreate (r : Running) (s : State) : footing (opAssignmentCreate r s).2 = footing s := by
  unfold opAssignmentCreate
  (repeat' split) <;> simp only [footing_beginAssignmentCreate, implies_true, footing_guarded]

theorem footing_leaveOutside (a : Fin 256) (mask : BitVec 16) (s : State) : footing (leaveOutside a mask s) = footing s := by
  refine footing_foldl _ _ _ (fun s x => ?_)
  (repeat' split) <;> simp only [footing_beginMigration]

theorem footing_effectAssignmentModify (r : Running) (s : State) : footing (effectAssignmentModify r s).2 = footing s := by
  simp only [effectAssignmentModify]
  (repeat' split) <;> simp only [footing_modAsg, footing_leaveOutside, footing_buildPlan, footing_supersede, footing_requestChange]

theorem footing_opAssignmentModify (r : Running) (s : State) : footing (opAssignmentModify r s).2 = footing s := by
  unfold opAssignmentModify
  (repeat' split) <;> simp only [footing_effectAssignmentModify, implies_true, footing_guarded]

theorem footing_effectAssignmentRelease (r : Running) (s : State) : footing (effectAssignmentRelease r s).2 = footing s := by
  simp only [effectAssignmentRelease, footing_releaseAsg]

theorem footing_opAssignmentRelease (r : Running) (s : State) : footing (opAssignmentRelease r s).2 = footing s :=
  footing_guarded _ _ footing_effectAssignmentRelease _ _

theorem footing_beginMigrate (r : Running) (s : State) : footing (beginMigrate r s).2 = footing s := by
  simp only [beginMigrate]
  (repeat' split) <;> simp only [footing_beginMigration]

theorem footing_opMigrate (r : Running) (s : State) : footing (opMigrate r s).2 = footing s := by
  unfold opMigrate
  (repeat' split) <;> simp only [footing_beginMigrate, implies_true, footing_guarded]

theorem footing_abandonMigrate (q : Fin 22) (s : State) : footing (abandonMigrate q s) = footing s := by
  simp only [abandonMigrate, footing_dropMigrations]

theorem footing_effectEngineStatus (r : Running) (s : State) : footing (effectEngineStatus r s).2 = footing s := by
  simp only [effectEngineStatus, footing_snd_ite, ite_self]

theorem footing_opEngineStatus (r : Running) (s : State) : footing (opEngineStatus r s).2 = footing s :=
  footing_guarded _ _ footing_effectEngineStatus _ _

theorem footing_effectPlacementPolicySet (r : Running) (s : State) : footing (effectPlacementPolicySet r s).2 = footing s := by rfl

theorem footing_opPlacementPolicySet (r : Running) (s : State) : footing (opPlacementPolicySet r s).2 = footing s :=
  footing_guarded _ _ footing_effectPlacementPolicySet _ _

theorem footing_effectSpareSet (r : Running) (s : State) : footing (effectSpareSet r s).2 = footing s := by
  refine footing_foldl _ _ _ (fun s x => ?_)
  (repeat' split) <;> simp only [footing_modEngine]

theorem footing_opSpareSet (r : Running) (s : State) : footing (opSpareSet r s).2 = footing s :=
  footing_guarded _ _ footing_effectSpareSet _ _

theorem footing_beginCatalogueLoad (r : Running) (s : State) : footing (beginCatalogueLoad r s).2 = footing s := by
  simp only [beginCatalogueLoad, footing_mk, footing_eta, footing_snd_ite, ite_self]

theorem footing_upgradeInstance {a : Fin 256} {g : Segment} {e : Nat × Nat × Bool} {ring : Fin 22} {s t : State}
    (h : upgradeInstance a g e ring s = some t) : footing t = footing s := by
  unfold upgradeInstance at h
  split at h
  · cases h
  · split at h
    · cases h
    · obtain rfl := Option.some.inj h
      exact footing_startMigration _ _

theorem footing_activateCatalogue (s : State) : footing (activateCatalogue s) = footing s := by
  unfold activateCatalogue
  split <;> simp only [footing_mk, footing_eta]

theorem footing_opCatalogueLoad (r : Running) (s : State) : footing (opCatalogueLoad r s).2 = footing s := by
  unfold opCatalogueLoad
  split
  · exact footing_guarded _ _ footing_beginCatalogueLoad r s
  · dsimp only
    split
    · split
      · next t h =>
        obtain ⟨e, -, he⟩ := Option.bind_eq_some_iff.mp h
        exact footing_upgradeInstance he
      · rfl
    · exact footing_activateCatalogue s

theorem footing_effectCapacityQuery (r : Running) (s : State) : footing (effectCapacityQuery r s).2 = footing s := by rfl

theorem footing_opCapacityQuery (r : Running) (s : State) : footing (opCapacityQuery r s).2 = footing s :=
  footing_guarded _ _ footing_effectCapacityQuery _ _

/-! ## Machine/Guestbook -/

theorem footing_modGb (f : Guestbook → Guestbook) (s : State) : footing (modGb f s) = footing s := by rfl

theorem footing_stage (x : Record) (isOpen : Bool) (s : State) : footing (stage x isOpen s) = footing s := by rfl

theorem footing_closeTail (s : State) : footing (closeTail s) = footing s := by
  unfold closeTail
  split <;> simp only [footing_stage, footing_modGb, footing_ite, ite_self]

theorem footing_latchSequence (x : Record) (s : State) : footing (latchSequence x s) = footing s := by
  simp only [latchSequence, footing_mk, footing_eta, footing_ite, ite_self]

theorem footing_newRecord (cls severity : Nat) (source codeOf : Half) (flags : Nat) (body : List Byte) (timeUs : Nat) (events : List EventRec)
    (s : State) : footing (newRecord cls severity source codeOf flags body timeUs events s) = footing s := by
  simp only [newRecord, footing_closeTail, footing_stage, footing_modGb, footing_postEntry, footing_latchSequence, footing_foldl, implies_true]

theorem footing_ownRecord (cls severity codeOf flags : Nat) (body : List Byte) (events : List EventRec) (s : State) :
    footing (ownRecord cls severity codeOf flags body events s) = footing s := by
  simp only [ownRecord, footing_newRecord]

theorem footing_writeOverflow (s : State) : footing (writeOverflow s) = footing s := by
  simp only [writeOverflow, footing_ownRecord, footing_modGb, footing_ite, ite_self]

theorem footing_noteTaken (e : GbEntry) (folded : Bool) (s : State) : footing (noteTaken e folded s) = footing s := by
  simp only [noteTaken, footing_modGb, footing_mk, footing_eta, footing_ite, ite_self]

theorem footing_fileEntry (e : GbEntry) (s : State) : footing (fileEntry e s) = footing s := by
  simp only [fileEntry]
  (repeat' split) <;> simp only [footing_modGb, footing_closeTail, footing_noteTaken, footing_postEntry, footing_newRecord, footing_foldl,
    implies_true]

theorem footing_loseWaiting (s : State) : footing (loseWaiting s) = footing s := by
  unfold loseWaiting
  split <;> simp only [footing_gbLose, footing_modGb, footing_mk, footing_eta, footing_ite, ite_self]

theorem footing_loseLate (n : Nat) (s : State) : footing (loseLate n s) = footing s := by
  induction n generalizing s with
  | zero => rfl
  | succ n ih =>
    unfold loseLate
    split
    · exact (ih _).trans (footing_loseWaiting s)
    · rfl

theorem footing_admitCollector (s : State) : footing (admitCollector s) = footing s := by
  simp only [admitCollector]
  (repeat' split) <;> simp only [footing_loseLate, footing_modGb]

theorem footing_takeFront (s : State) : footing (takeFront s) = footing s := by
  unfold takeFront
  split <;> simp only [footing_writeOverflow, footing_admitCollector, footing_fileEntry, footing_modGb]

theorem footing_takeEntries (n : Nat) (s : State) : footing (takeEntries n s) = footing s := by
  induction n generalizing s with
  | zero => rfl
  | succ n ih => exact (ih _).trans (footing_takeFront s)

theorem footing_execGbTakeEntry {s t : State} (h : execGbTakeEntry s = .next t) : footing t = footing s := by
  obtain rfl := Host.Outcome.next.inj h
  simp only [footing_takeFront, footing_ite, ite_self]

theorem footing_execGbIntake {entry : GbEntry} {s t : State} (h : execGbIntake entry s = .next t) : footing t = footing s := by
  obtain rfl := Host.Outcome.next.inj h
  simp only [footing_gbCollector, footing_gbIntake, footing_ite, ite_self]

theorem footing_execCollectorIntakeTimeout {s t : State} (h : execCollectorIntakeTimeout s = .next t) : footing t = footing s := by
  obtain rfl := Host.Outcome.next.inj h
  split <;> simp only [footing_loseWaiting, footing_advanceTo]

theorem footing_execTailTimeout {s t : State} (h : execTailTimeout s = .next t) : footing t = footing s := by
  obtain rfl := Host.Outcome.next.inj h
  split <;> simp only [footing_closeTail, footing_ite, ite_self]

theorem footing_execTailSnapshot {s t : State} (h : execTailSnapshot s = .next t) : footing t = footing s := by
  obtain rfl := Host.Outcome.next.inj h
  split <;> simp only [footing_stage, footing_modGb, footing_ite, ite_self]

theorem footing_program (x : Record) (s : State) : footing (program x s) = footing s := by rfl

theorem footing_clearPoint (x : Record) (s : State) : footing (clearPoint x s) = footing s := by
  simp only [clearPoint, footing_postEntry, footing_modGb, footing_ite, ite_self]

theorem footing_commitOne (s : State) (c : Staged) : footing (commitOne s c) = footing s := by
  simp only [commitOne, footing_clearPoint, footing_program, footing_modGb]

theorem footing_commitAll (s : State) : footing (commitAll s) = footing s := by
  simp only [commitAll, footing_commitOne, footing_modGb, footing_writeCheckpoint, footing_ite, footing_foldl, implies_true, ite_self]

theorem footing_execGbCommitDone {s t : State} (h : execGbCommitDone s = .next t) : footing t = footing s := by
  obtain rfl := Host.Outcome.next.inj h
  simp only [footing_commitAll, footing_ite, ite_self]

theorem footing_execClearEraseDone {s t : State} (h : execClearEraseDone s = .next t) : footing t = footing s := by
  obtain rfl := Host.Outcome.next.inj h
  simp only [footing_modGb, footing_ite, ite_self]

theorem footing_execCheckpoint {s t : State} (h : execCheckpoint s = .next t) : footing t = footing s := by
  obtain rfl := Host.Outcome.next.inj h
  simp only [footing_writeCheckpoint, footing_advanceTo, footing_ite, ite_self]

theorem footing_holdupCommit (comparator : Nat) (s : State) : footing (holdupCommit comparator s) = footing s := by
  simp only [holdupCommit, footing_closeTail, footing_takeEntries, footing_modGb, footing_ownRecord]

theorem footing_readStep (r : Running) (s : State) : footing (readStep r s).2 = footing s := by
  simp only [readStep]
  (repeat' split) <;> simp only []

theorem footing_beginGbRead (r : Running) (s : State) : footing (beginGbRead r s).2 = footing s := by rfl

theorem footing_opGbRead (r : Running) (s : State) : footing (opGbRead r s).2 = footing s := by
  unfold opGbRead
  (repeat' split) <;> simp only [footing_beginGbRead, footing_readStep, implies_true, footing_guarded]

theorem footing_effectGbTailStatus (x0 : Running) (s : State) : footing (effectGbTailStatus x0 s).2 = footing s := by
  unfold effectGbTailStatus
  split <;> simp only []

theorem footing_opGbTailStatus (r : Running) (s : State) : footing (opGbTailStatus r s).2 = footing s :=
  footing_guarded _ _ footing_effectGbTailStatus _ _

theorem footing_effectClearChallenge (x0 : Running) (s : State) : footing (effectClearChallenge x0 s).2 = footing s := by rfl

theorem footing_opGbClearChallenge (r : Running) (s : State) : footing (opGbClearChallenge r s).2 = footing s :=
  footing_guarded _ _ footing_effectClearChallenge _ _

theorem footing_refuseClear (r : Running) (e : Reject) (s : State) : footing (refuseClear r e s) = footing s := by
  simp only [refuseClear, footing_modGb, footing_logRecord, footing_ite, ite_self]

theorem footing_beginClear (r : Running) (s : State) : footing (beginClear r s).2 = footing s := by
  simp only [beginClear, footing_closeTail, footing_newRecord]

theorem footing_withdrawClear (r : Running) (s : State) : footing (withdrawClear r s) = footing s := by rfl

theorem footing_opGbClear (r : Running) (s : State) : footing (opGbClear r s).2 = footing s := by
  simp only [opGbClear]
  (repeat' split) <;> simp only [footing_beginClear, footing_modGb, footing_refuseClear]

theorem footing_beginGbAppend (r : Running) (s : State) : footing (beginGbAppend r s).2 = footing s := by
  simp only [beginGbAppend, footing_logRecord]

theorem footing_opGbAppend (r : Running) (s : State) : footing (opGbAppend r s).2 = footing s := by
  unfold opGbAppend
  (repeat' split) <;> simp only [footing_beginGbAppend, footing_modGb, implies_true, footing_guarded]

theorem footing_effectWallClockSet (r : Running) (s : State) : footing (effectWallClockSet r s).2 = footing s := by
  simp only [effectWallClockSet, footing_modGb, footing_logRecord]

theorem footing_opWallClockSet (r : Running) (s : State) : footing (opWallClockSet r s).2 = footing s :=
  footing_guarded _ _ footing_effectWallClockSet _ _

theorem footing_guestbookStart (kind : Nat) (powerUp : Bool) (s : State) : footing (guestbookStart kind powerUp s) = footing s := by
  simp only [guestbookStart, footing_commitAll, footing_closeTail, footing_takeEntries, footing_modGb, footing_ownRecord, footing_ite, ite_self]

/-! ## Machine/Loops -/

theorem footing_modLoopEngine (f : LoopEngine → LoopEngine) (s : State) : footing (modLoopEngine f s) = footing s := by rfl

theorem footing_modLoop (l : Nat) (f : Loop → Loop) (s : State) : footing (modLoop l f s) = footing s := by rfl

theorem footing_repReset (l cause : Nat) (s : State) : footing (repReset l cause s) = footing s := by
  simp only [repReset, footing_modLoop, footing_postEvent]

theorem footing_repPeriod (l : Nat) (s : State) : footing (repPeriod l s) = footing s := by
  simp only [repPeriod, footing_repReset, footing_hardwareDone, footing_modLoop, footing_ite, footing_foldl, implies_true, ite_self]

theorem footing_superviseLoop (l : Nat) (s : State) : footing (superviseLoop l s) = footing s := by
  simp only [superviseLoop, footing_modLoop, footing_postEvent, footing_raise, footing_modLoopEngine, footing_ite, ite_self]

theorem footing_writeSink (l : Nat) (s : State) : footing (writeSink l s) = footing s := by
  simp only [writeSink]
  (repeat' split) <;> simp only [footing_modRail, footing_modLoop]

theorem footing_takeSwap (l : Nat) (s : State) : footing (takeSwap l s) = footing s := by
  simp only [takeSwap]
  (repeat' split) <;> simp only [footing_modLoop, footing_hardwareDone]

theorem footing_ladderMoved (l : Nat) (s : State) : footing (ladderMoved l s) = footing s := by
  unfold ladderMoved
  split <;> simp only [footing_postEvent, footing_modRail, footing_ite, ite_self]

theorem footing_abandonHand (l : Nat) (h : HandOver) (detail : Nat) (s : State) : footing (abandonHand l h detail s) = footing s := by
  simp only [abandonHand]
  (repeat' split) <;> simp only [footing_modLoop, footing_modLoopEngine, footing_postEvent, footing_modRail, footing_hardwareDone]

theorem footing_endHand (l : Nat) (s : State) : footing (endHand l s) = footing s := by
  simp only [endHand]
  (repeat' split) <;> simp only [footing_modLoop, footing_postEvent, footing_ladderMoved, footing_hardwareDone, footing_abandonHand]

theorem footing_answerStart (l : Nat) (result : Int) (s : State) : footing (answerStart l result s) = footing s := by
  unfold answerStart
  split <;> simp only [footing_hardwareDone, footing_modLoop]

theorem footing_stopLoop (l : Nat) (s : State) : footing (stopLoop l s) = footing s := by
  simp only [stopLoop]
  (repeat' split) <;> simp only [footing_takeSwap, footing_abandonHand, footing_modLoop, footing_answerStart]

theorem footing_startLoop (l : Nat) (s : State) : footing (startLoop l s) = footing s := by rfl

theorem footing_repTick (l : Nat) (e : Int) (s : State) : footing (repTick l e s) = footing s := by
  simp only [repTick, footing_modLoop, footing_ite, ite_self]

theorem footing_commitHand (l : Nat) (s : State) : footing (commitHand l s) = footing s := by
  simp only [commitHand]
  (repeat' split) <;> simp only [footing_modSource]

theorem footing_repIndex (l : Nat) (s : State) : footing (repIndex l s) = footing s := by
  simp only [repIndex, footing_modLoop, footing_repPeriod, footing_ite, ite_self]

theorem footing_evalLoop (l : Nat) (s : State) : footing (evalLoop l s) = footing s := by
  simp only [evalLoop, footing_commitHand, footing_endHand, footing_takeSwap, footing_repIndex, footing_takeFree, footing_modLoop,
    footing_answerStart, footing_superviseLoop, footing_writeSink, footing_repTick, footing_stopLoop, footing_ite, footing_snd_ite, ite_self]

theorem footing_mirrorTick (l : Nat) (s : State) : footing (mirrorTick l s) = footing s := by
  simp only [mirrorTick, footing_writeSink, footing_modLoop]

theorem footing_railTick (l : Nat) (s : State) : footing (railTick l s) = footing s := by
  simp only [railTick, footing_mirrorTick, footing_evalLoop, footing_sendTwin, footing_ite, ite_self]

theorem footing_tickChain (n l : Nat) (s : State) : footing (tickChain n l s) = footing s := by
  induction n generalizing l s with
  | zero => exact footing_railTick l s
  | succ n ih => exact (footing_foldl _ _ _ (fun s k => ih k s)).trans (footing_railTick l s)

theorem footing_tickTaken (n l : Nat) (s : State) : footing (tickTaken n l s) = footing s := by rfl

theorem footing_overrun (l : Nat) (s : State) : footing (overrun l s) = footing s := by
  simp only [overrun, footing_modLoop, footing_modLoopEngine, footing_postEvent, footing_raise]

theorem footing_idlePeriod (l : Nat) (s : State) : footing (idlePeriod l s) = footing s := by
  simp only [idlePeriod, footing_repPeriod, footing_advanceTo, footing_ite, ite_self]

theorem footing_execLoopTick {l : Fin 192} {stillEvaluating : Bool} {s t : State} (h : execLoopTick l stillEvaluating s = .next t) :
    footing t = footing s := by
  obtain rfl := Host.Outcome.next.inj h
  (repeat' split) <;> simp only [footing_idlePeriod, footing_advanceTo, footing_tickChain, footing_tickTaken, footing_overrun, footing_foldl,
    implies_true]

theorem footing_execHandoverWindowEnd {l : Fin 192} {s t : State} (h : execHandoverWindowEnd l s = .next t) : footing t = footing s := by
  obtain rfl := Host.Outcome.next.inj h
  simp only [footing_endHand]

theorem footing_removeLoop (l : Nat) (s : State) : footing (removeLoop l s) = footing s := by
  simp only [removeLoop, footing_stopLoop, footing_hardwareDone, footing_modLoop, footing_ite, footing_foldl, implies_true, ite_self]

theorem footing_effectLoopConfigure (r : Running) (s : State) : footing (effectLoopConfigure r s).2 = footing s := by
  simp only [effectLoopConfigure]
  (repeat' split) <;> simp only [footing_modLoop, footing_startLoop, footing_stopLoop, footing_removeLoop]

theorem footing_opLoopConfigure (r : Running) (s : State) : footing (opLoopConfigure r s).2 = footing s := by
  unfold opLoopConfigure
  (repeat' split) <;> simp only [footing_effectLoopConfigure, implies_true, footing_guarded]

theorem footing_effectLoopCoeffLoad (r : Running) (s : State) : footing (effectLoopCoeffLoad r s).2 = footing s := by rfl

theorem footing_opLoopCoeffLoad (r : Running) (s : State) : footing (opLoopCoeffLoad r s).2 = footing s :=
  footing_guarded _ _ footing_effectLoopCoeffLoad _ _

theorem footing_effectLoopSwap (r : Running) (s : State) : footing (effectLoopSwap r s).2 = footing s := by
  simp only [effectLoopSwap, footing_modLoop, footing_snd_ite, ite_self]

theorem footing_opLoopSwap (r : Running) (s : State) : footing (opLoopSwap r s).2 = footing s := by
  unfold opLoopSwap
  (repeat' split) <;> simp only [footing_effectLoopSwap, implies_true, footing_guarded]

theorem footing_beginHand (l : Nat) (inc : Fin 4) (w tol rate : Nat) (ringOf : Option (Fin 22)) (ladder : Bool) (s : State) :
    footing (beginHand l inc w tol rate ringOf ladder s) = footing s := by rfl

theorem footing_effectLoopModeSet (r : Running) (s : State) : footing (effectLoopModeSet r s).2 = footing s := by rfl

theorem footing_opLoopModeSet (r : Running) (s : State) : footing (opLoopModeSet r s).2 = footing s := by
  unfold opLoopModeSet
  (repeat' split) <;> simp only [footing_effectLoopModeSet, implies_true, footing_guarded]

theorem footing_effectLoopStatus (r : Running) (s : State) : footing (effectLoopStatus r s).2 = footing s := by rfl

theorem footing_opLoopStatus (r : Running) (s : State) : footing (opLoopStatus r s).2 = footing s :=
  footing_guarded _ _ footing_effectLoopStatus _ _

theorem footing_effectRepetitiveConfigure (r : Running) (s : State) : footing (effectRepetitiveConfigure r s).2 = footing s := by
  simp only [effectRepetitiveConfigure, footing_modLoop, footing_repReset, footing_ite, ite_self]

theorem footing_opRepetitiveConfigure (r : Running) (s : State) : footing (opRepetitiveConfigure r s).2 = footing s :=
  footing_guarded _ _ footing_effectRepetitiveConfigure _ _

theorem footing_effectRepetitiveReset (r : Running) (s : State) : footing (effectRepetitiveReset r s).2 = footing s := by rfl

theorem footing_opRepetitiveReset (r : Running) (s : State) : footing (opRepetitiveReset r s).2 = footing s := by
  unfold opRepetitiveReset
  (repeat' split) <;> simp only [footing_effectRepetitiveReset, implies_true, footing_guarded]

theorem footing_allocateStore (l : Nat) (s : State) : footing (allocateStore l s) = footing s := by rfl

theorem footing_patternStores (slot : Fin 8) (s : State) : footing (patternStores slot s) = footing s := by
  simp only [patternStores, footing_repReset, footing_allocateStore, footing_ite, footing_foldl, implies_true, ite_self]

theorem footing_execTddPatternSwitch {slot : Fin 8} {s t : State} (h : execTddPatternSwitch slot s = .next t) : footing t = footing s := by
  obtain rfl := Host.Outcome.next.inj h
  split <;> simp only [footing_advanceTo, footing_modRadio, footing_refreshHolds, footing_patternStores]

theorem footing_execFrameStart {s t : State} (h : execFrameStart s = .next t) : footing t = footing s := by
  obtain rfl := Host.Outcome.next.inj h
  simp only [footing_advanceTo, footing_refreshHolds, footing_modRadio, footing_modTimer]

/-! ## Machine/Supply -/

theorem footing_setMode (r : Fin 10) (m : LadderMode) (s : State) : footing (setMode r m s) = footing s := by
  simp only [setMode, footing_postEvent, footing_modRail, footing_ite, ite_self]

theorem footing_execLadderMove {r : Fin 10} {target : LadderMode} {s t : State} (h : execLadderMove r target s = .next t) :
    footing t = footing s := by
  obtain rfl := Host.Outcome.next.inj h
  (repeat' split) <;> simp only [footing_beginHand, footing_setMode, footing_stopLoop, footing_startLoop, footing_modLoop]

theorem footing_beginSoftStart (r : Fin 10) (s : State) : footing (beginSoftStart r s) = footing s := by
  simp only [beginSoftStart, footing_phasesOn, footing_setRailState, footing_modRail, footing_startLoop, footing_modLoop, footing_ite, ite_self]

theorem footing_railDown (r : Fin 10) (v : RailState) (source : Nat) (s : State) : footing (railDown r v source s) = footing s := by
  simp only [railDown, footing_stopLoop, footing_setRailState, footing_phasesOff]

theorem footing_answerGroup (r : Fin 10) (s : State) : footing (answerGroup r s) = footing s := by
  simp only [answerGroup, footing_answerRing, footing_modRail, footing_ite, footing_foldl, implies_true, ite_self]

theorem footing_restartProgress (s : State) : footing (restartProgress s) = footing s := by
  unfold restartProgress
  split <;> simp only [footing_releaseDeviceStops, footing_powerRecord, footing_refreeze, footing_mk, footing_eta, form_mk, form_eta, footing_ite,
    ite_self]

theorem footing_beginRestart (automatic : Bool) (s : State) : footing (beginRestart automatic s) = footing s := by
  simp only [beginRestart, footing_restartProgress, footing_beginSoftStart, footing_mk, footing_eta, form_mk, form_eta, footing_foldl, implies_true]

theorem footing_autoRestart (s : State) : footing (autoRestart s) = footing s := by
  simp only [autoRestart, footing_beginRestart, footing_ite, ite_self]

theorem footing_stopProgress (s : State) : footing (stopProgress s) = footing s := by
  unfold stopProgress
  split <;> simp only [footing_enterStopped, footing_autoRestart, footing_mk, footing_eta, form_mk, form_eta, footing_ite, ite_self]

theorem footing_execSoftStartDone {r : Fin 10} {s t : State} (h : execSoftStartDone r s = .next t) : footing t = footing s := by
  obtain rfl := Host.Outcome.next.inj h
  simp only [footing_setRailState, footing_beginHand, footing_restartProgress, footing_answerGroup, footing_modRail, footing_ite, ite_self]

theorem footing_execRailStopDone {r : Fin 10} {s t : State} (h : execRailStopDone r s = .next t) : footing t = footing s := by
  obtain rfl := Host.Outcome.next.inj h
  (repeat' split) <;> simp only [footing_railDown, footing_stopProgress, footing_answerGroup]

theorem footing_railFault (r : Fin 10) (source : Nat) (s : State) : footing (railFault r source s) = footing s := by
  simp only [railFault, footing_dropWaits, footing_modRail, footing_railDown, footing_beginRailStop, footing_modSupply, footing_raise,
    footing_answerGroup, footing_stopProgress, footing_ite, footing_foldl, implies_true, ite_self]

theorem footing_execRailShort {r : Fin 10} {s t : State} (h : execRailShort r s = .next t) : footing t = footing s := by
  obtain rfl := Host.Outcome.next.inj h
  simp only [footing_railFault, footing_ite, ite_self]

theorem footing_execRailUv {r : Fin 10} {s t : State} (h : execRailUv r s = .next t) : footing t = footing s := by
  obtain rfl := Host.Outcome.next.inj h
  simp only [footing_raise, footing_modRail, footing_ite, ite_self]

theorem footing_railFaultExit (n : Nat) (s : State) : footing (railFaultExit n s) = footing s := by
  simp only [railFaultExit, footing_setRailState, footing_beginSoftStart, footing_ite, footing_foldl, implies_true, ite_self]

theorem footing_removePhase (p : Fin 16) (r : Fin 10) (opened : Bool) (s : State) : footing (removePhase p r opened s) = footing s := by
  simp only [removePhase, footing_modPhase, footing_raise, footing_postEvent, footing_answerGroup, footing_railDown, footing_dropWaits, footing_ite,
    ite_self]

theorem footing_execPhaseOpen {p : Fin 16} {s t : State} (h : execPhaseOpen p s = .next t) : footing t = footing s := by
  obtain rfl := Host.Outcome.next.inj h
  split <;> simp only [footing_removePhase, footing_ite, ite_self]

theorem footing_execPhaseSense {p : Fin 16} {s t : State} (h : execPhaseSense p s = .next t) : footing t = footing s := by
  obtain rfl := Host.Outcome.next.inj h
  split <;> simp only [footing_removePhase, footing_ite, ite_self]

theorem footing_phaseFaultExit (n : Nat) (s : State) : footing (phaseFaultExit n s) = footing s := by
  simp only [phaseFaultExit]
  (repeat' split) <;> simp only [footing_modPhase, footing_postEvent]

theorem footing_phasePulse (r : Fin 10) (s : State) (p : Fin 16) : footing (phasePulse r s p) = footing s := by rfl

theorem footing_phaseCycle (r : Fin 10) (m : RailMeas) (s : State) (p : Fin 16) : footing (phaseCycle r m s p) = footing s := by rfl

theorem footing_coreSag (s : State) : footing (coreSag s) = footing s := by
  simp only [coreSag, footing_answerGroup, footing_railDown, footing_dropWaits, footing_foldl, implies_true]

theorem footing_settleWaits (r : Fin 10) (s : State) : footing (settleWaits r s) = footing s := by
  simp only [settleWaits, footing_answerRing, footing_modRail, footing_ite, ite_self]

theorem footing_takeCurrents (r : Fin 10) (m : RailMeas) (s : State) : footing (takeCurrents r m s) = footing s := by
  refine footing_foldl _ _ _ (fun s x => ?_)
  simp only [footing_modPhase]

theorem footing_cycleBegun (r : Fin 10) (m : RailMeas) (s : State) : footing (cycleBegun r m s) = footing s := by
  simp only [cycleBegun, footing_modRail, footing_takeCurrents, footing_phasePulse, footing_foldl, implies_true]

theorem footing_execSwitchingCycle {r : Fin 10} {m : RailMeas} {s t : State} (h : execSwitchingCycle r m s = .next t) : footing t = footing s := by
  obtain rfl := Host.Outcome.next.inj h
  simp only [footing_cycleBegun, footing_modRail, footing_phaseCycle, footing_settleWaits, footing_coreSag, footing_railFault, footing_ite,
    footing_foldl, implies_true, ite_self]

theorem footing_wireVoltageLoop (r : Fin 10) (div : Nat) (s : State) : footing (wireVoltageLoop r div s) = footing s := by rfl

theorem footing_wireFeedForward (r : Fin 10) (p : RailPlan) (s : State) : footing (wireFeedForward r p s) = footing s := by
  simp only [wireFeedForward, footing_modLoop, footing_allocateStore, footing_removeLoop, footing_ite, ite_self]

theorem footing_effectRailConfigure (r : Running) (s : State) : footing (effectRailConfigure r s).2 = footing s := by
  simp only [effectRailConfigure, footing_wireVoltageLoop, footing_modRail, footing_phasesOff, footing_setRailState, footing_wireFeedForward,
    footing_snd_ite, ite_self]

theorem footing_opRailConfigure (r : Running) (s : State) : footing (opRailConfigure r s).2 = footing s :=
  footing_guarded _ _ footing_effectRailConfigure _ _

theorem footing_effectRailSetVoltage (r : Running) (s : State) : footing (effectRailSetVoltage r s).2 = footing s := by
  simp only [effectRailSetVoltage, footing_answerRing, footing_modRail]

theorem footing_opRailSetVoltage (r : Running) (s : State) : footing (opRailSetVoltage r s).2 = footing s := by
  unfold opRailSetVoltage
  (repeat' split) <;> simp only [footing_effectRailSetVoltage, implies_true, footing_guarded]

theorem footing_effectRailStart (r : Running) (s : State) : footing (effectRailStart r s).2 = footing s := by
  simp only [effectRailStart, footing_modRail, footing_beginSoftStart, footing_foldl, implies_true]

theorem footing_opRailStart (r : Running) (s : State) : footing (opRailStart r s).2 = footing s := by
  unfold opRailStart
  (repeat' split) <;> simp only [footing_effectRailStart, implies_true, footing_guarded]

theorem footing_effectRailStop (r : Running) (s : State) : footing (effectRailStop r s).2 = footing s := by
  simp only [effectRailStop, footing_modRail, footing_stopGroup]

theorem footing_opRailStop (r : Running) (s : State) : footing (opRailStop r s).2 = footing s := by
  unfold opRailStop
  (repeat' split) <;> simp only [footing_effectRailStop, implies_true, footing_guarded]

theorem footing_effectRailStatus (r : Running) (s : State) : footing (effectRailStatus r s).2 = footing s := by rfl

theorem footing_opRailStatus (r : Running) (s : State) : footing (opRailStatus r s).2 = footing s :=
  footing_guarded _ _ footing_effectRailStatus _ _

theorem footing_effectTrackingSet (r : Running) (s : State) : footing (effectTrackingSet r s).2 = footing s := by rfl

theorem footing_opTrackingSet (r : Running) (s : State) : footing (opTrackingSet r s).2 = footing s :=
  footing_guarded _ _ footing_effectTrackingSet _ _

theorem footing_effectCoreAvsConfigure (r : Running) (s : State) : footing (effectCoreAvsConfigure r s).2 = footing s := by rfl

theorem footing_opCoreAvsConfigure (r : Running) (s : State) : footing (opCoreAvsConfigure r s).2 = footing s :=
  footing_guarded _ _ footing_effectCoreAvsConfigure _ _

theorem footing_avsTick (s : State) : footing (avsTick s) = footing s := by
  simp only [avsTick, footing_modSupply, footing_modRail, footing_postEvent, footing_ite, ite_self]

theorem footing_startCoreLoop (s : State) : footing (startCoreLoop s) = footing s := by
  simp only [startCoreLoop, footing_modLoop, footing_wireVoltageLoop, footing_startLoop, footing_modSupply, footing_ite, ite_self]

theorem footing_execTimebaseLock {s t : State} (h : execTimebaseLock s = .next t) : footing t = footing s := by
  obtain rfl := Host.Outcome.next.inj h
  rfl

theorem footing_execBootRetry {s t : State} (h : execBootRetry s = .next t) : footing t = footing s := by
  obtain rfl := Host.Outcome.next.inj h
  simp only [footing_modSupply, footing_phasesOn, footing_modRail, footing_ite, ite_self]

/-! ## Machine/Faults -/

theorem footing_degrade (o : Half) (s : State) : footing (degrade o s) = footing s := by
  simp only [degrade]
  (repeat' split) <;> simp only [footing_respareWing, footing_relieve, footing_relieveWing]

theorem footing_muteFor (n : Nat) (o : Half) (s : State) : footing (muteFor n o s) = footing s := by
  simp only [muteFor, footing_addMute, footing_modFault, footing_foldl, implies_true]

theorem footing_stopFor (n : Nat) (o : Half) (s : State) : footing (stopFor n o s) = footing s := by
  simp only [stopFor, footing_stopPort, footing_modFault, footing_foldl, implies_true]

theorem footing_actFor (n : Nat) (o : Half) (done : Nat) (s : State) : footing (actFor n o done s) = footing s := by
  simp only [actFor, footing_outputChanged, footing_modFault, footing_degrade, footing_muteFor, footing_stopFor, footing_beginHandover, footing_mk,
    footing_eta, footing_ite, ite_self]

theorem footing_endActions (n : Nat) (s : State) : footing (endActions n s) = footing s := by
  simp only [endActions, footing_modFault, footing_endFaultMute, footing_releasePort, footing_ite, footing_foldl, implies_true, ite_self]

theorem footing_enterClear (n : Nat) (s : State) : footing (enterClear n s) = footing s := by
  simp only [enterClear, footing_phaseFaultExit, footing_railFaultExit, footing_endActions, footing_modFault, footing_autoRestart, footing_ite,
    ite_self]

theorem footing_setParked (n : Fin 512) (on : Bool) (s : State) : footing (setParked n on s) = footing s := by rfl

theorem footing_takeParams (n : Fin 512) (s : State) : footing (takeParams n s) = footing s := by
  unfold takeParams
  split <;> simp only [footing_modFault, footing_ite, ite_self]

theorem footing_releaseSource (n : Fin 512) (simul : Bool) (s : State) : footing (releaseSource n simul s).2 = footing s := by
  simp only [releaseSource, footing_modFault, footing_enterClear, footing_setParked, footing_snd_ite, ite_self]

theorem footing_settleFaults (simul : Bool) (s : State) : footing (settleFaults simul s).2 = footing s := by
  have released := footing_foldl_snd (fun (v : List GbEntry × State) n => let w := releaseSource n simul v.2; (v.1 ++ w.1, w.2))
    (s.faults.due.foldl (fun s n => takeParams n s) s).faults.due [] (s.faults.due.foldl (fun s n => takeParams n s) s)
    (fun v n => footing_releaseSource n simul v.2)
  exact released.trans (footing_foldl _ _ _ (fun s n => footing_takeParams n s))

theorem footing_settleDue (s : State) : footing (settleDue s) = footing s := by
  simp only [settleDue, footing_settleFaults, footing_gbCollector, footing_ite, footing_foldl, implies_true, ite_self]

theorem footing_moveSource (evs : List FaultEvt) (n : Fin 512) (s : State) : footing (moveSource evs n s).2 = footing s := by rfl

theorem footing_latchFirst (moved : List Moved) (s : State) : footing (latchFirst moved s) = footing s := by
  simp only [latchFirst]
  (repeat' split) <;> simp only [footing_mk, footing_eta]

theorem footing_reactTo (m : Moved) (simul first : Bool) (e : FaultEvt) (s : State) : footing (reactTo m simul first e s) = footing s := by
  simp only [reactTo, footing_actFor, footing_gbCollector]

theorem footing_runTick (evs : List FaultEvt) (s : State) : footing (runTick evs s) = footing s := by
  unfold runTick
  dsimp only
  split <;> simp only [footing_orderlyStop, footing_foldl, footing_foldl_snd, footing_gbCollector, footing_reactTo, footing_latchFirst,
    footing_moveSource,
    footing_settleFaults, implies_true]

theorem footing_noteFlash (external : List FaultEvt) (s : State) : footing (noteFlash external s) = footing s := by
  simp only [noteFlash, footing_takeFree, footing_mk, footing_eta, footing_ite, ite_self]

theorem footing_execFaultEvent {external : List FaultEvt} {s t : State} (h : execFaultEvent external s = .next t) : footing t = footing s := by
  obtain rfl := Host.Outcome.next.inj h
  simp only [footing_noteFlash, footing_advanceTo, footing_runTick, footing_mk, footing_eta, footing_ite, ite_self]

theorem footing_recover (simul : Bool) (n : Fin 512) (s : State) : footing (recover simul n s) = footing s := by
  simp only [recover, footing_modFault, footing_setParked, footing_gbCollector, footing_enterClear, footing_ite, ite_self]

theorem footing_execFaultQuietExpiry {src : Fin 512} {s t : State} (h : execFaultQuietExpiry src s = .next t) : footing t = footing s := by
  obtain rfl := Host.Outcome.next.inj h
  simp only [footing_settleDue, footing_advanceTo, footing_recover, footing_ite, footing_foldl, implies_true, ite_self]

theorem footing_execFirstFaultClear {value : Word} {s t : State} (h : execFirstFaultClear value s = .next t) : footing t = footing s := by
  obtain rfl := Host.Outcome.next.inj h
  simp only [footing_mk, footing_eta, footing_ite, ite_self]

theorem footing_effectFaultStatus (r : Running) (s : State) : footing (effectFaultStatus r s).2 = footing s := by
  simp only [effectFaultStatus, footing_snd_ite, ite_self]

theorem footing_opFaultStatus (r : Running) (s : State) : footing (opFaultStatus r s).2 = footing s :=
  footing_guarded _ _ footing_effectFaultStatus _ _

theorem footing_effectReactionSet (r : Running) (s : State) : footing (effectReactionSet r s).2 = footing s := by rfl

theorem footing_opReactionSet (r : Running) (s : State) : footing (opReactionSet r s).2 = footing s :=
  footing_guarded _ _ footing_effectReactionSet _ _

theorem footing_effectFaultParamsSet (r : Running) (s : State) : footing (effectFaultParamsSet r s).2 = footing s := by rfl

theorem footing_opFaultParamsSet (r : Running) (s : State) : footing (opFaultParamsSet r s).2 = footing s :=
  footing_guarded _ _ footing_effectFaultParamsSet _ _

theorem footing_effectFaultRelease (r : Running) (s : State) : footing (effectFaultRelease r s).2 = footing s := by
  refine footing_foldl _ _ _ (fun s x => ?_)
  simp only [footing_modFault]

theorem footing_opFaultRelease (r : Running) (s : State) : footing (opFaultRelease r s).2 = footing s :=
  footing_guarded _ _ footing_effectFaultRelease _ _

/-! ## Machine/Thermal -/

theorem footing_modThermal (f : Thermal → Thermal) (s : State) : footing (modThermal f s) = footing s := by rfl

theorem footing_modSensor (n : Nat) (f : Sensor → Sensor) (s : State) : footing (modSensor n f s) = footing s := by rfl

theorem footing_postSubstituted (n severity : Nat) (s : State) : footing (postSubstituted n severity s) = footing s := by
  simp only [postSubstituted, footing_postEvent]

theorem footing_reportFailure (old : Sensor) (s : State) (n : Nat) : footing (reportFailure old s n) = footing s := by
  simp only [reportFailure, footing_postSubstituted, footing_raise, footing_ite, ite_self]

theorem footing_setWingStep (w : Fin 16) (new : Fin 7) (s : State) : footing (setWingStep w new s) = footing s := by
  simp only [setWingStep, footing_postEvent, footing_modThermal, footing_ite, ite_self]

theorem footing_wingStepTick (s : State) (w : Fin 16) : footing (wingStepTick s w) = footing s := by
  simp only [wingStepTick, footing_setWingStep]

theorem footing_spreadSteps (old : Vector (Fin 7) 16) (s : State) : footing (spreadSteps old s) = footing s := by
  refine footing_foldl _ _ _ (fun s x => ?_)
  simp only [footing_requestChange]

theorem footing_wingSteps (s : State) : footing (wingSteps s) = footing s := by
  simp only [wingSteps, footing_spreadSteps, footing_wingStepTick, footing_queueTwin, footing_ite, footing_foldl, implies_true, ite_self]

theorem footing_takeWingSteps (v : Vector Nat 16) (s : State) : footing (takeWingSteps v s) = footing s := by
  simp only [takeWingSteps, footing_spreadSteps, footing_setWingStep, footing_foldl, implies_true]

theorem footing_refreshThermalStops (s : State) : footing (refreshThermalStops s) = footing s := by
  refine footing_foldl _ _ _ (fun s p => ?_)
  dsimp only
  split
  · exact footing_stopPort _ _ _ _
  · exact footing_releasePort _ _ _ _

theorem footing_lifeTick (s : State) : footing (lifeTick s) = footing s := by
  simp only [lifeTick, footing_modThermal]

theorem footing_lifeSteps (s : State) : footing (lifeSteps s) = footing s := by
  simp only [lifeSteps, footing_lifeRecord, footing_modThermal, footing_ite, ite_self]

theorem footing_hotTick (s : State) : footing (hotTick s) = footing s := by rfl

theorem footing_thermalTick (m : SlowMeas) (s : State) : footing (thermalTick m s) = footing s := by
  simp only [thermalTick, footing_modThermal, footing_reportFailure, footing_hotTick, footing_lifeSteps, footing_lifeTick,
    footing_refreshThermalStops, footing_wingSteps, footing_mk, footing_eta, footing_foldl, implies_true]

theorem footing_postLevel (n : Nat) (stop up : Bool) (s : State) : footing (postLevel n stop up s) = footing s := by
  simp only [postLevel, footing_postEvent]

theorem footing_stopAllPorts (s : State) : footing (stopAllPorts s) = footing s := by
  simp only [stopAllPorts, footing_refreshPortStops, footing_portRecord, footing_modPort, footing_ite, footing_foldl, implies_true, ite_self]

theorem footing_dieStop (n : Nat) (s : State) : footing (dieStop n s) = footing s := by
  simp only [dieStop, footing_orderlyStop, footing_stopAllPorts, footing_ite, ite_self]

theorem footing_execThermalThresholdCross {n : Fin 32} {stop up : Bool} {s t : State} (h : execThermalThresholdCross n stop up s = .next t) :
    footing t = footing s := by
  obtain rfl := Host.Outcome.next.inj h
  simp only [footing_modSensor, footing_postLevel, footing_refreshThermalStops, footing_dieStop, footing_mk, footing_eta, footing_ite, ite_self]

theorem footing_execSensorReinstate {n : Fin 32} {s t : State} (h : execSensorReinstate n s = .next t) : footing t = footing s := by
  obtain rfl := Host.Outcome.next.inj h
  simp only [footing_modSensor, footing_postSubstituted, footing_ite, ite_self]

theorem footing_execThermalAutoRestart {s t : State} (h : execThermalAutoRestart s = .next t) : footing t = footing s := by
  obtain rfl := Host.Outcome.next.inj h
  simp only [footing_autoRestart, footing_ite, ite_self]

theorem footing_execLifeCheckpoint {hourly : Bool} {s t : State} (h : execLifeCheckpoint hourly s = .next t) : footing t = footing s := by
  obtain rfl := Host.Outcome.next.inj h
  simp only [footing_modThermal, footing_advanceTo, footing_ite, ite_self]

theorem footing_execDaily {s t : State} (h : execDaily s = .next t) : footing t = footing s := by
  obtain rfl := Host.Outcome.next.inj h
  simp only [footing_lifeRecord, footing_modThermal, footing_advanceTo, footing_ite, ite_self]

theorem footing_effectThermalConfigure (r : Running) (s : State) : footing (effectThermalConfigure r s).2 = footing s := by
  simp only [effectThermalConfigure, footing_modSensor, footing_modThermal, footing_ite, footing_foldl, implies_true, ite_self]

theorem footing_opThermalConfigure (r : Running) (s : State) : footing (opThermalConfigure r s).2 = footing s :=
  footing_guarded _ _ footing_effectThermalConfigure _ _

theorem footing_effectThermalStatus (x0 : Running) (s : State) : footing (effectThermalStatus x0 s).2 = footing s := by rfl

theorem footing_opThermalStatus (r : Running) (s : State) : footing (opThermalStatus r s).2 = footing s :=
  footing_guarded _ _ footing_effectThermalStatus _ _

theorem footing_effectSensorMapSet (r : Running) (s : State) : footing (effectSensorMapSet r s).2 = footing s := by rfl

theorem footing_opSensorMapSet (r : Running) (s : State) : footing (opSensorMapSet r s).2 = footing s :=
  footing_guarded _ _ footing_effectSensorMapSet _ _

theorem footing_effectLifeRead (x0 : Running) (s : State) : footing (effectLifeRead x0 s).2 = footing s := by rfl

theorem footing_opLifeRead (r : Running) (s : State) : footing (opLifeRead r s).2 = footing s :=
  footing_guarded _ _ footing_effectLifeRead _ _

/-! ## Machine/Trust -/

theorem footing_modNpt (f : NightPorter → NightPorter) (s : State) : footing (modNpt f s) = footing s := by rfl

theorem footing_modHr (f : HrStore → HrStore) (s : State) : footing (modHr f s) = footing s := by rfl

theorem footing_selectGeneration (s : State) : footing (selectGeneration s) = footing s := by
  unfold selectGeneration
  split <;> simp only [footing_modHr, footing_raise, footing_addMute, footing_ite, footing_foldl, implies_true, ite_self]

theorem footing_regateGain (e : Fin 64 × Dir) (s : State) : footing (regateGain e s) = footing s := by
  simp only [regateGain, footing_setTarget, footing_ite, ite_self]

theorem footing_regateMargin (e : Fin 64 × Dir) (s : State) : footing (regateMargin e s) = footing s := by
  simp only [regateMargin, footing_requestChange, footing_gateClamped, footing_ite, ite_self]

theorem footing_regateLimit (was : HouseRules) (e : Fin 64 × Dir) (s : State) : footing (regateLimit was e s) = footing s := by
  unfold regateLimit
  split <;> simp only [footing_requestChange, footing_gateClamped, footing_modGain]

theorem footing_regateDonor (c : Fin 64) (s : State) : footing (regateDonor c s) = footing s := by
  simp only [regateDonor, footing_requestChange, footing_gateClamped, footing_ite, ite_self]

theorem footing_heldComposite (was : HouseRules) (p : Fin 8) (s : State) : footing (heldComposite was p s) = footing s := by
  simp only [heldComposite, footing_modPort, footing_ite, ite_self]

theorem footing_regateComposite (was : HouseRules) (p : Fin 8) (s : State) : footing (regateComposite was p s) = footing s := by
  simp only [regateComposite]
  (repeat' split) <;> simp only [footing_gateClamped, footing_withPort, footing_requestChange, footing_heldComposite, footing_foldl, implies_true]

theorem footing_regateDuty (slot : Fin 8) (s : State) : footing (regateDuty slot s) = footing s := by
  unfold regateDuty
  split <;> simp only [footing_gateRefused, footing_ite, ite_self]

theorem footing_regateBand (e : Fin 64 × Dir) (s : State) : footing (regateBand e s) = footing s := by
  simp only [regateBand, footing_addMute, footing_ite, ite_self]

theorem footing_boundCeiling (c : Fin 64) (d : Dir) (s : State) : footing (boundCeiling c d s) = footing s := by rfl

theorem footing_regate (was : HouseRules) (s : State) : footing (regate was s) = footing s := by
  simp only [regate, footing_regateLimit, footing_regateMargin, footing_regateGain, footing_regateDonor, footing_regateComposite,
    footing_regateDuty, footing_regateBand, footing_boundCeiling, footing_foldl, implies_true]

theorem footing_systemRecord (cls severity codeOf writer : Nat) (bytes : List Byte) (events : List EventRec) (s : State) :
    footing (systemRecord cls severity codeOf writer bytes events s) = footing s := by
  simp only [systemRecord, footing_logRecord]

theorem footing_refuseRules (r : Running) (slot : Nat) (e : Reject) (s : State) : footing (refuseRules r slot e s).2 = footing s := by
  simp only [refuseRules, footing_systemRecord]

theorem footing_effectHrRead (r : Running) (s : State) : footing (effectHrRead r s).2 = footing s := by rfl

theorem footing_opHrRead (r : Running) (s : State) : footing (opHrRead r s).2 = footing s :=
  footing_guarded _ _ footing_effectHrRead _ _

theorem footing_effectAmendChallenge (x0 : Running) (s : State) : footing (effectAmendChallenge x0 s).2 = footing s := by rfl

theorem footing_opHrAmendChallenge (r : Running) (s : State) : footing (opHrAmendChallenge r s).2 = footing s :=
  footing_guarded _ _ footing_effectAmendChallenge _ _

theorem footing_beginAmend (r : Running) (s : State) : footing (beginAmend r s).2 = footing s := by
  simp only [beginAmend]
  (repeat' split) <;> simp only [footing_refuseRules, footing_modHr]

theorem footing_endAmend (r : Running) (s : State) : footing (endAmend r s).2 = footing s := by
  simp only [endAmend, footing_raise, footing_modHr, footing_regate, footing_systemRecord, footing_snd_ite, ite_self]

theorem footing_opHrAmend (r : Running) (s : State) : footing (opHrAmend r s).2 = footing s := by
  simp only [opHrAmend, footing_endAmend, footing_beginAmend, footing_snd_ite, ite_self]

theorem footing_opHrLock (r : Running) (s : State) : footing (opHrLock r s).2 = footing s := by
  simp only [opHrLock]
  (repeat' split) <;> simp only [footing_systemRecord, footing_refuseRules, footing_modHr]

theorem footing_modSlot (b : Bool) (f : PatchSlot → PatchSlot) (s : State) : footing (modSlot b f s) = footing s := by
  unfold modSlot
  split <;> simp only [footing_modSys, footing_eta, form_mk, form_eta]

theorem footing_bootInnkeeper (s : State) : footing (bootInnkeeper s) = footing s := by
  unfold bootInnkeeper
  split <;> simp only [footing_modSys, footing_systemRecord, footing_eta, form_mk, form_eta]

theorem footing_beginPatchLoad (r : Running) (s : State) : footing (beginPatchLoad r s).2 = footing s := by
  unfold beginPatchLoad
  split <;> simp only [footing_systemRecord, footing_modSlot, footing_ite, ite_self]

theorem footing_patchVerified (r : Running) (s : State) : footing (patchVerified r s).2 = footing s := by
  simp only [patchVerified, footing_raise, footing_modSlot, footing_systemRecord, footing_modSys, footing_eta, form_mk, form_eta, footing_snd_ite,
    ite_self]

theorem footing_opPatchLoad (r : Running) (s : State) : footing (opPatchLoad r s).2 = footing s := by
  unfold opPatchLoad
  split <;> simp only [footing_beginPatchLoad, footing_patchVerified, footing_snd_ite, ite_self]

theorem footing_failPatchLoads (s : State) : footing (failPatchLoads s) = footing s := by
  simp only [failPatchLoads, footing_hardwareDone, footing_ite, footing_foldl, implies_true, ite_self]

theorem footing_execInnkeeperWatchdog {s t : State} (h : execInnkeeperWatchdog s = .next t) : footing t = footing s := by
  obtain rfl := Host.Outcome.next.inj h
  simp only [footing_modSlot, footing_raise, footing_failPatchLoads, footing_modSys, footing_eta, form_mk, form_eta, footing_ite, ite_self]

theorem footing_execInnkeeperRestartDone {s t : State} (h : execInnkeeperRestartDone s = .next t) : footing t = footing s := by
  obtain rfl := Host.Outcome.next.inj h
  simp only [footing_bootInnkeeper, footing_modSys, footing_systemRecord, footing_eta, form_mk, form_eta, footing_ite, ite_self]

theorem footing_execPatchFloorRaise {s t : State} (h : execPatchFloorRaise s = .next t) : footing t = footing s := by
  obtain rfl := Host.Outcome.next.inj h
  simp only [footing_modSys, footing_eta, form_mk, form_eta, footing_ite, ite_self]

theorem footing_setLodger (n : Fin 4) (v : LodgerState) (cause writer : Nat) (s : State) : footing (setLodger n v cause writer s) = footing s := by
  simp only [setLodger, footing_modLodger, footing_systemRecord, implies_true]

theorem footing_runLodger (n : Fin 4) (cause writer : Nat) (s : State) : footing (runLodger n cause writer s) = footing s := by
  simp only [runLodger, footing_setLodger, footing_modLodger, implies_true]

theorem footing_effectLodgerLoad (r : Running) (s : State) : footing (effectLodgerLoad r s).2 = footing s := by
  unfold effectLodgerLoad
  dsimp only
  rw [footing_systemRecord, footing_setLodger]
  refine footing_modLodger _ _ _ (fun x => ?_)
  split_ifs <;> rfl

theorem footing_beginLodgerLoad (r : Running) (s : State) : footing (beginLodgerLoad r s).2 = footing s := by rfl

theorem footing_opLodgerLoad (r : Running) (s : State) : footing (opLodgerLoad r s).2 = footing s := by
  unfold opLodgerLoad
  (repeat' split) <;> simp only [footing_beginLodgerLoad, footing_effectLodgerLoad, implies_true, footing_guarded]

theorem footing_effectLodgerStart (r : Running) (s : State) : footing (effectLodgerStart r s).2 = footing s := by
  simp only [effectLodgerStart, footing_runLodger]

theorem footing_opLodgerStart (r : Running) (s : State) : footing (opLodgerStart r s).2 = footing s :=
  footing_guarded _ _ footing_effectLodgerStart _ _

theorem footing_effectLodgerStop (r : Running) (s : State) : footing (effectLodgerStop r s).2 = footing s := by
  simp only [effectLodgerStop, footing_setLodger, footing_modLodger, implies_true]

theorem footing_opLodgerStop (r : Running) (s : State) : footing (opLodgerStop r s).2 = footing s :=
  footing_guarded _ _ footing_effectLodgerStop _ _

theorem footing_execLodgerWatchdog {n : Fin 4} {s t : State} (h : execLodgerWatchdog n s = .next t) : footing t = footing s := by
  obtain rfl := Host.Outcome.next.inj h
  simp only [footing_setLodger, footing_modLodger, footing_raise, footing_ite, implies_true, ite_self]

theorem footing_execLodgerAutorestart {n : Fin 4} {s t : State} (h : execLodgerAutorestart n s = .next t) : footing t = footing s := by
  obtain rfl := Host.Outcome.next.inj h
  simp only [footing_runLodger, footing_ite, ite_self]

theorem footing_execDeskViolation {n : Fin 4} {s t : State} (h : execDeskViolation n s = .next t) : footing t = footing s := by
  obtain rfl := Host.Outcome.next.inj h
  simp only [footing_raise, footing_modLodger, footing_ite, implies_true, ite_self]

theorem footing_effectDeskFaultEvent (r : Running) (s : State) : footing (effectDeskFaultEvent r s).2 = footing s := by rfl

theorem footing_opDeskFaultEvent (r : Running) (s : State) : footing (opDeskFaultEvent r s).2 = footing s :=
  footing_guarded _ _ footing_effectDeskFaultEvent _ _

theorem footing_effectDeskWatchdog (r : Running) (s : State) : footing (effectDeskWatchdog r s).2 = footing s := by
  simp only [effectDeskWatchdog, footing_modLodger, implies_true]

theorem footing_opDeskWatchdog (r : Running) (s : State) : footing (opDeskWatchdog r s).2 = footing s :=
  footing_guarded _ _ footing_effectDeskWatchdog _ _

theorem footing_effectDeskHostMessage (r : Running) (s : State) : footing (effectDeskHostMessage r s).2 = footing s := by
  simp only [effectDeskHostMessage, footing_postEvent]

theorem footing_opDeskHostMessage (r : Running) (s : State) : footing (opDeskHostMessage r s).2 = footing s :=
  footing_guarded _ _ footing_effectDeskHostMessage _ _

theorem footing_opDeskDenied (r : Running) (s : State) : footing (opDeskDenied r s).2 = footing s := by rfl

theorem footing_effectIdentityRead (x0 : Running) (s : State) : footing (effectIdentityRead x0 s).2 = footing s := by rfl

theorem footing_opIdentityRead (r : Running) (s : State) : footing (opIdentityRead r s).2 = footing s :=
  footing_guarded _ _ footing_effectIdentityRead _ _

theorem footing_effectAttest (r : Running) (s : State) : footing (effectAttest r s).2 = footing s := by rfl

theorem footing_opAttest (r : Running) (s : State) : footing (opAttest r s).2 = footing s :=
  footing_guarded _ _ footing_effectAttest _ _

/-! ## Machine/System -/

theorem footing_accept (x : Desc) (s : State) : footing (accept x s) = footing s := by
  simp only [accept, footing_modSys, footing_eta, form_mk, form_eta, footing_ite, ite_self]

theorem footing_opConfigSave (r : Running) (s : State) : footing (opConfigSave r s).2 = footing s := by
  simp only [opConfigSave]
  (repeat' split) <;> simp only [footing_raise, footing_takeFree, footing_systemRecord, footing_modSys, footing_eta, form_mk, form_eta]

theorem footing_replayFailed (x : Desc) (status : Status) (detail : Nat) (s : State) : footing (replayFailed x status detail s) = footing s := by
  simp only [replayFailed, footing_modSource, footing_modSys, footing_systemRecord, footing_eta, form_mk, form_eta]

theorem footing_replay (image : SavedConfig) (s : State) : footing (replay image s) = footing s := by rfl

theorem footing_bootCore (s : State) : footing (bootCore s) = footing s := by
  simp only [bootCore, footing_phasesOn, footing_modRail, footing_ite, ite_self]

theorem footing_execCoreResetRelease {s t : State} (h : execCoreResetRelease s = .next t) : footing t = footing s := by
  obtain rfl := Host.Outcome.next.inj h
  simp only [footing_modSupply, footing_modThermal, footing_modSys, footing_eta, form_mk, form_eta, footing_ite, ite_self]

theorem footing_execBoardReset {s t : State} (h : execBoardReset s = .next t) : footing t = footing s := by
  obtain rfl := Host.Outcome.next.inj h
  simp only [footing_ite, footing_modNpt, footing_modSupply, footing_coreReset, ite_self]

theorem footing_orderReset (ms : Nat) (s : State) : footing (orderReset ms s) = footing s := by rfl

theorem footing_execSysReset {value : Word} {s t : State} (h : execSysReset value s = .next t) : footing t = footing s := by
  obtain rfl := Host.Outcome.next.inj h
  simp only [footing_orderReset, footing_ite, ite_self]

theorem footing_execCriticalTrip {east : Bool} {s t : State} (h : execCriticalTrip east s = .next t) : footing t = footing s := by
  obtain rfl := Host.Outcome.next.inj h
  simp only [footing_ite, footing_modNpt, footing_coreReset, footing_modThermal, ite_self]

theorem footing_execCriticalRecovery {s t : State} (h : execCriticalRecovery s = .next t) : footing t = footing s := by
  obtain rfl := Host.Outcome.next.inj h
  simp only [footing_bootCore, footing_modNpt, footing_ite, ite_self]

theorem footing_execComparatorArmed {vsdh : Bool} {s t : State} (h : execComparatorArmed vsdh s = .next t) : footing t = footing s := by
  obtain rfl := Host.Outcome.next.inj h
  rfl

theorem footing_execSupplyComparatorTrip {vsdh : Bool} {s t : State} (h : execSupplyComparatorTrip vsdh s = .next t) :
    footing t = footing s := by
  obtain rfl := Host.Outcome.next.inj h
  simp only [footing_ite, footing_modNpt, footing_coreReset, ite_self]

theorem footing_execSupplyRecovered {vsdh : Bool} {s t : State} (h : execSupplyRecovered vsdh s = .next t) : footing t = footing s := by
  obtain rfl := Host.Outcome.next.inj h
  simp only [footing_bootCore, footing_modNpt, footing_ite, ite_self]

theorem footing_execHoldupTrip {s t : State} (h : execHoldupTrip s = .next t) : footing t = footing s := by
  obtain rfl := Host.Outcome.next.inj h
  simp only [footing_modNpt, footing_holdupCommit, footing_beginHandover, footing_raise, footing_ite, ite_self]

theorem footing_execHoldupReopen {s t : State} (h : execHoldupReopen s = .next t) : footing t = footing s := by
  obtain rfl := Host.Outcome.next.inj h
  simp only [footing_writeOverflow, footing_modGb, footing_modNpt, footing_ite, ite_self]

theorem footing_execRtcOscillatorFailure {s t : State} (h : execRtcOscillatorFailure s = .next t) : footing t = footing s := by
  obtain rfl := Host.Outcome.next.inj h
  rfl

theorem footing_resumeCounts (s : State) : footing (resumeCounts s) = footing s := by rfl

theorem footing_restoreParked (s : State) : footing (restoreParked s) = footing s := by
  refine footing_foldl _ _ _ (fun s x => ?_)
  simp only [footing_modFault]

theorem footing_raiseTrips (s : State) : footing (raiseTrips s) = footing s := by
  simp only [raiseTrips, footing_raise, footing_modNpt, footing_ite, footing_foldl, implies_true, ite_self]

theorem footing_reportCutoff (s : State) : footing (reportCutoff s) = footing s := by
  simp only [reportCutoff, footing_lifeRecord, footing_raise, footing_modThermal, footing_ite, ite_self]

theorem footing_loadCalibrations (s : State) : footing (loadCalibrations s) = footing s := by
  refine footing_foldl _ _ _ (fun s x => ?_)
  simp only [footing_modPort]

theorem footing_startLodgers (s : State) : footing (startLodgers s) = footing s := by
  refine footing_foldl _ _ _ (fun s x => ?_)
  (repeat' split) <;> simp only [footing_runLodger, footing_modLodger, implies_true]

theorem footing_startUp (s : State) : footing (startUp s) = footing s := by
  simp only [startUp, footing_startLodgers, footing_setLink, footing_trainLink, footing_modSys, footing_eta, form_mk, form_eta, footing_ite, ite_self]
  (repeat' split) <;> simp only [footing_selectGeneration, footing_bootInnkeeper, footing_modNpt, footing_resumeCounts, footing_guestbookStart,
    footing_powerRecord, footing_startCoreLoop, footing_loadCalibrations, footing_restoreParked, footing_raiseTrips, footing_reportCutoff,
    footing_replay]

theorem footing_calibratePlans (s : State) : footing (calibratePlans s) = footing s := by
  simp only [calibratePlans, footing_modRadio, footing_ite, footing_foldl, implies_true, ite_self]

theorem footing_changeOwner (mine : Bool) (cause at_ : Nat) (s : State) : footing (changeOwner mine cause at_ s) = footing s := by
  simp only [changeOwner, footing_modTwin, footing_systemRecord]

theorem footing_claimService (s : State) : footing (claimService s) = footing s := by rfl

theorem footing_twinReady (s : State) : footing (twinReady s) = footing s := by
  simp only [twinReady, footing_modTwin, footing_claimService, footing_ite, ite_self]

theorem footing_legacyReady (s : State) : footing (legacyReady s) = footing s := by
  simp only [legacyReady, footing_mk, footing_eta, footing_ite, ite_self]

theorem footing_execRfReady {s t : State} (h : execRfReady s = .next t) : footing t = footing s := by
  obtain rfl := Host.Outcome.next.inj h
  simp only [footing_calibratePlans, footing_modSys, footing_powerRecord, footing_legacyReady, footing_twinReady, footing_systemRecord, footing_eta,
    form_mk, form_eta, footing_ite, ite_self]

theorem footing_beginSleep (s : State) : footing (beginSleep s) = footing s := by
  simp only [beginSleep, footing_beginStop, footing_modSys, footing_eta, form_mk, form_eta, footing_ite, ite_self]

theorem footing_sleepCommit (writer : Nat) (s : State) : footing (sleepCommit writer s) = footing s := by
  simp only [sleepCommit, footing_modSys, footing_powerRecord, footing_closeTail, footing_commitAll, footing_takeEntries, footing_eta, form_mk,
    form_eta]

theorem footing_wake (cause : Nat) (receivers : Byte) (s : State) : footing (wake cause receivers s) = footing s := by
  simp only [wake, footing_modNpt, footing_bootCore, footing_modSys, footing_eta, form_mk, form_eta]

theorem footing_wakeCause (cause : Nat) (receivers : Byte) (s : State) : footing (wakeCause cause receivers s) = footing s := by
  simp only [wakeCause, footing_wake, footing_modNpt, footing_ite, ite_self]

theorem footing_execSleepL2WaitEnd {s t : State} (h : execSleepL2WaitEnd s = .next t) : footing t = footing s := by
  obtain rfl := Host.Outcome.next.inj h
  dsimp only
  split
  · split
    · rw [footing_wake]
      exact footing_coreReset s
    · exact footing_coreReset s
  · rfl

theorem footing_execWakeDetect {levels : Vector (List Int) 8} {s t : State} (h : execWakeDetect levels s = .next t) : footing t = footing s := by
  obtain rfl := Host.Outcome.next.inj h
  simp only [footing_wakeCause, footing_ite, ite_self]

theorem footing_operatingTo (us : Nat) (s : State) : footing (operatingTo us s) = footing s := by
  simp only [operatingTo, footing_advanceTo, footing_mk, footing_eta, footing_ite, ite_self]

theorem footing_execWallClockAlarm {s t : State} (h : execWallClockAlarm s = .next t) : footing t = footing s := by
  obtain rfl := Host.Outcome.next.inj h
  simp only [footing_wakeCause, footing_operatingTo, footing_ite, ite_self]

theorem footing_execPerstRelease {s t : State} (h : execPerstRelease s = .next t) : footing t = footing s := by
  obtain rfl := Host.Outcome.next.inj h
  simp only [footing_modSys, footing_trainLink, footing_wakeCause, footing_eta, form_mk, form_eta, footing_ite, ite_self]

theorem footing_lossTick (s : State) : footing (lossTick s) = footing s := by rfl

theorem footing_execAutoSleep {s t : State} (h : execAutoSleep s = .next t) : footing t = footing s := by
  obtain rfl := Host.Outcome.next.inj h
  simp only [footing_beginSleep, footing_ite, ite_self]

theorem footing_effectDeviceInfo (x0 : Running) (s : State) : footing (effectDeviceInfo x0 s).2 = footing s := by rfl

theorem footing_opDeviceInfo (r : Running) (s : State) : footing (opDeviceInfo r s).2 = footing s :=
  footing_guarded _ _ footing_effectDeviceInfo _ _

theorem footing_effectDeviceReset (x0 : Running) (s : State) : footing (effectDeviceReset x0 s).2 = footing s := by rfl

theorem footing_opDeviceReset (r : Running) (s : State) : footing (opDeviceReset r s).2 = footing s :=
  footing_guarded _ _ footing_effectDeviceReset _ _

theorem footing_setPolicy (x : Desc) (s : State) : footing (setPolicy x s) = footing s := by rfl

theorem footing_setPower (v : PowerState) (writer : Nat) (s : State) : footing (setPower v writer s) = footing s := by
  simp only [setPower, footing_powerRecord, footing_refreeze, footing_modSys, footing_eta, form_mk, form_eta]

theorem footing_beginPowerStateSet (r : Running) (s : State) : footing (beginPowerStateSet r s).2 = footing s := by
  simp only [beginPowerStateSet, footing_setPolicy, footing_setPower, footing_modSys, footing_beginSleep, footing_eta, form_mk, form_eta,
    footing_snd_ite, ite_self]

theorem footing_endQuiet (r : Running) (s : State) : footing (endQuiet r s).2 = footing s := by
  simp only [endQuiet, footing_setPower, footing_snd_ite, ite_self]

theorem footing_endSleep (r : Running) (s : State) : footing (endSleep r s).2 = footing s := by
  unfold endSleep
  split <;> simp only [footing_sleepCommit]

theorem footing_opPowerStateSet (r : Running) (s : State) : footing (opPowerStateSet r s).2 = footing s := by
  unfold opPowerStateSet
  (repeat' split) <;> simp only [footing_beginPowerStateSet, footing_endQuiet, footing_endSleep, implies_true, footing_guarded]

theorem footing_beginOrderlyStop (r : Running) (s : State) : footing (beginOrderlyStop r s).2 = footing s := by
  simp only [beginOrderlyStop, footing_protRecord, footing_modSys, footing_orderlyStop, footing_eta, form_mk, form_eta, footing_ite,
    footing_snd_ite, ite_self]

theorem footing_opOrderlyStop (r : Running) (s : State) : footing (opOrderlyStop r s).2 = footing s := by
  unfold opOrderlyStop
  (repeat' split) <;> simp only [footing_beginOrderlyStop, implies_true, footing_guarded]

theorem footing_effectRestart (r : Running) (s : State) : footing (effectRestart r s).2 = footing s := by
  simp only [effectRestart, footing_beginRestart]

theorem footing_opRestart (r : Running) (s : State) : footing (opRestart r s).2 = footing s := by
  unfold opRestart
  (repeat' split) <;> simp only [footing_effectRestart, implies_true, footing_guarded]

/-! ## Machine/Compat -/

theorem footing_modCompat (f : Compat → Compat) (s : State) : footing (modCompat f s) = footing s := by rfl

theorem footing_modGqChan (n : Fin 16) (f : GqChan → GqChan) (s : State) : footing (modGqChan n f s) = footing s := by rfl

theorem footing_gqError (codeOf : Nat) (s : State) : footing (gqError codeOf s) = footing s := by rfl

theorem footing_gqGate {write : State → State} (h : ∀ s, footing (write s) = footing s) (s : State) : footing (gqGate write s) = footing s := by
  simp only [gqGate, footing_ite, footing_gqError, h, ite_self]

theorem footing_queueLegacy (addr : Nat) (before : Half) (last : Bool) (x : LegacyCmd) (s : State) :
    footing (queueLegacy addr before last x s) = footing s := by rfl

theorem footing_queueAll (addr : Nat) (before : Half) (cmds : List LegacyCmd) (s : State) : footing (queueAll addr before cmds s) = footing s := by
  induction cmds generalizing s with
  | nil => rfl
  | cons x rest ih => exact (ih _).trans (footing_queueLegacy _ _ _ _ _)

theorem footing_gqIssue (addr : Nat) (before : Half) (cmds : List LegacyCmd) {change : State → State} (h : ∀ s, footing (change s) = footing s)
    (s : State) : footing (gqIssue addr before cmds change s) = footing s := by
  simp only [gqIssue, footing_ite, footing_gqError, footing_queueAll, h, ite_self]

theorem footing_gqRead (addr : Nat) (s : State) : footing (gqRead addr s).2 = footing s := by
  simp only [gqRead]
  (repeat' split) <;> simp only [footing_modCompat]

theorem footing_execGqHiRead {addr : BitVec 12} {s t : State} (h : execGqHiRead addr s = .next t) : footing t = footing s := by
  obtain rfl := Host.Outcome.next.inj h
  simp only [footing_gqRead, footing_ite, ite_self]

theorem footing_runWrite (run : Bool) (s : State) : footing (runWrite run s) = footing s := footing_gqIssue _ _ _ (footing_modCompat _) s

theorem footing_execGqRunClear {s t : State} (h : execGqRunClear s = .next t) : footing t = footing s :=
  Host.Outcome.next.inj h ▸ footing_gqGate (footing_runWrite false) s

theorem footing_execGqRunSet {s t : State} (h : execGqRunSet s = .next t) : footing t = footing s :=
  Host.Outcome.next.inj h ▸ footing_gqGate (footing_runWrite true) s

theorem footing_legacyReset (s : State) : footing (legacyReset s) = footing s := by
  simp only [legacyReset, footing_legacyReady, footing_modCompat]

theorem footing_softReset (run agl : Bool) (s : State) : footing (softReset run agl s) = footing s := by
  unfold softReset
  dsimp only
  rw [footing_ite, footing_legacyReset, footing_gqIssue _ _ _ (footing_modCompat _), ite_self]

theorem footing_execGqSoftReset {s t : State} (h : execGqSoftReset s = .next t) : footing t = footing s :=
  Host.Outcome.next.inj h ▸ footing_gqGate (fun s => footing_softReset _ _ s) s

theorem footing_centreWrite (d : Dir) (lo : Half) (s : State) : footing (centreWrite d lo s) = footing s := by
  unfold centreWrite
  dsimp only
  rw [footing_ite, footing_ite, footing_gqError, footing_gqIssue _ _ _ (footing_modCompat _), footing_gqIssue _ _ _ (footing_modCompat _),
    ite_self, ite_self]

theorem footing_execGqCentreWrite {d : Dir} {lo : Half} {s t : State} (h : execGqCentreWrite d lo s = .next t) :
    footing t = footing s :=
  Host.Outcome.next.inj h ▸ footing_gqGate (footing_centreWrite d lo) s

theorem footing_ctrlChange (n : Fin 16) (f : GqChan → GqChan) (s : State) : footing (ctrlChange n f s) = footing s :=
  footing_gqIssue _ _ _ (footing_modGqChan n f) s

theorem footing_execChEnableSet {n : Fin 16} {s t : State} (h : execChEnableSet n s = .next t) : footing t = footing s :=
  Host.Outcome.next.inj h ▸ footing_gqGate (footing_ctrlChange n _) s

theorem footing_execChEnableClear {n : Fin 16} {s t : State} (h : execChEnableClear n s = .next t) : footing t = footing s :=
  Host.Outcome.next.inj h ▸ footing_gqGate (footing_ctrlChange n _) s

theorem footing_execChMuteWrite {n : Fin 16} {dlMute ulMute : Bool} {s t : State} (h : execChMuteWrite n dlMute ulMute s = .next t) :
    footing t = footing s :=
  Host.Outcome.next.inj h ▸ footing_gqGate (footing_ctrlChange n _) s

theorem footing_execChBwWrite {n : Fin 16} {bw : BitVec 2} {s t : State} (h : execChBwWrite n bw s = .next t) : footing t = footing s := by
  obtain rfl := Host.Outcome.next.inj h
  refine footing_gqGate (fun s => ?_) s
  split
  · exact footing_gqError 3 s
  · exact footing_ctrlChange n _ s

theorem footing_execChSquelchWrite {n : Fin 16} {on : Bool} {s t : State} (h : execChSquelchWrite n on s = .next t) :
    footing t = footing s :=
  Host.Outcome.next.inj h ▸ footing_gqGate (footing_ctrlChange n _) s

theorem footing_freqWrite (n : Fin 16) (d : Dir) (lo : Half) (s : State) : footing (freqWrite n d lo s) = footing s :=
  footing_gqIssue _ _ _ (footing_modGqChan n _) s

theorem footing_execChFreqWrite {n : Fin 16} {d : Dir} {lo : Half} {s t : State} (h : execChFreqWrite n d lo s = .next t) :
    footing t = footing s :=
  Host.Outcome.next.inj h ▸ footing_gqGate (footing_freqWrite n d lo) s

theorem footing_gainWrite (n : Fin 16) (d : Dir) (gain : Half) (s : State) : footing (gainWrite n d gain s) = footing s := by
  unfold gainWrite
  dsimp only
  rw [footing_ite, footing_gqError, footing_gqIssue _ _ _ (footing_modGqChan n _), ite_self]

theorem footing_execChGainWrite {n : Fin 16} {d : Dir} {gain : Half} {s t : State} (h : execChGainWrite n d gain s = .next t) :
    footing t = footing s :=
  Host.Outcome.next.inj h ▸ footing_gqGate (footing_gainWrite n d gain) s

theorem footing_marginWrite (margin : Half) (agl : Bool) (s : State) : footing (marginWrite margin agl s) = footing s := by
  simp only [marginWrite, footing_gqError, footing_modCompat, footing_ite, ite_self]

theorem footing_execGqMarginWrite {margin : Half} {agl : Bool} {s t : State} (h : execGqMarginWrite margin agl s = .next t) :
    footing t = footing s :=
  Host.Outcome.next.inj h ▸ footing_gqGate (footing_marginWrite margin agl) s

theorem footing_limitWrite (d : Dir) (limit : Half) (s : State) : footing (limitWrite d limit s) = footing s := by
  unfold limitWrite
  dsimp only
  rw [footing_ite, footing_gqError, footing_gqIssue _ _ _ (footing_modCompat _), ite_self]

theorem footing_execGqPowerLimitWrite {d : Dir} {limit : Half} {s t : State} (h : execGqPowerLimitWrite d limit s = .next t) :
    footing t = footing s :=
  Host.Outcome.next.inj h ▸ footing_gqGate (footing_limitWrite d limit) s

theorem footing_lossWrite (value : Half) (s : State) : footing (lossWrite value s) = footing s := by
  unfold lossWrite
  dsimp only
  rw [footing_ite, footing_gqError, footing_gqIssue _ _ _ (footing_modCompat _), ite_self]

theorem footing_execGqDonorLossWrite {value : Half} {s t : State} (h : execGqDonorLossWrite value s = .next t) :
    footing t = footing s :=
  Host.Outcome.next.inj h ▸ footing_gqGate (footing_lossWrite value) s

theorem footing_oscClear (n : Fin 16) (d : Dir) (s : State) : footing (oscClear n d s) = footing s := by
  simp only [oscClear, footing_modGqChan, footing_startMeasurement, footing_ite, ite_self]

theorem footing_execChOscClear {n : Fin 16} {d : Dir} {s t : State} (h : execChOscClear n d s = .next t) : footing t = footing s :=
  Host.Outcome.next.inj h ▸ footing_gqGate (footing_oscClear n d) s

theorem footing_ctrlWrite (v : Half) (s : State) : footing (ctrlWrite v s) = footing s := by
  unfold ctrlWrite
  dsimp only
  rw [footing_ite, footing_softReset, footing_gqIssue _ _ _ (footing_modCompat _), ite_self]

theorem footing_chanCtrlWrite (n : Fin 16) (v : Half) (s : State) : footing (chanCtrlWrite n v s) = footing s := by
  simp only [chanCtrlWrite, footing_gqError, footing_ctrlChange, footing_ite, ite_self]

theorem footing_alarmWrite (n : Fin 16) (v : Half) (s : State) : footing (alarmWrite n v s) = footing s := by
  simp only [alarmWrite, footing_oscClear, footing_modGqChan, footing_ite, ite_self]

theorem footing_chanWrite (n : Fin 16) (off : Nat) (v : Half) (s : State) : footing (chanWrite n off v s) = footing s := by
  unfold chanWrite
  split <;> simp only [footing_chanCtrlWrite, footing_modGqChan, footing_freqWrite, footing_gainWrite, footing_alarmWrite]

theorem footing_globalWrite (addr : Nat) (v : Half) (s : State) : footing (globalWrite addr v s) = footing s := by
  unfold globalWrite
  split <;> simp only [footing_ctrlWrite, footing_modCompat, footing_centreWrite, footing_marginWrite, footing_limitWrite, footing_lossWrite,
    footing_ite, ite_self]

theorem footing_gqWrite (addr : Nat) (v : Half) (s : State) : footing (gqWrite addr v s) = footing s :=
  footing_gqGate (fun s => by simp only [footing_ite, footing_chanWrite, footing_globalWrite, ite_self]) s

theorem footing_legacyApplied (w : GqWait) (x : Desc) (s : State) : footing (legacyApplied w x s) = footing s := by
  simp only [legacyApplied, footing_modGqChan, footing_modCompat, footing_ite, ite_self]

theorem footing_legacyRestore (w : GqWait) (s : State) : footing (legacyRestore w s) = footing s := by
  simp only [legacyRestore]
  (repeat' split) <;> simp only [footing_modCompat, footing_modGqChan]

theorem footing_legacyRefused (w : GqWait) (st : Status) (detail : Nat) (s : State) : footing (legacyRefused w st detail s) = footing s := by
  simp only [legacyRefused, footing_modCompat, footing_modSource, footing_gqError, footing_legacyRestore]

theorem footing_legacyDone (x : Desc) (st : Status) (detail : Nat) (s : State) : footing (legacyDone x st detail s) = footing s := by
  unfold legacyDone
  split <;> simp only [footing_modCompat, footing_legacyApplied, footing_legacyRefused, footing_legacyReset, footing_ite, ite_self]

theorem footing_readBurst (addr n : Nat) (s : State) : footing (readBurst addr n s).2 = footing s := by
  induction n generalizing addr s with
  | zero => rfl
  | succ n ih => exact (ih _ _).trans (footing_gqRead addr s)

theorem footing_writeBurst (addr : Nat) (vs : List Half) (s : State) : footing (writeBurst addr vs s) = footing s := by
  induction vs generalizing addr s with
  | nil => rfl
  | cons v rest ih => exact (ih _ _).trans (footing_gqWrite addr v s)

theorem footing_execLegacySpiFrame {header : Half} {words : List Half} {lastWordClocks : Nat} {s t : State}
    (h : execLegacySpiFrame header words lastWordClocks s = .next t) : footing t = footing s := by
  obtain rfl := Host.Outcome.next.inj h
  simp only [footing_modCompat, footing_gqError, footing_readBurst, footing_writeBurst, footing_ite, ite_self]

theorem footing_execCompatWindowAccess {isWrite : Bool} {offset : BitVec 12} {value : Word} {byteEnables : BitVec 4} {s t : State}
    (h : execCompatWindowAccess isWrite offset value byteEnables s = .next t) : footing t = footing s := by
  obtain rfl := Host.Outcome.next.inj h
  simp only [footing_gqWrite, footing_gqRead, footing_modCompat, footing_ite, footing_snd_ite, ite_self]

theorem footing_legacyMeasure (n : Fin 16) (s : State) (d : Dir) : footing (legacyMeasure n s d) = footing s := by rfl

theorem footing_legacyTick (s : State) : footing (legacyTick s) = footing s := by
  simp only [legacyTick, footing_legacyMeasure, footing_modCompat, footing_ite, footing_foldl, implies_true, ite_self]

theorem footing_execSafetyNetRelease {c : Fin 64} {d : Dir} {s t : State} (h : execSafetyNetRelease c d s = .next t) : footing t = footing s := by
  obtain rfl := Host.Outcome.next.inj h
  simp only [footing_modGq, footing_settle, footing_dirRecord, footing_ite, ite_self]

/-! ## Machine/DataPath -/

theorem footing_modSession (q : Nat) (f : Session → Session) (s : State) : footing (modSession q f s) = footing s := by rfl

theorem footing_endSession (q : Nat) (s : State) : footing (endSession q s) = footing s := by
  simp only [endSession, footing_postEvent, footing_modSession]

theorem footing_setGap (q : Nat) (v : Word) (s : State) : footing (setGap q v s) = footing s := by rfl

theorem footing_captureWrite (q : Nat) (tag : BitVec 128) (samples : List Sample) (s : State) :
    footing (captureWrite q tag samples s) = footing s := by
  simp only [captureWrite, footing_coalesce, footing_modSession, footing_setGap, footing_endSession, footing_mk, footing_eta, footing_ite, ite_self]

theorem footing_captureLose (q : Nat) (s : State) : footing (captureLose q s) = footing s := by rfl

theorem footing_captureOne (q : Nat) (tag : BitVec 128) (samples : List Sample) (s : State) : footing (captureOne q tag samples s) = footing s := by
  simp only [captureOne, footing_modSession, footing_takeFree, footing_captureWrite, footing_captureLose, footing_ite, ite_self]

theorem footing_capture (tap : Nat) (tag : BitVec 128) (samples : List Sample) (s : State) : footing (capture tap tag samples s) = footing s := by
  simp only [capture, footing_captureOne, footing_ite, footing_foldl, implies_true, ite_self]

theorem footing_captureBlock (c : Fin 64) (d : Dir) (point : Nat) (b : Block) (s : State) : footing (captureBlock c d point b s) = footing s := by
  simp only [captureBlock, footing_capture]

theorem footing_postBlanked (p : Fin 8) (counts first : Nat) (s : State) : footing (postBlanked p counts first s) = footing s := by
  simp only [postBlanked, footing_postEvent, footing_mk, footing_eta, footing_ite, ite_self]

theorem footing_formBlock (p : Fin 8) (c : Fin 64) (d : Dir) (samples : List Sample) (s : State) :
    footing (formBlock p c d samples s) = footing s := by
  simp only [formBlock, footing_advanceTo, footing_stampLine, footing_modDir, footing_postBlanked, footing_captureBlock, footing_ite, ite_self]

theorem footing_chainSample (p : Fin 8) (c : Fin 64) (d : Dir) (s : State) (x : Sample) : footing (chainSample p c d s x) = footing s := by
  simp only [chainSample, footing_modDir, footing_formBlock, footing_ite, ite_self]

theorem footing_feedChains (p : Fin 8) (samples : List Sample) (s : State) : footing (feedChains p samples s) = footing s := by
  simp only [feedChains, footing_chainSample, footing_foldl, implies_true]

theorem footing_laneCrc (lane : Nat) (ok : Bool) (s : State) : footing (laneCrc lane ok s) = footing s := by
  simp only [laneCrc, footing_raise, footing_modLinks, footing_ite, ite_self]

theorem footing_segmentPair (n : Fin 9) (zeroed : Bool) (samples : List Sample) (s : State) :
    footing (segmentPair n zeroed samples s) = footing s := by
  simp only [segmentPair, footing_capture, footing_modLinks, footing_foldl, implies_true]

theorem footing_execReceiveMultiblock {stream : Fin 9} {crcOk0 crcOk1 : Bool} {first second : List Sample} {s t : State}
    (h : execReceiveMultiblock stream crcOk0 crcOk1 first second s = .next t) : footing t = footing s := by
  obtain rfl := Host.Outcome.next.inj h
  (repeat' split) <;> simp only [footing_alignGroup, footing_laneCrc, footing_segmentPair, footing_feedChains, footing_surveySamples, footing_ite,
    ite_self]

theorem footing_replaceBlock (c : Fin 64) (d : Dir) (old : Block) (new : List Block) (s : State) :
    footing (replaceBlock c d old new s) = footing s := by rfl

theorem footing_waybillError (c : Fin 64) (d : Dir) (b : Block) (s : State) : footing (waybillError c d b s) = footing s := by rfl

theorem footing_checkBlock (c : Fin 64) (d : Dir) (b : Block) (upset : BitVec 128) (s : State) :
    footing (checkBlock c d b upset s).2 = footing s := by
  simp only [checkBlock, footing_waybillError, footing_ite, ite_self]

theorem footing_meetBlock (u : KernelUnit) (c : Fin 64) (d : Dir) (b : Block) (found : BlockFound) (s : State) :
    footing (meetBlock u c d b found s).2 = footing s := by
  simp only [meetBlock, footing_reportSlack, footing_checkBlock, footing_adopt]

theorem footing_cancelStep (c : Fin 64) (d : Dir) (old b : Block) (s : State) : footing (cancelStep c d old b s) = footing s := by
  simp only [cancelStep, footing_captureBlock, footing_replaceBlock, footing_modDir, footing_raise, footing_requestChange, footing_ite, ite_self]

theorem footing_meetBlocks (c : Fin 64) (d : Dir) (bs : List Block) (low : Block) (port : Fin 8) (found : BlockFound) (s : State) :
    footing (meetBlocks c d bs low port found s).2 = footing s := by
  have checked (hit : Fin 8) (x : State) : footing (bs.foldl (fun a b =>
      let v := checkBlock c d b (if b.port = hit then found.upset else 0) a.2
      (a.1 ++ [v.1], v.2)) (([] : List Block), x)).2 = footing x := footing_foldl_snd _ _ _ _ (fun v b => footing_checkBlock _ _ _ _ v.2)
  exact (footing_adopt _ _ _ _ _ _).trans ((checked _ _).trans (footing_reportSlack _ _ _ _))

theorem footing_tallyFloor (c : Fin 64) (d : Dir) (k : Fin 4) (b : Block) (s : State) : footing (tallyFloor c d k b s) = footing s := by
  simp only [tallyFloor, footing_modGain, footing_ite, ite_self]

theorem footing_measureDonor (c : Fin 64) (t : Tapped) (s : State) : footing (measureDonor c t s) = footing s := by
  simp only [measureDonor, footing_tallyFloor, footing_modGain, footing_ite, ite_self]

theorem footing_shapeStep (c : Fin 64) (d : Dir) (taken : List Block) (met : List Block × State) :
    footing (shapeStep c d taken met) = footing met.2 := by
  simp only [shapeStep, footing_captureBlock, footing_ite, footing_tallyFloor, footing_modDir, ite_self]

theorem footing_detectOscillation (c : Fin 64) (d : Dir) (b : Block) (s : State) : footing (detectOscillation c d b s) = footing s := by
  simp only [detectOscillation, footing_modStab, footing_takeSplit, footing_sendControl, footing_modSplit, footing_enterBackoff, footing_ite,
    ite_self]

theorem footing_squelchBlock (c : Fin 64) (d : Dir) (b : Block) (inputPower : Int) (s : State) :
    footing (squelchBlock c d b inputPower s) = footing s := by
  simp only [squelchBlock, footing_modGain, footing_ite, ite_self]

theorem footing_tripGate (c : Fin 64) (d : Dir) (applied : Int) (s : State) : footing (tripGate c d applied s) = footing s := by
  simp only [tripGate, footing_gateTripped, footing_raise, footing_modDir, footing_modGain, footing_countMute, footing_addMute, footing_stopPort,
    footing_ite, footing_foldl, implies_true, ite_self]

theorem footing_gateOutputs (c : Fin 64) (d : Dir) (outs : List Block) (s : State) : footing (gateOutputs c d outs s).2 = footing s := by
  simp only [gateOutputs]
  (repeat' split) <;> simp only [footing_tripGate]

theorem footing_keepHistory (c : Fin 64) (d : Dir) (outs : List Block) (s : State) :
    footing (Machine.keepHistory c d outs s) = footing s :=
  footing_foldl _ _ _ (fun _ _ => footing_modDir _ _ _ _)

theorem footing_meterBlock (c : Fin 64) (d : Dir) (b : Block) (signal : Bool) (outs : List Block) (s : State) :
    footing (meterBlock c d b signal outs s) = footing s := by
  simp only [meterBlock, footing_modDir, footing_modGain, footing_ite, ite_self]

theorem footing_gainStep (c : Fin 64) (d : Dir) (old b : Block) (s : State) : footing (gainStep c d old b s) = footing s := by
  simp only [gainStep, footing_ite, footing_keepHistory, footing_modDir, footing_foldl, footing_captureBlock, footing_meterBlock, footing_modGain,
    footing_replaceBlock, footing_gateOutputs, footing_squelchBlock, footing_detectOscillation, implies_true, ite_self]

theorem footing_forwardBlock (c : Fin 64) (d : Dir) (b : Block) (s : State) : footing (forwardBlock c d b s) = footing s := by
  unfold forwardBlock
  dsimp only
  split
  · rw [footing_raise, footing_modDir, footing_modDir, footing_replaceBlock, footing_markLeft]
  · split
    · rfl
    · split
      · next t h => rw [footing_modDir, footing_replaceBlock, footing_markLeft, footing_sendFrame h]
      · rfl

theorem footing_relayFound (c : Fin 64) (d : Dir) (b : Block) (found : BlockFound) (s : State) :
    footing (relayFound c d b found s).2 = footing s := by
  simp only [relayFound, footing_checkBlock, footing_reportSlack, footing_replaceBlock]

theorem footing_relayStep (c : Fin 64) (d : Dir) (found : BlockFound) (s : State) : footing (relayStep c d found s) = footing s := by
  unfold relayStep
  dsimp only
  split
  · split
    · exact (footing_forwardBlock _ _ _ _).trans (footing_relayFound _ _ _ _ _)
    · rfl
  · split
    · split
      · split
        · next t h =>
          obtain ⟨l, -, hl⟩ := Option.bind_eq_some_iff.mp h
          rw [footing_modDir, footing_sendFrame hl, footing_modDir, footing_checkBlock]
        · rw [footing_modDir, footing_checkBlock]
      · rfl
    · rfl

theorem footing_probeUnit (c : Fin 64) (d : Dir) (p : Fin 8) (found : BlockFound) (s : State) : footing (probeUnit c d p found s) = footing s := by
  unfold probeUnit
  split <;> simp only [footing_meetBlock, footing_modDir, footing_probeStep]

theorem footing_measureUnit (c : Fin 64) (d : Dir) (p : Fin 8) (found : BlockFound) (s : State) :
    footing (measureUnit c d p found s) = footing s := by
  unfold measureUnit
  split <;> simp only [footing_meetBlock, footing_modDir, footing_measureDonor, footing_ite, ite_self]

theorem footing_detectUnit (c : Fin 64) (d : Dir) (p : Fin 8) (found : BlockFound) (s : State) : footing (detectUnit c d p found s) = footing s := by
  unfold detectUnit
  split <;> simp only [footing_meetBlock]

theorem footing_detectRan (c : Fin 64) (p : Fin 8) (s : State) : footing (detectRan c p s) = footing s := by
  simp only [detectRan, footing_mk, footing_eta]

theorem footing_liveStep (c : Fin 64) (d : Dir) (u : KernelUnit) (port : Fin 8) (found : BlockFound) (s : State) :
    footing (liveStep c d u port found s) = footing s := by
  cases u <;> unfold liveStep <;> dsimp only
  case cancel =>
    split
    · rw [footing_cancelStep, footing_meetBlock]
    · rfl
  case shape =>
    split
    · rw [footing_shapeStep, footing_meetBlocks]
    · rfl
  case gain =>
    split
    · rfl
    · split
      · rw [footing_gainStep, footing_meetBlock]
      · rfl
  case relay => exact footing_relayStep _ _ _ _
  case probe => exact footing_probeUnit _ _ _ _ _
  case measure => exact footing_measureUnit _ _ _ _ _
  case detect => rw [footing_detectRan, footing_detectUnit]

theorem footing_afterLive (c : Fin 64) (d : Dir) (u : KernelUnit) (port : Fin 8) (b : Block) (s : State) :
    footing (afterLive c d u port b s) = footing s := by
  simp only [afterLive, footing_finishMigration, footing_mk, footing_eta, footing_foldl, implies_true]

theorem footing_shadowStep (c : Fin 64) (d : Dir) (u : KernelUnit) (port : Fin 8) (found : BlockFound) (s : State) :
    footing (shadowStep c d u port found s) = footing s := by rfl

theorem footing_countMacs (c : Fin 64) (d : Dir) (l : List (Segment × Fin 256)) (s : State) : footing (countMacs c d l s) = footing s := by
  refine footing_foldl _ _ _ (fun s x => ?_)
  simp only [footing_mk, footing_eta]

theorem footing_execBlockProcess {c : Fin 64} {d : Dir} {u : KernelUnit} {port : Fin 8} {found : BlockFound} {s t : State}
    (h : execBlockProcess c d u port found s = .next t) : footing t = footing s := by
  obtain rfl := Host.Outcome.next.inj h
  (repeat' split) <;> simp only [footing_countMacs, footing_shadowStep, footing_liveStep, footing_afterLive]

theorem footing_meterArrival (c : Fin 64) (d : Dir) (b : Block) (s : State) : footing (meterArrival c d b s) = footing s := by
  unfold meterArrival
  split <;> simp only [footing_modGain, footing_ite, ite_self]

theorem footing_execBlockArrival {c : Fin 64} {d : Dir} {arrived : ArrivedBlock} {s t : State} (h : execBlockArrival c d arrived s = .next t) :
    footing t = footing s := by
  obtain rfl := Host.Outcome.next.inj h
  split <;> simp only [footing_checkBlock, footing_replaceBlock, footing_modDir, footing_meterArrival, footing_ite, ite_self]

theorem footing_synthesise (c : Fin 64) (d : Dir) (n : Nat) (up down : Bool) (s : State) (b : Block) :
    footing (synthesise c d n up down s b) = footing s := by
  simp only [synthesise, footing_modDir, footing_portTransmitted, footing_ite, ite_self]

theorem footing_tellStarted (c : Fin 64) (d : Dir) (n : Nat) (s : State) : footing (tellStarted c d n s) = footing s := by
  simp only [tellStarted, footing_tellPeers, footing_ite, ite_self]

theorem footing_execBlockDeadline {c : Fin 64} {d : Dir} {s t : State} (h : execBlockDeadline c d s = .next t) : footing t = footing s := by
  obtain rfl := Host.Outcome.next.inj h
  simp only [footing_advanceTo, footing_mirrorBlock, footing_captureBlock, footing_synthesise, footing_attributeLate, footing_modDir,
    footing_modGain, footing_tellStarted, footing_markLeft, footing_removeChannel, footing_ite, footing_foldl, implies_true, ite_self]

theorem footing_composite (p : Fin 8) (s : State) : footing (composite p s).2 = footing s := by
  unfold composite
  dsimp only
  refine footing_foldl_snd _ _ _ _ (fun v c => ?_)
  dsimp only
  exact footing_modDir _ _ _ _

theorem footing_limitStream (p : Fin 8) (quiet : Bool) (s : State) : footing (limitStream p quiet s).2 = footing s := by
  simp only [limitStream, footing_composite, footing_modLinks, footing_modPort]

theorem footing_execTransmitSegmentDue {stream : Fin 8} {ready : Bool} {s t : State} (h : execTransmitSegmentDue stream ready s = .next t) :
    footing t = footing s := by
  obtain rfl := Host.Outcome.next.inj h
  simp only [footing_modLinks, footing_raise, footing_limitStream, footing_capture, footing_ite, ite_self]

theorem footing_sendToken (l : Nat) (s : State) : footing (if !(link l s).carries then s else
    match sendFrame l { blankFrame .census (if l < 4 then 0 else 3) (deviceAddress s) (link l s).neighbour.val with sent := (link l s).sentSince } s
      with
    | some s => modLink l (fun x => { x with sentSince := Vector.replicate 4 0 }) s
    | none => s) = footing s := by
  split
  · rfl
  · split
    · next t h => exact (footing_modLink _ _ _).trans (footing_sendFrame h)
    · rfl

theorem footing_insertTokens (s : State) : footing (insertTokens s) = footing s := by
  unfold insertTokens
  dsimp only
  rw [footing_mk, footing_eta]
  exact footing_foldl _ (List.range 5) s (fun s l => footing_sendToken l s)

theorem footing_censusMismatch (link : Fin 6) (cls : Fin 4) (expected : Nat) (observed : Int) (s : State) :
    footing (censusMismatch link cls expected observed s) = footing s := by rfl

theorem footing_takeBillets (l : Nat) (s : State) : footing (takeBillets l s) = footing s := by
  simp only [takeBillets]
  (repeat' split) <;> simp only [footing_modLink, footing_hardwareDone]

theorem footing_latchToken (l : Nat) (sent : Vector Nat 4) (s : State) : footing (latchToken l sent s) = footing s := by
  simp only [latchToken, footing_modLink, footing_takeBillets]

theorem footing_auditLink (l : Fin 6) (c : Fin 4) (sent : Nat) (s : State) : footing (auditLink l c sent s) = footing s := by
  unfold auditLink
  split <;> simp only [footing_modLink, footing_censusMismatch, footing_ite, ite_self]

theorem footing_execCensusTokenArrival {link : Fin 6} {cls : Fin 4} {sent : Nat} {s t : State}
    (h : execCensusTokenArrival link cls sent s = .next t) : footing t = footing s := by
  obtain rfl := Host.Outcome.next.inj h
  simp only [footing_auditLink, footing_censusMismatch, footing_ite, ite_self]

theorem footing_execClearLowWater {value : Word} {s t : State} (h : execClearLowWater value s = .next t) : footing t = footing s := by
  obtain rfl := Host.Outcome.next.inj h
  simp only [footing_mk, footing_eta, footing_ite, ite_self]

/-! ## Machine/Fabric -/

theorem footing_routeLost (s : State) (a : Nat) : footing (routeLost s a) = footing s := by
  unfold routeLost
  split <;> simp only [footing_raise, footing_foldl, implies_true]

theorem footing_setMembers (s : State) : footing (setMembers s) = footing s := by
  simp only [setMembers, footing_modFabric, footing_systemRecord, footing_ite, ite_self]

theorem footing_orientLinks (s : State) : footing (orientLinks s) = footing s := by
  refine footing_foldl _ _ _ (fun s x => ?_)
  simp only [footing_modLink]

theorem footing_installRoutes (s : State) : footing (installRoutes s) = footing s := by
  simp only [installRoutes, footing_orientLinks, footing_setMembers, footing_modFabric, footing_routeLost, footing_ite, footing_foldl, implies_true,
    ite_self]

theorem footing_fabricChanged (s : State) : footing (fabricChanged s) = footing s := by
  simp only [fabricChanged, footing_installRoutes, footing_ite, ite_self]

theorem footing_sendOn (l : Nat) (m : ControlMsg) (s : State) : footing (sendOn l m s) = footing s := footing_sendFrame_getD _ _ _

theorem footing_flood (at_ : Nat) (a : Fin 16) (near : List (Fin 16 × Int)) (s : State) : footing (flood at_ a near s) = footing s := by
  simp only [flood, footing_sendOn, footing_ite, footing_foldl, implies_true, ite_self]

theorem footing_floodOwn (s : State) : footing (floodOwn s) = footing s := by
  simp only [floodOwn, footing_flood]

theorem footing_takeTopology (l : Nat) (a : Fin 16) (near : List (Fin 16 × Int)) (s : State) : footing (takeTopology l a near s) = footing s := by
  simp only [takeTopology, footing_fabricChanged, footing_flood, footing_modFabric, footing_ite, ite_self]

theorem footing_dropBlock (s : State) (f : ObxFrame) : footing (dropBlock s f) = footing s := by rfl

theorem footing_answerLink (want : Desc → Bool) (ringOf : Option (Fin 22)) (results : List Int) (s : State) :
    footing (answerLink want ringOf results s) = footing s := by
  unfold answerLink
  split <;> simp only [footing_hardwareDone]

theorem footing_failSync (code cause : Nat) (s : State) : footing (failSync code cause s) = footing s := by
  simp only [failSync, footing_setTwinState, footing_modTwin, footing_answerLink]

theorem footing_detachTwin (cause : Nat) (s : State) : footing (detachTwin cause s) = footing s := by
  simp only [detachTwin, footing_failSync, footing_ite, ite_self]

theorem footing_linkDown (l : Nat) (s : State) : footing (linkDown l s) = footing s := by
  simp only [linkDown, footing_raise, footing_setLink, footing_modLink, footing_answerLink, footing_detachTwin, footing_fabricChanged,
    footing_floodOwn, footing_sendControl, footing_ite, ite_self]

theorem footing_endReclaim (l : Nat) (last : Option (BitVec 12)) (s : State) : footing (endReclaim l last s) = footing s := by
  simp only [endReclaim, footing_dropBlock, footing_modLink, footing_answerLink, footing_setLink, footing_ite, footing_foldl, implies_true, ite_self]

theorem footing_takeReport (a : Nat) (last : BitVec 12) (s : State) : footing (takeReport a last s) = footing s := by
  simp only [takeReport, footing_endReclaim, footing_ite, footing_foldl, implies_true, ite_self]

theorem footing_execReclaimReportTimeout {l : Fin 5} {s t : State} (h : execReclaimReportTimeout l s = .next t) : footing t = footing s := by
  obtain rfl := Host.Outcome.next.inj h
  simp only [footing_endReclaim, footing_ite, ite_self]

theorem footing_replayLink (l : Nat) (s : State) : footing (replayLink l s) = footing s := by
  simp only [replayLink, footing_raise, footing_modLink, footing_linkDown, footing_ite, ite_self]

theorem footing_execReplayTimeout {l : Fin 5} {s t : State} (h : execReplayTimeout l s = .next t) : footing t = footing s := by
  obtain rfl := Host.Outcome.next.inj h
  simp only [footing_advanceTo, footing_replayLink, footing_modLink, footing_ite, ite_self]

theorem footing_execObxLaneFailure {l : Fin 5} {lanes : BitVec 4} {refClockLost : Bool} {s t : State}
    (h : execObxLaneFailure l lanes refClockLost s = .next t) : footing t = footing s := by
  obtain rfl := Host.Outcome.next.inj h
  have degraded (o : Option (BitVec 4)) : footing (match o with
      | some pair => replayLink l.val (setLink l.val .degraded pair s)
      | none => linkDown l.val s) = footing s := by
    cases o with
    | none => exact footing_linkDown _ _
    | some pair => exact (footing_replayLink _ _).trans (footing_setLink _ _ _ _)
  dsimp only
  split_ifs
  · rfl
  · exact footing_linkDown _ _
  · rfl
  · exact degraded _
  · exact footing_linkDown _ _

theorem footing_discoverProgress (l : Nat) (conflict : Bool) (s : State) : footing (discoverProgress l conflict s) = footing s := by
  simp only [discoverProgress, footing_answerLink, footing_modFabric, footing_ite, ite_self]

theorem footing_linkUp (l : Nat) (t : TrainResult) (lanes : BitVec 4) (offset : Int) (s : State) :
    footing (linkUp l t lanes offset s) = footing s := by
  simp only [linkUp, footing_modLink, footing_setLink, footing_modFabric, footing_sendOn, footing_foldl, implies_true]

theorem footing_execLinkTrained {l : Fin 5} {x : TrainResult} {s t : State} (h : execLinkTrained l x s = .next t) :
    footing t = footing s := by
  obtain rfl := Host.Outcome.next.inj h
  split
  · rfl
  · split
    · simp only [footing_ite, footing_discoverProgress, footing_modTwin, footing_setTwinState, footing_linkUp, footing_fabricChanged,
        footing_floodOwn, ite_self]
    · rfl

theorem footing_execSplitTc2Silence {c : Fin 64} {d : Dir} {s t : State} (h : execSplitTc2Silence c d s = .next t) : footing t = footing s := by
  obtain rfl := Host.Outcome.next.inj h
  simp only [footing_modSplit, footing_raise, footing_takeSplit, footing_ite, ite_self]

theorem footing_trainPort (rate : Nat) (s : State) (l : Nat) : footing (trainPort rate s l) = footing s := by
  simp only [trainPort, footing_endReclaim, footing_dropBlock, footing_setLink, footing_modLink, footing_foldl, implies_true]

theorem footing_trainPorts (rate mask : Nat) (s : State) : footing (trainPorts rate mask s) = footing s := by
  simp only [trainPorts, footing_trainPort, footing_foldl, implies_true]

theorem footing_endDiscover (r : Running) (s : State) : footing (endDiscover r s).2 = footing s := by
  simp only [endDiscover, footing_modFabric, footing_installRoutes, footing_snd_ite, ite_self]

theorem footing_opFabricDiscover (r : Running) (s : State) : footing (opFabricDiscover r s).2 = footing s := by
  simp only [opFabricDiscover]
  (repeat' split) <;> simp only [footing_endDiscover, footing_trainPorts, footing_modFabric]

theorem footing_effectFabricStatus (r : Running) (s : State) : footing (effectFabricStatus r s).2 = footing s := by
  simp only [effectFabricStatus, footing_takeFree, footing_snd_ite, ite_self]

theorem footing_opFabricStatus (r : Running) (s : State) : footing (opFabricStatus r s).2 = footing s :=
  footing_guarded _ _ footing_effectFabricStatus _ _

theorem footing_changeRoute (x : Desc) (s : State) : footing (changeRoute x s) = footing s := by rfl

theorem footing_opRouteSet (r : Running) (s : State) : footing (opRouteSet r s).2 = footing s := by
  simp only [opRouteSet]
  (repeat' split) <;> simp only [footing_changeRoute]

theorem footing_opBilletSet (r : Running) (s : State) : footing (opBilletSet r s).2 = footing s := by
  simp only [opBilletSet]
  (repeat' split) <;> simp only [footing_modLink]

theorem footing_opLinkReclaim (r : Running) (s : State) : footing (opLinkReclaim r s).2 = footing s := by
  simp only [opLinkReclaim]
  (repeat' split) <;> simp only [footing_linkDown, footing_modLink]

/-! ## Machine/Twin -/

theorem footing_takeAdaptive (a : AdaptiveCopy) (s : State) : footing (takeAdaptive a s) = footing s := by rfl

theorem footing_startSync (ringOf : Option (Fin 22)) (s : State) : footing (startSync ringOf s) = footing s := by
  simp only [startSync, footing_setTwinState, footing_modTwin, footing_queueTwin, footing_ite, footing_foldl, implies_true, ite_self]

theorem footing_meetSync (beta : Int) (mode : Nat) (rules : List Byte) (catalogue patch : Word) (s : State) :
    footing (meetSync beta mode rules catalogue patch s) = footing s := by
  simp only [meetSync, footing_setTwinState, footing_modTwin, footing_sendTwin, footing_ite, ite_self]

theorem footing_takeChange (x : Desc) (applyAt : Word) (s : State) : footing (takeChange x applyAt s) = footing s := by rfl

theorem footing_syncEnded (beta : Word) (compared : Nat) (s : State) : footing (syncEnded beta compared s) = footing s := by
  simp only [syncEnded, footing_answerLink, footing_setTwinState, footing_modTwin]

theorem footing_execAutoResync {s t : State} (h : execAutoResync s = .next t) : footing t = footing s := by
  obtain rfl := Host.Outcome.next.inj h
  simp only [footing_startSync, footing_ite, ite_self]

theorem footing_execHeartbeatSend {s t : State} (h : execHeartbeatSend s = .next t) : footing t = footing s := by
  obtain rfl := Host.Outcome.next.inj h
  simp only [footing_advanceTo, footing_sendTwin, footing_modTwin, footing_ite, ite_self]

theorem footing_execHeartbeatTimeout {s t : State} (h : execHeartbeatTimeout s = .next t) : footing t = footing s := by
  obtain rfl := Host.Outcome.next.inj h
  simp only [footing_advanceTo, footing_detachTwin, footing_raise, footing_modTwin, footing_ite, ite_self]

theorem footing_dropMirrors (s : State) : footing (dropMirrors s) = footing s := by rfl

theorem footing_execOwnerArbitration {s t : State} (h : execOwnerArbitration s = .next t) : footing t = footing s := by
  obtain rfl := Host.Outcome.next.inj h
  simp only [footing_modTwin, footing_setTwinState, footing_dropMirrors, footing_changeOwner, footing_ite, ite_self]

theorem footing_startMuted (s : State) : footing (startMuted s) = footing s := by
  simp only [startMuted, footing_setStability, footing_foldl, implies_true]

theorem footing_takeOver4 (s : State) : footing (takeOver4 s) = footing s := by
  simp only [takeOver4, footing_dropMirrors, footing_changeOwner, footing_advanceTo]

theorem footing_execOwnerLost {byAlive : Bool} {s t : State} (h : execOwnerLost byAlive s = .next t) : footing t = footing s := by
  obtain rfl := Host.Outcome.next.inj h
  simp only [footing_modTwin, footing_setTwinState, footing_takeOver4, footing_startMuted, footing_ite, ite_self]

theorem footing_execAliveStop {s t : State} (h : execAliveStop s = .next t) : footing t = footing s := by
  obtain rfl := Host.Outcome.next.inj h
  simp only [footing_modTwin, footing_phasesOff, footing_ite, footing_foldl, implies_true, ite_self]

theorem footing_execClaimWaitExpiry {s t : State} (h : execClaimWaitExpiry s = .next t) : footing t = footing s := by
  obtain rfl := Host.Outcome.next.inj h
  simp only [footing_claimService, footing_ite, ite_self]

theorem footing_reachBasis (x : Word) (back : Nat) (s : State) : footing (reachBasis x back s) = footing s := by rfl

theorem footing_execHandoverSwitch {s t : State} (h : execHandoverSwitch s = .next t) : footing t = footing s := by
  obtain rfl := Host.Outcome.next.inj h
  split <;> simp only [footing_reachBasis, footing_modTwin, footing_dropMirrors, footing_changeOwner, footing_answerLink, footing_setTwinState,
    footing_ite, ite_self]

theorem footing_execHandoverAckDeadline {s t : State} (h : execHandoverAckDeadline s = .next t) : footing t = footing s := by
  obtain rfl := Host.Outcome.next.inj h
  split <;> simp only [footing_answerLink, footing_modTwin, footing_reachBasis, footing_ite, ite_self]

theorem footing_takeAck (l : Nat) (f : ObxFrame) (s : State) : footing (takeAck l f s) = footing s := by
  simp only [takeAck, footing_modLink, footing_ite, ite_self]

theorem footing_takeReturned (l : Nat) (f : ObxFrame) (s : State) : footing (takeReturned l f s) = footing s := by
  simp only [takeReturned, footing_modLink, footing_ite, ite_self]

theorem footing_takeHeader (l : Nat) (f : ObxFrame) (s : State) : footing (takeHeader l f s) = footing s := by
  simp only [takeHeader, footing_takeReturned, footing_takeAck, footing_flushTwin, footing_replayLink, footing_ite, ite_self]

theorem footing_undeliverable (f : ObxFrame) (s : State) : footing (undeliverable f s) = footing s := by
  simp only [undeliverable, footing_raise, footing_dropBlock, footing_ite, ite_self]

theorem footing_forwardFrame (l : Nat) (f : ObxFrame) (s : State) : footing (forwardFrame l f s) = footing s := by
  unfold forwardFrame
  split
  · rw [footing_freeSlot, footing_undeliverable]
  · split
    · next t h => rw [footing_freeSlot, footing_sendFrame h]
    · exact footing_modLink _ _ _

theorem footing_drainLink (s : State) (l : Nat) : footing (drainLink s l) = footing s := by
  simp only [drainLink, footing_forwardFrame, footing_modLink, footing_foldl, implies_true]

theorem footing_drainLinks (s : State) : footing (drainLinks s) = footing s := by
  simp only [drainLinks, footing_drainLink, footing_foldl, implies_true]

theorem footing_answerLinks (heard : Nat) (s : State) : footing (answerLinks heard s) = footing s := by
  simp only [answerLinks, footing_sendIdle, footing_ite, footing_foldl, implies_true, ite_self]

theorem footing_blockArrived (c : Fin 64) (d : Dir) (f : ObxFrame) (s : State) : footing (blockArrived c d f s).2 = footing s := by
  simp only [blockArrived, footing_waybillError, footing_snd_ite, ite_self]

theorem footing_arriveBlock (f : ObxFrame) (s : State) : footing (arriveBlock f s) = footing s := by
  simp only [arriveBlock, footing_dropBlock, footing_blockArrived, footing_modDir, footing_stampLine, footing_ite, ite_self]

theorem footing_arriveReference (f : ObxFrame) (s : State) : footing (arriveReference f s) = footing s := by
  simp only [arriveReference, footing_ite, footing_keepHistory, footing_dropBlock, ite_self]

theorem footing_arriveMirrors (l : List MirrorRec) (s : State) : footing (arriveMirrors l s) = footing s := by
  simp only [arriveMirrors, footing_matchMirrors, footing_modTwin, footing_ite, ite_self]

theorem footing_arriveFull (f : ObxFrame) (s : State) : footing (arriveFull f s) = footing s := by
  simp only [arriveFull, footing_matchFulls, footing_modTwin, footing_ite, ite_self]

theorem footing_arriveOnset (a : Nat) (c : Fin 64) (d : Dir) (s : State) : footing (arriveOnset a c d s) = footing s := by
  simp only [arriveOnset, footing_enterBackoff, footing_sendControl, footing_ite, ite_self]

theorem footing_takeHeld (l : Nat) (v : Vector Nat 4) (s : State) : footing (takeHeld l v s) = footing s := by
  simp only [takeHeld, footing_modLink, footing_ite, ite_self]

theorem footing_arriveCal (c : Fin 64) (d : Dir) (cal : Vector Int 4) (s : State) : footing (arriveCal c d cal s) = footing s := by
  simp only [arriveCal, footing_requestChange, footing_modDir, footing_ite, ite_self]

theorem footing_arriveControl (l : Nat) (f : ObxFrame) (s : State) : footing (arriveControl l f s) = footing s := by
  unfold arriveControl
  split <;> simp only [footing_takeReport, footing_takeHeld, footing_takeTopology, footing_arriveAsk, footing_arriveAnswer, footing_arriveDrop,
    footing_modDir, footing_arriveGone, footing_takeSplit, footing_modSplit, footing_arriveOnset, footing_arriveCal, footing_oscillationMute,
    footing_ite, ite_self]

theorem footing_arriveTwin (f : ObxFrame) (s : State) : footing (arriveTwin f s) = footing s := by
  unfold arriveTwin
  cases f.msg <;> dsimp only
  case heartbeat | handoverAck => exact footing_modTwin _ _
  case heldSlots => exact footing_takeHeld _ _ _
  all_goals simp only [footing_ite, footing_sendTwin, footing_modTwin, footing_detachTwin, footing_modLoop, footing_takeWingSteps,
    footing_takeChange, footing_takeAdaptive, footing_meetSync, footing_failSync, footing_syncEnded, ite_self]

theorem footing_consumeFrame (l : Nat) (f : ObxFrame) (s : State) : footing (consumeFrame l f s) = footing s := by
  unfold consumeFrame
  split <;> simp only [footing_arriveFull, footing_arriveBlock, footing_arriveReference, footing_arriveTwin, footing_arriveControl,
    footing_arriveMirrors, footing_ite, ite_self]

theorem footing_deliverFrame (l : Nat) (f : ObxFrame) (s : State) : footing (deliverFrame l f s) = footing s := by
  simp only [deliverFrame, footing_latchToken, footing_takeSlot, footing_forwardFrame, footing_freeSlot, footing_consumeFrame, footing_ite, ite_self]

theorem footing_execObxFrameReceive {l : Fin 5} {f : ObxFrame} {s t : State} (h : execObxFrameReceive l f s = .next t) : footing t = footing s := by
  obtain rfl := Host.Outcome.next.inj h
  simp only [footing_sendIdle, footing_modLink, footing_takeHeader, footing_answerLinks, footing_drainLinks, footing_deliverFrame, footing_ite,
    ite_self]

theorem footing_effectTwinConfigure (r : Running) (s : State) : footing (effectTwinConfigure r s).2 = footing s := by rfl

theorem footing_opTwinConfigure (r : Running) (s : State) : footing (opTwinConfigure r s).2 = footing s :=
  footing_guarded _ _ footing_effectTwinConfigure _ _

theorem footing_opTwinSync (r : Running) (s : State) : footing (opTwinSync r s).2 = footing s := by
  simp only [opTwinSync]
  (repeat' split) <;> simp only [footing_startSync]

theorem footing_opTwinHandover (r : Running) (s : State) : footing (opTwinHandover r s).2 = footing s := by
  simp only [opTwinHandover]
  (repeat' split) <;> simp only [footing_beginHandover, footing_modTwin]

theorem footing_effectTwinStatus (x0 : Running) (s : State) : footing (effectTwinStatus x0 s).2 = footing s := by rfl

theorem footing_opTwinStatus (r : Running) (s : State) : footing (opTwinStatus r s).2 = footing s :=
  footing_guarded _ _ footing_effectTwinStatus _ _

/-! ## Machine/Host -/

theorem footing_modHif (f : HostIf → HostIf) (s : State) : footing (modHif f s) = footing s := by rfl

theorem footing_writeBuffer (x : Desc) (bytes : List Byte) (s : State) : footing (writeBuffer x bytes s) = footing s := by
  simp only [writeBuffer, footing_modHif, footing_ite, ite_self]

theorem footing_releaseRing (q : Nat) (s : State) : footing (releaseRing q s) = footing s := by
  simp only [releaseRing, footing_modRing, footing_ite, ite_self]

theorem footing_noteAccepted (x : Desc) (s : State) : footing (noteAccepted x s) = footing s := by
  simp only [noteAccepted, footing_accept, footing_queueTwin, footing_ite, ite_self]

theorem footing_endEffects (q : Nat) (r : Running) (st : Status) (detail : Nat) (s : State) : footing (endEffects q r st detail s) = footing s := by
  simp only [endEffects, footing_noteAccepted, footing_replayFailed, footing_legacyDone, footing_hostError, footing_ite, ite_self]

theorem footing_postTimeout (q : Nat) (r : Running) (s : State) : footing (postTimeout q r s) = footing s := by
  simp only [postTimeout, footing_releaseRing, footing_postCompletion]

theorem footing_lateEnd (q : Nat) (r : Running) (f : Finish) (s : State) : footing (lateEnd q r f s) = footing s := by
  simp only [lateEnd, footing_postCompletion, footing_postEvent, footing_endEffects, footing_ite, ite_self]

theorem footing_finishRunning (q : Nat) (r : Running) (f : Finish) (s : State) : footing (finishRunning q r f s) = footing s := by
  simp only [finishRunning, footing_writeBuffer, footing_modSource, footing_lateEnd, footing_postTimeout, footing_endEffects, footing_releaseRing,
    footing_postCompletion, footing_ite, ite_self]

theorem footing_finishLate (q i : Nat) (r : Running) (f : Finish) (s : State) : footing (finishLate q i r f s) = footing s := by
  simp only [finishLate, footing_lateEnd, footing_modSource]

theorem footing_postProgress (q : Nat) (r : Running) (s : State) : footing (postProgress q r s).2 = footing s := by
  simp only [postProgress, footing_takeFree, footing_modHif, footing_postCompletion, footing_ite, footing_snd_ite, ite_self]

theorem footing_keepRunning (q : Nat) (old v : Running) (s : State) : footing (keepRunning q old v s) = footing s := by
  simp only [keepRunning, footing_noteAccepted, footing_postTimeout, footing_modSource, footing_postProgress, footing_ite, ite_self]

theorem footing_execCommandTimeout {q : Fin 22} {s t : State} (h : execCommandTimeout q s = .next t) : footing t = footing s := by
  obtain rfl := Host.Outcome.next.inj h
  split <;> simp only [footing_postTimeout, footing_modSource, footing_ite, ite_self]

theorem footing_opNop (r : Running) (s : State) : footing (opNop r s).2 = footing s :=
  footing_guarded _ _ (fun _ _ => rfl) _ _

theorem footing_effectTimeQuery (x0 : Running) (s : State) : footing (effectTimeQuery x0 s).2 = footing s := by rfl

theorem footing_opTimeQuery (r : Running) (s : State) : footing (opTimeQuery r s).2 = footing s :=
  footing_guarded _ _ footing_effectTimeQuery _ _

theorem footing_stopWork (q : Nat) (r : Running) (s : State) : footing (stopWork q r s) = footing s := by
  simp only [stopWork, footing_abandonMigrate, footing_withdrawClear, footing_ite, ite_self]

theorem footing_cancelTarget (own : Bool) (q : Nat) (tag : Half) (s : State) : footing (cancelTarget own q tag s).2 = footing s := by
  simp only [cancelTarget]
  (repeat' split) <;> simp only [footing_finishRunning, footing_stopWork, footing_finishLate, footing_modSource]

theorem footing_effectCancel (r : Running) (s : State) : footing (effectCancel r s).2 = footing s := by
  simp only [effectCancel, footing_cancelTarget]

theorem footing_opCancel (r : Running) (s : State) : footing (opCancel r s).2 = footing s :=
  footing_guarded _ _ footing_effectCancel _ _

theorem footing_effectCaptureStart (r : Running) (s : State) : footing (effectCaptureStart r s).2 = footing s := by rfl

theorem footing_opCaptureStart (r : Running) (s : State) : footing (opCaptureStart r s).2 = footing s :=
  footing_guarded _ _ footing_effectCaptureStart _ _

theorem footing_markLast (q : Nat) (s : State) : footing (markLast q s) = footing s := by rfl

theorem footing_effectCaptureStop (r : Running) (s : State) : footing (effectCaptureStop r s).2 = footing s := by
  simp only [effectCaptureStop, footing_endSession, footing_markLast, footing_ite, ite_self]

theorem footing_opCaptureStop (r : Running) (s : State) : footing (opCaptureStop r s).2 = footing s :=
  footing_guarded _ _ footing_effectCaptureStop _ _

theorem footing_effectCaptureStatus (r : Running) (s : State) : footing (effectCaptureStatus r s).2 = footing s := by rfl

theorem footing_opCaptureStatus (r : Running) (s : State) : footing (opCaptureStatus r s).2 = footing s :=
  footing_guarded _ _ footing_effectCaptureStatus _ _

theorem footing_execCaptureSessionBegin {q : Fin 8} {s t : State} (h : execCaptureSessionBegin q s = .next t) : footing t = footing s := by
  obtain rfl := Host.Outcome.next.inj h
  simp only [footing_modSession, footing_advanceTo, footing_ite, ite_self]

theorem footing_postResetSeen (s : State) : footing (postResetSeen s) = footing s := by
  simp only [postResetSeen, footing_postEntry, footing_modHif, footing_ite, ite_self]

theorem footing_clearEntries (r : Nat) (s : State) : footing (clearEntries r s) = footing s := by rfl

theorem footing_enableRing (r : Nat) (s : State) : footing (enableRing r s) = footing s := by
  simp only [enableRing, footing_setGap, footing_clearEntries, footing_modRing, footing_ringError, footing_postResetSeen, footing_ite, ite_self]

theorem footing_disableRing (r : Nat) (s : State) : footing (disableRing r s) = footing s := by
  simp only [disableRing, footing_modSource, footing_modHif, footing_modRing, footing_ite, ite_self]

theorem footing_writeRingCfg (r : Nat) (cfg : Word) (s : State) : footing (writeRingCfg r cfg s) = footing s := by
  simp only [writeRingCfg, footing_modRing, footing_enableRing, footing_disableRing, footing_ite, ite_self]

theorem footing_writeHifCtrl (value : Word) (s : State) : footing (writeHifCtrl value s) = footing s := by rfl

theorem footing_modPci (f : Pci → Pci) (s : State) : footing (modPci f s) = footing s := by rfl

theorem footing_busMasterOff (s : State) : footing (busMasterOff s) = footing s := by
  simp only [busMasterOff, footing_ringError, footing_modPci, footing_ite, footing_foldl, implies_true, ite_self]

theorem footing_execBusMasterOff {s t : State} (h : execBusMasterOff s = .next t) : footing t = footing s := by
  obtain rfl := Host.Outcome.next.inj h
  simp only [footing_busMasterOff, footing_ite, ite_self]

theorem footing_execCmdqDoorbell {q : Fin 16} {value : Word} {s t : State} (h : execCmdqDoorbell q value s = .next t) : footing t = footing s := by
  obtain rfl := Host.Outcome.next.inj h
  simp only [footing_modRing, footing_ringError, footing_modHif, footing_modSource, footing_ite, ite_self]

theorem footing_consume (r n : Nat) (s : State) : footing (consume r n s) = footing s := by rfl

theorem footing_execConsumerDoorbell {r : Fin 26} {value : Word} {s t : State} (h : execConsumerDoorbell r value s = .next t) :
    footing t = footing s := by
  obtain rfl := Host.Outcome.next.inj h
  simp only [footing_modRing, footing_ringError, footing_consume, footing_coalesce, footing_ite, ite_self]

theorem footing_execCoalesceTimeout {r : Fin 26} {s t : State} (h : execCoalesceTimeout r s = .next t) : footing t = footing s := by
  obtain rfl := Host.Outcome.next.inj h
  simp only [footing_raiseVector, footing_modRing, footing_advanceTo, footing_ite, ite_self]

theorem footing_drainWaiting (k n : Nat) (s : State) : footing (drainWaiting k n s) = footing s := by
  induction n generalizing s with
  | zero => rfl
  | succ n ih =>
    unfold drainWaiting
    split
    · split
      · exact (ih _).trans ((footing_cplWrite _ _ _).trans (footing_modHif _ _))
      · rfl
    · rfl

theorem footing_enqueue (q : Nat) (x : Desc) (s : State) : footing (enqueue q x s) = footing s := by
  simp only [enqueue, footing_modHif, footing_modRing, footing_modSource, footing_ite, ite_self]

theorem footing_abandonSource (s : State) (q : Nat) : footing (abandonSource s q) = footing s := by
  simp only [abandonSource, footing_stopWork, footing_modSource, footing_foldl, implies_true]

theorem footing_execHostInterfaceReset {kind : HostResetKind} {s t : State} (h : execHostInterfaceReset kind s = .next t) :
    footing t = footing s := by
  obtain rfl := Host.Outcome.next.inj h
  simp only [footing_modSys, footing_abandonSource, footing_modHif, footing_logRecord, footing_eta, form_mk, form_eta, footing_ite, footing_foldl,
    implies_true, ite_self]

theorem footing_execHostInterfaceResetEnd {s t : State} (h : execHostInterfaceResetEnd s = .next t) : footing t = footing s := by
  obtain rfl := Host.Outcome.next.inj h
  simp only [footing_modSys, footing_trainLink, footing_modHif, footing_eta, form_mk, form_eta, footing_ite, ite_self]

/-! ## Machine/Commands -/

theorem footing_refreshSource (s : State) (q : Nat) : footing (refreshSource s q) = footing s := by rfl

theorem footing_refreshReady (s : State) : footing (refreshReady s) = footing s := by
  refine footing_foldl _ _ _ (fun s x => ?_)
  simp only [footing_refreshSource]

theorem footing_granted (q : Nat) (s : State) : footing (granted q s) = footing s := by rfl

theorem footing_endEpochs (s : State) (q : Nat) : footing (endEpochs s q) = footing s := by
  simp only [endEpochs]
  (repeat' split) <;> simp only [footing_finishRunning, footing_finishLate]

theorem footing_execEpochRetire {c : Fin 64} {d : Dir} {k : EpochKind} {s t : State} (h : execEpochRetire c d k s = .next t) :
    footing t = footing s := by
  obtain rfl := Host.Outcome.next.inj h
  simp only [footing_refreshReady, footing_endEpochs, footing_retireEpoch, footing_foldl, implies_true]

theorem footing_execRingEnable {r : Fin 42} {cfg : Word} {s t : State} (h : execRingEnable r cfg s = .next t) : footing t = footing s := by
  obtain rfl := Host.Outcome.next.inj h
  simp only [footing_refreshReady, footing_writeRingCfg, footing_ite, ite_self]

theorem footing_execRingDisable {r : Fin 42} {cfg : Word} {s t : State} (h : execRingDisable r cfg s = .next t) : footing t = footing s := by
  obtain rfl := Host.Outcome.next.inj h
  simp only [footing_refreshReady, footing_writeRingCfg, footing_ite, ite_self]

theorem footing_execHifEnable {value : Word} {s t : State} (h : execHifEnable value s = .next t) : footing t = footing s := by
  obtain rfl := Host.Outcome.next.inj h
  simp only [footing_refreshReady, footing_writeHifCtrl, footing_ite, ite_self]

theorem footing_execRecordSpace {r : Fin 16} {s t : State} (h : execRecordSpace r s = .next t) : footing t = footing s := by
  obtain rfl := Host.Outcome.next.inj h
  simp only [footing_drainWaiting, footing_refreshReady, footing_releaseRing, footing_foldl, implies_true]

theorem footing_execDescriptorFetch {q : Fin 16} {answer : Option Desc} {s t : State} (h : execDescriptorFetch q answer s = .next t) :
    footing t = footing s := by
  obtain rfl := Host.Outcome.next.inj h
  (repeat' split) <;> simp only [footing_refreshReady, footing_enqueue, footing_hostError, footing_ringError]

theorem footing_execRingAging {q : Fin 22} {s t : State} (h : execRingAging q s = .next t) : footing t = footing s := by
  obtain rfl := Host.Outcome.next.inj h
  simp only [footing_modSource, footing_advanceTo, footing_ite, ite_self]

theorem footing_execHardwareWaitDone {q : Fin 22} {results : List Int} {s t : State} (h : execHardwareWaitDone q results s = .next t) :
    footing t = footing s := by
  obtain rfl := Host.Outcome.next.inj h
  simp only [footing_refreshReady, footing_hardwareDone]

/-! ## Machine/Debug -/

theorem footing_execTapInstruction {i : TapInstr} {s t : State} (h : execTapInstruction i s = .next t) : footing t = footing s := by
  obtain rfl := Host.Outcome.next.inj h
  simp only [footing_mk, footing_eta, footing_ite, ite_self]

/-! ## Machine/Registers -/

theorem footing_rowState {o : Host.Outcome State Fault Refusal} {s : State} (h : ∀ t, o = .next t → footing t = footing s) :
    footing (rowState o s) = footing s := by
  unfold rowState
  split
  · exact h _ rfl
  · rfl

theorem footing_writeRing (r off : Nat) (v : Word) (s : State) : footing (writeRing r off v s) = footing s := by
  unfold writeRing
  split <;> simp only [footing_modRing, footing_refreshReady, footing_writeRingCfg, footing_coalesce, footing_ite, ite_self]

theorem footing_writeHif (off : Nat) (v : Word) (s : State) : footing (writeHif off v s) = footing s := by
  unfold writeHif
  split <;> simp only [footing_refreshReady, footing_writeHifCtrl, footing_modHif, footing_ite, ite_self]

theorem footing_writeSys (off : Nat) (v : Word) (s : State) : footing (writeSys off v s) = footing s := by
  unfold writeSys
  split
  · exact footing_rowState (fun _ => footing_execSysReset)
  · rfl
  · exact footing_rowState (fun _ => footing_execClearLowWater)
  · rfl

theorem footing_writeNpt (off : Nat) (v : Word) (s : State) : footing (writeNpt off v s) = footing s := by
  simp only [writeNpt]
  (repeat' split) <;> simp only [footing_modNpt]

theorem footing_writeJes (off : Nat) (v : Word) (s : State) : footing (writeJes off v s) = footing s := by
  unfold writeJes
  split
  · exact footing_rowState (fun _ => footing_execSysrefArm)
  · rw [footing_ite, footing_modLinks, ite_self]
  · exact footing_modLinks _ _
  · exact footing_modLinks _ _
  · rfl

theorem footing_writeLos (off : Nat) (v : Word) (s : State) : footing (writeLos off v s) = footing s := by
  unfold writeLos
  split <;> simp only [footing_refreshHolds, footing_modRadio]

theorem footing_writeLen (off : Nat) (v : Word) (s : State) : footing (writeLen off v s) = footing s := by
  simp only [writeLen]
  (repeat' split) <;> simp only [footing_modLoopEngine]

theorem footing_writeGbk (off : Nat) (v : Word) (s : State) : footing (writeGbk off v s) = footing s := by
  simp only [writeGbk, footing_modGb, footing_ite, ite_self]

theorem footing_regWrite (offset : Nat) (v : Word) (s : State) : footing (regWrite offset v s) = footing s := by
  have first : footing (rowState (execFirstFaultClear v s) s) = footing s := footing_rowState (fun _ => footing_execFirstFaultClear)
  unfold regWrite
  simp only [footing_ite, footing_writeSys, footing_writeNpt, footing_writeHif, footing_writeJes, footing_writeLos, footing_writeGbk,
    footing_writeLen, first]
  cases ringSlot (offset / 4 * 4) <;> simp only [footing_writeRing, ite_self]

theorem footing_doorbellWrite (off : Nat) (v : Word) (s : State) : footing (doorbellWrite off v s) = footing s := by
  unfold doorbellWrite
  split
  · split
    · exact footing_rowState (fun _ => footing_execCmdqDoorbell)
    · exact footing_rowState (fun _ => footing_execConsumerDoorbell)
  · rw [footing_ite, footing_modPci, ite_self]

theorem footing_headerWrite (n : Nat) (v : Word) (s : State) : footing (headerWrite n v s) = footing s := by
  unfold headerWrite
  split <;> simp only [footing_modPci, footing_busMasterOff, footing_ite, ite_self]

theorem footing_configWrite (a : RegAddr) (v : Word) (s : State) : footing (configWrite a v s) = footing s := by
  unfold configWrite
  split <;> simp only [footing_headerWrite, footing_modPci]

theorem footing_execRegisterWrite {at_ : RegAddr} {value : Word} {byteEnables : BitVec 4} {s t : State}
    (h : execRegisterWrite at_ value byteEnables s = .next t) : footing t = footing s := by
  obtain rfl := Host.Outcome.next.inj h
  refine (footing_ite _ _ _).trans ?_
  cases at_ with
  | setup o =>
    have written : footing (if byteEnables == 15 then regWrite o.toNat value s else s) = footing s := by
      rw [footing_ite, footing_regWrite, ite_self]
    rw [written, ite_self]
  | doorbell o =>
    have written : footing (if byteEnables == 15 then doorbellWrite o.toNat value s else s) = footing s := by
      rw [footing_ite, footing_doorbellWrite, ite_self]
    rw [written, ite_self]
  | _ =>
    dsimp only
    rw [footing_configWrite, ite_self]

/-! ## Machine/SlowTick -/

theorem footing_directionTick (s : State) (e : Fin 64 × Dir) : footing (directionTick s e) = footing s := by
  simp only [directionTick, footing_stabilityTick, footing_modGain, footing_tellCal, footing_tellSplit, footing_ite, ite_self]

theorem footing_sleepTick (s : State) : footing (sleepTick s) = footing s := by
  simp only [sleepTick, footing_sleepCommit, footing_ite, ite_self]

theorem footing_slowWork (m : SlowMeas) (s : State) : footing (slowWork m s) = footing s := by
  simp only [slowWork, footing_settleDue, footing_startUp, footing_thermalTick, footing_insertTokens, footing_meterTick, footing_directionTick,
    footing_avsTick, footing_placementTick, footing_refreshReady, footing_legacyTick, footing_sleepTick, footing_flushProt, footing_lossTick,
    footing_foldl, implies_true]

theorem footing_execSlowTick {m : SlowMeas} {s t : State} (h : execSlowTick m s = .next t) : footing t = footing s := by
  obtain rfl := Host.Outcome.next.inj h
  simp only [footing_slowWork, footing_advanceTo, footing_mk, footing_eta, footing_ite, ite_self]

theorem footing_idleTick (s : State) : footing (idleTick s) = footing s := by
  simp only [idleTick, footing_ite, footing_mk, footing_eta, ite_self]

end Sys2Proof.Proofs
end

/-! # What no command changes -/
section
namespace Sys2Proof.Proofs
open Sys2Proof Sys2Proof.Machine Sys2Proof.Safety Sys2Proof.Laws

/-- What a command may do to the queue and to the invariant: leave the first, keep the second. -/
structure Keeps (s t : State) : Prop where
  pending : t.pending = s.pending
  inv : Inv s → Inv t

theorem Keeps.trans {s t u : State} (h : Keeps t u) (g : Keeps s t) : Keeps s u := ⟨h.pending.trans g.pending, fun hi => h.inv (g.inv hi)⟩

/-- The invariant reads the operating mode and the retained areas alone. -/
theorem inv_iff (s : State) :
    Inv s ↔ ((form s.sys).1 = .native ∨ (form s.sys).1 = .compat) ∧ (form s.sys).2.all (cellsFrom 0) = true := by
  unfold Safety.Inv Memory.wf form
  rw [Vector.all_map]
  rfl

theorem keeps_of_footing {s t : State} (h : footing t = footing s) : Keeps s t where
  pending := congrArg Prod.fst h
  inv hi := by
    have hf : form t.sys = form s.sys := congrArg Prod.snd h
    rw [inv_iff, hf]
    exact (inv_iff s).mp hi

theorem Keeps.refl (s : State) : Keeps s s := keeps_of_footing rfl

/-! ## The opcodes -/

/-- A step of an opcode leaves the queue and keeps the invariant. -/
def KeepsOp (run : Op) : Prop := ∀ (r : Running) (s : State), Keeps s (run r s).2

theorem KeepsOp.of_footing {run : Op} (h : ∀ r s, footing (run r s).2 = footing s) : KeepsOp run := fun r s => keeps_of_footing (h r s)

/-- A Lodger's area may change, as long as it keeps its form. -/
theorem keeps_modLodger (n : Fin 4) (f : Lodger → Lodger) (s : State)
    (h : ∀ x, cellsFrom 0 x.retained = true → cellsFrom 0 (f x).retained = true) : Keeps s (modLodger n f s) where
  pending := rfl
  inv hi := by
    obtain ⟨hm, hw⟩ := hi
    refine ⟨hm, ?_⟩
    unfold Memory.wf at hw ⊢
    rw [Vector.all_eq_true] at hw ⊢
    intro i hi
    show cellsFrom 0 ((s.sys.lodgers.set n (f s.sys.lodgers[n]))[i]).retained = true
    rw [Vector.getElem_set]
    split
    · exact h _ (hw n.val n.isLt)
    · exact hw i hi

/-- DESK_RETAIN writes through writeCells, which keeps an area's form (R588). -/
theorem keepsOp_deskRetain : KeepsOp opDeskRetain := by
  intro r s
  unfold opDeskRetain guarded
  split
  · exact .refl s
  · unfold effectDeskRetain
    dsimp only
    split
    · exact keeps_modLodger _ (fun v => { v with retained := writeCells (par r.desc 4 2) (r.desc.data.take (par r.desc 6 2)) v.retained }) s
        (fun _ h => writeCells_cellsFrom _ h)
    · exact .refl s

theorem keepsOp_group00 : ∀ x ∈ opGroup00, KeepsOp x.run := by
  simp only [opGroup00, List.forall_mem_cons]
  exact ⟨ .of_footing footing_opNop, .of_footing footing_opCancel, .of_footing footing_opTimeQuery, .of_footing footing_opDeviceInfo,
    .of_footing footing_opPowerStateSet, .of_footing footing_opOrderlyStop, .of_footing footing_opRestart, .of_footing footing_opDeviceReset,
    .of_footing footing_opConfigSave, nofun⟩

theorem keepsOp_group01 : ∀ x ∈ opGroup01, KeepsOp x.run := by
  simp only [opGroup01, List.forall_mem_cons]
  exact ⟨ .of_footing footing_opLinkConfigure, .of_footing footing_opLinkStatus, .of_footing footing_opStreamConfigure,
    .of_footing footing_opChannelCreate, .of_footing footing_opChannelModify, .of_footing footing_opChannelRemove,
    .of_footing footing_opChannelStatus, .of_footing footing_opChannelMute, .of_footing footing_opPeakLimitSet, nofun⟩

theorem keepsOp_group02 : ∀ x ∈ opGroup02, KeepsOp x.run := by
  simp only [opGroup02, List.forall_mem_cons]
  exact ⟨ .of_footing footing_opCancelConfigure, .of_footing footing_opCancelReset, .of_footing footing_opCancelReadTaps,
    .of_footing footing_opIsolationMeasure, .of_footing footing_opMarginRead, .of_footing footing_opMarginSet,
    .of_footing footing_opStabilityStatus, .of_footing footing_opProbeConfigure, nofun⟩

theorem keepsOp_group03 : ∀ x ∈ opGroup03, KeepsOp x.run := by
  simp only [opGroup03, List.forall_mem_cons]
  exact ⟨ .of_footing footing_opGainSet, .of_footing footing_opAlcConfigure, .of_footing footing_opPowerLimitSet,
    .of_footing footing_opUlCouplingSet, .of_footing footing_opSquelchConfigure, .of_footing footing_opDonorLossConfigure,
    .of_footing footing_opThresholdConfigure, .of_footing footing_opProtectionStatus, .of_footing footing_opProtectionRelease, nofun⟩

theorem keepsOp_group04 : ∀ x ∈ opGroup04, KeepsOp x.run := by
  simp only [opGroup04, List.forall_mem_cons]
  exact ⟨ .of_footing footing_opAssignmentCreate, .of_footing footing_opAssignmentModify, .of_footing footing_opAssignmentRelease,
    .of_footing footing_opMigrate, .of_footing footing_opEngineStatus, .of_footing footing_opPlacementPolicySet, .of_footing footing_opSpareSet,
    .of_footing footing_opCatalogueLoad, .of_footing footing_opCapacityQuery, nofun⟩

theorem keepsOp_group05 : ∀ x ∈ opGroup05, KeepsOp x.run := by
  simp only [opGroup05, List.forall_mem_cons]
  exact ⟨ .of_footing footing_opFrameSyncConfigure, .of_footing footing_opTddPatternSet, .of_footing footing_opFrameStatus,
    .of_footing footing_opFePinConfigure, .of_footing footing_opSerialQueueLoad, .of_footing footing_opLoPlanWrite, .of_footing footing_opLoTune,
    .of_footing footing_opLoCalibrate, .of_footing footing_opLoStatus, .of_footing footing_opTxEnable, .of_footing footing_opSurveyConfigure,
    .of_footing footing_opSurveyRead, .of_footing footing_opCoexConfigure, nofun⟩

theorem keepsOp_group06 : ∀ x ∈ opGroup06, KeepsOp x.run := by
  simp only [opGroup06, List.forall_mem_cons]
  exact ⟨ .of_footing footing_opLoopConfigure, .of_footing footing_opLoopCoeffLoad, .of_footing footing_opLoopSwap,
    .of_footing footing_opLoopModeSet, .of_footing footing_opLoopStatus, .of_footing footing_opRepetitiveConfigure,
    .of_footing footing_opRepetitiveReset, nofun⟩

theorem keepsOp_group07 : ∀ x ∈ opGroup07, KeepsOp x.run := by
  simp only [opGroup07, List.forall_mem_cons]
  exact ⟨ .of_footing footing_opRailConfigure, .of_footing footing_opRailSetVoltage, .of_footing footing_opRailStart,
    .of_footing footing_opRailStop, .of_footing footing_opRailStatus, .of_footing footing_opTrackingSet,
    .of_footing footing_opCoreAvsConfigure, nofun⟩

theorem keepsOp_group08 : ∀ x ∈ opGroup08, KeepsOp x.run := by
  simp only [opGroup08, List.forall_mem_cons]
  exact ⟨ .of_footing footing_opThermalConfigure, .of_footing footing_opThermalStatus, .of_footing footing_opSensorMapSet,
    .of_footing footing_opLifeRead, nofun⟩

theorem keepsOp_group09 : ∀ x ∈ opGroup09, KeepsOp x.run := by
  simp only [opGroup09, List.forall_mem_cons]
  exact ⟨ .of_footing footing_opFaultStatus, .of_footing footing_opReactionSet, .of_footing footing_opFaultRelease,
    .of_footing footing_opFaultParamsSet, nofun⟩

theorem keepsOp_group0A : ∀ x ∈ opGroup0A, KeepsOp x.run := by
  simp only [opGroup0A, List.forall_mem_cons]
  exact ⟨ .of_footing footing_opGbRead, .of_footing footing_opGbTailStatus, .of_footing footing_opGbClearChallenge, .of_footing footing_opGbClear,
    .of_footing footing_opGbAppend, .of_footing footing_opWallClockSet, nofun⟩

theorem keepsOp_group0B : ∀ x ∈ opGroup0B, KeepsOp x.run := by
  simp only [opGroup0B, List.forall_mem_cons]
  exact ⟨ .of_footing footing_opHrRead, .of_footing footing_opHrAmendChallenge, .of_footing footing_opHrAmend, .of_footing footing_opHrLock,
    .of_footing footing_opPatchLoad, .of_footing footing_opLodgerLoad, .of_footing footing_opLodgerStart, .of_footing footing_opLodgerStop,
    .of_footing footing_opIdentityRead, .of_footing footing_opAttest, nofun⟩

theorem keepsOp_group0C : ∀ x ∈ opGroup0C, KeepsOp x.run := by
  simp only [opGroup0C, List.forall_mem_cons]
  exact ⟨ .of_footing footing_opFabricDiscover, .of_footing footing_opFabricStatus, .of_footing footing_opRouteSet,
    .of_footing footing_opBilletSet, .of_footing footing_opLinkReclaim, .of_footing footing_opTwinConfigure, .of_footing footing_opTwinSync,
    .of_footing footing_opTwinHandover, .of_footing footing_opTwinStatus, nofun⟩

theorem keepsOp_group0D : ∀ x ∈ opGroup0D, KeepsOp x.run := by
  simp only [opGroup0D, List.forall_mem_cons]
  exact ⟨ .of_footing footing_opCaptureStart, .of_footing footing_opCaptureStop, .of_footing footing_opCaptureStatus, nofun⟩

theorem keepsOp_groupDesk : ∀ x ∈ opGroupDesk, KeepsOp x.run := by
  simp only [opGroupDesk, List.forall_mem_cons]
  exact ⟨ .of_footing footing_opDeskFaultEvent, .of_footing footing_opDeskWatchdog, .of_footing footing_opDeskHostMessage,
    keepsOp_deskRetain, nofun⟩

theorem keepsOp_group (n : Nat) : ∀ x ∈ opGroup n, KeepsOp x.run := by
  unfold opGroup
  split
  · exact keepsOp_group00
  · exact keepsOp_group01
  · exact keepsOp_group02
  · exact keepsOp_group03
  · exact keepsOp_group04
  · exact keepsOp_group05
  · exact keepsOp_group06
  · exact keepsOp_group07
  · exact keepsOp_group08
  · exact keepsOp_group09
  · exact keepsOp_group0A
  · exact keepsOp_group0B
  · exact keepsOp_group0C
  · exact keepsOp_group0D
  · exact keepsOp_groupDesk
  · exact nofun

/-- Every opcode of the index, and the refusal of one that it does not have (R114). -/
theorem keepsOp_opRun (code : Nat) : KeepsOp (opRun code) := by
  unfold opRun
  cases h : opRow code with
  | none => exact fun _ s => .refl s
  | some x => exact keepsOp_group _ x (List.mem_of_find?_eq_some h)

/-! ## The steps of a command -/

section
variable {run : Op} (hrun : KeepsOp run)
include hrun

theorem keeps_firstStep (r : Running) (s : State) : Keeps s (firstStep run r s).2 := by
  unfold firstStep
  split
  · split
    · exact keeps_of_footing (footing_opDeskDenied r s)
    · exact .refl s
  · exact hrun r s

theorem keeps_runStep (r : Running) (s : State) : Keeps s (runStep run r s).2 := by
  unfold runStep
  split
  · exact keeps_firstStep hrun _ s
  · exact hrun _ s

theorem keeps_stepRunning (q : Nat) (r : Running) (s : State) : Keeps s (stepRunning run q r s) := by
  unfold stepRunning
  split
  · exact keeps_of_footing (footing_finishRunning _ _ _ _)
  · have h := (keeps_runStep hrun r (modSource q (fun x => { x with running := some r }) s)).trans (keeps_of_footing (footing_modSource _ _ s))
    dsimp only
    split
    · exact (keeps_of_footing (footing_finishRunning _ _ _ _)).trans h
    · exact (keeps_of_footing (footing_keepRunning _ _ _ _)).trans h

theorem keeps_startCommand (q : Nat) (f : Fetched) (s : State) : Keeps s (startCommand run q f s) := by
  unfold startCommand
  dsimp only
  split
  · exact keeps_of_footing (footing_finishRunning _ _ _ _)
  · split
    · exact keeps_of_footing (footing_modSource _ _ s)
    · exact keeps_stepRunning hrun _ _ s

/-- A descriptor's row: what is queued and granted is the host interface's, the first step the opcode's. -/
theorem keeps_submitRow (code : Nat) (d : Desc) (s : State) : Keeps s (submitRow code run d s) := by
  have ready (x : State) : Keeps x (refreshReady x) := keeps_of_footing (footing_refreshReady x)
  have queued (q : Nat) (y : Desc) : Keeps s (enqueue q y s) := keeps_of_footing (footing_enqueue q y s)
  unfold submitRow
  dsimp only
  split
  · exact .refl s
  · split
    · split
      · refine (ready _).trans ((keeps_startCommand hrun _ _ _).trans (keeps_of_footing ?_))
        rw [footing_modSource, footing_granted, footing_enqueue]
      · exact (ready _).trans (queued _ _)
    · exact (ready _).trans (queued _ _)

end

theorem keeps_stepLate (q i : Nat) (r : Running) (s : State) : Keeps s (stepLate q i r s) := by
  unfold stepLate
  split
  · exact keeps_of_footing (footing_finishLate _ _ _ _ _)
  · split
    · exact keeps_of_footing (footing_finishLate _ _ _ _ _)
    · have h := keeps_runStep (keepsOp_opRun r.desc.opcode.toNat) r s
      dsimp only
      split
      · exact (keeps_of_footing (footing_finishLate _ _ _ _ _)).trans h
      · refine .trans (keeps_of_footing ?_) h
        rw [footing_modSource, footing_ite, footing_noteAccepted, ite_self]

/-- A grant's step is one of the command in execution, of one that continues, or the start of the next (R88). -/
theorem keeps_serve (q : Nat) (s : State) : Keeps s (serve q s) := by
  unfold serve
  dsimp only
  split
  · exact keeps_stepRunning (keepsOp_opRun _) _ _ s
  · split
    · split
      · exact keeps_stepLate _ _ _ s
      · exact .refl s
    · split
      · split
        · exact (keeps_startCommand (keepsOp_opRun _) _ _ _).trans (keeps_of_footing (footing_modSource _ _ s))
        · exact .refl s
      · exact .refl s

theorem keeps_stepGrant {s t : State} (h : execStepGrant s = .next t) : Keeps s t := by
  obtain rfl := Host.Outcome.next.inj h
  have ready (x : State) : Keeps x (refreshReady x) := keeps_of_footing (footing_refreshReady x)
  split
  · exact .refl s
  · split
    · exact (ready _).trans ((keeps_serve _ _).trans (keeps_of_footing (footing_granted _ s)))
    · exact ready s

/-! ## Resets and their ends -/

/-- A power-on reset empties the areas, which leaves them in form, and keeps the mode. -/
theorem keeps_powerOn (s : State) : Keeps s (coreReset true s) where
  pending := rfl
  inv hi := by
    refine ⟨hi.1, ?_⟩
    show (s.sys.lodgers.map (Lodger.kept true)).all (fun x => cellsFrom 0 x.retained) = true
    rw [Vector.all_map, Vector.all_eq_true]
    exact fun _ _ => rfl

/-- The straps of a product bring one of the two operating modes (R2). -/
theorem keeps_sampleStraps {x : Straps} (hx : x.mode.toNat < 2) (s : State) : Keeps s (sampleStraps x s) := by
  rw [sampleStraps_product hx]
  refine ⟨rfl, fun hi => ⟨?_, hi.2⟩⟩
  show (if x.mode = 0 then Mode.native else .compat) = .native ∨ (if x.mode = 0 then Mode.native else .compat) = .compat
  split
  · exact .inl rfl
  · exact .inr rfl

/-- Straps that let a reset end are a product's (R2, R3). -/
theorem product_of_withStraps {x : Straps} {s t : State} (h : withStraps x s = .next t) : x.mode.toNat < 2 ∧ s = t := by
  by_cases hx : x.mode.toNat < 2
  · exact ⟨hx, Host.Outcome.next.inj ((withStraps_product hx s).symm.trans h)⟩
  · rw [withStraps_factory (by omega)] at h
    cases h

theorem keeps_bootCore (s : State) : Keeps s (bootCore s) := keeps_of_footing (footing_bootCore s)

theorem keeps_vauxValid {x : Straps} {s t : State} (h : execVauxValid x s = .next t) : Keeps s t := by
  unfold execVauxValid at h
  split at h
  · exact Host.Outcome.next.inj h ▸ .refl s
  · obtain ⟨hx, rfl⟩ := product_of_withStraps h
    refine (keeps_bootCore _).trans ((keeps_of_footing (footing_modNpt _ _)).trans ((keeps_sampleStraps hx _).trans (.trans ?_ (keeps_powerOn s))))
    exact keeps_of_footing (footing_modSys _ _)

theorem keeps_boardResetEnd {x : Straps} {s t : State} (h : execBoardResetEnd x s = .next t) : Keeps s t := by
  unfold execBoardResetEnd at h
  split at h
  · obtain ⟨hx, rfl⟩ := product_of_withStraps h
    exact (keeps_bootCore _).trans ((keeps_sampleStraps hx _).trans (keeps_of_footing (footing_modNpt _ s)))
  · exact Host.Outcome.next.inj h ▸ .refl s

theorem keeps_deviceResetFire {x : Straps} {s t : State} (h : execDeviceResetFire x s = .next t) : Keeps s t := by
  unfold execDeviceResetFire at h
  split at h
  · obtain ⟨hx, rfl⟩ := product_of_withStraps h
    refine (keeps_bootCore _).trans ((keeps_sampleStraps hx _).trans (keeps_of_footing ?_))
    rw [footing_modSupply, footing_coreReset]
  · exact Host.Outcome.next.inj h ▸ .refl s

theorem keeps_brownOut {s t : State} (h : execBrownOut s = .next t) : Keeps s t := by
  obtain rfl := Host.Outcome.next.inj h
  split
  · exact .trans (keeps_of_footing (footing_modSys _ _)) (keeps_powerOn s)
  · exact .refl s

/-! ## Every command -/

/-- The row of a descriptor is that of its opcode. -/
theorem keeps_of_submit {code : Nat} {d : Desc} {s t : State}
    (h : (.next (submitRow code (opRun code) d s) : Host.Outcome State Fault Refusal) = .next t) : Keeps s t :=
  Host.Outcome.next.inj h ▸ keeps_submitRow (keepsOp_opRun code) code d s

/-- Command by command: a descriptor's row is its opcode's, an event's leaves the footing, but for those that end a reset or remove VAUX. -/
theorem keeps_exec {i : Instr} {s t : State} (h : exec i s = .next t) : Keeps s t := by
  cases i with
  | nop | cancel | timeQuery | deviceInfo | powerStateSet | orderlyStop | restart | deviceReset | configSave | linkConfigure | linkStatus |
    streamConfigure | channelCreate | channelModify | channelRemove | channelStatus | channelMute | peakLimitSet | cancelConfigure | cancelReset |
    cancelReadTaps | isolationMeasure | marginRead | marginSet | stabilityStatus | probeConfigure | gainSet | alcConfigure | powerLimitSet |
    ulCouplingSet | squelchConfigure | donorLossConfigure | thresholdConfigure | protectionStatus | protectionRelease | assignmentCreate |
    assignmentModify | assignmentRelease | migrate | engineStatus | placementPolicySet | spareSet | kernelCatalogueLoad | capacityQuery |
    frameSyncConfigure | tddPatternSet | frameStatus | fePinConfigure | serialQueueLoad | loPlanWrite | loTune | loCalibrate | loStatus |
    txEnable | surveyConfigure | surveyRead | coexConfigure | loopConfigure | loopCoeffLoad | loopSwap | loopModeSet | loopStatus |
    repetitiveConfigure | repetitiveReset | railConfigure | railSetVoltage | railStart | railStop | railStatus | trackingSet | coreAvsConfigure |
    thermalConfigure | thermalStatus | sensorMapSet | lifeRead | faultStatus | reactionSet | faultRelease | faultParamsSet | gbRead |
    gbTailStatus | gbClearChallenge | gbClear | gbAppend | wallClockSet | hrRead | hrAmendChallenge | hrAmend | hrLock | patchLoad | lodgerLoad |
    lodgerStart | lodgerStop | identityRead | attest | fabricDiscover | fabricStatus | routeSet | billetSet | linkReclaim | twinConfigure |
    twinSync | twinHandover | twinStatus | captureStart | captureStop | captureStatus | deskFaultEvent | deskWatchdog | deskHostMessage |
    deskRetain | deskDenied =>
    exact keeps_of_submit h
  | stepGrant => exact keeps_stepGrant h
  | vauxValid => exact keeps_vauxValid h
  | brownOut => exact keeps_brownOut h
  | boardResetEnd => exact keeps_boardResetEnd h
  | deviceResetFire => exact keeps_deviceResetFire h
  | cmdqDoorbell => exact keeps_of_footing (footing_execCmdqDoorbell h)
  | consumerDoorbell => exact keeps_of_footing (footing_execConsumerDoorbell h)
  | descriptorFetch => exact keeps_of_footing (footing_execDescriptorFetch h)
  | commandTimeout => exact keeps_of_footing (footing_execCommandTimeout h)
  | ringAging => exact keeps_of_footing (footing_execRingAging h)
  | hardwareWaitDone => exact keeps_of_footing (footing_execHardwareWaitDone h)
  | epochRetire => exact keeps_of_footing (footing_execEpochRetire h)
  | recordSpace => exact keeps_of_footing (footing_execRecordSpace h)
  | coalesceTimeout => exact keeps_of_footing (footing_execCoalesceTimeout h)
  | ringEnable => exact keeps_of_footing (footing_execRingEnable h)
  | ringDisable => exact keeps_of_footing (footing_execRingDisable h)
  | hifEnable => exact keeps_of_footing (footing_execHifEnable h)
  | busMasterOff => exact keeps_of_footing (footing_execBusMasterOff h)
  | hostInterfaceReset => exact keeps_of_footing (footing_execHostInterfaceReset h)
  | captureSessionBegin => exact keeps_of_footing (footing_execCaptureSessionBegin h)
  | sysrefArm => exact keeps_of_footing (footing_execSysrefArm h)
  | clearLowWater => exact keeps_of_footing (footing_execClearLowWater h)
  | sysReset => exact keeps_of_footing (footing_execSysReset h)
  | firstFaultClear => exact keeps_of_footing (footing_execFirstFaultClear h)
  | registerWrite => exact keeps_of_footing (footing_execRegisterWrite h)
  | sysrefEdge => exact keeps_of_footing (footing_execSysrefEdge h)
  | jesdLaneLockChange => exact keeps_of_footing (footing_execJesdLaneLockChange h)
  | receiveMultiblock => exact keeps_of_footing (footing_execReceiveMultiblock h)
  | blockProcess => exact keeps_of_footing (footing_execBlockProcess h)
  | oscillationMute => exact keeps_of_footing (footing_execOscillationMute h)
  | blockArrival => exact keeps_of_footing (footing_execBlockArrival h)
  | blockDeadline => exact keeps_of_footing (footing_execBlockDeadline h)
  | transmitSegmentDue => exact keeps_of_footing (footing_execTransmitSegmentDue h)
  | slowTick => exact keeps_of_footing (footing_execSlowTick h)
  | censusTokenArrival => exact keeps_of_footing (footing_execCensusTokenArrival h)
  | alcTick => exact keeps_of_footing (footing_execAlcTick h)
  | implausibleMute => exact keeps_of_footing (footing_execImplausibleMute h)
  | donorUpdate => exact keeps_of_footing (footing_execDonorUpdate h)
  | couplingRelease => exact keeps_of_footing (footing_execCouplingRelease h)
  | donorLossMute => exact keeps_of_footing (footing_execDonorLossMute h)
  | donorReturn => exact keeps_of_footing (footing_execDonorReturn h)
  | floorUpdate => exact keeps_of_footing (footing_execFloorUpdate h)
  | squelchHangExpiry => exact keeps_of_footing (footing_execSquelchHangExpiry h)
  | overpowerMute => exact keeps_of_footing (footing_execOverpowerMute h)
  | overpowerRetry => exact keeps_of_footing (footing_execOverpowerRetry h)
  | compositeOver => exact keeps_of_footing (footing_execCompositeOver h)
  | portRetry => exact keeps_of_footing (footing_execPortRetry h)
  | reductionEnded => exact keeps_of_footing (footing_execReductionEnded h)
  | delaySearchEnd => exact keeps_of_footing (footing_execDelaySearchEnd h)
  | measurementEnd => exact keeps_of_footing (footing_execMeasurementEnd h)
  | marginStale => exact keeps_of_footing (footing_execMarginStale h)
  | backoffDwellExpiry => exact keeps_of_footing (footing_execBackoffDwellExpiry h)
  | holdDwellExpiry => exact keeps_of_footing (footing_execHoldDwellExpiry h)
  | oscHoldoffExpiry => exact keeps_of_footing (footing_execOscHoldoffExpiry h)
  | marginLostRetry => exact keeps_of_footing (footing_execMarginLostRetry h)
  | splitTc2Silence => exact keeps_of_footing (footing_execSplitTc2Silence h)
  | engineCheckFail => exact keeps_of_footing (footing_execEngineCheckFail h)
  | testBlocksEnd => exact keeps_of_footing (footing_execTestBlocksEnd h)
  | engineSlowNotice => exact keeps_of_footing (footing_execEngineSlowNotice h)
  | wingSlow => exact keeps_of_footing (footing_execWingSlow h)
  | migrationCopyDone => exact keeps_of_footing (footing_execMigrationCopyDone h)
  | migrationSwitch => exact keeps_of_footing (footing_execMigrationSwitch h)
  | migrationLimit => exact keeps_of_footing (footing_execMigrationLimit h)
  | selfTestDone => exact keeps_of_footing (footing_execSelfTestDone h)
  | frameStart => exact keeps_of_footing (footing_execFrameStart h)
  | syncReport => exact keeps_of_footing (footing_execSyncReport h)
  | ppsEdge => exact keeps_of_footing (footing_execPpsEdge h)
  | holdoverEntry => exact keeps_of_footing (footing_execHoldoverEntry h)
  | holdoverExpiry => exact keeps_of_footing (footing_execHoldoverExpiry h)
  | tddPatternSwitch => exact keeps_of_footing (footing_execTddPatternSwitch h)
  | loLock => exact keeps_of_footing (footing_execLoLock h)
  | loLockLoss => exact keeps_of_footing (footing_execLoLockLoss h)
  | txEnableDeadline => exact keeps_of_footing (footing_execTxEnableDeadline h)
  | serialTrigger => exact keeps_of_footing (footing_execSerialTrigger h)
  | serialTransactionEnd => exact keeps_of_footing (footing_execSerialTransactionEnd h)
  | surveyDwellEnd => exact keeps_of_footing (footing_execSurveyDwellEnd h)
  | coexReqRise => exact keeps_of_footing (footing_execCoexReqRise h)
  | coexGrant => exact keeps_of_footing (footing_execCoexGrant h)
  | coexDeferExpiry => exact keeps_of_footing (footing_execCoexDeferExpiry h)
  | coexReqFall => exact keeps_of_footing (footing_execCoexReqFall h)
  | coexLimit => exact keeps_of_footing (footing_execCoexLimit h)
  | coexAct => exact keeps_of_footing (footing_execCoexAct h)
  | loopTick => exact keeps_of_footing (footing_execLoopTick h)
  | handoverWindowEnd => exact keeps_of_footing (footing_execHandoverWindowEnd h)
  | switchingCycle => exact keeps_of_footing (footing_execSwitchingCycle h)
  | railUv => exact keeps_of_footing (footing_execRailUv h)
  | railShort => exact keeps_of_footing (footing_execRailShort h)
  | ladderMove => exact keeps_of_footing (footing_execLadderMove h)
  | phaseOpen => exact keeps_of_footing (footing_execPhaseOpen h)
  | phaseSense => exact keeps_of_footing (footing_execPhaseSense h)
  | softStartDone => exact keeps_of_footing (footing_execSoftStartDone h)
  | railStopDone => exact keeps_of_footing (footing_execRailStopDone h)
  | timebaseLock => exact keeps_of_footing (footing_execTimebaseLock h)
  | bootRetry => exact keeps_of_footing (footing_execBootRetry h)
  | coreResetRelease => exact keeps_of_footing (footing_execCoreResetRelease h)
  | thermalThresholdCross => exact keeps_of_footing (footing_execThermalThresholdCross h)
  | sensorReinstate => exact keeps_of_footing (footing_execSensorReinstate h)
  | thermalAutoRestart => exact keeps_of_footing (footing_execThermalAutoRestart h)
  | criticalTrip east => exact keeps_of_footing (footing_execCriticalTrip (east := east) h)
  | criticalRecovery => exact keeps_of_footing (footing_execCriticalRecovery h)
  | lifeCheckpoint => exact keeps_of_footing (footing_execLifeCheckpoint h)
  | daily => exact keeps_of_footing (footing_execDaily h)
  | faultEvent => exact keeps_of_footing (footing_execFaultEvent h)
  | faultQuietExpiry => exact keeps_of_footing (footing_execFaultQuietExpiry h)
  | rfReady => exact keeps_of_footing (footing_execRfReady h)
  | holdupTrip => exact keeps_of_footing (footing_execHoldupTrip h)
  | holdupReopen => exact keeps_of_footing (footing_execHoldupReopen h)
  | supplyComparatorTrip => exact keeps_of_footing (footing_execSupplyComparatorTrip h)
  | supplyRecovered => exact keeps_of_footing (footing_execSupplyRecovered h)
  | boardReset => exact keeps_of_footing (footing_execBoardReset h)
  | wakeDetect => exact keeps_of_footing (footing_execWakeDetect h)
  | wallClockAlarm => exact keeps_of_footing (footing_execWallClockAlarm h)
  | perstRelease => exact keeps_of_footing (footing_execPerstRelease h)
  | sleepL2WaitEnd => exact keeps_of_footing (footing_execSleepL2WaitEnd h)
  | autoSleep => exact keeps_of_footing (footing_execAutoSleep h)
  | innkeeperWatchdog => exact keeps_of_footing (footing_execInnkeeperWatchdog h)
  | innkeeperRestartDone => exact keeps_of_footing (footing_execInnkeeperRestartDone h)
  | patchFloorRaise => exact keeps_of_footing (footing_execPatchFloorRaise h)
  | lodgerWatchdog => exact keeps_of_footing (footing_execLodgerWatchdog h)
  | lodgerAutorestart => exact keeps_of_footing (footing_execLodgerAutorestart h)
  | deskViolation => exact keeps_of_footing (footing_execDeskViolation h)
  | gbIntake => exact keeps_of_footing (footing_execGbIntake h)
  | collectorIntakeTimeout => exact keeps_of_footing (footing_execCollectorIntakeTimeout h)
  | gbTakeEntry => exact keeps_of_footing (footing_execGbTakeEntry h)
  | tailTimeout => exact keeps_of_footing (footing_execTailTimeout h)
  | tailSnapshot => exact keeps_of_footing (footing_execTailSnapshot h)
  | gbCommitDone => exact keeps_of_footing (footing_execGbCommitDone h)
  | clearEraseDone => exact keeps_of_footing (footing_execClearEraseDone h)
  | checkpoint => exact keeps_of_footing (footing_execCheckpoint h)
  | obxFrameReceive => exact keeps_of_footing (footing_execObxFrameReceive h)
  | replayTimeout => exact keeps_of_footing (footing_execReplayTimeout h)
  | obxLaneFailure => exact keeps_of_footing (footing_execObxLaneFailure h)
  | linkTrained => exact keeps_of_footing (footing_execLinkTrained h)
  | reclaimReportTimeout => exact keeps_of_footing (footing_execReclaimReportTimeout h)
  | heartbeatSend => exact keeps_of_footing (footing_execHeartbeatSend h)
  | heartbeatTimeout => exact keeps_of_footing (footing_execHeartbeatTimeout h)
  | ownerArbitration => exact keeps_of_footing (footing_execOwnerArbitration h)
  | ownerLost => exact keeps_of_footing (footing_execOwnerLost h)
  | aliveStop => exact keeps_of_footing (footing_execAliveStop h)
  | claimWaitExpiry => exact keeps_of_footing (footing_execClaimWaitExpiry h)
  | handoverSwitch => exact keeps_of_footing (footing_execHandoverSwitch h)
  | autoResync => exact keeps_of_footing (footing_execAutoResync h)
  | tapInstruction => exact keeps_of_footing (footing_execTapInstruction h)
  | legacySpiFrame => exact keeps_of_footing (footing_execLegacySpiFrame h)
  | compatWindowAccess => exact keeps_of_footing (footing_execCompatWindowAccess h)
  | gqHiRead => exact keeps_of_footing (footing_execGqHiRead h)
  | gqRunClear => exact keeps_of_footing (footing_execGqRunClear h)
  | gqRunSet => exact keeps_of_footing (footing_execGqRunSet h)
  | gqSoftReset => exact keeps_of_footing (footing_execGqSoftReset h)
  | gqCentreWrite => exact keeps_of_footing (footing_execGqCentreWrite h)
  | chEnableSet => exact keeps_of_footing (footing_execChEnableSet h)
  | chEnableClear => exact keeps_of_footing (footing_execChEnableClear h)
  | chMuteWrite => exact keeps_of_footing (footing_execChMuteWrite h)
  | chBwWrite => exact keeps_of_footing (footing_execChBwWrite h)
  | chSquelchWrite => exact keeps_of_footing (footing_execChSquelchWrite h)
  | chFreqWrite => exact keeps_of_footing (footing_execChFreqWrite h)
  | chGainWrite => exact keeps_of_footing (footing_execChGainWrite h)
  | gqMarginWrite => exact keeps_of_footing (footing_execGqMarginWrite h)
  | gqPowerLimitWrite => exact keeps_of_footing (footing_execGqPowerLimitWrite h)
  | gqDonorLossWrite => exact keeps_of_footing (footing_execGqDonorLossWrite h)
  | chOscClear => exact keeps_of_footing (footing_execChOscClear h)
  | safetyNetRelease => exact keeps_of_footing (footing_execSafetyNetRelease h)
  | hostInterfaceResetEnd => exact keeps_of_footing (footing_execHostInterfaceResetEnd h)
  | rtcOscillatorFailure => exact keeps_of_footing (footing_execRtcOscillatorFailure h)
  | handoverAckDeadline => exact keeps_of_footing (footing_execHandoverAckDeadline h)
  | comparatorArmed => exact keeps_of_footing (footing_execComparatorArmed h)

/-- Settles O3. -/
theorem execKeepsTheQueue : Obligations.ExecKeepsTheQueue := by
  unfold Obligations.ExecKeepsTheQueue
  exact fun _ _ _ h => (keeps_exec h).pending

/-- Settles O4: an idle step changes time alone, and every command keeps the invariant of the state with the queue's rest. -/
theorem everyStepKeepsInv : Obligations.EveryStepKeepsInv := by
  unfold Obligations.EveryStepKeepsInv
  intro s t hi h
  cases hp : s.pending with
  | nil =>
    rw [step_nil hp] at h
    obtain rfl := Host.Outcome.next.inj h
    exact (keeps_of_footing (footing_idleTick s)).inv hi
  | cons c rest =>
    rw [step_cons hp] at h
    exact (keeps_exec h).inv hi

/-- Settles O60: the three events that end a reset read their straps; no other command can stop. -/
theorem everyCommandCompletes : Obligations.EveryCommandCompletes := by
  unfold Obligations.EveryCommandCompletes
  refine fun i s => ⟨fun hi => ?_, fun x hx => ⟨?_, ?_, ?_⟩⟩
  · cases i with
    | vauxValid x => exact absurd rfl (hi x).1
    | boardResetEnd x => exact absurd rfl (hi x).2.1
    | deviceResetFire x => exact absurd rfl (hi x).2.2
    | _ => exact ⟨_, rfl⟩
  · show ∃ t, execVauxValid x s = .next t
    unfold execVauxValid
    rw [withStraps_product hx, ← apply_ite]
    exact ⟨_, rfl⟩
  · show ∃ t, execBoardResetEnd x s = .next t
    unfold execBoardResetEnd
    rw [withStraps_product hx, ← apply_ite]
    exact ⟨_, rfl⟩
  · show ∃ t, execDeviceResetFire x s = .next t
    unfold execDeviceResetFire
    rw [withStraps_product hx, ← apply_ite]
    exact ⟨_, rfl⟩

end Sys2Proof.Proofs
end

/-! # The calls of a Lodger's desk -/
section
namespace Sys2Proof.Proofs
open Sys2Proof Sys2Proof.Machine Sys2Proof.Safety Sys2Proof.Laws

/-! ## One Lodger's core after a change of one -/

theorem lodger_modLodger_same (n : Fin 4) (f : Lodger → Lodger) (s : State) : lodger n (modLodger n f s) = f (lodger n s) :=
  Vector.getElem_set_self n.isLt

theorem lodger_modLodger_ne {m n : Fin 4} (f : Lodger → Lodger) (s : State) (h : m ≠ n) : lodger m (modLodger n f s) = lodger m s :=
  Vector.getElem_set_ne n.isLt m.isLt (fun e => h (Fin.ext e.symm))

/-- What any accepted command may change beside its effect is no Lodger's. -/
theorem lodger_on_modLodger_same (b : Aside) (n : Fin 4) (f : Lodger → Lodger) (s : State) :
    lodger n (b.on (modLodger n f s)) = f (lodger n s) := lodger_modLodger_same n f s

theorem lodger_on_modLodger_ne (b : Aside) {m n : Fin 4} (f : Lodger → Lodger) (s : State) (h : m ≠ n) :
    lodger m (b.on (modLodger n f s)) = lodger m s := lodger_modLodger_ne f s h

/-! ## Calls past their checks (R588) -/

section
variable {d : Desc} {s : State}

theorem does_deskFaultEvent : Does 0xD000 checkDeskFaultEvent (.deskFaultEvent d) d s 0 (fun t => t = { Kept s t with
    faults := { s.faults with inbox := s.faults.inbox ++
      [{ src := Fin.ofNat 512 (par d 0 2), obj := BitVec.ofNat 16 (par d 2 2), detail := BitVec.ofNat 64 (par d 8 8) }] } }) :=
  answers_of_effect effectDeskFaultEvent rfl (fun _ => rfl) (fun _ _ =>
    ⟨⟨_, rfl, rfl, rfl, rfl, read_of_detail_zero rfl⟩, rfl, rfl, fun _ => rfl⟩)

theorem does_deskWatchdog : Does 0xD001 checkDeskWatchdog (.deskWatchdog d) d s 0 (fun t =>
    lodger (Fin.ofNat 4 (d.ring.val - 16)) t = { lodger (Fin.ofNat 4 (d.ring.val - 16)) s with
      kickedTick := s.slowTicks, watchdogMs := if par d 0 4 = 0 then (lodger (Fin.ofNat 4 (d.ring.val - 16)) s).watchdogMs else par d 0 4 } ∧
    ∀ n, n ≠ Fin.ofNat 4 (d.ring.val - 16) → lodger n t = lodger n s) := by
  refine answers_of_effect effectDeskWatchdog rfl (fun _ => rfl) (fun x _ => ?_)
  have effect : effectDeskWatchdog (starting 0xD001 d s) { s with hif := x } = (doneWith 0, modLodger (Fin.ofNat 4 (d.ring.val - 16))
      (fun v => { v with watchdogMs := if par d 0 4 = 0 then v.watchdogMs else par d 0 4, kickedTick := s.slowTicks }) { s with hif := x }) := rfl
  rw [effect]
  exact ⟨⟨_, rfl, rfl, rfl, rfl, read_of_detail_zero rfl⟩, rfl, rfl, fun b =>
    ⟨lodger_on_modLodger_same b _ _ { s with hif := x }, fun _ hn => lodger_on_modLodger_ne b _ { s with hif := x } hn⟩⟩

theorem does_deskHostMessage : Does 0xD002 checkDeskHostMessage (.deskHostMessage d) d s 0 (fun t => t = Kept s t) := by
  refine answers_of_effect effectDeskHostMessage rfl (fun _ => rfl) (fun x _ => ?_)
  have posted : (effectDeskHostMessage (starting 0xD002 d s) { s with hif := x }).2 =
      { s with hif := (effectDeskHostMessage (starting 0xD002 d s) { s with hif := x }).2.hif } := postEntry_hif _ _ _ _
  refine ⟨⟨_, rfl, rfl, rfl, rfl, read_of_detail_zero rfl⟩, ?_, ?_, fun _ => ?_⟩ <;> rw [posted]
  rfl

theorem does_deskRetain_write (hw : par d 0 1 = 1) : Does 0xD003 checkDeskRetain (.deskRetain d) d s 0 (fun t =>
    (lodger (Fin.ofNat 4 (d.ring.val - 16)) t).retained =
      writeCells (par d 4 2) (d.data.take (par d 6 2)) (lodger (Fin.ofNat 4 (d.ring.val - 16)) s).retained ∧
    (lodger (Fin.ofNat 4 (d.ring.val - 16)) t).state = (lodger (Fin.ofNat 4 (d.ring.val - 16)) s).state ∧
    ∀ n, n ≠ Fin.ofNat 4 (d.ring.val - 16) → lodger n t = lodger n s) := by
  refine answers_of_effect effectDeskRetain rfl (fun _ => rfl) (fun x _ => ?_)
  have effect : effectDeskRetain (starting 0xD003 d s) { s with hif := x } = (doneWith 0, modLodger (Fin.ofNat 4 (d.ring.val - 16))
      (fun v => { v with retained := writeCells (par d 4 2) (d.data.take (par d 6 2)) v.retained }) { s with hif := x }) := if_pos hw
  rw [effect]
  refine ⟨⟨_, rfl, rfl, rfl, rfl, read_of_detail_zero rfl⟩, rfl, rfl, fun b => ⟨?_, ?_, fun _ hn => ?_⟩⟩
  · rw [lodger_on_modLodger_same]
    rfl
  · rw [lodger_on_modLodger_same]
    rfl
  · exact lodger_on_modLodger_ne b _ { s with hif := x } hn

/-- A read is delivered in the buffer of the call, and is no setting that is stored. -/
theorem does_deskRetain_read (hr : par d 0 1 ≠ 1) : Does 0xD003 checkDeskRetain (.deskRetain d) d s 0 (fun t => t = Kept s t ∧
    Delivered d (readCells (lodger (Fin.ofNat 4 (d.ring.val - 16)) s).retained (par d 4 2) (par d 6 2)) t) := by
  intro ⟨hb, hc⟩
  have effect : effectDeskRetain (starting 0xD003 d s) (stepping 0xD003 d s) =
      (doneData 0 (readCells (lodger (Fin.ofNat 4 (d.ring.val - 16)) (stepping 0xD003 d s)).retained (par d 4 2) (par d 6 2)), stepping 0xD003 d s) :=
    if_neg hr
  have area : lodger (Fin.ofNat 4 (d.ring.val - 16)) (stepping 0xD003 d s) = lodger (Fin.ofNat 4 (d.ring.val - 16)) s := by rw [stepping_hif]; rfl
  rw [area] at effect
  obtain ⟨t, ht, ha, hend⟩ := exec_ended (i := .deskRetain d) rfl hb rfl ((guarded_pass effectDeskRetain hc).trans effect) (read_of_detail_zero rfl)
    (by rw [stepping_hif])
  exact ⟨t, ht, ha, kept_trans (kept_hif (stepping_hif 0xD003 d s)) (kept_hif hend.hif), hend.delivered⟩

end

/-! ## A call the desk does not accept (R587, R588) -/

/-- A granted call that the desk refuses is ended at its first step, with its source raised. -/
theorem submitRow_denied {code : Nat} {op : Op} {d : Desc} {s : State} (h : Granted code d s)
    (hu : startRefusal (coded code d) s = some (.rejectedState, 0x0B0E)) :
    submitRow code op d s = refreshReady (finishRunning d.ring.val (starting code d s)
      { status := .rejectedState, detail := 0x0B0E, result := 0, seq := none, data := [] }
      (opDeskDenied (starting code d s) (stepping code d s)).2) := by
  obtain ⟨ho, hf, ⟨ha, hr⟩, ⟨hm, hp⟩, hi, hl⟩ := h
  have hq := source_enqueue d.ring.val (coded code d) s ho ha
  have hl' : hasStandby (granting code d s) = false ∨ (opRow (coded code d).opcode.toNat).any (fun y => y.kind == .epoch) = false := by
    rw [sys_granting, hasStandby_hif]
    exact hl.imp id And.right
  have hu' : startRefusal (coded code d) (granting code d s) = some (.rejectedState, 0x0B0E) := by rw [sys_granting, startRefusal_hif]; exact hu
  have hi' : (granting code d s).sys.innkeeper = .running := by rw [sys_granting]; exact hi
  have e1 : (granting code d s).slowTicks = s.slowTicks := by rw [sys_granting]
  have e2 : (granting code d s).now = s.now := by rw [sys_granting]
  have first : firstStep op (starting code d s) (stepping code d s) =
      opDeskDenied (starting code d s) (stepping code d s) := by
    have hs : startRefusal (coded code d) (stepping code d s) = some (.rejectedState, 0x0B0E) := by
      rw [stepping_hif, startRefusal_hif]
      exact hu
    unfold firstStep
    show (match startRefusal (coded code d) (stepping code d s) with | some e => _ | none => _) = _
    rw [hs]
    rfl
  unfold submitRow
  unfold coded at hq hm hp
  simp only [hf, hq, hm, hp, Bool.not_true, Bool.false_eq_true, if_false, Bool.and_self, if_true]
  refine congrArg refreshReady ?_
  show startCommand op d.ring.val _ (granting code d s) = _
  unfold startCommand
  rw [withLead_none { d with opcode := BitVec.ofNat 16 code } _ hl']
  simp only [hi', Bool.false_eq_true, if_false, bne_self_eq_false, Bool.and_false, Bool.false_and]
  unfold stepRunning runStep
  simp only [reduceCtorEq, if_false, if_true, e1, e2]
  rw [stepsAfter_first _ rfl]
  show (match (firstStep op (starting code d s) (stepping code d s)).1 with
    | .final f => finishRunning d.ring.val (starting code d s) f (firstStep op (starting code d s) (stepping code d s)).2
    | .stay v => keepRunning d.ring.val _ v (firstStep op (starting code d s) (stepping code d s)).2) = _
  rw [first]
  rfl

theorem runs_deskDenied {d : Desc} {s : State} (h : Granted d.opcode.toNat d s)
    (hu : startRefusal (coded d.opcode.toNat d) s = some (.rejectedState, 0x0B0E)) :
    ∃ t, exec (.deskDenied d) s = .next t ∧ Answered d.opcode.toNat d .rejectedState 0x0B0E 0 t ∧
      t.faults = { s.faults with inbox := s.faults.inbox ++
        [{ src := 8, obj := BitVec.ofNat 16 (object 13 (1 + (Fin.ofNat 4 (d.ring.val - 16)).val)), detail := 0 }] } ∧
      t = { Kept s t with faults := t.faults } := by
  have raised : (opDeskDenied (starting d.opcode.toNat d s) (stepping d.opcode.toNat d s)).2 =
      raise 8 (object 13 (1 + (Fin.ofNat 4 (d.ring.val - 16)).val)) 0 { s with hif := (stepping d.opcode.toNat d s).hif } := by
    rw [← stepping_hif]
    rfl
  have hl : Leadless d.opcode.toNat s := h.leadless.imp id And.left
  obtain ⟨hk, c, ha⟩ := finishRunning_start (r := starting d.opcode.toNat d s)
    (f := { status := .rejectedState, detail := 0x0B0E, result := 0, seq := none, data := [] })
    (s' := raise 8 (object 13 (1 + (Fin.ofNat 4 (d.ring.val - 16)).val)) 0 { s with hif := (stepping d.opcode.toNat d s).hif })
    h.outside hl rfl rfl (by simp [Unread]) le_rfl rfl
  obtain ⟨hc, ht, ho, h1, h2, h3, h4, hs⟩ := ha
  refine ⟨_, congrArg Host.Outcome.next (submitRow_denied h hu), ?_⟩
  rw [raised]
  have hrun := keepsRunning_refreshReady (finishRunning d.ring.val (starting d.opcode.toNat d s)
    { status := .rejectedState, detail := 0x0B0E, result := 0, seq := none, data := [] }
    (raise 8 (object 13 (1 + (Fin.ofNat 4 (d.ring.val - 16)).val)) 0 { s with hif := (stepping d.opcode.toNat d s).hif }))
  refine ⟨⟨c, (hrun.lastRecord _).trans hc, ht, ho, h1, h2, h3, h4, (hrun.2 _).trans hs⟩, ?_⟩
  obtain ⟨b, hb⟩ := aside_of_kept (kept_trans hk (kept_hif hrun.hif))
  rw [hb]
  exact ⟨rfl, rfl⟩

/-- Settles O27: each call is its effect past its checks, and a refused one raises source 8. -/
theorem deskCalls : Obligations.DeskCalls := by
  unfold Obligations.DeskCalls
  exact fun _ _ => ⟨does_deskFaultEvent, does_deskWatchdog, does_deskHostMessage, does_deskRetain_write, does_deskRetain_read, runs_deskDenied⟩

end Sys2Proof.Proofs
end

/-! # First steps that stay, and later steps -/
section
namespace Sys2Proof.Proofs
open Sys2Proof Sys2Proof.Machine Sys2Proof.Safety Sys2Proof.Laws

/-- Before its interval has passed a command posts no progress record (R93). -/
theorem postProgress_early {q : Nat} {r : Running} {s : State} (h : s.now ≤ r.lastRecord) : postProgress q r s = (r, s) := by
  have late : ¬ r.lastRecord + max 1 (min 1000 s.hif.progressInterval.toNat) * countsPerSlowTick ≤ s.now := by
    have : 0 < max 1 (min 1000 s.hif.progressInterval.toNat) * countsPerSlowTick :=
      Nat.mul_pos (Nat.lt_of_lt_of_le Nat.one_pos (Nat.le_max_left _ _)) (by decide)
    omega
  unfold postProgress
  dsimp only
  rw [decide_eq_false late, Bool.and_false, if_neg Bool.false_ne_true]

/-- A command whose settings are not stored is heard of by no standby either (R589, R636). -/
theorem noteAccepted_unforwarded {x : Desc} (h : forwarded x.opcode.toNat = false) (s : State) : noteAccepted x s = s := by
  have hx : coded x.opcode.toNat x = x := by simp only [coded, BitVec.ofNat_toNat, BitVec.setWidth_eq]
  have ha : accept x s = s := by
    have hu : Unstored x.opcode.toNat := by
      unfold Unstored
      rwa [BitVec.ofNat_toNat, BitVec.setWidth_eq]
    exact hx ▸ accept_unstored hu x s
  unfold noteAccepted
  simp only [ha, h, Bool.and_false, Bool.false_eq_true, if_false]

/-- A command stays, in time and with no progress to post; what it commits to is no setting that is stored. -/
theorem keepRunning_early {q : Nat} {old v : Running} {s : State} (hc : v.committed = true → noteAccepted v.desc s = s)
    (he : expired v s = false) (hn : s.now ≤ v.lastRecord) :
    keepRunning q old v s = modSource q (fun x => { x with running := some v }) s := by
  have note : (if v.committed && !old.committed then noteAccepted v.desc s else s) = s := by
    split
    · next h => exact hc (Bool.and_eq_true_iff.mp h).1
    · rfl
  unfold keepRunning
  rw [note]
  dsimp only
  rw [he, if_neg Bool.false_ne_true, postProgress_early hn]

/-- The state that a first step meets is the state before, but for the host interface. -/
theorem exists_stepping (code : Nat) (d : Desc) (s : State) : ∃ x : HostIf, stepping code d s = { s with hif := x } :=
  ⟨_, stepping_hif code d s⟩

/-- A first step that stays leaves the state of its effect but for the host interface, where no standby or store hears of it. -/
theorem exec_stays {code : Nat} {i : Instr} {op : Op} {d : Desc} {s s' : State} {v : Running} {x : HostIf}
    (hx : exec i s = .next (submitRow code op d s)) (hb : Begins code d s) (hm : stepping code d s = { s with hif := x })
    (hop : op (starting code d s) { s with hif := x } = (.stay v, s')) (hd : v.desc = coded code d)
    (hc : v.committed = true → Unstored code) (hs : v.startTick = s.slowTicks) (hl : v.lastRecord = s.now) (ht : s'.slowTicks = s.slowTicks)
    (hn : s'.now = s.now) : ∃ t, exec i s = .next t ∧ Awaits code d v.wait t ∧ t = { s' with hif := t.hif } := by
  have kept : keepRunning d.ring.val { starting code d s with steps := 0 } v s' = modSource d.ring.val (fun x => { x with running := some v }) s' :=
    keepRunning_early (fun h => hd ▸ noteAccepted_unforwarded (x := coded code d) (hc h) s') (expired_start v s' (ht.trans hs.symm).le)
      (hn.trans hl.symm).le
  have hq : d.ring.val < 22 := d.ring.isLt
  have hrun := keepsRunning_refreshReady (modSource d.ring.val (fun x => { x with running := some v }) s')
  refine ⟨_, hx, ?_⟩
  rw [submit_begins _ _ _ _ hb, hm, hop]
  dsimp only
  rw [kept]
  refine ⟨⟨v, (hrun.2 _).trans ?_, hd, rfl⟩, hrun.hif⟩
  rw [source_modSource_same _ _ _ hq]

/-! ## The next step of a command in execution (R85, R88) -/

theorem source_granted {q : Nat} (p : Nat) (s : State) (hq : q < 22) : (source p (granted q s)).running = (source p s).running := by
  show (source p (modSource q (fun x => { x with readySince := none, aged := false }) s)).running = _
  by_cases h : p = q
  · rw [h, source_modSource_same _ _ _ hq]
  · rw [source_modSource_ne _ _ _ _ h]

/-- A source chosen whose command waits for nothing takes that command's next step. -/
theorem exec_stepGrant_running {q : Nat} {r : Running} {s : State} (hu : s.sys.coreUp = true) (hc : chosen s = some q) (hq : q < 22)
    (hr : (source q s).running = some r) (hw : r.wait = .none) :
    exec .stepGrant s = .next (refreshReady (stepRunning (opRun r.desc.opcode.toNat) q r (granted q s))) := by
  have ready (x : State) : runReady r x = true := by unfold runReady; rw [hw]
  have running : (source q (granted q s)).running.filter (fun r => runReady r (granted q s)) = some r := by
    rw [source_granted q s hq, hr, Option.filter_some, if_pos (ready _)]
  rw [exec_stepGrant_chosen hu hc]
  unfold serve
  dsimp only
  rw [running]

section
variable {run : Op} {q : Nat} {r : Running} {s s' : State} (hw : r.wait = .none) (hs : r.steps ≠ 0)
include hw hs

/-- The state that a later step meets, and what its opcode makes of it. -/
theorem stepRunning_final {f : Finish}
    (h : run { r with steps := stepsAfter r } (modSource q (fun x => { x with running := some r }) s) = (.final f, s')) :
    stepRunning run q r s = finishRunning q { r with steps := stepsAfter r } f s' := by
  have hne : ¬ r.wait = .epochs := by rw [hw]; exact nofun
  unfold stepRunning runStep
  rw [if_neg hne, if_neg hs, h]

theorem stepRunning_stay {v : Running}
    (h : run { r with steps := stepsAfter r } (modSource q (fun x => { x with running := some r }) s) = (.stay v, s')) :
    stepRunning run q r s = keepRunning q r v s' := by
  have hne : ¬ r.wait = .epochs := by rw [hw]; exact nofun
  unfold stepRunning runStep
  rw [if_neg hne, if_neg hs, h]

end

/-! ## The end of a later step (R80, R91) -/

theorem expired_writeBuffer (r : Running) (x : Desc) (bytes : List Byte) (s : State) : expired r (writeBuffer x bytes s) = expired r s := by
  unfold writeBuffer
  split <;> rfl

theorem expired_modSource (r : Running) (q : Nat) (f : Source → Source) (s : State) : expired r (modSource q f s) = expired r s := rfl

theorem finishRunning_handed {q : Nat} {r : Running} {f : Finish} {s : State} (hq : q < 20) (he : expired r s = false) (hf : ¬ Unread f)
    (hn : forwarded r.desc.opcode.toNat = false) : finishRunning q r f s = handedOver q r f s := by
  have unread : f.readFailed r.committed = f := by
    unfold Finish.readFailed
    rw [if_neg]
    exact fun h => hf (.inl ⟨by simp_all, by simp_all⟩)
  have h20 : q ≠ 20 := by omega
  have h21 : q ≠ 21 := by omega
  have ended (t : State) : endEffects q r f.status f.detail t = t := by
    unfold Unread at hf
    simp only [endEffects, noteAccepted_unforwarded hn, ite_self, h20, h21, hf, false_and, if_false]
  unfold finishRunning
  rw [unread]
  dsimp only
  rw [expired_writeBuffer, expired_modSource, he, if_neg Bool.false_ne_true, ended]
  rfl

/-- A source chosen whose command ends with its next step: the record is handed over, and the state is that of the effect but for the host interface.
-/
theorem exec_stepGrant_ends {q : Nat} {r : Running} {s s' : State} {f : Finish} (hu : s.sys.coreUp = true) (hc : chosen s = some q) (hq : q < 20)
    (hr : (source q s).running = some r) (hw : r.wait = .none) (hs : r.steps ≠ 0) (hn : forwarded r.desc.opcode.toNat = false) (hf : ¬ Unread f)
    (hop : opRun r.desc.opcode.toNat { r with steps := stepsAfter r } (modSource q (fun x => { x with running := some r }) (granted q s)) =
      (.final f, s'))
    (he : expired r s' = false) :
    ∃ t, exec .stepGrant s = .next t ∧ (source q t).running = none ∧ Delivered r.desc f.data t ∧
      (∃ c, lastRecord q t = some c ∧ c.tag = r.desc.tag ∧ c.status = f.status ∧ c.final = true ∧ c.result = f.result) ∧ t =
        { s' with hif := t.hif } := by
  have hq' : q < 22 := by omega
  have run : exec .stepGrant s = .next (refreshReady (handedOver q { r with steps := stepsAfter r } f s')) := by
    rw [exec_stepGrant_running hu hc hq' hr hw, stepRunning_final hw hs hop, finishRunning_handed (r := { r with steps := stepsAfter r }) hq he hf hn]
  have hrun := keepsRunning_refreshReady (handedOver q { r with steps := stepsAfter r } f s')
  obtain ⟨p, n, hl⟩ := handedOver_lastRecord { r with steps := stepsAfter r } f s' hq'
  have hd := delivered_handedOver q { r with steps := stepsAfter r } f s'
  refine ⟨_, run, (hrun.2 _).trans (handedOver_source _ _ _ hq'), ?_, ⟨_, (hrun.lastRecord _).trans hl, rfl, rfl, rfl, rfl⟩, ?_⟩
  · unfold Delivered at hd ⊢
    rw [hrun.dataWritten]
    exact hd
  · rw [refreshReady_hif, handedOver_hif]

end Sys2Proof.Proofs
end

/-! # The settings of streams and limiters -/
section
namespace Sys2Proof.Proofs
open Sys2Proof Sys2Proof.Machine Sys2Proof.Safety Sys2Proof.Laws

/-! ## STREAM_CONFIGURE (R160) -/

/-- The streams given to the ports of a list, each with its place. -/
def setStreams (g : Fin 8 → Nat → Stream) (l : List (Fin 8 × Nat)) (s : State) : State :=
  l.foldl (fun s e => modLinks (fun l => { l with streams := l.streams.set e.1 (g e.1 e.2) }) s) s

theorem setStreams_links (g : Fin 8 → Nat → Stream) (l : List (Fin 8 × Nat)) (s : State) : setStreams g l s =
    { s with links := (setStreams g l s).links } :=
  List.foldlRecOn (motive := fun (t : State) => t = { s with links := t.links }) l _ rfl (fun t ht e _ => by rw [ht]; rfl)

theorem setStreams_other {g : Fin 8 → Nat → Stream} {p : Fin 8} {l : List (Fin 8 × Nat)} {s : State} (h : p ∉ l.map Prod.fst) :
    (setStreams g l s).links.streams[p] = s.links.streams[p] :=
  List.foldlRecOn (motive := fun (t : State) => t.links.streams[p] = s.links.streams[p]) l _ rfl (fun _ ht e he =>
    (Vector.getElem_set_ne e.1.isLt p.isLt (fun hv => h (Fin.ext hv ▸ List.mem_map_of_mem he))).trans ht)

theorem setStreams_named {g : Fin 8 → Nat → Stream} {l : List (Fin 8 × Nat)} {s : State} (hn : (l.map Prod.fst).Nodup) {e : Fin 8 × Nat} (he :
    e ∈ l) :
    (setStreams g l s).links.streams[e.1] = g e.1 e.2 := by
  induction l generalizing s with
  | nil => cases he
  | cons b l ih =>
    obtain ⟨hb, hl⟩ := List.nodup_cons.mp hn
    rcases List.mem_cons.mp he with rfl | he
    · exact (setStreams_other hb).trans (Vector.getElem_set_self e.1.isLt)
    · exact ih hl he

theorem ports_zipIdx (d : Desc) : (streamPorts d).zipIdx.map Prod.fst = streamPorts d := List.zipIdx_map_fst 0 _

theorem nodup_streamPorts (d : Desc) : (streamPorts d).Nodup := (List.nodup_finRange 8).filter _

/-- A group whose rate has moved is dropped; the streams are as they are. -/
theorem streams_dropGroup (old s : State) (g : Fin 4) :
    (dropGroup old s g).links.streams = s.links.streams ∧ (dropGroup old s g).slowTicks = s.slowTicks ∧ (dropGroup old s g).twin = s.twin := by
  unfold dropGroup groupDown
  dsimp only
  split
  · split <;> exact ⟨rfl, rfl, rfl⟩
  · exact ⟨rfl, rfl, rfl⟩

theorem streams_dropGroups (old : State) (l : List (Fin 4)) (s : State) : (l.foldl (dropGroup old) s).links.streams = s.links.streams ∧
    (l.foldl (dropGroup old) s).slowTicks = s.slowTicks ∧ (l.foldl (dropGroup old) s).twin = s.twin :=
  List.foldlRecOn (motive := fun (t : State) => t.links.streams = s.links.streams ∧ t.slowTicks = s.slowTicks ∧ t.twin = s.twin) l _ ⟨rfl, rfl, rfl⟩
    (fun t ⟨h1, h2, h3⟩ g _ => by
      obtain ⟨g1, g2, g3⟩ := streams_dropGroup old t g
      exact ⟨g1.trans h1, g2.trans h2, g3.trans h3⟩)

section
variable {d : Desc} {s : State}

theorem does_streamConfigure : Does 0x0102 checkStreamConfigure (.streamConfigure d) d s 0 (fun t =>
    (∀ e ∈ (streamPorts d).zipIdx, t.links.streams[e.1] = newStream d e.1 e.2) ∧
    (∀ p, p ∉ streamPorts d → t.links.streams[p] = s.links.streams[p])) := by
  refine answers_of_effect effectStreamConfigure rfl (fun _ => rfl) (fun x _ => ?_)
  have effect : effectStreamConfigure (starting 0x0102 d s) { s with hif := x } = (doneWith 0,
      (List.finRange 4).foldl (dropGroup { s with hif := x }) (setStreams (newStream d) (streamPorts d).zipIdx { s with hif := x })) := rfl
  obtain ⟨hs, ht, hw⟩ := streams_dropGroups { s with hif := x } (List.finRange 4) (setStreams (newStream d) (streamPorts d).zipIdx { s with hif :=
    x })
  have links := setStreams_links (newStream d) (streamPorts d).zipIdx { s with hif := x }
  rw [effect]
  refine ⟨⟨_, rfl, rfl, rfl, rfl, read_of_detail_zero rfl⟩, ht.trans (by rw [links]), hw.trans (by rw [links]),
    fun b => ⟨fun e he => ?_, fun p hp => ?_⟩⟩
  · exact (congrArg (fun v : Vector Stream 8 => v[e.1]) hs).trans (setStreams_named (by rw [ports_zipIdx]; exact nodup_streamPorts d) he)
  · exact (congrArg (fun v : Vector Stream 8 => v[p]) hs).trans (setStreams_other (by rw [ports_zipIdx]; exact hp))

/-! ## PEAK_LIMIT_SET (R168) -/

theorem does_peakLimitSet : Does 0x0120 checkPeakLimitSet (.peakLimitSet d) d s 0 (fun t =>
    t.links.limiters = upd s.links.limiters (par d 0 1) (fun v => { v with next := some (par d 1 1 == 1, parInt d 2 2, par d 4 2) }) ∧
    t.links.limited = upd s.links.limited (par d 0 1) (fun _ => 0) ∧ t.links.clipped = upd s.links.clipped (par d 0 1) (fun _ => 0) ∧
    t = { Kept s t with links := { s.links with limiters := t.links.limiters, limited := t.links.limited, clipped := t.links.clipped } }) :=
  answers_of_effect effectPeakLimitSet rfl (fun _ => rfl) (fun _ _ =>
    ⟨⟨_, rfl, rfl, rfl, rfl, read_of_detail_zero rfl⟩, rfl, rfl, fun _ => ⟨rfl, rfl, rfl, rfl⟩⟩)

end

/-- Settles O17: each command's effect is a change of the links. -/
theorem streamSettings : Obligations.StreamSettings := by
  unfold Obligations.StreamSettings
  exact fun _ _ => ⟨does_streamConfigure, does_peakLimitSet⟩

end Sys2Proof.Proofs
end

/-! # House Rules -/
section
namespace Sys2Proof.Proofs
open Sys2Proof Sys2Proof.Machine Sys2Proof.Safety Sys2Proof.Laws

section
variable {d : Desc} {s : State}

/-! ## HR_AMEND_CHALLENGE (R597) -/

theorem answers_hrAmendChallenge (h : Passes 0x0B01 checkAmendChallenge d s) : ∃ t v, exec (.hrAmendChallenge d) s = .next t ∧
    Answered 0x0B01 d .done 0 v t ∧ t.hr = { s.hr with nonce := some (v, s.slowTicks) } ∧ t = { Kept s t with hr := t.hr } := by
  have answered : ∃ t, exec (.hrAmendChallenge d) s = .next t ∧ Answered 0x0B01 d .done 0 (Config.freeValue s.freeCtr) t ∧
      t.hr = { s.hr with nonce := some (Config.freeValue s.freeCtr, s.slowTicks) } ∧ t = { Kept s t with hr := t.hr } :=
    answers_of_effect effectAmendChallenge rfl (fun _ => rfl) (fun _ _ =>
      ⟨⟨_, rfl, rfl, rfl, rfl, read_of_detail_zero rfl⟩, rfl, rfl, fun _ => ⟨rfl, rfl⟩⟩) h
  obtain ⟨t, ht⟩ := answered
  exact ⟨t, _, ht⟩

/-! ## HR_AMEND (R598, R713) -/

/-- The nonce once R713's check 6 has been reached or not. -/
def nonceSpent (b : Bool) (s : State) : State := if b then modHr (fun h => { h with nonce := none }) s else s

theorem nonceSpent_hr (b : Bool) (s : State) : nonceSpent b s = { s with hr := { s.hr with nonce := if b then none else s.hr.nonce } } := by
  cases b <;> rfl

theorem beginAmend_accepted {r : Running} {s : State} {b : Bool} {k : Fin 5} (hb : checkAmendBuffer r.desc = none)
    (hc : amendChecks r.desc s = (none, b)) (hk : nextSlot s = some k) : beginAmend r s =
      (.stay { r with wait := .hardware, phase := 1, aux := [k.val], committed := true },
        modHr (fun h => { h with slots := h.slots.set k r.desc.data, used := h.used ||| BitVec.ofNat 5 (2 ^ k.val) }) (nonceSpent b s)) := by
  have hk' : nextSlot (nonceSpent b s) = some k := by rw [nonceSpent_hr]; exact hk
  simp only [beginAmend, hb, hc]
  show (match (none : Option Reject), nextSlot (nonceSpent b s) with
    | some e, _ => refuseRules r (namedKey r.desc) e (nonceSpent b s)
    | none, some k => (.stay { r with wait := .hardware, phase := 1, aux := [k.val], committed := true },
        modHr (fun h => { h with slots := h.slots.set k r.desc.data, used := h.used ||| BitVec.ofNat 5 (2 ^ k.val) }) (nonceSpent b s))
    | none, none => refuseRules r (namedKey r.desc) (.rejectedState, 0x0B02) (nonceSpent b s)) = _
  rw [hk']

theorem beginAmend_refused {r : Running} {s : State} {e : Reject} {b : Bool} (hb : checkAmendBuffer r.desc = none)
    (hc : amendChecks r.desc s = (some e, b)) : beginAmend r s = refuseRules r (namedKey r.desc) e (nonceSpent b s) := by
  simp only [beginAmend, hb, hc]
  rfl

theorem amends {k : Fin 5} {b : Bool} (hb : Begins 0x0B02 d s) (hx : checkAmendBuffer (coded 0x0B02 d) = none)
    (hc : amendChecks (coded 0x0B02 d) (stepping 0x0B02 d s) = (none, b)) (hk : nextSlot s = some k) :
    ∃ t, exec (.hrAmend d) s = .next t ∧ Awaits 0x0B02 d .hardware t ∧ t.hr.slots = s.hr.slots.set k d.data ∧
      t.hr.used = s.hr.used ||| BitVec.ofNat 5 (2 ^ k.val) ∧ t.hr.programmed = s.hr.programmed ∧ t.hr.inForce = s.hr.inForce ∧ t.hr.rules =
        s.hr.rules ∧
      t = { s with hr := t.hr, hif := t.hif } := by
  obtain ⟨x, hs⟩ := exists_stepping 0x0B02 d s
  rw [hs] at hc
  have effect := beginAmend_accepted (r := starting 0x0B02 d s) hx hc (show nextSlot { s with hif := x } = some k from hk)
  rw [nonceSpent_hr] at effect
  obtain ⟨t, ht, ha, he⟩ := exec_stays (i := .hrAmend d) (op := opHrAmend) rfl hb hs effect rfl (fun _ => rfl) rfl rfl rfl rfl
  refine ⟨t, ht, ha, ?_⟩
  rw [he]
  exact ⟨rfl, rfl, rfl, rfl, rfl, rfl⟩

/-- No check of R713 is a failed read of the buffer. -/
theorem amendChecks_read {x : Desc} {s : State} {e : Reject} {b : Bool} (h : amendChecks x s = (some e, b)) :
    e.2 ≠ detHostRead ∧ e.1 ≠ .deviceFault := by
  have named (v : Reject) (c : Bool) (hv : v.2 ≠ detHostRead ∧ v.1 ≠ .deviceFault) (hq : (some v, c) = (some e, b)) :
      e.2 ≠ detHostRead ∧ e.1 ≠ .deviceFault := by
    cases hq
    exact hv
  have passed (c : Bool) (hq : ((none : Option Reject), c) = (some e, b)) : e.2 ≠ detHostRead ∧ e.1 ≠ .deviceFault := by cases hq
  unfold amendChecks badParam badState at h
  split at h
  · exact named _ _ (by decide) h
  split at h
  · exact named _ _ (by decide) h
  split at h
  · exact named _ _ (by decide) h
  split at h
  · exact named _ _ (by decide) h
  split at h
  · exact passed _ h
  split at h
  · exact named _ _ (by decide) h
  split at h
  · exact named _ _ (by decide) h
  split at h
  · exact named _ _ (by decide) h
  split at h
  · exact passed _ h
  · exact named _ _ (by decide) h

theorem refuses_hrAmend {e : Reject} {b : Bool} (hb : Begins 0x0B02 d s) (hx : checkAmendBuffer (coded 0x0B02 d) = none)
    (hc : amendChecks (coded 0x0B02 d) (stepping 0x0B02 d s) = (some e, b)) :
    ∃ t, exec (.hrAmend d) s = .next t ∧ Answered 0x0B02 d e.1 e.2 0 t ∧ t.hr.slots = s.hr.slots ∧ t.hr.used = s.hr.used ∧
      t.hr.rules = s.hr.rules ∧ t.hr.inForce = s.hr.inForce ∧ (b = true → t.hr.nonce = none) ∧ Logged 4 0x0022 s t := by
  obtain ⟨hr, hf⟩ := amendChecks_read hc
  obtain ⟨x, hs⟩ := exists_stepping 0x0B02 d s
  have effect := beginAmend_refused (r := starting 0x0B02 d s) hx hc
  rw [hs, nonceSpent_hr] at effect
  refine exec_of_ends_stepping (i := .hrAmend d) (op := opHrAmend) rfl hb ?_
  rw [hs]
  show Ends s e.1 e.2 0 _ (beginAmend (starting 0x0B02 d s) { s with hif := x })
  rw [effect]
  have logged := logged_logRecord 4 1 (writerSource (writerOf d.ring.val)) 0x0022
    (payload 16 [(0, 2, e.2), (2, 1, namedKey (coded 0x0B02 d)), (4, 2, (coded 0x0B02 d).opcode.toNat)]) []
    { s with hif := x, hr := { s.hr with nonce := if b then none else s.hr.nonce } }
  obtain ⟨y, g, hg⟩ := logRecord_records 4 1 (writerSource (writerOf d.ring.val)) 0x0022
    (payload 16 [(0, 2, e.2), (2, 1, namedKey (coded 0x0B02 d)), (4, 2, (coded 0x0B02 d).opcode.toNat)]) []
    { s with hif := x, hr := { s.hr with nonce := if b then none else s.hr.nonce } }
  have record : (refuseRules (starting 0x0B02 d s) (namedKey (starting 0x0B02 d s).desc) e
      { s with hif := x, hr := { s.hr with nonce := if b then none else s.hr.nonce } }).2 =
      { s with hif := y, gb := g, hr := { s.hr with nonce := if b then none else s.hr.nonce } } := hg
  have unread : ¬ Unread { status := e.1, detail := e.2, result := 0, seq := none, data := [] } := by
    rintro (⟨h, -⟩ | ⟨-, h⟩)
    · exact hr h
    · exact hf h
  rw [show logRecord (4 : Fin 9).val _ _ _ _ _ _ = _ from hg] at logged
  refine ⟨⟨_, rfl, rfl, rfl, rfl, unread⟩, by rw [record], by rw [record], fun c => ?_⟩
  rw [record]
  exact ⟨rfl, rfl, rfl, rfl, fun h => if_pos h, logged⟩

/-! ## HR_LOCK (R595) -/

theorem starts_hrLock : Starts 0x0B03 checkHrLock (.hrLock d) d s .hardware (fun t =>
    t = { s with hr := { s.hr with locked := true }, hif := t.hif }) := by
  intro ⟨hb, hc⟩
  obtain ⟨x, hs⟩ := exists_stepping 0x0B03 d s
  rw [hs] at hc
  have effect : opHrLock (starting 0x0B03 d s) { s with hif := x } =
      (.stay { starting 0x0B03 d s with wait := .hardware, phase := 1, committed := true }, modHr (fun h => { h with locked := true }) { s with hif :=
        x }) := by
    unfold opHrLock
    rw [if_neg (show ¬ (starting 0x0B03 d s).phase = 1 from nofun), hc]
  exact exec_stays (i := .hrLock d) (op := opHrLock) rfl hb hs effect rfl (fun _ => rfl) rfl rfl rfl rfl

end

/-- Settles O25: the nonce handed out, an image taken or refused, and the lock. -/
theorem houseRulesCommands : Obligations.HouseRulesCommands := by
  unfold Obligations.HouseRulesCommands
  exact fun _ _ => ⟨answers_hrAmendChallenge, fun _ _ => amends, fun _ _ => refuses_hrAmend, starts_hrLock⟩

end Sys2Proof.Proofs
end

/-! # Patches and Lodgers -/
section
namespace Sys2Proof.Proofs
open Sys2Proof Sys2Proof.Machine Sys2Proof.Safety Sys2Proof.Laws

/-! ## Slots -/

theorem patchSlot_modSlot_same (b : Bool) (f : PatchSlot → PatchSlot) (s : State) : patchSlot b (modSlot b f s) = f (patchSlot b s) := by
  cases b <;> rfl

theorem patchSlot_modSlot_other (b : Bool) (f : PatchSlot → PatchSlot) (s : State) : patchSlot (!b) (modSlot b f s) = patchSlot (!b) s := by
  cases b <;> rfl

theorem modSlot_inForce (b : Bool) (f : PatchSlot → PatchSlot) (s : State) :
    (modSlot b f s).sys.patchSlot = s.sys.patchSlot ∧ (modSlot b f s).sys.patchFloor = s.sys.patchFloor := by
  cases b <;> exact ⟨rfl, rfl⟩

/-! ## A Lodger's state, with its record (R592) -/

/-- A record that carries no event is the Guestbook's alone, with room and without. -/
theorem logRecord_silent (cls severity source code : Nat) (bytes : List Byte) (s : State) :
    ∃ g, logRecord cls severity source code bytes [] s = { s with gb := g } := by
  simp only [logRecord, gbIntake]
  split
  · exact ⟨_, rfl⟩
  · exact ⟨_, rfl⟩

/-- Setting a Lodger's state changes that Lodger and the Guestbook. -/
theorem setLodger_eq (n : Fin 4) (v : LodgerState) (cause writer : Nat) (s : State) :
    ∃ g, setLodger n v cause writer s = { modLodger n (fun x => { x with state := v }) s with gb := g } := logRecord_silent _ _ _ _ _ _

theorem logged_setLodger (n : Fin 4) (v : LodgerState) (cause writer : Nat) (s : State) : Logged 1 0x0014 s (setLodger n v cause writer s) :=
  logged_logRecord 1 0 (writerSource writer) 0x0014 _ [] (modLodger n (fun x => { x with state := v }) s)

section
variable {d : Desc} {s : State}

/-! ## PATCH_LOAD (R579) -/

/-- The slot that a patch image is written to (R579). -/
def slotWritten (x : Desc) : PatchSlot :=
  { PatchSlot.reset with version := BitVec.ofNat 32 (dat x 8 4), security := BitVec.ofNat 16 (dat x 12 2) }

theorem starts_patchLoad : Starts 0x0B10 checkPatchLoad (.patchLoad d) d s .hardware (fun t =>
    patchSlot (!inactiveSlot s) t = patchSlot (!inactiveSlot s) s ∧ (patchSlot (inactiveSlot s) t).version = BitVec.ofNat 32 (dat d 8 4) ∧
    t.sys.patchSlot = s.sys.patchSlot ∧ t.sys.patchFloor = s.sys.patchFloor ∧ t = { s with sys := t.sys, hif := t.hif }) := by
  intro ⟨hb, hc⟩
  obtain ⟨x, hs⟩ := exists_stepping 0x0B10 d s
  rw [hs] at hc
  have effect : opPatchLoad (starting 0x0B10 d s) { s with hif := x } =
      (awaitHardware (starting 0x0B10 d s) 1 [if inactiveSlot s then 1 else 0], modSlot (inactiveSlot s) (fun _ => slotWritten d) { s with hif := x })
        := by
    show beginPatchLoad (starting 0x0B10 d s) { s with hif := x } = _
    unfold beginPatchLoad
    rw [hc]
    rfl
  obtain ⟨t, ht, ha, he⟩ := exec_stays (i := .patchLoad d) (op := opPatchLoad) rfl hb hs effect rfl nofun rfl rfl rfl rfl
  obtain ⟨hslot, hfloor⟩ := modSlot_inForce (inactiveSlot s) (fun _ => slotWritten d) { s with hif := x }
  have same := patchSlot_modSlot_same (inactiveSlot s) (fun _ => slotWritten d) { s with hif := x }
  have other := patchSlot_modSlot_other (inactiveSlot s) (fun _ => slotWritten d) { s with hif := x }
  refine ⟨t, ht, ha, ?_⟩
  rw [he]
  exact ⟨other, congrArg PatchSlot.version same, hslot, hfloor, rfl⟩

/-! ## LODGER_LOAD (R588) -/

theorem starts_lodgerLoad : Starts 0x0B11 checkLodgerLoad (.lodgerLoad d) d s .none (fun t => t = { s with hif := t.hif }) := by
  intro ⟨hb, hc⟩
  obtain ⟨x, hs⟩ := exists_stepping 0x0B11 d s
  rw [hs] at hc
  exact exec_stays (i := .lodgerLoad d) (op := opLodgerLoad) rfl hb hs (guarded_pass beginLodgerLoad hc) rfl nofun rfl rfl rfl rfl

/-- The Lodger with its image (R590): what its flash keeps depends on the copies stored before. -/
def imageTaken (x : Desc) (v : Lodger) : Lodger :=
  let w := { v with image := some (lodgerImage x.data), restartDue := false, watchdogMs := 0 }
  if !(par x 0 1 == 1) then w
  else if v.lastStoredB then { w with storedA := some (lodgerImage x.data), lastStoredB := false }
  else if v.storedA.isNone && v.storedB.isNone then { w with storedA := some (lodgerImage x.data) }
  else { w with storedB := some (lodgerImage x.data), lastStoredB := true }

theorem imageTaken_kept (x : Desc) (v : Lodger) : (imageTaken x v).image = some (lodgerImage x.data) ∧ (imageTaken x v).retained = v.retained := by
  unfold imageTaken
  dsimp only
  split_ifs <;> exact ⟨rfl, rfl⟩

theorem expired_congr (r : Running) {s t : State} (hs : t.slowTicks = s.slowTicks) (ht : t.hif.timeoutDefault = s.hif.timeoutDefault) :
    expired r t = expired r s := by
  unfold expired timeoutOf
  rw [hs, ht]

/-- The Lodger as LODGER_LOAD leaves it. -/
def imageLoaded (x : Desc) (v : Lodger) : Lodger := { imageTaken x v with state := .loaded }

theorem modLodger_modLodger (n : Fin 4) (f g : Lodger → Lodger) (s : State) :
    modLodger n f (modLodger n g s) = modLodger n (fun v => f (g v)) s := by
  have hget : (s.sys.lodgers.set n (g s.sys.lodgers[n]))[n] = g s.sys.lodgers[n] := Vector.getElem_set_self n.isLt
  have hset : (s.sys.lodgers.set n (g s.sys.lodgers[n])).set n (f ((s.sys.lodgers.set n (g s.sys.lodgers[n]))[n])) =
      s.sys.lodgers.set n (f (g s.sys.lodgers[n])) := by
    rw [hget]
    exact Vector.set_set _ _
  show modSys (fun x => { x with lodgers := _ }) s = modSys (fun x => { x with lodgers := _ }) s
  exact congrArg (fun v => ({ s with sys := { s.sys with lodgers := v } } : State)) hset

/-- A record leaves the intake as it is and adds one entry to its queue at most. -/
theorem logRecord_queue (cls severity source code : Nat) (bytes : List Byte) (s : State) :
    (logRecord cls severity source code bytes [] s).gb.intakeClosed = s.gb.intakeClosed ∧
    s.gb.queue.length ≤ (logRecord cls severity source code bytes [] s).gb.queue.length ∧
    (logRecord cls severity source code bytes [] s).gb.queue.length ≤ s.gb.queue.length + 1 := by
  simp only [logRecord, gbIntake]
  split
  · simp
  · exact ⟨rfl, le_rfl, Nat.le_succ _⟩

/-- The state with the image taken and the Lodger's record made, before the record of the load. -/
def imageSet (r : Running) (s : State) : State :=
  setLodger (imageCore r.desc) .loaded 0 (writerOf r.desc.ring.val) (modLodger (imageCore r.desc) (imageTaken r.desc) s)

/-- The record of a load (R592). -/
def loadRecord (r : Running) (s : State) : State :=
  logRecord 5 0 (writerSource (writerOf r.desc.ring.val)) 0x0013 (payload 16 [(0, 1, (imageCore r.desc).val), (1, 1, flagBit (par r.desc 0 1 == 1)),
    (4, 4, (lodgerImage r.desc.data).version.toNat), (8, 4, (lodgerImage r.desc.data).crc.toNat)]) [] s

/-- The second step of LODGER_LOAD gives the core its image and leaves it LOADED, with both records in the Guestbook. -/
theorem effectLodgerLoad_eq (r : Running) (s : State) : ∃ g, effectLodgerLoad r s = (doneWith (result [(0, 1, (imageCore r.desc).val),
      (4, 4, (lodgerImage r.desc.data).version.toNat)]), { modLodger (imageCore r.desc) (imageLoaded r.desc) s with gb := g }) ∧
    (s.gb.intakeClosed = false → s.gb.queue.length < 59 → ∃ e ∈ g.queue.drop s.gb.queue.length, e.cls = 5 ∧ e.code = 0x0013) := by
  have effect : effectLodgerLoad r s =
      (doneWith (result [(0, 1, (imageCore r.desc).val), (4, 4, (lodgerImage r.desc.data).version.toNat)]), loadRecord r (imageSet r s)) := rfl
  obtain ⟨g, hg⟩ : ∃ g, imageSet r s = { modLodger (imageCore r.desc) (imageLoaded r.desc) s with gb := g } := by
    obtain ⟨g, hg⟩ := setLodger_eq (imageCore r.desc) .loaded 0 (writerOf r.desc.ring.val) (modLodger (imageCore r.desc) (imageTaken r.desc) s)
    rw [modLodger_modLodger] at hg
    exact ⟨g, hg⟩
  obtain ⟨k, hk⟩ : ∃ k, loadRecord r (imageSet r s) = { imageSet r s with gb := k } := logRecord_silent _ _ _ _ _ _
  obtain ⟨hclosed, hlow, hhigh⟩ : (imageSet r s).gb.intakeClosed = s.gb.intakeClosed ∧ s.gb.queue.length ≤ (imageSet r s).gb.queue.length ∧
      (imageSet r s).gb.queue.length ≤ s.gb.queue.length + 1 := logRecord_queue _ _ _ _ _ _
  have logged : Logged 5 0x0013 (imageSet r s) (loadRecord r (imageSet r s)) := logged_logRecord 5 _ _ _ _ _ _
  refine ⟨k, effect.trans (by rw [hk, hg]), fun hopen hroom => ?_⟩
  have room : gbRoom 5 (imageSet r s) = true := by
    unfold gbRoom
    rw [hclosed, hopen]
    exact decide_eq_true (Nat.lt_of_lt_of_le (show (imageSet r s).gb.queue.length < 60 by omega) (by decide))
  obtain ⟨e, he, hcls, hcode⟩ := logged room
  rw [hk] at he
  exact ⟨e, (List.drop_sublist_drop_left _ hlow).subset he, hcls, hcode⟩

theorem ends_lodgerLoad {q : Fin 20} {r : Running} (hu : s.sys.coreUp = true) (hc : chosen s = some q.val) (hr : (source q.val s).running = some r)
    (ho : r.desc.opcode = 0x0B11) (hp : r.phase = 1) (hw : r.wait = .none) (hn : r.steps ≠ 0) (he : expired r s = false)
    (hk : checkLodgerLoad r s = none) : ∃ t, exec .stepGrant s = .next t ∧ (source q.val t).running = none ∧
      (∃ c, lastRecord q.val t = some c ∧ c.tag = r.desc.tag ∧ c.status = .done ∧ c.final = true) ∧
      (lodger (imageCore r.desc) t).state = .loaded ∧ (lodger (imageCore r.desc) t).image = some (lodgerImage r.desc.data) ∧
      (lodger (imageCore r.desc) t).retained = (lodger (imageCore r.desc) s).retained ∧ (∀ n, n ≠ imageCore r.desc → lodger n t = lodger n s) ∧
      (s.gb.intakeClosed = false → s.gb.queue.length < 59 → ∃ e ∈ t.gb.queue.drop s.gb.queue.length, e.cls = 5 ∧ e.code = 0x0013) := by
  obtain ⟨x, hx, ht⟩ : ∃ x : HostIf, modSource q.val (fun v => { v with running := some r }) (granted q.val s) = { s with hif := x } ∧
      x.timeoutDefault = s.hif.timeoutDefault := ⟨_, rfl, rfl⟩
  obtain ⟨g, effect, logged⟩ := effectLodgerLoad_eq { r with steps := stepsAfter r } { s with hif := x }
  have hcode : r.desc.opcode.toNat = 0x0B11 := by rw [ho]; rfl
  have step : opRun r.desc.opcode.toNat { r with steps := stepsAfter r } { s with hif := x } =
      effectLodgerLoad { r with steps := stepsAfter r } { s with hif := x } := by
    rw [hcode]
    show guarded checkLodgerLoad (if r.phase = 0 then beginLodgerLoad else effectLodgerLoad) { r with steps := stepsAfter r } { s with hif := x } = _
    rw [if_neg (by omega)]
    exact guarded_pass _ hk
  obtain ⟨t, hrun, hfree, -, ⟨c, hl, htag, hst, hfin, -⟩, hf⟩ := exec_stepGrant_ends hu hc q.isLt hr hw hn (by rw [ho]; rfl)
    (read_of_detail_zero rfl) ((congrArg _ hx).trans (step.trans effect)) 
    ((expired_congr (s := s) (t := { modLodger (imageCore r.desc) (imageLoaded r.desc) { s with hif := x } with gb := g }) r rfl ht).trans he)
  obtain ⟨himage, hret⟩ := imageTaken_kept r.desc (lodger (imageCore r.desc) s)
  have same := lodger_modLodger_same (imageCore r.desc) (imageLoaded r.desc) { s with hif := x }
  refine ⟨t, hrun, hfree, ⟨c, hl, htag, hst, hfin⟩, ?_⟩
  rw [hf]
  refine ⟨congrArg Lodger.state same, (congrArg Lodger.image same).trans himage, (congrArg Lodger.retained same).trans hret, fun n h => ?_, logged⟩
  exact lodger_modLodger_ne (imageLoaded r.desc) { s with hif := x } h

/-! ## LODGER_START and LODGER_STOP (R588, R592) -/

/-- A Lodger whose watchdog starts afresh (R588). -/
def lodgerFresh (n : Nat) (v : Lodger) : Lodger := { v with watchdogMs := 0, kickedTick := n, restartDue := false, trapped := false }

/-- A Lodger without a watchdog and without a restart to come. -/
def lodgerIdle (v : Lodger) : Lodger := { v with restartDue := false, watchdogMs := 0 }

theorem does_lodgerStart : Does 0x0B12 checkLodgerStart (.lodgerStart d) d s 0 (fun t => lodger (Fin.ofNat 4 (par d 0 1)) t =
      { lodger (Fin.ofNat 4 (par d 0 1)) s with state := .running, watchdogMs := 0, kickedTick := s.slowTicks, restartDue := false, trapped :=
        false } ∧
    (∀ n, n ≠ Fin.ofNat 4 (par d 0 1) → lodger n t = lodger n s) ∧ Logged 1 0x0014 s t) := by
  refine answers_of_effect effectLodgerStart rfl (fun _ => rfl) (fun x _ => ?_)
  have effect : effectLodgerStart (starting 0x0B12 d s) { s with hif := x } = (doneWith 0, setLodger (Fin.ofNat 4 (par d 0 1)) .running 0
      (writerOf d.ring.val) (modLodger (Fin.ofNat 4 (par d 0 1)) (lodgerFresh s.slowTicks) { s with hif := x })) := rfl
  have logged := logged_setLodger (Fin.ofNat 4 (par d 0 1)) .running 0 (writerOf d.ring.val)
    (modLodger (Fin.ofNat 4 (par d 0 1)) (lodgerFresh s.slowTicks) { s with hif := x })
  obtain ⟨g, hg⟩ := setLodger_eq (Fin.ofNat 4 (par d 0 1)) .running 0 (writerOf d.ring.val)
    (modLodger (Fin.ofNat 4 (par d 0 1)) (lodgerFresh s.slowTicks) { s with hif := x })
  rw [hg] at logged
  rw [effect, hg, modLodger_modLodger]
  exact ⟨⟨_, rfl, rfl, rfl, rfl, read_of_detail_zero rfl⟩, rfl, rfl, fun b =>
    ⟨lodger_modLodger_same _ (fun v => { lodgerFresh s.slowTicks v with state := .running }) { s with hif := x },
      fun n h => lodger_modLodger_ne (fun v => { lodgerFresh s.slowTicks v with state := .running }) { s with hif := x } h, logged⟩⟩

theorem does_lodgerStop : Does 0x0B13 checkLodgerStop (.lodgerStop d) d s 0 (fun t => lodger (Fin.ofNat 4 (par d 0 1)) t =
      { lodger (Fin.ofNat 4 (par d 0 1)) s with state := .stopped, watchdogMs := 0, restartDue := false } ∧
    (∀ n, n ≠ Fin.ofNat 4 (par d 0 1) → lodger n t = lodger n s) ∧ Logged 1 0x0014 s t) := by
  refine answers_of_effect effectLodgerStop rfl (fun _ => rfl) (fun x _ => ?_)
  have effect : effectLodgerStop (starting 0x0B13 d s) { s with hif := x } = (doneWith 0, setLodger (Fin.ofNat 4 (par d 0 1)) .stopped 0
      (writerOf d.ring.val) (modLodger (Fin.ofNat 4 (par d 0 1)) lodgerIdle { s with hif := x })) := rfl
  have logged := logged_setLodger (Fin.ofNat 4 (par d 0 1)) .stopped 0 (writerOf d.ring.val)
    (modLodger (Fin.ofNat 4 (par d 0 1)) lodgerIdle { s with hif := x })
  obtain ⟨g, hg⟩ := setLodger_eq (Fin.ofNat 4 (par d 0 1)) .stopped 0 (writerOf d.ring.val)
    (modLodger (Fin.ofNat 4 (par d 0 1)) lodgerIdle { s with hif := x })
  rw [hg] at logged
  rw [effect, hg, modLodger_modLodger]
  exact ⟨⟨_, rfl, rfl, rfl, rfl, read_of_detail_zero rfl⟩, rfl, rfl, fun b =>
    ⟨lodger_modLodger_same _ (fun v => { lodgerIdle v with state := .stopped }) { s with hif := x },
      fun n h => lodger_modLodger_ne (fun v => { lodgerIdle v with state := .stopped }) { s with hif := x } h, logged⟩⟩

end

/-- Settles O26: the slot written, the two steps of a load, and a Lodger's state set with its record. -/
theorem patchAndLodgerCommands : Obligations.PatchAndLodgerCommands := by
  unfold Obligations.PatchAndLodgerCommands
  exact fun _ _ _ _ => ⟨starts_patchLoad, starts_lodgerLoad, ends_lodgerLoad, does_lodgerStart, does_lodgerStop⟩

end Sys2Proof.Proofs
end

/-! # The power commands -/
section
namespace Sys2Proof.Proofs
open Sys2Proof Sys2Proof.Machine Sys2Proof.Safety Sys2Proof.Laws

/-! ## A reading of the power state -/

/-- What commands of the power state ask for, or leave alone: the slow ticks, the pair, the system block but for the rails it has stopped, and the
ports. -/
def standing (s : State) : Nat × Twin × System × Vector PortState 8 := (s.slowTicks, s.twin, { s.sys with stoppedRails := 0 }, s.ports)

theorem standing_ite (p : Prop) [Decidable p] (s t : State) : standing (if p then s else t) = if p then standing s else standing t :=
    apply_ite standing p s t

theorem standing_foldl {α : Type} (f : State → α → State) (l : List α) (s : State) (h : ∀ s a, standing (f s a) = standing s) :
    standing (l.foldl f s) = standing s :=
  List.foldlRecOn (motive := fun t => standing t = standing s) l f rfl (fun t ht a _ => (h t a).trans ht)

theorem standing_of_view {β : Type} {v : Fin 64 → Dir → Direction → β} {s t : State} (h : view v t = view v s) : standing t = standing s :=
  congrArg (fun w => standing w.rest) h

/-- The reading without the ports. -/
def bearing (s : State) : Nat × Twin × System := (s.slowTicks, s.twin, { s.sys with stoppedRails := 0 })

theorem bearing_of_standing {s t : State} (h : standing t = standing s) : bearing t = bearing s := congrArg (fun v => (v.1, v.2.1, v.2.2.1)) h

theorem deviceStops_of_standing {s t : State} (h : standing t = standing s) : t.ports.map (·.deviceStop) = s.ports.map (·.deviceStop) :=
  congrArg (fun v => v.2.2.2.map (·.deviceStop)) h

theorem ports_of_standing {s t : State} (h : standing t = standing s) : t.ports = s.ports := congrArg (fun v => v.2.2.2) h

section
variable {s t : State} (h : bearing t = bearing s)
include h

theorem slowTicks_of_bearing : t.slowTicks = s.slowTicks := congrArg Prod.fst h

theorem twin_of_bearing : t.twin = s.twin := congrArg (fun v => v.2.1) h

theorem power_of_bearing : t.sys.power = s.sys.power := congrArg (fun v => v.2.2.power) h

theorem transition_of_bearing : t.sys.transition = s.sys.transition := congrArg (fun v => v.2.2.transition) h

theorem stopReason_of_bearing : t.sys.stopReason = s.sys.stopReason := congrArg (fun v => v.2.2.stopReason) h

theorem stopSource_of_bearing : t.sys.stopSource = s.sys.stopSource := congrArg (fun v => v.2.2.stopSource) h

end

theorem port_deviceStop (p : Fin 8) (s : State) : (port p s).deviceStop = (s.ports.map (·.deviceStop))[p] := (Vector.getElem_map _ p.isLt).symm

@[simp] theorem standing_logRecord (cls severity source code : Nat) (bytes : List Byte) (events : List EventRec) (s : State) :
    standing (logRecord cls severity source code bytes events s) = standing s := standing_of_view (v :=
      fun _ _ _ => ()) (view_logRecord _ _ _ _ _ _ _)

@[simp] theorem standing_postEvent (code severity source : Nat) (bytes : List Byte) (s : State) :
    standing (postEvent code severity source bytes s) = standing s := standing_of_view (v := fun _ _ _ => ()) (view_postEvent _ _ _ _ _)

@[simp] theorem standing_protRecord (code obj ch dir prt step reason : Nat) (i : ProtInfo) (s : State) :
    standing (protRecord code obj ch dir prt step reason i s) = standing s := standing_of_view (v :=
      fun _ _ _ => ()) (view_protRecord _ _ _ _ _ _ _ _ _)

@[simp] theorem standing_portRecord (code : Nat) (p : Fin 8) (step reason : Nat) (i : ProtInfo) (s : State) :
    standing (portRecord code p step reason i s) = standing s := standing_protRecord _ _ _ _ _ _ _ _ _

@[simp] theorem standing_refreshPortStops (s : State) : standing (refreshPortStops s) = standing s := standing_of_view (view_refreshPortStops_all s)

@[simp] theorem standing_refreeze (was : List ((Fin 64 × Dir) × Bool)) (s : State) : standing (refreeze was s) = standing s :=
  standing_foldl _ _ _ (fun _ _ => standing_of_view (v := fun _ _ _ => ()) (view_freezeFrom (fun _ _ => rfl) _ _))

@[simp] theorem standing_flushProt (s : State) : standing (flushProt s) = standing s :=
  standing_foldl _ _ _ (fun _ _ => standing_logRecord _ _ _ _ _ _ _)

@[simp] theorem standing_powerRecord (old new : PowerState) (cause writer : Nat) (s : State) : standing (powerRecord old new cause writer s) =
    standing s := by
  have hd (t : State) : standing (dropScan old t) = standing t := by
    rw [dropScan, standing_ite]
    exact ite_self _
  rw [powerRecord, hd, standing_logRecord]

@[simp] theorem standing_modRail (r : Fin 10) (f : Rail → Rail) (s : State) : standing (modRail r f s) = standing s := rfl

@[simp] theorem standing_modLoop (l : Nat) (f : Loop → Loop) (s : State) : standing (modLoop l f s) = standing s := rfl

@[simp] theorem standing_phasesOn (r : Fin 10) (s : State) : standing (phasesOn r s) = standing s := by
  rw [phasesOn_supply]
  rfl

@[simp] theorem standing_setRailState (r : Fin 10) (v : RailState) (source : Nat) (s : State) : standing (setRailState r v source s) = standing s :=
    by
  simp only [setRailState, standing_ite, standing_postEvent, standing_modRail, ite_self]

@[simp] theorem standing_dropWaits (r : Fin 10) (results : List Int) (s : State) : standing (dropWaits r results s) = standing s := by
  have answered (o : Option (Fin 22)) (t : State) : standing (answerRing r o results t) = standing t := by cases o <;> rfl
  simp only [dropWaits, standing_modRail, answered]

@[simp] theorem standing_stopGroup (r : Fin 10) (s : State) : standing (stopGroup r s) = standing s := by
  have hr (k : Fin 10) (t : State) : standing (beginRailStop k t) = standing t := by
    simp only [beginRailStop, standing_ite, standing_setRailState, standing_dropWaits, ite_self]
  exact standing_foldl _ _ _ (fun t k => hr k t)

@[simp] theorem standing_beginSoftStart (r : Fin 10) (s : State) : standing (beginSoftStart r s) = standing s := by
  simp only [beginSoftStart, startLoop, standing_ite, standing_modLoop, standing_modRail, standing_phasesOn, standing_setRailState, ite_self]

/-! ## Stops of every port (R571) -/

/-- The device's stop given to one port, with its record where it is new. -/
def stopForDevice (code : Nat) (s : State) (p : Fin 8) : State :=
  let s' := modPort p (fun x => { x with deviceStop := code }) s
  if (port p s).deviceStop = code then s' else portRecord 0x0005 p 3 code {} s'

theorem standing_stopForDevice (code : Nat) (s : State) (p : Fin 8) :
    standing (stopForDevice code s p) = standing (modPort p (fun x => { x with deviceStop := code }) s) := by
  unfold stopForDevice
  rw [standing_ite, standing_portRecord, ite_self]

theorem deviceStop_stopForDevice_same (code : Nat) (s : State) (p : Fin 8) : (port p (stopForDevice code s p)).deviceStop = code := by
  rw [port_deviceStop, deviceStops_of_standing (standing_stopForDevice code s p), ← port_deviceStop, port_modPort_same]

theorem deviceStop_stopForDevice_ne {p q : Fin 8} (code : Nat) (s : State) (h : q ≠ p) :
    (port p (stopForDevice code s q)).deviceStop = (port p s).deviceStop := by
  rw [port_deviceStop, deviceStops_of_standing (standing_stopForDevice code s q), ← port_deviceStop, port_modPort_ne _ _ (Ne.symm h)]

theorem bearing_stopForDevices (code : Nat) (l : List (Fin 8)) (s : State) : bearing (l.foldl (stopForDevice code) s) = bearing s :=
  List.foldlRecOn (motive := fun t => bearing t = bearing s) l _ rfl
    (fun t ht p _ => (bearing_of_standing (standing_stopForDevice code t p)).trans ht)

theorem deviceStop_stopForDevices (code : Nat) (p : Fin 8) (s : State) : (port p ((List.finRange 8).foldl (stopForDevice code) s)).deviceStop =
    code :=
  foldl_meets (fun _ => True) (fun t => (port p t).deviceStop = code) (List.nodup_finRange 8) (List.mem_finRange p) trivial
    (fun _ _ _ _ => trivial) (fun t _ => deviceStop_stopForDevice_same code t p) (fun t _ hq ht => (deviceStop_stopForDevice_ne code t hq).trans ht)

theorem standing_stopPortRails (s : State) : standing (stopPortRails s) = standing s :=
  (standing_foldl _ _ _ (fun _ _ => standing_stopGroup _ _)).trans rfl

/-- A stop begun gives every port the device's stop, and leaves the power state but for the rails it stops. -/
theorem beginStop_stands (code : Nat) (s : State) :
    bearing (beginStop code s) = bearing s ∧ ∀ p, (port p (beginStop code s)).deviceStop = code := by
  have stopped : standing (beginStop code s) = standing ((List.finRange 8).foldl (stopForDevice code) s) := by
    show standing (stopPortRails (flushProt (refreshPortStops ((List.finRange 8).foldl (stopForDevice code) s)))) = _
    rw [standing_stopPortRails, standing_flushProt, standing_refreshPortStops]
  refine ⟨(bearing_of_standing stopped).trans (bearing_stopForDevices _ _ _), fun p => ?_⟩
  rw [port_deviceStop, deviceStops_of_standing stopped, ← port_deviceStop, deviceStop_stopForDevices]

/-- A first step that stays, with what is left beside what any accepted command may change. -/
theorem exec_of_stays_stepping {code : Nat} {i : Instr} {op : Op} {d : Desc} {s : State} {w : Wait} {p : State → Prop}
    (hx : exec i s = .next (submitRow code op d s)) (hb : Begins code d s) (h : Stays code d s w p (op (starting code d s) (stepping code d s))) :
    ∃ t, exec i s = .next t ∧ Awaits code d w t ∧ p t := by
  obtain ⟨⟨v, ha, hd, hs, hw⟩, hst, htw, hp⟩ := h
  obtain ⟨hk, r, hr, hrd, hrw⟩ := keepRunning_start (old := { starting code d s with steps := 0 }) d.ring.isLt (leadless_of_begins hb) hd
    (hst.trans hs.symm).le htw
  have hrun := keepsRunning_refreshReady (keepRunning d.ring.val { starting code d s with steps := 0 } v (op (starting code d s)
    (stepping code d s)).2)
  refine ⟨_, hx, ?_⟩
  rw [submit_begins _ _ _ _ hb, ha]
  obtain ⟨b, hb⟩ := aside_of_kept (kept_trans hk (kept_hif hrun.hif))
  exact ⟨⟨r, (hrun.2 _).trans hr, hrd, hrw.trans hw⟩, hb ▸ hp b⟩

section
variable {d : Desc} {s : State}

/-! ## DEVICE_RESET (R573) -/

theorem does_deviceReset : Does 0x0014 checkDeviceReset (.deviceReset d) d s 0 (fun t => t.sys.resetDueTick = some (s.slowTicks + 1) ∧
    t = { Kept s t with sys := { (Kept s t).sys with resetDueTick := some (s.slowTicks + 1) } }) :=
  answers_of_effect effectDeviceReset rfl (fun _ => rfl) (fun _ _ =>
    ⟨⟨_, rfl, rfl, rfl, rfl, read_of_detail_zero rfl⟩, rfl, rfl, fun _ => ⟨rfl, rfl⟩⟩)

/-! ## ORDERLY_STOP (R570) -/

/-- The device with its stop ordered, before the stop's work. -/
def stopOrdered (s : State) : State :=
  { s with sys := { s.sys with transition := .stopping 1 none, stopReason := 1, stopSource := none, abandonedRestart := false } }

/-- The stop's work up to its end. -/
def stopBegun (writer : Nat) (s : State) : State :=
  writeCheckpoint (powerRecord s.sys.power .stopped 1 writer
    (beginStop (stopReasonCode 1) (protRecord 0x0007 2 0xFF 0xFF 0xFF 4 (stopReasonCode 1) {} (stopOrdered s))))

theorem orderlyStop_host {s : State} (hp : s.sys.power ≠ .stopped) (hs : s.sys.power ≠ .sleep) (ht : s.sys.transition = .none) (writer : Nat) :
    orderlyStop 1 none writer s = if portRailsOff (stopBegun writer s) then enterStopped (stopBegun writer s) else stopBegun writer s := by
  have going : (s.sys.power != .stopped) = true := bne_iff_ne.mpr hp
  have none : ¬ (s.sys.power = .sleep ∨ (s.sys.power != .stopped) = false) := by
    rw [going]
    simp [hs]
  unfold orderlyStop
  simp only [ht, none, if_false]
  rfl

theorem stopBegun_stands (writer : Nat) (s : State) : bearing (stopBegun writer s) = bearing (stopOrdered s) ∧
    ∀ p, (port p (stopBegun writer s)).deviceStop = stopReasonCode 1 := by
  obtain ⟨hb, hd⟩ := beginStop_stands (stopReasonCode 1) (protRecord 0x0007 2 0xFF 0xFF 0xFF 4 (stopReasonCode 1) {} (stopOrdered s))
  have recorded : standing (stopBegun writer s) =
      standing (beginStop (stopReasonCode 1) (protRecord 0x0007 2 0xFF 0xFF 0xFF 4 (stopReasonCode 1) {} (stopOrdered s))) :=
    standing_powerRecord _ _ _ _ _
  refine ⟨(bearing_of_standing recorded).trans (hb.trans (bearing_of_standing (standing_protRecord _ _ _ _ _ _ _ _ _))), fun p => ?_⟩
  rw [port_deviceStop, deviceStops_of_standing recorded, ← port_deviceStop, hd]

/-- What the stop leaves at its order: its reason, the device's stop of every port, and the power state it has come to. -/
theorem orderlyStop_stands {s : State} (hp : s.sys.power ≠ .stopped) (hs : s.sys.power ≠ .sleep) (ht : s.sys.transition = .none) (writer : Nat) :
    ∃ t, orderlyStop 1 none writer s = t ∧ t.slowTicks = s.slowTicks ∧ t.twin = s.twin ∧ t.sys.stopReason = 1 ∧ t.sys.stopSource = none ∧
      (∀ p, (port p t).deviceStop = stopReasonCode 1) ∧
      (t.sys.power = .stopped ∧ t.sys.transition = .none ∨ t.sys.power = s.sys.power ∧ t.sys.transition = .stopping 1 none) := by
  obtain ⟨hb, hd⟩ := stopBegun_stands writer s
  have entered : standing (enterStopped (stopBegun writer s)) =
      standing { stopBegun writer s with sys := { (stopBegun writer s).sys with power := .stopped, transition := .none } } := standing_refreeze _ _
  have he := bearing_of_standing entered
  have hticks := slowTicks_of_bearing hb
  have htwin := twin_of_bearing hb
  have hreason := stopReason_of_bearing hb
  have hsource := stopSource_of_bearing hb
  refine ⟨_, rfl, ?_⟩
  rw [orderlyStop_host hp hs ht]
  split
  · refine ⟨?_, ?_, ?_, ?_, fun p => ?_, .inl ⟨power_of_bearing he, transition_of_bearing he⟩⟩
    · exact (slowTicks_of_bearing he).trans hticks
    · exact (twin_of_bearing he).trans htwin
    · exact (stopReason_of_bearing he).trans hreason
    · exact (stopSource_of_bearing he).trans hsource
    · rw [port_deviceStop, deviceStops_of_standing entered]
      exact (port_deviceStop p _).symm.trans (hd p)
  · have hpower := power_of_bearing hb
    have htrans := transition_of_bearing hb
    exact ⟨hticks, htwin, hreason, hsource, hd, .inr ⟨hpower, htrans⟩⟩

theorem transition_of_checkOrderlyStop {r : Running} {s : State} (h : checkOrderlyStop r s = none) : s.sys.transition = .none := by
  have settled := firstOf_eq_none.mp h _ (List.mem_cons_of_mem _ (List.mem_singleton_self _))
  simpa [badState, refuseIf_eq_none] using settled

theorem runs_orderlyStop {p : Fin 8} (hp : s.sys.power ≠ .stopped) (hs : s.sys.power ≠ .sleep) (h : Passes 0x0012 checkOrderlyStop d s) :
    ∃ t, exec (.orderlyStop d) s = .next t ∧
      (t.sys.power = .stopped ∧ t.sys.transition = .none ∧ Answered 0x0012 d .done 0 0 t ∨
        t.sys.power = s.sys.power ∧ t.sys.transition = .stopping 1 none ∧ Awaits 0x0012 d .state t) ∧
      t.sys.stopReason = 1 ∧ t.sys.stopSource = none ∧ (port p t).deviceStop = stopReasonCode 1 := by
  obtain ⟨hb, hc⟩ := h
  obtain ⟨x, hm⟩ := exists_stepping 0x0012 d s
  rw [hm] at hc
  obtain ⟨t, he, hst, htw, hr, hsrc, hd, hend⟩ := orderlyStop_stands (s := { s with hif := x }) hp hs (transition_of_checkOrderlyStop hc)
    (writerOf d.ring.val)
  have begun : opOrderlyStop (starting 0x0012 d s) (stepping 0x0012 d s) =
      if t.sys.power = .stopped then (doneWith 0, t) else (awaitState (starting 0x0012 d s) 1 [], t) := by
    rw [hm]
    refine (guarded_pass beginOrderlyStop hc).trans ((if_neg hp).trans ?_)
    show (if (orderlyStop 1 none (writerOf d.ring.val) { s with hif := x }).sys.power = .stopped then
      (doneWith 0, orderlyStop 1 none (writerOf d.ring.val) { s with hif := x }) else
      (awaitState (starting 0x0012 d s) 1 [], orderlyStop 1 none (writerOf d.ring.val) { s with hif := x })) = _
    rw [he]
  rcases hend with ⟨hpow, htr⟩ | ⟨hpow, htr⟩
  · rw [if_pos hpow] at begun
    obtain ⟨u, hu, ha, h1, h2, h3, h4, h5⟩ := exec_of_ends_stepping (i := .orderlyStop d) (op := opOrderlyStop) (st := .done) (detail := 0) (res := 0)
      (p := fun u => u.sys.power = .stopped ∧ u.sys.transition = .none ∧ u.sys.stopReason = 1 ∧ u.sys.stopSource = none ∧
        (port p u).deviceStop = stopReasonCode 1) rfl hb (by
      rw [begun]
      exact ⟨⟨_, rfl, rfl, rfl, rfl, read_of_detail_zero rfl⟩, hst, htw, fun b => ⟨hpow, htr, hr, hsrc, hd p⟩⟩)
    exact ⟨u, hu, .inl ⟨h1, h2, ha⟩, h3, h4, h5⟩
  · have running : t.sys.power ≠ .stopped := by rw [hpow]; exact hp
    rw [if_neg running] at begun
    obtain ⟨u, hu, ha, h1, h2, h3, h4, h5⟩ := exec_of_stays_stepping (i := .orderlyStop d) (op := opOrderlyStop) (w := .state)
      (p := fun u => u.sys.power = s.sys.power ∧ u.sys.transition = .stopping 1 none ∧ u.sys.stopReason = 1 ∧ u.sys.stopSource = none ∧
        (port p u).deviceStop = stopReasonCode 1) rfl hb (by
      rw [begun]
      exact ⟨⟨_, rfl, rfl, rfl, rfl⟩, hst, htw, fun b => ⟨hpow, htr, hr, hsrc, hd p⟩⟩)
    exact ⟨u, hu, .inr ⟨h1, h2, ha⟩, h3, h4, h5⟩

/-- A record of the device's protection is the Guestbook's and the host interface's. -/
theorem protRecord_device (code ch dir prt step reason : Nat) (i : ProtInfo) (s : State) :
    ∃ y g, protRecord code 2 ch dir prt step reason i s = { s with hif := y, gb := g } := logRecord_records _ _ _ _ _ _ _

/-- Of a device that has stopped the order changes the reason alone. -/
theorem does_orderlyStop_stopped (hp : s.sys.power = .stopped) : Does 0x0012 checkOrderlyStop (.orderlyStop d) d s 0 (fun t =>
    t.sys.power = .stopped ∧ t.sys.stopReason = 1 ∧ t.ports = s.ports ∧ t.chans = s.chans) := by
  refine answers_of_effect beginOrderlyStop rfl (fun _ => rfl) (fun x _ => ?_)
  obtain ⟨y, g, hg⟩ := protRecord_device 0x0007 0xFF 0xFF 0xFF 4 reasonHost {}
    (modSys (fun v => { v with stopReason := 1, stopSource := none }) { s with hif := x })
  have begun : beginOrderlyStop (starting 0x0012 d s) { s with hif := x } = (doneWith 0, if s.sys.stopReason = 1 then { s with hif := x } else
      modSys (fun v => { v with stopReason := 1, stopSource := none }) { s with hif := y, gb := g }) :=
    (if_pos hp).trans (congrArg (Prod.mk (doneWith 0)) (if_congr Iff.rfl rfl hg))
  rw [begun]
  split
  · next h => exact ⟨⟨_, rfl, rfl, rfl, rfl, read_of_detail_zero rfl⟩, rfl, rfl, fun b => ⟨hp, h, rfl, rfl⟩⟩
  · exact ⟨⟨_, rfl, rfl, rfl, rfl, read_of_detail_zero rfl⟩, rfl, rfl, fun b => ⟨hp, rfl, rfl, rfl⟩⟩

end

/-! ## Rails that begin (R425) -/

theorem rail_postEvent (r : Fin 10) (code severity src : Nat) (bytes : List Byte) (s : State) : rail r (postEvent code severity src bytes s) =
    rail r s := by
  rw [postEvent_hif]
  rfl

theorem rail_modRail_ne {r q : Fin 10} (f : Rail → Rail) (s : State) (h : q ≠ r) : rail q (modRail r f s) = rail q s :=
  Vector.getElem_set_ne r.isLt q.isLt (fun e => h (Fin.ext e.symm))

theorem state_setRailState_same (r : Fin 10) (v : RailState) (src : Nat) (s : State) : (rail r (setRailState r v src s)).state = v := by
  unfold setRailState
  dsimp only
  split
  · next h => exact h
  · rw [rail_postEvent, rail_modRail_same]

theorem rail_setRailState_ne {r q : Fin 10} (v : RailState) (src : Nat) (s : State) (h : q ≠ r) : rail q (setRailState r v src s) = rail q s := by
  unfold setRailState
  dsimp only
  split
  · rfl
  · rw [rail_postEvent, rail_modRail_ne _ _ h]

theorem rail_modLoop (r : Fin 10) (l : Nat) (f : Loop → Loop) (s : State) : rail r (modLoop l f s) = rail r s := rfl

/-- A soft start begun is one rail's. -/
theorem state_beginSoftStart (r q : Fin 10) (s : State) : (rail q (beginSoftStart r s)).state = if q = r then .softStart else (rail q s).state := by
  have loops (p : Prop) [Decidable p] (a b : State) (h : rail q a = rail q b) : rail q (if p then a else b) = rail q b := by
    rw [apply_ite (rail q), h, ite_self]
  unfold beginSoftStart
  dsimp only
  rw [loops _ _ _ (by rw [startLoop, rail_modLoop, rail_modLoop])]
  by_cases h : q = r
  · subst h
    rw [if_pos rfl, rail_modRail_same, rail_phasesOn]
    exact state_setRailState_same _ _ _ _
  · rw [if_neg h, rail_modRail_ne _ _ h, rail_phasesOn, rail_setRailState_ne _ _ _ h]

theorem state_softStarts (l : List (Fin 10)) (q : Fin 10) (s : State) :
    (rail q (l.foldl (fun s k => beginSoftStart k s) s)).state = if q ∈ l then .softStart else (rail q s).state := by
  induction l generalizing s with
  | nil => simp
  | cons r l ih =>
    rw [List.foldl_cons, ih, state_beginSoftStart]
    by_cases hl : q ∈ l <;> by_cases hr : q = r <;> simp [hl, hr]

/-- The rails of a list and their followers begun, as far as they are off (R572). -/
def startRails (l : List (Fin 10)) (s : State) : State :=
  l.foldl (fun s r => ((r :: followers r s).filter (fun k => (rail k s).state == .off)).foldl (fun s k => beginSoftStart k s) s) s

/-- Whether a rail regulates is left by the start of others and by its own. -/
theorem regulating_startRails (l : List (Fin 10)) (q : Fin 10) (s : State) :
    (rail q (startRails l s)).state = .regulating ↔ (rail q s).state = .regulating := by
  refine List.foldlRecOn (motive := fun (t : State) => (rail q t).state = .regulating ↔ (rail q s).state = .regulating) l _ Iff.rfl
    (fun t ht r _ => Iff.trans ?_ ht)
  rw [state_softStarts]
  split
  · next h =>
    have off : (rail q t).state = .off := beq_iff_eq.mp (List.mem_filter.mp h).2
    rw [off]
    simp
  · exact Iff.rfl

theorem blocks_startRails (l : List (Fin 10)) (s : State) : blocks (startRails l s) = blocks s :=
  blocks_foldl _ _ _ (fun _ _ => blocks_foldl _ _ _ (fun _ _ => blocks_beginSoftStart _ _))

theorem standing_startRails (l : List (Fin 10)) (s : State) : standing (startRails l s) = standing s :=
  standing_foldl _ _ _ (fun _ _ => standing_foldl _ _ _ (fun _ _ => standing_beginSoftStart _ _))

/-! ## RESTART (R572) -/

/-- The device with its restart ordered by a command. -/
def restartOrdered (s : State) : State :=
  { s with sys := { s.sys with transition := .restarting false, abandonedRestart := false, restarts := recentRestarts s } }

/-- The rails that the stop has stopped. -/
def stoppedList (s : State) : List (Fin 10) := (List.finRange 10).filter (fun r => s.sys.stoppedRails.getLsbD r.val)

/-- Every stopped rail regulates. -/
def railsBack (s : State) : Bool := (List.finRange 10).all (fun r => !s.sys.stoppedRails.getLsbD r.val || (rail r s).state == .regulating)

/-- The power state of a device that has come back. -/
def activated (s : State) : State :=
  { s with sys := { s.sys with power := .active, stopReason := 0, stopSource := none, transition := .none, stoppedRails := 0 } }

theorem activated_slowTicks (s : State) : (activated s).slowTicks = s.slowTicks := rfl

theorem activated_twin (s : State) : (activated s).twin = s.twin := rfl

theorem activated_sys (s : State) : (activated s).sys =
    { s.sys with power := .active, stopReason := 0, stopSource := none, transition := .none, stoppedRails := 0 } := rfl

/-- A restart at its end. -/
def restarted (s : State) : State :=
  powerRecord .stopped .active 0 (requester 0x0013 (activated (releaseDeviceStops s)))
    (refreeze (frozenNow (releaseDeviceStops s)) (activated (releaseDeviceStops s)))

theorem restartProgress_ordered {s : State} (h : s.sys.transition = .restarting false) :
    restartProgress s = if railsBack s then restarted s else s := by
  unfold restartProgress
  rw [h]
  rfl

theorem railsBack_startRails (l : List (Fin 10)) (s : State) : railsBack (startRails l s) = railsBack s := by
  have one (r : Fin 10) : ((rail r (startRails l s)).state == .regulating) = ((rail r s).state == .regulating) := by
    rw [Bool.eq_iff_iff, beq_iff_eq, beq_iff_eq]
    exact regulating_startRails l r s
  unfold railsBack
  rw [sys_of_blocks (blocks_startRails l s)]
  simp only [one]

theorem railsBack_iff (s : State) : railsBack s = true ↔ ∀ r : Fin 10, s.sys.stoppedRails.getLsbD r.val = true → (rail r s).state = .regulating := by
  simp [railsBack, imp_iff_not_or]

theorem bearing_releaseDeviceStops (s : State) : bearing (releaseDeviceStops s) = bearing s := by
  unfold releaseDeviceStops
  rw [bearing_of_standing (standing_refreshPortStops _)]
  refine List.foldlRecOn (motive := fun t => bearing t = bearing s) _ _ rfl (fun t ht p _ => Eq.trans ?_ ht)
  dsimp only
  split
  · rfl
  · exact (bearing_of_standing (standing_portRecord _ _ _ _ _ _)).trans rfl

theorem restarted_stands (s : State) : (restarted s).slowTicks = s.slowTicks ∧ (restarted s).twin = s.twin ∧
    (restarted s).sys = { s.sys with power := .active, stopReason := 0, stopSource := none, transition := .none, stoppedRails := 0 } := by
  have hb := bearing_releaseDeviceStops s
  have hs := sys_of_blocks (blocks_releaseDeviceStops s)
  have he : bearing (restarted s) = bearing (activated (releaseDeviceStops s)) :=
    bearing_of_standing ((standing_powerRecord _ _ _ _ _).trans (standing_refreeze _ _))
  have hsys : (restarted s).sys = (activated (releaseDeviceStops s)).sys :=
    sys_of_blocks ((blocks_powerRecord _ _ _ _ _).trans (blocks_refreeze _ _))
  refine ⟨?_, ?_, ?_⟩
  · rw [slowTicks_of_bearing he, activated_slowTicks, slowTicks_of_bearing hb]
  · rw [twin_of_bearing he, activated_twin, twin_of_bearing hb]
  · rw [hsys, activated_sys, hs]

theorem restartAnswer_back {r : Running} {s : State} (ha : s.sys.abandonedRestart = false) (ht : s.sys.transition = .none)
    (hp : s.sys.power = .active) : restartAnswer r s = doneWith 0 := by
  simp only [restartAnswer, ha, ht, hp, Bool.false_eq_true, if_false, if_true]

theorem restartAnswer_waits {r : Running} {s : State} {a : Bool} (ha : s.sys.abandonedRestart = false) (ht : s.sys.transition = .restarting a) :
    restartAnswer r s = awaitState r 1 [] := by
  simp only [restartAnswer, ha, ht, Bool.false_eq_true, if_false]

/-- The rails of a restart, begun at its order. -/
def railsBegun (s : State) : State := startRails (stoppedList s) (restartOrdered s)

theorem railsBegun_stands (s : State) : (railsBegun s).slowTicks = s.slowTicks ∧ (railsBegun s).twin = s.twin ∧
    (railsBegun s).sys = { s.sys with transition := .restarting false, abandonedRestart := false, restarts := recentRestarts s } := by
  have hb := bearing_of_standing (standing_startRails (stoppedList s) (restartOrdered s))
  have hticks := slowTicks_of_bearing hb
  have htwin := twin_of_bearing hb
  have hsys := sys_of_blocks (blocks_startRails (stoppedList s) (restartOrdered s))
  exact ⟨hticks, htwin, hsys⟩

theorem beginRestart_host (s : State) : beginRestart false s = if railsBack s then restarted (railsBegun s) else railsBegun s := by
  obtain ⟨-, -, hsys⟩ := railsBegun_stands s
  have ht : (railsBegun s).sys.transition = .restarting false := by rw [hsys]
  have hr : railsBack (railsBegun s) = railsBack (restartOrdered s) := railsBack_startRails _ _
  show restartProgress (railsBegun s) = _
  rw [restartProgress_ordered ht, hr]
  rfl

section
variable {d : Desc} {s : State}

theorem does_restart (h : ∀ r : Fin 10, s.sys.stoppedRails.getLsbD r.val = true → (rail r s).state = .regulating) :
    Does 0x0013 checkRestart (.restart d) d s 0 (fun t =>
      t.sys.power = .active ∧ t.sys.transition = .none ∧ t.sys.stopReason = 0 ∧ t.sys.stoppedRails = 0) := by
  refine answers_of_effect effectRestart rfl (fun _ => rfl) (fun x _ => ?_)
  have started := beginRestart_host { s with hif := x }
  rw [if_pos ((railsBack_iff { s with hif := x }).mpr h)] at started
  obtain ⟨hticks, htwin, hsys⟩ := restarted_stands (railsBegun { s with hif := x })
  obtain ⟨bticks, btwin, bsys⟩ := railsBegun_stands { s with hif := x }
  rw [bsys] at hsys
  have answer : effectRestart (starting 0x0013 d s) { s with hif := x } = (doneWith 0, restarted (railsBegun { s with hif := x })) := by
    show (restartAnswer _ (beginRestart false { s with hif := x }), beginRestart false { s with hif := x }) = _
    rw [started, restartAnswer_back] <;> rw [hsys]
  rw [answer]
  refine ⟨⟨_, rfl, rfl, rfl, rfl, read_of_detail_zero rfl⟩, hticks.trans bticks, htwin.trans btwin, fun b => ?_⟩
  generalize restarted (railsBegun { s with hif := x }) = t at hsys
  show t.sys.power = _ ∧ t.sys.transition = _ ∧ t.sys.stopReason = _ ∧ t.sys.stoppedRails = _
  rw [hsys]
  exact ⟨rfl, rfl, rfl, rfl⟩

theorem power_of_checkRestart {r : Running} {s : State} (h : checkRestart r s = none) : s.sys.power = .stopped := by
  have stopped := firstOf_eq_none.mp h _ (List.mem_cons_of_mem _ (List.mem_cons_of_mem _ List.mem_cons_self))
  simpa [badState, refuseIf_eq_none] using stopped

theorem starts_restart (h : ∃ r : Fin 10, s.sys.stoppedRails.getLsbD r.val = true ∧ (rail r s).state ≠ .regulating) :
    Starts 0x0013 checkRestart (.restart d) d s .state (fun t =>
      t.sys.transition = .restarting false ∧ t.sys.power = .stopped ∧ t.sys.abandonedRestart = false) := by
  refine starts_of_effect effectRestart rfl (fun _ => rfl) (fun x hc => ?_)
  obtain ⟨r, hr, hn⟩ := h
  have off : ¬ railsBack { s with hif := x } = true := fun hb => hn ((railsBack_iff _).mp hb r hr)
  have started := beginRestart_host { s with hif := x }
  rw [if_neg off] at started
  obtain ⟨bticks, btwin, bsys⟩ := railsBegun_stands { s with hif := x }
  have answer : effectRestart (starting 0x0013 d s) { s with hif := x } =
      (awaitState (starting 0x0013 d s) 1 [], railsBegun { s with hif := x }) := by
    show (restartAnswer _ (beginRestart false { s with hif := x }), beginRestart false { s with hif := x }) = _
    rw [started, restartAnswer_waits (a := false)] <;> rw [bsys]
  rw [answer]
  refine ⟨⟨_, rfl, rfl, rfl, rfl⟩, bticks, btwin, fun b => ?_⟩
  show (railsBegun _).sys.transition = _ ∧ (railsBegun _).sys.power = _ ∧ (railsBegun _).sys.abandonedRestart = _
  rw [bsys]
  exact ⟨rfl, power_of_checkRestart hc, rfl⟩

/-! ## POWER_STATE_SET (R575) -/

theorem does_powerStateSet_policy (ht : par d 0 1 = 0xFE) : Does 0x0011 checkPowerStateSet (.powerStateSet d) d s 0 (fun t =>
    t.sys.power = s.sys.power ∧ t.sys.sleepAfterS = par d 4 2 ∧ t.sys.wakeHoldS = if par d 6 2 = 0 then s.sys.wakeHoldS else par d 6 2) := by
  refine answers_of_effect beginPowerStateSet rfl (fun _ => rfl) (fun x _ => ?_)
  have begun : beginPowerStateSet (starting 0x0011 d s) { s with hif := x } = (doneWith 0, setPolicy (coded 0x0011 d) { s with hif := x }) :=
    if_pos (.inl ht)
  rw [begun]
  exact ⟨⟨_, rfl, rfl, rfl, rfl, read_of_detail_zero rfl⟩, rfl, rfl, fun b => ⟨rfl, rfl, rfl⟩⟩

/-- A power state set leaves the power state otherwise as it was, and ends any transition. -/
theorem setPower_stands (v : PowerState) (writer : Nat) (s : State) : (setPower v writer s).slowTicks = s.slowTicks ∧
    (setPower v writer s).twin = s.twin ∧ (setPower v writer s).sys = { s.sys with power := v, transition := .none } := by
  have hb : bearing (setPower v writer s) = bearing (modSys (fun x => { x with power := v, transition := .none }) s) :=
    bearing_of_standing ((standing_powerRecord _ _ _ _ _).trans (standing_refreeze _ _))
  have hsys : (setPower v writer s).sys = (modSys (fun x => { x with power := v, transition := .none }) s).sys :=
    sys_of_blocks ((blocks_powerRecord _ _ _ _ _).trans (blocks_refreeze _ _))
  have hticks := slowTicks_of_bearing hb
  have htwin := twin_of_bearing hb
  exact ⟨hticks, htwin, hsys⟩

theorem does_powerStateSet_active (ht : par d 0 1 = 1) (hp : s.sys.power = .quiet) :
    Does 0x0011 checkPowerStateSet (.powerStateSet d) d s 0 (fun t => t.sys.power = .active ∧ t.sys.sleepAfterS = par d 4 2) := by
  refine answers_of_effect beginPowerStateSet rfl (fun _ => rfl) (fun x _ => ?_)
  have waking : ¬ (par d 0 1 = 0xFE ∨ (par d 0 1 = 1 ∧ s.sys.power = .active) ∨ (par d 0 1 = 2 ∧ s.sys.power = .quiet)) := by
    rw [ht, hp]
    decide
  have begun : beginPowerStateSet (starting 0x0011 d s) { s with hif := x } =
      (doneWith 0, setPower .active (writerOf d.ring.val) (setPolicy (coded 0x0011 d) { s with hif := x })) := (if_neg waking).trans (if_pos ht)
  obtain ⟨hticks, htwin, hsys⟩ := setPower_stands .active (writerOf d.ring.val) (setPolicy (coded 0x0011 d) { s with hif := x })
  have hpower := congrArg System.power hsys
  have hsleep := congrArg System.sleepAfterS hsys
  rw [begun]
  exact ⟨⟨_, rfl, rfl, rfl, rfl, read_of_detail_zero rfl⟩, hticks, htwin, fun b => ⟨hpower, hsleep⟩⟩

theorem starts_powerStateSet_quiet (ht : par d 0 1 = 2) (hp : s.sys.power = .active) :
    Starts 0x0011 checkPowerStateSet (.powerStateSet d) d s .none (fun t =>
      t.sys.power = .active ∧ t.sys.transition = .quieting ∧ t.ports = s.ports ∧ t.chans = s.chans) := by
  refine starts_of_effect beginPowerStateSet rfl (fun _ => rfl) (fun x _ => ?_)
  have awake : ¬ (par d 0 1 = 0xFE ∨ (par d 0 1 = 1 ∧ s.sys.power = .active) ∨ (par d 0 1 = 2 ∧ s.sys.power = .quiet)) := by
    rw [ht, hp]
    decide
  have other : ¬ par d 0 1 = 1 := by rw [ht]; decide
  have begun : beginPowerStateSet (starting 0x0011 d s) { s with hif := x } = (.stay { starting 0x0011 d s with wait := .none, phase := 1 },
      modSys (fun v => { v with transition := .quieting }) (setPolicy (coded 0x0011 d) { s with hif := x })) :=
    (if_neg awake).trans ((if_neg other).trans (if_pos ht))
  rw [begun]
  exact ⟨⟨_, rfl, rfl, rfl, rfl⟩, rfl, rfl, fun b => ⟨hp, rfl, rfl, rfl⟩⟩

/-- A sleep begun stops every port for the power state, and stands at its first stage or, with no rail to stop, at its second. -/
theorem beginSleep_stands (s : State) : (beginSleep s).slowTicks = s.slowTicks ∧ (beginSleep s).twin = s.twin ∧
    (∀ p, (port p (beginSleep s)).deviceStop = reasonPowerState) ∧
    ((beginSleep s).sys.transition = .sleeping 1 ∨ (beginSleep s).sys.transition = .sleeping 2) := by
  obtain ⟨hb, hd⟩ := beginStop_stands reasonPowerState (modSys (fun v => { v with transition := .sleeping 1 }) s)
  have hticks := slowTicks_of_bearing hb
  have htwin := twin_of_bearing hb
  have htrans := transition_of_bearing hb
  unfold beginSleep
  generalize beginStop reasonPowerState (modSys (fun v => { v with transition := .sleeping 1 }) s) = t at hd hticks htwin htrans
  dsimp only
  split
  · exact ⟨hticks, htwin, hd, .inr rfl⟩
  · exact ⟨hticks, htwin, hd, .inl htrans⟩

theorem starts_powerStateSet_sleep {p : Fin 8} (ht : par d 0 1 = 4) : Starts 0x0011 checkPowerStateSet (.powerStateSet d) d s .state (fun t =>
    (port p t).deviceStop = reasonPowerState ∧ (t.sys.transition = .sleeping 1 ∨ t.sys.transition = .sleeping 2)) := by
  refine starts_of_effect beginPowerStateSet rfl (fun _ => rfl) (fun x _ => ?_)
  have sleeping : ¬ (par d 0 1 = 0xFE ∨ (par d 0 1 = 1 ∧ s.sys.power = .active) ∨ (par d 0 1 = 2 ∧ s.sys.power = .quiet)) := by
    rw [ht]
    simp
  have other : ¬ par d 0 1 = 1 := by rw [ht]; decide
  have other' : ¬ par d 0 1 = 2 := by rw [ht]; decide
  have begun : beginPowerStateSet (starting 0x0011 d s) { s with hif := x } =
      (awaitState (starting 0x0011 d s) 2 [], beginSleep (setPolicy (coded 0x0011 d) { s with hif := x })) :=
    (if_neg sleeping).trans ((if_neg other).trans (if_neg other'))
  obtain ⟨hticks, htwin, hd, htrans⟩ := beginSleep_stands (setPolicy (coded 0x0011 d) { s with hif := x })
  rw [begun]
  refine ⟨⟨_, rfl, rfl, rfl, rfl⟩, hticks, htwin, fun b => ?_⟩
  generalize beginSleep (setPolicy (coded 0x0011 d) { s with hif := x }) = t at hd htrans
  exact ⟨hd p, htrans⟩

end

/-- Settles O29: each command is its effect past its checks, and waits where the stop or the start takes time. -/
theorem powerCommands : Obligations.PowerCommands := by
  unfold Obligations.PowerCommands
  exact fun _ _ _ => ⟨does_deviceReset, runs_orderlyStop, does_orderlyStop_stopped, does_restart, starts_restart, does_powerStateSet_policy,
    does_powerStateSet_active, starts_powerStateSet_quiet, starts_powerStateSet_sleep⟩

end Sys2Proof.Proofs
end

/-! # The Innkeeper's restart and the Lodgers' watchdogs -/
section
namespace Sys2Proof.Proofs
open Sys2Proof Sys2Proof.Machine Sys2Proof.Safety Sys2Proof.Laws

theorem systemRecord_records (cls severity codeOf writer : Nat) (bytes : List Byte) (events : List EventRec) (s : State) :
    ∃ x y, systemRecord cls severity codeOf writer bytes events s = { s with hif := x, gb := y } := logRecord_records _ _ _ _ _ _ _

/-- The loads that a failed Innkeeper answers are the host interface's. -/
theorem failPatchLoads_host (s : State) : ∃ x, failPatchLoads s = { s with hif := x } :=
  ⟨_, foldl_hif _ (fun s q => by split <;> rfl) _ _⟩

/-! ## The Innkeeper (R595, R596) -/

section
variable {s : State}

/-- The slot in force with an expiry of its Innkeeper counted (R596). -/
def expiryCounted (s : State) : System :=
  (if s.sys.romOnly then s else
    modSlot s.sys.patchSlot (fun v =>
      let n := if decide (s.slowTicks ≤ s.sys.bootTick + 10000) then v.expiries + 1 else 0
      { v with expiries := n, failed := v.failed || decide (2 ≤ n) }) s).sys

/-- An expiry is counted in the system block alone. -/
theorem exec_innkeeperWatchdog (hu : s.sys.coreUp = true) (hi : s.sys.innkeeper = .running) : exec .innkeeperWatchdog s =
    .next (raise 3 (object 13 0) 0
    (failPatchLoads { s with sys := { expiryCounted s with innkeeper := .restarting, restartForPatch := false } })) := by
  have counted : (if s.sys.romOnly then s else
      modSlot s.sys.patchSlot (fun v =>
        let n := if decide (s.slowTicks ≤ s.sys.bootTick + 10000) then v.expiries + 1 else 0
        { v with expiries := n, failed := v.failed || decide (2 ≤ n) }) s) = { s with sys := expiryCounted s } := by
    unfold expiryCounted
    split <;> rfl
  have due : (s.sys.coreUp && s.sys.innkeeper == .running) = true := by rw [hu, hi]; rfl
  refine congrArg Host.Outcome.next ((if_pos due).trans ?_)
  dsimp only
  rw [counted]
  rfl

theorem runs_innkeeperWatchdog (hu : s.sys.coreUp = true) (hi : s.sys.innkeeper = .running) : Runs .innkeeperWatchdog s (fun t =>
    t.sys.innkeeper = .restarting ∧ Raised 3 (object 13 0) t ∧ t.ports = s.ports ∧ t.chans = s.chans ∧ t.hr = s.hr) := by
  refine runs_of_exec (exec_innkeeperWatchdog hu hi) ?_
  obtain ⟨x, hx⟩ := failPatchLoads_host { s with sys := { expiryCounted s with innkeeper := .restarting, restartForPatch := false } }
  refine ⟨?_, raised_raise _ _ _ _, ?_, ?_, ?_⟩ <;> rw [hx] <;> rfl

theorem innkeeperWatchdog_rests (h : s.sys.innkeeper ≠ .running) : Rests .innkeeperWatchdog s :=
  congrArg Host.Outcome.next (if_neg (by simp [h]))

/-- The Innkeeper boots in the system block, with a record where no slot serves. -/
theorem bootInnkeeper_stands (s : State) : ∃ x y z, bootInnkeeper s = { s with hif := x, gb := y, sys := z } ∧ z.innkeeper = .running ∧
    z.restartForPatch = s.sys.restartForPatch := by
  unfold bootInnkeeper
  split
  · exact ⟨_, _, _, rfl, rfl, rfl⟩
  · obtain ⟨x, y, h⟩ := systemRecord_records 5 1 0x0012 deviceWriter
      (payload 16 [(0, 2, (Config.openCode 1 0).toNat + 256 * (Config.openCode 1 1).toNat), (2, 1, (Config.openCode 1 2).toNat)]) []
      (modSys (fun x => { x with innkeeper := .running, romOnly := true, patchSlot := false, bootTick := s.slowTicks, bootUs := opTime s }) s)
    exact ⟨x, y, _, h, rfl, rfl⟩

theorem runs_innkeeperRestartDone (hu : s.sys.coreUp = true) (hi : s.sys.innkeeper = .restarting) : Runs .innkeeperRestartDone s (fun t =>
    t.sys.innkeeper = .running ∧ t.sys.restartForPatch = false ∧ t.ports = s.ports ∧ t.chans = s.chans) := by
  have due : (s.sys.coreUp && s.sys.innkeeper == .restarting) = true := by rw [hu, hi]; rfl
  refine runs_of_exec (congrArg Host.Outcome.next (if_pos due)) ?_
  obtain ⟨x, y, z, hz, hr, hf⟩ := bootInnkeeper_stands (modSys (fun x => { x with restartForPatch := false }) s)
  dsimp only
  rw [hz]
  generalize payload 16 [(0, 1, flagBit s.sys.restartForPatch), _] = bytes
  obtain ⟨x', y', h'⟩ := systemRecord_records 1 0 0x0013 deviceWriter bytes []
    { modSys (fun x => { x with restartForPatch := false }) s with hif := x, gb := y, sys := z }
  rw [h']
  split
  · generalize payload 16 _ = bytes'
    obtain ⟨x'', y'', h''⟩ := systemRecord_records 5 0 0x0011 deviceWriter bytes' []
      { modSys (fun x => { x with restartForPatch := false }) s with hif := x', gb := y', sys := z }
    rw [h'']
    exact ⟨hr, hf, rfl, rfl⟩
  · exact ⟨hr, hf, rfl, rfl⟩

theorem innkeeperRestartDone_rests (h : s.sys.innkeeper ≠ .restarting) : Rests .innkeeperRestartDone s :=
  congrArg Host.Outcome.next (if_neg (by simp [h]))

/-! ## The patch floor (R597) -/

theorem runs_patchFloorRaise (hu : s.sys.coreUp = true) (hi : s.sys.innkeeper = .running) (hr : s.sys.romOnly = false)
    (hb : s.sys.bootUs + hourUs ≤ opTime s) : Runs .patchFloorRaise s (fun t =>
      t.sys.patchFloor = BitVec.ofNat 16 (max s.sys.patchFloor.toNat (patchSlot s.sys.patchSlot s).security.toNat) ∧
      s.sys.patchFloor.toNat ≤ t.sys.patchFloor.toNat ∧ t = { s with sys := { s.sys with patchFloor := t.sys.patchFloor } }) := by
  refine runs_of_exec (congrArg Host.Outcome.next (if_pos (by simp [hu, hi, hr, hb]))) ⟨rfl, ?_, rfl⟩
  have fits : max s.sys.patchFloor.toNat (patchSlot s.sys.patchSlot s).security.toNat < 2 ^ 16 := max_lt (BitVec.isLt _) (BitVec.isLt _)
  show _ ≤ (BitVec.ofNat 16 (max s.sys.patchFloor.toNat (patchSlot s.sys.patchSlot s).security.toNat)).toNat
  rw [BitVec.toNat_ofNat, Nat.mod_eq_of_lt fits]
  exact le_max_left _ _

theorem patchFloorRaise_rests (h : s.sys.romOnly = true) : Rests .patchFloorRaise s :=
  congrArg Host.Outcome.next (if_neg (by simp [h]))

end

/-! ## The Lodgers (R587, R588) -/

section
variable {n : Fin 4} {s : State}

theorem lodger_setLodger_same (n : Fin 4) (v : LodgerState) (cause writer : Nat) (s : State) :
    lodger n (setLodger n v cause writer s) = { lodger n s with state := v } := by
  obtain ⟨g, h⟩ := setLodger_eq n v cause writer s
  rw [h]
  exact lodger_modLodger_same n (fun l => { l with state := v }) s

theorem lodger_setLodger_ne {k n : Fin 4} (v : LodgerState) (cause writer : Nat) (s : State) (h : k ≠ n) :
    lodger k (setLodger n v cause writer s) = lodger k s := by
  obtain ⟨g, hs⟩ := setLodger_eq n v cause writer s
  rw [hs]
  exact lodger_modLodger_ne (fun l => { l with state := v }) s h

theorem lodger_raise (k : Fin 4) (m obj detail : Nat) (s : State) : lodger k (raise m obj detail s) = lodger k s := rfl

theorem runs_lodgerWatchdog {k : Fin 4} (hk : k ≠ n) (hu : s.sys.coreUp = true) (hr : (lodger n s).state = .running) (hw :
    (lodger n s).watchdogMs ≠ 0)
    (hd : (lodger n s).kickedTick + (lodger n s).watchdogMs < s.slowTicks) : Runs (.lodgerWatchdog n) s (fun t =>
      (lodger n t).state = .stopped ∧ (lodger n t).retained = (lodger n s).retained ∧ Raised (4 + n.val) (object 13 (1 + n.val)) t ∧
      lodger k t = lodger k s) := by
  refine runs_of_exec (congrArg Host.Outcome.next (if_pos (by simp [hu, hr, hw, hd]))) ⟨?_, ?_, raised_raise _ _ _ _, ?_⟩
  · rw [lodger_raise, lodger_setLodger_same]
  · rw [lodger_raise, lodger_setLodger_same, lodger_modLodger_same]
  · rw [lodger_raise, lodger_setLodger_ne _ _ _ _ hk, lodger_modLodger_ne _ _ hk]

theorem lodgerWatchdog_rests (h : (lodger n s).watchdogMs = 0) : Rests (.lodgerWatchdog n) s :=
  congrArg Host.Outcome.next (if_neg (by simp [h]))

theorem runs_lodgerAutorestart {k : Fin 4} (hk : k ≠ n) (hu : s.sys.coreUp = true) (hs : (lodger n s).state = .stopped)
    (hr : (lodger n s).restartDue = true) (hf : (faultSrc (4 + n.val) s).state ≠ .parked) (hd : (lodger n s).kickedTick + 1000 ≤ s.slowTicks) :
    Runs (.lodgerAutorestart n) s (fun t => (lodger n t).state = .running ∧ (lodger n t).restartDue = false ∧
      (lodger n t).retained = (lodger n s).retained ∧ lodger k t = lodger k s) := by
  refine runs_of_exec (congrArg Host.Outcome.next (if_pos (by simp [hu, hs, hr, hf, hd]))) ?_
  unfold runLodger
  rw [lodger_setLodger_same, lodger_modLodger_same, lodger_setLodger_ne _ _ _ _ hk, lodger_modLodger_ne _ _ hk]
  exact ⟨rfl, rfl, rfl, rfl⟩

theorem lodgerAutorestart_rests (h : (lodger n s).restartDue = false) : Rests (.lodgerAutorestart n) s :=
  congrArg Host.Outcome.next (if_neg (by simp [h]))

theorem runs_deskViolation {k : Fin 4} (hk : k ≠ n) (hu : s.sys.coreUp = true) (hr : (lodger n s).state = .running) :
    Runs (.deskViolation n) s (fun t => (lodger n t).trapped = true ∧ (lodger n t).state = .running ∧ Raised 8 (object 13 (1 + n.val)) t ∧
      lodger k t = lodger k s) := by
  refine runs_of_exec (congrArg Host.Outcome.next (if_pos (by simp [hu, hr]))) ⟨?_, ?_, raised_raise _ _ _ _, ?_⟩
  · rw [lodger_raise, lodger_modLodger_same]
  · rw [lodger_raise, lodger_modLodger_same]
    exact hr
  · rw [lodger_raise, lodger_modLodger_ne _ _ hk]

theorem deskViolation_rests (h : (lodger n s).state ≠ .running) : Rests (.deskViolation n) s :=
  congrArg Host.Outcome.next (if_neg (by simp [h]))

end

/-- Settles O54: each event is its effect where its condition holds, and rests without it. -/
theorem trustEvents : Obligations.TrustEvents := by
  unfold Obligations.TrustEvents
  exact fun _ _ _ hk => ⟨runs_innkeeperWatchdog, innkeeperWatchdog_rests, runs_innkeeperRestartDone, innkeeperRestartDone_rests,
    runs_patchFloorRaise, patchFloorRaise_rests, runs_lodgerWatchdog hk, lodgerWatchdog_rests, runs_lodgerAutorestart hk, lodgerAutorestart_rests,
    runs_deskViolation hk, deskViolation_rests⟩

end Sys2Proof.Proofs
end

/-! # Accesses of the compatibility registers -/
section
namespace Sys2Proof.Proofs
open Sys2Proof Sys2Proof.Machine Sys2Proof.Safety Sys2Proof.Laws

/-! ## Reads of the registers (R653, R657) -/

/-- A read of a register changes what is latched and nothing else. -/
theorem gqRead_latches (addr : Nat) (s : State) : ∃ l, (gqRead addr s).2 = { s with compat := { s.compat with latched := l } } := by
  unfold gqRead
  dsimp only
  split
  · exact ⟨_, rfl⟩
  · split
    · exact ⟨_, rfl⟩
    · exact ⟨s.compat.latched, rfl⟩

theorem readBurst_compat (k addr : Nat) (s : State) : ∃ c, (readBurst addr k s).2 = { s with compat := c } := by
  induction k generalizing addr s with
  | zero => exact ⟨s.compat, rfl⟩
  | succ k ih =>
    obtain ⟨l, hl⟩ := gqRead_latches addr s
    obtain ⟨c, hc⟩ := ih (addr + 2) (gqRead addr s).2
    exact ⟨c, hc.trans (by rw [hl])⟩

theorem length_readBurst (k addr : Nat) (s : State) : (readBurst addr k s).1.length = k := by
  induction k generalizing addr s with
  | zero => rfl
  | succ k ih => exact congrArg Nat.succ (ih (addr + 2) _)

/-- An even address within the window is the address read. -/
theorem gqAddr_even {a : Nat} (h : a < 0x1000) (he : a % 2 = 0) : a % 0x1000 / 2 * 2 = a := by omega

/-- A latched register reads what is latched. -/
theorem gqRead_latched {a : Nat} {e : Nat × Half} {s : State} (ha : a % 0x1000 / 2 * 2 = a) (h : s.compat.latched.find? (fun e => e.1 == a) =
    some e) :
    (gqRead a s).1 = e.2 := by
  unfold gqRead
  dsimp only
  rw [ha, h]

/-- A high register read while the device is ready latches its low one (R657). -/
theorem gqRead_latch {a : Nat} {s : State} (ha : a % 0x1000 / 2 * 2 = a) (h : s.compat.latched.find? (fun e => e.1 == a) = none)
    (hi : isHi a = true) (hr : s.compat.ready = true) : (gqRead a s).2 = { s with compat := { s.compat with
      latched := s.compat.latched.filter (fun e => e.1 != a + 2) ++ [(a + 2, gqRegister (a + 2) s)] } } := by
  have both : (isHi a && s.compat.ready) = true := by rw [hi, hr]; rfl
  unfold gqRead
  dsimp only
  rw [ha, h]
  dsimp only
  rw [if_pos both]
  rfl

theorem find_appended {β : Type} (l : List (Nat × β)) (a : Nat) (v : β) :
    (l.filter (fun e => e.1 != a) ++ [(a, v)]).find? (fun e => e.1 == a) = some (a, v) := by
  have none : (l.filter (fun e => e.1 != a)).find? (fun e => e.1 == a) = none := by
    rw [List.find?_eq_none]
    intro e he
    simpa using (List.mem_filter.mp he).2
  rw [List.find?_append, none]
  simp

/-! ## Writes of the registers (R651) -/

section
variable {s : State}

theorem gqGate_outside (write : State → State) (h : s.sys.mode ≠ .compat) : gqGate write s = s := if_pos (.inl h)

theorem gqGate_notReady (write : State → State) (hm : s.sys.mode = .compat) (hu : s.sys.coreUp = true) (hr : s.compat.ready = false) :
    gqGate write s = gqError 2 s := by
  simp [gqGate, hm, hu, hr]

theorem gqGate_softReset (write : State → State) (hm : s.sys.mode = .compat) (hu : s.sys.coreUp = true) (hr : s.compat.ready = true)
    (hs : s.compat.softReset = true) : gqGate write s = gqError 0x0A s := by
  simp [gqGate, hm, hu, hr, hs]

theorem gqGate_open (write : State → State) (hm : s.sys.mode = .compat) (hu : s.sys.coreUp = true) (hr : s.compat.ready = true)
    (hs : s.compat.softReset = false) : gqGate write s = write s := by
  simp [gqGate, hm, hu, hr, hs]

/-- A global register is written past the gate. -/
theorem gqWrite_global {a : Nat} (v : Half) (hm : s.sys.mode = .compat) (hu : s.sys.coreUp = true) (hr : s.compat.ready = true)
    (hs : s.compat.softReset = false) (ha : a < 0x100) : gqWrite a v s = globalWrite (a % 0x1000 / 2 * 2) v s := by
  have global : ¬ (0x100 ≤ a % 0x1000 / 2 * 2 ∧ a % 0x1000 / 2 * 2 < 0x300) := by omega
  unfold gqWrite
  dsimp only
  rw [gqGate_open _ hm hu hr hs, if_neg global]

/-- The alarm enables are one global register, and nothing else of the device. -/
theorem gqWrite_alarmEn (v : Half) (hm : s.sys.mode = .compat) (hu : s.sys.coreUp = true) (hr : s.compat.ready = true)
    (hs : s.compat.softReset = false) : gqWrite 0x00A v s = { s with compat := { s.compat with alarmEn := v.setWidth 4 } } := by
  rw [gqWrite_global v hm hu hr hs (by decide)]
  rfl

end

/-! ## Accesses outside COMPAT mode -/

theorem accesses_rest (hd : Half) (ws : List Half) (k : Nat) (wr : Bool) (off : BitVec 12) (v : Word) (be : BitVec 4) {s : State}
    (h : s.sys.mode ≠ .compat) :
    Rests (.legacySpiFrame hd ws k) s ∧ Rests (.compatWindowAccess wr off v be) s ∧ Rests (.gqHiRead off) s ∧ Rests .gqRunSet s :=
  ⟨congrArg Host.Outcome.next (if_pos (.inl h)), congrArg Host.Outcome.next (if_pos (.inl h)),
    congrArg Host.Outcome.next (if_neg (fun hc => h hc.1)), congrArg Host.Outcome.next (gqGate_outside _ h)⟩

section
variable {s : State} (hm : s.sys.mode = .compat) (hu : s.sys.coreUp = true)
include hm hu

theorem compat_reached : ¬ (s.sys.mode ≠ .compat ∨ s.sys.coreUp = false) := by
  rw [hm, hu]
  decide

/-! ## Frames of the serial port (R651, R653) -/

theorem runs_spiFrame_reserved {hd : Half} (ws : List Half) (k : Nat) (h : hd.toNat / 0x1000 % 8 ≠ 0) : Runs (.legacySpiFrame hd ws k) s (fun t =>
    t.compat.spiOut = [gqStatus s] ∧ t.compat.error = 1 ∧ t.compat.errorValid = true ∧ t = { s with compat := t.compat }) :=
  runs_of_exec (congrArg Host.Outcome.next ((if_neg (compat_reached hm hu)).trans (if_pos h))) ⟨rfl, rfl, rfl, rfl⟩

theorem runs_spiFrame_read {hd : Half} (ws : List Half) {k : Nat} (h : hd.toNat / 0x1000 % 8 = 0) (hr : hd.getLsbD 15 = true) (hk : 16 ≤ k) :
    Runs (.legacySpiFrame hd ws k) s (fun t => t.compat.spiOut = gqStatus s :: (readBurst (hd.toNat % 0x1000) ws.length s).1 ∧
      t.compat.spiOut.length = ws.length + 1 ∧ t = { s with compat := t.compat }) := by
  have whole : (if k < 16 then ws.dropLast else ws) = ws := if_neg (by omega)
  obtain ⟨c, hc⟩ := readBurst_compat ws.length (hd.toNat % 0x1000) s
  refine runs_of_exec (t := modCompat (fun c => { c with spiOut := gqStatus s :: (readBurst (hd.toNat % 0x1000) ws.length s).1 })
    (readBurst (hd.toNat % 0x1000) ws.length s).2) ?_ ⟨rfl, congrArg Nat.succ (length_readBurst _ _ _), ?_⟩
  · refine congrArg Host.Outcome.next ((if_neg (compat_reached hm hu)).trans ((if_neg (not_not_intro h)).trans ((if_pos hr).trans ?_)))
    rw [whole]
  · rw [hc]
    rfl

theorem runs_spiFrame_write (hr : s.compat.ready = true) (hs : s.compat.softReset = false) (x : Half) :
    Runs (.legacySpiFrame 0x00A [x] 16) s (fun t =>
      t.compat.alarmEn = x.setWidth 4 ∧ t.compat.spiOut = [gqStatus s, 0] ∧ t = { s with compat := t.compat }) := by
  have written := gqWrite_alarmEn x hm hu hr hs
  have frame : exec (.legacySpiFrame 0x00A [x] 16) s = .next (modCompat (fun c => { c with spiOut := [gqStatus s, 0] }) (gqWrite 0x00A x s)) :=
    congrArg Host.Outcome.next (if_neg (compat_reached hm hu))
  refine runs_of_exec frame ?_
  rw [written]
  exact ⟨rfl, rfl, rfl⟩

/-! ## Accesses of the window (R656) -/

theorem runs_window_write (v : Word) (hr : s.compat.ready = true) (hs : s.compat.softReset = false) : Runs (.compatWindowAccess true 0x008 v 12) s
    (fun t => t = { s with compat := { s.compat with alarmEn := (BitVec.ofNat 16 (v.toNat / 65536)).setWidth 4 } }) := by
  have access : exec (.compatWindowAccess true 0x008 v 12) s = .next (gqWrite 0x00A (BitVec.ofNat 16 (v.toNat / 65536)) s) :=
    congrArg Host.Outcome.next (if_neg (compat_reached hm hu))
  exact runs_of_exec access (gqWrite_alarmEn _ hm hu hr hs)

theorem runs_window_read (off : BitVec 12) (v : Word) : Runs (.compatWindowAccess false off v 15) s (fun t =>
    t.compat.windowOut = BitVec.ofNat 32 ((gqRead (off.toNat / 4 * 4) s).1.toNat +
      65536 * (gqRead (off.toNat / 4 * 4 + 2) (gqRead (off.toNat / 4 * 4) s).2).1.toNat)) :=
  runs_of_exec (congrArg Host.Outcome.next (if_neg (compat_reached hm hu))) rfl

theorem runs_hiRead {off : BitVec 12} (hr : s.compat.ready = true) (he : off.toNat % 2 = 0) (hi : isHi off.toNat = true)
    (hw : off.toNat + 2 < 0x1000) (hl : s.compat.latched.find? (fun e => e.1 == off.toNat) = none) : Runs (.gqHiRead off) s (fun t =>
      (gqRead (off.toNat + 2) t).1 = gqRegister (off.toNat + 2) s ∧ t = { s with compat := { s.compat with latched := t.compat.latched } }) := by
  have latch := gqRead_latch (gqAddr_even off.isLt he) hl hi hr
  refine runs_of_exec (congrArg Host.Outcome.next (if_pos ⟨hm, hu⟩)) ?_
  rw [latch]
  exact ⟨gqRead_latched (e := (off.toNat + 2, gqRegister (off.toNat + 2) s)) (gqAddr_even hw (by omega)) (find_appended _ _ _), rfl⟩

/-! ## Writes that are not taken (R651) -/

theorem runs_gainWrite_notReady (n : Fin 16) (hr : s.compat.ready = false) : Runs (.chGainWrite n .dl 0) s (fun t =>
    t = { s with compat := { s.compat with error := 2, errorValid := true } }) :=
  runs_of_exec (congrArg Host.Outcome.next (gqGate_notReady _ hm hu hr)) rfl

theorem runs_gainWrite_softReset (n : Fin 16) (hr : s.compat.ready = true) (hs : s.compat.softReset = true) : Runs (.chGainWrite n .dl 0) s (fun t =>
    t = { s with compat := { s.compat with error := 0x0A, errorValid := true } }) :=
  runs_of_exec (congrArg Host.Outcome.next (gqGate_softReset _ hm hu hr hs)) rfl

end

/-! ## The test access port (R704) -/

section
variable {i : TapInstr} {s : State}

theorem runs_tapInstruction_locked (hl : scanLocked s = true) (hd : drivesPins i = true) : Runs (.tapInstruction i) s (fun t =>
    t.dbg.inForce = .bypass ∧ t.dbg.refused = BitVec.ofNat 16 (satAdd 16 s.dbg.refused.toNat 1) ∧ t = { s with dbg := t.dbg }) :=
  runs_of_exec (congrArg Host.Outcome.next (if_pos (by rw [hl, hd]; rfl))) ⟨rfl, rfl, rfl⟩

theorem runs_tapInstruction (h : scanLocked s = false ∨ drivesPins i = false) : Runs (.tapInstruction i) s (fun t =>
    t.dbg.inForce = i ∧ t.dbg.refused = s.dbg.refused ∧ t = { s with dbg := t.dbg }) := by
  have taken : ¬ (scanLocked s && drivesPins i) = true := by
    rw [Bool.and_eq_true]
    rintro ⟨hl, hd⟩
    simp [hl, hd] at h
  exact runs_of_exec (congrArg Host.Outcome.next (if_neg taken)) ⟨rfl, rfl, rfl⟩

end

/-- Settles O58: each access is its effect in COMPAT mode, and rests outside it; the port's lock stops what drives the pins. -/
theorem compatAccess : Obligations.CompatAccess := by
  unfold Obligations.CompatAccess
  exact fun hd ws k wr off v be n i s => ⟨accesses_rest hd ws k wr off v be, fun hm hu => runs_spiFrame_reserved hm hu ws k,
    fun hm hu => runs_spiFrame_read hm hu ws, runs_spiFrame_write, fun hm hu => runs_window_write hm hu v, fun hm hu => runs_window_read hm hu off v,
    fun hm hu hr he hi hw => runs_hiRead hm hu hr he hi hw, fun hm hu => runs_gainWrite_notReady hm hu n,
      fun hm hu => runs_gainWrite_softReset hm hu n, runs_tapInstruction_locked,
    runs_tapInstruction⟩

end Sys2Proof.Proofs
end

/-! # A twin pair's heartbeats, ownership and hand-over -/
section
namespace Sys2Proof.Proofs
open Sys2Proof Sys2Proof.Machine Sys2Proof.Safety Sys2Proof.Laws

/-! ## What each part of an event changes -/

theorem sendFrame_fabric (l : Nat) (f : ObxFrame) (s : State) : ∃ x, (sendFrame l f s).getD s = { s with fabric := x } := by
  unfold sendFrame
  split
  · exact ⟨_, rfl⟩
  · exact ⟨s.fabric, rfl⟩

/-- A message to the twin is the fabric's. -/
theorem sendTwin_fabric (m : ControlMsg) (s : State) : ∃ x, sendTwin m s = { s with fabric := x } := sendFrame_fabric _ _ _

theorem postEvent_host (code severity src : Nat) (bytes : List Byte) (s : State) : ∃ x, postEvent code severity src bytes s = { s with hif := x } :=
  ⟨_, postEvent_hif _ _ _ _ _⟩

/-- A state set on the pair keeps all of it but the state and its bookkeeping. -/
theorem setTwinState_pair (v : TwinState) (cause : Nat) (s : State) : ∃ x n a k,
    setTwinState v cause s = { s with hif := x, twin := { s.twin with state := v, detachedAt := n, agreed := a, compared := k } } := by
  unfold setTwinState
  dsimp only
  split
  · next h => exact ⟨s.hif, s.twin.detachedAt, s.twin.agreed, s.twin.compared, by rw [← h]⟩
  · obtain ⟨x, hx⟩ := postEvent_host 0x0C03 (if s.twin.state = .lockstep then 2 else 0) (if cause < 512 then cause else 0xFFFF)
      (payload 16 [(0, 1, s.twin.state.code), (1, 1, v.code), (2, 2, cause)])
      (modTwin (fun t => { t with state := v, detachedAt := if v = .detached then s.slowTicks else t.detachedAt,
                                  agreed := if v = .syncing then [] else t.agreed, compared := if v = .syncing then 0 else t.compared }) s)
    exact ⟨x, _, _, _, hx⟩

/-- The pair after its owner has changed (R630, R641). -/
def ownerChanged (mine : Bool) (n : Nat) (t : Twin) : Twin :=
  { t with owner := mine, ownerOut := mine, txSel := mine && t.aliveOut, handovers := t.handovers + 1, lastSwitch := BitVec.ofNat 32 n }

theorem changeOwner_pair (mine : Bool) (cause n : Nat) (s : State) :
    ∃ x y, changeOwner mine cause n s = { s with hif := x, gb := y, twin := ownerChanged mine n s.twin } := by
  unfold changeOwner
  dsimp only
  generalize payload 16 _ = body
  generalize eventAt _ _ _ _ _ = e
  exact logRecord_records _ _ _ _ _ _ _

theorem answerLink_host (want : Desc → Bool) (o : Option (Fin 22)) (results : List Int) (s : State) :
    ∃ x, answerLink want o results s = { s with hif := x } := by
  cases o
  · exact ⟨s.hif, rfl⟩
  · exact ⟨_, rfl⟩

/-! ## Heartbeats (R630) -/

section
variable {s : State}

theorem runs_heartbeatSend (ht : twinStrapped s = true) (hu : s.sys.coreUp = true) (hl : (link 4 s).carries = true) : Runs .heartbeatSend s (fun t =>
    t.now = max s.now (s.twin.sentAt + usCounts s.twin.par.hbPeriodUs) ∧ t.twin.sentAt = t.now ∧ t.twin.state = s.twin.state) := by
  refine runs_of_exec (congrArg Host.Outcome.next (if_pos (by simp [ht, hu, hl]))) ?_
  obtain ⟨x, hx⟩ := sendTwin_fabric .heartbeat (modTwin (fun t => { t with sentAt := max s.now (s.twin.sentAt + usCounts s.twin.par.hbPeriodUs) })
    (advanceTo (s.twin.sentAt + usCounts s.twin.par.hbPeriodUs) s))
  refine Eq.mp (congrArg (fun t : State => t.now = max s.now (s.twin.sentAt + usCounts s.twin.par.hbPeriodUs) ∧ t.twin.sentAt = t.now ∧
    t.twin.state = s.twin.state) hx.symm) ⟨rfl, rfl, rfl⟩

theorem heartbeatSend_rests (h : twinStrapped s = false) : Rests .heartbeatSend s := congrArg Host.Outcome.next (if_neg (by simp [h]))

/-- A pair that is not alone is detached by what fails. -/
theorem detachTwin_pair (cause : Nat) (h : s.twin.state ≠ .solo) : ∃ x w,
    detachTwin cause s = { s with hif := x, twin := w } ∧ w.state = .detached ∧ w.heardAt = s.twin.heardAt ∧ w.owner = s.twin.owner := by
  unfold detachTwin
  split
  · unfold failSync
    obtain ⟨x, n, a, k, hs⟩ := setTwinState_pair .detached cause (modTwin (fun t => { t with syncRing := none }) s)
    dsimp only
    rw [hs]
    obtain ⟨y, hy⟩ := answerLink_host (waitOf [0x0C11] 0 0 0) s.twin.syncRing [((0 : Nat) : Int)] { modTwin (fun t => { t with syncRing := none })
      s with
      hif := x, twin := { (modTwin (fun t => { t with syncRing := none }) s).twin with state := .detached, detachedAt := n, agreed := a, compared :=
        k } }
    exact ⟨y, _, hy, rfl, rfl, rfl⟩
  · next hn =>
    refine ⟨s.hif, s.twin, rfl, ?_, rfl, rfl⟩
    cases hs : s.twin.state <;> simp_all

theorem runs_heartbeatTimeout (ht : twinStrapped s = true) (hu : s.sys.coreUp = true) (hs : s.twin.state ≠ .solo) : Runs .heartbeatTimeout s (fun t =>
    Raised 361 (linkObject 4) t ∧ t.twin.heardAt = t.now ∧ s.now ≤ t.now ∧ t.twin.state = .detached ∧ t.twin.owner = s.twin.owner) := by
  refine runs_of_exec (congrArg Host.Outcome.next (if_pos (by simp [ht, hu, hs]))) ?_
  dsimp only
  generalize tickStart _ = n
  have raised := raised_raise 361 (linkObject 4) 0 (modTwin (fun t => { t with heardAt := (advanceTo n s).now }) (advanceTo n s))
  obtain ⟨x, w, hd, hw, hh, ho⟩ := detachTwin_pair (s := raise 361 (linkObject 4) 0 (modTwin (fun t => { t with heardAt := (advanceTo n s).now })
    (advanceTo n s))) 361 hs
  rw [hd]
  exact ⟨raised, hh, le_max_left _ _, hw, ho⟩

theorem heartbeatTimeout_rests (h : s.twin.state = .solo) : Rests .heartbeatTimeout s := congrArg Host.Outcome.next (if_neg (by simp [h]))

/-! ## Two owners (R631) -/

theorem runs_ownerArbitration_odd (ht : twinStrapped s = true) (hu : s.sys.coreUp = true) (ho : s.twin.ownerOut = true)
    (ha : deviceAddress s % 2 = 1) : Runs .ownerArbitration s (fun t =>
      t.twin.owner = false ∧ t.twin.ownerOut = false ∧ t.twin.txSel = false ∧ t.twin.ownerIn = true) := by
  have gives : ((modTwin (fun t => { t with ownerIn := true }) s).twin.ownerOut &&
      deviceAddress (modTwin (fun t => { t with ownerIn := true }) s) % 2 == 1) = true := by
    show (s.twin.ownerOut && deviceAddress s % 2 == 1) = true
    rw [ho, ha]
    rfl
  refine runs_of_exec (congrArg Host.Outcome.next ((if_pos (by simp [ht, hu])).trans (if_pos gives))) ?_
  generalize basisNow _ = n
  obtain ⟨x, y, hc⟩ := changeOwner_pair false 3 n (modTwin (fun t => { t with ownerIn := true }) s)
  rw [hc]
  generalize looseState _ = v
  obtain ⟨z, m, a, k, hs⟩ := setTwinState_pair v 0xFFFF (dropMirrors { modTwin (fun t => { t with ownerIn := true }) s with
    hif := x, gb := y, twin := ownerChanged false n (modTwin (fun t => { t with ownerIn := true }) s).twin })
  rw [hs]
  exact ⟨rfl, rfl, rfl, rfl⟩

theorem runs_ownerArbitration_even (ht : twinStrapped s = true) (hu : s.sys.coreUp = true) (ha : deviceAddress s % 2 = 0) :
    Runs .ownerArbitration s (fun t => t = { s with twin := { s.twin with ownerIn := true } }) := by
  have keeps : ¬ ((modTwin (fun t => { t with ownerIn := true }) s).twin.ownerOut &&
      deviceAddress (modTwin (fun t => { t with ownerIn := true }) s) % 2 == 1) = true := by
    show ¬ (s.twin.ownerOut && deviceAddress s % 2 == 1) = true
    rw [ha]
    simp
  exact runs_of_exec (congrArg Host.Outcome.next ((if_pos (by simp [ht, hu])).trans (if_neg keeps))) rfl

theorem ownerArbitration_rests (h : twinStrapped s = false) : Rests .ownerArbitration s := congrArg Host.Outcome.next (if_neg (by simp [h]))

/-! ## An owner that is lost (R632, R633) -/

/-- The lines of a lost owner, as the standby sees them. -/
def linesLost (b : Bool) (s : State) : State :=
  modTwin (fun t => if b then { t with aliveIn := false } else { t with ownerIn := false, ownerLowAt := s.slowTicks }) s

theorem linesLost_pair (b : Bool) (s : State) : ∃ w, linesLost b s = { s with twin := w } ∧ w.state = s.twin.state ∧ w.hand = s.twin.hand ∧
    w.handovers = s.twin.handovers ∧ w.owner = s.twin.owner ∧ w.par = s.twin.par := by
  cases b <;> exact ⟨_, rfl, rfl, rfl, rfl, rfl, rfl⟩

theorem exec_ownerLost {b : Bool} (hi : inStandby s = true) (hu : s.sys.coreUp = true) (hh : s.twin.hand = none) :
    exec (.ownerLost b) s = .next (if (linesLost b s).twin.state = .lockstep then
      setTwinState (looseState (linesLost b s)) 0xFFFF (takeOver4 (linesLost b s))
      else if (linesLost b s).twin.par.takeoverDetached then
        setTwinState (looseState (linesLost b s)) 0xFFFF (startMuted (takeOver4 (linesLost b s)))
      else linesLost b s) := by
  obtain ⟨w, hl, -, hhand, -⟩ := linesLost_pair b s
  have standing : ¬ (!(inStandby s && s.sys.coreUp)) = true := by rw [hi, hu]; decide
  have alone : ¬ ((linesLost b s).twin.hand.isSome && !b) = true := by
    rw [hl]
    show ¬ (w.hand.isSome && !b) = true
    rw [hhand, hh]
    exact nofun
  exact congrArg Host.Outcome.next ((if_neg standing).trans (if_neg alone))

/-- A standby that takes over owns service (R633). -/
theorem twin_takeOver4 (s : State) : ∃ n, (takeOver4 s).twin =
    { ownerChanged true n s.twin with own := [], peerRecs := [], outbox := [], fullIn := [], fulls := [] } := by
  unfold takeOver4
  dsimp only
  generalize ceilDiv (basisNow s) 4 * 4 = n
  obtain ⟨x, y, hc⟩ := changeOwner_pair true 2 n (advanceTo (fromBasis n s) s)
  rw [hc]
  exact ⟨n, rfl⟩

theorem runs_ownerLost_lockstep {b : Bool} (hi : inStandby s = true) (hu : s.sys.coreUp = true) (hh : s.twin.hand = none)
    (hs : s.twin.state = .lockstep) : Runs (.ownerLost b) s (fun t =>
      t.twin.owner = true ∧ t.twin.ownerOut = true ∧ t.twin.handovers = s.twin.handovers + 1) := by
  obtain ⟨w, hl, hst, -, hn, -⟩ := linesLost_pair b s
  have lock : (linesLost b s).twin.state = .lockstep := by
    rw [hl]
    exact hst.trans hs
  have count : (linesLost b s).twin.handovers = s.twin.handovers := by
    rw [hl]
    exact hn
  refine runs_of_exec (exec_ownerLost hi hu hh) ?_
  rw [if_pos lock]
  obtain ⟨n, hn⟩ := twin_takeOver4 (linesLost b s)
  generalize takeOver4 (linesLost b s) = t at hn
  obtain ⟨z, m, a, k, hv⟩ := setTwinState_pair (looseState (linesLost b s)) 0xFFFF t
  rw [hv, hn]
  exact ⟨rfl, rfl, congrArg (· + 1) count⟩

theorem runs_ownerLost_loose {b : Bool} (hi : inStandby s = true) (hu : s.sys.coreUp = true) (hh : s.twin.hand = none)
    (hs : s.twin.state ≠ .lockstep) (hp : s.twin.par.takeoverDetached = false) :
    Runs (.ownerLost b) s (fun t => t.twin.owner = false ∧ t.chans = s.chans) := by
  obtain ⟨w, hl, hst, -, -, ho, hpar⟩ := linesLost_pair b s
  have stays : ¬ w.par.takeoverDetached = true := by rw [hpar, hp]; decide
  have apart : ¬ w.state = .lockstep := by rw [hst]; exact hs
  refine runs_of_exec (exec_ownerLost hi hu hh) ?_
  rw [hl, if_neg apart, if_neg stays]
  refine ⟨ho.trans ?_, rfl⟩
  simp only [inStandby, Bool.and_eq_true, Bool.not_eq_true'] at hi
  exact hi.2

theorem ownerLost_rests {b : Bool} (h : inStandby s = false) : Rests (.ownerLost b) s := congrArg Host.Outcome.next (if_pos (by simp [h]))

/-! ## Lines of the pair (R631) -/

theorem twin_phasesOff (r : Fin 10) (s : State) : (phasesOff r s).twin = s.twin :=
  List.foldlRecOn (motive := fun (t : State) => t.twin = s.twin) _ _ rfl (fun _ ht _ _ => ht)

theorem runs_aliveStop (h : s.twin.aliveOut = true) : Runs .aliveStop s (fun t =>
    t.twin.aliveOut = false ∧ t.twin.ownerOut = false ∧ t.twin.txSel = false ∧ t.twin.owner = false) := by
  have off (t : State) : ((List.finRange 10).foldl (fun s r => if portRail r s then phasesOff r s else s) t).twin = t.twin :=
    List.foldlRecOn (motive := fun (u : State) => u.twin = t.twin) _ _ rfl (fun u hu r _ => by
      split
      · rw [twin_phasesOff, hu]
      · exact hu)
  refine runs_of_exec (congrArg Host.Outcome.next (if_pos h)) ?_
  dsimp only
  rw [off]
  exact ⟨rfl, rfl, rfl, rfl⟩

theorem aliveStop_rests (h : s.twin.aliveOut = false) : Rests .aliveStop s := congrArg Host.Outcome.next (if_neg (by simp [h]))

theorem runs_claimWaitExpiry (hi : inStandby s = true) (hu : s.sys.coreUp = true) (ha : deviceAddress s % 2 = 1) (ho : s.twin.ownerIn = false)
    (hw : s.twin.ownerLowAt + s.twin.par.claimWaitMs ≤ s.slowTicks) : Runs .claimWaitExpiry s (fun t =>
      t.twin.owner = true ∧ t.twin.ownerOut = true ∧ t.twin.txSel = s.twin.aliveOut ∧ t = { s with twin := t.twin }) :=
  runs_of_exec (congrArg Host.Outcome.next (if_pos (by simp [hi, hu, ha, ho, hw]))) ⟨rfl, rfl, rfl, rfl⟩

theorem claimWaitExpiry_rests (h : s.twin.ownerIn = true) : Rests .claimWaitExpiry s := congrArg Host.Outcome.next (if_neg (by simp [h]))

/-! ## Hand-overs (R641) -/

theorem runs_handoverSwitch {h : TwinHand} (hh : s.twin.hand = some h) (ha : h.acked = true) (hu : s.sys.coreUp = true) :
    Runs .handoverSwitch s (fun t =>
    t.twin.hand = none ∧ t.twin.owner = !s.twin.owner ∧ t.twin.ownerIn = s.twin.owner ∧ t.twin.lastSwitch = h.x ∧
    t.twin.state = afterHand h.cause) := by
  have run : exec .handoverSwitch s = .next (answerLink (waitOf [0x0C12] 0 0 0) h.ring [1, h.x.toNat] (setTwinState (afterHand h.cause) 0xFFFF
      (dropMirrors (changeOwner (!s.twin.owner) h.cause h.x.toNat (modTwin (fun t => { t with
        hand := none, ownerIn := !!s.twin.owner, ownerLowAt := if !s.twin.owner then s.slowTicks else t.ownerLowAt }) (reachBasis h.x 0 s)))))) := by
    show execHandoverSwitch s = _
    unfold execHandoverSwitch
    rw [hh]
    refine congrArg Host.Outcome.next (if_neg ?_)
    rw [ha, hu]
    decide
  refine runs_of_exec run ?_
  generalize hw : modTwin (fun t => { t with hand := none, ownerIn := !!s.twin.owner, ownerLowAt := if !s.twin.owner then s.slowTicks else
    t.ownerLowAt })
    (reachBasis h.x 0 s) = w
  obtain ⟨x, y, hc⟩ := changeOwner_pair (!s.twin.owner) h.cause h.x.toNat w
  rw [hc]
  obtain ⟨z, m, a, k, hv⟩ := setTwinState_pair (afterHand h.cause) 0xFFFF (dropMirrors { w with
    hif := x, gb := y, twin := ownerChanged (!s.twin.owner) h.x.toNat w.twin })
  rw [hv]
  obtain ⟨z', hz⟩ := answerLink_host (waitOf [0x0C12] 0 0 0) h.ring [1, h.x.toNat] { dropMirrors { w with
    hif := x, gb := y, twin := ownerChanged (!s.twin.owner) h.x.toNat w.twin } with
    hif := z, twin := { (dropMirrors { w with hif := x, gb := y, twin := ownerChanged (!s.twin.owner) h.x.toNat w.twin }).twin with
      state := afterHand h.cause, detachedAt := m, agreed := a, compared := k } }
  rw [hz, ← hw]
  exact ⟨rfl, rfl, Bool.not_not _, BitVec.ofNat_toNat .., rfl⟩

theorem handoverSwitch_rests_unacked {h : TwinHand} (hh : s.twin.hand = some h) (ha : h.acked = false) : Rests .handoverSwitch s := by
  show execHandoverSwitch s = _
  unfold execHandoverSwitch
  rw [hh]
  exact congrArg Host.Outcome.next (if_pos (by rw [ha]; rfl))

theorem handoverSwitch_rests_none (hh : s.twin.hand = none) : Rests .handoverSwitch s := by
  show execHandoverSwitch s = _
  unfold execHandoverSwitch
  rw [hh]

theorem runs_handoverAckDeadline {h : TwinHand} (hh : s.twin.hand = some h) (ha : h.acked = false) (ho : s.twin.owner = true)
    (hu : s.sys.coreUp = true) : Runs .handoverAckDeadline s (fun t =>
      t.twin.hand = none ∧ t.twin.owner = true ∧ t.twin.state = s.twin.state) := by
  have run : exec .handoverAckDeadline s = .next (answerLink (waitOf [0x0C12] 0 0 0) h.ring [0]
      (modTwin (fun t => { t with hand := none }) (reachBasis h.x 16 s))) := by
    show execHandoverAckDeadline s = _
    unfold execHandoverAckDeadline
    rw [hh]
    refine congrArg Host.Outcome.next (if_neg ?_)
    rw [ha, ho, hu]
    decide
  refine runs_of_exec run ?_
  obtain ⟨z, hz⟩ := answerLink_host (waitOf [0x0C12] 0 0 0) h.ring [0] (modTwin (fun t => { t with hand := none }) (reachBasis h.x 16 s))
  rw [hz]
  exact ⟨rfl, ho, rfl⟩

theorem handoverAckDeadline_rests_acked {h : TwinHand} (hh : s.twin.hand = some h) (ha : h.acked = true) : Rests .handoverAckDeadline s := by
  show execHandoverAckDeadline s = _
  unfold execHandoverAckDeadline
  rw [hh]
  exact congrArg Host.Outcome.next (if_pos (by rw [ha]; rfl))

theorem handoverAckDeadline_rests_none (hh : s.twin.hand = none) : Rests .handoverAckDeadline s := by
  show execHandoverAckDeadline s = _
  unfold execHandoverAckDeadline
  rw [hh]

end

/-! ## Resynchronization (R640) -/

/-- The pair without the messages that wait for its link. -/
def pairing (s : State) : Twin := { s.twin with toSend := [] }

theorem pairing_foldl {α : Type} (f : State → α → State) (l : List α) (s : State) (h : ∀ s a, pairing (f s a) = pairing s) :
    pairing (l.foldl f s) = pairing s :=
  List.foldlRecOn (motive := fun t => pairing t = pairing s) l f rfl (fun t ht a _ => (h t a).trans ht)

theorem pairing_flushTwin (msgs : List ControlMsg) (s : State) : pairing (flushTwin msgs s) = pairing s := by
  induction msgs generalizing s with
  | nil => rfl
  | cons m rest ih =>
    unfold flushTwin
    split
    · next t h =>
      obtain ⟨x, hx⟩ := sendFrame_fabric 4 { blankFrame .control 2 (deviceAddress s) (twinAddress s) with msg := m } s
      rw [h] at hx
      rw [ih, show t = _ from hx]
      rfl
    · rfl

theorem pairing_queueTwin (m : ControlMsg) (s : State) : pairing (queueTwin m s) = pairing s := pairing_flushTwin _ _

theorem pairing_startSync (o : Option (Fin 22)) (s : State) : pairing (startSync o s) =
    pairing (setTwinState .syncing 0xFFFF (modTwin (fun t => { t with syncRing := o, own := [], peerRecs := [], outbox := [] }) s)) := by
  unfold startSync
  dsimp only
  rw [pairing_queueTwin, pairing_foldl _ _ _ (fun t l => ?loops), pairing_foldl _ _ _ (fun _ _ => pairing_queueTwin _ _),
    pairing_foldl _ _ _ (fun _ _ => pairing_queueTwin _ _), pairing_queueTwin]
  case loops =>
    split
    · exact pairing_queueTwin _ _
    · rw [pairing_queueTwin, pairing_queueTwin]

theorem runs_autoResync {s : State} (hu : s.sys.coreUp = true) (ho : s.twin.owner = true) (hs : s.twin.state = .detached)
    (hp : s.twin.par.autoResync = true) (hl : (link 4 s).carries = true) (hd : s.twin.detachedAt + s.twin.par.holdoffMs ≤ s.slowTicks)
    (hf : ∀ n ∈ [360, 361, 362], (faultSrc n s).state = .clear) : Runs .autoResync s (fun t =>
      t.twin.state = .syncing ∧ t.twin.syncRing = none ∧ t.twin.owner = true) := by
  have clear : [360, 361, 362].all (fun n => (faultSrc n s).state == .clear) = true := List.all_eq_true.mpr (fun n hn => beq_iff_eq.mpr (hf n hn))
  refine runs_of_exec (congrArg Host.Outcome.next (if_pos (by simp only [hu, ho, hs, hp, hl, hd, clear, decide_true, beq_self_eq_true,
    Bool.and_self]))) ?_
  obtain ⟨z, m, a, k, hv⟩ := setTwinState_pair .syncing 0xFFFF (modTwin (fun t => { t with syncRing := none, own := [], peerRecs := [], outbox :=
    [] }) s)
  have pair := pairing_startSync none s
  rw [hv] at pair
  generalize startSync none s = t at pair ⊢
  have hstate := congrArg Twin.state pair
  have hring := congrArg Twin.syncRing pair
  have howner := congrArg Twin.owner pair
  exact ⟨hstate, hring, howner.trans ho⟩

theorem autoResync_rests {s : State} (h : s.twin.state ≠ .detached) : Rests .autoResync s := congrArg Host.Outcome.next (if_neg (by simp [h]))

/-- Settles O57: each event is its effect where its condition holds, and rests without it. -/
theorem twinEvents : Obligations.TwinEvents := by
  unfold Obligations.TwinEvents
  exact fun _ _ _ => ⟨runs_heartbeatSend, heartbeatSend_rests, runs_heartbeatTimeout, heartbeatTimeout_rests, runs_ownerArbitration_odd,
    runs_ownerArbitration_even, ownerArbitration_rests, runs_ownerLost_lockstep, runs_ownerLost_loose, ownerLost_rests, runs_aliveStop,
    aliveStop_rests, runs_claimWaitExpiry, claimWaitExpiry_rests, runs_handoverSwitch, handoverSwitch_rests_unacked, handoverSwitch_rests_none,
    runs_handoverAckDeadline, handoverAckDeadline_rests_acked, handoverAckDeadline_rests_none, runs_autoResync, autoResync_rests⟩

end Sys2Proof.Proofs
end

/-! # Composite over-power of a port, and the end of a reduction -/
section
namespace Sys2Proof.Proofs
open Sys2Proof Sys2Proof.Machine Sys2Proof.Safety Sys2Proof.Laws

/-! ## Why each port is stopped, through an orderly stop -/

/-- Why each port is stopped, and its run of composite tests over the limit. -/
def halts (s : State) : Vector (BitVec 20 × Nat) 8 := s.ports.map (fun x => (x.stops, x.pCompPeakOver))

theorem halts_of_ports {s t : State} (h : t.ports = s.ports) : halts t = halts s := congrArg (Vector.map _) h

theorem halts_of_standing {s t : State} (h : standing t = standing s) : halts t = halts s := halts_of_ports (ports_of_standing h)

theorem halts_ite (p : Prop) [Decidable p] (s t : State) : halts (if p then s else t) = if p then halts s else halts t := apply_ite halts p s t

/-- Why one port is stopped, in the reading. -/
theorem halts_port (p : Fin 8) (s : State) : ((port p s).stops, (port p s).pCompPeakOver) = (halts s)[p] :=
  (Vector.getElem_map (fun x : PortState => (x.stops, x.pCompPeakOver)) p.isLt).symm

theorem halts_stopForDevice (code : Nat) (s : State) (p : Fin 8) : halts (stopForDevice code s p) = halts s :=
  (halts_of_standing (standing_stopForDevice code s p)).trans (map_set_same s.ports _ p.val p.isLt _ rfl)

theorem halts_beginStop (code : Nat) (s : State) : halts (beginStop code s) = halts s := by
  show halts (stopPortRails (flushProt (refreshPortStops ((List.finRange 8).foldl (stopForDevice code) s)))) = _
  rw [halts_of_standing (standing_stopPortRails _), halts_of_standing (standing_flushProt _), halts_of_standing (standing_refreshPortStops _)]
  exact List.foldlRecOn (motive := fun t => halts t = halts s) _ _ rfl (fun t ht p _ => (halts_stopForDevice code t p).trans ht)

theorem halts_enterStopped (s : State) : halts (enterStopped s) = halts s :=
  (halts_of_standing (standing_refreeze _ _)).trans rfl

theorem halts_stopRecord (old : PowerState) (reason writer : Nat) (s : State) :
    halts (writeCheckpoint (powerRecord old .stopped reason writer s)) = halts s := halts_of_standing (standing_powerRecord _ _ _ _ _)

theorem halts_protRecord (code obj ch dir prt step reason : Nat) (i : ProtInfo) (s : State) :
    halts (protRecord code obj ch dir prt step reason i s) = halts s := halts_of_standing (standing_protRecord _ _ _ _ _ _ _ _ _)

/-- An orderly stop adds no reason of a port's own. -/
theorem halts_orderlyStop (reason : Nat) (src : Option (Fin 512)) (writer : Nat) (s : State) : halts (orderlyStop reason src writer s) = halts s := by
  simp only [orderlyStop, halts_ite, halts_enterStopped, halts_stopRecord, halts_beginStop, halts_protRecord, ite_self]
  exact ite_self _

theorem halts_checkPorts (s : State) : halts (checkPorts s) = halts s := by
  rw [checkPorts, halts_ite, halts_orderlyStop, ite_self]

theorem ports_legacyStop (p : Fin 8) (reason : Nat) (s : State) : (legacyStop p reason s).ports = s.ports := by
  have marked (l : List (Fin 64)) (d : Dir) (t : State) :
      (l.foldl (fun s c => modGq c d (fun g => { g with overPower := true }) s) t).ports = t.ports :=
    List.foldlRecOn (motive := fun (u : State) => u.ports = t.ports) _ _ rfl (fun _ hu _ _ => hu)
  unfold legacyStop
  split
  · rfl
  · dsimp only
    split
    · exact marked _ _ _
    · rfl

/-- A stop of a port leaves what stops the other ports, and stops that port for its reason. -/
theorem stopPort_halts (p : Fin 8) (reason : Nat) (i : ProtInfo) (s : State) (hr : reason - 1 < 20) :
    hasReason (port p (stopPort p reason i s)).stops reason = true ∧ (port p (stopPort p reason i s)).pCompPeakOver = (port p s).pCompPeakOver ∧
    ∀ k, k ≠ p → (port k (stopPort p reason i s)).stops = (port k s).stops := by
  unfold stopPort
  split
  · next h => exact ⟨h, rfl, fun _ _ => rfl⟩
  · dsimp only
    generalize hm : modPort p _ s = m
    have read : halts (checkPorts (refreshPortStops (portRecord 0x0005 p 3 reason i (legacyStop p reason m)))) = halts m := by
      rw [halts_checkPorts, halts_of_standing (standing_refreshPortStops _), halts_of_standing (standing_portRecord _ _ _ _ _ _),
        halts_of_ports (ports_legacyStop _ _ _)]
    generalize checkPorts (refreshPortStops (portRecord 0x0005 p 3 reason i (legacyStop p reason m))) = t at read
    have one (k : Fin 8) : ((port k t).stops, (port k t).pCompPeakOver) = ((port k m).stops, (port k m).pCompPeakOver) := by
      rw [halts_port, halts_port, read]
    have stops (k : Fin 8) : (port k t).stops = (port k m).stops := congrArg Prod.fst (one k)
    have peaks : (port p t).pCompPeakOver = (port p m).pCompPeakOver := congrArg Prod.snd (one p)
    refine ⟨?_, ?_, fun k hk => ?_⟩
    · rw [stops, ← hm, port_modPort_same]
      exact hasReason_putReason_same hr _
    · rw [peaks, ← hm, port_modPort_same]
    · rw [stops, ← hm, port_modPort_ne _ _ hk]

section
variable {p : Fin 8} {s : State}

theorem runs_compositeOver {k : Fin 8} (h : 80 ≤ (port p s).pCompPeakOver) : Runs (.compositeOver p) s (fun t =>
    hasReason (port p t).stops reasonCompositeOver = true ∧ (port p t).pCompPeakOver = 0 ∧ (k ≠ p → (port k t).stops = (port k s).stops)) := by
  refine runs_of_exec (congrArg Host.Outcome.next (if_pos (decide_eq_true h))) ?_
  obtain ⟨hs, hp, ho⟩ := stopPort_halts p reasonCompositeOver
    { measured := (port p s).pComp, limit := satInt 16 (compEff p s), resulting := lsbToDb (port p s).aComp }
    (modPort p (fun v => { v with pCompPeakOver := 0 }) s) (by decide)
  refine ⟨hs, ?_, fun hk => ?_⟩
  · rw [hp, port_modPort_same]
  · rw [ho k hk, port_modPort_ne _ _ hk]

theorem compositeOver_rests (h : (port p s).pCompPeakOver < 80) : Rests (.compositeOver p) s :=
  congrArg Host.Outcome.next (if_neg (by simpa using h))

/-! ## Retries (R306) -/

/-- A reason taken away is one port's. -/
theorem releasePort_port (p : Fin 8) (reason : Nat) (i : ProtInfo) (s : State) :
    hasReason (port p (releasePort p reason i s)).stops reason = false ∧
    (∀ r, hasReason (port p s).stops r = false → hasReason (port p (releasePort p reason i s)).stops r = false) ∧
    ((port p s).retryAt = none → (port p (releasePort p reason i s)).retryAt = none) ∧
    ∀ k, k ≠ p → port k (releasePort p reason i s) = port k s := by
  unfold releasePort
  split
  · next h => exact ⟨by simpa using h, fun _ hr => hr, fun hr => hr, fun _ _ => rfl⟩
  · dsimp only
    generalize hm : modPort p _ s = m
    have ports : (refreshPortStops (portRecord 0x0006 p 3 reason i m)).ports = m.ports :=
      ports_of_standing ((standing_refreshPortStops _).trans (standing_portRecord _ _ _ _ _ _))
    generalize refreshPortStops (portRecord 0x0006 p 3 reason i m) = t at ports
    have one (k : Fin 8) : port k t = port k m := congrArg (·[k]) ports
    refine ⟨?_, fun r hr => ?_, fun hr => ?_, fun k hk => ?_⟩
    · rw [one, ← hm, port_modPort_same]
      exact hasReason_cutReason_same _ _
    · rw [one, ← hm, port_modPort_same]
      exact hasReason_cutReason_of_not _ hr
    · rw [one, ← hm, port_modPort_same]
      dsimp only
      rw [hr, ite_self]
    · rw [one, ← hm, port_modPort_ne _ _ hk]

theorem runs_portRetry {k : Fin 8} (n : Nat) (h : (port p s).retryAt = some n) (hn : n ≤ s.slowTicks) : Runs (.portRetry p) s (fun t =>
    hasReason (port p t).stops reasonCompositeOver = false ∧ hasReason (port p t).stops reasonMuteCount = false ∧ (port p t).retryAt = none ∧
    (k ≠ p → port k t = port k s)) := by
  have due : (port p s).retryAt.any (fun t => decide (t ≤ s.slowTicks)) = true := by rw [h]; exact decide_eq_true hn
  refine runs_of_exec (congrArg Host.Outcome.next (if_pos due)) ?_
  obtain ⟨ho, -, hr, hk⟩ := releasePort_port p reasonCompositeOver {} (modPort p (fun v => { v with retryAt := none }) s)
  generalize releasePort p reasonCompositeOver {} (modPort p (fun v => { v with retryAt := none }) s) = m at ho hr hk ⊢
  obtain ⟨hm', ho', hr', hk'⟩ := releasePort_port p reasonMuteCount {} m
  refine ⟨ho' _ ho, hm', hr' (hr ?_), fun hne => ?_⟩
  · rw [port_modPort_same]
  · rw [hk' k hne, hk k hne, port_modPort_ne _ _ hne]

theorem portRetry_rests (h : (port p s).retryAt = none) : Rests (.portRetry p) s :=
  congrArg Host.Outcome.next (if_neg (by rw [h]; exact nofun))

end

/-! ## The end of a reduction (R267) -/

/-- A record about a direction or a port waits for the end of its instant. -/
theorem dirRecord_waits (code : Nat) (c : Fin 64) (d : Dir) (step reason : Nat) (i : ProtInfo) (s : State) :
    ∃ w, dirRecord code c d step reason i s = { s with protWait := w } := ⟨_, rfl⟩

theorem portRecord_waits (code : Nat) (p : Fin 8) (step reason : Nat) (i : ProtInfo) (s : State) :
    ∃ w, portRecord code p step reason i s = { s with protWait := w } := ⟨_, rfl⟩

section
variable {c : Fin 64} {d : Dir} {p : Fin 8} {r : Fin 20} {s : State}

theorem runs_reductionEnded_direction (h : hasReason (direction c d s).gain.reducing r.val = true)
    (hu : unboundLong (direction c d s).gain.unbindingSince r.val s.slowTicks = true) : Runs (.reductionEnded (.direction c d) r) s (fun t =>
      hasReason (direction c d t).gain.reducing r.val = false ∧ (direction c d t).gain.reasons = (direction c d s).gain.reasons ∧
      t.ports = s.ports) := by
  have due : (hasReason (direction c d s).gain.reducing r.val && unboundLong (direction c d s).gain.unbindingSince r.val s.slowTicks) = true := by
    rw [h, hu]
    rfl
  refine runs_of_exec (congrArg Host.Outcome.next (if_pos due)) ?_
  generalize hm : modGain c d _ s = m
  obtain ⟨w, ht⟩ := dirRecord_waits 0x0002 c d 1 r.val {} m
  rw [ht]
  show hasReason (direction c d m).gain.reducing r.val = false ∧ (direction c d m).gain.reasons = _ ∧ m.ports = _
  rw [← hm, direction_modGain_same]
  exact ⟨hasReason_cutReason_same _ _, rfl, rfl⟩

theorem reductionEnded_direction_rests (h : hasReason (direction c d s).gain.reducing r.val = false) :
    Rests (.reductionEnded (.direction c d) r) s :=
  congrArg Host.Outcome.next (if_neg (by rw [h]; exact nofun))

theorem runs_reductionEnded_port (h : hasReason (port p s).reducing r.val = true)
    (hu : unboundLong (port p s).unbindingSince r.val s.slowTicks = true) : Runs (.reductionEnded (.port p) r) s (fun t =>
      hasReason (port p t).reducing r.val = false ∧ (port p t).stops = (port p s).stops ∧ t.chans = s.chans) := by
  have due : (hasReason (port p s).reducing r.val && unboundLong (port p s).unbindingSince r.val s.slowTicks) = true := by
    rw [h, hu]
    rfl
  refine runs_of_exec (congrArg Host.Outcome.next (if_pos due)) ?_
  generalize hm : modPort p _ s = m
  obtain ⟨w, ht⟩ := portRecord_waits 0x0002 p 1 r.val {} m
  rw [ht]
  show hasReason (port p m).reducing r.val = false ∧ (port p m).stops = _ ∧ m.chans = _
  rw [← hm, port_modPort_same]
  exact ⟨hasReason_cutReason_same _ _, rfl, rfl⟩

theorem reductionEnded_port_rests (h : hasReason (port p s).reducing r.val = false) : Rests (.reductionEnded (.port p) r) s :=
  congrArg Host.Outcome.next (if_neg (by rw [h]; exact nofun))

end

/-- Settles O42: a stop, a retry and the end of a reduction are each their port's or direction's own. -/
theorem portEvents : Obligations.PortEvents := by
  unfold Obligations.PortEvents
  exact fun _ _ _ _ _ _ => ⟨runs_compositeOver, compositeOver_rests, runs_portRetry, portRetry_rests,
    fun h hu _ => runs_reductionEnded_direction h hu, reductionEnded_direction_rests, fun h hu _ => runs_reductionEnded_port h hu,
    reductionEnded_port_rests⟩

end Sys2Proof.Proofs
end

/-! # Frames, synchronization, hold-over and patterns -/
section
namespace Sys2Proof.Proofs
open Sys2Proof Sys2Proof.Machine Sys2Proof.Safety Sys2Proof.Laws

/-! ## Events raised stay raised when holds change -/

section
variable {n obj : Nat} {s : State} (c : Fin 64) (d : Dir)

theorem raised_ite {p : Prop} [Decidable p] {a b : State} (ha : Raised n obj a) (hb : Raised n obj b) : Raised n obj (if p then a else b) := by
  split
  · exact ha
  · exact hb

theorem raised_tellSplit (h : Raised n obj s) : Raised n obj (tellSplit c d s) := raised_ite (raised_sendControl _ _ h) h

theorem raised_setStability (m : Stability) (h : Raised n obj s) : Raised n obj (setStability c d m s) := by
  have told : Raised n obj (if (direction c d s).stab = m then modStab c d (fun _ => m) s else tellSplit c d (modStab c d (fun _ => m) s)) :=
    raised_ite h (raised_tellSplit c d h)
  exact raised_ite told (raised_postEvent _ _ _ _ told)

theorem raised_answerMeasure (h : Raised n obj s) : Raised n obj (answerMeasure c d s) := by
  unfold answerMeasure
  split <;> exact h

theorem raised_enterBackoff (ceiling : Int) (h : Raised n obj s) : Raised n obj (enterBackoff c d ceiling s) :=
  raised_ite (raised_raise_of _ _ _ (raised_setStability c d _ (raised_answerMeasure c d h))) (raised_setStability c d _ h)

theorem raised_enterClimb (ceiling : Int) (h : Raised n obj s) : Raised n obj (enterClimb c d ceiling s) := raised_setStability c d _ h

theorem raised_watchNet (h : Raised n obj s) : Raised n obj (watchNet c d s) := raised_ite (raised_ite h h) h

theorem raised_settleWatch (h : Raised n obj s) : Raised n obj (settleWatch c d s) := by
  have net := raised_watchNet c d h
  exact raised_ite h (raised_ite (raised_enterBackoff c d _ net) (raised_ite (raised_enterBackoff c d _ net)
    (raised_ite net (raised_setStability c d _ net))))

theorem raised_settleNative (h : Raised n obj s) : Raised n obj (settleNative c d s) := by
  unfold settleNative
  dsimp only
  split
  · exact h
  · exact raised_ite (raised_enterBackoff c d _ h) h
  · exact raised_ite (raised_enterBackoff c d _ h) (raised_ite (raised_setStability c d _ h) h)
  · exact raised_ite (raised_enterBackoff c d _ h) (raised_ite (raised_setStability c d _ h) h)
  · exact raised_ite (raised_enterBackoff c d _ h) (raised_ite (raised_enterClimb c d _ h) h)

theorem raised_settle (h : Raised n obj s) : Raised n obj (settle c d s) := raised_ite (raised_settleWatch c d h) (raised_settleNative c d h)

theorem raised_newTarget (h : Raised n obj s) : Raised n obj (newTarget c d s) := raised_ite h (raised_settle c d (raised_ite h h))

theorem raised_unfreeze (h : Raised n obj s) : Raised n obj (unfreeze c d s) :=
  raised_ite h (raised_ite (raised_newTarget c d h) (raised_enterClimb c d _ h))

theorem raised_freezeFrom (was : Bool) (h : Raised n obj s) : Raised n obj (freezeFrom was c d s) :=
  raised_ite h (raised_ite h (raised_unfreeze c d h))

end

theorem raised_refreshHolds {n obj : Nat} {s : State} (h : Raised n obj s) : Raised n obj (refreshHolds s) := by
  refine List.foldlRecOn (motive := Raised n obj) _ _ h (fun t ht e _ => ?_)
  exact raised_ite ht (raised_freezeFrom e.1 e.2 _ ht)

/-! ## The frame timer's changes -/

/-- What a report may change of the timer leaves what the last PPS edge captured, and whatever the timer tracks. -/
theorem closeError_timer (e : Int) (stage : Nat) (s : State) : ∃ n k, closeError e stage s = modTimer (fun t => { t with phaseError := n, step := k })
    s := by
  unfold closeError
  dsimp only
  split
  · exact ⟨e, s.radio.timer.step, rfl⟩
  · split
    · exact ⟨0, s.radio.timer.step, rfl⟩
    · exact ⟨0, _, rfl⟩

section
variable {s : State}

/-! ## FRAME_START (R326, R376) -/

theorem runs_frameStart (n : Fin 48) : Runs .frameStart s (fun t => t.radio.timer = nextFrame s.radio.timer ∧ s.now ≤ t.now ∧
    t.radio.pins[n] = (s.radio.pinNext[n]).getD s.radio.pins[n] ∧ t.radio.pinNext[n] = none) := by
  refine runs_of_exec (i := .frameStart) rfl ?_
  rw [radio_refreshHolds, now_refreshHolds]
  refine ⟨rfl, le_max_left _ _, ?_, ?_⟩
  · exact Vector.getElem_ofFn n.isLt
  · exact Vector.getElem_replicate n.isLt

/-! ## Reports (R327, R331) -/

theorem syncReport_rests (src : SyncSource) (v : Word) (ph : Int) (h : s.radio.timer.state = .free) : Rests (.syncReport src v ph) s :=
  congrArg Host.Outcome.next (if_pos (.inr h))

theorem runs_syncReport_locks {src : SyncSource} {v : Word} {ph : Int} (ha : s.radio.timer.state = .acquire)
    (hr : sourceRank (syncCode src) s.radio.timer ≠ 4)
    (hg : 3 ≤ ((nth s.radio.timer.tracks (syncCode src) SyncTrack.reset).hear
      (16 * (countNear v s.now + (if src = .donor then s.radio.timer.donorOffset else 0)) + ph) s.now).good) : Runs (.syncReport src v ph) s (fun t =>
        t.radio.timer.state = .locked ∧ t.radio.timer.tracked = syncCode src) := by
  have listed : ¬ (sourceRank (syncCode src) s.radio.timer = 4 ∨ s.radio.timer.state = .free) := by
    rw [ha]
    simp [hr]
  refine runs_of_exec (i := .syncReport src v ph) rfl ?_
  unfold frameReport
  dsimp only
  rw [if_neg listed, ha]
  dsimp only
  rw [if_pos (decide_eq_true hg), radio_refreshHolds]
  generalize modTimer _ s = m
  obtain ⟨n, k, hc⟩ := closeError_timer (frameError (16 * (countNear v s.now + (if src = .donor then s.radio.timer.donorOffset else 0)) + ph)
    (16 * (s.radio.timer.origin : Int))) 2 (track (syncCode src) m)
  rw [hc]
  obtain ⟨x, y, z, hx⟩ := setFrameState_timer .locked (modTimer (fun t => { t with phaseError := n, step := k }) (track (syncCode src) m))
  rw [hx]
  exact ⟨rfl, rfl⟩

/-- What a report leaves alone: what the last PPS edge captured, time and the ports. -/
def captured (s : State) : Word × BitVec 3 × Nat × Vector PortState 8 := (s.radio.timer.ppsCapture, s.radio.timer.ppsPhase, s.now, s.ports)

theorem captured_ite (p : Prop) [Decidable p] (s t : State) : captured (if p then s else t) = if p then captured s else captured t :=
  apply_ite captured p s t

theorem captured_refreshHolds (s : State) : captured (refreshHolds s) = captured s := by
  unfold captured
  rw [radio_refreshHolds, now_refreshHolds, ports_refreshHolds]

theorem captured_setFrameState (v : FrameState) (s : State) : captured (setFrameState v s) = captured s := by
  obtain ⟨x, y, z, hx⟩ := setFrameState_timer v s
  rw [hx]
  rfl

theorem captured_closeError (e : Int) (stage : Nat) (s : State) : captured (closeError e stage s) = captured s := by
  obtain ⟨n, k, hc⟩ := closeError_timer e stage s
  rw [hc]
  rfl

theorem captured_follow (e : Int) (s : State) : captured (follow e s) = captured s := rfl

theorem captured_track (src : Nat) (s : State) : captured (track src s) = captured s := rfl

theorem captured_frameReport (src : Nat) (at16 : Int) (ok : Bool) (s : State) : captured (frameReport src at16 ok s) = captured s := by
  have heard (k : SyncTrack) : captured (modTimer (fun t => { t with tracks := upd t.tracks src (fun _ => k) }) s) = captured s := rfl
  unfold frameReport
  dsimp only
  split
  · rfl
  · split <;> simp only [captured_ite, captured_refreshHolds, captured_setFrameState, captured_closeError, captured_follow, captured_track, heard,
      ite_self]

theorem runs_ppsEdge (k : Fin 8) : Runs (.ppsEdge k) s (fun t => t.radio.timer.ppsCapture = frameCount s ∧
    t.radio.timer.ppsPhase = BitVec.ofNat 3 k.val ∧ t.now = s.now ∧ t.ports = s.ports) := by
  refine runs_of_exec (i := .ppsEdge k) rfl ?_
  generalize hm : modTimer _ s = m
  generalize 16 * ((s.now : Int) + s.radio.timer.ppsOffset) + 2 * k.val = at16
  generalize (decide (-32 ≤ frameError at16 (16 * (s.radio.timer.origin : Int))) && decide (frameError at16 (16 * (s.radio.timer.origin : Int)) ≤ 32))
    = ok
  have kept := captured_frameReport 2 at16 ok m
  generalize frameReport 2 at16 ok m = t at kept
  have hcapture := congrArg Prod.fst kept
  have hphase := congrArg (fun v => v.2.1) kept
  have hnow := congrArg (fun v => v.2.2.1) kept
  have hports := congrArg (fun v => v.2.2.2) kept
  subst hm
  exact ⟨hcapture, hphase, hnow, hports⟩

/-! ## Hold-over (R331) -/

theorem runs_holdoverEntry (h : s.radio.timer.state = .locked) : Runs .holdoverEntry s (fun t =>
    t.radio.timer.state = .holdover ∧ t.radio.timer.tracked = s.radio.timer.tracked ∧ s.now ≤ t.now ∧ Raised 160 0 t) := by
  have going : ¬ (s.radio.timer.state != .locked) = true := by rw [h]; decide
  refine runs_of_exec (congrArg Host.Outcome.next (if_neg going)) ?_
  dsimp only
  have later : ∃ n, s.now ≤ n ∧ (if s.radio.timer.tracked = 2 ∧ 3 ≤ s.radio.timer.ppsMissRun then s else
      advanceTo ((nth s.radio.timer.tracks s.radio.timer.tracked SyncTrack.reset).lastAt + lossCounts s.radio.timer) s) = { s with now := n } := by
    split
    · exact ⟨s.now, le_rfl, rfl⟩
    · exact ⟨_, le_max_left _ _, rfl⟩
  obtain ⟨n, hn, hl⟩ := later
  rw [hl]
  generalize hm : modTimer _ { s with now := n } = m
  obtain ⟨x, y, z, hx⟩ := setFrameState_timer .holdover m
  refine ⟨?_, ?_, ?_, raised_raise _ _ _ _⟩ <;> rw [hx, ← hm]
  · rfl
  · rfl
  · exact hn

theorem holdoverEntry_rests (h : s.radio.timer.state ≠ .locked) : Rests .holdoverEntry s := congrArg Host.Outcome.next (if_pos (by simp [h]))

theorem runs_holdoverExpiry (h : s.radio.timer.state = .holdover) : Runs .holdoverExpiry s (fun t =>
    t.radio.timer.state = .acquire ∧ s.now ≤ t.now ∧ Raised 161 0 t) := by
  have going : ¬ (s.radio.timer.state != .holdover) = true := by rw [h]; decide
  refine runs_of_exec (congrArg Host.Outcome.next (if_neg going)) ?_
  dsimp only
  generalize hm : modTimer _ (advanceTo _ s) = m
  obtain ⟨x, y, z, hx⟩ := setFrameState_timer .acquire m
  refine ⟨?_, ?_, raised_refreshHolds (raised_raise _ _ _ _)⟩
  · rw [radio_refreshHolds, hx]
    rfl
  · rw [now_refreshHolds, hx, ← hm]
    exact le_max_left _ _

theorem holdoverExpiry_rests (h : s.radio.timer.state ≠ .holdover) : Rests .holdoverExpiry s := congrArg Host.Outcome.next (if_pos (by simp [h]))

/-! ## TDD_PATTERN_SWITCH (R334) -/

/-- The stores that a pattern's period sizes are the loops', with their events. -/
theorem patternStores_loops (slot : Fin 8) (s : State) : ∃ x y, patternStores slot s = { s with hif := x, loops := y } := by
  refine List.foldlRecOn (motive := fun t => ∃ x y, t = { s with hif := x, loops := y }) _ _ ⟨s.hif, s.loops, rfl⟩ (fun t ht l _ => ?_)
  obtain ⟨x, y, rfl⟩ := ht
  split
  · obtain ⟨z, hz⟩ : ∃ z, allocateStore l { s with hif := x, loops := y } = { s with hif := x, loops := z } := ⟨_, rfl⟩
    rw [hz]
    exact ⟨_, _, postEvent_hif _ _ _ _ _⟩
  · exact ⟨x, y, rfl⟩

theorem runs_tddPatternSwitch {k : Fin 8} (p : Pattern) (a : Nat) (h : s.radio.patterns[k].next = some (p, a)) :
    Runs (.tddPatternSwitch k) s (fun t =>
    t.radio.patterns[k] = { cur := some p, next := none } ∧ t.now = max s.now a ∧
    ∀ j : Fin 8, j ≠ k → t.radio.patterns[j] = s.radio.patterns[j]) := by
  have run : exec (.tddPatternSwitch k) s = .next (refreshHolds (patternStores k
      (modRadio (fun r => { r with patterns := r.patterns.set k { cur := some p, next := none } }) (advanceTo a s)))) := by
    show execTddPatternSwitch k s = _
    unfold execTddPatternSwitch
    rw [h]
  refine runs_of_exec run ?_
  obtain ⟨x, y, hs⟩ := patternStores_loops k (modRadio (fun r => { r with patterns := r.patterns.set k { cur := some p, next := none } })
    (advanceTo a s))
  rw [radio_refreshHolds, now_refreshHolds, hs]
  exact ⟨Vector.getElem_set_self k.isLt, rfl, fun j hj => Vector.getElem_set_ne k.isLt j.isLt (fun e => hj (Fin.ext e.symm))⟩

theorem tddPatternSwitch_rests {k : Fin 8} (h : s.radio.patterns[k].next = none) : Rests (.tddPatternSwitch k) s := by
  show execTddPatternSwitch k s = _
  unfold execTddPatternSwitch
  rw [h]

end

/-- Settles O45: each event is its effect where its condition holds, and rests without it. -/
theorem frameTimingEvents : Obligations.FrameTimingEvents := by
  unfold Obligations.FrameTimingEvents
  exact fun k n src v ph _ => ⟨runs_frameStart n, syncReport_rests src v ph, runs_syncReport_locks, runs_ppsEdge k, runs_holdoverEntry,
    holdoverEntry_rests, runs_holdoverExpiry, holdoverExpiry_rests, runs_tddPatternSwitch, tddPatternSwitch_rests⟩

end Sys2Proof.Proofs
end

/-! # The Guestbook's events -/
section
namespace Sys2Proof.Proofs
open Sys2Proof Sys2Proof.Machine Sys2Proof.Safety Sys2Proof.Laws

/-! ## Filing an entry leaves the queues (R539) -/

/-- What filing a record leaves alone: the entries that wait, the collector's, the flash, whether the intake is closed, and the system block. -/
def tray (s : State) : List GbEntry × List GbEntry × List Filed × Bool × System :=
  (s.gb.queue, s.gb.collectorWait, s.gb.flash, s.gb.intakeClosed, s.sys)

theorem tray_ite (p : Prop) [Decidable p] (s t : State) : tray (if p then s else t) = if p then tray s else tray t := apply_ite tray p s t

theorem tray_of_records {s : State} (x : HostIf) : tray { s with hif := x } = tray s := rfl

theorem tray_postEntries (f : State → EventRec → State) (h : ∀ s a, f s a = { s with hif := (f s a).hif }) (l : List EventRec) (s : State) :
    tray (l.foldl f s) = tray s := by
  rw [foldl_hif f h]
  exact tray_of_records _

theorem tray_stage (x : Record) (o : Bool) (s : State) : tray (stage x o s) = tray s := rfl

theorem tray_closeTail (s : State) : tray (closeTail s) = tray s := by
  unfold closeTail
  split
  · split <;> rfl
  · rfl

theorem tray_latchSequence (x : Record) (s : State) : tray (latchSequence x s) = tray s := by
  unfold latchSequence
  split <;> rfl

theorem tray_newRecord (cls severity : Nat) (source code : Half) (flags : Nat) (body : List Byte) (timeUs : Nat) (events : List EventRec) (s :
    State) :
    tray (newRecord cls severity source code flags body timeUs events s) = tray s := by
  unfold newRecord
  dsimp only
  rw [tray_postEntries _ (fun _ _ => postEntry_hif _ _ _ _), tray_latchSequence, tray_stage]
  exact tray_closeTail s

theorem tray_noteTaken (e : GbEntry) (folded : Bool) (s : State) : tray (noteTaken e folded s) = tray s := by
  unfold noteTaken
  dsimp only
  generalize hm : ite ((e.cls == 1 && e.code == 3) = true) _ s = m
  have kept : tray m = tray s := by
    rw [← hm]
    split <;> rfl
  exact kept

theorem tray_fileEntry (e : GbEntry) (s : State) : tray (fileEntry e s) = tray s := by
  unfold fileEntry
  dsimp only
  split
  · rw [tray_noteTaken, tray_postEntries _ (fun _ _ => postEntry_hif _ _ _ _), tray_ite, tray_closeTail, ite_self]
    rfl
  · rw [tray_noteTaken, tray_newRecord]

theorem tray_ownRecord (cls severity code flags : Nat) (body : List Byte) (events : List EventRec) (s : State) :
    tray (ownRecord cls severity code flags body events s) = tray s := tray_newRecord _ _ _ _ _ _ _ _ _

theorem tray_writeOverflow (s : State) : tray (writeOverflow s) = tray s := by
  unfold writeOverflow
  dsimp only
  split
  · rfl
  · rw [tray_ownRecord]
    rfl

/-- With nothing of the collector's waiting, nothing is admitted. -/
theorem admitCollector_none {s : State} (h : s.gb.collectorWait = []) : admitCollector s = s := by
  simp [admitCollector, h, loseLate]

/-- The entry at the front is taken from the queue, and nothing comes in its place where nothing of the collector's waits. -/
theorem tray_takeFront {e : GbEntry} {rest : List GbEntry} {s : State} (h : s.gb.queue = e :: rest) (hw : s.gb.collectorWait = []) :
    tray (takeFront s) = (rest, [], s.gb.flash, s.gb.intakeClosed, s.sys) := by
  have filed : tray (fileEntry e (modGb (fun g => { g with queue := rest }) s)) = (rest, s.gb.collectorWait, s.gb.flash, s.gb.intakeClosed, s.sys) :=
    tray_fileEntry _ _
  have wait : (fileEntry e (modGb (fun g => { g with queue := rest }) s)).gb.collectorWait = [] :=
    (congrArg (fun v => v.2.1) filed).trans hw
  unfold takeFront
  rw [h]
  dsimp only
  rw [tray_writeOverflow, admitCollector_none wait, filed, hw]

/-! ## GB_INTAKE (R537, R538) -/

section
variable {e : GbEntry} {s : State}

/-- The entry as the intake takes it. -/
def offered (e : GbEntry) (s : State) : GbEntry := { e with late := false, payload := e.payload.take 480, timeUs := opTime s }

theorem exec_gbIntake (h0 : e.cls ≠ 0) (h2 : e.cls ≠ 2) : exec (.gbIntake e) s = .next (gbIntake (offered e s) s) :=
  congrArg Host.Outcome.next ((if_neg h0).trans (if_neg h2))

theorem runs_gbIntake_room (h0 : e.cls ≠ 0) (h2 : e.cls ≠ 2) (hr : gbRoom e.cls s = true) : Runs (.gbIntake e) s (fun t =>
    t = { s with gb := { s.gb with queue := s.gb.queue ++ [{ e with late := false, payload := e.payload.take 480, timeUs := opTime s }] } }) :=
  runs_of_exec (exec_gbIntake h0 h2) (if_pos hr)

/-- An entry that is lost is counted in its class and of no consequence otherwise. -/
theorem gbLose_counts (g : GbEntry) (s : State) : ∃ x p f, gbLose g s = { s with hif := x, gb := { s.gb with
    overflowPending := p, overflow := upd s.gb.overflow g.cls.val (satAdd 32 · 1), overflowFirstUs := f } } := by
  unfold gbLose
  rw [foldl_hif _ (fun _ _ => postEntry_hif _ _ _ _)]
  exact ⟨_, _, _, rfl⟩

theorem runs_gbIntake_full (h0 : e.cls ≠ 0) (h2 : e.cls ≠ 2) (hr : gbRoom e.cls s = false) : Runs (.gbIntake e) s (fun t =>
    t.gb.queue = s.gb.queue ∧ t.gb.overflow = upd s.gb.overflow e.cls.val (satAdd 32 · 1) ∧ t.gb.seqNext = s.gb.seqNext ∧ t.chans = s.chans) := by
  have full : ¬ gbRoom e.cls s = true := by rw [hr]; decide
  have lost : gbIntake (offered e s) s = gbLose (offered e s) s := if_neg full
  obtain ⟨x, p, f, hl⟩ := gbLose_counts (offered e s) s
  refine runs_of_exec (exec_gbIntake h0 h2) ?_
  rw [lost, hl]
  exact ⟨rfl, rfl, rfl, rfl⟩

theorem gbIntake_rests (h : e.cls = 0) : Rests (.gbIntake e) s := congrArg Host.Outcome.next (if_pos h)

end

/-! ## COLLECTOR_INTAKE_TIMEOUT (R549) -/

section
variable {s : State}

theorem loseWaiting_counts {f : GbEntry} {rest : List GbEntry} (h : s.gb.collectorWait = f :: rest) : (loseWaiting s).gb.collectorWait = rest ∧
    (loseWaiting s).gb.queue = s.gb.queue ∧ (loseWaiting s).gb.overflow = upd s.gb.overflow f.cls.val (satAdd 32 · 1) := by
  unfold loseWaiting
  rw [h]
  dsimp only
  generalize (s.faults.firstSeqDue && f.code == 2 && f.source.toNat == s.faults.firstSource.val) = latched
  generalize hl : (if latched then { s with faults := { s.faults with firstSeqDue := false } } else s) = m
  have hm : m.gb = s.gb := by
    rw [← hl]
    split <;> rfl
  obtain ⟨x, p, u, hc⟩ := gbLose_counts f (modGb (fun g => { g with collectorWait := rest }) m)
  have hqueue := congrArg Guestbook.queue hm
  have hover := congrArg (fun g : Guestbook => upd g.overflow f.cls.val (satAdd 32 · 1)) hm
  rw [hc]
  exact ⟨rfl, hqueue, hover⟩

theorem runs_collectorIntakeTimeout (f : GbEntry) (rest : List GbEntry) (h : s.gb.collectorWait = f :: rest) :
    Runs .collectorIntakeTimeout s (fun t =>
    t.gb.collectorWait = rest ∧ t.gb.queue = s.gb.queue ∧ t.gb.overflow = upd s.gb.overflow f.cls.val (satAdd 32 · 1)) := by
  have run : exec .collectorIntakeTimeout s = .next (loseWaiting (advanceTo (opInstant (f.timeUs + 2) s) s)) := by
    show execCollectorIntakeTimeout s = _
    unfold execCollectorIntakeTimeout
    rw [h]
  exact runs_of_exec run (loseWaiting_counts (s := advanceTo (opInstant (f.timeUs + 2) s) s) h)

theorem collectorIntakeTimeout_rests (h : s.gb.collectorWait = []) : Rests .collectorIntakeTimeout s := by
  show execCollectorIntakeTimeout s = _
  unfold execCollectorIntakeTimeout
  rw [h]

/-! ## GB_TAKE_ENTRY (R539) -/

theorem runs_gbTakeEntry (f : GbEntry) (rest : List GbEntry) (hu : s.sys.coreUp = true) (hi : s.gb.intakeClosed = false) (hm : mayTake s = true)
    (hq : s.gb.queue = f :: rest) (hw : s.gb.collectorWait = []) : Runs .gbTakeEntry s (fun t => t.gb.queue = rest ∧ t.gb.flash = s.gb.flash) := by
  refine runs_of_exec (congrArg Host.Outcome.next (if_pos (by rw [hu, hi, hm]; rfl))) ?_
  have taken := tray_takeFront hq hw
  have hqueue := congrArg Prod.fst taken
  have hflash := congrArg (fun v => v.2.2.1) taken
  exact ⟨hqueue, hflash⟩

theorem gbTakeEntry_rests (h : s.gb.queue = []) : Rests .gbTakeEntry s := by
  have none : mayTake s = false := by
    unfold mayTake
    rw [h]
  exact congrArg Host.Outcome.next (if_neg (by rw [none, Bool.and_false]; decide))

/-! ## The tail (R541, R542) -/

theorem runs_tailTimeout (v : Tail) (h : s.gb.tail = some v) (hu : s.sys.coreUp = true) (ho : v.isOpen = true)
    (hd : v.lastRepeatTick + 1000 < s.slowTicks) : Runs .tailTimeout s (fun t =>
      t.gb.tail = some { v with isOpen := false } ∧ t.gb.staged.length = s.gb.staged.length + 1 ∧ t = { s with gb := t.gb }) := by
  have run : exec .tailTimeout s = .next (stage v.entry false
      (modGb (fun g => { g with tail := some { v with isOpen := false }, tailGeneration := g.tailGeneration + 1 }) s)) := by
    show execTailTimeout s = _
    unfold execTailTimeout
    rw [h]
    refine congrArg Host.Outcome.next ((if_pos (by rw [hu]; exact decide_eq_true hd)).trans ?_)
    unfold closeTail
    rw [h]
    exact if_pos ho
  exact runs_of_exec run ⟨rfl, List.length_append, rfl⟩

theorem tailTimeout_rests (h : s.gb.tail = none) : Rests .tailTimeout s := by
  show execTailTimeout s = _
  unfold execTailTimeout
  rw [h]

theorem runs_tailSnapshot (v : Tail) (h : s.gb.tail = some v) (hu : s.sys.coreUp = true) (ho : v.isOpen = true)
    (hd : v.snapshotTick + 1000 ≤ s.slowTicks) (hr : v.entry.repeats ≠ v.snapshotRepeats) : Runs .tailSnapshot s (fun t =>
      t.gb.tail = some { v with snapshotTick := s.slowTicks, snapshotRepeats := v.entry.repeats } ∧
      t.gb.staged = s.gb.staged ++ [{ entry := v.entry.flag flagOpen, isOpen := true }] ∧ t = { s with gb := t.gb }) := by
  have run : exec .tailSnapshot s = .next (stage v.entry true
      (modGb (fun g => { g with tail := some { v with snapshotTick := s.slowTicks, snapshotRepeats := v.entry.repeats } }) s)) := by
    show execTailSnapshot s = _
    unfold execTailSnapshot
    rw [h]
    exact congrArg Host.Outcome.next (if_pos (by simp [hu, ho, hd, hr]))
  exact runs_of_exec run ⟨rfl, rfl, rfl⟩

theorem tailSnapshot_rests (h : s.gb.tail = none) : Rests .tailSnapshot s := by
  show execTailSnapshot s = _
  unfold execTailSnapshot
  rw [h]

/-! ## GB_COMMIT_DONE and CLEAR_ERASE_DONE (R544, R546) -/

/-- What the programming of a staged copy leaves of the Guestbook. -/
def commitView (s : State) : List Staged × Bool × List GbEntry × Word := (s.gb.staged, s.gb.committing, s.gb.queue, s.gb.seqNext)

theorem commitView_clearPoint (x : Record) (s : State) : commitView (clearPoint x s) = commitView s := by
  unfold clearPoint
  split
  · rw [postEntry_hif]
    rfl
  · rfl

theorem commitView_program (x : Record) (s : State) : commitView (program x s) = commitView s := by
  unfold program commitView modGb
  dsimp only
  split
  · split <;> rfl
  · split <;> rfl

theorem commitView_commitOne (s : State) (c : Staged) : commitView (commitOne s c) = commitView s := by
  unfold commitOne
  dsimp only
  show commitView (clearPoint _ (program _ s)) = _
  rw [commitView_clearPoint, commitView_program]

theorem commitView_commitAll (s : State) : commitView (commitAll s) = ([], false, s.gb.queue, s.gb.seqNext) := by
  have folded : commitView (s.gb.staged.foldl commitOne (modGb (fun g => { g with staged := [], committing := false }) s)) =
      ([], false, s.gb.queue, s.gb.seqNext) :=
    List.foldlRecOn (motive := fun t => commitView t = ([], false, s.gb.queue, s.gb.seqNext)) _ _ rfl
      (fun t ht c _ => (commitView_commitOne t c).trans ht)
  unfold commitAll
  dsimp only
  split
  · exact folded
  · exact folded

theorem runs_gbCommitDone (h : s.gb.staged ≠ []) : Runs .gbCommitDone s (fun t =>
    t.gb.staged = [] ∧ t.gb.committing = false ∧ t.gb.queue = s.gb.queue ∧ t.gb.seqNext = s.gb.seqNext) := by
  refine runs_of_exec (congrArg Host.Outcome.next (if_neg (by simp [h]))) ?_
  have all := commitView_commitAll s
  have hstaged := congrArg Prod.fst all
  have hdone := congrArg (fun v => v.2.1) all
  have hqueue := congrArg (fun v => v.2.2.1) all
  have hseq := congrArg (fun v => v.2.2.2) all
  exact ⟨hstaged, hdone, hqueue, hseq⟩

theorem gbCommitDone_rests (h : s.gb.staged = []) : Rests .gbCommitDone s := congrArg Host.Outcome.next (if_pos (by rw [h]; rfl))

theorem runs_clearEraseDone (h : s.gb.intakeClosed = false ∨ s.gb.committing = false) : Runs .clearEraseDone s (fun t =>
    t = { s with gb := { s.gb with erasing := false } }) := by
  have ends : ¬ (s.gb.intakeClosed && s.gb.committing) = true := by
    rw [Bool.and_eq_true]
    rintro ⟨hi, hc⟩
    simp [hi, hc] at h
  exact runs_of_exec (congrArg Host.Outcome.next (if_neg ends)) rfl

theorem clearEraseDone_rests (hi : s.gb.intakeClosed = true) (hc : s.gb.committing = true) : Rests .clearEraseDone s :=
  congrArg Host.Outcome.next (if_pos (by rw [hi, hc]; rfl))

/-! ## CHECKPOINT (R554, R557) -/

/-- An instant of operating time has come at its count. -/
theorem le_opTime_advanceTo (us : Nat) (s : State) : us ≤ opTime (advanceTo (opInstant us s) s) := by
  have instant : 768 * (us - s.opBase) ≤ 25 * opInstant us s := by
    unfold opInstant ceilDiv
    omega
  have count : opInstant us s ≤ (advanceTo (opInstant us s) s).now := le_max_right _ _
  have tick : us - s.opBase ≤ faultTick (advanceTo (opInstant us s) s) := (le_faultTick_iff _ _).mpr (by omega)
  show us ≤ s.opBase + faultTick (advanceTo (opInstant us s) s)
  omega

theorem runs_checkpoint (hu : s.sys.coreUp = true) : Runs .checkpoint s (fun t => t.gb.checkpointUs = opTime t ∧ checkpointDueUs s ≤ opTime t ∧
    s.now ≤ t.now ∧ t.gb.checkpointSeq = s.gb.seqNext ∧ t.gb.checkpointCycles = s.gb.powerCycles ∧ t.gb.checkpointWall = wallNow t ∧
    t.gb.flash = s.gb.flash) :=
  runs_of_exec (congrArg Host.Outcome.next (if_pos hu)) ⟨rfl, le_opTime_advanceTo _ s, le_max_left _ _, rfl, rfl, rfl, rfl⟩

theorem checkpoint_rests (h : s.sys.coreUp = false) : Rests .checkpoint s := congrArg Host.Outcome.next (if_neg (by simp [h]))

end

/-- Settles O55: each event is its effect where its condition holds, and rests without it. -/
theorem guestbookEvents : Obligations.GuestbookEvents := by
  unfold Obligations.GuestbookEvents
  exact fun _ _ => ⟨runs_gbIntake_room, runs_gbIntake_full, gbIntake_rests, runs_collectorIntakeTimeout, collectorIntakeTimeout_rests,
    runs_gbTakeEntry, gbTakeEntry_rests, runs_tailTimeout, tailTimeout_rests, runs_tailSnapshot, tailSnapshot_rests, runs_gbCommitDone,
    gbCommitDone_rests, runs_clearEraseDone, clearEraseDone_rests, runs_checkpoint, checkpoint_rests⟩

end Sys2Proof.Proofs
end

/-! # The supply watch, the board reset and the clock -/
section
namespace Sys2Proof.Proofs
open Sys2Proof Sys2Proof.Machine Sys2Proof.Safety Sys2Proof.Laws

/-! ## Bits of the comparators (R454) -/

theorem masked_comparator : ∀ n < 4, ∀ x : BitVec 4, ((x &&& comparatorBit n) == 0) = !x.getLsbD n := by decide

theorem getLsbD_comparatorSet : ∀ n < 4, ∀ x : BitVec 4, (x ||| comparatorBit n).getLsbD n = true := by decide

theorem getLsbD_comparatorCut : ∀ n < 4, ∀ x : BitVec 4, (x &&& ~~~comparatorBit n).getLsbD n = false := by decide

theorem comparatorOf_lt (b : Bool) : comparatorOf b < 4 := by cases b <;> decide

section
variable {s : State}

theorem maskedOut {n : Nat} (hn : n < 4) {x : BitVec 4} (h : x.getLsbD n = false) : (x &&& comparatorBit n == 0) = true := by
  rw [masked_comparator n hn, h]
  rfl

theorem maskedIn {n : Nat} (hn : n < 4) {x : BitVec 4} (h : x.getLsbD n = true) : (x &&& comparatorBit n == 0) = false := by
  rw [masked_comparator n hn, h]
  rfl

/-! ## BROWN_OUT (R545) -/

theorem runs_brownOut (h : s.sys.vauxValid = true) : Runs .brownOut s (fun t => t.sys.vauxValid = false ∧ t.sys.coreUp = false ∧
    t.sys.npt.npPending.getLsbD 1 = true ∧ t.hr = { s.hr with nonce := none } ∧ t.gb.staged = [] ∧ t.gb.seqNext = s.gb.seqNext) :=
  runs_of_exec (congrArg Host.Outcome.next (if_pos h)) ⟨rfl, rfl, getLsbD_comparatorSet 1 (by decide) _, rfl, rfl, rfl⟩

theorem brownOut_rests (h : s.sys.vauxValid = false) : Rests .brownOut s := congrArg Host.Outcome.next (if_neg (by simp [h]))

/-! ## HOLDUP_TRIP and HOLDUP_REOPEN (R545) -/

/-- Taking every entry empties the queue where nothing of the collector's waits, and leaves the system block. -/
theorem sys_takeFront (s : State) : (takeFront s).sys = s.sys := by
  have sys_of_tray {a b : State} (h : tray a = tray b) : a.sys = b.sys := congrArg (fun v => v.2.2.2.2) h
  have late (k : Nat) (t : State) : (loseLate k t).sys = t.sys := by
    induction k generalizing t with
    | zero => rfl
    | succ k ih =>
      unfold loseLate
      split
      · rw [ih]
        unfold loseWaiting
        split
        · next e rest _ =>
          obtain ⟨x, y, hl⟩ := gbLose_records e (modGb (fun g => { g with collectorWait := rest })
            (if t.faults.firstSeqDue && e.code == 2 && e.source.toNat == t.faults.firstSource.val then
              { t with faults := { t.faults with firstSeqDue := false } } else t))
          dsimp only
          rw [hl]
          show State.sys (if _ then _ else t) = _
          split <;> rfl
        · rfl
      · rfl
  have admitted (t : State) : (admitCollector t).sys = t.sys := by
    unfold admitCollector
    dsimp only
    split
    · split
      · exact late _ _
      · exact late _ _
    · exact late _ _
  unfold takeFront
  split
  · rw [sys_of_tray (tray_writeOverflow _), admitted, sys_of_tray (tray_fileEntry _ _)]
    rfl
  · rfl

theorem sys_takeEntries (n : Nat) (s : State) : (takeEntries n s).sys = s.sys := by
  induction n generalizing s with
  | zero => rfl
  | succ n ih => exact (ih _).trans (sys_takeFront _)

theorem queue_takeEntries {n : Nat} {s : State} (hn : s.gb.queue.length = n) (hw : s.gb.collectorWait = []) : (takeEntries n s).gb.queue = [] := by
  induction n generalizing s with
  | zero => exact List.length_eq_zero_iff.mp hn
  | succ n ih =>
    obtain ⟨e, rest, hq⟩ := List.exists_cons_of_length_eq_add_one hn
    have taken := tray_takeFront hq hw
    have hqueue : (takeFront s).gb.queue = rest := congrArg Prod.fst taken
    have hwait : (takeFront s).gb.collectorWait = [] := congrArg (fun v => v.2.1) taken
    refine ih ?_ hwait
    rw [hqueue]
    rw [hq] at hn
    exact Nat.succ.inj hn

/-- The commit at a hold-up trip closes the intake, with every entry taken. -/
theorem holdupCommit_closes (k : Nat) (s : State) : (holdupCommit k s).gb.intakeClosed = true ∧ (holdupCommit k s).sys = s.sys ∧
    (s.gb.collectorWait = [] → (holdupCommit k s).gb.queue = []) := by
  have filed : tray (closeTail (takeEntries s.gb.queue.length s)) = tray (takeEntries s.gb.queue.length s) := tray_closeTail _
  unfold holdupCommit
  dsimp only
  generalize payload 16 _ = body
  have own := (tray_ownRecord 1 1 2 flagHoldup body [] (closeTail (takeEntries s.gb.queue.length s))).trans filed
  have hsys := congrArg (fun v => v.2.2.2.2) own
  have hqueue := congrArg Prod.fst own
  exact ⟨rfl, hsys.trans (sys_takeEntries _ _), fun hw => hqueue.trans (queue_takeEntries rfl hw)⟩

theorem beginHandover_pair (cause : Nat) (o : Option (Fin 22)) (s : State) : ∃ w x, beginHandover cause o s = { s with twin := w, fabric := x } := by
  unfold beginHandover
  split
  · exact ⟨s.twin, s.fabric, rfl⟩
  · dsimp only
    generalize BitVec.ofNat 32 _ = x
    obtain ⟨y, hy⟩ := sendTwin_fabric (.handover x cause) (modTwin (fun t => { t with hand := some { x := x, cause := cause, ring := o, acked :=
      false } }) s)
    exact ⟨_, y, hy⟩

theorem runs_holdupTrip (hv : s.sys.vauxValid = true) (hb : s.sys.npt.below.getLsbD 0 = false) (hu : s.sys.coreUp = true) :
    Runs .holdupTrip s (fun t =>
    t.gb.intakeClosed = true ∧ t.sys.npt.below.getLsbD 0 = true ∧ t.sys.npt.tripped.getLsbD 0 = true ∧
    (s.gb.collectorWait = [] → t.gb.queue = []) ∧ Raised 384 0 t) := by
  have due : (s.sys.vauxValid && (s.sys.npt.below &&& comparatorBit 0) == 0) = true := by
    rw [hv, maskedOut (by decide) hb]
    rfl
  refine runs_of_exec (congrArg Host.Outcome.next ((if_pos due).trans (if_pos hu))) ?_
  generalize hm : modNpt (fun n => { n with below := n.below ||| comparatorBit 0, tripped := n.tripped ||| comparatorBit 0 }) s = m
  have hbelow : m.sys.npt.below.getLsbD 0 = true := by
    rw [← hm]
    exact getLsbD_comparatorSet 0 (by decide) _
  have htripped : m.sys.npt.tripped.getLsbD 0 = true := by
    rw [← hm]
    exact getLsbD_comparatorSet 0 (by decide) _
  have hwait : m.gb.collectorWait = s.gb.collectorWait := by rw [← hm]; rfl
  obtain ⟨hclosed, hsys, hqueue⟩ := holdupCommit_closes 0 m
  generalize holdupCommit 0 m = u at hclosed hsys hqueue ⊢
  have handed : ∃ w x, (if handoverReady u then beginHandover 4 none u else u) = { u with twin := w, fabric := x } := by
    split
    · exact beginHandover_pair 4 none u
    · exact ⟨u.twin, u.fabric, rfl⟩
  obtain ⟨w, x, hw⟩ := handed
  dsimp only
  rw [hw]
  refine ⟨?_, ?_, ?_, fun hc => ?_, raised_raise _ _ _ _⟩
  · exact hclosed
  · show u.sys.npt.below.getLsbD 0 = true
    rw [hsys, hbelow]
  · show u.sys.npt.tripped.getLsbD 0 = true
    rw [hsys, htripped]
  · exact hqueue (hwait.trans hc)

theorem holdupTrip_rests (h : s.sys.npt.below.getLsbD 0 = true) : Rests .holdupTrip s :=
  congrArg Host.Outcome.next (if_neg (by rw [maskedIn (by decide) h, Bool.and_false]; decide))

theorem runs_holdupReopen (h : s.sys.npt.below.getLsbD 0 = true) : Runs .holdupReopen s (fun t =>
    t.gb.intakeClosed = false ∧ t.sys.npt.below.getLsbD 0 = false ∧ t.sys.npt.tripped = s.sys.npt.tripped) := by
  have due : ((s.sys.npt.below &&& comparatorBit 0) != 0) = true := by
    rw [bne, maskedIn (by decide) h]
    rfl
  refine runs_of_exec (congrArg Host.Outcome.next (if_pos due)) ?_
  generalize hm : modGb (fun g => { g with intakeClosed := false }) (modNpt (fun n => { n with below := n.below &&& ~~~comparatorBit 0 }) s) = m
  have filed := tray_writeOverflow m
  have hclosed := congrArg (fun v => v.2.2.2.1) filed
  have hsys : (writeOverflow m).sys = m.sys := congrArg (fun v => v.2.2.2.2) filed
  rw [hsys, ← hm]
  subst hm
  exact ⟨hclosed, getLsbD_comparatorCut 0 (by decide) _, rfl⟩

theorem holdupReopen_rests (h : s.sys.npt.below.getLsbD 0 = false) : Rests .holdupReopen s :=
  congrArg Host.Outcome.next (if_neg (by rw [bne, maskedOut (by decide) h]; decide))

/-! ## Comparators (R454, R456) -/

section
variable {b : Bool}

theorem runs_comparatorTrip (hv : s.sys.vauxValid = true) (ha : s.sys.npt.armed.getLsbD (comparatorOf b) = true)
    (hh : s.sys.npt.held.getLsbD (comparatorOf b) = false) : Runs (.supplyComparatorTrip b) s (fun t =>
      t.sys.coreUp = false ∧ t.sys.npt.held.getLsbD (comparatorOf b) = true ∧ t.sys.npt.tripped.getLsbD (comparatorOf b) = true ∧
      t.gb.flash = s.gb.flash) := by
  have due : (s.sys.vauxValid && (s.sys.npt.armed &&& comparatorBit (comparatorOf b)) != 0 &&
      (s.sys.npt.held &&& comparatorBit (comparatorOf b)) == 0) = true := by
    rw [hv, bne, maskedIn (comparatorOf_lt b) ha, maskedOut (comparatorOf_lt b) hh]
    rfl
  exact runs_of_exec (congrArg Host.Outcome.next (if_pos due)) ⟨rfl, getLsbD_comparatorSet _ (comparatorOf_lt b) _,
    getLsbD_comparatorSet _ (comparatorOf_lt b) _, rfl⟩

theorem comparatorTrip_rests (h : s.sys.npt.armed.getLsbD (comparatorOf b) = false) : Rests (.supplyComparatorTrip b) s :=
  congrArg Host.Outcome.next (if_neg (by rw [bne, maskedOut (comparatorOf_lt b) h]; simp))

theorem runs_supplyRecovered (h : s.sys.npt.held.getLsbD (comparatorOf b) = true) : Runs (.supplyRecovered b) s (fun t =>
    t.sys.npt.held.getLsbD (comparatorOf b) = false ∧ t.sys.npt.tripped = s.sys.npt.tripped ∧ t.sys.coreUp = s.sys.coreUp) := by
  have due : ((s.sys.npt.held &&& comparatorBit (comparatorOf b)) != 0) = true := by
    rw [bne, maskedIn (comparatorOf_lt b) h]
    rfl
  refine runs_of_exec (congrArg Host.Outcome.next (if_pos due)) ?_
  rw [bootCore_sys]
  exact ⟨getLsbD_comparatorCut _ (comparatorOf_lt b) _, rfl, rfl⟩

theorem supplyRecovered_rests (h : s.sys.npt.held.getLsbD (comparatorOf b) = false) : Rests (.supplyRecovered b) s :=
  congrArg Host.Outcome.next (if_neg (by rw [bne, maskedOut (comparatorOf_lt b) h]; decide))

theorem runs_comparatorArmed : Runs (.comparatorArmed b) s (fun t => t.sys.npt.armed.getLsbD (comparatorOf b) = true ∧
    t = { s with sys := { s.sys with npt := { s.sys.npt with armed := t.sys.npt.armed } } }) :=
  runs_of_exec (i := .comparatorArmed b) rfl ⟨getLsbD_comparatorSet _ (comparatorOf_lt b) _, rfl⟩

end

/-! ## BOARD_RESET (R454, R456) and the pins in reset -/

/-- The device held in reset by its board. -/
def boardHeld (s : State) : State :=
  modNpt (fun n => { n with boardHold := true, critHold := false }) (modSupply (fun v => { v with bootRetries := 0, bootFault := false })
    (coreReset false s))

theorem exec_boardReset (hv : s.sys.vauxValid = true) (hb : s.sys.npt.boardHold = false) : exec .boardReset s = .next (boardHeld s) :=
  congrArg Host.Outcome.next (if_pos (by rw [hv, hb]; rfl))

theorem runs_boardReset (hv : s.sys.vauxValid = true) (hb : s.sys.npt.boardHold = false) : Runs .boardReset s (fun t =>
    t.sys.npt.boardHold = true ∧ t.sys.coreUp = false ∧ t.supply.bootRetries = 0 ∧ t.gb.flash = s.gb.flash) :=
  runs_of_exec (exec_boardReset hv hb) ⟨rfl, rfl, rfl, rfl⟩

theorem boardReset_rests (h : s.sys.npt.boardHold = true) : Rests .boardReset s := congrArg Host.Outcome.next (if_neg (by simp [h]))

/-- An output of the VIO bank is as in reset while VIO is present and the core is down. -/
theorem outputPin_reset {a b : Drive} (h : s.sys.coreUp = false) : outputPin false a b s = a := by
  simp [outputPin, h]

theorem phase_boardHeld (p : Fin 16) (s : State) : (boardHeld s).supply.phases[p] = Phase.reset := Vector.getElem_replicate p.isLt

theorem runs_boardReset_pins (n : Fin 48) (m k : Fin 4) (p : Fin 16) (hv : s.sys.vauxValid = true) (hb : s.sys.npt.boardHold = false)
    (hp : vioAbsent s = false) : Runs .boardReset s (fun t =>
      pinState (.feCtl n) t = .highZ ∧ pinState (.smSclk m) t = .highZDown ∧ pinState (.smCs m k) t = .highZUp ∧ pinState .flReset t = .low ∧
      pinState .ownerOut t = .low ∧ pinState .txsel t = .low ∧ pinState (.drvEn p) t = .low ∧ pinState (.pwm p) t = .highZ) := by
  have present : vioAbsent (boardHeld s) = false := hp
  have out (a b : Drive) : outputPin (vioAbsent (boardHeld s)) a b (boardHeld s) = a := by
    rw [present]
    exact outputPin_reset rfl
  have held : (boardHeld s).sys.vauxValid = true := hv
  refine runs_of_exec (exec_boardReset hv hb) ⟨out _ _, out _ _, out _ _, out _ _, out _ _, out _ _, ?_, ?_⟩
  · show (if (boardHeld s).sys.vauxValid then Drive.ofBool (boardHeld s).supply.phases[p].driver else .highZ) = _
    rw [held, phase_boardHeld]
    rfl
  · show (if (boardHeld s).sys.vauxValid && (boardHeld s).supply.phases[p].driver then Drive.signal else .highZ) = _
    rw [held, phase_boardHeld]
    rfl

/-! ## RTC_OSCILLATOR_FAILURE (R552) -/

theorem runs_rtcOscillatorFailure : Runs .rtcOscillatorFailure s (fun t => t.sys.npt.rtcOk = false ∧ Raised 389 0 t ∧
    t = { s with sys := { s.sys with npt := { s.sys.npt with rtcOk := false } }, faults := t.faults }) :=
  runs_of_exec (i := .rtcOscillatorFailure) rfl ⟨rfl, raised_raise _ _ _ _, rfl⟩

end

/-- Settles O52: each event is its effect where its condition holds, and rests without it; a board reset leaves the pins as in reset. -/
theorem supplyWatchEvents : Obligations.SupplyWatchEvents := by
  unfold Obligations.SupplyWatchEvents
  exact ⟨fun _ _ => ⟨runs_brownOut, brownOut_rests, runs_holdupTrip, holdupTrip_rests, runs_holdupReopen, holdupReopen_rests, runs_comparatorTrip,
    comparatorTrip_rests, runs_supplyRecovered, supplyRecovered_rests, runs_boardReset, boardReset_rests, runs_comparatorArmed,
    runs_rtcOscillatorFailure⟩, fun n m k p _ => runs_boardReset_pins n m k p⟩

end Sys2Proof.Proofs
end

/-! # Readiness, sleep and wake -/
section
namespace Sys2Proof.Proofs
open Sys2Proof Sys2Proof.Machine Sys2Proof.Safety Sys2Proof.Laws

section
variable {s : State}

/-! ## RF_READY (R595) -/

theorem sys_calibratePlans (s : State) : (calibratePlans s).sys = s.sys :=
  List.foldlRecOn (motive := fun (t : State) => t.sys = s.sys) _ _ rfl (fun t ht n _ => by
    dsimp only
    split
    · exact ht
    · exact ht)

theorem sys_twinReady (s : State) : (twinReady s).sys = s.sys := by
  unfold twinReady
  dsimp only
  split
  · rfl
  · split <;> rfl

theorem sys_legacyReady (s : State) : (legacyReady s).sys = s.sys := by
  unfold legacyReady
  split <;> rfl

theorem sys_systemRecord (cls severity code writer : Nat) (bytes : List Byte) (events : List EventRec) (s : State) :
    (systemRecord cls severity code writer bytes events s).sys = s.sys := by
  obtain ⟨x, y, h⟩ := systemRecord_records cls severity code writer bytes events s
  rw [h]

theorem runs_rfReady (hu : s.sys.coreUp = true) (hi : s.sys.innkeeper = .running) (hr : s.sys.rfReady = false) (hd : replayDone s = true)
    (hb : blocksFormed s = true) (hp : s.sys.power = .starting) (ht : s.sys.transition = .none) : Runs .rfReady s (fun t =>
      t.sys.rfReady = true ∧ t.sys.power = .active) := by
  refine runs_of_exec (congrArg Host.Outcome.next (if_pos (by rw [hu, hi, hr, hd, hb]; rfl))) ?_
  dsimp only
  rw [sys_legacyReady, sys_twinReady, sys_systemRecord]
  have plans := sys_calibratePlans s
  generalize calibratePlans s = c at plans ⊢
  generalize hm : modSys _ c = m
  have kept : m.sys.power = s.sys.power ∧ m.sys.transition = s.sys.transition ∧ m.sys.rfReady = true := by
    rw [← hm, ← plans]
    exact ⟨rfl, rfl, rfl⟩
  obtain ⟨hpower, htrans, hready⟩ := kept
  rw [if_pos ⟨hpower.trans hp, htrans.trans ht⟩, sys_of_blocks (blocks_powerRecord _ _ _ _ _)]
  exact ⟨hready, rfl⟩

theorem rfReady_rests (h : s.sys.rfReady = true) : Rests .rfReady s := congrArg Host.Outcome.next (if_neg (by simp [h]))

/-! ## Sleep (R575, R577) -/

theorem runs_sleepL2WaitEnd (ht : s.sys.transition = .sleeping 4) (hw : s.sys.npt.wakeLatched = none) : Runs .sleepL2WaitEnd s (fun t =>
    t.sys.power = .sleep ∧ t.sys.coreUp = false ∧ t.sys.sleepAfterS = s.sys.sleepAfterS ∧ t.sys.wakeHoldS = s.sys.wakeHoldS ∧
    t.gb.flash = s.gb.flash) := by
  have run : exec .sleepL2WaitEnd s = .next (modSys (fun v => { v with power := .sleep, sleepAfterS := s.sys.sleepAfterS, wakeHoldS :=
    s.sys.wakeHoldS })
      (coreReset false s)) := by
    refine congrArg Host.Outcome.next ((if_pos ht).trans ?_)
    generalize hm : modSys _ (coreReset false s) = m
    have latched : m.sys.npt.wakeLatched = none := by
      rw [← hm]
      exact hw
    dsimp only
    rw [hm, latched]
  exact runs_of_exec run ⟨rfl, rfl, rfl, rfl, rfl⟩

theorem sleepL2WaitEnd_rests (h : s.sys.transition ≠ .sleeping 4) : Rests .sleepL2WaitEnd s := congrArg Host.Outcome.next (if_neg h)

theorem runs_autoSleep {p : Fin 8} (n : Nat) (hu : s.sys.coreUp = true) (ha : s.sys.sleepAfterS ≠ 0) (hl : s.sys.lossSinceTick = some n)
    (hn : n + 1000 * s.sys.sleepAfterS ≤ s.slowTicks) (hw : ∀ w, s.sys.wokeTick = some w → w + 1000 * s.sys.wakeHoldS ≤ s.slowTicks)
    (hr : sleepRefused s = none) (ht : s.sys.transition = .none) (hp : s.sys.power = .active ∨ s.sys.power = .quiet ∨ s.sys.power = .stopped) :
    Runs .autoSleep s (fun t => (t.sys.transition = .sleeping 1 ∨ t.sys.transition = .sleeping 2) ∧ (port p t).deviceStop = reasonPowerState) := by
  have lost : s.sys.lossSinceTick.any (fun t => decide (t + 1000 * s.sys.sleepAfterS ≤ s.slowTicks)) = true := by
    rw [hl]
    exact decide_eq_true hn
  have woken : s.sys.wokeTick.all (fun t => decide (t + 1000 * s.sys.wakeHoldS ≤ s.slowTicks)) = true := by
    cases h : s.sys.wokeTick with
    | none => rfl
    | some w => exact decide_eq_true (hw w h)
  have idle : (s.sys.power == .active || s.sys.power == .quiet || s.sys.power == .stopped) = true := by
    rcases hp with h | h | h <;> rw [h] <;> rfl
  refine runs_of_exec (congrArg Host.Outcome.next (if_pos (by rw [lost, woken, idle, hu, hr, ht]; simp [ha]))) ?_
  obtain ⟨-, -, hd, hs⟩ := beginSleep_stands s
  exact ⟨hs, hd p⟩

theorem autoSleep_rests (h : s.sys.sleepAfterS = 0) : Rests .autoSleep s := congrArg Host.Outcome.next (if_neg (by simp [h]))

/-! ## Wakes (R576, R578) -/

/-- A cause wakes a device that sleeps. -/
theorem wakeCause_sleeping {s : State} (cause : Nat) (receivers : Byte) (hp : s.sys.power = .sleep) (hu : s.sys.coreUp = false) :
    (wakeCause cause receivers s).sys = { s.sys with power := .starting, startKind := 2, wakeN := s.sys.perst, npt := { s.sys.npt with
      wakeCause := cause, receivers := receivers, wakes := s.sys.npt.wakes + 1, wakeLatched := none } } := by
  have sleeps : s.sys.power = .sleep ∧ (!s.sys.coreUp) = true := ⟨hp, by rw [hu]; rfl⟩
  unfold wakeCause
  rw [if_pos sleeps]
  exact bootCore_sys _

section
variable {r : Vector (List Int) 8}

theorem exec_wakeDetect (h : detecting r s ≠ []) : exec (.wakeDetect r) s = .next (wakeCause
    (if (detecting r s).any (fun n => !s.sys.npt.wk[n].activity) then 1 else 2)
    (BitVec.ofNat 8 ((detecting r s).map (fun n => 2 ^ n.val)).sum) s) :=
  congrArg Host.Outcome.next (if_neg (by simpa using h))

theorem runs_wakeDetect_level (hp : s.sys.power = .sleep) (hu : s.sys.coreUp = false) (h : ∃ n ∈ detecting r s, s.sys.npt.wk[n].activity = false) :
    Runs (.wakeDetect r) s (fun t => t.sys.power = .starting ∧ t.sys.npt.wakeCause = 1 ∧ t.sys.npt.wakes = s.sys.npt.wakes + 1 ∧
      t.sys.coreUp = false) := by
  obtain ⟨n, hn, ha⟩ := h
  have level : (detecting r s).any (fun n => !s.sys.npt.wk[n].activity) = true := List.any_eq_true.mpr ⟨n, hn, by rw [ha]; rfl⟩
  refine runs_of_exec (exec_wakeDetect (List.ne_nil_of_mem hn)) ?_
  rw [if_pos level, wakeCause_sleeping _ _ hp hu]
  exact ⟨rfl, rfl, rfl, hu⟩

theorem runs_wakeDetect_activity (hp : s.sys.power = .sleep) (hu : s.sys.coreUp = false) (hd : detecting r s ≠ [])
    (h : ∀ n ∈ detecting r s, s.sys.npt.wk[n].activity = true) : Runs (.wakeDetect r) s (fun t =>
      t.sys.power = .starting ∧ t.sys.npt.wakeCause = 2) := by
  have level : ¬ (detecting r s).any (fun n => !s.sys.npt.wk[n].activity) = true := by
    rw [List.any_eq_true]
    rintro ⟨n, hn, ha⟩
    rw [h n hn] at ha
    exact absurd ha (by decide)
  refine runs_of_exec (exec_wakeDetect hd) ?_
  rw [if_neg level, wakeCause_sleeping _ _ hp hu]
  exact ⟨rfl, rfl⟩

theorem wakeDetect_rests (h : detecting r s = []) : Rests (.wakeDetect r) s := congrArg Host.Outcome.next (if_pos (by rw [h]; rfl))

end

theorem runs_wallClockAlarm (ha : s.sys.npt.alarm ≠ 0) (hv : s.gb.wallValid = true) (hn : (wallNow s).toNat ≤ s.sys.npt.alarm.toNat)
    (hp : s.sys.power = .sleep) (hu : s.sys.coreUp = false) : Runs .wallClockAlarm s (fun t => t.sys.power = .starting ∧ t.sys.npt.wakeCause = 4) :=
      by
  refine runs_of_exec (congrArg Host.Outcome.next (if_pos (by rw [hv, decide_eq_true hn]; simpa using ha))) ?_
  generalize s.gb.wallBaseUs + 1000000 * (s.sys.npt.alarm.toNat - s.gb.wallSeconds.toNat) = us
  have later : (operatingTo us s).sys = s.sys := by
    unfold operatingTo
    split <;> rfl
  rw [wakeCause_sleeping _ _ (by rw [later]; exact hp) (by rw [later]; exact hu)]
  exact ⟨rfl, rfl⟩

theorem wallClockAlarm_rests (h : s.sys.npt.alarm = 0) : Rests .wallClockAlarm s := congrArg Host.Outcome.next (if_neg (by simp [h]))

/-- A cause leaves what the link sees. -/
theorem wakeCause_link (cause : Nat) (receivers : Byte) {s : State} (hp : s.sys.perst = false) (hw : s.sys.wakeN = false) :
    (wakeCause cause receivers s).sys.perst = false ∧ (wakeCause cause receivers s).sys.wakeN = false := by
  unfold wakeCause
  split
  · unfold wake
    dsimp only
    rw [bootCore_sys]
    exact ⟨hp, hp⟩
  · split
    · exact ⟨hp, hw⟩
    · exact ⟨hp, hw⟩

theorem runs_perstRelease (h : s.sys.perst = true) : Runs .perstRelease s (fun t => t.sys.perst = false ∧ t.sys.wakeN = false ∧
    (s.sys.power = .sleep → s.sys.coreUp = false → t.sys.power = .starting ∧ t.sys.npt.wakeCause = 3)) := by
  refine runs_of_exec (congrArg Host.Outcome.next (if_pos h)) ?_
  dsimp only
  generalize hm : modSys (fun v => { v with perst := false, wakeN := false, cfgReady := v.coreUp && v.innkeeper != .starting }) s = m
  generalize hl : (if (m.sys.cfgReady && !m.hif.inReset) = true then trainLink m else m) = l
  have hsys : l.sys = m.sys := by
    rw [← hl]
    split <;> rfl
  have hperst : l.sys.perst = false := by rw [hsys, ← hm]; rfl
  have hwake : l.sys.wakeN = false := by rw [hsys, ← hm]; rfl
  obtain ⟨h1, h2⟩ := wakeCause_link 3 0 hperst hwake
  refine ⟨h1, h2, fun hp hu => ?_⟩
  have hpower : l.sys.power = .sleep := by rw [hsys, ← hm]; exact hp
  have hup : l.sys.coreUp = false := by rw [hsys, ← hm]; exact hu
  rw [wakeCause_sleeping 3 0 hpower hup]
  exact ⟨rfl, rfl⟩

theorem perstRelease_rests (h : s.sys.perst = false) : Rests .perstRelease s := congrArg Host.Outcome.next (if_neg (by simp [h]))

end

/-- Settles O53: each event is its effect where its condition holds, and rests without it. -/
theorem sleepEvents : Obligations.SleepEvents := by
  unfold Obligations.SleepEvents
  exact fun _ _ _ => ⟨runs_rfReady, rfReady_rests, runs_sleepL2WaitEnd, sleepL2WaitEnd_rests, runs_autoSleep, autoSleep_rests,
    runs_wakeDetect_level, runs_wakeDetect_activity, wakeDetect_rests, runs_wallClockAlarm, wallClockAlarm_rests, runs_perstRelease,
    perstRelease_rests⟩

end Sys2Proof.Proofs
end

/-! # Ticks of loops and the end of a hand-over -/
section
namespace Sys2Proof.Proofs
open Sys2Proof Sys2Proof.Machine Sys2Proof.Safety Sys2Proof.Laws

/-! ## One loop after a change of one -/

theorem loop_modLoop_same {l : Nat} (hl : l < 192) (f : Loop → Loop) (s : State) : loop l (modLoop l f s) = f (loop l s) := by
  simp [loop, modLoop, modLoopEngine, nth, upd, hl]

theorem loop_modLoop_ne {k l : Nat} (h : k ≠ l) (f : Loop → Loop) (s : State) : loop l (modLoop k f s) = loop l s := by
  unfold loop modLoop modLoopEngine nth upd
  by_cases hk : k < 192
  · simp [hk, h]
  · simp [hk]

theorem modLoop_outside {l : Nat} (hl : ¬ l < 192) (f : Loop → Loop) (s : State) : modLoop l f s = s := by
  simp [modLoop, modLoopEngine, upd, hl]

theorem loop_of_loops {s t : State} (h : t.loops = s.loops) (l : Nat) : loop l t = loop l s := by
  unfold loop
  rw [h]

/-! ## What a loop's tick may do to what waits at any loop (R377, R390) -/

/-- What waits at a loop: whether it is defined, the start to be answered and the swap to be made. -/
def mark (x : Loop) : Bool × Option (Fin 22) × Bool := (x.defined, x.startRing, x.swapPending)

def marks (l : Nat) (s : State) : Bool × Option (Fin 22) × Bool := mark (loop l s)

/-- What waits at a loop stays or is done with: nothing new waits. -/
def Settles (l : Nat) (s t : State) : Prop :=
  (loop l t).defined = (loop l s).defined ∧ ((loop l s).startRing = none → (loop l t).startRing = none) ∧
  ((loop l s).swapPending = false → (loop l t).swapPending = false)

section
variable {l : Nat} {s t u : State}

theorem Settles.refl (l : Nat) (s : State) : Settles l s s := ⟨rfl, id, id⟩

theorem Settles.trans (h : Settles l s t) (g : Settles l t u) : Settles l s u := by
  obtain ⟨h1, h2, h3⟩ := h
  obtain ⟨g1, g2, g3⟩ := g
  exact ⟨g1.trans h1, fun hn => g2 (h2 hn), fun hn => g3 (h3 hn)⟩

theorem settles_of_marks (h : marks l t = marks l s) : Settles l s t := by
  have hd : (loop l t).defined = (loop l s).defined := congrArg Prod.fst h
  have hs : (loop l t).startRing = (loop l s).startRing := congrArg (fun v => v.2.1) h
  have hp : (loop l t).swapPending = (loop l s).swapPending := congrArg (fun v => v.2.2) h
  exact ⟨hd, fun hn => hs.trans hn, fun hn => hp.trans hn⟩

theorem settles_foldl {α : Type} (f : State → α → State) (as : List α) (s : State) (h : ∀ s a, Settles l s (f s a)) : Settles l s (as.foldl f s) :=
  List.foldlRecOn (motive := fun t => Settles l s t) as f (Settles.refl l s) (fun t ht a _ => ht.trans (h t a))

theorem marks_of_loops (h : t.loops = s.loops) : marks l t = marks l s := congrArg mark (loop_of_loops h l)

theorem marks_modLoop {k : Nat} {f : Loop → Loop} (h : mark (f (loop k s)) = mark (loop k s)) : marks l (modLoop k f s) = marks l s := by
  by_cases hk : k < 192
  · by_cases e : k = l
    · subst e
      unfold marks
      rw [loop_modLoop_same hk, h]
    · unfold marks
      rw [loop_modLoop_ne e]
  · rw [modLoop_outside hk]

/-- A change of one loop that ends what waits there. -/
theorem settles_modLoop {k : Nat} {f : Loop → Loop} (hd : (f (loop k s)).defined = (loop k s).defined)
    (hs : (loop k s).startRing = none → (f (loop k s)).startRing = none) (hp : (loop k s).swapPending = false → (f (loop k s)).swapPending = false) :
    Settles l s (modLoop k f s) := by
  by_cases hk : k < 192
  · by_cases e : k = l
    · subst e
      unfold Settles
      rw [loop_modLoop_same hk]
      exact ⟨hd, hs, hp⟩
    · unfold Settles
      rw [loop_modLoop_ne e]
      exact ⟨rfl, id, id⟩
  · rw [modLoop_outside hk]
    exact Settles.refl l s

theorem marks_postEvent (code severity source : Nat) (bytes : List Byte) (s : State) : marks l (postEvent code severity source bytes s) = marks l s :=
    by
  rw [postEvent_hif]
  rfl

end

section
variable (l k : Nat) (s : State)

theorem loops_postEvent (code severity source : Nat) (bytes : List Byte) (s : State) : (postEvent code severity source bytes s).loops = s.loops := by
  rw [postEvent_hif]

theorem loops_ladderMoved (s : State) : (ladderMoved k s).loops = s.loops := by
  unfold ladderMoved
  split
  · dsimp only
    generalize (if (loop k s).slot = 1 then LadderMode.de else .ccm) = new
    split
    · rfl
    · rw [loops_postEvent]
      rfl
  · rfl

theorem takeSwap_done {k : Nat} (hk : k < 192) (s : State) : marks k (takeSwap k s) = ((loop k s).defined, (loop k s).startRing, false) := by
  unfold takeSwap
  dsimp only
  split
  · next h =>
    have still : (loop k s).swapPending = false := by simpa using h
    rw [← still]
    rfl
  · have swapped : marks k (modLoop k (fun _ => (loop k s).swap true) s) = ((loop k s).defined, (loop k s).startRing, false) := by
      unfold marks
      rw [loop_modLoop_same hk]
      rfl
    split
    · exact swapped
    · exact swapped

theorem settles_takeSwap : Settles l s (takeSwap k s) := by
  unfold takeSwap
  dsimp only
  split
  · exact Settles.refl l s
  · have swapped : Settles l s (modLoop k (fun _ => (loop k s).swap true) s) := settles_modLoop rfl id (fun _ => rfl)
    split
    · exact swapped
    · exact swapped

/-- A hand-over that is given up ends at its loop, in the old slot. -/
theorem loops_abandonHand (h : HandOver) (detail : Nat) : (abandonHand k h detail s).loops = { (modLoop k (fun x =>
    { (x.setSlot x.slot (x.cur.back (coefShift x.cur.set) x.u1 x.ff1 x.e1)) with u1 := backTarget x.cur.set x.u1, handover := none }) s).loops with
      abandoned := true } := by
  have held (o : Option (Fin 10)) (t : State) : (match o with
      | some r => if h.ladder then modRail r (fun y => { y with moveHold := upd y.moveHold h.incoming.val (fun _ => 1024) }) t else t
      | none => t).loops = t.loops := by
    split
    · split <;> rfl
    · rfl
  unfold abandonHand
  dsimp only
  split
  · exact (held _ _).trans (loops_postEvent _ _ _ _ _)
  · exact (held _ _).trans (loops_postEvent _ _ _ _ _)

theorem marks_abandonHand (h : HandOver) (detail : Nat) : marks l (abandonHand k h detail s) = marks l s := by
  have given := loops_abandonHand k s h detail
  have one : loop l (abandonHand k h detail s) = loop l (modLoop k (fun x =>
    { (x.setSlot x.slot (x.cur.back (coefShift x.cur.set) x.u1 x.ff1 x.e1)) with u1 := backTarget x.cur.set x.u1, handover := none }) s) := by
    unfold loop
    rw [given]
  exact (congrArg mark one).trans (marks_modLoop rfl)

/-- A hand-over whose window has passed ends in the incoming slot within tolerance. -/
theorem loops_endHand_taken {h : HandOver} (hh : (loop k s).handover = some h) (hw : h.window ≤ h.ticks) (hg : h.gap ≤ h.tol) :
    (endHand k s).loops = (modLoop k (fun x => { x with slot := h.incoming, handover := none }) s).loops := by
  have moved (t : State) : (if h.ladder then ladderMoved k t else t).loops = t.loops := by
    split
    · exact loops_ladderMoved k t
    · rfl
  unfold endHand
  dsimp only
  rw [hh]
  dsimp only
  rw [if_neg (Nat.not_lt.mpr hw), if_pos hg]
  split
  · exact (moved _).trans (loops_postEvent _ _ _ _ _)
  · exact (moved _).trans (loops_postEvent _ _ _ _ _)

theorem endHand_none (hh : (loop k s).handover = none) : endHand k s = s := by
  unfold endHand
  dsimp only
  rw [hh]

theorem endHand_open {h : HandOver} (hh : (loop k s).handover = some h) (hw : h.ticks < h.window) : endHand k s = s := by
  unfold endHand
  dsimp only
  rw [hh]
  exact if_pos hw

theorem endHand_abandoned {h : HandOver} (hh : (loop k s).handover = some h) (hw : h.window ≤ h.ticks) (hg : h.tol < h.gap) :
    endHand k s = abandonHand k h 0x060F s := by
  unfold endHand
  dsimp only
  rw [hh]
  exact (if_neg (Nat.not_lt.mpr hw)).trans (if_neg (Nat.not_le.mpr hg))

theorem marks_endHand : marks l (endHand k s) = marks l s := by
  cases hh : (loop k s).handover with
  | none => rw [endHand_none k s hh]
  | some h =>
    rcases Nat.lt_or_ge h.ticks h.window with hw | hw
    · rw [endHand_open k s hh hw]
    · rcases Nat.lt_or_ge h.tol h.gap with hg | hg
      · rw [endHand_abandoned k s hh hw hg]
        exact marks_abandonHand l k s h _
      · exact (marks_of_loops (loops_endHand_taken k s hh hw hg)).trans (marks_modLoop rfl)

theorem marks_commitHand : marks l (commitHand k s) = marks l s := by
  unfold commitHand
  split
  · split
    · split <;> rfl
    · rfl
  · rfl

theorem marks_repReset (cause : Nat) : marks l (repReset k cause s) = marks l s := by
  unfold repReset
  dsimp only
  rw [marks_postEvent]
  exact marks_modLoop rfl

theorem loops_repAnswers (as : List (Fin 22)) (want : Desc → Bool) (results : State → List Int) (s : State) :
    (as.foldl (fun s q => hardwareDone q.val want (results s) s) s).loops = s.loops :=
  List.foldlRecOn (motive := fun (t : State) => t.loops = s.loops) as _ rfl (fun _ ht _ _ => ht)

theorem marks_repPeriod : marks l (repPeriod k s) = marks l s := by
  have reset : marks l (if (loop k s).rep.resetDue then repReset k 2 s else s) = marks l s := by
    split
    · exact marks_repReset l k s 2
    · rfl
  unfold repPeriod
  dsimp only
  generalize (if (loop k s).rep.resetDue then repReset k 2 s else s) = t at reset ⊢
  have answered := loops_repAnswers (loop k s).rep.resetRings (waitOf [0x0606] 0 2 k) (fun s => [((frameCount s).toNat : Int)]) t
  generalize (loop k s).rep.resetRings.foldl _ t = u at answered ⊢
  rw [← reset, ← marks_of_loops answered]
  exact marks_modLoop rfl

theorem marks_repIndex : marks l (repIndex k s) = marks l s := by
  unfold repIndex
  dsimp only
  split
  · rw [marks_repPeriod]
    exact marks_modLoop rfl
  · exact marks_modLoop rfl

theorem marks_writeSink : marks l (writeSink k s) = marks l s := by
  unfold writeSink
  dsimp only
  split
  · rfl
  · exact marks_modLoop rfl
  · rfl

theorem marks_repTick (e : Int) : marks l (repTick k e s) = marks l s := by
  unfold repTick
  dsimp only
  split
  · rfl
  · exact marks_modLoop rfl

theorem marks_superviseLoop : marks l (superviseLoop k s) = marks l s := by
  have raised (p q : Prop) [Decidable p] [Decidable q] (bytes : List Byte) (n obj : Nat) (t : State) :
      marks l (if p then raise n obj 0 (modLoopEngine (fun e => { e with satFault := true }) (if q then postEvent 0x0603 1 0xFFFF bytes t else t))
        else if q then postEvent 0x0603 1 0xFFFF bytes t else t) = marks l t := by
    have noted : marks l (if q then postEvent 0x0603 1 0xFFFF bytes t else t) = marks l t := by
      split
      · exact marks_postEvent _ _ _ _ _
      · rfl
    split
    · exact noted
    · exact noted
  unfold superviseLoop
  dsimp only
  split
  · rfl
  · split
    · exact marks_modLoop rfl
    · split
      · rfl
      · split
        · rw [raised]
          exact marks_modLoop rfl
        · refine marks_modLoop ?_
          split <;> rfl

theorem answerStart_done {k : Nat} (hk : k < 192) (result : Int) (s : State) :
    marks k (answerStart k result s) = ((loop k s).defined, none, (loop k s).swapPending) := by
  unfold answerStart
  split
  · show marks k (modLoop k (fun x => { x with startRing := none }) s) = _
    unfold marks
    rw [loop_modLoop_same hk]
    rfl
  · next h =>
    unfold marks mark
    rw [h]

theorem settles_answerStart (result : Int) : Settles l s (answerStart k result s) := by
  unfold answerStart
  split
  · exact settles_modLoop rfl (fun _ => rfl) id
  · exact Settles.refl l s

theorem settles_stopLoop : Settles l s (stopLoop k s) := by
  have ended (t : State) : Settles l t (modLoop k (fun x => { x with running := false, stopAfterSwap := false }) (answerStart k 1 t)) :=
    (settles_answerStart l k t 1).trans (settles_of_marks (marks_modLoop rfl))
  unfold stopLoop
  dsimp only
  split
  · exact (settles_takeSwap l k s).trans ((settles_of_marks (marks_abandonHand l k _ _ _)).trans (ended _))
  · exact (settles_takeSwap l k s).trans (ended _)

/-- A loop as its evaluation finds it, with its hand-over seen to and its index taken. -/
def indexed (k : Nat) (s : State) : State :=
  if (loop k (commitHand k (endHand k s))).cur.template = 5 then repIndex k (commitHand k (endHand k s)) else commitHand k (endHand k s)

theorem marks_indexed : marks l (indexed k s) = marks l s := by
  unfold indexed
  split
  · rw [marks_repIndex, marks_commitHand, marks_endHand]
  · rw [marks_commitHand, marks_endHand]

/-- What its evaluation makes of a loop. -/
def nextLoop (k : Nat) (s : State) : Loop :=
  let x := loop k s
  let i := tickInputs x s
  let y := match x.handover with
    | some h => evalHand x h i.2.1 i.2.2
    | none => evalPlain x i.2.1 i.2.2 (repOutput x.rep s)
  let v := if truncated k s then takeFree s else (0, s)
  let cut : Int := if (rail (Fin.ofNat 10 (k - 136)) s).suppressed then 0 else ((Config.freeValue v.1).toNat % (y.u1.toNat + 1) : Nat)
  let y := if truncated k s then { y with u1 := cut, limHi := true } else y
  { y with lastCount := frameCount s }

theorem mark_nextLoop : mark (nextLoop k s) = mark (loop k s) := by
  have plain (x : Loop) (m e learned : Int) : mark (evalPlain x m e learned) = mark x := rfl
  have hand (x : Loop) (h : HandOver) (m e : Int) : mark (evalHand x h m e) = mark x := rfl
  have cut (p : Prop) [Decidable p] (y : Loop) (u : Int) (c : Word) :
      mark { (if p then { y with u1 := u, limHi := true } else y) with lastCount := c } = mark y := by split <;> rfl
  unfold nextLoop
  dsimp only
  rw [cut]
  split
  · exact hand _ _ _ _
  · exact plain _ _ _ _

/-- The state with a loop's evaluation written back, and its sinks and watches served. -/
def evaluated (k : Nat) (s : State) : State :=
  superviseLoop k (writeSink k (repTick k (tickInputs (loop k s) s).2.2
    (modLoop k (fun _ => nextLoop k s) (if truncated k s then takeFree s else (0, s)).2)))

theorem marks_evaluated : marks l (evaluated k s) = marks l s := by
  have freed : (if truncated k s then takeFree s else (0, s)).2.loops = s.loops := by split <;> rfl
  unfold evaluated
  rw [marks_superviseLoop, marks_writeSink, marks_repTick]
  generalize (if truncated k s then takeFree s else (0, s)).2 = v at freed ⊢
  refine (marks_modLoop ?_).trans (marks_of_loops freed)
  rw [loop_of_loops freed]
  exact mark_nextLoop k s

theorem evalLoop_eq (s : State) : evalLoop k s = answerStart k 0 (evaluated k (indexed k (takeSwap k s))) ∨
    evalLoop k s = stopLoop k (answerStart k 0 (evaluated k (indexed k (takeSwap k s)))) :=
  (ite_eq_or_eq _ _ _).symm

theorem settles_evalLoop : Settles l s (evalLoop k s) := by
  have answered : Settles l s (answerStart k 0 (evaluated k (indexed k (takeSwap k s)))) :=
    (settles_takeSwap l k s).trans ((settles_of_marks ((marks_evaluated l k _).trans (marks_indexed l k _))).trans (settles_answerStart l k _ 0))
  rcases evalLoop_eq k s with h | h <;> rw [h]
  · exact answered
  · exact answered.trans (settles_stopLoop l k _)

/-- A loop evaluated has answered its start and made its swap. -/
theorem evalLoop_done {k : Nat} (hk : k < 192) (s : State) : (loop k (evalLoop k s)).startRing = none ∧ (loop k (evalLoop k s)).swapPending = false :=
    by
  have swapped := takeSwap_done hk s
  have evaluatedMarks := (marks_evaluated k k _).trans ((marks_indexed k k (takeSwap k s)).trans swapped)
  have still : (loop k (evaluated k (indexed k (takeSwap k s)))).swapPending = false := congrArg (fun v => v.2.2) evaluatedMarks
  have answered := answerStart_done hk 0 (evaluated k (indexed k (takeSwap k s)))
  have hring : (loop k (answerStart k 0 (evaluated k (indexed k (takeSwap k s))))).startRing = none := congrArg (fun v => v.2.1) answered
  have hswap : (loop k (answerStart k 0 (evaluated k (indexed k (takeSwap k s))))).swapPending = false :=
    (congrArg (fun v => v.2.2) answered).trans still
  rcases evalLoop_eq k s with h | h <;> rw [h]
  · exact ⟨hring, hswap⟩
  · obtain ⟨-, h1, h2⟩ := settles_stopLoop k k (answerStart k 0 (evaluated k (indexed k (takeSwap k s))))
    exact ⟨h1 hring, h2 hswap⟩

theorem marks_mirrorTick : marks l (mirrorTick k s) = marks l s := by
  unfold mirrorTick
  dsimp only
  rw [marks_writeSink]
  exact marks_modLoop rfl

theorem marks_sendTwin (m : ControlMsg) : marks l (sendTwin m s) = marks l s := by
  unfold sendTwin sendFrame
  split <;> rfl

/-- A tick of a loop that its standby does not mirror is its evaluation, told to the standby. -/
theorem marks_railTick (h : mirrored k s = false) : marks l (railTick k s) = marks l (evalLoop k s) := by
  have own : ¬ mirrored k s = true := by rw [h]; decide
  unfold railTick
  rw [if_neg own]
  dsimp only
  split
  · exact marks_sendTwin l _ _
  · rfl

theorem settles_railTick : Settles l s (railTick k s) := by
  cases h : mirrored k s
  · exact (settles_evalLoop l k s).trans (settles_of_marks (marks_railTick l k s h))
  · unfold railTick
    rw [if_pos h]
    exact settles_of_marks (marks_mirrorTick l k s)

theorem settles_tickChain (n : Nat) : Settles l s (tickChain n k s) := by
  induction n generalizing k s with
  | zero => exact settles_railTick l k s
  | succ n ih => exact (settles_railTick l k s).trans (settles_foldl _ _ _ (fun t j => ih j t))

/-- A chain of ticks begins with its first loop's, and settles it. -/
theorem tickChain_done {k : Nat} (hk : k < 192) (n : Nat) (s : State) (h : mirrored k s = false) : (loop k (tickChain n k s)).startRing = none ∧
    (loop k (tickChain n k s)).swapPending = false ∧ (loop k (tickChain n k s)).defined = (loop k s).defined := by
  obtain ⟨hring, hswap⟩ := evalLoop_done hk s
  have marked := settles_of_marks (marks_railTick k k s h)
  have chain : Settles k (railTick k s) (tickChain n k s) := by
    cases n with
    | zero => exact Settles.refl _ _
    | succ n => exact settles_foldl _ _ _ (fun t j => settles_tickChain k j t n)
  obtain ⟨-, h1, h2⟩ := marked.trans chain
  exact ⟨h1 hring, h2 hswap, (settles_tickChain k k s n).1⟩

end

/-! ## LOOP_TICK (R377, R380) -/

section
variable {l : Fin 192} {s : State}

theorem loopTick_rests_gain (b : Bool) (h : l.val < 136) : Rests (.loopTick l b) s := congrArg Host.Outcome.next (if_pos (by simp [h]))

theorem loopTick_rests_stopped (b : Bool) (hr : (loop l.val s).running = false) (ht : (loop l.val s).cur.template ≠ 5) :
    Rests (.loopTick l b) s := by
  have idle : idlePeriod l.val s = s := if_pos (.inl ht)
  have stopped : (!(loop l.val s).running) = true := by rw [hr]; rfl
  show execLoopTick l b s = _
  unfold execLoopTick
  rw [if_pos stopped, idle, ite_self]

/-- The state with its loop's tick taken. -/
def ticked (n : Option (Fin 10) × Nat) (l : Nat) (s : State) : State := tickTaken n.2 l (if n.1.isNone then advanceTo n.2 s else s)

/-- A tick that is due alone at its instant is its loop's. -/
theorem exec_loopTick (b : Bool) (n : Option (Fin 10) × Nat) (hl : 136 ≤ l.val) (hu : s.sys.coreUp = true) (hr : (loop l.val s).running = true)
    (hn : nextTick l.val s = some n) (hf : readyBefore l.val s = []) : exec (.loopTick l b) s =
      .next (if b then overrun l.val (ticked n l.val s) else tickChain 40 l.val (ticked n l.val s)) := by
  have own : ¬ (decide (l.val < 136) || !s.sys.coreUp) = true := by
    rw [hu, decide_eq_false (Nat.not_lt.mpr hl)]
    decide
  have going : ¬ (!(loop l.val s).running) = true := by rw [hr]; decide
  show execLoopTick l b s = _
  unfold execLoopTick
  rw [if_neg own, if_neg going, hn, hf]
  rfl

theorem ticked_loops (n : Option (Fin 10) × Nat) (l : Nat) (s : State) :
    ∃ k, ticked n l s = modLoop l (fun x => { x with tickFrom := n.2 + 1 }) { s with now := k } := by
  unfold ticked
  split
  · exact ⟨_, rfl⟩
  · exact ⟨s.now, rfl⟩

theorem runs_loopTick_overrun (n : Option (Fin 10) × Nat) (hl : 136 ≤ l.val) (hu : s.sys.coreUp = true) (hr : (loop l.val s).running = true)
    (hn : nextTick l.val s = some n) (hf : readyBefore l.val s = []) : Runs (.loopTick l true) s (fun t =>
      (loop l.val t).overruns = BitVec.ofNat 16 (satAdd 16 (loop l.val s).overruns.toNat 1) ∧ (loop l.val t).u1 = (loop l.val s).u1 ∧
      t.loops.overrun = true ∧ Raised 248 (object 10 l.val) t ∧ t.supply = s.supply) := by
  refine runs_of_exec (exec_loopTick true n hl hu hr hn hf) ?_
  rw [if_pos rfl]
  obtain ⟨k, hk⟩ := ticked_loops n l.val s
  have ticking : loop l.val (ticked n l.val s) = { loop l.val s with tickFrom := n.2 + 1 } := by
    rw [hk, loop_modLoop_same l.isLt]
    rfl
  have supply : (ticked n l.val s).supply = s.supply := by
    rw [hk]
    rfl
  generalize ticked n l.val s = m at ticking supply ⊢
  unfold overrun
  dsimp only
  generalize payload 16 _ = bytes
  generalize hc : modLoop l.val _ m = c
  have counted : loop l.val c = { loop l.val m with overruns := BitVec.ofNat 16 (satAdd 16 (loop l.val m).overruns.toNat 1) } := by
    rw [← hc, loop_modLoop_same l.isLt]
  have posted := loops_postEvent 0x0604 2 248 bytes
    (raise 248 (object 10 l.val) 0 (modLoopEngine (fun e => { e with overrun := true, overruns := satAdd 32 e.overruns 1 }) c))
  have one : loop l.val (postEvent 0x0604 2 248 bytes (raise 248 (object 10 l.val) 0
      (modLoopEngine (fun e => { e with overrun := true, overruns := satAdd 32 e.overruns 1 }) c))) = loop l.val c :=
        (loop_of_loops posted l.val).trans rfl
  refine ⟨?_, ?_, ?_, raised_postEvent _ _ _ _ (raised_raise _ _ _ _), ?_⟩
  · rw [one, counted, ticking]
  · rw [one, counted, ticking]
  · rw [posted]
    rfl
  · rw [postEvent_hif, ← supply, ← hc]
    rfl

theorem runs_loopTick (n : Option (Fin 10) × Nat) (hl : 136 ≤ l.val) (hu : s.sys.coreUp = true) (hr : (loop l.val s).running = true)
    (hn : nextTick l.val s = some n) (hf : readyBefore l.val s = []) (hs : inStandby s = false) : Runs (.loopTick l false) s (fun t =>
      (loop l.val t).startRing = none ∧ (loop l.val t).swapPending = false ∧ (loop l.val t).defined = (loop l.val s).defined) := by
  refine runs_of_exec (exec_loopTick false n hl hu hr hn hf) ?_
  rw [if_neg Bool.false_ne_true]
  obtain ⟨k, hk⟩ := ticked_loops n l.val s
  have own : mirrored l.val (ticked n l.val s) = false := by
    rw [hk]
    show (inStandby s && _) = false
    rw [hs, Bool.false_and]
  have still : (loop l.val (ticked n l.val s)).defined = (loop l.val s).defined := by
    rw [hk, loop_modLoop_same l.isLt]
    rfl
  obtain ⟨hring, hswap, hdef⟩ := tickChain_done l.isLt 40 (ticked n l.val s) own
  exact ⟨hring, hswap, hdef.trans still⟩

/-! ## HANDOVER_WINDOW_END (R390, R391) -/

section
variable {h : HandOver}

theorem handoverWindowEnd_rests_none (hh : (loop l.val s).handover = none) : Rests (.handoverWindowEnd l) s :=
  congrArg Host.Outcome.next (endHand_none l.val s hh)

theorem handoverWindowEnd_rests_open (hh : (loop l.val s).handover = some h) (hw : h.ticks < h.window) : Rests (.handoverWindowEnd l) s :=
  congrArg Host.Outcome.next (endHand_open l.val s hh hw)

theorem runs_handoverWindowEnd_taken (hh : (loop l.val s).handover = some h) (hw : h.window ≤ h.ticks) (hg : h.gap ≤ h.tol) :
    Runs (.handoverWindowEnd l) s (fun t =>
      (loop l.val t).slot = h.incoming ∧ (loop l.val t).handover = none ∧ (loop l.val t).u1 = (loop l.val s).u1) := by
  refine runs_of_exec (i := .handoverWindowEnd l) rfl ?_
  rw [loop_of_loops (loops_endHand_taken l.val s hh hw hg), loop_modLoop_same l.isLt]
  exact ⟨rfl, rfl, rfl⟩

theorem runs_handoverWindowEnd_abandoned (hh : (loop l.val s).handover = some h) (hw : h.window ≤ h.ticks) (hg : h.tol < h.gap) :
    Runs (.handoverWindowEnd l) s (fun t =>
      (loop l.val t).slot = (loop l.val s).slot ∧ (loop l.val t).handover = none ∧ t.loops.abandoned = true) := by
  refine runs_of_exec (congrArg Host.Outcome.next (endHand_abandoned l.val s hh hw hg)) ?_
  have given := loops_abandonHand l.val s h 0x060F
  have one := (congrArg (fun e : LoopEngine => nth e.loops l.val Loop.reset) given).trans
    (loop_modLoop_same l.isLt (fun x =>
      { (x.setSlot x.slot (x.cur.back (coefShift x.cur.set) x.u1 x.ff1 x.e1)) with u1 := backTarget x.cur.set x.u1, handover := none }) s)
  have hslot := congrArg Loop.slot one
  have hnone := congrArg Loop.handover one
  have hab := congrArg LoopEngine.abandoned given
  exact ⟨hslot, hnone, hab⟩

end

end

/-- Settles O47: a tick and the end of a hand-over are their loop's, and rest where nothing is due. -/
theorem loopEvents : Obligations.LoopEvents := by
  unfold Obligations.LoopEvents
  exact fun _ b _ _ => ⟨loopTick_rests_gain b, fun _ => loopTick_rests_stopped b, runs_loopTick_overrun, runs_loopTick, handoverWindowEnd_rests_none,
    handoverWindowEnd_rests_open, runs_handoverWindowEnd_taken, runs_handoverWindowEnd_abandoned⟩

end Sys2Proof.Proofs
end

/-! # Frames, lane failures, training and reclaim of a link -/
section
namespace Sys2Proof.Proofs
open Sys2Proof Sys2Proof.Machine Sys2Proof.Safety Sys2Proof.Laws

/-! ## What traffic leaves of the links -/

/-- What traffic leaves of a link: its state and lanes, its neighbour, the sequence it expects, its retries, and what its reclaim holds and has
counted. -/
def bond (x : ObxLink) : ObxState × BitVec 4 × Fin 16 × BitVec 12 × Nat × List ObxFrame × Nat :=
  (x.state, x.lanes, x.neighbour, x.recvSeq, x.retries, x.pending, x.reclaimed)

def bonds (s : State) : Vector (ObxState × BitVec 4 × Fin 16 × BitVec 12 × Nat × List ObxFrame × Nat) 5 := s.fabric.links.map bond

theorem bonds_ite (p : Prop) [Decidable p] (s t : State) : bonds (if p then s else t) = if p then bonds s else bonds t := apply_ite bonds p s t

theorem bonds_foldl {α : Type} (f : State → α → State) (l : List α) (s : State) (h : ∀ s a, bonds (f s a) = bonds s) : bonds (l.foldl f s) =
    bonds s :=
  List.foldlRecOn (motive := fun t => bonds t = bonds s) l f rfl (fun t ht a _ => (h t a).trans ht)

theorem bonds_modLink (l : Nat) (f : ObxLink → ObxLink) (s : State) (h : ∀ x, bond (f x) = bond x := by exact fun _ => rfl) :
    bonds (modLink l f s) = bonds s :=
  map_upd_same _ _ _ _ h

theorem bond_link {s t : State} (h : bonds t = bonds s) (l : Nat) : bond (link l t) = bond (link l s) := by
  unfold link nth
  split
  · next hl =>
    have one := congrArg (fun v => v[l]) h
    simpa [bonds] using one
  · rfl

section
variable {l : Nat} {s t : State} (h : bonds t = bonds s)
include h

theorem state_of_bonds : (link l t).state = (link l s).state := congrArg (fun v => v.1) (bond_link h l)

theorem neighbour_of_bonds : (link l t).neighbour = (link l s).neighbour := congrArg (fun v => v.2.2.1) (bond_link h l)

theorem recvSeq_of_bonds : (link l t).recvSeq = (link l s).recvSeq := congrArg (fun v => v.2.2.2.1) (bond_link h l)

theorem retries_of_bonds : (link l t).retries = (link l s).retries := congrArg (fun v => v.2.2.2.2.1) (bond_link h l)

theorem pending_of_bonds : (link l t).pending = (link l s).pending := congrArg (fun v => v.2.2.2.2.2.1) (bond_link h l)

theorem reclaimed_of_bonds : (link l t).reclaimed = (link l s).reclaimed := congrArg (fun v => v.2.2.2.2.2.2) (bond_link h l)

theorem carries_of_bonds : (link l t).carries = (link l s).carries := by
  unfold ObxLink.carries
  rw [state_of_bonds h]

end

theorem bonds_systemRecord (cls severity code writer : Nat) (bytes : List Byte) (events : List EventRec) (s : State) :
    bonds (systemRecord cls severity code writer bytes events s) = bonds s := by
  obtain ⟨x, y, h⟩ := systemRecord_records cls severity code writer bytes events s
  rw [h]
  rfl

theorem bonds_raise (n obj detail : Nat) (s : State) : bonds (raise n obj detail s) = bonds s := rfl

theorem bonds_modDir (c : Fin 64) (d : Dir) (f : Direction → Direction) (s : State) : bonds (modDir c d f s) = bonds s := rfl

theorem bonds_modTwin (f : Twin → Twin) (s : State) : bonds (modTwin f s) = bonds s := rfl

/-! ## Sending -/

theorem bonds_sendFrame {l : Nat} {f : ObxFrame} {s t : State} (h : sendFrame l f s = some t) : bonds t = bonds s := by
  unfold sendFrame at h
  split at h
  · rw [← Option.some.inj h]
    exact bonds_modLink _ _ s
  · exact absurd h nofun

theorem bonds_sendFrame_getD (l : Nat) (f : ObxFrame) (s : State) : bonds ((sendFrame l f s).getD s) = bonds s := by
  cases h : sendFrame l f s with
  | none => rfl
  | some t => exact bonds_sendFrame h

theorem bonds_sendOn (l : Nat) (m : ControlMsg) (s : State) : bonds (sendOn l m s) = bonds s := bonds_sendFrame_getD _ _ _

theorem bonds_sendTwin (m : ControlMsg) (s : State) : bonds (sendTwin m s) = bonds s := bonds_sendFrame_getD _ _ _

theorem bonds_sendControl (a : Nat) (m : ControlMsg) (s : State) : bonds (sendControl a m s) = bonds s := by
  unfold sendControl
  split
  · exact bonds_sendFrame_getD _ _ _
  · rfl

theorem bonds_flushTwin (msgs : List ControlMsg) (s : State) : bonds (flushTwin msgs s) = bonds s := by
  induction msgs generalizing s with
  | nil => rfl
  | cons m rest ih =>
    unfold flushTwin
    split
    · next t h => rw [ih, bonds_sendFrame h]
    · rfl

theorem bond_idles (src dst : Nat) (nak : Bool) (n : Nat) (x : ObxLink) : bond (ObxLink.idles src dst nak n x).2 = bond x := by
  induction n generalizing x with
  | zero => rfl
  | succ n ih =>
    unfold ObxLink.idles
    dsimp only
    split
    · rfl
    · exact ih _

theorem bonds_sendIdle (l : Nat) (nak : Bool) (s : State) : bonds (sendIdle l nak s) = bonds s := by
  unfold sendIdle
  split
  · exact bonds_modLink _ _ s (fun x => bond_idles _ _ _ _ x)
  · rfl

theorem bonds_answerLinks (heard : Nat) (s : State) : bonds (answerLinks heard s) = bonds s := by
  simp only [answerLinks, bonds_foldl, bonds_ite, bonds_sendIdle, implies_true, ite_self]

/-! ## Receiving (R604, R606, R615) -/

theorem bonds_takeSlot (l : Nat) (tc : Fin 4) (s : State) : bonds (takeSlot l tc s) = bonds s := bonds_modLink _ _ s

theorem bonds_freeSlot (l : Nat) (tc : Fin 4) (s : State) : bonds (freeSlot l tc s) = bonds s := bonds_modLink _ _ s

theorem bonds_undeliverable (f : ObxFrame) (s : State) : bonds (undeliverable f s) = bonds s := by
  unfold undeliverable
  split <;> rfl

theorem bonds_forwardFrame (l : Nat) (f : ObxFrame) (s : State) : bonds (forwardFrame l f s) = bonds s := by
  unfold forwardFrame
  split
  · rw [bonds_freeSlot, bonds_undeliverable]
  · split
    · next t h => rw [bonds_freeSlot, bonds_sendFrame h]
    · exact bonds_modLink _ _ s

theorem bonds_drainLinks (s : State) : bonds (drainLinks s) = bonds s := by
  refine bonds_foldl _ _ _ (fun t l => ?_)
  unfold drainLink
  rw [bonds_foldl _ _ _ (fun _ _ => bonds_forwardFrame _ _ _)]
  exact bonds_modLink _ _ t

theorem bonds_setTwinState (v : TwinState) (cause : Nat) (s : State) : bonds (setTwinState v cause s) = bonds s := by
  obtain ⟨x, n, a, k, h⟩ := setTwinState_pair v cause s
  rw [h]
  rfl

theorem bonds_compareMirror (own peer : MirrorRec) (s : State) : bonds (compareMirror own peer s) = bonds s := by
  simp only [compareMirror, leaveLockstep, bonds_ite, bonds_sendTwin, bonds_setTwinState, bonds_raise, bonds_modTwin, ite_self]

theorem bonds_matchFulls (own : List MirrorRec) (s : State) : bonds (matchFulls own s) = bonds s := by
  refine bonds_foldl _ _ _ (fun t r => ?_)
  split
  · dsimp only
    split
    · rfl
    · rw [bonds_compareMirror, bonds_modTwin]
  · rfl

theorem bonds_stampLine (k : EpochKind) (c : Fin 64) (d : Dir) (n first : Nat) (s : State) : bonds (stampLine k c d n first s) = bonds s := by
  have setting (x : Setting) (t : State) : bonds (stampSetting n c d x t) = bonds t := by
    cases x with
    | definition df tdd moved => cases moved <;> rfl
    | _ => rfl
  unfold stampLine
  dsimp only
  split
  · rfl
  · exact bonds_foldl _ _ _ (fun t x => setting x t)

theorem bonds_blockArrived (c : Fin 64) (d : Dir) (f : ObxFrame) (s : State) : bonds (blockArrived c d f s).2 = bonds s := by
  unfold blockArrived
  dsimp only
  split <;> rfl

theorem bonds_arriveBlock (f : ObxFrame) (s : State) : bonds (arriveBlock f s) = bonds s := by
  have dropped (t : State) : bonds (dropBlock t f) = bonds t := rfl
  simp only [arriveBlock, bonds_ite, dropped, bonds_modDir, bonds_stampLine, bonds_blockArrived, ite_self]

theorem bonds_arriveReference (f : ObxFrame) (s : State) : bonds (arriveReference f s) = bonds s := by
  have dropped (t : State) : bonds (dropBlock t f) = bonds t := rfl
  have history (c : Fin 64) (d : Dir) (l : List Block) (t : State) : bonds (Machine.keepHistory c d l t) = bonds t :=
    bonds_foldl _ _ _ (fun _ _ => rfl)
  simp only [arriveReference, bonds_ite, dropped, history, ite_self]

theorem bonds_arriveFull (f : ObxFrame) (s : State) : bonds (arriveFull f s) = bonds s := by
  simp only [arriveFull, bonds_ite, bonds_matchFulls, bonds_modTwin, ite_self]

/-- A block delivered or passed on leaves the links as traffic does. -/
theorem bonds_deliverBlock (l : Nat) {f : ObxFrame} (h : f.kind = .block) (s : State) : bonds (deliverFrame l f s) = bonds s := by
  have taken : ¬ f.kind = .census := by rw [h]; decide
  have billet : ¬ (!takesBillet f.kind) = true := by rw [h]; decide
  have consumed (t : State) : bonds (consumeFrame l f t) = bonds t := by
    unfold consumeFrame
    rw [h]
    simp only [bonds_ite, bonds_arriveFull, bonds_arriveBlock, bonds_arriveReference, ite_self]
  unfold deliverFrame
  rw [if_neg taken, if_neg billet]
  dsimp only
  split
  · rw [bonds_forwardFrame, bonds_takeSlot]
  · rw [bonds_freeSlot, consumed, bonds_takeSlot]

theorem bonds_takeHeader (l : Nat) {f : ObxFrame} (h : f.nak = false) (s : State) : bonds (takeHeader l f s) = bonds s := by
  have acked (t : State) : bonds (takeAck l f t) = bonds t := by
    unfold takeAck
    dsimp only
    split
    · exact bonds_modLink _ _ t
    · rfl
  have returned (t : State) : bonds (takeReturned l f t) = bonds t := by
    unfold takeReturned
    split
    · exact bonds_modLink _ _ t
    · rfl
  have quiet : ¬ f.nak = true := by rw [h]; decide
  unfold takeHeader
  dsimp only
  rw [if_neg quiet, bonds_ite, bonds_flushTwin, ite_self, returned, acked]

section
variable {l : Fin 5} {f : ObxFrame} {s : State}

theorem obxFrame_rests (h : (link l.val s).carries = false) : Rests (.obxFrameReceive l f) s :=
  congrArg Host.Outcome.next (if_pos (by rw [h]; rfl))

theorem link_reached (hl : (link l.val s).carries = true) (hu : s.sys.coreUp = true) :
    ¬ (!((link l.val s).carries && s.sys.coreUp)) = true := by
  rw [hl, hu]
  decide

theorem runs_obxFrame_bad (hl : (link l.val s).carries = true) (hu : s.sys.coreUp = true) (hc : f.crcOk = false) :
    Runs (.obxFrameReceive l f) s (fun t => (link l.val t).nakWait = true ∧ (link l.val t).recvSeq = (link l.val s).recvSeq ∧
      t = { s with fabric := t.fabric }) := by
  have bad : (!f.crcOk) = true := by rw [hc]; rfl
  refine runs_of_exec (congrArg Host.Outcome.next ((if_neg (link_reached hl hu)).trans (if_pos bad))) ?_
  have waits (src dst : Nat) (nak : Bool) (n : Nat) (x : ObxLink) : (ObxLink.idles src dst nak n x).2.nakWait = x.nakWait := by
    induction n generalizing x with
    | zero => rfl
    | succ n ih =>
      unfold ObxLink.idles
      dsimp only
      split
      · rfl
      · exact ih _
  have asked := link_modLink_same l.val (fun x => { x with nakWait := true }) s l.isLt
  refine ⟨?_, ?_, ?_⟩
  · unfold sendIdle
    split
    · rw [link_modLink_same _ _ _ l.isLt, waits, asked]
    · rw [asked]
  · rw [recvSeq_of_bonds (bonds_sendIdle _ _ _), asked]
  · unfold sendIdle
    split <;> rfl

theorem runs_obxFrame_block (hl : (link l.val s).carries = true) (hu : s.sys.coreUp = true) (hc : f.crcOk = true) (hn : f.nak = false)
    (hk : f.kind = .block) (hs : f.seq = (link l.val s).recvSeq) : Runs (.obxFrameReceive l f) s (fun t =>
      (link l.val t).recvSeq = (link l.val s).recvSeq + 1) := by
  have good : ¬ (!f.crcOk) = true := by rw [hc]; decide
  have header := bonds_takeHeader l.val hn s
  have going : ¬ (f.kind = .idle ∨ (!(link l.val (takeHeader l.val f s)).carries) = true) := by
    rw [carries_of_bonds header, hl, hk]
    decide
  have fresh : ¬ (!(f.kind != .idle && f.seq == (link l.val s).recvSeq)) = true := by
    rw [hk, hs]
    simp
  refine runs_of_exec (congrArg Host.Outcome.next ((if_neg (link_reached hl hu)).trans ((if_neg good).trans ((if_neg going).trans (if_neg fresh)))))
    ?_
  dsimp only
  rw [recvSeq_of_bonds ((bonds_answerLinks _ _).trans ((bonds_drainLinks _).trans (bonds_deliverBlock l.val hk _))),
    link_modLink_same _ _ _ l.isLt]
  exact congrArg (· + 1) (recvSeq_of_bonds header)

end

/-! ## A link that goes down (R608) -/

theorem bonds_answerLink (want : Desc → Bool) (o : Option (Fin 22)) (results : List Int) (s : State) : bonds (answerLink want o results s) =
    bonds s := by
  cases o <;> rfl

theorem bonds_detachTwin (cause : Nat) (s : State) : bonds (detachTwin cause s) = bonds s := by
  simp only [detachTwin, failSync, bonds_ite, bonds_answerLink, bonds_setTwinState, bonds_modTwin, ite_self]

theorem bonds_flood (e : Nat) (a : Fin 16) (near : List (Fin 16 × Int)) (s : State) : bonds (flood e a near s) = bonds s := by
  simp only [flood, bonds_foldl, bonds_ite, bonds_sendOn, implies_true, ite_self]

theorem bonds_floodOwn (s : State) : bonds (floodOwn s) = bonds s := bonds_flood _ _ _ _

theorem bonds_routeLost (s : State) (a : Nat) : bonds (routeLost s a) = bonds s := by
  unfold routeLost
  split
  · rfl
  · exact bonds_foldl _ _ _ (fun _ _ => rfl)

theorem bonds_setMembers (s : State) : bonds (setMembers s) = bonds s := by
  have one (f : Fabric → Fabric) (hf : ∀ x, (f x).links = x.links) : bonds (modFabric f s) = bonds s :=
    congrArg (Vector.map bond) (hf s.fabric)
  unfold setMembers
  rw [bonds_ite, bonds_systemRecord, ite_self]
  exact one _ (fun _ => rfl)

theorem bonds_orient (levels : List (Fin 16 × Nat)) (l : Nat) (s : State) :
    bonds (modLink l (fun x => { x with up := x.known && upEdge levels (Fin.ofNat 16 (deviceAddress s)) x.neighbour }) s) = bonds s :=
  bonds_modLink l _ s (fun _ => rfl)

theorem bonds_orientLinks (s : State) : bonds (orientLinks s) = bonds s := bonds_foldl _ _ _ (fun t l => bonds_orient _ l t)

theorem bonds_fabricChanged (s : State) : bonds (fabricChanged s) = bonds s := by
  unfold fabricChanged installRoutes
  split
  · dsimp only
    rw [bonds_foldl _ _ _ (fun t a => ?lost), bonds_orientLinks, bonds_setMembers]
    · rfl
    case lost =>
      rw [bonds_ite, bonds_routeLost, ite_self]
  · rfl

/-- A link's state set is that link's, with its event. -/
theorem setLink_link (l : Nat) (v : ObxState) (lanes : BitVec 4) (s : State) :
    ∃ x, setLink l v lanes s = { modLink l (fun x => { x with state := v, lanes := lanes }) s with hif := x } := by
  unfold setLink
  dsimp only
  split
  · exact ⟨s.hif, rfl⟩
  · exact ⟨_, postEvent_hif _ _ _ _ _⟩

theorem link_setLink {l : Nat} (hl : l < 5) (v : ObxState) (lanes : BitVec 4) (s : State) :
    link l (setLink l v lanes s) = { link l s with state := v, lanes := lanes } := by
  obtain ⟨x, h⟩ := setLink_link l v lanes s
  rw [h]
  exact link_modLink_same l (fun x => { x with state := v, lanes := lanes }) s hl

section
variable {n obj : Nat} {s : State}

theorem raised_setLink (l : Nat) (v : ObxState) (lanes : BitVec 4) (h : Raised n obj s) : Raised n obj (setLink l v lanes s) := by
  obtain ⟨x, hx⟩ := setLink_link l v lanes s
  rw [hx]
  exact h

theorem raised_answerLink (want : Desc → Bool) (o : Option (Fin 22)) (results : List Int) (h : Raised n obj s) :
    Raised n obj (answerLink want o results s) := by
  cases o <;> exact h

theorem raised_detachTwin (cause : Nat) (h : Raised n obj s) : Raised n obj (detachTwin cause s) := by
  unfold detachTwin failSync
  split
  · obtain ⟨x, m, a, k, hs⟩ := setTwinState_pair .detached cause (modTwin (fun t => { t with syncRing := none }) s)
    dsimp only
    rw [hs]
    exact raised_answerLink _ _ _ h
  · exact h

theorem raised_foldl {α : Type} (f : State → α → State) (l : List α) (hf : ∀ t a, Raised n obj t → Raised n obj (f t a)) (h : Raised n obj s) :
    Raised n obj (l.foldl f s) := List.foldlRecOn (motive := Raised n obj) l f h (fun t ht a _ => hf t a ht)

theorem raised_sendOn (l : Nat) (m : ControlMsg) (h : Raised n obj s) : Raised n obj (sendOn l m s) := by
  unfold sendOn
  obtain ⟨x, hx⟩ := sendFrame_fabric l { blankFrame .control 2 (deviceAddress s) (link l s).neighbour.val with msg := m } s
  rw [hx]
  exact h

theorem raised_floodOwn (h : Raised n obj s) : Raised n obj (floodOwn s) :=
  raised_foldl _ _ (fun _ _ ht => raised_ite (raised_sendOn _ _ ht) ht) h

theorem raised_routeLost (a : Nat) (h : Raised n obj s) : Raised n obj (routeLost s a) := by
  unfold routeLost
  split
  · exact raised_raise_of _ _ _ h
  · exact raised_foldl _ _ (fun _ _ ht => raised_raise_of _ _ _ ht) h

theorem raised_modFabric (f : Fabric → Fabric) (h : Raised n obj s) : Raised n obj (modFabric f s) := h

theorem raised_modLink (l : Nat) (f : ObxLink → ObxLink) (h : Raised n obj s) : Raised n obj (modLink l f s) := h

theorem raised_systemRecord (cls severity code writer : Nat) (bytes : List Byte) (events : List EventRec) (h : Raised n obj s) :
    Raised n obj (systemRecord cls severity code writer bytes events s) := by
  obtain ⟨x, y, hs⟩ := systemRecord_records cls severity code writer bytes events s
  rw [hs]
  exact h

theorem raised_setMembers (h : Raised n obj s) : Raised n obj (setMembers s) := by
  unfold setMembers
  exact raised_ite (raised_systemRecord _ _ _ _ _ _ (raised_modFabric _ h)) (raised_modFabric _ h)

theorem raised_orientLinks (h : Raised n obj s) : Raised n obj (orientLinks s) := by
  unfold orientLinks
  generalize levelsFrom (coordinatorOf s) s = levels
  exact raised_foldl _ _ (fun _ l ht => raised_modLink l _ ht) h

theorem raised_fabricChanged (h : Raised n obj s) : Raised n obj (fabricChanged s) := by
  unfold fabricChanged installRoutes
  refine raised_ite ?_ h
  dsimp only
  refine raised_foldl _ _ (fun t a ht => raised_ite (raised_routeLost a ht) ht) (raised_orientLinks (raised_setMembers ?_))
  exact h

end

/-- A link down, before its reclaim. -/
def linkFallen (l : Nat) (s : State) : State := raise (linkSource l) (linkObject l) 0 (setLink l .down 0 s)

/-- A link in its reclaim, before its routes are seen to. -/
def linkLost (l : Nat) (s : State) : State :=
  setLink l .reclaiming 0 (modLink l (fun x => { x with
    replay := [], pending := (link l s).replay.filter (fun f => f.kind == .block),
    released := ((link l s).replay.filter (fun f => f.kind == .block)).length, fails := 0, nakWait := false, downAt := (linkFallen l s).slowTicks,
    billetNext := none, billetRing := none }) (linkFallen l s))

/-- A link in its reclaim, with what waited for its billets answered. -/
def linkAnswered (l : Nat) (s : State) : State := answerLink (waitOf [0x0C03] 0 1 l) (link l s).billetRing [-1] (linkLost l s)

/-- A link that carries is neither down nor in its reclaim. -/
theorem up_of_carries {l : Nat} {s : State} (h : (link l s).carries = true) : ¬ ((link l s).state = .down ∨ (link l s).state = .reclaiming) := by
  intro hd
  unfold ObxLink.carries at h
  rcases hd with hd | hd <;> rw [hd] at h <;> exact absurd h (by decide)

/-- A link that is up goes down into its reclaim, with its routes withdrawn or the pair detached. -/
theorem linkDown_eq {l : Nat} {s : State} (h : ¬ ((link l s).state = .down ∨ (link l s).state = .reclaiming)) :
    linkDown l s = (if l = 4 then detachTwin 360 (linkAnswered l s)
    else if (link l s).known then
      sendControl (link l s).neighbour.val (.reclaimReport ((link l s).recvSeq - 1)) (fabricChanged (floodOwn (linkAnswered l s)))
    else fabricChanged (floodOwn (linkAnswered l s))) :=
  if_neg h

theorem link_linkLost {l : Nat} (hl : l < 5) (s : State) :
    (link l (linkLost l s)).state = .reclaiming ∧ (link l (linkLost l s)).retries = (link l s).retries := by
  have one : link l (linkFallen l s) = { link l s with state := .down, lanes := 0 } := link_setLink hl .down 0 s
  have fallen : (link l (linkFallen l s)).retries = (link l s).retries := by rw [one]
  unfold linkLost
  rw [link_setLink hl, link_modLink_same _ _ _ hl]
  exact ⟨rfl, fallen⟩

theorem linkDown_stands {l : Nat} (hl : l < 5) {s : State} (h : ¬ ((link l s).state = .down ∨ (link l s).state = .reclaiming)) :
    (link l (linkDown l s)).state = .reclaiming ∧ (link l (linkDown l s)).retries = (link l s).retries ∧
    Raised (linkSource l) (linkObject l) (linkDown l s) := by
  obtain ⟨hstate, hretries⟩ := link_linkLost hl s
  have kept : bonds (linkDown l s) = bonds (linkLost l s) := by
    rw [linkDown_eq h]
    unfold linkAnswered
    simp only [bonds_ite, bonds_detachTwin, bonds_sendControl, bonds_fabricChanged, bonds_floodOwn, bonds_answerLink, ite_self]
  have raised : Raised (linkSource l) (linkObject l) (linkAnswered l s) :=
    raised_answerLink _ _ _ (raised_setLink l .reclaiming 0 (raised_raise (linkSource l) (linkObject l) 0 (setLink l .down 0 s)))
  refine ⟨(state_of_bonds kept).trans hstate, (retries_of_bonds kept).trans hretries, ?_⟩
  rw [linkDown_eq h]
  exact raised_ite (raised_detachTwin _ raised)
    (raised_ite (raised_sendControl _ _ (raised_fabricChanged (raised_floodOwn raised))) (raised_fabricChanged (raised_floodOwn raised)))

/-- What is raised stays raised when a link goes down. -/
theorem raised_linkDown {l n obj : Nat} {s : State} (hl : ¬ ((link l s).state = .down ∨ (link l s).state = .reclaiming))
    (h : Raised n obj s) : Raised n obj (linkDown l s) := by
  have raised : Raised n obj (linkAnswered l s) := raised_answerLink _ _ _ (raised_setLink l .reclaiming 0
    (raised_raise_of (linkSource l) (linkObject l) 0 (raised_setLink l .down 0 h)))
  rw [linkDown_eq hl]
  exact raised_ite (raised_detachTwin _ raised)
    (raised_ite (raised_sendControl _ _ (raised_fabricChanged (raised_floodOwn raised))) (raised_fabricChanged (raised_floodOwn raised)))

/-! ## REPLAY_TIMEOUT (R607) -/

section
variable {l : Fin 5} {s : State}

/-- A replay counted and raised, before what its failures lead to. -/
def replayed (l : Nat) (s : State) : State :=
  raise (retrySource l) (linkObject l) 0 (modLink l (fun x => { x with retries := satAdd 32 x.retries 1, fails := x.fails + 1 }) s)

theorem replayLink_eq {l : Nat} {s : State} (hl : (link l s).carries = true) (hr : (link l s).replay ≠ []) :
    replayLink l s = if 8 ≤ (link l (replayed l s)).fails then linkDown l (replayed l s) else replayed l s :=
  if_neg (by simp [hl, hr])

theorem runs_replayTimeout (hl : (link l.val s).carries = true) (hr : (link l.val s).replay ≠ []) : Runs (.replayTimeout l) s (fun t =>
    (link l.val t).retries = satAdd 32 (link l.val s).retries 1 ∧ Raised (retrySource l.val) (linkObject l.val) t) := by
  have due : ((link l.val s).carries && !(link l.val s).replay.isEmpty) = true := by simp [hl, hr]
  refine runs_of_exec (congrArg Host.Outcome.next (if_pos due)) ?_
  dsimp only
  generalize hd : advanceTo ((link l.val s).ackFrom + 62) s = d
  have same : link l.val d = link l.val s := by rw [← hd]; rfl
  have hn : link l.val (modLink l.val (fun x => { x with ackFrom := d.now }) d) = { link l.val s with ackFrom := d.now } := by
    rw [link_modLink_same _ _ _ l.isLt, same]
  generalize modLink l.val (fun x => { x with ackFrom := d.now }) d = m at hn ⊢
  rw [replayLink_eq (by rw [hn]; exact hl) (by rw [hn]; exact hr)]
  have counted : link l.val (replayed l.val m) = { link l.val m with retries := satAdd 32 (link l.val m).retries 1, fails :=
    (link l.val m).fails + 1 } :=
    link_modLink_same l.val (fun x => { x with retries := satAdd 32 x.retries 1, fails := x.fails + 1 }) m l.isLt
  have up : (link l.val (replayed l.val m)).carries = true := by
    rw [counted, hn]
    exact hl
  have retries : (link l.val (replayed l.val m)).retries = satAdd 32 (link l.val s).retries 1 := by rw [counted, hn]
  have raised : Raised (retrySource l.val) (linkObject l.val) (replayed l.val m) := raised_raise _ _ _ _
  split
  · exact ⟨(linkDown_stands l.isLt (up_of_carries up)).2.1.trans retries, raised_linkDown (up_of_carries up) raised⟩
  · exact ⟨retries, raised⟩

theorem replayTimeout_rests (h : (link l.val s).replay = []) : Rests (.replayTimeout l) s := congrArg Host.Outcome.next (if_neg (by simp [h]))

/-! ## OBX_LANE_FAILURE (R608) -/

section
variable {lanes : BitVec 4}

theorem laneFailure_rests_down (b : Bool) (h : (link l.val s).carries = false) : Rests (.obxLaneFailure l lanes b) s :=
  congrArg Host.Outcome.next (if_pos (by rw [h]; rfl))

theorem laneFailure_rests_other (h : (link l.val s).lanes &&& lanes = 0) : Rests (.obxLaneFailure l lanes false) s := by
  refine congrArg Host.Outcome.next ?_
  dsimp only
  rw [if_neg Bool.false_ne_true, if_pos h, ite_self]

theorem runs_laneFailure_pair (p : BitVec 4) (ha : (link l.val s).state = .active) (hx : (link l.val s).lanes &&& lanes ≠ 0)
    (hp : wholePair ((link l.val s).lanes &&& ~~~lanes) = some p) (hr : (link l.val s).replay = []) : Runs (.obxLaneFailure l lanes false) s (fun t =>
      (link l.val t).state = .degraded ∧ (link l.val t).lanes = p ∧ (link l.val t).recvSeq = (link l.val s).recvSeq) := by
  have carrying : ¬ (!(link l.val s).carries) = true := by
    unfold ObxLink.carries
    rw [ha]
    decide
  have one := link_setLink l.isLt .degraded p s
  have quiet : replayLink l.val (setLink l.val .degraded p s) = setLink l.val .degraded p s :=
    if_pos (by rw [one]; simp [hr])
  have run : exec (.obxLaneFailure l lanes false) s = .next (setLink l.val .degraded p s) := by
    refine congrArg Host.Outcome.next ?_
    dsimp only
    rw [if_neg carrying, if_neg Bool.false_ne_true, if_neg hx, if_pos ha, hp]
    exact quiet
  refine runs_of_exec run ?_
  rw [one]
  exact ⟨rfl, rfl, rfl⟩

theorem runs_laneFailure_clock (h : (link l.val s).carries = true) : Runs (.obxLaneFailure l lanes true) s (fun t =>
    (link l.val t).state = .reclaiming ∧ ∃ e ∈ t.faults.inbox, e.src = Fin.ofNat 512 (linkSource l.val)) := by
  have carrying : ¬ (!(link l.val s).carries) = true := by rw [h]; decide
  refine runs_of_exec (congrArg Host.Outcome.next (if_neg carrying)) ?_
  obtain ⟨hstate, -, e, he, hs, -⟩ := linkDown_stands l.isLt (up_of_carries h)
  exact ⟨hstate, e, he, hs⟩

end

/-! ## LINK_TRAINED (R605) -/

theorem bonds_discoverProgress (l : Nat) (conflict : Bool) (s : State) : bonds (discoverProgress l conflict s) = bonds s := by
  unfold discoverProgress
  dsimp only
  split
  · rfl
  · split
    · exact bonds_answerLink _ _ _ _
    · rfl

/-- A link that comes up has its neighbour and begins to receive at 0. -/
theorem linkUp_stands {l : Nat} (hl : l < 5) (r : TrainResult) (offset : Int) (s : State) : (link l (linkUp l r 0xF offset s)).state = .active ∧
    (link l (linkUp l r 0xF offset s)).neighbour = r.neighbour ∧ (link l (linkUp l r 0xF offset s)).recvSeq = 0 := by
  unfold linkUp
  dsimp only
  rw [if_pos rfl]
  generalize hm : modLink l _ s = m
  have begun : (link l m).neighbour = r.neighbour ∧ (link l m).recvSeq = 0 := by
    rw [← hm, link_modLink_same _ _ _ hl]
    exact ⟨rfl, rfl⟩
  obtain ⟨hn, hr⟩ := begun
  have sent (ms : List ControlMsg) (t : State) : bonds (ms.foldl (fun s m => sendOn l m s) t) = bonds t :=
    bonds_foldl _ _ _ (fun t m => bonds_sendOn l m t)
  generalize hf : modFabric _ (setLink l .active 0xF m) = u
  have one : link l u = { link l m with state := .active, lanes := 0xF } := by
    rw [← hf]
    exact link_setLink hl .active 0xF m
  rw [state_of_bonds (sent _ _), neighbour_of_bonds (sent _ _), recvSeq_of_bonds (sent _ _), one]
  exact ⟨rfl, hn, hr⟩

theorem runs_linkTrained {r : TrainResult} (o : Int) (hs : (link l.val s).state = .training) (ht : trainedLanes r.lanes = some 0xF)
    (ho : agreedOffset r.exchanges = some o) (hn : r.neighbour.val ≠ deviceAddress s) (hl : l.val < 4) : Runs (.linkTrained l r) s (fun t =>
      (link l.val t).state = .active ∧ (link l.val t).neighbour = r.neighbour ∧ (link l.val t).recvSeq = 0) := by
  have other : ¬ l.val = 4 := by omega
  have run : exec (.linkTrained l r) s =
      .next (discoverProgress l.val false (fabricChanged (floodOwn (linkUp l.val r 0xF o s)))) := by
    refine congrArg Host.Outcome.next ((if_neg (not_not_intro hs)).trans ?_)
    rw [ht, ho]
    dsimp only
    rw [if_neg hn, if_neg other]
  have kept : bonds (discoverProgress l.val false (fabricChanged (floodOwn (linkUp l.val r 0xF o s)))) = bonds (linkUp l.val r 0xF o s) := by
    rw [bonds_discoverProgress, bonds_fabricChanged, bonds_floodOwn]
  obtain ⟨h1, h2, h3⟩ := linkUp_stands l.isLt r o s
  exact runs_of_exec run ⟨(state_of_bonds kept).trans h1, (neighbour_of_bonds kept).trans h2, (recvSeq_of_bonds kept).trans h3⟩

theorem linkTrained_rests {r : TrainResult} (h : (link l.val s).state ≠ .training) : Rests (.linkTrained l r) s :=
    congrArg Host.Outcome.next (if_pos h)

/-! ## RECLAIM_REPORT_TIMEOUT (R610) -/

theorem runs_reclaimReportTimeout (hs : (link l.val s).state = .reclaiming) (hd : (link l.val s).downAt + 100 < s.slowTicks) :
    Runs (.reclaimReportTimeout l) s (fun t => (link l.val t).state = .training ∧ (link l.val t).pending = [] ∧
      (link l.val t).reclaimed = satAdd 32 (link l.val s).reclaimed (link l.val s).released) := by
  refine runs_of_exec (congrArg Host.Outcome.next (if_pos ⟨hs, hd⟩)) ?_
  have dropped (fs : List ObxFrame) (t : State) : (fs.foldl dropBlock t).fabric = t.fabric :=
    List.foldlRecOn (motive := fun (u : State) => u.fabric = t.fabric) fs _ rfl (fun _ hu _ _ => hu)
  unfold endReclaim
  rw [if_neg (not_not_intro hs)]
  dsimp only
  have lost := dropped (link l.val s).pending s
  generalize (link l.val s).pending.foldl dropBlock s = m at lost ⊢
  have one : link l.val m = link l.val s := by
    unfold link
    rw [lost]
  generalize hu : modLink l.val _ m = u
  have emptied : (link l.val u).pending = [] ∧ (link l.val u).reclaimed = satAdd 32 (link l.val s).reclaimed (link l.val s).released := by
    rw [← hu, link_modLink_same _ _ _ l.isLt, one]
    exact ⟨rfl, rfl⟩
  obtain ⟨hp, hr⟩ := emptied
  have kept := bonds_answerLink (waitOf [0x0C04] 0 1 l.val) (link l.val s).reclaimRing
    [((link l.val s).released : Int), ((link l.val s).pending.length : Int)] (setLink l.val .training 0 u)
  rw [state_of_bonds kept, pending_of_bonds kept, reclaimed_of_bonds kept, link_setLink l.isLt]
  exact ⟨rfl, hp, hr⟩

theorem reclaimReportTimeout_rests (h : (link l.val s).state ≠ .reclaiming) : Rests (.reclaimReportTimeout l) s :=
  congrArg Host.Outcome.next (if_neg (fun hc => h hc.1))

end

/-- Settles O56: each event is its effect on its link, and rests out of its turn. -/
theorem fabricEvents : Obligations.FabricEvents := by
  unfold Obligations.FabricEvents
  exact fun _ _ _ b _ _ => ⟨obxFrame_rests, runs_obxFrame_bad, runs_obxFrame_block, runs_replayTimeout, replayTimeout_rests, runs_laneFailure_pair,
    runs_laneFailure_clock, laneFailure_rests_down b, laneFailure_rests_other, runs_linkTrained, linkTrained_rests, runs_reclaimReportTimeout,
    reclaimReportTimeout_rests⟩

end Sys2Proof.Proofs
end

/-! # Check failures, tests, notices and migrations of the engine pool -/
section
namespace Sys2Proof.Proofs
open Sys2Proof Sys2Proof.Machine Sys2Proof.Safety Sys2Proof.Laws

/-! ## What the pool's work leaves (R305-R313) -/

/-- The slow tick, the failures counted, the migrations, and when each engine last failed. -/
def crew (s : State) : Nat × Nat × Half × List Migration × Vector (Option Nat) 256 :=
  (s.slowTicks, s.eng.checkFailures, s.eng.migrationCount, s.eng.migrations, s.eng.engines.map Engine.failTick)

/-- A change that leaves these and takes back nothing raised. -/
def Tends (s t : State) : Prop := crew t = crew s ∧ ∀ n obj, Raised n obj s → Raised n obj t

theorem Tends.refl (s : State) : Tends s s := ⟨rfl, fun _ _ h => h⟩

theorem Tends.trans {s t u : State} (h : Tends s t) (h' : Tends t u) : Tends s u := ⟨h'.1.trans h.1, fun n o hr => h'.2 n o (h.2 n o hr)⟩

theorem tends_foldl {α : Type} {f : State → α → State} (h : ∀ s a, Tends s (f s a)) (l : List α) (s : State) : Tends s (l.foldl f s) :=
  List.foldlRecOn (motive := Tends s) l f (Tends.refl s) (fun t ht a _ => ht.trans (h t a))

theorem tends_ite {p : Prop} [Decidable p] {s a b : State} (ha : Tends s a) (hb : Tends s b) : Tends s (if p then a else b) := by
  split
  · exact ha
  · exact hb

theorem Tends.slowTicks {s t : State} (h : Tends s t) : t.slowTicks = s.slowTicks := congrArg (fun v => v.1) h.1

theorem Tends.checkFailures {s t : State} (h : Tends s t) : t.eng.checkFailures = s.eng.checkFailures := congrArg (fun v => v.2.1) h.1

theorem Tends.migrationCount {s t : State} (h : Tends s t) : t.eng.migrationCount = s.eng.migrationCount := congrArg (fun v => v.2.2.1) h.1

theorem Tends.migrations {s t : State} (h : Tends s t) : t.eng.migrations = s.eng.migrations := congrArg (fun v => v.2.2.2.1) h.1

theorem Tends.failTick {s t : State} (h : Tends s t) (e : Fin 256) : t.eng.engines[e].failTick = s.eng.engines[e].failTick := by
  have one := congrArg (fun v => v.2.2.2.2[e.val]) h.1
  simpa [crew] using one

/-- A change of the pool alone. -/
theorem tends_eng (s : State) (y : EnginePool) (h : crew { s with eng := y } = crew s) : Tends s { s with eng := y } := ⟨h, fun _ _ hr => hr⟩

theorem tends_hif (s : State) (x : HostIf) : Tends s { s with hif := x } := ⟨rfl, fun _ _ h => h⟩

theorem tends_records (s : State) (x : HostIf) (y : Guestbook) : Tends s { s with hif := x, gb := y } := ⟨rfl, fun _ _ h => h⟩

theorem tends_modEngine (e : Fin 256) (f : Engine → Engine) (s : State) (h : ∀ x, (f x).failTick = x.failTick) : Tends s (modEngine e f s) := by
  refine tends_eng s _ ?_
  have kept := map_set_same s.eng.engines Engine.failTick e.val e.isLt (f s.eng.engines[e]) (h _)
  exact congrArg (fun v => (s.slowTicks, s.eng.checkFailures, s.eng.migrationCount, s.eng.migrations, v)) kept

theorem tends_modAsg (a : Fin 256) (f : Assignment → Assignment) (s : State) : Tends s (modAsg a f s) := tends_eng s _ rfl

theorem tends_modDir (c : Fin 64) (d : Dir) (f : Direction → Direction) (s : State) : Tends s (modDir c d f s) := ⟨rfl, fun _ _ h => h⟩

theorem tends_postEvent (code severity source : Nat) (bytes : List Byte) (s : State) : Tends s (postEvent code severity source bytes s) := by
  rw [postEvent_hif]
  exact tends_hif s _

theorem tends_raise (n obj detail : Nat) (s : State) : Tends s (raise n obj detail s) := ⟨rfl, fun _ _ h => raised_raise_of _ _ _ h⟩

theorem tends_hardwareDone (q : Nat) (want : Desc → Bool) (results : List Int) (s : State) : Tends s (hardwareDone q want results s) := tends_hif s _

theorem tends_endMigrate (m : Migration) (detail : Nat) (s : State) : Tends s (endMigrate m detail s) := by
  unfold endMigrate
  split
  · exact tends_hardwareDone _ _ _ s
  · exact Tends.refl s

theorem tends_refreshEngines (s : State) : Tends s (refreshEngines s) := by
  refine tends_eng s _ ?_
  have kept : ((refreshEngines s).eng.engines).map Engine.failTick = s.eng.engines.map Engine.failTick := by
    ext i hi
    simp only [refreshEngines, Vector.getElem_map, Vector.getElem_ofFn]
    split
    · split <;> rfl
    · split <;> rfl
    · rfl
  exact congrArg (fun v => (s.slowTicks, s.eng.checkFailures, s.eng.migrationCount, s.eng.migrations, v)) kept

/-- Migrations dropped leave the engines and the failures counted. -/
theorem tends_dropMigrations (p : Migration → Bool) (s : State) :
    Tends { s with eng := { s.eng with migrations := s.eng.migrations.filter (fun m => !p m) } } (dropMigrations p s) := by
  refine Tends.trans ?_ (tends_refreshEngines _)
  refine tends_foldl (fun t m => tends_foldl (fun u (v : Segment × Fin 256) => tends_modEngine v.2 _ u (fun x => ?_)) _ t) _ _
  split <;> rfl

theorem tends_buildPlan (a : Fin 256) (cls latency : Nat) (mask : BitVec 16) (p : Plan) (s : State) : Tends s (buildPlan a cls latency mask p s) :=
  (tends_modAsg a _ s).trans (tends_refreshEngines _)

theorem tends_settleAsg (a : Fin 256) (s : State) : Tends s (settleAsg a s) := by
  unfold settleAsg
  refine tends_ite ?_ (tends_refreshEngines s)
  dsimp only
  split
  · exact tends_buildPlan _ _ _ _ _ s
  · exact tends_refreshEngines s

theorem tends_markBlock (a : Fin 256) (moves : List (Segment × Fin 256)) (q : Half) (s : State) : Tends s (markBlock a moves q s) :=
  tends_ite (Tends.refl s) (tends_modDir _ _ _ s)

theorem tends_moveSegments (a : Fin 256) (moves : List (Segment × Fin 256)) (s : State) : Tends s (moveSegments a moves s) := tends_modAsg a _ s

theorem tends_lifeRecord (code : Nat) (retired : Option (Fin 256)) (s : State) : Tends s (lifeRecord code retired s) := by
  obtain ⟨x, y, h⟩ := logRecord_records 7 0 (writerSource deviceWriter) code (lifePayload retired s) [] s
  unfold lifeRecord
  rw [h]
  exact tends_records s x y

theorem tends_retireEngine (e : Fin 256) (cause : Nat) (s : State) : Tends s (retireEngine e cause s) :=
  ((tends_modEngine e (fun x => { x with state := .retired, notice := false }) s (fun _ => rfl)).trans (tends_postEvent _ _ _ _ _)).trans
    (tends_lifeRecord _ _ _)

/-- A mute leaves the pool and takes back nothing raised. -/
theorem tends_addMute (c : Fin 64) (d : Dir) (reason : Nat) (i : ProtInfo) (s : State) : Tends s (addMute c d reason i s) := by
  have seen : view (fun _ _ _ => ()) (addMute c d reason i s) = view (fun _ _ _ => ()) s := view_addMute (fun _ _ => rfl) s (fun _ _ => rfl) reason i
  have pool : crew (addMute c d reason i s) = crew s := congrArg (fun v => crew v.rest) seen
  refine ⟨pool, fun n obj h => ?_⟩
  have muted : Raised n obj (modGain c d (fun g => { g with reasons := putReason g.reasons reason }) s) := h
  have recorded (code : Nat) {t : State} (ht : Raised n obj t) : Raised n obj (dirRecord code c d 2 reason i t) := by
    exact ht
  have told {t : State} (ht : Raised n obj t) : Raised n obj (legacyMute c d reason t) := raised_ite ht (raised_ite ht (raised_ite ht ht))
  exact raised_ite h (raised_freezeFrom c d _ (told (recorded _ muted)))

theorem tends_takeOver (e : Fin 256) (block : Half) (s : State) : Tends s (takeOver e block s) := by
  unfold takeOver
  dsimp only
  split
  · refine Tends.trans ?_ (tends_foldl (fun t a => tends_postEvent _ _ _ _ t) _ _)
    refine Tends.trans ?_ (tends_modEngine _ _ _ (fun _ => rfl))
    exact tends_eng s _ rfl
  · refine Tends.trans ?_ (tends_foldl (fun t a => tends_ite (tends_addMute _ _ _ _ t) (Tends.refl t)) _ _)
    exact tends_eng s _ rfl

/-- A migration switched: one more counted, and none of its like stays. -/
theorem tends_finishMigration (m : Migration) (q : Half) (s : State) : Tends
    { s with eng := { s.eng with migrations := s.eng.migrations.filter (· != m), migrationCount := s.eng.migrationCount + 1 } }
      (finishMigration m q s) := by
  unfold finishMigration
  generalize { s with eng := { s.eng with migrations := s.eng.migrations.filter (· != m), migrationCount := s.eng.migrationCount + 1 } } = a
  dsimp only
  have moved : Tends a (m.moves.foldl (fun s v => modEngine v.2 (fun e => { e with state := .active }) s) a) :=
    tends_foldl (fun t (v : Segment × Fin 256) => tends_modEngine v.2 (fun e => { e with state := .active }) t (fun _ => rfl)) _ a
  generalize m.moves.foldl (fun s v => modEngine v.2 (fun e => { e with state := .active }) s) a = b at moved ⊢
  have left : Tends b (m.sources.foldl (fun s e => modEngine e (fun x => { x with migrationsOut := satAdd 16 x.migrationsOut 1, attributed := false })
    s) b) :=
    tends_foldl (fun t e => tends_modEngine e (fun x => { x with migrationsOut := satAdd 16 x.migrationsOut 1, attributed := false })
      t (fun _ => rfl)) _ b
  generalize m.sources.foldl (fun s e => modEngine e (fun x => { x with migrationsOut := satAdd 16 x.migrationsOut 1, attributed := false }) s) b = c
    at left ⊢
  have settled := ((tends_moveSegments m.asg m.moves c).trans (tends_markBlock m.asg m.moves q _)).trans (tends_settleAsg m.asg _)
  generalize settleAsg m.asg (markBlock m.asg m.moves q (moveSegments m.asg m.moves c)) = d at settled ⊢
  have upgraded : Tends d (match m.upgrade with
      | some (k, v) => modAsg m.asg (fun x => { x with versions := upd x.versions k (fun _ => v) }) d
      | none => d) := by
    split
    · exact tends_modAsg _ _ _
    · exact Tends.refl _
  refine Tends.trans ((moved.trans left).trans (settled.trans upgraded)) ?_
  cases m.ring with
  | none => exact tends_postEvent _ _ _ _ _
  | some r => exact (tends_postEvent _ _ _ _ _).trans (tends_hardwareDone _ _ _ _)

/-! ## ENGINE_CHECK_FAIL (R307) -/

/-- A change that leaves the failures counted and when each engine last failed, and takes back nothing raised. -/
def Nurses (s t : State) : Prop := t.slowTicks = s.slowTicks ∧ t.eng.checkFailures = s.eng.checkFailures ∧
  (∀ e : Fin 256, t.eng.engines[e].failTick = s.eng.engines[e].failTick) ∧ ∀ n obj, Raised n obj s → Raised n obj t

theorem Nurses.trans {s t u : State} (h : Nurses s t) (h' : Nurses t u) : Nurses s u := by
  obtain ⟨hs, hc, hf, hr⟩ := h
  obtain ⟨hs', hc', hf', hr'⟩ := h'
  exact ⟨hs'.trans hs, hc'.trans hc, fun e => (hf' e).trans (hf e), fun n o h => hr' n o (hr n o h)⟩

theorem Tends.nurses {s t : State} (h : Tends s t) : Nurses s t := ⟨h.slowTicks, h.checkFailures, h.failTick, h.2⟩

theorem nurses_dropMigrations (p : Migration → Bool) (s : State) : Nurses s (dropMigrations p s) := by
  have dropped : Nurses s { s with eng := { s.eng with migrations := s.eng.migrations.filter (fun m => !p m) } } :=
    ⟨rfl, rfl, fun _ => rfl, fun _ _ h => h⟩
  exact dropped.trans (tends_dropMigrations p s).nurses

theorem nurses_finishMigration (m : Migration) (q : Half) (s : State) : Nurses s (finishMigration m q s) := by
  have dropped : Nurses s
      { s with eng := { s.eng with migrations := s.eng.migrations.filter (· != m), migrationCount := s.eng.migrationCount + 1 } } :=
    ⟨rfl, rfl, fun _ => rfl, fun _ _ h => h⟩
  exact dropped.trans (tends_finishMigration m q s).nurses

theorem eng_postEvent (code severity source : Nat) (bytes : List Byte) (s : State) : (postEvent code severity source bytes s).eng = s.eng := by
  rw [postEvent_hif]

theorem eng_lifeRecord (code : Nat) (retired : Option (Fin 256)) (s : State) : (lifeRecord code retired s).eng = s.eng := by
  obtain ⟨x, y, h⟩ := logRecord_records 7 0 (writerSource deviceWriter) code (lifePayload retired s) [] s
  unfold lifeRecord
  rw [h]

theorem eng_retireEngine (e : Fin 256) (cause : Nat) (s : State) :
    (retireEngine e cause s).eng = (modEngine e (fun x => { x with state := .retired, notice := false }) s).eng :=
  (eng_lifeRecord _ _ _).trans (eng_postEvent _ _ _ _ _)

theorem state_retireEngine (e : Fin 256) (cause : Nat) (s : State) : (retireEngine e cause s).eng.engines[e].state = .retired := by
  rw [eng_retireEngine, state_modEngine_same]

/-- An engine that failed is under test, or retired where it failed before within a day. -/
theorem state_failEngine (e : Fin 256) (lost : List (Fin 256 × Segment)) (s : State) : (failEngine e lost s).eng.engines[e].state =
    if (s.eng.engines[e].failTick).any (fun t => decide (s.slowTicks < t + 86400000)) then .retired else .testing := by
  unfold failEngine
  dsimp only
  split
  · exact state_retireEngine e 1 _
  · rw [state_modEngine_same]

theorem tends_failEngine (e : Fin 256) (lost : List (Fin 256 × Segment)) (s : State) :
    Tends (modEngine e (fun x => { x with failTick := some s.slowTicks }) s) (failEngine e lost s) := by
  unfold failEngine
  dsimp only
  refine tends_ite ?_ ?_
  · exact Tends.trans (tends_eng _ _ rfl) (tends_retireEngine e 1 _)
  · exact Tends.trans (tends_eng _ _ rfl) (tends_modEngine e (fun x => { x with state := .testing }) _ (fun _ => rfl))

/-- An engine under test, or retired, stays so when the engines' idleness is seen to. -/
theorem engine_refreshEngines {e : Fin 256} {s : State} (h : s.eng.engines[e].state = .testing ∨ s.eng.engines[e].state = .retired) :
    (refreshEngines s).eng.engines[e] = s.eng.engines[e] := by
  have same : s.eng.engines[e.val] = s.eng.engines[e] := rfl
  simp only [refreshEngines, Fin.getElem_fin, Vector.getElem_ofFn, Fin.eta]
  rcases h with h | h <;> rw [same, h]

/-- What an engine at work that fails its check leaves, the failure counted and raised and its hosts seen to. -/
theorem nursed_checkFail {e : Fin 256} (lost : List (Fin 256 × Segment)) {s t : State} (n obj : Nat) (h : Nurses s t) (hr : Raised n obj s) :
    (refreshEngines (failEngine e lost t)).eng.checkFailures = s.eng.checkFailures ∧ Raised n obj (refreshEngines (failEngine e lost t)) ∧
    (refreshEngines (failEngine e lost t)).eng.engines[e].state =
      (if (s.eng.engines[e].failTick).any (fun t => decide (s.slowTicks < t + 86400000)) then .retired else .testing) ∧
    (refreshEngines (failEngine e lost t)).eng.engines[e].failTick = some s.slowTicks := by
  obtain ⟨ticks, fails, marked, raised⟩ := h
  have state := state_failEngine e lost t
  rw [ticks, marked] at state
  have failed := (tends_failEngine e lost t).trans (tends_refreshEngines _)
  have settled : (failEngine e lost t).eng.engines[e].state = .testing ∨ (failEngine e lost t).eng.engines[e].state = .retired := by
    rw [state]
    split
    · exact .inr rfl
    · exact .inl rfl
  refine ⟨failed.checkFailures.trans fails, failed.2 n obj (raised n obj hr), ?_, ?_⟩
  · rw [engine_refreshEngines settled, state]
  · rw [failed.failTick, state_modEngine_same, ticks]

/-- A check failure counted, before its engine. -/
def failureCounted (ecc : Bool) (s : State) : State :=
  { s with eng := { s.eng with checkFailures := satAdd 16 s.eng.checkFailures 1,
                               eccUncorrected := if ecc then satAdd 16 s.eng.eccUncorrected 1 else s.eng.eccUncorrected } }

/-- A check failure counted and raised. -/
def failureRaised (e : Fin 256) (ecc : Bool) (q : Half) (s : State) : State :=
  raise (96 + (wingOf e).val) (object 3 e.val) (q.toNat + e.val * 65536)
    (modEngine e (fun x => { x with checkFails := satAdd 16 x.checkFails 1 }) (failureCounted ecc s))

theorem tends_failureRaised (e : Fin 256) (ecc : Bool) (q : Half) (s : State) : Tends (failureCounted ecc s) (failureRaised e ecc q s) :=
  (tends_modEngine e (fun x => { x with checkFails := satAdd 16 x.checkFails 1 }) _ (fun _ => rfl)).trans (tends_raise _ _ _ _)

/-- The migration whose target failed, ended. -/
def shadowEnded (e : Fin 256) (s : State) : State :=
  (migrationOf e s).elim s (fun m => endMigrate m 0x040A (dropMigrations (· == m) s))

theorem nurses_shadowEnded (e : Fin 256) (s : State) : Nurses s (shadowEnded e s) := by
  unfold shadowEnded
  cases migrationOf e s with
  | none => exact (Tends.refl s).nurses
  | some m => exact (nurses_dropMigrations _ s).trans (tends_endMigrate _ _ _).nurses

/-- What a failed engine hosted, given to its shadow or to another engine. -/
def hostedLeft (e : Fin 256) (q : Half) (s : State) : State :=
  (s.eng.migrations.find? (fun m => m.step == .shadow && m.sources.contains e)).elim
    (takeOver e q ((s.eng.migrations.filter (fun m => m.sources.contains e)).foldl (fun s m => endMigrate m 0x0409 s)
      (dropMigrations (fun m => m.sources.contains e) s)))
    (fun m => if (hosted e (finishMigration m (q + 1) s)).isEmpty then finishMigration m (q + 1) s else takeOver e q (finishMigration m (q + 1) s))

theorem nurses_hostedLeft (e : Fin 256) (q : Half) (s : State) : Nurses s (hostedLeft e q s) := by
  unfold hostedLeft
  cases s.eng.migrations.find? (fun m => m.step == .shadow && m.sources.contains e) with
  | none =>
    have ended := tends_foldl (fun t m => tends_endMigrate m 0x0409 t) (s.eng.migrations.filter (fun m => m.sources.contains e))
      (dropMigrations (fun m => m.sources.contains e) s)
    exact (nurses_dropMigrations _ s).trans (ended.trans (tends_takeOver e q _)).nurses
  | some m =>
    have finished := nurses_finishMigration m (q + 1) s
    exact finished.trans (tends_ite (Tends.refl _) (tends_takeOver e q _)).nurses

/-- The branches of a check failure, by what they leave of the failed engine's hosts. -/
theorem checkFail_branches (e : Fin 256) (c : Fin 64) (d : Dir) (q : Half) (tested : Prop) [Decidable tested] (u : State) :
    (let lost := hosted e u
     let asShadow := (migrationOf e u).isSome
     let s := match migrationOf e u with
       | some m => endMigrate m 0x040A (dropMigrations (· == m) u)
       | none => u
     if tested ∨ (asShadow = true ∧ lost.isEmpty = true) then refreshEngines (failEngine e lost s)
     else
       let s := impairBlock c d ((lost.filter (fun g => g.1 == asgOf c d)).map (·.2)) q s
       match s.eng.migrations.find? (fun m => m.step == .shadow && m.sources.contains e) with
       | some m =>
         let s := finishMigration m (q + 1) s
         refreshEngines (failEngine e lost (if (hosted e s).isEmpty then s else takeOver e q s))
       | none =>
         let stale := s.eng.migrations.filter (fun m => m.sources.contains e)
         let s := stale.foldl (fun s m => endMigrate m 0x0409 s) (dropMigrations (fun m => m.sources.contains e) s)
         refreshEngines (failEngine e lost (takeOver e q s))) =
    if tested ∨ ((migrationOf e u).isSome = true ∧ (hosted e u).isEmpty = true) then refreshEngines (failEngine e (hosted e u) (shadowEnded e u))
    else refreshEngines (failEngine e (hosted e u) (hostedLeft e q
      (impairBlock c d (((hosted e u).filter (fun g => g.1 == asgOf c d)).map (·.2)) q (shadowEnded e u)))) := by
  have ended : (match migrationOf e u with
      | some m => endMigrate m 0x040A (dropMigrations (· == m) u)
      | none => u) = shadowEnded e u := by
    unfold shadowEnded
    cases migrationOf e u <;> rfl
  dsimp only
  rw [ended]
  refine ite_congr rfl (fun _ => rfl) (fun _ => ?_)
  generalize impairBlock c d _ q (shadowEnded e u) = v
  unfold hostedLeft
  cases v.eng.migrations.find? (fun m => m.step == .shadow && m.sources.contains e) <;> rfl

section
variable {e : Fin 256} {w : Fin 16} {x : Bool} {c : Fin 64} {d : Dir} {q : Half} {m : Migration} {v : TestRun} {b : Bool} {s : State}

/-- A working engine that fails its check: counted, raised, what it hosts seen to, and failed. -/
theorem exec_engineCheckFail (h : ¬ (s.eng.engines[e].state = .retired ∨ s.eng.engines[e].state = .idle ∨ s.eng.engines[e].state = .spare)) :
    ∃ lost t, exec (.engineCheckFail e x c d q) s = .next (refreshEngines (failEngine e lost t)) ∧ Nurses (failureRaised e x q s) t := by
  have ended := nurses_shadowEnded e (failureRaised e x q s)
  have run : exec (.engineCheckFail e x c d q) s = .next
      (if s.eng.engines[e].state = .testing ∨
          ((migrationOf e (failureRaised e x q s)).isSome = true ∧ (hosted e (failureRaised e x q s)).isEmpty = true)
        then refreshEngines (failEngine e (hosted e (failureRaised e x q s)) (shadowEnded e (failureRaised e x q s)))
        else refreshEngines (failEngine e (hosted e (failureRaised e x q s)) (hostedLeft e q (impairBlock c d
          (((hosted e (failureRaised e x q s)).filter (fun g => g.1 == asgOf c d)).map (·.2)) q (shadowEnded e (failureRaised e x q s)))))) := by
    exact (congrArg Host.Outcome.next (if_neg h)).trans (congrArg Host.Outcome.next (checkFail_branches e c d q _ (failureRaised e x q s)))
  rw [run]
  split
  · exact ⟨_, _, rfl, ended⟩
  · exact ⟨_, _, rfl, (ended.trans (tends_modDir c d _ _).nurses).trans (nurses_hostedLeft e q _)⟩

theorem runs_engineCheckFail
    (h : s.eng.engines[e].state = .active ∨ s.eng.engines[e].state = .testing ∨ s.eng.engines[e].state = .shadow) :
    Runs (.engineCheckFail e x c d q) s (fun t =>
      t.eng.checkFailures = satAdd 16 s.eng.checkFailures 1 ∧ Raised (96 + (wingOf e).val) (object 3 e.val) t ∧
      t.eng.engines[e].state = (if (s.eng.engines[e].failTick).any (fun t => decide (s.slowTicks < t + 86400000)) then .retired else .testing) ∧
      t.eng.engines[e].failTick = some s.slowTicks) := by
  obtain ⟨lost, t, run, nursed⟩ := exec_engineCheckFail (x := x) (c := c) (d := d) (q := q)
    (fun hw => by rcases h with h | h | h <;> rw [h] at hw <;> exact absurd hw (by decide))
  have raised := tends_failureRaised e x q s
  have final := nursed_checkFail (e := e) lost _ _ nursed (raised_raise (96 + (wingOf e).val) (object 3 e.val) (q.toNat + e.val * 65536) _)
  rw [raised.checkFailures, raised.slowTicks, raised.failTick] at final
  exact runs_of_exec run final

theorem engineCheckFail_rests (h : s.eng.engines[e].state = .idle ∨ s.eng.engines[e].state = .spare ∨ s.eng.engines[e].state = .retired) :
    Rests (.engineCheckFail e x c d q) s := by
  refine congrArg Host.Outcome.next (if_pos ?_)
  rcases h with h | h | h <;> rw [h] <;> decide

/-! ## Tests and notices (R307, R310) -/

theorem runs_testBlocksEnd_spare (hv : s.eng.tests.find? (fun t => t.engine == e) = some v) (ht : s.eng.engines[e].state = .testing)
    (hf : v.finished s = true) (ha : s.eng.policy.testBlocks ≤ v.comparator.agreed) :
    Runs (.testBlocksEnd e true) s (fun t => t.eng.engines[e].state = .spare ∧ t = { s with eng := t.eng }) := by
  have run : exec (.testBlocksEnd e true) s = .next (modEngine e (fun x => { x with state := .spare })
      { s with eng := { s.eng with tests := s.eng.tests.filter (fun t => t.engine != e) } }) := by
    refine congrArg Host.Outcome.next ?_
    rw [hv]
    exact if_neg (by rw [ht]; simp [hf, ha])
  refine runs_of_exec run ⟨?_, rfl⟩
  rw [state_modEngine_same]

theorem runs_testBlocksEnd_retired (hv : s.eng.tests.find? (fun t => t.engine == e) = some v) (ht : s.eng.engines[e].state = .testing)
    (hf : v.finished s = true) (ha : v.comparator.agreed < s.eng.policy.testBlocks) :
    Runs (.testBlocksEnd e false) s (fun t => t.eng.engines[e].state = .retired ∧ t.eng.asgs = s.eng.asgs) := by
  have run : exec (.testBlocksEnd e false) s =
      .next (retireEngine e 0 { s with eng := { s.eng with tests := s.eng.tests.filter (fun t => t.engine != e) } }) := by
    refine congrArg Host.Outcome.next ?_
    rw [hv]
    exact if_neg (by rw [ht]; simp [hf, ha])
  refine runs_of_exec run ⟨state_retireEngine _ _ _, ?_⟩
  rw [eng_retireEngine]
  rfl

theorem testBlocksEnd_rests (h : s.eng.engines[e].state ≠ .testing) : Rests (.testBlocksEnd e b) s := by
  refine congrArg Host.Outcome.next ?_
  cases s.eng.tests.find? (fun t => t.engine == e) with
  | none => rfl
  | some v => exact if_pos (.inl h)

theorem testBlocksEnd_rests_unfinished (hv : s.eng.tests.find? (fun t => t.engine == e) = some v) (hf : v.finished s = false) :
    Rests (.testBlocksEnd e b) s := by
  refine congrArg Host.Outcome.next ?_
  rw [hv]
  exact if_pos (.inr (.inl (by rw [hf]; rfl)))

theorem runs_engineSlowNotice (hr : 256 ≤ s.eng.engines[e].lowRun) (hn : s.eng.engines[e].notice = false) :
    Runs (.engineSlowNotice e) s (fun t => t.eng.engines[e].notice = true ∧ Raised (112 + (wingOf e).val) (object 3 e.val) t ∧
      t = { s with eng := t.eng, faults := t.faults }) := by
  refine runs_of_exec (congrArg Host.Outcome.next (if_pos ?_)) ⟨?_, raised_raise _ _ _ _, rfl⟩
  · rw [decide_eq_true hr, hn]
    rfl
  · exact congrArg Engine.notice (state_modEngine_same e (fun x => { x with notice := true }) s)

theorem engineSlowNotice_rests (h : s.eng.engines[e].notice = true) : Rests (.engineSlowNotice e) s :=
  congrArg Host.Outcome.next (if_neg (by rw [h]; simp))

theorem runs_wingSlow (hr : 256 ≤ s.eng.wings[w].lowRun) (hs : s.eng.wings[w].slow = false) (hw : s.supply.creditedWing = w) (hc :
    20 ≤ s.supply.credit) :
    Runs (.wingSlow w) s (fun t => t.eng.wings[w].slow = true ∧ Raised (128 + w.val) (object 4 w.val) t ∧
      t = { s with eng := t.eng, faults := t.faults }) := by
  refine runs_of_exec (congrArg Host.Outcome.next (if_pos ?_)) ⟨?_, raised_raise _ _ _ _, rfl⟩
  · rw [decide_eq_true hr, hs, hw, decide_eq_true hc]
    simp
  · exact congrArg Wing.slow (Vector.getElem_set_self w.isLt)

theorem wingSlow_rests (h : s.eng.wings[w].slow = true) : Rests (.wingSlow w) s := congrArg Host.Outcome.next (if_neg (by rw [h]; simp))

/-! ## The stages of a migration (R310-R313) -/

/-- A migration changed in what leaves its moves is found changed. -/
theorem migrationOf_modMigration (f : Migration → Migration) (hf : ∀ m, (f m).moves = m.moves) (h : migrationOf e s = some m) :
    migrationOf e (modMigration e f s) = some (f m) := by
  have moved (n : Migration) : (if n.moves.any (fun v => v.2 == e) then f n else n).moves = n.moves := by
    split
    · exact hf n
    · rfl
  have named : m.moves.any (fun v => v.2 == e) = true := List.find?_some (p := fun m : Migration => m.moves.any (fun v => v.2 == e)) h
  unfold migrationOf at h ⊢
  unfold modMigration
  rw [List.find?_map]
  have same : (fun n : Migration => n.moves.any (fun v => v.2 == e)) ∘ (fun n => if n.moves.any (fun v => v.2 == e) then f n else n) =
      fun n : Migration => n.moves.any (fun v => v.2 == e) := funext (fun n => by rw [Function.comp_apply, moved])
  rw [same, h]
  exact congrArg some (if_pos named)

theorem runs_migrationCopyDone (h : migrationOf e s = some m) (hs : m.step = .copying) (hf : m.since + m.fill ≤ asgOrdinal m.asg s)
    (hu : m.upgrade = none) : Runs (.migrationCopyDone e q) s (fun t =>
      migrationOf e t = some { m with step := .shadow, startBlock := q + 1, comparator := Comparator.reset,
                                      ticket := if m.agree then none else some s.tickets } ∧
      t.eng.asgs = s.eng.asgs ∧ t = { s with eng := t.eng }) := by
  have run : exec (.migrationCopyDone e q) s = .next (modMigration e (fun m =>
      { m with step := .shadow, startBlock := q + 1, comparator := Comparator.reset, ticket := if m.agree then none else some s.tickets }) s) := by
    refine congrArg Host.Outcome.next ?_
    rw [h]
    dsimp only
    rw [if_neg (fun hc => hc.elim (fun hn => hn hs) (fun hl => absurd hf (Nat.not_le.mpr hl))), hu]
  exact runs_of_exec run ⟨migrationOf_modMigration _ (fun _ => rfl) h, rfl, rfl⟩

theorem migrationCopyDone_rests (h : migrationOf e s = none) : Rests (.migrationCopyDone e q) s := by
  refine congrArg Host.Outcome.next ?_
  rw [h]

theorem runs_migrationSwitch (h : migrationOf e s = some m) (hs : m.step = .shadow) (ha : m.agree = true)
    (hg : s.eng.policy.agreeBlocks ≤ agreements m.asg m.comparator s) (hq : q = m.comparator.last + 1) (hw : blockWaits m.asg m.moves q s = true) :
    Runs (.migrationSwitch e q) s (fun t => t.eng.migrationCount = s.eng.migrationCount + 1 ∧ m ∉ t.eng.migrations) := by
  have run : exec (.migrationSwitch e q) s = .next (finishMigration m q s) := by
    refine congrArg Host.Outcome.next ?_
    rw [h]
    exact if_pos ⟨hs, ha, hg, hq, hw⟩
  have finished := tends_finishMigration m q s
  refine runs_of_exec run ⟨finished.migrationCount, ?_⟩
  rw [finished.migrations]
  simp

theorem migrationSwitch_rests (h : migrationOf e s = some m) (hg : agreements m.asg m.comparator s < s.eng.policy.agreeBlocks) :
    Rests (.migrationSwitch e q) s := by
  refine congrArg Host.Outcome.next ?_
  rw [h]
  exact if_neg (fun hc => absurd hc.2.2.1 (Nat.not_le.mpr hg))

theorem runs_migrationLimit (h : migrationOf e s = some m) (hs : m.step = .shadow) (ha : m.agree = true)
    (hl : s.eng.policy.migrateLimit ≤ m.comparator.seen) (hg : agreements m.asg m.comparator s < s.eng.policy.agreeBlocks) :
    Runs (.migrationLimit e) s (fun t => migrationOf e t = some { m with step := .selfTest, ring := none } ∧ t.eng.engines = s.eng.engines) := by
  have run : exec (.migrationLimit e) s =
      .next (endMigrate m 0x040A (modMigration e (fun m => { m with step := .selfTest, ring := none }) s)) := by
    refine congrArg Host.Outcome.next ?_
    rw [h]
    exact if_pos ⟨hs, ha, hl, hg⟩
  have eng : (endMigrate m 0x040A (modMigration e (fun m => { m with step := .selfTest, ring := none }) s)).eng =
      (modMigration e (fun m => { m with step := .selfTest, ring := none }) s).eng := by
    unfold endMigrate
    cases m.ring <;> rfl
  refine runs_of_exec run ⟨?_, by rw [eng]; rfl⟩
  unfold migrationOf at h ⊢
  rw [eng]
  exact migrationOf_modMigration _ (fun _ => rfl) h

theorem migrationLimit_rests (h : migrationOf e s = none) : Rests (.migrationLimit e) s := by
  refine congrArg Host.Outcome.next ?_
  rw [h]

/-- A migration dropped is none of those that stay. -/
theorem not_mem_dropMigrations (m : Migration) (s : State) : m ∉ (dropMigrations (· == m) s).eng.migrations := by
  rw [(tends_dropMigrations (· == m) s).migrations]
  simp

theorem runs_selfTestDone_failed (h : migrationOf e s = some m) (hs : m.step = .selfTest) :
    Runs (.selfTestDone e false) s (fun t => m ∉ t.eng.migrations ∧ t.eng.engines[e].state = .retired ∧ Raised 145 (object 3 e.val) t) := by
  have run : exec (.selfTestDone e false) s = .next (raise 145 (object 3 e.val) 0 (retireEngine e 2 (dropMigrations (· == m) s))) := by
    refine congrArg Host.Outcome.next ?_
    rw [h]
    exact if_pos hs
  refine runs_of_exec run ⟨?_, state_retireEngine e 2 _, raised_raise _ _ _ _⟩
  have kept := (tends_retireEngine e 2 (dropMigrations (· == m) s)).trans (tends_raise 145 (object 3 e.val) 0 _)
  rw [kept.migrations]
  exact not_mem_dropMigrations m s

theorem migrations_failEngine (lost : List (Fin 256 × Segment)) : (failEngine e lost s).eng.migrations = s.eng.migrations :=
  (tends_failEngine e lost s).migrations

theorem runs_selfTestDone_passed (h : migrationOf e s = some m) (hs : m.step = .selfTest) :
    Runs (.selfTestDone e true) s (fun t => m ∉ t.eng.migrations ∧ Raised 145 (object 3 ((m.sources.head?).elim 0xFFF (·.val))) t) := by
  have run : exec (.selfTestDone e true) s = .next (raise 145 (object 3 ((m.sources.head?).elim 0xFFF (·.val))) 0
      (m.sources.foldl (fun s x => refreshEngines (failEngine x (hosted x s) (takeOver x m.startBlock s))) (dropMigrations (· == m) s))) := by
    refine congrArg Host.Outcome.next ?_
    rw [h]
    exact if_pos hs
  refine runs_of_exec run ⟨?_, raised_raise _ _ _ _⟩
  have kept := List.foldlRecOn (motive := fun (t : State) => t.eng.migrations = (dropMigrations (· == m) s).eng.migrations) m.sources
    (fun s x => refreshEngines (failEngine x (hosted x s) (takeOver x m.startBlock s))) rfl (fun t ht x _ => by
      rw [(tends_refreshEngines _).migrations, migrations_failEngine, (tends_takeOver x m.startBlock t).migrations, ht])
  exact fun hm => not_mem_dropMigrations m s (kept ▸ hm)

theorem selfTestDone_rests (h : migrationOf e s = none) : Rests (.selfTestDone e x) s := by
  refine congrArg Host.Outcome.next ?_
  rw [h]

end

/-- Settles O44: each event is its effect on its engine, wing or migration, and rests out of its turn. -/
theorem engineEvents : Obligations.EngineEvents := by
  unfold Obligations.EngineEvents
  exact fun _ _ _ _ _ _ _ _ _ _ => ⟨runs_engineCheckFail, engineCheckFail_rests, runs_testBlocksEnd_spare, runs_testBlocksEnd_retired,
    testBlocksEnd_rests, testBlocksEnd_rests_unfinished, runs_engineSlowNotice, engineSlowNotice_rests, runs_wingSlow, wingSlow_rests,
    runs_migrationCopyDone, migrationCopyDone_rests, runs_migrationSwitch, migrationSwitch_rests, runs_migrationLimit, migrationLimit_rests,
    runs_selfTestDone_failed, runs_selfTestDone_passed, selfTestDone_rests⟩

end Sys2Proof.Proofs
end

/-! # The rail commands -/
section
namespace Sys2Proof.Proofs
open Sys2Proof Sys2Proof.Machine Sys2Proof.Safety Sys2Proof.Laws

/-! ## What the wiring of a rail's loops leaves (R418, R424) -/

/-- A change that leaves the power state, a rail's plan, target and state, and the other rails. -/
def Feeds (n : Fin 10) (s t : State) : Prop :=
  bearing t = bearing s ∧ (rail n t).plan = (rail n s).plan ∧ (rail n t).target = (rail n s).target ∧ (rail n t).state = (rail n s).state ∧
    ∀ k, k ≠ n → rail k t = rail k s

section
variable {n : Fin 10} {s t u : State}

theorem Feeds.refl (n : Fin 10) (s : State) : Feeds n s s := ⟨rfl, rfl, rfl, rfl, fun _ _ => rfl⟩

theorem Feeds.trans (h : Feeds n s t) (h' : Feeds n t u) : Feeds n s u := by
  obtain ⟨hb, hp, ht, hs, hk⟩ := h
  obtain ⟨hb', hp', ht', hs', hk'⟩ := h'
  exact ⟨hb'.trans hb, hp'.trans hp, ht'.trans ht, hs'.trans hs, fun k h => (hk' k h).trans (hk k h)⟩

theorem feeds_foldl {α : Type} {f : State → α → State} (h : ∀ s a, Feeds n s (f s a)) (l : List α) (s : State) : Feeds n s (l.foldl f s) :=
  List.foldlRecOn (motive := Feeds n s) l f (Feeds.refl n s) (fun t ht a _ => ht.trans (h t a))

theorem feeds_modLoop (l : Nat) (f : Loop → Loop) (s : State) : Feeds n s (modLoop l f s) := ⟨rfl, rfl, rfl, rfl, fun _ _ => rfl⟩

theorem feeds_hif (s : State) (x : HostIf) : Feeds n s { s with hif := x } := ⟨rfl, rfl, rfl, rfl, fun _ _ => rfl⟩

theorem feeds_hardwareDone (q : Nat) (want : Desc → Bool) (results : List Int) (s : State) : Feeds n s (hardwareDone q want results s) :=
    feeds_hif s _

theorem feeds_postEvent (code severity source : Nat) (bytes : List Byte) (s : State) : Feeds n s (postEvent code severity source bytes s) := by
  rw [postEvent_hif]
  exact feeds_hif s _

theorem feeds_modRail (f : Rail → Rail) (s : State) (hp : ∀ y, (f y).plan = y.plan) (ht : ∀ y, (f y).target = y.target)
    (hs : ∀ y, (f y).state = y.state) : Feeds n s (modRail n f s) := by
  refine ⟨rfl, ?_, ?_, ?_, fun k hk => rail_modRail_ne f s hk⟩
  · rw [rail_modRail_same, hp]
  · rw [rail_modRail_same, ht]
  · rw [rail_modRail_same, hs]

theorem feeds_modPhase (p : Fin 16) (f : Phase → Phase) (s : State) : Feeds n s (modPhase p f s) := ⟨rfl, rfl, rfl, rfl, fun _ _ => rfl⟩

theorem feeds_phasesOff (r : Fin 10) (s : State) : Feeds n s (phasesOff r s) := feeds_foldl (fun t p => feeds_modPhase p _ t) _ s

theorem feeds_wireVoltageLoop (r : Fin 10) (div : Nat) (s : State) : Feeds n s (wireVoltageLoop r div s) := feeds_modLoop _ _ s

theorem feeds_takeSwap (l : Nat) (s : State) : Feeds n s (takeSwap l s) := by
  unfold takeSwap
  dsimp only
  split
  · exact Feeds.refl n s
  · split
    · exact (feeds_modLoop _ _ s).trans (feeds_hardwareDone _ _ _ _)
    · exact feeds_modLoop _ _ s

/-- A hand-over of a rail's own loop that is abandoned. -/
theorem feeds_abandonHand {l : Nat} (hl : loopRail l = some n) (h : HandOver) (detail : Nat) (s : State) : Feeds n s (abandonHand l h detail s) := by
  unfold abandonHand
  rw [hl]
  dsimp only
  generalize hb : modLoop l (fun x => { (x.setSlot x.slot (x.cur.back (coefShift x.cur.set) x.u1 x.ff1 x.e1)) with
    u1 := backTarget x.cur.set x.u1, handover := none }) s = b
  have settled : Feeds n s b := hb ▸ feeds_modLoop _ _ s
  have noted : Feeds n b (modLoopEngine (fun e => { e with abandoned := true }) b) := ⟨rfl, rfl, rfl, rfl, fun _ _ => rfl⟩
  have posted := (settled.trans noted).trans (feeds_postEvent 0x0602 1 0xFFFF (handPayload l (loop l s).slot h.incoming (some h.gap)
    (modLoopEngine (fun e => { e with abandoned := true }) b)) _)
  generalize postEvent 0x0602 1 0xFFFF _ _ = c at posted ⊢
  have held : Feeds n c (if h.ladder then modRail n (fun y => { y with moveHold := upd y.moveHold h.incoming.val (fun _ => 1024) }) c else c) := by
    split
    · exact feeds_modRail _ c (fun _ => rfl) (fun _ => rfl) (fun _ => rfl)
    · exact Feeds.refl n c
  cases h.ring with
  | none => exact posted.trans held
  | some q => exact (posted.trans held).trans (feeds_hardwareDone _ _ _ _)

theorem feeds_answerStart (l : Nat) (result : Int) (s : State) : Feeds n s (answerStart l result s) := by
  unfold answerStart
  split
  · exact (feeds_modLoop _ _ s).trans (feeds_hardwareDone _ _ _ _)
  · exact Feeds.refl n s

theorem feeds_stopLoop {l : Nat} (hl : loopRail l = some n) (s : State) : Feeds n s (stopLoop l s) := by
  unfold stopLoop
  dsimp only
  refine Feeds.trans ?_ (feeds_modLoop _ _ _)
  refine Feeds.trans ?_ (feeds_answerStart _ _ _)
  split
  · exact (feeds_takeSwap l s).trans (feeds_abandonHand hl _ _ _)
  · exact feeds_takeSwap l s

theorem feeds_removeLoop {l : Nat} (hl : loopRail l = some n) (s : State) : Feeds n s (removeLoop l s) := by
  unfold removeLoop
  dsimp only
  refine Feeds.trans ?_ (feeds_modLoop _ _ _)
  have answered := (feeds_stopLoop hl s).trans (feeds_foldl (fun t (q : Fin 22) => feeds_hardwareDone q.val (waitOf [0x0606] 0 2 l) [] t)
    (loop l (stopLoop l s)).rep.resetRings _)
  split
  · exact answered.trans (feeds_modLoop _ _ _)
  · exact answered

theorem loopRail_feedForwardLoop (n : Fin 10) : loopRail (feedForwardLoop n) = some n := by
  revert n
  decide

theorem feeds_wireFeedForward (p : RailPlan) (s : State) : Feeds n s (wireFeedForward n p s) := by
  unfold wireFeedForward
  dsimp only
  split
  · exact (feeds_modLoop _ _ s).trans (feeds_modLoop _ _ _)
  · split
    · exact feeds_removeLoop (loopRail_feedForwardLoop n) s
    · exact Feeds.refl n s

/-- A rail's state set is that rail's alone. -/
theorem rail_setRailState_same (n : Fin 10) (v : RailState) (src : Nat) (s : State) : rail n (setRailState n v src s) =
    { rail n s with state := v } := by
  unfold setRailState
  dsimp only
  split
  · next h => rw [← h]
  · rw [rail_postEvent, rail_modRail_same]

end

/-! ## The commands -/

section
variable {d : Desc} {s : State}

/-- A rail's plan taken, before its loops. -/
def railPlanned (n : Fin 10) (p : RailPlan) (s : State) : State :=
  setRailState n (if p.phaseMask = 0 then .monitor else .off) 0xFFFF
    (modRail n (fun y => { y with plan := p, target := p.target, ref := if p.phaseMask = 0 then p.target * mvUnit else y.ref }) (phasesOff n s))

theorem railPlanned_takes (n : Fin 10) (p : RailPlan) (s : State) : bearing (railPlanned n p s) = bearing s ∧ (rail n (railPlanned n p s)).plan = p ∧
    (rail n (railPlanned n p s)).target = p.target ∧ (rail n (railPlanned n p s)).state = (if p.phaseMask = 0 then .monitor else .off) ∧
    ∀ k, k ≠ n → rail k (railPlanned n p s) = rail k s := by
  obtain ⟨off, _, _, _, others⟩ := feeds_phasesOff (n := n) n s
  unfold railPlanned
  generalize phasesOff n s = a at off others ⊢
  have set := rail_setRailState_same n (if p.phaseMask = 0 then .monitor else .off) 0xFFFF
    (modRail n (fun y => { y with plan := p, target := p.target, ref := if p.phaseMask = 0 then p.target * mvUnit else y.ref }) a)
  rw [rail_modRail_same] at set
  refine ⟨?_, congrArg Rail.plan set, congrArg Rail.target set, congrArg Rail.state set, fun k hk => ?_⟩
  · exact (bearing_of_standing (standing_setRailState _ _ _ _)).trans off
  · rw [rail_setRailState_ne _ _ _ hk, rail_modRail_ne _ _ hk, others k hk]

theorem effectRailConfigure_planned {r : Running} (n : Fin 10) (hn : Fin.ofNat 10 (par r.desc 0 1) = n) (h : n ≠ 0) (s : State) :
    effectRailConfigure r s = (doneWith 0, wireFeedForward n (planOf r.desc) (wireVoltageLoop n (par r.desc 1 1) (railPlanned n (planOf r.desc) s)))
      := by
  unfold effectRailConfigure
  dsimp only
  rw [hn, if_neg h]
  rfl

theorem does_railConfigure (n : Fin 10) (hn : Fin.ofNat 10 (par d 0 1) = n) (h : n ≠ 0) :
    Does 0x0700 checkRailConfigure (.railConfigure d) d s 0 (fun t =>
      (rail n t).plan = planOf (coded 0x0700 d) ∧ (rail n t).target = (planOf (coded 0x0700 d)).target ∧
      (rail n t).state = (if (planOf (coded 0x0700 d)).phaseMask = 0 then .monitor else .off) ∧ ∀ k, k ≠ n → rail k t = rail k s) := by
  refine answers_of_effect effectRailConfigure rfl (fun _ => rfl) (fun x _ => ?_)
  rw [effectRailConfigure_planned (r := starting 0x0700 d s) n hn h]
  obtain ⟨planned, plan, target, state, others⟩ := railPlanned_takes n (planOf (coded 0x0700 d)) { s with hif := x }
  obtain ⟨wired, plan', target', state', others'⟩ := (feeds_wireVoltageLoop (n := n) n (par d 1 1)
    (railPlanned n (planOf (coded 0x0700 d)) { s with hif := x })).trans (feeds_wireFeedForward (planOf (coded 0x0700 d)) _)
  refine ⟨⟨_, rfl, rfl, rfl, rfl, read_of_detail_zero rfl⟩, slowTicks_of_bearing (wired.trans planned), twin_of_bearing (wired.trans planned),
    fun _ =>
    ⟨plan'.trans plan, target'.trans target, state'.trans state, fun k hk => (others' k hk).trans (others k hk)⟩⟩

/-- The core rail with a plan taken: its target is the adaptive voltage's while that is in force. -/
def corePlanned (p : RailPlan) (avs : Bool) (y : Rail) : Rail :=
  { y with plan := corePlan y.plan p, target := if avs then y.target else p.target }

theorem does_railConfigure_core (n : Fin 10) (hn : Fin.ofNat 10 (par d 0 1) = n) (h : n = 0) :
    Does 0x0700 checkRailConfigure (.railConfigure d) d s 0 (fun t =>
      (rail n t).plan = corePlan (rail n s).plan (planOf (coded 0x0700 d)) ∧ (rail n t).state = (rail n s).state ∧
      (rail n t).target = (if s.supply.avsEnabled then (rail n s).target else (planOf (coded 0x0700 d)).target) ∧ ∀ k, k ≠ n → rail k t = rail k s) :=
        by
  subst h
  refine answers_of_effect effectRailConfigure rfl (fun _ => rfl) (fun x _ => ?_)
  have effect : effectRailConfigure (starting 0x0700 d s) { s with hif := x } = (doneWith 0, wireVoltageLoop 0 (par d 1 1)
      (modRail 0 (corePlanned (planOf (coded 0x0700 d)) s.supply.avsEnabled) { s with hif := x })) := if_pos hn
  rw [effect]
  have same := rail_modRail_same 0 (corePlanned (planOf (coded 0x0700 d)) s.supply.avsEnabled) { s with hif := x }
  have plan := congrArg Rail.plan same
  have state := congrArg Rail.state same
  have target := congrArg Rail.target same
  exact ⟨⟨_, rfl, rfl, rfl, rfl, read_of_detail_zero rfl⟩, rfl, rfl, fun _ =>
    ⟨plan, state, target, fun k hk => rail_modRail_ne (corePlanned (planOf (coded 0x0700 d)) s.supply.avsEnabled) { s with hif := x } hk⟩⟩

/-! ## RAIL_SET_VOLTAGE -/

theorem answerRing_hif (r : Fin 10) (o : Option (Fin 22)) (results : List Int) (s : State) :
    ∃ x, answerRing r o results s = { s with hif := x } := by
  cases o with
  | none => exact ⟨s.hif, rfl⟩
  | some q => exact ⟨_, rfl⟩

/-- A rail with a new target and slew, whose settling a ring waits for. -/
def voltageSet (d : Desc) (y : Rail) : Rail := { y with target := par d 2 2, slew := par d 4 2, setRing := some d.ring, settled := 0, pgWait := 0 }

theorem starts_railSetVoltage (n : Fin 10) (hn : Fin.ofNat 10 (par d 0 1) = n) :
    Starts 0x0701 checkRailSetVoltage (.railSetVoltage d) d s .hardware (fun t =>
      (rail n t).target = par d 2 2 ∧ (rail n t).slew = par d 4 2 ∧ (rail n t).setRing = some d.ring ∧ (rail n t).ref = (rail n s).ref ∧
      (rail n t).state = (rail n s).state ∧ (∀ k, k ≠ n → rail k t = rail k s) ∧ t = { s with supply := t.supply, hif := t.hif }) := by
  subst hn
  intro ⟨hb, hc⟩
  obtain ⟨x, hs⟩ := exists_stepping 0x0701 d s
  rw [hs] at hc
  obtain ⟨y, answered⟩ := answerRing_hif (Fin.ofNat 10 (par d 0 1)) (rail (Fin.ofNat 10 (par d 0 1)) s).setRing
    [3, (rail (Fin.ofNat 10 (par d 0 1)) s).sensed] { s with hif := x }
  have effect : opRailSetVoltage (starting 0x0701 d s) { s with hif := x } = (awaitHardware (starting 0x0701 d s) 1 [],
      modRail (Fin.ofNat 10 (par d 0 1)) (voltageSet d) { s with hif := y }) :=
    ((if_pos rfl).trans (guarded_pass effectRailSetVoltage hc)).trans
      (congrArg (fun z => (awaitHardware (starting 0x0701 d s) 1 [], modRail (Fin.ofNat 10 (par d 0 1)) (voltageSet d) z)) answered)
  obtain ⟨t, ht, ha, he⟩ := exec_stays (i := .railSetVoltage d) (op := opRailSetVoltage) rfl hb hs effect rfl nofun rfl rfl rfl rfl
  have same := rail_modRail_same (Fin.ofNat 10 (par d 0 1)) (voltageSet d) { s with hif := y }
  have target := congrArg Rail.target same
  have slew := congrArg Rail.slew same
  have ring := congrArg Rail.setRing same
  have ref := congrArg Rail.ref same
  have state := congrArg Rail.state same
  refine ⟨t, ht, ha, ?_⟩
  rw [he]
  exact ⟨target, slew, ring, ref, state, fun k hk => rail_modRail_ne (voltageSet d) { s with hif := y } hk, rfl⟩

/-! ## RAIL_START and RAIL_STOP -/

theorem target_beginSoftStart (r q : Fin 10) (s : State) : (rail q (beginSoftStart r s)).target = (rail q s).target := by
  have loops (p : Prop) [Decidable p] (a b : State) (h : rail q a = rail q b) : rail q (if p then a else b) = rail q b := by
    rw [apply_ite (rail q), h, ite_self]
  unfold beginSoftStart
  dsimp only
  rw [loops _ _ _ (by rw [startLoop, rail_modLoop, rail_modLoop])]
  by_cases h : q = r
  · subst h
    rw [rail_modRail_same, rail_phasesOn]
    have kept := congrArg Rail.target (rail_setRailState_same q .softStart 0xFFFF s)
    exact kept
  · rw [rail_modRail_ne _ _ h, rail_phasesOn, rail_setRailState_ne _ _ _ h]

theorem target_softStarts (l : List (Fin 10)) (q : Fin 10) (s : State) :
    (rail q (l.foldl (fun s k => beginSoftStart k s) s)).target = (rail q s).target :=
  List.foldlRecOn (motive := fun (t : State) => (rail q t).target = (rail q s).target) l _ rfl
    (fun t ht k _ => (target_beginSoftStart k q t).trans ht)

theorem starts_railStart (n : Fin 10) (hn : Fin.ofNat 10 (par d 0 1) = n) (ho : (rail n s).state = .off) :
    Starts 0x0702 checkRailStart (.railStart d) d s .hardware (fun t =>
      (rail n t).state = .softStart ∧ (rail n t).startRing = some d.ring ∧ (rail n t).target = (rail n s).target) := by
  subst hn
  refine starts_of_effect effectRailStart rfl (fun _ => if_pos rfl) (fun x _ => ?_)
  generalize hg : (Fin.ofNat 10 (par d 0 1) :: followers (Fin.ofNat 10 (par d 0 1)) { s with hif := x }).filter
    (fun k => (rail k { s with hif := x }).state == .off) = g
  have effect : effectRailStart (starting 0x0702 d s) { s with hif := x } = (awaitHardware (starting 0x0702 d s) 1 [],
      modRail (Fin.ofNat 10 (par d 0 1)) (fun y => { y with startRing := some d.ring }) (g.foldl (fun s k => beginSoftStart k s) { s with hif := x }))
        := by
    rw [← hg]
    rfl
  rw [effect]
  have named : Fin.ofNat 10 (par d 0 1) ∈ g := by
    rw [← hg]
    exact List.mem_filter.mpr ⟨List.mem_cons_self, beq_iff_eq.mpr ho⟩
  have begun := bearing_of_standing (standing_foldl (fun s k => beginSoftStart k s) g { s with hif := x } (fun t k => standing_beginSoftStart k t))
  have state := (state_softStarts g (Fin.ofNat 10 (par d 0 1)) { s with hif := x }).trans (if_pos named)
  have target := target_softStarts g (Fin.ofNat 10 (par d 0 1)) { s with hif := x }
  generalize g.foldl (fun s k => beginSoftStart k s) { s with hif := x } = t at begun state target ⊢
  have same := rail_modRail_same (Fin.ofNat 10 (par d 0 1)) (fun y => { y with startRing := some d.ring }) t
  have state' := (congrArg Rail.state same).trans state
  have ring' := congrArg Rail.startRing same
  have target' := (congrArg Rail.target same).trans target
  exact ⟨⟨_, rfl, rfl, rfl, rfl⟩, slowTicks_of_bearing begun, twin_of_bearing begun, fun _ => ⟨state', ring', target'⟩⟩

/-- A rail's plan and target. -/
def aim (q : Fin 10) (s : State) : RailPlan × Nat := ((rail q s).plan, (rail q s).target)

theorem aim_modRail {q : Fin 10} (r : Fin 10) (f : Rail → Rail) (s : State) (h : ∀ y, ((f y).plan, (f y).target) = (y.plan, y.target)) :
    aim q (modRail r f s) = aim q s := by
  unfold aim
  by_cases hq : q = r
  · subst hq
    rw [rail_modRail_same]
    exact h _
  · rw [rail_modRail_ne f s hq]

theorem aim_setRailState {q : Fin 10} (r : Fin 10) (v : RailState) (src : Nat) (s : State) : aim q (setRailState r v src s) = aim q s := by
  unfold setRailState
  dsimp only
  split
  · rfl
  · unfold aim
    rw [rail_postEvent]
    exact aim_modRail r _ s (fun _ => rfl)

theorem aim_beginRailStop {q : Fin 10} (r : Fin 10) (s : State) : aim q (beginRailStop r s) = aim q s := by
  have answered (o : Option (Fin 22)) (results : List Int) (t : State) : aim q (answerRing r o results t) = aim q t := by cases o <;> rfl
  unfold beginRailStop
  split
  · rw [aim_setRailState]
    unfold dropWaits
    exact (aim_modRail r (fun y => { y with startRing := none, setRing := none }) _ (fun _ => rfl)).trans ((answered _ _ _).trans (answered _ _ _))
  · rfl

theorem aim_stopGroup {q : Fin 10} (r : Fin 10) (s : State) : aim q (stopGroup r s) = aim q s :=
  List.foldlRecOn (motive := fun (t : State) => aim q t = aim q s) _ _ rfl (fun t ht k _ => (aim_beginRailStop k t).trans ht)

theorem starts_railStop (n : Fin 10) (hn : Fin.ofNat 10 (par d 0 1) = n) :
    Starts 0x0703 checkRailStop (.railStop d) d s .hardware (fun t =>
      (rail n t).stopRing = some d.ring ∧ (rail n t).target = (rail n s).target ∧ (rail n t).plan = (rail n s).plan) := by
  subst hn
  refine starts_of_effect effectRailStop rfl (fun _ => if_pos rfl) (fun x _ => ?_)
  have effect : effectRailStop (starting 0x0703 d s) { s with hif := x } = (awaitHardware (starting 0x0703 d s) 1 [],
    modRail (Fin.ofNat 10 (par d 0 1))
      (fun y => { y with stopRing := some d.ring }) (stopGroup (Fin.ofNat 10 (par d 0 1)) { s with hif := x })) := rfl
  rw [effect]
  have begun := bearing_of_standing (standing_stopGroup (Fin.ofNat 10 (par d 0 1)) { s with hif := x })
  have aimed := aim_stopGroup (q := Fin.ofNat 10 (par d 0 1)) (Fin.ofNat 10 (par d 0 1)) { s with hif := x }
  generalize stopGroup (Fin.ofNat 10 (par d 0 1)) { s with hif := x } = t at begun aimed ⊢
  have same := rail_modRail_same (Fin.ofNat 10 (par d 0 1)) (fun y => { y with stopRing := some d.ring }) t
  have ring := congrArg Rail.stopRing same
  have target := (congrArg Rail.target same).trans (congrArg Prod.snd aimed)
  have plan := (congrArg Rail.plan same).trans (congrArg Prod.fst aimed)
  exact ⟨⟨_, rfl, rfl, rfl, rfl⟩, slowTicks_of_bearing begun, twin_of_bearing begun, fun _ => ⟨ring, target, plan⟩⟩

/-! ## TRACKING_SET and CORE_AVS_CONFIGURE -/

/-- A rail with a tracking relation taken or cleared. -/
def tracked (d : Desc) (y : Rail) : Rail :=
  { y with tracking := if par d 2 1 = 0 then none else some (Fin.ofNat 10 (par d 1 1), par d 2 1, if par d 2 1 = 1 then parInt d 4 2 else 0) }

theorem does_trackingSet (n : Fin 10) (hn : Fin.ofNat 10 (par d 0 1) = n) :
    Does 0x0705 checkTrackingSet (.trackingSet d) d s 0 (fun t => t = { Kept s t with supply := t.supply } ∧
      rail n t = { rail n s with tracking :=
        (if par d 2 1 = 0 then none else some (Fin.ofNat 10 (par d 1 1), par d 2 1, if par d 2 1 = 1 then parInt d 4 2 else 0)) } ∧
      ∀ k, k ≠ n → rail k t = rail k s) := by
  subst hn
  refine answers_of_effect effectTrackingSet rfl (fun _ => rfl) (fun x _ => ?_)
  have same := rail_modRail_same (Fin.ofNat 10 (par d 0 1)) (tracked d) { s with hif := x }
  exact ⟨⟨_, rfl, rfl, rfl, rfl, read_of_detail_zero rfl⟩, rfl, rfl, fun _ => ⟨rfl, same, fun k hk => rail_modRail_ne (tracked d) { s with hif :=
    x } hk⟩⟩

theorem does_coreAvsConfigure : Does 0x0706 checkCoreAvsConfigure (.coreAvsConfigure d) d s 0 (fun t =>
    t.supply = { s.supply with avsNext := some {
      enable := par d 1 1 == 1, vMin := par d 2 2, vMax := par d 4 2, rise := par d 6 1, fall := par d 7 1, aging := par d 8 2 } } ∧
    t = { Kept s t with supply := t.supply }) :=
  answers_of_effect effectCoreAvsConfigure rfl (fun _ => rfl) (fun _ _ =>
    ⟨⟨_, rfl, rfl, rfl, rfl, read_of_detail_zero rfl⟩, rfl, rfl, fun _ => ⟨rfl, rfl⟩⟩)

end

/-- Settles O22: each command takes its plan, target, relation or parameters, or begins what it waits for. -/
theorem railCommands : Obligations.RailCommands := by
  unfold Obligations.RailCommands
  exact fun _ _ n hn => ⟨does_railConfigure n hn, does_railConfigure_core n hn, starts_railSetVoltage n hn, starts_railStart n hn,
    starts_railStop n hn,
    does_trackingSet n hn, does_coreAvsConfigure⟩

end Sys2Proof.Proofs
end

/-! # The commands of the fabric and of the twin pair -/
section
namespace Sys2Proof.Proofs
open Sys2Proof Sys2Proof.Machine Sys2Proof.Safety Sys2Proof.Laws

/-! ## FABRIC_DISCOVER (R622) -/

/-- A change of one link that leaves the power state and the other links. -/
def Trains (l : Nat) (s t : State) : Prop := bearing t = bearing s ∧ ∀ k, k ≠ l → link k t = link k s

theorem Trains.refl (l : Nat) (s : State) : Trains l s s := ⟨rfl, fun _ _ => rfl⟩

theorem Trains.trans {l : Nat} {s t u : State} (h : Trains l s t) (h' : Trains l t u) : Trains l s u :=
  ⟨h'.1.trans h.1, fun k hk => (h'.2 k hk).trans (h.2 k hk)⟩

theorem trains_hif (l : Nat) (s : State) (x : HostIf) : Trains l s { s with hif := x } := ⟨rfl, fun _ _ => rfl⟩

theorem link_modLink_ne {k l : Nat} (h : k ≠ l) (f : ObxLink → ObxLink) (s : State) : link k (modLink l f s) = link k s := nth_upd_ne _ _ _ _ _ h

theorem trains_modLink (l : Nat) (f : ObxLink → ObxLink) (s : State) : Trains l s (modLink l f s) := ⟨rfl, fun _ hk => link_modLink_ne hk f s⟩

theorem trains_setLink (l : Nat) (v : ObxState) (lanes : BitVec 4) (s : State) : Trains l s (setLink l v lanes s) := by
  obtain ⟨x, h⟩ := setLink_link l v lanes s
  rw [h]
  exact (trains_modLink l _ s).trans (trains_hif l _ x)

theorem trains_answerLink (l : Nat) (want : Desc → Bool) (o : Option (Fin 22)) (results : List Int) (s : State) :
    Trains l s (answerLink want o results s) := by
  cases o with
  | none => exact Trains.refl l s
  | some q => exact trains_hif l s _

theorem trains_dropBlocks (l : Nat) (fs : List ObxFrame) (s : State) : Trains l s (fs.foldl dropBlock s) :=
  List.foldlRecOn (motive := Trains l s) fs dropBlock (Trains.refl l s) (fun _ ht _ _ => ht.trans ⟨rfl, fun _ _ => rfl⟩)

theorem trains_endReclaim (l : Nat) (last : Option (BitVec 12)) (s : State) : Trains l s (endReclaim l last s) := by
  unfold endReclaim
  dsimp only
  split
  · exact Trains.refl l s
  · exact (((trains_dropBlocks l _ s).trans (trains_modLink l _ _)).trans (trains_setLink l _ _ _)).trans (trains_answerLink l _ _ _ _)

theorem trains_trainPort (rate l : Nat) (s : State) : Trains l s (trainPort rate s l) :=
  (((trains_endReclaim l none s).trans (trains_dropBlocks l _ _)).trans (trains_modLink l _ _)).trans (trains_setLink l _ _ _)

/-- A link named is in training at its rate. -/
theorem link_trainPort {l : Nat} (hl : l < 5) (rate : Nat) (s : State) :
    (link l (trainPort rate s l)).state = .training ∧ (link l (trainPort rate s l)).rate = rate := by
  unfold trainPort
  dsimp only
  rw [link_setLink hl, link_modLink_same _ _ _ hl]
  exact ⟨rfl, rfl⟩

theorem bearing_trainPorts (rate mask : Nat) (s : State) : bearing (trainPorts rate mask s) = bearing s :=
  List.foldlRecOn (motive := fun t => bearing t = bearing s) _ _ rfl (fun t ht l _ => (trains_trainPort rate l t).1.trans ht)

theorem link_trainPorts {l mask : Nat} (hl : l < 4) (hm : mask.testBit l = true) (rate : Nat) (s : State) :
    (link l (trainPorts rate mask s)).state = .training ∧ (link l (trainPorts rate mask s)).rate = rate := by
  refine foldl_meets (fun _ => True) (fun t => (link l t).state = .training ∧ (link l t).rate = rate) (List.nodup_range.filter _)
    (List.mem_filter.mpr ⟨List.mem_range.mpr hl, hm⟩) trivial (fun _ _ _ _ => trivial) (fun t _ => link_trainPort (by omega) rate t) ?_
  intro t k hk ht
  rw [(trains_trainPort rate k t).2 l (Ne.symm hk)]
  exact ht

section
variable {d : Desc} {s : State}

/-- What a discovery of some ports begins. -/
def discovering (d : Desc) (s : State) : State :=
  modFabric (fun f => { f with sysrefDelay := #v[BitVec.ofNat 8 (par d 2 1), BitVec.ofNat 8 (par d 3 1)], discoverRing := some d.ring,
                               discoverPorts := BitVec.ofNat 4 (par d 1 1) }) (trainPorts (par d 0 1) (par d 1 1) s)

theorem starts_fabricDiscover (hp : par d 1 1 ≠ 0) (hb : Begins 0x0C00 d s)
    (hc : checkFabricDiscover (starting 0x0C00 d s) (stepping 0x0C00 d s) = none) :
    ∃ t, exec (.fabricDiscover d) s = .next t ∧ Awaits 0x0C00 d .hardware t ∧ t.fabric.discoverRing = some d.ring ∧
      t.fabric.discoverPorts = BitVec.ofNat 4 (par d 1 1) ∧
      (∀ l, l < 4 → (par d 1 1).testBit l = true → (link l t).state = .training ∧ (link l t).rate = par d 0 1) := by
  have effect : opFabricDiscover (starting 0x0C00 d s) (stepping 0x0C00 d s) =
      (awaitHardware (starting 0x0C00 d s) 1 [], discovering d (stepping 0x0C00 d s)) := by
    refine (if_neg nofun).trans ?_
    rw [hc]
    exact if_neg hp
  obtain ⟨x, hx⟩ := exists_stepping 0x0C00 d s
  have kept : bearing (discovering d (stepping 0x0C00 d s)) = bearing s := by
    rw [hx]
    exact bearing_trainPorts _ _ _
  have trained (l : Nat) (hl : l < 4) (hm : (par d 1 1).testBit l = true) := link_trainPorts hl hm (par d 0 1) (stepping 0x0C00 d s)
  refine exec_of_stays_stepping (op := opFabricDiscover) rfl hb ?_
  rw [effect]
  generalize stepping 0x0C00 d s = m at kept trained ⊢
  exact ⟨⟨_, rfl, rfl, rfl, rfl⟩, slowTicks_of_bearing kept, twin_of_bearing kept, fun _ => ⟨rfl, rfl, trained⟩⟩

/-! ## ROUTE_SET (R626) -/

theorem routeOf_changeRoute {x : Desc} (h : par x 0 1 < 16) :
    (routeOf (par x 0 1) (changeRoute x s)).port = (if par x 1 1 = 0xFF then (routeOf (par x 0 1) s).computed else par x 1 1) ∧
    (routeOf (par x 0 1) (changeRoute x s)).manual = (par x 1 1 != 0xFF) := by
  have one : routeOf (par x 0 1) (changeRoute x s) = if par x 1 1 = 0xFF
      then { routeOf (par x 0 1) s with port := (routeOf (par x 0 1) s).computed, manual := false }
      else { routeOf (par x 0 1) s with port := par x 1 1, manual := true } := nth_upd_same s.fabric.routes _ _ Route.reset h
  rw [one]
  split
  · next hm => exact ⟨rfl, by rw [hm]; rfl⟩
  · next hm => exact ⟨rfl, (bne_iff_ne.mpr hm).symm⟩

theorem sets_route (h : par d 0 1 < s.fabric.routes.size) (hp : Passes 0x0C02 checkRouteSet d s) : ∃ t, exec (.routeSet d) s = .next t ∧
    (routeSettled d t = true → Answered 0x0C02 d .done 0 0 t) ∧ (routeSettled d t = false → Awaits 0x0C02 d .state t) ∧
    ((routeOf (par d 0 1) t).port = if par d 1 1 = 0xFF then (routeOf (par d 0 1) s).computed else par d 1 1) ∧
    ((routeOf (par d 0 1) t).manual = (par d 1 1 != 0xFF)) ∧ t.fabric.links = s.fabric.links := by
  obtain ⟨hb, hc⟩ := hp
  obtain ⟨x, hx⟩ := exists_stepping 0x0C02 d s
  have effect : opRouteSet (starting 0x0C02 d s) (stepping 0x0C02 d s) = if routeSettled d (changeRoute d (stepping 0x0C02 d s)) = true
      then (doneWith 0, changeRoute d (stepping 0x0C02 d s)) else (awaitState (starting 0x0C02 d s) 1 [], changeRoute d (stepping 0x0C02 d s)) := by
    refine (if_neg nofun).trans ?_
    rw [hc]
    rfl
  obtain ⟨port, manual⟩ := routeOf_changeRoute (x := d) (s := stepping 0x0C02 d s) h
  rw [hx] at effect port manual
  have links : (changeRoute d { s with hif := x }).fabric.links = s.fabric.links := rfl
  have ticks : (changeRoute d { s with hif := x }).slowTicks = s.slowTicks := rfl
  have twin : (changeRoute d { s with hif := x }).twin = s.twin := rfl
  generalize changeRoute d { s with hif := x } = m at effect port manual links ticks twin
  cases settled : routeSettled d m with
  | true =>
    rw [if_pos settled] at effect
    obtain ⟨t, run, done, kept⟩ := exec_of_ends_stepping (op := opRouteSet) (i := .routeSet d) (p := fun t => routeSettled d t = true ∧
      (routeOf (par d 0 1) t).port = (if par d 1 1 = 0xFF then (routeOf (par d 0 1) s).computed else par d 1 1) ∧
      (routeOf (par d 0 1) t).manual = (par d 1 1 != 0xFF) ∧ t.fabric.links = s.fabric.links) rfl hb (st := .done) (detail := 0) (res := 0) (by
        rw [hx, effect]
        exact ⟨⟨_, rfl, rfl, rfl, rfl, read_of_detail_zero rfl⟩, ticks, twin, fun _ => ⟨settled, port, manual, links⟩⟩)
    exact ⟨t, run, fun _ => done, fun hn => absurd (kept.1.symm.trans hn) (by decide), kept.2⟩
  | false =>
    rw [if_neg (by rw [settled]; decide)] at effect
    obtain ⟨t, run, waits, kept⟩ := exec_of_stays_stepping (op := opRouteSet) (i := .routeSet d) (w := .state) (p := fun t => routeSettled d t =
      false ∧
      (routeOf (par d 0 1) t).port = (if par d 1 1 = 0xFF then (routeOf (par d 0 1) s).computed else par d 1 1) ∧
      (routeOf (par d 0 1) t).manual = (par d 1 1 != 0xFF) ∧ t.fabric.links = s.fabric.links) rfl hb (by
        rw [hx, effect]
        exact ⟨⟨_, rfl, rfl, rfl, rfl⟩, ticks, twin, fun _ => ⟨settled, port, manual, links⟩⟩)
    exact ⟨t, run, fun hn => absurd (kept.1.symm.trans hn) (by decide), fun _ => waits, kept.2⟩

/-! ## BILLET_SET and LINK_RECLAIM (R610, R612) -/

/-- A link whose new totals a ring waits for. -/
def billetsAsked (d : Desc) (y : ObxLink) : ObxLink := { y with billetNext := some (billetTotals d), billetRing := some d.ring }

theorem starts_billetSet (h : par d 0 1 < 5) : Starts 0x0C03 checkBilletSet (.billetSet d) d s .hardware (fun t =>
    (link (par d 0 1) t).billetNext = some (billetTotals (coded 0x0C03 d)) ∧ (link (par d 0 1) t).slots = (link (par d 0 1) s).slots ∧
    t = { Kept s t with fabric := t.fabric }) := by
  refine starts_of_stays (op := opBilletSet) rfl (fun x hc => ?_)
  have effect : opBilletSet (starting 0x0C03 d s) { s with hif := x } =
      (awaitHardware (starting 0x0C03 d s) 1 [], modLink (par d 0 1) (billetsAsked d) { s with hif := x }) := by
    unfold opBilletSet
    dsimp only
    rw [if_neg (show ¬ (starting 0x0C03 d s).phase = 1 from nofun), hc]
    rfl
  rw [effect]
  have same := link_modLink_same (par d 0 1) (billetsAsked d) { s with hif := x } h
  have next := congrArg ObxLink.billetNext same
  have slots := congrArg ObxLink.slots same
  exact ⟨⟨_, rfl, rfl, rfl, rfl⟩, rfl, rfl, fun _ => ⟨next, slots, rfl⟩⟩

theorem bearing_foldl {α : Type} (f : State → α → State) (l : List α) (s : State) (h : ∀ s a, bearing (f s a) = bearing s) :
    bearing (l.foldl f s) = bearing s :=
  List.foldlRecOn (motive := fun t => bearing t = bearing s) l f rfl (fun t ht a _ => (h t a).trans ht)

theorem bearing_ite (p : Prop) [Decidable p] (s t : State) : bearing (if p then s else t) = if p then bearing s else bearing t :=
    apply_ite bearing p s t

theorem bearing_modLink (l : Nat) (f : ObxLink → ObxLink) (s : State) : bearing (modLink l f s) = bearing s := rfl

theorem bearing_sendOn (l : Nat) (m : ControlMsg) (s : State) : bearing (sendOn l m s) = bearing s := by
  unfold sendOn
  obtain ⟨x, h⟩ := sendFrame_fabric l { blankFrame .control 2 (deviceAddress s) (link l s).neighbour.val with msg := m } s
  rw [h]
  rfl

theorem bearing_sendControl (a : Nat) (m : ControlMsg) (s : State) : bearing (sendControl a m s) = bearing s := by
  obtain ⟨l, h⟩ := sendControl_links a m s
  rw [h]
  rfl

theorem bearing_floodOwn (s : State) : bearing (floodOwn s) = bearing s := by
  simp only [floodOwn, flood, bearing_foldl, bearing_ite, bearing_sendOn, implies_true, ite_self]

theorem bearing_routeLost (s : State) (a : Nat) : bearing (routeLost s a) = bearing s := by
  unfold routeLost
  split
  · rfl
  · exact bearing_foldl _ _ _ (fun _ _ => rfl)

theorem bearing_setMembers (s : State) : bearing (setMembers s) = bearing s := by
  have one (f : Fabric → Fabric) : bearing (modFabric f s) = bearing s := rfl
  have recorded (cls severity code writer : Nat) (bytes : List Byte) (events : List EventRec) (t : State) :
      bearing (systemRecord cls severity code writer bytes events t) = bearing t := by
    obtain ⟨x, y, h⟩ := systemRecord_records cls severity code writer bytes events t
    rw [h]
    rfl
  unfold setMembers
  rw [bearing_ite, recorded, ite_self]
  exact one _

theorem bearing_orientLinks (s : State) : bearing (orientLinks s) = bearing s := bearing_foldl _ _ _ (fun _ _ => bearing_modLink _ _ _)

theorem bearing_fabricChanged (s : State) : bearing (fabricChanged s) = bearing s := by
  unfold fabricChanged installRoutes
  split
  · dsimp only
    rw [bearing_foldl _ _ _ (fun t a => ?lost), bearing_orientLinks, bearing_setMembers]
    · rfl
    case lost =>
      rw [bearing_ite, bearing_routeLost, ite_self]
  · rfl

theorem bearing_setLink (l : Nat) (v : ObxState) (lanes : BitVec 4) (s : State) : bearing (setLink l v lanes s) = bearing s :=
  (trains_setLink l v lanes s).1

/-- A link of the fabric that goes down leaves the power state and the pair. -/
theorem bearing_linkDown {l : Nat} (hl : l < 4) (h : ¬ ((link l s).state = .down ∨ (link l s).state = .reclaiming)) :
    bearing (linkDown l s) = bearing s := by
  have answered : bearing (linkAnswered l s) = bearing s := by
    refine (trains_answerLink l _ _ _ _).1.trans ((bearing_setLink _ _ _ _).trans ?_)
    exact bearing_setLink l .down 0 s
  rw [linkDown_eq h, if_neg (by omega)]
  simp only [bearing_ite, bearing_sendControl, bearing_fabricChanged, bearing_floodOwn, ite_self, answered]

theorem starts_linkReclaim (h : par d 0 1 < 4) (hd : (link (par d 0 1) s).state ≠ .down) (hr : (link (par d 0 1) s).state ≠ .reclaiming) :
    Starts 0x0C04 checkLinkReclaim (.linkReclaim d) d s .hardware (fun t => (link (par d 0 1) t).state = .reclaiming ∧
      ∃ e ∈ t.faults.inbox, e.src = Fin.ofNat 512 (linkSource (par d 0 1))) := by
  refine starts_of_stays (op := opLinkReclaim) rfl (fun x hc => ?_)
  generalize hm : modLink (par d 0 1) (fun y => { y with reclaimRing := some d.ring }) { s with hif := x } = m
  have effect : opLinkReclaim (starting 0x0C04 d s) { s with hif := x } = (awaitHardware (starting 0x0C04 d s) 1 [], linkDown (par d 0 1) m) := by
    rw [← hm]
    unfold opLinkReclaim
    dsimp only
    rw [if_neg (show ¬ (starting 0x0C04 d s).phase = 1 from nofun), hc]
    rfl
  have asked : (link (par d 0 1) m).state = (link (par d 0 1) s).state := by
    rw [← hm, link_modLink_same _ _ _ (by omega)]
    rfl
  have up : ¬ ((link (par d 0 1) m).state = .down ∨ (link (par d 0 1) m).state = .reclaiming) := by
    rw [asked]
    exact not_or.mpr ⟨hd, hr⟩
  have before : bearing m = bearing s := by
    rw [← hm]
    rfl
  have kept := (bearing_linkDown h up).trans before
  obtain ⟨state, -, e, he, hs, -⟩ := linkDown_stands (by omega) up
  rw [effect]
  generalize linkDown (par d 0 1) m = u at kept state he ⊢
  exact ⟨⟨_, rfl, rfl, rfl, rfl⟩, slowTicks_of_bearing kept, twin_of_bearing kept, fun _ => ⟨state, e, he, hs⟩⟩

/-! ## The twin pair's commands (R630, R632, R641) -/

/-- A first step that ends a command, where the state it leaves has no standby to hear of the command. -/
theorem exec_ends_leadless {code : Nat} {i : Instr} {op : Op} {s' : State} {f : Finish} (hx : exec i s = .next (submitRow code op d s))
    (hb : Begins code d s) (hl : Leadless code s') (hop : op (starting code d s) (stepping code d s) = (.final f, s')) (hf : ¬ Unread f)
    (ht : s'.slowTicks = s.slowTicks) :
    ∃ t, exec i s = .next t ∧ Answered code d f.status f.detail f.result t ∧ ∃ b : Aside, t = b.on s' := by
  obtain ⟨hk, c, hr, tag, opcode, status, detail, res, final, idle⟩ := finishRunning_start (r := starting code d s) (f := f) hb.outside hl rfl rfl hf
    ht.le rfl
  have hrun := keepsRunning_refreshReady (finishRunning d.ring.val (starting code d s) f s')
  refine ⟨_, hx, ?_⟩
  rw [submit_begins _ _ _ _ hb, hop]
  exact ⟨⟨c, (hrun.lastRecord _).trans hr, tag, opcode, status, detail, res, final, (hrun.2 _).trans idle⟩,
    aside_of_kept (kept_trans hk (kept_hif hrun.hif))⟩

theorem does_twinConfigure : Does 0x0C10 checkTwinConfigure (.twinConfigure d) d s 0 (fun t =>
    t = { Kept s t with twin := { s.twin with par := twinParamsOf (coded 0x0C10 d) } }) := by
  intro ⟨hb, hc⟩
  obtain ⟨x, hx⟩ := exists_stepping 0x0C10 d s
  have effect : opTwinConfigure (starting 0x0C10 d s) (stepping 0x0C10 d s) =
      (doneWith 0, modTwin (fun t => { t with par := twinParamsOf (coded 0x0C10 d) }) { s with hif := x }) := by
    rw [hx] at hc ⊢
    exact guarded_pass effectTwinConfigure hc
  have before : Leadless 0x0C10 s := leadless_of_begins hb
  have leadless : Leadless 0x0C10 (modTwin (fun t => { t with par := twinParamsOf (coded 0x0C10 d) }) { s with hif := x }) := before
  obtain ⟨t, run, done, b, hb⟩ := exec_ends_leadless (i := .twinConfigure d) (op := opTwinConfigure) rfl hb leadless effect
    (read_of_detail_zero rfl) rfl
  refine ⟨t, run, done, ?_⟩
  rw [hb]
  rfl

theorem does_twinSync (h : s.twin.state = .lockstep) :
    Does 0x0C11 checkTwinSync (.twinSync d) d s (syncResult [1, s.twin.peerBeta.toNat, s.twin.compared]) (fun t => t = Kept s t) := by
  refine answers_of_ends (op := opTwinSync) rfl (fun x hc => ?_)
  have effect : opTwinSync (starting 0x0C11 d s) { s with hif := x } =
      (doneWith (syncResult [1, s.twin.peerBeta.toNat, s.twin.compared]), { s with hif := x }) := by
    refine (if_neg nofun).trans ?_
    rw [hc]
    exact if_pos h
  rw [effect]
  exact ⟨⟨_, rfl, rfl, rfl, rfl, read_of_detail_zero rfl⟩, rfl, rfl, fun _ => rfl⟩

/-- A change of the pair, the fabric and the host interface alone. -/
def Pairs (s t : State) : Prop := ∃ x w f, t = { s with hif := x, twin := w, fabric := f }

theorem Pairs.refl (s : State) : Pairs s s := ⟨s.hif, s.twin, s.fabric, rfl⟩

theorem Pairs.trans {s t u : State} (h : Pairs s t) (h' : Pairs t u) : Pairs s u := by
  obtain ⟨_, _, _, rfl⟩ := h
  obtain ⟨x, w, f, rfl⟩ := h'
  exact ⟨x, w, f, rfl⟩

theorem pairs_foldl {α : Type} {f : State → α → State} (h : ∀ s a, Pairs s (f s a)) (l : List α) (s : State) : Pairs s (l.foldl f s) :=
  List.foldlRecOn (motive := Pairs s) l f (Pairs.refl s) (fun t ht a _ => ht.trans (h t a))

theorem pairs_flushTwin (msgs : List ControlMsg) (s : State) : Pairs s (flushTwin msgs s) := by
  induction msgs generalizing s with
  | nil => exact ⟨s.hif, _, s.fabric, rfl⟩
  | cons m rest ih =>
    unfold flushTwin
    split
    · next t h =>
      obtain ⟨x, hx⟩ := sendFrame_fabric 4 { blankFrame .control 2 (deviceAddress s) (twinAddress s) with msg := m } s
      rw [h] at hx
      have sent : Pairs s t := ⟨s.hif, s.twin, x, hx⟩
      exact sent.trans (ih t)
    · exact ⟨s.hif, _, s.fabric, rfl⟩

theorem pairs_queueTwin (m : ControlMsg) (s : State) : Pairs s (queueTwin m s) := pairs_flushTwin _ _

theorem pairs_startSync (o : Option (Fin 22)) (s : State) : Pairs s (startSync o s) := by
  unfold startSync
  dsimp only
  refine Pairs.trans ?_ (pairs_queueTwin _ _)
  refine Pairs.trans ?_ (pairs_foldl (fun t l => ?_) _ _)
  · refine Pairs.trans ?_ (pairs_foldl (fun t e => pairs_queueTwin _ t) _ _)
    refine Pairs.trans ?_ (pairs_foldl (fun t e => pairs_queueTwin _ t) _ _)
    refine Pairs.trans ?_ (pairs_queueTwin _ _)
    obtain ⟨x, n, a, k, h⟩ := setTwinState_pair .syncing 0xFFFF (modTwin (fun t => { t with syncRing := o, own := [], peerRecs := [], outbox := [] })
      s)
    exact ⟨x, _, s.fabric, h⟩
  · split
    · exact pairs_queueTwin _ _
    · exact (pairs_queueTwin _ _).trans (pairs_queueTwin _ _)

/-- A synchronization begun: the pair is syncing, for the ring that asked. -/
theorem startSync_begins (o : Option (Fin 22)) (s : State) : (startSync o s).twin.state = .syncing ∧ (startSync o s).twin.syncRing = o := by
  obtain ⟨x, n, a, k, h⟩ := setTwinState_pair .syncing 0xFFFF (modTwin (fun t => { t with syncRing := o, own := [], peerRecs := [], outbox := [] }) s)
  have pair := pairing_startSync o s
  rw [h] at pair
  generalize startSync o s = t at pair ⊢
  have state := congrArg Twin.state pair
  have ring := congrArg Twin.syncRing pair
  exact ⟨state, ring⟩

theorem starts_twinSync (h : s.twin.state ≠ .lockstep) : Starts 0x0C11 checkTwinSync (.twinSync d) d s .hardware (fun t =>
    t.twin.state = .syncing ∧ t.twin.syncRing = some d.ring ∧ t.chans = s.chans) := by
  intro ⟨hb, hc⟩
  obtain ⟨x, hx⟩ := exists_stepping 0x0C11 d s
  rw [hx] at hc
  have effect : opTwinSync (starting 0x0C11 d s) { s with hif := x } = (awaitHardware (starting 0x0C11 d s) 1 [],
      startSync (some d.ring) { s with hif := x }) := by
    refine (if_neg nofun).trans ?_
    rw [hc]
    exact if_neg h
  obtain ⟨state, ring⟩ := startSync_begins (some d.ring) { s with hif := x }
  obtain ⟨y, w, f, pair⟩ := pairs_startSync (some d.ring) { s with hif := x }
  generalize startSync (some d.ring) { s with hif := x } = m at effect state ring pair
  have ticks : m.slowTicks = s.slowTicks := by rw [pair]
  have now : m.now = s.now := by rw [pair]
  have chans : m.chans = s.chans := by rw [pair]
  obtain ⟨t, ht, ha, he⟩ := exec_stays (i := .twinSync d) (op := opTwinSync) rfl hb hx effect rfl nofun rfl rfl ticks now
  refine ⟨t, ht, ha, ?_⟩
  rw [he]
  exact ⟨state, ring, chans⟩

/-- The hand-over offered at a count. -/
def handOffered (o : Option (Fin 22)) (s : State) : TwinHand :=
  { x := BitVec.ofNat 32 (ceilDiv (basisNow s + 64) 256 * 256), cause := 0, ring := o, acked := false }

theorem beginHandover_offers (h : s.twin.hand = none) (o : Option (Fin 22)) :
    ∃ f, beginHandover 0 o s = { s with twin := { s.twin with hand := some (handOffered o s) }, fabric := f } := by
  obtain ⟨f, hf⟩ := sendTwin_fabric (.handover (handOffered o s).x 0) (modTwin (fun t => { t with hand := some (handOffered o s) }) s)
  exact ⟨f, (if_neg (by rw [h]; decide)).trans hf⟩

theorem starts_twinHandover (h : s.twin.hand = none) : Starts 0x0C12 checkTwinHandover (.twinHandover d) d s .hardware (fun t =>
    ∃ h, t.twin.hand = some h ∧ h.ring = some d.ring ∧ h.acked = false ∧ h.x = BitVec.ofNat 32 (ceilDiv (basisNow s + 64) 256 * 256) ∧
      t.chans = s.chans) := by
  intro ⟨hb, hc⟩
  obtain ⟨x, hx⟩ := exists_stepping 0x0C12 d s
  rw [hx] at hc
  obtain ⟨f, offered⟩ := beginHandover_offers (s := { s with hif := x }) h none
  have effect : opTwinHandover (starting 0x0C12 d s) { s with hif := x } = (awaitHardware (starting 0x0C12 d s) 1 [],
      { s with hif := x, twin := { s.twin with hand := some (handOffered (some d.ring) s) }, fabric := f }) := by
    refine (if_neg nofun).trans ?_
    rw [hc]
    dsimp only
    rw [offered]
    rfl
  obtain ⟨t, ht, ha, he⟩ := exec_stays (i := .twinHandover d) (op := opTwinHandover) rfl hb hx effect rfl nofun rfl rfl rfl rfl
  refine ⟨t, ht, ha, ?_⟩
  rw [he]
  exact ⟨handOffered (some d.ring) s, rfl, rfl, rfl, rfl, rfl⟩

end

/-- Settles O35: each command takes its route, totals or parameters, or begins what it waits for. -/
theorem fabricTwinCommands : Obligations.FabricTwinCommands := by
  unfold Obligations.FabricTwinCommands
  exact fun _ _ => ⟨starts_fabricDiscover, sets_route, starts_billetSet, starts_linkReclaim, does_twinConfigure, does_twinSync, starts_twinSync,
    starts_twinHandover⟩

end Sys2Proof.Proofs
end

/-! # The Guestbook's commands -/
section
namespace Sys2Proof.Proofs
open Sys2Proof Sys2Proof.Machine Sys2Proof.Safety Sys2Proof.Laws

section
variable {d : Desc} {s : State}

/-! ## GB_CLEAR_CHALLENGE (R551) -/

theorem answers_gbClearChallenge (hp : Passes 0x0A02 checkClearChallenge d s) : ∃ t v, exec (.gbClearChallenge d) s = .next t ∧
    Answered 0x0A02 d .done 0 v t ∧ t.gb = { s.gb with nonce := some (v, s.slowTicks) } ∧ t = { Kept s t with gb := t.gb } := by
  obtain ⟨t, run, done, gb, kept⟩ := answers_of_effect (i := .gbClearChallenge d) (op := opGbClearChallenge) effectClearChallenge rfl (fun _ => rfl)
    (st := .done) (detail := 0) (res := Config.freeValue s.freeCtr)
    (p := fun t => t.gb = { s.gb with nonce := some (Config.freeValue s.freeCtr, s.slowTicks) } ∧ t = { Kept s t with gb := t.gb })
    (fun _ _ => ⟨⟨_, rfl, rfl, rfl, rfl, read_of_detail_zero rfl⟩, rfl, rfl, fun _ => ⟨rfl, rfl⟩⟩) hp
  exact ⟨t, _, run, done, gb, kept⟩

/-! ## GB_CLEAR (R552) -/

/-- What opens a clear: the checks before those of its authorization. -/
def checkClearFirst (r : Running) (s : State) : Option Reject :=
  firstOf [common false [] .own r.desc, hostRead r.desc, refuseIf (!s.gb.ready) (badState 0x0A0A)]

/-- The nonce spent. -/
def nonceUsed (s : State) : State := modGb (fun g => { g with nonce := none }) s

theorem opGbClear_accepted {x : HostIf} (hc : checkClearFirst (starting 0x0A03 d s) { s with hif := x } = none)
    (hv : clearChecks (coded 0x0A03 d) { s with hif := x } = (none, true)) :
    opGbClear (starting 0x0A03 d s) { s with hif := x } = if clearRoom (nonceUsed { s with hif := x })
      then beginClear (starting 0x0A03 d s) (nonceUsed { s with hif := x })
      else (awaitState (starting 0x0A03 d s) 2 [], nonceUsed { s with hif := x }) := by
  unfold checkClearFirst at hc
  have checked : clearChecks (starting 0x0A03 d s).desc { s with hif := x } = (none, true) := hv
  unfold opGbClear
  rw [if_neg (show ¬ (starting 0x0A03 d s).phase = 2 from nofun), if_neg (show ¬ (starting 0x0A03 d s).phase ≠ 0 from fun h => h rfl), hc]
  dsimp only
  rw [checked]
  rfl

theorem opGbClear_refused {x : HostIf} {e : Reject} {b : Bool} (hc : checkClearFirst (starting 0x0A03 d s) { s with hif := x } = none)
    (hv : clearChecks (coded 0x0A03 d) { s with hif := x } = (some e, b)) : opGbClear (starting 0x0A03 d s) { s with hif := x } =
      (refuse e, refuseClear (starting 0x0A03 d s) e (if b then nonceUsed { s with hif := x } else { s with hif := x })) := by
  unfold checkClearFirst at hc
  have checked : clearChecks (starting 0x0A03 d s).desc { s with hif := x } = (some e, b) := hv
  unfold opGbClear
  rw [if_neg (show ¬ (starting 0x0A03 d s).phase = 2 from nofun), if_neg (show ¬ (starting 0x0A03 d s).phase ≠ 0 from fun h => h rfl), hc]
  dsimp only
  rw [checked]
  rfl

theorem waits_gbClear (hp : Passes 0x0A03 checkClearFirst d s) (hv : clearChecks (coded 0x0A03 d) (stepping 0x0A03 d s) = (none, true))
    (hr : clearRoom s = false) : ∃ t, exec (.gbClear d) s = .next t ∧ Awaits 0x0A03 d .state t ∧
      t = { s with hif := t.hif, gb := { s.gb with nonce := none } } := by
  obtain ⟨hb, hc⟩ := hp
  obtain ⟨x, hx⟩ := exists_stepping 0x0A03 d s
  rw [hx] at hc hv
  have room : clearRoom (nonceUsed { s with hif := x }) = false := hr
  have effect := (opGbClear_accepted hc hv).trans (if_neg (by rw [room]; decide))
  obtain ⟨t, ht, ha, he⟩ := exec_stays (i := .gbClear d) (op := opGbClear) rfl hb hx effect rfl nofun rfl rfl rfl rfl
  exact ⟨t, ht, ha, he⟩

/-- What closing the tail leaves of the Guestbook's records to come. -/
def ledger (s : State) : Option (BitVec 128 × Nat) × Word × List Filed := (s.gb.nonce, s.gb.seqNext, s.gb.flash)

theorem ledger_closeTail (s : State) : ledger (closeTail s) = ledger s := by
  unfold closeTail
  split
  · split <;> rfl
  · rfl

/-- A record with no events opened: the next sequence is its own, and it is staged. -/
theorem newRecord_opens (cls severity : Nat) (source code : Half) (flags : Nat) (body : List Byte) (timeUs : Nat) (s : State) :
    ledger (newRecord cls severity source code flags body timeUs [] s) = (s.gb.nonce, s.gb.seqNext + 1, s.gb.flash) ∧
    ∃ c ∈ (newRecord cls severity source code flags body timeUs [] s).gb.staged, c.entry.cls = cls ∧ c.entry.sequence = s.gb.seqNext := by
  have latched (x : Record) (t : State) : (latchSequence x t).gb = t.gb := by
    unfold latchSequence
    split <;> rfl
  have closed := ledger_closeTail s
  have seq : (closeTail s).gb.seqNext = s.gb.seqNext := congrArg (fun v => v.2.1) closed
  unfold newRecord
  dsimp only [List.foldl_nil]
  generalize closeTail s = c at closed seq ⊢
  constructor
  · unfold ledger
    rw [latched]
    exact congrArg (fun v => (v.1, v.2.1 + 1, v.2.2)) closed
  · rw [latched]
    refine ⟨_, List.mem_append_right _ (List.mem_singleton_self _), ?_⟩
    dsimp only
    split
    · exact ⟨rfl, seq⟩
    · exact ⟨rfl, seq⟩

theorem beginClear_opens (r : Running) (s : State) : ∃ l m, beginClear r s = (awaitState r 1 l, m) ∧ m.slowTicks = s.slowTicks ∧ m.now = s.now ∧
    ledger m = (s.gb.nonce, s.gb.seqNext + 1, s.gb.flash) ∧ ∃ c ∈ m.gb.staged, c.entry.cls = 5 ∧ c.entry.sequence = s.gb.seqNext := by
  have closed := ledger_closeTail s
  have line := outline_closeTail s
  unfold beginClear
  dsimp only
  generalize closeTail s = c at closed line ⊢
  have seq : c.gb.seqNext = s.gb.seqNext := congrArg (fun v => v.2.1) closed
  have after : (c.gb.nonce, c.gb.seqNext + 1, c.gb.flash) = (s.gb.nonce, s.gb.seqNext + 1, s.gb.flash) :=
    congrArg (fun v => (v.1, v.2.1 + 1, v.2.2)) closed
  refine ⟨_, _, rfl, ?_, ?_, ?_, ?_⟩
  · exact (slowTicks_of_outline (outline_newRecord _ _ _ _ _ _ _ _ _)).trans (slowTicks_of_outline line)
  · exact (now_of_outline (outline_newRecord _ _ _ _ _ _ _ _ _)).trans (now_of_outline line)
  · exact (newRecord_opens _ _ _ _ _ _ _ c).1.trans after
  · rw [← seq]
    exact (newRecord_opens _ _ _ _ _ _ _ c).2

theorem clears (hp : Passes 0x0A03 checkClearFirst d s) (hv : clearChecks (coded 0x0A03 d) (stepping 0x0A03 d s) = (none, true))
    (hr : clearRoom s = true) : ∃ t, exec (.gbClear d) s = .next t ∧ Awaits 0x0A03 d .state t ∧ t.gb.nonce = none ∧
      t.gb.seqNext = s.gb.seqNext + 1 ∧ t.gb.flash = s.gb.flash ∧ (∃ c ∈ t.gb.staged, c.entry.cls = 5 ∧ c.entry.sequence = s.gb.seqNext) := by
  obtain ⟨hb, hc⟩ := hp
  obtain ⟨x, hx⟩ := exists_stepping 0x0A03 d s
  rw [hx] at hc hv
  have room : clearRoom (nonceUsed { s with hif := x }) = true := hr
  obtain ⟨l, m, begun, ticks, now, kept, staged⟩ := beginClear_opens (starting 0x0A03 d s) (nonceUsed { s with hif := x })
  have effect := ((opGbClear_accepted hc hv).trans (if_pos room)).trans begun
  obtain ⟨t, ht, ha, he⟩ := exec_stays (i := .gbClear d) (op := opGbClear) rfl hb hx effect rfl nofun rfl rfl ticks now
  have nonce := congrArg (fun v => v.1) kept
  have seq := congrArg (fun v => v.2.1) kept
  have flash := congrArg (fun v => v.2.2) kept
  refine ⟨t, ht, ha, ?_⟩
  rw [he]
  exact ⟨nonce, seq, flash, staged⟩

/-- What a refused clear leaves of the failures counted and of the flash. -/
theorem refuseClear_counts (r : Running) (e : Nat) (s : State) : ∃ x y, refuseClear r (.authFailed, e) s = { s with hif := x, gb := y } ∧
    y.authFailures = satAdd 16 s.gb.authFailures 1 ∧ y.lastAuthFailTick = some s.slowTicks ∧ y.flash = s.gb.flash := by
  unfold refuseClear
  simp only [if_true, logRecord, gbIntake]
  split
  · exact ⟨_, _, rfl, rfl, rfl, rfl⟩
  · exact ⟨_, _, rfl, rfl, rfl, rfl⟩

theorem refuses_gbClear (e : Nat) (b : Bool) (hp : Passes 0x0A03 checkClearFirst d s)
    (hv : clearChecks (coded 0x0A03 d) (stepping 0x0A03 d s) = (some (.authFailed, e), b)) : ∃ t, exec (.gbClear d) s = .next t ∧
      Answered 0x0A03 d .authFailed e 0 t ∧ t.gb.authFailures = satAdd 16 s.gb.authFailures 1 ∧ t.gb.lastAuthFailTick = some s.slowTicks ∧
      t.gb.flash = s.gb.flash := by
  obtain ⟨hb, hc⟩ := hp
  obtain ⟨x, hx⟩ := exists_stepping 0x0A03 d s
  rw [hx] at hc hv
  have effect := opGbClear_refused hc hv
  have spent (b : Bool) : ∃ g, (if b then nonceUsed { s with hif := x } else { s with hif := x }) = { s with hif := x, gb := g } ∧
      g.authFailures = s.gb.authFailures ∧ g.flash = s.gb.flash := by
    cases b
    · exact ⟨_, rfl, rfl, rfl⟩
    · exact ⟨_, rfl, rfl, rfl⟩
  obtain ⟨g, hg, fails, flash⟩ := spent b
  rw [hg] at effect
  obtain ⟨y, k, refused, fails', tick, flash'⟩ := refuseClear_counts (starting 0x0A03 d s) e { s with hif := x, gb := g }
  rw [refused] at effect
  refine exec_of_ends_stepping (op := opGbClear) rfl hb ?_
  rw [hx, effect]
  have counted : k.authFailures = satAdd 16 s.gb.authFailures 1 := fails'.trans (congrArg (satAdd 16 · 1) fails)
  exact ⟨⟨_, rfl, rfl, rfl, rfl, fun hu => hu.elim (fun h => nomatch h.2) (fun h => nomatch h.2)⟩, rfl, rfl,
    fun _ => ⟨counted, tick, flash'.trans flash⟩⟩

/-! ## GB_APPEND, WALL_CLOCK_SET and CONFIG_SAVE -/

/-- An entry offered now, with no events. -/
def entryOffered (cls : Fin 9) (severity source code : Nat) (bytes : List Byte) (s : State) : GbEntry :=
  { cls := cls, severity := severity, source := BitVec.ofNat 16 source, code := BitVec.ofNat 16 code, simul := false, late := false,
    payload := bytes, timeUs := opTime s, events := [] }

/-- An entry offered where there is room joins the queue, and nothing else changes. -/
theorem logRecord_queued {cls : Fin 9} {severity source code : Nat} {bytes : List Byte} (h : gbRoom cls s = true) :
    logRecord cls.val severity source code bytes [] s =
      { s with gb := { s.gb with queue := s.gb.queue ++ [entryOffered cls severity source code bytes s] } } := by
  have named : Fin.ofNat 9 cls.val = cls := Fin.ofNat_val_eq_self cls
  simp only [logRecord, gbIntake, named, h, if_true]
  rfl

theorem room_of_checkGbAppend {r : Running} (h : checkGbAppend r s = none) : ∃ cls : Fin 9, cls.val = par r.desc 0 1 ∧ gbRoom cls s = true := by
  have named := refuseIf_eq_none.mp (firstOf_eq_none.mp h (refuseIf ((par r.desc 0 1 != 1 && par r.desc 0 1 != 8) || decide (2 < par r.desc 1 1) ||
    decide (par r.desc 2 2 < 0x8000)) (badParam 0x0A01)) (by simp))
  have full := refuseIf_eq_none.mp (firstOf_eq_none.mp h (refuseIf (!gbRoom (Fin.ofNat 9 (par r.desc 0 1)) s) (some (.noResource, 0x0A08))) (by simp))
  simp only [Bool.or_eq_false_iff, Bool.and_eq_false_iff, bne_eq_false_iff_eq] at named
  have low : par r.desc 0 1 < 9 := by omega
  exact ⟨Fin.ofNat 9 (par r.desc 0 1), Nat.mod_eq_of_lt low, by simpa using full⟩

theorem starts_gbAppend : Starts 0x0A04 checkGbAppend (.gbAppend d) d s .state (fun t => ∃ e, t.gb.queue = s.gb.queue ++ [e] ∧
    e.cls.val = par d 0 1 ∧ e.severity = par d 1 1 ∧ e.code = BitVec.ofNat 16 (par d 2 2) ∧ t.gb.seqNext = s.gb.seqNext) := by
  refine starts_of_effect beginGbAppend rfl (fun _ => if_pos rfl) (fun x hc => ?_)
  obtain ⟨cls, named, room⟩ := room_of_checkGbAppend hc
  unfold beginGbAppend
  dsimp only
  rw [← named, logRecord_queued room]
  exact ⟨⟨_, rfl, rfl, rfl, rfl⟩, rfl, rfl, fun _ => ⟨_, rfl, named, rfl, rfl, rfl⟩⟩

theorem room_of_checkWallClockSet {r : Running} (h : checkWallClockSet r s = none) : gbRoom 6 s = true := by
  have full := refuseIf_eq_none.mp (firstOf_eq_none.mp h (refuseIf (!gbRoom 6 s) (some (.noResource, 0x0A08))) (by simp))
  simpa using full

theorem answers_wallClockSet (hp : Passes 0x0A05 checkWallClockSet d s) : ∃ t res, exec (.wallClockSet d) s = .next t ∧
    Answered 0x0A05 d .done 0 res t ∧ t.gb.wallSeconds = BitVec.ofNat 32 (par d 0 4) ∧ t.gb.wallValid = true ∧
    (∃ e, t.gb.queue = s.gb.queue ++ [e] ∧ e.cls = 6 ∧ e.code = 1) ∧ t.gb.seqNext = s.gb.seqNext ∧ t = { Kept s t with gb := t.gb } := by
  refine exec_of_effect (op := opWallClockSet) effectWallClockSet rfl (fun _ => rfl) (fun x hc => ?_) hp
  have room := room_of_checkWallClockSet hc
  unfold effectWallClockSet
  dsimp only
  rw [show (6 : Nat) = (6 : Fin 9).val from rfl, logRecord_queued room]
  exact ⟨_, ⟨_, rfl, rfl, rfl, rfl, read_of_detail_zero rfl⟩, rfl, rfl, fun _ => ⟨rfl, rfl, ⟨_, rfl, rfl, rfl⟩, rfl, rfl⟩⟩

theorem starts_configSave : Starts 0x0015 checkConfigSave (.configSave d) d s .hardware (fun t => t = { s with hif := t.hif }) := by
  intro ⟨hb, hc⟩
  obtain ⟨x, hx⟩ := exists_stepping 0x0015 d s
  rw [hx] at hc
  have effect : opConfigSave (starting 0x0015 d s) { s with hif := x } = (awaitHardware (starting 0x0015 d s) 1 [], { s with hif := x }) := by
    unfold opConfigSave
    rw [if_neg (show ¬ (starting 0x0015 d s).phase = 1 from nofun), hc]
  exact exec_stays (i := .configSave d) (op := opConfigSave) rfl hb hx effect rfl nofun rfl rfl rfl rfl

/-! ## GB_READ -/

theorem starts_gbRead : Starts 0x0A00 checkGbRead (.gbRead d) d s .none (fun t => OnlyHost s t) := by
  intro ⟨hb, hc⟩
  obtain ⟨x, hx⟩ := exists_stepping 0x0A00 d s
  rw [hx] at hc
  have effect : opGbRead (starting 0x0A00 d s) { s with hif := x } = beginGbRead (starting 0x0A00 d s) { s with hif := x } :=
    (if_pos rfl).trans (guarded_pass beginGbRead hc)
  obtain ⟨t, ht, ha, he⟩ := exec_stays (i := .gbRead d) (op := opGbRead) rfl hb hx effect rfl nofun rfl rfl rfl rfl
  exact ⟨t, ht, ha, onlyHost_of_hif he⟩

/-- A progress record changes the instant of the command's last record, the host interface and the free values taken. -/
theorem postProgress_host (q : Nat) (r : Running) (s : State) : ∃ n x k,
    postProgress q r s = ({ r with lastRecord := n }, { s with hif := x, freeCtr := k }) := by
  have taken (t : State) : ∃ k, (if (progressOf r t).isNone then (takeFree t).2 else t) = { t with freeCtr := k } := by
    split
    · exact ⟨_, rfl⟩
    · exact ⟨t.freeCtr, rfl⟩
  unfold postProgress
  dsimp only
  split
  · obtain ⟨k, hk⟩ := taken s
    rw [hk]
    split
    · exact ⟨_, _, k, rfl⟩
    · exact ⟨_, _, k, congrArg (Prod.mk _) (postCompletion_hif _ _ _)⟩
  · exact ⟨r.lastRecord, s.hif, s.freeCtr, rfl⟩

/-- A command that stays in time, with what it has committed to as before, changes the host interface and the free values taken. -/
theorem keepRunning_goesOn {q : Nat} {old v : Running} (hq : q < 22) (hc : v.committed = old.committed) (he : expired v s = false) :
    OnlyHost s (keepRunning q old v s) ∧ ∃ n, (source q (keepRunning q old v s)).running = some { v with lastRecord := n } := by
  obtain ⟨n, x, k, posted⟩ := postProgress_host q v s
  have quiet : (v.committed && !old.committed) = false := by rw [hc, Bool.and_not_self]
  unfold keepRunning
  rw [quiet, if_neg Bool.false_ne_true]
  dsimp only
  rw [he, if_neg Bool.false_ne_true, posted]
  refine ⟨rfl, n, ?_⟩
  rw [source_modSource_same _ _ _ hq]

section
variable {r : Running} {x : HostIf} {n : Nat}

theorem wantedRecords_hif (y : Desc) (o : Option Word) : wantedRecords y o { s with hif := x } = wantedRecords y o s := rfl

/-- A step of GB_READ that finds no more to read ends it. -/
theorem readStep_ends {f : Finish} (h : (readStep r s).1 = .final f) :
    readStep { r with steps := n } { s with hif := x } = (.final f, { s with hif := x }) ∧ f.status = .done ∧ f.detail = 0 := by
  unfold readStep at h ⊢
  dsimp only at h ⊢
  rw [wantedRecords_hif]
  generalize fitting _ _ _ = l at h ⊢
  cases l with
  | nil =>
    have ended : readEnd (ReadState.ofAux r.aux) s = .final f := h
    have ended' : readEnd (ReadState.ofAux r.aux) { s with hif := x } = .final f := ended
    refine ⟨congrArg (fun a => (a, ({ s with hif := x } : State))) ended', ?_⟩
    cases ended
    exact ⟨rfl, rfl⟩
  | cons e rest => exact nomatch h

/-- A step of GB_READ that reads a record leaves it to its next. -/
theorem readStep_goesOn {v : Running} (h : (readStep r s).1 = .stay v) :
    readStep { r with steps := n } { s with hif := x } = (.stay { v with steps := n }, { s with hif := x }) ∧
    v = { r with wait := .none, phase := 1, aux := v.aux } := by
  unfold readStep at h ⊢
  dsimp only at h ⊢
  rw [wantedRecords_hif]
  generalize fitting _ _ _ = l at h ⊢
  cases l with
  | nil => exact nomatch h
  | cons e rest =>
    cases h
    exact ⟨rfl, rfl⟩

/-- A step of GB_READ, as the source chosen takes it. -/
theorem opRun_gbRead (ho : r.desc.opcode = 0x0A00) (hp : r.phase = 1) (t : State) :
    opRun r.desc.opcode.toNat { r with steps := n } t = readStep { r with steps := n } t := by
  have hcode : r.desc.opcode.toNat = 0x0A00 := by rw [ho]; rfl
  rw [hcode]
  show (if r.phase = 0 then guarded checkGbRead beginGbRead { r with steps := n } t else readStep { r with steps := n } t) = _
  exact if_neg (by omega)

end

theorem steps_gbRead {q : Fin 20} {r : Running} (hu : s.sys.coreUp = true) (hc : chosen s = some q.val) (hr : (source q.val s).running = some r)
    (ho : r.desc.opcode = 0x0A00) (hp : r.phase = 1) (hw : r.wait = .none) (hn : r.steps ≠ 0) (he : expired r s = false) :
    ∃ t, exec .stepGrant s = .next t ∧ OnlyHost s t ∧
      match (readStep r s).1 with
      | .final f => (source q.val t).running = none ∧ Delivered r.desc f.data t ∧
          ∃ c, lastRecord q.val t = some c ∧ c.tag = r.desc.tag ∧ c.status = .done ∧ c.final = true ∧ c.result = f.result
      | .stay v => ∃ w, (source q.val t).running = some w ∧ w.desc = r.desc ∧ w.phase = 1 ∧ w.wait = .none ∧ w.aux = v.aux := by
  obtain ⟨x, hx, ht⟩ : ∃ x : HostIf, modSource q.val (fun v => { v with running := some r }) (granted q.val s) = { s with hif := x } ∧
      x.timeoutDefault = s.hif.timeoutDefault := ⟨_, rfl, rfl⟩
  have intime : expired r { s with hif := x } = false := (expired_congr (s := s) (t := { s with hif := x }) r rfl ht).trans he
  cases step : (readStep r s).1 with
  | final f =>
    obtain ⟨ends, status, detail⟩ := readStep_ends (n := stepsAfter r) (x := x) step
    obtain ⟨t, run, free, given, ⟨c, last, tag, hs, final, res⟩, kept⟩ := exec_stepGrant_ends hu hc q.isLt hr hw hn (by rw [ho]; rfl)
      (read_of_detail_zero detail) ((congrArg _ hx).trans ((opRun_gbRead ho hp _).trans ends)) intime
    exact ⟨t, run, onlyHost_of_hif kept, free, given, c, last, tag, hs.trans status, final, res⟩
  | stay v =>
    obtain ⟨goesOn, hv⟩ := readStep_goesOn (n := stepsAfter r) (x := x) step
    have stepped := stepRunning_stay hw hn ((congrArg _ hx).trans ((opRun_gbRead ho hp _).trans goesOn))
    have run := exec_stepGrant_running hu hc (by omega) hr hw
    rw [stepped] at run
    obtain ⟨l, rfl⟩ : ∃ l, v = { r with wait := .none, phase := 1, aux := l } := ⟨v.aux, hv⟩
    obtain ⟨host, m, runs⟩ := keepRunning_goesOn (q := q.val) (old := r) (v := { r with wait := .none, phase := 1, aux := l, steps := stepsAfter r })
      (s := { s with hif := x }) (by omega) rfl intime
    generalize keepRunning q.val r { r with wait := .none, phase := 1, aux := l, steps := stepsAfter r } { s with hif := x } = u at run host runs
    have hrun := keepsRunning_refreshReady u
    refine ⟨_, run, ?_, _, (hrun.2 _).trans runs, rfl, rfl, rfl, rfl⟩
    unfold OnlyHost at host ⊢
    rw [hrun.hif, host]

end

/-- Settles O24: the nonce, the clear, the records handed over, and the steps of a read. -/
theorem guestbookCommands : Obligations.GuestbookCommands := by
  unfold Obligations.GuestbookCommands
  exact fun _ _ _ _ => ⟨answers_gbClearChallenge, clears, waits_gbClear, refuses_gbClear, starts_gbAppend, answers_wallClockSet, starts_configSave,
    starts_gbRead, steps_gbRead⟩

end Sys2Proof.Proofs
end
